-- ==== Sys2Proof/Word.lean ====
section
/-! DEFINITION. The word types of the module: 32-bit register words (R4), 64-bit data words (Table 5.1, R87) and
bytes; and the sparse maps that hold register words, signal records and memories as plain data. -/

namespace Sys2Proof

abbrev Byte := BitVec 8
abbrev W32 := BitVec 32
abbrev W64 := BitVec 64

/-- A sparse map from Nat keys: a list of pairs, keys strictly rising, listing no pair whose value is the default. -/
abbrev NMap (V : Type) := List (Nat × V)

end Sys2Proof
end

