-- ==== Sys2Proof/Syntax.lean ====
section
/-! DEFINITION. The commands of the block: the operand records that frames and measurements arrive in, and Instr, one
constructor per row of spec/opcode_table.json. Operands are bounded by their types where the spec bounds them by a
range; relations between operands are checked by WellFormed. -/

namespace Sys2Proof

/-- What an ECC-checked read found (R91, R111): a clean word, a corrected single-bit error, a double-bit error. -/
inductive Ecc where
  | clean
  | corrected
  | double
  deriving DecidableEq, Repr

/-- The base-plate fields sampled when the mate filter passes (R26). -/
structure Straps where
  bpType : Fin 8
  pairPos : Bool
  cfgA : Bool
  cfgB : Bool
  deriving DecidableEq, Repr

/-- An error the till scrubber finds: account, till, word position, double-bit or not (R91). -/
structure TillError where
  account : Fin 8
  till : Fin 16
  pos : Nat
  double : Bool
  deriving DecidableEq, Repr

/-- An error the image scrubber finds: signal, word of its record, double-bit or not (R174). -/
structure ImageError where
  sig : Fin 131072
  word : Fin 8
  double : Bool
  deriving DecidableEq, Repr

/-- A Sync as a plane port receives it (R286 to R289): times in ns, the ingress time in TL. -/
structure SyncMsg where
  port : Fin 4
  version : Nat
  minor : Nat
  domain : Nat
  source : Nat
  seq : Nat
  twoStep : Bool
  origin : Nat
  correction : Int
  ingress : Int
  /-- the module that the frame's source MAC names (R310); 0 for any other clock -/
  from_ : Nat
  /-- how long a copy forwarded out of the other port stays in the module, in ns -/
  residence : Nat
  deriving DecidableEq, Repr

/-- A Follow_Up (R289). -/
structure FollowUpMsg where
  port : Fin 4
  version : Nat
  minor : Nat
  domain : Nat
  source : Nat
  seq : Nat
  origin : Nat
  correction : Int
  deriving DecidableEq, Repr

/-- A PTP Announce (R290), with the fields the best master clock algorithm compares. -/
structure AnnounceMsg where
  port : Fin 4
  version : Nat
  minor : Nat
  domain : Nat
  gm : Nat
  priority1 : Nat
  clockClass : Nat
  accuracy : Nat
  variance : Nat
  priority2 : Nat
  steps : Nat
  deriving DecidableEq, Repr

/-- A Pdelay_Req (R286). -/
structure PdelayReqMsg where
  port : Fin 4
  version : Nat
  minor : Nat
  domain : Nat
  source : Nat
  seq : Nat
  ingress : Int
  deriving DecidableEq, Repr

/-- A Pdelay_Resp that completes a measurement (R289): when the request left and the response arrived, in ns as stamped by the
port, and the time that the peer took between them. -/
structure PdelayRespMsg where
  port : Fin 4
  version : Nat
  minor : Nat
  domain : Nat
  seq : Nat
  sent : Int
  ingress : Int
  turn : Int
  deriving DecidableEq, Repr

/-- How the programming of one vault page ends (R413, R419). -/
inductive PageOutcome where
  | verified
  /-- the blank read found a byte other than 0xFF: nothing was programmed -/
  | notBlank
  /-- the verify after programming failed -/
  | verifyFailed
  /-- the place of a device's next state-log entry was not blank: it is skipped -/
  | logNotBlank (d : Fin 2)
  deriving DecidableEq, Repr

/-- How a COMMIT ends (R72): the checks take longer than 0.70 s; or, where they pass, block 0 reads back as programmed, or does
not. -/
inductive CommitOutcome where
  | timedOut
  | verified
  | notVerified
  deriving DecidableEq, Repr

/-- What vault recovery finds (Table 17.8): which devices answered, and how long it took in ms. -/
structure VaultRecovery where
  usableA : Bool
  usableB : Bool
  /-- neither log sector of the device holds a COMPLETE entry (R472) -/
  lostA : Bool
  lostB : Bool
  ms : Nat
  deriving DecidableEq, Repr

/-- What the front end of an analogue channel measures in one conversion period (R197 to R211). Every W64 is a binary64 in the
unit named. -/
structure ASample where
  /-- CUR_IN: mA; VOLT_IN: V; TC: terminal voltage in V; RTD and RES: Ω between the sensed contacts; BRIDGE: signal of the odd
  channel in mV -/
  x : W64
  /-- 3-wire RTD and RES: the lead between CH_P and CH_SP in Ω -/
  lead : W64
  /-- BRIDGE: sensed excitation in V -/
  exc : W64
  /-- RTD: excitation compliance exceeded -/
  compliance : Bool
  /-- VOLT_IN: a terminal is beyond ±12 V of CH_N -/
  common : Bool
  /-- main converter code; BRIDGE: of the even channel, and of the odd one -/
  raw : BitVec 24
  rawOdd : BitVec 24
  /-- the slice's four connector sensors in 1/16 °C, where the sample brings them (AS_CJ_n) -/
  cj : Option (BitVec 16 × BitVec 16 × BitVec 16 × BitVec 16)
  deriving DecidableEq, Repr

/-- What the readback path of an analogue channel measures in one window (R218); binary64. -/
structure ARead where
  /-- current modes: mA; otherwise V -/
  value : W64
  /-- CUR_OUT: terminal voltage in V; VOLT_OUT: load current in mA -/
  aux : W64
  /-- CUR_OUT: the stage is at compliance; VOLT_OUT: its limit acts -/
  limit : Bool
  /-- VOLT_OUT: a sense contact differs from its output contact by more than 0.5 V -/
  senseOpen : Bool
  deriving DecidableEq, Repr

/-- A frame on a HART line as the modem meets it (R229): the carrier, and the cells of its characters. -/
structure HartRx where
  /-- amplitude of the carrier in mV peak-to-peak -/
  mv : Nat
  /-- the bit cells, mark true, eleven to a character, the preamble first -/
  line : List Bool
  /-- ticks since its start delimiter -/
  age : Nat
  deriving DecidableEq, Repr

/-- The output conditions of Table 10.6 that a filter time governs, other than EXTDRV. -/
inductive DCond where
  | short
  | openLoad
  | rbDiff
  deriving DecidableEq, Repr

/-- A Vrelrun frame as a port receives it (Tables 13.2 and 13.3): ports 0 PA0, 1 PA1, 2 PB0, 3 PB1, 4 M; seqNr is that of the
redundancy control trailer. -/
structure Frame where
  port : Fin 5
  fcs : Bool
  etherType : BitVec 16
  version : BitVec 8
  kind : BitVec 8
  flags : BitVec 8
  hops : BitVec 8
  source : BitVec 16
  dest : BitVec 16
  inst : BitVec 32
  bodyLen : BitVec 16
  zero : BitVec 16
  body : List (BitVec 8)
  seqNr : BitVec 16
  deriving DecidableEq, Repr

/-- A transceiver's identification data (Table 13.1). -/
structure XcvrId where
  readable : Bool
  sr : Bool
  lr : Bool
  powerMw : Nat
  deriving DecidableEq, Repr

/-- A ledger-link frame (Tables 15.3 and 15.4): HEADER, the 72 words of BODY, CRC. -/
structure LedgerFrame where
  header : BitVec 64
  body : List (BitVec 64)
  crc : BitVec 32
  deriving DecidableEq, Repr

/-- A frame as a CAN channel receives it (Table 16.1), with its start-of-frame time in ns of TL. -/
structure CanRx where
  ide : Bool
  fdf : Bool
  brs : Bool
  esi : Bool
  remote : Bool
  dlc : Fin 16
  id : BitVec 29
  data : List Byte
  sof : Nat
  /-- the res bit after a recessive FDF bit was recessive (Table 16.1) -/
  res : Bool
  deriving DecidableEq, Repr

/-- Errors of CAN_LAST_ERR.CODE (Table 16.8). -/
inductive CanErr where
  | stuff
  | form
  | ack
  | bit1
  | bit0
  | crc
  deriving DecidableEq, Repr

/-- Why a wheel leaves service (R434): its domain trips, or an instruction or data word that it fetches or loads is uncorrectable
(R437), at an address of the memory. -/
inductive WheelLoss where
  | trip
  | fetch (addr : Nat)
  | load (addr : Nat)
  deriving DecidableEq, Repr

/-- An error the wheel scrubber finds (R437): wheel, data or code memory, address, uncorrectable or not. -/
structure WheelError where
  wheel : Fin 18
  data : Bool
  addr : Nat
  double : Bool
  deriving DecidableEq, Repr

/-- An error the ledger scrubber finds (R438): corrected, uncorrectable and restored from the other copy or outside the program
store, or uncorrectable in both copies of an instruction of a task. -/
inductive LedgerError where
  | corrected
  | uncorrectable
  | bothCopies (k : Fin 64) (addr : Fin 65536)
  deriving DecidableEq, Repr

/-- The commands of the block: one constructor per row of the opcode table, in the table's order. Every row of the wheel
instruction set carries the logical wheel on which the instruction executes; the word itself is fetched from code memory. -/
inductive Instr where
  /-- MATE_CONTACT_CHANGE (R21): A guide-pin mate contact MATE1_N or MATE2_N opens or closes; short openings after the filter has
  passed are counted in MATE_GLITCH, and before it they restart the mate filter. -/
  | mateContactChange (contact : Fin 2) (closed : Bool)
  /-- MATE_FILTER_PASS (R19): Both mate contacts have read closed continuously for 50 ms, so the module samples the base-plate
  fields and the start sequence may begin. -/
  | mateFilterPass (straps : Straps)
  /-- ONE_MATE_CLOSED_5S (R20): Only one mate contact has read closed for 5 s, so event 0x0121 is recorded and FAULT shows red
  steady. -/
  | oneMateClosed5s
  /-- UNMATED (R21): A mate contact has read open for 100 µs, so the module declares itself unmated, ends all field drive, records
  0x0120 and starts the closing flush. -/
  | unmated
  /-- LAMP_TEST_END (R13): The 0.5 s lamp test ends and the LEDs show their Table 1.2 states. -/
  | lampTestEnd
  /-- SEAL_SCAN (R16): The 1 ms two-phase scan of the seal bank updates the filtered switch states, the contact faults,
  SEAL_CHANGES and the related events. -/
  | sealScan (phase1 phase2 : BitVec 16)
  /-- MAINT_HOLD_END (R337): Every A7 task has reached END without overrun after maintenance ended, so HOLD clears and A7 outputs
  take their records. -/
  | maintHoldEnd
  /-- FEED_MEASURE (R31): A 10 µs measurement of F1 and F2 updates FEED_VOLTAGE and the filter that makes a feed valid. -/
  | feedMeasure (f1 f2 : BitVec 16)
  /-- FEED_VALID (R31): A feed has met the validity window for 10 ms, so its diode is enabled and event 0x0203 is recorded if it
  had been invalid. -/
  | feedValid (f : Fin 2)
  /-- FEED_UNDERVOLTAGE (R32): A feed has been below 8.6 V for 100 µs, so it becomes invalid and event 0x0201 is recorded while
  the other feed carries the load. -/
  | feedUndervoltage (f : Fin 2)
  /-- FEED_OVERVOLTAGE (R31): A feed has been above 61.5 V for 10 µs, so it becomes invalid, its diode opens and event 0x0202 is
  recorded. -/
  | feedOvervoltage (f : Fin 2)
  /-- HOLDUP_DIP (R42): A dip in both feeds ends before the undervoltage filter expires; the store converter carried it and
  DIP_COUNT is incremented. -/
  | holdupDip (store : BitVec 16)
  /-- POWER_FAIL_DECLARED (R43): No feed has been valid for the filter time, so outputs end drive, event 0x020B is recorded, the
  vault flush starts and load is shed. -/
  | powerFailDeclared
  /-- STORE_EXHAUSTED (R473): The hold-up store falls below 16 V, so the supervisor switches everything off and D63 loses its kept
  measurement. -/
  | storeExhausted
  /-- FS_STATE_CHANGE (R34): A slice field supply has met a new state's entry condition for 1 ms, so FS_STATE changes and event
  0x0204 is recorded on moves into or out of NORMAL. -/
  | fsStateChange (sl : Fin 16) (v : BitVec 16)
  /-- DOMAIN_TRIP (R37): A domain exceeds its current limit for 20 µs or misses power-good within 1 ms, so it is switched off,
  DOMAIN_TRIP is set, event 0x020A is recorded and Table 2.3 acts. -/
  | domainTrip (d : Fin 64)
  /-- DOMAIN_RETRY (R37): 100 ms after a first trip the domain is switched on again. -/
  | domainRetry (d : Fin 64)
  /-- HOLDUP_CHARGE_MEASURE (R40): The charging store has risen from 20 V to 40 V, so its capacitance is computed and DEGRADED,
  FAILED and HOLD_MS are updated. -/
  | holdupChargeMeasure (riseUs : Nat)
  /-- HOLDUP_TEST_START (R40): The 24 h interval expires, so the charger stops and the 100 mA test load is applied. -/
  | holdupTestStart
  /-- HOLDUP_TEST_END (R40): The discharge test ends after 10 ms or at 46.5 V; the capacitance is computed and the status bits are
  updated. -/
  | holdupTestEnd (timeUs dropMv : Nat)
  /-- HOLDUP_STORE_CHARGED (R41): The store reaches 46.0 V, so HOLDUP_OK may become 1 and the first task release is no longer
  held. -/
  | holdupStoreCharged
  /-- HOLDUP_CHARGE_TIMEOUT (R41): The store has not reached 46.0 V within 1.5 s of the supply becoming valid, so event 0x0209 is
  recorded and the start continues. -/
  | holdupChargeTimeout
  /-- THERMAL_SAMPLE (R47): The 10 µs junction-sensor sample updates the means and acts on the 145 °C and 150 °C thresholds. -/
  | thermalSample (n : Fin 24) (t : BitVec 16)
  /-- SENSOR_INCLUDED (R48): An excluded sensor has stayed plausible for 1 s, so it is included again and event 0x020D is
  recorded. -/
  | sensorIncluded (n : Fin 24)
  /-- THERMAL_RESTART (R47): Every sensor that is not excluded is below 130 °C, so event 0x0207 is recorded and the start sequence
  begins. -/
  | thermalRestart
  /-- TCXO_CHECK (R283): The 10 ms check of the TCXO against the supervisor crystal; a deviation above 500 ppm records 0x0C0B and
  stops the module. -/
  | tcxoCheck (ppm : Int)
  /-- PLL_UNLOCK (R283): The root PLL has been out of lock for more than 1 µs, so PLL_LOCK clears, event 0x0C0B is recorded and
  the module stops. -/
  | pllUnlock
  /-- START_SEQUENCE_BEGIN (R52): The supply is valid and the mate filter has passed, so event 0x0101 is recorded, the first
  domains power, seal scanning, vault recovery and the lamp test begin, and wheel LBIST starts. -/
  | startSequenceBegin
  /-- CFG_HEADERS_READ (R69): The SFDP tables and headers of both banks have been read, so the order of candidates is fixed. -/
  | cfgHeadersRead (sfdpA sfdpB : Bool)
  /-- CANDIDATE_CHECKED (R68): A candidate bank's full read and check completes or times out, so its result is recorded and it is
  either accepted or the next candidate is tried. -/
  | candidateChecked (bank : Fin 2) (timedOut : Bool)
  /-- IMAGE_APPLY (R66): Once LBIST and the seal check are done, the wheel map is set and the accepted image's records are applied
  in section order. -/
  | imageApply (cmpReports : Bool)
  /-- SETTLING_END (R52): The SETTLE_MS settling interval of step 12 ends. -/
  | settlingEnd
  /-- ROLE_DECISION (R362): At step 12 a pair module decides its role by Table 15.2, waiting up to 5 s more for the ledger link,
  and records event 0x0F01. -/
  | roleDecision
  /-- START_RELEASE (R53): Once the store is charged or R41 has timed out, the initial image is built and tasks are first released
  with event 0x0102, or resync is entered instead. -/
  | startRelease
  /-- SYS_RESTART (R57): A0 writes SYS_RESTART with KEY 0xA5, so outputs end drive, the vault is flushed and the start sequence
  begins. -/
  | sysRestart (s : Fin 8) (v : W32)
  /-- CFG_WR_START (R72): CFG_WR_CTRL START opens a write session and erases the inactive bank's first sector and then the sectors
  needed. -/
  | cfgWrStart (s : Fin 8) (v : W32)
  /-- CFG_WR_ERASE_DONE (R72): The erase of the write session completes and the session moves from ERASING to RECEIVING. -/
  | cfgWrEraseDone
  /-- CFG_WR_DATA (R73): A word written to CFG_WR_DATA is taken into the new image in order, and each completed block other than
  block 0 is CRC-checked. -/
  | cfgWrData (s : Fin 8) (v : W32)
  /-- CFG_WR_COMMIT (R72): CFG_WR_CTRL COMMIT starts the checks of the complete image read back from flash. -/
  | cfgWrCommit (s : Fin 8) (v : W32)
  /-- CFG_WR_COMMIT_DONE (R72): The commit checks and the programming and verification of block 0 complete, so the session ends
  DONE or FAILED. -/
  | cfgWrCommitDone (outcome : CommitOutcome)
  /-- CFG_WR_ABORT (R74): CFG_WR_CTRL ABORT ends any open session in state FAILED. -/
  | cfgWrAbort (s : Fin 8) (v : W32)
  /-- CFG_WR_TIMEOUT (R74): An open session has received no CFG_WR write for 60 s, so it ends FAILED with TIMEOUT. -/
  | cfgWrTimeout
  /-- REGISTER_WRITE (R75): A management write of a register that has no row of its own takes effect by itself at the next
  data-plane tick, subject to access types and ownership. -/
  | registerWrite (s : Fin 8) (addr v : W32)
  /-- DATA_WINDOW_ADDR_WRITE (R97): A write of a WIN_ADDR register claims the window and sets the offset, or releases the claim
  with 0xFFFF_FFFF. -/
  | dataWindowAddrWrite (s : Fin 8) (addr v : W32)
  /-- DATA_WINDOW_DATA_ACCESS (R97): An access to WIN_DATA transfers one word at the window offset and advances it by 4. -/
  | dataWindowDataAccess (s : Fin 8) (addr : W32) (v : Option W32)
  /-- WINDOW_CLAIM_TIMEOUT (R97): A window claim has seen no access by its holder for 10 s and ends. -/
  | windowClaimTimeout (addr : W32)
  /-- ACCT_CTRL_RESET (R85): ACCT_CTRL RESET with KEY 0x3C begins an account reset, subject to the permissions of R85. -/
  | acctCtrlReset (s : Fin 8) (a : Fin 8) (key : BitVec 8)
  /-- ACCT_RESET_COMPLETE (R86): The reset's clearing and restoring are done, so the account becomes RUNNING, or FAULT if a cause
  arose, and event 0x0403 is recorded. -/
  | acctResetComplete (a : Fin 8)
  /-- ACCT_CTRL_FAULT (R84): ACCT_CTRL FAULT puts an account into FAULT with cause 0x07. -/
  | acctCtrlFault (s : Fin 8) (a : Fin 8) (key : BitVec 8)
  /-- ACCT_KEY_WRITE (R103): A write of ACCT_KEY_7 makes the new 256-bit account key take effect for later sessions. -/
  | acctKeyWrite (s : Fin 8) (a : Fin 8) (v : W32)
  /-- TILL_MARK (R89): TILL_CMD MARK sets the mark to the read position. -/
  | tillMark (s a : Fin 8) (t : Fin 16)
  /-- TILL_REWIND (R89): TILL_CMD REWIND sets the read position to the mark. -/
  | tillRewind (s a : Fin 8) (t : Fin 16)
  /-- TILL_RELEASE (R89): TILL_CMD RELEASE frees every word read so far. -/
  | tillRelease (s a : Fin 8) (t : Fin 16)
  /-- TILL_DATA_LO_READ (R98): A consumer session's read of TILL_DATA_LO consumes one word and captures its high half. -/
  | tillDataLoRead (s a : Fin 8) (t : Fin 16) (ecc : Ecc)
  /-- TILL_DATA_HI_READ (R98): A read of TILL_DATA_HI returns the captured high half, or completes with SEQ if there is no
  capture. -/
  | tillDataHiRead (s a : Fin 8) (t : Fin 16)
  /-- TILL_DATA_LO_WRITE (R98): A producer session's write of TILL_DATA_LO holds the low half for that session. -/
  | tillDataLoWrite (s a : Fin 8) (t : Fin 16) (v : W32)
  /-- TILL_DATA_HI_WRITE (R98): A write of TILL_DATA_HI queues the held word, or completes with NOSPACE or SEQ. -/
  | tillDataHiWrite (s a : Fin 8) (t : Fin 16) (v : W32)
  /-- REQUEST_ADMIT_WAITING (R92): Released space lets a request that waited with BUSY be admitted, in issue order, and its reply
  words are reserved. -/
  | requestAdmitWaiting (a : Fin 8)
  /-- TILL_SCRUB (R91): The scrubber reads every occupied till word once per 1 s cycle, correcting single-bit errors and reporting
  double-bit errors. -/
  | tillScrub (errs : List TillError)
  /-- MGMT_OPEN_1 (R100): An OPEN_1 frame is judged by the checks of R100 and, if it passes, makes a session awaiting its response
  and returns the module nonce. -/
  | mgmtOpen1 (f : Frame)
  /-- MGMT_OPEN_2 (R99): An OPEN_2 response is checked against the HMAC; on a match the session opens, otherwise the failure is
  recorded. -/
  | mgmtOpen2 (f : Frame)
  /-- MGMT_READ (R327): A MANAGEMENT READ frame reads COUNT registers at consecutive addresses. -/
  | mgmtRead (f : Frame) (ecc : List Ecc)
  /-- MGMT_WRITE (R327): A MANAGEMENT WRITE frame writes COUNT consecutive registers, stopping at the first access that is not OK.
  -/
  | mgmtWrite (f : Frame)
  /-- MGMT_READ_REPEAT (R327): A MANAGEMENT READ_REPEAT frame reads the register at ADDRESS COUNT times. -/
  | mgmtReadRepeat (f : Frame) (ecc : List Ecc)
  /-- MGMT_WRITE_REPEAT (R327): A MANAGEMENT WRITE_REPEAT frame writes the register at ADDRESS COUNT times. -/
  | mgmtWriteRepeat (f : Frame)
  /-- MGMT_CLOSE (R101): A MANAGEMENT CLOSE frame closes the session and records event 0x0407. -/
  | mgmtClose (f : Frame)
  /-- MGMT_UNKNOWN_OP (R475): A verified frame with an unlisted OP or a COUNT above 256 is answered RANGE with DONE 0. -/
  | mgmtUnknownOp (f : Frame)
  /-- SESSION_CTRL_CLOSE (R101): A write of SESSION_CTRL with KEY 0x3C and CLOSE 1 closes the session. -/
  | sessionCtrlClose (s : Fin 8) (n : Fin 8) (key : BitVec 8)
  /-- SESSION_IDLE_TIMEOUT (R101): A session has received no frame that counts for 60 s and closes. -/
  | sessionIdleTimeout (n : Fin 8)
  /-- OPEN_RESPONSE_TIMEOUT (R476): No OPEN_2 has arrived within 10 s of an OPEN_1, so the place of the awaiting session is freed.
  -/
  | openResponseTimeout (n : Fin 8)
  /-- LOCKOUT_EXPIRY (R102): The 60 s lockout of a source ends. -/
  | lockoutExpiry (source : Fin 4096)
  /-- ILLEGAL_INSTRUCTION (R115): An undefined opcode, disallowed mode or non-zero unused bit has no effect and traps ILL. -/
  | illegalInstruction (l : Fin 16)
  /-- NOP (R116): No operation. -/
  | wNop (l : Fin 16)
  /-- END (R116): Ends the execution and passes the output delta to the clearing house, with the A7 comparison. -/
  | wEnd (l : Fin 16) (ns : Nat) (cmpReports : Bool)
  /-- JMP (R116): Unconditional jump. -/
  | wJmp (l : Fin 16)
  /-- JC (R116): Jump if BA is 1. -/
  | wJc (l : Fin 16)
  /-- JCN (R116): Jump if BA is 0. -/
  | wJcn (l : Fin 16)
  /-- CALL (R116): Push PC onto CS and jump. -/
  | wCall (l : Fin 16)
  /-- RET (R116): Pop the return address from CS. -/
  | wRet (l : Fin 16)
  /-- TRAP (R134): Takes software trap SWT with the program's code. -/
  | wTrap (l : Fin 16)
  /-- RTT (R135): Leaves the trap handler and resumes at TRAP_PC + 1. -/
  | wRtt (l : Fin 16)
  /-- LOOP (R116): Decrements an index register and branches while it is non-zero. -/
  | wLoop (l : Fin 16)
  /-- BLD (R116): BA := src ≠ 0. -/
  | wBld (l : Fin 16)
  /-- BLDN (R116): BA := src = 0. -/
  | wBldn (l : Fin 16)
  /-- BAND (R116): BA AND (src ≠ 0). -/
  | wBand (l : Fin 16)
  /-- BANDN (R116): BA AND (src = 0). -/
  | wBandn (l : Fin 16)
  /-- BOR (R116): BA OR (src ≠ 0). -/
  | wBor (l : Fin 16)
  /-- BORN (R116): BA OR (src = 0). -/
  | wBorn (l : Fin 16)
  /-- BXOR (R116): BA XOR (src ≠ 0). -/
  | wBxor (l : Fin 16)
  /-- BNOT (R116): Inverts BA. -/
  | wBnot (l : Fin 16)
  /-- BST (R120): Stores BA as 0 or 1, making an output-delta entry when the destination is a slot. -/
  | wBst (l : Fin 16)
  /-- BSTN (R120): Stores NOT BA as 0 or 1. -/
  | wBstn (l : Fin 16)
  /-- PUSHB (R116): Pushes BA onto the branch stack. -/
  | wPushb (l : Fin 16)
  /-- POPB (R116): Pops BA from the branch stack. -/
  | wPopb (l : Fin 16)
  /-- POPA (R116): BA := popped value AND BA. -/
  | wPopa (l : Fin 16)
  /-- POPO (R116): BA := popped value OR BA. -/
  | wPopo (l : Fin 16)
  /-- POPX (R116): BA := popped value XOR BA. -/
  | wPopx (l : Fin 16)
  /-- BLDF (R116): Loads a FLAGS bit into BA. -/
  | wBldf (l : Fin 16)
  /-- LD (R119): Loads WA from the operand or slot. -/
  | wLd (l : Fin 16)
  /-- LDU (R116): Shifts WA left by 20 and ORs in the immediate. -/
  | wLdu (l : Fin 16)
  /-- ST (R120): Stores WA, making an output-delta entry for an output slot. -/
  | wSt (l : Fin 16)
  /-- ADD (R117): Integer add. -/
  | wAdd (l : Fin 16)
  /-- SUB (R117): Integer subtract. -/
  | wSub (l : Fin 16)
  /-- MUL (R117): Integer multiply, low 64 bits. -/
  | wMul (l : Fin 16)
  /-- DIV (R117): Integer divide, truncated toward zero. -/
  | wDiv (l : Fin 16)
  /-- MOD (R117): Integer remainder with the sign of WA. -/
  | wMod (l : Fin 16)
  /-- AND (R116): Bitwise AND. -/
  | wAnd (l : Fin 16)
  /-- OR (R116): Bitwise OR. -/
  | wOr (l : Fin 16)
  /-- XOR (R116): Bitwise XOR. -/
  | wXor (l : Fin 16)
  /-- SHL (R116): Logical shift left. -/
  | wShl (l : Fin 16)
  /-- SHR (R116): Logical shift right. -/
  | wShr (l : Fin 16)
  /-- SAR (R116): Arithmetic shift right. -/
  | wSar (l : Fin 16)
  /-- NEG (R117): Integer negate. -/
  | wNeg (l : Fin 16)
  /-- ABS (R117): Integer absolute value. -/
  | wAbs (l : Fin 16)
  /-- CEQ (R116): BA := WA = src, signed. -/
  | wCeq (l : Fin 16)
  /-- CNE (R116): BA := WA ≠ src. -/
  | wCne (l : Fin 16)
  /-- CLT (R116): BA := WA < src, signed. -/
  | wClt (l : Fin 16)
  /-- CLE (R116): BA := WA ≤ src, signed. -/
  | wCle (l : Fin 16)
  /-- CGT (R116): BA := WA > src, signed. -/
  | wCgt (l : Fin 16)
  /-- CGE (R116): BA := WA ≥ src, signed. -/
  | wCge (l : Fin 16)
  /-- CLTU (R116): BA := WA < src, unsigned. -/
  | wCltu (l : Fin 16)
  /-- CGEU (R116): BA := WA ≥ src, unsigned. -/
  | wCgeu (l : Fin 16)
  /-- FADD (R118): binary64 add. -/
  | wFadd (l : Fin 16)
  /-- FSUB (R118): binary64 subtract. -/
  | wFsub (l : Fin 16)
  /-- FMUL (R118): binary64 multiply. -/
  | wFmul (l : Fin 16)
  /-- FDIV (R118): binary64 divide. -/
  | wFdiv (l : Fin 16)
  /-- FMIN (R118): minimumNumber of WA and src. -/
  | wFmin (l : Fin 16)
  /-- FMAX (R118): maximumNumber of WA and src. -/
  | wFmax (l : Fin 16)
  /-- FSQRT (R118): binary64 square root. -/
  | wFsqrt (l : Fin 16)
  /-- FABS (R116): Clears WA bit 63. -/
  | wFabs (l : Fin 16)
  /-- FNEG (R116): Inverts WA bit 63. -/
  | wFneg (l : Fin 16)
  /-- ITOF (R118): Converts an integer to binary64. -/
  | wItof (l : Fin 16)
  /-- FTOI (R118): Converts binary64 to a saturating integer. -/
  | wFtoi (l : Fin 16)
  /-- FCEQ (R118): binary64 compare equal. -/
  | wFceq (l : Fin 16)
  /-- FCNE (R118): binary64 compare not equal. -/
  | wFcne (l : Fin 16)
  /-- FCLT (R118): binary64 compare less than. -/
  | wFclt (l : Fin 16)
  /-- FCLE (R118): binary64 compare less or equal. -/
  | wFcle (l : Fin 16)
  /-- FCGT (R118): binary64 compare greater than. -/
  | wFcgt (l : Fin 16)
  /-- FCGE (R118): binary64 compare greater or equal. -/
  | wFcge (l : Fin 16)
  /-- LDX (R116): Loads an index register. -/
  | wLdx (l : Fin 16)
  /-- STX (R116): Stores an index register. -/
  | wStx (l : Fin 16)
  /-- ADDX (R116): Adds an immediate to an index register. -/
  | wAddx (l : Fin 16)
  /-- LDWX (R116): Loads WA from an index register. -/
  | wLdwx (l : Fin 16)
  /-- LDQ (R116): Loads a slot's quality byte. -/
  | wLdq (l : Fin 16)
  /-- LDTS (R116): Loads a slot's timestamp. -/
  | wLdts (l : Fin 16)
  /-- GATH (R122): Gathers N slots into V, substituting faulted elements and setting GQ and GF. -/
  | wGath (l : Fin 16)
  /-- VGET (R116): Loads a gather vector element into WA. -/
  | wVget (l : Fin 16)
  /-- VMAX (R116): Maximum of V0 to V(N−1). -/
  | wVmax (l : Fin 16)
  /-- VMIN (R116): Minimum of V0 to V(N−1). -/
  | wVmin (l : Fin 16)
  /-- VSUM (R116): Sum of V0 to V(N−1) in element order. -/
  | wVsum (l : Fin 16)
  /-- VMED (R116): Median of V0 to V(N−1). -/
  | wVmed (l : Fin 16)
  /-- LDGQ (R116): Loads GQ into WA. -/
  | wLdgq (l : Fin 16)
  /-- CLF (R116): Clears the sticky flags selected by the mask. -/
  | wClf (l : Fin 16)
  /-- FIRE (R121): Sets the FT firing mode and captures the time for later output stores. -/
  | wFire (l : Fin 16)
  /-- RDT (R116): Reads the release time, DT or trap data selected by the selector. -/
  | wRdt (l : Fin 16)
  /-- PUSHT (R123): Producer write of WA into a till. -/
  | wPusht (l : Fin 16)
  /-- POPT (R123): Consumer read of a till word into WA. -/
  | wPopt (l : Fin 16) (ecc : Ecc)
  /-- TMARK (R123): Instruction MARK on a till. -/
  | wTmark (l : Fin 16)
  /-- TREW (R123): Instruction REWIND on a till. -/
  | wTrew (l : Fin 16)
  /-- TREL (R123): Instruction RELEASE on a till. -/
  | wTrel (l : Fin 16)
  /-- TUNR (R123): Reads a till's unread word count. -/
  | wTunr (l : Fin 16)
  /-- TFREE (R123): Reads a till's free space. -/
  | wTfree (l : Fin 16)
  /-- REQ (R124): Issues a request item from data memory into the account's request queue and returns the admission status. -/
  | wReq (l : Fin 16)
  /-- PID (R127): Runs the PID function block. -/
  | wPid (l : Fin 16)
  /-- RAMP (R128): Runs the RAMP function block. -/
  | wRamp (l : Fin 16)
  /-- LIM (R129): Runs the LIM function block. -/
  | wLim (l : Fin 16)
  /-- FILT (R130): Runs the first-order FILT function block. -/
  | wFilt (l : Fin 16)
  /-- ROC (R131): Runs the rate-of-change function block. -/
  | wRoc (l : Fin 16)
  /-- HYST (R132): Runs the hysteresis function block. -/
  | wHyst (l : Fin 16)
  /-- TMR (R133): Runs the TON, TOF or TP timer block. -/
  | wTmr (l : Fin 16)
  /-- COMPARE_POINT_TIMEOUT (R138): One A7 wheel has presented a compare point that the other has not matched within 8 cycles, so
  A7 enters FAULT with cause 0x05. -/
  | comparePointTimeout (lane : Fin 2)
  /-- DATA_WIN_DATA_WRITE (R141): A write through DATA_WIN_DATA assembles a 64-bit data word, applied now or after the execution's
  END. -/
  | dataWinDataWrite (s : Fin 8) (k : Fin 64) (v : W32)
  /-- DATA_PLANE_TICK (R157): The 1 µs tick applies the image changes in the order of Table 6.4 and hands values to the slice
  links. -/
  | dataPlaneTick
  /-- TASK_RELEASE (R147): A task's grid point arrives, so RT and DT are set and its snapshot is queued unless the overrun rules
  skip it. -/
  | taskRelease (k : Fin 64)
  /-- SNAPSHOT_COMPLETE (R158): A release's snapshot completes, so the execution is ready and may begin or preempt. -/
  | snapshotComplete (k : Fin 64) (ns : Nat)
  /-- MERGE_COMPLETE (R161): The clearing house finishes merging a delta, passes its timed entries to the firing schedule and
  frees the next waiting delta. -/
  | mergeComplete (ns : Nat)
  /-- OVERRUN_CHECK (R165): At r + L and later grid points an execution that has not reached END counts an overrun and skips the
  release. -/
  | overrunCheck (k : Fin 64)
  /-- SIGNAL_STALE (R153): A signal's age has exceeded FRESH_US, so STALE is set. -/
  | signalStale (sig : Fin 131072)
  /-- SIG_WIN_DATA_WRITE (R164): A session writes a permitted word of a signal record through the signal window. -/
  | sigWinDataWrite (s : Fin 8) (a : Fin 8) (v : W32)
  /-- FORCE_SIGNAL_WRITE (R168): A write of FORCE_SIGNAL claims the force block and names the signal. -/
  | forceSignalWrite (s : Fin 8) (a : Fin 8) (v : W32)
  /-- FORCE_SET (R168): FORCE_CTRL SET forces the signal to FORCE_VALUE. -/
  | forceSet (s : Fin 8) (a : Fin 8) (key : BitVec 8)
  /-- FORCE_CLEAR (R168): FORCE_CTRL CLEAR removes the force on the signal. -/
  | forceClear (s : Fin 8) (a : Fin 8) (key : BitVec 8)
  /-- FORCE_CLEAR_ALL (R168): FORCE_CTRL CLEAR_ALL removes every force of the account. -/
  | forceClearAll (s : Fin 8) (a : Fin 8) (key : BitVec 8)
  /-- IMAGE_SCRUB (R174): The 1 s scrub of the module image corrects single-bit errors and handles double-bit errors. -/
  | imageScrub (errs : List ImageError)
  /-- FIRING_ADMISSION (R182): At the first tick after an entry reaches the schedule, it is judged by Table 7.3 and admitted or
  refused. -/
  | firingAdmission
  /-- FIRING_APPLY (R184): Entries due, or admitted LATE, at a tick are applied in the order of R185. -/
  | firingApply
  /-- FIRE_LIST_ADDR_WRITE (R192): A write of FIRE_LIST_ADDR claims the window and copies the account's pending entries. -/
  | fireListAddrWrite (s : Fin 8) (a : Fin 8) (v : W32)
  /-- ANALOGUE_SAMPLE (R198): A conversion period ends, so the channel produces a filtered, scaled and classified sample. -/
  | analogueSample (g : Fin 192) (m : ASample)
  /-- READBACK_SAMPLE (R218): A readback window ends and the readback is compared with the expected value. -/
  | readbackSample (g : Fin 192) (m : ARead)
  /-- CUR_IN_OVERLOAD (R206): The current input exceeds 30 mA, so the sense path opens, OVERLOAD is set and event 0x0805 is
  recorded. -/
  | curInOverload (g : Fin 192)
  /-- CUR_IN_PROTECT_RETRY (R206): 100 ms after the sense path opened it is closed again. -/
  | curInProtectRetry (g : Fin 192) (exceeds : Bool)
  /-- VOLT_OUT_OVERLOAD (R216): A voltage output's limit has acted for 10 ms, so it goes to high impedance with OVERLOAD set. -/
  | voltOutOverload (g : Fin 192)
  /-- VOLT_OUT_RETRY (R216): The 100 ms retry of an overloaded voltage output. -/
  | voltOutRetry (g : Fin 192)
  /-- ANALOGUE_CH_CFG_WRITE (R223): A CH_CFG write to an analogue channel reconfigures it or changes non-reconfiguring fields. -/
  | analogueChCfgWrite (s : Fin 8) (g : Fin 192) (v : W32)
  /-- ANALOGUE_RECONFIG_DONE (R223): The front end has been set to the new mode and range, so an output drives again or input
  sampling restarts. -/
  | analogueReconfigDone (g : Fin 192)
  /-- HART_CFG_WRITE (R228): A HART_CFG write enables or changes HART on a channel; enabling starts identification. -/
  | hartCfgWrite (s : Fin 8) (g : Fin 192) (v : W32)
  /-- HART_POLL (R233): PERIOD_MS expires, so the module sends command 3 or 9 to the device. -/
  | hartPoll (g : Fin 192)
  /-- HART_REPLY (R234): A device reply is received, so HART signals, status and identities are updated. -/
  | hartReply (g : Fin 192) (r : HartRx)
  /-- HART_BURST_FRAME (R231): A burst frame is received, counted in IGNORED and discarded. -/
  | hartBurstFrame (g : Fin 192)
  /-- HART_TIMEOUT (R232): A transaction gets no valid reply within the data-link timers and is retried, or fails. -/
  | hartTimeout (g : Fin 192)
  /-- HART_IDENT_RETRY (R232): The 5 s identification retry in COMM_FAIL. -/
  | hartIdentRetry (g : Fin 192)
  /-- HART_PASSTHROUGH_REQUEST (R236): A pass-through request item is read once the reply till has 33 free words, then judged and
  sent or answered. -/
  | hartPassthroughRequest (a : Fin 8) (sl : Fin 6) (ecc : List Ecc)
  /-- HART_Z_MEASURE (R240): A transmitted frame yields a loop-impedance measurement and the drift alarm is evaluated. -/
  | hartZMeasure (g : Fin 192) (z1200 z2200 : Nat) (overlap : Bool)
  /-- HART_Z_BASE_WRITE (R241): A write of HART_Z_BASE sets the baseline, or with 0 makes the next measurement the baseline. -/
  | hartZBaseWrite (s : Fin 8) (g : Fin 192) (v : W32)
  /-- HART_RESUME (R239): 100 ms after a handover window or takeover, the incoming module starts its first HART transaction. -/
  | hartResume (g : Fin 192)
  /-- LEVEL_FILTER_PASS (R249): FILT_US consecutive samples agree on a new level, so the filtered input state changes. -/
  | levelFilterPass (n : Fin 320) (level : Bool)
  /-- LINE_MON_OPEN (R247): The terminal has been below, or back at or above, 1.0 V for 10 ms, so OPEN is set or cleared. -/
  | lineMonOpen (n : Fin 320) (below : Bool)
  /-- EDGE_ACCEPTED (R250): A level persists for EDGE_FILT_US, so an edge is accepted, stamped and counted. -/
  | edgeAccepted (n : Fin 320) (level : Bool) (time : Nat)
  /-- QUAD_VELOCITY_UPDATE (R254): The 1 ms velocity item of a quadrature pair is updated. -/
  | quadVelocityUpdate (n : Fin 320)
  /-- LOAD_CURRENT_UPDATE (R254): The 1 ms load-current item of a digital output is updated. -/
  | loadCurrentUpdate (n : Fin 320) (ma : BitVec 16) (termV : BitVec 16) (fsMa : BitVec 16)
  /-- CNT_CLEAR (R253): CH_CNT_CTRL CLEAR sets the count or position to 0 and clears QUAD_ERR. -/
  | cntClear (s : Fin 8) (n : Fin 320) (key : BitVec 8)
  /-- CNT_PRESET (R253): CH_CNT_CTRL PRESET sets the count or position to CH_PRESET and clears QUAD_ERR. -/
  | cntPreset (s : Fin 8) (n : Fin 320) (key : BitVec 8)
  /-- OUTPUT_THERMAL_OFF (R258): The switch junction reaches 170 °C, so the output turns off with THERMAL set. -/
  | outputThermalOff (n : Fin 320)
  /-- OUTPUT_THERMAL_RETRY (R258): 100 ms after a thermal turn-off the switch turns on again if it is still commanded on. -/
  | outputThermalRetry (n : Fin 320)
  /-- SLICE_OVERCURRENT_TRIP (R259): Slice FS current has exceeded 8.8 A for 5 ms, so all outputs end drive and SLICE_OVL is set.
  -/
  | sliceOvercurrentTrip (sl : Fin 10) (ma : BitVec 16)
  /-- SLICE_OVERCURRENT_RESUME (R259): 1 s after a first trip the slice's outputs resume their commands. -/
  | sliceOvercurrentResume (sl : Fin 10)
  /-- DS_CTRL_RESTORE (R259): A0 writes RESTORE to end OVL_OFF. -/
  | dsCtrlRestore (s : Fin 8) (sl : Fin 10) (key : BitVec 8)
  /-- EXTDRV_CHANGE (R260): An external-drive condition has held, or been absent, for 1 ms, so EXTDRV is set or cleared. -/
  | extdrvChange (n : Fin 320) (on : Bool) (termV : BitVec 16)
  /-- OUTPUT_CONDITION_CHANGE (R261): An output diagnostic condition has held or been absent for its filter time, so it is set or
  cleared. -/
  | outputConditionChange (n : Fin 320) (c : DCond) (on : Bool)
  /-- DIGITAL_CH_CFG_WRITE (R265): A CH_CFG write to a digital channel reconfigures it or changes non-reconfiguring fields. -/
  | digitalChCfgWrite (s : Fin 8) (n : Fin 320) (v : W32)
  /-- DIGITAL_RECONFIG_DONE (R265): The input stage has been set to the new mode, so the output drives or filtering restarts. -/
  | digitalReconfigDone (n : Fin 320)
  /-- SLICE_LINK_FRAME_RECEIVED (R273): A slice-link frame completes on either lane, so it is checked, accepted and acted on, or
  triggers resends. -/
  | sliceLinkFrameReceived (sl : Fin 16) (down : Bool) (line : BitVec 625)
  /-- SLICE_LINK_RUN_TIMEOUT (R278): A slice has not reached RUN within 100 ms of power-good, so event 0x0B04 is recorded. -/
  | sliceLinkRunTimeout (sl : Fin 16)
  /-- PTP_INTERVAL (R286): The 1 s interval expires, so Sync, Announce and Pdelay_Req are sent as the role requires. -/
  | ptpInterval
  /-- PTP_SYNC_RECEIVED (R287): A Sync is checked, used by the servo and forwarded with the correction. -/
  | ptpSyncReceived (m : SyncMsg)
  /-- PTP_FOLLOW_UP_RECEIVED (R289): A Follow_Up completes a two-step Sync measurement. -/
  | ptpFollowUpReceived (m : FollowUpMsg)
  /-- PTP_ANNOUNCE_RECEIVED (R290): A PTP Announce feeds the BMCA and the base state. -/
  | ptpAnnounceReceived (m : AnnounceMsg)
  /-- PTP_PDELAY_REQ_RECEIVED (R286): A Pdelay_Req is answered with a Pdelay_Resp. -/
  | ptpPdelayReqReceived (m : PdelayReqMsg)
  /-- PTP_PDELAY_RESP_RECEIVED (R289): A peer-delay response gives a measurement to accept or reject. -/
  | ptpPdelayRespReceived (m : PdelayRespMsg)
  /-- PDELAY_TIMEOUT (R289): A Pdelay_Req has had no response for 100 ms. -/
  | pdelayTimeout (p : Fin 4)
  /-- ANNOUNCE_RECEIPT_TIMEOUT (R290): announceReceiptTimeout expires, so the base becomes FREE. -/
  | announceReceiptTimeout (plane : Fin 2)
  /-- TS_REVERT (R293): The preferred base has been LOCKED for REVERT_S, so TS reverts to it. -/
  | tsRevert
  /-- TS_SLEW_COMPLETE (R297): The pulled-in residual falls to 50 ns, so SLEWING clears and holdover ends or TS becomes valid. -/
  | tsSlewComplete
  /-- HOLDOVER_LIMIT (R296): HOLD_ELAPSED reaches HOLD_LIMIT_S, so TS becomes not valid and EXPIRED. -/
  | holdoverLimit
  /-- TIME_SET_WRITE (R295): A write of TIME_SET presets TS, allowed only in UNSET or EXPIRED. -/
  | timeSetWrite (s : Fin 8) (addr : Fin 2) (v : W32)
  /-- DOM_CFG_WRITE (R290): A write of DOM_CFG changes domain settings and makes the base FREE. -/
  | domCfgWrite (s : Fin 8) (plane : Fin 2) (v : W32)
  /-- AB_OFFSET_ALARM (R300): |TA − TB| has exceeded 50 ns for 10 s with both bases LOCKED. -/
  | abOffsetAlarm
  /-- TRANSCEIVER_INSERTED (R304): A transceiver is inserted, so its identification data is read. -/
  | transceiverInserted (p : Fin 4)
  /-- TRANSCEIVER_ID_READ (R304): The identification read completes, so the transceiver is accepted or refused. -/
  | transceiverIdRead (p : Fin 4) (id : XcvrId)
  /-- PORT_LINK_UP (R304): Block lock has held for 10 ms without RX_LOS or TX_FAULT. -/
  | portLinkUp (p : Fin 4)
  /-- PORT_LINK_DOWN (R304): Loss of block lock, RX_LOS or TX_FAULT has lasted 1 ms. -/
  | portLinkDown (p : Fin 4)
  /-- SUPERVISION_SEND (R307): Every 1 ms a SUPERVISION frame is sent out of each INNER port. -/
  | supervisionSend
  /-- SUPERVISION_RECEIVED (R307): A SUPERVISION frame updates port role, membership and distance to the ends. -/
  | supervisionReceived (f : Frame)
  /-- SEGMENT_TIMEOUT (R306): No SUPERVISION for 3 ms on a port or from a member or end, so roles, membership and the exit end are
  updated. -/
  | segmentTimeout (p : Fin 4) (member : Option (BitVec 12))
  /-- ANNOUNCE_SEND (R314): The 1 s ANNOUNCE heartbeat is sent on both planes. -/
  | announceSend
  /-- HEARTBEAT_FLAG_CHANGE (R315): A heartbeat flag changes, so an ANNOUNCE is sent within 1 ms. -/
  | heartbeatFlagChange
  /-- ANNOUNCE_RECEIVED (R314): A Vrelrun ANNOUNCE updates the peer table and version. -/
  | announceReceived (f : Frame)
  /-- PEER_LOST (R314): A peer has not been heard for 3 s. -/
  | peerLost (peer : BitVec 12)
  /-- PUBLICATION_SEND (R317): A group's grid point arrives, so its publication frame is sent. -/
  | publicationSend (n : Fin 256)
  /-- PUBLICATION_RECEIVED (R318): A publication is accepted or dropped, and updates its subscriptions. -/
  | publicationReceived (f : Frame)
  /-- NET_ISSUE_DATA_WRITE (R320): A session writes a word of a network item, judged when its last word completes. -/
  | netIssueDataWrite (s : Fin 8) (a : Fin 8) (v : W32)
  /-- TAG_GRANT (R321): A waiting request is granted a tag and sent on both planes. -/
  | tagGrant (a : Fin 8) (peer : BitVec 12)
  /-- REQUEST_TAG_TIMEOUT (R323): No tag was granted within T of admission, so the request completes NOTAG. -/
  | requestTagTimeout (a : Fin 8) (i : Nat)
  /-- TAG_DEADLINE (R322): D passes for an IN_FLIGHT or BACKOFF tag, so the request completes TIMEOUT or BUSY and the tag enters
  QUARANTINE. -/
  | tagDeadline (tag : Fin 4096)
  /-- TAG_RETRY (R322): RETRY_US passes in BACKOFF, so the request is resent. -/
  | tagRetry (tag : Fin 4096)
  /-- TAG_QUARANTINE_END (R322): Quarantine ends and the tag becomes FREE. -/
  | tagQuarantineEnd (tag : Fin 4096)
  /-- REQUEST_RECEIVED (R324): A received REQUEST is judged by Table 13.9 and answered or queued. -/
  | requestReceived (f : Frame) (acct : Fin 8)
  /-- REPLY_RECEIVED (R326): A received REPLY completes its request or is dropped as stale. -/
  | replyReceived (f : Frame)
  /-- INCOMING_REQUEST_EXPIRE (R325): TIME_LEFT_US passes for an open incoming request, so it closes. -/
  | incomingRequestExpire (source : BitVec 12) (handle : BitVec 14)
  /-- RZT_OPEN_SEND (R340): A receive connection in OPENING sends an OPEN, then every 100 ms. -/
  | rztOpenSend (c : Fin 64)
  /-- RZT_OPEN_RECEIVED (R340): A producer accepts an OPEN or resume and answers ACCEPT. -/
  | rztOpenReceived (f : Frame)
  /-- RZT_ACCEPT_RECEIVED (R340): A consumer takes an ACCEPT and enters RUN or REFUSED. -/
  | rztAcceptReceived (f : Frame)
  /-- RZT_DATA_SEND (R342): At a send grid point the producer sends a new SEQ or repeats the last frame. -/
  | rztDataSend (c : Fin 64)
  /-- RZT_CHECK_RECEIVED (R342): A CHECK acknowledges the last SEQ sent. -/
  | rztCheckReceived (f : Frame)
  /-- RZT_DATA_RECEIVED (R343): A DATA copy is checked and enters or closes an assay. -/
  | rztDataReceived (f : Frame)
  /-- RZT_ASSAY_TIMEOUT (R343): ASSAY_US passes with one copy, so it is accepted from one plane. -/
  | rztAssayTimeout (c : Fin 64)
  /-- RZT_WATCHDOG (R345): WATCHDOG_US passes without acceptance, so the connection enters FAULT. -/
  | rztWatchdog (c : Fin 64)
  /-- RZT_FAULT_RETRY (R341): 100 ms after FAULT the connection returns to OPENING. -/
  | rztFaultRetry (c : Fin 64)
  /-- RZT_REFUSED_RETRY (R341): 10 s after REFUSED the connection returns to OPENING. -/
  | rztRefusedRetry (c : Fin 64)
  /-- RZT_DEGRADED_LIMIT (R346): Single-plane time exceeds DEGR_LIMIT_S, so LIMIT is set. -/
  | rztDegradedLimit (c : Fin 64)
  /-- LEDGER_FRAME_RECEIVED (R363): A ledger-link frame is checked and its HELLO, journal or acknowledgement is acted on. -/
  | ledgerFrameReceived (f : LedgerFrame) (spaced : Bool) (age : Nat)
  /-- RELINQUISH_RECEIVED (R374): A standby accepts RELINQUISH and takes over. -/
  | relinquishReceived (f : LedgerFrame) (spaced : Bool) (age : Nat)
  /-- LEDGER_LINK_LOST (R365): No heartbeat or no lock for 150 µs. -/
  | ledgerLinkLost (lock : Bool)
  /-- PEER_ABSENT (R366): PEER_PRESENT has read 0 for 100 µs. -/
  | peerAbsent
  /-- JOURNAL_RESEND (R367): The standby position has lagged for 4 µs, so the journal is resent. -/
  | journalResend
  /-- TAKEOVER (R374): At H, once the journal is applied, the standby becomes active and drives the outputs. -/
  | takeover
  /-- PAIR_HANDOVER (R377): PAIR_CTRL HANDOVER schedules a planned handover. -/
  | pairHandover (s : Fin 8) (key : BitVec 8)
  /-- PAIR_ASSUME (R362): PAIR_CTRL ASSUME makes an ISOLATED module take control. -/
  | pairAssume (s : Fin 8) (key : BitVec 8)
  /-- HANDOVER_ACTION_DUE (R378): The handover action fires at H, and the roles change with a current ramp. -/
  | handoverActionDue
  /-- HANDOVER_WINDOW_END (R378): H + 600 µs ends the dual-active window, and the outgoing module enters RESYNC. -/
  | handoverWindowEnd
  /-- RECLAIM_TIMER (R383): The HOME module has been STANDBY for RECLAIM_S and requests a reclaim. -/
  | reclaimTimer
  /-- ROLE_SWAP_DUE (R384): SWAP_H hours have passed, so the periodic role swap is performed. -/
  | roleSwapDue
  /-- CAN_TX_ITEM_READ (R396): A transmit item is read into the buffer, or refused. -/
  | canTxItemRead (n : Fin 4) (ecc : List Ecc)
  /-- CAN_TX_COMPLETE (R400): A frame is sent successfully and its completion is written. -/
  | canTxComplete (n : Fin 4) (sof : Nat) (tdcv : BitVec 8)
  /-- CAN_TX_ERROR (R397): An attempt ends in an error frame and is counted; the frame may be discarded. -/
  | canTxError (n : Fin 4) (code : CanErr) (dataPhase : Bool) (exempt : Bool)
  /-- CAN_BUSOFF_RECOVERY (R399): 128 recessive sequences recover bus-off, with a deadline check. -/
  | canBusoffRecovery (n : Fin 4)
  /-- CAN_INTEGRATED (R392): 11 recessive bits complete bus integration. -/
  | canIntegrated (n : Fin 4)
  /-- CAN_RX_FRAME (R401): A received frame passes the filters and updates signals. -/
  | canRxFrame (n : Fin 4) (f : CanRx)
  /-- CAN_RX_ITEM_WRITE (R402): A buffered frame's item is written once the till has room. -/
  | canRxItemWrite (n : Fin 4)
  /-- CAN_CONFIG_APPLY (R393): A bit-timing or mode write takes effect at the frame end or bus idle. -/
  | canConfigApply (n : Fin 4)
  /-- MANAGEMENT_CYCLE (R410): The 1 s management cycle resets rate limits and does the periodic work. -/
  | managementCycle
  /-- VAULT_PAGE_TIMEOUT (R413): The oldest waiting slot has waited 1 s, so its page is programmed. -/
  | vaultPageTimeout
  /-- VAULT_PAGE_VERIFIED (R413): A page program and verify completes, freeing slots or tainting the sector. -/
  | vaultPageVerified (outcome : PageOutcome)
  /-- VAULT_FAULT_FLUSH_DONE (R414): A fault flush completes, with event 0x1104. -/
  | vaultFaultFlushDone (us : Nat)
  /-- VAULT_CLOSING_FLUSH_DONE (R415): A closing flush completes, with record 0x1103, and D61 and D62 go off. -/
  | vaultClosingFlushDone (us : Nat)
  /-- VAULT_ERASE_DONE (R417): A sector erase and blank verify completes, or fails. -/
  | vaultEraseDone (dev : Fin 2) (ok : Bool)
  /-- VAULT_RECOVERY_DONE (R420): Recovery completes and the vault becomes RUNNING or WRITE_THROUGH. -/
  | vaultRecoveryDone (r : VaultRecovery)
  /-- VAULT_WIN_DATA_READ (R421): A read at a slot boundary captures the whole slot. -/
  | vaultWinDataRead (s : Fin 8)
  /-- WHEEL_TEST_DONE (R427): A wheel test completes or stops at a failing checkpoint. -/
  | wheelTestDone (w : Fin 18) (checkpoint : Option (Fin 11)) (misr : W64)
  /-- WHEEL_RETEST_DONE (R427): The segment retest completes, giving UNCONFIRMED or CONFIRMED. -/
  | wheelRetestDone (w : Fin 18) (agreed : Bool)
  /-- FUSE_BURN_DONE (R428): A STRIKE or OUT fuse burn completes. -/
  | fuseBurnDone (w : Fin 18)
  /-- ROTATION_STEP (R430): INTERVAL_S expires, so the next rotation target is chosen. -/
  | rotationStep
  /-- SPARE_PREPARED (R430): The spare's code and data copy completes. -/
  | sparePrepared
  /-- WHEEL_SWITCH (R431): At an idle tick the logical wheel moves to the spare and the target is tested. -/
  | wheelSwitch
  /-- ROTATION_SKIP (R432): No idle tick within 1 s, so the rotation step is skipped. -/
  | rotationSkip
  /-- WHEEL_LOST (R434): A trip or second uncorrectable error removes a wheel and moves its work. -/
  | wheelLost (w : Fin 18) (why : WheelLoss)
  /-- SPARE_LOADED (R434): The replacement spare finishes loading and releases resume. -/
  | spareLoaded (l : Fin 16)
  /-- WHEEL_SCRUB (R437): The 1 s scrub of wheel memories runs. -/
  | wheelScrub (errs : List WheelError)
  /-- LEDGER_SCRUB (R438): The 60 s scrub of ledger memory runs. -/
  | ledgerScrub (errs : List LedgerError)
  /-- PANEL_WIN_DATA_WRITE (R447): A0 writes one word of the frame memory. -/
  | panelWinDataWrite (s : Fin 8) (v : W32)
  /-- PANEL_FRAME_SCAN (R448): A refresh frame completes and PANEL_CTRL changes apply. -/
  | panelFrameScan
  /-- PANEL_POWER_UP (R450): D59 power-good starts the rail sequence and the first page. -/
  | panelPowerUp
  /-- PANEL_RAIL_TIMEOUT (R450): A rail misses its condition within 50 ms, so all rails go off. -/
  | panelRailTimeout
  /-- PANEL_RAIL_RETRY (R450): 1 s later the rail sequence restarts. -/
  | panelRailRetry
  /-- PANEL_POWER_DOWN (R451): D59 goes off and the panel discharges and sequences its rails off. -/
  | panelPowerDown
  /-- LINK_OUTSIDE_RUN_TIMEOUT (R470): A used slice's link has stayed outside RUN for 100 ms after its last exit from RUN, so a
  subsystem fault becomes outstanding and FAULT lights red. -/
  | linkOutsideRunTimeout (sl : Fin 16)
  /-- CFG_WR_PAGE_PROGRAMMED (R73): A page of the new image finishes programming in the inactive bank, freeing the module's page
  buffer so CFG_WR_DATA words are taken again. -/
  | cfgWrPageProgrammed
  /-- FRAME_FORWARD (R309): A frame received on one plane port and not addressed to this module is forwarded cut-through out of
  the other port of the plane, or ended with an invalid FCS. -/
  | frameForward (p : Fin 4) (source dest : BitVec 12) (fcs : Bool) (len : Nat)
  /-- TRANSCEIVER_REMOVED (R304): An SFP+ transceiver is withdrawn from a cage, so PORT_STATUS.XCVR reads none and the port LED
  goes off. -/
  | transceiverRemoved (p : Fin 4)
  /-- PEER_PRESENT_SEATED (R366): PEER_PRESENT_N goes low because a peer module is seated or its core rail returns, so
  PEER_PRESENT reads 1. -/
  | peerPresentSeated
  /-- CAN_BUS_ERROR (R398): The channel detects an error on the bus while receiving, sends an error frame, raises REC and may
  enter error-passive with event 0x1001. -/
  | canBusError (n : Fin 4) (code : CanErr) (dataPhase : Bool) (first : Bool)
  /-- STORE_CONVERTER_CARRY (R43): The input bus falls below 8.2 V, so the store converter starts to carry it, CARRYING is set,
  and a store drawn below 46.0 V clears HOLDUP_OK and puts the vault into WRITE_THROUGH. -/
  | storeConverterCarry (store : BitVec 16)
  /-- OUTPUT_STAGE_THERMAL_SHUTDOWN (R226): An analogue output stage enters thermal shutdown and sets CH_STATUS.THERMAL. -/
  | outputStageThermalShutdown (g : Fin 192)
  /-- OUTPUT_STAGE_THERMAL_RETRY (R226): 100 ms after an analogue output stage shut down thermally, the stage is retried. -/
  | outputStageThermalRetry (g : Fin 192)
  /-- CURRENT_LIMIT_CHANGE (R258): A digital output's current reaches the 1.2 A limit or falls back below it, so CURLIM is set or
  cleared. -/
  | currentLimitChange (n : Fin 320) (on : Bool)
  deriving DecidableEq, Repr

end Sys2Proof
end

