-- ==== Sys2Proof/Decode.lean ====
section
/-! DEFINITION. The command that a word spells by the opcode table's bits. No row of this table gives bits: the block takes
commands and no words, so every word spells none. The 32-bit words of the wheels' own programs (Table 5.2) are decoded by the
wheels: see Machine/Wheel.lean. -/

namespace Sys2Proof

/-- The command spelled by a word of nbits bits: none, since no row of spec/opcode_table.json gives bits. (DESIGN CHOICE, log
entry 115.) -/
def decodeTableWord (_nbits _w : Nat) : Option Instr := none

end Sys2Proof
end

