-- ==== Sys2Proof/Config.lean ====
section
/-! DEFINITION. What one module fixes at the factory and the values the spec leaves open. A value the spec leaves open is
an opaque constant: nothing in Lean can see it, so a claim that holds of the model holds for every value of it. -/

namespace Sys2Proof

/-- Factory serial number (Table 3.8 gives no value). -/
opaque Config.serial : W64
/-- Firmware issue, major byte and minor byte (Table 3.7 gives no value). -/
opaque Config.firmware : BitVec 16
/-- Factory timestamp corrections of port n (Table 12.12 gives no value). -/
opaque Config.portLat : Nat → W32
/-- Factory MAC address of port M (Table 13.15 gives no value). -/
opaque Config.portMac : BitVec 48
/-- The n-th random 64-bit word drawn by the module: nonces, the network INSTANCE, connection numbers. -/
opaque Config.random : Nat → W64
/-- Payload of the quiet NaN that a binary64 operation returns for NaN operands (IEEE 754 leaves it open). -/
opaque Config.nanPayload : W64 → W64 → W64
/-- Whether tininess is detected after rounding (IEEE 754 leaves it open, R118 does not say). -/
opaque Config.tinyAfter : Bool
/-- The n-th value that the spec leaves open and on which nothing else depends. -/
opaque Config.freeValue : Nat → W64
/-- The code with which the module names a cause or reason that the spec lists in words only: reason n (DESIGN CHOICE, log entry
5). -/
opaque Config.openCode : Nat → BitVec 8

/-- What the 4-bit attempt count of a CAN completion shows for a frame with more than 15 counted attempts. (DESIGN CHOICE, log
entry 149.) -/
opaque Config.canAttempts : Nat → BitVec 4

/-- Temperature in °C of a thermocouple of the type of Table 8.6 at a terminal voltage in V and a cold junction in °C: the
reference functions of IEC 60584-1, which the spec names and does not print. (DESIGN CHOICE, log entry 50.) -/
opaque Config.tcTemp : Nat → W64 → W64 → W64
/-- Whether a HART modem responds to a carrier between 80 mV and 120 mV peak-to-peak, which R229 leaves open. -/
opaque Config.hartResponds : Nat → Bool
/-- clockIdentity of the module as a PTP clock (Table 12.2 gives no value). -/
opaque Config.clockIdentity : W64
/-- Whether task k's program, data size and owner are equal in the images of the two modules of a pair: R372 makes the mapped copy
depend on it, and the ledger carries nothing by which the standby could tell. (DESIGN CHOICE, log entry 105.) -/
opaque Config.sameTask : Nat → Bool
/-- Word n of the frame memory as the module draws its page from the items of Table 19.1: the spec gives neither fonts nor the
place of an item, and no content before the first page. (DESIGN CHOICE, log entry 53.) -/
opaque Config.pageWord : List (List Nat) → Nat → W32

end Sys2Proof
end

