-- ==== Sys2Proof/Machine/Crypto.lean ====
section
/-! DEFINITION. The check codes and digests the spec names: CRC-32 of IEEE 802.3 (R60), CRC-32C (Castagnoli, used by
the safe transport), SHA-256 of FIPS 180-4 and HMAC-SHA-256 (R99, R327). All work on lists of bytes. -/

namespace Sys2Proof.Machine

/-- Split a value into n bytes, least significant first. -/
def bytesLE (n v : Nat) : List Byte :=
  match n with
  | 0 => []
  | n + 1 => BitVec.ofNat 8 v :: bytesLE n (v / 256)

/-- Join bytes, least significant first. -/
def ofBytesLE : List Byte → Nat
  | [] => 0
  | b :: bs => b.toNat + 256 * ofBytesLE bs

/-- Split a value into n bytes, most significant first. -/
def bytesBE (n v : Nat) : List Byte := (bytesLE n v).reverse

/-- Join bytes, most significant first. -/
def ofBytesBE (bs : List Byte) : Nat := ofBytesLE bs.reverse

/-- n shifts of a reflected CRC with the given reflected polynomial. -/
def crcShift (poly : W32) : Nat → W32 → W32
  | 0, c => c
  | n + 1, c => crcShift poly n (if c.getLsbD 0 then (c >>> 1) ^^^ poly else c >>> 1)

def crcBytes (poly : W32) : List Byte → W32 → W32
  | [], c => c
  | b :: bs, c => crcBytes poly bs (crcShift poly 8 (c ^^^ b.setWidth 32))

/-- CRC-32 of R60: polynomial 0x04C1_1DB7 reflected, initial value and final inversion all ones. -/
def crc32 (bs : List Byte) : W32 := ~~~ (crcBytes 0xEDB88320 bs 0xFFFFFFFF)

/-- CRC-32C (Castagnoli polynomial 0x1EDC_6F41 reflected), initial value given. -/
def crc32c (bs : List Byte) : W32 := ~~~ (crcBytes 0x82F63B78 bs 0xFFFFFFFF)

/-- Bytes of a 32-bit word, least significant first. -/
def wordBytes (w : W32) : List Byte := bytesLE 4 w.toNat
/-- Bytes of a 64-bit word, least significant first. -/
def dwordBytes (w : W64) : List Byte := bytesLE 8 w.toNat

/-! ### SHA-256 (FIPS 180-4) -/

/-- The largest r below 2^n, above the one given, whose pow-th power does not exceed x. -/
def rootBits (pow x : Nat) : Nat → Nat → Nat
  | 0, r => r
  | n + 1, r => rootBits pow x n (if (r + 2 ^ n) ^ pow ≤ x then r + 2 ^ n else r)

/-- The first 64 primes. -/
def shaPrimes : List Nat :=
  [2, 3, 5, 7, 11, 13, 17, 19, 23, 29, 31, 37, 41, 43, 47, 53, 59, 61, 67, 71, 73, 79] ++
  [83, 89, 97, 101, 103, 107, 109, 113, 127, 131, 137, 139, 149, 151, 157, 163, 167, 173, 179, 181, 191] ++
  [193, 197, 199, 211, 223, 227, 229, 233, 239, 241, 251, 257, 263, 269, 271, 277, 281, 283, 293, 307, 311]

/-- The first 32 bits of the fractional part of a root of a prime. -/
def shaConstant (pow p : Nat) : W32 := BitVec.ofNat 32 (rootBits pow (p * 2 ^ (32 * pow)) 37 0)

/-- The hash before the first block, by square roots, and the constants of the 64 rounds, by cube roots. -/
def shaStart : List W32 := (shaPrimes.take 8).map (shaConstant 2)
def shaTable : List W32 := shaPrimes.map (shaConstant 3)

/-- A word against itself turned right by three distances. -/
def turned (x : W32) (i j k : Nat) : W32 := x.rotateRight i ^^^ (x.rotateRight j ^^^ x.rotateRight k)

/-- A word against itself turned right twice and shifted right once. -/
def shifted (x : W32) (i j k : Nat) : W32 := (x >>> k) ^^^ (x.rotateRight i ^^^ x.rotateRight j)

/-- The 64 words of a block's schedule, from its first 16. -/
def shaSchedule (block : List W32) : List W32 :=
  (List.range 48).foldl (fun ws t =>
    let back (n : Nat) : W32 := ws.getD (t + 16 - n) 0
    ws ++ [back 16 + shifted (back 15) 7 18 3 + back 7 + shifted (back 2) 17 19 10]) block

/-- One round on the eight working words, with its constant and its word of the schedule. -/
def shaRound (v : List W32) (kw : W32 × W32) : List W32 :=
  let at_ (n : Nat) : W32 := v.getD n 0
  let select := at_ 6 ^^^ (at_ 4 &&& (at_ 5 ^^^ at_ 6))
  let most := (at_ 0 &&& at_ 1) ||| (at_ 2 &&& (at_ 0 ||| at_ 1))
  let carry := kw.1 + kw.2 + at_ 7 + select + turned (at_ 4) 6 11 25
  (carry + most + turned (at_ 0) 2 13 22) :: v.take 3 ++ (at_ 3 + carry) :: (v.drop 4).take 3

/-- The hash after one more block of 64 bytes. -/
def shaCompress (hash : List W32) (block : List Byte) : List W32 :=
  let ws := (List.range 16).map fun i => BitVec.ofNat 32 (ofBytesBE ((block.drop (4 * i)).take 4))
  List.zipWith (· + ·) hash ((shaTable.zip (shaSchedule ws)).foldl shaRound hash)

/-- SHA-256 of a byte string, 32 bytes: its blocks after a one bit, zeros and its length in bits. -/
def sha256 (m : List Byte) : List Byte :=
  let text := m ++ (0x80 :: List.replicate ((119 - m.length % 64) % 64) 0) ++ bytesBE 8 (8 * m.length)
  let hash := (List.range (text.length / 64)).foldl (fun h i => shaCompress h ((text.drop (64 * i)).take 64)) shaStart
  hash.flatMap fun w => bytesBE 4 w.toNat

/-- HMAC-SHA-256 with a key of at most 64 bytes. -/
def hmacSha256 (key m : List Byte) : List Byte :=
  let k := key ++ List.replicate (64 - key.length) 0
  sha256 (k.map (· ^^^ 0x5C) ++ sha256 (k.map (· ^^^ 0x36) ++ m))

end Sys2Proof.Machine
end

