-- ==== Sys2Proof/Machine/RegMap.lean ====
section
/-! DEFINITION. The register map: every register of the spec's register tables (Tables 1.9 to 19.4, and
TILL_DATA_LO/HI of R98/R106), with its address pattern (R4), the bits of each access type (R5), its reset word
(R4: the Reset column), and every named field of it. A pattern has two indices: the address of entry (i, j) is
base + s1·i + s2·j. Fields whose Reset column reads "sampled", "live", "held" or "—" start at 0 (DESIGN CHOICE, log entry 3). -/

namespace Sys2Proof.Machine

/-- One register, or one family of registers at regular addresses. (DESIGN CHOICE, log entry 3.) -/
structure Reg where
  base : Nat
  s1 : Nat
  n1 : Nat
  s2 : Nat
  n2 : Nat
  /-- reset word (low word of a 64-bit quantity) -/
  rst : Nat
  /-- reset word of the high half of a 64-bit quantity -/
  rstHi : Nat
  /-- the register is a 64-bit quantity under R8 -/
  w64 : Bool
  /-- bits of access type RW, RO, W1C and WO (Table 0.3) -/
  rw : Nat
  ro : Nat
  w1c : Nat
  wo : Nat
  deriving DecidableEq, Repr

/-- A field: bits hi:lo of a register. -/
structure Fld where
  reg : Reg
  hi : Nat
  lo : Nat
  deriving DecidableEq, Repr

/-- Table 1.9. -/
abbrev R.BASEPLATE_STATUS : Reg := ⟨0x1001000, 0x1000, 1, 4, 1, 0, 0, false, 0, 0x1FF, 0xFF0000, 0⟩
abbrev F.BASEPLATE_STATUS_MATE_GLITCH : Fld := ⟨R.BASEPLATE_STATUS, 23, 16⟩
abbrev F.BASEPLATE_STATUS_CFG_B_PRESENT : Fld := ⟨R.BASEPLATE_STATUS, 8, 8⟩
abbrev F.BASEPLATE_STATUS_CFG_A_PRESENT : Fld := ⟨R.BASEPLATE_STATUS, 7, 7⟩
abbrev F.BASEPLATE_STATUS_PEER_PRESENT : Fld := ⟨R.BASEPLATE_STATUS, 6, 6⟩
abbrev F.BASEPLATE_STATUS_PAIR_POS : Fld := ⟨R.BASEPLATE_STATUS, 5, 5⟩
abbrev F.BASEPLATE_STATUS_BP_TYPE : Fld := ⟨R.BASEPLATE_STATUS, 4, 2⟩
abbrev F.BASEPLATE_STATUS_MATE2 : Fld := ⟨R.BASEPLATE_STATUS, 1, 1⟩
abbrev F.BASEPLATE_STATUS_MATE1 : Fld := ⟨R.BASEPLATE_STATUS, 0, 0⟩
/-- Table 1.10. -/
abbrev R.SEAL_STATE : Reg := ⟨0x1001004, 0x1000, 1, 4, 1, 0, 0, false, 0, 0xFFFFFFFF, 0, 0⟩
abbrev F.SEAL_STATE_SWF : Fld := ⟨R.SEAL_STATE, 31, 16⟩
abbrev F.SEAL_STATE_SW : Fld := ⟨R.SEAL_STATE, 15, 0⟩
/-- Table 1.11. -/
abbrev R.SEAL_CHANGES : Reg := ⟨0x1001008, 0x1000, 1, 4, 1, 0, 0, false, 0, 0xFFFFFFFF, 0, 0⟩
/-- Table 1.13. -/
abbrev R.LED_STATE : Reg := ⟨0x100100C, 0x1000, 1, 4, 1, 2, 2, false, 0, 0x3FFFFFFF, 0, 0⟩
abbrev F.LED_STATE_PB1 : Fld := ⟨R.LED_STATE, 29, 27⟩
abbrev F.LED_STATE_PB0 : Fld := ⟨R.LED_STATE, 26, 24⟩
abbrev F.LED_STATE_PA1 : Fld := ⟨R.LED_STATE, 23, 21⟩
abbrev F.LED_STATE_PA0 : Fld := ⟨R.LED_STATE, 20, 18⟩
abbrev F.LED_STATE_SYNC : Fld := ⟨R.LED_STATE, 17, 15⟩
abbrev F.LED_STATE_PAIR : Fld := ⟨R.LED_STATE, 14, 12⟩
abbrev F.LED_STATE_SAFE : Fld := ⟨R.LED_STATE, 11, 9⟩
abbrev F.LED_STATE_FORCE : Fld := ⟨R.LED_STATE, 8, 6⟩
abbrev F.LED_STATE_FAULT : Fld := ⟨R.LED_STATE, 5, 3⟩
abbrev F.LED_STATE_RUN : Fld := ⟨R.LED_STATE, 2, 0⟩
/-- Table 3.7. -/
abbrev R.ID_PART : Reg := ⟨0x1000000, 0x1000, 1, 4, 1, 0x48580200, 0x48580200, false, 0, 0xFFFFFFFF, 0, 0⟩
abbrev F.ID_PART_FAMILY : Fld := ⟨R.ID_PART, 31, 16⟩
abbrev F.ID_PART_NUMBER : Fld := ⟨R.ID_PART, 15, 0⟩
/-- Table 3.7. -/
abbrev R.ID_ISSUE : Reg := ⟨0x1000004, 0x1000, 1, 4, 1, 0x420000, 0x420000, false, 0, 0xFFFFFF, 0, 0⟩
abbrev F.ID_ISSUE_ISSUE : Fld := ⟨R.ID_ISSUE, 23, 16⟩
abbrev F.ID_ISSUE_FW_MAJOR : Fld := ⟨R.ID_ISSUE, 15, 8⟩
abbrev F.ID_ISSUE_FW_MINOR : Fld := ⟨R.ID_ISSUE, 7, 0⟩
/-- Table 3.8. -/
abbrev R.ID_SERIAL : Reg := ⟨0x1000008, 0x1000, 1, 4, 2, 0, 0, true, 0, 0xFFFFFFFF, 0, 0⟩
/-- Table 3.9. -/
abbrev R.MODULE_ADDRESS : Reg := ⟨0x1000010, 0x1000, 1, 4, 1, 0, 0, false, 0, 0xFFF, 0, 0⟩
abbrev F.MODULE_ADDRESS_ADDR : Fld := ⟨R.MODULE_ADDRESS, 11, 0⟩
/-- Table 3.10. -/
abbrev R.START_STATUS : Reg := ⟨0x1002000, 0x1000, 1, 4, 1, 1, 1, false, 0, 0x1F, 0, 0⟩
abbrev F.START_STATUS_UNCONFIGURED : Fld := ⟨R.START_STATUS, 4, 4⟩
abbrev F.START_STATUS_STEP : Fld := ⟨R.START_STATUS, 3, 0⟩
/-- Table 3.10. -/
abbrev R.START_DURATION : Reg := ⟨0x1002004, 0x1000, 1, 4, 1, 0, 0, false, 0, 0xFFFFFFFF, 0, 0⟩
/-- Table 3.11. -/
abbrev R.SYS_RESTART : Reg := ⟨0x1002010, 0x1000, 1, 4, 1, 0, 0, false, 0, 0, 0, 0xFF⟩
abbrev F.SYS_RESTART_KEY : Fld := ⟨R.SYS_RESTART, 7, 0⟩

/-- Table 2.6. -/
abbrev R.FEED_STATUS : Reg := ⟨0x2000000, 0x1000, 1, 4, 1, 0, 0, false, 0, 0xFF, 0, 0⟩
abbrev F.FEED_STATUS_F2_CARRY : Fld := ⟨R.FEED_STATUS, 7, 7⟩
abbrev F.FEED_STATUS_F1_CARRY : Fld := ⟨R.FEED_STATUS, 6, 6⟩
abbrev F.FEED_STATUS_F2_OV : Fld := ⟨R.FEED_STATUS, 5, 5⟩
abbrev F.FEED_STATUS_F1_OV : Fld := ⟨R.FEED_STATUS, 4, 4⟩
abbrev F.FEED_STATUS_F2_UV : Fld := ⟨R.FEED_STATUS, 3, 3⟩
abbrev F.FEED_STATUS_F1_UV : Fld := ⟨R.FEED_STATUS, 2, 2⟩
abbrev F.FEED_STATUS_F2_VALID : Fld := ⟨R.FEED_STATUS, 1, 1⟩
abbrev F.FEED_STATUS_F1_VALID : Fld := ⟨R.FEED_STATUS, 0, 0⟩
/-- Table 2.7. -/
abbrev R.FEED_VOLTAGE : Reg := ⟨0x2000004, 0x1000, 1, 4, 1, 0, 0, false, 0, 0xFFFFFFFF, 0, 0⟩
abbrev F.FEED_VOLTAGE_F2_V : Fld := ⟨R.FEED_VOLTAGE, 31, 16⟩
abbrev F.FEED_VOLTAGE_F1_V : Fld := ⟨R.FEED_VOLTAGE, 15, 0⟩
/-- Table 2.8. -/
abbrev R.HOLDUP_STATUS : Reg := ⟨0x2000008, 0x1000, 1, 4, 1, 0, 0, false, 0, 0x3FFFFF, 0xFF000000, 0⟩
abbrev F.HOLDUP_STATUS_DIP_COUNT : Fld := ⟨R.HOLDUP_STATUS, 31, 24⟩
abbrev F.HOLDUP_STATUS_HOLDUP_OK : Fld := ⟨R.HOLDUP_STATUS, 21, 21⟩
abbrev F.HOLDUP_STATUS_CHARGING : Fld := ⟨R.HOLDUP_STATUS, 20, 20⟩
abbrev F.HOLDUP_STATUS_TEST : Fld := ⟨R.HOLDUP_STATUS, 19, 19⟩
abbrev F.HOLDUP_STATUS_CARRYING : Fld := ⟨R.HOLDUP_STATUS, 18, 18⟩
abbrev F.HOLDUP_STATUS_FAILED : Fld := ⟨R.HOLDUP_STATUS, 17, 17⟩
abbrev F.HOLDUP_STATUS_DEGRADED : Fld := ⟨R.HOLDUP_STATUS, 16, 16⟩
abbrev F.HOLDUP_STATUS_STORE_V : Fld := ⟨R.HOLDUP_STATUS, 15, 0⟩
/-- Table 2.9. -/
abbrev R.HOLDUP_CAPACITY : Reg := ⟨0x200000C, 0x1000, 1, 4, 1, 0, 0, false, 0, 0xFFFFFFFF, 0, 0⟩
abbrev F.HOLDUP_CAPACITY_HOLD_MS : Fld := ⟨R.HOLDUP_CAPACITY, 31, 16⟩
abbrev F.HOLDUP_CAPACITY_CAP_UF : Fld := ⟨R.HOLDUP_CAPACITY, 15, 0⟩
/-- Table 2.10. -/
abbrev R.FS_STATUS : Reg := ⟨0x2000010, 0x1000, 1, 4, 1, 0, 0, false, 0, 0xFFFFFFFF, 0, 0⟩
/-- Table 2.11. -/
abbrev R.FS_VOLTAGE : Reg := ⟨0x2000100, 4, 16, 4, 1, 0, 0, false, 0, 0xFFFF, 0, 0⟩
abbrev F.FS_VOLTAGE_FS_V : Fld := ⟨R.FS_VOLTAGE, 15, 0⟩
/-- Table 2.12. -/
abbrev R.DOMAIN_ON : Reg := ⟨0x2000020, 0x1000, 1, 4, 2, 0, 0x80000000, true, 0, 0xFFFFFFFF, 0, 0⟩
/-- Table 2.12. -/
abbrev R.DOMAIN_TRIP : Reg := ⟨0x2000028, 0x1000, 1, 4, 2, 0, 0, true, 0, 0, 0xFFFFFFFF, 0⟩
/-- Table 2.13. -/
abbrev R.THERMAL_STATUS : Reg := ⟨0x2000030, 0x1000, 1, 4, 1, 0, 0, false, 0, 0x1FFFFFFF, 0, 0⟩
abbrev F.THERMAL_STATUS_HOT_SENSOR : Fld := ⟨R.THERMAL_STATUS, 28, 24⟩
abbrev F.THERMAL_STATUS_EXCLUDED : Fld := ⟨R.THERMAL_STATUS, 23, 16⟩
abbrev F.THERMAL_STATUS_HOT_T : Fld := ⟨R.THERMAL_STATUS, 15, 0⟩
/-- Table 2.14. -/
abbrev R.THERMAL_SENSOR : Reg := ⟨0x2000200, 4, 24, 4, 1, 0, 0, false, 0, 0x8000FFFF, 0, 0⟩
abbrev F.THERMAL_SENSOR_EXCL : Fld := ⟨R.THERMAL_SENSOR, 31, 31⟩
abbrev F.THERMAL_SENSOR_T : Fld := ⟨R.THERMAL_SENSOR, 15, 0⟩

/-- Table 3.12. -/
abbrev R.CFG_STATUS : Reg := ⟨0x3000000, 0x1000, 1, 4, 1, 0, 0, false, 0, 0xFF0FFF3, 0, 0⟩
abbrev F.CFG_STATUS_RESULT_B : Fld := ⟨R.CFG_STATUS, 27, 24⟩
abbrev F.CFG_STATUS_RESULT_A : Fld := ⟨R.CFG_STATUS, 23, 20⟩
abbrev F.CFG_STATUS_SECTIONS : Fld := ⟨R.CFG_STATUS, 15, 8⟩
abbrev F.CFG_STATUS_FORMAT : Fld := ⟨R.CFG_STATUS, 7, 4⟩
abbrev F.CFG_STATUS_ACTIVE : Fld := ⟨R.CFG_STATUS, 1, 0⟩
/-- Table 3.13. -/
abbrev R.CFG_GEN : Reg := ⟨0x3000004, 4, 2, 4, 1, 0, 0, false, 0, 0xFFFFFFFF, 0, 0⟩
/-- Table 3.13. -/
abbrev R.CFG_FAIL_BLOCK : Reg := ⟨0x300000C, 0x1000, 1, 4, 1, 0xFFFFFFFF, 0xFFFFFFFF, false, 0, 0xFFFFFFFF, 0, 0⟩
abbrev F.CFG_FAIL_BLOCK_FAIL_B : Fld := ⟨R.CFG_FAIL_BLOCK, 31, 16⟩
abbrev F.CFG_FAIL_BLOCK_FAIL_A : Fld := ⟨R.CFG_FAIL_BLOCK, 15, 0⟩
/-- Table 3.14. -/
abbrev R.CFG_DIGEST : Reg := ⟨0x3000010, 4, 8, 4, 1, 0, 0, false, 0, 0xFFFFFFFF, 0, 0⟩
/-- Table 3.15. -/
abbrev R.CFG_SAFETY_CRC : Reg := ⟨0x3000030, 0x1000, 1, 4, 1, 0, 0, false, 0, 0xFFFFFFFF, 0, 0⟩
/-- Table 3.15. -/
abbrev R.CFG_SEAL : Reg := ⟨0x3000034, 0x1000, 1, 4, 1, 0, 0, false, 0, 0x3FFF, 0, 0⟩
abbrev F.CFG_SEAL_PRESENT : Fld := ⟨R.CFG_SEAL, 13, 13⟩
abbrev F.CFG_SEAL_MATCH : Fld := ⟨R.CFG_SEAL, 12, 12⟩
abbrev F.CFG_SEAL_EXPECT : Fld := ⟨R.CFG_SEAL, 11, 0⟩
/-- Table 3.16. -/
abbrev R.CFG_WR_CTRL : Reg := ⟨0x3000040, 0x1000, 1, 4, 1, 0, 0, false, 0, 0, 0, 0xFF00000F⟩
abbrev F.CFG_WR_CTRL_KEY : Fld := ⟨R.CFG_WR_CTRL, 31, 24⟩
abbrev F.CFG_WR_CTRL_CMD : Fld := ⟨R.CFG_WR_CTRL, 3, 0⟩
/-- Table 3.16. -/
abbrev R.CFG_WR_BLOCKS : Reg := ⟨0x3000044, 0x1000, 1, 4, 1, 0, 0, false, 0x1FFF, 0, 0, 0⟩
abbrev F.CFG_WR_BLOCKS_BLOCKS : Fld := ⟨R.CFG_WR_BLOCKS, 12, 0⟩
/-- Table 3.17. -/
abbrev R.CFG_WR_STATUS : Reg := ⟨0x3000048, 0x1000, 1, 4, 1, 0, 0, false, 0, 0xFFFFFFFF, 0, 0⟩
abbrev F.CFG_WR_STATUS_BLOCK : Fld := ⟨R.CFG_WR_STATUS, 31, 19⟩
abbrev F.CFG_WR_STATUS_WORD : Fld := ⟨R.CFG_WR_STATUS, 18, 9⟩
abbrev F.CFG_WR_STATUS_BANK : Fld := ⟨R.CFG_WR_STATUS, 8, 8⟩
abbrev F.CFG_WR_STATUS_RESULT : Fld := ⟨R.CFG_WR_STATUS, 7, 4⟩
abbrev F.CFG_WR_STATUS_STATE : Fld := ⟨R.CFG_WR_STATUS, 3, 0⟩
/-- Table 3.17. -/
abbrev R.CFG_WR_DATA : Reg := ⟨0x300004C, 0x1000, 1, 4, 1, 0, 0, false, 0, 0, 0, 0xFFFFFFFF⟩
/-- Table 3.17. -/
abbrev R.CFG_WR_SEAL : Reg := ⟨0x3000050, 0x1000, 1, 4, 1, 0, 0, false, 0, 0x2FFF, 0, 0⟩
abbrev F.CFG_WR_SEAL_PRESENT : Fld := ⟨R.CFG_WR_SEAL, 13, 13⟩
abbrev F.CFG_WR_SEAL_CRC12 : Fld := ⟨R.CFG_WR_SEAL, 11, 0⟩

/-- Table 4.8. -/
abbrev R.ACCT_STATE : Reg := ⟨0x4000000, 0x1000, 1, 4, 1, 0, 0, false, 0, 0xFFFFFFFF, 0, 0⟩
/-- Table 4.9. -/
abbrev R.MGMT_STATUS : Reg := ⟨0x4000004, 0x1000, 1, 4, 1, 0, 0, false, 0, 0xFFFF00FF, 0, 0⟩
abbrev F.MGMT_STATUS_AUTH_FAIL : Fld := ⟨R.MGMT_STATUS, 31, 16⟩
abbrev F.MGMT_STATUS_OPEN : Fld := ⟨R.MGMT_STATUS, 7, 0⟩
/-- Table 4.10. -/
abbrev R.ACCT_CTRL : Reg := ⟨0x4100000, 0x1000, 8, 4, 1, 0, 0, false, 0, 0, 0, 0xFF00000F⟩
abbrev F.ACCT_CTRL_KEY : Fld := ⟨R.ACCT_CTRL, 31, 24⟩
abbrev F.ACCT_CTRL_CMD : Fld := ⟨R.ACCT_CTRL, 3, 0⟩
/-- Table 4.11. -/
abbrev R.ACCT_STATUS : Reg := ⟨0x4100004, 0x1000, 8, 4, 1, 0, 0, false, 0, 0xFFFF000F, 0, 0⟩
abbrev F.ACCT_STATUS_CAUSE : Fld := ⟨R.ACCT_STATUS, 31, 24⟩
abbrev F.ACCT_STATUS_RESETS : Fld := ⟨R.ACCT_STATUS, 23, 16⟩
abbrev F.ACCT_STATUS_STATE : Fld := ⟨R.ACCT_STATUS, 3, 0⟩
/-- Table 4.12. -/
abbrev R.ACCT_QUOTA_0 : Reg := ⟨0x4100008, 0x1000, 8, 4, 1, 0, 0, false, 0x3FF07FF, 0, 0, 0⟩
abbrev F.ACCT_QUOTA_0_TILLS : Fld := ⟨R.ACCT_QUOTA_0, 25, 21⟩
abbrev F.ACCT_QUOTA_0_TASKS : Fld := ⟨R.ACCT_QUOTA_0, 20, 16⟩
abbrev F.ACCT_QUOTA_0_TILL_UNITS : Fld := ⟨R.ACCT_QUOTA_0, 10, 0⟩
/-- Table 4.13. -/
abbrev R.ACCT_QUOTA_1 : Reg := ⟨0x410000C, 0x1000, 8, 4, 1, 0, 0, false, 0x3FFF1FFF, 0, 0, 0⟩
abbrev F.ACCT_QUOTA_1_FIRING : Fld := ⟨R.ACCT_QUOTA_1, 29, 16⟩
abbrev F.ACCT_QUOTA_1_TAGS : Fld := ⟨R.ACCT_QUOTA_1, 12, 0⟩
/-- Table 4.13. -/
abbrev R.ACCT_QUOTA_2 : Reg := ⟨0x4100010, 0x1000, 8, 4, 1, 0, 0, false, 0x3FFFF, 0, 0, 0⟩
abbrev F.ACCT_QUOTA_2_SIGNALS : Fld := ⟨R.ACCT_QUOTA_2, 17, 0⟩
/-- Table 4.14. -/
abbrev R.ACCT_COUNTS : Reg := ⟨0x4100014, 0x1000, 8, 4, 1, 0, 0, false, 0, 0xFFFFFFFF, 0, 0⟩
abbrev F.ACCT_COUNTS_TOOBIG : Fld := ⟨R.ACCT_COUNTS, 31, 16⟩
abbrev F.ACCT_COUNTS_BUSY : Fld := ⟨R.ACCT_COUNTS, 15, 0⟩
/-- Table 4.15. -/
abbrev R.ACCT_CFG : Reg := ⟨0x4100018, 0x1000, 8, 4, 1, 0, 0, false, 0x3FF, 0, 0, 0⟩
abbrev F.ACCT_CFG_LATE_TOL : Fld := ⟨R.ACCT_CFG, 9, 0⟩
/-- Table 4.16. -/
abbrev R.ACCT_KEY : Reg := ⟨0x4100040, 0x1000, 8, 4, 8, 0, 0, false, 0, 0, 0, 0xFFFFFFFF⟩
/-- Table 4.17. -/
abbrev R.TILL_CFG : Reg := ⟨0x4200000, 0x10000, 8, 0x1000, 16, 0, 0, false, 0x8FFFF01F, 0, 0, 0⟩
abbrev F.TILL_CFG_ECC2_FAULT : Fld := ⟨R.TILL_CFG, 31, 31⟩
abbrev F.TILL_CFG_CONS_INDEX : Fld := ⟨R.TILL_CFG, 27, 24⟩
abbrev F.TILL_CFG_CONS_KIND : Fld := ⟨R.TILL_CFG, 23, 20⟩
abbrev F.TILL_CFG_PROD_INDEX : Fld := ⟨R.TILL_CFG, 19, 16⟩
abbrev F.TILL_CFG_PROD_KIND : Fld := ⟨R.TILL_CFG, 15, 12⟩
abbrev F.TILL_CFG_SIZE_LOG2 : Fld := ⟨R.TILL_CFG, 4, 0⟩
/-- Table 4.17. -/
abbrev R.TILL_STATUS : Reg := ⟨0x4200004, 0x10000, 8, 0x1000, 16, 0x40000000, 0x40000000, false, 0, 0x6001FFFF, 0x80000000, 0⟩
abbrev F.TILL_STATUS_ECC2 : Fld := ⟨R.TILL_STATUS, 31, 31⟩
abbrev F.TILL_STATUS_EMPTY : Fld := ⟨R.TILL_STATUS, 30, 30⟩
abbrev F.TILL_STATUS_FULL : Fld := ⟨R.TILL_STATUS, 29, 29⟩
abbrev F.TILL_STATUS_RESERVED : Fld := ⟨R.TILL_STATUS, 16, 0⟩
/-- Table 4.18. -/
abbrev R.TILL_LEVEL : Reg := ⟨0x4200008, 0x10000, 8, 0x1000, 16, 0, 0, false, 0, 0x1FFFF, 0, 0⟩
abbrev F.TILL_LEVEL_USED : Fld := ⟨R.TILL_LEVEL, 16, 0⟩
/-- Table 4.18. -/
abbrev R.TILL_UNREAD : Reg := ⟨0x420000C, 0x10000, 8, 0x1000, 16, 0, 0, false, 0, 0x1FFFF, 0, 0⟩
abbrev F.TILL_UNREAD_UNREAD : Fld := ⟨R.TILL_UNREAD, 16, 0⟩
/-- Table 4.18. -/
abbrev R.TILL_CMD : Reg := ⟨0x4200010, 0x10000, 8, 0x1000, 16, 0, 0, false, 0, 0, 0, 3⟩
abbrev F.TILL_CMD_CMD : Fld := ⟨R.TILL_CMD, 1, 0⟩
/-- Table 4.18. -/
abbrev R.TILL_ECC : Reg := ⟨0x4200014, 0x10000, 8, 0x1000, 16, 0, 0, false, 0, 0xFFFFFFFF, 0, 0⟩
abbrev F.TILL_ECC_UNCORRECTED : Fld := ⟨R.TILL_ECC, 31, 16⟩
abbrev F.TILL_ECC_CORRECTED : Fld := ⟨R.TILL_ECC, 15, 0⟩
/-- Table 4.19. -/
abbrev R.SESSION_STATUS : Reg := ⟨0x4300000, 0x1000, 8, 4, 1, 0, 0, false, 0, 0xFFFBFFE1, 0, 0⟩
abbrev F.SESSION_STATUS_PEER : Fld := ⟨R.SESSION_STATUS, 31, 20⟩
abbrev F.SESSION_STATUS_PORT : Fld := ⟨R.SESSION_STATUS, 19, 19⟩
abbrev F.SESSION_STATUS_MAP : Fld := ⟨R.SESSION_STATUS, 17, 16⟩
abbrev F.SESSION_STATUS_IDLE_S : Fld := ⟨R.SESSION_STATUS, 15, 8⟩
abbrev F.SESSION_STATUS_ACCOUNT : Fld := ⟨R.SESSION_STATUS, 7, 5⟩
abbrev F.SESSION_STATUS_OPEN : Fld := ⟨R.SESSION_STATUS, 0, 0⟩
/-- Table 4.19. -/
abbrev R.SESSION_CTRL : Reg := ⟨0x4300004, 0x1000, 8, 4, 1, 0, 0, false, 0, 0, 0, 0xFF000001⟩
abbrev F.SESSION_CTRL_KEY : Fld := ⟨R.SESSION_CTRL, 31, 24⟩
abbrev F.SESSION_CTRL_CLOSE : Fld := ⟨R.SESSION_CTRL, 0, 0⟩
/-- Table 4.18. -/
abbrev R.TILL_DATA_LO : Reg := ⟨0x4200020, 0x10000, 8, 0x1000, 16, 0, 0, false, 0xFFFFFFFF, 0, 0, 0⟩
/-- Table 4.18. -/
abbrev R.TILL_DATA_HI : Reg := ⟨0x4200024, 0x10000, 8, 0x1000, 16, 0, 0, false, 0xFFFFFFFF, 0, 0, 0⟩

/-- Table 5.12. -/
abbrev R.SAFE_CMP : Reg := ⟨0x5000000, 0x1000, 1, 4, 1, 0x1F1F, 0x1F1F, false, 0, 0xFF001F1F, 0, 0⟩
abbrev F.SAFE_CMP_MISMATCHES : Fld := ⟨R.SAFE_CMP, 31, 24⟩
abbrev F.SAFE_CMP_WHEEL_2 : Fld := ⟨R.SAFE_CMP, 12, 8⟩
abbrev F.SAFE_CMP_WHEEL_1 : Fld := ⟨R.SAFE_CMP, 4, 0⟩
/-- Table 5.13. -/
abbrev R.WHEEL_LOAD : Reg := ⟨0x5000100, 4, 18, 4, 1, 0, 0, false, 0, 0x3FF, 0, 0⟩
abbrev F.WHEEL_LOAD_BUSY : Fld := ⟨R.WHEEL_LOAD, 9, 0⟩
/-- Table 5.14. -/
abbrev R.PROG_CODE : Reg := ⟨0x5100000, 0x1000, 64, 4, 1, 0, 0, false, 0x1FF, 0, 0, 0⟩
abbrev F.PROG_CODE_CODE_UNITS : Fld := ⟨R.PROG_CODE, 8, 0⟩
/-- Table 5.14. -/
abbrev R.PROG_DATA : Reg := ⟨0x5100004, 0x1000, 64, 4, 1, 0, 0, false, 0x1FF, 0, 0, 0⟩
abbrev F.PROG_DATA_DATA_UNITS : Fld := ⟨R.PROG_DATA, 8, 0⟩
/-- Table 5.14. -/
abbrev R.PROG_ENTRY : Reg := ⟨0x5100008, 0x1000, 64, 4, 1, 0xFFFF0000, 0xFFFF0000, false, 0xFFFFFFFF, 0, 0, 0⟩
abbrev F.PROG_ENTRY_TRAP_VEC : Fld := ⟨R.PROG_ENTRY, 31, 16⟩
abbrev F.PROG_ENTRY_ENTRY : Fld := ⟨R.PROG_ENTRY, 15, 0⟩
/-- Table 5.15. -/
abbrev R.PROG_TRAPMASK : Reg := ⟨0x510000C, 0x1000, 64, 4, 1, 0, 0, false, 0xFF, 0, 0, 0⟩
abbrev F.PROG_TRAPMASK_MASK : Fld := ⟨R.PROG_TRAPMASK, 7, 0⟩
/-- Table 5.15. -/
abbrev R.PROG_STATUS : Reg := ⟨0x5100010, 0x1000, 64, 4, 1, 0, 0, false, 0, 0xFFFFFFFF, 0, 0⟩
abbrev F.PROG_STATUS_TRAPS : Fld := ⟨R.PROG_STATUS, 31, 24⟩
abbrev F.PROG_STATUS_LAST_CAUSE : Fld := ⟨R.PROG_STATUS, 23, 16⟩
abbrev F.PROG_STATUS_TRAP_PC : Fld := ⟨R.PROG_STATUS, 15, 0⟩
/-- Table 5.15. -/
abbrev R.PROG_FLAGS : Reg := ⟨0x5100020, 0x1000, 64, 4, 1, 0, 0, false, 0, 0x3FF, 0, 0⟩
abbrev F.PROG_FLAGS_FLAGS : Fld := ⟨R.PROG_FLAGS, 9, 0⟩
/-- Table 5.16. -/
abbrev R.PROG_CYCLES : Reg := ⟨0x5100014, 0x1000, 64, 4, 1, 0, 0, false, 0, 0xFFFFFFFF, 0, 0⟩
/-- Table 5.16. -/
abbrev R.PROG_CYCLES_MAX : Reg := ⟨0x5100018, 0x1000, 64, 4, 1, 0, 0, false, 0, 0xFFFFFFFF, 0, 0⟩
/-- Table 5.16. -/
abbrev R.PROG_CRC : Reg := ⟨0x510001C, 0x1000, 64, 4, 1, 0, 0, false, 0, 0xFFFFFFFF, 0, 0⟩
/-- Table 5.17. -/
abbrev R.CODE_WIN_ADDR : Reg := ⟨0x5100030, 0x1000, 64, 4, 1, 0, 0, false, 0xFFFFFFFF, 0, 0, 0⟩
/-- Table 5.17. -/
abbrev R.DATA_WIN_ADDR : Reg := ⟨0x5100038, 0x1000, 64, 4, 1, 0, 0, false, 0xFFFFFFFF, 0, 0, 0⟩
/-- Table 5.17. -/
abbrev R.CODE_WIN_DATA : Reg := ⟨0x5100034, 0x1000, 64, 4, 1, 0, 0, false, 0xFFFFFFFF, 0, 0, 0⟩
/-- Table 5.17. -/
abbrev R.DATA_WIN_DATA : Reg := ⟨0x510003C, 0x1000, 64, 4, 1, 0, 0, false, 0xFFFFFFFF, 0, 0, 0⟩
/-- Table 5.17. -/
abbrev R.PROG_OWNER : Reg := ⟨0x5100FFC, 0x1000, 64, 4, 1, 0, 0, false, 7, 0, 0, 0⟩
abbrev F.PROG_OWNER_ACCOUNT : Fld := ⟨R.PROG_OWNER, 2, 0⟩

/-- Table 6.9. -/
abbrev R.CH_MERGE_MAX : Reg := ⟨0x6000000, 0x1000, 1, 4, 1, 0, 0, false, 0, 0xFFFFFFFF, 0, 0⟩
/-- Table 6.9. -/
abbrev R.CH_WAIT_MAX : Reg := ⟨0x6000004, 0x1000, 1, 4, 1, 0, 0, false, 0, 0xFFFFFFFF, 0, 0⟩
/-- Table 6.9. -/
abbrev R.SNAP_MAX : Reg := ⟨0x6000008, 0x1000, 1, 4, 1, 0, 0, false, 0, 0xFFFFFFFF, 0, 0⟩
/-- Table 6.10. -/
abbrev R.FORCE_STATUS : Reg := ⟨0x600000C, 0x1000, 1, 4, 1, 0, 0, false, 0, 0x800007FF, 0, 0⟩
abbrev F.FORCE_STATUS_FORCED : Fld := ⟨R.FORCE_STATUS, 31, 31⟩
abbrev F.FORCE_STATUS_COUNT : Fld := ⟨R.FORCE_STATUS, 10, 0⟩
/-- Table 6.10. -/
abbrev R.IMAGE_ECC : Reg := ⟨0x6000010, 0x1000, 1, 4, 1, 0, 0, false, 0, 0xFFFFFFFF, 0, 0⟩
abbrev F.IMAGE_ECC_UNCORRECTED : Fld := ⟨R.IMAGE_ECC, 31, 16⟩
abbrev F.IMAGE_ECC_CORRECTED : Fld := ⟨R.IMAGE_ECC, 15, 0⟩
/-- Table 6.10. -/
abbrev R.RELEASE_BASE : Reg := ⟨0x6000018, 0x1000, 1, 4, 2, 0, 0, true, 0, 0xFFFFFFFF, 0, 0⟩
/-- Table 6.11. -/
abbrev R.TASK_CFG : Reg := ⟨0x6100000, 0x1000, 64, 4, 1, 0, 0, false, 0x800FFF00, 0, 0, 0⟩
abbrev F.TASK_CFG_PRESENT : Fld := ⟨R.TASK_CFG, 31, 31⟩
abbrev F.TASK_CFG_LWHEEL : Fld := ⟨R.TASK_CFG, 19, 16⟩
abbrev F.TASK_CFG_INDEX : Fld := ⟨R.TASK_CFG, 15, 12⟩
abbrev F.TASK_CFG_PRIORITY : Fld := ⟨R.TASK_CFG, 11, 8⟩
/-- Table 6.11. -/
abbrev R.TASK_PERIOD : Reg := ⟨0x6100004, 0x1000, 64, 4, 1, 0, 0, false, 0x3FFFFFF, 0, 0, 0⟩
abbrev F.TASK_PERIOD_PERIOD_US : Fld := ⟨R.TASK_PERIOD, 25, 0⟩
/-- Table 6.11. -/
abbrev R.TASK_PHASE : Reg := ⟨0x6100008, 0x1000, 64, 4, 1, 0, 0, false, 0x3FFFFFF, 0, 0, 0⟩
abbrev F.TASK_PHASE_PHASE_US : Fld := ⟨R.TASK_PHASE, 25, 0⟩
/-- Table 6.12. -/
abbrev R.TASK_OVR : Reg := ⟨0x610000C, 0x1000, 64, 4, 1, 0, 0, false, 0xFFFFFFFF, 0, 0, 0⟩
abbrev F.TASK_OVR_ACTION : Fld := ⟨R.TASK_OVR, 31, 30⟩
abbrev F.TASK_OVR_TOL : Fld := ⟨R.TASK_OVR, 29, 26⟩
abbrev F.TASK_OVR_MAX_LATE_US : Fld := ⟨R.TASK_OVR, 25, 0⟩
/-- Table 6.12. -/
abbrev R.TASK_STATUS : Reg := ⟨0x6100010, 0x1000, 64, 4, 1, 0, 0, false, 0, 0xFF000000, 0, 0⟩
abbrev F.TASK_STATUS_CONSEC : Fld := ⟨R.TASK_STATUS, 31, 27⟩
abbrev F.TASK_STATUS_STATE : Fld := ⟨R.TASK_STATUS, 26, 24⟩
/-- Table 6.12. -/
abbrev R.TASK_COUNTS : Reg := ⟨0x6100014, 0x1000, 64, 4, 1, 0, 0, false, 0, 0xFFFFFFFF, 0, 0⟩
abbrev F.TASK_COUNTS_OVERRUNS : Fld := ⟨R.TASK_COUNTS, 31, 16⟩
abbrev F.TASK_COUNTS_SKIPPED : Fld := ⟨R.TASK_COUNTS, 15, 0⟩
/-- Table 6.13. -/
abbrev R.TASK_LAST : Reg := ⟨0x6100018, 0x1000, 64, 4, 1, 0, 0, false, 0, 0xFFFFFFFF, 0, 0⟩
/-- Table 6.13. -/
abbrev R.TASK_MAX : Reg := ⟨0x610001C, 0x1000, 64, 4, 1, 0, 0, false, 0, 0xFFFFFFFF, 0, 0⟩
/-- Table 6.13. -/
abbrev R.TASK_RELEASES : Reg := ⟨0x6100020, 0x1000, 64, 4, 2, 0, 0, true, 0, 0xFFFFFFFF, 0, 0⟩
/-- Table 6.14. -/
abbrev R.SLOT_WIN_ADDR : Reg := ⟨0x6100030, 0x1000, 64, 4, 1, 0, 0, false, 0xFFFFFFFF, 0, 0, 0⟩
/-- Table 6.14. -/
abbrev R.SLOT_WIN_DATA : Reg := ⟨0x6100034, 0x1000, 64, 4, 1, 0, 0, false, 0xFFFFFFFF, 0, 0, 0⟩
/-- Table 6.14. -/
abbrev R.SLOT_COUNT : Reg := ⟨0x6100038, 0x1000, 64, 4, 1, 0, 0, false, 0, 0x1FFF, 0, 0⟩
abbrev F.SLOT_COUNT_USED : Fld := ⟨R.SLOT_COUNT, 12, 0⟩
/-- Table 6.14. -/
abbrev R.TASK_OWNER : Reg := ⟨0x6100FFC, 0x1000, 64, 4, 1, 0, 0, false, 7, 0, 0, 0⟩
abbrev F.TASK_OWNER_ACCOUNT : Fld := ⟨R.TASK_OWNER, 2, 0⟩
/-- Table 6.15. -/
abbrev R.SIG_WIN_ADDR : Reg := ⟨0x6200000, 0x1000, 8, 4, 1, 0, 0, false, 0xFFFFFFFF, 0, 0, 0⟩
/-- Table 6.15. -/
abbrev R.SIG_WIN_DATA : Reg := ⟨0x6200004, 0x1000, 8, 4, 1, 0, 0, false, 0xFFFFFFFF, 0, 0, 0⟩
/-- Table 6.15. -/
abbrev R.SIG_COUNT : Reg := ⟨0x6200008, 0x1000, 8, 4, 1, 0, 0, false, 0, 0x3FFFF, 0, 0⟩
abbrev F.SIG_COUNT_COUNT : Fld := ⟨R.SIG_COUNT, 17, 0⟩
/-- Table 6.16. -/
abbrev R.FORCE_SIGNAL : Reg := ⟨0x6300000, 0x1000, 8, 4, 1, 0, 0, false, 0xFFFFFFFF, 0, 0, 0⟩
/-- Table 6.16. -/
abbrev R.FORCE_VALUE : Reg := ⟨0x6300004, 0x1000, 8, 4, 2, 0, 0, true, 0xFFFFFFFF, 0, 0, 0⟩
/-- Table 6.16. -/
abbrev R.FORCE_CTRL : Reg := ⟨0x630000C, 0x1000, 8, 4, 1, 0, 0, false, 0, 0, 0, 0xFF000003⟩
abbrev F.FORCE_CTRL_KEY : Fld := ⟨R.FORCE_CTRL, 31, 24⟩
abbrev F.FORCE_CTRL_CMD : Fld := ⟨R.FORCE_CTRL, 1, 0⟩
/-- Table 6.16. -/
abbrev R.FORCE_RESULT : Reg := ⟨0x6300010, 0x1000, 8, 4, 1, 0, 0, false, 0, 0xFF0007FF, 0, 0⟩
abbrev F.FORCE_RESULT_STATUS : Fld := ⟨R.FORCE_RESULT, 31, 24⟩
abbrev F.FORCE_RESULT_COUNT : Fld := ⟨R.FORCE_RESULT, 10, 0⟩
/-- Table 6.16. -/
abbrev R.FORCE_LIST_ADDR : Reg := ⟨0x6300020, 0x1000, 8, 4, 1, 0, 0, false, 0xFFFFFFFF, 0, 0, 0⟩
/-- Table 6.16. -/
abbrev R.FORCE_LIST_DATA : Reg := ⟨0x6300024, 0x1000, 8, 4, 1, 0, 0, false, 0, 0xFFFFFFFF, 0, 0⟩

/-- Table 7.6. -/
abbrev R.FIRE_STATUS : Reg := ⟨0x7000000, 0x1000, 1, 4, 1, 0, 0, false, 0, 0xC0003FFF, 0, 0⟩
abbrev F.FIRE_STATUS_TS_VALID : Fld := ⟨R.FIRE_STATUS, 31, 31⟩
abbrev F.FIRE_STATUS_HOLDOVER : Fld := ⟨R.FIRE_STATUS, 30, 30⟩
abbrev F.FIRE_STATUS_PENDING : Fld := ⟨R.FIRE_STATUS, 13, 0⟩
/-- Table 7.6. -/
abbrev R.FIRE_PEAK : Reg := ⟨0x7000004, 0x1000, 1, 4, 1, 0, 0, false, 0, 0xFFFF3FFF, 0, 0⟩
abbrev F.FIRE_PEAK_DUE_MAX : Fld := ⟨R.FIRE_PEAK, 31, 16⟩
abbrev F.FIRE_PEAK_PEAK : Fld := ⟨R.FIRE_PEAK, 13, 0⟩
/-- Table 7.7. -/
abbrev R.FIRE_CFG : Reg := ⟨0x7100000, 0x1000, 8, 4, 1, 0, 0, false, 1, 0, 0, 0⟩
abbrev F.FIRE_CFG_HOLD_NOSYNC : Fld := ⟨R.FIRE_CFG, 0, 0⟩
/-- Table 7.7. -/
abbrev R.FIRE_USED : Reg := ⟨0x7100004, 0x1000, 8, 4, 1, 0, 0, false, 0, 0x3FFF3FFF, 0, 0⟩
abbrev F.FIRE_USED_PEAK : Fld := ⟨R.FIRE_USED, 29, 16⟩
abbrev F.FIRE_USED_USED : Fld := ⟨R.FIRE_USED, 13, 0⟩
/-- Table 7.8. -/
abbrev R.FIRE_COUNTS_0 : Reg := ⟨0x7100008, 0x1000, 8, 4, 1, 0, 0, false, 0, 0xFFFFFFFF, 0, 0⟩
abbrev F.FIRE_COUNTS_0_LATE : Fld := ⟨R.FIRE_COUNTS_0, 31, 16⟩
abbrev F.FIRE_COUNTS_0_DISCARD : Fld := ⟨R.FIRE_COUNTS_0, 15, 0⟩
/-- Table 7.8. -/
abbrev R.FIRE_COUNTS_1 : Reg := ⟨0x710000C, 0x1000, 8, 4, 1, 0, 0, false, 0, 0xFFFFFFFF, 0, 0⟩
abbrev F.FIRE_COUNTS_1_NOSYNC : Fld := ⟨R.FIRE_COUNTS_1, 31, 16⟩
abbrev F.FIRE_COUNTS_1_NOSPACE : Fld := ⟨R.FIRE_COUNTS_1, 15, 0⟩
/-- Table 7.8. -/
abbrev R.FIRE_COUNTS_2 : Reg := ⟨0x7100010, 0x1000, 8, 4, 1, 0, 0, false, 0, 0xFFFFFFFF, 0, 0⟩
abbrev F.FIRE_COUNTS_2_RANGE : Fld := ⟨R.FIRE_COUNTS_2, 31, 16⟩
abbrev F.FIRE_COUNTS_2_REMOVED : Fld := ⟨R.FIRE_COUNTS_2, 15, 0⟩
/-- Table 7.9. -/
abbrev R.FIRE_APPLIED : Reg := ⟨0x7100018, 0x1000, 8, 4, 2, 0, 0, true, 0, 0xFFFFFFFF, 0, 0⟩
/-- Table 7.9. -/
abbrev R.FIRE_LAST : Reg := ⟨0x7100020, 0x1000, 8, 4, 1, 0, 0, false, 0, 0xFF11FFFF, 0, 0⟩
abbrev F.FIRE_LAST_STATUS : Fld := ⟨R.FIRE_LAST, 31, 24⟩
abbrev F.FIRE_LAST_KIND : Fld := ⟨R.FIRE_LAST, 20, 20⟩
abbrev F.FIRE_LAST_TARGET : Fld := ⟨R.FIRE_LAST, 16, 0⟩
/-- Table 7.9. -/
abbrev R.FIRE_LAST_TIME : Reg := ⟨0x7100028, 0x1000, 8, 4, 2, 0, 0, true, 0, 0xFFFFFFFF, 0, 0⟩
/-- Table 7.10. -/
abbrev R.FIRE_LIST_ADDR : Reg := ⟨0x7100030, 0x1000, 8, 4, 1, 0, 0, false, 0xFFFFFFFF, 0, 0, 0⟩
/-- Table 7.10. -/
abbrev R.FIRE_LIST_DATA : Reg := ⟨0x7100034, 0x1000, 8, 4, 1, 0, 0, false, 0, 0xFFFFFFFF, 0, 0⟩

/-- Table 8.16. -/
abbrev R.AS_SUMMARY : Reg := ⟨0x8000000, 0x1000, 1, 4, 1, 0, 0, false, 0, 0x3F, 0, 0⟩
abbrev F.AS_SUMMARY_SLICE_FAULT : Fld := ⟨R.AS_SUMMARY, 5, 0⟩
/-- Table 8.16. -/
abbrev R.AS_CJ : Reg := ⟨0x8010000, 0x1000, 6, 4, 4, 0, 0, false, 0, 0xFFFF, 0, 0⟩
abbrev F.AS_CJ_T : Fld := ⟨R.AS_CJ, 15, 0⟩
/-- Table 8.17. -/
abbrev R.AS_FAULT : Reg := ⟨0x8010010, 0x1000, 6, 4, 1, 0, 0, false, 0, 0xFFFFFFFF, 0, 0⟩
/-- Table 8.18. -/
abbrev R.ACH_CFG : Reg := ⟨0x8100000, 0x1000, 192, 4, 1, 0, 0, false, 0xFFF78000, 0, 0, 0⟩
abbrev F.ACH_CFG_MODE : Fld := ⟨R.ACH_CFG, 31, 28⟩
abbrev F.ACH_CFG_RANGE : Fld := ⟨R.ACH_CFG, 27, 25⟩
abbrev F.ACH_CFG_WIRES : Fld := ⟨R.ACH_CFG, 24, 22⟩
abbrev F.ACH_CFG_LOOP_PWR : Fld := ⟨R.ACH_CFG, 21, 21⟩
abbrev F.ACH_CFG_FAIL_HIGH : Fld := ⟨R.ACH_CFG, 20, 20⟩
abbrev F.ACH_CFG_OUT_INVALID : Fld := ⟨R.ACH_CFG, 18, 17⟩
abbrev F.ACH_CFG_BURNOUT : Fld := ⟨R.ACH_CFG, 16, 16⟩
abbrev F.ACH_CFG_SCALE_SEL : Fld := ⟨R.ACH_CFG, 15, 15⟩
/-- Table 8.19. -/
abbrev R.ACH_RATE : Reg := ⟨0x8100004, 0x1000, 192, 4, 1, 0x80000000, 0x80000000, false, 0xE0FFFFFF, 0, 0, 0⟩
abbrev F.ACH_RATE_RATE : Fld := ⟨R.ACH_RATE, 31, 29⟩
abbrev F.ACH_RATE_FILT_TC_US : Fld := ⟨R.ACH_RATE, 23, 0⟩
/-- Table 8.19. -/
abbrev R.ACH_DIAG : Reg := ⟨0x8100008, 0x1000, 192, 4, 1, 0, 0, false, 0x3FF0000, 0, 0, 0⟩
abbrev F.ACH_DIAG_DIAG_MS : Fld := ⟨R.ACH_DIAG, 25, 16⟩
/-- Table 8.19. -/
abbrev R.ACH_OUT_SIG : Reg := ⟨0x810000C, 0x1000, 192, 4, 1, 0, 0, false, 0x1FFFF, 0, 0, 0⟩
abbrev F.ACH_OUT_SIG_SIGNAL : Fld := ⟨R.ACH_OUT_SIG, 16, 0⟩
/-- Table 8.19. -/
abbrev R.ACH_CJ : Reg := ⟨0x8100010, 0x1000, 192, 4, 1, 0, 0, false, 0xC001FFFF, 0, 0, 0⟩
abbrev F.ACH_CJ_CJ_SRC : Fld := ⟨R.ACH_CJ, 31, 30⟩
abbrev F.ACH_CJ_CJ_SIGNAL : Fld := ⟨R.ACH_CJ, 16, 0⟩
/-- Table 8.20. -/
abbrev R.ACH_CJ_FIXED : Reg := ⟨0x8100018, 0x1000, 192, 4, 2, 0, 0x40390000, true, 0xFFFFFFFF, 0, 0, 0⟩
/-- Table 8.20. -/
abbrev R.ACH_LEAD : Reg := ⟨0x8100020, 0x1000, 192, 4, 2, 0, 0, true, 0xFFFFFFFF, 0, 0, 0⟩
/-- Table 8.20. -/
abbrev R.ACH_GAIN_0 : Reg := ⟨0x8100030, 0x1000, 192, 4, 2, 0, 0x3FF00000, true, 0xFFFFFFFF, 0, 0, 0⟩
/-- Table 8.20. -/
abbrev R.ACH_GAIN_1 : Reg := ⟨0x8100040, 0x1000, 192, 4, 2, 0, 0x3FF00000, true, 0xFFFFFFFF, 0, 0, 0⟩
/-- Table 8.20. -/
abbrev R.ACH_OFFSET_0 : Reg := ⟨0x8100038, 0x1000, 192, 4, 2, 0, 0, true, 0xFFFFFFFF, 0, 0, 0⟩
/-- Table 8.20. -/
abbrev R.ACH_OFFSET_1 : Reg := ⟨0x8100048, 0x1000, 192, 4, 2, 0, 0, true, 0xFFFFFFFF, 0, 0, 0⟩
/-- Table 8.21. -/
abbrev R.ACH_STATUS : Reg := ⟨0x8100060, 0x1000, 192, 4, 1, 0, 0, false, 0, 0x3FFFF, 0, 0⟩
abbrev F.ACH_STATUS_SAFEDRIVE : Fld := ⟨R.ACH_STATUS, 17, 17⟩
abbrev F.ACH_STATUS_FAILDRIVE : Fld := ⟨R.ACH_STATUS, 16, 16⟩
abbrev F.ACH_STATUS_THERMAL : Fld := ⟨R.ACH_STATUS, 15, 15⟩
abbrev F.ACH_STATUS_RANGE_ZONE : Fld := ⟨R.ACH_STATUS, 14, 14⟩
abbrev F.ACH_STATUS_CLAMP : Fld := ⟨R.ACH_STATUS, 13, 13⟩
abbrev F.ACH_STATUS_RECONFIG : Fld := ⟨R.ACH_STATUS, 12, 12⟩
abbrev F.ACH_STATUS_LINK : Fld := ⟨R.ACH_STATUS, 11, 11⟩
abbrev F.ACH_STATUS_CJ_FAULT : Fld := ⟨R.ACH_STATUS, 10, 10⟩
abbrev F.ACH_STATUS_FS_LOW : Fld := ⟨R.ACH_STATUS, 9, 9⟩
abbrev F.ACH_STATUS_LOAD_HIGH : Fld := ⟨R.ACH_STATUS, 8, 8⟩
abbrev F.ACH_STATUS_EXTSRC : Fld := ⟨R.ACH_STATUS, 7, 7⟩
abbrev F.ACH_STATUS_RB_DIFF : Fld := ⟨R.ACH_STATUS, 6, 6⟩
abbrev F.ACH_STATUS_OVERLOAD : Fld := ⟨R.ACH_STATUS, 5, 5⟩
abbrev F.ACH_STATUS_OVER : Fld := ⟨R.ACH_STATUS, 4, 4⟩
abbrev F.ACH_STATUS_HIGH_FAIL : Fld := ⟨R.ACH_STATUS, 3, 3⟩
abbrev F.ACH_STATUS_LOW_FAIL : Fld := ⟨R.ACH_STATUS, 2, 2⟩
abbrev F.ACH_STATUS_SHORT : Fld := ⟨R.ACH_STATUS, 1, 1⟩
abbrev F.ACH_STATUS_OPEN : Fld := ⟨R.ACH_STATUS, 0, 0⟩
/-- Table 8.21. -/
abbrev R.ACH_LATCH : Reg := ⟨0x8100064, 0x1000, 192, 4, 1, 0, 0, false, 0, 0, 0x3FFFF, 0⟩
abbrev F.ACH_LATCH_SAFEDRIVE : Fld := ⟨R.ACH_LATCH, 17, 17⟩
abbrev F.ACH_LATCH_FAILDRIVE : Fld := ⟨R.ACH_LATCH, 16, 16⟩
abbrev F.ACH_LATCH_THERMAL : Fld := ⟨R.ACH_LATCH, 15, 15⟩
abbrev F.ACH_LATCH_RANGE_ZONE : Fld := ⟨R.ACH_LATCH, 14, 14⟩
abbrev F.ACH_LATCH_CLAMP : Fld := ⟨R.ACH_LATCH, 13, 13⟩
abbrev F.ACH_LATCH_RECONFIG : Fld := ⟨R.ACH_LATCH, 12, 12⟩
abbrev F.ACH_LATCH_LINK : Fld := ⟨R.ACH_LATCH, 11, 11⟩
abbrev F.ACH_LATCH_CJ_FAULT : Fld := ⟨R.ACH_LATCH, 10, 10⟩
abbrev F.ACH_LATCH_FS_LOW : Fld := ⟨R.ACH_LATCH, 9, 9⟩
abbrev F.ACH_LATCH_LOAD_HIGH : Fld := ⟨R.ACH_LATCH, 8, 8⟩
abbrev F.ACH_LATCH_EXTSRC : Fld := ⟨R.ACH_LATCH, 7, 7⟩
abbrev F.ACH_LATCH_RB_DIFF : Fld := ⟨R.ACH_LATCH, 6, 6⟩
abbrev F.ACH_LATCH_OVERLOAD : Fld := ⟨R.ACH_LATCH, 5, 5⟩
abbrev F.ACH_LATCH_OVER : Fld := ⟨R.ACH_LATCH, 4, 4⟩
abbrev F.ACH_LATCH_HIGH_FAIL : Fld := ⟨R.ACH_LATCH, 3, 3⟩
abbrev F.ACH_LATCH_LOW_FAIL : Fld := ⟨R.ACH_LATCH, 2, 2⟩
abbrev F.ACH_LATCH_SHORT : Fld := ⟨R.ACH_LATCH, 1, 1⟩
abbrev F.ACH_LATCH_OPEN : Fld := ⟨R.ACH_LATCH, 0, 0⟩
/-- Table 8.22. -/
abbrev R.ACH_RAW : Reg := ⟨0x8100068, 0x1000, 192, 4, 1, 0, 0, false, 0, 0xFFFFFFFF, 0, 0⟩
/-- Table 8.22. -/
abbrev R.ACH_RB : Reg := ⟨0x810006C, 0x1000, 192, 4, 1, 0, 0, false, 0, 0xFFFFFFFF, 0, 0⟩
/-- Table 8.22. -/
abbrev R.ACH_COUNTS : Reg := ⟨0x8100070, 0x1000, 192, 4, 1, 0, 0, false, 0, 0xFFFFFFFF, 0, 0⟩
abbrev F.ACH_COUNTS_FAULTS : Fld := ⟨R.ACH_COUNTS, 31, 16⟩
abbrev F.ACH_COUNTS_RB_MISMATCH : Fld := ⟨R.ACH_COUNTS, 15, 0⟩
/-- Table 8.22. -/
abbrev R.ACH_OWNER : Reg := ⟨0x8100FFC, 0x1000, 192, 4, 1, 0, 0, false, 7, 0, 0, 0⟩
abbrev F.ACH_OWNER_ACCOUNT : Fld := ⟨R.ACH_OWNER, 2, 0⟩

/-- Table 9.5. -/
abbrev R.HART_COMMFAIL : Reg := ⟨0x9000000, 4, 6, 4, 1, 0, 0, false, 0, 0xFFFFFFFF, 0, 0⟩
/-- Table 9.5. -/
abbrev R.HART_ZALARM : Reg := ⟨0x9000020, 4, 6, 4, 1, 0, 0, false, 0, 0xFFFFFFFF, 0, 0⟩
/-- Table 9.6. -/
abbrev R.HART_CFG : Reg := ⟨0x9100000, 0x1000, 192, 4, 1, 0x100007D0, 0x100007D0, false, 0xF83FFFFF, 0, 0, 0⟩
abbrev F.HART_CFG_EN : Fld := ⟨R.HART_CFG, 31, 31⟩
abbrev F.HART_CFG_POLL_CMD : Fld := ⟨R.HART_CFG, 30, 30⟩
abbrev F.HART_CFG_VAR3_SEL : Fld := ⟨R.HART_CFG, 29, 29⟩
abbrev F.HART_CFG_RETRIES : Fld := ⟨R.HART_CFG, 28, 27⟩
abbrev F.HART_CFG_POLL_ADDR : Fld := ⟨R.HART_CFG, 21, 16⟩
abbrev F.HART_CFG_PERIOD_MS : Fld := ⟨R.HART_CFG, 15, 0⟩
/-- Table 9.6. -/
abbrev R.HART_VARS : Reg := ⟨0x9100004, 0x1000, 192, 4, 1, 0x3020100, 0x3020100, false, 0xFFFFFFFF, 0, 0, 0⟩
/-- Table 9.6. -/
abbrev R.HART_STATUS : Reg := ⟨0x9100008, 0x1000, 192, 4, 1, 0, 0, false, 0, 0xF0FFFFFF, 0, 0⟩
abbrev F.HART_STATUS_STATE : Fld := ⟨R.HART_STATUS, 31, 28⟩
abbrev F.HART_STATUS_DEV_STATUS : Fld := ⟨R.HART_STATUS, 23, 16⟩
abbrev F.HART_STATUS_RESP_CODE : Fld := ⟨R.HART_STATUS, 15, 8⟩
abbrev F.HART_STATUS_EXT_STATUS : Fld := ⟨R.HART_STATUS, 7, 0⟩
/-- Table 9.7. -/
abbrev R.HART_ID : Reg := ⟨0x910000C, 0x1000, 192, 4, 1, 0, 0, false, 0, 0xFFFF, 0, 0⟩
abbrev F.HART_ID_EXP_TYPE : Fld := ⟨R.HART_ID, 15, 0⟩
/-- Table 9.7. -/
abbrev R.HART_DEVID : Reg := ⟨0x9100010, 0x1000, 192, 4, 1, 0, 0, false, 0, 0xFFFFFF, 0, 0⟩
abbrev F.HART_DEVID_DEVICE_ID : Fld := ⟨R.HART_DEVID, 23, 0⟩
/-- Table 9.7. -/
abbrev R.HART_COUNTS_0 : Reg := ⟨0x9100014, 0x1000, 192, 4, 1, 0, 0, false, 0, 0xFFFFFFFF, 0, 0⟩
/-- Table 9.7. -/
abbrev R.HART_COUNTS_1 : Reg := ⟨0x9100018, 0x1000, 192, 4, 1, 0, 0, false, 0, 0xFFFFFFFF, 0, 0⟩
abbrev F.HART_COUNTS_1_RETRIES : Fld := ⟨R.HART_COUNTS_1, 31, 20⟩
abbrev F.HART_COUNTS_1_FAILURES : Fld := ⟨R.HART_COUNTS_1, 19, 8⟩
abbrev F.HART_COUNTS_1_IGNORED : Fld := ⟨R.HART_COUNTS_1, 7, 0⟩
/-- Table 9.7. -/
abbrev R.HART_LOOP_I : Reg := ⟨0x910001C, 0x1000, 192, 4, 1, 0, 0, false, 0, 0xFFFFFFFF, 0, 0⟩
/-- Table 9.8. -/
abbrev R.HART_Z : Reg := ⟨0x9100020, 0x1000, 192, 4, 1, 0xFFFFFFFF, 0xFFFFFFFF, false, 0, 0xFFFFFFFF, 0, 0⟩
abbrev F.HART_Z_Z2200 : Fld := ⟨R.HART_Z, 31, 16⟩
abbrev F.HART_Z_Z1200 : Fld := ⟨R.HART_Z, 15, 0⟩
/-- Table 9.8. -/
abbrev R.HART_Z_BASE : Reg := ⟨0x9100024, 0x1000, 192, 4, 1, 0, 0, false, 0xFFFFFFFF, 0, 0, 0⟩
abbrev F.HART_Z_BASE_B2200 : Fld := ⟨R.HART_Z_BASE, 31, 16⟩
abbrev F.HART_Z_BASE_B1200 : Fld := ⟨R.HART_Z_BASE, 15, 0⟩
/-- Table 9.8. -/
abbrev R.HART_Z_CFG : Reg := ⟨0x9100028, 0x1000, 192, 4, 1, 0x80F, 0x80F, false, 0xFFFF, 0x80000000, 0, 0⟩
abbrev F.HART_Z_CFG_ALARM : Fld := ⟨R.HART_Z_CFG, 31, 31⟩
abbrev F.HART_Z_CFG_DRIFT_COUNT : Fld := ⟨R.HART_Z_CFG, 15, 8⟩
abbrev F.HART_Z_CFG_DRIFT_PCT : Fld := ⟨R.HART_Z_CFG, 7, 0⟩

/-- Table 10.10. -/
abbrev R.DS_SUMMARY : Reg := ⟨0xA000000, 0x1000, 1, 4, 1, 0, 0, false, 0, 0xFFC0, 0, 0⟩
abbrev F.DS_SUMMARY_SLICE_FAULT : Fld := ⟨R.DS_SUMMARY, 15, 6⟩
/-- Table 10.10. -/
abbrev R.DS_FAULT : Reg := ⟨0xA016000, 0x1000, 10, 4, 1, 0, 0, false, 0, 0xFFFFFFFF, 0, 0⟩
/-- Table 10.10. -/
abbrev R.DS_CTRL : Reg := ⟨0xA016008, 0x1000, 10, 4, 1, 0, 0, false, 0, 0, 0, 0xFF000001⟩
abbrev F.DS_CTRL_KEY : Fld := ⟨R.DS_CTRL, 31, 24⟩
abbrev F.DS_CTRL_RESTORE : Fld := ⟨R.DS_CTRL, 0, 0⟩
/-- Table 10.11. -/
abbrev R.DS_LOAD : Reg := ⟨0xA016004, 0x1000, 10, 4, 1, 0, 0, false, 0, 0xC0FFFFFF, 0, 0⟩
abbrev F.DS_LOAD_OVL_OFF : Fld := ⟨R.DS_LOAD, 31, 31⟩
abbrev F.DS_LOAD_OVL : Fld := ⟨R.DS_LOAD, 30, 30⟩
abbrev F.DS_LOAD_TRIPS : Fld := ⟨R.DS_LOAD, 23, 16⟩
abbrev F.DS_LOAD_FS_MA : Fld := ⟨R.DS_LOAD, 15, 0⟩
/-- Table 10.12. -/
abbrev R.DCH_CFG : Reg := ⟨0xA1C0000, 0x1000, 320, 4, 1, 0x2000000, 0x2000000, false, 0xFFF00000, 0, 0, 0⟩
abbrev F.DCH_CFG_MODE : Fld := ⟨R.DCH_CFG, 31, 28⟩
abbrev F.DCH_CFG_SINK : Fld := ⟨R.DCH_CFG, 27, 27⟩
abbrev F.DCH_CFG_EDGE_SEL : Fld := ⟨R.DCH_CFG, 26, 25⟩
abbrev F.DCH_CFG_LINE_MON : Fld := ⟨R.DCH_CFG, 24, 24⟩
abbrev F.DCH_CFG_FS_DEP : Fld := ⟨R.DCH_CFG, 23, 23⟩
abbrev F.DCH_CFG_OL_EN : Fld := ⟨R.DCH_CFG, 22, 22⟩
abbrev F.DCH_CFG_OUT_INVALID : Fld := ⟨R.DCH_CFG, 21, 20⟩
/-- Table 10.12. -/
abbrev R.DCH_FILT : Reg := ⟨0xA1C0004, 0x1000, 320, 4, 1, 0xBB80008, 0xBB80008, false, 0x7FFF03FF, 0, 0, 0⟩
abbrev F.DCH_FILT_FILT_US : Fld := ⟨R.DCH_FILT, 30, 16⟩
abbrev F.DCH_FILT_EDGE_FILT_US : Fld := ⟨R.DCH_FILT, 9, 0⟩
/-- Table 10.13. -/
abbrev R.DCH_OUT_SIG : Reg := ⟨0xA1C000C, 0x1000, 320, 4, 1, 0, 0, false, 0x1FFFF, 0, 0, 0⟩
abbrev F.DCH_OUT_SIG_SIGNAL : Fld := ⟨R.DCH_OUT_SIG, 16, 0⟩
/-- Table 10.13. -/
abbrev R.DCH_CNT_CTRL : Reg := ⟨0xA1C0010, 0x1000, 320, 4, 1, 0, 0, false, 0, 0, 0, 0xFF000003⟩
abbrev F.DCH_CNT_CTRL_KEY : Fld := ⟨R.DCH_CNT_CTRL, 31, 24⟩
abbrev F.DCH_CNT_CTRL_CMD : Fld := ⟨R.DCH_CNT_CTRL, 1, 0⟩
/-- Table 10.13. -/
abbrev R.DCH_PRESET : Reg := ⟨0xA1C0018, 0x1000, 320, 4, 2, 0, 0, true, 0xFFFFFFFF, 0, 0, 0⟩
/-- Table 10.14. -/
abbrev R.DCH_STATUS : Reg := ⟨0xA1C0060, 0x1000, 320, 4, 1, 0, 0, false, 0, 0xFFF, 0, 0⟩
abbrev F.DCH_STATUS_CURLIM : Fld := ⟨R.DCH_STATUS, 11, 11⟩
abbrev F.DCH_STATUS_SAFEDRIVE : Fld := ⟨R.DCH_STATUS, 10, 10⟩
abbrev F.DCH_STATUS_QUAD_ERR : Fld := ⟨R.DCH_STATUS, 9, 9⟩
abbrev F.DCH_STATUS_RECONFIG : Fld := ⟨R.DCH_STATUS, 8, 8⟩
abbrev F.DCH_STATUS_LINK : Fld := ⟨R.DCH_STATUS, 7, 7⟩
abbrev F.DCH_STATUS_SLICE_OVL : Fld := ⟨R.DCH_STATUS, 6, 6⟩
abbrev F.DCH_STATUS_FS_LOW : Fld := ⟨R.DCH_STATUS, 5, 5⟩
abbrev F.DCH_STATUS_RB_DIFF : Fld := ⟨R.DCH_STATUS, 4, 4⟩
abbrev F.DCH_STATUS_THERMAL : Fld := ⟨R.DCH_STATUS, 3, 3⟩
abbrev F.DCH_STATUS_EXTDRV : Fld := ⟨R.DCH_STATUS, 2, 2⟩
abbrev F.DCH_STATUS_SHORT : Fld := ⟨R.DCH_STATUS, 1, 1⟩
abbrev F.DCH_STATUS_OPEN : Fld := ⟨R.DCH_STATUS, 0, 0⟩
/-- Table 10.14. -/
abbrev R.DCH_LATCH : Reg := ⟨0xA1C0064, 0x1000, 320, 4, 1, 0, 0, false, 0, 0, 0xFFF, 0⟩
abbrev F.DCH_LATCH_CURLIM : Fld := ⟨R.DCH_LATCH, 11, 11⟩
abbrev F.DCH_LATCH_SAFEDRIVE : Fld := ⟨R.DCH_LATCH, 10, 10⟩
abbrev F.DCH_LATCH_QUAD_ERR : Fld := ⟨R.DCH_LATCH, 9, 9⟩
abbrev F.DCH_LATCH_RECONFIG : Fld := ⟨R.DCH_LATCH, 8, 8⟩
abbrev F.DCH_LATCH_LINK : Fld := ⟨R.DCH_LATCH, 7, 7⟩
abbrev F.DCH_LATCH_SLICE_OVL : Fld := ⟨R.DCH_LATCH, 6, 6⟩
abbrev F.DCH_LATCH_FS_LOW : Fld := ⟨R.DCH_LATCH, 5, 5⟩
abbrev F.DCH_LATCH_RB_DIFF : Fld := ⟨R.DCH_LATCH, 4, 4⟩
abbrev F.DCH_LATCH_THERMAL : Fld := ⟨R.DCH_LATCH, 3, 3⟩
abbrev F.DCH_LATCH_EXTDRV : Fld := ⟨R.DCH_LATCH, 2, 2⟩
abbrev F.DCH_LATCH_SHORT : Fld := ⟨R.DCH_LATCH, 1, 1⟩
abbrev F.DCH_LATCH_OPEN : Fld := ⟨R.DCH_LATCH, 0, 0⟩
/-- Table 10.15. -/
abbrev R.DCH_LOAD : Reg := ⟨0xA1C0068, 0x1000, 320, 4, 1, 0, 0, false, 0, 0xFFFFFFFF, 0, 0⟩
abbrev F.DCH_LOAD_TERM_V : Fld := ⟨R.DCH_LOAD, 31, 16⟩
abbrev F.DCH_LOAD_LOAD_MA : Fld := ⟨R.DCH_LOAD, 15, 0⟩
/-- Table 10.15. -/
abbrev R.DCH_COUNTS : Reg := ⟨0xA1C0070, 0x1000, 320, 4, 1, 0, 0, false, 0, 0xFFFFFFFF, 0, 0⟩
abbrev F.DCH_COUNTS_FAULTS : Fld := ⟨R.DCH_COUNTS, 31, 16⟩
abbrev F.DCH_COUNTS_RETRIES : Fld := ⟨R.DCH_COUNTS, 15, 0⟩
/-- Table 10.15. -/
abbrev R.DCH_OWNER : Reg := ⟨0xA1C0FFC, 0x1000, 320, 4, 1, 0, 0, false, 7, 0, 0, 0⟩
abbrev F.DCH_OWNER_ACCOUNT : Fld := ⟨R.DCH_OWNER, 2, 0⟩

/-- Table 11.9. -/
abbrev R.SL_SUMMARY : Reg := ⟨0xB000000, 0x1000, 1, 4, 1, 0, 0, false, 0, 0xFFFF, 0, 0⟩
abbrev F.SL_SUMMARY_RUN : Fld := ⟨R.SL_SUMMARY, 15, 0⟩
/-- Table 11.9. -/
abbrev R.SL_STATUS : Reg := ⟨0xB010000, 0x1000, 16, 4, 1, 0, 0, false, 0, 0xFF000007, 0, 0⟩
abbrev F.SL_STATUS_STATE : Fld := ⟨R.SL_STATUS, 31, 28⟩
abbrev F.SL_STATUS_VERSION : Fld := ⟨R.SL_STATUS, 27, 24⟩
abbrev F.SL_STATUS_DOWNLOADED : Fld := ⟨R.SL_STATUS, 2, 2⟩
abbrev F.SL_STATUS_UP_LOCK : Fld := ⟨R.SL_STATUS, 1, 1⟩
abbrev F.SL_STATUS_DOWN_LOCK : Fld := ⟨R.SL_STATUS, 0, 0⟩
/-- Table 11.10. -/
abbrev R.SL_COUNTS_0 : Reg := ⟨0xB010004, 0x1000, 16, 4, 1, 0, 0, false, 0, 0xFFFFFFFF, 0, 0⟩
abbrev F.SL_COUNTS_0_DOWN_CRC : Fld := ⟨R.SL_COUNTS_0, 31, 16⟩
abbrev F.SL_COUNTS_0_UP_CRC : Fld := ⟨R.SL_COUNTS_0, 15, 0⟩
/-- Table 11.10. -/
abbrev R.SL_COUNTS_1 : Reg := ⟨0xB010008, 0x1000, 16, 4, 1, 0, 0, false, 0, 0xFFFFFFFF, 0, 0⟩
abbrev F.SL_COUNTS_1_LOSSES : Fld := ⟨R.SL_COUNTS_1, 31, 16⟩
abbrev F.SL_COUNTS_1_FALSE_CAND : Fld := ⟨R.SL_COUNTS_1, 15, 0⟩
/-- Table 11.10. -/
abbrev R.SL_COUNTS_2 : Reg := ⟨0xB01000C, 0x1000, 16, 4, 1, 0, 0, false, 0, 0xFFFFFFFF, 0, 0⟩
abbrev F.SL_COUNTS_2_DOWN_RESEND : Fld := ⟨R.SL_COUNTS_2, 31, 16⟩
abbrev F.SL_COUNTS_2_UP_RESEND : Fld := ⟨R.SL_COUNTS_2, 15, 0⟩
/-- Table 11.10. -/
abbrev R.SL_ACQ_NS : Reg := ⟨0xB010010, 0x1000, 16, 4, 1, 0, 0, false, 0, 0xFFFFFFFF, 0, 0⟩
/-- Table 11.10. -/
abbrev R.SL_RUN_TIME : Reg := ⟨0xB010018, 0x1000, 16, 4, 2, 0, 0, true, 0, 0xFFFFFFFF, 0, 0⟩

/-- Table 12.8. -/
abbrev R.TIME_STATUS : Reg := ⟨0xC000000, 0x1000, 1, 4, 1, 0, 0, false, 0, 0xFF00FFFF, 0, 0⟩
abbrev F.TIME_STATUS_TS_STATE : Fld := ⟨R.TIME_STATUS, 31, 28⟩
abbrev F.TIME_STATUS_TS_VALID : Fld := ⟨R.TIME_STATUS, 27, 27⟩
abbrev F.TIME_STATUS_HOLDOVER : Fld := ⟨R.TIME_STATUS, 26, 26⟩
abbrev F.TIME_STATUS_SOURCE : Fld := ⟨R.TIME_STATUS, 25, 25⟩
abbrev F.TIME_STATUS_SLEWING : Fld := ⟨R.TIME_STATUS, 24, 24⟩
abbrev F.TIME_STATUS_SWITCHES : Fld := ⟨R.TIME_STATUS, 15, 0⟩
/-- Table 12.8. -/
abbrev R.TIME_CFG : Reg := ⟨0xC000004, 0x1000, 1, 4, 1, 0x3C003C, 0x3C003C, false, 0x8FFF0FFF, 0, 0, 0⟩
abbrev F.TIME_CFG_SEL_PREF : Fld := ⟨R.TIME_CFG, 31, 31⟩
abbrev F.TIME_CFG_REVERT_S : Fld := ⟨R.TIME_CFG, 27, 16⟩
abbrev F.TIME_CFG_HOLD_LIMIT_S : Fld := ⟨R.TIME_CFG, 11, 0⟩
/-- Table 12.8. -/
abbrev R.HOLD_ELAPSED : Reg := ⟨0xC000008, 0x1000, 1, 4, 1, 0, 0, false, 0, 0xFFFFFFFF, 0, 0⟩
/-- Table 12.9. -/
abbrev R.AB_OFFSET : Reg := ⟨0xC00000C, 0x1000, 1, 4, 1, 0x80000000, 0x80000000, false, 0, 0xFFFFFFFF, 0, 0⟩
/-- Table 12.9. -/
abbrev R.CLOCK_STATUS : Reg := ⟨0xC000010, 0x1000, 1, 4, 1, 0, 0, false, 0, 0xC000FFFF, 0, 0⟩
abbrev F.CLOCK_STATUS_PLL_LOCK : Fld := ⟨R.CLOCK_STATUS, 31, 31⟩
abbrev F.CLOCK_STATUS_TCXO_OK : Fld := ⟨R.CLOCK_STATUS, 30, 30⟩
abbrev F.CLOCK_STATUS_FREQ_PPB : Fld := ⟨R.CLOCK_STATUS, 15, 0⟩
/-- Table 12.10. -/
abbrev R.TS_NOW : Reg := ⟨0xC000018, 0x1000, 1, 4, 2, 0, 0, true, 0, 0xFFFFFFFF, 0, 0⟩
/-- Table 12.10. -/
abbrev R.TL_NOW : Reg := ⟨0xC000020, 0x1000, 1, 4, 2, 0, 0, true, 0, 0xFFFFFFFF, 0, 0⟩
/-- Table 12.10. -/
abbrev R.TIME_SET : Reg := ⟨0xC000028, 0x1000, 1, 4, 2, 0, 0, true, 0xFFFFFFFF, 0, 0, 0⟩
/-- Table 12.11. -/
abbrev R.DOM_CFG : Reg := ⟨0xC010000, 0x1000, 2, 4, 1, 0x808000, 0x808000, false, 0x80FFFFFF, 0, 0, 0⟩
abbrev F.DOM_CFG_GM_EN : Fld := ⟨R.DOM_CFG, 31, 31⟩
abbrev F.DOM_CFG_PRIORITY1 : Fld := ⟨R.DOM_CFG, 23, 16⟩
abbrev F.DOM_CFG_PRIORITY2 : Fld := ⟨R.DOM_CFG, 15, 8⟩
abbrev F.DOM_CFG_DOMAIN : Fld := ⟨R.DOM_CFG, 7, 0⟩
/-- Table 12.11. -/
abbrev R.DOM_STATUS : Reg := ⟨0xC010004, 0x1000, 2, 4, 1, 0, 0, false, 0, 0xFFF0FF00, 0, 0⟩
abbrev F.DOM_STATUS_STATE : Fld := ⟨R.DOM_STATUS, 31, 28⟩
abbrev F.DOM_STATUS_STEPS : Fld := ⟨R.DOM_STATUS, 27, 20⟩
abbrev F.DOM_STATUS_GM_CLASS : Fld := ⟨R.DOM_STATUS, 15, 8⟩
/-- Table 12.11. -/
abbrev R.DOM_OFFSET : Reg := ⟨0xC010008, 0x1000, 2, 4, 1, 0, 0, false, 0, 0xFFFFFFFF, 0, 0⟩
/-- Table 12.11. -/
abbrev R.DOM_GM_ID : Reg := ⟨0xC010010, 0x1000, 2, 4, 2, 0, 0, true, 0, 0xFFFFFFFF, 0, 0⟩
/-- Table 12.11. -/
abbrev R.DOM_COUNTS_0 : Reg := ⟨0xC010018, 0x1000, 2, 4, 1, 0, 0, false, 0, 0xFFFFFFFF, 0, 0⟩
abbrev F.DOM_COUNTS_0_OUTLIERS : Fld := ⟨R.DOM_COUNTS_0, 31, 16⟩
abbrev F.DOM_COUNTS_0_LOCK_LOSSES : Fld := ⟨R.DOM_COUNTS_0, 15, 0⟩
/-- Table 12.11. -/
abbrev R.DOM_COUNTS_1 : Reg := ⟨0xC01001C, 0x1000, 2, 4, 1, 0, 0, false, 0, 0xFFFFFFFF, 0, 0⟩
abbrev F.DOM_COUNTS_1_REFUSED : Fld := ⟨R.DOM_COUNTS_1, 31, 16⟩
abbrev F.DOM_COUNTS_1_GM_CHANGES : Fld := ⟨R.DOM_COUNTS_1, 15, 0⟩
/-- Table 12.12. -/
abbrev R.PORT_PTP : Reg := ⟨0xC020000, 0x1000, 4, 4, 1, 0, 0, false, 0, 0xF8000000, 0, 0⟩
abbrev F.PORT_PTP_STATE : Fld := ⟨R.PORT_PTP, 31, 28⟩
abbrev F.PORT_PTP_AS_CAPABLE : Fld := ⟨R.PORT_PTP, 27, 27⟩
/-- Table 12.12. -/
abbrev R.PORT_ASYM : Reg := ⟨0xC020004, 0x1000, 4, 4, 1, 0, 0, false, 0xFFFFFFFF, 0, 0, 0⟩
/-- Table 12.12. -/
abbrev R.PORT_PDELAY : Reg := ⟨0xC020008, 0x1000, 4, 4, 1, 0xFFFFFFFF, 0xFFFFFFFF, false, 0, 0xFFFFFFFF, 0, 0⟩
/-- Table 12.12. -/
abbrev R.PORT_COUNTS : Reg := ⟨0xC02000C, 0x1000, 4, 4, 1, 0, 0, false, 0, 0xFFFFFFFF, 0, 0⟩
abbrev F.PORT_COUNTS_PDELAY_TIMEOUTS : Fld := ⟨R.PORT_COUNTS, 31, 16⟩
abbrev F.PORT_COUNTS_PDELAY_REJECTED : Fld := ⟨R.PORT_COUNTS, 15, 0⟩
/-- Table 12.12. -/
abbrev R.PORT_LAT : Reg := ⟨0xC020010, 0x1000, 4, 4, 1, 0, 0, false, 0, 0xFFFFFFFF, 0, 0⟩
abbrev F.PORT_LAT_TX_NS : Fld := ⟨R.PORT_LAT, 31, 16⟩
abbrev F.PORT_LAT_RX_NS : Fld := ⟨R.PORT_LAT, 15, 0⟩

/-- Table 13.13. -/
abbrev R.NET_PATH : Reg := ⟨0xD000000, 0x1000, 1, 4, 1, 0x27, 0x27, false, 0x3FFF, 0, 0, 0⟩
abbrev F.NET_PATH_PATH_MAX_US : Fld := ⟨R.NET_PATH, 13, 0⟩
/-- Table 13.13. -/
abbrev R.NET_TIMING : Reg := ⟨0xD000004, 0x1000, 1, 4, 1, 0x64001F4, 0x64001F4, false, 0xFFF1FFFF, 0, 0, 0⟩
abbrev F.NET_TIMING_TIMEOUT_MS : Fld := ⟨R.NET_TIMING, 31, 20⟩
abbrev F.NET_TIMING_RETRY_US : Fld := ⟨R.NET_TIMING, 16, 0⟩
/-- Table 13.13. -/
abbrev R.NET_BUDGET : Reg := ⟨0xD000008, 0x1000, 1, 4, 1, 0x100, 0x100, false, 0x1FFF, 0, 0, 0⟩
abbrev F.NET_BUDGET_DEFAULT : Fld := ⟨R.NET_BUDGET, 12, 0⟩
/-- Table 13.13. -/
abbrev R.NET_STATUS : Reg := ⟨0xD00000C, 0x1000, 1, 4, 1, 0x70000, 0x70000, false, 0, 0x71FFF, 0, 0⟩
abbrev F.NET_STATUS_SUPPORTED : Fld := ⟨R.NET_STATUS, 18, 16⟩
abbrev F.NET_STATUS_TAGS : Fld := ⟨R.NET_STATUS, 12, 0⟩
/-- Table 13.14. -/
abbrev R.NET_DROPS_0 : Reg := ⟨0xD000010, 0x1000, 1, 4, 1, 0, 0, false, 0, 0xFFFFFFFF, 0, 0⟩
abbrev F.NET_DROPS_0_STALE_REPLY : Fld := ⟨R.NET_DROPS_0, 31, 16⟩
abbrev F.NET_DROPS_0_SEQ_OLD : Fld := ⟨R.NET_DROPS_0, 15, 0⟩
/-- Table 13.14. -/
abbrev R.NET_DROPS_1 : Reg := ⟨0xD000014, 0x1000, 1, 4, 1, 0, 0, false, 0, 0xFFFFFFFF, 0, 0⟩
abbrev F.NET_DROPS_1_MALFORMED : Fld := ⟨R.NET_DROPS_1, 31, 16⟩
abbrev F.NET_DROPS_1_VERS : Fld := ⟨R.NET_DROPS_1, 15, 0⟩
/-- Table 13.14. -/
abbrev R.NET_DROPS_2 : Reg := ⟨0xD000018, 0x1000, 1, 4, 1, 0, 0, false, 0, 0xFFFFFFFF, 0, 0⟩
abbrev F.NET_DROPS_2_MAC_FAIL : Fld := ⟨R.NET_DROPS_2, 31, 16⟩
abbrev F.NET_DROPS_2_MGMT_SEQ : Fld := ⟨R.NET_DROPS_2, 15, 0⟩
/-- Table 13.14. -/
abbrev R.NET_INSTANCE : Reg := ⟨0xD00001C, 0x1000, 1, 4, 1, 0, 0, false, 0, 0xFFFFFFFF, 0, 0⟩
/-- Table 13.14. -/
abbrev R.NET_PORTS : Reg := ⟨0xD000020, 0x1000, 1, 4, 1, 0, 0, false, 0xFFF000F, 0, 0, 0⟩
abbrev F.NET_PORTS_VID : Fld := ⟨R.NET_PORTS, 27, 16⟩
abbrev F.NET_PORTS_USED : Fld := ⟨R.NET_PORTS, 3, 0⟩
/-- Table 13.15. -/
abbrev R.NET_SEG : Reg := ⟨0xD000028, 4, 2, 4, 1, 0xFF, 0xFF, false, 0, 0xFFF03FFF, 0, 0⟩
abbrev F.NET_SEG_EXIT : Fld := ⟨R.NET_SEG, 31, 20⟩
abbrev F.NET_SEG_MEMBERS : Fld := ⟨R.NET_SEG, 13, 8⟩
abbrev F.NET_SEG_EXIT_HOPS : Fld := ⟨R.NET_SEG, 7, 0⟩
/-- Table 13.15. -/
abbrev R.NET_M_MAC : Reg := ⟨0xD000030, 0x1000, 1, 4, 2, 0, 0, true, 0, 0xFFFFFFFF, 0, 0⟩
/-- Table 13.15. -/
abbrev R.NET_OVR : Reg := ⟨0xD000100, 4, 32, 4, 1, 0x100, 0x100, false, 0xFFF1FFF, 0, 0, 0⟩
abbrev F.NET_OVR_PEER : Fld := ⟨R.NET_OVR, 27, 16⟩
abbrev F.NET_OVR_BUDGET : Fld := ⟨R.NET_OVR, 12, 0⟩
/-- Table 13.16. -/
abbrev R.NET_PEER_ADDR : Reg := ⟨0xD000200, 0x1000, 1, 4, 1, 0, 0, false, 0xFFFFFFFF, 0, 0, 0⟩
/-- Table 13.16. -/
abbrev R.NET_PEER_DATA : Reg := ⟨0xD000204, 0x1000, 1, 4, 1, 0, 0, false, 0, 0xFFFFFFFF, 0, 0⟩
/-- Table 13.16. -/
abbrev R.PUB_LIST_ADDR : Reg := ⟨0xD000300, 0x1000, 1, 4, 1, 0, 0, false, 0xFFFFFFFF, 0, 0, 0⟩
/-- Table 13.16. -/
abbrev R.PUB_LIST_DATA : Reg := ⟨0xD000304, 0x1000, 1, 4, 1, 0, 0, false, 0xFFFFFFFF, 0, 0, 0⟩
/-- Table 13.16. -/
abbrev R.SUBS_ADDR : Reg := ⟨0xD000308, 0x1000, 1, 4, 1, 0, 0, false, 0xFFFFFFFF, 0, 0, 0⟩
/-- Table 13.16. -/
abbrev R.SUBS_DATA : Reg := ⟨0xD00030C, 0x1000, 1, 4, 1, 0, 0, false, 0xFFFFFFFF, 0, 0, 0⟩
/-- Table 13.17. -/
abbrev R.PORT_STATUS : Reg := ⟨0xD010000, 0x1000, 4, 4, 1, 0, 0, false, 0, 0xF8FFF000, 0, 0⟩
abbrev F.PORT_STATUS_LINK : Fld := ⟨R.PORT_STATUS, 31, 31⟩
abbrev F.PORT_STATUS_XCVR : Fld := ⟨R.PORT_STATUS, 30, 29⟩
abbrev F.PORT_STATUS_ROLE : Fld := ⟨R.PORT_STATUS, 28, 27⟩
abbrev F.PORT_STATUS_NEIGHBOUR : Fld := ⟨R.PORT_STATUS, 23, 12⟩
/-- Table 13.17. -/
abbrev R.PORT_RX : Reg := ⟨0xD010004, 0x1000, 4, 4, 1, 0, 0, false, 0, 0xFFFFFFFF, 0, 0⟩
/-- Table 13.17. -/
abbrev R.PORT_TX : Reg := ⟨0xD010008, 0x1000, 4, 4, 1, 0, 0, false, 0, 0xFFFFFFFF, 0, 0⟩
/-- Table 13.17. -/
abbrev R.PORT_FWD : Reg := ⟨0xD01000C, 0x1000, 4, 4, 1, 0, 0, false, 0, 0xFFFFFFFF, 0, 0⟩
/-- Table 13.17. -/
abbrev R.PORT_ERR : Reg := ⟨0xD010010, 0x1000, 4, 4, 1, 0, 0, false, 0, 0xFFFFFFFF, 0, 0⟩
abbrev F.PORT_ERR_FCS : Fld := ⟨R.PORT_ERR, 31, 16⟩
abbrev F.PORT_ERR_SIZE : Fld := ⟨R.PORT_ERR, 15, 0⟩
/-- Table 13.18. -/
abbrev R.NET_ACCT : Reg := ⟨0xD100000, 0x1000, 8, 4, 1, 0, 0, false, 0, 0x1FF1FFF, 0, 0⟩
abbrev F.NET_ACCT_QUEUED : Fld := ⟨R.NET_ACCT, 24, 16⟩
abbrev F.NET_ACCT_TAGS : Fld := ⟨R.NET_ACCT, 12, 0⟩
/-- Table 13.18. -/
abbrev R.NET_COMPL_0 : Reg := ⟨0xD100004, 0x1000, 8, 4, 1, 0, 0, false, 0, 0xFFFFFFFF, 0, 0⟩
abbrev F.NET_COMPL_0_TIMEOUT : Fld := ⟨R.NET_COMPL_0, 31, 16⟩
abbrev F.NET_COMPL_0_NOTAG : Fld := ⟨R.NET_COMPL_0, 15, 0⟩
/-- Table 13.18. -/
abbrev R.NET_COMPL_1 : Reg := ⟨0xD100008, 0x1000, 8, 4, 1, 0, 0, false, 0, 0xFFFFFFFF, 0, 0⟩
abbrev F.NET_COMPL_1_BUSY : Fld := ⟨R.NET_COMPL_1, 31, 16⟩
abbrev F.NET_COMPL_1_VERS : Fld := ⟨R.NET_COMPL_1, 15, 0⟩
/-- Table 13.18. -/
abbrev R.NET_COMPL_2 : Reg := ⟨0xD10000C, 0x1000, 8, 4, 1, 0, 0, false, 0, 0xFFFFFFFF, 0, 0⟩
abbrev F.NET_COMPL_2_REFUSED : Fld := ⟨R.NET_COMPL_2, 31, 16⟩
abbrev F.NET_COMPL_2_QFULL : Fld := ⟨R.NET_COMPL_2, 15, 0⟩
/-- Table 13.18. -/
abbrev R.NET_COMPL_OK : Reg := ⟨0xD100010, 0x1000, 8, 4, 1, 0, 0, false, 0, 0xFFFFFFFF, 0, 0⟩
/-- Table 13.18. -/
abbrev R.NET_ISSUE_ADDR : Reg := ⟨0xD100020, 0x1000, 8, 4, 1, 0, 0, false, 0xFFFFFFFF, 0, 0, 0⟩
/-- Table 13.18. -/
abbrev R.NET_ISSUE_DATA : Reg := ⟨0xD100024, 0x1000, 8, 4, 1, 0, 0, false, 0, 0, 0, 0xFFFFFFFF⟩
/-- Table 13.18. -/
abbrev R.NET_ISSUE_STATUS : Reg := ⟨0xD100028, 0x1000, 8, 4, 1, 0, 0, false, 0, 0xFF0007FF, 0, 0⟩
abbrev F.NET_ISSUE_STATUS_STATUS : Fld := ⟨R.NET_ISSUE_STATUS, 31, 24⟩
abbrev F.NET_ISSUE_STATUS_WORDS : Fld := ⟨R.NET_ISSUE_STATUS, 10, 0⟩
/-- Table 13.19. -/
abbrev R.PUB_CFG : Reg := ⟨0xD200000, 0x1000, 256, 4, 1, 0, 0, false, 0xFFC01FFF, 0, 0, 0⟩
abbrev F.PUB_CFG_EN : Fld := ⟨R.PUB_CFG, 31, 31⟩
abbrev F.PUB_CFG_COUNT : Fld := ⟨R.PUB_CFG, 30, 22⟩
abbrev F.PUB_CFG_FIRST : Fld := ⟨R.PUB_CFG, 12, 0⟩
/-- Table 13.19. -/
abbrev R.PUB_PERIOD : Reg := ⟨0xD200004, 0x1000, 256, 4, 1, 0, 0, false, 0x3FFFFFF, 0, 0, 0⟩
abbrev F.PUB_PERIOD_PERIOD_US : Fld := ⟨R.PUB_PERIOD, 25, 0⟩
/-- Table 13.19. -/
abbrev R.PUB_PHASE : Reg := ⟨0xD200008, 0x1000, 256, 4, 1, 0, 0, false, 0x3FFFFFF, 0, 0, 0⟩
abbrev F.PUB_PHASE_PHASE_US : Fld := ⟨R.PUB_PHASE, 25, 0⟩
/-- Table 13.19. -/
abbrev R.PUB_SEQ : Reg := ⟨0xD20000C, 0x1000, 256, 4, 1, 0, 0, false, 0, 0xFFFFFFFF, 0, 0⟩
/-- Table 13.19. -/
abbrev R.PUB_OWNER : Reg := ⟨0xD200FFC, 0x1000, 256, 4, 1, 0, 0, false, 7, 0, 0, 0⟩
abbrev F.PUB_OWNER_ACCOUNT : Fld := ⟨R.PUB_OWNER, 2, 0⟩

/-- Table 14.8. -/
abbrev R.SAFE_STATUS : Reg := ⟨0xE000000, 0x1000, 1, 4, 1, 0, 0, false, 0, 0xFF80FFFF, 0, 0⟩
abbrev F.SAFE_STATUS_PRESENT : Fld := ⟨R.SAFE_STATUS, 31, 31⟩
abbrev F.SAFE_STATUS_MATCH : Fld := ⟨R.SAFE_STATUS, 30, 30⟩
abbrev F.SAFE_STATUS_MAINT : Fld := ⟨R.SAFE_STATUS, 29, 29⟩
abbrev F.SAFE_STATUS_HOLD : Fld := ⟨R.SAFE_STATUS, 28, 28⟩
abbrev F.SAFE_STATUS_RT_MODE : Fld := ⟨R.SAFE_STATUS, 27, 27⟩
abbrev F.SAFE_STATUS_RETURN : Fld := ⟨R.SAFE_STATUS, 26, 26⟩
abbrev F.SAFE_STATUS_PENDING : Fld := ⟨R.SAFE_STATUS, 25, 25⟩
abbrev F.SAFE_STATUS_DIAG_DEGRADED : Fld := ⟨R.SAFE_STATUS, 24, 24⟩
abbrev F.SAFE_STATUS_CLAIM : Fld := ⟨R.SAFE_STATUS, 23, 23⟩
abbrev F.SAFE_STATUS_EXCEEDED : Fld := ⟨R.SAFE_STATUS, 15, 8⟩
abbrev F.SAFE_STATUS_RX_DOWN : Fld := ⟨R.SAFE_STATUS, 7, 0⟩
/-- Table 14.8. -/
abbrev R.SAFE_SEAL : Reg := ⟨0xE000004, 0x1000, 1, 4, 1, 0, 0, false, 0, 0xFFFFFFFF, 0, 0⟩
abbrev F.SAFE_SEAL_SWF : Fld := ⟨R.SAFE_SEAL, 31, 16⟩
abbrev F.SAFE_SEAL_SW : Fld := ⟨R.SAFE_SEAL, 15, 0⟩
/-- Table 14.8. -/
abbrev R.SAFE_COUNTS : Reg := ⟨0xE000008, 0x1000, 1, 4, 1, 0, 0, false, 0, 0xFFFFFFFF, 0, 0⟩
abbrev F.SAFE_COUNTS_MAINT_ENTRIES : Fld := ⟨R.SAFE_COUNTS, 31, 16⟩
abbrev F.SAFE_COUNTS_CMP_TEST_FAIL : Fld := ⟨R.SAFE_COUNTS, 15, 0⟩
/-- Table 14.8. -/
abbrev R.SAFE_MAINT_TIME : Reg := ⟨0xE000010, 0x1000, 1, 4, 2, 0, 0, true, 0, 0xFFFFFFFF, 0, 0⟩
/-- Table 14.9. -/
abbrev R.SF_CFG : Reg := ⟨0xE100000, 0x1000, 32, 4, 1, 0, 0, false, 0xE03F01FF, 0, 0, 0⟩
abbrev F.SF_CFG_EN : Fld := ⟨R.SF_CFG, 31, 31⟩
abbrev F.SF_CFG_KIND : Fld := ⟨R.SF_CFG, 30, 29⟩
abbrev F.SF_CFG_TASK : Fld := ⟨R.SF_CFG, 21, 16⟩
abbrev F.SF_CFG_IN : Fld := ⟨R.SF_CFG, 8, 0⟩
/-- Table 14.9. -/
abbrev R.SF_OUT : Reg := ⟨0xE100004, 0x1000, 32, 4, 1, 0, 0, false, 0x1FF, 0, 0, 0⟩
abbrev F.SF_OUT_OUT : Fld := ⟨R.SF_OUT, 8, 0⟩
/-- Table 14.9. -/
abbrev R.SF_LIMIT : Reg := ⟨0xE100008, 0x1000, 32, 4, 1, 0, 0, false, 0xFFFFFFFF, 0, 0, 0⟩
/-- Table 14.9. -/
abbrev R.SF_REMOTE : Reg := ⟨0xE10000C, 0x1000, 32, 4, 1, 0, 0, false, 0xFFFFFFFF, 0, 0, 0⟩
/-- Table 14.9. -/
abbrev R.SF_REMOTE_TYP : Reg := ⟨0xE100010, 0x1000, 32, 4, 1, 0, 0, false, 0xFFFFFFFF, 0, 0, 0⟩
/-- Table 14.9. -/
abbrev R.SF_RT : Reg := ⟨0xE100014, 0x1000, 32, 4, 1, 0, 0, false, 0, 0xFFFFFFFF, 0, 0⟩
/-- Table 14.9. -/
abbrev R.SF_RT_TYP : Reg := ⟨0xE100018, 0x1000, 32, 4, 1, 0, 0, false, 0, 0xFFFFFFFF, 0, 0⟩
/-- Table 14.9. -/
abbrev R.SF_STATUS : Reg := ⟨0xE10001C, 0x1000, 32, 4, 1, 0, 0, false, 0, 0x80000000, 0, 0⟩
abbrev F.SF_STATUS_EXCEEDED : Fld := ⟨R.SF_STATUS, 31, 31⟩
/-- Table 14.10. -/
abbrev R.RZT_RX_CFG : Reg := ⟨0xE200000, 0x1000, 64, 4, 1, 0x30000000, 0x30000000, false, 0xBFC0FFFF, 0, 0, 0⟩
abbrev F.RZT_RX_CFG_EN : Fld := ⟨R.RZT_RX_CFG, 31, 31⟩
abbrev F.RZT_RX_CFG_VERSIONS : Fld := ⟨R.RZT_RX_CFG, 29, 28⟩
abbrev F.RZT_RX_CFG_COUNT : Fld := ⟨R.RZT_RX_CFG, 27, 22⟩
abbrev F.RZT_RX_CFG_CONN_ID : Fld := ⟨R.RZT_RX_CFG, 15, 0⟩
/-- Table 14.10. -/
abbrev R.RZT_RX_PEER : Reg := ⟨0xE200004, 0x1000, 64, 4, 1, 0, 0, false, 0xFFF0FFF, 0, 0, 0⟩
abbrev F.RZT_RX_PEER_PEER_ALT : Fld := ⟨R.RZT_RX_PEER, 27, 16⟩
abbrev F.RZT_RX_PEER_PEER : Fld := ⟨R.RZT_RX_PEER, 11, 0⟩
/-- Table 14.10. -/
abbrev R.RZT_RX_SIG : Reg := ⟨0xE200008, 0x1000, 64, 4, 1, 0, 0, false, 0xFFFFFFFF, 0, 0, 0⟩
/-- Table 14.10. -/
abbrev R.RZT_RX_PERIOD : Reg := ⟨0xE20000C, 0x1000, 64, 4, 1, 0, 0, false, 0x3FFFFFF, 0, 0, 0⟩
abbrev F.RZT_RX_PERIOD_PERIOD_US : Fld := ⟨R.RZT_RX_PERIOD, 25, 0⟩
/-- Table 14.10. -/
abbrev R.RZT_RX_WDOG : Reg := ⟨0xE200010, 0x1000, 64, 4, 1, 0, 0, false, 0xFFFFFF, 0, 0, 0⟩
abbrev F.RZT_RX_WDOG_WATCHDOG_US : Fld := ⟨R.RZT_RX_WDOG, 23, 0⟩
/-- Table 14.10. -/
abbrev R.RZT_RX_ASSAY : Reg := ⟨0xE200014, 0x1000, 64, 4, 1, 0x32, 0x32, false, 0x3FF, 0, 0, 0⟩
abbrev F.RZT_RX_ASSAY_ASSAY_US : Fld := ⟨R.RZT_RX_ASSAY, 9, 0⟩
/-- Table 14.10. -/
abbrev R.RZT_RX_DEGR : Reg := ⟨0xE200018, 0x1000, 64, 4, 1, 0xE10, 0xE10, false, 0x1FFFF, 0, 0, 0⟩
abbrev F.RZT_RX_DEGR_DEGR_LIMIT_S : Fld := ⟨R.RZT_RX_DEGR, 16, 0⟩
/-- Table 14.11. -/
abbrev R.RZT_RX_STATUS : Reg := ⟨0xE200020, 0x1000, 64, 4, 1, 0, 0, false, 0, 0xFFE00FFF, 0, 0⟩
abbrev F.RZT_RX_STATUS_STATE : Fld := ⟨R.RZT_RX_STATUS, 31, 28⟩
abbrev F.RZT_RX_STATUS_VERSION : Fld := ⟨R.RZT_RX_STATUS, 27, 24⟩
abbrev F.RZT_RX_STATUS_DEGR : Fld := ⟨R.RZT_RX_STATUS, 23, 23⟩
abbrev F.RZT_RX_STATUS_MAINT : Fld := ⟨R.RZT_RX_STATUS, 22, 22⟩
abbrev F.RZT_RX_STATUS_LIMIT : Fld := ⟨R.RZT_RX_STATUS, 21, 21⟩
abbrev F.RZT_RX_STATUS_FROM : Fld := ⟨R.RZT_RX_STATUS, 11, 0⟩
/-- Table 14.11. -/
abbrev R.RZT_RX_SEQ : Reg := ⟨0xE200024, 0x1000, 64, 4, 1, 0, 0, false, 0, 0xFFFFFFFF, 0, 0⟩
/-- Table 14.11. -/
abbrev R.RZT_RX_COUNTS_0 : Reg := ⟨0xE200028, 0x1000, 64, 4, 1, 0, 0, false, 0, 0xFFFFFFFF, 0, 0⟩
abbrev F.RZT_RX_COUNTS_0_CRC : Fld := ⟨R.RZT_RX_COUNTS_0, 31, 16⟩
abbrev F.RZT_RX_COUNTS_0_SEQ : Fld := ⟨R.RZT_RX_COUNTS_0, 15, 8⟩
abbrev F.RZT_RX_COUNTS_0_OTHER : Fld := ⟨R.RZT_RX_COUNTS_0, 7, 0⟩
/-- Table 14.11. -/
abbrev R.RZT_RX_COUNTS_1 : Reg := ⟨0xE20002C, 0x1000, 64, 4, 1, 0, 0, false, 0, 0xFFFFFFFF, 0, 0⟩
abbrev F.RZT_RX_COUNTS_1_DEGR : Fld := ⟨R.RZT_RX_COUNTS_1, 31, 16⟩
abbrev F.RZT_RX_COUNTS_1_MISMATCH : Fld := ⟨R.RZT_RX_COUNTS_1, 15, 8⟩
abbrev F.RZT_RX_COUNTS_1_WATCHDOG : Fld := ⟨R.RZT_RX_COUNTS_1, 7, 0⟩
/-- Table 14.11. -/
abbrev R.RZT_RX_DEGR_TIME : Reg := ⟨0xE200030, 0x1000, 64, 4, 1, 0, 0, false, 0, 0xFFFFFFFF, 0, 0⟩
/-- Table 14.12. -/
abbrev R.RZT_TX_CFG : Reg := ⟨0xE300000, 0x1000, 64, 4, 1, 0x30000000, 0x30000000, false, 0xBFC0FFFF, 0, 0, 0⟩
abbrev F.RZT_TX_CFG_EN : Fld := ⟨R.RZT_TX_CFG, 31, 31⟩
abbrev F.RZT_TX_CFG_VERSIONS : Fld := ⟨R.RZT_TX_CFG, 29, 28⟩
abbrev F.RZT_TX_CFG_COUNT : Fld := ⟨R.RZT_TX_CFG, 27, 22⟩
abbrev F.RZT_TX_CFG_CONN_ID : Fld := ⟨R.RZT_TX_CFG, 15, 0⟩
/-- Table 14.12. -/
abbrev R.RZT_TX_PEER : Reg := ⟨0xE300004, 0x1000, 64, 4, 1, 0, 0, false, 0xFFFFFFFF, 0, 0, 0⟩
/-- Table 14.12. -/
abbrev R.RZT_TX_SIG : Reg := ⟨0xE300008, 0x1000, 64, 4, 1, 0, 0, false, 0xFFFFFFFF, 0, 0, 0⟩
/-- Table 14.12. -/
abbrev R.RZT_TX_PERIOD : Reg := ⟨0xE30000C, 0x1000, 64, 4, 1, 0, 0, false, 0x3FFFFFF, 0, 0, 0⟩
abbrev F.RZT_TX_PERIOD_PERIOD_US : Fld := ⟨R.RZT_TX_PERIOD, 25, 0⟩
/-- Table 14.12. -/
abbrev R.RZT_TX_PHASE : Reg := ⟨0xE300010, 0x1000, 64, 4, 1, 0, 0, false, 0x3FFFFFF, 0, 0, 0⟩
abbrev F.RZT_TX_PHASE_PHASE_US : Fld := ⟨R.RZT_TX_PHASE, 25, 0⟩
/-- Table 14.12. -/
abbrev R.RZT_TX_STATUS : Reg := ⟨0xE300014, 0x1000, 64, 4, 1, 0, 0, false, 0, 0xFFC00FFF, 0, 0⟩
abbrev F.RZT_TX_STATUS_STATE : Fld := ⟨R.RZT_TX_STATUS, 31, 28⟩
abbrev F.RZT_TX_STATUS_VERSION : Fld := ⟨R.RZT_TX_STATUS, 27, 24⟩
abbrev F.RZT_TX_STATUS_MAINT : Fld := ⟨R.RZT_TX_STATUS, 23, 23⟩
abbrev F.RZT_TX_STATUS_WAITING : Fld := ⟨R.RZT_TX_STATUS, 22, 22⟩
abbrev F.RZT_TX_STATUS_DEST : Fld := ⟨R.RZT_TX_STATUS, 11, 0⟩
/-- Table 14.12. -/
abbrev R.RZT_TX_SEQ : Reg := ⟨0xE300018, 0x1000, 64, 4, 1, 0, 0, false, 0, 0xFFFFFFFF, 0, 0⟩
/-- Table 14.12. -/
abbrev R.RZT_TX_ELEM : Reg := ⟨0xE300100, 0x1000, 64, 4, 32, 0, 0, false, 0x1FFFF, 0, 0, 0⟩
abbrev F.RZT_TX_ELEM_SIGNAL : Fld := ⟨R.RZT_TX_ELEM, 16, 0⟩

/-- Table 15.15. -/
abbrev R.PAIR_CFG : Reg := ⟨0xF000000, 0x1000, 1, 4, 1, 0, 0, false, 0xFFFFFF01, 0, 0, 0⟩
abbrev F.PAIR_CFG_STATION : Fld := ⟨R.PAIR_CFG, 31, 20⟩
abbrev F.PAIR_CFG_PEER : Fld := ⟨R.PAIR_CFG, 19, 8⟩
abbrev F.PAIR_CFG_HOME : Fld := ⟨R.PAIR_CFG, 0, 0⟩
/-- Table 15.15. -/
abbrev R.PAIR_TIMING : Reg := ⟨0xF000004, 0x1000, 1, 4, 1, 0x2A00003C, 0x2A00003C, false, 0xFFC00FFF, 0, 0, 0⟩
abbrev F.PAIR_TIMING_SWAP_H : Fld := ⟨R.PAIR_TIMING, 31, 22⟩
abbrev F.PAIR_TIMING_RECLAIM_S : Fld := ⟨R.PAIR_TIMING, 11, 0⟩
/-- Table 15.15. -/
abbrev R.PAIR_FAULT_HO : Reg := ⟨0xF000008, 0x1000, 1, 4, 1, 0xF, 0xF, false, 0xF, 0, 0, 0⟩
abbrev F.PAIR_FAULT_HO_CAUSES : Fld := ⟨R.PAIR_FAULT_HO, 3, 0⟩
/-- Table 15.16. -/
abbrev R.PAIR_STATUS : Reg := ⟨0xF00000C, 0x1000, 1, 4, 1, 0, 0, false, 0, 0xFFE00000, 0, 0⟩
abbrev F.PAIR_STATUS_STATE : Fld := ⟨R.PAIR_STATUS, 31, 28⟩
abbrev F.PAIR_STATUS_PEER_STATE : Fld := ⟨R.PAIR_STATUS, 27, 24⟩
abbrev F.PAIR_STATUS_PEER_PRESENT : Fld := ⟨R.PAIR_STATUS, 23, 23⟩
abbrev F.PAIR_STATUS_POLICY : Fld := ⟨R.PAIR_STATUS, 22, 22⟩
abbrev F.PAIR_STATUS_RECLAIM_PENDING : Fld := ⟨R.PAIR_STATUS, 21, 21⟩
/-- Table 15.16. -/
abbrev R.PAIR_CTRL : Reg := ⟨0xF000010, 0x1000, 1, 4, 1, 0, 0, false, 0, 0, 0, 0xFF00000F⟩
abbrev F.PAIR_CTRL_KEY : Fld := ⟨R.PAIR_CTRL, 31, 24⟩
abbrev F.PAIR_CTRL_CMD : Fld := ⟨R.PAIR_CTRL, 3, 0⟩
/-- Table 15.16. -/
abbrev R.PAIR_RESULT : Reg := ⟨0xF000014, 0x1000, 1, 4, 1, 0, 0, false, 0, 0xFF000000, 0, 0⟩
abbrev F.PAIR_RESULT_STATUS : Fld := ⟨R.PAIR_RESULT, 31, 24⟩
/-- Table 15.17. -/
abbrev R.PAIR_LAG : Reg := ⟨0xF000018, 0x1000, 1, 4, 1, 0, 0, false, 0, 0xFFFFFFFF, 0, 0⟩
abbrev F.PAIR_LAG_LAG_US : Fld := ⟨R.PAIR_LAG, 31, 16⟩
abbrev F.PAIR_LAG_PEAK_US : Fld := ⟨R.PAIR_LAG, 15, 0⟩
/-- Table 15.17. -/
abbrev R.PAIR_COPY : Reg := ⟨0xF00001C, 0x1000, 1, 4, 1, 0, 0, false, 0, 0xFFFFFFFF, 0, 0⟩
/-- Table 15.17. -/
abbrev R.PAIR_COUNTS_0 : Reg := ⟨0xF000020, 0x1000, 1, 4, 1, 0, 0, false, 0, 0xFFFFFFFF, 0, 0⟩
abbrev F.PAIR_COUNTS_0_HANDOVERS : Fld := ⟨R.PAIR_COUNTS_0, 31, 16⟩
abbrev F.PAIR_COUNTS_0_TAKEOVERS : Fld := ⟨R.PAIR_COUNTS_0, 15, 0⟩
/-- Table 15.17. -/
abbrev R.PAIR_COUNTS_1 : Reg := ⟨0xF000024, 0x1000, 1, 4, 1, 0, 0, false, 0, 0xFFFFFFFF, 0, 0⟩
abbrev F.PAIR_COUNTS_1_RESYNCS : Fld := ⟨R.PAIR_COUNTS_1, 31, 16⟩
abbrev F.PAIR_COUNTS_1_CONFLICTS : Fld := ⟨R.PAIR_COUNTS_1, 15, 8⟩
abbrev F.PAIR_COUNTS_1_SYNC_LOSSES : Fld := ⟨R.PAIR_COUNTS_1, 7, 0⟩
/-- Table 15.17. -/
abbrev R.PAIR_LAYOUT : Reg := ⟨0xF000028, 0x1000, 1, 4, 1, 0, 0, false, 0, 0xFFFFFFFF, 0, 0⟩
/-- Table 15.17. -/
abbrev R.PAIR_PEER_LAYOUT : Reg := ⟨0xF00002C, 0x1000, 1, 4, 1, 0, 0, false, 0, 0xFFFFFFFF, 0, 0⟩
/-- Table 15.18. -/
abbrev R.PAIR_TL_SHIFT : Reg := ⟨0xF000030, 0x1000, 1, 4, 2, 0, 0, true, 0, 0xFFFFFFFF, 0, 0⟩
/-- Table 15.18. -/
abbrev R.PAIR_LAST : Reg := ⟨0xF000038, 0x1000, 1, 4, 2, 0, 0, true, 0, 0xFFFFFFFF, 0, 0⟩
/-- Table 15.18. -/
abbrev R.PAIR_SWAP_DUE : Reg := ⟨0xF000040, 0x1000, 1, 4, 1, 0xFFFFFFFF, 0xFFFFFFFF, false, 0, 0xFFFFFFFF, 0, 0⟩
/-- Table 15.18. -/
abbrev R.LL_STATUS : Reg := ⟨0xF000044, 0x1000, 1, 4, 1, 0xFFFF, 0xFFFF, false, 0, 0xFF00FFFF, 0, 0⟩
abbrev F.LL_STATUS_STATE : Fld := ⟨R.LL_STATUS, 31, 28⟩
abbrev F.LL_STATUS_VERSION : Fld := ⟨R.LL_STATUS, 27, 24⟩
abbrev F.LL_STATUS_HB_AGE_US : Fld := ⟨R.LL_STATUS, 15, 0⟩
/-- Table 15.18. -/
abbrev R.LL_COUNTS : Reg := ⟨0xF000048, 0x1000, 1, 4, 1, 0, 0, false, 0, 0xFFFFFFFF, 0, 0⟩
abbrev F.LL_COUNTS_CRC : Fld := ⟨R.LL_COUNTS, 31, 16⟩
abbrev F.LL_COUNTS_RESENDS : Fld := ⟨R.LL_COUNTS, 15, 0⟩

/-- Table 16.7. -/
abbrev R.CAN_CFG : Reg := ⟨0x10100000, 0x1000, 4, 4, 1, 0x2000000, 0x2000000, false, 0xFE000000, 0, 0, 0⟩
abbrev F.CAN_CFG_MODE : Fld := ⟨R.CAN_CFG, 31, 28⟩
abbrev F.CAN_CFG_FD : Fld := ⟨R.CAN_CFG, 27, 27⟩
abbrev F.CAN_CFG_TERM : Fld := ⟨R.CAN_CFG, 26, 26⟩
abbrev F.CAN_CFG_PEX : Fld := ⟨R.CAN_CFG, 25, 25⟩
/-- Table 16.7. -/
abbrev R.CAN_NBT : Reg := ⟨0x10100004, 0x1000, 4, 4, 1, 0x6331620, 0x6331620, false, 0xFFFFFFE0, 0, 0, 0⟩
abbrev F.CAN_NBT_NBRP : Fld := ⟨R.CAN_NBT, 31, 27⟩
abbrev F.CAN_NBT_NTSEG1 : Fld := ⟨R.CAN_NBT, 26, 19⟩
abbrev F.CAN_NBT_NTSEG2 : Fld := ⟨R.CAN_NBT, 18, 12⟩
abbrev F.CAN_NBT_NSJW : Fld := ⟨R.CAN_NBT, 11, 5⟩
/-- Table 16.7. -/
abbrev R.CAN_DBT : Reg := ⟨0x10100008, 0x1000, 4, 4, 1, 0x124400, 0x124400, false, 0xF81FFF00, 0, 0, 0⟩
abbrev F.CAN_DBT_DBRP : Fld := ⟨R.CAN_DBT, 31, 27⟩
abbrev F.CAN_DBT_DTSEG1 : Fld := ⟨R.CAN_DBT, 20, 16⟩
abbrev F.CAN_DBT_DTSEG2 : Fld := ⟨R.CAN_DBT, 15, 12⟩
abbrev F.CAN_DBT_DSJW : Fld := ⟨R.CAN_DBT, 11, 8⟩
/-- Table 16.7. -/
abbrev R.CAN_TDC : Reg := ⟨0x1010000C, 0x1000, 4, 4, 1, 0, 0, false, 0x80FF0000, 0xFF, 0, 0⟩
abbrev F.CAN_TDC_EN : Fld := ⟨R.CAN_TDC, 31, 31⟩
abbrev F.CAN_TDC_TDCO : Fld := ⟨R.CAN_TDC, 23, 16⟩
abbrev F.CAN_TDC_TDCV : Fld := ⟨R.CAN_TDC, 7, 0⟩
/-- Table 16.8. -/
abbrev R.CAN_STATUS : Reg := ⟨0x10100010, 0x1000, 4, 4, 1, 0, 0, false, 0, 0xFFFFFFFF, 0, 0⟩
abbrev F.CAN_STATUS_STATE : Fld := ⟨R.CAN_STATUS, 31, 28⟩
abbrev F.CAN_STATUS_EFF_MODE : Fld := ⟨R.CAN_STATUS, 27, 24⟩
abbrev F.CAN_STATUS_REC : Fld := ⟨R.CAN_STATUS, 23, 16⟩
abbrev F.CAN_STATUS_TEC : Fld := ⟨R.CAN_STATUS, 15, 8⟩
abbrev F.CAN_STATUS_RECOVERY : Fld := ⟨R.CAN_STATUS, 7, 0⟩
/-- Table 16.8. -/
abbrev R.CAN_COUNTS_0 : Reg := ⟨0x10100018, 0x1000, 4, 4, 1, 0, 0, false, 0, 0xFFFFFFFF, 0, 0⟩
abbrev F.CAN_COUNTS_0_TX_OK : Fld := ⟨R.CAN_COUNTS_0, 31, 16⟩
abbrev F.CAN_COUNTS_0_RX_OK : Fld := ⟨R.CAN_COUNTS_0, 15, 0⟩
/-- Table 16.8. -/
abbrev R.CAN_COUNTS_1 : Reg := ⟨0x1010001C, 0x1000, 4, 4, 1, 0, 0, false, 0, 0xFFFFFFFF, 0, 0⟩
abbrev F.CAN_COUNTS_1_TX_DISCARD : Fld := ⟨R.CAN_COUNTS_1, 31, 16⟩
abbrev F.CAN_COUNTS_1_TX_REFUSED : Fld := ⟨R.CAN_COUNTS_1, 15, 0⟩
/-- Table 16.8. -/
abbrev R.CAN_COUNTS_2 : Reg := ⟨0x10100020, 0x1000, 4, 4, 1, 0, 0, false, 0, 0xFFFFFFFF, 0, 0⟩
abbrev F.CAN_COUNTS_2_RX_LOST : Fld := ⟨R.CAN_COUNTS_2, 31, 16⟩
abbrev F.CAN_COUNTS_2_NOMATCH : Fld := ⟨R.CAN_COUNTS_2, 15, 0⟩
/-- Table 16.8. -/
abbrev R.CAN_COUNTS_3 : Reg := ⟨0x10100024, 0x1000, 4, 4, 1, 0, 0, false, 0, 0xFFFFFFFF, 0, 0⟩
abbrev F.CAN_COUNTS_3_BUS_OFF : Fld := ⟨R.CAN_COUNTS_3, 31, 24⟩
abbrev F.CAN_COUNTS_3_PASSIVE : Fld := ⟨R.CAN_COUNTS_3, 23, 16⟩
abbrev F.CAN_COUNTS_3_ERRORS : Fld := ⟨R.CAN_COUNTS_3, 15, 0⟩
/-- Table 16.8. -/
abbrev R.CAN_LAST_ERR : Reg := ⟨0x10100028, 0x1000, 4, 4, 1, 0, 0, false, 0, 0x1FF, 0, 0⟩
abbrev F.CAN_LAST_ERR_DATA_PHASE : Fld := ⟨R.CAN_LAST_ERR, 8, 8⟩
abbrev F.CAN_LAST_ERR_CODE : Fld := ⟨R.CAN_LAST_ERR, 7, 0⟩
/-- Table 16.9. -/
abbrev R.CAN_FLT_ID : Reg := ⟨0x10100400, 0x1000, 4, 0x10, 64, 0, 0, false, 0x9FFFFFFF, 0, 0, 0⟩
abbrev F.CAN_FLT_ID_IDE : Fld := ⟨R.CAN_FLT_ID, 31, 31⟩
abbrev F.CAN_FLT_ID_ID : Fld := ⟨R.CAN_FLT_ID, 28, 0⟩
/-- Table 16.9. -/
abbrev R.CAN_FLT_MASK : Reg := ⟨0x10100404, 0x1000, 4, 0x10, 64, 0x1FFFFFFF, 0x1FFFFFFF, false, 0x1FFFFFFF, 0, 0, 0⟩
abbrev F.CAN_FLT_MASK_MASK : Fld := ⟨R.CAN_FLT_MASK, 28, 0⟩
/-- Table 16.9. -/
abbrev R.CAN_FLT_CTRL : Reg := ⟨0x10100408, 0x1000, 4, 0x10, 64, 0, 0, false, 0xE000003F, 0, 0, 0⟩
abbrev F.CAN_FLT_CTRL_EN : Fld := ⟨R.CAN_FLT_CTRL, 31, 31⟩
abbrev F.CAN_FLT_CTRL_TILL : Fld := ⟨R.CAN_FLT_CTRL, 30, 30⟩
abbrev F.CAN_FLT_CTRL_SIG : Fld := ⟨R.CAN_FLT_CTRL, 29, 29⟩
abbrev F.CAN_FLT_CTRL_BYTE_OFF : Fld := ⟨R.CAN_FLT_CTRL, 5, 0⟩
/-- Table 16.9. -/
abbrev R.CAN_FLT_SIG : Reg := ⟨0x1010040C, 0x1000, 4, 0x10, 64, 0, 0, false, 0x1FFFF, 0, 0, 0⟩
abbrev F.CAN_FLT_SIG_SIGNAL : Fld := ⟨R.CAN_FLT_SIG, 16, 0⟩
/-- Table 16.9. -/
abbrev R.CAN_OWNER : Reg := ⟨0x10100FFC, 0x1000, 4, 4, 1, 0, 0, false, 7, 0, 0, 0⟩
abbrev F.CAN_OWNER_ACCOUNT : Fld := ⟨R.CAN_OWNER, 2, 0⟩

/-- Table 17.11. -/
abbrev R.VAULT_STATUS : Reg := ⟨0x11000000, 0x1000, 1, 4, 1, 0, 0, false, 0, 0xFC000FFF, 0, 0⟩
abbrev F.VAULT_STATUS_STATE : Fld := ⟨R.VAULT_STATUS, 31, 28⟩
abbrev F.VAULT_STATUS_VA_OK : Fld := ⟨R.VAULT_STATUS, 27, 27⟩
abbrev F.VAULT_STATUS_VB_OK : Fld := ⟨R.VAULT_STATUS, 26, 26⟩
abbrev F.VAULT_STATUS_BUF_USED : Fld := ⟨R.VAULT_STATUS, 11, 0⟩
/-- Table 17.11. -/
abbrev R.VAULT_NEXT : Reg := ⟨0x11000004, 0x1000, 1, 4, 1, 0, 0, false, 0, 0xFFFFFFFF, 0, 0⟩
/-- Table 17.11. -/
abbrev R.VAULT_OLDEST : Reg := ⟨0x11000008, 0x1000, 1, 4, 1, 0, 0, false, 0, 0xFFFFFFFF, 0, 0⟩
/-- Table 17.11. -/
abbrev R.VAULT_ERASED : Reg := ⟨0x11000018, 0x1000, 1, 4, 1, 0, 0, false, 0, 0xFFFFFFFF, 0, 0⟩
abbrev F.VAULT_ERASED_VA : Fld := ⟨R.VAULT_ERASED, 31, 16⟩
abbrev F.VAULT_ERASED_VB : Fld := ⟨R.VAULT_ERASED, 15, 0⟩
/-- Table 17.12. -/
abbrev R.VAULT_COUNTS_0 : Reg := ⟨0x1100000C, 0x1000, 1, 4, 1, 0, 0, false, 0, 0xFFFFFFFF, 0, 0⟩
abbrev F.VAULT_COUNTS_0_LOST : Fld := ⟨R.VAULT_COUNTS_0, 31, 16⟩
abbrev F.VAULT_COUNTS_0_SUPPRESSED : Fld := ⟨R.VAULT_COUNTS_0, 15, 0⟩
/-- Table 17.12. -/
abbrev R.VAULT_COUNTS_1 : Reg := ⟨0x11000010, 0x1000, 1, 4, 1, 0, 0, false, 0, 0xFFFFFFFF, 0, 0⟩
abbrev F.VAULT_COUNTS_1_TAINTED : Fld := ⟨R.VAULT_COUNTS_1, 31, 24⟩
abbrev F.VAULT_COUNTS_1_RETIRED : Fld := ⟨R.VAULT_COUNTS_1, 23, 16⟩
abbrev F.VAULT_COUNTS_1_FLUSHES : Fld := ⟨R.VAULT_COUNTS_1, 15, 0⟩
/-- Table 17.12. -/
abbrev R.VAULT_FLUSH_MAX : Reg := ⟨0x11000014, 0x1000, 1, 4, 1, 0, 0, false, 0, 0xFFFFFFFF, 0, 0⟩
/-- Table 17.12. -/
abbrev R.VAULT_RATE : Reg := ⟨0x11000020, 0x1000, 1, 4, 1, 0x14, 0x14, false, 0xFF, 0, 0, 0⟩
abbrev F.VAULT_RATE_DEFAULT : Fld := ⟨R.VAULT_RATE, 7, 0⟩
/-- Table 17.13. -/
abbrev R.VAULT_RATE_OVR : Reg := ⟨0x11000100, 4, 32, 4, 1, 0x14, 0x14, false, 0xFFFF00FF, 0, 0, 0⟩
abbrev F.VAULT_RATE_OVR_CODE : Fld := ⟨R.VAULT_RATE_OVR, 31, 16⟩
abbrev F.VAULT_RATE_OVR_LIMIT : Fld := ⟨R.VAULT_RATE_OVR, 7, 0⟩
/-- Table 17.13. -/
abbrev R.VAULT_PRIV : Reg := ⟨0x11000200, 8, 16, 4, 1, 0, 0, false, 0x80FFFFFF, 0, 0, 0⟩
abbrev F.VAULT_PRIV_EN : Fld := ⟨R.VAULT_PRIV, 31, 31⟩
abbrev F.VAULT_PRIV_COUNT : Fld := ⟨R.VAULT_PRIV, 23, 16⟩
abbrev F.VAULT_PRIV_CODE : Fld := ⟨R.VAULT_PRIV, 15, 0⟩
/-- Table 17.13. -/
abbrev R.VAULT_PRIV_BASE : Reg := ⟨0x11000204, 8, 16, 4, 1, 0, 0, false, 0xFFFFFFFF, 0, 0, 0⟩
/-- Table 17.13. -/
abbrev R.VAULT_WIN_ADDR : Reg := ⟨0x11000300, 0x1000, 1, 4, 1, 0, 0, false, 0xFFFFFFFF, 0, 0, 0⟩
/-- Table 17.13. -/
abbrev R.VAULT_WIN_DATA : Reg := ⟨0x11000304, 0x1000, 1, 4, 1, 0, 0, false, 0, 0xFFFFFFFF, 0, 0⟩

/-- Table 18.7. -/
abbrev R.ST_STATUS : Reg := ⟨0x12000000, 0x1000, 1, 4, 1, 0x1F00000, 0x1F00000, false, 0, 0xF9FF1F1F, 0, 0⟩
abbrev F.ST_STATUS_ROT_STATE : Fld := ⟨R.ST_STATUS, 31, 28⟩
abbrev F.ST_STATUS_DEGRADED : Fld := ⟨R.ST_STATUS, 27, 27⟩
abbrev F.ST_STATUS_TARGET : Fld := ⟨R.ST_STATUS, 24, 20⟩
abbrev F.ST_STATUS_SPARES : Fld := ⟨R.ST_STATUS, 19, 16⟩
abbrev F.ST_STATUS_FUSED : Fld := ⟨R.ST_STATUS, 12, 8⟩
abbrev F.ST_STATUS_REMOVED : Fld := ⟨R.ST_STATUS, 4, 0⟩
/-- Table 18.7. -/
abbrev R.ST_CFG : Reg := ⟨0x12000004, 0x1000, 1, 4, 1, 0xA, 0xA, false, 0xFF, 0, 0, 0⟩
abbrev F.ST_CFG_INTERVAL_S : Fld := ⟨R.ST_CFG, 7, 0⟩
/-- Table 18.7. -/
abbrev R.ST_COUNTS : Reg := ⟨0x12000008, 0x1000, 1, 4, 1, 0, 0, false, 0, 0xFFFFFFFF, 0, 0⟩
abbrev F.ST_COUNTS_PASSED : Fld := ⟨R.ST_COUNTS, 31, 16⟩
abbrev F.ST_COUNTS_FAILED : Fld := ⟨R.ST_COUNTS, 15, 8⟩
abbrev F.ST_COUNTS_SKIPPED : Fld := ⟨R.ST_COUNTS, 7, 0⟩
/-- Table 18.8. -/
abbrev R.ST_ROUND : Reg := ⟨0x1200000C, 0x1000, 1, 4, 1, 0, 0, false, 0, 0xFFFFFFFF, 0, 0⟩
/-- Table 18.8. -/
abbrev R.LEDGER_ECC : Reg := ⟨0x12000010, 0x1000, 1, 4, 1, 0, 0, false, 0, 0xFFFFFFFF, 0, 0⟩
abbrev F.LEDGER_ECC_UNCORRECTED : Fld := ⟨R.LEDGER_ECC, 31, 16⟩
abbrev F.LEDGER_ECC_CORRECTED : Fld := ⟨R.LEDGER_ECC, 15, 0⟩
/-- Table 18.8. -/
abbrev R.ST_MAP : Reg := ⟨0x12000100, 4, 16, 4, 1, 0x1F, 0x1F, false, 0, 0x1F, 0, 0⟩
abbrev F.ST_MAP_WHEEL : Fld := ⟨R.ST_MAP, 4, 0⟩
/-- Table 18.9. -/
abbrev R.WHEEL_STATE : Reg := ⟨0x12000200, 4, 18, 4, 1, 0xF800000, 0xF800000, false, 0, 0xFFEFF000, 0, 0⟩
abbrev F.WHEEL_STATE_STATE : Fld := ⟨R.WHEEL_STATE, 31, 28⟩
abbrev F.WHEEL_STATE_LWHEEL : Fld := ⟨R.WHEEL_STATE, 27, 23⟩
abbrev F.WHEEL_STATE_STRIKE : Fld := ⟨R.WHEEL_STATE, 22, 22⟩
abbrev F.WHEEL_STATE_OUT : Fld := ⟨R.WHEEL_STATE, 21, 21⟩
abbrev F.WHEEL_STATE_RESULT : Fld := ⟨R.WHEEL_STATE, 19, 16⟩
abbrev F.WHEEL_STATE_FAIL_CP : Fld := ⟨R.WHEEL_STATE, 15, 12⟩
/-- Table 18.9. -/
abbrev R.WHEEL_TEST : Reg := ⟨0x12000300, 4, 18, 4, 1, 0, 0, false, 0, 0xFFFFFFFF, 0, 0⟩
abbrev F.WHEEL_TEST_SINCE_S : Fld := ⟨R.WHEEL_TEST, 31, 16⟩
abbrev F.WHEEL_TEST_FAILS : Fld := ⟨R.WHEEL_TEST, 15, 8⟩
abbrev F.WHEEL_TEST_SKIPS : Fld := ⟨R.WHEEL_TEST, 7, 0⟩
/-- Table 18.10. -/
abbrev R.WHEEL_ECC : Reg := ⟨0x12000400, 4, 18, 4, 1, 0, 0, false, 0, 0xFFFFFFFF, 0, 0⟩
abbrev F.WHEEL_ECC_CODE_UNC : Fld := ⟨R.WHEEL_ECC, 31, 24⟩
abbrev F.WHEEL_ECC_DATA_UNC : Fld := ⟨R.WHEEL_ECC, 23, 16⟩
abbrev F.WHEEL_ECC_CODE_COR : Fld := ⟨R.WHEEL_ECC, 15, 8⟩
abbrev F.WHEEL_ECC_DATA_COR : Fld := ⟨R.WHEEL_ECC, 7, 0⟩
/-- Table 18.10. -/
abbrev R.WHEEL_SIG : Reg := ⟨0x12000500, 8, 18, 4, 2, 0, 0, true, 0, 0xFFFFFFFF, 0, 0⟩

/-- Table 19.3. -/
abbrev R.PANEL_CTRL : Reg := ⟨0x13000000, 0x1000, 1, 4, 1, 0x3200, 0x3200, false, 0x7F03, 0, 0, 0⟩
abbrev F.PANEL_CTRL_BRIGHT : Fld := ⟨R.PANEL_CTRL, 14, 8⟩
abbrev F.PANEL_CTRL_BLANK : Fld := ⟨R.PANEL_CTRL, 1, 1⟩
abbrev F.PANEL_CTRL_SOURCE : Fld := ⟨R.PANEL_CTRL, 0, 0⟩
/-- Table 19.3. -/
abbrev R.PANEL_STATUS : Reg := ⟨0x13000004, 0x1000, 1, 4, 1, 0, 0, false, 0, 0xF80001FF, 0, 0⟩
abbrev F.PANEL_STATUS_STATE : Fld := ⟨R.PANEL_STATUS, 31, 28⟩
abbrev F.PANEL_STATUS_SOURCE_EFF : Fld := ⟨R.PANEL_STATUS, 27, 27⟩
abbrev F.PANEL_STATUS_LINE : Fld := ⟨R.PANEL_STATUS, 8, 0⟩
/-- Table 19.4. -/
abbrev R.PANEL_FRAMES : Reg := ⟨0x13000008, 0x1000, 1, 4, 1, 0, 0, false, 0, 0xFFFFFFFF, 0, 0⟩
/-- Table 19.4. -/
abbrev R.PANEL_WIN_ADDR : Reg := ⟨0x13000010, 0x1000, 1, 4, 1, 0, 0, false, 0xFFFFFFFF, 0, 0, 0⟩
/-- Table 19.4. -/
abbrev R.PANEL_WIN_DATA : Reg := ⟨0x13000014, 0x1000, 1, 4, 1, 0, 0, false, 0xFFFFFFFF, 0, 0, 0⟩

/-- The registers of subsystem 0x01. -/
def regs01 : List Reg :=
  [R.BASEPLATE_STATUS, R.SEAL_STATE, R.SEAL_CHANGES, R.LED_STATE, R.ID_PART, R.ID_ISSUE, R.ID_SERIAL, R.MODULE_ADDRESS, R.START_STATUS, R.START_DURATION, R.SYS_RESTART]
/-- The registers of subsystem 0x02. -/
def regs02 : List Reg :=
  [R.FEED_STATUS, R.FEED_VOLTAGE, R.HOLDUP_STATUS, R.HOLDUP_CAPACITY, R.FS_STATUS, R.FS_VOLTAGE, R.DOMAIN_ON, R.DOMAIN_TRIP, R.THERMAL_STATUS, R.THERMAL_SENSOR]
/-- The registers of subsystem 0x03. -/
def regs03 : List Reg :=
  [R.CFG_STATUS, R.CFG_GEN, R.CFG_FAIL_BLOCK, R.CFG_DIGEST, R.CFG_SAFETY_CRC, R.CFG_SEAL, R.CFG_WR_CTRL, R.CFG_WR_BLOCKS, R.CFG_WR_STATUS, R.CFG_WR_DATA, R.CFG_WR_SEAL]
/-- The registers of subsystem 0x04. -/
def regs04 : List Reg :=
  [R.ACCT_STATE, R.MGMT_STATUS, R.ACCT_CTRL, R.ACCT_STATUS, R.ACCT_QUOTA_0, R.ACCT_QUOTA_1, R.ACCT_QUOTA_2, R.ACCT_COUNTS, R.ACCT_CFG, R.ACCT_KEY, R.TILL_CFG, R.TILL_STATUS, R.TILL_LEVEL, R.TILL_UNREAD, R.TILL_CMD, R.TILL_ECC, R.SESSION_STATUS, R.SESSION_CTRL, R.TILL_DATA_LO, R.TILL_DATA_HI]
/-- The registers of subsystem 0x05. -/
def regs05 : List Reg :=
  [R.SAFE_CMP, R.WHEEL_LOAD, R.PROG_CODE, R.PROG_DATA, R.PROG_ENTRY, R.PROG_TRAPMASK, R.PROG_STATUS, R.PROG_FLAGS, R.PROG_CYCLES, R.PROG_CYCLES_MAX, R.PROG_CRC, R.CODE_WIN_ADDR, R.DATA_WIN_ADDR, R.CODE_WIN_DATA, R.DATA_WIN_DATA, R.PROG_OWNER]
/-- The registers of subsystem 0x06. -/
def regs06 : List Reg :=
  [R.CH_MERGE_MAX, R.CH_WAIT_MAX, R.SNAP_MAX, R.FORCE_STATUS, R.IMAGE_ECC, R.RELEASE_BASE, R.TASK_CFG, R.TASK_PERIOD, R.TASK_PHASE, R.TASK_OVR, R.TASK_STATUS, R.TASK_COUNTS, R.TASK_LAST, R.TASK_MAX, R.TASK_RELEASES, R.SLOT_WIN_ADDR, R.SLOT_WIN_DATA, R.SLOT_COUNT, R.TASK_OWNER, R.SIG_WIN_ADDR, R.SIG_WIN_DATA, R.SIG_COUNT, R.FORCE_SIGNAL, R.FORCE_VALUE] ++
  [R.FORCE_CTRL, R.FORCE_RESULT, R.FORCE_LIST_ADDR, R.FORCE_LIST_DATA]
/-- The registers of subsystem 0x07. -/
def regs07 : List Reg :=
  [R.FIRE_STATUS, R.FIRE_PEAK, R.FIRE_CFG, R.FIRE_USED, R.FIRE_COUNTS_0, R.FIRE_COUNTS_1, R.FIRE_COUNTS_2, R.FIRE_APPLIED, R.FIRE_LAST, R.FIRE_LAST_TIME, R.FIRE_LIST_ADDR, R.FIRE_LIST_DATA]
/-- The registers of subsystem 0x08. -/
def regs08 : List Reg :=
  [R.AS_SUMMARY, R.AS_CJ, R.AS_FAULT, R.ACH_CFG, R.ACH_RATE, R.ACH_DIAG, R.ACH_OUT_SIG, R.ACH_CJ, R.ACH_CJ_FIXED, R.ACH_LEAD, R.ACH_GAIN_0, R.ACH_GAIN_1, R.ACH_OFFSET_0, R.ACH_OFFSET_1, R.ACH_STATUS, R.ACH_LATCH, R.ACH_RAW, R.ACH_RB, R.ACH_COUNTS, R.ACH_OWNER]
/-- The registers of subsystem 0x09. -/
def regs09 : List Reg :=
  [R.HART_COMMFAIL, R.HART_ZALARM, R.HART_CFG, R.HART_VARS, R.HART_STATUS, R.HART_ID, R.HART_DEVID, R.HART_COUNTS_0, R.HART_COUNTS_1, R.HART_LOOP_I, R.HART_Z, R.HART_Z_BASE, R.HART_Z_CFG]
/-- The registers of subsystem 0x0A. -/
def regs0A : List Reg :=
  [R.DS_SUMMARY, R.DS_FAULT, R.DS_CTRL, R.DS_LOAD, R.DCH_CFG, R.DCH_FILT, R.DCH_OUT_SIG, R.DCH_CNT_CTRL, R.DCH_PRESET, R.DCH_STATUS, R.DCH_LATCH, R.DCH_LOAD, R.DCH_COUNTS, R.DCH_OWNER]
/-- The registers of subsystem 0x0B. -/
def regs0B : List Reg :=
  [R.SL_SUMMARY, R.SL_STATUS, R.SL_COUNTS_0, R.SL_COUNTS_1, R.SL_COUNTS_2, R.SL_ACQ_NS, R.SL_RUN_TIME]
/-- The registers of subsystem 0x0C. -/
def regs0C : List Reg :=
  [R.TIME_STATUS, R.TIME_CFG, R.HOLD_ELAPSED, R.AB_OFFSET, R.CLOCK_STATUS, R.TS_NOW, R.TL_NOW, R.TIME_SET, R.DOM_CFG, R.DOM_STATUS, R.DOM_OFFSET, R.DOM_GM_ID, R.DOM_COUNTS_0, R.DOM_COUNTS_1, R.PORT_PTP, R.PORT_ASYM, R.PORT_PDELAY, R.PORT_COUNTS, R.PORT_LAT]
/-- The registers of subsystem 0x0D. -/
def regs0D : List Reg :=
  [R.NET_PATH, R.NET_TIMING, R.NET_BUDGET, R.NET_STATUS, R.NET_DROPS_0, R.NET_DROPS_1, R.NET_DROPS_2, R.NET_INSTANCE, R.NET_PORTS, R.NET_SEG, R.NET_M_MAC, R.NET_OVR, R.NET_PEER_ADDR, R.NET_PEER_DATA, R.PUB_LIST_ADDR, R.PUB_LIST_DATA, R.SUBS_ADDR, R.SUBS_DATA, R.PORT_STATUS, R.PORT_RX, R.PORT_TX, R.PORT_FWD, R.PORT_ERR, R.NET_ACCT] ++
  [R.NET_COMPL_0, R.NET_COMPL_1, R.NET_COMPL_2, R.NET_COMPL_OK, R.NET_ISSUE_ADDR, R.NET_ISSUE_DATA, R.NET_ISSUE_STATUS, R.PUB_CFG, R.PUB_PERIOD, R.PUB_PHASE, R.PUB_SEQ, R.PUB_OWNER]
/-- The registers of subsystem 0x0E. -/
def regs0E : List Reg :=
  [R.SAFE_STATUS, R.SAFE_SEAL, R.SAFE_COUNTS, R.SAFE_MAINT_TIME, R.SF_CFG, R.SF_OUT, R.SF_LIMIT, R.SF_REMOTE, R.SF_REMOTE_TYP, R.SF_RT, R.SF_RT_TYP, R.SF_STATUS, R.RZT_RX_CFG, R.RZT_RX_PEER, R.RZT_RX_SIG, R.RZT_RX_PERIOD, R.RZT_RX_WDOG, R.RZT_RX_ASSAY, R.RZT_RX_DEGR, R.RZT_RX_STATUS, R.RZT_RX_SEQ, R.RZT_RX_COUNTS_0, R.RZT_RX_COUNTS_1, R.RZT_RX_DEGR_TIME] ++
  [R.RZT_TX_CFG, R.RZT_TX_PEER, R.RZT_TX_SIG, R.RZT_TX_PERIOD, R.RZT_TX_PHASE, R.RZT_TX_STATUS, R.RZT_TX_SEQ, R.RZT_TX_ELEM]
/-- The registers of subsystem 0x0F. -/
def regs0F : List Reg :=
  [R.PAIR_CFG, R.PAIR_TIMING, R.PAIR_FAULT_HO, R.PAIR_STATUS, R.PAIR_CTRL, R.PAIR_RESULT, R.PAIR_LAG, R.PAIR_COPY, R.PAIR_COUNTS_0, R.PAIR_COUNTS_1, R.PAIR_LAYOUT, R.PAIR_PEER_LAYOUT, R.PAIR_TL_SHIFT, R.PAIR_LAST, R.PAIR_SWAP_DUE, R.LL_STATUS, R.LL_COUNTS]
/-- The registers of subsystem 0x10. -/
def regs10 : List Reg :=
  [R.CAN_CFG, R.CAN_NBT, R.CAN_DBT, R.CAN_TDC, R.CAN_STATUS, R.CAN_COUNTS_0, R.CAN_COUNTS_1, R.CAN_COUNTS_2, R.CAN_COUNTS_3, R.CAN_LAST_ERR, R.CAN_FLT_ID, R.CAN_FLT_MASK, R.CAN_FLT_CTRL, R.CAN_FLT_SIG, R.CAN_OWNER]
/-- The registers of subsystem 0x11. -/
def regs11 : List Reg :=
  [R.VAULT_STATUS, R.VAULT_NEXT, R.VAULT_OLDEST, R.VAULT_ERASED, R.VAULT_COUNTS_0, R.VAULT_COUNTS_1, R.VAULT_FLUSH_MAX, R.VAULT_RATE, R.VAULT_RATE_OVR, R.VAULT_PRIV, R.VAULT_PRIV_BASE, R.VAULT_WIN_ADDR, R.VAULT_WIN_DATA]
/-- The registers of subsystem 0x12. -/
def regs12 : List Reg :=
  [R.ST_STATUS, R.ST_CFG, R.ST_COUNTS, R.ST_ROUND, R.LEDGER_ECC, R.ST_MAP, R.WHEEL_STATE, R.WHEEL_TEST, R.WHEEL_ECC, R.WHEEL_SIG]
/-- The registers of subsystem 0x13. -/
def regs13 : List Reg :=
  [R.PANEL_CTRL, R.PANEL_STATUS, R.PANEL_FRAMES, R.PANEL_WIN_ADDR, R.PANEL_WIN_DATA]

/-- The registers of the subsystem that bits 31:24 of an address select (R4, Table 0.2). -/
def regsOf (subsystem : Nat) : List Reg :=
  match subsystem with
  | 0x01 => regs01
  | 0x02 => regs02
  | 0x03 => regs03
  | 0x04 => regs04
  | 0x05 => regs05
  | 0x06 => regs06
  | 0x07 => regs07
  | 0x08 => regs08
  | 0x09 => regs09
  | 0x0A => regs0A
  | 0x0B => regs0B
  | 0x0C => regs0C
  | 0x0D => regs0D
  | 0x0E => regs0E
  | 0x0F => regs0F
  | 0x10 => regs10
  | 0x11 => regs11
  | 0x12 => regs12
  | 0x13 => regs13
  | _ => []

/-- Address of entry (i, j) of a register family. -/
def Reg.addr (r : Reg) (i j : Nat) : Nat := r.base + r.s1 * i + r.s2 * j

/-- The indices of an address in a register family, if it lies there. -/
def Reg.hit (r : Reg) (a : Nat) : Option (Nat × Nat) :=
  if a < r.base then none
  else
    let off := a - r.base
    let i := off / r.s1
    let j := off % r.s1 / r.s2
    if i < r.n1 ∧ j < r.n2 ∧ off % r.s1 % r.s2 = 0 then some (i, j) else none

/-- The register at an address among a list of families. -/
def findReg : List Reg → Nat → Option (Reg × Nat × Nat)
  | [], _ => none
  | r :: rs, a =>
    match r.hit a with
    | some (i, j) => some (r, i, j)
    | none => findReg rs a

/-- The register at a 32-bit address (R4); none where no register is defined (R7). -/
def regAt (a : Nat) : Option (Reg × Nat × Nat) := findReg (regsOf (a / 0x1000000)) a

/-- The reset word of entry j of a register family. -/
def Reg.rstWord (r : Reg) (j : Nat) : Nat := if r.w64 && j % 2 = 1 then r.rstHi else r.rst

/-- The word an address holds after a module start, by the Reset column; 0 where no register is defined (R7). -/
def resetWord (a : Nat) : BitVec 32 :=
  match regAt a with
  | some (r, _, j) => BitVec.ofNat 32 (r.rstWord j)
  | none => 0

end Sys2Proof.Machine
end

