-- ==== Sys2Proof/Machine/NMap.lean ====
section
/-! DEFINITION. Operations of the sparse maps that hold the module's memories and register words as plain data:
reading with a default, and writing that keeps the canonical form (keys strictly rising, no default listed). -/

namespace Sys2Proof.Machine

/-- The value at key k; the default where the map lists none. -/
def nget {V : Type} (d : V) : NMap V → Nat → V
  | [], _ => d
  | (k', v) :: m, k => if k = k' then v else nget d m k

/-- Enter (k, v) at its place, replacing an entry of k that stands there. -/
def ninsert {V : Type} : NMap V → Nat → V → NMap V
  | [], k, v => [(k, v)]
  | (k', v') :: m, k, v =>
    if k < k' then (k, v) :: (k', v') :: m
    else if k = k' then (k, v) :: m
    else (k', v') :: ninsert m k v

/-- Drop every entry of k. -/
def nerase {V : Type} : NMap V → Nat → NMap V
  | [], _ => []
  | (k', v) :: m, k => if k = k' then nerase m k else (k', v) :: nerase m k

/-- Write v at k: the default is not listed. -/
def nset {V : Type} [DecidableEq V] (d : V) (m : NMap V) (k : Nat) (v : V) : NMap V :=
  if v = d then nerase m k else ninsert m k v

/-- Every listed key is above b. -/
def nabove {V : Type} (b : Nat) : NMap V → Bool
  | [] => true
  | (k, _) :: m => decide (b < k) && nabove b m

/-- The canonical form: keys strictly rising, no entry equal to what its key reads as by default. -/
def nwf {V : Type} [DecidableEq V] (d : Nat → V) : NMap V → Bool
  | [] => true
  | (k, v) :: m => decide (v ≠ d k) && nabove k m && nwf d m

/-- Apply f to every listed entry, leaving out those that become the default. -/
def nmapv {V : Type} [DecidableEq V] (d : V) (f : Nat → V → V) : NMap V → NMap V
  | [] => []
  | (k, v) :: m => if f k v = d then nmapv d f m else (k, f k v) :: nmapv d f m

end Sys2Proof.Machine
end

