-- ==== Sys2Proof/Machine/State.lean ====
section
/-! DEFINITION. The state of the module as plain data, chapter by chapter; what stops the machine; and State.reset, the
machine with power off before its first start, every register at the value of the spec's Reset columns. -/

namespace Sys2Proof.Machine

/-! ## Chapters 1 to 3: base plate, supply, start -/

/-- Where the module stands in its life: see START_STATUS.STEP for the step within a start. -/
inductive Phase where
  /-- nothing but D63 may be on: waiting for supply and mate filter -/
  | waiting
  /-- in the start sequence of Table 3.1 -/
  | starting
  /-- the unconfigured state of R58 -/
  | unconfigured
  /-- after step 14 (or the entry into resync) -/
  | running
  /-- stopped: unmated, power-fail, thermal stop, clock or D61 stop, restart command; only a new start leaves it -/
  | stopped
  deriving DecidableEq, Repr

/-- What stopped the module (R21, R45, R47, R283, Table 2.3, R57). -/
inductive StopCause where
  | none
  | unmated
  | powerFail
  | thermal
  | clock
  | domain61
  | restart
  deriving DecidableEq, Repr

/-- What the module as a whole does to its field outputs. -/
inductive Drive where
  /-- the channels drive as their own rules say -/
  | normal
  /-- every field output has ended drive (Tables 1.6 and 2.5) -/
  | ended
  /-- every field output is at its configured safe value (R47, Table 2.3 for D61, step 11 of Table 3.1) -/
  | safe
  deriving DecidableEq, Repr

/-- The scan filter of one seal switch (R16); its filtered state and contact fault stand in SEAL_STATE. -/
structure SealFilter where
  /-- a filtered state has been established since the start (R18) -/
  known : Bool
  /-- the position on which the present run of valid scans agrees -/
  dir : Bool
  run : Nat
  bad : Nat
  deriving DecidableEq, Repr

abbrev SealFilter.init : SealFilter := ⟨false, false, 0, 0⟩

/-- Base plate and seal bank (chapter 1). -/
structure Plate where
  /-- the mate filter of R19 has passed -/
  mated : Bool
  /-- the indication of R20 stands -/
  oneMate : Bool
  /-- the lamp test of R13 is running -/
  lampTest : Bool
  seals : NMap SealFilter
  /-- switch positions and contact faults latched at step 8 (R17); none before the latch point -/
  latch : Option (BitVec 16 × BitVec 16)
  deriving DecidableEq, Repr

abbrev Plate.init : Plate := ⟨false, false, false, [], none⟩

/-- The trip history of one domain within a start (R37). -/
structure DomTrip where
  first : Option Nat
  awaiting : Bool
  locked : Bool
  deriving DecidableEq, Repr

abbrev DomTrip.init : DomTrip := ⟨none, false, false⟩

/-- One junction sensor: its last 8 samples in 1/16 °C, newest first, and its previous mean (R47, R48), as the sum of the 8
samples it is the mean of. -/
structure Sensor where
  samples : List Int
  mean : Option Int
  /-- the last mean was plausible (within limits and without a jump) -/
  plausible : Bool
  deriving DecidableEq, Repr

abbrev Sensor.init : Sensor := ⟨[], none, true⟩

/-- Supply, domains, hold-up store and thermal protection (chapter 2). -/
structure Power where
  /-- a feed became invalid and has not become valid again (R32, R470) -/
  feedLost : NMap Bool
  /-- trip history of each domain (R37) -/
  trips : NMap DomTrip
  sensors : NMap Sensor
  /-- event 0x0205 has been recorded and not yet re-armed (R47) -/
  hot : Bool
  /-- step 13 is released: the store has reached 46.0 V, or R41 has timed out -/
  storeReady : Bool
  /-- µs for which the charger has charged above 46.0 V since STORE_V last rose by a unit -/
  chargeUs : Nat
  /-- tick of step 5 of Table 2.5 where HOLDUP_OK was 1 at its reference: D61 and D62 stay on for 150 ms from it (R44) -/
  holdFrom : Option Nat
  deriving DecidableEq, Repr

abbrev Power.init : Power := ⟨[], [], [], false, false, 0, none⟩

/-- One record of an image section as accepted (Table 3.4): the section's account (0xFF for MODULE), the address, whether it is a
WINDOW record, and its words. -/
structure ImgRec where
  sect : Nat
  addr : Nat
  win : Bool
  words : List W32
  deriving DecidableEq, Repr

/-- The header fields of an accepted image that the module uses after the check (Table 3.2). -/
structure ImgHead where
  format : Nat
  gen : Nat
  blocks : Nat
  address : Nat
  sections : Nat
  pair : Bool
  safety : Bool
  settleMs : Nat
  digest : List Byte
  safetyCrc : W32
  deriving DecidableEq, Repr

/-- Start sequence, configuration memory and write session (chapter 3). -/
structure Start where
  /-- steps of Table 3.1 that have completed, the step number as key -/
  steps : NMap Bool
  /-- tick count at the reference of Table 3.1 -/
  refTick : Nat
  /-- contents of the two configuration-memory devices as 32-bit words; an erased word reads all ones -/
  bankA : NMap W32
  bankB : NMap W32
  /-- SFDP tables read with a density of 256 Mbit (R59) -/
  presentA : Bool
  presentB : Bool
  /-- candidates still to be tried, in the order of R69 (0 bank A, 1 bank B) -/
  candidates : List Nat
  /-- the accepted image -/
  head : Option ImgHead
  records : List ImgRec
  /-- the image has been applied (after step 9), and the register file as it left it (R86) -/
  applied : Bool
  imgRegs : NMap W32
  /-- tick at which step 11 completed: the settling interval of step 12 runs from it -/
  settleFrom : Nat
  /-- words of block 0 held by the write session (R72), newest first, and the words of the block being received -/
  wrBlock0 : List W32
  wrBlock : List W32
  /-- blocks received and not yet programmed into flash: the page buffer of R73 -/
  wrQueue : List (Nat × List W32)
  deriving DecidableEq, Repr

abbrev Start.init : Start :=
  ⟨[], 0, [], [], false, false, [], none, [], false, [], 0, [], [], []⟩

/-! ## Chapter 4: accounts, tills, management -/

/-- A till's positions, as running word counts (R88), its reservation total (R92) and its ECC faults. -/
structure Till where
  wr : Nat
  rd : Nat
  rel : Nat
  mark : Nat
  reserved : Nat
  deriving DecidableEq, Repr

abbrev Till.init : Till := ⟨0, 0, 0, 0, 0⟩

/-- A reset or fault in progress of an account (R84, R86). -/
structure Acct where
  /-- a fault cause arose while RESETTING; 0 none -/
  pendingFault : Nat
  /-- the 256-bit key in force, words 0 to 7, and the words written since (R103) -/
  key : List W32
  newKey : NMap W32
  /-- session that commanded the reset -/
  bySession : Nat
  /-- TS was usable for firing at the last tick (R187) -/
  tsUsable : Bool
  deriving DecidableEq, Repr

abbrev Acct.init : Acct := ⟨0, [], [], 0, false⟩

/-- A management session place (R99, R476). Its SESSION_STATUS fields stand in the register file. -/
structure Session where
  /-- an OPEN_1 passed and its OPEN_2 is awaited -/
  awaiting : Bool
  opened : Bool
  /-- an unconfigured module's session on port M: frames carry no MAC -/
  noMac : Bool
  account : Nat
  /-- source: 0 for port M, else the peer module address -/
  source : Nat
  map : Nat
  clientNonce : W64
  moduleNonce : W64
  frameKey : List Byte
  /-- last request SEQ carried out, and the stored reply: op, status, done, data (R328) -/
  seq : Option Nat
  /-- tick of the OPEN_1, or of the last frame that counts (R101) -/
  since : Nat
  reply : Option (Nat × Nat × Nat × List W32)
  /-- high halves captured, by low address; low halves held, by low address (R8) -/
  captured : NMap (Option W32)
  held : NMap (Option W32)
  deriving DecidableEq, Repr

abbrev Session.init : Session :=
  ⟨false, false, false, 0, 0, 0, 0, 0, [], none, 0, none, [], []⟩

/-- A data window's claim (R97), by the address of its WIN_ADDR register. -/
structure Window where
  holder : Option Nat
  /-- sessions whose claim ended for another reason than their own release, and that owe a SEQ -/
  owed : List Nat
  deriving DecidableEq, Repr

abbrev Window.init : Window := ⟨none, []⟩

/-- Failed responses of one source (R102). -/
structure Lockout where
  fails : List Nat
  locked : Bool
  /-- tick of the 4th failure -/
  since : Nat
  deriving DecidableEq, Repr

abbrev Lockout.init : Lockout := ⟨[], false, 0⟩

/-- A completed management write waiting for the first data-plane tick after it (R75). -/
inductive Effect where
  /-- a 32-bit register word with the session that wrote it -/
  | word (addr : Nat) (v : W32) (session account : Nat)
  /-- a 64-bit quantity, by the address of its low word -/
  | pair (addr : Nat) (v : W64)
  /-- a word of CFG_WR_CTRL or CFG_WR_DATA (R72, R73) -/
  | cfg (data : Bool) (v : W32)
  /-- a complete item to be judged and issued by account a (R320) -/
  | issue (a : Nat) (item : List W64)
  /-- a word of the panel's frame memory (R446) -/
  | frameWord (n : Nat) (v : W32)
  /-- a word of a signal record (step 3 of Table 6.4) -/
  | sigWord (sig w : Nat) (v : W64)
  /-- a data word of task k (R141) -/
  | dataWord (k w : Nat) (v : W64)
  /-- a force command (step 7 of Table 6.4) -/
  | force (account cmd session sig : Nat) (v : W64)
  deriving DecidableEq, Repr

/-- A reply that waits (R272): the tick at which it goes, the requester's source and key, and its words. -/
structure HeldReply where
  due : Nat
  source : Nat
  key : Option (List Byte)
  words : List W32
  deriving DecidableEq, Repr

/-- Management access state (chapter 4), and what the last access answered. -/
structure Mgmt where
  sessions : NMap Session
  windows : NMap Window
  lockouts : NMap Lockout
  effects : List Effect
  /-- replies that wait until the writes held for a later tick have completed (R272) -/
  replies : List HeldReply
  /-- status and data of the last register access (Table 4.7) -/
  status : Nat
  data : W32
  deriving DecidableEq, Repr

abbrev Mgmt.init : Mgmt := ⟨[], [], [], [], [], 0, 0⟩

/-! ## Chapters 5 to 7: wheels, tasks, image, firing -/

/-- A signal record (Table 6.1), with the fields of its CONTROL word. -/
structure Sig where
  value : W64
  stamp : W64
  /-- TL in ns at the last update -/
  upd : Nat
  subst : W64
  safe : W64
  lo : W64
  hi : W64
  quality : BitVec 8
  substMode : Bool
  rangeEn : Bool
  shared : Bool
  owner : Nat
  kind : Nat
  index : Nat
  freshUs : Nat
  /-- the producer itself set RANGE (R152) -/
  prodRange : Bool
  deriving DecidableEq, Repr

abbrev Sig.init : Sig := ⟨0, 0, 0, 0, 0, 0, 0, 0, false, false, false, 0, 0, 0, 0, false⟩

/-- A value with its quality and timestamp: a producer's delivery, or a snapshot copy (R155). -/
structure Copy where
  value : W64
  quality : BitVec 8
  stamp : W64
  deriving DecidableEq, Repr

abbrev Copy.init : Copy := ⟨0, 0, 0⟩

/-- A producer update (step 1 of Table 6.4): the tick at which it enters the image, producer kind, index, value. -/
structure Update where
  due : Nat
  kind : Nat
  index : Nat
  copy : Copy
  deriving DecidableEq, Repr

/-- A force in effect (R169): the force value, the unforced value the module keeps, the tick stamp. -/
structure Force where
  value : W64
  unforced : Copy
  stamp : W64
  account : Nat
  deriving DecidableEq, Repr

/-- A slot-table entry (Table 6.3). -/
structure Slot where
  used : Bool
  out : Bool
  sig : Nat
  qsrcEn : Bool
  qsrc : Nat
  propGf : Bool
  deriving DecidableEq, Repr

abbrev Slot.init : Slot := ⟨false, false, 0, false, 0, false⟩

/-- An entry of a wheel's output delta (R120): slot, signal, value, FT mode (0 IMMEDIATE, 1 ABSOLUTE, 2 OFFSET) and the captured
time. -/
structure DEntry where
  slot : Nat
  sig : Nat
  value : W64
  mode : Nat
  time : W64
  deriving DecidableEq, Repr

/-- A compare point of an A7 wheel (R137). -/
inductive ComparePoint where
  | entry (e : DEntry)
  | push (till : Nat) (v : W64)
  | req (item : List W64)
  | trap (cause pc : Nat)
  | done
  deriving DecidableEq, Repr

/-- The architectural registers of one execution on one wheel (Table 5.1), its delta, and what the compare unit holds for it
(R139). -/
structure Lane where
  pc : BitVec 16
  ba : Bool
  wa : W64
  /-- branch stack, top first -/
  bs : List Bool
  /-- call stack, top first -/
  cs : List (BitVec 16)
  x : NMap (BitVec 16)
  v : NMap W64
  gq : BitVec 16
  flags : BitVec 10
  ftMode : Nat
  ftTime : W64
  trapCause : BitVec 8
  trapPc : BitVec 16
  handler : Bool
  cycles : Nat
  /-- END has been reached -/
  ended : Bool
  delta : List DEntry
  /-- compare points presented and not yet matched by the other wheel, oldest first (R138) -/
  points : List ComparePoint
  /-- PUSHT words and REQ items held by the compare unit, oldest first (R139) -/
  held : List ComparePoint
  /-- results of this wheel's till and request instructions, oldest first: the second wheel of A7 gets the same -/
  tillLog : List (W64 × Option Bool)
  /-- an unhandled trap has been taken: its cause, TRAP_PC, and whether a handler was running (R136) -/
  dead : Option (Nat × Nat × Bool)
  deriving DecidableEq, Repr

abbrev Lane.init : Lane :=
  ⟨0, false, 0, [], [], [], [], 0, 0, 0, 0, 0, 0, false, 0, false, [], [], [], [], none⟩

/-- TASK_STATUS.STATE codes of an open execution. -/
inductive ExecState where
  | snapshot
  | ready
  | running
  | preempted
  deriving DecidableEq, Repr

/-- An open execution of a task, from its release to its END (R158). -/
structure Exec where
  k : Nat
  /-- release tick -/
  rel : Nat
  /-- release time in TL, in pair TL on a pair module (R360) -/
  relTl : W64
  rtTs : W64
  tsValid : Bool
  dt : Nat
  /-- lateness limit L in ticks as it stood at the release (R165) -/
  late : Nat
  /-- TASK_OVR.TOL and ACTION as they stood at the release (R148) -/
  tol : Nat
  act : Nat
  /-- PROG_TRAPMASK as it stood at the release (R140) -/
  mask : BitVec 8
  snap : NMap (Option Copy)
  state : ExecState
  lanes : List Lane
  deriving DecidableEq, Repr

/-- A finished delta on its way through the clearing house (R160, R161). -/
structure Delta where
  ex : Exec
  entries : List DEntry
  /-- FLAGS.GF at END -/
  gf : Bool
  lwheel : Nat
  account : Nat
  /-- time of END, later of the handover, in ns of TL -/
  since : Nat
  deriving DecidableEq, Repr

/-- A merged entry with the quality of R163, to take effect at step 4 of Table 6.4. -/
structure MEntry where
  sig : Nat
  value : W64
  quality : BitVec 8
  deriving DecidableEq, Repr

/-- A safe-value command decided since the previous tick (step 6 of Table 6.4). -/
inductive SafeCmd where
  | account (a : Nat)
  | task (k : Nat)
  deriving DecidableEq, Repr

/-- A firing entry (Tables 7.1 and 7.2). -/
structure Fire where
  time : W64
  value : W64
  late : Bool
  target : Nat
  task : Nat
  account : Nat
  action : Bool
  /-- BASE TL -/
  tl : Bool
  quality : BitVec 8
  seq : Nat
  deriving DecidableEq, Repr

/-- A journal entry (R173, R191): tick, subject, kind of change (order of Table 6.4; 16 admission, 17 application, 18 removal of a
firing entry; 19 register write) and its words. -/
structure JEntry where
  tick : Nat
  subject : Nat
  kind : Nat
  words : List W64
  /-- the same change as entries of the ledger link (Table 15.6), TL values in pair TL -/
  led : List W64
  deriving DecidableEq, Repr

/-- Run-time state of a task beyond its registers. -/
structure Task where
  /-- enable tick E of R147; none while the account releases nothing -/
  enabled : Option Nat
  /-- tick of the previous release since start or account reset -/
  lastRel : Option Int
  /-- the running execution has been checked and found late at least once -/
  lateSeen : Bool
  /-- tick at which the overrun action abandoned an execution: a grid point of that tick is not released (R165) -/
  abandoned : Option Nat
  /-- tick of the last grid point that was released or skipped (R147): there is one to a tick -/
  lastGrid : Option Nat
  /-- tick of the last overrun check (R165): there is one to a tick -/
  lastCheck : Option Nat
  /-- G of the release grid, in ns of TL (R147, R360) -/
  grid : Int
  deriving DecidableEq, Repr

abbrev Task.init : Task := ⟨none, none, false, none, none, none, 0⟩

/-- Tasks, process image, clearing house and firing schedule (chapters 5 to 7). -/
structure Image where
  sigs : NMap Sig
  /-- the records as the image set them (R174) -/
  sigImg : NMap Sig
  /-- last delivery of each producer, key 65,536 × kind + index (R150) -/
  last : NMap Copy
  updates : List Update
  forces : NMap (Option Force)
  /-- the initial module image has been built (step 13) -/
  built : Bool
  /-- slot tables, key 4,096 × task + slot -/
  slots : NMap Slot
  tasks : NMap Task
  /-- code of task k, key 65,536 × k + address -/
  code : NMap W32
  /-- data memory: key 65,536 × (64 × copy + k) + address, copy 1 being the second wheel of A7 -/
  data : NMap W64
  /-- initial data as the image set them -/
  dataImg : NMap W64
  /-- data-window words waiting for the END of an execution (R141): task, word, value -/
  dataWait : List (Nat × Nat × W64)
  execs : NMap (Option Exec)
  /-- the snapshot queue of R159: tasks in order -/
  snapQ : List Nat
  /-- deltas handed over to the clearing house, in merge order -/
  merging : List Delta
  /-- deltas in END wait (R160) -/
  endWait : List Delta
  /-- deltas merged since the previous tick, in merge order -/
  merged : List (List MEntry)
  safeCmds : List SafeCmd
  /-- firing schedule -/
  fire : List Fire
  /-- entries that have reached the schedule and await admission -/
  fireIn : List Fire
  fireSeq : Nat
  /-- ACTION entries that have been applied and whose subsystem has not yet acted on them (R177) -/
  fired : List Fire
  /-- copies taken by FIRE_LIST_ADDR, by account -/
  fireCopy : NMap (List Fire)
  /-- the journal, newest entry first -/
  journal : List JEntry
  /-- data words written by executions since their last END, as 65,536 × task + address (Table 15.5) -/
  dirty : List Nat
  /-- what those words held at the last END, by key of data: the shadow of R434 differs from data memory there only -/
  before : NMap (Option W64)
  deriving DecidableEq, Repr

abbrev Image.init : Image :=
  ⟨[], [], [], [], [], false, [], [], [], [], [], [], [], [], [], [], [], [], [], [], 0, [], [], [], [], []⟩

/-! ## Chapters 8 to 11: channels, HART, slice links -/

/-- An output stage of a slice: whether it drives, and the code of Table 11.3 (digital: 0 or 1) it drives. -/
structure Stage where
  driven : Bool
  code : Nat
  deriving DecidableEq, Repr

abbrev Stage.init : Stage := ⟨false, 0⟩

/-- The persistence of one condition that DIAG_MS governs (R204): tick of the first sample of the present run that found it,
samples in a row without it and the tick of the first of these. -/
structure Persist where
  since : Option Nat
  absent : Nat
  absentAt : Nat
  deriving DecidableEq, Repr

abbrev Persist.init : Persist := ⟨none, 0, 0⟩

/-- An analogue channel beyond its registers (chapter 8). -/
structure ACh where
  /-- setpoint in mA or V handed to the slice last (R213) -/
  setp : W64
  stage : Stage
  /-- setpoints since the last readback window's end with the tick each was handed over, newest first (R218) -/
  steps : List (Nat × W64)
  /-- sum, in units of 2^−1074, and number of the main converter's samples since then, as R218 compares them -/
  sum : Int
  n : Nat
  /-- no sample is delivered before this tick (RATE write, reconfiguration) -/
  holdUntil : Nat
  /-- post-filter state (R199) -/
  filt : Option W64
  /-- DIAG_MS persistence by status bit -/
  persist : NMap Persist
  /-- readback samples in a row meeting (+) or not meeting (−) a condition of Table 8.9, by status bit -/
  rb : NMap Int
  /-- the sense path is open (R206), or the voltage output at high impedance (R216) -/
  cut : Bool
  /-- the front end is being set to a new mode (Table 8.10, before step 2) -/
  setting : Bool
  /-- items not delivered since the slice's link was last outside RUN: they carry LINK (R278) -/
  wait : List Nat
  deriving DecidableEq, Repr

/-- DESIGN CHOICE, log entry 75. -/
abbrev ACh.init : ACh := ⟨0, .init, [], 0, 0, 0, none, [], [], false, false, []⟩

/-- What a HART transaction is for (R233, R238). -/
inductive HartUse where
  | ident
  | poll
  | more
  | pass
  deriving DecidableEq, Repr

/-- A pass-through request that has been read (R236): account, request id, command, data bytes. -/
structure HartReq where
  account : Nat
  id : Nat
  command : Nat
  data : List Byte
  deriving DecidableEq, Repr

/-- The HART side of a channel beyond its registers (chapter 9). -/
structure HartCh where
  /-- the transaction in progress -/
  cur : Option HartUse
  tries : Nat
  /-- transactions of the module's own that wait: identification, poll, command 48 -/
  identDue : Bool
  pollDue : Bool
  moreDue : Bool
  /-- command 48 has been sent since the last poll period -/
  moreSent : Bool
  /-- pass-through requests read and not completed, oldest first -/
  queue : List HartReq
  /-- the last transaction was a pass-through -/
  lastPass : Bool
  /-- the request frame of that transaction, from its delimiter, as it was last transmitted (R231) -/
  sent : List Byte
  /-- that frame's loop impedance has not been measured yet (R240) -/
  measure : Bool
  /-- a transaction of another master is in progress on the line (R231) -/
  busy : Bool
  /-- the device is known by its unique identifier -/
  known : Bool
  /-- consecutive drifting and not drifting impedance measurements (R241) -/
  drift : Nat
  steady : Nat
  /-- the next measurement becomes the baseline, per frequency -/
  rebase1200 : Bool
  rebase2200 : Bool
  deriving DecidableEq, Repr

abbrev HartCh.init : HartCh := ⟨none, 0, false, false, false, false, [], false, [], false, false, false, 0, 0, false, false⟩

/-- A digital channel beyond its registers (chapter 10). -/
structure DCh where
  /-- filtered input or readback state; none before the first -/
  level : Option Bool
  /-- command handed to the slice last (R255) -/
  cmd : Bool
  stage : Stage
  /-- every condition that holds, in the bits of CH_STATUS (R261) -/
  conds : BitVec 32
  /-- EDGE count, or QUAD position as a two's complement word -/
  count : W64
  /-- tick and times (TL, ns) of the counted edges: first edge of that tick, last edge, the one before -/
  edgeTick : Option Nat
  first : Int
  lastEdge : Option Int
  prevEdge : Option Int
  /-- last accepted edge of this phase in QUAD -/
  phaseEdge : Option Int
  /-- position at the last velocity item (R254) -/
  velAt : W64
  setting : Bool
  /-- in a pair: counts accepted since the last replayed update, with their ticks (R264) -/
  recent : List (Nat × Int)
  deriving DecidableEq, Repr

abbrev DCh.init : DCh := ⟨none, false, .init, 0, 0, none, 0, none, none, none, 0, false, []⟩

/-- A digital slice (R259): tick of the first overcurrent trip. -/
structure DSlice where
  firstTrip : Option Nat
  deriving DecidableEq, Repr

abbrev DSlice.init : DSlice := ⟨none⟩

/-- A lane's receiver (R275, R276). A position is that of a frame's first bit in the last two stretches of 625 bits: 1 to 624 in
the first, 625 the first bit of the second. -/
structure Rx where
  locked : Bool
  /-- position of the candidate, or of the frames while locked -/
  pos : Nat
  /-- the position at which the search goes on -/
  from_ : Nat
  /-- the last 625 bits received, and how many stretches of 625 since the search began -/
  last : BitVec 625
  since : Nat
  /-- sync words at exact spacing and good CRC checks in a row while searching; no candidate where both are 0 -/
  syncs : Nat
  crcs : Nat
  /-- sync words missing in a row while locked -/
  missing : Nat
  /-- CRC results of the last 64 frames, newest first; true is an error -/
  errs : List Bool
  deriving DecidableEq, Repr

abbrev Rx.init : Rx := ⟨false, 0, 625, 0, 0, 0, 0, 0, []⟩

/-- A sideband item on its way (R273), as 128 × channel + word index, with the tick of its frame. -/
structure SlFlight where
  item : Nat
  sent : Nat
  acked : Bool
  deriving DecidableEq, Repr

/-- A down frame before it is scrambled (Table 11.1). -/
structure SlSent where
  header : Nat
  payload : Nat
  deriving DecidableEq, Repr

/-- A slice link beyond its registers (chapter 11): what the core holds of it, and what the slice controller holds. -/
structure Link where
  /-- the slice's receiver of the down lane, and the core's of the up lane -/
  down : Rx
  up : Rx
  /-- HELLO frames accepted in a row by the core, and by the slice -/
  hellos : Nat
  heard : Nat
  /-- sideband items that wait for a frame, as 128 × channel + word index, oldest first (R272), and those not acknowledged -/
  items : List Nat
  flight : List SlFlight
  /-- the last three down frames, newest first -/
  sent : List SlSent
  /-- the last up frame passed CRC: the ACK of the next down frame -/
  ack : Bool
  /-- the slice controller follows the commands of DATA frames -/
  obeys : Bool
  /-- the slice controller's copy of the channel registers and SAFE words, by item -/
  copy : NMap W64
  /-- the down lane's CRC errors, and the causes of its losses of lock, that the slice has not reported yet -/
  downCrc : Nat
  downLost : List Nat
  /-- RUN has been missing for 100 ms (R278, R470) -/
  late : Bool
  deriving DecidableEq, Repr

abbrev Link.init : Link := ⟨.init, .init, 0, 0, [], [], [], false, false, [], 0, [], false⟩

/-! ## Chapter 12: time bases -/

/-- A clock heard on a plane (R290): identity, port, the qualities the BMCA compares (priority1, clockClass, accuracy, variance,
priority2), stepsRemoved, Announce messages in a row, and the tick of the last one. -/
structure Foreign where
  gm : Nat
  port : Nat
  qual : List Nat
  steps : Nat
  n : Nat
  at_ : Nat
  deriving DecidableEq, Repr

/-- A domain base TA or TB (R290): its offset against TL, its servo and the clocks it hears. -/
structure Base where
  /-- base − TL in ns -/
  off : Int
  /-- stepped to the grandmaster's time since ACQUIRING was entered -/
  stepped : Bool
  /-- consecutive Syncs within ±100 ns while ACQUIRING -/
  good : Nat
  /-- consecutive outliers (R289) -/
  outliers : Nat
  /-- tick since which the base has been LOCKED continuously -/
  lockedAt : Option Nat
  /-- the grandmaster elected by the BMCA, and the port of the plane it is heard on -/
  gm : Option (Nat × Nat)
  foreign : List Foreign
  /-- a two-step Sync waiting for its Follow_Up: port, sequenceId, source, and correction plus delays less ingress time -/
  twoStep : Option (Nat × Nat × Nat × Int)
  deriving DecidableEq, Repr

abbrev Base.init : Base := ⟨0, false, 0, 0, none, none, [], none⟩

/-- Peer-delay state of one plane port (R289). -/
structure PtpPort where
  /-- last accepted peer delays, newest first -/
  delays : List Int
  timeouts : Nat
  accepted : Nat
  /-- a Pdelay_Req is outstanding, with its sequenceId -/
  waiting : Option Nat
  seq : Nat
  /-- tick at which it was sent -/
  askedAt : Nat
  deriving DecidableEq, Repr

abbrev PtpPort.init : PtpPort := ⟨[], 0, 0, none, 0, 0⟩

/-- Time (chapter 12): TL is 1,000 ns per tick; TS is TL plus a constant while TS is valid (R285). -/
structure Time where
  /-- D61 is up: ticks are numbered from tick 0 (R284) -/
  ticking : Bool
  /-- TS − TL in ns -/
  tsOff : Int
  /-- TS has been valid since start (event 0x0C03) -/
  everValid : Bool
  /-- TS follows a base (row 1 of Table 12.4) -/
  following : Bool
  /-- a step of R297 has been made and its residual is being pulled in -/
  stepping : Bool
  /-- tick at which holdover began -/
  holdTick : Option Nat
  /-- TIME_SET has been written since start -/
  preset : Bool
  bases : NMap Base
  ports : NMap PtpPort
  /-- sequenceId of the next Sync and Announce sent -/
  syncSeq : Nat
  /-- a clock has failed since the last start: the next begins only when TCXO_OK and PLL_LOCK read 1 (R283) -/
  clockFault : Bool
  /-- tick since which both bases have been LOCKED with |TA − TB| above 50 ns (R300) -/
  abSince : Option Nat
  deriving DecidableEq, Repr

abbrev Time.init : Time := ⟨false, 0, false, false, false, none, false, [], [], 0, false, none⟩

/-! ## Chapter 13: network -/

/-- A frame the module has handed to its ports (Table 13.2), as the world outside sees it: ports, KIND, VERSION, FLAGS, HOPS,
INSTANCE, source and destination addresses (4,096 + n: publisher n's multicast; 8,192: the kind's own multicast), SeqNr, body, and
the destination account of a REQUEST, for which the frame layout has no place (DESIGN CHOICE, log entry 37). -/
structure Sent where
  ports : List Nat
  kind : Nat
  version : Nat
  flags : Nat
  hops : Nat
  inst : Nat
  src : Nat
  dst : Nat
  seqNr : Nat
  body : List Byte
  acct : Nat
  deriving DecidableEq, Repr

/-- An entry of the peer table (R314). -/
structure NetPeer where
  /-- 0 UNKNOWN, 1 ACTIVE, 2 REFUSED, 3 LOST -/
  state : Nat
  version : Nat
  inst : Nat
  /-- heartbeat flags of the latest ANNOUNCE -/
  flags : Nat
  heardA : Option Nat
  heardB : Option Nat
  deriving DecidableEq, Repr

abbrev NetPeer.init : NetPeer := ⟨0, 0, 0, 0, none, none⟩

/-- A member of a segment as its SUPERVISION frames show it (R307). -/
structure SegMember where
  last : Nat
  hops : Nat
  isEnd : Bool
  exit : Nat
  deriving DecidableEq, Repr

/-- A transaction tag (Table 13.8): 0 FREE, 1 IN_FLIGHT, 2 BACKOFF, 3 QUARANTINE. -/
structure Tag where
  st : Nat
  gen : Nat
  account : Nat
  peer : Nat
  /-- the peer's INSTANCE when the request was sent -/
  inst : Nat
  /-- the issued item -/
  item : List W64
  /-- tick of D -/
  deadline : Nat
  /-- order in which tags became FREE -/
  freeAt : Nat
  /-- tick of the BUSY answer that BACKOFF follows -/
  busyAt : Nat
  deriving DecidableEq, Repr

abbrev Tag.init : Tag := ⟨0, 0, 0, 0, 0, [], 0, 0, 0⟩

/-- A request of an account's queue (R320, R321): the item, and the tick of its admission under R92; none while it waits with
BUSY. -/
structure QItem where
  item : List W64
  admitted : Option Nat
  deriving DecidableEq, Repr

/-- An open incoming request (R325). -/
structure Incoming where
  source : Nat
  inst : Nat
  handle : Nat
  account : Nat
  service : Nat
  replyMax : Nat
  /-- tick at which its TIME_LEFT_US has passed (R325) -/
  closesAt : Nat
  deriving DecidableEq, Repr

/-- The last publication accepted from a publisher's group (R318): INSTANCE, SEQ, and the planes its copies came on. -/
structure PubIn where
  inst : Nat
  seq : Nat
  seqNr : Nat
  planes : Nat
  deriving DecidableEq, Repr

/-- Network (chapter 13). -/
structure Net where
  /-- SeqNr of the next frame sent on both planes from the module's own address (R312) -/
  seqNr : Nat
  /-- heartbeat flags of the last ANNOUNCE sent -/
  flags : Nat
  peers : NMap NetPeer
  /-- of each port: tick of its latest SUPERVISION frame, or of its link-up; its role has been decided since (R306) -/
  supervised : NMap (Nat × Bool)
  /-- G of the grids of publications and RZT DATA, in ns of TL (R317, R342) -/
  grid : Int
  /-- members of the segment, key 4,096 × plane + address -/
  members : NMap (Option SegMember)
  /-- first copies accepted, key 65,536 × source + SeqNr: tick of the first copy and planes heard -/
  seen : NMap (Nat × Nat)
  /-- publication list, and subscription table as 64-bit entries -/
  pubList : NMap Nat
  subs : NMap W64
  /-- groups that have sent a frame since start -/
  pubSent : NMap Bool
  pubIn : NMap (Option PubIn)
  queues : NMap (List QItem)
  tags : NMap Tag
  freeSeq : Nat
  /-- budgets that have been full, as 4,096 × account + peer (event 0x0D08) -/
  budgetFull : List Nat
  incoming : List Incoming
  /-- words of the item in progress in each account's issue window -/
  issue : NMap (List W64)
  deriving DecidableEq, Repr

abbrev Net.init : Net := ⟨0, 0, [], [], 0, [], [], [], [], [], [], [], [], 0, [], [], []⟩

/-! ## Chapter 14: safety -/

/-- The assay of a SEQ (R343): its first copy's plane, source and body words. -/
structure Assay where
  plane : Nat
  source : Nat
  words : List W64
  /-- tick at which it opened -/
  openedAt : Nat
  deriving DecidableEq, Repr

/-- An RZT receive connection beyond its registers (R340 to R346). -/
structure RzRx where
  /-- NONCE of the latest OPEN -/
  nonce : Nat
  assay : Option Assay
  /-- tick of the last acceptance, which opened no assay since -/
  acceptedAt : Nat
  /-- the last acceptance was from both planes -/
  two : Bool
  /-- tick of the first single-plane acceptance after the last two-plane one -/
  degrSince : Option Nat
  /-- tick of the latest OPEN, or of the entry into FAULT or REFUSED (Table 14.4) -/
  since : Nat
  deriving DecidableEq, Repr

abbrev RzRx.init : RzRx := ⟨0, none, 0, false, none, 0⟩

/-- An RZT send connection beyond its registers (R342): the last DATA body sent since the ACCEPT. -/
structure RzTx where
  last : Option (List W64)
  deriving DecidableEq, Repr

abbrev RzTx.init : RzTx := ⟨none⟩

/-- Safety (chapter 14). -/
structure SafetyState where
  rx : NMap RzRx
  tx : NMap RzTx
  /-- maintenance has ended and HOLD waits (R337): the tick of its end and the A7 tasks still to reach END -/
  holdFrom : Nat
  holdTasks : List Nat
  /-- an A7 execution has ended in this management cycle, and the compare-unit test that follows it is still to be made (R333) -/
  cmpTested : Bool
  cmpDue : Bool
  deriving DecidableEq, Repr

abbrev SafetyState.init : SafetyState := ⟨[], [], 0, [], false, false⟩

/-! ## Chapter 15: pairs -/

/-- Pair and ledger link (chapter 15). PAIR_STATUS, LL_STATUS and the counters stand in the register file. -/
structure Pair where
  /-- receiver: locked; good frames in a row while unlocked; failed ones in a row while locked (R363) -/
  locked : Bool
  good : Nat
  bad : Nat
  /-- version bitmap of the last accepted HELLO, and how many in a row (R364) -/
  hello : Nat
  hellos : Nat
  /-- words 1 to 3 of the peer's last HELLO -/
  peerId : W64
  peerGen : W64
  /-- tick of the last accepted frame with HB (R365) -/
  hbAt : Option Nat
  /-- tick of the last accepted frame whose STATE was not active (R380) -/
  peerIdle : Option Nat
  /-- RQ of the peer's last frame, and whether its reclaim has been recorded as not carried out (R383) -/
  peerRq : Bool
  said : Bool
  /-- a periodic swap has been recorded as not carried out (R384) -/
  swapSaid : Bool
  /-- this module has reclaimed since its start (R383) -/
  reclaimed : Bool
  /-- a cause of R374 waits for H: 1 RELINQUISH, 2 ledger link lost, 3 PEER_PRESENT 0 -/
  cause : Option Nat
  /-- tick H of the dual-active window in progress, kept after it (R377) -/
  window : Option Nat
  /-- that window has begun and not yet ended here -/
  winOpen : Bool
  /-- tick at which this module last became active (R380) -/
  activeAt : Nat
  /-- the station's INSTANCE, and SeqNr of the next frame sent from it (R312, R376) -/
  inst : Option Nat
  seqNr : Nat
  /-- setpoint S of each current output, by channel, held from F (R378) -/
  hold : NMap (Option W64)
  /-- the frame sent at the latest tick: the model's own record of what leaves the link (DESIGN CHOICE, log entry 6) -/
  frame : Option LedgerFrame
  /-- active side: the journal is being sent; position of the first word not acknowledged; words from there, in stream order;
  position of the next word to send; entries not yet in the stream; journal entries taken so far -/
  sending : Bool
  base : Nat
  stream : List W64
  sent : Nat
  queue : List (List W64)
  taken : Nat
  /-- end position of each tick's words that is not yet acknowledged, oldest first (R368) -/
  marks : List (Nat × Nat)
  /-- the next word to copy: region and offset; none when the copy is complete -/
  copy : Option (Nat × Nat)
  /-- STATE items as last sent, key 2^20 × item + index -/
  items : NMap (Option W64)
  /-- registers written at run time since start (Table 15.8) -/
  runRegs : NMap (Option W32)
  /-- standby side: a resync has begun; tick of that; next stream position expected; accepted words not yet applied -/
  resyncing : Bool
  resyncAt : Nat
  /-- tick of the latest entry into sync (R383) -/
  syncAt : Nat
  expect : Nat
  inq : List W64
  /-- pair TL in ns of the last TICK applied -/
  lastTick : Option Int
  copied : Bool
  /-- LAYOUT differs: signals and tasks taken (R372) -/
  mapped : Bool
  sigsTaken : NMap Bool
  /-- STATE items as received -/
  got : NMap (Option W64)
  /-- tasks whose END on the outgoing module is awaited (Table 15.11, step 6) -/
  endWait : List Nat
  deriving DecidableEq, Repr

def Pair.init : Pair :=
  { locked := false, good := 0, bad := 0, hello := 0, hellos := 0, peerId := 0, peerGen := 0, hbAt := none,
    peerIdle := none, peerRq := false, said := false, swapSaid := false, reclaimed := false, cause := none,
    window := none, winOpen := false, activeAt := 0, inst := none, seqNr := 0, hold := [], frame := none, sending := false, base := 0, stream := [],
    sent := 0, queue := [], taken := 0, marks := [], copy := none, items := [], runRegs := [], resyncing := false,
    resyncAt := 0, syncAt := 0, expect := 0, inq := [], lastTick := none, copied := false, mapped := false,
    sigsTaken := [], got := [], endWait := [] }

/-! ## Chapter 16: CAN FD channels -/

/-- A frame of a transmit buffer (R395 to R397), in the order of reading. -/
structure CanFrame where
  ide : Bool
  fdf : Bool
  brs : Bool
  conf : Bool
  dlc : Nat
  retry : Nat
  deadlineMs : Nat
  id : Nat
  ref : Nat
  data : List Byte
  /-- tick at which it was read -/
  readAt : Nat
  attempts : Nat
  /-- order of reading -/
  order : Nat
  deriving DecidableEq, Repr

/-- A CAN channel beyond its registers (chapter 16). -/
structure CanCh where
  pend : List CanFrame
  /-- the frame offered on the bus, by its order of reading -/
  cur : Option Nat
  next : Nat
  /-- items of received frames that wait for the till (R402) -/
  rx : List (List W64)
  /-- event 0x1004 has been recorded in this management cycle -/
  lostSaid : Bool
  /-- written registers that wait for the end of the frame in progress, by byte offset (R393) -/
  cfg : NMap (Option W32)
  busOffAt : Nat
  /-- the channel stands still for a domain trip (R403) -/
  tripped : Bool
  deriving DecidableEq, Repr

abbrev CanCh.init : CanCh := ⟨[], none, 0, [], false, [], 0, false⟩

/-! ## Chapter 17: vault -/

/-- A 32-byte slot as four 64-bit words (R407). -/
structure VSlot where
  num : Nat
  w0 : W64
  w1 : W64
  w2 : W64
  w3 : W64
  deriving DecidableEq, Repr

/-- A raising: event code, its timestamp, and its packed DATA and continuation DATA (R408). -/
structure VRaise where
  code : Nat
  stamp : W64
  data : List (BitVec 96)
  /-- what the registers of the privileged source that names the code held at the raising, with its BASE and COUNT (R409) -/
  regs : Option (Nat × Nat × List W32)
  deriving DecidableEq, Repr

/-- The latest entry of a slot sector in the active state log of its device (R416). -/
structure VMark where
  mark : Nat
  known : Bool
  /-- first slot number -/
  slot : Nat
  /-- failed erases in a row (R417) -/
  fails : Nat
  /-- erase count (Table 17.7) -/
  erases : Nat
  deriving DecidableEq, Repr

/-- As manufactured: every slot sector ERASED (R472). -/
abbrev VMark.init : VMark := ⟨2, false, 0, 0, 0⟩

/-- One flash device: its active state-log sector, that log's generation and the number of its entries (R416; what the entries say
stands in the sector marks), the sector being written with its next page, and the sector being erased. -/
structure VDev where
  usable : Bool
  logSector : Nat
  logGen : Nat
  logUsed : Nat
  openSector : Option (Nat × Nat)
  erasing : Option Nat
  suspended : Bool
  deriving DecidableEq, Repr

abbrev VDev.init : VDev := ⟨false, 0, 1, 1024, none, none, false⟩

/-- Vault (chapter 17). VAULT_STATUS.STATE, VAULT_NEXT, VAULT_OLDEST and the counters stand in the register file. -/
structure Vault where
  /-- slots in the buffer, oldest first -/
  buf : List VSlot
  /-- raisings of state RECOVERING with their FLAGS and SUPP, oldest first -/
  waiting : List (VRaise × Nat × Nat)
  /-- raisings that became records in this management cycle, by code (R410) -/
  counts : NMap Nat
  /-- suppressed raisings of this cycle, by code: their number and the last of them -/
  suppressed : NMap (Option (Nat × VRaise))
  /-- privileged sources whose snapshot was taken in this cycle (R409) -/
  snapped : List Nat
  /-- losses not yet reported by 0x1105 -/
  lost : Nat
  /-- a running fault flush: slots still to program, slots at its trigger, tick of its trigger -/
  flush : Option (Nat × Nat × Nat)
  /-- flush-class records were raised during it -/
  flushAgain : Bool
  /-- a running closing flush: cause, slots buffered at its start, tick of its start -/
  closing : Option (Nat × Nat × Nat)
  /-- slots held in flash, by slot number, with device and sector -/
  stored : NMap (Option (Nat × Nat × VSlot))
  /-- sector marks, key 1024 × device + sector -/
  marks : NMap VMark
  devs : NMap VDev
  /-- the device whose turn the next page is (R413) -/
  turn : Nat
  /-- the captured slot of each reading session (R421) -/
  capture : NMap (Option VSlot)
  deriving DecidableEq, Repr

abbrev Vault.init : Vault :=
  ⟨[], [], [], [], [], 0, none, false, none, [], [], [], 0, []⟩

/-! ## Chapter 18: self-test -/

/-- Where the test of a physical wheel stands (R426 to R428): the test, the retest of a failing checkpoint's segment, a fuse burn
(STRIKE, or OUT). -/
inductive WTest where
  | main
  | retest (checkpoint : Nat)
  | burn (out : Bool)
  deriving DecidableEq, Repr

/-- A physical wheel beyond its registers (chapter 18). -/
structure PhysWheel where
  test : Option WTest
  /-- tick of its last passed test -/
  passedAt : Option Nat
  /-- ticks of its uncorrectable errors of the last 24 h (R434) -/
  errors : List Nat
  /-- cycles spent executing in the present management cycle (Table 5.13) -/
  busy : Nat
  deriving DecidableEq, Repr

abbrev PhysWheel.init : PhysWheel := ⟨none, none, [], 0⟩

/-- Self-test and wheel repair. Wheel states, fuses, results and the map stand in the register file. -/
structure SelfTest where
  wheels : NMap PhysWheel
  /-- previous target of rotation (R430) -/
  prev : Nat
  /-- wheels that are the next targets out of order: after an A7 mismatch, or after a skipped step -/
  next : List Nat
  /-- the rotation step in progress: its target, and the spare that takes its work -/
  target : Option Nat
  spare : Option Nat
  /-- logical wheels whose new wheel is loading (R434): no release on them -/
  loading : NMap (Option Nat)
  /-- INTERVAL_S as the last step took it (Table 18.7) -/
  interval : Nat
  /-- first target of the present round, and tick of its step (ST_ROUND) -/
  round : Option (Nat × Nat)
  deriving DecidableEq, Repr

abbrev SelfTest.init : SelfTest := ⟨[], 15, [], none, none, [], 10, none⟩


/-! ## Chapter 19: panel -/

/-- Panel (chapter 19). PANEL_CTRL, PANEL_STATUS.STATE, SOURCE_EFF and PANEL_FRAMES stand in the register file. -/
structure Panel where
  /-- rails (R450) -/
  avdd : Bool
  vgl : Bool
  vgh : Bool
  /-- the backlight is lit at BRIGHT -/
  backlight : Bool
  /-- a rail missed its condition: all rails are off until the retry -/
  awaiting : Bool
  /-- PANEL_CTRL as it is in effect since the last frame began (R449) -/
  ctrl : W32
  /-- items of the module page drawn last, by line of Table 19.1; none before the first page -/
  page : Option (List (List Nat))
  /-- words of the frame memory written since that page was drawn, by word number -/
  words : NMap (Option W32)
  /-- tick at which the scan of the present frame began -/
  scanAt : Nat
  deriving DecidableEq, Repr

abbrev Panel.init : Panel := ⟨false, false, false, false, false, 0x3200, none, [], 0⟩


/-! ## The machine -/

/-- Why the machine stops with a fault. -/
inductive Fault where
  /-- The command's operands are ill-formed (WellFormed refuses them): raised by the meaning of that command. Safe: no sender of
  the spec can send it, and nothing is claimed of what follows. -/
  | illFormed (command : String)
  deriving DecidableEq, Repr

/-- Why the model gives no meaning. -/
inductive Refusal where
  /-- The command has no meaning in the model: raised by its arm of exec alone. Safe: the model stops. -/
  | notModelled (mnemonic : String)
  deriving DecidableEq, Repr

/-- Everything the spec gives the machine. (DESIGN CHOICE, log entry 120.) -/
structure State where
  /-- commands waiting, first in first out -/
  pending : List Instr
  /-- data-plane ticks counted since tick 0 of the present start (R284) -/
  tick : Nat
  /-- the model's own counter of free values drawn (DESIGN CHOICE, log entry 4); no value of the spec -/
  free : Nat
  phase : Phase
  stop : StopCause
  drive : Drive
  /-- the register file: every register of the register map that holds its own value (RegMap.lean), by address -/
  regs : NMap W32
  plate : Plate
  power : Power
  start : Start
  time : Time
  vault : Vault
  accts : NMap Acct
  /-- till t of account a has key 16 a + t -/
  tills : NMap Till
  /-- till memory: key 65,536 × (16 a + t) + position -/
  tillMem : NMap W64
  mgmt : Mgmt
  image : Image
  /-- causes of Table 4.3 with which accounts have entered FAULT since the last tick (R373, cause 0x07) -/
  hoCauses : List Nat
  /-- analogue channels by global number -/
  ach : NMap ACh
  hart : NMap HartCh
  /-- digital channels by global number -/
  dch : NMap DCh
  dslice : NMap DSlice
  links : NMap Link
  pair : Pair
  can : NMap CanCh
  net : Net
  /-- frames handed to ports, newest last: the model's own record of what leaves the block; State.frameBytes gives the bytes of
  each (DESIGN CHOICE, log entry 6) -/
  out : List Sent
  safety : SafetyState
  selfTest : SelfTest
  panel : Panel
  deriving DecidableEq, Repr

/-- The module before its first start: every register at its reset value, every memory as R472 and chapter 6 leave it. (DESIGN
CHOICE, log entry 2.) (DESIGN CHOICE, log entry 72.) -/
def State.reset : State :=
  { pending := []
    tick := 0
    free := 0
    phase := .waiting
    stop := .none
    drive := .normal
    regs := []
    plate := .init
    power := .init
    start := .init
    time := .init
    vault := .init
    accts := []
    tills := []
    tillMem := []
    mgmt := .init
    image := .init
    hoCauses := []
    ach := []
    hart := []
    dch := []
    dslice := []
    links := []
    pair := .init
    can := []
    net := .init
    out := []
    safety := .init
    selfTest := .init
    panel := .init }

end Sys2Proof.Machine
end

