-- ==== Sys2Proof/Machine/Ops.lean ====
section
/-! DEFINITION. The named operations over the register file, its fields and counters, power domains, timestamps, and the
accessors of the sparse maps of State. Every meaning reads and writes State through these. -/

namespace Sys2Proof.Machine

/-! ### Bits -/

/-- Bits hi:lo of a value. -/
def bits (v hi lo : Nat) : Nat := v / 2 ^ lo % 2 ^ (hi + 1 - lo)

/-- The value with bits hi:lo replaced by f (taken modulo the width). -/
def putBits (v hi lo f : Nat) : Nat :=
  v % 2 ^ lo + 2 ^ lo * (f % 2 ^ (hi + 1 - lo)) + 2 ^ (hi + 1) * (v / 2 ^ (hi + 1))

/-- Bit n of a value. -/
def bit (v n : Nat) : Bool := v / 2 ^ n % 2 == 1

/-- A Bool as 0 or 1. -/
def b2n (b : Bool) : Nat := if b then 1 else 0

/-- A 32-bit word read as a two's complement integer. -/
def sint (w : Nat) (v : Nat) : Int := if v % 2 ^ w < 2 ^ (w - 1) then (v % 2 ^ w : Nat) else ((v % 2 ^ w : Nat) : Int) - 2 ^ w

/-- An integer as w bits two's complement. -/
def ofSint (w : Nat) (i : Int) : Nat := (i % (2 ^ w : Nat)).toNat

/-- An integer as w bits two's complement, saturating. -/
def ofSintSat (w : Nat) (i : Int) : Nat :=
  if i > 2 ^ (w - 1) - 1 then 2 ^ (w - 1) - 1
  else if i < -(2 ^ (w - 1)) then 2 ^ (w - 1)
  else ofSint w i

/-! ### The register file (R4, R5) -/

/-- The word an address of the register file holds. -/
def State.word (s : State) (a : Nat) : W32 := nget (resetWord a) s.regs a

def State.setWord (s : State) (a : Nat) (v : W32) : State :=
  { s with regs := nset (resetWord a) s.regs a v }

/-- Entry (i, j) of a register family. -/
def State.reg (s : State) (r : Reg) (i : Nat := 0) (j : Nat := 0) : Nat := (s.word (r.addr i j)).toNat

def State.setReg (s : State) (r : Reg) (v : Nat) (i : Nat := 0) (j : Nat := 0) : State :=
  s.setWord (r.addr i j) (BitVec.ofNat 32 v)

/-- A field of entry (i, j). -/
def State.fld (s : State) (f : Fld) (i : Nat := 0) (j : Nat := 0) : Nat := bits (s.reg f.reg i j) f.hi f.lo

def State.setFld (s : State) (f : Fld) (v : Nat) (i : Nat := 0) (j : Nat := 0) : State :=
  s.setReg f.reg (putBits (s.reg f.reg i j) f.hi f.lo v) i j

/-- A one-bit field as a Bool. -/
def State.flag (s : State) (f : Fld) (i : Nat := 0) (j : Nat := 0) : Bool := s.fld f i j == 1

/-- Increment a counter field, saturating at its largest value. -/
def State.bump (s : State) (f : Fld) (i : Nat := 0) (j : Nat := 0) (by_ : Nat := 1) : State :=
  s.setFld f (min (s.fld f i j + by_) (2 ^ (f.hi + 1 - f.lo) - 1)) i j

/-- Raise a field to v if it is below (largest value observed). -/
def State.peak (s : State) (f : Fld) (v : Nat) (i : Nat := 0) (j : Nat := 0) : State :=
  s.setFld f (max (s.fld f i j) (min v (2 ^ (f.hi + 1 - f.lo) - 1))) i j

/-- A whole 32-bit register as a field. -/
def whole (r : Reg) : Fld := ⟨r, 31, 0⟩

/-- A 64-bit quantity (R8): low word at entry (i, 0), high word at (i, 1). -/
def State.reg64 (s : State) (r : Reg) (i : Nat := 0) : Nat := s.reg r i 0 + 2 ^ 32 * s.reg r i 1

def State.setReg64 (s : State) (r : Reg) (v : Nat) (i : Nat := 0) : State :=
  (s.setReg r (v % 2 ^ 32) i 0).setReg r (v / 2 ^ 32) i 1

def State.bump64 (s : State) (r : Reg) (i : Nat := 0) : State :=
  s.setReg64 r (min (s.reg64 r i + 1) (2 ^ 64 - 1)) i

/-- Set bit n of a register. -/
def State.setBit (s : State) (r : Reg) (n : Nat) (b : Bool) (i : Nat := 0) (j : Nat := 0) : State :=
  s.setReg r (putBits (s.reg r i j) n n (b2n b)) i j

/-! ### Domains (R36) -/

def State.domOn (s : State) (d : Nat) : Bool := bit (s.reg R.DOMAIN_ON 0 (d / 32)) (d % 32)
def State.setDom (s : State) (d : Nat) (on : Bool) : State := s.setBit R.DOMAIN_ON (d % 32) on 0 (d / 32)
def State.setDoms (s : State) (ds : List Nat) (on : Bool) : State := ds.foldl (fun s d => s.setDom d on) s

/-! ### Accessors of the maps of State -/

def State.task (s : State) (k : Nat) : Task := nget .init s.image.tasks k
def State.setTask (s : State) (k : Nat) (t : Task) : State :=
  { s with image.tasks := nset .init s.image.tasks k t }
def State.sig (s : State) (g : Nat) : Sig := nget .init s.image.sigs g
def State.setSig (s : State) (g : Nat) (r : Sig) : State := { s with image.sigs := nset .init s.image.sigs g r }
def State.exec? (s : State) (k : Nat) : Option Exec := nget none s.image.execs k
def State.setExec (s : State) (k : Nat) (e : Option Exec) : State :=
  { s with image.execs := nset none s.image.execs k e }
def State.force? (s : State) (g : Nat) : Option Force := nget none s.image.forces g
def State.setForce (s : State) (g : Nat) (f : Option Force) : State :=
  { s with image.forces := nset none s.image.forces g f }
def State.slot (s : State) (k n : Nat) : Slot := nget .init s.image.slots (4096 * k + n)
def State.acct (s : State) (a : Nat) : Acct := nget .init s.accts a
def State.setAcct (s : State) (a : Nat) (x : Acct) : State := { s with accts := nset .init s.accts a x }
def State.till (s : State) (a t : Nat) : Till := nget .init s.tills (16 * a + t)
def State.setTill (s : State) (a t : Nat) (x : Till) : State :=
  { s with tills := nset .init s.tills (16 * a + t) x }
def State.session (s : State) (n : Nat) : Session := nget .init s.mgmt.sessions n
def State.setSession (s : State) (n : Nat) (x : Session) : State :=
  { s with mgmt.sessions := nset .init s.mgmt.sessions n x }
def State.window (s : State) (a : Nat) : Window := nget .init s.mgmt.windows a
def State.setWindow (s : State) (a : Nat) (x : Window) : State :=
  { s with mgmt.windows := nset .init s.mgmt.windows a x }
def State.base (s : State) (d : Nat) : Base := nget .init s.time.bases d
def State.setBase (s : State) (d : Nat) (b : Base) : State := { s with time.bases := nset .init s.time.bases d b }
def State.ptp (s : State) (p : Nat) : PtpPort := nget .init s.time.ports p
def State.setPtp (s : State) (p : Nat) (b : PtpPort) : State := { s with time.ports := nset .init s.time.ports p b }
def State.vdev (s : State) (d : Nat) : VDev := nget .init s.vault.devs d
def State.setVdev (s : State) (d : Nat) (x : VDev) : State := { s with vault.devs := nset .init s.vault.devs d x }
def State.vmark (s : State) (d sec : Nat) : VMark := nget .init s.vault.marks (1024 * d + sec)

/-! ### Time stamps (R10, R151) -/

/-- TL in ns at the present tick. -/
def State.tl (s : State) : Nat := 1000 * s.tick

/-- A grid of R147 passes this tick: it is the first at or after a point G + PHASE + n × PERIOD; G is in ns of TL, PHASE and
PERIOD in µs. -/
def State.gridPasses (s : State) (g : Int) (phase period : Nat) : Bool :=
  decide (((s.tl : Int) - g - 1000 * (phase : Int)) % (1000 * (period : Int)) < 1000)

/-- TS_STATE codes (Table 12.8). -/
abbrev tsUnset := 0
abbrev tsLocked := 1
abbrev tsMaster := 2
abbrev tsHoldover := 3
abbrev tsExpired := 4

def State.tsValid (s : State) : Bool := s.flag F.TIME_STATUS_TS_VALID

/-- TS in ns at the present tick, valid or not (R285). -/
def State.ts (s : State) : Int := (s.tl : Int) + s.time.tsOff

/-- A TL time in the form of R151. (DEDUCED, log entry 104.) -/
def tlStamp (ns : Nat) : W64 := BitVec.ofNat 64 (2 ^ 63 + ns % 2 ^ 63)

/-- The timestamp of the present tick (R151); before tick 0 the TL form of 0 (Table 17.1). -/
def State.stamp (s : State) : W64 :=
  if !s.time.ticking then tlStamp 0
  else if s.tsValid then BitVec.ofNat 64 (s.ts % 2 ^ 63).toNat
  else tlStamp s.tl

/-- Draw a free value: a fresh argument for the opaque constants of Config. (DESIGN CHOICE, log entry 4.) -/
def State.draw (s : State) : State := { s with free := s.free + 1 }

/-- Apply f to every element of a list in order. -/
def foldState {α : Type} (f : State → α → State) (l : List α) (s : State) : State := l.foldl f s

end Sys2Proof.Machine
end

