-- ==== Sys2Proof/Machine/View.lean ====
section
/-! DEFINITION. What a read of a register returns, without any effect: the register file, and the registers that show
other state (copies, counts, clocks, factory values, LED states). -/

namespace Sys2Proof.Machine

/-! ### LEDs (Tables 1.2 and 1.12) -/
abbrev ledOff := 0
abbrev ledGreen := 1
abbrev ledGreen1 := 2
abbrev ledGreen4 := 3
abbrev ledAmber := 4
abbrev ledAmber1 := 5
abbrev ledRed := 6
abbrev ledRed1 := 7

/-- The lowest row that applies prevails: rows in the order of Table 1.2. -/
def ledPick (rows : List (Bool × Nat)) : Nat := rows.foldl (fun c (p, v) => if p then v else c) ledOff

/-- A base-plate type that is not accepted holds the module back (R25). -/
def State.bpRejected (s : State) : Bool :=
  let t := s.fld F.BASEPLATE_STATUS_BP_TYPE
  s.plate.mated && t != 1 && t != 2

/-- A subsystem fault of R470 is outstanding. -/
def State.subsystemFault (s : State) : Bool :=
  !(s.flag F.FEED_STATUS_F1_VALID && s.flag F.FEED_STATUS_F2_VALID) ||
  s.power.trips.any (fun (_, t) => t.awaiting || t.locked) ||
  s.flag F.HOLDUP_STATUS_FAILED ||
  s.fld F.THERMAL_STATUS_EXCLUDED != 0 ||
  s.fld F.VAULT_STATUS_STATE == 4 ||
  s.links.any (fun (_, l) => l.late) ||
  s.flag F.SAFE_STATUS_DIAG_DEGRADED

def State.ledRun (s : State) : Nat :=
  ledPick [(s.phase == .starting, ledGreen1), (s.phase == .unconfigured, ledGreen4),
    (s.phase == .running && (List.range 8).any fun a => s.fld F.ACCT_STATUS_STATE a == 2, ledGreen)]

def State.ledFault (s : State) : Nat :=
  ledPick [((List.range 8).any (fun a => s.fld F.ACCT_STATUS_STATE a == 3) || s.subsystemFault || s.plate.oneMate, ledRed),
    (s.stop == .thermal || s.bpRejected, ledRed1)]

def State.ledForce (s : State) : Nat := if s.image.forces = [] then ledOff else ledAmber

def State.ledSafe (s : State) : Nat :=
  if !s.flag F.SAFE_STATUS_PRESENT then ledOff
  else
    let a7 := s.fld F.ACCT_STATUS_STATE 7
    let fits := s.flag F.SAFE_STATUS_MATCH
    let sw12 := bit (s.fld F.SEAL_STATE_SW) 12 || bit (s.fld F.SEAL_STATE_SWF) 12
    ledPick [(a7 == 2 && fits && !sw12, ledGreen), (a7 == 6 && fits && !sw12, ledGreen1), (sw12, ledAmber),
      (a7 == 5 || a7 == 3 || a7 == 1 || a7 == 4, ledAmber1)]

def State.ledPair (s : State) : Nat :=
  let st := s.fld F.PAIR_STATUS_STATE
  ledPick [(st == 2 || st == 8, ledGreen), (st == 5 || st == 6, ledGreen1),
    (st == 1 || st == 3 || st == 4 || st == 7, ledAmber1), (st != 0 && s.fld F.LL_STATUS_STATE == 4, ledAmber)]

def State.ledSync (s : State) : Nat :=
  let st := s.fld F.TIME_STATUS_TS_STATE
  if !s.time.everValid then ledOff
  else ledPick [(s.tsValid && st == tsLocked, ledGreen), (s.tsValid && st == tsMaster, ledGreen1),
    (st == tsHoldover || st == tsExpired, ledAmber1)]

def State.ledPort (s : State) (p : Nat) : Nat :=
  let x := s.fld F.PORT_STATUS_XCVR p
  let role := s.fld F.PORT_STATUS_ROLE p
  let up := s.flag F.PORT_STATUS_LINK p
  ledPick [(up && (role == 0 || role == 1), ledGreen), (x == 3 || (up && role == 3), ledAmber)]

/-- LED_STATE (Table 1.13). -/
def State.ledState (s : State) : Nat :=
  s.ledRun + s.ledFault * 2 ^ 3 + s.ledForce * 2 ^ 6 + s.ledSafe * 2 ^ 9 + s.ledPair * 2 ^ 12 + s.ledSync * 2 ^ 15 +
    s.ledPort 0 * 2 ^ 18 + s.ledPort 1 * 2 ^ 21 + s.ledPort 2 * 2 ^ 24 + s.ledPort 3 * 2 ^ 27

/-- The ten LEDs as they are lit, in the order RUN, FAULT, FORCE, SAFE, PAIR, SYNC and the ports: every one lit during the lamp
test, the bicolour ones amber; else as Table 1.2 states (R12, R13). -/
def State.ledsLit (s : State) : List Nat :=
  if s.plate.lampTest then [ledGreen, ledRed, ledAmber, ledAmber, ledAmber, ledAmber, ledAmber, ledAmber, ledAmber, ledAmber]
  else [s.ledRun, s.ledFault, s.ledForce, s.ledSafe, s.ledPair, s.ledSync, s.ledPort 0, s.ledPort 1, s.ledPort 2, s.ledPort 3]

/-! ### What other state shows in registers -/

/-! ### Role -/

/-- PAIR_STATUS.STATE codes (Table 15.1). -/
abbrev psSingle := 0
abbrev psStarting := 1
abbrev psActive := 2
abbrev psAlone := 3
abbrev psResync := 4
abbrev psStandby := 5
abbrev psMapped := 6
abbrev psIsolated := 7
abbrev psOutgoing := 8

def State.pairState (s : State) : Nat := s.fld F.PAIR_STATUS_STATE

/-- The module controls the plant: single, active, alone, or outgoing within its window. -/
def State.inControl (s : State) : Bool := [psSingle, psActive, psAlone, psOutgoing].contains s.pairState
def State.queue (s : State) (a : Nat) : List QItem := nget [] s.net.queues a
def State.portUp (s : State) (p : Nat) : Bool := s.flag F.PORT_STATUS_LINK p
/-- DOM_STATUS.STATE codes (Table 12.3). -/
abbrev bsFree := 0
abbrev bsAcquiring := 1
abbrev bsLocked := 2
abbrev bsMaster := 3

def State.bState (s : State) (d : Nat) : Nat := s.fld F.DOM_STATUS_STATE d
def State.bLocked (s : State) (d : Nat) : Bool := s.bState d == bsLocked
/-- DOM_OFFSET of base d: base − TS in ns; a base in MASTER equals TS (R291). -/
def State.domOffset (s : State) (d : Nat) : Int :=
  if s.bState d = bsMaster then 0 else (s.base d).off - s.time.tsOff
/-- A port's PTP state (Table 12.12); with a grandmaster elected the port that is not SLAVE is PASSIVE. (DEDUCED, log entry 46.)
-/
def State.ptpPortState (s : State) (p : Nat) : Nat :=
  let d := p / 2
  if !s.portUp p then 0
  else if s.bState d = bsMaster then 3
  else match (s.base d).gm with
    | some (_, q) => if q = p then 2 else 4
    | none => 1
/-- HOLD_ELAPSED in ms (Table 12.8). -/
def State.holdMs (s : State) : Nat := match s.time.holdTick with | some t => (s.tick - t) / 1000 | none => 0
/-- AB_OFFSET (Table 12.9). -/
def State.abOffset (s : State) : Nat :=
  if s.bLocked 0 && s.bLocked 1 then
    let d := (s.base 0).off - (s.base 1).off
    if d ≤ -(2 ^ 31) then 2 ^ 31 + 1 else ofSintSat 32 d
  else 0x80000000
/-- Sectors marked ERASED on device d. -/
def State.verased (s : State) (d : Nat) : Nat :=
  1022 - (s.vault.marks.filter fun (k, m) => k / 1024 == d && m.mark != 2).length
def State.tillSize (s : State) (a t : Nat) : Nat :=
  if s.fld F.TILL_CFG_SIZE_LOG2 a t = 0 then 0 else 2 ^ s.fld F.TILL_CFG_SIZE_LOG2 a t

/-- Occupied words: from the release position to the write position, plus reservations (R88). -/
def Till.used (x : Till) : Nat := x.wr - x.rel + x.reserved
def State.tillFree (s : State) (a t : Nat) : Nat := s.tillSize a t - (s.till a t).used
def Till.unread (x : Till) : Nat := x.wr - x.rd
/-- CAN_CFG.MODE codes (Table 16.3). -/
abbrev cmOff := 0
abbrev cmNormal := 1
abbrev cmListen := 2
abbrev cmRestricted := 3
abbrev cmLoopInt := 4
abbrev cmLoopExt := 5
/-- CAN channels run in their configured modes: the module is active, and no longer from H of a planned handover (R404). -/
def State.canActive (s : State) : Bool := s.inControl && s.pairState != psOutgoing

/-- The mode in effect (R404). -/
def State.canMode (s : State) (n : Nat) : Nat :=
  let m := s.fld F.CAN_CFG_MODE n
  if m ≠ cmOff ∧ !s.canActive then cmListen else m
def State.pwheel (s : State) (w : Nat) : PhysWheel := nget .init s.selfTest.wheels w
/-- Seconds since wheel w's last passed test (Table 18.9). -/
def State.sinceS (s : State) (w : Nat) : Nat :=
  min 0xFFFF ((s.tick - ((s.pwheel w).passedAt).getD 0) / 1000000)

/-- SAFE_STATUS with its counts and CLAIM (Table 14.8). -/
def State.viewSafe (s : State) : Nat :=
  let down := ((List.range 64).filter fun c => s.flag F.RZT_RX_CFG_EN c && s.fld F.RZT_RX_STATUS_STATE c != 2).length
  let exc := ((List.range 32).filter fun f => s.flag F.SF_STATUS_EXCEEDED f).length
  let limit := (List.range 64).any fun c => s.flag F.RZT_RX_STATUS_LIMIT c
  let claim := s.flag F.SAFE_STATUS_PRESENT && s.flag F.SAFE_STATUS_MATCH && s.fld F.ACCT_STATUS_STATE 7 == 2 &&
    !s.flag F.SAFE_STATUS_MAINT && !s.flag F.SAFE_STATUS_RT_MODE && !s.flag F.SAFE_STATUS_DIAG_DEGRADED && exc == 0 && !limit
  putBits (putBits (putBits (s.reg R.SAFE_STATUS) 23 23 (b2n claim)) 15 8 exc) 7 0 down

/-- A session as SESSION_STATUS shows it (Table 4.19). -/
def State.viewSession (s : State) (n : Nat) : Nat :=
  let x := s.session n
  if !x.opened then 0
  else x.source % 2 ^ 12 * 2 ^ 20 + b2n (x.source != 0) * 2 ^ 19 + x.map % 4 * 2 ^ 16 +
    min 255 ((s.tick - x.since) / 1000000) * 2 ^ 8 + x.account * 2 ^ 5 + 1

/-- TILL_STATUS (Table 4.17). -/
def State.viewTill (s : State) (a t : Nat) : Nat :=
  let x := s.till a t
  putBits (putBits (putBits (s.reg R.TILL_STATUS a t) 30 30 (b2n (x.unread == 0))) 29 29
    (b2n (s.tillSize a t != 0 && s.tillFree a t == 0))) 16 0 x.reserved

/-- Tags not FREE, of one account or of all. -/
def State.tagsNotFree (s : State) (a : Option Nat) : Nat :=
  (s.net.tags.filter fun (_, x) => x.st != 0 && (a.isNone || a == some x.account)).length

/-- PANEL_STATUS with the row being scanned (R448): a row lasts 58.8 µs. -/
def State.viewPanel (s : State) : Nat :=
  let line := if s.fld F.PANEL_STATUS_STATE = 0 then 0 else (s.tick - s.panel.scanAt) * 10 / 588 % 286
  putBits (s.reg R.PANEL_STATUS) 8 0 line

/-- Step n of Table 3.1 has completed; step 3 completes with the last result of the start test, and stays so. -/
def State.stepDone (s : State) (n : Nat) : Bool :=
  nget false s.start.steps n ||
    (decide (n = 3) && nget false s.start.steps 2 && s.selfTest.wheels.all (·.2.test.isNone))

/-- Step n completes. -/
def State.markStep (s : State) (n : Nat) : State := { s with start.steps := nset false s.start.steps n true }

/-- START_STATUS.STEP (Table 3.10): the highest step such that it and every step before it have completed. (DEDUCED, log entry
22.) -/
def State.startStep (s : State) : Nat :=
  if s.stepDone 14 then 14 else max 1 ((List.range 13).takeWhile fun n => s.stepDone (n + 1)).length

/-- The registers that show other state, by subsystem; none for a register that holds its own value. -/
def State.view (s : State) (r : Reg) (i j : Nat) : Option Nat :=
  let half (n : Nat) : Nat := n / 2 ^ (32 * j)
  match r.base / 2 ^ 24 with
  | 0x01 =>
    if r = R.LED_STATE then some s.ledState
    else if r = R.START_STATUS then some (putBits (s.reg R.START_STATUS) 3 0 s.startStep)
    else if r = R.ID_ISSUE then some (0x420000 + Config.firmware.toNat)
    else if r = R.ID_SERIAL then some (half Config.serial.toNat)
    else none
  | 0x04 =>
    if r = R.ACCT_STATE then some (((List.range 8).map fun a => s.fld F.ACCT_STATUS_STATE a * 16 ^ a).sum)
    else if r = R.MGMT_STATUS then
      some (putBits (s.reg R.MGMT_STATUS) 7 0 (((List.range 8).map fun n => b2n (s.session n).opened * 2 ^ n).sum))
    else if r = R.TILL_STATUS then some (s.viewTill i j)
    else if r = R.TILL_LEVEL then some (s.till i j).used
    else if r = R.TILL_UNREAD then some (s.till i j).unread
    else if r = R.SESSION_STATUS then some (s.viewSession i)
    else none
  | 0x06 =>
    if r = R.FORCE_STATUS then some (b2n (s.image.forces != []) * 2 ^ 31 + s.image.forces.length)
    else if r = R.FORCE_RESULT then
      some (putBits (s.reg R.FORCE_RESULT i) 10 0 ((s.image.forces.filter fun (_, f) => match f with
        | some f => f.account == i | none => false).length))
    else if r = R.SLOT_COUNT then some (s.image.slots.filter fun (k, x) => k / 4096 == i && x.used).length
    else if r = R.SIG_COUNT then some (s.image.sigs.filter fun (_, x) => x.owner == i).length
    else none
  | 0x07 =>
    if r = R.FIRE_STATUS then
      some (b2n s.tsValid * 2 ^ 31 + s.fld F.TIME_STATUS_HOLDOVER * 2 ^ 30 + s.image.fire.length)
    else if r = R.FIRE_USED then
      some (putBits (s.reg R.FIRE_USED i) 13 0 (s.image.fire.filter (·.account == i)).length)
    else none
  | 0x0C =>
    if r = R.TS_NOW then some (half (s.ts % 2 ^ 63).toNat)
    else if r = R.TL_NOW then some (half s.tl)
    else if r = R.HOLD_ELAPSED then some s.holdMs
    else if r = R.AB_OFFSET then some s.abOffset
    else if r = R.DOM_OFFSET then some (ofSintSat 32 (s.domOffset i))
    else if r = R.PORT_PTP then some (putBits (s.reg R.PORT_PTP i) 31 28 (s.ptpPortState i))
    else if r = R.PORT_LAT then some (Config.portLat i).toNat
    else none
  | 0x0D =>
    if r = R.NET_STATUS then some (putBits (s.reg R.NET_STATUS) 12 0 (s.tagsNotFree none))
    else if r = R.NET_ACCT then some ((s.queue i).length * 2 ^ 16 + s.tagsNotFree (some i))
    else if r = R.NET_ISSUE_STATUS then
      some (putBits (s.reg R.NET_ISSUE_STATUS i) 10 0 (nget [] s.net.issue i).length)
    else if r = R.NET_M_MAC then some (half Config.portMac.toNat)
    else none
  | 0x0E =>
    if r = R.SAFE_STATUS then some s.viewSafe
    else if r = R.RZT_RX_DEGR_TIME then
      some (match (nget .init s.safety.rx i).degrSince with | some t => (s.tick - t) / 1000 | none => 0)
    else none
  | 0x0F =>
    if r = R.LL_STATUS then
      some (putBits (s.reg R.LL_STATUS) 15 0 (match s.pair.hbAt with | some t => min 0xFFFF (s.tick - t) | none => 0xFFFF))
    else none
  | 0x10 =>
    if r = R.CAN_STATUS then some (putBits (s.reg R.CAN_STATUS i) 27 24 (s.canMode i)) else none
  | 0x11 =>
    if r = R.VAULT_STATUS then
      some (putBits (putBits (putBits (s.reg R.VAULT_STATUS) 27 27 (b2n (s.vdev 0).usable)) 26 26
        (b2n (s.vdev 1).usable)) 11 0 s.vault.buf.length)
    else if r = R.VAULT_ERASED then some (s.verased 0 * 2 ^ 16 + s.verased 1)
    else none
  | 0x12 => if r = R.WHEEL_TEST then some (putBits (s.reg R.WHEEL_TEST i) 31 16 (s.sinceS i)) else none
  | 0x13 => if r = R.PANEL_STATUS then some s.viewPanel else none
  | _ => none

/-- What a read of the register at an address returns, without any effect: a WO field reads as zero (R5); where no register is
defined, zero (R7). -/
def State.peek (s : State) (a : Nat) : W32 :=
  match regAt a with
  | none => 0
  | some (r, i, j) => BitVec.ofNat 32 ((s.view r i j).getD (s.reg r i j)) &&& ~~~ BitVec.ofNat 32 r.wo

end Sys2Proof.Machine
end

