-- ==== Sys2Proof/Machine/Events.lean ====
section
/-! DEFINITION. Raising an event: DATA packing (R408), rate limit (R410), acceptance (R411), snapshots (R409), the flush
class and the closing flush (R414, R415). Every subsystem raises its events through State.ev. -/

namespace Sys2Proof.Machine

/-- A data item of an event, by its width (Table 17.3). -/
inductive Item where
  | b8 (n : Nat)
  | b16 (n : Nat)
  | b32 (n : Nat)
  | b64 (n : Nat)
  deriving DecidableEq, Repr

def Item.width : Item → Nat
  | .b8 _ => 8 | .b16 _ => 16 | .b32 _ => 32 | .b64 _ => 64

def Item.val : Item → Nat
  | .b8 n => n | .b16 n => n | .b32 n => n | .b64 n => n

/-- The lowest free position, from c × width upward, for an item of width w among the used bits; n positions left. -/
def freePos (used w : Nat) : Nat → Nat → Option Nat
  | 0, _ => none
  | n + 1, c =>
    if 96 < (c + 1) * w then none
    else if bits used ((c + 1) * w - 1) (c * w) = 0 then some (c * w)
    else freePos used w n (c + 1)

/-- Pack items into DATA and continuation DATA (R408): used bits and value of the DATA being filled. (DEDUCED, log entry 12.) -/
def packItems : List Item → Nat → Nat → List (BitVec 96)
  | [], _, v => [BitVec.ofNat 96 v]
  | it :: its, used, v =>
    match freePos used it.width 12 0 with
    | some p => packItems its (putBits used (p + it.width - 1) p (2 ^ it.width - 1)) (putBits v (p + it.width - 1) p it.val)
    | none => BitVec.ofNat 96 v :: packItems its (2 ^ it.width - 1) (it.val % 2 ^ it.width)

/-- A record slot (Table 17.1): its last word carries the CRC over bytes 0 to 27. -/
def mkSlot (code flags supp num : Nat) (stamp : W64) (data : BitVec 96) : VSlot :=
  let w1 := BitVec.ofNat 64 (code * 2 ^ 48 + flags * 2 ^ 40 + min supp 255 * 2 ^ 32 + num % 2 ^ 32)
  let w2 := data.setWidth 64
  let hi := (data >>> 64).toNat
  let crc := crc32 (dwordBytes stamp ++ dwordBytes w1 ++ dwordBytes w2 ++ bytesLE 4 hi)
  ⟨num, stamp, w1, w2, BitVec.ofNat 64 (crc.toNat * 2 ^ 32 + hi)⟩

/-- The number the next slot will take (R407). -/
def State.vnext (s : State) : Nat := s.reg R.VAULT_NEXT

/-- Place a slot in the buffer under the next slot number. -/
def State.vput (s : State) (mk : Nat → VSlot) : State :=
  let n := s.vnext
  ({ s with vault.buf := s.vault.buf ++ [mk n] }).setReg R.VAULT_NEXT ((n + 1) % 2 ^ 32)

/-- A filler slot (Table 17.2). -/
def State.vfill (s : State) : State := s.vput fun n => mkSlot 0 0x10 0 n s.stamp 0

def State.vfills : Nat → State → State
  | 0, s => s
  | n + 1, s => State.vfills n s.vfill

/-- Pad the last page of the buffer with fillers (R413). -/
def State.vpad (s : State) : State := State.vfills ((8 - s.vault.buf.length % 8) % 8) s

/-- Slots that the erased pages known ahead of the write positions of the usable devices can take (R411). -/
def State.vroom (s : State) : Nat :=
  let dev (d : Nat) : Nat :=
    if (s.vdev d).usable then
      8 * (256 * s.verased d + match (s.vdev d).openSector with | some (_, p) => 256 - p | none => 0)
    else 0
  dev 0 + dev 1

/-- The flush class of R414. -/
def flushClass : List Nat :=
  [0x0206, 0x020A, 0x0401, 0x0502, 0x0503, 0x0504, 0x0602, 0x0C0B, 0x0E03, 0x0E05, 0x0E06, 0x0F09, 0x0F0A, 0x0F0E,
   0x1002, 0x1108, 0x1201, 0x1202, 0x1206, 0x0120, 0x020B]

/-- Records that may use the reserve of 64 slots (R411). -/
def usesReserve (code : Nat) : Bool := flushClass.contains code || code / 256 == 0x11

/-- The LIMIT of an event code (R410). -/
def State.rateLimit (s : State) (code : Nat) : Nat :=
  match (List.range 32).find? fun n => s.fld F.VAULT_RATE_OVR_CODE n == code && code != 0 with
  | some n => s.fld F.VAULT_RATE_OVR_LIMIT n
  | none => s.fld F.VAULT_RATE_DEFAULT

/-- The privileged source that applies to a code: the enabled one with the lowest n (R409). -/
def State.privSource (s : State) (code : Nat) : Option Nat :=
  (List.range 16).find? fun n => s.flag F.VAULT_PRIV_EN n && s.fld F.VAULT_PRIV_CODE n == code

/-- What the privileged source of a code captures: BASE, COUNT and the registers as they stand (R409). -/
def State.vcapture (s : State) (code : Nat) : Option (Nat × Nat × List W32) :=
  (s.privSource code).map fun p =>
    let base := s.reg R.VAULT_PRIV_BASE p
    let count := s.fld F.VAULT_PRIV_COUNT p
    (base, count, (List.range count).map fun i => s.peek (base + 4 * i))

/-- The 128 words of a snapshot of captured registers (Table 17.4). -/
def snapWords (cap : Nat × Nat × List W32) (src code : Nat) (stamp : W64) (first trigger : Nat) : List W64 :=
  let (base, count, regs) := cap
  let val (i : Nat) : Nat := (regs.getD i 0).toNat
  let head := [stamp, BitVec.ofNat 64 (code * 2 ^ 48 + 0x20 * 2 ^ 40 + src * 2 ^ 32 + first % 2 ^ 32),
    BitVec.ofNat 64 (base * 2 ^ 32 + count * 2 ^ 24), BitVec.ofNat 64 trigger]
  let body := (List.range 123).map fun i => BitVec.ofNat 64 (val (2 * i) + 2 ^ 32 * val (2 * i + 1))
  let all := head ++ body
  let crc := crc32 ((all.flatMap dwordBytes) ++ bytesLE 4 0)
  all ++ [BitVec.ofNat 64 (crc.toNat * 2 ^ 32)]

/-- Put the 32 slots of a snapshot into the buffer. -/
def State.vsnap (s : State) (r : VRaise) (src trigger : Nat) : State :=
  let ws := snapWords ((r.regs.or (s.vcapture r.code)).getD (0, 0, [])) src r.code r.stamp s.vnext trigger
  let s := foldState (fun s i => s.vput fun n =>
    ⟨n, ws.getD (4 * i) 0, ws.getD (4 * i + 1) 0, ws.getD (4 * i + 2) 0, ws.getD (4 * i + 3) 0⟩) (List.range 32) s
  { s with vault.snapped := src :: s.vault.snapped }

/-- VAULT_STATUS.STATE codes (Table 17.11). -/
abbrev vRecovering := 0
abbrev vRunning := 1
abbrev vWriteThrough := 2
abbrev vFlushing := 3
abbrev vFailed := 4

def State.vstate (s : State) : Nat := s.fld F.VAULT_STATUS_STATE

/-- Place the slots of a record, its continuation and, where one is due, its snapshot (R407 to R409, R411). -/
def State.vrecord (s : State) (r : VRaise) (flags supp : Nat) : State :=
  let n := r.data.length
  let free := 2048 - s.vault.buf.length
  let src := s.privSource r.code
  let due := match src with | some p => !s.vault.snapped.contains p | none => false
  let take := due && decide (n + 64 + 32 ≤ free) && decide (s.vault.buf.length + n + 32 ≤ s.vroom)
  let fl := flags + (if take then 2 else if due then 4 else 0)
  let trigger := s.vnext
  let s := match r.data with
    | d :: ds =>
      foldState (fun s d => s.vput fun k => mkSlot r.code 1 0 k r.stamp d) ds
        (s.vput fun k => mkSlot r.code fl supp k r.stamp d)
    | [] => s
  if take then s.vsnap r (src.getD 0) trigger else s

/-- Accept a record, keep it waiting, or lose it, by the vault's state (R411). -/
def State.vaccept (s : State) (r : VRaise) (flags supp : Nat) : State :=
  let n := r.data.length
  let reserve := if usesReserve r.code then 0 else 64
  let fits := decide (s.vault.buf.length + n + reserve ≤ 2048)
  let lose : State := ({ s with vault.lost := s.vault.lost + 1 }).bump F.VAULT_COUNTS_0_LOST
  if s.vstate = vRunning then
    if fits && decide (s.vault.buf.length + n ≤ s.vroom) then s.vrecord r flags supp else lose
  else if s.vstate = vWriteThrough then
    if decide (s.vault.buf.length + n ≤ 2048) then s.vrecord r flags supp else lose
  else if s.vstate = vRecovering then { s with vault.waiting := s.vault.waiting ++ [({ r with regs := s.vcapture r.code }, flags, supp)] }
  else lose

/-- Start a fault flush, or note that a further one is due (R414). -/
def State.vflush (s : State) : State :=
  if s.vstate = vRunning ∨ s.vstate = vWriteThrough then
    match s.vault.flush with
    | some _ => { s with vault.flushAgain := true }
    | none =>
      let n := s.vault.buf.length
      let s := s.vpad
      { s with vault.flush := some (s.vault.buf.length, n, s.tick) }
  else s

/-- Raise an event with a given timestamp: rate limit, acceptance, flush class. Nothing is accepted or counted from the start of a
closing flush to the next start (R415). -/
def State.evAt (s : State) (stamp : W64) (code : Nat) (items : List Item) : State :=
  if s.vstate = vFlushing then s
  else
    let r : VRaise := ⟨code, stamp, packItems items 0 0, none⟩
    let done := nget 0 s.vault.counts code
    let s :=
      if done < s.rateLimit code then
        ({ s with vault.counts := nset 0 s.vault.counts code (done + 1) }).vaccept r 0 0
      else
        let n := match nget none s.vault.suppressed code with | some (n, _) => n | none => 0
        ({ s with vault.suppressed := nset none s.vault.suppressed code (some (n + 1, { r with regs := s.vcapture code })) }).bump
          F.VAULT_COUNTS_0_SUPPRESSED
    if flushClass.contains code then s.vflush else s

/-- Raise an event at the present tick. -/
def State.ev (s : State) (code : Nat) (items : List Item := []) : State := s.evAt s.stamp code items

/-- Start a closing flush with the cause it records (R415): nothing further is accepted. A vault that has failed, or whose domain
is off, has nothing to flush. (DEDUCED, log entry 109.) -/
def State.closingFlush (s : State) (cause : Nat) : State :=
  if s.vstate = vFlushing ∨ s.vstate = vFailed ∨ !s.domOn 62 then s
  else
    ({ s with vault.closing := some (cause, s.vault.buf.length, s.tick), vault.flush := none,
              vault.flushAgain := false, vault.waiting := [] }).setFld F.VAULT_STATUS_STATE vFlushing

end Sys2Proof.Machine
end

