-- ==== Sys2Proof/Machine/F64.lean ====
section
/-! DEFINITION. IEEE 754 binary64 arithmetic as R118 requires it: round to nearest, ties to even, subnormals kept, exact
operands converted to integers, computed exactly, rounded once. Each operation gives its result and the exceptions it
signals. -/

namespace Sys2Proof.Machine

/-- A result with the exceptions it signals: invalid, division by zero, overflow, underflow with an inexact result, inexact. -/
structure FRes where
  val : W64
  iv : Bool
  dz : Bool
  of_ : Bool
  uf : Bool
  ix : Bool
  deriving DecidableEq, Repr

/-- An exact result: no exception. -/
abbrev FRes.exact (v : W64) : FRes := ⟨v, false, false, false, false, false⟩

/-- The quiet NaN of an invalid operation (R118). (DESIGN CHOICE, log entry 10.) -/
abbrev f64NaN : W64 := 0x7FF8000000000000

abbrev FRes.invalid : FRes := ⟨f64NaN, true, false, false, false, false⟩

def f64Sign (v : W64) : Bool := v.getLsbD 63
/-- The biased exponent. -/
def f64Exp (v : W64) : Nat := v.toNat / 2 ^ 52 % 2 ^ 11
def f64Frac (v : W64) : Nat := v.toNat % 2 ^ 52
/-- The value without its sign bit; the order of binary64 magnitudes. -/
def f64Mag (v : W64) : Nat := v.toNat % 2 ^ 63

def f64IsNaN (v : W64) : Bool := decide (0x7FF0000000000000 < f64Mag v)
def f64IsInf (v : W64) : Bool := f64Mag v == 0x7FF0000000000000
def f64IsZero (v : W64) : Bool := f64Mag v == 0
def f64Finite (v : W64) : Bool := decide (f64Mag v < 0x7FF0000000000000)
/-- A signalling NaN: a NaN whose leading fraction bit is 0. -/
def f64IsSNaN (v : W64) : Bool := f64IsNaN v && !v.getLsbD 51

/-- Integer significand of a finite value: its magnitude is f64Sig v · 2 ^ f64Pow v. -/
def f64Sig (v : W64) : Nat := if f64Exp v = 0 then f64Frac v else 2 ^ 52 + f64Frac v
def f64Pow (v : W64) : Int := if f64Exp v = 0 then -1074 else (f64Exp v : Int) - 1075

def f64Inf (neg : Bool) : W64 := if neg then 0xFFF0000000000000 else 0x7FF0000000000000
def f64Zero (neg : Bool) : W64 := if neg then 0x8000000000000000 else 0

/-- A number between -1 and 2^63 of bits: the length of m in binary. -/
def bitLen (m : Nat) : Nat := if m = 0 then 0 else Nat.log2 m + 1

/-- Nearest integer to m / 2 ^ sh, ties to even, where sticky says that the exact value lies a little above m; and whether that
was inexact. -/
def rne (m sh : Nat) (sticky : Bool) : Nat × Bool :=
  let q := m / 2 ^ sh
  let r := m % 2 ^ sh
  let up := decide (2 ^ sh < 2 * r) || (decide (2 * r = 2 ^ sh) && (sticky || q % 2 == 1))
  (if up then q + 1 else q, decide (r ≠ 0) || sticky)

/-- Round (m + a little, if sticky) · 2 ^ e to binary64. When sticky is set, m has at least 55 bits. -/
def f64Round (neg : Bool) (m : Nat) (e : Int) (sticky : Bool) : FRes :=
  if m = 0 then .exact (f64Zero neg)
  else
    let top : Int := e + bitLen m
    let q : Int := max (top - 53) (-1074)
    let (k, inexact) :=
      if q ≤ e then (m * 2 ^ (e - q).toNat, sticky) else rne m (q - e).toNat sticky
    let tinyBefore := decide (top < -1021)
    -- rounding to 53 bits with unbounded exponent reaches the normal range only from just below 2^-1022
    let wide := if top - 53 ≤ e then m * 2 ^ (e - (top - 53)).toNat else (rne m ((top - 53) - e).toNat sticky).1
    let tinyAfter := tinyBefore && !(decide (top = -1022) && decide (wide = 2 ^ 53))
    let tiny := if Config.tinyAfter then tinyAfter else tinyBefore
    -- k ≤ 2^53 at scale 2^q; the encoding's carry from fraction to exponent is arithmetic on the whole word
    let biased : Nat := (q + 1074).toNat
    let word : Nat := if k < 2 ^ 52 then k else biased * 2 ^ 52 + k
    let sgn : Nat := if neg then 2 ^ 63 else 0
    if 0x7FF0000000000000 ≤ word then ⟨f64Inf neg, false, false, true, false, true⟩
    else ⟨BitVec.ofNat 64 (sgn + word), false, false, false, tiny && inexact, inexact⟩

/-- The result of an operation with a NaN operand: invalid for a signalling NaN, otherwise a quiet NaN whose payload the spec
leaves open. -/
def f64NaN2 (a b : W64) : FRes :=
  if f64IsSNaN a || f64IsSNaN b then .invalid else .exact (Config.nanPayload a b ||| f64NaN)

/-- Signed significand at a given scale not above the value's own. -/
def f64Int (v : W64) (scale : Int) : Int :=
  let m : Int := (f64Sig v * 2 ^ (f64Pow v - scale).toNat : Nat)
  if f64Sign v then -m else m

def f64Add (a b : W64) : FRes :=
  if f64IsNaN a || f64IsNaN b then f64NaN2 a b
  else if f64IsInf a then
    if f64IsInf b && f64Sign a != f64Sign b then .invalid else .exact a
  else if f64IsInf b then .exact b
  else
    let sc := min (f64Pow a) (f64Pow b)
    let sum := f64Int a sc + f64Int b sc
    if sum = 0 then .exact (f64Zero (f64Sign a && f64Sign b))
    else f64Round (decide (sum < 0)) sum.natAbs sc false

def f64Neg (a : W64) : W64 := a ^^^ 0x8000000000000000
def f64Abs (a : W64) : W64 := a &&& 0x7FFFFFFFFFFFFFFF

def f64Sub (a b : W64) : FRes := if f64IsNaN b then f64NaN2 a b else f64Add a (f64Neg b)

def f64Mul (a b : W64) : FRes :=
  let neg := f64Sign a != f64Sign b
  if f64IsNaN a || f64IsNaN b then f64NaN2 a b
  else if f64IsInf a || f64IsInf b then
    if f64IsZero a || f64IsZero b then .invalid else .exact (f64Inf neg)
  else f64Round neg (f64Sig a * f64Sig b) (f64Pow a + f64Pow b) false

def f64Div (a b : W64) : FRes :=
  let neg := f64Sign a != f64Sign b
  if f64IsNaN a || f64IsNaN b then f64NaN2 a b
  else if f64IsInf a then if f64IsInf b then .invalid else .exact (f64Inf neg)
  else if f64IsInf b then .exact (f64Zero neg)
  else if f64IsZero b then
    if f64IsZero a then .invalid else ⟨f64Inf neg, false, true, false, false, false⟩
  else
    let n := f64Sig a * 2 ^ 120
    let d := f64Sig b
    f64Round neg (n / d) (f64Pow a - 120 - f64Pow b) (decide (n % d ≠ 0))

/-- The integer square root of n, bit by bit from bit i - 1 down. -/
def isqrt (n : Nat) : Nat → Nat → Nat
  | 0, r => r
  | i + 1, r => isqrt n i (if (r + 2 ^ i) * (r + 2 ^ i) ≤ n then r + 2 ^ i else r)

def f64Sqrt (a : W64) : FRes :=
  if f64IsNaN a then f64NaN2 a a
  else if f64IsZero a then .exact a
  else if f64Sign a then .invalid
  else if f64IsInf a then .exact a
  else
    -- scale the significand by an even power so that the root has at least 56 bits
    let sh : Nat := if (f64Pow a) % 2 = 0 then 120 else 121
    let n := f64Sig a * 2 ^ sh
    let r := isqrt n 88 0
    f64Round false r ((f64Pow a - sh) / 2) (decide (r * r ≠ n))

/-- The value as a sortable integer; both zeros are 0. -/
def f64Key (v : W64) : Int := if f64Sign v then -(f64Mag v : Int) else (f64Mag v : Int)

def f64Lt (a b : W64) : Bool := !f64IsNaN a && !f64IsNaN b && decide (f64Key a < f64Key b)
def f64Le (a b : W64) : Bool := !f64IsNaN a && !f64IsNaN b && decide (f64Key a ≤ f64Key b)
def f64Eq (a b : W64) : Bool := !f64IsNaN a && !f64IsNaN b && decide (f64Key a = f64Key b)

/-- A comparison sets IV only for a signalling NaN (R118). -/
def f64CmpIv (a b : W64) : Bool := f64IsSNaN a || f64IsSNaN b

/-- minimumNumber: the non-NaN operand when exactly one is NaN; −0 is below +0. -/
def f64Min (a b : W64) : FRes :=
  let iv := f64CmpIv a b
  let v :=
    if f64IsNaN a then
      if f64IsNaN b then (if iv then f64NaN else Config.nanPayload a b ||| f64NaN) else b
    else if f64IsNaN b then a
    else if f64Key a < f64Key b then a
    else if f64Key b < f64Key a then b
    else if f64Sign a then a else b
  { FRes.exact v with iv := iv }

/-- maximumNumber. -/
def f64Max (a b : W64) : FRes :=
  let iv := f64CmpIv a b
  let v :=
    if f64IsNaN a then
      if f64IsNaN b then (if iv then f64NaN else Config.nanPayload a b ||| f64NaN) else b
    else if f64IsNaN b then a
    else if f64Key a < f64Key b then b
    else if f64Key b < f64Key a then a
    else if f64Sign a then b else a
  { FRes.exact v with iv := iv }

/-- An integer converted to binary64. -/
def f64OfInt (i : Int) : FRes := f64Round (decide (i < 0)) i.natAbs 0 false

/-- Binary64 converted to a 64-bit integer: nearest, ties to even, saturating, NaN to 0 (R118). -/
def f64ToInt (a : W64) : FRes :=
  let sat (neg : Bool) : FRes :=
    { FRes.exact (if neg then 0x8000000000000000 else 0x7FFFFFFFFFFFFFFF) with iv := true }
  if f64IsNaN a then { FRes.exact 0 with iv := true }
  else if f64IsInf a then sat (f64Sign a)
  else
    let (m, inexact) :=
      if 0 ≤ f64Pow a then (f64Sig a * 2 ^ (f64Pow a).toNat, false) else rne (f64Sig a) (-(f64Pow a)).toNat false
    if f64Sign a then
      if 2 ^ 63 < m then sat true else { FRes.exact (BitVec.ofInt 64 (-(m : Int))) with ix := inexact }
    else if 2 ^ 63 ≤ m then sat false
    else { FRes.exact (BitVec.ofNat 64 m) with ix := inexact }

/-- n / d as the nearest binary64. -/
def f64OfRat (neg : Bool) (n d : Nat) : W64 :=
  let m := n * 2 ^ 1200
  (f64Round neg (m / d) (-1200) (decide (m % d ≠ 0))).val

/-- A finite value rounded to the nearest integer, ties to even. -/
def f64RoundInt (a : W64) : Int :=
  let m := if 0 ≤ f64Pow a then f64Sig a * 2 ^ (f64Pow a).toNat else (rne (f64Sig a) (-(f64Pow a)).toNat false).1
  if f64Sign a then -(m : Int) else m

end Sys2Proof.Machine
end

