-- ==== Sys2Proof/Machine/Image.lean ====
section
/-! DEFINITION. The module image: signal records as words (Table 6.1), the one operation by which a producer, a merge, a
firing entry or a safe-value command changes a signal (R152, R157, R169), freshness (R153), forces (R168 to R172), the
journal (R173) and the image scrub (R174). -/

namespace Sys2Proof.Machine

/-! Quality bits (chapter 0, "Status, quality and events"). -/
abbrev qValid : BitVec 8 := 0x01
abbrev qStale : BitVec 8 := 0x02
abbrev qForced : BitVec 8 := 0x04
abbrev qSubst : BitVec 8 := 0x08
abbrev qRange : BitVec 8 := 0x10
abbrev qFault : BitVec 8 := 0x20
abbrev qSafe : BitVec 8 := 0x40
abbrev qDegr : BitVec 8 := 0x80

/-- Producer kinds (Table 6.2). -/
abbrev kParam := 0
abbrev kTask := 1
abbrev kChannel := 2
abbrev kNetSub := 3
abbrev kCan := 4
abbrev kHart := 5
abbrev kModule := 6

/-- The CONTROL word of a signal record (Table 6.1). -/
def Sig.control (r : Sig) : W64 :=
  BitVec.ofNat 64 (r.quality.toNat + 2 ^ 8 * b2n r.substMode + 2 ^ 9 * b2n r.rangeEn + 2 ^ 10 * b2n r.shared +
    2 ^ 12 * (r.owner % 8) + 2 ^ 16 * (r.kind % 16) + 2 ^ 20 * (r.index % 2 ^ 16) + 2 ^ 40 * (r.freshUs % 2 ^ 24))

/-- A record with its CONTROL word replaced. -/
def Sig.withControl (r : Sig) (c : Nat) : Sig :=
  { r with quality := BitVec.ofNat 8 c, substMode := bit c 8, rangeEn := bit c 9, shared := bit c 10,
           owner := bits c 14 12, kind := bits c 19 16, index := bits c 35 20, freshUs := bits c 63 40 }

/-- Word w of a signal record (Table 6.1). -/
def Sig.word (r : Sig) (w : Nat) : W64 :=
  match w with
  | 0 => r.value
  | 1 => r.stamp
  | 2 => BitVec.ofNat 64 r.upd
  | 3 => r.subst
  | 4 => r.safe
  | 5 => r.lo
  | 6 => r.hi
  | _ => r.control

/-- A record with word w replaced. -/
def Sig.setWord (r : Sig) (w : Nat) (v : W64) : Sig :=
  match w with
  | 0 => { r with value := v }
  | 1 => { r with stamp := v }
  | 2 => { r with upd := v.toNat }
  | 3 => { r with subst := v }
  | 4 => { r with safe := v }
  | 5 => { r with lo := v }
  | 6 => { r with hi := v }
  | _ => r.withControl v.toNat

/-- The difference pair TL − TL in ns (R360). -/
def State.tlShift (s : State) : Int := sint 64 (s.reg64 R.PAIR_TL_SHIFT)

/-- A TL time in ns as pair TL. -/
def State.pairNs (s : State) (ns : Int) : W64 := BitVec.ofInt 64 (ns + s.tlShift)

/-- A timestamp as the ledger carries it: a TL form in pair TL (R360). -/
def State.ledStamp (s : State) (v : W64) : W64 :=
  if v.getLsbD 63 then tlStamp (((v.toNat % 2 ^ 63 : Nat) : Int) + s.tlShift).toNat else v

/-- Header of a ledger entry (Table 15.6). -/
def ledHead (kind rest : Nat) : W64 := BitVec.ofNat 64 (kind * 2 ^ 60 + rest % 2 ^ 60)

/-- Enter a change in the journal at the present tick (R173). -/
def State.journal (s : State) (kind subject : Nat) (words led : List W64) : State :=
  { s with image.journal := ⟨s.tick, subject, kind, words, led⟩ :: s.image.journal }

/-- The SIGNAL entry of signal g: what the change left in the record, or in the unforced value of a forced signal. -/
def State.ledSignal (s : State) (kind g : Nat) : List W64 :=
  let r := s.sig g
  let c : Copy := match s.force? g with
    | some f => if kind = 7 then ⟨r.value, r.quality, r.stamp⟩ else f.unforced
    | none => ⟨r.value, r.quality, r.stamp⟩
  [ledHead 2 (kind * 2 ^ 56 + c.quality.toNat * 2 ^ 48 + g), c.value, s.ledStamp c.stamp]

/-- The RECORD entry of signal g. -/
def State.ledRecord (s : State) (g : Nat) : List W64 :=
  let r := s.sig g
  ledHead 3 g :: (List.range 8).map fun w =>
    if w = 1 then s.ledStamp r.stamp else if w = 2 then s.pairNs r.upd else r.word w

/-- Journal a change of signal g. -/
def State.journalSig (s : State) (kind g : Nat) : State :=
  s.journal kind g ((List.range 8).map (s.sig g).word) (s.ledSignal kind g)

/-- Journal a write of a record word other than VALUE. -/
def State.journalRec (s : State) (g : Nat) : State :=
  s.journal 3 g ((List.range 8).map (s.sig g).word) (s.ledRecord g)

/-- Journal a force set or cleared. -/
def State.journalForce (s : State) (g : Nat) (set : Bool) (v : W64) : State :=
  s.journal 7 g ((List.range 8).map (s.sig g).word) ([ledHead 8 (b2n set * 2 ^ 17 + g), v] ++ s.ledSignal 7 g)

/-- The range test of R152. -/
def Sig.rangeTest (r : Sig) (v : W64) (q : BitVec 8) (prod : Bool) : BitVec 8 :=
  if r.rangeEn then
    if prod || !(f64Le r.lo v && f64Le v r.hi) then q ||| qRange else q &&& ~~~ qRange
  else q

/-- A change to signal g by its producer, a merge, a firing entry or a safe-value command: the record of an unforced signal takes
it, a forced signal keeps it as the unforced value (R169). kind is its place in Table 6.4. UPDATE_TL is that of the last update by
the producer (Table 6.1): a safe-value command, step 6, leaves it. -/
def State.change (s : State) (kind g : Nat) (c : Copy) : State :=
  let r := s.sig g
  let prod := decide (kind = 1) && c.quality &&& qRange != 0
  let q := r.rangeTest c.value c.quality prod
  let r := if kind = 6 then r else { r with upd := s.tl }
  let s := s.setSig g r
  match s.force? g with
  | some f => (s.setForce g (some { f with unforced := ⟨c.value, q, c.stamp⟩ })).journalSig kind g
  | none => (s.setSig g { r with value := c.value, quality := q, stamp := c.stamp, prodRange := prod }).journalSig kind g

/-- A producer delivers a value that enters the image at tick `due` (step 1 of Table 6.4). -/
def State.deliverAt (s : State) (due kind index : Nat) (c : Copy) : State :=
  { s with image.last := nset .init s.image.last (65536 * kind + index) c,
           image.updates := s.image.updates ++ [⟨due, kind, index, c⟩] }

/-- A producer delivers a value that enters the image at the next tick. -/
def State.deliver (s : State) (kind index : Nat) (c : Copy) : State := s.deliverAt (s.tick + 1) kind index c

/-- The signals of a producer. (DEDUCED, log entry 68.) -/
def State.sigsOf (s : State) (kind index : Nat) : List Nat :=
  (s.image.sigs.filter fun (_, r) => r.kind == kind && r.index == index).map (·.1)

/-- Step 1 of Table 6.4: the updates whose tick has come, in the order of delivery. -/
def State.applyUpdates (s : State) : State :=
  let us := s.image.updates.filter fun u => u.due ≤ s.tick
  foldState (fun s u => foldState (fun s g => s.change 1 g u.copy) (s.sigsOf u.kind u.index) s) us
    { s with image.updates := s.image.updates.filter fun u => s.tick < u.due }

/-- Freshness of one signal (R153): STALE is set once its age exceeds FRESH_US. -/
def State.freshOne (s : State) (g : Nat) : State :=
  let r := s.sig g
  if r.freshUs ≠ 0 ∧ 1000 * r.freshUs < s.tl - r.upd ∧ r.quality &&& qStale = 0 ∧ (s.force? g).isNone then
    (s.setSig g { r with quality := r.quality ||| qStale }).journalSig 2 g
  else s

/-- Step 2 of Table 6.4. -/
def State.freshness (s : State) : State := foldState State.freshOne (s.image.sigs.map (·.1)) s

/-- Step 3 of Table 6.4 for one completed write of a record word (R164): a PARAM value is stamped with the tick and range-tested;
the other words are configuration. -/
def State.writeSigWord (s : State) (g w : Nat) (v : W64) : State :=
  let r := s.sig g
  match w with
  | 0 => s.change 3 g ⟨v, qValid, s.stamp⟩
  | 7 =>
    let c := v.toNat
    let r' := { r with substMode := bit c 8, rangeEn := bit c 9, freshUs := bits c 63 40 }
    (s.setSig g r').journalRec g
  | _ => (s.setSig g (r.setWord w v)).journalRec g

/-- Command a signal to its safe value (step 6 of Table 6.4): quality VALID and SUBST. -/
def State.safeSig (s : State) (g : Nat) : State := s.change 6 g ⟨(s.sig g).safe, qValid ||| qSubst, s.stamp⟩

/-! ### Forces (R168 to R172) -/

def State.forceCount (s : State) : Nat := s.image.forces.length
def State.forcesOf (s : State) (a : Nat) : List Nat :=
  (s.image.forces.filter fun (_, f) => match f with | some f => f.account == a | none => false).map (·.1)

/-- Force a signal: its record takes the force value with quality VALID and FORCED only (R169). (DEDUCED, log entry 114.) -/
def State.setForced (s : State) (g a : Nat) (v : W64) : State :=
  let r := s.sig g
  let unforced := match s.force? g with | some f => f.unforced | none => ⟨r.value, r.quality, r.stamp⟩
  let s := s.setForce g (some ⟨v, unforced, s.stamp, a⟩)
  (s.setSig g { r with value := v, quality := qValid ||| qForced, stamp := s.stamp }).journalForce g true v

/-- Clear a force: the record takes the unforced value with the quality and stamp the last change gave it (R169). -/
def State.clearForced (s : State) (g : Nat) : State :=
  match s.force? g with
  | some f =>
    let r := s.sig g
    ((s.setForce g none).setSig g
      { r with value := f.unforced.value, quality := f.unforced.quality, stamp := f.unforced.stamp }).journalForce g false 0
  | none => s

/-- Reasons of event 0x0605: 1 module start, 2 fault, 3 account reset, 4 CLEAR_ALL (codes left open: DESIGN CHOICE, log entry 5).
-/
def State.clearForcesOf (s : State) (a reason : Nat) (always : Bool) : State :=
  let gs := s.forcesOf a
  let s := foldState State.clearForced gs s
  if always || !gs.isEmpty then s.ev 0x0605 [.b8 a, .b8 (Config.openCode (10 + reason)).toNat] else s

/-- SW12 as the module acts on it: on, or in contact fault (R18). -/
def State.sw12 (s : State) : Bool := bit (s.fld F.SEAL_STATE_SW) 12 || bit (s.fld F.SEAL_STATE_SWF) 12

/-- A force command takes effect (step 7 of Table 6.4): 1 SET, 2 CLEAR, 3 CLEAR_ALL (R168). -/
def State.forceCommand (s : State) (a cmd session g : Nat) (v : W64) : State :=
  let r := s.sig g
  let result (s : State) (st : Nat) : State := s.setFld F.FORCE_RESULT_STATUS st a
  if cmd = 3 then
    if a = 7 ∧ !s.sw12 then result s 8 else result (s.clearForcesOf a 4 true) 0
  else if r.owner ≠ a ∨ nget none (s.image.sigs.map fun (k, x) => (k, some x)) g = none then result s 9
  else if cmd = 1 then
    if r.kind = kModule ∨ (a = 7 ∧ !s.sw12) then result s 8
    else if (s.force? g).isNone ∧ 1024 ≤ s.forceCount then result s 3
    else result ((s.setForced g a v).ev 0x0603 [.b8 a, .b32 g, .b16 session]) 0
  else
    if (s.force? g).isNone then result s 9
    else if a = 7 ∧ !s.sw12 then result s 8
    else result ((s.clearForced g).ev 0x0604 [.b8 a, .b32 g, .b16 session]) 0

/-! ### Image scrub (R174) -/

/-- What the scrubber does with one error it finds. (DEDUCED, log entry 67.) -/
def State.scrubImage (s : State) (e : ImageError) : State :=
  let g := e.sig.val
  let w := e.word.val
  let r := s.sig g
  if !e.double then s.bump F.IMAGE_ECC_CORRECTED
  else
    let s := (s.bump F.IMAGE_ECC_UNCORRECTED).ev 0x0606 [.b32 g, .b16 w]
    if 3 ≤ w ∧ w ≤ 6 then (s.setSig g (r.setWord w ((nget .init s.image.sigImg g).word w))).journalRec g
    else
      let q := (r.quality &&& ~~~ qValid) ||| qFault
      (s.setSig g { r with quality := q }).journalRec g

end Sys2Proof.Machine
end

