-- ==== Sys2Proof/Machine/Firing.lean ====
section
/-! DEFINITION. The firing schedule (chapter 7): admission of entries by Table 7.3, their application in the order of
R185, their removal under Table 7.4, the usability of TS for firing (R187) and the list copy of FIRE_LIST_ADDR. -/

namespace Sys2Proof.Machine

/-- Account priority (R82): A7, then A1 to A6, then A0. -/
def acctRank (a : Nat) : Nat := if a = 7 then 0 else if a = 0 then 7 else a

/-- The accounts in the order in which the module takes them (R82). -/
abbrev acctOrder : List Nat := [7, 1, 2, 3, 4, 5, 6, 0]

/-- TS is usable for firing for account a (R187). -/
def State.tsUsable (s : State) (a : Nat) : Bool :=
  s.tsValid && (!s.flag F.FIRE_CFG_HOLD_NOSYNC a || s.fld F.TIME_STATUS_TS_STATE != tsHoldover)

/-- The time of the present tick in an entry's base (R181). -/
def State.tickTime (s : State) (f : Fire) : Int := if f.tl then s.tl else s.ts

/-- T as an integer: unsigned in TS; an OFFSET sum in TL may lie before 0 (R180). -/
def Fire.t (f : Fire) : Int := if f.tl then f.time.toInt else f.time.toNat

/-- Overdue count: lateness in whole ticks (chapter 7, Admission). -/
def State.overdue (s : State) (f : Fire) : Int := (s.tickTime f - f.t) / 1000

/-- The entry's firing time as an event or FIRE_LAST_TIME shows it: bit 63 set in TL (R151, Table 7.9). -/
def Fire.shown (f : Fire) : Nat := f.time.toNat % 2 ^ 63 + if f.tl then 2 ^ 63 else 0

/-- The data every firing event carries (R193): account, task index or action code, signal, firing time. -/
def Fire.items (f : Fire) : List Item :=
  [.b8 f.account, .b8 (if f.action then f.target else f.task), .b32 (if f.action then 0 else f.target), .b64 f.shown]

def State.pendingOf (s : State) (a : Nat) : Nat := (s.image.fire.filter (·.account == a)).length

/-- Record the last entry not applied OK (R183, Table 7.9). -/
def State.fireLast (s : State) (f : Fire) (status : Nat) : State :=
  let a := f.account
  let w := status * 2 ^ 24 + b2n f.action * 2 ^ 20 + f.target % 2 ^ 17
  (s.setReg R.FIRE_LAST w a).setReg64 R.FIRE_LAST_TIME f.shown a

/-- The CONTROL word of an entry (Table 7.2). -/
def Fire.control (f : Fire) : Nat :=
  (if f.late then 5 else 0) * 2 ^ 56 + f.target % 2 ^ 17 * 2 ^ 24 + f.task % 16 * 2 ^ 16 + f.account % 8 * 2 ^ 10 +
    b2n f.action * 2 ^ 9 + b2n f.tl * 2 ^ 8 + f.quality.toNat

/-- The four words of an entry (Table 7.1). -/
def Fire.words (f : Fire) : List W64 := [f.time, f.value, BitVec.ofNat 64 f.control, BitVec.ofNat 64 f.seq]

/-- The FIRE_ADMIT entry of the ledger: a TL time in pair TL. -/
def State.ledFire (s : State) (f : Fire) : List W64 :=
  ledHead 4 0 :: { f with time := if f.tl then s.pairNs f.time.toInt else f.time }.words

/-- The FIRE_END entry of the ledger: how 1 applied, 2 removed. -/
def ledFireEnd (f : Fire) (how : Nat) : List W64 := [ledHead 5 (how * 2 ^ 32 + f.seq % 2 ^ 32)]

/-- The largest numbers of pending entries, of account a and of the module (Tables 7.6, 7.7). -/
def State.firePeaks (s : State) (a : Nat) : State :=
  (s.peak F.FIRE_USED_PEAK (s.pendingOf a) a).peak F.FIRE_PEAK_PEAK s.image.fire.length

/-- Admit an entry into the schedule under the next SEQ (R179, R191). -/
def State.fireAdmit (s : State) (f : Fire) (late : Bool) : State :=
  let f := { f with late := late, seq := s.image.fireSeq }
  let s := { s with image.fire := s.image.fire ++ [f], image.fireSeq := s.image.fireSeq + 1 }
  (s.firePeaks f.account).journal 16 f.target f.words (s.ledFire f)

/-- An entry is not admitted: FIRE_LAST and the event; the pair subsystem is told of an ACTION entry of its own (R377). -/
def State.fireRefuse (s : State) (f : Fire) (status ev : Nat) (more : List Item) : State :=
  let s := (s.fireLast f status).ev ev (f.items ++ more)
  if f.action then (s.setFld F.PAIR_RESULT_STATUS status).ev 0x0F0D [.b8 status] else s

/-- Judge one entry at the present tick by the checks of Table 7.3 in order (R182). (DEDUCED, log entry 69.) -/
def State.fireJudge (s : State) (f : Fire) : State :=
  let a := f.account
  let od := s.overdue f
  let tol : Int := s.fld F.ACCT_CFG_LATE_TOL a
  let far := decide (3600000000000 < f.t - s.tickTime f) && (f.tl || s.tsValid)
  if (!f.tl && f.time.getLsbD 63) || far then
    (s.bump F.FIRE_COUNTS_2_RANGE a).fireRefuse f 9 0x0705 []
  else if !f.tl && !s.tsUsable a then
    (s.bump F.FIRE_COUNTS_1_NOSYNC a).fireRefuse f 0x0E 0x0701 []
  else if tol < od then
    (s.bump F.FIRE_COUNTS_0_DISCARD a).fireRefuse f 6 0x0703 [.b32 od.toNat]
  else if s.fld F.ACCT_QUOTA_1_FIRING a ≤ s.pendingOf a then
    (s.bump F.FIRE_COUNTS_1_NOSPACE a).fireRefuse f 3 0x0704 []
  else if 1 ≤ od then
    (((s.fireAdmit f true).bump F.FIRE_COUNTS_0_LATE a).fireLast f 5).ev 0x0702 (f.items ++ [.b32 od.toNat])
  else s.fireAdmit f false

/-- Admission of every entry that has reached the schedule (R182). -/
def State.fireAdmission (s : State) : State :=
  foldState State.fireJudge s.image.fireIn { s with image.fireIn := [] }

/-- An entry is applied at this tick: it was admitted LATE, or its due tick has come (R181, R184). -/
def State.fireDue (s : State) (f : Fire) : Bool := f.late || (decide (f.t ≤ s.tickTime f) && (f.tl || s.tsValid))

/-- Insert an entry into a list ordered by R185: t(tick) − T largest first, then SEQ. -/
def fireInsert (s : State) (f : Fire) : List Fire → List Fire
  | [] => [f]
  | g :: gs =>
    let df := s.tickTime f - f.t
    let dg := s.tickTime g - g.t
    if dg < df ∨ (dg = df ∧ f.seq < g.seq) then f :: g :: gs else g :: fireInsert s f gs

/-- The order of application (R185). -/
def fireSort (s : State) (fs : List Fire) : List Fire := fs.foldr (fireInsert s) []

/-- Apply one entry (R184): an OUTPUT entry writes its signal; an ACTION entry goes to its subsystem. -/
def State.fireOne (s : State) (f : Fire) : State :=
  let s := (s.bump64 R.FIRE_APPLIED f.account).journal 17 f.target f.words (ledFireEnd f 1)
  if f.action then { s with image.fired := s.image.fired ++ [f] }
  else s.change 5 f.target ⟨f.value, f.quality, s.stamp⟩

/-- Step 5 of Table 6.4 (R184, R185). -/
def State.fireApply (s : State) : State :=
  let due := fireSort s (s.image.fire.filter s.fireDue)
  let rest := s.image.fire.filter fun f => !s.fireDue f
  foldState State.fireOne due (({ s with image.fire := rest }).peak F.FIRE_PEAK_DUE_MAX due.length)

/-- Remove the pending entries that satisfy p with the given status (Table 7.4); each counts in REMOVED. -/
def State.fireDrop (s : State) (p : Fire → Bool) (status : Nat) : State :=
  let out := s.image.fire.filter p
  foldState (fun s f => ((s.bump F.FIRE_COUNTS_2_REMOVED f.account).fireLast f status).journal 18 f.target f.words (ledFireEnd f 2)) out
    { s with image.fire := s.image.fire.filter fun f => !p f }

/-- The same of entries that a merge has passed on and that no tick has admitted yet: they are pending, and the journal does not
hold them. -/
def State.fireInDrop (s : State) (p : Fire → Bool) (status : Nat) : State :=
  let out := s.image.fireIn.filter p
  foldState (fun s f => (s.bump F.FIRE_COUNTS_2_REMOVED f.account).fireLast f status) out
    { s with image.fireIn := s.image.fireIn.filter fun f => !p f }

/-- Remove entries of an account for a cause of event 0x0706: 1 fault, 2 account reset, 3 overrun action SAFE. (DESIGN CHOICE, log
entry 129.) -/
def State.fireRemove (s : State) (a cause : Nat) (p : Fire → Bool) : State :=
  let n := ((s.image.fire ++ s.image.fireIn).filter p).length
  let s := (s.fireDrop p 6).fireInDrop p 6
  if n = 0 then s else s.ev 0x0706 [.b8 a, .b8 (Config.openCode (20 + cause)).toNat, .b32 n]

/-- At a tick at which TS has ceased to be usable for an account, its TS entries leave with NOSYNC (R187, Table 7.4). -/
def State.fireUsable (s : State) (a : Nat) : State :=
  let now := s.tsUsable a
  let p (f : Fire) : Bool := f.account == a && !f.tl
  let s' :=
    if (s.acct a).tsUsable && !now then
      let out := s.image.fire.filter p
      foldState (fun s f => (s.bump F.FIRE_COUNTS_1_NOSYNC a).ev 0x0701 f.items) out (s.fireDrop p 0x0E)
    else s
  s'.setAcct a { s'.acct a with tsUsable := now }

def State.fireUsables (s : State) : State := foldState State.fireUsable acctOrder s

/-- An internal action submitted with a time (R177): it is charged to A0 and awaits admission. -/
def State.fireSubmit (s : State) (code : Nat) (arg : W64) (time : W64) (tl : Bool) : State :=
  { s with image.fireIn := s.image.fireIn ++ [⟨time, arg, false, code, 0, 0, true, tl, 0, 0⟩] }

/-- 32-bit half h of an entry as FIRE_LIST_DATA shows it (Table 7.10). -/
def Fire.half (f : Fire) (h : Nat) : W32 :=
  let w : Nat := match h / 2 with | 0 => f.time.toNat | 1 => f.value.toNat | 2 => f.control | _ => f.seq
  BitVec.ofNat 32 (if h % 2 = 0 then w else w / 2 ^ 32)

/-- The account's pending entries in application order, as FIRE_LIST_ADDR copies them: by firing time, then SEQ. -/
def State.fireListOf (s : State) (a : Nat) : List Fire := fireSort s (s.image.fire.filter (·.account == a))

end Sys2Proof.Machine
end

