-- ==== Sys2Proof/Machine/Tills.lean ====
section
/-! DEFINITION. Accounts and tills (chapter 4): block ownership, account fault (R84) and reset (R86), and the till
operations of R88 to R91 that sessions, tasks and the module's subsystems share. -/

namespace Sys2Proof.Machine

/-! ### Ownership of blocks (chapter 4, "Register access") -/

/-- The account that owns the block of an address; none for a module-wide block, which A0 owns. -/
def State.blockOwner (s : State) (a : Nat) : Option Nat :=
  let unit := a / 2 ^ 24
  let b := a / 2 ^ 12 % 2 ^ 12
  let n := b % 256
  match unit with
  | 0x04 => if b < 0x100 ∨ 0x300 ≤ b then none else if b < 0x200 then some (b - 0x100) else some ((b - 0x200) / 16)
  | 0x05 => if b < 0x100 then none else some (s.fld F.PROG_OWNER_ACCOUNT n)
  | 0x06 => if b < 0x100 then none else if b < 0x200 then some (s.fld F.TASK_OWNER_ACCOUNT n) else some (b % 256)
  | 0x07 => if b < 0x100 then none else some n
  | 0x08 => if b < 0x100 then none else some (s.fld F.ACH_OWNER_ACCOUNT (b - 0x100))
  | 0x09 => if b < 0x100 then none else some (s.fld F.ACH_OWNER_ACCOUNT (b - 0x100))
  | 0x0A => if b < 0x100 then none else some (s.fld F.DCH_OWNER_ACCOUNT (b - 0x100 - 192))
  | 0x0D => if b < 0x100 then none else if b < 0x200 then some n else some (s.fld F.PUB_OWNER_ACCOUNT n)
  | 0x0E => if b < 0x100 then none else some 7
  | 0x10 => if b < 0x100 then none else some (s.fld F.CAN_OWNER_ACCOUNT n)
  | _ => none

/-! ### Account states (Table 4.11) -/
abbrev aAbsent := 0
abbrev aStarting := 1
abbrev aRunning := 2
abbrev aFault := 3
abbrev aResetting := 4
abbrev aBlocked := 5
abbrev aStandby := 6

def State.acctState (s : State) (a : Nat) : Nat := s.fld F.ACCT_STATUS_STATE a
def State.setAcctState (s : State) (a st : Nat) : State := s.setFld F.ACCT_STATUS_STATE st a

/-- The account of task k (R144). -/
def State.taskAcct (s : State) (k : Nat) : Nat := s.fld F.TASK_OWNER_ACCOUNT k

/-- The index by which tills and events name task k (R144). -/
def State.taskIdx (s : State) (k : Nat) : Nat := s.fld F.TASK_CFG_INDEX k

/-- The present tasks of account a. -/
def State.tasksOf (s : State) (a : Nat) : List Nat :=
  (List.range 64).filter fun k => s.flag F.TASK_CFG_PRESENT k && s.taskAcct k == a

/-- TASK_STATUS.STATE codes (Table 6.12). -/
abbrev tkIdle := 0
abbrev tkNotReleased := 6

/-- Abandon task k's open execution (R167): its delta and what the compare unit holds for it are discarded. -/
def State.abandon (s : State) (k : Nat) : State :=
  if (s.exec? k).isSome then
    ({ s.setExec k none with image.snapQ := s.image.snapQ.filter (· != k) }).setFld F.TASK_STATUS_STATE tkIdle k
  else s

/-- A word from outside enters the data memory of task k: of both wheels for A7 (R137). -/
def State.dataPut (s : State) (k w : Nat) (v : W64) : State :=
  let m := nset 0 s.image.data (65536 * k + w) v
  { s with image.data := if s.taskAcct k = 7 then nset 0 m (65536 * (64 + k) + w) v else m }

/-- A completed data-window word takes effect, and is journaled as an execution's words are (R141, Table 15.5). -/
def State.dataWrite (s : State) (k w : Nat) (v : W64) : State :=
  (s.dataPut k w v).journal 20 (65536 * k + w) [v] [ledHead 6 (k * 2 ^ 16 + w % 2 ^ 14), v]

/-- Data-window words that wait for the END of task k take effect (R141). -/
def State.dataReady (s : State) (k : Nat) : State :=
  let due := s.image.dataWait.filter (·.1 == k)
  foldState (fun s (_, w, v) => s.dataWrite k w v) due
    { s with image.dataWait := s.image.dataWait.filter fun x => x.1 != k }

/-- Stop an account's work: no further release, executions abandoned, unmerged deltas discarded (R84, Table 4.4). The merge in
progress is not interrupted (R161): a delta that is being read passes on no entry. (DESIGN CHOICE, log entry 129.) -/
def State.stopAccount (s : State) (a : Nat) : State :=
  let s := foldState (fun s k =>
    ((s.abandon k).setTask k { s.task k with enabled := none }).setFld F.TASK_STATUS_STATE tkNotReleased k) (s.tasksOf a) s
  let merging := match s.image.merging with
    | [] => []
    | d :: ds => (if d.account = a then { d with entries := [] } else d) :: ds.filter (·.account != a)
  { s with image.merging := merging, image.endWait := s.image.endWait.filter (·.account != a) }

/-- An account enters FAULT with a cause of Table 4.3 (R84). While RESETTING the cause waits for the end of the reset (R86); an
account that is absent, blocked or already in FAULT does not enter it. -/
def State.enterFault (s : State) (a cause : Nat) : State :=
  let st := s.acctState a
  if st = aResetting then s.setAcct a { s.acct a with pendingFault := cause }
  else if st = aRunning ∨ st = aStarting ∨ st = aStandby then
    let s := (s.setAcctState a aFault).setFld F.ACCT_STATUS_CAUSE cause a
    let s := s.stopAccount a
    let s := s.clearForcesOf a 2 false
    let s := s.fireRemove a 1 (·.account == a)
    let s := { s with image.safeCmds := s.image.safeCmds ++ [SafeCmd.account a], hoCauses := s.hoCauses ++ [cause] }
    s.ev 0x0401 [.b8 a, .b8 cause]
  else s

/-! ### Tills (R87 to R91) -/

/-- The idle item (R90). -/
abbrev idleItem : W64 := 0x1D1E000000000000

/-- Position of a word in till memory. -/
def State.tillPos (s : State) (a t n : Nat) : Nat := 65536 * (16 * a + t) + n % max 1 (s.tillSize a t)

/-- Enter a word at the write position, whatever the free space (a reservation's word, or after the space check). -/
def State.tillPut (s : State) (a t : Nat) (v : W64) : State :=
  let x := s.till a t
  ({ s with tillMem := nset 0 s.tillMem (s.tillPos a t x.wr) v }).setTill a t { x with wr := x.wr + 1 }

/-- Producer write (R90): none when no space is free. -/
def State.tillWrite (s : State) (a t : Nat) (v : W64) : Option State :=
  if s.tillFree a t = 0 then none else some (s.tillPut a t v)

/-- What an ECC error found in a till word does (R91): pos is the word's position. -/
def State.tillEcc (s : State) (a t pos : Nat) (e : Ecc) : State :=
  match e with
  | .clean => s
  | .corrected => s.bump F.TILL_ECC_CORRECTED a t
  | .double =>
    ((s.setFld F.TILL_STATUS_ECC2 1 a t).bump F.TILL_ECC_UNCORRECTED a t).ev 0x0404 [.b8 a, .b16 t, .b16 pos]

/-- Consumer read (R90, R91): the word, whether the read position moved, the status, the state. -/
def State.tillRead (s : State) (a t : Nat) (e : Ecc) : W64 × Bool × Nat × State :=
  let x := s.till a t
  if x.rd = x.wr then (idleItem, false, 0, s)
  else
    let pos := s.tillPos a t x.rd
    let v := nget 0 s.tillMem pos
    let s := (s.setTill a t { x with rd := x.rd + 1 }).tillEcc a t (pos % 65536) e
    match e with
    | .double => (idleItem, true, 0x0A, if s.flag F.TILL_CFG_ECC2_FAULT a t then s.enterFault a 3 else s)
    | _ => (v, true, 0, s)

/-- MARK, REWIND and RELEASE (R89): cmd 1, 2, 3. -/
def State.tillCmd (s : State) (a t cmd : Nat) : State :=
  let x := s.till a t
  match cmd with
  | 1 => s.setTill a t { x with mark := x.rd }
  | 2 => s.setTill a t { x with rd := x.mark }
  | 3 => s.setTill a t { x with rel := x.rd, mark := x.rd }
  | _ => s

/-- Endpoint kinds (Table 4.5). -/
abbrev ekNone := 0
abbrev ekTask := 1
abbrev ekSession := 2
abbrev ekNetIn := 3
abbrev ekNetReply := 4
abbrev ekHart := 5
abbrev ekCan := 6

/-- A task is the producer of a till. -/
def State.tillProducer (s : State) (a t k : Nat) : Bool :=
  s.tillSize a t != 0 && s.fld F.TILL_CFG_PROD_KIND a t == ekTask && s.fld F.TILL_CFG_PROD_INDEX a t == s.fld F.TASK_CFG_INDEX k

/-- A task is the consumer of a till. -/
def State.tillConsumer (s : State) (a t k : Nat) : Bool :=
  s.tillSize a t != 0 && s.fld F.TILL_CFG_CONS_KIND a t == ekTask && s.fld F.TILL_CFG_CONS_INDEX a t == s.fld F.TASK_CFG_INDEX k

/-- The till of account a whose producer or consumer is of the given kind and index. -/
def State.findTill (s : State) (a : Nat) (prod : Bool) (kind idx : Nat) : Option Nat :=
  (List.range 16).find? fun t =>
    s.tillSize a t != 0 &&
      if prod then s.fld F.TILL_CFG_PROD_KIND a t == kind && s.fld F.TILL_CFG_PROD_INDEX a t == idx
      else s.fld F.TILL_CFG_CONS_KIND a t == kind && s.fld F.TILL_CFG_CONS_INDEX a t == idx

/-- The till of any account with a given endpoint: its account and number. -/
def State.findTillAny (s : State) (prod : Bool) (kind idx : Nat) : Option (Nat × Nat) :=
  (List.range 8).findSome? fun a => (s.findTill a prod kind idx).map fun t => (a, t)

/-- Reserve words in a till (R92). -/
def State.tillReserve (s : State) (a t n : Nat) : State :=
  let x := s.till a t
  s.setTill a t { x with reserved := x.reserved + n }

/-- Write a completion into its reservation of n words; what it does not use returns to free space (R93). -/
def State.tillComplete (s : State) (a t n : Nat) (ws : List W64) : State :=
  let s := foldState (fun s w => s.tillPut a t w) ws s
  let x := s.till a t
  s.setTill a t { x with reserved := x.reserved - n }

end Sys2Proof.Machine
end

