-- ==== Sys2Proof/Machine/Operands.lean ====
section
/-! DEFINITION. Instruction words and operands of a wheel (chapter 5): formats and legality (R114, R115), the four operand
modes (Table 5.4), slot reads (R119), and stores to data memory and to output slots (R120). -/

namespace Sys2Proof.Machine

/-- Trap causes (Table 5.8). -/
abbrev trIll := 1
abbrev trBounds := 2
abbrev trSlot := 3
abbrev trStack := 4
abbrev trTill := 5
abbrev trDelta := 6
abbrev trSwt := 7
abbrev trIovf := 8
abbrev trIdz := 9
abbrev trFiv := 10
abbrev trFdz := 11
abbrev trFof := 12
abbrev trGather := 13
abbrev trFbparam := 14
abbrev trNospace := 15

/-! Fields of an instruction word (Table 5.3). -/
def iOp (w : W32) : Nat := w.toNat / 2 ^ 24
def iMode (w : W32) : Nat := w.toNat / 2 ^ 22 % 4
def iXs (w : W32) : Nat := w.toNat / 2 ^ 20 % 4
def iOpnd (w : W32) : Nat := w.toNat % 2 ^ 20
/-- OPND as a signed 20-bit integer. -/
def iImm (w : W32) : Int := sint 20 (iOpnd w)
/-- N of a counted instruction. -/
def iCount (w : W32) : Nat := iOpnd w / 2 ^ 16 + 1

/-- Operand modes an opcode allows: bit 0 IMM, 1 DATA, 2 DATAX, 3 SLOT; 0 for formats B and Z; none: not an opcode. -/
def iModes (op : Nat) : Option Nat :=
  if op ≤ 0x09 then some 0
  else if 0x10 ≤ op ∧ op ≤ 0x16 then some 15
  else if op = 0x17 then some 0
  else if op = 0x18 ∨ op = 0x19 then some 14
  else if 0x1A ≤ op ∧ op ≤ 0x1F then some 0
  else if op = 0x20 then some 15
  else if op = 0x21 then some 1
  else if op = 0x22 then some 14
  else if 0x23 ≤ op ∧ op ≤ 0x2D then some 7
  else if op = 0x2E ∨ op = 0x2F then some 0
  else if 0x30 ≤ op ∧ op ≤ 0x37 then some 7
  else if 0x40 ≤ op ∧ op ≤ 0x45 then some 7
  else if 0x46 ≤ op ∧ op ≤ 0x4A then some 0
  else if 0x4B ≤ op ∧ op ≤ 0x50 then some 7
  else if op = 0x60 then some 7
  else if op = 0x61 then some 6
  else if op = 0x62 then some 1
  else if op = 0x63 then some 0
  else if op = 0x70 ∨ op = 0x71 then some 8
  else if op = 0x72 then some 6
  else if 0x73 ≤ op ∧ op ≤ 0x77 then some 1
  else if 0x78 ≤ op ∧ op ≤ 0x7B then some 0
  else if 0x80 ≤ op ∧ op ≤ 0x86 then some 1
  else if op = 0x87 then some 6
  else if 0x90 ≤ op ∧ op ≤ 0x96 then some 6
  else none

/-- Bits of OPND that a format Z opcode gives a field (Table 5.5). -/
def zField (op : Nat) : Nat :=
  match op with
  | 0x07 => 0xFF
  | 0x1F => 0xF
  | 0x79 => 0x3F8
  | 0x7A => 0x3
  | 0x7B => 0x7
  | _ => 0

/-- An instruction word is legal (R114, R115): a known opcode, an allowed mode, every unused bit zero, and no field value that
Table 5.5 calls illegal. (DEDUCED, log entry 63.) -/
def iLegal (w : W32) : Bool :=
  let op := iOp w
  let m := iMode w
  let o := iOpnd w
  let xs := iXs w
  match iModes op with
  | none => false
  | some 0 =>
    if 0x02 ≤ op ∧ op ≤ 0x05 then m == 0 && xs == 0 && o < 0x10000
    else if op = 0x09 then m == 0 && o < 0x10000
    else
      m == 0 && (xs == 0 || op == 0x63) && (BitVec.ofNat 20 o &&& ~~~ BitVec.ofNat 20 (zField op) == 0) &&
        !(op == 0x1F && decide (10 ≤ o)) && !(op == 0x7A && o == 3) && !(op == 0x7B && decide (5 ≤ o))
  | some ms =>
    bit ms m &&
      -- counted instructions: N − 1 in bits 19:16, bits 15:14 zero, no address in IMM mode
      if op = 0x72 ∨ (0x74 ≤ op ∧ op ≤ 0x77) then
        o / 2 ^ 14 % 4 == 0 && (m == 2 || xs == 0) && (m != 0 || o % 2 ^ 14 == 0)
      else if op = 0x73 then o / 2 ^ 4 % 2 ^ 15 == 0 && (xs == 0 || bit o 19)
      else if 0x80 ≤ op ∧ op ≤ 0x86 then decide (o < 16) && xs == 0
      else
        let usesXs := op == 0x60 || op == 0x61 || op == 0x62
        if m = 0 then usesXs || xs == 0
        else if m = 3 then o / 2 ^ 12 % 2 ^ 7 == 0 && (xs == 0 || bit o 19)
        else o / 2 ^ 14 == 0 && (m == 2 || xs == 0 || usesXs)

/-! ### The execution context of one instruction -/

/-- What an instruction sees: the state, the execution of task k, the wheel it runs on (copy 1: the second wheel of A7), its
registers and its word. -/
structure Ctx where
  s : State
  ex : Exec
  copy : Nat
  lane : Lane
  word : W32

/-- What an instruction leaves: the state, its registers (PC already moved on), the data words it writes, the trap cause it meets
(0 none) and the compare points it presents. -/
structure WOut where
  s : State
  lane : Lane
  writes : List (Nat × W64)
  cause : Nat
  points : List ComparePoint

/-- No effect but a trap cause. -/
def Ctx.trap (c : Ctx) (cause : Nat) : WOut := ⟨c.s, c.lane, [], cause, []⟩
/-- New registers, PC moved on. -/
def Ctx.ok (c : Ctx) (l : Lane) : WOut := ⟨c.s, { l with pc := c.lane.pc + 1 }, [], 0, []⟩
/-- New registers, PC moved on, and a maskable cause met (0 none). -/
def Ctx.okc (c : Ctx) (l : Lane) (cause : Nat) : WOut := { c.ok l with cause := cause }

/-- Words of the task's data region (R109). -/
def Ctx.dataWords (c : Ctx) : Nat := 64 * c.s.fld F.PROG_DATA_DATA_UNITS c.ex.k
/-- Instructions of the task's code region (R109). -/
def Ctx.codeWords (c : Ctx) : Nat := 256 * c.s.fld F.PROG_CODE_CODE_UNITS c.ex.k
/-- Key of a data word of this wheel's copy. -/
def Ctx.dataKey (c : Ctx) (a : Nat) : Nat := 65536 * (64 * c.copy + c.ex.k) + a
def Ctx.data (c : Ctx) (a : Nat) : W64 := nget 0 c.s.image.data (c.dataKey a)

def Lane.xr (l : Lane) (i : Nat) : BitVec 16 := nget 0 l.x i
def Lane.setX (l : Lane) (i : Nat) (v : BitVec 16) : Lane := { l with x := nset 0 l.x i v }
def Lane.vr (l : Lane) (i : Nat) : W64 := nget 0 l.v i
def Lane.setV (l : Lane) (i : Nat) (v : W64) : Lane := { l with v := nset 0 l.v i v }

/-- The address of n data words in DATA or DATAX mode; none where it leaves the region (BOUNDS). -/
def Ctx.addr (c : Ctx) (n : Nat) : Option Nat :=
  let a := iOpnd c.word % 2 ^ 14 + if iMode c.word = 2 then (c.lane.xr (iXs c.word)).toNat else 0
  if a + n ≤ c.dataWords then some a else none

/-- The slot number in SLOT mode; none where the slot is invalid (R116, Table 6.3). -/
def Ctx.slotNo (c : Ctx) : Option Nat :=
  let n := iOpnd c.word % 2 ^ 12 + if bit (iOpnd c.word) 19 then (c.lane.xr (iXs c.word)).toNat else 0
  if n < 4096 ∧ (c.s.slot c.ex.k n).used then some n else none

/-- What a load from slot n returns (R119): the last value this execution stored there, else the snapshot copy. -/
def Ctx.slotView (c : Ctx) (n : Nat) : Copy :=
  let snap := (nget none c.ex.snap n).getD .init
  match c.lane.delta.find? fun e => e.slot == n with
  | some e => { snap with value := e.value }
  | none => snap

/-- The operand value (Table 5.4), or the trap cause it meets. For float opcodes an immediate is converted to binary64. -/
def Ctx.src (c : Ctx) (float : Bool) : Except Nat W64 :=
  match iMode c.word with
  | 0 => .ok (if float then (f64OfInt (iImm c.word)).val else BitVec.ofInt 64 (iImm c.word))
  | 3 => match c.slotNo with | some n => .ok (c.slotView n).value | none => .error trSlot
  | _ => match c.addr 1 with | some a => .ok (c.data a) | none => .error trBounds

/-- Words an entry takes in the delta (R120). -/
def DEntry.size (e : DEntry) : Nat := if e.mode = 0 then 2 else 3

def deltaSize (es : List DEntry) : Nat := (es.map DEntry.size).foldl (· + ·) 0

/-- Replace the entry of a slot in place, or append it (R120). -/
def deltaPut (e : DEntry) : List DEntry → List DEntry
  | [] => [e]
  | d :: ds => if d.slot = e.slot then e :: ds else d :: deltaPut e ds

/-- Store v at the location the operand names: a data word, or an output slot through the delta (R119, R120). -/
def Ctx.store (c : Ctx) (v : W64) : WOut :=
  match iMode c.word with
  | 3 =>
    match c.slotNo with
    | none => c.trap trSlot
    | some n =>
      let sl := c.s.slot c.ex.k n
      if !sl.out then c.trap trSlot
      else
        let e : DEntry := ⟨n, sl.sig, v, c.lane.ftMode, c.lane.ftTime⟩
        let d := deltaPut e c.lane.delta
        if 2048 < deltaSize d then c.trap trDelta
        else { c.ok { c.lane with delta := d } with points := [.entry e] }
  | _ =>
    match c.addr 1 with
    | none => c.trap trBounds
    | some a => { c.ok c.lane with writes := [(a, v)] }

end Sys2Proof.Machine
end

