-- ==== Sys2Proof/Machine/Flags.lean ====
section
/-! DEFINITION. Flag computations of the wheels (Table 5.2, R117, R118). -/

namespace Sys2Proof.Machine

/-! Flag bits (Table 5.2). -/
abbrev fZ := 0
abbrev fN := 1
abbrev fV := 2
abbrev fDZ := 3
abbrev fIV := 4
abbrev fOF := 5
abbrev fUF := 6
abbrev fIX := 7
abbrev fGF := 8
abbrev fFBE := 9

/-- FLAGS with bit n set to b. -/
def setFlag (f : BitVec 10) (n : Nat) (b : Bool) : BitVec 10 :=
  if b then f ||| BitVec.ofNat 10 (2 ^ n) else f &&& ~~~ BitVec.ofNat 10 (2 ^ n)

/-- FLAGS with the sticky bit n set when b holds. -/
def stick (f : BitVec 10) (n : Nat) (b : Bool) : BitVec 10 := if b then f ||| BitVec.ofNat 10 (2 ^ n) else f

/-- Z and N after a write of WA by an integer operation. -/
def flagsZN (f : BitVec 10) (wa : W64) : BitVec 10 := setFlag (setFlag f fZ (wa == 0)) fN (wa.getLsbD 63)

/-- Z and N after a write of WA by a float operation: ±0 counts as zero. -/
def flagsZNf (f : BitVec 10) (wa : W64) : BitVec 10 := setFlag (setFlag f fZ (f64IsZero wa)) fN (wa.getLsbD 63)

/-- An integer result (opcodes 0x23 to 0x2F): WA, Z, N, V and DZ; IDZ or IOVF where the condition occurs. -/
def Ctx.intResult (c : Ctx) (wa : W64) (v dz : Bool) : WOut :=
  let f := stick (setFlag (flagsZN c.lane.flags wa) fV v) fDZ dz
  c.okc { c.lane with wa := wa, flags := f } (if v then trIovf else if dz then trIdz else 0)

/-- The sticky flags of a float result. -/
def flagsFloat (f : BitVec 10) (r : FRes) : BitVec 10 :=
  stick (stick (stick (stick (stick f fDZ r.dz) fIV r.iv) fOF r.of_) fUF r.uf) fIX r.ix

/-- A cause traps: always for causes 1 to 7, by its mask bit for the others (R134). -/
def trapTaken (mask : BitVec 8) (cause : Nat) : Bool :=
  cause != 0 && (decide (cause ≤ 7) || mask.getLsbD (cause - 8))

/-- The lowest trap cause that a float result meets and the mask enables (R118, R134, R135); 0 where there is none. -/
def FRes.cause (r : FRes) (mask : BitVec 8) : Nat :=
  if r.iv && trapTaken mask trFiv then trFiv
  else if r.dz && trapTaken mask trFdz then trFdz
  else if r.of_ && trapTaken mask trFof then trFof
  else 0

/-- A float result written to WA (opcodes 0x40 to 0x49). -/
def Ctx.floatResult (c : Ctx) (r : FRes) : WOut :=
  c.okc { c.lane with wa := r.val, flags := flagsZNf (flagsFloat c.lane.flags r) r.val } (r.cause c.ex.mask)

end Sys2Proof.Machine
end

