-- ==== Sys2Proof/Machine/NetBase.lean ====
section
/-! DEFINITION. The module's role in a pair, its addresses, and how a frame leaves it (R303, R309, R310, R312): the
network's base operations, shared by requests, frames and management. -/

namespace Sys2Proof.Machine

/-- The dual-active window of a planned handover covers this tick (R377). -/
def State.inWindow (s : State) : Bool :=
  match s.pair.window with | some h => decide (h ≤ s.tick ∧ s.tick < h + 600) | none => false

/-! ### Addresses -/

def State.addr (s : State) : Nat := s.fld F.MODULE_ADDRESS_ADDR
def State.station (s : State) : Nat := s.fld F.PAIR_CFG_STATION

/-- The module presents the station address of its pair (R358): an outgoing module has handed it over at H (R376). -/
def State.asStation (s : State) : Bool := s.pairState == psActive || s.pairState == psAlone

/-- A unicast address is the module's own (R309, R358). -/
def State.isOwn (s : State) (a : Nat) : Bool := a == s.addr || (s.asStation && a == s.station)

/-- SOURCE of publications, requests and replies (R358). -/
def State.dataSrc (s : State) : Nat := if s.asStation then s.station else s.addr

/-! ### Accessors -/

def State.peer (s : State) (a : Nat) : NetPeer := nget .init s.net.peers a
def State.setPeer (s : State) (a : Nat) (p : NetPeer) : State := { s with net.peers := nset .init s.net.peers a p }
def State.setQueue (s : State) (a : Nat) (q : List QItem) : State := { s with net.queues := nset [] s.net.queues a q }
def State.tag (s : State) (t : Nat) : Tag := nget .init s.net.tags t
def State.setTag (s : State) (t : Nat) (x : Tag) : State := { s with net.tags := nset .init s.net.tags t x }

/-! ### Bytes of a body -/

/-- Little-endian number of n bytes of a list at an offset. -/
def leAt (l : List Byte) (off n : Nat) : Nat := ((l.drop off).take n).foldr (fun b v => b.toNat + 256 * v) 0

/-- A list of bytes as 64-bit words, least significant byte first (R310). -/
def words64 (l : List Byte) : List W64 := (List.range (l.length / 8)).map fun i => BitVec.ofNat 64 (leAt l (8 * i) 8)

/-- A list of bytes as 32-bit words. (DEDUCED, log entry 11.) -/
def words32 (l : List Byte) : List W32 := (List.range (l.length / 4)).map fun i => BitVec.ofNat 32 (leAt l (4 * i) 4)

def bytesOf64 (ws : List W64) : List Byte := ws.flatMap fun w => bytesLE 8 w.toNat
def bytesOf32 (ws : List W32) : List Byte := ws.flatMap fun w => bytesLE 4 w.toNat

/-! ### Ports and sending -/

/-- PORT_STATUS.ROLE codes (Table 13.17). -/
abbrev prInner := 0
abbrev prUplink := 1
abbrev prDown := 2
abbrev prRefused := 3

/-- Frame kinds (Table 13.4). -/
abbrev nkAnnounce := 1
abbrev nkSupervision := 2
abbrev nkPublication := 3
abbrev nkRequest := 4
abbrev nkReply := 5
abbrev nkManagement := 6
abbrev nkRzt := 7

def State.portRole (s : State) (p : Nat) : Nat := s.fld F.PORT_STATUS_ROLE p

/-- The chosen exit end of a plane is this module (R308). -/
def State.ownExit (s : State) (plane : Nat) : Bool :=
  s.fld F.NET_SEG_EXIT_HOPS 0 plane != 0xFF && s.fld F.NET_SEG_EXIT 0 plane == s.addr

/-- A frame from a source, received on a port, goes on out of the other port of the plane (R309). -/
def State.forwards (s : State) (p source dest : Nat) : Bool :=
  let q := if p % 2 = 0 then p + 1 else p - 1
  let mem := nget none s.net.members (4096 * (p / 2) + source)
  let chosen := match mem with | some m => m.exit == s.addr | none => false
  !((dest != 0 && s.isOwn dest) || s.isOwn source || !s.portUp q || s.portRole q == prRefused ||
    (s.portRole q == prUplink && !chosen) || (s.portRole p == prUplink && mem.isSome))

/-- Ports of the planes through which a frame of the module's own leaves (R309). -/
def State.sendPorts (s : State) : List Nat :=
  [0, 1, 2, 3].filter fun p =>
    s.portUp p && (s.portRole p == prInner || (s.portRole p == prUplink && s.ownExit (p / 2)))

/-- Multicast destinations of Sent records. -/
abbrev dstPub (a : Nat) : Nat := 4096 + a
abbrev dstKind : Nat := 8192

/-- Hand one frame to the given ports. (DESIGN CHOICE, log entry 6.) -/
def State.emit (s : State) (f : Sent) : State :=
  foldState (fun s p => if p < 4 then s.bump (whole R.PORT_TX) p else s) f.ports { s with out := s.out ++ [f] }

/-- INSTANCE of frames from a source (R311, R376). -/
def State.srcInst (s : State) (src : Nat) : Nat :=
  if s.asStation ∧ src = s.station then s.pair.inst.getD (s.reg R.NET_INSTANCE) else s.reg R.NET_INSTANCE

/-- SeqNr of the next frame from a source (R312), and the state after taking it. -/
def State.takeSeq (s : State) (src : Nat) : Nat × State :=
  if s.asStation ∧ src = s.station then (s.pair.seqNr, { s with pair.seqNr := (s.pair.seqNr + 1) % 65536 })
  else (s.net.seqNr, { s with net.seqNr := (s.net.seqNr + 1) % 65536 })

/-- Send a frame on both planes with the next SeqNr (R303, R312). -/
def State.netSend (s : State) (kind version flags src dst : Nat) (body : List Byte) (acct : Nat := 0) :
    State :=
  let (n, s') := s.takeSeq src
  s'.emit ⟨s.sendPorts, kind, version, flags, 0, s.srcInst src, src, dst, n, body, acct⟩

/-- The version to use towards a peer: the agreed one (R316); 1 towards a peer that has announced none. (DESIGN CHOICE, log entry
146.) -/
def State.peerVersion (s : State) (a : Nat) : Nat := max 1 (s.peer a).version

/-! ### A frame's bytes (R310, R312) -/

/-- The Vrelrun header as it stands in a frame, its fields in network byte order (Table 13.3). -/
def headerBytes (version kind flags hops source dest inst len : Nat) : List Byte :=
  bytesLE 1 version ++ bytesLE 1 kind ++ bytesLE 1 flags ++ bytesLE 1 hops ++ bytesBE 2 source ++ bytesBE 2 dest ++
    bytesBE 4 inst ++ bytesBE 2 len ++ bytesBE 2 0

/-- A module's MAC address: 02-5A-48-00-hh-ll (Table 13.2). -/
def moduleMac (a : Nat) : List Byte := bytesBE 6 (0x025A48000000 + a)

/-- Destination and PCP of a frame sent on a plane (Table 13.4). -/
def Sent.destMac (f : Sent) : List Byte :=
  if f.kind = nkAnnounce then bytesBE 6 0x035A48030000
  else if f.kind = nkSupervision then bytesBE 6 0x035A48020000
  else if f.kind = nkPublication then bytesBE 6 (0x035A48010000 + f.src)
  else moduleMac f.dst

def Sent.pcp (f : Sent) : Nat :=
  if f.kind = nkAnnounce then 4
  else if f.kind = nkSupervision then 7
  else if f.kind = nkPublication ∨ f.kind = nkRzt then 6
  else if f.kind = nkManagement then 3
  else 5

/-- A frame of Sent as its bytes on a port of plane 0 (A) or 1 (B), with tag, header, body, redundancy control trailer and FCS
(Table 13.2, R312). LSDUsize counts the octets after the EtherType, the trailer among them. (PRESUMED, log entry 147.) -/
def State.frameBytes (s : State) (f : Sent) (plane : Nat) : List Byte :=
  let dest := if f.dst < 4096 then f.dst else 0
  let text := headerBytes f.version f.kind f.flags f.hops f.src dest f.inst f.body.length ++ f.body
  let trailer := if f.kind = nkSupervision then []
    else bytesBE 2 f.seqNr ++ bytesBE 2 ((0xA + plane) * 2 ^ 12 + (text.length + 6) % 4096) ++ bytesBE 2 0x88FB
  let all := f.destMac ++ moduleMac f.src ++ bytesBE 2 0x8100 ++ bytesBE 2 (f.pcp * 2 ^ 13 + s.fld F.NET_PORTS_VID) ++
    bytesBE 2 0x88B5 ++ text ++ trailer
  all ++ bytesLE 4 (crc32 all).toNat

end Sys2Proof.Machine
end

