-- ==== Sys2Proof/Machine/Panel.lean ====
section
/-! DEFINITION. The local panel (chapter 19): the module page, the source in effect, the frame memory and its window, and the
rails. How the page's items are drawn as pixels the spec leaves open (Config.pageWord, DESIGN CHOICE, log entry 53). -/

namespace Sys2Proof.Machine

/-- PANEL_STATUS.STATE codes (Table 19.3). -/
abbrev pnOff := 0
abbrev pnPowering := 1
abbrev pnRunning := 2

def State.pnState (s : State) : Nat := s.fld F.PANEL_STATUS_STATE

/-- Words of the frame memory (R446). -/
abbrev frameWords := 73440

/-- The items of the module page by line (Table 19.1). -/
def State.pageItems (s : State) : List (List Nat) :=
  [[(s.peek R.ID_PART.base).toNat, (s.peek R.ID_ISSUE.base).toNat],
   s.addr :: (match s.start.head with | some h => if h.pair then [s.station] else [] | none => []),
   if s.phase = .unconfigured then [1, s.fld F.CFG_STATUS_RESULT_A, s.fld F.CFG_STATUS_RESULT_B]
   else [0, s.startStep],
   [s.fld F.CFG_STATUS_ACTIVE, (s.start.head.map (·.gen)).getD 0, s.fld F.CFG_STATUS_FORMAT],
   [s.ledState],
   s.fld F.TIME_STATUS_TS_STATE :: (if s.tsValid then [(s.ts / 1000000000).toNat] else []),
   ((List.range 8).filter fun a => s.fld F.ACCT_STATUS_STATE a == 3).flatMap fun a => [a, s.fld F.ACCT_STATUS_CAUSE a],
   [s.pairState, s.fld F.PAIR_STATUS_PEER_STATE]]

/-- Draw the module page: it fills the whole frame memory (R445). -/
def State.pageDraw (s : State) : State := { s with panel.page := some s.pageItems, panel.words := [] }

/-- The source in effect is FRAME (R444); a module in resync has not reached step 14 (DEDUCED, log entry 54). -/
def State.frameSource (s : State) : Bool :=
  let a0 := s.fld F.ACCT_STATUS_STATE 0
  bit s.panel.ctrl.toNat 0 && s.phase == .running && s.pairState != psResync && a0 != 3 && a0 != 4

/-- Bring SOURCE_EFF into line; where MODULE comes into effect the page is redrawn (R445, R452). -/
def State.panelUpdate (s : State) : State :=
  let now := s.frameSource
  let was := s.flag F.PANEL_STATUS_SOURCE_EFF
  let s := s.setFld F.PANEL_STATUS_SOURCE_EFF (b2n now)
  if was && !now && s.pnState != pnOff then s.pageDraw else s

/-- The panel's part of the management cycle (R445). -/
def State.panelCycle (s : State) : State :=
  if s.pnState != pnOff && !s.flag F.PANEL_STATUS_SOURCE_EFF then s.pageDraw else s

/-- A word of the frame memory as it stands. -/
def State.frameWord (s : State) (n : Nat) : W32 :=
  match nget none s.panel.words n with
  | some w => w
  | none => Config.pageWord (s.panel.page.getD []) n

/-- Pixel (x, y) of the frame memory: red, green and blue of 6 bits each from the top (R446). -/
def State.pixel (s : State) (x y : Nat) : Nat :=
  let w := 270 * y + 18 * x / 32
  ((s.frameWord w).toNat + 2 ^ 32 * (s.frameWord (w + 1)).toNat) / 2 ^ (18 * x % 32) % 2 ^ 18

/-- The level the glass shows at (x, y): BLANK drives every pixel at level 0 (R449). -/
def State.shownPixel (s : State) (x y : Nat) : Nat := if bit s.panel.ctrl.toNat 1 then 0 else s.pixel x y

/-- The backlight in % (R449). -/
def State.backlight (s : State) : Nat := if s.panel.backlight then bits s.panel.ctrl.toNat 14 8 else 0

/-- A0 writes a word of the frame memory (R447). (DEDUCED, log entry 112.) -/
def State.setFrameWord (s : State) (n : Nat) (v : W32) : State :=
  { s with panel.words := nset none s.panel.words n (some v) }

/-- PANEL_FRAME_SCAN: a frame is complete; PANEL_CTRL takes effect for the next (R448, R449). After power-up the first frame
lights the backlight and the state is RUNNING (Table 19.2, step 7). -/
def State.panelScan (s : State) : State :=
  if s.pnState = pnOff ∨ !s.domOn 59 ∨ s.panel.awaiting then s
  else
    let s := s.setReg R.PANEL_FRAMES (s.reg R.PANEL_FRAMES + 1)
    let s := { s.setFld F.PANEL_STATUS_STATE pnRunning with
               panel.ctrl := s.word R.PANEL_CTRL.base, panel.backlight := true, panel.scanAt := s.tick }
    s.panelUpdate

/-- Steps 1 to 6 of Table 19.2. -/
def State.panelSequence (s : State) : State :=
  let s := { s with panel.avdd := true, panel.vgl := true, panel.vgh := true, panel.backlight := false,
                    panel.awaiting := false, panel.ctrl := s.word R.PANEL_CTRL.base, panel.scanAt := s.tick }
  ((s.setFld F.PANEL_STATUS_STATE pnPowering).setFld F.PANEL_STATUS_SOURCE_EFF (b2n s.frameSource)).pageDraw

/-- PANEL_POWER_UP: D59 has reached power-good. -/
def State.panelUp (s : State) : State := if s.domOn 59 ∧ s.pnState = pnOff then s.panelSequence else s

/-- PANEL_RAIL_TIMEOUT: a rail has not reached its condition within 50 ms: all rails go off. -/
def State.panelTimeout (s : State) : State :=
  if s.pnState = pnPowering ∧ !s.panel.awaiting then
    { s with panel.avdd := false, panel.vgl := false, panel.vgh := false, panel.backlight := false, panel.awaiting := true }
  else s

/-- PANEL_RAIL_RETRY: 1 s later the sequence starts again from step 1. -/
def State.panelRetry (s : State) : State := if s.panel.awaiting ∧ s.domOn 59 then s.panelSequence else s

/-- PANEL_POWER_DOWN: D59 is off (R451); the frame memory keeps nothing (R452). -/
def State.panelDown (s : State) : State :=
  if s.domOn 59 then s
  else { (s.setFld F.PANEL_STATUS_STATE pnOff).setFld F.PANEL_STATUS_SOURCE_EFF 0 with panel := .init }

def execPanelFrameScan (s : State) : Host.Outcome State Fault Refusal := .next s.panelScan
def execPanelPowerUp (s : State) : Host.Outcome State Fault Refusal := .next s.panelUp
def execPanelRailTimeout (s : State) : Host.Outcome State Fault Refusal := .next s.panelTimeout
def execPanelRailRetry (s : State) : Host.Outcome State Fault Refusal := .next s.panelRetry
def execPanelPowerDown (s : State) : Host.Outcome State Fault Refusal := .next s.panelDown

end Sys2Proof.Machine
end

