-- ==== Sys2Proof/Machine/Requests.lean ====
section
/-! DEFINITION. Request items: admission status (R92, R320), the queue, replies issued by servers (R324, R325), and the
completion item of a request (R93, R323). Programs issue items by REQ, sessions by NET_ISSUE_DATA. -/

namespace Sys2Proof.Machine

/-! ### Item header (Table 13.7) -/
def hKind (h : W64) : Nat := bits h.toNat 63 63
def hPeer (h : W64) : Nat := bits h.toNat 62 51
def hAccount (h : W64) : Nat := bits h.toNat 50 48
def hService (h : W64) : Nat := bits h.toNat 47 44
def hLength (h : W64) : Nat := bits h.toNat 43 33
def hReplyMax (h : W64) : Nat := bits h.toNat 32 22
def hRef (h : W64) : Nat := bits h.toNat 21 8
def hLow (h : W64) : Nat := bits h.toNat 7 0

def mkHeader (kind peer account service length replyMax ref low : Nat) : W64 :=
  BitVec.ofNat 64 (kind % 2 * 2 ^ 63 + peer % 2 ^ 12 * 2 ^ 51 + account % 8 * 2 ^ 48 + service % 16 * 2 ^ 44 +
    length % 2 ^ 11 * 2 ^ 33 + replyMax % 2 ^ 11 * 2 ^ 22 + ref % 2 ^ 14 * 2 ^ 8 + low % 2 ^ 8)

/-- The timeout T of an issued request in µs (Table 13.7). -/
def State.reqT (s : State) (h : W64) : Nat :=
  if hLow h = 0 then 1000 * s.fld F.NET_TIMING_TIMEOUT_MS else 10000 * hLow h

/-- The account's NET_REPLY till. -/
def State.replyTill (s : State) (a : Nat) : Option Nat :=
  (List.range 16).find? fun t => s.tillSize a t != 0 && s.fld F.TILL_CFG_PROD_KIND a t == ekNetReply

/-- Payload and REPLY_MAX limit of a version (Table 13.5). -/
def versionLimit (v : Nat) : Nat := if v = 1 then 256 else 1024

/-- REQ items that A7's open executions hold for END: their places in the queue are taken (R320). -/
def State.heldReqs (s : State) (a : Nat) : Nat :=
  if a ≠ 7 then 0
  else
    ((s.image.execs.filterMap (·.2)).map fun e =>
      (((e.lanes.headD .init).held).filter fun p => match p with | .req _ => true | _ => false).length).sum

/-- The open incoming request a HANDLE names for an account serving it, towards a peer (R320, R325). -/
def State.openIncoming (s : State) (a peer handle : Nat) : Option Incoming :=
  s.net.incoming.find? fun r => r.source == peer && r.handle == handle && r.account == a

/-- The status REQ and NET_ISSUE_DATA give an item of account a (R320). -/
def State.reqStatus (s : State) (a : Nat) (item : List W64) : Nat :=
  let h := item.headD 0
  let peer := hPeer h
  let request := hKind h == 0
  let bad := decide (1024 < hLength h) || (request && decide (1024 < hReplyMax h)) ||
    (!request && (hAccount h != 0 || hService h != 0 || hReplyMax h != 0)) || peer == 0 || s.isOwn peer ||
    (request && (s.replyTill a).isNone)
  let t := (s.replyTill a).getD 0
  let need := 1 + hReplyMax h
  let lim := if (s.peer peer).version = 0 then 1024 else versionLimit (s.peer peer).version
  if bad then 9
  else if request && (decide (s.tillSize a t < need) || decide (lim < hLength h) || decide (lim < hReplyMax h)) then 2
  else if !request && (decide (lim < hLength h) ||
      (match s.openIncoming a peer (hRef h) with | some r => decide (r.replyMax < hLength h) | none => false)) then 2
  else if !request && (s.openIncoming a peer (hRef h)).isNone then 0x0C
  else if (s.peer peer).state = 2 then 0x0B
  else if 256 ≤ (s.queue a).length + s.heldReqs a then 3
  else if request && (decide (s.tillFree a t < need) || (s.queue a).any (·.admitted.isNone)) then 1
  else 0

/-- Send the REPLY of an open incoming request and close it (R325): KIND 1, REF the HANDLE. (DEDUCED, log entry 87.) -/
def State.sendReply (s : State) (account peer handle status : Nat) (payload : List W64) : State :=
  let h := mkHeader 1 peer account 0 payload.length 0 handle status
  let s := s.netSend nkReply (s.peerVersion peer) 0 s.dataSrc peer (bytesOf64 (h :: payload))
  { s with net.incoming := s.net.incoming.filter fun r => !(r.source == peer && r.handle == handle) }

/-- A refusal with TOOBIG, recorded with account, till and words needed; one under R92 or R94, by the till's capacity, is counted
(Table 4.14). -/
def State.tooBig (s : State) (a t need : Nat) : State :=
  (if s.tillSize a t < need then s.bump F.ACCT_COUNTS_TOOBIG a else s).ev 0x0405 [.b8 a, .b16 t, .b32 need]

/-- Issue an item of account a: take it into the queue, reserve its reply words when it is admitted (R92), send a reply at once
(R321: replies need no tag), and count what is refused. -/
def State.reqIssue (s : State) (a : Nat) (item : List W64) : State :=
  let h := item.headD 0
  let st := s.reqStatus a item
  let payload := item.tail.take (hLength h)
  if st = 2 then (if hKind h = 0 then s.tooBig a ((s.replyTill a).getD 0) (1 + hReplyMax h) else s)
  else if st = 3 then s.bump F.NET_COMPL_2_QFULL a
  else if 1 < st then s
  else if hKind h = 1 then s.sendReply a (hPeer h) (hRef h) (hLow h) payload
  else if st = 1 then
    (s.bump F.ACCT_COUNTS_BUSY a).setQueue a (s.queue a ++ [⟨h :: payload, none⟩])
  else
    let s := s.tillReserve a ((s.replyTill a).getD 0) (1 + hReplyMax h)
    s.setQueue a (s.queue a ++ [⟨h :: payload, some s.tick⟩])

/-- Admit the waiting requests of an account for which there is space now, in issue order (R92). -/
def State.admitWaiting (s : State) (a : Nat) : State :=
  let step (x : State × List QItem × Bool) (q : QItem) : State × List QItem × Bool :=
    let (s, done, blocked) := x
    match q.admitted with
    | some _ => (s, done ++ [q], blocked)
    | none =>
      let t := (s.replyTill a).getD 0
      let need := 1 + hReplyMax (q.item.headD 0)
      if blocked || decide (s.tillFree a t < need) then (s, done ++ [q], true)
      else (s.tillReserve a t need, done ++ [{ q with admitted := some s.tick }], false)
  let (s, q, _) := (s.queue a).foldl step (s, [], false)
  s.setQueue a q

/-- Write the completion item of a request (R93, R323) and count it. -/
def State.complete (s : State) (a : Nat) (item : List W64) (peer account status : Nat) (payload : List W64) : State :=
  let h := item.headD 0
  let c := mkHeader 1 peer account (hService h) payload.length 0 (hRef h) status
  let s := s.tillComplete a ((s.replyTill a).getD 0) (1 + hReplyMax h) (c :: payload)
  match status with
  | 0x00 => s.bump (whole R.NET_COMPL_OK) a
  | 0x01 => s.bump F.NET_COMPL_1_BUSY a
  | 0x04 => s.bump F.NET_COMPL_0_NOTAG a
  | 0x0B => s.bump F.NET_COMPL_1_VERS a
  | 0x0D => s.bump F.NET_COMPL_0_TIMEOUT a
  | _ => s.bump F.NET_COMPL_2_REFUSED a

end Sys2Proof.Machine
end

