-- ==== Sys2Proof/Machine/Wheel.lean ====
section
/-! DEFINITION. Running instructions: which execution a logical wheel runs (R146), the fetch of its next instruction, traps
(R134 to R136), the compare unit of A7 (R137 to R139), END and the hand-over of the delta (R158, R160). -/

namespace Sys2Proof.Machine

/-- The logical wheel of task k. -/
def State.taskWheel (s : State) (k : Nat) : Nat := s.fld F.TASK_CFG_LWHEEL k
def State.taskPrio (s : State) (k : Nat) : Nat := s.fld F.TASK_CFG_PRIORITY k

/-- TASK_STATUS.STATE code of an open execution (Table 6.12). -/
def ExecState.code : ExecState → Nat
  | .snapshot => 1 | .ready => 2 | .running => 3 | .preempted => 4

/-- Store an execution and show its state in TASK_STATUS. -/
def State.putExec (s : State) (e : Exec) : State :=
  (s.setExec e.k (some e)).setFld F.TASK_STATUS_STATE e.state.code e.k

def State.openExecs (s : State) : List Exec := s.image.execs.filterMap (·.2)

/-- The execution that logical wheel l runs, and which wheel of A7 that is: A7 runs on L14 and L15 together (R145). -/
def State.running (s : State) (l : Nat) : Option (Exec × Nat) :=
  match s.openExecs.find? fun e => e.state == .running && s.taskWheel e.k == l with
  | some e => some (e, 0)
  | none =>
    if l = 15 then
      (s.openExecs.find? fun e => e.state == .running && s.taskWheel e.k == 14 && s.taskAcct e.k == 7).map (·, 1)
    else none

/-- Execution e goes before f on their wheel (R146): priority, then release tick, then k. -/
def State.before (s : State) (e f : Exec) : Bool :=
  let pe := s.taskPrio e.k
  let pf := s.taskPrio f.k
  decide (pe < pf ∨ (pe = pf ∧ (e.rel < f.rel ∨ (e.rel = f.rel ∧ e.k < f.k))))

/-- The priority area of an execution still holds an unmerged delta (R160). -/
def State.areaHeld (s : State) (e : Exec) : Bool :=
  (s.image.merging ++ s.image.endWait).any fun d =>
    d.lwheel == s.taskWheel e.k && s.taskPrio d.ex.k == s.taskPrio e.k

/-- Give logical wheel l to the execution that R146 chooses: a ready one of higher priority preempts. -/
def State.redispatch (s : State) (l : Nat) : State :=
  let here := s.openExecs.filter fun e => s.taskWheel e.k == l
  let cands := here.filter fun e =>
    e.state == .preempted || (e.state == .ready && !s.areaHeld e)
  let best := cands.foldl (fun b e => match b with
    | none => some e
    | some f => if s.before e f then some e else some f) none
  match best, here.find? (·.state == .running) with
  | some b, none => s.putExec { b with state := .running }
  | some b, some r =>
    if s.taskPrio b.k < s.taskPrio r.k then
      (s.putExec { r with state := .preempted }).putExec { b with state := .running }
    else s
  | none, _ => s

/-- The place of a delta in the order of handover (R161): among those handed over at the same time, by account priority and then
by logical wheel. -/
def mergeInsert (d : Delta) : List Delta → List Delta
  | [] => [d]
  | e :: es =>
    let key (x : Delta) : Nat := 16 * acctRank x.account + x.lwheel
    if e.since = d.since ∧ key d < key e then d :: e :: es else e :: mergeInsert d es

/-- Hand a finished delta over to the clearing house, or hold it in END wait while another delta of its logical wheel is waiting
or being merged (R160). -/
def State.handOver (s : State) (d : Delta) : State :=
  if (s.image.merging ++ s.image.endWait).any (·.lwheel == d.lwheel) then
    ({ s with image.endWait := s.image.endWait ++ [d] }).setFld F.TASK_STATUS_STATE 5 d.ex.k
  else { s with image.merging := mergeInsert d s.image.merging }

/-- Release what the compare unit held for A7 (R139). -/
def State.releaseHeld (s : State) (a : Nat) (ps : List ComparePoint) : State :=
  foldState (fun s p => match p with
    | .push t v => (s.tillWrite a t v).getD s
    | .req item => s.reqIssue a item
    | _ => s) ps s

/-- Journal the data words that task k's execution has written (Table 15.5), at its END. -/
def State.journalData (s : State) (k : Nat) : State :=
  let mine := s.image.dirty.filter (· / 65536 == k)
  foldState (fun s key =>
    let v := nget 0 s.image.data key
    s.journal 20 key [v] [ledHead 6 (k * 2 ^ 16 + key % 2 ^ 14), v]) mine.reverse
    { s with image.dirty := s.image.dirty.filter (· / 65536 != k),
             image.before := s.image.before.filter fun (x : Nat × Option W64) => x.1 / 65536 % 64 != k }

/-- END of task k's execution, ns after its release: the registers that report it, held words released, the delta handed over, the
wheel free for the next execution (R158, R165, R139). -/
def State.finishExec (s : State) (k ns : Nat) : State :=
  match s.exec? k with
  | none => s
  | some e =>
    let lane := e.lanes.headD .init
    let a := s.taskAcct k
    let s := (s.setReg R.PROG_CYCLES lane.cycles k).peak (whole R.PROG_CYCLES_MAX) lane.cycles k
    let s := s.setFld F.PROG_FLAGS_FLAGS lane.flags.toNat k
    let s := (s.setReg R.TASK_LAST ns k).peak (whole R.TASK_MAX) ns k
    let s := if (s.task k).lateSeen then s else s.setFld F.TASK_STATUS_CONSEC 0 k
    let s := if a = 7 ∧ s.safety.holdFrom < e.rel ∧ !(s.task k).lateSeen then
        { s with safety.holdTasks := s.safety.holdTasks.filter (· != k) } else s
    let s := ((s.setExec k none).setFld F.TASK_STATUS_STATE tkIdle k).journalData k
    let s := s.releaseHeld a lane.held
    let s := s.handOver ⟨e, lane.delta, lane.flags.getLsbD fGF, s.taskWheel k, a, 1000 * e.rel + ns⟩
    let s := if a = 7 ∧ !s.safety.cmpTested then { s with safety.cmpTested := true, safety.cmpDue := true } else s
    (s.dataReady k).redispatch (s.taskWheel k)

/-- The compare unit is presented with a deliberate difference (R333): where it does not report it, A7 enters FAULT. (DEDUCED, log
entry 70.) -/
def State.cmpTest (s : State) (reports : Bool) : State :=
  if reports then s else ((s.bump F.SAFE_COUNTS_CMP_TEST_FAIL).ev 0x0E03).enterFault 7 5

/-- The test that follows the first END of A7 in a management cycle. -/
def State.cmpAfterEnd (s : State) (reports : Bool) : State :=
  if s.safety.cmpDue then State.cmpTest { s with safety.cmpDue := false } reports else s

/-- The compare unit finds a mismatch (R138); the two wheels are the next targets of rotation (R430). -/
def State.mismatch (s : State) (k kind : Nat) : State :=
  match s.exec? k with
  | none => s
  | some e =>
    let pc (i : Nat) : Nat := (e.lanes.getD i .init).pc.toNat
    let s := s.ev 0x0504 [.b8 (s.taskIdx k), .b8 (Config.openCode (30 + kind)).toNat, .b16 (pc 0), .b16 (pc 1)]
    let s := { s with selfTest.next := [s.fld F.ST_MAP_WHEEL 14, s.fld F.ST_MAP_WHEEL 15] }
    (s.bump F.SAFE_CMP_MISMATCHES).enterFault 7 5

/-- Kind of a compare point, in the order of R137. -/
def ComparePoint.kind : ComparePoint → Nat
  | .entry _ => 1 | .push _ _ => 2 | .req _ => 3 | .trap _ _ => 4 | .done => 5

/-- Wheel i of A7 presents a compare point: it must equal the one the other wheel presented first (R138). -/
def State.present (s : State) (k i : Nat) (p : ComparePoint) : State :=
  match s.exec? k with
  | none => s
  | some e =>
    let other := e.lanes.getD (1 - i) .init
    match other.points with
    | q :: qs =>
      if q = p then s.setExec k (some { e with lanes := e.lanes.set (1 - i) { other with points := qs } })
      else s.mismatch k p.kind
    | [] =>
      let own := e.lanes.getD i .init
      s.setExec k (some { e with lanes := e.lanes.set i { own with points := own.points ++ [p] } })

/-- Act on an execution whose every wheel has met an unhandled trap, or has reached END (R136, R158). (DEDUCED, log entry 64.) -/
def State.settle (s : State) (k ns : Nat) : State :=
  match s.exec? k with
  | none => s
  | some e =>
    match (e.lanes.headD .init).dead with
    | some (cause, pc, inHandler) =>
      if e.lanes.all (·.dead.isSome) then
        let a := s.taskAcct k
        let s := s.abandon k
        let s := s.ev (if inHandler then 0x0503 else 0x0502) [.b8 (s.taskIdx k), .b8 cause, .b16 pc]
        (s.enterFault a 1).redispatch (s.taskWheel k)
      else s
    | none => if e.lanes.all (·.ended) then s.finishExec k ns else s

/-- TRAP_CAUSE: the code of Table 5.8; a software trap reports 0x80 plus OPND[6:0]. -/
def trapCode (w : W32) (cause : Nat) : Nat := if cause = trSwt then 0x80 + iOpnd w % 128 else cause

/-- The registers after a trap of an instruction at pc (R135): into the handler, or dead. -/
def Lane.afterTrap (l : Lane) (vec : Nat) (code : Nat) (pc : BitVec 16) : Lane :=
  if vec ≠ 0xFFFF ∧ !l.handler then
    { l with trapCause := BitVec.ofNat 8 code, trapPc := pc, handler := true, pc := BitVec.ofNat 16 vec }
  else { l with dead := some (code, pc.toNat, l.handler) }

/-- PROG_STATUS and event 0x0501 of a trap (R135); both wheels of A7 report once. -/
def State.trapReport (s : State) (k copy code pc : Nat) (handled : Bool) : State :=
  if copy ≠ 0 then s
  else
    let s := ((s.bump F.PROG_STATUS_TRAPS k).setFld F.PROG_STATUS_LAST_CAUSE code k).setFld F.PROG_STATUS_TRAP_PC pc k
    if handled then s.ev 0x0501 [.b8 (s.taskIdx k), .b8 code, .b16 pc] else s

/-- Cycles of an instruction (Table 5.5), branches counted as not taken. (DEDUCED, log entry 65.) (DESIGN CHOICE, log entry 131.)
-/
def iCycles (w : W32) (item : Nat) : Nat :=
  let op := iOp w
  let n := iCount w
  let base : Nat :=
    if op = 0x01 ∨ op = 0x02 ∨ (0x05 ≤ op ∧ op ≤ 0x08) then 2
    else if op = 0x25 then 3
    else if op = 0x26 ∨ op = 0x27 then 34
    else if 0x40 ≤ op ∧ op ≤ 0x42 then 3
    else if op = 0x43 then 18
    else if op = 0x44 ∨ op = 0x45 then 2
    else if op = 0x46 then 22
    else if op = 0x49 ∨ op = 0x4A then 3
    else if 0x4B ≤ op ∧ op ≤ 0x50 then 2
    else if op = 0x72 then 2 + n
    else if 0x74 ≤ op ∧ op ≤ 0x76 then 2 + (n + 3) / 4
    else if op = 0x77 then 4 + n
    else if op = 0x80 ∨ op = 0x81 then 4
    else if 0x82 ≤ op ∧ op ≤ 0x86 then 2
    else if op = 0x87 then 6 + (item + 7) / 8
    else if op = 0x90 then 24
    else if op = 0x91 then 12
    else if op = 0x92 then 6
    else if op = 0x93 ∨ op = 0x94 then 10
    else if op = 0x95 then 4
    else if op = 0x96 then 6
    else 1
  base + if iModes op ≠ some 0 ∧ iMode w = 3 then 1 else 0

/-- Write a data word of an execution's wheel: what it held at the last END is kept for the shadow (R434), and the write is noted
for the journal (Table 15.5). -/
def State.wheelStore (s : State) (c : Ctx) (a : Nat) (v : W64) : State :=
  let key := c.dataKey a
  let old := nget 0 s.image.data key
  { s with image.data := nset 0 s.image.data key v,
           image.before := if (nget none s.image.before key).isSome then s.image.before
             else nset none s.image.before key (some old),
           image.dirty := if c.copy = 0 then s.image.dirty.insert key else s.image.dirty }

/-- Cycles spent on the physical wheel that carries logical wheel l (Table 5.13). -/
def State.wheelBusy (s : State) (l n : Nat) : State :=
  let w := s.fld F.ST_MAP_WHEEL l
  let x := nget .init s.selfTest.wheels w
  { s with selfTest.wheels := nset .init s.selfTest.wheels w { x with busy := x.busy + n } }

/-- Commit what an instruction leaves: data words, registers, trap, compare points. (DESIGN CHOICE, log entry 131.) -/
def WOut.commit (o : WOut) (c : Ctx) (ns : Nat) : State :=
  let k := c.ex.k
  let pc := c.lane.pc
  let taken := trapTaken c.ex.mask o.cause
  let code := trapCode c.word o.cause
  let lane := { o.lane with cycles := o.lane.cycles + iCycles c.word 0 }
  let vec := o.s.fld F.PROG_ENTRY_TRAP_VEC k
  let lane' := if taken then lane.afterTrap vec code pc else lane
  let points := o.points ++ if taken then [ComparePoint.trap code pc.toNat] else []
  match o.s.exec? k with
  | none => o.s
  | some e =>
    let s := foldState (fun s (x : Nat × W64) => s.wheelStore c x.1 x.2) o.writes o.s
    let s := s.wheelBusy (s.taskWheel k + c.copy) (lane.cycles - c.lane.cycles)
    let s := s.setExec k (some { e with lanes := e.lanes.set c.copy lane' })
    let s := if taken then s.trapReport k c.copy code pc.toNat (lane'.dead.isNone) else s
    let s := if 1 < e.lanes.length then foldState (fun s p => s.present k c.copy p) points s else s
    s.settle k ns

/-- Run the next instruction of logical wheel l if its opcode is op: fetch (BOUNDS outside the code region), legality (ILL), then
its effect. A wheel that runs nothing, or whose next opcode is another, is left unchanged. -/
def State.runInstr (s : State) (l op : Nat) (ns : Nat) (body : Ctx → WOut) : State :=
  match s.running l with
  | none => s
  | some (ex, copy) =>
    let lane := ex.lanes.getD copy .init
    if lane.ended || lane.dead.isSome then s
    else
      let w := nget 0 s.image.code (65536 * ex.k + lane.pc.toNat)
      let c : Ctx := ⟨s, ex, copy, lane, w⟩
      if c.codeWords ≤ lane.pc.toNat then (c.trap trBounds).commit c ns
      else if iOp w ≠ op then s
      else if !iLegal w then (c.trap trIll).commit c ns
      else (body c).commit c ns

/-- ILLEGAL_INSTRUCTION (R115): the next instruction of logical wheel l is illegal. -/
def State.runIllegal (s : State) (l : Nat) : State :=
  match s.running l with
  | none => s
  | some (ex, copy) =>
    let lane := ex.lanes.getD copy .init
    if lane.ended || lane.dead.isSome then s
    else
      let w := nget 0 s.image.code (65536 * ex.k + lane.pc.toNat)
      let c : Ctx := ⟨s, ex, copy, lane, w⟩
      if c.codeWords ≤ lane.pc.toNat then (c.trap trBounds).commit c 0
      else if iLegal w then s
      else (c.trap trIll).commit c 0

/-- COMPARE_POINT_TIMEOUT (R138): wheel `copy` has presented a compare point that the other has not matched. -/
def State.compareTimeout (s : State) (copy : Nat) : State :=
  match s.openExecs.find? fun e => s.taskAcct e.k == 7 && (e.lanes.getD copy .init).points != [] with
  | some e =>
    match (e.lanes.getD copy .init).points with
    | p :: _ => s.mismatch e.k p.kind
    | [] => s
  | none => s

end Sys2Proof.Machine
end

