-- ==== Sys2Proof/Machine/Tasks.lean ====
section
/-! DEFINITION. Tasks: release and snapshot (R147, R155, R156, R159), merge and the quality of outputs (R161 to R163),
overrun (R165 to R167). -/

namespace Sys2Proof.Machine

/-- The snapshot copy of a signal (R155, R156): SUBSTITUTE with SUBST when SUBST_MODE is 1 and the value is faulted; a forced
signal is delivered as its record stands. -/
def State.snapCopy (s : State) (g : Nat) : Copy :=
  let r := s.sig g
  if r.substMode ∧ (s.force? g).isNone ∧ (r.quality &&& qValid = 0 ∨ r.quality &&& (qStale ||| qFault) ≠ 0) then
    ⟨r.subst, r.quality ||| qSubst, r.stamp⟩
  else ⟨r.value, r.quality, r.stamp⟩

/-- The slot numbers of task k that are used. -/
def State.slotsOf (s : State) (k : Nat) : List Nat :=
  ((s.image.slots.filter fun (key, sl) => key / 4096 == k && sl.used).map fun (key, _) => key % 4096)

/-- The snapshot of task k as the image stands now. -/
def State.snapshot (s : State) (k : Nat) : NMap (Option Copy) :=
  (s.slotsOf k).foldl (fun m n => nset none m n (some (s.snapCopy (s.slot k n).sig))) []

/-- Task j goes before task k in the snapshot queue (R159). -/
def State.snapBefore (s : State) (j k : Nat) : Bool :=
  let key (i : Nat) : List Nat :=
    [((s.exec? i).map (·.rel)).getD 0, acctRank (s.taskAcct i), s.taskWheel i, s.taskPrio i, i]
  decide (key j < key k)

def State.snapInsert (s : State) (k : Nat) : List Nat → List Nat
  | [] => [k]
  | j :: js => if s.snapBefore k j then k :: j :: js else j :: s.snapInsert k js

/-- The lateness limit of a release now (R165): 0 means PERIOD. -/
def State.lateLimit (s : State) (k : Nat) : Nat :=
  if s.fld F.TASK_OVR_MAX_LATE_US k = 0 then s.fld F.TASK_PERIOD_PERIOD_US k else s.fld F.TASK_OVR_MAX_LATE_US k

/-- Release task k at this tick (R112, R147, R158): registers at their values at release, RT and DT set, the snapshot fixed and
queued. -/
def State.release (s : State) (k : Nat) : State :=
  let t := s.task k
  let dt := match t.lastRel with
    | some r => (1000 * ((s.tick : Int) - r)).toNat
    | none => 1000 * s.fld F.TASK_PERIOD_PERIOD_US k
  let lane := { Lane.init with pc := BitVec.ofNat 16 (s.fld F.PROG_ENTRY_ENTRY k) }
  let lanes := if s.taskAcct k = 7 then [lane, lane] else [lane]
  let e : Exec :=
    { k := k, rel := s.tick, relTl := s.pairNs s.tl, rtTs := s.stamp, tsValid := s.tsValid, dt := dt, late := s.lateLimit k,
      tol := s.fld F.TASK_OVR_TOL k, act := s.fld F.TASK_OVR_ACTION k,
      mask := BitVec.ofNat 8 (s.fld F.PROG_TRAPMASK_MASK k), snap := s.snapshot k, state := .snapshot, lanes := lanes }
  let s := (s.putExec e).setTask k { t with lastRel := some (s.tick : Int), lateSeen := false, lastCheck := none }
  let s := { s with image.snapQ := s.snapInsert k s.image.snapQ }
  s.bump64 R.TASK_RELEASES k

/-- The wheels that run task k are there and loaded (R434, R435); A7 needs two (R145). -/
def State.wheelReady (s : State) (k : Nat) : Bool :=
  let l := s.taskWheel k
  let one (l : Nat) : Bool := s.fld F.ST_MAP_WHEEL l != 0x1F && (nget none s.selfTest.loading l).isNone
  one l && (s.taskAcct k != 7 || one 15)

/-- The release grid of task k passes this tick (R147). -/
def State.onGrid (s : State) (k : Nat) : Bool :=
  s.gridPasses (s.task k).grid (s.fld F.TASK_PHASE_PHASE_US k) (s.fld F.TASK_PERIOD_PERIOD_US k)

/-- This tick releases task k or skips its release (R147): its enable tick E, or a grid point at or after E + PERIOD. -/
def State.gridTick (s : State) (k : Nat) : Bool :=
  match (s.task k).enabled with
  | some e => s.tick == e || (s.onGrid k && decide (e + s.fld F.TASK_PERIOD_PERIOD_US k ≤ s.tick))
  | none => false

/-- A grid point of task k (R147, R165): released, or skipped while the previous execution has not reached END. -/
def State.gridPoint (s : State) (k : Nat) : State :=
  if !s.flag F.TASK_CFG_PRESENT k || s.acctState (s.taskAcct k) != aRunning || !s.gridTick k ||
      (s.task k).lastGrid == some s.tick || s.pairState == psOutgoing || !s.wheelReady k then s
  else
    let s := s.setTask k { s.task k with lastGrid := some s.tick }
    if (s.exec? k).isSome ∨ (s.task k).abandoned = some s.tick ∨ s.pair.endWait.contains k then s.bump F.TASK_COUNTS_SKIPPED k
    else s.release k

/-- The snapshot at the head of the queue is complete: its execution is ready (R158 step 2). -/
def State.snapshotDone (s : State) (k ns : Nat) : State :=
  match s.image.snapQ, s.exec? k with
  | j :: rest, some e =>
    if j = k then
      let s := ({ s with image.snapQ := rest }).peak (whole R.SNAP_MAX) ns
      (s.putExec { e with state := .ready }).redispatch (s.taskWheel k)
    else s
  | _, _ => s

/-- Quality of a merged output entry (R163, Table 6.6). -/
def State.mergeQuality (s : State) (d : Delta) (e : DEntry) : BitVec 8 :=
  let sl := s.slot d.ex.k e.slot
  let gf := if sl.propGf && d.gf then qSubst else 0
  if sl.qsrcEn then
    let q := ((nget none d.ex.snap sl.qsrc).getD .init).quality
    (q &&& (qValid ||| qStale ||| qRange ||| qFault ||| qDegr ||| qSubst)) ||| gf
  else qValid ||| gf

/-- A timed entry as it passes to the firing schedule (R162, R180), with the quality of R163: that of Table 6.6 after the range
test of its signal. -/
def State.timedEntry (s : State) (d : Delta) (e : DEntry) : Fire :=
  let tl := decide (e.mode = 2)
  let t : W64 := if tl then BitVec.ofInt 64 (1000 * (d.ex.rel : Int) + e.time.toInt) else e.time
  ⟨t, e.value, false, e.sig, s.taskIdx d.ex.k, d.account, false, tl, (s.sig e.sig).rangeTest e.value (s.mergeQuality d e) false, 0⟩

/-- Merge a delta (R161, R162): its IMMEDIATE entries take effect together at the next tick, its timed entries pass to the firing
schedule in entry order. -/
def State.merge (s : State) (d : Delta) : State :=
  let imm := (d.entries.filter fun e => e.mode == 0).map fun e => (⟨e.sig, e.value, s.mergeQuality d e⟩ : MEntry)
  let timed := (d.entries.filter fun e => e.mode != 0).map (s.timedEntry d)
  { s with image.merged := s.image.merged ++ [imm], image.fireIn := s.image.fireIn ++ timed }

/-- At a time in ns of TL, hand over the next delta of logical wheel l that waits in END wait (R160). -/
def State.endWaitNext (s : State) (l at_ : Nat) : State :=
  match s.image.endWait.find? (·.lwheel == l) with
  | none => s
  | some d =>
    let s := { s with image.endWait := s.image.endWait.erase d,
                      image.merging := mergeInsert { d with since := at_ } s.image.merging }
    let s := s.peak (whole R.CH_WAIT_MAX) (at_ - d.since)
    if (s.exec? d.ex.k).isNone then s.setFld F.TASK_STATUS_STATE tkIdle d.ex.k else s

/-- The clearing house finishes the delta it is merging, ns after its hand-over (R161). -/
def State.mergeDone (s : State) (ns : Nat) : State :=
  match s.image.merging with
  | [] => s
  | d :: ds =>
    let s := ({ s with image.merging := ds }).peak (whole R.CH_MERGE_MAX) ns
    ((s.merge d).endWaitNext d.lwheel (d.since + ns)).redispatch d.lwheel

/-- Step 4 of Table 6.4: merged deltas take effect in merge order. -/
def State.applyMerged (s : State) : State :=
  let ds := s.image.merged
  foldState (fun s d => foldState (fun s (m : MEntry) => s.change 4 m.sig ⟨m.value, m.quality, s.stamp⟩) d s) ds
    { s with image.merged := [] }

/-- The action on an overrun beyond the tolerance (R166, Table 6.7). -/
def State.overrunAction (s : State) (k act : Nat) : State :=
  let a := s.taskAcct k
  let idx := s.taskIdx k
  let s := s.ev 0x0602 [.b8 idx, .b8 act]
  let drop (s : State) : State :=
    let s := (s.abandon k).setFld F.TASK_STATUS_CONSEC 0 k
    ((s.setTask k { s.task k with abandoned := some s.tick }).dataReady k).redispatch (s.taskWheel k)
  match act with
  | 0 => drop s
  | 1 =>
    let mine (f : Fire) : Bool := f.account == a && f.task == idx && !f.action
    let s := drop s
    { s with image.safeCmds := s.image.safeCmds ++ [SafeCmd.task k] }.fireRemove a 3 mine
  | 2 => s.enterFault a 2
  | _ => s

/-- This tick checks execution e (R165): it is r + L, or a later grid point. -/
def State.checkTick (s : State) (e : Exec) : Bool :=
  s.tick == e.rel + e.late || (decide (e.rel + e.late < s.tick) && s.onGrid e.k)

/-- An overrun check of task k (R165): an execution that has not reached END counts an overrun. (DEDUCED, log entry 66.) -/
def State.overrunCheck (s : State) (k : Nat) : State :=
  match s.exec? k with
  | none => s
  | some e =>
    if !s.checkTick e || (s.task k).lastCheck == some s.tick then s
    else
      let first := decide (s.fld F.TASK_STATUS_CONSEC k = 0)
      let s := (s.bump F.TASK_COUNTS_OVERRUNS k).bump F.TASK_STATUS_CONSEC k
      let s := s.setTask k { s.task k with lateSeen := true, lastCheck := some s.tick }
      let s := if first then s.ev 0x0601 [.b8 (s.taskIdx k), .b32 (s.tick - e.rel)] else s
      if e.tol < s.fld F.TASK_STATUS_CONSEC k then s.overrunAction k e.act else s

/-- Enable the tasks of an account at this tick (R147): their first release is due. -/
def State.enableTasks (s : State) (a : Nat) : State :=
  foldState (fun s k =>
    (s.setTask k { Task.init with enabled := some s.tick, grid := (s.task k).grid }).setFld F.TASK_STATUS_STATE tkIdle k) (s.tasksOf a) s

def execTaskRelease (k : Fin 64) (s : State) : Host.Outcome State Fault Refusal := .next (s.gridPoint k.val)
def execSnapshotComplete (k : Fin 64) (ns : Nat) (s : State) : Host.Outcome State Fault Refusal :=
  .next (s.snapshotDone k.val ns)
def execMergeComplete (ns : Nat) (s : State) : Host.Outcome State Fault Refusal := .next (s.mergeDone ns)
def execOverrunCheck (k : Fin 64) (s : State) : Host.Outcome State Fault Refusal := .next (s.overrunCheck k.val)
def execSignalStale (sig : Fin 131072) (s : State) : Host.Outcome State Fault Refusal := .next (s.freshOne sig.val)
def execImageScrub (errs : List ImageError) (s : State) : Host.Outcome State Fault Refusal :=
  .next (foldState State.scrubImage errs s)
def execFiringAdmission (s : State) : Host.Outcome State Fault Refusal := .next s.fireAdmission
def execFiringApply (s : State) : Host.Outcome State Fault Refusal := .next s.fireApply
def execComparePointTimeout (lane : Fin 2) (s : State) : Host.Outcome State Fault Refusal :=
  .next (s.compareTimeout lane.val)

end Sys2Proof.Machine
end

