-- ==== Sys2Proof/Machine/Slices.lean ====
section
/-! DEFINITION. What the analogue and digital channels share: the role of this module towards its outputs, field supply
and domains of a slice, time stamps of samples, exact comparisons of measured values with the limits of the tables. -/

namespace Sys2Proof.Machine

/-! ### Slices -/

/-- Slice link states (Table 11.7). -/
abbrev slOff := 0
abbrev slSearch := 1
abbrev slHello := 2
abbrev slDownload := 3
abbrev slRun := 4
abbrev slRefused := 5

def State.slState (s : State) (sl : Nat) : Nat := s.fld F.SL_STATUS_STATE sl
def State.link (s : State) (sl : Nat) : Link := nget .init s.links sl
def State.setLink (s : State) (sl : Nat) (x : Link) : State := { s with links := nset .init s.links sl x }
def State.achan (s : State) (g : Nat) : ACh := nget .init s.ach g
def State.setAch (s : State) (g : Nat) (x : ACh) : State := { s with ach := nset .init s.ach g x }
def State.dchan (s : State) (g : Nat) : DCh := nget .init s.dch g
def State.setDch (s : State) (g : Nat) (x : DCh) : State := { s with dch := nset .init s.dch g x }
def State.hartOf (s : State) (g : Nat) : HartCh := nget .init s.hart g
def State.setHart (s : State) (g : Nat) (x : HartCh) : State := { s with hart := nset .init s.hart g x }

/-- Both domains of a slice are on (R277). -/
def State.sliceOn (s : State) (sl : Nat) : Bool := s.domOn (27 + sl) && s.domOn (43 + sl)

/-- FS_STATE codes (Table 2.10): ABSENT, LOW, NORMAL, HIGH. -/
abbrev fsAbsent := 0
abbrev fsLow := 1
abbrev fsNormal := 2
abbrev fsHigh := 3

def State.fsState (s : State) (sl : Nat) : Nat := bits (s.reg R.FS_STATUS) (2 * sl + 1) (2 * sl)

/-- FS is LOW or ABSENT (R34). -/
def State.fsBad (s : State) (sl : Nat) : Bool := s.fsState sl == fsAbsent || s.fsState sl == fsLow

/-- What overrides the command of an output of slice sl (R220, R262, R277): drive ended, or its SAFE word. -/
inductive Override where
  | ended
  | safe
  | none
  deriving DecidableEq, Repr

def State.override (s : State) (sl : Nat) : Override :=
  if s.drive = .ended ∨ !s.sliceOn sl then .ended
  else if s.drive = .safe then .safe
  else if !(s.link sl).obeys then (if s.flag F.SL_STATUS_DOWNLOADED sl then .safe else .ended)
  else if !s.inControl then .ended
  else .none

/-- The outputs of A7 channel g are held at their SAFE words: maintenance and the hold after it (R336, R337), or a safety-function
record through the channel that exceeds its limit (R351). -/
def State.safetyHold (s : State) (g owner : Nat) : Bool :=
  owner == 7 && (s.flag F.SAFE_STATUS_HOLD ||
    (List.range 32).any fun f =>
      s.flag F.SF_CFG_EN f && s.flag F.SF_STATUS_EXCEEDED f && s.fld F.SF_CFG_KIND f != 3 && s.fld F.SF_OUT_OUT f == g)

/-! ### Time stamps -/

/-- The timestamp of a time given in TL ns (R151). -/
def State.stampNs (s : State) (ns : Int) : W64 :=
  if s.tsValid then BitVec.ofNat 64 ((ns + s.time.tsOff) % 2 ^ 63).toNat else tlStamp ns.toNat

/-! ### Measured values against the limits of the tables -/

/-- A finite binary64 in units of 2^−1074. -/
def f64Sc (v : W64) : Int := f64Int v (-1074)

/-- v < n / d, exactly. -/
def f64LtQ (v : W64) (n : Int) (d : Nat) : Bool :=
  if f64Finite v then decide (f64Sc v * d < n * 2 ^ 1074) else f64IsInf v && f64Sign v

/-- n / d < v, exactly. -/
def f64GtQ (v : W64) (n : Int) (d : Nat) : Bool :=
  if f64Finite v then decide (n * 2 ^ 1074 < f64Sc v * d) else f64IsInf v && !f64Sign v

/-- v lies in [lo, hi] (in units of 1/d). -/
def f64InQ (v : W64) (lo hi : Int) (d : Nat) : Bool := !f64IsNaN v && !f64LtQ v lo d && !f64GtQ v hi d

/-- n / d as a binary64. -/
def f64Q (n : Int) (d : Nat) : W64 := f64OfRat (decide (n < 0)) n.natAbs d

/-- v × n / d rounded to the nearest integer, ties away from zero (DESIGN CHOICE, log entry 33). -/
def f64ScaleRound (v : W64) (n d : Nat) : Int :=
  if f64Finite v then
    let m := 2 * (f64Sc v).natAbs * n
    let q : Int := ((m + d * 2 ^ 1074) / (2 * d * 2 ^ 1074) : Nat)
    if f64Sign v then -q else q
  else 0

/-- A value limited to [lo, hi], and whether the limit acted. -/
def f64Clamp (v lo hi : W64) : W64 × Bool :=
  if f64Lt v lo then (lo, true) else if f64Lt hi v then (hi, true) else (v, false)

/-- A FAULT condition (or none) as the quality of an item. -/
def condQ (fault zone : Bool) : BitVec 8 :=
  (if fault then qFault else qValid) ||| (if zone then qRange else 0)

end Sys2Proof.Machine
end

