-- ==== Sys2Proof/Machine/Analogue.lean ====
section
/-! DEFINITION. Universal analogue channels (chapter 8): modes and their limits, samples and their classification, output
setpoints, readback, reconfiguration, and the checks of channel register writes. -/

namespace Sys2Proof.Machine

/-! ### Modes (Table 8.1) and status bits (Table 8.21) -/
abbrev aOff := 0
abbrev aCurIn := 1
abbrev aVoltIn := 2
abbrev aTc := 3
abbrev aRtd := 4
abbrev aRes := 5
abbrev aCurOut := 6
abbrev aVoltOut := 7
abbrev aBridge := 8

abbrev abOpen := 0
abbrev abShort := 1
abbrev abLowFail := 2
abbrev abHighFail := 3
abbrev abOver := 4
abbrev abOverload := 5
abbrev abRbDiff := 6
abbrev abExtsrc := 7
abbrev abLoadHigh := 8
abbrev abFsLow := 9
abbrev abCjFault := 10
abbrev abLink := 11
abbrev abReconfig := 12
abbrev abClamp := 13
abbrev abRangeZone := 14
abbrev abThermal := 15
abbrev abFailDrive := 16
abbrev abSafeDrive := 17

def State.aMode (s : State) (g : Nat) : Nat := s.fld F.ACH_CFG_MODE g
def State.aRange (s : State) (g : Nat) : Nat := s.fld F.ACH_CFG_RANGE g
def aIsOut (m : Nat) : Bool := m == aCurOut || m == aVoltOut
def aIsIn (m : Nat) : Bool := m != aOff && !aIsOut m

/-- MODE and RANGE are listed in Table 8.1 (R194). -/
def aModeOk (m r : Nat) : Bool :=
  match m with
  | 0 => r == 0
  | 1 => decide (r ≤ 1)
  | 2 => decide (r ≤ 2)
  | 3 => decide (r ≤ 7)
  | 4 => decide (r ≤ 2)
  | 5 => decide (r ≤ 1)
  | 6 => decide (r ≤ 2)
  | 7 => decide (r ≤ 1)
  | 8 => decide (r ≤ 1)
  | _ => false

/-- The channel draws on FS (chapter 8, "Field supply, link loss, stopping and pairs"). -/
def State.aDrawsFs (s : State) (g : Nat) : Bool :=
  aIsOut (s.aMode g) || (s.aMode g == aCurIn && s.flag F.ACH_CFG_LOOP_PWR g)

/-- Status bits that are FAULT conditions in a mode (Tables 8.5 and 8.9). -/
def aFaultMask (m : Nat) : Nat :=
  if m = aCurOut then 0x1BC1
  else if m = aVoltOut then 0x1A41
  else if m = aOff then 0
  else 0x1E7F

/-- The items a channel produces (Table 8.4). -/
def aItems (m g : Nat) : List Nat :=
  if m = aOff then []
  else if m = aVoltIn ∨ m = aRes ∨ (m = aBridge ∧ g % 2 = 1) then [0, 2, 3]
  else [0, 1, 2, 3]

/-- Quality of an item while the channel's status is st (R203, Tables 8.5, 8.9 and 8.10). -/
def aQual (m st item : Nat) : BitVec 8 :=
  let reconf := bit st abReconfig
  if item = 2 then condQ (reconf || bit st abLink) false
  else if aIsOut m then
    let rb := (st &&& (aFaultMask m &&& 0x1C1)) != 0
    let all := reconf || bit st abLink || bit st abFsLow
    if item = 1 then condQ all false
    else condQ (all || rb) (item == 3 && m == aCurOut && bit st abShort)
  else
    let rbOnly := m != aCurIn && item != 0
    let mask := if rbOnly then aFaultMask m - 2 ^ abRbDiff else aFaultMask m
    condQ ((st &&& mask) != 0) (bit st abRangeZone)

/-- Deliver item i of channel g, two ticks from now (R198): in RUN its LINK ends with its first delivery (R278). (DEDUCED, log
entry 78.) -/
def State.aDeliver (s : State) (g i : Nat) (v : W64) (q : BitVec 8) (stamp : W64) : State :=
  let ch := s.achan g
  let s := if s.slState (g / 32) = slRun then s.setAch g { ch with wait := ch.wait.filter (· != i) } else s
  s.deliverAt (s.tick + 2) kChannel (8 * g + i) ⟨v, q, stamp⟩

/-- Deliver item i with the quality that the channel's status gives it. -/
def State.aItem (s : State) (g i : Nat) (v stamp : W64) : State :=
  let link := s.slState (g / 32) != slRun
  s.aDeliver g i v (aQual (s.aMode g) (putBits (s.reg R.ACH_STATUS g) abLink abLink (b2n link)) i) stamp

/-- A change of CH_STATUS (R204, Tables 8.16, 8.17, 8.21, 8.22): latch, fault maps, counts, events, item 2. -/
def State.setAStatus (s : State) (g new : Nat) : State :=
  let old := s.reg R.ACH_STATUS g
  if new = old then s
  else
    let m := s.aMode g
    let sl := g / 32
    let was := (old &&& aFaultMask m) != 0
    let is := (new &&& aFaultMask m) != 0
    let s := (s.setReg R.ACH_STATUS new g).setReg R.ACH_LATCH (s.reg R.ACH_LATCH g ||| new) g
    let s := s.setBit R.AS_FAULT (g % 32) is sl
    let s := s.setBit R.AS_SUMMARY sl (s.reg R.AS_FAULT sl != 0)
    let s := if is && !was then (s.bump F.ACH_COUNTS_FAULTS g).ev 0x0801 [.b16 g, .b32 new]
      else if was && !is then s.ev 0x0802 [.b16 g] else s
    s.aItem g 2 (BitVec.ofNat 64 new) s.stamp

/-- Set or clear one status bit. -/
def State.aBit (s : State) (g n : Nat) (b : Bool) : State :=
  s.setAStatus g (putBits (s.reg R.ACH_STATUS g) n n (b2n b))

/-- Deliver items 0, 1 and 3 again with their last values and the channel's present quality; one that has not been delivered since
RUN was entered keeps LINK. -/
def State.aRequal (s : State) (g : Nat) : State :=
  foldState (fun s i =>
    if i = 2 then s
    else
      let st := putBits (s.reg R.ACH_STATUS g) abLink abLink (b2n ((s.achan g).wait.contains i))
      s.deliverAt (s.tick + 2) kChannel (8 * g + i)
        ⟨(nget .init s.image.last (65536 * kChannel + (8 * g + i))).value, aQual (s.aMode g) st i, s.stamp⟩)
    (aItems (s.aMode g) g) s

/-- Set or clear a condition that acts on every item at once. -/
def State.aCond (s : State) (g n : Nat) (b : Bool) : State :=
  if bit (s.reg R.ACH_STATUS g) n = b then s else (s.aBit g n b).aRequal g

/-! ### Samples -/

/-- Conversion period in µs (Table 8.3). -/
def aPeriod (rate : Nat) : Nat :=
  match rate with
  | 0 => 20 | 1 => 40 | 2 => 100 | 3 => 200 | 4 => 1000 | 5 => 10000 | 6 => 20000 | _ => 100000

/-- Temperature range of a thermocouple type in °C (Table 8.6). -/
def tcRange (r : Nat) : Int × Int :=
  match r with
  | 0 => (250, 1820) | 1 => (-200, 1000) | 2 => (-210, 1200) | 3 => (-200, 1372)
  | 4 => (-200, 1300) | 5 => (-50, 1768) | 6 => (-50, 1768) | _ => (-200, 400)

/-- Cold-junction temperature of channel g and whether its source is valid (R208). -/
def State.coldJunction (s : State) (g : Nat) : W64 × Bool :=
  match s.fld F.ACH_CJ_CJ_SRC g with
  | 0 =>
    let c := g % 32
    let sl := g / 32
    let i := if c ≤ 10 then 0 else if c < 21 then 1 else 2
    let pos (k : Nat) : Nat := match k with | 0 => 0 | 1 => 10 | 2 => 21 | _ => 31
    let a := sint 16 (s.fld F.AS_CJ_T sl i)
    let b := sint 16 (s.fld F.AS_CJ_T sl (i + 1))
    let ok (t : Int) : Bool := decide (-40 * 16 ≤ t ∧ t ≤ 125 * 16)
    let span : Int := (pos (i + 1) - pos i : Nat)
    (f64Q (a * span + (b - a) * (c - pos i : Nat)) (16 * (pos (i + 1) - pos i)), ok a && ok b)
  | 1 =>
    let r := s.sig (s.fld F.ACH_CJ_CJ_SIGNAL g)
    (r.value, r.quality &&& qValid != 0 && r.quality &&& (qStale ||| qFault) == 0 && f64InQ r.value (-40) 100 1)
  | _ => (BitVec.ofNat 64 (s.reg64 R.ACH_CJ_FIXED g), true)

/-- Resistance after lead correction (R210). -/
def State.aOhms (s : State) (g : Nat) (m : ASample) : W64 :=
  match s.fld F.ACH_CFG_WIRES g with
  | 3 => (f64Sub m.x m.lead).val
  | 2 => (f64Sub m.x (BitVec.ofNat 64 (s.reg64 R.ACH_LEAD g))).val
  | _ => m.x

/-- R ÷ R(0 °C) of the Callendar–Van Dusen equation of IEC 60751 at t = k × 2^−40 °C, times 10^15 × 2^160. (PRESUMED, log entry
150.) -/
def cvd (k : Int) : Int :=
  10 ^ 15 * 2 ^ 160 + 3908300000000 * k * 2 ^ 120 - 577500000 * k ^ 2 * 2 ^ 80 -
    (if k < 0 then 4183 * (k - 100 * 2 ^ 40) * k ^ 3 else 0)

/-- The largest t = k × 2^−40 °C, within n bits above the one given, whose resistance does not exceed ohm × 2^−1074 Ω. -/
def rtdFind (r0 ohm : Int) : Nat → Int → Int
  | 0, k => k
  | n + 1, k => rtdFind r0 ohm n (if cvd (k + 2 ^ n) * r0 * 2 ^ 1074 ≤ ohm * 10 ^ 15 * 2 ^ 160 then k + 2 ^ n else k)

/-- Nominal resistance of an RTD at 0 °C in Ω (Table 8.1). -/
def rtdNominal (r : Nat) : Int := match r with | 0 => 100 | 1 => 500 | _ => 1000

/-- Temperature of an RTD in °C at a resistance in Ω (R210), sought from −300 °C to 1,748 °C. (PRESUMED, log entry 150.) -/
def rtdTemp (r : Nat) (ohm : W64) : W64 := f64Q (rtdFind (rtdNominal r) (f64Sc ohm) 51 (-300 * 2 ^ 40)) (2 ^ 40)

/-- Measured value of item 0 before scaling, item 1 where a sample brings it, and the conditions found: RANGE_ZONE and the set of
DIAG_MS bits (Tables 8.4 and 8.5). -/
structure AFound where
  x : W64
  item1 : Option W64
  zone : Bool
  bits : Nat
  cj : Bool
  deriving DecidableEq, Repr

/-- Nominal span and 105 % limit of VOLT_IN in V (Table 8.1), as numerator over 100. -/
def voltSpan (r : Nat) : Int := match r with | 0 => 1000 | 1 => 100 | _ => 10

def State.aFind (s : State) (g : Nat) (m : ASample) : AFound :=
  let r := s.aRange g
  match s.aMode g with
  | 1 =>
    let x := m.x
    if r = 0 then
      let low := f64LtQ x 36 10
      let high := f64GtQ x 21 1
      let zone := (!low && f64LtQ x 38 10) || (f64GtQ x 205 10 && !high)
      ⟨x, none, zone, b2n low * 4 + b2n high * 8, false⟩
    else
      let ovr := f64LtQ x (-2) 10 || f64GtQ x 21 1
      ⟨x, none, f64GtQ x 20 1 && !f64GtQ x 21 1, b2n ovr * 16, false⟩
  | 2 =>
    let sp := voltSpan r
    let a := f64Abs m.x
    let ovr := !f64LtQ a (sp * 105) 10000 || m.common
    ⟨m.x, none, f64GtQ a sp 100 && f64LtQ a (sp * 105) 10000, b2n ovr * 16, false⟩
  | 3 =>
    let (cj, ok) := s.coldJunction g
    let t := Config.tcTemp r m.x cj
    let (lo, hi) := tcRange r
    ⟨t, some cj, !f64InQ t lo hi 1, b2n (f64GtQ (f64Abs m.x) 1 10), !ok⟩
  | 4 =>
    let ohm := s.aOhms g m
    let t := rtdTemp r ohm
    let r0 := rtdNominal r
    let zone := f64InQ t (-210) 870 1 && !f64InQ t (-200) 850 1
    ⟨t, some ohm, zone, b2n (f64GtQ t 870 1 || m.compliance) + 2 * b2n (f64LtQ ohm r0 10), false⟩
  | 5 =>
    let ohm := s.aOhms g m
    let sp : Int := if r = 0 then 500 else 5000
    let opened := !f64LtQ ohm (sp * 105) 100
    ⟨ohm, none, !f64InQ ohm 0 sp 1 && !opened, b2n opened, false⟩
  | _ =>
    let ratio := (f64Div m.x m.exc).val
    let nom : Int := if r = 0 then 20 else 40
    let zone := !f64InQ ratio (-nom) nom 1 && f64InQ ratio (-nom * 105) (nom * 105) 100
    let opened := f64LtQ m.exc (if r = 0 then 25 else 125) (if r = 0 then 10 else 100)
    let ovr := !f64LtQ (f64Abs m.x) 105 1
    ⟨ratio, some m.exc, zone, b2n opened + b2n ovr * 16, false⟩

/-- One sample's step of a DIAG_MS condition (R204): its persistence and whether it is now set. -/
def Persist.step (p : Persist) (tick ms : Nat) (now : Bool) (set : Bool) : Persist × Bool :=
  if now then
    let since := p.since.getD tick
    (⟨some since, 0, 0⟩, set || decide (1000 * ms ≤ tick - since))
  else
    let at_ := if p.absent = 0 then tick else p.absentAt
    let n := p.absent + 1
    let clear := decide (3 ≤ n ∧ 1000 * ms ≤ tick - at_)
    (⟨none, n, at_⟩, set && !clear)

/-- Apply DIAG_MS to the bits it governs: LOW_FAIL, HIGH_FAIL, OVER, OPEN, SHORT. -/
def State.aPersist (s : State) (g found : Nat) : State × Nat :=
  let ms := s.fld F.ACH_DIAG_DIAG_MS g
  [0, 1, 2, 3, 4].foldl (fun (s, st) b =>
    let ch := s.achan g
    let (p, on_) := (nget .init ch.persist b).step s.tick ms (bit found b) (bit st b)
    (s.setAch g { ch with persist := nset .init ch.persist b p }, putBits st b b (b2n on_))) (s, s.reg R.ACH_STATUS g)

/-- First-order post-filter, FILT of R130 with dt = P (R199). -/
def filtStep (y x : W64) (tcUs pUs : Nat) : W64 :=
  let dt := f64Q pUs 1000000
  (f64Add y (f64Div (f64Mul (f64Sub x y).val dt).val (f64Add (f64Q tcUs 1000000) dt).val).val).val

/-- Item 0 of an input from its measured value: the selected scale set (R202), then the post-filter (R199). -/
def State.aScale (s : State) (g : Nat) (x : W64) : W64 :=
  let (gain, off) := if s.flag F.ACH_CFG_SCALE_SEL g then (s.reg64 R.ACH_GAIN_1 g, s.reg64 R.ACH_OFFSET_1 g)
    else (s.reg64 R.ACH_GAIN_0 g, s.reg64 R.ACH_OFFSET_0 g)
  (f64Add (f64Mul x (BitVec.ofNat 64 gain)).val (BitVec.ofNat 64 off)).val

/-- Excitation or burnout current is needed for the sample (R222). -/
def State.aExcited (s : State) (g : Nat) : Bool :=
  let m := s.aMode g
  m == aRtd || m == aRes || m == aBridge || (m == aTc && s.flag F.ACH_CFG_BURNOUT g)

/-- The excitation or burnout current of channel g is on: in the active module only, which changes at the start of a handover
window (R222). -/
def State.aExcites (s : State) (g : Nat) : Bool := s.aExcited g && s.inControl && s.pairState != psOutgoing

/-- The channel is set to its mode and three new periods have passed since a RATE write or reconfiguration. -/
def State.aSettled (s : State) (g : Nat) : Bool := !(s.achan g).setting && decide ((s.achan g).holdUntil ≤ s.tick)

/-- A sample of channel g may be delivered at this tick: an input whose link is in RUN, the end of a conversion period (R197),
both channels of a bridge settled, excited by this module where the measurement needs it, and clear of the first 100 µs of a
handover window (R222). -/
def State.aDue (s : State) (g : Nat) : Bool :=
  let m := s.aMode g
  let p := aPeriod (s.fld F.ACH_RATE_RATE g)
  let clear := match s.pair.window with
    | some h => decide (s.tick < h ∨ h + 100 ≤ s.tick - 3 * p)
    | none => true
  aIsIn m && !(m == aBridge && g % 2 == 1) && s.slState (g / 32) == slRun && s.tick % p == 0 && s.aSettled g &&
    (m != aBridge || s.aSettled (g + 1)) && (m == aTc || !s.aExcited g || s.aExcites g) && (!s.aExcited g || clear)

/-! ### Contacts (R195, Table 8.2) -/

/-- What a contact of a channel is used for. -/
inductive Contact where
  | highZ
  | loopIn
  | loopOut
  | loopSupply
  | loopReturn
  | inputPos
  | inputNeg
  | common
  | exciteOut
  | exciteReturn
  | driveOut
  | driveReturn
  deriving DecidableEq, Repr

/-- The four contacts CH_P, CH_SP, CH_SN, CH_N. -/
structure Contacts where
  p : Contact
  sp : Contact
  sn : Contact
  n : Contact
  deriving DecidableEq, Repr

/-- The use of the contacts of channel g: those its mode does not use, an excitation that is off and an undriven voltage output
stand at high impedance (R195, R220, R222). (DEDUCED, log entry 139.) -/
def State.aContacts (s : State) (g : Nat) : Contacts :=
  let on_ := s.sliceOn (g / 32)
  let exc (c : Contact) : Contact := if s.aExcites g then c else .highZ
  match s.aMode g with
  | 1 => if !on_ then ⟨.highZ, .highZ, .highZ, .highZ⟩
    else if s.flag F.ACH_CFG_LOOP_PWR g then ⟨.loopSupply, .loopReturn, .highZ, .common⟩
    else ⟨.highZ, .loopIn, .highZ, .loopOut⟩
  | 2 | 3 => if on_ then ⟨.highZ, .inputPos, .inputNeg, .common⟩ else ⟨.highZ, .highZ, .highZ, .highZ⟩
  | 4 | 5 => if !on_ then ⟨.highZ, .highZ, .highZ, .highZ⟩
    else match s.fld F.ACH_CFG_WIRES g with
      | 2 => ⟨exc .exciteOut, .highZ, .highZ, exc .exciteReturn⟩
      | 3 => ⟨exc .exciteOut, .inputPos, .highZ, exc .exciteReturn⟩
      | _ => ⟨exc .exciteOut, .inputPos, .inputNeg, exc .exciteReturn⟩
  | 6 => if on_ then ⟨.driveOut, .highZ, .highZ, .driveReturn⟩ else ⟨.highZ, .highZ, .highZ, .highZ⟩
  | 7 => if on_ && (s.achan g).stage.driven then ⟨.driveOut, .inputPos, .inputNeg, .driveReturn⟩
    else ⟨.highZ, .highZ, .highZ, .highZ⟩
  | 8 => if !on_ then ⟨.highZ, .highZ, .highZ, .highZ⟩
    else if g % 2 = 0 then ⟨exc .exciteOut, .inputPos, .inputNeg, exc .exciteReturn⟩
    else ⟨.highZ, .inputPos, .inputNeg, .common⟩
  | _ => ⟨.highZ, .highZ, .highZ, .highZ⟩

/-- The odd channel of a bridge pair at a sample: its raw code, the end of its LINK and RECONFIG, and its items, which carry a
FAULT condition of either channel (Table 8.4). -/
def State.aOddSample (s : State) (g st : Nat) (m : ASample) (stamp : W64) : State :=
  let o := g + 1
  let old := s.reg R.ACH_STATUS o
  let s := s.setReg R.ACH_RAW (ofSint 32 (sint 24 m.rawOdd.toNat)) o
  let ch := s.achan o
  let s := s.setAch o { ch with sum := ch.sum + f64Sc m.x, n := ch.n + 1 }
  let new := putBits (putBits old abLink abLink 0) abReconfig abReconfig 0
  let s := s.setAStatus o new
  let s := if bit old abReconfig then s.ev 0x0804 [.b16 o, .b8 aBridge, .b8 (s.aRange o)] else s
  let fault := ((st ||| new) &&& aFaultMask aBridge) != 0
  let q := condQ fault (bit st abRangeZone)
  let s := s.aDeliver o 0 m.x q stamp
  let s := if new = old then s.aItem o 2 (BitVec.ofNat 64 new) stamp else s
  s.aDeliver o 3 (m.rawOdd.signExtend 64) q stamp

/-- A sample of channel g (R198 to R204, R208 to R211). -/
def State.aSample (s : State) (g : Nat) (m : ASample) : State :=
  let sl := g / 32
  let s := match m.cj with
    | some (a, b, c, d) =>
      (((s.setFld F.AS_CJ_T a.toNat sl 0).setFld F.AS_CJ_T b.toNat sl 1).setFld F.AS_CJ_T c.toNat sl 2).setFld F.AS_CJ_T d.toNat sl 3
    | none => s
  if !s.aDue g then s
  else
    let f := s.aFind g m
    let mode := s.aMode g
    let reconf := bit (s.reg R.ACH_STATUS g) abReconfig
    let cjWas := bit (s.reg R.ACH_STATUS g) abCjFault
    let (s, st) := s.aPersist g f.bits
    let st := putBits (putBits st abRangeZone abRangeZone (b2n f.zone)) abCjFault abCjFault (b2n f.cj)
    let st := putBits (putBits st abLink abLink 0) abReconfig abReconfig 0
    let s := s.setReg R.ACH_RAW (ofSint 32 (sint 24 m.raw.toNat)) g
    let old := s.reg R.ACH_STATUS g
    let s := s.setAStatus g st
    let s := if f.cj && !cjWas then s.ev 0x0806 [.b16 g] else s
    let s := if reconf then s.ev 0x0804 [.b16 g, .b8 mode, .b8 (s.aRange g)] else s
    let p := aPeriod (s.fld F.ACH_RATE_RATE g)
    let tc := s.fld F.ACH_RATE_FILT_TC_US g
    let fault := (st &&& aFaultMask mode) != 0
    let ch := s.achan g
    let y := s.aScale g f.x
    let out := if tc = 0 ∨ fault then y else match ch.filt with | some z => filtStep z y tc p | none => y
    let ch := { ch with filt := if fault || tc == 0 then none else some out }
    let s := s.setAch g { ch with sum := ch.sum + f64Sc (if mode = aBridge then m.exc else m.x), n := ch.n + 1 }
    let stamp := s.stampNs ((1000 * s.tick : Nat) - (1500 * p : Nat) - 2000)
    let s := s.aItem g 0 out stamp
    let s := match f.item1 with | some v => s.aItem g 1 v stamp | none => s
    let s := if st = old then s.aItem g 2 (BitVec.ofNat 64 st) stamp else s
    let s := s.aItem g 3 (m.raw.signExtend 64) stamp
    if mode = aBridge then s.aOddSample g st m stamp else s

/-! ### Outputs -/

/-- Driven limits of an output (Table 8.1, R213). -/
def aLimits (m r : Nat) : W64 × W64 :=
  match m, r with
  | 6, 0 => (f64Q 38 10, f64Q 205 10)
  | 6, 1 => (0, f64Q 205 10)
  | 6, _ => (0, f64Q 24 1)
  | _, 0 => (f64Q (-105) 10, f64Q 105 10)
  | _, _ => (0, f64Q 105 10)

/-- A value converted by a scale set and limited to the driven limits of a mode and range (R202, R213), and whether the limit
acts. -/
def aConvBy (m r : Nat) (gain off v : W64) : W64 × Bool :=
  f64Clamp (f64Div (f64Sub v off).val gain).val (aLimits m r).1 (aLimits m r).2

/-- A consumed value as a setpoint, by the scale set selected. -/
def State.aConv (s : State) (g : Nat) (v : W64) : W64 × Bool :=
  let (gain, off) := if s.flag F.ACH_CFG_SCALE_SEL g then (s.reg64 R.ACH_GAIN_1 g, s.reg64 R.ACH_OFFSET_1 g)
    else (s.reg64 R.ACH_GAIN_0 g, s.reg64 R.ACH_OFFSET_0 g)
  aConvBy (s.aMode g) (s.aRange g) (BitVec.ofNat 64 gain) (BitVec.ofNat 64 off) v

/-- A consumed record is invalid for an analogue output (R214). -/
def Sig.aInvalid (r : Sig) : Bool :=
  r.quality &&& qValid == 0 || r.quality &&& (qStale ||| qFault) != 0 || !f64Finite r.value

/-- The setpoint of an output with CLAMP, FAILDRIVE and SAFEDRIVE (R212 to R214, Table 8.7). -/
structure ASetpoint where
  v : W64
  clamp : Bool
  fail : Bool
  safe : Bool
  deriving DecidableEq, Repr

def State.aSafePoint (s : State) (g : Nat) : ASetpoint :=
  let (v, c) := s.aConv g (s.sig (s.fld F.ACH_OUT_SIG_SIGNAL g)).safe
  ⟨v, c, false, true⟩

/-- Word w of channel c in the copy that the controller of slice sl holds (R272). -/
def State.sliceWord (s : State) (sl c w : Nat) : W64 := nget 0 (s.link sl).copy (128 * c + w)

/-- The SAFE word as the slice controller drives it: its own copy, its own settings and its own scale set (R220). -/
def State.aOwnSafe (s : State) (g : Nat) : ASetpoint :=
  let w := s.sliceWord (g / 32) (g % 32)
  let cfg := (w 0).toNat
  let (v, c) := aConvBy (bits cfg 31 28) (bits cfg 27 25) (w (if bit cfg 15 then 0x10 else 0x0C)) (w (if bit cfg 15 then 0x12 else 0x0E))
    (w 0x7E)
  ⟨v, c, false, true⟩

def State.aSetpoint (s : State) (g : Nat) : ASetpoint :=
  let r := s.sig (s.fld F.ACH_OUT_SIG_SIGNAL g)
  if r.aInvalid then
    match s.fld F.ACH_CFG_OUT_INVALID g with
    | 1 => s.aSafePoint g
    | 2 => ⟨if s.flag F.ACH_CFG_FAIL_HIGH g then f64Q 225 10 else f64Q 32 10, false, true, false⟩
    | _ => ⟨(s.achan g).setp, bit (s.reg R.ACH_STATUS g) abClamp, false, false⟩
  else
    let (v, c) := s.aConv g r.value
    ⟨v, c, false, false⟩

/-- The 15-bit code of a setpoint (Table 11.3): 0.75 µA, or 0.75 mV about 0x4000, per step. -/
def aCode (m : Nat) (v : W64) : Nat :=
  if m = aCurOut then (f64ScaleRound v 4000 3).toNat % 2 ^ 15
  else (0x4000 + f64ScaleRound v 4000 3).toNat % 2 ^ 15

/-- The output stage is held off by the channel itself: overload, thermal shutdown, reconfiguration. -/
def State.aHeldOff (s : State) (g : Nat) : Bool :=
  (s.achan g).cut || (s.achan g).setting || bit (s.reg R.ACH_STATUS g) abThermal

/-- What overrides an output's command: as for its slice (R220); the outgoing module's voltage outputs end drive at the start of a
handover window (R221). -/
def State.aOverride (s : State) (g : Nat) : Override :=
  if s.pairState = psOutgoing ∧ s.aMode g = aVoltOut then .ended else s.override (g / 32)

/-- The share of a current output that this module drives from F on (Table 15.11): S before H, then the outgoing module's falling
and the incoming module's rising ramp, which stand at their ends while the value is held. -/
def State.aShare (s : State) (g : Nat) : Option W64 :=
  match nget none s.pair.hold g with
  | none => none
  | some v =>
    match s.pair.window with
    | some h =>
      if h ≤ s.tick then
        let k := min (s.tick - h) 500
        some (f64Mul (f64Q (if s.pairState = psOutgoing then 500 - k else k) 500) v).val
      else some v
    | none => some v

/-- CH_STATUS with the CLAMP, FAILDRIVE and SAFEDRIVE of a setpoint. -/
def aShow (st : Nat) (p : ASetpoint) : Nat :=
  putBits (putBits (putBits st abClamp abClamp (b2n p.clamp)) abFailDrive abFailDrive (b2n p.fail)) abSafeDrive abSafeDrive (b2n p.safe)

/-- The stage as what overrides its command leaves it (R220); a driven command stays. -/
def State.aStageOf (s : State) (g : Nat) : Stage :=
  match s.aOverride g with
  | .ended => .init
  | .safe => if s.aHeldOff g then .init else ⟨true, aCode (bits (s.sliceWord (g / 32) (g % 32) 0).toNat 31 28) (s.aOwnSafe g).v⟩
  | .none => if s.aHeldOff g then .init else (s.achan g).stage

/-- Bring the output stage of channel g, and the status bits that say what it drives, into line with what overrides its command.
-/
def State.aStage (s : State) (g : Nat) : State :=
  if !aIsOut (s.aMode g) then s
  else
    let st := s.reg R.ACH_STATUS g
    let s := match s.aOverride g with
      | .ended => s.setAStatus g (aShow st ⟨0, false, false, false⟩)
      | .safe => s.setAStatus g (aShow st (s.aOwnSafe g))
      | .none => s
    s.setAch g { s.achan g with stage := s.aStageOf g }

/-- The setpoint now in force at the terminals, for the readback's expectation: 0 while drive is ended. -/
def State.aHand (s : State) (g : Nat) : State :=
  if !aIsOut (s.aMode g) then s
  else
    let ov := s.aOverride g
    let sp : ASetpoint := match ov with
      | .ended => ⟨(s.achan g).setp, false, false, false⟩
      | .safe => s.aOwnSafe g
      | .none =>
        if s.safetyHold g (s.fld F.ACH_OWNER_ACCOUNT g) then s.aSafePoint g
        else match s.aShare g with
          | some v => ⟨v, false, false, false⟩
          | none => s.aSetpoint g
    let s := s.setAStatus g (aShow (s.reg R.ACH_STATUS g) sp)
    let ch := s.achan g
    let inForce : W64 := if ov = .ended ∨ s.aHeldOff g then 0 else sp.v
    let last : W64 := match ch.steps with | (_, v) :: _ => v | [] => 0
    let ch' := { ch with setp := sp.v,
                         steps := if inForce = last ∧ ch.steps ≠ [] then ch.steps else (s.tick, inForce) :: ch.steps }
    let s := s.setAch g ch'
    let s := if sp.v ≠ ch.setp then s.aItem g 1 sp.v s.stamp else s
    s.aStage g

/-! ### Readback (R218, Table 8.9) -/

/-- Sum of setpoint × µs over a window that ends at tick t, and Σ|ΔS| within it, in units of 2^−1074: the setpoints newest first.
(DEDUCED, log entry 76.) -/
def stepSum (start t : Nat) : List (Nat × W64) → Int × Nat
  | [] => (0, 0)
  | (k, v) :: rest =>
    let b := max k start
    let dur : Int := (t - b : Nat)
    match rest with
    | [] => (f64Sc v * dur, 0)
    | (_, u) :: _ =>
      if k ≤ start then (f64Sc v * dur, 0)
      else
        let (sm, d) := stepSum start k rest
        (sm + f64Sc v * dur, d + (f64Sc v - f64Sc u).natAbs)

/-- What the readback of an input, in mA or V, is compared with (R218): how many units of the main converter's samples it counts,
and the allowed difference in units of 20 nA or 20 nV: 0.16 mA, or 0.2 % of the span in V that Table 8.1 and the excitation give.
(DESIGN CHOICE, log entry 140.) -/
def rbInput (m r : Nat) (odd : Bool) : Nat × Nat :=
  if m = aCurIn then (1, 8000000)
  else if m = aVoltIn then (1, (voltSpan r).natAbs * 1000)
  else if m = aTc then (1, 10000)
  else if m = aRtd then (if r = 0 then (1000, 37196) else if r = 1 then (5000, 37196) else (5000, 74392))
  else if m = aRes then (if r = 0 then (1000, 50000) else (5000, 100000))
  else if odd then (1000, 10000)
  else (1, if r = 0 then 500000 else 250000)

/-- The condition of Table 8.9 that the sample meets, the uppermost one. -/
def State.rbFound (s : State) (g : Nat) (m : ARead) (w : Nat) : Option Nat :=
  let ch := s.achan g
  let mode := s.aMode g
  let one : Int := 2 ^ 1074
  if aIsOut mode then
    let (sm, d) := stepSum (s.tick - w) s.tick ch.steps
    let diff := f64Sc m.value * w - sm
    if mode = aCurOut then
      let thr : Int := 4 * w * one + 625 * d
      if f64LtQ m.value 1 10 ∧ w * one ≤ 2 * sm then some abOpen
      else if thr < 25 * diff then some abExtsrc
      else if thr < -25 * diff then some (if m.limit then abLoadHigh else abRbDiff)
      else if f64LtQ m.aux 1 10 ∧ !f64LtQ m.value 36 10 then some abShort
      else none
    else
      let thr : Int := w * one + 500 * d
      if (thr < 20 * diff ∨ thr < -20 * diff) ∧ !m.limit then some abRbDiff
      else if m.senseOpen then some abOpen
      else none
  else
    let (k, thr) := rbInput mode (s.aRange g) (g % 2 == 1)
    let diff := f64Sc m.value * (ch.n * k : Nat) - ch.sum
    if (thr * ch.n * k : Nat) * one < 50000000 * diff.natAbs then some abRbDiff else none

/-- The window gives no comparison: no sample of the main converter ended in it, or a voltage output drives nothing. (DESIGN
CHOICE, log entry 140.) -/
def State.rbIdle (s : State) (g : Nat) : Bool :=
  if aIsOut (s.aMode g) then s.aMode g == aVoltOut && s.aOverride g == .ended else (s.achan g).n == 0

/-- The readback conditions of a mode. -/
def rbBits (mode : Nat) : List Nat :=
  if mode = aCurOut then [abOpen, abExtsrc, abLoadHigh, abRbDiff, abShort]
  else if mode = aVoltOut then [abRbDiff, abOpen]
  else [abRbDiff]

/-- Three consecutive samples set a condition and three clear it. -/
def State.rbCount (s : State) (g : Nat) (found : Option Nat) : State × Nat :=
  (rbBits (s.aMode g)).foldl (fun (s, st) b =>
    let ch := s.achan g
    let c := nget 0 ch.rb b
    let c' : Int := if found = some b then max c 0 + 1 else min c 0 - 1
    let st := if 3 ≤ c' then putBits st b b 1 else if c' ≤ -3 then putBits st b b 0 else st
    (s.setAch g { ch with rb := nset 0 ch.rb b c' }, st)) (s, s.reg R.ACH_STATUS g)

/-- Readback window in µs (chapter 8, "Readback"). -/
def State.rbWindow (s : State) (g : Nat) : Nat := if s.flag F.HART_CFG_EN g then 5000 else 1000

/-- The end of a readback window (R218): what is compared is the module's own share of the drive (R221). -/
def State.aReadback (s : State) (g : Nat) (m : ARead) : State :=
  let w := s.rbWindow g
  let mode := s.aMode g
  if mode = aOff ∨ s.tick % w ≠ 0 ∨ s.slState (g / 32) ≠ slRun ∨ (s.achan g).setting then s
  else
    let cur := mode = aCurOut ∨ mode = aCurIn
    let s := s.setReg R.ACH_RB (ofSintSat 32 (f64ScaleRound m.value (if cur then 1000 else 1000000) 1)) g
    let idle := s.rbIdle g
    let found := if idle then none else s.rbFound g m w
    let s := if found.isSome then s.bump F.ACH_COUNTS_RB_MISMATCH g else s
    let ext := bit (s.reg R.ACH_STATUS g) abExtsrc
    let old := s.reg R.ACH_STATUS g
    let (s, st) := if idle then (s, old) else s.rbCount g found
    let st := if aIsOut mode ∨ mode = aCurIn then putBits st abLink abLink 0 else st
    let s := s.setAStatus g st
    let s := if bit st abExtsrc && !ext then s.ev 0x0803 [.b16 g] else s
    let ch := s.achan g
    let s := s.setAch g { ch with sum := 0, n := 0, steps := match ch.steps with | x :: _ => [x] | [] => [] }
    if aIsOut mode then
      let s := s.aItem g 0 m.value s.stamp
      let s := if st = old then s.aItem g 2 (BitVec.ofNat 64 st) s.stamp else s
      s.aItem g 3 m.aux s.stamp
    else if mode = aCurIn then s.aItem g 1 m.value s.stamp
    else s

/-! ### Reconfiguration and register writes -/

/-- A CH_CFG value reconfigures the channel (R223). -/
def aReconfigures (old new : Nat) : Bool := bits old 31 21 != bits new 31 21

/-- CH_STATUS after a reconfiguring write: RECONFIG, the conditions that the circuit keeps (LINK, the thermal shutdown of an
output stage, an overload of the mode that stays) and FS_LOW as the new mode draws on FS. -/
def State.aReconfStatus (s : State) (g new : Nat) : Nat :=
  let m := bits new 31 28
  let draws := aIsOut m || (m == aCurIn && bit new 21)
  2 ^ abReconfig + 2 ^ abFsLow * b2n (draws && s.fsBad (g / 32)) +
    (s.reg R.ACH_STATUS g &&& (2 ^ abLink + 2 ^ abThermal * b2n (aIsOut m) + 2 ^ abOverload * b2n ((s.achan g).cut && m == s.aMode g)))

/-- A CH_CFG write takes effect (R223, Table 8.10). -/
def State.aCfgApply (s : State) (g new : Nat) : State :=
  if !aReconfigures (s.reg R.ACH_CFG g) new then s.setReg R.ACH_CFG new g
  else
    let cut := (s.achan g).cut && bits new 31 28 == s.aMode g
    let s := (s.setAStatus g (s.aReconfStatus g new)).setReg R.ACH_CFG new g
    let ch := s.achan g
    let s := s.setAch g { ch with setting := true, filt := none, persist := [], rb := [], sum := 0, n := 0, cut := cut }
    let h := s.hartOf g
    let s := s.setHart g { h with rebase1200 := true, rebase2200 := true }
    let s := s.aRequal g
    s.aStage g

/-- Step 2 of Table 8.10: the front end has been set. (DEDUCED, log entry 77.) -/
def State.aReconfigDone (s : State) (g : Nat) : State :=
  let ch := s.achan g
  if !ch.setting then s
  else
    let p := aPeriod (s.fld F.ACH_RATE_RATE g)
    let s := s.setAch g { ch with setting := false, holdUntil := s.tick + 3 * p + 2 }
    if aIsOut (s.aMode g) then
      ((s.aCond g abReconfig false).ev 0x0804 [.b16 g, .b8 (s.aMode g), .b8 (s.aRange g)])
    else s

/-- A RATE write restarts the filter (chapter 8, "Conversion"). -/
def State.aRateApply (s : State) (g new : Nat) : State :=
  let s' := s.setReg R.ACH_RATE new g
  if bits new 31 29 = s.fld F.ACH_RATE_RATE g then s'
  else s'.setAch g { s'.achan g with holdUntil := s.tick + 3 * aPeriod (bits new 31 29) }

/-- FS_LOW of every channel of slice sl that draws on FS follows the state of FS (R34). -/
def State.aFsChange (s : State) (sl : Nat) : State :=
  foldState (fun s c =>
    let g := 32 * sl + c
    s.aCond g abFsLow (s.aDrawsFs g && s.fsBad sl)) (List.range 32) s

/-- The slice's link has left RUN: every item carries LINK until its first delivery in RUN (R278). -/
def State.aLinkLost (s : State) (sl : Nat) : State :=
  foldState (fun s c =>
    let g := 32 * sl + c
    if s.aMode g = aOff then s
    else
      let s := s.setAch g { s.achan g with wait := [0, 1, 2, 3] }
      (s.aCond g abLink true).aStage g) (List.range 32) s

/-- Field content of a CH_CFG value that an image may set (R194, R195, R209, R214; DEDUCED, log entry 34). -/
def aCfgFields (v : Nat) : Bool :=
  let m := bits v 31 28
  let r := bits v 27 25
  let wires := bits v 24 22
  aModeOk m r &&
    (if m == aRtd || m == aRes then decide (2 ≤ wires ∧ wires ≤ 4) else wires == 0) &&
    (m == aCurIn || !bit v 21) && (m == aTc || !bit v 16) &&
    (match bits v 18 17 with | 2 => m == aCurOut && r == 0 | 3 => false | _ => true)

/-- Status of a run-time CH_CFG write (R194, R207, R214, R223, R228, R332). -/
def State.aCfgCheck (s : State) (g v : Nat) : Nat :=
  let old := s.reg R.ACH_CFG g
  let m := bits v 31 28
  let m0 := s.aMode g
  let wires := bits v 24 22
  if !aModeOk m (bits v 27 25) ∨ bits v 18 17 = 3 then 9
  else if bits v 18 17 = 0 ∧ aIsOut m ∧ s.fld F.ACH_OWNER_ACCOUNT g = 7 then 9
  else if bits v 18 17 = 2 ∧ !(m = aCurOut ∧ bits v 27 25 = 0) then 9
  else if aReconfigures old v then
    if aIsOut m ≠ aIsOut m0 ∨ (m ≠ m0 ∧ (m = aOff ∨ m0 = aOff ∨ m = aBridge ∨ m0 = aBridge)) then 8
    else if !aCfgFields v then 8
    else if s.flag F.HART_CFG_EN g ∧ m ≠ aCurIn ∧ m ≠ aCurOut then 8
    else if bit v 21 ∧ s.pairState ≠ psSingle then 9
    else 0
  else if (if m = aRtd ∨ m = aRes then wires < 2 ∨ 4 < wires else wires ≠ 0) ∨ (m ≠ aTc ∧ bit v 16) then 9
  else 0

def execAnalogueSample (g : Fin 192) (m : ASample) (s : State) : Host.Outcome State Fault Refusal :=
  if f64Finite m.x && f64Finite m.lead && f64Finite m.exc then .next (s.aSample g.val m)
  else .fault (.illFormed "ANALOGUE_SAMPLE")

def execReadbackSample (g : Fin 192) (m : ARead) (s : State) : Host.Outcome State Fault Refusal :=
  if f64Finite m.value && f64Finite m.aux then .next (s.aReadback g.val m)
  else .fault (.illFormed "READBACK_SAMPLE")

/-- The sense path opens (R206). -/
def State.aCurOverload (s : State) (g : Nat) : State :=
  if s.aMode g ≠ aCurIn ∨ (s.achan g).cut then s
  else
    let s := s.setAch g { s.achan g with cut := true }
    (s.aCond g abOverload true).ev 0x0805 [.b16 g, .b8 aCurIn]

/-- 100 ms later the sense path is closed again, and opened again while the current still exceeds 30 mA (R206). (DEDUCED, log
entry 83.) -/
def State.aCurRetry (s : State) (g : Nat) (ovr : Bool) : State :=
  if s.aMode g ≠ aCurIn ∨ !(s.achan g).cut ∨ ovr then s
  else (s.setAch g { s.achan g with cut := false }).aCond g abOverload false

/-- The limit of a voltage output has acted for 10 ms (R216). -/
def State.aVoltOverload (s : State) (g : Nat) : State :=
  if s.aMode g ≠ aVoltOut ∨ (s.achan g).cut then s
  else
    let s := s.setAch g { s.achan g with cut := true }
    ((s.aCond g abOverload true).ev 0x0805 [.b16 g, .b8 aVoltOut]).aStage g

/-- The retry of an overloaded voltage output (R216): it drives again. (DEDUCED, log entry 84.) -/
def State.aVoltRetry (s : State) (g : Nat) : State :=
  if s.aMode g ≠ aVoltOut ∨ !(s.achan g).cut then s
  else
    let s := (s.setAch g { s.achan g with cut := false }).aCond g abOverload false
    if s.override (g / 32) = .none ∧ !s.aHeldOff g then
      s.setAch g { s.achan g with stage := ⟨true, aCode aVoltOut (s.achan g).setp⟩ }
    else s.aStage g

def execCurInOverload (g : Fin 192) (s : State) : Host.Outcome State Fault Refusal := .next (s.aCurOverload g.val)
def execCurInProtectRetry (g : Fin 192) (ovr : Bool) (s : State) : Host.Outcome State Fault Refusal :=
  .next (s.aCurRetry g.val ovr)
def execVoltOutOverload (g : Fin 192) (s : State) : Host.Outcome State Fault Refusal := .next (s.aVoltOverload g.val)
def execVoltOutRetry (g : Fin 192) (s : State) : Host.Outcome State Fault Refusal := .next (s.aVoltRetry g.val)
def execAnalogueReconfigDone (g : Fin 192) (s : State) : Host.Outcome State Fault Refusal :=
  .next (s.aReconfigDone g.val)

/-- Thermal shutdown of an output stage: THERMAL set, the stage off until its retry (R226). -/
def State.aThermal (s : State) (g : Nat) : State :=
  if aIsOut (s.aMode g) then (s.aBit g abThermal true).aStage g else s

/-- The retry after thermal shutdown: the stage drives again (R226). -/
def State.aThermalRetry (s : State) (g : Nat) : State :=
  if !aIsOut (s.aMode g) ∨ !bit (s.reg R.ACH_STATUS g) abThermal then s
  else
    let s := s.aBit g abThermal false
    if s.override (g / 32) = .none ∧ !s.aHeldOff g then
      s.setAch g { s.achan g with stage := ⟨true, aCode (s.aMode g) (s.achan g).setp⟩ }
    else s.aStage g

def execOutputStageThermalShutdown (g : Fin 192) (s : State) : Host.Outcome State Fault Refusal :=
  .next (s.aThermal g.val)
def execOutputStageThermalRetry (g : Fin 192) (s : State) : Host.Outcome State Fault Refusal :=
  .next (s.aThermalRetry g.val)

end Sys2Proof.Machine
end

