-- ==== Sys2Proof/Machine/HartLine.lean ====
section
/-! DEFINITION. The HART line (R229, R231): the characters of the FSK modem, the carrier it responds to, the frames of the HART 7
data link, and what the replies to the module's own commands say. -/

namespace Sys2Proof.Machine

/-! ### Characters (R229) -/

/-- The cells of one character, mark true: start bit 0, eight data bits from bit 0, odd parity, stop bit 1. -/
def hartChar (b : Byte) : List Bool :=
  let data := (List.range 8).map fun i => b.getLsbD i
  (false :: data) ++ [(data.filter id).length % 2 == 0, true]

/-- The byte of a received character; none where a start, parity or stop bit is wrong. -/
def hartCharIn (c : List Bool) : Option Byte :=
  let b := BitVec.ofNat 8 (((c.drop 1).take 8).foldr (fun x n => b2n x + 2 * n) 0)
  if c = hartChar b then some b else none

/-- The cells of a frame as the modem transmits them. -/
def hartLine (bytes : List Byte) : List Bool := bytes.flatMap hartChar

/-- The bytes of a received line; none where a character is wrong. -/
def hartBytes (line : List Bool) : Option (List Byte) :=
  (List.range (line.length / 11)).mapM fun i => hartCharIn ((line.drop (11 * i)).take 11)

/-- The modem responds to a carrier of this amplitude in mV peak-to-peak: from 120 mV on; below 80 mV never; between them the spec
leaves it open. (DESIGN CHOICE, log entry 135.) -/
def hartCarrier (mv : Nat) : Bool := decide (120 ≤ mv) || (decide (80 ≤ mv) && Config.hartResponds mv)

/-- Space cells of a frame: the cells of R240's measurement at 2,200 Hz. -/
def hartSpaces (bytes : List Byte) : Nat := ((hartLine bytes).filter fun b => !b).length

/-! ### Frames (R231; the layout is HART 7's) -/

/-- Longitudinal parity: the exclusive or of the bytes. -/
def hartCheck (bytes : List Byte) : Byte := bytes.foldl (· ^^^ ·) 0

/-- A frame from its delimiter to its check byte. (PRESUMED, log entry 136.) -/
def hartFrame (long : Bool) (addr : List Byte) (command : Byte) (data : List Byte) : List Byte :=
  let body := (if long then 0x82 else 0x02) :: addr ++ [command, BitVec.ofNat 8 data.length] ++ data
  body ++ [hartCheck body]

/-- A frame received: delimiter, address, command, data. -/
structure HartMsg where
  delim : Byte
  addr : List Byte
  command : Byte
  data : List Byte
  deriving DecidableEq, Repr

/-- Parse the bytes after the preamble: none where the length or the check byte is wrong. (PRESUMED, log entry 136.) -/
def hartParse (bytes : List Byte) : Option HartMsg :=
  match bytes.dropWhile (· == 0xFF) with
  | [] => none
  | d :: rest =>
    let n := if d.getLsbD 7 then 5 else 1
    match rest.drop n with
    | c :: k :: tail =>
      if tail.length = k.toNat + 1 ∧ hartCheck (d :: rest) = 0 then some ⟨d, rest.take n, c, tail.take k.toNat⟩ else none
    | _ => none

/-- Frame types in bits 2:0 of the delimiter: burst, master to device, device to master. -/
def HartMsg.burst (m : HartMsg) : Bool := m.delim &&& 7 == 1
def HartMsg.request (m : HartMsg) : Bool := m.delim &&& 7 == 2
def HartMsg.reply (m : HartMsg) : Bool := m.delim &&& 7 == 6

/-- The frame is of the primary master's transactions: bit 7 of the first address byte. -/
def HartMsg.primary (m : HartMsg) : Bool := (m.addr.headD 0).getLsbD 7

/-- The address without the bit that shows a device in burst mode. -/
def hartAddrKey (addr : List Byte) : List Byte :=
  match addr with
  | a :: rest => (a &&& 0xBF) :: rest
  | [] => []

/-! ### Replies (Table 9.1; the data layouts are HART 7's) -/

def HartMsg.respCode (m : HartMsg) : Byte := m.data.getD 0 0
def HartMsg.devStatus (m : HartMsg) : Byte := m.data.getD 1 0
/-- The data bytes after response code and device status. -/
def HartMsg.body (m : HartMsg) : List Byte := m.data.drop 2

/-- The response code shows success or a warning. (PRESUMED, log entry 136.) -/
def hartSuccess (rc : Byte) : Bool :=
  let n := rc.toNat
  n == 0 || n == 8 || n == 14 || decide (24 ≤ n ∧ n ≤ 27) || n == 30 || n == 31 || decide (96 ≤ n ∧ n ≤ 127)

/-- A number of several bytes, the first most significant. -/
def hartNat (bytes : List Byte) : Nat := bytes.foldl (fun n b => 256 * n + b.toNat) 0

/-- Variable i of a reply to command 3 or 9 in binary32, and whether its own status reads bad; none where the reply does not hold
it. (PRESUMED, log entry 136.) -/
def HartMsg.var (m : HartMsg) (i : Nat) : Option (BitVec 32 × Bool) :=
  let b := m.body
  if m.command = 3 then
    if 9 + 5 * i ≤ b.length then some (BitVec.ofNat 32 (hartNat ((b.drop (5 + 5 * i)).take 4)), false) else none
  else if 9 + 8 * i ≤ b.length then
    some (BitVec.ofNat 32 (hartNat ((b.drop (4 + 8 * i)).take 4)), (b.getD (8 + 8 * i) 0) &&& 0xC0 == 0)
  else none

/-- Loop current of a reply to command 3, in binary32. -/
def HartMsg.loopI (m : HartMsg) : BitVec 32 := BitVec.ofNat 32 (hartNat (m.body.take 4))

/-- Expanded device type and device identification of a reply to command 0; none in one that does not identify a device. -/
def HartMsg.ident (m : HartMsg) : Option (Nat × Nat) :=
  let b := m.body
  if hartSuccess m.respCode ∧ 12 ≤ b.length then some (hartNat ((b.drop 1).take 2), hartNat ((b.drop 9).take 3)) else none

/-- Polling and long addresses of the primary master. (PRESUMED, log entry 136.) -/
def hartShortAddr (poll : Nat) : List Byte := [BitVec.ofNat 8 (0x80 + poll % 64)]
def hartLongAddr (expType devId : Nat) : List Byte :=
  [BitVec.ofNat 8 (0x80 + expType / 256 % 64), BitVec.ofNat 8 expType, BitVec.ofNat 8 (devId / 65536),
   BitVec.ofNat 8 (devId / 256), BitVec.ofNat 8 devId]

end Sys2Proof.Machine
end

