-- ==== Sys2Proof/Machine/Hart.lean ====
section
/-! DEFINITION. HART and loop health (chapter 9): transactions and their order, replies, communication failure,
pass-through, loop impedance. -/

namespace Sys2Proof.Machine

/-- HART_STATUS.STATE codes (Table 9.6). -/
abbrev hsOff := 0
abbrev hsIdent := 1
abbrev hsPolling := 2
abbrev hsFail := 3
abbrev hsStandby := 4

def State.hState (s : State) (g : Nat) : Nat := s.fld F.HART_STATUS_STATE g

/-- Change HART_STATUS.STATE and the COMM_FAIL map (Table 9.5). -/
def State.setHState (s : State) (g st : Nat) : State :=
  (s.setFld F.HART_STATUS_STATE st g).setBit R.HART_COMMFAIL (g % 32) (st == hsFail) (g / 32)

/-- A binary32 as the binary64 of the same value (R234). -/
def f32to64 (v : BitVec 32) : W64 :=
  let neg := v.getLsbD 31
  let e : Nat := v.toNat / 2 ^ 23 % 2 ^ 8
  let f : Nat := v.toNat % 2 ^ 23
  if e = 255 then BitVec.ofNat 64 (b2n neg * 2 ^ 63 + 0x7FF * 2 ^ 52 + f * 2 ^ 29)
  else if e = 0 then (if f = 0 then f64Zero neg else (f64Round neg f (-149) false).val)
  else (f64Round neg (2 ^ 23 + f) ((e : Int) - 150) false).val

/-- The command number of a transaction, and its request data. -/
def State.hCommand (s : State) (g : Nat) (u : HartUse) : Nat × List Byte :=
  match u with
  | .ident => (0, [])
  | .poll =>
    if s.flag F.HART_CFG_POLL_CMD g then (9, (List.range 4).map fun n => BitVec.ofNat 8 (s.reg R.HART_VARS g / 256 ^ n))
    else (3, [])
  | .more => (48, [])
  | .pass => match (s.hartOf g).queue with | r :: _ => (r.command, r.data) | [] => (0, [])

/-- The request frame of a transaction (R231, R235): identification goes to the polling address, and so does every frame to a
device that is not identified; a number above 255 is sent through command 31, its two bytes before the data. -/
def State.hFrame (s : State) (g : Nat) (u : HartUse) : List Byte :=
  let (cmd, data) := s.hCommand g u
  let long := (s.hartOf g).known && u != .ident
  let addr := if long then hartLongAddr (s.fld F.HART_ID_EXP_TYPE g) (s.fld F.HART_DEVID_DEVICE_ID g)
    else hartShortAddr (s.fld F.HART_CFG_POLL_ADDR g)
  if cmd ≤ 255 then hartFrame long addr (BitVec.ofNat 8 cmd) data
  else hartFrame long addr 31 (BitVec.ofNat 8 (cmd / 256) :: BitVec.ofNat 8 cmd :: data)

/-- Start the next transaction of the channel (R238), while no other master's is in progress (R231): the module's own and the
pass-through requests in alternation; in COMM_FAIL and IDENTIFYING the module's own is identification. Its frame is transmitted.
-/
def State.hNext (s : State) (g : Nat) : State :=
  let h := s.hartOf g
  let st := s.hState g
  if h.cur.isSome ∨ h.busy ∨ st = hsOff ∨ st = hsStandby then s
  else
    let own : Option HartUse :=
      if h.identDue then some .ident
      else if st ≠ hsPolling then none
      else if h.moreDue then some .more
      else if h.pollDue then some .poll
      else none
    let pick : Option HartUse :=
      match own, h.queue with
      | some u, [] => some u
      | some u, _ :: _ => if h.lastPass then some u else some .pass
      | none, [] => none
      | none, _ :: _ => some .pass
    match pick with
    | none => s
    | some u =>
      s.setHart g { h with cur := some u, tries := 0, sent := s.hFrame g u, measure := true, lastPass := u == .pass,
                           identDue := h.identDue && u != .ident, pollDue := h.pollDue && u != .poll,
                           moreDue := h.moreDue && u != .more, moreSent := h.moreSent || u == .more }

/-! ### Pass-through replies (Table 9.3) -/

/-- Bytes packed eight to a word, first byte in bits 7:0 (R235). -/
def packBytes (l : List Byte) : List W64 :=
  (List.range ((l.length + 7) / 8)).map fun i =>
    BitVec.ofNat 64 (((l.drop (8 * i)).take 8).foldr (fun b n => b.toNat + 256 * n) 0)

/-- Write the reply item of a request of account a into its reservation of 33 words (R236). -/
def State.hReply (s : State) (a sl id cmd ch status : Nat) (data : List Byte) : State :=
  match s.findTill a true ekHart sl with
  | none => s
  | some t =>
    let head := BitVec.ofNat 64 (id * 2 ^ 48 + cmd * 2 ^ 32 + data.length * 2 ^ 24 + status * 2 ^ 16 + ch)
    s.tillComplete a t 33 (head :: packBytes data)

/-- An account reset has dropped the reservations of the account's requests (Table 4.4, step 4): they leave the channel with no
reply, and one in progress is abandoned. (DESIGN CHOICE, log entry 128.) -/
def State.hForget (s : State) (a g : Nat) : State :=
  let h := s.hartOf g
  if h.queue.all (·.account != a) then s
  else
    let cur := match h.cur, h.queue with
      | some .pass, r :: _ => if r.account = a then none else h.cur
      | c, _ => c
    (s.setHart g { h with queue := h.queue.filter (·.account != a), cur := cur }).hNext g

/-- Complete every pass-through request a channel holds with a status (R239). -/
def State.hFlush (s : State) (g status : Nat) : State :=
  let h := s.hartOf g
  let s := s.setHart g { h with queue := [], cur := none }
  foldState (fun s r => s.hReply r.account (g / 32) r.id r.command g status []) h.queue s

/-- HART signals of the channel once with their previous values and FAULT (R234). -/
def State.hFaultSignals (s : State) (g : Nat) : State :=
  foldState (fun s i =>
    s.deliver kHart (4 * g + i) ⟨(nget .init s.image.last (65536 * kHart + (4 * g + i))).value, qFault, s.stamp⟩)
    [0, 1, 2, 3] s

/-- A transaction has failed after its retries (R232, R237). (DEDUCED, log entry 82.) -/
def State.hFail (s : State) (g : Nat) : State :=
  let h := s.hartOf g
  let s := match h.cur, h.queue with
    | some .pass, r :: rest =>
      (s.setHart g { h with queue := rest, cur := none }).hReply r.account (g / 32) r.id r.command g 0x0D []
    | _, _ => s.setHart g { h with cur := none }
  let s := s.bump F.HART_COUNTS_1_FAILURES g
  let s := if s.hState g = hsFail then s
    else ((s.setHState g hsFail).ev 0x0902 [.b16 g]).hFaultSignals g
  let h := s.hartOf g
  (s.setHart g { h with pollDue := false, moreDue := false }).hNext g

/-- HART_TIMEOUT (R232): the time for a reply is over, and the frame is sent again, or the transaction has failed. Another
master's transaction that is in progress is over as well (R231). -/
def State.hTimeout (s : State) (g : Nat) : State :=
  let s := if (s.hartOf g).busy then s.setHart g { s.hartOf g with busy := false } else s
  let h := s.hartOf g
  if h.cur.isNone then s.hNext g
  else if h.tries < s.fld F.HART_CFG_RETRIES g then
    (s.setHart g { h with tries := h.tries + 1, measure := true }).bump F.HART_COUNTS_1_RETRIES g
  else s.hFail g

/-- Update the HART signals from a polling reply (R234): a variable that the reply does not hold keeps its VALUE and is FAULT.
(DESIGN CHOICE, log entry 137.) -/
def State.hSignals (s : State) (g : Nat) (m : HartMsg) (age : Nat) : State :=
  let stamp := s.stampNs ((1000 * s.tick : Nat) - (1000 * age : Nat))
  let bad := !hartSuccess m.respCode || m.devStatus.getLsbD 7
  foldState (fun s i =>
    if i = 3 ∧ s.flag F.HART_CFG_VAR3_SEL g then
      let q := condQ bad (s.flag F.HART_Z_CFG_ALARM g)
      s.deliver kHart (4 * g + 3) ⟨(f64OfInt (s.fld F.HART_Z_Z1200 g)).val, q, stamp⟩
    else match m.var i with
      | some (v, vbad) =>
        let x := f32to64 v
        s.deliver kHart (4 * g + i) ⟨x, condQ (bad || vbad || f64IsNaN x) false, stamp⟩
      | none => s.deliver kHart (4 * g + i) ⟨(nget .init s.image.last (65536 * kHart + (4 * g + i))).value, qFault, stamp⟩)
    [0, 1, 2, 3] s

/-- What a successful identification does (R232, R233). -/
def State.hIdentified (s : State) (g expType devId : Nat) : State :=
  let h := s.hartOf g
  let same := s.fld F.HART_ID_EXP_TYPE g == expType && s.fld F.HART_DEVID_DEVICE_ID g == devId
  let s := if h.known && !same then s.ev 0x0907 [.b16 g] else s.ev 0x0901 [.b16 g, .b16 expType, .b32 devId]
  let s := (s.setFld F.HART_ID_EXP_TYPE expType g).setFld F.HART_DEVID_DEVICE_ID devId g
  let s := s.setHart g { h with known := true }
  let s := if s.hState g = hsFail then s.ev 0x0903 [.b16 g] else s
  s.setHState g hsPolling

/-- A reply answers transaction u: the command it carries, and for command 31 the number in its data. -/
def State.hAnswers (s : State) (g : Nat) (u : HartUse) (m : HartMsg) : Bool :=
  let cmd := (s.hCommand g u).1
  if cmd ≤ 255 then m.command.toNat == cmd else m.command == 31 && hartNat (m.body.take 2) == cmd

/-- A valid reply to the transaction in progress (R233, R234, R237). -/
def State.hAnswer (s : State) (g : Nat) (u : HartUse) (m : HartMsg) (age : Nat) : State :=
  let h := s.hartOf g
  let period := s.fld F.HART_CFG_PERIOD_MS g
  let s := s.bump (whole R.HART_COUNTS_0) g
  let more := m.devStatus.getLsbD 4 && (if period = 0 then u != .more else !h.moreSent)
  let s := s.setHart g { h with cur := none, moreDue := h.moreDue || more }
  let s := if m.command = 3 ∧ 4 ≤ m.body.length then s.setReg R.HART_LOOP_I m.loopI.toNat g else s
  let s := if m.command = 48 ∧ 1 ≤ m.body.length then s.setFld F.HART_STATUS_EXT_STATUS (m.body.headD 0).toNat g else s
  let s := match u with
    | .ident => match m.ident with | some (t, d) => s.hIdentified g t d | none => s
    | .poll => s.hSignals g m age
    | .more => s
    | .pass => match h.queue with
      | q :: rest =>
        let again := q.command == 6 || q.command == 42
        let s := s.setHart g { s.hartOf g with queue := rest, identDue := h.identDue || again }
        s.hReply q.account (g / 32) q.id q.command g 0 m.data
      | [] => s
  s.hNext g

/-- A frame of the line, from its delimiter (R231, R232): the reply to the transaction in progress, from the address that it was
sent to and without a communication error; or what belongs to another master, to which the module defers. A reply that does not
identify the device is no valid reply to command 0. (DESIGN CHOICE, log entry 137.) -/
def State.hMessage (s : State) (g : Nat) (m : HartMsg) (age : Nat) : State :=
  let h := s.hartOf g
  if m.burst then s.bump F.HART_COUNTS_1_IGNORED g
  else if !m.primary then
    if m.request then s.setHart g { h with busy := true }
    else (s.setHart g { h with busy := false }).hNext g
  else match h.cur with
    | none => s
    | some u =>
      let addr := (h.sent.drop 1).take (if (h.sent.headD 0).getLsbD 7 then 5 else 1)
      if !m.reply || hartAddrKey m.addr != hartAddrKey addr || decide (m.data.length < 2) || m.respCode.getLsbD 7 ||
          !s.hAnswers g u m then s
      else
        let s := (s.setFld F.HART_STATUS_DEV_STATUS m.devStatus.toNat g).setFld F.HART_STATUS_RESP_CODE m.respCode.toNat g
        if u = .ident ∧ m.ident.isNone then s else s.hAnswer g u m age

/-- HART_REPLY: a frame on the line, as the modem receives it (R229). -/
def State.hReplyIn (s : State) (g : Nat) (r : HartRx) : State :=
  if s.hState g = hsOff ∨ !hartCarrier r.mv then s
  else match (hartBytes r.line).bind hartParse with
    | some m => s.hMessage g m r.age
    | none => s

/-- Commands that pass through to an A7 channel while SW12 is off (R237). -/
def hSafeCommands : List Nat := [0, 1, 2, 3, 9, 12, 13, 20, 48]

/-- Take n words from a till; ecc is what each read finds, clean where it lists none (R91). -/
def State.tillTake (s : State) (a t : Nat) (ecc : List Ecc) : Nat → List W64 × State
  | 0 => ([], s)
  | n + 1 =>
    let (v, _, _, s) := s.tillRead a t (ecc.headD .clean)
    let (vs, s) := State.tillTake s a t ecc.tail n
    (v :: vs, s)

/-- The bytes of words, first byte of a word in bits 7:0. -/
def dwordsBytes (ws : List W64) : List Byte := ws.flatMap fun w => bytesLE 8 w.toNat

/-- HART_PASSTHROUGH_REQUEST: account a's request till of slice sl (R235 to R237), read on the module in control. An item with an
uncorrectable word is malformed, and so is one that command 31 cannot carry. (DESIGN CHOICE, log entry 138.) -/
def State.hRequest (s : State) (a sl : Nat) (ecc : List Ecc) : State :=
  match s.findTill a false ekHart sl, s.findTill a true ekHart sl with
  | some t, some rt =>
    let x := s.till a t
    if !s.inControl ∨ x.unread = 0 ∨ s.tillFree a rt < 33 then s
    else
      let head := (if ecc.headD .clean = .double then idleItem else nget 0 s.tillMem (s.tillPos a t x.rd)).toNat
      let n := bits head 31 24
      let words := 1 + (n + 7) / 8
      if x.unread < words then s
      else
        let (ws, s) := s.tillTake a t ecc words
        let s := (s.tillCmd a t 3).tillReserve a rt 33
        let id := bits head 63 48
        let cmd := bits head 47 32
        let g := bits head 7 0
        let body := dwordsBytes ws.tail
        let malformed := bits head 23 8 != 0 || (body.drop n).any (· != 0) || (ecc.take words).any (· == .double) ||
          (decide (255 < cmd) && decide (253 < n))
        let answer (s : State) (st : Nat) : State := s.hReply a sl id cmd g st []
        if g / 32 ≠ sl ∨ !s.flag F.HART_CFG_EN g ∨ malformed then answer s 9
        else
          let owner := s.fld F.ACH_OWNER_ACCOUNT g
          let a7 := owner == 7 && !s.sw12 && !hSafeCommands.contains cmd
          if owner ≠ a then answer s 8
          else if a7 then answer (s.ev 0x0906 [.b16 g, .b16 cmd]) 8
          else
            let h := s.hartOf g
            if 8 ≤ h.queue.length then answer s 1
            else (s.setHart g { h with queue := h.queue ++ [⟨a, id, cmd, body.take n⟩] }).hNext g
  | _, _ => s

/-! ### Loop impedance (R240, R241) -/

/-- A measurement z differs from its baseline b by more than pct %. -/
def zDrifts (z b pct : Nat) : Bool := decide (pct * b < 100 * (if z ≤ b then b - z else z - b))

/-- HART_Z_MEASURE: the measurement of the frame that the transaction in progress has transmitted (R240): at 2,200 Hz only over 16
space cells or more; none of a frame that overlaps a received carrier or a handover window. -/
def State.hZMeasure (s : State) (g z1200 z2200 : Nat) (overlap : Bool) : State :=
  let h := s.hartOf g
  if h.cur.isNone ∨ !h.measure then s
  else if overlap ∨ s.inWindow then s.setHart g { h with measure := false }
  else
    let z2200 := if 16 ≤ hartSpaces h.sent then some z2200 else none
    let s := s.setFld F.HART_Z_Z1200 (min z1200 0xFFFE) g
    let s := match z2200 with | some z => s.setFld F.HART_Z_Z2200 (min z 0xFFFE) g | none => s
    let s := if h.rebase1200 then s.setFld F.HART_Z_BASE_B1200 (min z1200 0xFFFE) g else s
    let s := match z2200 with
      | some z => if h.rebase2200 then s.setFld F.HART_Z_BASE_B2200 (min z 0xFFFE) g else s
      | none => s
    let pct := s.fld F.HART_Z_CFG_DRIFT_PCT g
    let d := zDrifts z1200 (s.fld F.HART_Z_BASE_B1200 g) pct ||
      (match z2200 with | some z => zDrifts z (s.fld F.HART_Z_BASE_B2200 g) pct | none => false)
    let h : HartCh :=
      { h with measure := false, rebase1200 := false, rebase2200 := (h.rebase2200 && z2200.isNone),
               drift := (if d then h.drift + 1 else 0), steady := (if d then 0 else h.steady + 1) }
    let s := s.setHart g h
    let n := s.fld F.HART_Z_CFG_DRIFT_COUNT g
    let alarm := s.flag F.HART_Z_CFG_ALARM g
    let setAlarm (s : State) (b : Bool) : State :=
      (s.setFld F.HART_Z_CFG_ALARM (b2n b) g).setBit R.HART_ZALARM (g % 32) b (g / 32)
    if !alarm && decide (n ≤ h.drift) then
      (setAlarm s true).ev 0x0904 [.b16 g, .b16 (s.fld F.HART_Z_Z1200 g), .b16 (s.fld F.HART_Z_Z2200 g)]
    else if alarm && decide (n ≤ h.steady) then (setAlarm s false).ev 0x0905 [.b16 g]
    else s

/-- A HART_Z_BASE write takes effect (R241). -/
def State.hZBaseApply (s : State) (g v : Nat) : State :=
  let s := s.setReg R.HART_Z_BASE v g
  let z := v == 0
  s.setHart g { s.hartOf g with rebase1200 := z, rebase2200 := z }

/-- A HART_CFG write takes effect (R228): enabling starts identification, on the standby later (R239). -/
def State.hCfgApply (s : State) (g v : Nat) : State :=
  let was := s.flag F.HART_CFG_EN g
  let s := s.setReg R.HART_CFG v g
  let now := s.flag F.HART_CFG_EN g
  if now && !was then
    let h := s.hartOf g
    let s := s.setHart g { h with rebase1200 := true, rebase2200 := true, identDue := true, drift := 0, steady := 0 }
    (s.setHState g (if s.inControl then hsIdent else hsStandby)).hNext g
  else if was && !now then
    let s := (s.hFlush g 6).setHState g hsOff
    s.setHart g { s.hartOf g with identDue := false, pollDue := false, moreDue := false }
  else s

/-- Status of a HART_CFG write (R200, R228, R469). -/
def State.hCfgCheck (s : State) (g v : Nat) : Nat :=
  let m := s.aMode g
  let per := bits v 15 0
  if per ≠ 0 ∧ (per < 500 ∨ 60000 < per) then 9
  else if bit v 31 ∧ ((m ≠ aCurIn ∧ m ≠ aCurOut) ∨ s.fld F.ACH_RATE_RATE g < 4) then 9
  else 0

/-- The module ceases to control: its HART transactions end (R239). (DEDUCED, log entry 81.) -/
def State.hCease (s : State) : State :=
  foldState (fun s g =>
    if s.hState g = hsOff then s
    else
      let s := s.hFlush g 6
      (s.setHart g { s.hartOf g with pollDue := false, moreDue := false }).setHState g hsStandby) (List.range 192) s

/-- HART_RESUME (R239): the incoming module starts its first transaction on the channel. -/
def State.hResume (s : State) (g : Nat) : State :=
  if s.hState g ≠ hsStandby ∨ !s.inControl ∨ s.pair.winOpen then s
  else
    let h := s.hartOf g
    if h.known then
      ((s.setHart g { h with identDue := false, pollDue := s.fld F.HART_CFG_PERIOD_MS g != 0 }).setHState g hsPolling).hNext g
    else ((s.setHart g { h with identDue := true }).setHState g hsIdent).hNext g

/-- HART_POLL (R233). -/
def State.hPoll (s : State) (g : Nat) : State :=
  if s.hState g ≠ hsPolling ∨ s.fld F.HART_CFG_PERIOD_MS g = 0 then s
  else (s.setHart g { s.hartOf g with pollDue := true, moreSent := false }).hNext g

/-- HART_IDENT_RETRY (R232). -/
def State.hIdentRetry (s : State) (g : Nat) : State :=
  if s.hState g ≠ hsFail then s
  else (s.setHart g { s.hartOf g with identDue := true }).hNext g

/-- HART_BURST_FRAME (R231). -/
def State.hBurst (s : State) (g : Nat) : State :=
  if s.hState g = hsOff then s else s.bump F.HART_COUNTS_1_IGNORED g

def execHartPoll (g : Fin 192) (s : State) : Host.Outcome State Fault Refusal := .next (s.hPoll g.val)
def execHartReply (g : Fin 192) (r : HartRx) (s : State) : Host.Outcome State Fault Refusal :=
  if r.line.length % 11 = 0 then .next (s.hReplyIn g.val r) else .fault (.illFormed "HART_REPLY")
def execHartBurstFrame (g : Fin 192) (s : State) : Host.Outcome State Fault Refusal := .next (s.hBurst g.val)
def execHartTimeout (g : Fin 192) (s : State) : Host.Outcome State Fault Refusal := .next (s.hTimeout g.val)
def execHartIdentRetry (g : Fin 192) (s : State) : Host.Outcome State Fault Refusal := .next (s.hIdentRetry g.val)
def execHartPassthroughRequest (a : Fin 8) (sl : Fin 6) (ecc : List Ecc) (s : State) : Host.Outcome State Fault Refusal :=
  .next (s.hRequest a.val sl.val ecc)
def execHartZMeasure (g : Fin 192) (z1200 z2200 : Nat) (overlap : Bool) (s : State) :
    Host.Outcome State Fault Refusal := .next (s.hZMeasure g.val z1200 z2200 overlap)
def execHartResume (g : Fin 192) (s : State) : Host.Outcome State Fault Refusal := .next (s.hResume g.val)

end Sys2Proof.Machine
end

