-- ==== Sys2Proof/Machine/Digital.lean ====
section
/-! DEFINITION. Digital channels (chapter 10): level inputs, edges and quadrature, outputs and their conditions, slice
overcurrent, reconfiguration, and the checks of channel register writes. A channel is named by n = g − 192. -/

namespace Sys2Proof.Machine

/-! ### Modes (Table 10.1) and status bits (Table 10.14) -/
abbrev dOff := 0
abbrev dIn13 := 1
abbrev dIn2 := 2
abbrev dOut := 3
abbrev dOutRb := 4
abbrev dEdge := 5
abbrev dQuad := 6

abbrev dbOpen := 0
abbrev dbShort := 1
abbrev dbExtdrv := 2
abbrev dbThermal := 3
abbrev dbRbDiff := 4
abbrev dbFsLow := 5
abbrev dbSliceOvl := 6
abbrev dbLink := 7
abbrev dbReconfig := 8
abbrev dbQuadErr := 9
abbrev dbSafeDrive := 10
abbrev dbCurlim := 11

def State.dMode (s : State) (n : Nat) : Nat := s.fld F.DCH_CFG_MODE n
def dIsOut (m : Nat) : Bool := m == dOut || m == dOutRb
def dIsIn (m : Nat) : Bool := m != dOff && !dIsOut m
def dSlice (n : Nat) : Nat := 6 + n / 32

/-- Status bits that are FAULT conditions in a mode (R261, R262). -/
def dFaultMask (m : Nat) : Nat := if m = dOff then 0 else if dIsOut m then 0x1FF else 0x3A1

/-- The output conditions in order of precedence (Table 10.6). -/
def dOrder : List Nat := [dbFsLow, dbSliceOvl, dbThermal, dbExtdrv, dbShort, dbOpen, dbRbDiff]

/-- CH_STATUS from every condition that holds: of the output conditions only the uppermost is reported (R261). -/
def dReport (m full : Nat) : Nat :=
  if dIsOut m then
    let rest := full &&& 0xF80
    match dOrder.find? (bit full) with
    | some b => rest ||| 2 ^ b
    | none => rest
  else full

/-- The items a channel produces (Table 10.4). -/
def dItems (m n : Nat) : List Nat :=
  if m = dOff then []
  else if dIsOut m then [0, 1, 2, 5]
  else if m = dEdge ∨ (m = dQuad ∧ n % 2 = 0) then [0, 1, 2, 3, 4]
  else [0, 2]

/-- Quality of an item while conditions st hold (R261, R262, R278). -/
def dQual (m st item : Nat) : BitVec 8 :=
  let all := bit st dbLink || bit st dbReconfig
  let some_ := (st &&& dFaultMask m) != 0
  condQ (if item = 2 ∨ (dIsOut m ∧ item = 1) then all else some_) false

/-- Deliver item i of channel n, two ticks from now (R249). -/
def State.dItem (s : State) (n i : Nat) (v stamp : W64) : State :=
  s.deliverAt (s.tick + 2) kChannel (8 * (192 + n) + i) ⟨v, dQual (s.dMode n) (s.dchan n).conds.toNat i, stamp⟩

/-- Deliver an item that is updated once for a tick: an earlier update for the same tick is replaced (R251). -/
def State.dItemOnce (s : State) (n i : Nat) (v stamp : W64) : State :=
  let idx := 8 * (192 + n) + i
  let due := s.tick + 2
  State.dItem { s with image.updates := s.image.updates.filter fun u =>
    !(u.due == due && u.kind == kChannel && u.index == idx) } n i v stamp

/-- A change of the conditions of channel n: CH_STATUS, CH_LATCH, fault maps, counts, events, item 2 (R261). (DEDUCED, log entry
79.) -/
def State.setDConds (s : State) (n new : Nat) : State :=
  let ch := s.dchan n
  let old := ch.conds.toNat
  if new = old then s
  else
    let m := s.dMode n
    let g := 192 + n
    let was := (old &&& dFaultMask m) != 0
    let is := (new &&& dFaultMask m) != 0
    let s := s.setDch n { ch with conds := BitVec.ofNat 32 new }
    let s := (s.setReg R.DCH_STATUS (dReport m new) n).setReg R.DCH_LATCH (s.reg R.DCH_LATCH n ||| new) n
    let s := s.setBit R.DS_FAULT (n % 32) is (n / 32)
    let s := s.setBit R.DS_SUMMARY (dSlice n) (s.reg R.DS_FAULT (n / 32) != 0)
    let s := if is && !was then (s.bump F.DCH_COUNTS_FAULTS n).ev 0x0A01 [.b16 g, .b16 (dReport m new)]
      else if was && !is then s.ev 0x0A02 [.b16 g] else s
    if m = dOff then s else s.dItem n 2 (BitVec.ofNat 64 new) s.stamp

/-- Deliver every item but the status again with its last value and the present quality. -/
def State.dRequal (s : State) (n : Nat) : State :=
  foldState (fun s i =>
    if i = 2 then s
    else s.dItem n i (nget .init s.image.last (65536 * kChannel + (8 * (192 + n) + i))).value s.stamp)
    (dItems (s.dMode n) n) s

/-- Set or clear one condition and show it in the quality of the items. -/
def State.dCond (s : State) (n b : Nat) (v : Bool) : State :=
  let old := (s.dchan n).conds.toNat
  if bit old b = v then s else (s.setDConds n (putBits old b b (b2n v))).dRequal n

def State.dHas (s : State) (n b : Nat) : Bool := (s.dchan n).conds.getLsbD b

/-! ### Output stage -/

/-- The switch is held off by the channel or its slice: reconfiguration, thermal shutdown, overcurrent trip. -/
def State.dHeldOff (s : State) (n : Nat) : Bool :=
  (s.dchan n).setting || s.dHas n dbThermal || s.dHas n dbSliceOvl

/-- An output's SAFE word commands on (R255). -/
def State.dSafeCmd (s : State) (n : Nat) : Bool := (s.sig (s.fld F.DCH_OUT_SIG_SIGNAL n)).safe != 0

/-- The SAFE word in the slice controller's own copy commands on (R262). -/
def State.dOwnSafe (s : State) (n : Nat) : Bool := s.sliceWord (dSlice n) (n % 32) 0x7E != 0

/-- The switch as what overrides its command leaves it (R262); a driven command stays. -/
def State.dStageOf (s : State) (n : Nat) : Stage :=
  if s.dHeldOff n then .init
  else match s.override (dSlice n) with
    | .ended => .init
    | .safe => ⟨true, b2n (s.dOwnSafe n)⟩
    | .none => (s.dchan n).stage

/-- The SAFE word is the state of R262 that applies: an overcurrent trip of the slice comes before it. -/
def State.dSafeState (s : State) (n : Nat) : Bool := s.override (dSlice n) == .safe && !s.dHas n dbSliceOvl

/-- Bring the switch of channel n, and SAFEDRIVE where something overrides its command, into line with R262. -/
def State.dStage (s : State) (n : Nat) : State :=
  if !dIsOut (s.dMode n) then s
  else
    let s := if s.override (dSlice n) = .none then s
      else s.setDConds n (putBits (s.dchan n).conds.toNat dbSafeDrive dbSafeDrive (b2n (s.dSafeState n)))
    s.setDch n { s.dchan n with stage := s.dStageOf n }

/-- The switch takes up its command again after a hold of its own has ended. -/
def State.dResume (s : State) (n : Nat) : State :=
  if !dIsOut (s.dMode n) then s
  else if s.override (dSlice n) = .none ∧ !s.dHeldOff n then
    s.setDch n { s.dchan n with stage := ⟨true, b2n (s.dchan n).cmd⟩ }
  else s.dStage n

/-- What channel n is commanded to by the signal it consumes, and whether by its SAFE word (R255, R336, R351). -/
def State.dConsumed (s : State) (n : Nat) : Bool × Bool :=
  let r := s.sig (s.fld F.DCH_OUT_SIG_SIGNAL n)
  if s.safetyHold (192 + n) (s.fld F.DCH_OWNER_ACCOUNT n) then (s.dSafeCmd n, true)
  else if r.quality &&& qValid == 0 || r.quality &&& (qStale ||| qFault) != 0 then
    (if s.fld F.DCH_CFG_OUT_INVALID n = 1 then (s.dSafeCmd n, true) else ((s.dchan n).cmd, false))
  else (r.value != 0, false)

/-- The command of channel n at step 9 of Table 6.4 (R255, R262): item 1 at each change. A standby follows R255 on the image that
the ledger brings, and drives nothing; an outgoing module keeps its last command (R263). -/
def State.dHand (s : State) (n : Nat) : State :=
  if !dIsOut (s.dMode n) ∨ s.pairState = psOutgoing then s
  else
    let (cmd, safe) : Bool × Bool := match s.override (dSlice n) with
      | .ended => (s.pairState != psSingle && !s.inControl && (s.dConsumed n).1, false)
      | .safe => (s.dOwnSafe n, !s.dHas n dbSliceOvl)
      | .none => s.dConsumed n
    let was := (s.dchan n).cmd
    let s := s.setDch n { s.dchan n with cmd := cmd }
    let s := s.setDConds n (putBits (s.dchan n).conds.toNat dbSafeDrive dbSafeDrive (b2n safe))
    let s := if cmd = was then s else s.dItem n 1 (BitVec.ofNat 64 (b2n cmd)) s.stamp
    s.dStage n

/-! ### Inputs -/

/-- The first filtered state in a new mode ends reconfiguration (Table 10.7). -/
def State.dFirst (s : State) (n : Nat) : State :=
  if s.dHas n dbReconfig ∧ dIsIn (s.dMode n) then
    (s.dCond n dbReconfig false).ev 0x0A06 [.b16 (192 + n), .b8 (s.dMode n)]
  else s

/-- The channel whose settings govern channel n: of a quadrature pair the even one (R244). -/
def State.dLead (s : State) (n : Nat) : Nat := if s.dMode n = dQuad then n - n % 2 else n

/-- Time of a state in TL ns (Table 10.4, R249, R250): the tick of OUT's terminal sense; else the first agreeing sample less 1.5
µs, by the filter of the mode. -/
def State.dLevelNs (s : State) (n : Nat) : Int :=
  let now : Int := (1000 * s.tick : Nat)
  if s.dMode n = dOut then now
  else if s.dMode n = dEdge ∨ s.dMode n = dQuad then now - (1000 * s.fld F.DCH_FILT_EDGE_FILT_US (s.dLead n) : Nat) - 1500
  else now - (1000 * (s.fld F.DCH_FILT_FILT_US n - 1) : Nat) - 1500

/-- LEVEL_FILTER_PASS (R249, Table 10.4): the filtered state, or an output's readback state, changes. -/
def State.dLevel (s : State) (n : Nat) (level : Bool) : State :=
  let ch := s.dchan n
  let m := s.dMode n
  let first := ch.level.isNone || (s.dHas n dbReconfig && dIsIn m)
  if m = dOff ∨ ch.setting ∨ ((m = dEdge ∨ m = dQuad) ∧ !first) ∨ (ch.level = some level ∧ !first) then s
  else
    let s := s.setDch n { ch with level := some level }
    let s := s.dFirst n
    if s.slState (dSlice n) ≠ slRun then s
    else s.dItem n 0 (BitVec.ofNat 64 (b2n level)) (s.stampNs (s.dLevelNs n))

/-- LINE_MON_OPEN (R247). -/
def State.dLineMon (s : State) (n : Nat) (below : Bool) : State :=
  if s.dMode n = dIn13 ∧ s.flag F.DCH_CFG_LINE_MON n then s.dCond n dbOpen below else s

/-- Items 1, 3 and 4 after a count change at time t (R251, R252); in a pair the change is kept for R264, for 1 s in the module in
control. (DEDUCED, log entry 145.) -/
def State.dCounted (s : State) (n : Nat) (count : W64) (t : Int) : State :=
  let ch := s.dchan n
  let first := if ch.edgeTick = some s.tick then ch.first else t
  let kept := if s.inControl then ch.recent.filter fun x => s.tick < x.1 + 1000000 else ch.recent
  let recent := if s.pairState = psSingle then [] else (s.tick, (count - ch.count).toInt) :: kept
  let ch' := { ch with count := count, recent := recent, edgeTick := some s.tick, first := first, prevEdge := ch.lastEdge,
                       lastEdge := some t }
  let s := s.setDch n ch'
  if s.slState (dSlice n) ≠ slRun then s
  else
    let stamp := s.stampNs t
    let s := (s.dItemOnce n 1 count stamp).dItemOnce n 3 (s.stampNs first) stamp
    if s.dMode n = dEdge then
      let gap : Nat := match ch.lastEdge with | some u => (t - u).toNat | none => 0
      s.dItemOnce n 4 (BitVec.ofNat 64 gap) stamp
    else s

/-- The level of a phase as last accepted. -/
def State.dPhase (s : State) (n : Nat) : Bool := (s.dchan n).level.getD false

/-- An accepted edge of a quadrature phase (R252): A is the even channel, B the odd. -/
def State.dQuadEdge (s : State) (n : Nat) (level : Bool) (t : Int) : State :=
  let a := n - n % 2
  let other := if n % 2 = 0 then n + 1 else n - 1
  let near : Bool := match (s.dchan other).phaseEdge with | some u => decide ((t - u).natAbs ≤ 200) | none => false
  let s := s.setDch n { s.dchan n with level := some level, phaseEdge := some t }
  let pos := (s.dchan a).count
  if near then (s.dCond a dbQuadErr true).ev 0x0A07 [.b16 (192 + a), .b64 pos.toNat]
  else
    let up := if n % 2 = 0 then level != s.dPhase (a + 1) else level == s.dPhase a
    s.dCounted a (if up then pos + 1 else pos - 1) t

/-- EDGE_ACCEPTED (R250 to R252): time is the TL time in ns of the first sample of the new level. -/
def State.dEdgeIn (s : State) (n : Nat) (level : Bool) (time : Nat) : State :=
  let ch := s.dchan n
  let m := s.dMode n
  if (m ≠ dEdge ∧ m ≠ dQuad) ∨ ch.setting ∨ ch.level = some level then s
  else
    let t : Int := (time : Int) - 1500
    let s := s.dFirst n
    let show0 (s : State) : State :=
      if s.slState (dSlice n) = slRun then s.dItem n 0 (BitVec.ofNat 64 (b2n level)) (s.stampNs t) else s
    if m = dQuad then show0 (s.dQuadEdge n level t)
    else
      let s := s.setDch n { s.dchan n with level := some level }
      let sel := s.fld F.DCH_CFG_EDGE_SEL n
      let s := if (level ∧ bit sel 0) ∨ (!level ∧ bit sel 1) then s.dCounted n ((s.dchan n).count + 1) t else s
      show0 s

/-- QUAD_VELOCITY_UPDATE (Table 10.4): counts per s over the last 1 ms. -/
def State.dVelocity (s : State) (n : Nat) : State :=
  let ch := s.dchan n
  if s.dMode n ≠ dQuad ∨ n % 2 = 1 ∨ s.slState (dSlice n) ≠ slRun then s
  else
    let s := s.setDch n { ch with velAt := ch.count }
    s.dItem n 4 (f64OfInt ((ch.count - ch.velAt).toInt * 1000)).val s.stamp

/-- LOAD_CURRENT_UPDATE (Tables 10.4, 10.11 and 10.15): with the total FS current that the slice has measured. -/
def State.dLoad (s : State) (n ma termV fsMa : Nat) : State :=
  let s := ((s.setFld F.DCH_LOAD_LOAD_MA ma n).setFld F.DCH_LOAD_TERM_V termV n).setFld F.DS_LOAD_FS_MA fsMa (n / 32)
  if !dIsOut (s.dMode n) ∨ s.slState (dSlice n) ≠ slRun then s
  else s.dItem n 5 (f64OfInt ma).val s.stamp

/-- CLEAR and PRESET take effect (R253). (DEDUCED, log entry 80.) -/
def State.dCount (s : State) (n : Nat) (preset : Bool) : State :=
  let v : W64 := if preset then BitVec.ofNat 64 (s.reg64 R.DCH_PRESET n) else 0
  let s := (s.setDch n { s.dchan n with count := v, velAt := v }).dCond n dbQuadErr false
  if (dItems (s.dMode n) n).contains 1 ∧ !dIsOut (s.dMode n) then s.dItemOnce n 1 v s.stamp else s

/-- The edges of channel n accepted here from a tick on are added to a count that the ledger has brought (R264). -/
def State.dAddSince (s : State) (n : Nat) (v : W64) (tick : Nat) : State :=
  let ch := s.dchan n
  let since := ch.recent.filter fun x => tick ≤ x.1
  s.setDch n { ch with count := v + BitVec.ofInt 64 (since.map (·.2)).sum, recent := since }

/-- A count update replayed at a tick holds every edge accepted two ticks before it (R251, R264). -/
def State.dReplay (s : State) (n : Nat) (v : W64) (tick : Nat) : State := s.dAddSince n v (tick - 1)

/-- A CLEAR or PRESET that the ledger brings has acted at its own tick (R264): the edges accepted from then on count after it. -/
def State.dRecount (s : State) (addr tick : Nat) : State :=
  let n := (addr - R.DCH_CNT_CTRL.addr 0 0) / 0x1000
  if addr = R.DCH_CNT_CTRL.addr n 0 ∧ n < 320 then s.dAddSince n (s.dchan n).count tick else s

/-! ### Output conditions -/

/-- R260 and the RB_DIFF condition are suspended: on the standby (R260 only), and from the start of a handover window until 1 ms
after its end (R263). -/
def State.dWindow (s : State) : Bool :=
  match s.pair.window with | some h => decide (h ≤ s.tick ∧ s.tick < h + 1600) | none => false

/-- EXTDRV_CHANGE (R260). -/
def State.dExtdrv (s : State) (n : Nat) (on_ : Bool) (termV : Nat) : State :=
  if !dIsOut (s.dMode n) ∨ !s.inControl ∨ s.dWindow ∨ s.dHas n dbExtdrv = on_ then s
  else
    let s := s.setFld F.DCH_LOAD_TERM_V termV n
    let s := s.dCond n dbExtdrv on_
    if on_ then s.ev 0x0A03 [.b16 (192 + n), .b8 (b2n (s.dchan n).cmd), .b16 termV] else s

/-- OUTPUT_CONDITION_CHANGE (R261, Table 10.6). -/
def State.dCondition (s : State) (n : Nat) (c : DCond) (on_ : Bool) : State :=
  let m := s.dMode n
  let cmd := (s.dchan n).cmd
  if !dIsOut m then s
  else match c with
    | .short => if on_ && !(cmd && s.fsState (dSlice n) == fsNormal) then s else s.dCond n dbShort on_
    | .openLoad => if on_ && !(cmd && s.flag F.DCH_CFG_OL_EN n) then s else s.dCond n dbOpen on_
    | .rbDiff =>
      let above := [dbFsLow, dbSliceOvl, dbThermal, dbExtdrv, dbShort, dbOpen].any (s.dHas n)
      if m ≠ dOutRb ∨ s.dWindow ∨ (on_ && above) then s else s.dCond n dbRbDiff on_

/-- Thermal shutdown of the switch and its retry (R258). -/
def State.dThermal (s : State) (n : Nat) : State :=
  if !dIsOut (s.dMode n) ∨ s.dHas n dbThermal then s
  else ((s.dCond n dbThermal true).ev 0x0A04 [.b16 (192 + n)]).dStage n

def State.dThermalRetry (s : State) (n : Nat) : State :=
  if !s.dHas n dbThermal then s
  else
    let s := (s.dCond n dbThermal false).dResume n
    if (s.dchan n).stage = ⟨true, 1⟩ then s.bump F.DCH_COUNTS_RETRIES n else s

/-! ### Slice overcurrent (R259); the slice is named by i = s − 6 -/

def State.dsChannels (i : Nat) : List Nat := (List.range 32).map (32 * i + ·)

def State.dsTrip (s : State) (i ma : Nat) : State :=
  if s.flag F.DS_LOAD_OVL i then s
  else
    let second := match (nget DSlice.init s.dslice i).firstTrip with
      | some t => decide (s.tick - t ≤ 10000000) | none => false
    let s := { s with dslice := nset DSlice.init s.dslice i ⟨if second then (nget DSlice.init s.dslice i).firstTrip else some s.tick⟩ }
    let s := ((s.setFld F.DS_LOAD_OVL 1 i).setFld F.DS_LOAD_OVL_OFF (b2n second) i).setFld F.DS_LOAD_FS_MA ma i
    let s := s.bump F.DS_LOAD_TRIPS i
    let s := foldState (fun s n => if dIsOut (s.dMode n) then (s.dCond n dbSliceOvl true).dStage n else s)
      (State.dsChannels i) s
    s.ev 0x0A05 [.b8 (6 + i), .b16 ma, .b8 (b2n second)]

/-- The slice's outputs take up their commands again. -/
def State.dsRelease (s : State) (i : Nat) : State :=
  let s := (s.setFld F.DS_LOAD_OVL 0 i).setFld F.DS_LOAD_OVL_OFF 0 i
  foldState (fun s n => (s.dCond n dbSliceOvl false).dResume n) (State.dsChannels i) s

def State.dsResume (s : State) (i : Nat) : State :=
  if s.flag F.DS_LOAD_OVL i ∧ !s.flag F.DS_LOAD_OVL_OFF i then s.dsRelease i else s

/-- RESTORE takes effect. -/
def State.dsRestore (s : State) (i : Nat) : State :=
  if s.flag F.DS_LOAD_OVL_OFF i then s.dsRelease i else s

/-! ### Reconfiguration and register writes -/

/-- FS_LOW of a channel follows FS of its slice (R248, Table 10.6). -/
def State.dFsOne (s : State) (n : Nat) : State :=
  let uses := dIsOut (s.dMode n) || (dIsIn (s.dMode n) && s.flag F.DCH_CFG_FS_DEP (s.dLead n))
  s.dCond n dbFsLow (uses && s.fsBad (dSlice n))

def State.dFsChange (s : State) (i : Nat) : State := foldState State.dFsOne (State.dsChannels i) s

/-- The conditions that a reconfiguration does not end: LINK, those of an output that have not been absent for their time, and the
quadrature error of a pair that stays one (R252, R261). -/
def dKept (old new : Nat) : Nat :=
  2 ^ dbLink + 2 ^ dbFsLow + (if new = dOutRb then 0x5F else if new = dOut then 0x4F else 0) +
    (if old = dQuad ∧ new = dQuad then 2 ^ dbQuadErr else 0)

/-- Channel n is set to a new mode or input stage (Table 10.7): its count starts again at 0. -/
def State.dReconfigure (s : State) (n kept : Nat) : State :=
  let ch := s.dchan n
  let s := s.setDch n { ch with setting := true, count := 0, velAt := 0, level := none, lastEdge := none,
                                prevEdge := none, phaseEdge := none, edgeTick := none }
  let s := (s.setDConds n (2 ^ dbReconfig + (ch.conds.toNat &&& kept))).dRequal n
  let s := if (dItems (s.dMode n) n).contains 4 then (s.dItemOnce n 1 0 s.stamp).dItemOnce n 4 0 s.stamp else s
  (s.dFsOne n).dStage n

/-- The settings of a channel that act at once: FS_DEP and LINE_MON. -/
def State.dSettings (s : State) (n : Nat) : State :=
  let s := s.dFsOne n
  if s.dMode n = dIn13 ∧ !s.flag F.DCH_CFG_LINE_MON n then s.dCond n dbOpen false else s

/-- A CH_CFG write takes effect (R265, Table 10.7); of a quadrature pair the even channel's settings govern both (R244). -/
def State.dCfgApply (s : State) (n new : Nat) : State :=
  let old := s.reg R.DCH_CFG n
  let s := s.setReg R.DCH_CFG new n
  let both := if s.dMode n = dQuad ∧ n % 2 = 0 then [n, n + 1] else [n]
  if bits old 31 27 = bits new 31 27 then foldState State.dSettings both s
  else foldState (fun s c => s.dReconfigure c (dKept (bits old 31 28) (bits new 31 28))) both s

/-- Step 2 of Table 10.7; an output drives from the next command on (step 3). (DEDUCED, log entry 77.) -/
def State.dReconfigDone (s : State) (n : Nat) : State :=
  let ch := s.dchan n
  if !ch.setting then s
  else
    let s := s.setDch n { ch with setting := false }
    if dIsOut (s.dMode n) then
      ((s.dCond n dbReconfig false).ev 0x0A06 [.b16 (192 + n), .b8 (s.dMode n)]).dStage n
    else s

/-- The slice's link has left RUN (R262, R278). -/
def State.dLinkLost (s : State) (i : Nat) : State :=
  foldState (fun s n => (s.dCond n dbLink true).dStage n) (State.dsChannels i) s

/-- The first accepted up DATA frame in RUN brings the present state of every channel (Table 11.4, R278). (DEDUCED, log entry
144.) -/
def State.dPresent (s : State) (i states : Nat) : State :=
  foldState (fun s n =>
    if !s.dHas n dbLink then s
    else if s.dMode n = dOff then s.dCond n dbLink false
    else
      let level := bit states (n % 32)
      let s := s.setDch n { s.dchan n with level := some level }
      let s := s.setDConds n (putBits (s.dchan n).conds.toNat dbLink dbLink 0)
      (s.dRequal n).dItem n 0 (BitVec.ofNat 64 (b2n level)) s.stamp) (State.dsChannels i) s

/-- Field content of a CH_CFG value (R244, R247, R251, R255, Table 10.12). -/
def dCfgFields (v : Nat) : Bool :=
  let m := bits v 31 28
  decide (m ≤ 6) && (m == dEdge || m == dQuad || !bit v 27) && (m == dIn13 || !bit v 24) &&
    decide (bits v 21 20 ≤ 1) && !(m == dEdge && bits v 26 25 == 0)

/-- Status of a run-time CH_CFG write (R265, R332). -/
def State.dCfgCheck (s : State) (n v : Nat) : Nat :=
  let m := bits v 31 28
  let m0 := s.dMode n
  if !dCfgFields v ∨ (bits v 21 20 = 0 ∧ dIsOut m ∧ s.fld F.DCH_OWNER_ACCOUNT n = 7) then 9
  else if bits (s.reg R.DCH_CFG n) 31 27 ≠ bits v 31 27 ∧
      (dIsOut m ≠ dIsOut m0 ∨ (m ≠ m0 ∧ (m = dOff ∨ m0 = dOff ∨ m = dQuad ∨ m0 = dQuad))) then 8
  else 0

/-- Status of a CH_CNT_CTRL write (R253). -/
def State.dCntCheck (s : State) (n v : Nat) : Nat :=
  if bits v 31 24 ≠ 0x3C ∨ (s.dMode n = dQuad ∧ n % 2 = 1) then 8
  else if bits v 1 0 = 1 ∨ bits v 1 0 = 2 then 0
  else 9

def execLevelFilterPass (n : Fin 320) (level : Bool) (s : State) : Host.Outcome State Fault Refusal :=
  .next (s.dLevel n.val level)
def execLineMonOpen (n : Fin 320) (below : Bool) (s : State) : Host.Outcome State Fault Refusal :=
  .next (s.dLineMon n.val below)
def execEdgeAccepted (n : Fin 320) (level : Bool) (time : Nat) (s : State) : Host.Outcome State Fault Refusal :=
  .next (s.dEdgeIn n.val level time)
def execQuadVelocityUpdate (n : Fin 320) (s : State) : Host.Outcome State Fault Refusal := .next (s.dVelocity n.val)
def execLoadCurrentUpdate (n : Fin 320) (ma termV fsMa : BitVec 16) (s : State) : Host.Outcome State Fault Refusal :=
  .next (s.dLoad n.val ma.toNat termV.toNat fsMa.toNat)
def execOutputThermalOff (n : Fin 320) (s : State) : Host.Outcome State Fault Refusal := .next (s.dThermal n.val)
def execOutputThermalRetry (n : Fin 320) (s : State) : Host.Outcome State Fault Refusal := .next (s.dThermalRetry n.val)
def execSliceOvercurrentTrip (sl : Fin 10) (ma : BitVec 16) (s : State) : Host.Outcome State Fault Refusal :=
  .next (s.dsTrip sl.val ma.toNat)
def execSliceOvercurrentResume (sl : Fin 10) (s : State) : Host.Outcome State Fault Refusal := .next (s.dsResume sl.val)
def execExtdrvChange (n : Fin 320) (on_ : Bool) (termV : BitVec 16) (s : State) : Host.Outcome State Fault Refusal :=
  .next (s.dExtdrv n.val on_ termV.toNat)
def execOutputConditionChange (n : Fin 320) (c : DCond) (on_ : Bool) (s : State) : Host.Outcome State Fault Refusal :=
  .next (s.dCondition n.val c on_)
def execDigitalReconfigDone (n : Fin 320) (s : State) : Host.Outcome State Fault Refusal := .next (s.dReconfigDone n.val)

/-- CURRENT_LIMIT_CHANGE (R258). -/
def execCurrentLimitChange (n : Fin 320) (on_ : Bool) (s : State) : Host.Outcome State Fault Refusal :=
  .next (if dIsOut (s.dMode n.val) then
    s.setDConds n.val (putBits (s.dchan n.val).conds.toNat dbCurlim dbCurlim (b2n on_)) else s)

end Sys2Proof.Machine
end

