-- ==== Sys2Proof/Machine/SliceLink.lean ====
section
/-! DEFINITION. Slice links (chapter 11): the frame of Table 11.1 with its scrambler and CRC, the down frame of each tick, the
search and alignment of both lanes, link states, the accepted frame's effect, sideband items. -/

namespace Sys2Proof.Machine

/-! ### The frame (R269, R270); bit n of the BitVec is bit n of Table 11.1, sent in ascending order -/

/-- The next state and output bit of the scrambler x^31 + x^28 + 1; bit i of the state is the bit sent i + 1 ago. -/
def scrStep (r : Nat) : Nat × Bool :=
  let o := bit r 30 != bit r 27
  ((2 * r + b2n o) % 2 ^ 31, o)

/-- n bits of the scrambler sequence as a number, first bit in bit 0. -/
def scrBits : Nat → Nat → Nat
  | 0, _ => 0
  | n + 1, r =>
    let (r', o) := scrStep r
    b2n o + 2 * scrBits n r'

/-- The sequence that scrambles bits 32 to 623: it restarts with all ones at bit 32. (DEDUCED, log entry 29.) -/
def scramble592 : Nat := scrBits 592 (2 ^ 31 - 1)

/-- The sync word as it lies in bits 0 to 31: most significant bit first. -/
def syncWord : Nat := (List.range 32).foldl (fun n i => n + 2 ^ i * b2n (bit 0x3AF26C19 (31 - i))) 0

def frameSync (f : BitVec 625) : Bool := bits f.toNat 31 0 == syncWord

/-- HEADER, PAYLOAD and CRC after descrambling: bit 0 is frame bit 32. -/
def frameBody (f : BitVec 625) : Nat := bits f.toNat 623 32 ^^^ scramble592
def frameHeader (f : BitVec 625) : Nat := bits (frameBody f) 15 0
def framePayload (f : BitVec 625) : Nat := bits (frameBody f) 559 16

/-- CRC-32 of HEADER and PAYLOAD agrees. -/
def frameGood (f : BitVec 625) : Bool := bits (frameBody f) 591 560 == (crc32 (bytesLE 70 (bits (frameBody f) 559 0))).toNat

/-- GUARD is the complement of bit 623 as sent; a receiver does not ask for it (R273). -/
def frameGuard (f : BitVec 625) : Bool := bit f.toNat 624 != bit f.toNat 623

/-- The frame that carries a header and a payload. -/
def mkFrame (header payload : Nat) : BitVec 625 :=
  let hp := header % 2 ^ 16 + 2 ^ 16 * (payload % 2 ^ 544)
  let body := (hp + 2 ^ 560 * (crc32 (bytesLE 70 hp)).toNat) ^^^ scramble592
  BitVec.ofNat 625 (syncWord + 2 ^ 32 * body + 2 ^ 624 * b2n (!bit body 591))

/-! KIND codes (Table 11.2). -/
abbrev fkData := 0
abbrev fkHold := 1
abbrev fkHello := 2

/-! ### Sideband items (R272) -/

/-- Word indices of the channel registers delivered in DOWNLOAD, and the SAFE word. -/
def itemWords (sl : Nat) : List Nat :=
  if sl < 6 then [0x00, 0x01, 0x02, 0x03, 0x04, 0x06, 0x08, 0x0C, 0x0E, 0x10, 0x12, 0x7E]
  else [0x00, 0x01, 0x03, 0x04, 0x06, 0x7E]

/-- Everything DOWNLOAD delivers: each channel's registers and SAFE word, and the slice commands (word 0x7F of channel 0). -/
def downloadItems (sl : Nat) : List Nat :=
  ((List.range 32).flatMap fun c => (itemWords sl).map (128 * c + ·)) ++ [0x7F]

/-- A register or SAFE word of a channel of slice sl is to be delivered to the slice (R272). -/
def State.slQueue (s : State) (sl item : Nat) : State :=
  let l := s.link sl
  if s.slState sl = slRun ∨ s.slState sl = slDownload then s.setLink sl { l with items := l.items ++ [item] } else s

/-- The SAFE word of signal n has changed: it goes to every output channel that consumes it (R272). -/
def State.slSafe (s : State) (n : Nat) : State :=
  let an := (List.range 192).filter fun g => aIsOut (s.aMode g) && s.fld F.ACH_OUT_SIG_SIGNAL g == n
  let di := (List.range 320).filter fun c => dIsOut (s.dMode c) && s.fld F.DCH_OUT_SIG_SIGNAL c == n
  let s := foldState (fun s g => s.slQueue (g / 32) (128 * (g % 32) + 0x7E)) an s
  foldState (fun s c => s.slQueue (dSlice c) (128 * (c % 32) + 0x7E)) di s

/-- The item's content (R272): a 32-bit register in the low half, a 64-bit quantity, the SAFE word of the signal that the channel
consumes; the slice command of a digital slice is 1 where its outputs are not held off after a second trip. (DESIGN CHOICE, log
entry 141.) -/
def State.slWord (s : State) (sl item : Nat) : W64 :=
  let c := item / 128
  let w := item % 128
  if w = 0x7F then BitVec.ofNat 64 (if sl < 6 then 0 else b2n (!s.flag F.DS_LOAD_OVL_OFF (sl - 6)))
  else if w = 0x7E then
    (s.sig (if sl < 6 then s.fld F.ACH_OUT_SIG_SIGNAL (32 * sl + c) else s.fld F.DCH_OUT_SIG_SIGNAL (32 * (sl - 6) + c))).safe
  else match regAt ((if sl < 6 then R.ACH_CFG.addr (32 * sl + c) 0 else R.DCH_CFG.addr (32 * (sl - 6) + c) 0) + 4 * w) with
    | some (r, i, j) => BitVec.ofNat 64 (if r.w64 then s.reg64 r i else s.reg r i j)
    | none => 0

/-- The down DATA command of a slice (Table 11.3): codes of the output channels, SIDEBAND left at zero. -/
def State.downPayload (s : State) (sl : Nat) : Nat :=
  if sl < 6 then
    (List.range 32).foldl (fun n c =>
      let g := 32 * sl + c
      n + 2 ^ (15 * c) * if aIsOut (s.aMode g) then aCode (s.aMode g) (s.achan g).setp else 0) 0
  else
    (List.range 32).foldl (fun n c =>
      let k := 32 * (sl - 6) + c
      n + 2 ^ c * if dIsOut (s.dMode k) then b2n (s.dchan k).cmd else 0) 0

/-- KIND of the down frames in a state of the link (Table 11.7). -/
def slKind (st : Nat) : Nat := if st = slHello then fkHello else if st = slDownload ∨ st = slRun then fkData else fkHold

/-- The version bitmap of this issue: version 1 (R279). -/
abbrev slVersions : Nat := 1

/-- The down frame that starts at this tick (R269 to R273): KIND by the state, ACK of the last up frame, one sideband item: one
that has not been acknowledged after 3 µs first, else the next that waits. -/
def State.slSend (s : State) (sl : Nat) : State :=
  let st := s.slState sl
  if st = slOff then s
  else
    let l := s.link sl
    let kind := slKind st
    let again := l.flight.find? fun x => decide (x.sent + 3 ≤ s.tick) && !x.acked
    let item := if kind ≠ fkData then none else match again with | some x => some x.item | none => l.items.head?
    let items := if kind = fkData ∧ again.isNone then l.items.tail else l.items
    let flight := l.flight.filter fun x => decide (s.tick < x.sent + 3)
    let flight := match item with | some i => ⟨i, s.tick, false⟩ :: flight | none => flight
    let header := 2 ^ 14 * kind + 2 ^ 13 * b2n l.ack + 2 ^ 12 * b2n item.isSome + item.getD 0
    let payload := if kind = fkHello then slVersions
      else if kind = fkData then s.downPayload sl + 2 ^ 480 * (match item with | some i => (s.slWord sl i).toNat | none => 0)
      else 0
    let s := s.setLink sl { l with items := items, flight := flight, sent := (⟨header, payload⟩ :: l.sent).take 3 }
    if kind = fkData ∧ again.isSome then s.bump F.SL_COUNTS_2_DOWN_RESEND sl else s

def State.slSendAll (s : State) : State := foldState State.slSend (List.range 16) s

/-- What lies on the down lane of slice sl from this tick on: nothing while the link is off. -/
def State.slLine (s : State) (sl : Nat) : Option (BitVec 625) := (s.link sl).sent.head?.map fun x => mkFrame x.header x.payload

/-! ### States (Table 11.7) -/

/-- The slice is used by the configuration (R36). -/
def State.slUsed (s : State) (sl : Nat) : Bool :=
  if sl < 6 then (List.range 32).any fun c => s.aMode (32 * sl + c) != aOff
  else (List.range 32).any fun c => s.dMode (32 * (sl - 6) + c) != dOff

/-- Step 11 of Table 3.1 completes once every slice in use is aligned, or has not aligned in time and is left (R55). -/
def State.alignCheck (s : State) : State :=
  if s.phase ≠ .starting ∨ !s.stepDone 10 ∨ s.stepDone 11 then s
  else if (List.range 16).all fun sl => !s.slUsed sl || s.slState sl == slRun || (s.link sl).late then
    State.markStep { s with start.settleFrom := s.tick } 11
  else s

/-- Every channel of the slice shows that its link is not aligned, and its outputs act on it. -/
def State.slLost (s : State) (sl : Nat) : State := if sl < 6 then s.aLinkLost sl else s.dLinkLost (sl - 6)

def State.setSl (s : State) (sl st : Nat) : State :=
  (s.setFld F.SL_STATUS_STATE st sl).setBit R.SL_SUMMARY sl (st == slRun)

/-- An update of a channel of slice sl. -/
def Update.ofSlice (u : Update) (sl : Nat) : Bool := u.kind == kChannel && u.index / 256 == sl

/-- The link leaves the states after SEARCH: records and items on their way are discarded (R276, R277). -/
def State.slSearchAgain (s : State) (sl : Nat) : State :=
  let wasRun := s.slState sl == slRun
  let s := (s.setSl sl slSearch).setFld F.SL_STATUS_VERSION 0 sl
  let s := s.setLink sl { s.link sl with items := [], flight := [], hellos := 0 }
  let s := { s with image.updates := s.image.updates.filter fun u => !u.ofSlice sl }
  if wasRun then s.slLost sl else s

/-- A lane of the link has lost lock (R276): 3 for missing sync words, 4 for CRC errors. -/
def State.slLoss (s : State) (sl : Nat) (down : Bool) (what : Nat) : State :=
  let s := (s.bump F.SL_COUNTS_1_LOSSES sl).ev 0x0B02
    [.b8 sl, .b8 (Config.openCode (45 + b2n down)).toNat, .b8 (Config.openCode (40 + what)).toNat]
  if s.slState sl = slRefused then s else s.slSearchAgain sl

/-- Both lanes locked: HELLO (Table 11.7). -/
def State.slLocked (s : State) (sl : Nat) : State :=
  let l := s.link sl
  if s.slState sl = slSearch ∧ s.flag F.SL_STATUS_DOWN_LOCK sl ∧ l.up.locked then
    (s.setSl sl slHello).setLink sl { l with hellos := 0 }
  else s

/-- The slice's domains have reached power-good: SEARCH; every channel in use shows LINK until RUN. -/
def State.slPowerOn (s : State) (sl : Nat) : State :=
  if s.slState sl ≠ slOff then s
  else
    let s := (s.setSl sl slSearch).setLink sl .init
    let s := s.setFld F.SL_STATUS_DOWNLOADED 0 sl
    s.slLost sl

/-- The slice's domains are off (Table 11.7). -/
def State.slPowerOff (s : State) (sl : Nat) : State :=
  let s := (s.setSl sl slOff).setLink sl .init
  let s := ((s.setFld F.SL_STATUS_DOWNLOADED 0 sl).setFld F.SL_STATUS_VERSION 0 sl).setFld F.SL_STATUS_UP_LOCK 0 sl
  (s.setFld F.SL_STATUS_DOWN_LOCK 0 sl).slLost sl

/-- RUN is entered once DOWNLOAD has delivered everything (Table 11.7, R278, R281). -/
def State.slEnterRun (s : State) (sl : Nat) : State :=
  let l := s.link sl
  let s := ((s.setSl sl slRun).setFld F.SL_STATUS_DOWNLOADED 1 sl).setLink sl
    { l with late := false, obeys := l.down.locked && decide (2 ≤ l.heard) }
  let s := s.setReg64 R.SL_RUN_TIME s.stamp.toNat sl
  (s.ev 0x0B01 [.b8 sl, .b8 (s.fld F.SL_STATUS_VERSION sl), .b32 (s.reg R.SL_ACQ_NS sl)]).alignCheck

/-! ### Alignment (R275, R276) -/

/-- A rejected candidate: the search goes on one position later. -/
def Rx.reject (r : Rx) (p : Nat) : Rx := { r with syncs := 0, crcs := 0, from_ := p + 1 }

/-- What a frame at position p does to a lane's receiver: 0 nothing, 1 lock declared, 2 candidate rejected, 3 lock lost for
missing sync words, 4 lock lost for CRC errors. (DEDUCED, log entry 85.) -/
def Rx.step (r : Rx) (p : Nat) (sync good : Bool) : Rx × Nat :=
  if !r.locked then
    if !sync then (r.reject p, 2)
    else
      let n := r.syncs + 1
      if 4 ≤ n ∧ 2 ≤ r.crcs then
        ({ r with locked := true, pos := p, syncs := 0, crcs := 0, missing := 0, errs := [!good] }, 1)
      else if good then ({ r with pos := p, syncs := n, crcs := r.crcs + 1 }, 0)
      else (r.reject p, 2)
  else
    let missing := if sync then 0 else r.missing + 1
    let errs := ((!good) :: r.errs).take 64
    if 4 ≤ missing then (.init, 3)
    else if 8 ≤ (errs.filter (·)).length then (.init, 4)
    else ({ r with missing := missing, errs := errs }, 0)

/-- The frame at position p of the last stretch and a new one. -/
def slFrameAt (last line : BitVec 625) (p : Nat) : BitVec 625 := BitVec.ofNat 625 ((last.toNat + 2 ^ 625 * line.toNat) / 2 ^ p)

/-- The first position from which a sync word stands, not before the one given (R275). -/
def slFind (last line : BitVec 625) (from_ : Nat) : Option Nat :=
  (List.range 626).find? fun p => decide (from_ ≤ p) && frameSync (slFrameAt last line p)

/-- What 625 more bits give a receiver: its state, what has happened to it (as Rx.step says), the frame that has completed,
whether the frame is accepted (R273) and whether it has failed CRC in lock. -/
structure RxOut where
  rx : Rx
  what : Nat
  frame : BitVec 625
  accepted : Bool
  bad : Bool
  deriving DecidableEq, Repr

def Rx.take (r : Rx) (line : BitVec 625) : RxOut :=
  match (if r.locked ∨ r.syncs ≠ 0 then some r.pos else slFind r.last line r.from_) with
  | none => ⟨{ r with last := line, from_ := 1, since := r.since + 1 }, 0, 0, false, false⟩
  | some p =>
    let f := slFrameAt r.last line p
    let sync := frameSync f
    let good := frameGood f
    let (r', what) := r.step p sync good
    ⟨{ r' with last := line, since := if 3 ≤ what then 0 else r.since + 1 }, what, f, r'.locked && sync && good, r.locked && !good⟩

/-- From the start of the search to the end of the fourth sync word, in ns, right after lock (R280): 1.6 ns a bit. (DEDUCED, log
entry 85.) -/
def Rx.acqNs (r : Rx) : Nat := (625 * (r.since - 1) + r.pos - 593) * 8 / 5

/-- The highest version that two bitmaps set; 0 for none (R279). -/
def slCommon (a b : Nat) : Nat := (List.range 16).foldl (fun v n => if bit a n && bit b n then n + 1 else v) 0

/-- HELLO accepted on the up lane (R279): the bitmap of the slice. -/
def State.slHelloIn (s : State) (sl bitmap : Nat) : State :=
  let l := s.link sl
  if s.slState sl ≠ slHello then s
  else
    let s := s.setLink sl { l with hellos := l.hellos + 1 }
    if l.hellos + 1 < 2 then s
    else
      let v := slCommon slVersions bitmap
      if v = 0 then (s.setSl sl slRefused).ev 0x0B03 [.b8 sl, .b16 bitmap]
      else
        let s := (s.setFld F.SL_STATUS_VERSION v sl).setSl sl slDownload
        s.setLink sl { s.link sl with items := downloadItems sl }

/-- ACK of an accepted up frame: the down frame that began 1.5 µs before it has passed CRC (R273, Table 11.2). The last item of
DOWNLOAD acknowledged enters RUN. -/
def State.slAck (s : State) (sl : Nat) (ack : Bool) : State :=
  let l := s.link sl
  let flight := if ack then l.flight.map fun x => if x.sent + 2 = s.tick then { x with acked := true } else x else l.flight
  let s := s.setLink sl { l with flight := flight }
  if s.slState sl = slDownload ∧ l.items = [] ∧ flight.all (·.acked) then s.slEnterRun sl else s

/-- The slice reports its down lane (R280): lock, CRC errors, and losses of lock, which end the states after SEARCH. -/
def State.slReport (s : State) (sl : Nat) : State :=
  let l := s.link sl
  let s := s.setFld F.SL_STATUS_DOWN_LOCK (b2n l.down.locked) sl
  let s := s.setFld F.SL_COUNTS_0_DOWN_CRC (min (s.fld F.SL_COUNTS_0_DOWN_CRC sl + l.downCrc) 0xFFFF) sl
  let s := s.setLink sl { l with downCrc := 0, downLost := [] }
  foldState (fun s what => s.slLoss sl true what) l.downLost s

/-- An accepted up frame. -/
def State.slUpAccepted (s : State) (sl h p : Nat) : State :=
  let s := (s.slReport sl).slLocked sl
  let kind := bits h 15 14
  if kind = fkHello then s.slHelloIn sl (bits p 15 0)
  else if kind = fkData then
    let s := if s.slState sl = slHello then s.setLink sl { s.link sl with hellos := 0 } else s
    let s := s.slAck sl (bit h 13)
    if s.slState sl = slRun ∧ 6 ≤ sl then s.dPresent (sl - 6) (bits p 31 0) else s
  else s

/-- An up frame that is not accepted delivers its records 3 µs later, when it is sent again (R273). (DEDUCED, log entry 143.) -/
def State.slDelay (s : State) (sl : Nat) : State :=
  let hit (u : Update) : Bool := u.ofSlice sl && u.due == s.tick + 1
  let s' := { s with image.updates := s.image.updates.map fun u => if hit u then { u with due := u.due + 3 } else u }
  if s.image.updates.any hit then s'.bump F.SL_COUNTS_2_UP_RESEND sl else s'

/-- The commands of an accepted down DATA frame reach the output stages (Table 11.5). -/
def State.slApply (s : State) (sl payload : Nat) : State :=
  foldState (fun s c =>
    if sl < 6 then
      let g := 32 * sl + c
      if aIsOut (s.aMode g) ∧ s.override sl = .none ∧ !s.aHeldOff g then
        s.setAch g { s.achan g with stage := ⟨true, bits payload (15 * c + 14) (15 * c)⟩ }
      else s
    else
      let n := 32 * (sl - 6) + c
      if dIsOut (s.dMode n) ∧ s.override sl = .none ∧ !s.dHeldOff n then
        s.setDch n { s.dchan n with stage := ⟨true, b2n (bit payload c)⟩ }
      else s) (List.range 32) s

/-- The slice follows no command any more: its outputs go to their SAFE words at once (R277). -/
def State.slHold (s : State) (sl heard : Nat) : State :=
  let s := s.setLink sl { s.link sl with obeys := false, heard := heard }
  foldState (fun s c => if sl < 6 then s.aStage (32 * sl + c) else s.dStage (32 * (sl - 6) + c)) (List.range 32) s

/-- A down frame that the slice has accepted (R271, R272, R277, R279): HOLD and HELLO end its following, HELLO counts, a DATA
frame brings its item and, in RUN, the commands. -/
def State.slDownAccepted (s : State) (sl h p : Nat) : State :=
  let l := s.link sl
  let kind := bits h 15 14
  if kind = fkHello then (if l.obeys then s.slHold sl 1 else s.setLink sl { l with heard := l.heard + 1 })
  else if kind = fkHold then s.slHold sl 0
  else if l.heard < 2 then s.setLink sl { l with heard := 0 }
  else
    let s := if bit h 12 then s.setLink sl { l with copy := nset 0 l.copy (bits h 11 0) (BitVec.ofNat 64 (bits p 543 480)) } else s
    if l.obeys then s.slApply sl p else s

/-- 625 bits of the down lane reach the slice. A frame that it accepts is one that the core has sent. -/
def State.slDown (s : State) (sl : Nat) (line : BitVec 625) : State :=
  let l := s.link sl
  let o := l.down.take line
  let h := frameHeader o.frame
  let p := framePayload o.frame
  if o.accepted ∧ !l.sent.contains ⟨h, p⟩ then s
  else
    let s := s.setLink sl { l with down := o.rx, downCrc := l.downCrc + b2n o.bad,
                                   downLost := l.downLost ++ (if 3 ≤ o.what then [o.what] else []) }
    if o.what = 2 then s.bump F.SL_COUNTS_1_FALSE_CAND sl
    else if 3 ≤ o.what then s.slHold sl 0
    else
      let s := if o.what = 1 then s.setReg R.SL_ACQ_NS o.rx.acqNs sl else s
      if o.accepted then s.slDownAccepted sl h p else s

/-- 625 bits of the up lane reach the core. -/
def State.slUp (s : State) (sl : Nat) (line : BitVec 625) : State :=
  let l := s.link sl
  let o := l.up.take line
  let s := s.setLink sl { l with up := o.rx, ack := o.accepted }
  let s := s.setFld F.SL_STATUS_UP_LOCK (b2n o.rx.locked) sl
  let s := if o.bad then s.bump F.SL_COUNTS_0_UP_CRC sl else s
  if o.what = 2 then s.bump F.SL_COUNTS_1_FALSE_CAND sl
  else if 3 ≤ o.what then s.slLoss sl false o.what
  else
    let s := if o.what = 1 then s.setReg R.SL_ACQ_NS o.rx.acqNs sl else s
    if o.accepted then s.slUpAccepted sl (frameHeader o.frame) (framePayload o.frame)
    else if o.rx.locked ∧ s.slState sl = slRun then s.slDelay sl
    else s

/-- SLICE_LINK_FRAME_RECEIVED: the next 625 bits of a lane (R273, R275, R276). -/
def State.slFrame (s : State) (sl : Nat) (down : Bool) (line : BitVec 625) : State :=
  if s.slState sl = slOff then s else if down then s.slDown sl line else s.slUp sl line

/-- SLICE_LINK_RUN_TIMEOUT (R278). -/
def State.slRunTimeout (s : State) (sl : Nat) : State :=
  if s.slState sl = slOff ∨ s.slState sl = slRun then s
  else
    ((s.setLink sl { s.link sl with late := true }).ev 0x0B04 [.b8 sl]).alignCheck

/-- LINK_OUTSIDE_RUN_TIMEOUT (R470). -/
def State.slOutside (s : State) (sl : Nat) : State :=
  if s.slState sl = slOff ∨ s.slState sl = slRun ∨ !s.slUsed sl then s
  else s.setLink sl { s.link sl with late := true }

def execSliceLinkFrameReceived (sl : Fin 16) (down : Bool) (line : BitVec 625) (s : State) :
    Host.Outcome State Fault Refusal := .next (s.slFrame sl.val down line)
def execSliceLinkRunTimeout (sl : Fin 16) (s : State) : Host.Outcome State Fault Refusal := .next (s.slRunTimeout sl.val)
def execLinkOutsideRunTimeout (sl : Fin 16) (s : State) : Host.Outcome State Fault Refusal := .next (s.slOutside sl.val)

end Sys2Proof.Machine
end

