-- ==== Sys2Proof/Machine/Can.lean ====
section
/-! DEFINITION. CAN FD channels (chapter 16): modes and integration, the transmit buffer and arbitration, error
confinement and bus-off, filters, items, configuration, domain trips and pairs. -/

namespace Sys2Proof.Machine

/-- CAN_STATUS.STATE codes (Table 16.8). -/
abbrev csStopped := 0
abbrev csIntegrating := 1
abbrev csActive := 2
abbrev csPassive := 3
abbrev csBusOff := 4


def State.canCh (s : State) (n : Nat) : CanCh := nget .init s.can n
def State.setCan (s : State) (n : Nat) (x : CanCh) : State := { s with can := nset .init s.can n x }
def State.canState (s : State) (n : Nat) : Nat := s.fld F.CAN_STATUS_STATE n
def State.canOwner (s : State) (n : Nat) : Nat := s.fld F.CAN_OWNER_ACCOUNT n

/-- The channel takes part in traffic: it runs, and the module is mated (R19). -/
def State.canOnBus (s : State) (n : Nat) : Bool :=
  s.plate.mated && (s.canState n == csActive || s.canState n == csPassive) && s.canMode n != cmOff && !(s.canCh n).tripped

/-- The channel may send frames (Table 16.3). -/
def State.canSends (s : State) (n : Nat) : Bool :=
  s.canOnBus n && [cmNormal, cmLoopInt, cmLoopExt].contains (s.canMode n)

/-- The producer till of a channel (R394). -/
def State.canTill (s : State) (n : Nat) : Option Nat := s.findTill (s.canOwner n) true ekCan n

/-! ### Items -/

/-- Data length of a DLC (R395, ISO 11898-1). -/
def canLen (fdf : Bool) (dlc : Nat) : Nat :=
  if dlc ≤ 8 then dlc
  else if !fdf then 8
  else [12, 16, 20, 24, 32, 48, 64].getD (dlc - 9) 64

/-- Bytes packed eight to a word, first byte in bits 7:0 (R395). -/
def canWords (l : List Byte) : List W64 := packBytes l

/-- IDE, FDF, BRS, ESI and DLC of word 0 (Table 16.5). -/
def canFlags (ide fdf brs esi : Bool) (dlc : Nat) : Nat :=
  b2n ide * 2 ^ 59 + b2n fdf * 2 ^ 58 + b2n brs * 2 ^ 57 + b2n esi * 2 ^ 56 + dlc * 2 ^ 52

/-- The 4-bit count of attempts in a completion (Table 16.5): what it shows above 15 is left open. (DESIGN CHOICE, log entry 149.)
-/
def canAttempts (n : Nat) : Nat := if n ≤ 15 then n else (Config.canAttempts n).toNat

/-- Write the completion item of a frame into its reservation of 4 words (R400). -/
def State.canComplete (s : State) (n : Nat) (f : CanFrame) (status cause sof : Nat) : State :=
  match s.canTill n with
  | none => s
  | some t =>
    let w0 := 2 * 2 ^ 60 + canFlags f.ide f.fdf f.brs false f.dlc + status * 2 ^ 40 + cause * 2 ^ 32 + f.id
    let w2 := (s.tick - f.readAt) % 2 ^ 32 * 2 ^ 32 + canAttempts f.attempts * 2 ^ 16 + f.ref
    s.tillComplete (s.canOwner n) t 4
      [BitVec.ofNat 64 w0, if status = 0 then s.stampNs sof else 0, BitVec.ofNat 64 w2]

/-- Take a frame out of the transmit buffer. -/
def State.canRemove (s : State) (n : Nat) (f : CanFrame) : State :=
  let ch := s.canCh n
  s.setCan n { ch with pend := ch.pend.filter (·.order != f.order), cur := if ch.cur = some f.order then none else ch.cur }

/-- Discard a pending frame with a cause of Table 16.5 (R397). -/
def State.canDiscard (s : State) (n cause : Nat) (f : CanFrame) : State :=
  let s := (s.canRemove n f).bump F.CAN_COUNTS_1_TX_DISCARD n
  let s := if f.conf then s.canComplete n f 6 cause 0 else s
  s.ev 0x1005 [.b8 n, .b32 f.id, .b8 cause, .b32 (s.tick - f.readAt)]

/-! ### Arbitration (R397) -/

/-- Arbitration order: base identifier, base frame first, the rest of the identifier, order of reading. -/
def CanFrame.rank (f : CanFrame) : List Nat :=
  if f.ide then [f.id / 2 ^ 18, 1, f.id % 2 ^ 18, f.order] else [f.id, 0, 0, f.order]

def canBest (l : List CanFrame) : Option CanFrame :=
  l.foldl (fun b f => match b with
    | none => some f
    | some g => if f.rank < g.rank then some f else some g) none

/-- Discard the pending frames whose age exceeds their deadline. -/
def State.canExpire (s : State) (n : Nat) : State :=
  foldState (fun s f => s.canDiscard n 1 f)
    ((s.canCh n).pend.filter fun f => f.deadlineMs != 0 && decide (1000 * f.deadlineMs < s.tick - f.readAt)) s

/-- The channel may start a frame: deadlines, then the frame that would win arbitration is offered. (DEDUCED, log entry 108.) -/
def State.canOffer (s : State) (n : Nat) : State :=
  if !s.canSends n then s
  else
    let s := s.canExpire n
    let ch := s.canCh n
    s.setCan n { ch with cur := (canBest ch.pend).map (·.order) }

/-- Offer a frame where none is offered. -/
def State.canOfferIdle (s : State) (n : Nat) : State := if (s.canCh n).cur.isNone then s.canOffer n else s

/-- The frame offered. -/
def State.canCur (s : State) (n : Nat) : Option CanFrame :=
  match (s.canCh n).cur with
  | some o => (s.canCh n).pend.find? (·.order == o)
  | none => none

/-! ### Reading transmit items (R395, R396) -/

/-- An account reset has dropped the reservations for the completions of channel n's frames (Table 4.4, step 4): the frames stay,
and end without a completion item. (DESIGN CHOICE, log entry 128.) -/
def State.canForget (s : State) (n : Nat) : State :=
  let ch := s.canCh n
  s.setCan n { ch with pend := ch.pend.map fun f => { f with conf := false } }

/-- CAN_TX_ITEM_READ: the next item of the consumer till. An item with a KIND other than 0x1 is refused; so is one with an
uncorrectable word (R91; DESIGN CHOICE, log entry 138). -/
def State.canRead (s : State) (n : Nat) (ecc : List Ecc) : State :=
  let a := s.canOwner n
  let ch := s.canCh n
  match s.findTill a false ekCan n with
  | none => s
  | some t =>
    let x := s.till a t
    if x.unread < 2 ∨ 32 ≤ ch.pend.length ∨ s.canMode n = cmOff ∨ !s.canActive ∨ ch.tripped then s
    else
      let w (i : Nat) : Nat :=
        (if ecc.getD i .clean = .double then idleItem else nget 0 s.tillMem (s.tillPos a t (x.rd + i))).toNat
      let h := w 0
      let fdf := bit h 58
      let conf := bit h 56
      let dlc := bits h 55 52
      let len := canLen fdf dlc
      let words := 2 + (len + 7) / 8
      let pt := s.canTill n
      let room := match pt with | some p => decide (4 ≤ s.tillFree a p) | none => true
      if x.unread < words ∨ (conf && !room) then s
      else
        let (ws, s) := s.tillTake a t ecc words
        let s := s.tillCmd a t 3
        let body := dwordsBytes (ws.drop 2)
        let bad := (ecc.take words).any (· == .double) || bits h 63 60 != 1 || bits h 31 29 != 0 ||
          (!bit h 59 && bits h 28 11 != 0) || bits (w 1) 63 16 != 0 ||
          (body.drop len).any (· != 0) || (bit h 57 && !fdf) || (fdf && !s.flag F.CAN_CFG_FD n) || (conf && pt.isNone)
        let f : CanFrame := ⟨bit h 59, fdf, bit h 57, conf, dlc, bits h 51 48, bits h 47 32, bits h 28 0, bits (w 1) 15 0,
          body.take len, s.tick, 0, ch.next⟩
        let s := match conf, pt with | true, some p => s.tillReserve a p 4 | _, _ => s
        if bad then
          let s := s.bump F.CAN_COUNTS_1_TX_REFUSED n
          if conf then s.canComplete n f 9 3 0 else s
        else (s.setCan n { ch with pend := ch.pend ++ [f], next := ch.next + 1 }).canOfferIdle n

/-! ### Receiving (R401, R402) -/

/-- Filter f of channel n matches an identifier. -/
def State.canMatch (s : State) (n f : Nat) (ide : Bool) (id : Nat) : Bool :=
  s.flag F.CAN_FLT_CTRL_EN n f && s.flag F.CAN_FLT_ID_IDE n f == ide &&
    Nat.land (Nat.xor (s.fld F.CAN_FLT_ID_ID n f) id) (s.fld F.CAN_FLT_MASK_MASK n f) == 0

/-- The 8 data bytes from an offset, little-endian, zero beyond the length. -/
def canValue (data : List Byte) (off : Nat) : W64 := BitVec.ofNat 64 (leAt data off 8)

/-- A received frame, or one of the module's own in a loop-back mode, meets the filters. -/
def State.canFilter (s : State) (n : Nat) (f : CanRx) (loop : Bool) : State :=
  let s := s.bump F.CAN_COUNTS_0_RX_OK n
  let hits := (List.range 64).filter fun k => s.canMatch n k f.ide f.id.toNat
  if f.remote || hits.isEmpty then s.bump F.CAN_COUNTS_2_NOMATCH n
  else if !s.canActive then s
  else
    let stamp := s.stampNs f.sof
    let s := foldState (fun s k =>
      if s.flag F.CAN_FLT_CTRL_SIG n k then
        s.deliver kCan (64 * n + k) ⟨canValue f.data (s.fld F.CAN_FLT_CTRL_BYTE_OFF n k), qValid, stamp⟩
      else s) hits s
    match hits.find? fun k => s.flag F.CAN_FLT_CTRL_TILL n k, s.canTill n with
    | some k, some _ =>
      let ch := s.canCh n
      if 64 ≤ ch.rx.length then
        let s := s.bump F.CAN_COUNTS_2_RX_LOST n
        if ch.lostSaid then s
        else (s.setCan n { ch with lostSaid := true }).ev 0x1004 [.b8 n, .b16 (s.fld F.CAN_COUNTS_2_RX_LOST n)]
      else
        let w0 := 2 ^ 60 + canFlags f.ide f.fdf f.brs f.esi f.dlc.val + b2n loop * 2 ^ 51 + k * 2 ^ 32 + f.id.toNat
        s.setCan n { ch with rx := ch.rx ++ [BitVec.ofNat 64 w0 :: stamp :: canWords f.data] }
    | _, _ => s

/-! ### Error confinement (R398, ISO 11898-1) -/

/-- Error-active or error-passive by the counters; entry into error-passive is counted and recorded. -/
def State.canConfine (s : State) (n : Nat) : State :=
  let st := s.canState n
  let high := decide (127 < s.fld F.CAN_STATUS_TEC n ∨ 127 < s.fld F.CAN_STATUS_REC n)
  if st = csActive ∧ high then
    ((s.setFld F.CAN_STATUS_STATE csPassive n).bump F.CAN_COUNTS_3_PASSIVE n).ev 0x1001
      [.b8 n, .b8 (s.fld F.CAN_STATUS_TEC n), .b8 (s.fld F.CAN_STATUS_REC n)]
  else if st = csPassive ∧ !high then s.setFld F.CAN_STATUS_STATE csActive n
  else s

/-- CAN_LAST_ERR.CODE (Table 16.8). -/
def canErrCode : CanErr → Nat
  | .stuff => 1 | .form => 2 | .ack => 3 | .bit1 => 4 | .bit0 => 5 | .crc => 6

/-- An error is detected: it is counted and shown. -/
def State.canDetect (s : State) (n : Nat) (code : CanErr) (dataPhase : Bool) : State :=
  (s.bump F.CAN_COUNTS_3_ERRORS n).setReg R.CAN_LAST_ERR (b2n dataPhase * 2 ^ 8 + canErrCode code) n

/-- REC after an error as receiver; RESTRICTED leaves the counters unchanged, and REC does not pass 255. -/
def State.canRecUp (s : State) (n by_ : Nat) : State :=
  if s.canMode n = cmRestricted then s
  else (s.setFld F.CAN_STATUS_REC (min 255 (s.fld F.CAN_STATUS_REC n + by_)) n).canConfine n

/-- REC after a frame received: above 127 it becomes a value from 119 to 127 that ISO 11898-1 leaves open. (DEDUCED, log entry
107.) -/
def State.canRecDown (s : State) (n : Nat) : State :=
  let rec_ := s.fld F.CAN_STATUS_REC n
  if s.canMode n = cmRestricted ∨ rec_ = 0 then s
  else if rec_ ≤ 127 then (s.setFld F.CAN_STATUS_REC (rec_ - 1) n).canConfine n
  else
    let v := 119 + (Config.freeValue s.free).toNat % 9
    (s.draw.setFld F.CAN_STATUS_REC v n).canConfine n

/-- CAN_RX_FRAME. A recessive res bit, or a CAN FD frame while FD is 0, is a protocol exception with PEX at 1, and a form error
with PEX at 0 (Table 16.1). -/
def State.canReceive (s : State) (n : Nat) (f : CanRx) : State :=
  if !s.canOnBus n ∨ s.canMode n = cmLoopInt then s
  else if f.fdf ∧ (f.res ∨ !s.flag F.CAN_CFG_FD n) then
    if s.flag F.CAN_CFG_PEX n then
      (s.setFld F.CAN_STATUS_STATE csIntegrating n).setCan n { s.canCh n with cur := none }
    else ((s.canDetect n .form false).canRecUp n 1).canOffer n
  else ((s.canFilter n f false).canRecDown n).canOffer n

/-- CAN_RX_ITEM_WRITE: the oldest buffered item fits the till. -/
def State.canRxWrite (s : State) (n : Nat) : State :=
  let ch := s.canCh n
  match ch.rx, s.canTill n with
  | item :: rest, some t =>
    let a := s.canOwner n
    if s.tillFree a t < item.length then s
    else foldState (fun s w => s.tillPut a t w) item (s.setCan n { ch with rx := rest })
  | _, _ => s

/-- Start bus integration in the mode in effect; OFF stops the channel. -/
def State.canStart (s : State) (n : Nat) : State :=
  let s := s.setCan n { s.canCh n with cur := none }
  s.setFld F.CAN_STATUS_STATE (if s.canMode n = cmOff ∨ (s.canCh n).tripped then csStopped else csIntegrating) n

/-- After a frame of its own a channel offers the next, or enters LISTEN where the module is no longer active (R404). -/
def State.canNext (s : State) (n : Nat) : State := if s.canActive then s.canOffer n else s.canStart n

/-- CAN_TX_COMPLETE: the offered frame has been sent; in a loop-back mode it is received as well. -/
def State.canSent (s : State) (n sof tdcv : Nat) : State :=
  match s.canCur n with
  | none => s
  | some f =>
    if !s.canOnBus n then s
    else
      let m := s.canMode n
      let f := { f with attempts := f.attempts + 1 }
      let s := (s.canRemove n f).bump F.CAN_COUNTS_0_TX_OK n
      let s := if f.fdf ∧ s.flag F.CAN_TDC_EN n then s.setFld F.CAN_TDC_TDCV tdcv n else s
      let s := (s.setFld F.CAN_STATUS_TEC (s.fld F.CAN_STATUS_TEC n - 1) n).canConfine n
      let s := if f.conf ∧ s.canActive then s.canComplete n f 0 0 sof else s
      let s := if m = cmLoopInt ∨ m = cmLoopExt then
          s.canFilter n ⟨f.ide, f.fdf, f.brs, false, false, Fin.ofNat 16 f.dlc, BitVec.ofNat 29 f.id, f.data, sof, false⟩ true
        else s
      s.canNext n

/-- CAN_TX_ERROR (R397 to R399): exempt says that ISO 11898-1 exempts this error from raising TEC. -/
def State.canTxError (s : State) (n : Nat) (code : CanErr) (dataPhase exempt : Bool) : State :=
  match s.canCur n with
  | none => s
  | some f =>
    if !s.canOnBus n then s
    else
      let s := s.canDetect n code dataPhase
      let s := if s.canActive then s else s.canRemove n f
      let tec := s.fld F.CAN_STATUS_TEC n + if exempt then 0 else 8
      if 255 < tec then
        let s := ((s.setFld F.CAN_STATUS_TEC 255 n).setFld F.CAN_STATUS_STATE csBusOff n).setFld F.CAN_STATUS_RECOVERY 0 n
        let s := (s.bump F.CAN_COUNTS_3_BUS_OFF n).setCan n { s.canCh n with cur := none, busOffAt := s.tick }
        s.ev 0x1002 [.b8 n, .b16 (s.reg R.CAN_LAST_ERR n), .b8 (s.canCh n).pend.length]
      else
        let s := (s.setFld F.CAN_STATUS_TEC tec n).canConfine n
        let ch := s.canCh n
        let f' := { f with attempts := f.attempts + 1 }
        let s := s.setCan n { ch with pend := ch.pend.map fun g => if g.order = f.order then f' else g }
        let s := if f.retry ≠ 15 ∧ f.retry + 1 ≤ f'.attempts ∧ s.canActive then s.canDiscard n 2 f' else s
        s.canNext n

/-- CAN_BUS_ERROR (R398): first says that the bit after the channel's error flag was dominant, which adds 8. -/
def State.canBusError (s : State) (n : Nat) (code : CanErr) (dataPhase first : Bool) : State :=
  if !s.canOnBus n ∨ s.canMode n = cmLoopInt then s
  else ((s.canDetect n code dataPhase).canRecUp n (if first then 8 else 1)).canOffer n

/-- The channel takes part in traffic again: deadlines, then an offer (R399). -/
def State.canRecovered (s : State) (n : Nat) : State := (s.canExpire n).canOffer n

/-- CAN_BUSOFF_RECOVERY (R398, R399). -/
def State.canRecover (s : State) (n : Nat) : State :=
  if s.canState n ≠ csBusOff ∨ (s.canCh n).tripped then s
  else
    let s := ((s.setFld F.CAN_STATUS_TEC 0 n).setFld F.CAN_STATUS_REC 0 n).setFld F.CAN_STATUS_RECOVERY 128 n
    let s := (s.setFld F.CAN_STATUS_STATE csActive n).ev 0x1003 [.b8 n, .b32 (s.tick - (s.canCh n).busOffAt)]
    s.canRecovered n

/-- CAN_INTEGRATED (R392). -/
def State.canIntegrated (s : State) (n : Nat) : State :=
  if s.canState n ≠ csIntegrating then s
  else ((s.setFld F.CAN_STATUS_STATE csActive n).canConfine n).canRecovered n

/-! ### Configuration, domains, pairs -/

/-- The bit timings obey R390. -/
def canNbtOk (v : Nat) : Bool := decide (bits v 11 5 ≤ bits v 18 12 ∧ 1 ≤ bits v 26 19)
def canDbtOk (v : Nat) : Bool := decide (bits v 11 8 ≤ bits v 15 12)

/-- A written configuration register waits for the end of the frame in progress (R393). -/
def State.canCfgWrite (s : State) (n off : Nat) (v : W32) : State :=
  s.setCan n { s.canCh n with cfg := nset none (s.canCh n).cfg off (some v) }

/-- CAN_CONFIG_APPLY (R393). -/
def State.canCfgApply (s : State) (n : Nat) : State :=
  let ch := s.canCh n
  if ch.cfg = [] then s
  else
    let keep (off : Nat) (r : Reg) (s : State) : State :=
      match nget none ch.cfg off with
      | some v => s.setReg r v.toNat n
      | none => s
    let tdcv := s.fld F.CAN_TDC_TDCV n
    let s := keep 12 R.CAN_TDC (keep 8 R.CAN_DBT (keep 4 R.CAN_NBT (keep 0 R.CAN_CFG s)))
    let s := (s.setFld F.CAN_TDC_TDCV tdcv n).setCan n { ch with cfg := [] }
    let s := (s.setFld F.CAN_STATUS_TEC 0 n).setFld F.CAN_STATUS_REC 0 n
    let s := if s.fld F.CAN_CFG_MODE n = cmOff then foldState (fun s f => s.canDiscard n 4 f) (s.canCh n).pend s else s
    (s.canStart n).ev 0x1007 [.b8 n, .b8 (s.fld F.CAN_CFG_MODE n)]

/-- The channel's domain trips, and its return (R403). -/
def State.canTrip (s : State) (n : Nat) : State :=
  if s.fld F.CAN_CFG_MODE n = cmOff ∨ (s.canCh n).tripped then s
  else ((s.setCan n { s.canCh n with tripped := true }).canStart n).ev 0x1006 [.b8 n]

def State.canRestart (s : State) (n : Nat) : State :=
  if !(s.canCh n).tripped then s
  else ((s.setCan n { s.canCh n with tripped := false }).canStart n).ev 0x1006 [.b8 n]

/-- The module ceases to be active (R404): a frame already started completes, the others leave without completions, and a channel
that has started none enters LISTEN. -/
def State.canCease (s : State) : State :=
  foldState (fun s n =>
    let ch := s.canCh n
    let owed := (ch.pend.filter (·.conf)).length
    let s := match s.canTill n with
      | some t => let x := s.till (s.canOwner n) t; s.setTill (s.canOwner n) t { x with reserved := x.reserved - 4 * owed }
      | none => s
    let kept := (ch.pend.filter fun f => ch.cur = some f.order).map fun f => { f with conf := false }
    let s := s.setCan n { ch with pend := kept }
    if ch.cur.isNone && s.canOnBus n then s.canStart n else s) (List.range 4) s

/-- The module becomes active (R404): every used channel runs in its configured mode. -/
def State.canBegin (s : State) : State :=
  foldState (fun s n => if s.fld F.CAN_CFG_MODE n = cmOff then s else s.canStart n) (List.range 4) s

/-! ### Commands -/

/-- The operands of a received frame agree (R389, R395). -/
def canRxOk (f : CanRx) : Bool :=
  (f.data.length == if f.remote then 0 else canLen f.fdf f.dlc.val) && (f.ide || decide (f.id.toNat < 2 ^ 11)) &&
    !(f.remote && f.fdf) && (f.fdf || (!f.brs && !f.esi && !f.res))

def execCanTxItemRead (n : Fin 4) (ecc : List Ecc) (s : State) : Host.Outcome State Fault Refusal :=
  .next (s.canRead n.val ecc)
def execCanTxComplete (n : Fin 4) (sof : Nat) (tdcv : BitVec 8) (s : State) : Host.Outcome State Fault Refusal :=
  .next (s.canSent n.val sof tdcv.toNat)
def execCanTxError (n : Fin 4) (code : CanErr) (dataPhase exempt : Bool) (s : State) :
    Host.Outcome State Fault Refusal := .next (s.canTxError n.val code dataPhase exempt)
def execCanBusoffRecovery (n : Fin 4) (s : State) : Host.Outcome State Fault Refusal := .next (s.canRecover n.val)
def execCanIntegrated (n : Fin 4) (s : State) : Host.Outcome State Fault Refusal := .next (s.canIntegrated n.val)
def execCanRxFrame (n : Fin 4) (f : CanRx) (s : State) : Host.Outcome State Fault Refusal :=
  if canRxOk f then .next (s.canReceive n.val f) else .fault (.illFormed "CAN_RX_FRAME")
def execCanRxItemWrite (n : Fin 4) (s : State) : Host.Outcome State Fault Refusal := .next (s.canRxWrite n.val)
def execCanConfigApply (n : Fin 4) (s : State) : Host.Outcome State Fault Refusal := .next (s.canCfgApply n.val)
def execCanBusError (n : Fin 4) (code : CanErr) (dataPhase first : Bool) (s : State) :
    Host.Outcome State Fault Refusal := .next (s.canBusError n.val code dataPhase first)

end Sys2Proof.Machine
end

