-- ==== Sys2Proof/Machine/PairBase.lean ====
section
/-! DEFINITION. The base of pairs (chapter 15): ledger-link frames, RELINQUISH (R373), what a module does when it ceases to
be active, and the question of two modules active under one station address (R380). -/

namespace Sys2Proof.Machine

/-- LL_STATUS.STATE codes (Table 15.18). -/
abbrev llDown := 0
abbrev llSearch := 1
abbrev llHello := 2
abbrev llUp := 3
abbrev llRefused := 4

/-- Frame kinds (Table 15.4). -/
abbrev lkData := 0
abbrev lkHello := 1
abbrev lkRelinquish := 2

def State.llState (s : State) : Nat := s.fld F.LL_STATUS_STATE
def State.peerState (s : State) : Nat := s.fld F.PAIR_STATUS_PEER_STATE

/-- A pair state in which a module is active, or in sync. -/
def psIsActive (st : Nat) : Bool := st == psActive || st == psAlone || st == psOutgoing
def psInSync (st : Nat) : Bool := st == psStandby || st == psMapped

/-- This module's position is the HOME position, and it stands right (R383, R380). -/
def State.atHome (s : State) : Bool := s.fld F.PAIR_CFG_HOME == s.fld F.BASEPLATE_STATUS_PAIR_POS
def State.atRight (s : State) : Bool := s.flag F.BASEPLATE_STATUS_PAIR_POS

/-- CRC of a ledger-link frame (R363). -/
def llCrc (header : W64) (body : List W64) : W32 := crc32 (dwordBytes header ++ bytesOf64 body)

/-- HEADER of a frame of this tick (Table 15.4): HB every 50 ticks (R365), RQ while a reclaim is requested. -/
def State.llHeader (s : State) (kind words : Nat) : W64 :=
  BitVec.ofNat 64 (kind * 2 ^ 62 + b2n (s.tick % 50 == 0) * 2 ^ 61 + s.fld F.PAIR_STATUS_RECLAIM_PENDING * 2 ^ 60 +
    s.pairState * 2 ^ 56 + words * 2 ^ 48 + s.tick % 2 ^ 48)

/-- Send a frame: its body is filled with zeros to 72 words. -/
def State.llSend (s : State) (kind : Nat) (ws : List W64) : State :=
  let h := s.llHeader kind ws.length
  let body := ws ++ List.replicate (72 - ws.length) 0
  { s with pair.frame := some ⟨h, body, llCrc h body⟩ }

/-- Change the pair state; a change into or out of ACTIVE, ALONE or OUTGOING is stamped in PAIR_LAST. -/
def State.setPair (s : State) (st : Nat) : State :=
  let was := psIsActive s.pairState
  let now := psIsActive st
  let s := s.setFld F.PAIR_STATUS_STATE st
  let s := if was || now then s.setReg64 R.PAIR_LAST s.stamp.toNat else s
  if now && !was then { s with pair.activeAt := s.tick } else s

/-- The accounts of a module that does not control are STANDBY (Table 4.11): nothing of theirs runs here. -/
def State.standAccounts (s : State) : State :=
  foldState (fun s a =>
    let st := s.acctState a
    if st = aRunning ∨ st = aStarting then
      let s := (s.stopAccount a).setAcctState a aStandby
      { s with image.fireIn := s.image.fireIn.filter fun f => f.account != a || f.action }
    else s) acctOrder s

/-- This module ceases to be active (R239, R373, R404): it becomes RESYNC or ISOLATED. -/
def State.pairCease (s : State) (st : Nat) : State :=
  let s := ((s.setPair st).standAccounts).hCease
  let s := s.canCease
  { s with pair.sending := false, pair.stream := [], pair.queue := [], pair.marks := [], pair.copy := none,
           pair.resyncing := false, pair.cause := none, pair.hold := [],
           pair.winOpen := false }

/-- Send RELINQUISH with a cause of Table 15.9 (R373): for causes 1 to 7 while ACTIVE with the peer in sync, for cause 8 whenever
this module yields. -/
def State.relinquish (s : State) (cause : Nat) : State :=
  if (cause = 8 ∧ s.asStation) ∨ (s.pairState = psActive ∧ psInSync s.peerState) then
    let s := s.llSend lkRelinquish [BitVec.ofNat 64 s.pair.sent, BitVec.ofNat 64 cause]
    (s.ev 0x0F09 [.b8 cause]).pairCease (if cause = 8 then psIsolated else psResync)
  else s

/-- The peer has been active for less than 10 ms as far as its ledger frames show it: the last that showed it otherwise is less
than 10 ms old. -/
def State.peerYoung (s : State) : Bool :=
  match s.pair.peerIdle with | some t => decide (s.tick - t < 10000) | none => false

/-- An active module meets a frame whose SOURCE is its own STATION (R380): it keeps control (true), or yields. -/
def State.keepsControl (s : State) : Bool :=
  if 10000 ≤ s.tick - s.pair.activeAt then true else s.peerYoung && !s.atRight

/-- Count and record the conflict; who yields sends RELINQUISH and is ISOLATED. Whether control was kept is answered. -/
def State.stationConflict (s : State) : Bool × State :=
  let keep := s.keepsControl
  let s := (s.bump F.PAIR_COUNTS_1_CONFLICTS).ev 0x0F0E [.b8 (Config.openCode (if keep then 70 else 71)).toNat]
  (keep, if keep then s else s.relinquish 8)

end Sys2Proof.Machine
end

