-- ==== Sys2Proof/Machine/Net.lean ====
section
/-! DEFINITION. Network (chapter 13): transceivers and ports, segments, forwarding, input checks and duplicates, peers,
publications and subscriptions, request transactions. -/

namespace Sys2Proof.Machine

/-! ### Transceivers and ports (R303, R304) -/

/-- Port n is used by the configuration and its domain is on (R36, R303). -/
def State.portOn (s : State) (p : Nat) : Bool := bit (s.fld F.NET_PORTS_USED) p && s.domOn (18 + p)

/-- TRANSCEIVER_INSERTED: TX_DISABLE stays asserted until the identification data has been read and accepted. -/
def State.xcvrInsert (s : State) (p : Nat) : State := s.setFld F.PORT_STATUS_XCVR 0 p

/-- TRANSCEIVER_ID_READ (Table 13.1). -/
def State.xcvrRead (s : State) (p : Nat) (id : XcvrId) : State :=
  if !s.portOn p then s
  else if id.readable && (id.sr || id.lr) && decide (id.powerMw ≤ 1500) then
    s.setFld F.PORT_STATUS_XCVR (if id.sr then 1 else 2) p
  else (s.setFld F.PORT_STATUS_XCVR 3 p).ev 0x0D03 [.b8 p]

/-- The heartbeat flags as bits 21:16 of the ANNOUNCE body (R315). -/
def heartbeat (forced fault maint tsValid holdover standby : Bool) : Nat :=
  b2n forced + 2 * b2n fault + 4 * b2n maint + 8 * b2n tsValid + 16 * b2n holdover + 32 * b2n standby

/-- FAULT LED codes that show red (Table 1.12). -/
def State.faultRed (s : State) : Bool := decide (6 ≤ s.ledFault)

/-- The heartbeat flags as they stand (R315). -/
def State.heartbeatFlags (s : State) : Nat :=
  heartbeat (s.forceCount != 0) s.faultRed (s.flag F.SAFE_STATUS_MAINT) s.tsValid
    (s.flag F.TIME_STATUS_HOLDOVER) (s.pairState != psSingle && !s.inControl)

/-- Version bitmap of issue B (R316). -/
abbrev vrelrunVersions : Nat := 0b111

/-- Send an ANNOUNCE on both planes from one address (R314, R315). -/
def State.announceFrom (s : State) (src : Nat) : State :=
  s.netSend nkAnnounce 1 0 src dstKind
    (bytesOf64 [BitVec.ofNat 64 (vrelrunVersions + 0x42 * 2 ^ 8 + s.heartbeatFlags * 2 ^ 16)])

/-- Send an ANNOUNCE from the module address and, where the module presents it, from STATION (R358). -/
def State.announce (s : State) : State :=
  let fl := s.heartbeatFlags
  let s := s.announceFrom s.addr
  let s := if s.asStation then s.announceFrom s.station else s
  { s with net.flags := fl }

/-! ### Segments (R306 to R308) -/

/-- Members of a plane's segment as heard. -/
def State.segMembers (s : State) (plane : Nat) : List (Nat × SegMember) :=
  s.net.members.filterMap fun (k, m) => if k / 4096 = plane then m.map fun x => (k % 4096, x) else none

/-- This module has an UPLINK port with the link up on a plane (R307). -/
def State.isEnd (s : State) (plane : Nat) : Bool :=
  [2 * plane, 2 * plane + 1].any fun p => s.portUp p && s.portRole p == prUplink

/-- The exit end by R308: its address and hops; none when no end is reachable. -/
def State.chooseExit (s : State) (plane : Nat) : Option (Nat × Nat) :=
  if s.isEnd plane then some (s.addr, 0)
  else
    (s.segMembers plane).foldl (fun best (a, m) =>
      if !m.isEnd then best
      else match best with
        | none => some (a, m.hops)
        | some (b, h) => if m.hops < h ∨ (m.hops = h ∧ a < b) then some (a, m.hops) else best) none

/-- Bring NET_SEG of a plane up to date: a change of the exit end is announced and recorded (R308). -/
def State.segUpdate (s : State) (plane : Nat) : State :=
  let (ex, hops) := (s.chooseExit plane).getD (0, 0xFF)
  let was := s.fld F.NET_SEG_EXIT 0 plane
  let s := (s.setFld F.NET_SEG_EXIT ex 0 plane).setFld F.NET_SEG_EXIT_HOPS (min hops 0xFF) 0 plane
  let s := s.setFld F.NET_SEG_MEMBERS (min ((s.segMembers plane).length + 1) 63) 0 plane
  if ex = was then s else (s.announce).ev 0x0D07 [.b8 plane, .b16 ex, .b8 (min hops 0xFF)]

/-- The role of a port is decided: event 0x0D01 carries the first since link-up. (DESIGN CHOICE, log entry 89.) -/
def State.portRoleIs (s : State) (p role neighbour : Nat) : State :=
  let (at_, known) := nget (0, false) s.net.supervised p
  let s := (s.setFld F.PORT_STATUS_ROLE role p).setFld F.PORT_STATUS_NEIGHBOUR neighbour p
  let s := { s with net.supervised := nset (0, false) s.net.supervised p (at_, true) }
  if known then s else s.ev 0x0D01 [.b8 p, .b8 role, .b16 neighbour]

/-- A SUPERVISION frame has arrived on a port (R306). -/
def State.supervised (s : State) (p : Nat) : State :=
  { s with net.supervised := nset (0, false) s.net.supervised p (s.tick, (nget (0, false) s.net.supervised p).2) }

/-- PORT_LINK_UP (Table 13.1, R306): a port reads INNER until its role is decided. (DESIGN CHOICE, log entry 89.) -/
def State.linkUp (s : State) (p : Nat) : State :=
  if !s.portOn p ∨ s.portUp p ∨ (s.fld F.PORT_STATUS_XCVR p ≠ 1 ∧ s.fld F.PORT_STATUS_XCVR p ≠ 2) then s
  else
    let s := ((s.setFld F.PORT_STATUS_LINK 1 p).setFld F.PORT_STATUS_ROLE prInner p).setFld F.PORT_STATUS_NEIGHBOUR 0 p
    let s := { s with net.supervised := nset (0, false) s.net.supervised p (s.tick, false) }
    (s.segUpdate (p / 2)).announce

/-- PORT_LINK_DOWN. -/
def State.linkDown (s : State) (p : Nat) : State :=
  if !s.portUp p then s
  else
    let s := ((s.setFld F.PORT_STATUS_LINK 0 p).setFld F.PORT_STATUS_ROLE prDown p).setFld F.PORT_STATUS_NEIGHBOUR 0 p
    (s.ev 0x0D02 [.b8 p]).segUpdate (p / 2)

/-- A port loses its power (R36, Table 2.3). -/
def State.portOff (s : State) (p : Nat) : State := (s.linkDown p).setFld F.PORT_STATUS_XCVR 0 p

/-- TRANSCEIVER_REMOVED. -/
def State.xcvrRemove (s : State) (p : Nat) : State := s.setFld F.PORT_STATUS_XCVR 0 p

/-- SUPERVISION_SEND (R307): out of each INNER port, never out of an UPLINK port; twice under R358. -/
def State.supervise (s : State) : State :=
  foldState (fun s plane =>
    let ports := [2 * plane, 2 * plane + 1].filter fun p => s.portUp p && s.portRole p == prInner
    let body := bytesOf64 [BitVec.ofNat 64 (vrelrunVersions + s.fld F.NET_SEG_EXIT 0 plane * 2 ^ 8 +
      b2n (s.isEnd plane) * 2 ^ 20)]
    if ports = [] then s
    else
      let s := s.emit ⟨ports, nkSupervision, 1, 0, 0, s.srcInst s.addr, s.addr, dstKind, 0, body, 0⟩
      if s.asStation then s.emit ⟨ports, nkSupervision, 1, 0, 0, s.srcInst s.station, s.station, dstKind, 0, body, 0⟩ else s) [0, 1] s

/-! ### Input checks (R312, R313) -/

/-- The frame fails a check of R313 for a frame of the given kind. -/
def State.malformed (s : State) (f : Frame) (kind : Nat) : Bool :=
  !f.fcs || f.etherType != 0x88B5 || f.bodyLen.toNat != f.body.length || f.zero != 0 ||
    f.kind.toNat != kind || (f.port.val < 4 && (f.source == 0 || f.source.toNat == s.addr)) ||
    (f.port.val == 4 && kind != nkManagement) || (kind != nkSupervision && f.hops != 0) ||
    (f.flags != 0 && !(kind == nkRequest && f.flags == 1))

/-- Drop a frame and count it as MALFORMED; a bad FCS also counts at its port. -/
def State.dropMalformed (s : State) (f : Frame) : State :=
  let s := if f.fcs ∨ 4 ≤ f.port.val then s else s.bump F.PORT_ERR_FCS f.port.val
  s.bump F.NET_DROPS_1_MALFORMED

/-- A frame whose SOURCE is the station this module presents (R380): it is taken no further, and a module that keeps control sends
ANNOUNCE from STATION at once. -/
def State.fromStation (s : State) (f : Frame) : Bool := f.port.val < 4 && s.asStation && f.source.toNat == s.station

def State.meetStation (s : State) : State :=
  let (keep, s) := s.stationConflict
  if keep then s.announceFrom s.station else s

/-- A frame of a kind arrives at a plane port: false when it is dropped (R312, R313), with the state after counting; bad says that
its body is not one of its kind. A REQUEST or REPLY to another address is not received. A second copy within 400 ms only adds its
plane to the record of the first. (DEDUCED, log entry 86.) -/
def State.receive (s : State) (f : Frame) (kind : Nat) (bad : Bool := false) : Bool × State :=
  let p := f.port.val
  let plane := p / 2
  if p < 4 ∧ (!s.portUp p ∨ s.portRole p = prRefused) then (false, s)
  else if (kind = nkRequest ∨ kind = nkReply) ∧ p < 4 ∧ f.fcs ∧ !s.isOwn f.dest.toNat then (false, s)
  else
    let s := if p < 4 then s.bump (whole R.PORT_RX) p else s
    if s.malformed f kind || bad then (false, s.dropMalformed f)
    else if s.fromStation f then (false, s.meetStation)
    else if kind ≠ nkAnnounce ∧ kind ≠ nkSupervision ∧ p < 4 ∧ (s.peer f.source.toNat).state = 2 then
      (false, s.bump F.NET_DROPS_1_VERS)
    else if kind = nkSupervision ∨ p = 4 then (true, s)
    else
      let key := 65536 * f.source.toNat + f.seqNr.toNat
      let (t, planes) := nget (0, 0) s.net.seen key
      if planes ≠ 0 ∧ s.tick < t + 400000 then
        (false, { s with net.seen := nset (0, 0) s.net.seen key (t, planes ||| 2 ^ plane) })
      else (true, { s with net.seen := nset (0, 0) s.net.seen key (s.tick, 2 ^ plane) })

/-- A SUPERVISION frame is forwarded with its HOPS raised by 1, never out of an UPLINK port (R307, R309). -/
def State.superviseOn (s : State) (f : Frame) : State :=
  let p := f.port.val
  let q := if p % 2 = 0 then p + 1 else p - 1
  if s.portRole q = prUplink ∨ !s.forwards p f.source.toNat 0 then s
  else
    State.bump { s with out := s.out ++ [⟨[q], nkSupervision, f.version.toNat, f.flags.toNat, f.hops.toNat + 1, f.inst.toNat,
      f.source.toNat, dstKind, 0, f.body, 0⟩] } (whole R.PORT_FWD) q

/-- SUPERVISION_RECEIVED (R306, R307). -/
def State.superviseIn (s : State) (f : Frame) : State :=
  if 4 ≤ f.port.val ∨ !s.portUp f.port.val then s
  else
    let p := f.port.val
    let plane := p / 2
    if s.malformed f nkSupervision ∨ f.body.length ≠ 8 ∨ bits (leAt f.body 0 8) 63 21 ≠ 0 then s.dropMalformed f
    else if s.fromStation f then s.meetStation
    else
      let s := s.bump (whole R.PORT_RX) p
      let w := leAt f.body 0 8
      let bitmap := bits w 7 0
      let a := f.source.toNat
      if f.hops = 0 ∧ bitmap &&& vrelrunVersions = 0 then
        if s.portRole p = prRefused then s
        else
          let s := s.portRoleIs p prRefused a
          (s.ev 0x0D05 [.b8 p, .b16 bitmap]).segUpdate plane
      else
        let s := s.supervised p
        let s := if f.hops = 0 then s.portRoleIs p prInner a
          else if s.portRole p = prUplink then s.portRoleIs p prInner 0 else s
        let m : SegMember := ⟨s.tick, f.hops.toNat, bit w 20, bits w 19 8⟩
        let s := { s with net.members := nset none s.net.members (4096 * plane + a) (some m) }
        (s.segUpdate plane).superviseOn f

/-- SEGMENT_TIMEOUT (R306 to R308): no SUPERVISION for 3 ms on port p, or from a member on its plane. -/
def State.segTimeout (s : State) (p : Nat) (member : Option Nat) : State :=
  match member with
  | some a =>
    let k := 4096 * (p / 2) + a
    match nget none s.net.members k with
    | some m =>
      if m.last + 3000 ≤ s.tick then State.segUpdate { s with net.members := nset none s.net.members k none } (p / 2) else s
    | none => s
  | none =>
    if s.portUp p ∧ s.portRole p = prInner ∧ (nget (0, false) s.net.supervised p).1 + 3000 ≤ s.tick then
      (s.portRoleIs p prUplink 0).segUpdate (p / 2)
    else s

/-- FRAME_FORWARD (R309): a frame received on port p and not addressed to this module. -/
def State.forward (s : State) (p source dest : Nat) (fcs : Bool) (len : Nat) : State :=
  let q := if p % 2 = 0 then p + 1 else p - 1
  if !s.portUp p ∨ s.portRole p = prRefused then s
  else
    let s := if dest = 0 then s else s.bump (whole R.PORT_RX) p
    let s := if len < 64 ∨ 8252 < len then s.bump F.PORT_ERR_SIZE p else s
    let s := if fcs then s else s.bump F.PORT_ERR_FCS p
    if s.forwards p source dest then s.bump (whole R.PORT_FWD) q else s

/-! ### Peers (R314) -/

/-- Requests of every account to a peer that are still in the queues complete with VERS (R323). -/
def State.refuseQueued (s : State) (peer : Nat) : State :=
  foldState (fun s a =>
    let (out, rest) := (s.queue a).partition fun q => hPeer (q.item.headD 0) == peer && q.admitted.isSome
    foldState (fun s q => s.complete a q.item peer 0 0x0B []) out (s.setQueue a rest)) acctOrder s

/-- ANNOUNCE_RECEIVED. Every copy shows that the peer is heard on its plane. -/
def State.announceIn (s : State) (f : Frame) : State :=
  let plane := f.port.val / 2
  let a := f.source.toNat
  let hear (s : State) : State :=
    let p := s.peer a
    s.setPeer a (if plane = 0 then { p with heardA := some s.tick } else { p with heardB := some s.tick })
  let bad := s.malformed f nkAnnounce || f.body.length != 8 || bits (leAt f.body 0 8) 63 22 != 0
  if f.port.val < 4 ∧ bad then (if s.portUp f.port.val then s.dropMalformed f else s)
  else
    let (ok, s) := s.receive f nkAnnounce
    let s := if f.port.val < 4 ∧ s.portUp f.port.val ∧ s.portRole f.port.val ≠ prRefused then hear s else s
    if !ok then s
    else
      let w := leAt f.body 0 8
      let both := bits w 7 0 &&& vrelrunVersions
      let p : NetPeer := { s.peer a with flags := bits w 23 16, inst := f.inst.toNat }
      if both = 0 then
        let s := s.setPeer a { p with state := 2, version := 0 }
        if p.state = 2 then s else (s.ev 0x0D04 [.b16 a, .b16 (bits w 7 0)]).refuseQueued a
      else
        let v := if bit both 2 then 3 else if bit both 1 then 2 else 1
        s.setPeer a { p with state := 1, version := v }

/-- PEER_LOST: not heard on either plane for 3 s. -/
def State.peerLost (s : State) (a : Nat) : State :=
  let p := s.peer a
  let silent (h : Option Nat) : Bool := match h with | some t => decide (t + 3000000 ≤ s.tick) | none => true
  if (p.state = 1 ∨ p.state = 2) ∧ silent p.heardA ∧ silent p.heardB then (s.setPeer a { p with state := 3 }).ev 0x0D06 [.b16 a] else s

/-! ### Publications (R317, R318) -/

/-- PUBLICATION_SEND: group n at its grid point. (DEDUCED, log entry 90.) -/
def State.publish (s : State) (n : Nat) : State :=
  if !s.flag F.PUB_CFG_EN n ∨ s.acctState (s.fld F.PUB_OWNER_ACCOUNT n) ≠ aRunning ∨
      !s.gridPasses s.net.grid (s.fld F.PUB_PHASE_PHASE_US n) (s.fld F.PUB_PERIOD_PERIOD_US n) then s
  else
    let count := s.fld F.PUB_CFG_COUNT n
    let first := s.fld F.PUB_CFG_FIRST n
    let seq := if nget false s.net.pubSent n then (s.reg R.PUB_SEQ n + 1) % 2 ^ 32 else 0
    let recs := (List.range count).flatMap fun i =>
      let g := nget 0 s.net.pubList (first + i)
      let r := s.sig g
      [BitVec.ofNat 64 (r.quality.toNat * 2 ^ 32 + g), r.value, r.stamp]
    let s := { s.setReg R.PUB_SEQ seq n with net.pubSent := nset false s.net.pubSent n true }
    s.netSend nkPublication 1 0 s.dataSrc (dstPub s.dataSrc)
      (bytesOf64 (BitVec.ofNat 64 (seq * 2 ^ 32 + count * 2 ^ 23 + n) :: recs))

/-- Subscriptions that name a publisher's signal (R318). (DEDUCED, log entry 91.) -/
def State.subsOf (s : State) (publisher sig : Nat) : List Nat :=
  (s.net.subs.filter fun (_, e) => bits e.toNat 43 32 == publisher && publisher != 0 && bits e.toNat 16 0 == sig).map (·.1)

/-- One record of an accepted publication. -/
def State.pubRecord (s : State) (source : Nat) (degr : Bool) (head value stamp : W64) : State :=
  let q := BitVec.ofNat 8 (bits head.toNat 39 32)
  let q := (q &&& ~~~ (qSafe ||| qDegr)) ||| (if degr then qDegr else 0)
  let st := if !stamp.getLsbD 63 && s.tsValid then stamp else s.stamp
  foldState (fun s i => s.deliver kNetSub i ⟨value, q, st⟩) (s.subsOf source (bits head.toNat 16 0)) s

def State.pubRecords (s : State) (source : Nat) (degr : Bool) : Nat → List W64 → State
  | n + 1, h :: v :: t :: rest => State.pubRecords (s.pubRecord source degr h v t) source degr n rest
  | _, _ => s

/-- PUBLICATION_RECEIVED. -/
def State.publicationIn (s : State) (f : Frame) : State :=
  let ws := words64 f.body
  let w0 := (ws.headD 0).toNat
  let count := bits w0 31 23
  let group := bits w0 7 0
  let src := f.source.toNat
  let key := 256 * src + group
  let bad := decide (f.body.length ≠ 8 * (1 + 3 * count)) || bits w0 22 8 != 0 || count == 0 || decide (256 < count) ||
    (List.range count).any fun i =>
      let h := (ws.getD (1 + 3 * i) 0).toNat
      bits h 63 40 != 0 || bits h 31 17 != 0
  let (ok, s) := s.receive f nkPublication bad
  if !ok then s
  else
    let seq := bits w0 63 32
    let prev := nget none s.net.pubIn key
    let fresh := match prev with
      | none => true
      | some x => x.inst != f.inst.toNat ||
          (let d := (seq + 2 ^ 32 - x.seq) % 2 ^ 32; decide (1 ≤ d ∧ d < 2 ^ 31))
    if !fresh then s.bump F.NET_DROPS_0_SEQ_OLD
    else
      let degr := match prev with
        | some x => let planes := (nget (0, 0) s.net.seen (65536 * src + x.seqNr)).2; planes == 1 || planes == 2
        | none => false
      let s := { s with net.pubIn := nset none s.net.pubIn key (some ⟨f.inst.toNat, seq, f.seqNr.toNat, 0⟩) }
      s.pubRecords src degr count ws.tail

/-! ### Request transactions (R319 to R326) -/

/-- Tags account a holds, all or for one destination. -/
def State.tagsHeld (s : State) (a : Nat) (peer : Option Nat) : Nat :=
  (s.net.tags.filter fun (_, t) => t.st != 0 && t.account == a && (match peer with | some p => t.peer == p | none => true)).length

/-- The budget of a destination (R321). -/
def State.budget (s : State) (peer : Nat) : Nat :=
  match (List.range 32).find? fun n => s.fld F.NET_OVR_PEER n == peer with
  | some n => s.fld F.NET_OVR_BUDGET n
  | none => s.fld F.NET_BUDGET_DEFAULT

/-- The tag that has been FREE longest; among equals the lowest number (DESIGN CHOICE, log entry 36). -/
def State.freeTag (s : State) : Option Nat :=
  (List.range 4096).foldl (fun best t =>
    let x := s.tag t
    if x.st ≠ 0 then best
    else match best with
      | none => some t
      | some b => if x.freeAt < (s.tag b).freeAt then some t else some b) none

/-- Send a request under a tag (R319, R321): word 0 in the incoming layout with TIMEOUT, word 1 TIME_LEFT_US. -/
def State.sendRequest (s : State) (tag : Nat) (left : Nat) (resend : Bool) : State :=
  let t := s.tag tag
  let h := t.item.headD 0
  let v := s.peerVersion t.peer
  let gen := if v = 1 then 0 else t.gen
  let w0 := mkHeader 0 s.dataSrc t.account (hService h) (hLength h) (hReplyMax h) (gen * 4096 + tag) (hLow h)
  let w1 := BitVec.ofNat 64 left
  s.netSend nkRequest v (b2n resend) s.dataSrc t.peer (bytesOf64 (w0 :: w1 :: t.item.tail)) (hAccount h)

/-- Take the first element that satisfies p out of a list. -/
def takeFirst {α : Type} (p : α → Bool) : List α → Option (α × List α)
  | [] => none
  | x :: xs => if p x then some (x, xs) else (takeFirst p xs).map fun (y, ys) => (y, x :: ys)

/-- TAG_GRANT: the first admitted request of account a to a peer gets a tag and is sent (R321). (DEDUCED, log entry 92.) -/
def State.tagGrant (s : State) (a peer : Nat) : State :=
  let st := (s.peer peer).state
  match takeFirst (fun (q : QItem) => q.admitted.isSome && hPeer (q.item.headD 0) == peer) (s.queue a), s.freeTag with
  | some (q, rest), some tag =>
    if st = 0 ∨ st = 2 ∨ s.fld F.ACCT_QUOTA_1_TAGS a ≤ s.tagsHeld a none ∨ s.budget peer ≤ s.tagsHeld a (some peer) then s
    else
      let old := s.tag tag
      let t : Tag := { old with st := 1, gen := (old.gen + 1) % 4, account := a, peer := peer, inst := (s.peer peer).inst,
                                item := q.item, deadline := s.tick + s.reqT (q.item.headD 0) }
      let s := ((s.setQueue a rest).setTag tag t).sendRequest tag (s.reqT (q.item.headD 0)) false
      let key := 4096 * a + peer
      if s.budget peer ≤ s.tagsHeld a (some peer) ∧ !s.net.budgetFull.contains key then
        State.ev { s with net.budgetFull := key :: s.net.budgetFull } 0x0D08 [.b8 a, .b16 peer]
      else s
  | _, _ => s

/-- REQUEST_TAG_TIMEOUT: the i-th request waiting in account a's queue has had no tag within T of its admission. -/
def State.tagTimeout (s : State) (a i : Nat) : State :=
  match (s.queue a)[i]? with
  | some q =>
    if q.admitted.all fun t => decide (s.tick < t + s.reqT (q.item.headD 0)) then s
    else (s.setQueue a ((s.queue a).eraseIdx i)).complete a q.item (hPeer (q.item.headD 0)) 0 0x04 []
  | none => s

/-- A tag becomes FREE (Table 13.8). -/
def State.freeTagNow (s : State) (tag : Nat) : State :=
  { s.setTag tag { Tag.init with gen := (s.tag tag).gen, freeAt := s.net.freeSeq + 1 } with
      net.freeSeq := s.net.freeSeq + 1 }

/-- TAG_DEADLINE (R322): D passes. -/
def State.tagDeadline (s : State) (tag : Nat) : State :=
  let t := s.tag tag
  if (t.st = 1 ∨ t.st = 2) ∧ t.deadline ≤ s.tick then
    (s.setTag tag { t with st := 3 }).complete t.account t.item t.peer 0 (if t.st = 1 then 0x0D else 0x01) []
  else s

/-- TAG_RETRY (R322): RETRY_US after the BUSY answer and before D; TIME_LEFT_US is D − now. -/
def State.tagRetry (s : State) (tag : Nat) : State :=
  let t := s.tag tag
  if t.st = 2 ∧ t.busyAt + s.fld F.NET_TIMING_RETRY_US ≤ s.tick ∧ s.tick < t.deadline then
    (s.setTag tag { t with st := 1 }).sendRequest tag (t.deadline - s.tick) true
  else s

/-- TAG_QUARANTINE_END (R322): D + 2 × PATH_MAX_US passes. -/
def State.tagQuarEnd (s : State) (tag : Nat) : State :=
  let t := s.tag tag
  if t.st = 3 ∧ t.deadline + 2 * s.fld F.NET_PATH_PATH_MAX_US ≤ s.tick then s.freeTagNow tag else s

/-- The tags of an account in flight go into quarantine, and its queue is emptied (step 4 of Table 4.4). -/
def State.quarantineAcct (s : State) (a : Nat) : State :=
  let s := { s with
    net.tags := nmapv .init (fun _ t => if t.account = a ∧ (t.st = 1 ∨ t.st = 2) then { t with st := 3 } else t) s.net.tags }
  s.setQueue a []

/-- REQUEST_RECEIVED: judged by Table 13.9; acct is the destination account (DESIGN CHOICE, log entry 37). -/
def State.requestIn (s : State) (f : Frame) (acct : Nat) : State :=
  let ws := words64 f.body
  let h := ws.headD 0
  let w1 := (ws.getD 1 0).toNat
  let payload := ws.drop 2
  let bad := decide (f.body.length ≠ 8 * (2 + hLength h)) || hKind h != 0 || decide (1024 < hLength h)
  let (ok, s) := s.receive f nkRequest bad
  if !ok then s
  else
    let src := f.source.toNat
    let handle := hRef h
    let left := w1
    let answer (s : State) (st : Nat) : State :=
      let c := mkHeader 1 src acct 0 0 0 handle st
      s.netSend nkReply (s.peerVersion src) 0 s.dataSrc src (bytesOf64 [c])
    let till := s.findTill acct true ekNetIn (hService h)
    let lim := versionLimit f.version.toNat
    let need := 1 + hLength h
    if s.net.incoming.any fun r => r.source == src && r.inst == f.inst.toNat && r.handle == handle then s
    else if s.acctState acct = aAbsent ∨ till.isNone ∨ lim < hReplyMax h ∨ left = 0 then answer s 9
    else if s.acctState acct ≠ aRunning then answer s 1
    else
      let t := till.getD 0
      if s.tillSize acct t < need then answer (s.tooBig acct t need) 2
      else if s.tillFree acct t < need ∨ 4096 ≤ s.net.incoming.length then answer s 1
      else
        let item := mkHeader 0 src (hAccount h) (hService h) (hLength h) (hReplyMax h) handle 0
        let s := foldState (fun s w => s.tillPut acct t w) (item :: payload) s
        { s with net.incoming := s.net.incoming ++ [⟨src, f.inst.toNat, handle, acct, hService h, hReplyMax h, s.tick + left⟩] }

/-- REPLY_RECEIVED (R322, R323, R326). (DEDUCED, log entry 88.) -/
def State.replyIn (s : State) (f : Frame) : State :=
  let ws := words64 f.body
  let h := ws.headD 0
  let bad := decide (f.body.length ≠ 8 * (1 + hLength h)) || hKind h != 1 || hService h != 0 || hReplyMax h != 0
  let (ok, s) := s.receive f nkReply bad
  if !ok then s
  else
    let tag := hRef h % 4096
    let gen := hRef h / 4096
    let t := s.tag tag
    let src := f.source.toNat
    let stale := t.st == 0 || t.st == 3 || t.peer != src || t.inst != f.inst.toNat ||
      (s.peerVersion src != 1 && gen != t.gen)
    if stale then s.bump F.NET_DROPS_0_STALE_REPLY
    else if hReplyMax (t.item.headD 0) < hLength h then s.bump F.NET_DROPS_1_MALFORMED
    else if hLow h = 1 then s.setTag tag { t with st := 2, busyAt := s.tick }
    else (s.freeTagNow tag).complete t.account t.item src (hAccount h) (hLow h) ws.tail

/-- INCOMING_REQUEST_EXPIRE (R325): its TIME_LEFT_US has passed since its receipt. -/
def State.incomingExpire (s : State) (source handle : Nat) : State :=
  { s with net.incoming := s.net.incoming.filter fun r =>
      !(r.source == source && r.handle == handle && decide (r.closesAt ≤ s.tick)) }

/-! ### Commands -/

def execTransceiverInserted (p : Fin 4) (s : State) : Host.Outcome State Fault Refusal := .next (s.xcvrInsert p.val)
def execTransceiverIdRead (p : Fin 4) (id : XcvrId) (s : State) : Host.Outcome State Fault Refusal :=
  .next (s.xcvrRead p.val id)
def execTransceiverRemoved (p : Fin 4) (s : State) : Host.Outcome State Fault Refusal := .next (s.xcvrRemove p.val)
def execPortLinkUp (p : Fin 4) (s : State) : Host.Outcome State Fault Refusal := .next (s.linkUp p.val)
def execPortLinkDown (p : Fin 4) (s : State) : Host.Outcome State Fault Refusal := .next (s.linkDown p.val)
def execSupervisionSend (s : State) : Host.Outcome State Fault Refusal := .next s.supervise
def execSupervisionReceived (f : Frame) (s : State) : Host.Outcome State Fault Refusal := .next (s.superviseIn f)
def execSegmentTimeout (p : Fin 4) (member : Option (BitVec 12)) (s : State) : Host.Outcome State Fault Refusal :=
  .next (s.segTimeout p.val (member.map (·.toNat)))
def execAnnounceSend (s : State) : Host.Outcome State Fault Refusal := .next s.announce

/-- HEARTBEAT_FLAG_CHANGE (R315). -/
def execHeartbeatFlagChange (s : State) : Host.Outcome State Fault Refusal :=
  .next (if s.heartbeatFlags = s.net.flags then s else s.announce)

def execAnnounceReceived (f : Frame) (s : State) : Host.Outcome State Fault Refusal := .next (s.announceIn f)
def execPeerLost (peer : BitVec 12) (s : State) : Host.Outcome State Fault Refusal := .next (s.peerLost peer.toNat)
def execPublicationSend (n : Fin 256) (s : State) : Host.Outcome State Fault Refusal := .next (s.publish n.val)
def execPublicationReceived (f : Frame) (s : State) : Host.Outcome State Fault Refusal := .next (s.publicationIn f)
def execTagGrant (a : Fin 8) (peer : BitVec 12) (s : State) : Host.Outcome State Fault Refusal :=
  .next (s.tagGrant a.val peer.toNat)
def execRequestTagTimeout (a : Fin 8) (i : Nat) (s : State) : Host.Outcome State Fault Refusal :=
  .next (s.tagTimeout a.val i)
def execTagDeadline (tag : Fin 4096) (s : State) : Host.Outcome State Fault Refusal := .next (s.tagDeadline tag.val)
def execTagRetry (tag : Fin 4096) (s : State) : Host.Outcome State Fault Refusal := .next (s.tagRetry tag.val)
def execTagQuarantineEnd (tag : Fin 4096) (s : State) : Host.Outcome State Fault Refusal := .next (s.tagQuarEnd tag.val)
def execRequestReceived (f : Frame) (acct : Fin 8) (s : State) : Host.Outcome State Fault Refusal :=
  .next (s.requestIn f acct.val)
def execReplyReceived (f : Frame) (s : State) : Host.Outcome State Fault Refusal := .next (s.replyIn f)
def execIncomingRequestExpire (source : BitVec 12) (handle : BitVec 14) (s : State) :
    Host.Outcome State Fault Refusal := .next (s.incomingExpire source.toNat handle.toNat)
def execFrameForward (p : Fin 4) (source dest : BitVec 12) (fcs : Bool) (len : Nat) (s : State) :
    Host.Outcome State Fault Refusal := .next (s.forward p.val source.toNat dest.toNat fcs len)
def execRequestAdmitWaiting (a : Fin 8) (s : State) : Host.Outcome State Fault Refusal := .next (s.admitWaiting a.val)

end Sys2Proof.Machine
end

