-- ==== Sys2Proof/Machine/Rzt.lean ====
section
/-! DEFINITION. Safety (chapter 14): seal comparison and maintenance (R335 to R337), the Rezil safe transport (R338 to
R348), reaction-time figures (R349 to R351). -/

namespace Sys2Proof.Machine

/-! ### Seal and maintenance -/

/-- SAFE_STATUS.PENDING (R335): the switches no longer agree with the loaded section. (DEDUCED, log entry 94.) -/
def State.sealPending (s : State) : Bool :=
  let sw := s.fld F.SEAL_STATE_SW
  let swf := s.fld F.SEAL_STATE_SWF
  s.flag F.SAFE_STATUS_PRESENT &&
    (sw % 2 ^ 12 != s.fld F.CFG_SEAL_EXPECT || swf % 2 ^ 12 != 0 || bit swf 15 || bit sw 15)

def State.pendingUpdate (s : State) : State :=
  let now := s.sealPending
  let was := s.flag F.SAFE_STATUS_PENDING
  let s := s.setFld F.SAFE_STATUS_PENDING (b2n now)
  if now && !was then s.ev 0x0E0B else s

/-- SW12 turns on or enters contact fault (R336). -/
def State.maintEnter (s : State) : State :=
  let fault := bit (s.fld F.SEAL_STATE_SWF) 12
  let s := ((s.setFld F.SAFE_STATUS_MAINT 1).setFld F.SAFE_STATUS_HOLD 1).setReg64 R.SAFE_MAINT_TIME s.stamp.toNat
  (s.bump F.SAFE_COUNTS_MAINT_ENTRIES).ev 0x0E01 [.b8 (Config.openCode (50 + b2n fault)).toNat]

/-- SW12 turns off with no contact fault (R337): the A7 forces are cleared at step 7 of the next tick. -/
def State.maintLeave (s : State) : State :=
  let s := s.setFld F.SAFE_STATUS_MAINT 0
  let s := foldState State.clearForced (s.forcesOf 7) s
  let s := { s with safety.holdFrom := s.tick, safety.holdTasks := s.tasksOf 7 }
  s.ev 0x0E02

/-- Bring maintenance into line with SW12. -/
def State.maintUpdate (s : State) : State :=
  let on_ := s.sw12
  let was := s.flag F.SAFE_STATUS_MAINT
  if on_ && !was then s.maintEnter
  else if !on_ && was then s.maintLeave
  else s

/-- MAINT_HOLD_END (R337): every A7 task has reached END without overrun in an execution released after maintenance. -/
def State.holdEnd (s : State) : State :=
  if s.flag F.SAFE_STATUS_HOLD ∧ !s.flag F.SAFE_STATUS_MAINT ∧ s.safety.holdTasks = [] then
    s.setFld F.SAFE_STATUS_HOLD 0
  else s

/-! ### RZT frames (R339) -/

def State.rx (s : State) (c : Nat) : RzRx := nget .init s.safety.rx c
def State.setRx (s : State) (c : Nat) (x : RzRx) : State := { s with safety.rx := nset .init s.safety.rx c x }
def State.tx (s : State) (c : Nat) : RzTx := nget .init s.safety.tx c
def State.setTx (s : State) (c : Nat) (x : RzTx) : State := { s with safety.tx := nset .init s.safety.tx c x }

/-- Body types. -/
abbrev rtData := 1
abbrev rtOpen := 2
abbrev rtAccept := 3
abbrev rtCheck := 4

/-- Receive connection states (Table 14.4). -/
abbrev rsClosed := 0
abbrev rsOpening := 1
abbrev rsRun := 2
abbrev rsFault := 3
abbrev rsRefused := 4

/-- A body with its SCRC word. -/
def rzBody (sig : Nat) (ws : List W64) : List W64 :=
  ws ++ [BitVec.ofNat 64 (crc32c (bytesLE 4 sig ++ bytesOf64 ws)).toNat]

/-- The SCRC of a body agrees with a signature. -/
def rzGood (sig : Nat) (body : List W64) : Bool := 1 < body.length && rzBody sig body.dropLast == body

def rzWord0 (conn type version seq : Nat) : W64 :=
  BitVec.ofNat 64 (conn % 2 ^ 16 * 2 ^ 48 + type % 16 * 2 ^ 44 + version % 256 * 2 ^ 32 + seq % 2 ^ 32)

/-- CONN_ID, TYPE, VERSION and SEQ of word 0. -/
def rzConn (w : W64) : Nat := bits w.toNat 63 48
def rzType (w : W64) : Nat := bits w.toNat 47 44
def rzVersion (w : W64) : Nat := bits w.toNat 39 32
def rzSeq (w : W64) : Nat := bits w.toNat 31 0

/-- RZT frames are exchanged with this peer: its agreed version is 2 or 3 (R338). -/
def State.rzPeer (s : State) (a : Nat) : Bool := decide (2 ≤ (s.peer a).version)

/-- Send an RZT body to a module from the module's own address (R338, R358). -/
def State.rzSend (s : State) (dst : Nat) (body : List W64) : State :=
  if s.rzPeer dst then s.netSend nkRzt (s.peerVersion dst) 0 s.addr dst (bytesOf64 body) else s

/-- The zero fields of a body read zero (R313, Table 14.3). -/
def rzZero (ws : List W64) : Bool :=
  let w1 := (ws.getD 1 0).toNat
  let k := if rzVersion (ws.headD 0) = 1 then 2 else 3
  bits (ws.headD 0).toNat 43 40 == 0 && bits (ws.getLastD 0).toNat 63 32 == 0 &&
    match rzType (ws.headD 0) with
    | 1 => bits w1 63 16 == 0 && bits w1 7 1 == 0 &&
        (List.range (bits w1 15 8)).all fun e => bits (ws.getD (2 + k * e + 1) 0).toNat 63 8 == 0
    | 2 => bits w1 31 9 == 0
    | 3 => bits w1 31 8 == 0
    | 4 => w1 == 0
    | _ => true

/-- A frame that carries an OPEN, ACCEPT or CHECK arrives (R312, R313, R338). -/
def State.receiveRzt (s : State) (f : Frame) : Bool × State :=
  if f.port.val < 4 ∧ f.fcs ∧ (f.dest.toNat ≠ s.addr ∨ !s.rzPeer f.source.toNat) then (false, s)
  else s.receive f nkRzt (!rzZero (words64 f.body))

/-- A frame of kind RZT arrives on a plane port and passes R313, every copy of it (R343). -/
def State.receiveCopy (s : State) (f : Frame) : Bool × State :=
  let p := f.port.val
  if 4 ≤ p then (false, s)
  else if !s.portUp p ∨ s.portRole p = prRefused ∨ (f.fcs ∧ (f.dest.toNat ≠ s.addr ∨ !s.rzPeer f.source.toNat)) then (false, s)
  else
    let s := s.bump (whole R.PORT_RX) p
    if s.malformed f nkRzt || !rzZero (words64 f.body) then (false, s.dropMalformed f)
    else if s.fromStation f then (false, s.meetStation)
    else if (s.peer f.source.toNat).state = 2 then (false, s.bump F.NET_DROPS_1_VERS)
    else (true, s)

/-! ### Receive connections -/

/-- Send the OPEN of a connection to PEER and PEER_ALT with a fresh NONCE (R340, R348). -/
def State.rzOpenSend (s : State) (c : Nat) (resume : Bool) : State :=
  let s := s.draw
  let nonce := (Config.random s.free).toNat % 2 ^ 32
  let s := s.setRx c { s.rx c with nonce := nonce, since := s.tick }
  let last := if resume then s.reg R.RZT_RX_SEQ c else 0
  let w0 := rzWord0 (s.fld F.RZT_RX_CFG_CONN_ID c) rtOpen 0 last
  let w1 := BitVec.ofNat 64 (nonce * 2 ^ 32 + b2n resume * 2 ^ 8 + s.fld F.RZT_RX_CFG_VERSIONS c)
  let body := rzBody (s.reg R.RZT_RX_SIG c) [w0, w1]
  let alt := s.fld F.RZT_RX_PEER_PEER_ALT c
  let s := s.rzSend (s.fld F.RZT_RX_PEER_PEER c) body
  if alt = 0 then s else s.rzSend alt body

def State.rzState (s : State) (c : Nat) : Nat := s.fld F.RZT_RX_STATUS_STATE c

/-- Enter REFUSED (Table 14.4). -/
def State.rzRefuse (s : State) (c bitmap : Nat) : State :=
  let s := s.setRx c { s.rx c with since := s.tick }
  ((s.setFld F.RZT_RX_STATUS_STATE rsRefused c).setFld F.RZT_RX_STATUS_VERSION 0 c).ev 0x0E07 [.b16 c, .b16 bitmap]

/-- Enter OPENING: the first OPEN leaves; a peer of Vrelrun version 1 refuses (R340, R341). -/
def State.rzOpening (s : State) (c : Nat) : State :=
  let s := (s.setFld F.RZT_RX_STATUS_STATE rsOpening c).setFld F.RZT_RX_STATUS_VERSION 0 c
  let s := s.setRx c { s.rx c with assay := none }
  if (s.peer (s.fld F.RZT_RX_PEER_PEER c)).version = 1 then s.rzRefuse c 0 else s.rzOpenSend c false

/-- RZT_OPEN_SEND: every 100 ms in OPENING. -/
def State.rzReopen (s : State) (c : Nat) : State :=
  if s.rzState c ≠ rsOpening then s
  else if (s.peer (s.fld F.RZT_RX_PEER_PEER c)).version = 1 then s.rzRefuse c 0
  else if s.tick < (s.rx c).since + 100000 then s
  else s.rzOpenSend c false

/-- Index of element e of receive connection c as a producer (R338). -/
def rzIndex (c e : Nat) : Nat := 32768 + 32 * c + e

/-- Enter FAULT (R341, R344): each element once with its previous value, VALID and SAFE 0, FAULT 1. -/
def State.rzFault (s : State) (c : Nat) : State :=
  let s := (s.setFld F.RZT_RX_STATUS_STATE rsFault c).setRx c { s.rx c with assay := none, since := s.tick }
  foldState (fun s e =>
    let old := nget .init s.image.last (65536 * kNetSub + rzIndex c e)
    s.deliver kNetSub (rzIndex c e) ⟨old.value, (old.quality &&& ~~~ (qValid ||| qSafe)) ||| qFault, s.stamp⟩)
    (List.range (s.fld F.RZT_RX_CFG_COUNT c)) s

/-- The receive connection a CONN_ID names. -/
def State.rxOf (s : State) (conn : Nat) : Option Nat :=
  (List.range 64).find? fun c => s.flag F.RZT_RX_CFG_EN c && s.fld F.RZT_RX_CFG_CONN_ID c == conn

def State.rxPeer (s : State) (c a : Nat) : Bool :=
  a == s.fld F.RZT_RX_PEER_PEER c || (s.fld F.RZT_RX_PEER_PEER_ALT c != 0 && a == s.fld F.RZT_RX_PEER_PEER_ALT c)

/-- RZT_ACCEPT_RECEIVED (R340, R348). -/
def State.rzAccept (s : State) (f : Frame) : State :=
  let ws := words64 f.body
  let w0 := ws.headD 0
  let w1 := (ws.getD 1 0).toNat
  let (ok, s) := s.receiveRzt f
  if !ok then s
  else match s.rxOf (rzConn w0) with
    | none => s
    | some c =>
      let st := s.rzState c
      let good := rzType w0 == rtAccept && ws.length == 3 && rzGood (s.reg R.RZT_RX_SIG c) ws &&
        s.rxPeer c f.source.toNat && bits w1 63 32 == (s.rx c).nonce
      if !good ∨ (st ≠ rsOpening ∧ st ≠ rsRun) then s
      else if rzVersion w0 = 0 then s.rzRefuse c (bits w1 7 0)
      else
        let s := (s.setReg R.RZT_RX_SEQ (rzSeq w0) c).setFld F.RZT_RX_STATUS_VERSION (rzVersion w0) c
        let s := s.setRx c { s.rx c with assay := none, acceptedAt := s.tick }
        if st = rsRun then s
        else
          (s.setFld F.RZT_RX_STATUS_STATE rsRun c).ev 0x0E04 [.b16 c, .b8 (rzVersion w0), .b16 f.source.toNat]

/-- Send the CHECK of L on both planes (R343). -/
def State.rzCheckSend (s : State) (c dst : Nat) : State :=
  let w0 := rzWord0 (s.fld F.RZT_RX_CFG_CONN_ID c) rtCheck (s.fld F.RZT_RX_STATUS_VERSION c) (s.reg R.RZT_RX_SEQ c)
  s.rzSend dst (rzBody (s.reg R.RZT_RX_SIG c) [w0, 0])

/-- Words of an element in a version (R339). -/
def rzElemWords (version : Nat) : Nat := if version = 1 then 2 else 3

/-- Deliver the elements of an accepted frame (R344). -/
def State.rzDeliver (s : State) (c version : Nat) (maint degr limit : Bool) (ws : List W64) : State :=
  let n := s.fld F.RZT_RX_CFG_COUNT c
  let k := rzElemWords version
  foldState (fun s e =>
    let v := ws.getD (k * e) 0
    let q0 := BitVec.ofNat 8 ((ws.getD (k * e + 1) 0).toNat)
    let q := (q0 &&& ~~~ (qSafe ||| qDegr)) ||| (if degr then qDegr else 0)
    let q := if limit then (q &&& ~~~ qValid) ||| qFault
      else if maint then q &&& ~~~ qValid
      else q ||| qSafe
    let t := ws.getD (k * e + 2) 0
    let stamp := if version ≠ 1 ∧ !t.getLsbD 63 ∧ s.tsValid then t else s.stamp
    s.deliver kNetSub (rzIndex c e) ⟨v, q, stamp⟩) (List.range n) s

/-- The degraded limit is reached at this tick (R346). -/
def State.rzLimit (s : State) (c : Nat) : Bool :=
  let lim := s.fld F.RZT_RX_DEGR_DEGR_LIMIT_S c
  match (s.rx c).degrSince with
  | some t => lim == 0 || decide (1000000 * lim < s.tick - t)
  | none => false

/-- Show LIMIT, with event 0x0E09 at its change to 1. -/
def State.rzSetLimit (s : State) (c : Nat) (b : Bool) : State :=
  let was := s.flag F.RZT_RX_STATUS_LIMIT c
  let s := s.setFld F.RZT_RX_STATUS_LIMIT (b2n b) c
  if b && !was then s.ev 0x0E09 [.b16 c] else s

/-- Accept a frame (R343, R344, R346): plane is that of a single copy, none for both. -/
def State.rzTake (s : State) (c source : Nat) (ws : List W64) (single : Option Nat) : State :=
  let w1 := (ws.getD 1 0).toNat
  let maint := bit w1 0
  let x := s.rx c
  let s := s.setReg R.RZT_RX_SEQ (rzSeq (ws.headD 0)) c
  let s := (s.setFld F.RZT_RX_STATUS_FROM source c).setFld F.RZT_RX_STATUS_MAINT (b2n maint) c
  let s := s.setFld F.RZT_RX_STATUS_DEGR (b2n single.isSome) c
  let s := match single with
    | some plane =>
      let s := s.bump F.RZT_RX_COUNTS_1_DEGR c
      let s := if x.two then s.ev 0x0E08 [.b16 c, .b8 plane] else s
      let s := s.setRx c { x with assay := none, acceptedAt := s.tick, two := false,
                                  degrSince := some (x.degrSince.getD s.tick) }
      if s.rzLimit c then s.rzSetLimit c true else s
    | none =>
      (s.setRx c { x with assay := none, acceptedAt := s.tick, two := true, degrSince := none }).rzSetLimit c false
  let limit := single.isSome && s.flag F.RZT_RX_STATUS_LIMIT c
  let s := s.rzDeliver c (s.fld F.RZT_RX_STATUS_VERSION c) maint single.isSome limit ((ws.drop 2).dropLast)
  s.rzCheckSend c source

/-- RZT_DATA_RECEIVED (R343). -/
def State.rzData (s : State) (f : Frame) : State :=
  let ws := words64 f.body
  let w0 := ws.headD 0
  let w1 := (ws.getD 1 0).toNat
  let (ok, s) := s.receiveCopy f
  if !ok then s
  else
    let src := f.source.toNat
    match (s.rxOf (rzConn w0)).filter fun c => s.rzState c == rsRun && s.rxPeer c src with
    | none =>
      match s.rxOf (rzConn w0) with
      | some c => s.bump F.RZT_RX_COUNTS_0_OTHER c
      | none => s
    | some c =>
      let v := s.fld F.RZT_RX_STATUS_VERSION c
      let n := s.fld F.RZT_RX_CFG_COUNT c
      let good := rzType w0 == rtData && rzGood (s.reg R.RZT_RX_SIG c) ws && rzVersion w0 == v && bits w1 15 8 == n &&
        ws.length == 3 + n * rzElemWords v
      let l := s.reg R.RZT_RX_SEQ c
      let x := s.rx c
      let plane := f.port.val / 2
      if !good then s.bump F.RZT_RX_COUNTS_0_CRC c
      else if rzSeq w0 = l then
        if s.fld F.RZT_RX_ASSAY_ASSAY_US c < s.tick - x.acceptedAt then s.rzCheckSend c src else s
      else if rzSeq w0 ≠ (l + 1) % 2 ^ 32 then s.bump F.RZT_RX_COUNTS_0_SEQ c
      else match x.assay with
        | none => s.setRx c { x with assay := some ⟨plane, src, ws, s.tick⟩ }
        | some a =>
          if a.plane = plane then s
          else if a.words = ws then s.rzTake c src ws none
          else
            ((s.bump F.RZT_RX_COUNTS_1_MISMATCH c).rzFault c).ev 0x0E06 [.b16 c, .b32 (rzSeq w0)]

/-- RZT_ASSAY_TIMEOUT (R343). -/
def State.rzAssay (s : State) (c : Nat) : State :=
  match (s.rx c).assay with
  | some a =>
    if s.rzState c = rsRun ∧ a.openedAt + s.fld F.RZT_RX_ASSAY_ASSAY_US c ≤ s.tick then s.rzTake c a.source a.words (some a.plane)
    else s
  | none => s

/-- RZT_WATCHDOG (R345). -/
def State.rzWatchdog (s : State) (c : Nat) : State :=
  if s.rzState c ≠ rsRun ∨ s.tick ≤ (s.rx c).acceptedAt + s.fld F.RZT_RX_WDOG_WATCHDOG_US c then s
  else
    ((s.bump F.RZT_RX_COUNTS_1_WATCHDOG c).rzFault c).ev 0x0E05 [.b16 c, .b32 (s.reg R.RZT_RX_SEQ c)]

/-- A7 runs tasks: its connections may open (Table 14.4). -/
def State.rzOn (s : State) : Bool := s.acctState 7 == aRunning

/-- RZT_FAULT_RETRY and RZT_REFUSED_RETRY (R341): 100 ms after the entry into FAULT, 10 s after that into REFUSED. -/
def State.rzRetry (s : State) (c from_ : Nat) : State :=
  if s.rzState c = from_ ∧ s.rzOn ∧ (s.rx c).since + (if from_ = rsFault then 100000 else 10000000) ≤ s.tick then s.rzOpening c else s

/-- RZT_DEGRADED_LIMIT (R346). -/
def State.rzDegraded (s : State) (c : Nat) : State :=
  if s.rzLimit c then s.rzSetLimit c true else s

/-! ### Send connections (R340, R342, R348) -/

/-- The enabled send connection a CONN_ID names. -/
def State.txOf (s : State) (conn : Nat) : Option Nat :=
  (List.range 64).find? fun c => s.flag F.RZT_TX_CFG_EN c && s.fld F.RZT_TX_CFG_CONN_ID c == conn

/-- RZT_OPEN_RECEIVED. (DEDUCED, log entry 93.) -/
def State.rzOpenIn (s : State) (f : Frame) : State :=
  let ws := words64 f.body
  let w0 := ws.headD 0
  let w1 := (ws.getD 1 0).toNat
  let (ok, s) := s.receiveRzt f
  if !ok then s
  else match s.txOf (rzConn w0) with
    | none => s
    | some c =>
      let src := f.source.toNat
      let peers := s.reg R.RZT_TX_PEER c
      let alt := bits peers 27 16
      let good := rzType w0 == rtOpen && ws.length == 3 && rzGood (s.reg R.RZT_TX_SIG c) ws &&
        (src == bits peers 11 0 || (alt != 0 && src == alt)) && s.rzOn
      if !good then s
      else
        let both := bits w1 7 0 &&& s.fld F.RZT_TX_CFG_VERSIONS c
        let v := if bit both 1 then 2 else if bit both 0 then 1 else 0
        let last := s.reg R.RZT_TX_SEQ c
        let l := rzSeq w0
        let resume := bit w1 8 && s.fld F.RZT_TX_STATUS_STATE c == 1 && v != 0 && (last == l || last == (l + 1) % 2 ^ 32)
        let answer (s : State) (v start : Nat) : State :=
          s.rzSend src (rzBody (s.reg R.RZT_TX_SIG c)
            [rzWord0 (s.fld F.RZT_TX_CFG_CONN_ID c) rtAccept v start,
             BitVec.ofNat 64 (bits w1 63 32 * 2 ^ 32 + s.fld F.RZT_TX_CFG_VERSIONS c)])
        if v = 0 then
          answer (if s.fld F.RZT_TX_STATUS_DEST c = src then s.setFld F.RZT_TX_STATUS_STATE 0 c else s) 0 0
        else if resume then answer (s.setFld F.RZT_TX_STATUS_DEST src c) v l
        else
          let s := s.draw
          let start := (Config.random s.free).toNat % 2 ^ 32
          let s := ((s.setFld F.RZT_TX_STATUS_STATE 1 c).setFld F.RZT_TX_STATUS_VERSION v c).setFld F.RZT_TX_STATUS_DEST src c
          let s := ((s.setReg R.RZT_TX_SEQ start c).setFld F.RZT_TX_STATUS_WAITING 0 c).setTx c ⟨none⟩
          answer s v start

/-- A send connection's frames carry MAINT (R336, R337, R342). -/
def State.rzMaint (s : State) (c : Nat) : Bool :=
  s.flag F.SAFE_STATUS_HOLD ||
    (List.range 32).any fun f =>
      s.flag F.SF_CFG_EN f && s.fld F.SF_CFG_KIND f == 3 && s.fld F.SF_OUT_OUT f == c && s.flag F.SF_STATUS_EXCEEDED f

/-- The DATA body of send connection c with a SEQ, from the image as it stands (R342). -/
def State.rzDataBody (s : State) (c seq : Nat) (maint : Bool) : List W64 :=
  let n := s.fld F.RZT_TX_CFG_COUNT c
  let v := s.fld F.RZT_TX_STATUS_VERSION c
  let elems := (List.range n).flatMap fun e =>
    let r := s.sig (s.fld F.RZT_TX_ELEM_SIGNAL c e)
    [r.value, r.quality.setWidth 64] ++ if v = 1 then [] else [r.stamp]
  rzBody (s.reg R.RZT_TX_SIG c)
    ([rzWord0 (s.fld F.RZT_TX_CFG_CONN_ID c) rtData v seq, BitVec.ofNat 64 (n * 2 ^ 8 + b2n maint)] ++ elems)

/-- RZT_DATA_SEND (R342). -/
def State.rzDataSend (s : State) (c : Nat) : State :=
  if s.fld F.RZT_TX_STATUS_STATE c ≠ 1 ∨ !s.rzOn ∨
      !s.gridPasses s.net.grid (s.fld F.RZT_TX_PHASE_PHASE_US c) (s.fld F.RZT_TX_PERIOD_PERIOD_US c) then s
  else
    let dest := s.fld F.RZT_TX_STATUS_DEST c
    match (s.tx c).last, s.flag F.RZT_TX_STATUS_WAITING c with
    | some body, true => s.rzSend dest body
    | _, _ =>
      let seq := (s.reg R.RZT_TX_SEQ c + 1) % 2 ^ 32
      let maint := s.rzMaint c
      let body := s.rzDataBody c seq maint
      let s := (s.setReg R.RZT_TX_SEQ seq c).setFld F.RZT_TX_STATUS_WAITING 1 c
      let s := (s.setFld F.RZT_TX_STATUS_MAINT (b2n maint) c).setTx c ⟨some body⟩
      s.rzSend dest body

/-- RZT_CHECK_RECEIVED (R342). -/
def State.rzCheckIn (s : State) (f : Frame) : State :=
  let ws := words64 f.body
  let w0 := ws.headD 0
  let (ok, s) := s.receiveRzt f
  if !ok then s
  else match s.txOf (rzConn w0) with
    | none => s
    | some c =>
      let good := rzType w0 == rtCheck && ws.length == 3 && rzGood (s.reg R.RZT_TX_SIG c) ws &&
        f.source.toNat == s.fld F.RZT_TX_STATUS_DEST c && rzSeq w0 == s.reg R.RZT_TX_SEQ c && (s.tx c).last.isSome
      if good then s.setFld F.RZT_TX_STATUS_WAITING 0 c else s

/-- Bring every connection into line with A7's state (Table 14.4, R342): done at every tick. -/
def State.rzSync (s : State) : State :=
  let on_ := s.rzOn
  foldState (fun s c =>
    let st := s.rzState c
    let s :=
      if on_ then (if st = rsClosed ∧ s.flag F.RZT_RX_CFG_EN c then s.rzOpening c else s)
      else if st = rsClosed then s
      else ((s.setFld F.RZT_RX_STATUS_STATE rsClosed c).setFld F.RZT_RX_STATUS_VERSION 0 c).setRx c { s.rx c with assay := none }
    if on_ ∨ s.fld F.RZT_TX_STATUS_STATE c = 0 then s
    else ((s.setFld F.RZT_TX_STATUS_STATE 0 c).setFld F.RZT_TX_STATUS_WAITING 0 c).setTx c ⟨none⟩) (List.range 64) s

/-! ### Reaction time (R349 to R351); figures in ns -/

/-- T_in of a field input or a receive connection: stated and typical (Table 14.5). -/
def State.sfIn (s : State) (f : Nat) : Nat × Nat :=
  let i := s.fld F.SF_CFG_IN f
  if s.fld F.SF_CFG_KIND f = 2 then
    let w := s.fld F.RZT_RX_WDOG_WATCHDOG_US i
    (1000 * (s.reg R.SF_REMOTE f + 2 * w + 1),
     1000 * s.reg R.SF_REMOTE_TYP f + 500 * s.fld F.RZT_RX_PERIOD_PERIOD_US i + 500 * s.fld F.NET_PATH_PATH_MAX_US + 2000)
  else if i < 192 then
    let p := aPeriod (s.fld F.ACH_RATE_RATE i)
    let tc := s.fld F.ACH_RATE_FILT_TC_US i
    let d := 1000000 * s.fld F.ACH_DIAG_DIAG_MS i
    (4000 * p + 4000 + 5000 * tc + d, 2500 * p + 4000 + 3000 * tc + d)
  else
    let x := 1000 * s.fld F.DCH_FILT_FILT_US (i - 192)
    (x + 3550, x + 3000)

/-- T_out (Table 14.5). -/
def State.sfOut (s : State) (f : Nat) : Nat × Nat :=
  let o := s.fld F.SF_OUT_OUT f
  if s.fld F.SF_CFG_KIND f = 3 then (0, 0)
  else if o < 192 then (if s.aMode o = aCurOut then (42015, 18000) else (27015, 11000))
  else (25025, 7000)

/-- SF_RT and SF_RT_TYP in µs, rounded up (R350). -/
def State.sfFigures (s : State) (f : Nat) : Nat × Nat :=
  let (in1, in2) := s.sfIn f
  let (o1, o2) := s.sfOut f
  let k := s.fld F.SF_CFG_TASK f
  let per := s.fld F.TASK_PERIOD_PERIOD_US k
  let pair := if s.pairState = psSingle then 0
    else 1000000 + if s.fld F.SF_CFG_KIND f = 2 then 1000 * s.fld F.RZT_RX_WDOG_WATCHDOG_US (s.fld F.SF_CFG_IN f) else 0
  let up (n : Nat) : Nat := min ((n + 999) / 1000) (2 ^ 32 - 1)
  (up (in1 + 1000 * (per + s.lateLimit k + 12) + o1 + pair), up (in2 + 500 * per + 12000 + o2))

/-- Recompute one record and judge it against its limit (R350, R351). -/
def State.sfOne (s : State) (f : Nat) : State :=
  if !s.flag F.SF_CFG_EN f then s
  else
    let (rt, typ) := s.sfFigures f
    let s := (s.setReg R.SF_RT rt f).setReg R.SF_RT_TYP typ f
    let fig := if s.flag F.SAFE_STATUS_RT_MODE then typ else rt
    let over_ := decide (s.reg R.SF_LIMIT f < fig)
    let was := s.flag F.SF_STATUS_EXCEEDED f
    let s := s.setFld F.SF_STATUS_EXCEEDED (b2n over_) f
    if over_ && !was then s.ev 0x0E0A [.b16 f, .b32 fig, .b32 (s.reg R.SF_LIMIT f)] else s

def State.sfUpdate (s : State) : State := foldState State.sfOne (List.range 32) s

/-! ### Commands -/

def execMaintHoldEnd (s : State) : Host.Outcome State Fault Refusal := .next s.holdEnd
def execRztOpenSend (c : Fin 64) (s : State) : Host.Outcome State Fault Refusal := .next (s.rzReopen c.val)
def execRztOpenReceived (f : Frame) (s : State) : Host.Outcome State Fault Refusal := .next (s.rzOpenIn f)
def execRztAcceptReceived (f : Frame) (s : State) : Host.Outcome State Fault Refusal := .next (s.rzAccept f)
def execRztDataSend (c : Fin 64) (s : State) : Host.Outcome State Fault Refusal := .next (s.rzDataSend c.val)
def execRztCheckReceived (f : Frame) (s : State) : Host.Outcome State Fault Refusal := .next (s.rzCheckIn f)
def execRztDataReceived (f : Frame) (s : State) : Host.Outcome State Fault Refusal := .next (s.rzData f)
def execRztAssayTimeout (c : Fin 64) (s : State) : Host.Outcome State Fault Refusal := .next (s.rzAssay c.val)
def execRztWatchdog (c : Fin 64) (s : State) : Host.Outcome State Fault Refusal := .next (s.rzWatchdog c.val)
def execRztFaultRetry (c : Fin 64) (s : State) : Host.Outcome State Fault Refusal := .next (s.rzRetry c.val rsFault)
def execRztRefusedRetry (c : Fin 64) (s : State) : Host.Outcome State Fault Refusal := .next (s.rzRetry c.val rsRefused)
def execRztDegradedLimit (c : Fin 64) (s : State) : Host.Outcome State Fault Refusal := .next (s.rzDegraded c.val)

end Sys2Proof.Machine
end

