-- ==== Sys2Proof/Machine/Plate.lean ====
section
/-! DEFINITION. How the module stops, and the base plate (chapter 1): mate contacts, mate filter, lamp test, seal bank. -/

namespace Sys2Proof.Machine

/-! ### Stopping -/

/-- Bring every output stage into line with what the module as a whole does to its outputs. -/
def State.restage (s : State) : State :=
  foldState State.dStage (List.range 320) (foldState State.aStage (List.range 192) s)

/-- The module stops: RELINQUISH first where it is due (R373, cause rel of Table 15.9), no account's work goes on, and the field
outputs end drive or go to their safe values. Ended drive stays ended. -/
def State.halt (s : State) (why : StopCause) (drive : Drive) (rel : Nat) : State :=
  let s := s.relinquish rel
  let s := foldState State.stopAccount acctOrder s
  let drive := if s.drive = .ended then .ended else drive
  State.restage { s with phase := .stopped, stop := why, drive := drive }

/-- The module is in a start sequence or after it. (DEDUCED, log entry 59.) -/
def State.alive (s : State) : Bool := s.phase != .waiting && s.phase != .stopped

/-! ### Mate contacts (R19 to R21) -/

def State.mateClosed (s : State) (n : Nat) : Bool :=
  if n = 0 then s.flag F.BASEPLATE_STATUS_MATE1 else s.flag F.BASEPLATE_STATUS_MATE2

def State.bothClosed (s : State) : Bool := s.mateClosed 0 && s.mateClosed 1
def State.oneClosed (s : State) : Bool := s.mateClosed 0 != s.mateClosed 1

/-- MATE_CONTACT_CHANGE: an opening that closes again before the module is unmated was short, and is counted once the filter has
passed. -/
def State.mateChange (s : State) (n : Nat) (closed : Bool) : State :=
  let was := s.mateClosed n
  let s := if n = 0 then s.setFld F.BASEPLATE_STATUS_MATE1 (b2n closed) else s.setFld F.BASEPLATE_STATUS_MATE2 (b2n closed)
  let s := if closed && !was && s.plate.mated then s.bump F.BASEPLATE_STATUS_MATE_GLITCH else s
  { s with plate.oneMate := s.plate.oneMate && s.oneClosed }

/-- MATE_FILTER_PASS: the sampled fields are read (R26); a plate type that is not accepted is recorded (R25). -/
def State.matePass (s : State) (x : Straps) : State :=
  if !s.bothClosed ∨ s.plate.mated then s
  else
    let s := { s with plate.mated := true }
    let s := (s.setFld F.BASEPLATE_STATUS_BP_TYPE x.bpType.val).setFld F.BASEPLATE_STATUS_PAIR_POS (b2n x.pairPos)
    let s := (s.setFld F.BASEPLATE_STATUS_CFG_A_PRESENT (b2n x.cfgA)).setFld F.BASEPLATE_STATUS_CFG_B_PRESENT (b2n x.cfgB)
    if s.bpRejected then s.ev 0x0122 else s

/-- ONE_MATE_CLOSED_5S (R20). -/
def State.oneMate5s (s : State) : State :=
  if s.oneClosed ∧ !s.plate.oneMate then ({ s with plate.oneMate := true }).ev 0x0121 else s

/-- The sampled fields no longer hold. (DEDUCED, log entry 111.) -/
def State.unsample (s : State) : State :=
  (((s.setFld F.BASEPLATE_STATUS_BP_TYPE 0).setFld F.BASEPLATE_STATUS_PAIR_POS 0).setFld
    F.BASEPLATE_STATUS_CFG_A_PRESENT 0).setFld F.BASEPLATE_STATUS_CFG_B_PRESENT 0

/-- UNMATED (R21, Table 1.6): the field outputs end drive, 0x0120 and the closing flush, D27 to D58 off (R19). -/
def State.unmate (s : State) : State :=
  if !s.plate.mated ∨ s.bothClosed then s
  else
    let s := if s.alive then s.halt .unmated .ended 2 else State.restage { s with drive := .ended }
    let s := ((s.ev 0x0120).closingFlush 1).setDoms ((List.range 32).map (27 + ·)) false
    let s := foldState (fun s sl => if s.slState sl = slOff then s else s.slPowerOff sl) (List.range 16) s
    State.unsample { s with plate.mated := false }

/-! ### Seal bank (R16 to R18) -/

/-- One scan of SWn: the reading of SEAL_n in both phases, SEAL_HI being high in phase 1. -/
def State.sealOne (s : State) (n : Nat) (p1 p2 : Bool) : State :=
  let x : SealFilter := nget .init s.plate.seals n
  let fault := bit (s.fld F.SEAL_STATE_SWF) n
  let state := bit (s.fld F.SEAL_STATE_SW) n
  let keep (x : SealFilter) (s : State) : State := { s with plate.seals := nset .init s.plate.seals n x }
  let count (s : State) : State := s.bump (whole R.SEAL_CHANGES)
  if p1 == p2 then
    let bad := min 16 (x.bad + 1)
    let s := keep { x with run := 0, bad := bad } s
    if bad = 16 ∧ !fault then (count (s.setBit R.SEAL_STATE (16 + n) true)).ev 0x0123 else s
  else
    let dir := p1
    let run := if x.run ≠ 0 ∧ x.dir = dir then min 8 (x.run + 1) else 1
    let s := keep { x with dir := dir, run := run, bad := 0, known := x.known || run == 8 } s
    if run < 8 then s
    else
      let changed := x.known && state != dir
      let s := (s.setBit R.SEAL_STATE (16 + n) false).setBit R.SEAL_STATE n dir
      let s := if changed then count s else s
      if changed && n != 12 && s.plate.latch.isSome then s.ev 0x0124 else s

/-- PEER_PRESENT_N reads low, or high: both registers that show it follow (R26, R366). -/
def State.peerSeen (s : State) (on : Bool) : State :=
  (s.setFld F.BASEPLATE_STATUS_PEER_PRESENT (b2n on)).setFld F.PAIR_STATUS_PEER_PRESENT (b2n on)

/-- SEAL_SCAN: the scanning begins with the start sequence. -/
def State.sealScan (s : State) (p1 p2 : BitVec 16) : State :=
  if s.phase = .waiting then s
  else
    let s := foldState (fun s n => s.sealOne n (p1.getLsbD n) (p2.getLsbD n)) (List.range 16) s
    if s.plate.latch.isSome then (s.maintUpdate).pendingUpdate else s

def execMateContactChange (contact : Fin 2) (closed : Bool) (s : State) : Host.Outcome State Fault Refusal :=
  .next (s.mateChange contact.val closed)
def execMateFilterPass (straps : Straps) (s : State) : Host.Outcome State Fault Refusal := .next (s.matePass straps)
def execOneMateClosed5s (s : State) : Host.Outcome State Fault Refusal := .next s.oneMate5s
def execUnmated (s : State) : Host.Outcome State Fault Refusal := .next s.unmate
def execLampTestEnd (s : State) : Host.Outcome State Fault Refusal := .next { s with plate.lampTest := false }
def execSealScan (phase1 phase2 : BitVec 16) (s : State) : Host.Outcome State Fault Refusal :=
  .next (s.sealScan phase1 phase2)

end Sys2Proof.Machine
end

