-- ==== Sys2Proof/Machine/SelfTest.lean ====
section
/-! DEFINITION. Self-test and wheel repair (chapter 18): the map of logical onto physical wheels (R425), wheel tests and
fuses (R426 to R429), rotation (R430 to R433), loss of a wheel (R434, R435), memory errors (R437, R438). -/

namespace Sys2Proof.Machine

/-- WHEEL_STATE_n.STATE codes (Table 18.9). -/
abbrev wsOff := 0
abbrev wsActive := 1
abbrev wsSpare := 2
abbrev wsPreparing := 3
abbrev wsTesting := 4
abbrev wsRemoved := 5
abbrev wsFused := 6

/-- ST_STATUS.ROT_STATE codes (Table 18.7). -/
abbrev rotWaiting := 0
abbrev rotPreparing := 1
abbrev rotSwitchWait := 2
abbrev rotTesting := 3
abbrev rotStopped := 4

/-- No wheel (Tables 18.7 to 18.9). -/
abbrev noWheel := 0x1F

def State.wst (s : State) (w : Nat) : Nat := s.fld F.WHEEL_STATE_STATE w
def State.setPwheel (s : State) (w : Nat) (x : PhysWheel) : State :=
  { s with selfTest.wheels := nset .init s.selfTest.wheels w x }
def State.rotState (s : State) : Nat := s.fld F.ST_STATUS_ROT_STATE
def State.setRot (s : State) (st : Nat) : State := s.setFld F.ST_STATUS_ROT_STATE st

/-- Physical wheels in a state. -/
def State.wheelsIn (s : State) (st : Nat) : List Nat := (List.range 18).filter fun w => s.wst w == st

/-- The account whose tasks logical wheel l carries (R145): A7's run on L14 and L15. -/
def State.lwheelAcct (s : State) (l : Nat) : Option Nat :=
  ((List.range 64).find? fun k => s.flag F.TASK_CFG_PRESENT k &&
    (s.taskWheel k == l || (s.taskAcct k == 7 && s.taskWheel k == 14 && l == 15))).map s.taskAcct

/-- Logical wheels in use. -/
def State.lwheelsUsed (s : State) : List Nat := (List.range 16).filter fun l => (s.lwheelAcct l).isSome

/-- The tasks of logical wheel l. -/
def State.lwheelTasks (s : State) (l : Nat) : List Nat :=
  (List.range 64).filter fun k => s.flag F.TASK_CFG_PRESENT k &&
    (s.taskWheel k == l || (s.taskAcct k == 7 && s.taskWheel k == 14 && l == 15))

/-! ### Rotation's target and what ST_STATUS shows -/

/-- A wheel that rotation can test (R430). -/
def State.rotEligible (s : State) (w : Nat) : Bool :=
  let st := s.wst w
  if s.rotState = rotStopped then st == wsRemoved && s.domOn w
  else st == wsActive || st == wsSpare || (st == wsRemoved && s.domOn w)

/-- The next target: one that is due out of order, else the next in number order after the previous one, wrapping round. -/
def State.rotNext (s : State) : Option Nat :=
  match s.selfTest.next.find? s.rotEligible with
  | some w => some w
  | none => ((List.range 18).map fun i => (s.selfTest.prev + 1 + i) % 18).find? s.rotEligible

/-- DIAG_DEGRADED (R436, R352). -/
def State.degraded (s : State) : Bool :=
  s.rotState == rotStopped || (s.wheelsIn wsActive).any fun w => decide (36 * s.selfTest.interval < s.sinceS w)

def State.degUpdate (s : State) : State :=
  let now := s.degraded
  let was := s.flag F.SAFE_STATUS_DIAG_DEGRADED
  let s := (s.setFld F.SAFE_STATUS_DIAG_DEGRADED (b2n now)).setFld F.ST_STATUS_DEGRADED (b2n now)
  if now && !was then s.ev 0x0E0C else s

/-- The counts, the target and A7's wheels as the registers show them. -/
def State.stShow (s : State) : State :=
  let s := (s.setFld F.ST_STATUS_SPARES (s.wheelsIn wsSpare).length).setFld F.ST_STATUS_FUSED (s.wheelsIn wsFused).length
  let s := s.setFld F.ST_STATUS_REMOVED (s.wheelsIn wsRemoved).length
  let s := s.setFld F.ST_STATUS_TARGET ((s.selfTest.target.or s.rotNext).getD noWheel)
  let two := s.tasksOf 7 != []
  (s.setFld F.SAFE_CMP_WHEEL_1 (if two then s.fld F.ST_MAP_WHEEL 14 else noWheel)).setFld F.SAFE_CMP_WHEEL_2
    (if two then s.fld F.ST_MAP_WHEEL 15 else noWheel)

/-- Rotation stops while no spare exists, and restarts when one does (R436). -/
def State.rotCheck (s : State) : State :=
  let s :=
    if s.phase ≠ .running ∨ s.selfTest.target.isSome then s
    else if s.wheelsIn wsSpare = [] then
      if s.rotState = rotStopped then s
      else (s.setRot rotStopped).ev 0x1205
        [.b8 noWheel, .b8 (s.wheelsIn wsRemoved).length, .b8 (s.wheelsIn wsFused).length]
    else s.setRot rotWaiting
  (s.stShow).degUpdate

/-! ### The map -/

def State.setWheel (s : State) (w st l : Nat) : State :=
  (s.setFld F.WHEEL_STATE_STATE st w).setFld F.WHEEL_STATE_LWHEEL l w

/-- Physical wheel w carries logical wheel l. -/
def State.carry (s : State) (l w : Nat) : State := (s.setWheel w wsActive l).setFld F.ST_MAP_WHEEL w l

/-- The logical wheels in the order in which they are left without a wheel (R425): the account last in the order of R82 first, and
its highest number first. -/
def State.lwheelsLast (s : State) : List Nat :=
  [7, 6, 5, 4, 3, 2, 1, 0].flatMap fun r =>
    s.lwheelsUsed.reverse.filter fun l => (s.lwheelAcct l).map acctRank == some r

/-- Step 9 of Table 3.1 (R425): the map, and the accounts left without a wheel. -/
def State.buildMap (s : State) : State :=
  let passed := s.wheelsIn wsSpare
  let lost := s.lwheelsLast.take (s.lwheelsUsed.length - passed.length)
  let keep := s.lwheelsUsed.filter fun l => !lost.contains l
  let s := foldState (fun s (x : Nat × Nat) => s.carry x.1 x.2) (keep.zip passed) s
  foldState (fun s l => s.enterFault ((s.lwheelAcct l).getD 0) 6) lost s

/-! ### Tests and fuses -/

/-- A wheel is put under test. -/
def State.testBegin (s : State) (w : Nat) : State :=
  (s.setPwheel w { s.pwheel w with test := some .main }).setWheel w wsTesting noWheel

/-- A rotation step ends. -/
def State.rotEnd (s : State) : State :=
  let s := { s with selfTest.target := none, selfTest.spare := none }
  (if s.rotState = rotStopped then s else s.setRot rotWaiting).rotCheck

/-- A test of wheel w is over: the rotation step that ran it ends. -/
def State.testEnd (s : State) (w : Nat) : State :=
  let s := s.setPwheel w { s.pwheel w with test := none }
  if s.selfTest.target = some w then s.rotEnd else s.rotCheck

/-- Steps 1 and 2 of Table 18.2: every wheel that is not FUSED is powered and tested (R429). -/
def State.startTest (s : State) : State :=
  foldState (fun s w =>
    if s.flag F.WHEEL_STATE_OUT w then s.setWheel w wsFused noWheel
    else (s.setDom w true).testBegin w) (List.range 18) s

/-- The start test has given its results (step 5 of Table 18.2). -/
def State.startTestDone (s : State) : Bool := (List.range 18).all fun w => (s.pwheel w).test.isNone

/-- WHEEL_TEST_DONE: every checkpoint agreed, or the first that differs with the MISR found there (R427). -/
def State.testDone (s : State) (w : Nat) (cp : Option Nat) (misr : W64) : State :=
  if (s.pwheel w).test ≠ some .main ∨ !s.domOn w then s
  else match cp with
    | none =>
      let s := (s.setFld F.WHEEL_STATE_RESULT 1 w).setFld F.WHEEL_STATE_STATE wsSpare w
      let s := s.setPwheel w { s.pwheel w with passedAt := some s.tick }
      let s := if s.phase = .starting then s else s.bump F.ST_COUNTS_PASSED
      s.testEnd w
    | some c =>
      let s := (s.setFld F.WHEEL_STATE_FAIL_CP c w).setReg64 R.WHEEL_SIG misr.toNat w
      s.setPwheel w { s.pwheel w with test := some (.retest c) }

/-- Event 0x1203 where the step's spare has taken the work of wheel w. -/
def State.spareTook (s : State) (w : Nat) : State :=
  match s.selfTest.target, s.selfTest.spare with
  | some t, some p => if t = w then s.ev 0x1203 [.b8 w, .b8 p] else s
  | _, _ => s

/-- WHEEL_RETEST_DONE: UNCONFIRMED or CONFIRMED; the wheel is REMOVED, and a confirmed failure burns a fuse, which no closing
flush allows (R427, R428). (DEDUCED, log entry 71.) -/
def State.retestDone (s : State) (w : Nat) (agreed : Bool) : State :=
  match if s.domOn w then (s.pwheel w).test else none with
  | some (.retest c) =>
    let result := if agreed then 2 else 3
    let start := decide (s.phase = .starting)
    let s := ((s.setFld F.WHEEL_STATE_RESULT result w).setFld F.WHEEL_STATE_STATE wsRemoved w).setDom w false
    let s := s.bump F.WHEEL_TEST_FAILS w
    let s := if start then s else s.bump F.ST_COUNTS_FAILED
    let s := s.ev (if start then 0x1201 else 0x1202) [.b8 w, .b8 c, .b8 result]
    let s := s.spareTook w
    if agreed ∨ s.vault.closing.isSome then s.testEnd w
    else s.setPwheel w { s.pwheel w with test := some (.burn (s.flag F.WHEEL_STATE_STRIKE w)) }
  | _ => s

/-- FUSE_BURN_DONE (R428). -/
def State.fuseDone (s : State) (w : Nat) : State :=
  match (s.pwheel w).test with
  | some (.burn false) => (s.setFld F.WHEEL_STATE_STRIKE 1 w).testEnd w
  | some (.burn true) =>
    (((s.setFld F.WHEEL_STATE_OUT 1 w).setFld F.WHEEL_STATE_STATE wsFused w).ev 0x1204 [.b8 w]).testEnd w
  | _ => s

/-! ### Rotation -/

/-- The SPARE wheel whose last passed test is the most recent (R430; DESIGN CHOICE, log entry 51: the lowest number where two are
equal). -/
def State.bestSpare (s : State) : Option Nat :=
  (s.wheelsIn wsSpare).foldl (fun b w => match b with
    | none => some w
    | some v => if ((s.pwheel v).passedAt).getD 0 < ((s.pwheel w).passedAt).getD 0 then some w else some v) none

/-- A step begins: the round it belongs to (ST_ROUND; DEDUCED, log entry 52). -/
def State.roundStep (s : State) (w : Nat) : State :=
  match s.selfTest.round with
  | none => { s with selfTest.round := some (w, s.tick) }
  | some (first, t) =>
    let ahead (v : Nat) : Nat := (v + 17 - s.selfTest.prev) % 18
    if ahead first ≤ ahead w then
      { s.setReg R.ST_ROUND ((s.tick - t) / 1000000) with selfTest.round := some (first, s.tick) }
    else s

/-- ROTATION_STEP (R430, R436): the next target is tested in place, or its work is to move to a spare first. -/
def State.rotStep (s : State) : State :=
  if s.phase ≠ .running ∨ s.selfTest.target.isSome then s
  else
    let s := { s with selfTest.interval := s.fld F.ST_CFG_INTERVAL_S }
    match s.rotNext with
    | none => s.rotCheck
    | some w =>
      let s := if s.selfTest.next.contains w then s else s.roundStep w
      let s := { s with selfTest.prev := w, selfTest.next := s.selfTest.next.filter (· != w), selfTest.target := some w }
      let s :=
        if s.wst w = wsActive then
          match s.bestSpare with
          | some p => ({ s with selfTest.spare := some p }).setFld F.WHEEL_STATE_STATE wsPreparing p |>.setRot rotPreparing
          | none => s
        else if s.rotState = rotStopped then s.testBegin w
        else (s.testBegin w).setRot rotTesting
      (s.stShow).degUpdate

/-- SPARE_PREPARED (Table 18.3, step 1). -/
def State.sparePrepared (s : State) : State :=
  if s.rotState = rotPreparing then s.setRot rotSwitchWait else s

/-- Logical wheel l is idle (R431). -/
def State.lwheelIdle (s : State) (l : Nat) : Bool :=
  (s.openExecs.all fun e => !(s.lwheelTasks l).contains e.k || e.state == .snapshot) &&
    (s.image.merging ++ s.image.endWait).all fun d => !(s.lwheelTasks l).contains d.ex.k

/-- WHEEL_SWITCH (Table 18.3, step 2): at an idle tick the work moves and the target is tested. -/
def State.wheelSwitch (s : State) : State :=
  match s.selfTest.target, s.selfTest.spare with
  | some w, some p =>
    let l := s.fld F.WHEEL_STATE_LWHEEL w
    if s.rotState = rotSwitchWait ∧ s.lwheelIdle l then
      (((s.carry l p).testBegin w).setRot rotTesting).stShow
    else s
  | _, _ => s

/-- A step is skipped: the target remains the next one (R432). -/
def State.stepSkipped (s : State) (w : Nat) : State :=
  let s := (s.bump F.WHEEL_TEST_SKIPS w).bump F.ST_COUNTS_SKIPPED
  ({ s with selfTest.next := w :: s.selfTest.next }).rotEnd

/-- ROTATION_SKIP (R432). -/
def State.rotSkip (s : State) : State :=
  match s.selfTest.target, s.selfTest.spare with
  | some w, some p =>
    if s.rotState = rotSwitchWait then (s.setFld F.WHEEL_STATE_STATE wsSpare p).stepSkipped w else s
  | _, _ => s

/-! ### Losing a wheel (R434, R435) -/

/-- The executions of logical wheel l are lost with its wheel: abandoned, and every data word as of the last END. -/
def State.lwheelLost (s : State) (l : Nat) : State :=
  foldState (fun s k =>
    let mine (x : Nat × Option W64) : Bool := x.1 / 65536 % 64 == k
    let old := s.image.before.filter mine
    let s := s.abandon k
    let s := { s with image.data := old.foldl (fun m (x : Nat × Option W64) => nset 0 m x.1 (x.2.getD 0)) s.image.data,
                      image.before := s.image.before.filter fun x => !mine x,
                      image.dirty := s.image.dirty.filter (· / 65536 != k) }
    s.dataReady k) (s.lwheelTasks l) s

/-- Wheel p loads the work of logical wheel l. -/
def State.loadOn (s : State) (l p : Nat) : State :=
  let s := (s.setWheel p wsPreparing l).setFld F.ST_MAP_WHEEL p l
  { s with selfTest.loading := nset none s.selfTest.loading l (some p) }

/-- The wheel that takes lost work: the spare being prepared, a SPARE one, or the one under test, whose test is aborted (Table
18.5). -/
def State.replacement (s : State) : Option Nat :=
  match s.selfTest.spare with
  | some p => if s.wst p = wsPreparing then some p else s.bestSpare.or s.selfTest.target
  | none => s.bestSpare.or (s.selfTest.target.filter fun t => s.wst t == wsTesting)

/-- Logical wheel l has lost wheel w. -/
def State.moveWork (s : State) (w l : Nat) : State :=
  let s := s.lwheelLost l
  match s.replacement with
  | none =>
    let s := (s.setFld F.ST_MAP_WHEEL noWheel l).ev 0x1203 [.b8 w, .b8 noWheel]
    match s.lwheelAcct l with | some a => s.enterFault a 6 | none => s
  | some p =>
    let st := s.wst p
    let s := (s.loadOn l p).ev 0x1203 [.b8 w, .b8 p]
    if st = wsPreparing then s.stepSkipped (s.selfTest.target.getD w)
    else if st = wsTesting then
      (s.setFld F.WHEEL_STATE_RESULT 4 p).testEnd p
    else s

/-- A wheel leaves service at once and is REMOVED (R434). (DEDUCED, log entry 73.) -/
def State.wheelLost (s : State) (w : Nat) : State :=
  let st := s.wst w
  let l := s.fld F.WHEEL_STATE_LWHEEL w
  let out (s : State) : State := (s.setWheel w wsRemoved noWheel).setDom w false
  if st = wsTesting then ((out s).setFld F.WHEEL_STATE_RESULT 4 w).testEnd w
  else if st = wsSpare then (out s).rotCheck
  else if st = wsPreparing ∧ s.selfTest.spare = some w then (out s).rotEnd
  else if st = wsPreparing then
    ((out { s with selfTest.loading := nset none s.selfTest.loading l none }).moveWork w l).rotCheck
  else if st = wsActive then ((out s).moveWork w l).rotCheck
  else s

/-- SPARE_LOADED: releases on the new wheel begin at the next grid point. -/
def State.spareLoaded (s : State) (l : Nat) : State :=
  match nget none s.selfTest.loading l with
  | some p =>
    ({ (s.carry l p) with selfTest.loading := nset none s.selfTest.loading l none }).rotCheck
  | none => s

/-! ### Memory errors (R437, R438) -/

/-- 24 h in ticks. -/
abbrev dayTicks := 86400000000

/-- An uncorrectable word of a wheel's code or data memory; used: an instruction met it. -/
def State.wheelDouble (s : State) (w : Nat) (data : Bool) (addr : Nat) (used : Bool) : State :=
  let s := s.bump (if data then F.WHEEL_ECC_DATA_UNC else F.WHEEL_ECC_CODE_UNC) w
  let s := s.ev 0x1206 [.b8 w, .b8 (b2n data), .b32 addr]
  let errs := s.tick :: (s.pwheel w).errors.filter fun t => decide (s.tick < t + dayTicks)
  let s := s.setPwheel w { s.pwheel w with errors := errs }
  let l := s.fld F.WHEEL_STATE_LWHEEL w
  let s := if (data ∨ used) ∧ s.wst w = wsActive then
      match s.lwheelAcct l with | some a => s.enterFault a 4 | none => s
    else s
  if 2 ≤ errs.length ∨ s.wst w = wsPreparing then s.wheelLost w else s

/-- A wheel whose memories hold work or are kept ready for it. -/
def State.scrubbed (s : State) (w : Nat) : Bool := [wsActive, wsSpare, wsPreparing].contains (s.wst w)

/-- One error the wheel scrubber finds. -/
def State.scrubWheel (s : State) (e : WheelError) : State :=
  let w := e.wheel.val
  if !s.scrubbed w then s
  else if e.double then s.wheelDouble w e.data e.addr false
  else s.bump (if e.data then F.WHEEL_ECC_DATA_COR else F.WHEEL_ECC_CODE_COR) w

/-- One error the ledger scrubber finds. (DEDUCED, log entry 74.) -/
def State.scrubLedger (s : State) (e : LedgerError) : State :=
  match e with
  | .corrected => s.bump F.LEDGER_ECC_CORRECTED
  | .uncorrectable => s.bump F.LEDGER_ECC_UNCORRECTED
  | .bothCopies k addr =>
    let s := (s.bump F.LEDGER_ECC_UNCORRECTED (by_ := 2)).ev 0x1206 [.b8 noWheel, .b8 2, .b32 addr.val]
    if s.flag F.TASK_CFG_PRESENT k.val then s.enterFault (s.taskAcct k.val) 4 else s

/-- The part of self-test in the management cycle: WHEEL_LOAD over the cycle's 390,625,000 cycles, DIAG_DEGRADED. -/
def State.stCycle (s : State) : State :=
  (foldState (fun s w =>
    (s.setFld F.WHEEL_LOAD_BUSY (min 1000 ((s.pwheel w).busy / 390625)) w).setPwheel w { s.pwheel w with busy := 0 })
    (List.range 18) s).degUpdate

def execWheelTestDone (w : Fin 18) (cp : Option (Fin 11)) (misr : W64) (s : State) : Host.Outcome State Fault Refusal :=
  .next (s.testDone w.val (cp.map (·.val)) misr)
def execWheelRetestDone (w : Fin 18) (agreed : Bool) (s : State) : Host.Outcome State Fault Refusal :=
  .next (s.retestDone w.val agreed)
def execFuseBurnDone (w : Fin 18) (s : State) : Host.Outcome State Fault Refusal := .next (s.fuseDone w.val)
def execRotationStep (s : State) : Host.Outcome State Fault Refusal := .next s.rotStep
def execSparePrepared (s : State) : Host.Outcome State Fault Refusal := .next s.sparePrepared
def execWheelSwitch (s : State) : Host.Outcome State Fault Refusal := .next s.wheelSwitch
def execRotationSkip (s : State) : Host.Outcome State Fault Refusal := .next s.rotSkip
def execSpareLoaded (l : Fin 16) (s : State) : Host.Outcome State Fault Refusal := .next (s.spareLoaded l.val)
def execWheelScrub (errs : List WheelError) (s : State) : Host.Outcome State Fault Refusal :=
  .next (foldState State.scrubWheel errs s)
def execLedgerScrub (errs : List LedgerError) (s : State) : Host.Outcome State Fault Refusal :=
  .next (foldState State.scrubLedger errs s)

end Sys2Proof.Machine
end

