-- ==== Sys2Proof/Machine/Ranges.lean ====
section
/-! DEFINITION. The values that each register's definition allows (R469): one test for run-time writes and for image
records, over the register as it would be after the write. A 64-bit quantity is tested whole. -/

namespace Sys2Proof.Machine

/-- v lies in [lo, hi]. -/
def inR (v lo hi : Nat) : Bool := decide (lo ≤ v ∧ v ≤ hi)

/-- The bound of R347 on a receive connection with a given PATH_MAX_US. -/
def State.rzBound (s : State) (c path : Nat) : Bool :=
  decide (2 * s.reg R.RZT_RX_PERIOD c + 2 * path + s.reg R.RZT_RX_ASSAY c + 10 ≤ s.reg R.RZT_RX_WDOG c)

/-- Bits of a register that a write can set or act on. -/
def Reg.wr (r : Reg) : Nat := r.rw ||| r.w1c ||| r.wo

/-- Accounts and tills (subsystem 0x04); the structure of a till is R87's and tested for the image as a whole. -/
def range04 (r : Reg) (v : Nat) : Bool :=
  if r = R.ACCT_QUOTA_0 then inR (bits v 25 21) 0 16 && inR (bits v 20 16) 0 16 && inR (bits v 10 0) 0 1024
  else if r = R.ACCT_QUOTA_1 then inR (bits v 29 16) 0 8192 && inR (bits v 12 0) 0 4096
  else if r = R.ACCT_QUOTA_2 then inR (bits v 17 0) 0 131072
  else if r = R.ACCT_CFG then inR (bits v 9 0) 0 1000
  else if r = R.TILL_CFG then
    (bits v 4 0 == 0 || inR (bits v 4 0) 8 16) && inR (bits v 15 12) 0 6 && inR (bits v 23 20) 0 6
  else true

/-- Programs, tasks, force blocks (subsystems 0x05 and 0x06). -/
def State.range0506 (s : State) (r : Reg) (i v : Nat) : Bool :=
  if r = R.PROG_CODE then inR (bits v 8 0) 0 256
  else if r = R.PROG_DATA then inR (bits v 8 0) 1 256
  else if r = R.TASK_PERIOD then inR (bits v 25 0) 50 60000000
  else if r = R.TASK_PHASE then decide (bits v 25 0 < max 1 (s.reg R.TASK_PERIOD i))
  else if r = R.TASK_OVR then
    decide (bits v 25 0 ≤ s.reg R.TASK_PERIOD i) && bits v 31 30 != 3 && !(s.taskAcct i == 7 && bits v 31 30 == 0)
  else if r = R.FORCE_SIGNAL then decide (v < 2 ^ 17) || v == 0xFFFFFFFF
  else true

/-- A signal may be the cold-junction source of channel g: of the channel's own account, or SHARED (R208). -/
def State.cjSource (s : State) (g n : Nat) : Bool :=
  (s.sig n).owner == s.fld F.ACH_OWNER_ACCOUNT g || (s.sig n).shared

/-- Analogue channels and HART (subsystems 0x08 and 0x09). -/
def State.range0809 (s : State) (r : Reg) (i v : Nat) : Bool :=
  if r = R.ACH_RATE then inR (bits v 23 0) 0 10000000 && !(s.flag F.HART_CFG_EN i && decide (bits v 31 29 < 4))
  else if r = R.ACH_DIAG then inR (bits v 25 16) 0 1000
  else if r = R.ACH_CJ then bits v 31 30 != 3 && (bits v 31 30 != 1 || s.cjSource i (bits v 16 0))
  else if r = R.HART_Z_CFG then inR (bits v 15 8) 1 255 && inR (bits v 7 0) 1 100
  else true

/-- Digital channels and time (subsystems 0x0A and 0x0C). -/
def range0A0C (r : Reg) (v : Nat) : Bool :=
  if r = R.DCH_FILT then inR (bits v 30 16) 50 20000 && inR (bits v 9 0) 8 1000
  else if r = R.TIME_CFG then inR (bits v 27 16) 0 3600 && inR (bits v 11 0) 1 3600
  else if r = R.DOM_CFG then inR (bits v 7 0) 0 127
  else if r = R.PORT_ASYM then decide (-100000 ≤ sint 32 v ∧ sint 32 v ≤ 100000)
  else true

/-- Network and safety (subsystems 0x0D and 0x0E). -/
def State.range0D0E (s : State) (r : Reg) (i v : Nat) : Bool :=
  if r = R.NET_PATH then
    inR (bits v 13 0) 1 10000 &&
      (List.range 64).all fun c => !s.flag F.RZT_RX_CFG_EN c || s.rzBound c (bits v 13 0)
  else if r = R.NET_TIMING then inR (bits v 31 20) 10 2550 && inR (bits v 16 0) 50 100000
  else if r = R.NET_BUDGET then inR (bits v 12 0) 1 4096
  else if r = R.NET_OVR then inR (bits v 12 0) 1 4096
  else if r = R.NET_PORTS then inR (bits v 27 16) 0 4094
  else if r = R.PUB_CFG then
    inR (bits v 30 22) 1 256 && (!bit v 31 || decide (bits v 12 0 + bits v 30 22 ≤ 8192))
  else if r = R.PUB_PERIOD then inR (bits v 25 0) 50 60000000
  else if r = R.PUB_PHASE then decide (bits v 25 0 < max 1 (s.reg R.PUB_PERIOD i))
  else if r = R.SF_CFG then !bit v 31 || bits v 30 29 != 0
  else if r = R.SF_LIMIT then inR v 1 100000000
  else if r = R.SF_REMOTE ∨ r = R.SF_REMOTE_TYP then s.fld F.SF_CFG_KIND i == 2 || v == 0
  else if r = R.RZT_RX_CFG ∨ r = R.RZT_TX_CFG then
    (!bit v 31 || bits v 29 28 != 0) && inR (bits v 27 22) 1 32 && bits v 15 0 != 0
  else if r = R.RZT_RX_PEER then bits v 11 0 != 0
  else if r = R.RZT_TX_PEER then (!s.flag F.RZT_TX_CFG_EN i || bits v 11 0 != 0) && bits v 31 28 == 0 && bits v 15 12 == 0
  else if r = R.RZT_RX_PERIOD ∨ r = R.RZT_TX_PERIOD then inR (bits v 25 0) 50 1000000
  else if r = R.RZT_TX_PHASE then decide (bits v 25 0 < max 1 (s.reg R.RZT_TX_PERIOD i))
  else if r = R.RZT_RX_WDOG then
    inR (bits v 23 0) 100 10000000 && (!s.flag F.RZT_RX_CFG_EN i || s.rzBound i (s.fld F.NET_PATH_PATH_MAX_US))
  else if r = R.RZT_RX_ASSAY then inR (bits v 9 0) 10 1000
  else if r = R.RZT_RX_DEGR then inR (bits v 16 0) 0 86400
  else true

/-- Pair, CAN, vault, self-test, panel (subsystems 0x0F to 0x13). -/
def range0F13 (r : Reg) (v : Nat) : Bool :=
  if r = R.PAIR_CFG then bits v 31 20 != 0
  else if r = R.PAIR_TIMING then (bits v 31 22 == 0 || inR (bits v 31 22) 24 720) && inR (bits v 11 0) 10 3600
  else if r = R.CAN_CFG then inR (bits v 31 28) 0 5
  else if r = R.CAN_NBT then canNbtOk v
  else if r = R.CAN_DBT then canDbtOk v
  else if r = R.CAN_FLT_CTRL then inR (bits v 5 0) 0 56
  else if r = R.VAULT_RATE then bits v 7 0 != 0
  else if r = R.VAULT_RATE_OVR then bits v 7 0 != 0
  else if r = R.VAULT_PRIV then inR (bits v 23 16) (b2n (bit v 31)) 246
  else if r = R.VAULT_PRIV_BASE then v % 4 == 0
  else if r = R.ST_CFG then inR (bits v 7 0) 5 200
  else if r = R.PANEL_CTRL then inR (bits v 14 8) 0 100
  else true

/-- A 32-bit register may take the value v (R469). -/
def State.rangeOk (s : State) (r : Reg) (i v : Nat) : Bool :=
  match r.base / 2 ^ 24 with
  | 0x04 => range04 r v
  | 0x05 => s.range0506 r i v
  | 0x06 => s.range0506 r i v
  | 0x08 => s.range0809 r i v
  | 0x09 => s.range0809 r i v
  | 0x0A => range0A0C r v
  | 0x0C => range0A0C r v
  | 0x0D => s.range0D0E r i v
  | 0x0E => s.range0D0E r i v
  | _ => range0F13 r v

/-- A 64-bit quantity may take the value v (R202, R205, R206). -/
def rangeOk64 (r : Reg) (v : W64) : Bool :=
  if r = R.ACH_CJ_FIXED then f64InQ v (-40) 100 1
  else if r = R.ACH_LEAD then f64InQ v 0 100 1
  else if r = R.ACH_GAIN_0 ∨ r = R.ACH_GAIN_1 then f64Finite v && !(v == 0 || v == 0x8000000000000000)
  else if r = R.ACH_OFFSET_0 ∨ r = R.ACH_OFFSET_1 then f64Finite v
  else true

/-- Registers written only by the image at step 9 of Table 3.1 (R96, R140, R148, R212, R349, R394 and the register tables): a
later write completes with PROT. -/
def imageOnly (r : Reg) : Bool :=
  [R.ACCT_QUOTA_0, R.ACCT_QUOTA_1, R.ACCT_QUOTA_2, R.TILL_CFG, R.PROG_CODE, R.PROG_DATA, R.PROG_ENTRY, R.CODE_WIN_DATA,
   R.PROG_OWNER, R.TASK_CFG, R.TASK_PERIOD, R.TASK_PHASE, R.SLOT_WIN_DATA, R.TASK_OWNER, R.ACH_OUT_SIG, R.ACH_OWNER,
   R.DCH_OUT_SIG, R.DCH_OWNER].contains r ||
  [R.NET_PORTS, R.PUB_LIST_DATA, R.SUBS_DATA, R.PUB_CFG, R.PUB_PERIOD, R.PUB_PHASE, R.PUB_OWNER, R.SF_CFG, R.SF_OUT,
   R.SF_LIMIT, R.SF_REMOTE, R.SF_REMOTE_TYP, R.RZT_RX_CFG, R.RZT_RX_PEER, R.RZT_RX_SIG, R.RZT_RX_PERIOD, R.RZT_RX_WDOG,
   R.RZT_RX_ASSAY, R.RZT_RX_DEGR, R.RZT_TX_CFG, R.RZT_TX_PEER, R.RZT_TX_SIG, R.RZT_TX_PERIOD, R.RZT_TX_PHASE,
   R.RZT_TX_ELEM, R.PAIR_CFG, R.CAN_FLT_SIG, R.CAN_OWNER].contains r

/-- Module-local registers (R76): a write acts on the module written alone. Window address registers are tested apart. -/
def moduleLocal (r : Reg) : Bool :=
  let u := r.base / 2 ^ 24
  u == 0x01 || u == 0x03 || u == 0x11 || u == 0x13 || r.w1c != 0 ||
    [R.SESSION_CTRL, R.PAIR_CTRL, R.TILL_CMD, R.TILL_DATA_LO, R.TILL_DATA_HI].contains r

end Sys2Proof.Machine
end

