-- ==== Sys2Proof/Machine/Windows.lean ====
section
/-! DEFINITION. Data windows (R97): the object behind each window, its length, a word of it as a read shows it, and how a
word assembled from its halves (R141) enters it. -/

namespace Sys2Proof.Machine

/-- The windows of the register map: address register, data register. -/
def winPairs : List (Reg × Reg) :=
  [(R.CODE_WIN_ADDR, R.CODE_WIN_DATA), (R.DATA_WIN_ADDR, R.DATA_WIN_DATA), (R.SLOT_WIN_ADDR, R.SLOT_WIN_DATA),
   (R.SIG_WIN_ADDR, R.SIG_WIN_DATA), (R.FORCE_LIST_ADDR, R.FORCE_LIST_DATA), (R.FIRE_LIST_ADDR, R.FIRE_LIST_DATA),
   (R.NET_PEER_ADDR, R.NET_PEER_DATA), (R.PUB_LIST_ADDR, R.PUB_LIST_DATA), (R.SUBS_ADDR, R.SUBS_DATA),
   (R.NET_ISSUE_ADDR, R.NET_ISSUE_DATA), (R.VAULT_WIN_ADDR, R.VAULT_WIN_DATA), (R.PANEL_WIN_ADDR, R.PANEL_WIN_DATA)]

/-- The address register of the window whose data register is r. -/
def winAddrReg (r : Reg) : Option Reg := (winPairs.find? fun p => p.2 == r).map (·.1)

/-- r is the address register of a window. -/
def isWinAddr (r : Reg) : Bool := winPairs.any fun p => p.1 == r

/-- Force block registers that the claim of FORCE_SIGNAL covers (R168). -/
def isForceReg (r : Reg) : Bool := [R.FORCE_SIGNAL, R.FORCE_VALUE, R.FORCE_CTRL].contains r

/-- The address under which the claim on a register's window is kept. -/
def claimKey (r : Reg) (i : Nat) : Option Nat :=
  if isWinAddr r then some (r.addr i 0)
  else if isForceReg r then some (R.FORCE_SIGNAL.addr i 0)
  else (winAddrReg r).map fun a => a.addr i 0

/-- A slot-table entry as a word (Table 6.3). -/
def Slot.word (x : Slot) : W64 :=
  BitVec.ofNat 64 (b2n x.qsrcEn * 2 ^ 44 + x.qsrc % 2 ^ 12 * 2 ^ 32 + b2n x.propGf * 2 ^ 19 + b2n x.used * 2 ^ 18 +
    b2n x.out * 2 ^ 17 + x.sig % 2 ^ 17)

def Slot.ofWord (v : Nat) : Slot := ⟨bit v 18, bit v 17, bits v 16 0, bit v 44, bits v 43 32, bit v 19⟩

/-- Half h of a word. -/
def half64 (v : W64) (h : Nat) : W32 := BitVec.ofNat 32 (if h % 2 = 0 then v.toNat else v.toNat / 2 ^ 32)

/-- The four words of force-list entry g (Table 6.16). -/
def forceWords (g : Nat) (f : Force) : List W64 := [BitVec.ofNat 64 g, f.value, f.unforced.value, f.stamp]

/-- The forces of account a, in signal order. -/
def State.forceList (s : State) (a : Nat) : List (List W64) :=
  s.image.forces.filterMap fun (g, f) => match f with
    | some f => if f.account = a then some (forceWords g f) else none
    | none => none

/-- The two halves of a peer's entry (NET_PEER_DATA): low, high. -/
def State.peerWord (s : State) (a h : Nat) : W32 :=
  let p := s.peer a
  let held := (s.net.tags.filter fun (_, x) => x.st != 0 && x.peer == a).length
  let waiting := ((List.range 8).map fun k =>
    ((s.queue k).filter fun q => q.admitted.isSome && hPeer (q.item.headD 0) == a).length).sum
  BitVec.ofNat 32 (if h = 0 then p.state * 2 ^ 28 + p.version * 2 ^ 24 + held % 2 ^ 13
    else b2n p.heardA.isSome * 2 ^ 31 + b2n p.heardB.isSome * 2 ^ 30 + p.flags % 256 * 2 ^ 16 + waiting % 2 ^ 16)

/-- Length in bytes of the object behind the window with data register r, entry i. -/
def State.winBytes (s : State) (r : Reg) (i : Nat) : Nat :=
  if r = R.CODE_WIN_DATA then 1024 * s.fld F.PROG_CODE_CODE_UNITS i
  else if r = R.DATA_WIN_DATA then 512 * s.fld F.PROG_DATA_DATA_UNITS i
  else if r = R.SLOT_WIN_DATA then 32768
  else if r = R.SIG_WIN_DATA then 64 * 131072
  else if r = R.FORCE_LIST_DATA then 32 * (s.forceList i).length
  else if r = R.FIRE_LIST_DATA then 32 * (nget [] s.image.fireCopy i).length
  else if r = R.NET_PEER_DATA then 32768
  else if r = R.PUB_LIST_DATA then 32768
  else if r = R.SUBS_DATA then 8 * 32768
  else if r = R.NET_ISSUE_DATA then 8 * 2048
  else if r = R.PANEL_WIN_DATA then 4 * frameWords
  else 2 ^ 32

/-- The word at a byte offset of a window, as a read shows it; the vault's window is served by State.vwindow. -/
def State.winWord (s : State) (r : Reg) (i off : Nat) : W32 :=
  if r = R.CODE_WIN_DATA then nget 0 s.image.code (65536 * i + off / 4)
  else if r = R.DATA_WIN_DATA then half64 (nget 0 s.image.data (65536 * i + off / 8)) (off / 4)
  else if r = R.SLOT_WIN_DATA then half64 (s.slot i (off / 8)).word (off / 4)
  else if r = R.SIG_WIN_DATA then half64 ((s.sig (off / 64)).word (off / 8 % 8)) (off / 4)
  else if r = R.FORCE_LIST_DATA then half64 (((s.forceList i).getD (off / 32) []).getD (off / 8 % 4) 0) (off / 4)
  else if r = R.FIRE_LIST_DATA then
    match (nget [] s.image.fireCopy i)[off / 32]? with
    | some f => f.half (off / 4 % 8)
    | none => 0
  else if r = R.NET_PEER_DATA then s.peerWord (off / 8) (off / 4 % 2)
  else if r = R.PUB_LIST_DATA then BitVec.ofNat 32 (nget 0 s.net.pubList (off / 4))
  else if r = R.SUBS_DATA then half64 (nget 0 s.net.subs (off / 8)) (off / 4)
  else if r = R.PANEL_WIN_DATA then s.frameWord (off / 4)
  else 0

/-- Where a session holds the low half of the 64-bit word at an offset of a window (R141). -/
def winKey (r : Reg) (i off : Nat) : Nat := 2 ^ 32 * r.addr i 0 + off / 8 * 8

/-- A session that the image uses for its halves: no session of R99 has this number. -/
abbrev imgSession : Nat := 8

def State.hold (s : State) (n key : Nat) (v : Option W32) : State :=
  s.setSession n { s.session n with held := nset none (s.session n).held key v }

def State.heldAt (s : State) (n key : Nat) : Option W32 := nget none (s.session n).held key

/-- A word assembled from its halves. -/
def joinHalves (lo hi : W32) : W64 := BitVec.ofNat 64 (lo.toNat + 2 ^ 32 * hi.toNat)

/-- Step 9 of Table 3.1: a word enters the object behind a window; none where CONTROL names another owner than the section's
account. (DEDUCED, log entry 31.) -/
def State.imgPut (s : State) (r : Reg) (i off : Nat) (v : W64) : Option State :=
  if r = R.DATA_WIN_DATA then
    let k := 65536 * i + off / 8
    some { s with image.data := nset 0 s.image.data k v, image.dataImg := nset 0 s.image.dataImg k v }
  else if r = R.SLOT_WIN_DATA then
    if v.toNat &&& 0xFFFFE000FFF00000 = 0 then
      some { s with image.slots := nset .init s.image.slots (4096 * i + off / 8) (.ofWord v.toNat) }
    else none
  else if r = R.SIG_WIN_DATA then
    let g := off / 64
    let w := off / 8 % 8
    let x := s.sig g
    if w = 7 ∧ (bits v.toNat 14 12 ≠ i ∨ v.toNat &&& 0xF000008800 ≠ 0 ∨ 6 < bits v.toNat 19 16) then none
    else if w ≠ 7 ∧ x ≠ .init ∧ x.freshUs + x.kind + x.index + x.owner ≠ 0 ∧ x.owner ≠ i then none
    else some (s.setSig g (x.setWord w v))
  else if r = R.SUBS_DATA then
    if v.toNat &&& 0xFFFFF000FFFE0000 = 0 then some { s with net.subs := nset 0 s.net.subs (off / 8) v } else none
  else none

/-- Step 9 of Table 3.1: one word to a window's data register; none beyond the end of the object. -/
def State.imgWin (s : State) (r a : Reg) (i : Nat) (v : W32) : Option State :=
  let off := s.reg a i
  if s.winBytes r i ≤ off then none
  else
    let s := s.setReg a (off + 4) i
    if r = R.CODE_WIN_DATA then some { s with image.code := nset 0 s.image.code (65536 * i + off / 4) v }
    else if r = R.PUB_LIST_DATA then
      if v.toNat < 2 ^ 17 then some { s with net.pubList := nset 0 s.net.pubList (off / 4) v.toNat } else none
    else if r = R.PANEL_WIN_DATA then some (s.setFrameWord (off / 4) v)
    else if off / 4 % 2 = 0 then some (s.hold imgSession (winKey r i off) (some v))
    else match s.heldAt imgSession (winKey r i off) with
      | some lo => (s.hold imgSession (winKey r i off) none).imgPut r i off (joinHalves lo v)
      | none => some s

/-- A word of an account key (R103): word 7 makes the new key take effect. -/
def State.keyWrite (s : State) (a j : Nat) (v : W32) : State :=
  let x := s.acct a
  let x := { x with newKey := ninsert x.newKey j v }
  if j = 7 then
    s.setAcct a { x with newKey := [], key := (List.range 8).map fun n => nget (x.key.getD n 0) x.newKey n }
  else s.setAcct a x

/-- Step 9 of Table 3.1: one word of a record at an address; none where it cannot be written. -/
def State.imgWrite (s : State) (addr : Nat) (v : W32) : Option State :=
  match regAt addr with
  | none => none
  | some (r, i, j) =>
    match winAddrReg r with
    | some a => s.imgWin r a i v
    | none =>
      if r = R.ACCT_KEY then some (s.keyWrite i j v)
      else
        let s' := s.setReg r ((s.reg r i j &&& (2 ^ 32 - 1 - r.rw)) ||| (v.toNat &&& r.rw)) i j
        some (if r = R.TIME_SET ∧ j = 1 then { s' with time.preset := true } else s')

/-- Step 9 of Table 3.1: a record (Table 3.4). -/
def State.imgRecord (s : State) (x : ImgRec) : Option State :=
  (x.words.foldl (fun (p : Option State × Nat) w =>
    (p.1.bind fun s => s.imgWrite p.2 w, if x.win then p.2 else p.2 + 4)) (some s, x.addr)).1

end Sys2Proof.Machine
end

