-- ==== Sys2Proof/Machine/ImageCheck.lean ====
section
/-! DEFINITION. The configuration image (chapter 3): layout, the checks of Table 3.5 on a bank, the content check of R65
with the rules of the other chapters that fail it. -/

namespace Sys2Proof.Machine

/-! ### Layout (R60 to R64, R67) -/

/-- Bank results (Table 3.5). -/
abbrev rsValid := 0
abbrev rsAbsent := 1
abbrev rsBlank := 2
abbrev rsHeader := 3
abbrev rsVersion := 4
abbrev rsBlockCrc := 5
abbrev rsDigest := 6
abbrev rsDirectory := 7
abbrev rsContent := 8
abbrev rsNotTried := 9
abbrev rsTimeout := 10

abbrev imgMagic : Nat := 0x4958485A

/-- Word n of a bank: an erased word reads all ones. -/
def bankWord (bank : NMap W32) (n : Nat) : Nat := (nget 0xFFFFFFFF bank n).toNat

/-- The bytes of n words of a bank from word k. -/
def bankBytes (bank : NMap W32) (k n : Nat) : List Byte :=
  (List.range n).flatMap fun i => bytesLE 4 (bankWord bank (k + i))

def wordsZero (bank : NMap W32) (k n : Nat) : Bool := (List.range n).all fun i => bankWord bank (k + i) == 0

/-- CRC of one block (R60). -/
def blockCrcOk (bank : NMap W32) (b : Nat) : Bool :=
  (crc32 (bankBytes bank (1024 * b) 1023)).toNat == bankWord bank (1024 * b + 1023)

/-- A directory entry (Table 3.3). -/
structure DirEntry where
  type : Nat
  account : Nat
  format : Nat
  first : Nat
  length : Nat
  crc : Nat
  deriving DecidableEq, Repr

def imgFormat (bank : NMap W32) : Nat := bits (bankWord bank 1) 15 0
def imgSections (bank : NMap W32) : Nat := bits (bankWord bank 4) 31 16
def imgBlocks (bank : NMap W32) : Nat := bankWord bank 3

/-- Words of a directory entry: 4 in format 3, 3 in format 2. -/
def dirWords (format : Nat) : Nat := if format = 2 then 3 else 4

def dirEntry (bank : NMap W32) (n : Nat) : DirEntry :=
  let k := dirWords (imgFormat bank)
  let w (i : Nat) := bankWord bank (64 + k * n + i)
  ⟨bits (w 0) 7 0, bits (w 0) 15 8, bits (w 0) 31 16, w 1, w 2, if k = 4 then w 3 else 0⟩

/-- TYPE, ACCOUNT, SECTION_FORMAT, FIRST_BLOCK and LENGTH within Table 3.3; format 2 has no SAFETY section (R67). -/
def DirEntry.inTable (e : DirEntry) (blocks : Nat) (f2 : Bool) : Bool :=
  ((e.type == 1 && e.account == 0xFF) || (e.type == 2 && decide (e.account ≤ 6)) || (e.type == 3 && e.account == 7 && !f2)) &&
    e.format == 1 && inR e.first 1 (blocks - 1) && e.length % 4 == 0

def directory (bank : NMap W32) : List DirEntry := (List.range (imgSections bank)).map (dirEntry bank)

/-- Header fields within Table 3.2, as R67 modifies it for format 2, and the directory's within Table 3.3; entries beyond
SECTION_COUNT zero. -/
def headerOk (bank : NMap W32) : Bool :=
  let f2 := imgFormat bank == 2
  let w := bankWord bank
  let k := dirWords (imgFormat bank)
  bits (w 1) 31 16 == (if f2 then 0x400 else 0x500) &&
  inR (w 2) 1 0xFFFFFFFE && inR (w 3) 2 (if f2 then 4096 else 7680) && inR (bits (w 4) 15 0) 1 4095 &&
  inR (bits (w 4) 31 16) 2 64 && inR (bits (w 5) 7 0) 0x41 0x5A && bits (w 5) 15 10 == 0 && !(f2 && bit (w 5) 9) &&
  inR (bits (w 5) 31 16) 0 (if f2 then 0 else 1000) && wordsZero bank 9 7 && wordsZero bank 24 40 &&
  (!f2 || wordsZero bank 17 7) &&
  wordsZero bank (64 + k * imgSections bank) (1023 - (64 + k * imgSections bank)) &&
  (directory bank).all (·.inTable (imgBlocks bank) f2)

/-- Checks ABSENT to HEADER (R59, Table 3.5): the result, 0 where all pass. -/
def headerResult (present : Bool) (bank : NMap W32) : Nat :=
  if !present then rsAbsent
  else if bankWord bank 0 = 0xFFFFFFFF then rsBlank
  else if bankWord bank 0 = imgMagic ∧ imgFormat bank ≠ 2 ∧ imgFormat bank ≠ 3 then rsVersion
  else if bankWord bank 0 ≠ imgMagic ∨ !headerOk bank then rsHeader
  else 0

/-- GENERATION as CFG_GEN shows it (Table 3.13). -/
def imgGen (present : Bool) (bank : NMap W32) : Nat :=
  if present && bankWord bank 0 == imgMagic && (imgFormat bank == 2 || imgFormat bank == 3) then bankWord bank 2 else 0

/-- The first block with a wrong CRC. -/
def badBlock (bank : NMap W32) : Option Nat := (List.range (imgBlocks bank)).find? fun b => !blockCrcOk bank b

/-- The bytes that DIGEST and IMAGE_CRC cover (R62). -/
def digestBytes (bank : NMap W32) : List Byte :=
  (List.range (1024 * imgBlocks bank)).flatMap fun i =>
    bytesLE 4 (if (16 ≤ i ∧ i < 24) ∨ i = 1023 then 0 else bankWord bank i)

def digestOk (bank : NMap W32) : Bool :=
  if imgFormat bank = 2 then (crc32 (digestBytes bank)).toNat == bankWord bank 16
  else sha256 (digestBytes bank) == bankBytes bank 16 8

/-- Content words of a section: payload words of consecutive blocks. -/
def sectionWords (bank : NMap W32) (e : DirEntry) : List W32 :=
  (List.range (e.length / 4)).map fun n => BitVec.ofNat 32 (bankWord bank (1024 * (e.first + n / 1023) + n % 1023))

/-- The blocks a section occupies (R63). -/
def DirEntry.blocks (e : DirEntry) : List Nat := (List.range (max 1 ((e.length + 4091) / 4092))).map (e.first + ·)

/-- Every block that the section occupies is one of the image. -/
def DirEntry.ok (e : DirEntry) (blocks : Nat) : Bool := e.blocks.all fun b => decide (b < blocks)

/-- R63, with the SECTION_CRC of format 3. -/
def directoryOk (bank : NMap W32) : Bool :=
  let ds := directory bank
  let f2 := imgFormat bank == 2
  let n (t a : Nat) := (ds.filter fun e => e.type == t && e.account == a).length
  ds.all (·.ok (imgBlocks bank)) && (ds.flatMap (·.blocks)).Nodup && n 1 0xFF == 1 && n 2 0 == 1 &&
    ((List.range 6).all fun a => decide (n 2 (a + 1) ≤ 1)) && decide (n 3 7 ≤ 1) &&
    (bit (bankWord bank 5) 9 == (n 3 7 == 1)) &&
    (f2 || ds.all fun e => (crc32 ((sectionWords bank e).flatMap wordBytes)).toNat == e.crc)

/-- The records of a section (R64); none where they do not fill it exactly. -/
def parseRecords (sect : Nat) : Nat → List W32 → Option (List ImgRec)
  | _, [] => some []
  | 0, _ => none
  | fuel + 1, a :: h :: rest =>
    let count := bits h.toNat 15 0
    let kind := bits h.toNat 23 16
    if a.toNat % 4 ≠ 0 ∨ count = 0 ∨ (kind ≠ 1 ∧ kind ≠ 2) ∨ bits h.toNat 31 24 ≠ 0 ∨ rest.length < count then none
    else (parseRecords sect fuel (rest.drop count)).map (⟨sect, a.toNat, kind == 2, rest.take count⟩ :: ·)
  | _, _ => none

/-- The place of a section in the order of R66. -/
def DirEntry.rank (e : DirEntry) : Nat := if e.type = 1 then 0 else e.account + 1

/-- All records of an image in the order of R66. -/
def imageRecords (bank : NMap W32) : Option (List ImgRec) :=
  (List.range 9).foldl (fun (acc : Option (List ImgRec)) k =>
    ((directory bank).filter fun e => e.rank == k).foldl (fun (acc : Option (List ImgRec)) e =>
      acc.bind fun l => (parseRecords e.account (e.length / 4 + 1) (sectionWords bank e)).map (l ++ ·)) acc) (some [])

/-- The accounts that have a section. -/
def imgAccounts (bank : NMap W32) : List Nat := ((directory bank).filter (·.type != 1)).map (·.account)

def imgHead (bank : NMap W32) : ImgHead :=
  let w := bankWord bank
  { format := imgFormat bank, gen := w 2, blocks := w 3, address := bits (w 4) 15 0, sections := imgSections bank,
    pair := bit (w 5) 8, safety := bit (w 5) 9, settleMs := if imgFormat bank = 2 then 500 else bits (w 5) 31 16,
    digest := bankBytes bank 16 8,
    safetyCrc := BitVec.ofNat 32 ((((directory bank).find? fun e => e.type == 3).map (·.crc)).getD 0) }

/-! ### Content check: one record (R65) -/

/-- Every word of a record with its register. -/
def ImgRec.targets (x : ImgRec) : List (Nat × W32) :=
  (List.range x.words.length).map fun n => (if x.win then x.addr else x.addr + 4 * n, x.words.getD n 0)

/-- Registers that no image may write: commands, queues, sessions, the configuration registers, force blocks. -/
def imgForbidden (r : Reg) : Bool :=
  (r.wo != 0 && r != R.ACCT_KEY) || r.base / 2 ^ 24 == 0x03 ||
    [R.TILL_DATA_LO, R.TILL_DATA_HI, R.NET_ISSUE_ADDR, R.FORCE_SIGNAL, R.FORCE_VALUE, R.FORCE_LIST_ADDR].contains r

/-- A value that a channel's configuration register may take in an image. -/
def State.imgFields (t : State) (r : Reg) (i v : Nat) : Bool :=
  if r = R.ACH_CFG then aCfgFields v
  else if r = R.DCH_CFG then dCfgFields v
  else if r = R.HART_CFG then t.hCfgCheck i v == 0
  else true

/-- One word of a record of section sect, judged in the state t that the whole image leaves. -/
def State.imgWordOk (t : State) (sect : Nat) (win : Bool) (p : Nat × W32) : Bool :=
  match regAt p.1 with
  | none => false
  | some (r, i, _) =>
    let v := p.2.toNat
    let data := (winAddrReg r).isSome
    (!win || data) && r.wr != 0 && !imgForbidden r &&
    t.blockOwner p.1 == (if sect = 0xFF then none else some sect) &&
    (data || (v &&& (2 ^ 32 - 1 - r.wr) == 0 && (r.w64 || t.rangeOk r i v) && t.imgFields r i v &&
      (!r.w64 || rangeOk64 r (BitVec.ofNat 64 (t.reg64 r i)))))

/-- Every BLOCK_OWNER that the image writes, with the section and the account it names. -/
def ownerWrites (recs : List ImgRec) : List (Nat × Nat × Nat) :=
  recs.flatMap fun x => (x.targets.filter fun p => p.1 % 4096 == 0xFFC).map fun p => (p.1, x.sect, p.2.toNat)

/-! ### Content check: the image as a whole -/

/-- Sum of a quantity over the accounts. -/
def sumA (f : Nat → Nat) : Nat := ((List.range 8).map f).sum

def State.usedTills (t : State) (a : Nat) : List Nat := (List.range 16).filter fun n => t.tillSize a n != 0

/-- Quotas and module totals (R81). -/
def State.quotasOk (t : State) : Bool :=
  ((List.range 8).all fun a =>
    decide ((t.tasksOf a).length ≤ t.fld F.ACCT_QUOTA_0_TASKS a) &&
    decide ((t.usedTills a).length ≤ t.fld F.ACCT_QUOTA_0_TILLS a) &&
    decide (((t.usedTills a).map fun n => t.tillSize a n / 256).sum ≤ t.fld F.ACCT_QUOTA_0_TILL_UNITS a) &&
    decide ((t.image.sigs.filter fun (_, x) => x.owner == a).length ≤ t.fld F.ACCT_QUOTA_2_SIGNALS a)) &&
  decide (sumA (fun a => t.fld F.ACCT_QUOTA_0_TASKS a) ≤ 64) && decide (sumA (fun a => t.fld F.ACCT_QUOTA_0_TILLS a) ≤ 128) &&
  decide (sumA (fun a => t.fld F.ACCT_QUOTA_0_TILL_UNITS a) ≤ 1024) &&
  decide (sumA (fun a => t.fld F.ACCT_QUOTA_1_TAGS a) ≤ 4096) &&
  decide (sumA (fun a => t.fld F.ACCT_QUOTA_1_FIRING a) ≤ 8192) &&
  decide (sumA (fun a => t.fld F.ACCT_QUOTA_2_SIGNALS a) ≤ 131072)

/-- An endpoint of a till of account a (Table 4.5, R394). -/
def State.endpointOk (t : State) (a : Nat) (prod : Bool) (kind idx : Nat) : Bool :=
  match kind with
  | 1 => (t.tasksOf a).any fun k => t.taskIdx k == idx
  | 2 => idx == 0
  | 3 => prod
  | 4 => prod && idx == 0
  | 5 => decide (idx ≤ 5)
  | 6 => decide (idx ≤ 3) && t.canOwner idx == a
  | _ => false

/-- R87, R235 and R394 for the tills of account a. -/
def State.tillsOk (t : State) (a : Nat) : Bool :=
  let used := t.usedTills a
  let prods := used.map fun n => (t.fld F.TILL_CFG_PROD_KIND a n, t.fld F.TILL_CFG_PROD_INDEX a n)
  let cons := used.map fun n => (t.fld F.TILL_CFG_CONS_KIND a n, t.fld F.TILL_CFG_CONS_INDEX a n)
  ((List.range 16).all fun n =>
    t.tillSize a n != 0 || (t.reg R.TILL_CFG a n &&& 0x0FFFF000 == 0)) &&
  (prods.all fun p => t.endpointOk a true p.1 p.2) && (cons.all fun p => t.endpointOk a false p.1 p.2) &&
  (prods.filter fun p => p.1 == ekNetReply || p.1 == ekNetIn || p.1 == ekHart || p.1 == ekCan).Nodup &&
  (cons.filter fun p => p.1 == ekHart || p.1 == ekCan).Nodup

/-- R110, R144, R145, R166. -/
def State.tasksOk (t : State) (safety : Bool) : Bool :=
  let present := (List.range 64).filter fun k => t.flag F.TASK_CFG_PRESENT k
  ((List.range 64).all fun k => t.fld F.TASK_OWNER_ACCOUNT k == t.fld F.PROG_OWNER_ACCOUNT k) &&
  (present.map fun k => (t.taskAcct k, t.taskIdx k)).Nodup &&
  (present.all fun k => present.all fun j => t.taskWheel k != t.taskWheel j || t.taskAcct k == t.taskAcct j) &&
  (!safety || present.all fun k => if t.taskAcct k = 7 then t.taskWheel k == 14 else decide (t.taskWheel k < 14)) &&
  (present.all fun k => t.rangeOk R.TASK_PERIOD k (t.reg R.TASK_PERIOD k) && t.rangeOk R.TASK_PHASE k (t.reg R.TASK_PHASE k) &&
    t.rangeOk R.TASK_OVR k (t.reg R.TASK_OVR k)) &&
  (List.range 16).all fun l =>
    decide (((present.filter fun k => t.taskWheel k == l).map fun k => t.fld F.PROG_CODE_CODE_UNITS k).sum ≤ 256) &&
    decide (((present.filter fun k => t.taskWheel k == l).map fun k => t.fld F.PROG_DATA_DATA_UNITS k).sum ≤ 256)

/-- The used slots as task, slot number and entry. -/
def State.slotList (t : State) : List (Nat × Nat × Slot) :=
  (t.image.slots.filter fun (_, x) => x.used).map fun (key, x) => (key / 4096, key % 4096, x)

/-- R150 and R154. -/
def State.slotsOk (t : State) : Bool :=
  let ss := t.slotList
  (ss.all fun (k, _, x) =>
    let r := t.sig x.sig
    if x.out then r.kind == kTask && r.index == k &&
      (!x.qsrcEn || (let q := t.slot k x.qsrc; q.used && !q.out))
    else (r.owner == t.taskAcct k || r.shared) && !x.qsrcEn && !x.propGf) &&
  ((ss.filter fun (_, _, x) => x.out).map fun (_, _, x) => x.sig).Nodup &&
  t.image.sigs.all fun (g, r) => r.kind != kTask || ss.any fun (_, _, x) => x.out && x.sig == g

/-- Signal records (Table 6.1, R153, R338). -/
def State.sigsOk (t : State) : Bool :=
  t.image.sigs.all fun (_, r) =>
    (!(r.kind == kParam || r.kind == kModule) || r.freshUs == 0) && (r.kind != kParam || r.index == 0) && f64Le r.lo r.hi &&
      (r.kind != kNetSub || r.index < 32768 || r.owner == 7)

/-- Analogue and digital channels (R194, R207, R212, R244, R332). -/
def State.channelsOk (t : State) (pair : Bool) : Bool :=
  ((List.range 192).all fun g =>
    let m := t.aMode g
    (m != aBridge || (t.aMode (g / 2 * 2) == aBridge && t.aMode (g / 2 * 2 + 1) == aBridge &&
      t.aRange (g / 2 * 2) == t.aRange (g / 2 * 2 + 1) &&
      t.fld F.ACH_OWNER_ACCOUNT (g / 2 * 2) == t.fld F.ACH_OWNER_ACCOUNT (g / 2 * 2 + 1))) &&
    !(pair && t.flag F.ACH_CFG_LOOP_PWR g) && (t.fld F.ACH_CJ_CJ_SRC g != 1 || t.cjSource g (t.fld F.ACH_CJ_CJ_SIGNAL g)) &&
    (!aIsOut m || (t.sig (t.fld F.ACH_OUT_SIG_SIGNAL g)).owner == t.fld F.ACH_OWNER_ACCOUNT g) &&
    !(aIsOut m && t.fld F.ACH_OWNER_ACCOUNT g == 7 && t.fld F.ACH_CFG_OUT_INVALID g == 0)) &&
  (List.range 320).all fun n =>
    let m := t.dMode n
    (m != dQuad || (t.dMode (n / 2 * 2) == dQuad && t.dMode (n / 2 * 2 + 1) == dQuad &&
      t.fld F.DCH_OWNER_ACCOUNT (n / 2 * 2) == t.fld F.DCH_OWNER_ACCOUNT (n / 2 * 2 + 1))) &&
    (!dIsOut m || (t.sig (t.fld F.DCH_OUT_SIG_SIGNAL n)).owner == t.fld F.DCH_OWNER_ACCOUNT n) &&
    !(dIsOut m && t.fld F.DCH_OWNER_ACCOUNT n == 7 &&
      (t.fld F.DCH_CFG_OUT_INVALID n == 0 || (t.sig (t.fld F.DCH_OUT_SIG_SIGNAL n)).safe != 0))

/-- Publications and CAN filters (R317, chapter 16). -/
def State.linksOk (t : State) : Bool :=
  ((List.range 256).all fun n =>
    !t.flag F.PUB_CFG_EN n ||
    (t.rangeOk R.PUB_PERIOD n (t.reg R.PUB_PERIOD n) &&
    (List.range (t.fld F.PUB_CFG_COUNT n)).all fun i =>
      let r := t.sig (nget 0 t.net.pubList (t.fld F.PUB_CFG_FIRST n + i))
      r.owner == t.fld F.PUB_OWNER_ACCOUNT n || r.shared)) &&
  (List.range 4).all fun n => (List.range 64).all fun f =>
    !(t.flag F.CAN_FLT_CTRL_EN n f && t.flag F.CAN_FLT_CTRL_SIG n f) || (t.sig (t.fld F.CAN_FLT_SIG_SIGNAL n f)).owner == t.canOwner n

/-- A7 input and output of a safety-function record (R349). -/
def State.sfInput (t : State) (g : Nat) : Bool :=
  if g < 192 then aIsIn (t.aMode g) && t.fld F.ACH_OWNER_ACCOUNT g == 7
  else (t.dMode (g - 192) == dIn13 || t.dMode (g - 192) == dIn2) && t.fld F.DCH_OWNER_ACCOUNT (g - 192) == 7

def State.sfOutput (t : State) (g : Nat) : Bool :=
  if g < 192 then aIsOut (t.aMode g) && t.fld F.ACH_OWNER_ACCOUNT g == 7
  else dIsOut (t.dMode (g - 192)) && t.fld F.DCH_OWNER_ACCOUNT (g - 192) == 7

/-- R338, R347, R349. -/
def State.safetyOk (t : State) : Bool :=
  ((List.range 32).all fun f =>
    !t.flag F.SF_CFG_EN f ||
      (t.rangeOk R.SF_LIMIT f (t.reg R.SF_LIMIT f) &&
      t.flag F.TASK_CFG_PRESENT (t.fld F.SF_CFG_TASK f) && t.taskAcct (t.fld F.SF_CFG_TASK f) == 7 &&
      match t.fld F.SF_CFG_KIND f with
      | 1 => t.sfInput (t.fld F.SF_CFG_IN f) && t.sfOutput (t.fld F.SF_OUT_OUT f)
      | 2 => decide (t.fld F.SF_CFG_IN f < 64) && t.flag F.RZT_RX_CFG_EN (t.fld F.SF_CFG_IN f) && t.sfOutput (t.fld F.SF_OUT_OUT f)
      | 3 => t.sfInput (t.fld F.SF_CFG_IN f) && decide (t.fld F.SF_OUT_OUT f < 64) && t.flag F.RZT_TX_CFG_EN (t.fld F.SF_OUT_OUT f)
      | _ => false)) &&
  (List.range 64).all fun c =>
    (!t.flag F.RZT_RX_CFG_EN c || (t.rzBound c (t.fld F.NET_PATH_PATH_MAX_US) && t.rangeOk R.RZT_RX_CFG c (t.reg R.RZT_RX_CFG c) &&
      t.rangeOk R.RZT_RX_WDOG c (t.reg R.RZT_RX_WDOG c) && t.rangeOk R.RZT_RX_PEER c (t.reg R.RZT_RX_PEER c) &&
      t.rangeOk R.RZT_RX_PERIOD c (t.reg R.RZT_RX_PERIOD c))) &&
    (!t.flag F.RZT_TX_CFG_EN c || (t.rangeOk R.RZT_TX_PEER c (t.reg R.RZT_TX_PEER c) &&
      t.rangeOk R.RZT_TX_PERIOD c (t.reg R.RZT_TX_PERIOD c) &&
      (List.range (t.fld F.RZT_TX_CFG_COUNT c)).all fun e => (t.sig (t.fld F.RZT_TX_ELEM_SIGNAL c e)).owner == 7))

/-- The registers and memories that the records leave, from reset values; none where a record cannot be written. -/
def imageState (recs : List ImgRec) : Option State :=
  recs.foldl (fun (s : Option State) x => s.bind fun s => s.imgRecord x) (some State.reset)

/-- The content check (R64, R65). (DEDUCED, log entry 30.) -/
def contentOk (bank : NMap W32) (bpType : Nat) : Bool :=
  match imageRecords bank with
  | none => false
  | some recs =>
    match imageState recs with
    | none => false
    | some t =>
      let h := imgHead bank
      let owners := ownerWrites recs
      (recs.all fun x => x.targets.all (t.imgWordOk x.sect x.win)) &&
      (owners.map (·.1)).Nodup && (owners.all fun (_, sect, a) => sect == a) &&
      t.quotasOk && ((List.range 8).all t.tillsOk) && t.tasksOk h.safety && t.slotsOk && t.sigsOk && t.channelsOk h.pair &&
      t.linksOk && t.safetyOk && (!h.pair || t.fld F.PAIR_CFG_STATION != 0) &&
      decide (bits (bankWord bank 5) 7 0 ≤ 0x42) && h.pair == (bpType == 2)

/-- The full read and check of a candidate (Table 3.5 from BLOCK_CRC): the result, and the first block with a wrong CRC. -/
def fullResult (bank : NMap W32) (bpType : Nat) : Nat × Nat :=
  match badBlock bank with
  | some b => (rsBlockCrc, b)
  | none =>
    (if !digestOk bank then rsDigest else if !directoryOk bank then rsDirectory
     else if !contentOk bank bpType then rsContent else rsValid, 0xFFFF)

end Sys2Proof.Machine
end

