-- ==== Sys2Proof/Machine/Vault.lean ====
section
/-! DEFINITION. The vault's flash (chapter 17): state log and sector marks, page programming, erasing, flushes, recovery,
the window over the slot stream, and the vault's part of the management cycle. -/

namespace Sys2Proof.Machine

/-- Sector state marks (Table 17.6). -/
abbrev vmErasing := 1
abbrev vmErased := 2
abbrev vmOpen := 3
abbrev vmFull := 4
abbrev vmTainted := 5
abbrev vmRetired := 6

/-! ### State log (R416) -/

/-- One more entry in the active log sector of a device; a full log is compacted into the other sector. -/
def State.vlog (s : State) (d : Nat) : State :=
  let v := s.vdev d
  if 4096 ≤ v.logUsed + 1 then s.setVdev d { v with logSector := 1 - v.logSector, logGen := v.logGen + 1, logUsed := 1024 }
  else s.setVdev d { v with logUsed := v.logUsed + 1 }

/-- Enter a sector's mark. -/
def State.vsetMark (s : State) (d sec : Nat) (m : VMark) : State :=
  State.vlog { s with vault.marks := nset .init s.vault.marks (1024 * d + sec) m } d

/-- Slot sectors of a device, in order. -/
def slotSectors : List Nat := (List.range 1022).map (· + 2)

/-- The held slot numbers. -/
def State.vheld (s : State) : List Nat := s.vault.buf.map (·.num) ++ s.vault.stored.map (·.1)

/-- VAULT_OLDEST: the held slot furthest behind VAULT_NEXT (R417). -/
def State.vsetOldest (s : State) : State :=
  let next := s.vnext
  let back (n : Nat) : Nat := (next + 2 ^ 32 - n) % 2 ^ 32
  s.setReg R.VAULT_OLDEST ((s.vheld.foldl (fun b n => if back b < back n then n else b) next))

/-- Forget the slots of a sector: its records are reclaimed, or no longer count as held. -/
def State.vdropSector (s : State) (d sec : Nat) : State :=
  State.vsetOldest { s with vault.stored := s.vault.stored.filter fun (_, x) =>
    match x with | some (d', sec', _) => !(d' == d && sec' == sec) | none => false }

/-! ### Erasing (R417, R418) -/

/-- The oldest FULL or TAINTED sector of a device (R417); one whose first slot number is not known is older than all. -/
def State.voldest (s : State) (d : Nat) : Option Nat :=
  let age (sec : Nat) : Nat :=
    let m := s.vmark d sec
    if m.known then (s.vnext + 2 ^ 32 - m.slot) % 2 ^ 32 else 2 ^ 32
  slotSectors.foldl (fun b sec =>
    let m := (s.vmark d sec).mark
    if m = vmFull ∨ m = vmTainted then
      match b with
      | none => some sec
      | some x => if age x < age sec then some sec else some x
    else b) none

/-- Begin to erase a sector: ERASING is written first. -/
def State.veraseBegin (s : State) (d sec : Nat) : State :=
  let s := s.vsetMark d sec { s.vmark d sec with mark := vmErasing }
  (s.setVdev d { s.vdev d with erasing := some sec }).vdropSector d sec

/-- A device with fewer than 4 ERASED sectors erases its oldest FULL or TAINTED one. -/
def State.veraseCheck (s : State) (d : Nat) : State :=
  if (s.vdev d).usable ∧ (s.vdev d).erasing.isNone ∧ s.verased d < 4 then
    match s.voldest d with
    | some sec => s.veraseBegin d sec
    | none => s
  else s

/-- A sector has been erased and blank-verified. -/
def State.veraseOk (s : State) (d sec : Nat) : State :=
  let m := s.vmark d sec
  let s := s.vsetMark d sec ⟨vmErased, false, 0, 0, m.erases + 1⟩
  s.setVdev d { s.vdev d with erasing := none }

/-- Causes of event 0x1108 (codes left open: DESIGN CHOICE, log entry 5): 95 no answer, 96 verify, 97 erase. -/
def State.vfailure (s : State) (d sec cause : Nat) : State :=
  s.ev 0x1108 [.b8 d, .b16 sec, .b8 (Config.openCode cause).toNat]

/-- VAULT_ERASE_DONE: not while a flush suspends the erase (R414, R418). -/
def State.veraseDone (s : State) (d : Nat) (ok : Bool) : State :=
  match (s.vdev d).erasing with
  | none => s
  | some sec =>
    if s.vault.flush.isSome ∨ s.vault.closing.isSome then s
    else if ok then (s.veraseOk d sec).veraseCheck d
    else
      let m := s.vmark d sec
      if 2 ≤ m.fails then
        let s := s.vsetMark d sec { m with mark := vmRetired, fails := 3 }
        let s := (s.setVdev d { s.vdev d with erasing := none }).bump F.VAULT_COUNTS_1_RETIRED
        (s.vfailure d sec 97).veraseCheck d
      else { s with vault.marks := nset .init s.vault.marks (1024 * d + sec) { m with fails := m.fails + 1 } }

/-! ### Programming (R413, R419) -/

/-- The device that takes the next page. (DEDUCED, log entry 110.) -/
def State.vturn (s : State) : Option Nat :=
  if (s.vdev s.vault.turn).usable then some s.vault.turn
  else if (s.vdev (1 - s.vault.turn)).usable then some (1 - s.vault.turn)
  else none

/-- The sector and page at a device's write position; a new sector is marked OPEN first. -/
def State.vtarget (s : State) (d : Nat) (first : Nat) : Option (Nat × Nat) × State :=
  match (s.vdev d).openSector with
  | some x => (some x, s)
  | none =>
    match slotSectors.find? fun sec => (s.vmark d sec).mark == vmErased with
    | some sec =>
      let s := s.vsetMark d sec { s.vmark d sec with mark := vmOpen, known := true, slot := first }
      (some (sec, 0), s.setVdev d { s.vdev d with openSector := some (sec, 0) })
    | none => (none, s)

/-- The sector is spoilt: TAINTED, its slots go to the next ERASED sector. -/
def State.vtaint (s : State) (d sec : Nat) : State :=
  let s := s.vsetMark d sec { s.vmark d sec with mark := vmTainted }
  (s.setVdev d { s.vdev d with openSector := none }).bump F.VAULT_COUNTS_1_TAINTED

/-- Report losses once space allows (R411). -/
def State.vreportLost (s : State) : State :=
  if s.vault.lost = 0 ∨ s.vstate = vFlushing then s
  else
    let n := s.vault.lost
    ({ s with vault.lost := 0 }).ev 0x1105 [.b32 n]

/-- A page of 8 slots has been programmed and verified. -/
def State.vpageDone (s : State) (d sec page : Nat) (slots : List VSlot) : State :=
  let s := { s with
    vault.stored := slots.foldl (fun (m : NMap (Option (Nat × Nat × VSlot))) (x : VSlot) => nset none m x.num (some (d, sec, x)))
      s.vault.stored }
  let s := { s with vault.buf := s.vault.buf.drop slots.length, vault.turn := 1 - d,
                    vault.flush := s.vault.flush.map fun (left, n, t) => (left - slots.length, n, t) }
  let s :=
    if page = 255 then
      (s.setVdev d { s.vdev d with openSector := none }).vsetMark d sec { s.vmark d sec with mark := vmFull }
    else s.setVdev d { s.vdev d with openSector := some (sec, page + 1) }
  s.veraseCheck d

/-- VAULT_PAGE_TIMEOUT: the oldest slot has waited for 1 s, so the partial page is padded (R413). -/
def State.vpageTimeout (s : State) : State :=
  if s.vstate = vRunning ∧ s.vault.buf ≠ [] then s.vpad else s

/-- The place of a device's next state-log entry is not blank: it is skipped (R419). -/
def State.vlogSkip (s : State) (d : Nat) : State :=
  (s.vlog d).ev 0x1107 [.b8 d, .b16 (s.vdev d).logSector, .b32 ((s.vdev d).logUsed / 16)]

/-- VAULT_PAGE_VERIFIED: the page at the front of the buffer has been tried; a partial one is padded, but for the last of a
closing flush, which record 0x1103 joins (R413, R415). -/
def State.vpage (s : State) (o : PageOutcome) : State :=
  let st := s.vstate
  if st ≠ vRunning ∧ st ≠ vWriteThrough ∧ st ≠ vFlushing then s
  else
    let s := if 8 ≤ s.vault.buf.length ∨ st = vFlushing ∨ (st = vRunning ∧ s.vault.flush.isNone) then s else s.vpad
    if s.vault.buf.length < 8 then s
    else match s.vturn with
      | none => s
      | some d =>
        let slots := s.vault.buf.take 8
        let (t, s) := s.vtarget d ((slots.map (·.num)).headD 0)
        match t with
        | none => s
        | some (sec, page) =>
          match o with
          | .verified => (s.vpageDone d sec page slots).vreportLost
          | .notBlank => ((s.vtaint d sec).ev 0x1107 [.b8 d, .b16 sec, .b32 page]).veraseCheck d
          | .verifyFailed => ((s.vtaint d sec).vfailure d sec 96).veraseCheck d
          | .logNotBlank e => s.vlogSkip e.val

/-! ### Flushes (R414, R415) -/

/-- VAULT_FAULT_FLUSH_DONE: every slot of the trigger has been programmed. -/
def State.vflushDone (s : State) (us : Nat) : State :=
  match s.vault.flush with
  | some (0, n, _) =>
    let again := s.vault.flushAgain
    let s := { s with vault.flush := none, vault.flushAgain := false }
    let s := (s.bump F.VAULT_COUNTS_1_FLUSHES).peak (whole R.VAULT_FLUSH_MAX) us
    let s := s.ev 0x1104 [.b32 n, .b32 us]
    if again then s.vflush else s
  | _ => s

/-- D61 and D62 still have to stay powered: 150 ms from step 5 where HOLDUP_OK was 1 at the reference (R44). -/
def State.holding (s : State) : Bool :=
  match s.power.holdFrom with | some t => decide (s.tick < t + 150050) | none => false

/-- Step 7 of Table 2.5: after power-fail and its flush, and the time of R44, D61 and D62 go off. -/
def State.powerDown (s : State) : State :=
  if s.stop = .powerFail ∧ s.vault.closing.isNone ∧ !s.holding then
    { s.setDoms [61, 62] false with time.ticking := false, power.holdFrom := none }
  else s

/-- The flush of a stop is complete, and after power-fail Table 2.5 to its end (R45). -/
def State.stopOver (s : State) : Bool := s.vault.closing.isNone && (s.stop != .powerFail || !s.time.ticking)

/-- VAULT_CLOSING_FLUSH_DONE: no whole page is left in the buffer; record 0x1103 joins the slots of the last page, which is padded
(R415, Table 17.9). Causes (codes left open: DESIGN CHOICE, log entry 5): 90 power-fail, 91 unmated, 92 thermal stop, 93 module
stop, 94 restart. -/
def State.vcloseDone (s : State) (us : Nat) : State :=
  match s.vault.closing with
  | some (cause, n, _) =>
    if 8 ≤ s.vault.buf.length ∨ s.vstate ≠ vFlushing then s
    else
      let data := packItems [.b8 (Config.openCode (90 + cause)).toNat, .b32 n, .b32 us] 0 0
      let s := s.vput fun k => mkSlot 0x1103 0 0 k s.stamp (data.headD 0)
      match s.vturn with
      | none => s
      | some d =>
        let s := s.vpad
        let slots := s.vault.buf.take 8
        let (t, s) := s.vtarget d ((slots.map (·.num)).headD 0)
        match t with
        | some (sec, page) => ({ s.vpageDone d sec page slots with vault.closing := none }).powerDown
        | none => s
  | none => s

/-- HOLDUP_OK has changed (R411): write-through is entered or left. -/
def State.vholdup (s : State) (ok : Bool) : State :=
  let st := s.vstate
  if ok ∧ st = vWriteThrough then (s.setFld F.VAULT_STATUS_STATE vRunning).ev 0x1109 [.b8 vRunning]
  else if !ok ∧ st = vRunning then (s.setFld F.VAULT_STATUS_STATE vWriteThrough).ev 0x1109 [.b8 vWriteThrough]
  else s

/-- D62 has tripped, or both devices have failed (R412). -/
def State.vfail (s : State) : State := s.setFld F.VAULT_STATUS_STATE vFailed

/-! ### Start and recovery (R420) -/

/-- The vault at the start of a start sequence: what flash holds remains, the buffer is empty, recovery begins, and what was
raised while the module waited for its start is waiting. -/
def State.vstart (s : State) : State :=
  let v := s.vault
  let devs := v.devs.map fun (k, d) => (k, { d with openSector := none, erasing := none, suspended := false, usable := false })
  let flash := { Vault.init with stored := v.stored, marks := v.marks, devs := devs.filter (fun (_, d) => d ≠ VDev.init) }
  { s with vault := { flash with waiting := v.waiting, counts := v.counts, suppressed := v.suppressed } }

/-- Step 1 of Table 17.8 for a device. -/
def State.vdevice (s : State) (d : Nat) (ok : Bool) : State :=
  let s := s.setVdev d { s.vdev d with usable := ok }
  if ok then s else s.vfailure d 0 95

/-- R472: a device with no state log gets a log of generation 1, and step 3 marks every slot sector TAINTED. -/
def State.vlogLost (s : State) (d : Nat) (lost : Bool) : State :=
  if !lost then s
  else
    let s := foldState (fun s sec =>
      ({ s with vault.marks := nset .init s.vault.marks (1024 * d + sec) { VMark.init with mark := vmTainted } }).bump
        F.VAULT_COUNTS_1_TAINTED) slotSectors s
    { s.setVdev d { s.vdev d with logSector := 0, logGen := 1, logUsed := 1024 } with
      vault.stored := s.vault.stored.filter fun (_, x) => match x with | some (d', _, _) => d' != d | none => false }

/-- Step 3: sectors found ERASING become TAINTED. -/
def State.vfoundErasing (s : State) (d : Nat) : State :=
  foldState (fun s sec =>
    if (s.vmark d sec).mark = vmErasing then
      let s := s.vsetMark d sec { s.vmark d sec with mark := vmTainted, known := false }
      ((s.bump F.VAULT_COUNTS_1_TAINTED).vdropSector d sec).ev 0x1106 [.b8 d, .b16 sec]
    else s) (((s.vault.marks.map (·.1)).filter (· / 1024 == d)).map (· % 1024)) s

/-- Step 4: the write position of an OPEN sector is set after the last page written. -/
def State.vfoundOpen (s : State) (d : Nat) : State :=
  foldState (fun s sec =>
    if (s.vmark d sec).mark = vmOpen then
      let n := (s.vault.stored.filter fun (_, x) => match x with
        | some (d', sec', _) => d' == d && sec' == sec | none => false).length
      if 2048 ≤ n then s.vsetMark d sec { s.vmark d sec with mark := vmFull }
      else s.setVdev d { s.vdev d with openSector := some (sec, n / 8) }
    else s) (((s.vault.marks.map (·.1)).filter (· / 1024 == d)).map (· % 1024)) s

/-- Step 4: the number the next slot takes. -/
def State.vfoundNext (s : State) : Nat :=
  match s.vault.stored.map (·.1) with
  | n :: ns => ((n :: ns).foldl (fun b k => if (k + 2 ^ 32 - b) % 2 ^ 32 < 2 ^ 31 then k else b) n + 1) % 2 ^ 32
  | [] =>
    match (s.vault.marks.filter fun (_, m) => m.known).map fun (_, m) => m.slot with
    | [] => 0
    | l => (l.foldl max 0 + 4096) % 2 ^ 32

/-- The slot is a record: its CRC is that of Table 17.1, which a slot of a snapshot does not carry. -/
def VSlot.isRecord (v : VSlot) : Bool :=
  (crc32 (dwordBytes v.w0 ++ dwordBytes v.w1 ++ dwordBytes v.w2 ++ bytesLE 4 (bits v.w3.toNat 31 0))).toNat == bits v.w3.toNat 63 32

/-- Step 5: the code of the last stored record that is neither a filler nor a summary, by its distance behind VAULT_NEXT; a
continuation belongs to its record. -/
def State.vlastCode (s : State) : Option Nat :=
  let back (n : Nat) : Nat := (s.vnext + 2 ^ 32 - n) % 2 ^ 32
  let recs := s.vault.stored.filterMap fun (n, x) => match x with
    | some (_, _, v) =>
      let flags := bits v.w1.toNat 47 40
      if bit flags 4 || bit flags 3 || bit flags 0 || !v.isRecord then none else some (back n, bits v.w1.toNat 63 48)
    | none => none
  (recs.foldl (fun (b : Option (Nat × Nat)) r => match b with
    | some (k, _) => if r.1 < k then some r else b
    | none => some r) none).map (·.2)

/-- Erase one sector at once where a device has fewer than 2 ERASED sectors (step 6); how many were erased. -/
def State.verestore (d : Nat) (x : Nat × State) : Nat × State :=
  if (x.2.vdev d).usable ∧ x.2.verased d < 2 then
    match x.2.voldest d with
    | some sec => (x.1 + 1, (x.2.veraseBegin d sec).veraseOk d sec)
    | none => x
  else x

/-- VAULT_RECOVERY_DONE (Table 17.8). -/
def State.vrecover (s : State) (r : VaultRecovery) : State :=
  if s.vstate ≠ vRecovering ∨ s.phase = .waiting ∨ s.phase = .stopped then s
  else
    let s := (s.vdevice 0 r.usableA).vdevice 1 r.usableB
    let s := (((s.vlogLost 0 (r.lostA && r.usableA)).vlogLost 1 (r.lostB && r.usableB)).vfoundErasing 0).vfoundErasing 1
    let s := ((s.vfoundOpen 0).vfoundOpen 1).setReg R.VAULT_NEXT s.vfoundNext
    let s := s.vsetOldest
    let s := if s.vlastCode.isSome ∧ s.vlastCode ≠ some 0x1103 then s.ev 0x1102 [.b32 (s.vnext - 1)] else s
    let (n, s) := State.verestore 1 (State.verestore 1 (State.verestore 0 (State.verestore 0 (0, s))))
    if !r.usableA ∧ !r.usableB then
      foldState (fun s (x : VRaise × Nat × Nat) => s.vaccept x.1 x.2.1 x.2.2) s.vault.waiting
        { s.vfail with vault.waiting := [] }
    else
      let s := s.setFld F.VAULT_STATUS_STATE (if s.flag F.HOLDUP_STATUS_HOLDUP_OK then vRunning else vWriteThrough)
      let held := s.vault.stored.length
      let wait := s.vault.waiting
      let s := foldState (fun s (x : VRaise × Nat × Nat) => s.vaccept x.1 x.2.1 x.2.2) wait { s with vault.waiting := [] }
      let s := s.ev 0x1101 [.b32 held, .b32 n, .b32 r.ms]
      (s.veraseCheck 0).veraseCheck 1

/-! ### The window (R421) -/

/-- A held slot by its window offset: from the buffer or from flash, not from a tainted sector. -/
def State.vfind (s : State) (idx : Nat) : Option VSlot :=
  match s.vault.buf.find? fun v => v.num % 2 ^ 27 == idx with
  | some v => some v
  | none => s.vault.stored.findSome? fun (n, x) => if n % 2 ^ 27 = idx then x.map (·.2.2) else none

/-- 32-bit word j of a slot. -/
def VSlot.half (v : VSlot) (j : Nat) : W32 :=
  let w := match j / 2 with | 0 => v.w0 | 1 => v.w1 | 2 => v.w2 | _ => v.w3
  BitVec.ofNat 32 (if j % 2 = 0 then w.toNat else w.toNat / 2 ^ 32)

/-- A read of the window at an offset by a session: the word and the status. -/
def State.vwindow (s : State) (n off : Nat) : W32 × Nat × State :=
  let s := if off % 32 = 0 then { s with vault.capture := nset none s.vault.capture n (s.vfind (off / 32)) } else s
  match nget none s.vault.capture n with
  | some v => (v.half (off / 4 % 8), 0, s)
  | none => (0, 9, s)

/-! ### Management cycle (R410) -/

/-- The vault's part: a summary for each code suppressed, in rising order, and new limits. -/
def State.vcycle (s : State) : State :=
  let sup := s.vault.suppressed
  let s := { s with vault.suppressed := [], vault.counts := [], vault.snapped := [] }
  let s := foldState (fun s (_, x) => match x with
    | some (n, r) => if s.vstate = vFlushing then s else s.vaccept r 8 n
    | none => s) sup s
  s.vreportLost

def execVaultPageTimeout (s : State) : Host.Outcome State Fault Refusal := .next s.vpageTimeout
def execVaultPageVerified (o : PageOutcome) (s : State) : Host.Outcome State Fault Refusal := .next (s.vpage o)
def execVaultFaultFlushDone (us : Nat) (s : State) : Host.Outcome State Fault Refusal := .next (s.vflushDone us)
def execVaultClosingFlushDone (us : Nat) (s : State) : Host.Outcome State Fault Refusal := .next (s.vcloseDone us)
def execVaultEraseDone (d : Fin 2) (ok : Bool) (s : State) : Host.Outcome State Fault Refusal :=
  .next (s.veraseDone d.val ok)
def execVaultRecoveryDone (r : VaultRecovery) (s : State) : Host.Outcome State Fault Refusal := .next (s.vrecover r)

end Sys2Proof.Machine
end

