-- ==== Sys2Proof/Machine/Start.lean ====
section
/-! DEFINITION. The start sequence of Table 3.1, bank selection, application of the image, the unconfigured state, restart, and
the write session for a new image (chapter 3). -/

namespace Sys2Proof.Machine

/-! ### Steps -/

def State.markSteps (s : State) (l : List Nat) : State := foldState State.markStep l s

/-- The key under which SETTLING_END leaves word for the role decision of a pair. -/
abbrev settleKey := 112

/-- A feed is valid. -/
def State.supplyValid (s : State) : Bool := s.flag F.FEED_STATUS_F1_VALID || s.flag F.FEED_STATUS_F2_VALID

/-- The charger delivers 60 mA until the store holds 48.0 V, but not during a discharge test (Table 2.8). (DEDUCED, log entry
134.) -/
def State.chargeOn (s : State) : State :=
  s.setFld F.HOLDUP_STATUS_CHARGING (b2n (decide (s.fld F.HOLDUP_STATUS_STORE_V < 4800) && !s.flag F.HOLDUP_STATUS_TEST))

/-- The sensors that are not excluded (R48). -/
def State.sensorsIn (s : State) : List Nat := (List.range 24).filter fun n => !s.flag F.THERMAL_SENSOR_EXCL n

/-- Sum of the 8 samples of sensor n's mean, in 1/128 °C; 0 before it has 8 samples. (DESIGN CHOICE, log entry 124.) -/
def State.sensorSum (s : State) (n : Nat) : Int := ((nget Sensor.init s.power.sensors n).mean).getD 0

/-- Every sensor that is not excluded is below 130 °C, and no more than 4 are excluded (R47, R48). -/
def State.coolEnough (s : State) : Bool :=
  decide (20 ≤ s.sensorsIn.length) && s.sensorsIn.all fun n => decide (s.sensorSum n < 16640)

/-- What holds the start sequence back has ended (R19, R25, R45, R47, R283). (DEDUCED, log entry 23.) -/
def State.startAllowed (s : State) : Bool :=
  let bp := s.fld F.BASEPLATE_STATUS_BP_TYPE
  s.supplyValid && s.plate.mated && (bp == 1 || bp == 2) &&
    (!s.time.clockFault || (s.flag F.CLOCK_STATUS_TCXO_OK && s.flag F.CLOCK_STATUS_PLL_LOCK)) &&
    (s.stop != .thermal && s.stop != .powerFail || s.coolEnough)

/-- Registers of the supervisor, the base plate and the supply keep their values over a start; the fuses keep theirs. -/
def State.keptRegs (s : State) (t : State) : State :=
  let t := foldState (fun t (r : Reg) => t.setReg r (s.reg r)) [R.FEED_STATUS, R.FEED_VOLTAGE, R.HOLDUP_CAPACITY, R.THERMAL_STATUS] t
  let t := (t.setReg R.BASEPLATE_STATUS (bits (s.reg R.BASEPLATE_STATUS) 15 0)).setReg R.HOLDUP_STATUS
    (bits (s.reg R.HOLDUP_STATUS) 23 0)
  let t := foldState (fun t n => t.setReg R.THERMAL_SENSOR (s.reg R.THERMAL_SENSOR n) n) (List.range 24) t
  let t := foldState (fun t w => (t.setFld F.WHEEL_STATE_STRIKE (s.fld F.WHEEL_STATE_STRIKE w) w).setFld F.WHEEL_STATE_OUT
    (s.fld F.WHEEL_STATE_OUT w) w) (List.range 18) t
  t.setFld F.CLOCK_STATUS_TCXO_OK (s.fld F.CLOCK_STATUS_TCXO_OK)

/-- The module at the start of a start sequence: everything at reset but what the supervisor, the base plate, the configuration
memory, the fuses and the vault's flash hold. -/
def State.fresh (s : State) : State :=
  let v := (s.vstart).vault
  let t : State := { State.reset with pending := s.pending, free := s.free, out := s.out, vault := v }
  let t := { t with plate := { Plate.init with mated := s.plate.mated, oneMate := s.plate.oneMate } }
  let t := { t with power := { s.power with trips := [] } }
  let t := { t with start := { Start.init with bankA := s.start.bankA, bankB := s.start.bankB } }
  let t := (s.keptRegs t).peerSeen (s.flag F.BASEPLATE_STATUS_PEER_PRESENT)
  t.setFld F.VAULT_COUNTS_1_RETIRED (min 255 ((v.marks.filter fun (_, m) => m.mark == vmRetired).length))

/-- Events for what a start ends: open sessions close (R101), forces are cleared (R171). -/
def State.startEnds (s t : State) : State :=
  let t := foldState (fun t n =>
    if (s.session n).opened then t.ev 0x0407 [.b16 n, .b8 (Config.openCode 85).toNat] else t) (List.range 8) t
  foldState (fun t a =>
    if s.forcesOf a = [] then t else t.ev 0x0605 [.b8 a, .b8 (Config.openCode 11).toNat]) acctOrder t

/-- A non-zero random INSTANCE (R312). -/
def State.newInstance (s : State) : State :=
  let n := (Config.random s.free).toNat % 2 ^ 32
  (s.draw).setReg R.NET_INSTANCE (if n = 0 then 1 else n)

/-- Steps 1 and 2 of Table 3.1; a restart after thermal stop is recorded first (R47). (DEDUCED, log entry 24.) (DEDUCED, log entry
133.) -/
def State.begin (s : State) (afterThermal : Bool) : State :=
  let t := s.fresh
  let t := { t with phase := .starting, time.ticking := true, drive := .normal }
  let t := (t.setFld F.CLOCK_STATUS_PLL_LOCK 1).newInstance
  let t := s.startEnds t
  let t := (if afterThermal then t.ev 0x0207 else t).ev 0x0101
  let t := t.setDoms [60, 61, 62, 22, 59] true
  let t := { t with plate.lampTest := true,
                    power.storeReady := s.power.storeReady || decide (4600 ≤ s.fld F.HOLDUP_STATUS_STORE_V) }
  (t.chargeOn.startTest).markSteps [1, 2]

/-- START_SEQUENCE_BEGIN: from waiting, or from a stop that is over; thermal stop has its own restart. (DEDUCED, log entry 24.) -/
def State.startBegin (s : State) : State :=
  if (s.phase = .waiting ∨ (s.phase = .stopped ∧ s.stopOver ∧ s.stop ≠ .thermal)) ∧ s.startAllowed then s.begin false
  else s

/-- THERMAL_RESTART (R47). -/
def State.thermalRestart (s : State) : State :=
  if s.stop = .thermal ∧ s.vault.closing.isNone ∧ s.startAllowed then s.begin true else s

/-! ### Bank selection (R58, R68, R69, R471) -/

def State.bank (s : State) (b : Nat) : NMap W32 := if b = 0 then s.start.bankA else s.start.bankB
def State.setBank (s : State) (b : Nat) (m : NMap W32) : State :=
  if b = 0 then { s with start.bankA := m } else { s with start.bankB := m }
def State.bankPresent (s : State) (b : Nat) : Bool := if b = 0 then s.start.presentA else s.start.presentB
def State.bankResult (s : State) (b : Nat) : Nat := if b = 0 then s.fld F.CFG_STATUS_RESULT_A else s.fld F.CFG_STATUS_RESULT_B

/-- Record the result of a bank (R68). -/
def State.setResult (s : State) (b r block : Nat) : State :=
  let s := if b = 0 then s.setFld F.CFG_STATUS_RESULT_A r else s.setFld F.CFG_STATUS_RESULT_B r
  let s := if b = 0 then s.setFld F.CFG_FAIL_BLOCK_FAIL_A block else s.setFld F.CFG_FAIL_BLOCK_FAIL_B block
  if r = rsValid ∨ r = rsNotTried then s else s.ev (if b = 0 then 0x0301 else 0x0302) [.b8 r, .b16 block]

/-- The header of a bank passes the check (candidates of R69). -/
def State.headerPasses (s : State) (b : Nat) : Bool := headerResult (s.bankPresent b) (s.bank b) == 0

/-- The unconfigured state (R58). (DEDUCED, log entry 28.) (DEDUCED, log entry 62.) -/
def State.unconfigure (s : State) : State :=
  let pass := [0, 1].filter s.headerPasses
  let best := pass.foldl (fun (x : Option Nat) b => match x with
    | none => some b
    | some a => if bankWord (s.bank a) 2 < bankWord (s.bank b) 2 then some b else some a) none
  let addr := match best with | some b => bits (bankWord (s.bank b) 4) 15 0 | none => 0
  let s := { s with phase := .unconfigured, start.candidates := [] }
  let s := ((s.setFld F.START_STATUS_UNCONFIGURED 1).setFld F.MODULE_ADDRESS_ADDR addr).setDom 60 false
  let s := (s.ev 0x0304).ev 0x0103
  let s := s.markSteps [4, 5, 6, 7]
  s.setAcctState 0 aRunning

/-- CFG_HEADERS_READ: whether each bank's SFDP table was read in time with the density of R59. -/
def State.headersRead (s : State) (sfdpA sfdpB : Bool) : State :=
  if s.phase ≠ .starting ∨ !s.domOn 60 ∨ s.stepDone 5 then s
  else
    let s := { s with start.presentA := sfdpA, start.presentB := sfdpB }
    let s := foldState (fun s b => s.setReg R.CFG_GEN (imgGen (s.bankPresent b) (s.bank b)) b) [0, 1] s
    let s := foldState (fun s b =>
      let r := headerResult (s.bankPresent b) (s.bank b)
      if r = 0 then s else s.setResult b r 0xFFFF) [0, 1] s
    let pass := [0, 1].filter s.headerPasses
    let order := if pass = [0, 1] ∧ bankWord s.start.bankA 2 < bankWord s.start.bankB 2 then [1, 0] else pass
    let s := if pass = [0, 1] ∧ bankWord s.start.bankA 2 = bankWord s.start.bankB 2 then s.ev 0x0306 else s
    let s := State.markSteps { s with start.candidates := order } [4, 5]
    if order = [] then s.unconfigure else s

/-- Step 8: the latch point and the seal binding (R17, R70, R334, R335, R383). -/
def State.sealLatch (s : State) (h : ImgHead) : State :=
  let sw := s.fld F.SEAL_STATE_SW
  let swf := s.fld F.SEAL_STATE_SWF
  let expect := h.safetyCrc.toNat % 2 ^ 12
  let fits := h.safety && sw % 2 ^ 12 == expect && swf == 0 && !bit sw 15
  let s := { s with plate.latch := some (BitVec.ofNat 16 sw, BitVec.ofNat 16 swf) }
  let s := (s.setReg R.CFG_SAFETY_CRC h.safetyCrc.toNat).setReg R.CFG_SEAL
    (if h.safety then 2 ^ 13 + b2n fits * 2 ^ 12 + expect else 0)
  let s := (s.setFld F.SAFE_STATUS_PRESENT (b2n h.safety)).setFld F.SAFE_STATUS_MATCH (b2n fits)
  let s := (s.setFld F.SAFE_STATUS_RT_MODE (b2n (bit sw 13))).setFld F.SAFE_STATUS_RETURN (b2n (bit sw 14))
  let s := s.setFld F.PAIR_STATUS_POLICY (b2n (bit sw 14))
  let s := (s.maintUpdate).pendingUpdate
  if h.safety && !fits then s.ev 0x0305 else s

/-- The accepted image of bank b (R68, R69). -/
def State.accept (s : State) (b : Nat) : State :=
  let bank := s.bank b
  let h := imgHead bank
  let s := { s with start.head := some h, start.records := (imageRecords bank).getD [], start.candidates := [] }
  let s := ((s.setFld F.CFG_STATUS_ACTIVE (b + 1)).setFld F.CFG_STATUS_SECTIONS h.sections).setFld F.CFG_STATUS_FORMAT h.format
  let s := foldState (fun s n => s.setReg R.CFG_DIGEST (bankWord bank (16 + n)) n) (List.range 8) s
  let s := (s.setFld F.MODULE_ADDRESS_ADDR h.address).setDom 60 false
  let s := if s.bankResult (1 - b) = 0 ∧ s.headerPasses (1 - b) then s.setResult (1 - b) rsNotTried 0xFFFF else s
  let s := s.ev 0x0303 [.b8 b, .b32 h.gen, .b8 h.format]
  let s := if h.format = 2 then s.ev 0x0307 else s
  (s.sealLatch h).markSteps [6, 7, 8]

/-- CANDIDATE_CHECKED: the first of the remaining candidates has been read and checked, or has timed out. -/
def State.candidateChecked (s : State) (b : Nat) (timedOut : Bool) : State :=
  if s.phase ≠ .starting ∨ s.start.candidates.head? ≠ some b ∨ !s.domOn 60 then s
  else
    let (r, block) := if timedOut then (rsTimeout, 0xFFFF) else fullResult (s.bank b) (s.fld F.BASEPLATE_STATUS_BP_TYPE)
    let rest := s.start.candidates.drop 1
    let s := (State.setResult { s with start.candidates := rest } b r block).markStep 6
    if r = rsValid then s.accept b else if rest = [] then s.unconfigure else s

/-- D60 trips while candidates are read (R471): the candidate being read ends with TIMEOUT; kept off, every candidate does. -/
def State.readTrip (s : State) (locked : Bool) : State :=
  if s.phase ≠ .starting ∨ s.start.head.isSome then s
  else if locked then
    let s := foldState (fun s b => if s.bankResult b = 0 then s.setResult b rsTimeout 0xFFFF else s) [0, 1] s
    s.unconfigure
  else
    match s.start.candidates with
    | b :: rest =>
      let s := (State.setResult { s with start.candidates := rest } b rsTimeout 0xFFFF).markStep 6
      if rest = [] then s.unconfigure else s
    | [] => s

/-! ### Steps 9 and 10 (R66, R425, R36) -/

/-- PROG_CRC of task k (Table 5.16). -/
def State.progCrc (s : State) (k : Nat) : W32 :=
  crc32 ((List.range (256 * s.fld F.PROG_CODE_CODE_UNITS k)).flatMap fun n => wordBytes (nget 0 s.image.code (65536 * k + n)))

/-- LAYOUT of the image (R359). -/
def State.layout (s : State) : W32 :=
  crc32 (((List.range 131072).flatMap fun g => dwordBytes (Sig.control { s.sig g with quality := 0 })) ++
    (List.range 64).flatMap fun k =>
      [R.PROG_CODE, R.PROG_DATA, R.PROG_ENTRY, R.PROG_CRC].flatMap fun (r : Reg) => bytesLE 4 (s.reg r k))

/-- The states accounts take at step 9 (Table 4.11, R70); none of their tasks is released yet (Table 6.12). -/
def State.startAccounts (s : State) (h : ImgHead) (accts : List Nat) : State :=
  let s := foldState (fun s k => s.setFld F.TASK_STATUS_STATE tkNotReleased k)
    ((List.range 64).filter fun k => s.flag F.TASK_CFG_PRESENT k) s
  foldState (fun s a =>
    if accts.contains a then s.setAcctState a (if a = 7 ∧ !s.flag F.SAFE_STATUS_MATCH then aBlocked else aStarting) else s)
    (if h.safety then acctOrder else acctOrder.drop 1) s

/-- Power the domains that the image uses (step 10, R36, R38). -/
def State.powerUsed (s : State) : State :=
  let ports := ((List.range 4).filter fun p => bit (s.fld F.NET_PORTS_USED) p).map (18 + ·)
  let cans := ((List.range 4).filter fun n => s.fld F.CAN_CFG_MODE n != cmOff).map (23 + ·)
  let slices := (List.range 16).filter s.slUsed
  let s := s.setDoms (ports ++ cans ++ slices.map (27 + ·) ++ slices.map (43 + ·)) true
  let s := foldState State.slPowerOn slices s
  let s := foldState (fun s sl => if sl < 6 then s.aFsChange sl else s.dFsChange (sl - 6)) (List.range 16) s
  foldState State.canStart (List.range 4) s

/-- HART channels enabled by the image begin identification, on a standby later (R228, R239). -/
def State.hartStart (s : State) : State :=
  foldState (fun s g =>
    if s.flag F.HART_CFG_EN g then
      let s := s.setHart g { s.hartOf g with rebase1200 := true, rebase2200 := true, identDue := s.inControl }
      (s.setHState g (if s.inControl then hsIdent else hsStandby)).hNext g
    else s) (List.range 192) s

/-- The initial data of task k enter its data memory, that of both wheels for A7 (R111, R137). -/
def State.dataLoad (s : State) (k : Nat) : State :=
  foldState (fun s (x : Nat × W64) => s.dataPut k (x.1 % 65536) x.2) (s.image.dataImg.filter fun x => x.1 / 65536 == k) s

/-- IMAGE_APPLY: steps 9 and 10, with the compare-unit test of R333. The outputs of a single station go to their safe values; a
module of a pair drives nothing before its role is decided. -/
def State.imageApply (s : State) (cmpReports : Bool) : State :=
  match s.start.head with
  | none => s
  | some h =>
    if s.phase ≠ .starting ∨ !s.stepDone 8 ∨ !s.stepDone 3 ∨ s.start.applied then s
    else
      let s := s.start.records.foldl (fun s x => (s.imgRecord x).getD s) s
      let s := s.setSession imgSession .init
      let s := { s with start.applied := true, start.imgRegs := s.regs, image.sigImg := s.image.sigs,
                        drive := if h.pair then .normal else .safe }
      let s := foldState State.dataLoad (s.tasksOf 7) s
      let s := s.startAccounts h (imgAccounts (s.bank (s.fld F.CFG_STATUS_ACTIVE - 1)))
      let s := (foldState (fun s k => s.setReg R.PROG_CRC (s.progCrc k).toNat k) (List.range 64) s).cmpTest cmpReports
      let s := if h.pair then
          let s := (s.setReg R.PAIR_LAYOUT s.layout.toNat).setPair psStarting
          s.setFld F.LL_STATUS_STATE llSearch
        else s
      let s := (((s.buildMap).stShow).powerUsed).hartStart
      (((State.sfUpdate s).restage).markSteps [3, 9, 10]).alignCheck

/-! ### Steps 11 to 14 -/

/-- SETTLING_END: the interval of SETTLE_MS from the end of step 11 is over; a module of a pair goes on to its role decision
(R362). (DEDUCED, log entry 27.) -/
def State.settlingEnd (s : State) : State :=
  match s.start.head with
  | none => s
  | some h =>
    if s.phase ≠ .starting ∨ !s.stepDone 11 ∨ s.tick < s.start.settleFrom + 1000 * h.settleMs then s
    else s.markStep (if h.pair then settleKey else 12)

/-- The initial module image (R150): one signal. An item that no producer has delivered has quality 0; of a forced signal the
record keeps the force value, and the unforced value is built (R169). -/
def State.buildSig (s : State) (g : Nat) : State :=
  let r := s.sig g
  let c : Copy :=
    if r.kind = kTask then ⟨r.safe, qValid ||| qSubst, s.stamp⟩
    else if r.kind = kParam then ⟨r.value, qValid, s.stamp⟩
    else nget .init s.image.last (65536 * r.kind + r.index)
  let given := r.kind == kTask || r.kind == kParam || (s.image.last.any fun x => x.1 == 65536 * r.kind + r.index)
  let prod := r.kind != kTask && r.kind != kParam && c.quality &&& qRange != 0
  let c : Copy := if given then { c with quality := r.rangeTest c.value c.quality prod } else c
  let r := { r with upd := s.tl, prodRange := prod }
  match s.force? g with
  | some f => (s.setSig g r).setForce g (some { f with unforced := c })
  | none => s.setSig g { r with value := c.value, quality := c.quality, stamp := c.stamp }

/-- The initial module image (step 13). -/
def State.buildImage (s : State) : State :=
  let s := foldState State.buildSig (s.image.sigs.map (·.1)) s
  { s with image.built := true, image.updates := [] }

/-- The accounts that the start leaves able to run take a state. -/
def State.acctsTo (s : State) (st : Nat) : State :=
  foldState (fun s a => if s.acctState a = aStarting then s.setAcctState a st else s) acctOrder s

/-- Step 14: the end of the start, with the duration of R53. -/
def State.startDone (s : State) : State :=
  (s.setReg R.START_DURATION (min (s.tick - s.start.refTick) (2 ^ 32 - 1))).markSteps [13, 14]

/-- Every enabled account runs, and its tasks are enabled at this tick (R147, step 14). -/
def State.releaseAll (s : State) : State :=
  let s := { s with phase := .running, drive := .normal }
  let s := (s.acctsTo aRunning).setReg64 R.RELEASE_BASE s.tl
  let s := foldState (fun s k => s.setTask k { s.task k with grid := s.tl }) (List.range 64) { s with net.grid := s.tl }
  foldState (fun s a => if s.acctState a = aRunning then s.enableTasks a else s) acctOrder s

/-- The first task release: it ends the start, unless the start has ended with the entry into resync. -/
def State.firstRelease (s : State) : State :=
  let s := s.releaseAll
  let s := if s.stepDone 14 then s else
    let s := s.startDone
    s.ev 0x0102 [.b32 (s.reg R.START_DURATION)]
  (s.rotCheck).restage

/-- START_RELEASE: steps 13 and 14 (R53, R56). A module that becomes standby, or is ISOLATED, releases no task; an ISOLATED module
ends its start when it takes a role. -/
def State.startRelease (s : State) : State :=
  if s.phase ≠ .starting ∨ !s.stepDone 12 ∨ !s.power.storeReady then s
  else
    let s := s.buildImage
    if s.inControl then s.firstRelease
    else
      let s := State.acctsTo { s with phase := .running, drive := .normal } aStandby
      let s := if s.pairState = psResync ∨ psInSync s.pairState then s.startDone else s.markStep 13
      (s.rotCheck).restage

/-! ### Restart (R57) -/

/-- SYS_RESTART takes effect. -/
def State.sysRestart (s : State) : State :=
  if s.alive then (s.halt .restart .ended 6).closingFlush 4 else s

/-! ### The write session (R71 to R74) -/

/-- CFG_WR_STATUS.STATE codes (Table 3.17). -/
abbrev cwIdle := 0
abbrev cwErasing := 1
abbrev cwReceiving := 2
abbrev cwVerifying := 3
abbrev cwProgramming := 4
abbrev cwDone := 5
abbrev cwFailed := 6

def State.cwState (s : State) : Nat := s.fld F.CFG_WR_STATUS_STATE
def State.cwOpen (s : State) : Bool := s.cwState != cwIdle && s.cwState != cwDone && s.cwState != cwFailed
def State.cwBank (s : State) : Nat := s.fld F.CFG_WR_STATUS_BANK

/-- The inactive bank: the one not loaded at this start, or bank A. -/
def State.inactiveBank (s : State) : Nat := if s.fld F.CFG_STATUS_ACTIVE = 1 then 1 else 0

/-- A session ends FAILED with a result; D60 is on only while the memory is written. -/
def State.cwFail (s : State) (result : Nat) : State :=
  let s := (s.setFld F.CFG_WR_STATUS_STATE cwFailed).setFld F.CFG_WR_STATUS_RESULT result
  let s := { s with start.wrBlock0 := [], start.wrBlock := [], start.wrQueue := [] }
  (s.setDom 60 false).ev 0x030A [.b8 result]

/-- CFG_WR_CTRL START. -/
def State.cwStart (s : State) : Nat × State :=
  let blocks := s.fld F.CFG_WR_BLOCKS_BLOCKS
  if s.cwOpen then (1, s)
  else if !inR blocks 2 7680 then (9, s)
  else
    let b := s.inactiveBank
    let s := s.setReg R.CFG_WR_STATUS (b * 2 ^ 8 + cwErasing)
    let s := s.setBank b ((s.bank b).filter fun x => decide (16384 ≤ x.1))
    let s := { s with start.wrBlock0 := [], start.wrBlock := [], start.wrQueue := [] }
    (0, ((s.setReg R.CFG_WR_SEAL 0).setDom 60 true).ev 0x0308)

/-- CFG_WR_ERASE_DONE: the sectors of 64 KiB that CFG_WR_BLOCKS needs are erased. -/
def State.cwErased (s : State) : State :=
  if s.cwState ≠ cwErasing then s
  else
    let words := (s.fld F.CFG_WR_BLOCKS_BLOCKS + 15) / 16 * 16384
    (s.setBank s.cwBank ((s.bank s.cwBank).filter fun x => decide (words ≤ x.1))).setFld F.CFG_WR_STATUS_STATE cwReceiving

/-- A whole block has arrived, newest word first: block 0 is held, any other is checked and goes to the page buffer. -/
def State.cwBlock (s : State) (n : Nat) (ws : List W32) : State :=
  let next (s : State) : State := (s.setFld F.CFG_WR_STATUS_WORD 0).setFld F.CFG_WR_STATUS_BLOCK (n + 1)
  if n = 0 then next { s with start.wrBlock0 := ws, start.wrBlock := [] }
  else if crc32 ((ws.drop 1).reverse.flatMap wordBytes) = ws.headD 0 then
    next { s with start.wrBlock := [], start.wrQueue := s.start.wrQueue ++ [(n, ws.reverse)] }
  else s.cwFail rsBlockCrc

/-- CFG_WR_DATA. -/
def State.cwData (s : State) (v : W32) : Nat × State :=
  if s.cwState ≠ cwErasing ∧ s.cwState ≠ cwReceiving then (0xC, s)
  else if s.cwState = cwErasing ∨ s.start.wrQueue ≠ [] then (1, s)
  else
    let n := s.fld F.CFG_WR_STATUS_BLOCK
    if s.fld F.CFG_WR_BLOCKS_BLOCKS ≤ n then (9, s)
    else
      let ws := v :: s.start.wrBlock
      let s := { s with start.wrBlock := ws }
      if ws.length = 1024 then (0, s.cwBlock n ws) else (0, s.setFld F.CFG_WR_STATUS_WORD ws.length)

/-- Words entered into a bank from word k; all ones is an erased word. -/
def bankPut (m : NMap W32) (k : Nat) (ws : List W32) : NMap W32 :=
  (ws.foldl (fun (x : NMap W32 × Nat) w => (nset 0xFFFFFFFF x.1 x.2 w, x.2 + 1)) (m, k)).1

/-- The image as COMMIT checks it: flash with block 0 taken from the module. -/
def State.cwImage (s : State) : NMap W32 := bankPut (s.bank s.cwBank) 0 s.start.wrBlock0.reverse

/-- The checks of COMMIT on that image (R72): Table 3.5 but BLANK and NOT_TRIED. -/
def State.cwResult (s : State) : Nat :=
  let hr := headerResult (s.bankPresent s.cwBank) s.cwImage
  if hr = rsBlank then rsHeader else if hr ≠ 0 then hr else (fullResult s.cwImage (s.fld F.BASEPLATE_STATUS_BP_TYPE)).1

/-- CFG_WR_PAGE_PROGRAMMED: the page buffer is free again; while a complete image is being verified, that its checks have passed
and block 0 is being programmed. -/
def State.cwProgrammed (s : State) : State :=
  match s.start.wrQueue with
  | (n, ws) :: rest =>
    if s.cwOpen then State.setBank { s with start.wrQueue := rest } s.cwBank (bankPut (s.bank s.cwBank) (1024 * n) ws) else s
  | [] =>
    if s.cwState = cwVerifying ∧ s.cwResult = 0 then
      (s.setBank s.cwBank s.cwImage).setFld F.CFG_WR_STATUS_STATE cwProgramming
    else s

/-- CFG_WR_CTRL COMMIT. -/
def State.cwCommit (s : State) : Nat × State :=
  if s.cwState ≠ cwReceiving then (0xC, s)
  else if (match s.start.head with | some h => decide (bankWord s.cwImage 2 ≤ h.gen) | none => false) then (9, s)
  else (0, s.setFld F.CFG_WR_STATUS_STATE cwVerifying)

/-- CFG_WR_COMMIT_DONE: the checks have ended, or taken longer than 0.70 s, and block 0 has been programmed and read back. -/
def State.cwCommitDone (s : State) (o : CommitOutcome) : State :=
  if (s.cwState ≠ cwVerifying ∧ s.cwState ≠ cwProgramming) ∨ s.start.wrQueue ≠ [] then s
  else
    let img := s.cwImage
    if o = .timedOut ∧ s.cwState = cwVerifying then s.cwFail rsTimeout
    else if s.cwResult ≠ 0 then s.cwFail s.cwResult
    else if o ≠ .verified then (s.setBank s.cwBank img).cwFail rsBlockCrc
    else
      let h := imgHead img
      let s := s.setBank s.cwBank img
      let s := s.setReg R.CFG_WR_SEAL (if h.safety then 2 ^ 13 + h.safetyCrc.toNat % 2 ^ 12 else 0)
      let s := { s with start.wrBlock0 := [], start.wrBlock := [] }
      ((s.setFld F.CFG_WR_STATUS_STATE cwDone).setDom 60 false).ev 0x0309 [.b32 h.gen]

/-- CFG_WR_CTRL ABORT: no result code is stated for it, and RESULT stays 0; with no session open it changes nothing. (DESIGN
CHOICE, log entry 126.) -/
def State.cwAbort (s : State) : Nat × State := if s.cwOpen then (0, s.cwFail 0) else (0, s)

/-- CFG_WR_TIMEOUT (R74): 60 s without a CFG_WR write. -/
def State.cwTimeout (s : State) : State :=
  if s.cwOpen then s.cwFail rsTimeout else s

/-- A write of CFG_WR_CTRL (Table 3.16). (DEDUCED, log entry 25.) (DEDUCED, log entry 26.) -/
def State.cwCtrl (s : State) (v : Nat) : Nat × State :=
  if bits v 31 24 ≠ 0xC5 then (8, s)
  else match bits v 3 0 with
    | 1 => s.cwStart
    | 2 => s.cwCommit
    | 3 => s.cwAbort
    | _ => (9, s)

/-! ### Commands -/

def execStartSequenceBegin (s : State) : Host.Outcome State Fault Refusal := .next s.startBegin
def execThermalRestart (s : State) : Host.Outcome State Fault Refusal := .next s.thermalRestart
def execCfgHeadersRead (sfdpA sfdpB : Bool) (s : State) : Host.Outcome State Fault Refusal := .next (s.headersRead sfdpA sfdpB)
def execCandidateChecked (bank : Fin 2) (timedOut : Bool) (s : State) : Host.Outcome State Fault Refusal :=
  .next (s.candidateChecked bank.val timedOut)
def execImageApply (cmpReports : Bool) (s : State) : Host.Outcome State Fault Refusal := .next (s.imageApply cmpReports)
def execSettlingEnd (s : State) : Host.Outcome State Fault Refusal := .next s.settlingEnd
def execStartRelease (s : State) : Host.Outcome State Fault Refusal := .next s.startRelease
def execCfgWrEraseDone (s : State) : Host.Outcome State Fault Refusal := .next s.cwErased
def execCfgWrCommitDone (o : CommitOutcome) (s : State) : Host.Outcome State Fault Refusal := .next (s.cwCommitDone o)
def execCfgWrTimeout (s : State) : Host.Outcome State Fault Refusal := .next s.cwTimeout
def execCfgWrPageProgrammed (s : State) : Host.Outcome State Fault Refusal := .next s.cwProgrammed

end Sys2Proof.Machine
end

