-- ==== Sys2Proof/Machine/Power.lean ====
section
/-! DEFINITION. Supply, power domains, hold-up store, thermal protection and clock supervision (chapter 2, R283, R434). -/

namespace Sys2Proof.Machine

/-! ### Feeds (R31, R32) -/

def State.feedValid (s : State) (f : Nat) : Bool := bit (s.reg R.FEED_STATUS) f
def State.feedVolt (s : State) (f : Nat) : Nat := if f = 0 then s.fld F.FEED_VOLTAGE_F1_V else s.fld F.FEED_VOLTAGE_F2_V

/-- Which feed carries the load: the higher valid one; of equal ones the one that carried it, else F1. Neither carries it while
the store converter does. (DESIGN CHOICE, log entry 15.) -/
def State.feedCarry (s : State) : State :=
  let v1 := s.feedValid 0
  let v2 := s.feedValid 1
  let was2 := s.flag F.FEED_STATUS_F2_CARRY
  let second := v2 && (!v1 || decide (s.feedVolt 0 < s.feedVolt 1) || (s.feedVolt 0 == s.feedVolt 1 && was2))
  let bus := !s.flag F.HOLDUP_STATUS_CARRYING
  (s.setFld F.FEED_STATUS_F1_CARRY (b2n (bus && v1 && !second))).setFld F.FEED_STATUS_F2_CARRY (b2n (bus && second))

/-- FEED_MEASURE. -/
def State.feedMeasure (s : State) (f1 f2 : Nat) : State :=
  ((s.setFld F.FEED_VOLTAGE_F1_V f1).setFld F.FEED_VOLTAGE_F2_V f2).feedCarry

/-- FEED_VALID: 10 ms of measurements, the last of them among them, have met 9.0 V to 60.5 V. (DEDUCED, log entry 14.) -/
def State.feedGood (s : State) (f : Nat) : State :=
  if s.feedValid f ∨ !inR (s.feedVolt f) 900 6050 then s
  else
    let lost := nget false s.power.feedLost f
    let s := ((s.setBit R.FEED_STATUS f true).setBit R.FEED_STATUS (2 + f) false).setBit R.FEED_STATUS (4 + f) false
    let s := { s with power.feedLost := nset false s.power.feedLost f false }
    let s := s.setFld F.HOLDUP_STATUS_CARRYING 0
    let s := if s.stopOver ∨ s.stop ≠ .powerFail then s.chargeOn else s
    let s := s.feedCarry
    if lost then s.ev 0x0203 else s

/-- A feed becomes invalid: recorded while the other feed is valid. Of a feed that is invalid already the cause stays as it is
shown. (DESIGN CHOICE, log entry 121.) -/
def State.feedBad (s : State) (f : Nat) (ov : Bool) : State :=
  if !s.feedValid f then s
  else
    let s := (s.setBit R.FEED_STATUS f false).setBit R.FEED_STATUS ((if ov then 4 else 2) + f) true
    let s := s.feedCarry
    if s.feedValid (1 - f) then
      State.ev { s with power.feedLost := nset false s.power.feedLost f true } (if ov then 0x0202 else 0x0201)
    else s

/-! ### Hold-up store (R40 to R42, R46, R473) -/

/-- HOLDUP_OK follows store voltage and capacitance (R40); the vault follows it (R411). (DEDUCED, log entry 17.) -/
def State.holdupUpdate (s : State) : State :=
  let ok := decide (4600 ≤ s.fld F.HOLDUP_STATUS_STORE_V) && decide (550 ≤ s.fld F.HOLDUP_CAPACITY_CAP_UF)
  if ok = s.flag F.HOLDUP_STATUS_HOLDUP_OK then s
  else (s.setFld F.HOLDUP_STATUS_HOLDUP_OK (b2n ok)).vholdup ok

def State.setStore (s : State) (v : Nat) : State := (s.setFld F.HOLDUP_STATUS_STORE_V v).holdupUpdate

/-- HOLD_MS for a capacitance in µF (R46); 0 where the formula is negative. (DESIGN CHOICE, log entry 123.) -/
def storeMs (cap : Nat) : Nat := (837 * cap - 9750) / 3000

/-- A measured capacitance in whole µF, at most what CAP_UF holds (R40); charge: the measurement of a start. (DESIGN CHOICE, log
entry 122.) -/
def State.capMeasured (s : State) (cap : Nat) (charge : Bool) : State :=
  let cap := min cap 0xFFFF
  let deg := decide (cap < 800)
  let fail := decide (cap < 550)
  let wasDeg := s.flag F.HOLDUP_STATUS_DEGRADED
  let wasFail := s.flag F.HOLDUP_STATUS_FAILED
  let s := (s.setFld F.HOLDUP_CAPACITY_CAP_UF cap).setFld F.HOLDUP_CAPACITY_HOLD_MS (min 0xFFFF (storeMs cap))
  let s := s.setFld F.HOLDUP_STATUS_DEGRADED (b2n deg)
  let s := s.setFld F.HOLDUP_STATUS_FAILED (b2n (fail || (wasFail && !charge)))
  let s := if deg && !wasDeg then s.ev 0x0208 else s
  let s := if fail && !wasFail then s.ev 0x0209 else s
  s.holdupUpdate

/-- HOLDUP_CHARGE_MEASURE: from 20 V to 40 V at 60 mA in riseUs. (DEDUCED, log entry 16.) -/
def State.chargeMeasure (s : State) (riseUs : Nat) : State :=
  if !s.supplyValid then s else (s.setFld F.HOLDUP_STATUS_STORE_V 4000).capMeasured (3 * riseUs / 1000) true

/-- HOLDUP_TEST_START. -/
def State.testStart (s : State) : State :=
  if !s.alive ∨ !s.supplyValid ∨ s.flag F.HOLDUP_STATUS_TEST then s
  else (s.setFld F.HOLDUP_STATUS_TEST 1).setFld F.HOLDUP_STATUS_CHARGING 0

/-- HOLDUP_TEST_END: the store fell by dropMv in timeUs at 100 mA. (DESIGN CHOICE, log entry 122.) -/
def State.testStop (s : State) (timeUs dropMv : Nat) : State :=
  if !s.flag F.HOLDUP_STATUS_TEST then s
  else
    let s := s.setFld F.HOLDUP_STATUS_TEST 0
    let s := (s.setFld F.HOLDUP_STATUS_STORE_V (s.fld F.HOLDUP_STATUS_STORE_V - dropMv / 10)).chargeOn
    s.capMeasured (if dropMv = 0 then 0xFFFF else 100 * timeUs / dropMv) false

/-- HOLDUP_STORE_CHARGED: the store has reached 46.0 V. -/
def State.storeCharged (s : State) : State :=
  if !s.supplyValid then s
  else State.setStore { s with power.storeReady := true } (max 4600 (s.fld F.HOLDUP_STATUS_STORE_V))

/-- A data-plane tick of the charger: from 46.0 V on, 60 mA raise the store by 10 mV in CAP_UF ÷ 6 µs, up to the 48.0 V at which
it is held. (DEDUCED, log entry 134.) -/
def State.chargeTick (s : State) : State :=
  let cap := s.fld F.HOLDUP_CAPACITY_CAP_UF
  let v := s.fld F.HOLDUP_STATUS_STORE_V
  if !s.flag F.HOLDUP_STATUS_CHARGING ∨ v < 4600 ∨ cap = 0 then s
  else if 6 * (s.power.chargeUs + 1) < cap then { s with power.chargeUs := s.power.chargeUs + 1 }
  else
    let s := (State.setFld { s with power.chargeUs := 0 } F.HOLDUP_STATUS_STORE_V (v + 1))
    if 4800 ≤ v + 1 then s.setFld F.HOLDUP_STATUS_CHARGING 0 else s

/-- HOLDUP_CHARGE_TIMEOUT (R41). -/
def State.chargeTimeout (s : State) : State :=
  if !s.supplyValid ∨ s.power.storeReady then s else State.ev { s with power.storeReady := true } 0x0209

/-- STORE_CONVERTER_CARRY (Table 2.5, step 1): store is the store voltage. -/
def State.storeCarry (s : State) (store : Nat) : State :=
  ((s.setFld F.HOLDUP_STATUS_CARRYING 1).feedCarry).setStore store

/-- HOLDUP_DIP: the dip has ended with a feed still valid. -/
def State.holdupDip (s : State) (store : Nat) : State :=
  if !s.supplyValid then s
  else ((((s.setFld F.HOLDUP_STATUS_CARRYING 0).bump F.HOLDUP_STATUS_DIP_COUNT).feedCarry).setStore store).chargeOn

/-! ### Power-fail (R43, R45, R49) -/

/-- All domains other than D61, D62 and D63 go off. -/
def State.shed (s : State) : State :=
  let s := s.setDoms (List.range 61) false
  let s := foldState (fun s sl => if s.slState sl = slOff then s else s.slPowerOff sl) (List.range 16) s
  foldState State.portOff (List.range 4) s

/-- POWER_FAIL_DECLARED. How far the store then falls is not stated: its voltage is a free value. -/
def State.powerFail (s : State) : State :=
  if s.supplyValid ∨ s.stop = .powerFail then s
  else
    let held := s.flag F.HOLDUP_STATUS_HOLDUP_OK && s.time.ticking
    let s := { s with power.storeReady := false, power.holdFrom := if held then some s.tick else none }
    let s := if s.alive then s.halt .powerFail .ended 1
      else State.restage { s with phase := .stopped, stop := .powerFail, drive := .ended }
    let s := (s.setFld F.HOLDUP_STATUS_CHARGING 0).setFld F.HOLDUP_STATUS_TEST 0
    let s := (((s.ev 0x020B).closingFlush 0).shed).powerDown
    ((s.draw).setFld F.HOLDUP_STATUS_STORE_V (Config.freeValue s.free).toNat).holdupUpdate

/-- STORE_EXHAUSTED (R473): the supervisor loses what it kept; not within the time of R44. A power-fail still holds the next start
to R49. -/
def State.exhausted (s : State) : State :=
  if s.supplyValid ∨ s.holding then s
  else
    let v := (s.vstart).vault
    let v := { v with waiting := [], counts := [], suppressed := [] }
    let t : State := { State.reset with pending := s.pending, free := s.free, out := s.out, vault := v }
    let t := { t with start := { Start.init with bankA := s.start.bankA, bankB := s.start.bankB } }
    let t := { t with stop := (if s.stop = StopCause.powerFail then StopCause.powerFail else StopCause.none) }
    let t := (t.setReg R.BASEPLATE_STATUS (bits (s.reg R.BASEPLATE_STATUS) 1 0)).peerSeen (s.flag F.BASEPLATE_STATUS_PEER_PRESENT)
    foldState (fun t w => (t.setFld F.WHEEL_STATE_STRIKE (s.fld F.WHEEL_STATE_STRIKE w) w).setFld F.WHEEL_STATE_OUT
      (s.fld F.WHEEL_STATE_OUT w) w) (List.range 18) t

/-! ### Field supplies (R34) -/

/-- The state of FS that a voltage in 10 mV leads to from the present one (Table 2.2). -/
def fsNext (old v : Nat) : Nat :=
  if v < 1000 then fsAbsent
  else if old = fsAbsent ∨ old = fsLow then
    (if v < 1880 then fsLow else if v ≤ 3150 then fsNormal else fsHigh)
  else if v < 1800 then fsLow
  else if old = fsHigh then (if v ≤ 3050 then fsNormal else fsHigh)
  else (if v ≤ 3150 then fsNormal else fsHigh)

/-- The conditions of Table 2.3 hold on: the module is in a start or after it, or in a stop that leaves its domains on. -/
def State.powered (s : State) : Bool := s.phase != .waiting && s.stop != .powerFail

/-- FS_STATE_CHANGE: FS of slice sl has measured v over 1 ms. (DEDUCED, log entry 13.) -/
def State.fsChange (s : State) (sl v : Nat) : State :=
  if !s.powered then s
  else
    let old := s.fsState sl
    let new := fsNext old v
    let s := s.setReg R.FS_VOLTAGE v sl
    if old = new then s
    else
      let s := s.setReg R.FS_STATUS (putBits (s.reg R.FS_STATUS) (2 * sl + 1) (2 * sl) new)
      let s := if old = fsNormal ∨ new = fsNormal then s.ev 0x0204 [.b8 sl] else s
      if sl < 6 then s.aFsChange sl else s.dFsChange (sl - 6)

/-! ### Domains (R36, R37, Table 2.3) -/

def State.domTrip? (s : State) (d : Nat) : DomTrip := nget .init s.power.trips d
def State.setTrip (s : State) (d : Nat) (x : DomTrip) : State := { s with power.trips := nset .init s.power.trips d x }

/-- A stop that returns to the start sequence with the outputs at their safe values (Table 2.3 for D61, R283). -/
def State.clockStop (s : State) (why : StopCause) : State :=
  if s.alive then (s.halt why .safe 4).closingFlush 3 else s

/-- What the trip of domain d does (Table 2.3); locked: it stays off until the next start. -/
def State.tripAction (s : State) (d : Nat) (locked : Bool) : State :=
  if d < 18 then s.wheelLost d
  else if d < 22 then s.portOff (d - 18)
  else if d = 22 then s
  else if d < 27 then s.canTrip (d - 23)
  else if d < 59 then
    let sl := (d - 27) % 16
    let s := s.relinquish 5
    let s := if d < 43 then s.setDom (43 + sl) false else s
    s.slPowerOff sl
  else if d = 59 then s
  else if d = 60 then
    let s := s.readTrip locked
    if s.cwOpen then s.cwFail rsTimeout else s
  else if d = 61 then
    let s := s.clockStop .domain61
    { s with time.ticking := false }
  else
    let s := s.vfail
    State.powerDown { s with vault.closing := none }

/-- DOMAIN_TRIP. -/
def State.domainTrip (s : State) (d : Nat) : State :=
  if d = 63 ∨ !s.domOn d then s
  else
    let x := s.domTrip? d
    let second := match x.first with | some t => decide (s.tick - t ≤ 10000000) | none => false
    let s := (s.setDom d false).setBit R.DOMAIN_TRIP (d % 32) true 0 (d / 32)
    let s := s.setTrip d (if second then { x with awaiting := false, locked := true } else ⟨some s.tick, true, false⟩)
    (s.ev 0x020A [.b16 d]).tripAction d second

/-- The condition of Table 2.3 for domain d still holds: a wheel's not in thermal stop, a slice's while the mate filter has
passed, and that of its electronics together with its controller's. -/
def State.domNeeded (s : State) (d : Nat) : Bool :=
  s.powered && (d != 60 || (s.phase == .starting && s.start.head.isNone) || s.cwOpen) &&
    (decide (18 ≤ d) || (s.stop != .thermal && !s.flag F.WHEEL_STATE_OUT d)) &&
    (!(decide (27 ≤ d) && decide (d < 59)) || s.plate.mated) && (!(decide (43 ≤ d) && decide (d < 59)) || s.domOn (d - 16))

/-- DOMAIN_RETRY: a slice's electronics go on together with its controller. -/
def State.domainRetry (s : State) (d : Nat) : State :=
  let x := s.domTrip? d
  if !x.awaiting then s
  else
    let s := s.setTrip d { x with awaiting := false }
    if !s.domNeeded d then s
    else
      let s := s.setDom d true
      if 23 ≤ d ∧ d < 27 then s.canRestart (d - 23)
      else if 27 ≤ d ∧ d < 59 then
        let sl := (d - 27) % 16
        let y := s.domTrip? (43 + sl)
        let s := if d < 43 ∧ !y.awaiting ∧ !y.locked then s.setDom (43 + sl) true else s
        if s.sliceOn sl then s.slPowerOn sl else s
      else s

/-- WHEEL_LOST (R434): a trip of its domain, or an uncorrectable word that an instruction met. -/
def State.wheelLoss (s : State) (w : Nat) (why : WheelLoss) : State :=
  match why with
  | .trip => s.domainTrip w
  | .fetch addr => if s.wst w = wsActive then s.wheelDouble w false addr true else s
  | .load addr => if s.wst w = wsActive then s.wheelDouble w true addr true else s

/-! ### Thermal protection (R47, R48) -/

/-- A mean, as the sum of its 8 samples, within −55 °C to +175 °C and within 20 °C of the one before it. -/
def meanPlausible (sum : Int) (prev : Option Int) : Bool :=
  decide (-7040 ≤ sum ∧ sum ≤ 22400) && match prev with | some p => decide ((sum - p).natAbs ≤ 2560) | none => true

/-- The hottest of the sensors that are not excluded; among equals the lowest number. (DESIGN CHOICE, log entry 125.) -/
def State.hottest (s : State) : Option Nat :=
  s.sensorsIn.foldl (fun (b : Option Nat) n => match b with
    | none => some n
    | some m => if s.sensorSum m < s.sensorSum n then some n else b) none

/-- Thermal stop, from a start or service, from a stop of another cause, or while the module waits; a power-fail prevails (R49).
-/
def State.thermalStop (s : State) : State :=
  if s.stop = .thermal ∨ s.stop = .powerFail then s
  else
    let s := if s.alive then s.halt .thermal .safe 3 else { s with phase := .stopped, stop := .thermal }
    ((s.setDoms (List.range 18) false).ev 0x0206).closingFlush 2

/-- THERMAL_STATUS with HOT_SENSOR and HOT_T at 0 where all sensors are excluded, event 0x0205 and thermal stop follow the means;
while more than 4 sensors are excluded the junction counts as 150.0 °C (R48). (DEDUCED, log entry 19.) (DESIGN CHOICE, log entry
125.) -/
def State.thermalUpdate (s : State) : State :=
  let inn := s.sensorsIn
  let h := s.hottest
  let s := s.setReg R.THERMAL_STATUS
    (h.getD 0 * 2 ^ 24 + (24 - inn.length) * 2 ^ 16 + (match h with | some n => ofSint 16 (s.sensorSum n / 8) | none => 0))
  let s :=
    if !s.power.hot ∧ (inn.length < 20 ∨ inn.any (fun n => decide (18560 ≤ s.sensorSum n))) then
      State.ev { s with power.hot := true } 0x0205
    else if 20 ≤ inn.length ∧ inn.all (fun n => decide (s.sensorSum n < 17920)) then { s with power.hot := false }
    else s
  if inn.length < 20 ∨ inn.any (fun n => decide (19200 ≤ s.sensorSum n)) then s.thermalStop else s

/-- THERMAL_SAMPLE: t in 1/16 °C. (DESIGN CHOICE, log entry 18.) (DESIGN CHOICE, log entry 124.) -/
def State.thermalSample (s : State) (n : Nat) (t : Int) : State :=
  let x : Sensor := nget .init s.power.sensors n
  let samples := (t :: x.samples).take 8
  if samples.length < 8 then { s with power.sensors := nset .init s.power.sensors n { x with samples := samples } }
  else
    let sum := samples.sum
    let ok := meanPlausible sum x.mean
    let s := { s with power.sensors := nset .init s.power.sensors n ⟨samples, some sum, ok⟩ }
    let s := s.setFld F.THERMAL_SENSOR_T (ofSint 16 (sum / 8)) n
    let s := if !ok && !s.flag F.THERMAL_SENSOR_EXCL n then (s.setFld F.THERMAL_SENSOR_EXCL 1 n).ev 0x020C else s
    s.thermalUpdate

/-- SENSOR_INCLUDED: plausible for 1 s. -/
def State.sensorIncluded (s : State) (n : Nat) : State :=
  if s.flag F.THERMAL_SENSOR_EXCL n ∧ (nget Sensor.init s.power.sensors n).plausible then
    ((s.setFld F.THERMAL_SENSOR_EXCL 0 n).ev 0x020D).thermalUpdate
  else s

/-! ### Clock supervision (R283) -/

/-- Event 0x0C0B with TCXO_OK and PLL_LOCK (Table 12.13). -/
def State.clockEvent (s : State) : State :=
  s.ev 0x0C0B [.b8 (s.fld F.CLOCK_STATUS_TCXO_OK), .b8 (s.fld F.CLOCK_STATUS_PLL_LOCK)]

/-- TCXO_CHECK. No row of the table stands for the root PLL's return to lock: after a clock failure the first check within limits
shows it. (DEDUCED, log entry 133.) -/
def State.tcxoCheck (s : State) (ppm : Int) : State :=
  if ppm.natAbs ≤ 500 then
    let s := s.setFld F.CLOCK_STATUS_TCXO_OK 1
    if s.time.clockFault then s.setFld F.CLOCK_STATUS_PLL_LOCK 1 else s
  else
    let was := s.flag F.CLOCK_STATUS_TCXO_OK
    let s := State.setFld { s with time.clockFault := true } F.CLOCK_STATUS_TCXO_OK 0
    let s := if was ∨ s.alive then s.clockEvent else s
    if s.alive then s.clockStop .clock else s

/-- PLL_UNLOCK. -/
def State.pllUnlock (s : State) : State :=
  let was := s.flag F.CLOCK_STATUS_PLL_LOCK
  let s := State.setFld { s with time.clockFault := true } F.CLOCK_STATUS_PLL_LOCK 0
  if !was then s
  else
    let s := s.clockEvent
    if s.alive then s.clockStop .clock else s

/-! ### Commands -/

def execFeedMeasure (f1 f2 : BitVec 16) (s : State) : Host.Outcome State Fault Refusal :=
  .next (s.feedMeasure f1.toNat f2.toNat)
def execFeedValid (f : Fin 2) (s : State) : Host.Outcome State Fault Refusal := .next (s.feedGood f.val)
def execFeedUndervoltage (f : Fin 2) (s : State) : Host.Outcome State Fault Refusal := .next (s.feedBad f.val false)
def execFeedOvervoltage (f : Fin 2) (s : State) : Host.Outcome State Fault Refusal := .next (s.feedBad f.val true)
def execHoldupDip (store : BitVec 16) (s : State) : Host.Outcome State Fault Refusal := .next (s.holdupDip store.toNat)
def execPowerFailDeclared (s : State) : Host.Outcome State Fault Refusal := .next s.powerFail
def execStoreExhausted (s : State) : Host.Outcome State Fault Refusal := .next s.exhausted
def execFsStateChange (sl : Fin 16) (v : BitVec 16) (s : State) : Host.Outcome State Fault Refusal :=
  .next (s.fsChange sl.val v.toNat)
def execDomainTrip (d : Fin 64) (s : State) : Host.Outcome State Fault Refusal := .next (s.domainTrip d.val)
def execDomainRetry (d : Fin 64) (s : State) : Host.Outcome State Fault Refusal := .next (s.domainRetry d.val)
def execHoldupChargeMeasure (riseUs : Nat) (s : State) : Host.Outcome State Fault Refusal := .next (s.chargeMeasure riseUs)
def execHoldupTestStart (s : State) : Host.Outcome State Fault Refusal := .next s.testStart
def execHoldupTestEnd (timeUs dropMv : Nat) (s : State) : Host.Outcome State Fault Refusal := .next (s.testStop timeUs dropMv)
def execHoldupStoreCharged (s : State) : Host.Outcome State Fault Refusal := .next s.storeCharged
def execHoldupChargeTimeout (s : State) : Host.Outcome State Fault Refusal := .next s.chargeTimeout
def execThermalSample (n : Fin 24) (t : BitVec 16) (s : State) : Host.Outcome State Fault Refusal :=
  .next (s.thermalSample n.val t.toInt)
def execSensorIncluded (n : Fin 24) (s : State) : Host.Outcome State Fault Refusal := .next (s.sensorIncluded n.val)
def execTcxoCheck (ppm : Int) (s : State) : Host.Outcome State Fault Refusal := .next (s.tcxoCheck ppm)
def execPllUnlock (s : State) : Host.Outcome State Fault Refusal := .next s.pllUnlock
def execWheelLost (w : Fin 18) (why : WheelLoss) (s : State) : Host.Outcome State Fault Refusal := .next (s.wheelLoss w.val why)
def execStoreConverterCarry (store : BitVec 16) (s : State) : Host.Outcome State Fault Refusal := .next (s.storeCarry store.toNat)

end Sys2Proof.Machine
end

