-- ==== Sys2Proof/Machine/Time.lean ====
section
/-! DEFINITION. Time bases and synchronisation (chapter 12): PTP input and peer delay, the domain bases, TS source selection,
holdover and stepping. TL is 1,000 ns per tick, and steering shows as a change of every base against TL. -/

namespace Sys2Proof.Machine

def State.asCapable (s : State) (p : Nat) : Bool := s.flag F.PORT_PTP_AS_CAPABLE p

/-! PTP messages on the line: the layouts of IEEE 1588-2019, which R286 names (PRESUMED, log entry 142). -/

/-- A time in ns as a PTP timestamp: 48-bit seconds, 32-bit nanoseconds. -/
def ptpTime (ns : Int) : List Byte := bytesBE 6 (ns.toNat / 1000000000) ++ bytesBE 4 (ns.toNat % 1000000000)

/-- A message with its common header: minorVersionPTP 1, versionPTP 2, the domain, the correction in ns, the sourcePortIdentity as
an 80-bit number. (PRESUMED, log entry 142.) -/
def ptpMessage (type domain : Nat) (twoStep : Bool) (corr : Int) (source seq : Nat) (body : List Byte) : List Byte :=
  bytesBE 1 type ++ bytesBE 1 0x12 ++ bytesBE 2 (34 + body.length) ++ bytesBE 1 domain ++ bytesBE 1 0 ++
    bytesBE 2 (0x200 * b2n twoStep) ++ bytesBE 8 (ofSint 64 (corr * 65536)) ++ bytesBE 4 0 ++ bytesBE 10 source ++ bytesBE 2 seq ++
    bytesBE 1 (if type = 0 then 0 else 5) ++ bytesBE 1 (if type = 3 then 0x7F else 0) ++ body

/-- sourcePortIdentity of port p: the clockIdentity, and port 1 or 2 of the plane. -/
def ptpPortId (p : Nat) : Nat := Config.clockIdentity.toNat * 2 ^ 16 + (p % 2 + 1)

/-- A PTP message out of one port, in the domain of its plane. -/
def State.ptpEmit (s : State) (type p seq : Nat) (twoStep : Bool) (corr : Int) (source : Nat) (body : List Byte) : State :=
  s.emit ⟨[p], 0x100 + type, 2, 0, 0, 0, s.addr, dstKind, seq,
    ptpMessage type (s.fld F.DOM_CFG_DOMAIN (p / 2)) twoStep corr source seq body, 0⟩

/-- Factory corrections of port n in ns: a time stamp of a received frame is taken this much late, one of a sent frame this much
early (R288). -/
def rxLat (p : Nat) : Int := (bits (Config.portLat p).toNat 15 0 : Nat)
def txLat (p : Nat) : Int := (bits (Config.portLat p).toNat 31 16 : Nat)

/-- delayAsymmetry of a port in ns (R288). -/
def State.asym (s : State) (p : Nat) : Int := sint 32 (s.reg R.PORT_ASYM p)

def State.planePorts (s : State) (plane : Nat) : List Nat := [2 * plane, 2 * plane + 1].filter s.portUp

/-! ### Base states (R290) -/

/-- Causes of event 0x0C02 (codes left open: DESIGN CHOICE, log entry 5): 80 timeout, 81 outliers, 82 domain write. -/
def State.baseLeave (s : State) (d cause : Nat) : State :=
  if s.bLocked d then
    (s.bump F.DOM_COUNTS_0_LOCK_LOSSES d).ev 0x0C02 [.b8 d, .b8 (Config.openCode cause).toNat]
  else if s.bState d = bsMaster then s.ev 0x0C09 [.b8 d]
  else s

/-- The base becomes FREE. -/
def State.baseFree (s : State) (d cause : Nat) : State :=
  let s := (s.baseLeave d cause).setFld F.DOM_STATUS_STATE bsFree d
  s.setBase d { s.base d with gm := none, stepped := false, good := 0, outliers := 0, lockedAt := none, twoStep := none }

/-- BMCA order: the qualities, then identity, steps and port. (PRESUMED, log entry 48.) -/
def Foreign.rank (f : Foreign) : List Nat := f.qual ++ [f.gm, f.steps, f.port]

/-- This module as a clock of plane d (Table 12.2). -/
def State.ownClock (s : State) (d : Nat) : Foreign :=
  ⟨Config.clockIdentity.toNat, 4, [s.fld F.DOM_CFG_PRIORITY1 d, 248, 0xFE, 0xFFFF, s.fld F.DOM_CFG_PRIORITY2 d], 0, 2, s.tick⟩

/-- The clock has been heard within announceReceiptTimeout: 3 Announce intervals of 1 s (Table 12.2). -/
def State.heardClock (s : State) (f : Foreign) : Bool := decide (s.tick < f.at_ + 3000000)

/-- The clock that wins on plane d: among the clocks heard twice and not silent since, and this module where it is
grandmaster-capable. -/
def State.bestClock (s : State) (d : Nat) : Option Foreign :=
  let own := if s.flag F.DOM_CFG_GM_EN d then [s.ownClock d] else []
  (own ++ (s.base d).foreign.filter fun f => decide (2 ≤ f.n) && s.heardClock f).foldl (fun b f => match b with
    | none => some f
    | some g => if f.rank < g.rank then some f else some g) none

/-- Show the elected grandmaster. -/
def State.showGm (s : State) (d : Nat) (f : Foreign) : State :=
  ((s.setFld F.DOM_STATUS_STEPS (min f.steps 255) d).setFld F.DOM_STATUS_GM_CLASS (f.qual.getD 1 0) d).setReg64 R.DOM_GM_ID f.gm d

/-- Election on plane d (R290). -/
def State.elect (s : State) (d : Nat) : State :=
  match s.bestClock d with
  | none => s
  | some f =>
    let b := s.base d
    let st := s.bState d
    let changed := match b.gm with | some (g, _) => g != f.gm | none => false
    let s := if changed then s.bump F.DOM_COUNTS_1_GM_CHANGES d else s
    let s := s.showGm d f
    if f.port = 4 then
      if st = bsMaster then s
      else
        let s := if st = bsLocked then s.bump F.DOM_COUNTS_0_LOCK_LOSSES d else s
        let s := (s.setFld F.DOM_STATUS_STATE bsMaster d).setBase d { b with gm := some (f.gm, 4), lockedAt := none }
        s.ev 0x0C09 [.b8 d]
    else
      let s := s.setBase d { b with gm := some (f.gm, f.port) }
      if st = bsFree ∨ st = bsMaster then
        let s := if st = bsMaster then s.ev 0x0C09 [.b8 d] else s
        let s := s.setFld F.DOM_STATUS_STATE bsAcquiring d
        s.setBase d { s.base d with stepped := false, good := 0, outliers := 0 }
      else s

/-- An accepted measurement of base − TL on plane d (R289, R290). The base takes it at once (DESIGN CHOICE, log entry 41). (DESIGN
CHOICE, log entry 44.) -/
def State.measure (s : State) (d : Nat) (off : Int) : State :=
  let b := s.base d
  let st := s.bState d
  let diff := (off - b.off).natAbs
  if st ≠ bsAcquiring ∧ st ≠ bsLocked then s
  else if st = bsAcquiring ∧ !b.stepped then s.setBase d { b with off := off, stepped := true, good := 1, outliers := 0 }
  else if 1000 < diff then
    let s := s.bump F.DOM_COUNTS_0_OUTLIERS d
    if 2 ≤ b.outliers then s.baseFree d 81 else s.setBase d { b with outliers := b.outliers + 1, good := 0 }
  else if st = bsAcquiring then
    let good := if diff ≤ 100 then b.good + 1 else 0
    if 8 ≤ good then
      let s := s.setBase d { b with off := off, good := good, outliers := 0, lockedAt := some s.tick }
      let s := s.draw.setFld F.CLOCK_STATUS_FREQ_PPB (Config.freeValue s.free).toNat
      (s.setFld F.DOM_STATUS_STATE bsLocked d).ev 0x0C01 [.b8 d, .b64 (s.reg64 R.DOM_GM_ID d)]
    else s.setBase d { b with off := off, good := good, outliers := 0 }
  else s.setBase d { b with off := off, outliers := 0 }

/-! ### PTP messages (R286 to R289) -/

/-- The message is refused (R289); what is refused is counted. (DEDUCED, log entry 45.) -/
def State.ptpRefused (s : State) (port version minor domain : Nat) (needAs : Bool) : Bool :=
  version != 2 || decide (1 < minor) || domain != s.fld F.DOM_CFG_DOMAIN (port / 2) || (needAs && !s.asCapable port)

def State.ptpRefuse (s : State) (port : Nat) : State := s.bump F.DOM_COUNTS_1_REFUSED (port / 2)

/-- PORT_PDELAY in ns, 0 where there is none. -/
def State.pdelay (s : State) (p : Nat) : Nat :=
  if s.reg R.PORT_PDELAY p = 0xFFFFFFFF then 0 else s.reg R.PORT_PDELAY p

/-- PTP_SYNC_RECEIVED: forwarded out of the other port, where R309 forwards it, with its correction raised by the residence time,
the link delay and the asymmetry of the receiving port (R287, R288), and used when it came on the SLAVE port. (DESIGN CHOICE, log
entry 47.) -/
def State.syncIn (s : State) (m : SyncMsg) : State :=
  let p := m.port.val
  let d := p / 2
  if !s.portUp p then s
  else if s.ptpRefused p m.version m.minor m.domain true ∨ 1000000000 < m.correction then s.ptpRefuse p
  else
    let other := if p % 2 = 0 then p + 1 else p - 1
    let s := if s.forwards p m.from_ 0 then
        s.ptpEmit 0 other m.seq m.twoStep (m.correction + (m.residence : Int) + rxLat p + txLat other + s.pdelay p + s.asym p) m.source
          (ptpTime m.origin)
      else s
    match (s.base d).gm with
    | some (_, q) =>
      if q ≠ p then s
      else
        let adj : Int := m.correction + s.pdelay p + s.asym p - (m.ingress - rxLat p)
        if m.twoStep then s.setBase d { s.base d with twoStep := some (p, m.seq, m.source, adj) }
        else s.measure d (m.origin + adj)
    | none => s

/-- PTP_FOLLOW_UP_RECEIVED. -/
def State.followUpIn (s : State) (m : FollowUpMsg) : State :=
  let p := m.port.val
  let d := p / 2
  if !s.portUp p then s
  else if s.ptpRefused p m.version m.minor m.domain true ∨ 1000000000 < m.correction then s.ptpRefuse p
  else match (s.base d).twoStep with
    | some (q, seq, src, adj) =>
      if q = p ∧ seq = m.seq ∧ src = m.source then
        State.measure (s.setBase d { s.base d with twoStep := none }) d (m.origin + m.correction + adj)
      else s
    | none => s

/-- PTP_ANNOUNCE_RECEIVED. -/
def State.ptpAnnounceIn (s : State) (m : AnnounceMsg) : State :=
  let p := m.port.val
  let d := p / 2
  if !s.portUp p then s
  else if s.ptpRefused p m.version m.minor m.domain true then s.ptpRefuse p
  else
    let b := s.base d
    let heard := b.foreign.filter s.heardClock
    let n := match heard.find? fun f => f.gm == m.gm && f.port == p with | some f => f.n + 1 | none => 1
    let f : Foreign := ⟨m.gm, p, [m.priority1, m.clockClass, m.accuracy, m.variance, m.priority2], m.steps, n, s.tick⟩
    let rest := heard.filter fun f => !(f.gm == m.gm && f.port == p)
    (s.setBase d { b with foreign := rest ++ [f] }).elect d

/-- ANNOUNCE_RECEIPT_TIMEOUT: the elected grandmaster of the plane is heard no more, or none has been heard. -/
def State.announceTimeout (s : State) (d : Nat) : State :=
  match (s.base d).gm with
  | some (g, q) =>
    if q = 4 ∨ (s.base d).foreign.any fun f => f.gm == g && f.port == q && s.heardClock f then s
    else
      let s := s.baseFree d 80
      (s.setBase d { s.base d with foreign := (s.base d).foreign.filter (·.gm != g) }).elect d
  | none => s.elect d

/-- PTP_PDELAY_REQ_RECEIVED: answered on the port it came on. -/
def State.pdelayReqIn (s : State) (m : PdelayReqMsg) : State :=
  let p := m.port.val
  if !s.portUp p then s
  else if s.ptpRefused p m.version m.minor m.domain false then s.ptpRefuse p
  else s.ptpEmit 3 p m.seq false 0 (ptpPortId p) (ptpTime (m.ingress - rxLat p) ++ bytesBE 10 m.source)

/-- Insert into a rising list. -/
def insertInt (x : Int) : List Int → List Int
  | [] => [x]
  | y :: ys => if x ≤ y then x :: y :: ys else y :: insertInt x ys

/-- The median of the delays accepted; of an even number of them the lower middle one (DESIGN CHOICE, log entry 42). -/
def medianInt (l : List Int) : Int := (l.foldr insertInt []).getD ((l.length - 1) / 2) 0

/-- The mean link delay in ns that a response gives (R288, R289). -/
def pdelayOf (m : PdelayRespMsg) : Int :=
  ((m.ingress - rxLat m.port.val) - (m.sent + txLat m.port.val) - m.turn) / 2

/-- PTP_PDELAY_RESP_RECEIVED. -/
def State.pdelayRespIn (s : State) (m : PdelayRespMsg) : State :=
  let p := m.port.val
  let x := s.ptp p
  if !s.portUp p then s
  else if s.ptpRefused p m.version m.minor m.domain false then s.ptpRefuse p
  else if x.waiting ≠ some m.seq then s
  else if 0 ≤ pdelayOf m ∧ pdelayOf m ≤ 10000 then
    let ds := (pdelayOf m :: x.delays).take 5
    let s := s.setPtp p { x with waiting := none, delays := ds, timeouts := 0, accepted := x.accepted + 1 }
    let s := s.setReg R.PORT_PDELAY (medianInt ds).toNat p
    if 3 ≤ x.accepted + 1 then s.setFld F.PORT_PTP_AS_CAPABLE 1 p else s
  else (s.setPtp p { x with waiting := none, timeouts := 0, accepted := 0 }).bump F.PORT_COUNTS_PDELAY_REJECTED p

/-- PDELAY_TIMEOUT: no response within 100 ms of the request. -/
def State.pdelayTimeout (s : State) (p : Nat) : State :=
  let x := s.ptp p
  if x.waiting.isNone ∨ s.tick < x.askedAt + 100000 then s
  else
    let s := (s.setPtp p { x with waiting := none, timeouts := x.timeouts + 1, accepted := 0 }).bump F.PORT_COUNTS_PDELAY_TIMEOUTS p
    if 3 ≤ x.timeouts + 1 then s.setFld F.PORT_PTP_AS_CAPABLE 0 p else s

/-- PTP_INTERVAL (Table 12.2): peer-delay requests on every port, Sync and Announce on a plane it is grandmaster of. -/
def State.ptpInterval (s : State) : State :=
  let s := foldState (fun s p =>
    if !s.portUp p then s
    else
      let x := s.ptp p
      (s.setPtp p { x with waiting := some x.seq, seq := (x.seq + 1) % 65536, askedAt := s.tick }).ptpEmit 2 p x.seq false 0 (ptpPortId p)
        (ptpTime 0 ++ bytesBE 10 0)) [0, 1, 2, 3] s
  let seq := s.time.syncSeq
  let s := foldState (fun s d =>
    if s.bState d ≠ bsMaster then s
    else
      let own := s.ownClock d
      let q (i : Nat) : Nat := own.qual.getD i 0
      foldState (fun s p =>
        let s := s.ptpEmit 0 p seq false 0 (ptpPortId p) (ptpTime (s.ts + txLat p))
        s.ptpEmit 0xB p seq false 0 (ptpPortId p) (ptpTime 0 ++ bytesBE 2 0 ++ bytesBE 1 0 ++ bytesBE 1 (q 0) ++ bytesBE 1 (q 1) ++
          bytesBE 1 (q 2) ++ bytesBE 2 (q 3) ++ bytesBE 1 (q 4) ++ bytesBE 8 own.gm ++ bytesBE 2 0 ++ bytesBE 1 0xA0))
        (s.planePorts d) s) [0, 1] s
  { s with time.syncSeq := (seq + 1) % 65536 }

/-! ### TS (R291 to R297) -/

def State.tsState (s : State) : Nat := s.fld F.TIME_STATUS_TS_STATE

/-- Enter a TS state with or without validity. -/
def State.setTs (s : State) (st : Nat) (valid : Bool) : State :=
  let s := (s.setFld F.TIME_STATUS_TS_STATE st).setFld F.TIME_STATUS_TS_VALID (b2n valid)
  let s := s.setFld F.TIME_STATUS_HOLDOVER (b2n (st == tsHoldover || st == tsExpired))
  if valid && !s.time.everValid then State.ev { s with time.everValid := true } 0x0C03 [.b8 st] else s

/-- Leave holdover into a state, with event 0x0C06. -/
def State.holdEnds (s : State) (st : Nat) : State :=
  let ms := s.holdMs
  ({ s with time.holdTick := none }).ev 0x0C06 [.b8 st, .b32 ms]

def State.inHold (s : State) : Bool := s.tsState == tsHoldover || s.tsState == tsExpired

/-- TS takes base d as its source, in LOCKED. -/
def State.tsLock (s : State) (d : Nat) : State :=
  let was := s.tsValid
  let hold := s.inHold
  let ever := s.time.everValid
  let s := { s with time.following := true, time.stepping := false }
  let s := if was then
      (s.bump F.TIME_STATUS_SWITCHES).ev 0x0C04 [.b8 d, .b32 (ofSint 32 (s.domOffset d))]
    else s
  let s := (s.setFld F.TIME_STATUS_SOURCE d).setTs tsLocked true
  if hold ∨ (!was ∧ ever) then s.holdEnds tsLocked else s

/-- Round to the nearest 1,000 ns. (DESIGN CHOICE, log entry 43.) -/
def round1000 (x : Int) : Int := (x + 500) / 1000 * 1000

/-- Step TS to base d while it is not valid (R297): UNSET stays UNSET, and what was valid once is EXPIRED until the residual has
been pulled in (TS is valid in HOLDOVER). (DEDUCED, log entry 118.) -/
def State.tsStep (s : State) (d : Nat) : State :=
  let new := round1000 (s.base d).off
  let step := new - s.time.tsOff
  let s := s.setTs (if s.tsState = tsUnset then tsUnset else tsExpired) false
  let s := { s with time.tsOff := new, time.following := true, time.stepping := true }
  (s.setFld F.TIME_STATUS_SOURCE d).ev 0x0C08 [.b64 (ofSint 64 step)]

/-- The bases, the preferred one first. -/
def State.basesPref (s : State) : List Nat := let p := s.fld F.TIME_CFG_SEL_PREF; [p, 1 - p]

/-- In HOLDOVER without a source: a LOCKED base within the bound of R297 becomes the source; one beyond it is stepped to. -/
def State.holdExit (s : State) : State :=
  match s.basesPref.find? s.bLocked with
  | none => s
  | some d =>
    if (s.domOffset d).natAbs ≤ 2 * s.holdMs + 1000 then
      { s.setFld F.TIME_STATUS_SOURCE d with time.following := true }
    else s.tsStep d

/-- The revert condition of Table 12.4. -/
def State.revertDue (s : State) : Bool :=
  let p := s.fld F.TIME_CFG_SEL_PREF
  let r := s.fld F.TIME_CFG_REVERT_S
  s.time.following && !s.time.stepping && s.fld F.TIME_STATUS_SOURCE == 1 - p && s.bLocked p && r != 0 &&
    (match (s.base p).lockedAt with | some t => decide (1000000 * r ≤ s.tick - t) | none => false) &&
    decide ((s.domOffset p).natAbs ≤ 50)

/-- The choice of the source at a tick (Table 12.4). (DEDUCED, log entry 49.) -/
def State.tsSelect (s : State) : State :=
  let src := s.fld F.TIME_STATUS_SOURCE
  let gm := s.bState 0 == bsMaster || s.bState 1 == bsMaster
  let keeps := s.time.following && s.bLocked src
  if keeps && !s.revertDue && s.tsValid then
    if s.tsState = tsHoldover ∧ (s.domOffset src).natAbs ≤ 50 then (s.setTs tsLocked true).holdEnds tsLocked else s
  else if s.revertDue then s.tsLock (s.fld F.TIME_CFG_SEL_PREF)
  else
    match s.basesPref.find? fun d => s.bLocked d && decide ((s.domOffset d).natAbs ≤ 50) with
    | some d => s.tsLock d
    | none =>
      if s.tsValid && !gm then
        let s := { s with time.following := false }
        let s := if s.tsState = tsHoldover then s
          else (State.setTs { s with time.holdTick := some s.tick } tsHoldover true).ev 0x0C05
        s.holdExit
      else if gm then
        if s.tsState = tsMaster then s
        else
          let s := { s with time.following := false, time.stepping := false }
          if s.tsState = tsUnset then
            let v : Int := if s.time.preset then round1000 ((s.reg64 R.TIME_SET : Int) - s.tl) else 0
            State.setTs { s with time.tsOff := v } tsMaster true
          else
            let hold := s.inHold
            let s := s.setTs tsMaster true
            if hold then s.holdEnds tsMaster else s
      else match s.basesPref.find? s.bLocked with
        | some d => if s.time.stepping ∧ s.bLocked src then s else s.tsStep d
        | none => { s with time.stepping := false, time.following := false }

/-- Steering over one tick (R292): at most 1 ns towards the source, seen as a change of every base against TL. -/
def State.tsSteer (s : State) : State :=
  let src := s.fld F.TIME_STATUS_SOURCE
  if !s.time.following ∨ !s.bLocked src then s
  else
    let dir : Int := (s.domOffset src).sign
    if dir = 0 then s
    else foldState (fun s d => s.setBase d { s.base d with off := (s.base d).off - dir }) [0, 1] s

/-- SLEWING (R292). -/
def State.tsSlewing (s : State) : State :=
  let src := s.fld F.TIME_STATUS_SOURCE
  s.setFld F.TIME_STATUS_SLEWING (b2n (s.time.following && decide (50 < (s.domOffset src).natAbs)))

/-- Both bases are LOCKED more than 50 ns apart (R300). -/
def State.abApart (s : State) : Bool :=
  s.bLocked 0 && s.bLocked 1 && decide (50 < ((s.base 0).off - (s.base 1).off).natAbs)

/-- The tick since which they have been (R300). -/
def State.abTrack (s : State) : State :=
  { s with time.abSince := if s.abApart then some (s.time.abSince.getD s.tick) else none }

/-- What every tick does to TS (R292, R293, R300). -/
def State.tsTick (s : State) : State := (((s.tsSteer).tsSelect).tsSlewing).abTrack

/-- HOLDOVER_LIMIT (R296). -/
def State.holdLimit (s : State) : State :=
  if s.tsState = tsHoldover ∧ 1000 * s.fld F.TIME_CFG_HOLD_LIMIT_S ≤ s.holdMs then
    (State.setTs { s with time.following := false, time.stepping := false } tsExpired false).ev 0x0C07
  else s

/-- AB_OFFSET_ALARM (R300): for 10 s. -/
def State.abAlarm (s : State) : State :=
  match s.time.abSince with
  | some t => if s.abApart ∧ t + 10000000 ≤ s.tick then s.ev 0x0C0A [.b32 s.abOffset] else s
  | none => s

/-! ### Register writes -/

/-- A DOM_CFG write takes effect (R290). (DEDUCED, log entry 117.) -/
def State.domCfgApply (s : State) (d v : Nat) : State :=
  let s := s.baseFree d 82
  (s.setBase d { s.base d with foreign := [] }).setReg R.DOM_CFG v d

/-- A TIME_CFG write takes effect: a limit already exceeded ends the holdover (R296). -/
def State.timeCfgApply (s : State) (v : Nat) : State := (s.setReg R.TIME_CFG v).holdLimit

/-- TIME_SET takes effect (R295). -/
def State.timeSetApply (s : State) (v : Nat) : State := { s.setReg64 R.TIME_SET v with time.preset := true }

/-! ### Commands -/

def execPtpInterval (s : State) : Host.Outcome State Fault Refusal := .next s.ptpInterval
def execPtpSyncReceived (m : SyncMsg) (s : State) : Host.Outcome State Fault Refusal := .next (s.syncIn m)
def execPtpFollowUpReceived (m : FollowUpMsg) (s : State) : Host.Outcome State Fault Refusal := .next (s.followUpIn m)
def execPtpAnnounceReceived (m : AnnounceMsg) (s : State) : Host.Outcome State Fault Refusal := .next (s.ptpAnnounceIn m)
def execPtpPdelayReqReceived (m : PdelayReqMsg) (s : State) : Host.Outcome State Fault Refusal := .next (s.pdelayReqIn m)
def execPtpPdelayRespReceived (m : PdelayRespMsg) (s : State) : Host.Outcome State Fault Refusal :=
  .next (s.pdelayRespIn m)
def execPdelayTimeout (p : Fin 4) (s : State) : Host.Outcome State Fault Refusal := .next (s.pdelayTimeout p.val)
def execAnnounceReceiptTimeout (plane : Fin 2) (s : State) : Host.Outcome State Fault Refusal :=
  .next (s.announceTimeout plane.val)
/-- TS_REVERT (R293, row 2). -/
def execTsRevert (s : State) : Host.Outcome State Fault Refusal :=
  .next (if s.revertDue then s.tsLock (s.fld F.TIME_CFG_SEL_PREF) else s)
/-- TS_SLEW_COMPLETE (R292, R297): the difference to the source has come within 50 ns. -/
def execTsSlewComplete (s : State) : Host.Outcome State Fault Refusal :=
  .next (if s.time.following ∧ (s.domOffset (s.fld F.TIME_STATUS_SOURCE)).natAbs ≤ 50 then (s.tsSelect).tsSlewing else s)
def execHoldoverLimit (s : State) : Host.Outcome State Fault Refusal := .next s.holdLimit
def execAbOffsetAlarm (s : State) : Host.Outcome State Fault Refusal := .next s.abAlarm

end Sys2Proof.Machine
end

