-- ==== Sys2Proof/Machine/Effects.lean ====
section
/-! DEFINITION. What completed management writes do at the data-plane tick after them (R75, R76): register words and 64-bit
quantities, account commands (R84 to R86), closing of sessions (R101), and the entries that carry run-time writes to a
standby (Table 15.5). -/

namespace Sys2Proof.Machine

/-! ### Register words -/

/-- The slice and the sideband item of a channel register that is delivered to a slice (R272). -/
def sliceItem (addr : Nat) : Option (Nat × Nat) :=
  match regAt addr with
  | none => none
  | some (r, i, j) =>
    let w := addr % 4096 / 4 - (if r.w64 then j else 0)
    if r = R.DS_CTRL then some (6 + i, 0x7F)
    else if r.base / 2 ^ 24 = 0x08 ∧ r.n1 = 192 then
      (if (itemWords 0).contains w then some (i / 32, 128 * (i % 32) + w) else none)
    else if r.base / 2 ^ 24 = 0x0A ∧ r.n1 = 320 then
      (if (itemWords 6).contains w then some (6 + i / 32, 128 * (i % 32) + w) else none)
    else none

/-- The slice whose links carry the effect of this write; none for one that no slice waits for. -/
def Effect.slice (e : Effect) : Option Nat :=
  match e with
  | .word addr _ _ _ => (sliceItem addr).map (·.1)
  | .pair addr _ => (sliceItem addr).map (·.1)
  | _ => none

/-- Ticks for which the last of a frame's writes is held: one for each write to the same slice that waits before it (R272). -/
def State.sliceHold (s : State) (new : List Effect) : Nat :=
  new.foldl (fun n e =>
    if e.slice.isSome then max n ((s.mgmt.effects.filter fun x => x.slice == e.slice).length - 1) else n) 0

/-- A register word as a write leaves it: RW fields take the value, RO and reserved bits stay (R5, R6), each W1C bit written as 1
is cleared. A CH_LATCH bit whose condition still holds is set again at once. -/
def State.masked (s : State) (r : Reg) (i j v : Nat) : Nat :=
  let old := s.reg r i j
  let new := (old &&& (2 ^ 32 - 1 - r.rw - r.w1c)) ||| (v &&& r.rw) ||| (old &&& r.w1c &&& (2 ^ 32 - 1 - v % 2 ^ 32))
  if r = R.ACH_LATCH then new ||| s.reg R.ACH_STATUS i
  else if r = R.DCH_LATCH then new ||| s.reg R.DCH_STATUS i
  else new

/-- A configuration register of a CAN channel that R393 governs. -/
def canDeferred (r : Reg) : Bool := [R.CAN_CFG, R.CAN_NBT, R.CAN_DBT, R.CAN_TDC].contains r

/-- A write of entry (i, j) of a register takes effect. -/
def State.putWord (s : State) (r : Reg) (i j v : Nat) : State :=
  let m := s.masked r i j v
  if r = R.ACH_CFG then s.aCfgApply i m
  else if r = R.ACH_RATE then s.aRateApply i m
  else if r = R.HART_CFG then s.hCfgApply i m
  else if r = R.HART_Z_BASE then s.hZBaseApply i m
  else if r = R.DCH_CFG then s.dCfgApply i m
  else if r = R.DOM_CFG then s.domCfgApply i m
  else if r = R.TIME_CFG then s.timeCfgApply m
  else if canDeferred r then s.canCfgWrite i (r.base % 4096) (BitVec.ofNat 32 m)
  else s.setReg r m i j

/-- Deliver a channel register to its slice. -/
def State.deliverItem (s : State) (addr : Nat) : State :=
  match sliceItem addr with
  | some (sl, item) => s.slQueue sl item
  | none => s

/-- Journal a run-time register write for the standby, and keep the value for Table 15.8. (DEDUCED, log entry 96.) -/
def State.journalReg (s : State) (addr v : Nat) (keep : Bool) : State :=
  if s.pairState = psSingle then s
  else
    let s := s.journal 19 addr [BitVec.ofNat 64 v] [ledHead 7 addr, BitVec.ofNat 64 (v % 2 ^ 32)]
    if keep then { s with pair.runRegs := nset none s.pair.runRegs addr (some (BitVec.ofNat 32 v)) } else s

/-! ### Sessions (R101) -/

/-- A place of R99 is freed: claims end with it, and so do captures and held halves (R8, R97). -/
def State.dropSession (s : State) (n : Nat) : State :=
  let s := s.setSession n .init
  { s with mgmt.windows := nmapv .init (fun _ (w : Window) =>
             ⟨if w.holder = some n then none else w.holder, w.owed.filter (· != n)⟩) s.mgmt.windows,
           vault.capture := nset none s.vault.capture n none }

/-- A session closes for a reason (codes left open, DESIGN CHOICE, log entry 5): 83 by its client, 84 SESSION_CTRL, 85 module
start, 86 idle. -/
def State.closeSession (s : State) (n why : Nat) : State :=
  if (s.session n).opened then (s.ev 0x0407 [.b16 n, .b8 (Config.openCode why).toNat]).dropSession n else s

/-! ### Account commands (R84 to R86) -/

/-- Steps 1 to 3 of Table 4.4, at the tick after the RESET write. (DEDUCED, log entry 61.) -/
def State.acctReset (s : State) (a n : Nat) : State :=
  let st := s.acctState a
  if st ≠ aRunning ∧ st ≠ aFault then s
  else
    let s := (s.setAcctState a aResetting).setAcct a { s.acct a with bySession := n, pendingFault := 0 }
    let s := s.ev 0x0402 [.b8 a, .b16 n]
    if st = aFault then s
    else
      let s := (s.stopAccount a).fireRemove a 2 (·.account == a)
      { s with image.safeCmds := s.image.safeCmds ++ [SafeCmd.account a] }

/-- The last value that the image gives an address; none where it writes none. -/
def State.imgAt (s : State) (addr : Nat) : Option W32 :=
  s.start.records.foldl (fun b x => x.targets.foldl (fun b (p : Nat × W32) => if p.1 = addr then some p.2 else b) b) none

/-- The key of account a as the image set it. -/
def State.imgKey (s : State) (a : Nat) : List W32 := (List.range 8).map fun j => (s.imgAt (R.ACCT_KEY.addr a j)).getD 0

/-- Step 5 of Table 4.4 for one register: its RW fields take the image's values again. -/
def State.restoreReg (s : State) (addr : Nat) : State :=
  match regAt addr with
  | none => s
  | some (r, i, j) =>
    let img := (nget (resetWord addr) s.start.imgRegs addr).toNat &&& r.rw
    if s.reg r i j &&& r.rw = img then s else ((s.putWord r i j img).deliverItem addr).journalReg addr img true

/-- Step 4 of Table 4.4 for the windows of the account's blocks: each claim ends, and its holder owes a SEQ (R97). -/
def State.endClaims (s : State) (a : Nat) : State :=
  { s with mgmt.windows := nmapv .init (fun addr (w : Window) =>
      match w.holder with
      | some n => if (s.blockOwner addr).getD 0 = a then ⟨none, n :: w.owed⟩ else w
      | none => w) s.mgmt.windows }

/-- Step 5 of Table 4.4 for task k: data memory as the image set it, and the counts that last until an account reset. -/
def State.resetTask (s : State) (k : Nat) : State :=
  let mine (key : Nat) : Bool := key / 65536 % 64 == k
  let s := { s with image.data := s.image.data.filter fun x => !mine x.1,
                    image.before := s.image.before.filter fun x => !mine x.1,
                    image.dirty := s.image.dirty.filter fun x => !mine x,
                    image.dataWait := s.image.dataWait.filter fun x => x.1 != k }
  let s := s.dataLoad k
  let s := foldState (fun s (x : Nat × W64) => s.journal 20 x.1 [x.2] [ledHead 6 (k * 2 ^ 16 + x.1 % 2 ^ 14), x.2])
    (s.image.dataImg.filter fun x => x.1 / 65536 == k) s
  let s := (s.setFld F.TASK_COUNTS_OVERRUNS 0 k).setReg R.TASK_MAX 0 k
  (s.setFld F.TASK_STATUS_CONSEC 0 k).setReg R.PROG_CYCLES_MAX 0 k

/-- ACCT_RESET_COMPLETE: steps 4 to 6 of Table 4.4. (DEDUCED, log entry 127.) (DESIGN CHOICE, log entry 128.) -/
def State.acctResetDone (s : State) (a : Nat) : State :=
  if s.acctState a ≠ aResetting then s
  else
    let s := foldState (fun s t => s.setTill a t .init) (List.range 16) s
    let s := foldState (fun s g => s.hForget a g) (List.range 192) s
    let s := foldState State.canForget ((List.range 4).filter fun n => s.canOwner n == a) s
    let s := ((s.quarantineAcct a).endClaims a).clearForcesOf a 3 false
    let s := foldState State.resetTask (s.tasksOf a) s
    let s := foldState State.restoreReg
      (((s.regs.map (·.1)) ++ (s.start.imgRegs.map (·.1))).dedup.filter fun x => s.blockOwner x == some a) s
    let s := s.setFld F.FIRE_USED_PEAK 0 a
    let fault := (s.acct a).pendingFault
    let s := s.setAcct a { s.acct a with pendingFault := 0, key := s.imgKey a, newKey := [] }
    let s := s.bump F.ACCT_STATUS_RESETS a
    if fault ≠ 0 then (s.setAcctState a aRunning).enterFault a fault
    else if !s.inControl then s.setAcctState a aStandby
    else ((s.setAcctState a aRunning).enableTasks a).ev 0x0403

/-! ### Effects -/

/-- A 32-bit register word written by session n, acting for account a, takes effect. -/
def State.applyWord (s : State) (addr : Nat) (v : W32) (n : Nat) : State :=
  match regAt addr with
  | none => s
  | some (r, i, j) =>
    let x := v.toNat
    if r = R.SYS_RESTART then s.sysRestart
    else if r = R.SESSION_CTRL then (if bit x 0 then s.closeSession i 84 else s)
    else if r = R.ACCT_CTRL then (if bits x 3 0 = 1 then s.acctReset i n else s.enterFault i 7)
    else
      let s :=
        if r = R.ACCT_KEY then s.keyWrite i j v
        else if r = R.DCH_CNT_CTRL then s.dCount i (bits x 1 0 == 2)
        else if r = R.DS_CTRL then (if bit x 0 then s.dsRestore i else s)
        else s.putWord r i j x
      let s := s.deliverItem addr
      if moduleLocal r then s else s.journalReg addr x (r.rw != 0)

/-- A 64-bit quantity takes effect, by the address of its low word (R8). -/
def State.applyPair (s : State) (addr : Nat) (v : W64) : State :=
  match regAt addr with
  | none => s
  | some (r, i, _) =>
    let s := if r = R.TIME_SET then s.timeSetApply v.toNat
      else if r.w1c ≠ 0 then s.setReg64 r ((BitVec.ofNat 64 (s.reg64 r i)) &&& ~~~ v).toNat i
      else s.setReg64 r v.toNat i
    let s := s.deliverItem addr
    if moduleLocal r then s else (s.journalReg addr (v.toNat % 2 ^ 32) true).journalReg (addr + 4) (v.toNat / 2 ^ 32) true

/-- A data word of task k takes effect: after the END of an execution in progress (R141). -/
def State.applyData (s : State) (k w : Nat) (v : W64) : State :=
  if (s.exec? k).isSome then { s with image.dataWait := s.image.dataWait ++ [(k, w, v)] } else s.dataWrite k w v

/-! ### Commands -/

def execAcctResetComplete (a : Fin 8) (s : State) : Host.Outcome State Fault Refusal := .next (s.acctResetDone a.val)

end Sys2Proof.Machine
end

