-- ==== Sys2Proof/Machine/Pair.lean ====
section
/-! DEFINITION. Pairs and handover (chapter 15): ledger-link frames, HELLO and role decision, the journal with its copy and its
acknowledgement, its application on the standby, takeover, planned handover, return policy. -/

namespace Sys2Proof.Machine

/-! ### Pair TL (R360) -/

/-- A pair TL in ns as this module's own TL. -/
def State.ownNs (s : State) (v : Int) : Int := v - s.tlShift

/-- A timestamp of the ledger as this module's. -/
def State.ownStamp (s : State) (v : W64) : W64 :=
  if v.getLsbD 63 then tlStamp (s.ownNs ((v.toNat % 2 ^ 63 : Nat) : Int)).toNat else v

/-! ### HELLO (R364, R356) and role (R362) -/

/-- Ledger-link versions of issue B: version 2 alone. -/
abbrev llVersions : Nat := 0b10

/-- The words of a HELLO. -/
def State.helloWords (s : State) : List W64 :=
  [BitVec.ofNat 64 llVersions,
   BitVec.ofNat 64 (s.addr * 2 ^ 48 + s.station * 2 ^ 32 + s.fld F.PAIR_CFG_PEER * 2 ^ 16 +
     s.fld F.BASEPLATE_STATUS_PAIR_POS * 2 ^ 8 + s.fld F.PAIR_CFG_HOME * 2 ^ 7 + s.fld F.SAFE_STATUS_RETURN * 2 ^ 6 + s.pairState),
   BitVec.ofNat 64 (s.reg R.PAIR_LAYOUT),
   BitVec.ofNat 64 ((s.start.head.map (·.gen)).getD 0),
   s.pairNs s.tl]

/-- The peer's HELLO meets R356. -/
def State.peerAgrees (s : State) : Bool :=
  let w := s.pair.peerId.toNat
  bits w 43 32 == s.station && bit w 7 == s.flag F.PAIR_CFG_HOME && bits w 59 48 == s.fld F.PAIR_CFG_PEER &&
    bits w 27 16 == s.addr && s.station != s.addr && s.station != bits w 59 48

/-- Table 15.2: the state decided and the row. (DEDUCED, log entry 97.) -/
def State.decideRole (s : State) : Nat × Nat :=
  let up := s.llState == llUp
  let p := s.peerState
  if up && !s.peerAgrees then (psIsolated, 1)
  else if up && psIsActive p then (psResync, 2)
  else if up && (p == psStarting || p == psIsolated) then (if s.atHome then psAlone else psResync, 3)
  else if up && (p == psResync || psInSync p) then (psAlone, 4)
  else if !s.flag F.PAIR_STATUS_PEER_PRESENT then (psAlone, 5)
  else (psIsolated, 6)

/-- What a standby holds of a resync is dropped. -/
def State.dropSync (s : State) : State :=
  { s with pair.resyncing := false, pair.inq := [], pair.lastTick := none, pair.copied := false }

/-- Become active from the module's own state, with the image as at step 13 of Table 3.1 and every task released as after a start
(R375, R362): before the end of the start, the start itself goes on. -/
def State.goAlone (s : State) : State :=
  let s := State.dropSync { (s.setPair psAlone).setFld F.PAIR_STATUS_RECLAIM_PENDING 0 with pair.cause := none }
  let s := s.canBegin
  if s.phase ≠ .running then s
  else
    let s := { s with image.sigs := s.image.sigImg, image.forces := [], image.fire := [], image.fireIn := [],
                      image.data := [], image.before := [], image.dirty := [], image.dataWait := [] }
    let s := foldState State.dataLoad ((List.range 64).filter fun k => s.flag F.TASK_CFG_PRESENT k) s
    let s := s.buildImage
    let s := foldState (fun s a => if s.acctState a = aStandby then s.setAcctState a aStarting else s) acctOrder s
    ((s.firstRelease).announce).supervise

/-- The result of Table 15.2 takes effect, with event 0x0F01. -/
def State.roleTo (s : State) (st row : Nat) : State :=
  let s := s.ev 0x0F01 [.b8 st, .b8 row]
  if st = psAlone then s.goAlone
  else
    let s := s.setPair st
    if st = psResync ∧ s.phase = .running ∧ s.stepDone 13 ∧ !s.stepDone 14 then s.startDone else s

/-- ROLE_DECISION (R362): a seated peer's link is awaited for up to 5 s after SETTLE_MS. -/
def State.roleDecision (s : State) : State :=
  let settled := s.start.settleFrom + 1000 * (s.start.head.map (·.settleMs)).getD 0
  let waits := s.llState != llUp && s.flag F.PAIR_STATUS_PEER_PRESENT && decide (s.tick < settled + 5000000)
  if s.phase ≠ .starting ∨ s.pairState ≠ psStarting ∨ !nget false s.start.steps settleKey ∨ waits then s
  else
    let (st, row) := s.decideRole
    (s.roleTo st row).markStep 12

/-- The link has come UP: policy (R383), agreement (R356), and a new decision for an ISOLATED module. -/
def State.pairUp (s : State) : State :=
  let own := s.flag F.SAFE_STATUS_RETURN
  let theirs := bit s.pair.peerId.toNat 6
  let s := s.setFld F.PAIR_STATUS_POLICY (b2n (own || theirs))
  let s := if own != theirs then s.ev 0x0F0F else s
  if !s.peerAgrees then
    let s := s.ev 0x0F05
    if s.pairState = psStarting ∨ s.pairState = psIsolated then s else (s.pairCease psIsolated).dropSync
  else if s.pairState = psIsolated then
    let (st, row) := s.decideRole
    s.roleTo st row
  else s

/-- An accepted HELLO. -/
def State.helloIn (s : State) (ws : List W64) : State :=
  let b := (ws.headD 0).toNat % 256
  let n := if b = s.pair.hello then s.pair.hellos + 1 else 1
  let s := { s with pair.hello := b, pair.hellos := n, pair.peerId := ws.getD 1 0, pair.peerGen := ws.getD 3 0 }
  let s := s.setReg R.PAIR_PEER_LAYOUT ((ws.getD 2 0).toNat % 2 ^ 32)
  if s.llState ≠ llHello ∨ n < 2 then s
  else if b &&& llVersions = 0 then (s.setFld F.LL_STATUS_STATE llRefused).ev 0x0F04 [.b8 b]
  else
    let s := (s.setFld F.LL_STATUS_STATE llUp).setFld F.LL_STATUS_VERSION 2
    (s.ev 0x0F02 [.b8 2, .b16 (bits s.pair.peerId.toNat 59 48)]).pairUp

/-! ### Sync (R368, R371) -/

/-- Sync is lost: 0 lag, 1 backlog, 2 link. -/
def State.syncLost (s : State) (why : Nat) : State :=
  (s.bump F.PAIR_COUNTS_1_SYNC_LOSSES).ev 0x0F08 [.b8 (Config.openCode (67 + why)).toNat]

/-- The standby's lag in µs. -/
def State.lagUs (s : State) : Nat :=
  match s.pair.lastTick with
  | some t => (((s.tl : Int) + s.tlShift - t) / 1000).toNat
  | none => 0

/-- Resync begins once the link is UP and the module is in RESYNC. (DEDUCED, log entry 100.) -/
def State.resyncBegin (s : State) : State :=
  if s.pairState ≠ psResync ∨ s.llState ≠ llUp ∨ s.pair.resyncing then s
  else
    let mapped := s.reg R.PAIR_LAYOUT != s.reg R.PAIR_PEER_LAYOUT
    let s := { s with image.fire := [], image.fireIn := [], image.forces := [] }
    let s := { s with pair.resyncing := true, pair.resyncAt := s.tick, pair.expect := 0, pair.inq := [], pair.lastTick := none,
                      pair.copied := false, pair.mapped := mapped, pair.sigsTaken := [], pair.got := [] }
    let s := (s.setReg R.PAIR_COPY 0).bump F.PAIR_COUNTS_1_RESYNCS
    s.ev 0x0F06 [.b8 (Config.openCode (72 + b2n mapped)).toNat]

/-- Show the lag; the end of the copy with a lag of at most 100 µs is sync. -/
def State.lagShow (s : State) : State :=
  let lag := min s.lagUs 0xFFFF
  let s := (s.setFld F.PAIR_LAG_LAG_US lag).peak F.PAIR_LAG_PEAK_US lag
  if s.pairState = psResync ∧ s.pair.copied ∧ lag ≤ 100 then
    let s := s.setPair (if s.pair.mapped then psMapped else psStandby)
    (State.setFld { s with pair.syncAt := s.tick } F.PAIR_LAG_PEAK_US lag).ev 0x0F07 [.b32 ((s.tick - s.pair.resyncAt) / 1000)]
  else s

/-- The standby's part of a tick: lag, and loss of sync beyond 500 µs. -/
def State.lagTick (s : State) : State :=
  if s.pair.lastTick.isNone ∨ !s.pair.resyncing then s
  else
    let s := s.lagShow
    if psInSync s.pairState && decide (500 < s.lagUs) then
      ((s.syncLost 0).setPair psResync |>.setFld F.PAIR_STATUS_RECLAIM_PENDING 0).dropSync
    else s

/-! ### STATE items (Table 15.7) -/

/-- Key and header content of an item. -/
def itemKey (item index : Nat) : Nat := item * 2 ^ 52 + index

/-- Every STATE item as it stands. (DEDUCED, log entry 95.) -/
def State.stateItems (s : State) : List (Nat × W64) :=
  let tasks := (List.range 64).filter fun k => s.flag F.TASK_CFG_PRESENT k
  let rel := tasks.filterMap fun k => (s.task k).lastRel.map fun r => (itemKey 1 k, s.pairNs (1000 * r))
  let ends := tasks.map fun k =>
    (itemKey 2 k, BitVec.ofNat 64 (b2n (s.exec? k).isNone * 2 ^ 32 + s.fld F.TASK_STATUS_CONSEC k * 2 ^ 27 +
      s.fld F.TASK_STATUS_STATE k * 2 ^ 24))
  let grids := tasks.map fun k => (itemKey 3 k, s.pairNs (s.task k).grid)
  let accts := (List.range 8).map fun a =>
    (itemKey 4 a, BitVec.ofNat 64 (s.fld F.ACCT_STATUS_CAUSE a * 2 ^ 8 + s.acctState a))
  let tags := s.net.tags.map fun ((t, x) : Nat × Tag) =>
    (itemKey 5 t, BitVec.ofNat 64 (x.st % 4 * 2 ^ 62 + x.gen % 4 * 2 ^ 60 + (s.pairNs (1000 * x.deadline)).toNat % 2 ^ 60))
  let ident := [(itemKey 6 0, BitVec.ofNat 64 (s.srcInst s.station)), (itemKey 6 1, BitVec.ofNat 64 s.pair.seqNr)] ++
    ((List.range 256).filter fun n => nget false s.net.pubSent n).map fun n =>
      (itemKey 6 (2 + n), BitVec.ofNat 64 (s.reg R.PUB_SEQ n))
  let tx := ((List.range 64).filter fun c => s.fld F.RZT_TX_STATUS_STATE c == 1).map fun c =>
    (itemKey 7 c, BitVec.ofNat 64 (s.fld F.RZT_TX_STATUS_VERSION c * 2 ^ 52 + s.fld F.RZT_TX_STATUS_DEST c * 2 ^ 40 +
      s.fld F.RZT_TX_STATUS_WAITING c * 2 ^ 32 + s.reg R.RZT_TX_SEQ c))
  let rx := ((List.range 64).filter fun c => s.flag F.RZT_RX_CFG_EN c).map fun c =>
    (itemKey 8 c, BitVec.ofNat 64 (s.fld F.RZT_RX_STATUS_VERSION c * 2 ^ 36 + s.rzState c * 2 ^ 32 + s.reg R.RZT_RX_SEQ c))
  let hart := ((List.range 192).filter fun g => (s.hartOf g).known).map fun g =>
    (itemKey 9 g, BitVec.ofNat 64 (s.fld F.HART_DEVID_DEVICE_ID g * 2 ^ 16 + s.fld F.HART_ID_EXP_TYPE g))
  rel ++ ends ++ grids ++ accts ++ tags ++ ident ++ tx ++ rx ++ hart

/-! ### The active side: journal and copy (R367, R371) -/

/-- The journal is sent from position 0: copied with every region, or without (the incoming module of a window). -/
def State.streamBegin (s : State) (copy : Bool) : State :=
  let s := if copy then s.setReg R.PAIR_COPY 0 else s
  { s with pair.sending := true, pair.base := 0, pair.stream := [], pair.sent := 0, pair.queue := [],
           pair.taken := s.image.journal.length, pair.marks := [], pair.copy := if copy then some (1, 0) else none,
           pair.items := s.stateItems.foldl (fun m x => nset none m x.1 (some x.2)) [] }

def State.streamEnd (s : State) : State :=
  { s with pair.sending := false, pair.stream := [], pair.queue := [], pair.marks := [], pair.copy := none }

/-- The entries of a tick: TICK, what the journal has gained, and the STATE items that have changed. -/
def State.collect (s : State) : State :=
  let new := (s.image.journal.take (s.image.journal.length - s.pair.taken)).reverse.map (·.led)
  let changed := s.stateItems.filter fun x => nget none s.pair.items x.1 != some x.2
  { s with pair.queue := s.pair.queue ++ [[ledHead 1 0, s.pairNs s.tl]] ++ new ++ changed.map fun x => [ledHead 9 x.1, x.2],
           pair.taken := s.image.journal.length,
           pair.items := changed.foldl (fun m x => nset none m x.1 (some x.2)) s.pair.items }

/-- Whole entries that fit in a number of words, and the rest. -/
def takeEntries : Nat → List (List W64) → List W64 × List (List W64)
  | _, [] => ([], [])
  | room, e :: es =>
    if e.length ≤ room then
      let (ws, rest) := takeEntries (room - e.length) es
      (e ++ ws, rest)
    else ([], e :: es)

/-- Words of task k's data region. -/
def State.dataSize (s : State) (k : Nat) : Nat :=
  if s.flag F.TASK_CFG_PRESENT k then 64 * s.fld F.PROG_DATA_DATA_UNITS k else 0

/-- Signal g as the ledger carries its record. -/
def State.ledWords (s : State) (g : Nat) : List W64 := (s.ledRecord g).tail

/-- Insert into a list ordered by key. -/
def keyInsert {α : Type} (x : Nat × α) : List (Nat × α) → List (Nat × α)
  | [] => [x]
  | y :: ys => if x.1 ≤ y.1 then x :: y :: ys else y :: keyInsert x ys

/-- Regions 3 to 6 of Table 15.8 as records by a key: SEQ, signal, address, item. -/
def State.copyRecords (s : State) (region : Nat) : List (Nat × List W64) :=
  match region with
  | 3 => (s.image.fire.map fun f => (f.seq, (s.ledFire f).tail)).foldr keyInsert []
  | 4 => s.image.forces.filterMap fun ((g, f) : Nat × Option Force) => f.map fun f => (g, forceWords g f)
  | 5 => s.pair.runRegs.filterMap fun ((a, v) : Nat × Option W32) => v.map fun v => (a, [BitVec.ofNat 64 a, v.setWidth 64])
  | 6 => (s.stateItems.map fun x => (x.1, [BitVec.ofNat 64 x.1, x.2])).foldr keyInsert []
  | _ => []

/-- The next run of a region within a number of words: its word offset, its words, and where the copy goes on in the region; none
when the region holds no more. -/
def State.copyRun (s : State) (room region pos : Nat) : Option (Nat × List W64 × Nat) :=
  match region with
  | 1 =>
    let total := match s.image.sigs.getLast? with | some (g, _) => g + 1 | none => 0
    let n := min (room / 8) (total - pos)
    if total ≤ pos then none else some (8 * pos, (List.range n).flatMap fun i => s.ledWords (pos + i), pos + n)
  | 2 =>
    match (List.range 64).find? fun k => decide (pos < 2 ^ 14 * k + s.dataSize k) with
    | some k =>
      let a := max pos (2 ^ 14 * k)
      let n := min room (2 ^ 14 * k + s.dataSize k - a)
      some (a, (List.range n).map fun i => nget 0 s.image.data (65536 * k + (a + i) % 2 ^ 14), a + n)
    | none => none
  | _ =>
    let rest := (s.copyRecords region).filter fun x => decide (pos ≤ x.1)
    match rest with
    | [] => none
    | x :: _ =>
      let take := rest.take (room / (if region = 3 ∨ region = 4 then 4 else 2))
      some (x.1, take.flatMap (·.2), ((take.getLast?).map (·.1 + 1)).getD (x.1 + 1))

/-- The next COPY entry in the order of Table 15.8. Its second word, whose content Table 15.6 leaves open, is 1 in the last entry
of a copy and 0 before (DESIGN CHOICE, log entry 55). -/
def State.copyNext (s : State) (room : Nat) : Nat → Nat → Nat → Option (List W64 × Option (Nat × Nat))
  | 0, _, _ => none
  | fuel + 1, region, pos =>
    match s.copyRun room region pos with
    | none => if region = 6 then some ([ledHead 0xA (6 * 2 ^ 56), 1], none) else s.copyNext room fuel (region + 1) 0
    | some (off, ws, next) =>
      let last := region == 6 && (s.copyRun room region next).isNone
      let head := ledHead 0xA (region * 2 ^ 56 + ws.length * 2 ^ 40 + off % 2 ^ 40)
      some (head :: BitVec.ofNat 64 (b2n last) :: ws, if last then none else some (region, next))

/-- The journal words of this tick's frame: what a resend has brought back, else whole entries and, while copying, at least 16
words for the copy. -/
def State.streamWords (s : State) : List W64 × State :=
  let back := s.pair.stream.drop (s.pair.sent - s.pair.base)
  if back ≠ [] then
    let ws := back.take 71
    (ws, { s with pair.sent := s.pair.sent + ws.length })
  else
    let (ws, rest) := takeEntries (if s.pair.copy.isSome then 55 else 71) s.pair.queue
    let (cs, copy) := match s.pair.copy with
      | some (region, pos) => match s.copyNext (69 - ws.length) 7 region pos with
        | some (cs, next) => (cs, next)
        | none => ([], none)
      | none => ([], none)
    let ws := ws ++ cs
    let sent := s.pair.sent + ws.length
    (ws, { s.setReg R.PAIR_COPY (s.reg R.PAIR_COPY + (cs.length - 2)) with
      pair.stream := s.pair.stream ++ ws, pair.sent := sent, pair.queue := rest, pair.copy := copy,
      pair.marks := s.pair.marks ++ [(sent, s.tick)] })

/-- The active module's view of the lag: the age of the oldest tick whose words are not acknowledged. -/
def State.sendLag (s : State) : Nat :=
  match s.pair.marks with | (_, t) :: _ => s.tick - t | [] => 0

/-- Words of the journal that are not acknowledged. -/
def State.backlog (s : State) : Nat := s.pair.stream.length + (s.pair.queue.map List.length).sum

/-- The active side's check of R368. -/
def State.backlogCheck (s : State) : State :=
  if s.pairState ≠ psActive ∨ s.pair.winOpen then s
  else if 500 < s.sendLag then ((s.syncLost 0).setPair psAlone).streamEnd
  else if 2097152 < s.backlog then ((s.syncLost 1).setPair psAlone).streamEnd
  else s

/-- A standby's position (R367): what lies before it is acknowledged; a position before the stream's base is a new resync. -/
def State.ackIn (s : State) (p : Nat) : State :=
  if p < s.pair.base then s.streamBegin true
  else if s.pair.base + s.pair.stream.length < p then s
  else
    { s with pair.stream := s.pair.stream.drop (p - s.pair.base), pair.base := p, pair.sent := max p s.pair.sent,
             pair.marks := s.pair.marks.dropWhile fun m => decide (m.1 ≤ p) }

/-- JOURNAL_RESEND (R367). -/
def State.journalResend (s : State) : State :=
  if !s.pair.sending ∨ s.pair.sent = s.pair.base then s
  else ({ s with pair.sent := s.pair.base }).bump F.LL_COUNTS_RESENDS

/-! ### The standby side: applying entries (R368, R372) -/

/-- Under a mapping, a signal or a task's data that is not taken is skipped (R372). -/
def State.sigTaken (s : State) (g : Nat) : Bool := !s.pair.mapped || nget false s.pair.sigsTaken g
def State.taskTaken (s : State) (k : Nat) : Bool := !s.pair.mapped || Config.sameTask k

/-- The incoming module of a window has changed signal g at or after H (R379). -/
def State.ownChange (s : State) (g : Nat) : Bool :=
  s.pair.winOpen && match s.pair.window with
    | some h => s.image.journal.any fun e => decide (h ≤ e.tick) && e.subject == g && decide (e.kind ≤ 7)
    | none => false

/-- The TL of this module at the tick of the entries being applied. -/
def State.entryTl (s : State) : Nat := (s.ownNs (s.pair.lastTick.getD 0)).toNat

/-- A record of the ledger enters the image; what a producer that measures on the active module alone delivered last is known by
it. -/
def State.recordIn (s : State) (g : Nat) (ws : List W64) : State :=
  let r := (List.range 8).foldl (fun (r : Sig) w => r.setWord w (ws.getD w 0)) Sig.init
  let r := { r with stamp := s.ownStamp r.stamp, upd := (s.ownNs (ws.getD 2 0).toInt).toNat, prodRange := (s.sig g).prodRange }
  let old := (s.sig g).safe
  let s := s.setSig g r
  let s := if r.safe = old then s else s.slSafe g
  if [kNetSub, kCan, kHart].contains r.kind then
    { s with image.last := nset .init s.image.last (65536 * r.kind + r.index) ⟨r.value, r.quality, r.stamp⟩ }
  else s

/-- A SIGNAL entry. A count or position goes to its counter as well (R264); a value of a producer that does not measure on both
modules becomes its last delivery. -/
def State.signalIn (s : State) (head v stamp : W64) : State :=
  let g := bits head.toNat 16 0
  let order := bits head.toNat 59 56
  let c : Copy := ⟨v, BitVec.ofNat 8 (bits head.toNat 55 48), s.ownStamp stamp⟩
  if !s.sigTaken g ∨ s.ownChange g then s
  else
    let r := s.sig g
    let r := if [1, 3, 4, 5].contains order then { r with upd := s.entryTl } else r
    let s := match s.force? g, order == 7 with
      | some f, false => (s.setForce g (some { f with unforced := c })).setSig g r
      | _, _ => s.setSig g { r with value := c.value, quality := c.quality, stamp := c.stamp }
    if order ≠ 1 then s
    else if r.kind = kChannel then
      let n := r.index / 8 - 192
      if 1536 ≤ r.index ∧ r.index % 8 = 1 ∧ (s.dMode n = dEdge ∨ s.dMode n = dQuad) then s.dReplay n v (s.entryTl / 1000) else s
    else { s with image.last := nset .init s.image.last (65536 * r.kind + r.index) c }

/-- The entry of Table 7.1 in four words. -/
def State.fireOf (s : State) (ws : List W64) : Fire :=
  let c := (ws.getD 2 0).toNat
  let tl := bit c 8
  let t := ws.getD 0 0
  { time := if tl then BitVec.ofInt 64 (s.ownNs t.toInt) else t, value := ws.getD 1 0, late := bits c 63 56 == 5,
    target := bits c 40 24, task := bits c 19 16, account := bits c 12 10, action := bit c 9, tl := tl,
    quality := BitVec.ofNat 8 c, seq := (ws.getD 3 0).toNat }

/-- An entry enters the schedule, once. -/
def State.fireIn' (s : State) (ws : List W64) : State :=
  let f := s.fireOf ws
  if s.image.fire.any (·.seq == f.seq) ∨ (!f.action && !s.sigTaken f.target) then s
  else
    let s := { s with image.fire := s.image.fire ++ [f], image.fireSeq := max s.image.fireSeq (f.seq + 1) }
    s.firePeaks f.account

/-- A FIRE_END entry: an ACTION entry that has been applied there is due here as well. -/
def State.fireEndIn (s : State) (head : W64) : State :=
  let mine (f : Fire) : Bool := f.seq == bits head.toNat 31 0
  let due := s.image.fire.filter fun f => mine f && f.action && bits head.toNat 33 32 == 1
  { s with image.fire := s.image.fire.filter fun f => !mine f, image.fired := s.image.fired ++ due }

/-- A FORCE entry; the SIGNAL entry after it brings the record. -/
def State.forceIn (s : State) (head v : W64) : State :=
  let g := bits head.toNat 16 0
  if !s.sigTaken g then s
  else if bit head.toNat 17 then
    let r := s.sig g
    let old : Copy := match s.force? g with | some f => f.unforced | none => ⟨r.value, r.quality, r.stamp⟩
    s.setForce g (some ⟨v, old, s.stampNs s.entryTl, r.owner⟩)
  else s.setForce g none

/-- A force of region 4: its four words leave the quality and timestamp of the unforced value open. (DESIGN CHOICE, log entry
106.) -/
def State.forceCopy (s : State) (ws : List W64) : State :=
  let g := (ws.getD 0 0).toNat
  let q := (Config.freeValue s.free).setWidth 8
  let t := Config.freeValue (s.free + 1)
  if !s.sigTaken g then s
  else ((s.draw).draw).setForce g (some ⟨ws.getD 1 0, ⟨ws.getD 2 0, q, t⟩, s.ownStamp (ws.getD 3 0), (s.sig g).owner⟩)

/-- A run-time register write (R76): none under a mapping. -/
def State.regIn (s : State) (addr : Nat) (v : W32) : State :=
  if s.pair.mapped then s
  else
    let s := (s.applyWord addr v 0).dRecount addr (s.entryTl / 1000)
    if addr = R.TIME_SET.addr 0 1 then { s with time.preset := true } else s

/-- A STATE item: kept, and acted on where the standby follows it at once; under a mapping the release and CONSEC of a task that
is not taken are skipped (R372). -/
def State.itemIn (s : State) (key : Nat) (v : W64) : State :=
  let item := key / 2 ^ 52
  let i := key % 2 ^ 52
  let n := v.toNat
  let s := { s with pair.got := nset none s.pair.got key (some v) }
  match item with
  | 1 => if s.taskTaken i then s.setTask i { s.task i with lastRel := some (s.ownNs v.toInt / 1000) } else s
  | 2 =>
    let s := if s.taskTaken i then s.setFld F.TASK_STATUS_CONSEC (bits n 31 27) i else s
    if bit n 32 then { s with pair.endWait := s.pair.endWait.filter (· != i) } else s
  | 3 => State.setTask { s with net.grid := s.ownNs v.toInt } i { s.task i with grid := s.ownNs v.toInt }
  | 9 => ((s.setFld F.HART_ID_EXP_TYPE (bits n 15 0) i).setFld F.HART_DEVID_DEVICE_ID (bits n 39 16) i).setHart i
      { s.hartOf i with known := true, identDue := false }
  | _ => s

/-- Apply f to the successive pieces of n words. -/
def pieces (f : State → Nat → List W64 → State) (n : Nat) : Nat → Nat → List W64 → State → State
  | 0, _, _, s => s
  | fuel + 1, i, ws, s => if ws = [] then s else pieces f n fuel (i + 1) (ws.drop n) (f s i (ws.take n))

/-- A COPY entry of a region at a word offset (Table 15.8). -/
def State.copyIn (s : State) (region off : Nat) (ws : List W64) : State :=
  let fuel := ws.length
  match region with
  | 1 => pieces (fun s i r =>
      let g := off / 8 + i
      let c := (r.getD 7 0).toNat
      let x := s.sig g
      if s.pair.mapped then
        if x != .init && x.kind == bits c 19 16 && x.index == bits c 35 20 && x.owner == bits c 14 12 then
          State.recordIn { s with pair.sigsTaken := nset false s.pair.sigsTaken g true } g r
        else s
      else s.recordIn g r) 8 fuel 0 ws s
  | 2 => pieces (fun s i r =>
      let a := off + i
      if s.taskTaken (a / 2 ^ 14) then s.dataPut (a / 2 ^ 14) (a % 2 ^ 14) (r.headD 0) else s) 1 fuel 0 ws s
  | 3 => pieces (fun s _ r => s.fireIn' r) 4 fuel 0 ws s
  | 4 => pieces (fun s _ r => s.forceCopy r) 4 fuel 0 ws s
  | 5 => pieces (fun s _ r => s.regIn (r.headD 0).toNat ((r.getD 1 0).setWidth 32)) 2 fuel 0 ws s
  | 6 => pieces (fun s _ r => s.itemIn (r.headD 0).toNat (r.getD 1 0)) 2 fuel 0 ws s
  | _ => s

/-- Words of the entry that a header begins (Table 15.6). -/
def entryLen (head : W64) : Nat :=
  match bits head.toNat 63 60 with
  | 1 => 2 | 2 => 3 | 3 => 9 | 4 => 5 | 5 => 1 | 6 => 2 | 7 => 2 | 8 => 2 | 9 => 2
  | 0xA => 2 + bits head.toNat 55 40
  | _ => 1

/-- A TICK entry; the first of a resync sets the shift (R360): age is the ticks since the frame's tick began at the sender. -/
def State.tickIn (s : State) (v : Int) (age : Nat) : State :=
  let s := if s.pairState = psResync ∧ s.pair.lastTick.isNone then
      s.setReg64 R.PAIR_TL_SHIFT (ofSint 64 ((v + 1000 * age - s.tl) / 1000 * 1000)) else s
  State.lagShow { s with pair.lastTick := some v }

/-- Apply one entry. -/
def State.entryIn (s : State) (age : Nat) (ws : List W64) : State :=
  let head := ws.headD 0
  let h := head.toNat
  let v := ws.getD 1 0
  match bits h 63 60 with
  | 1 => s.tickIn v.toInt age
  | 2 => s.signalIn head v (ws.getD 2 0)
  | 3 => if s.sigTaken (bits h 16 0) ∧ !s.ownChange (bits h 16 0) then s.recordIn (bits h 16 0) ws.tail else s
  | 4 => s.fireIn' ws.tail
  | 5 => s.fireEndIn head
  | 6 => if s.taskTaken (bits h 21 16) then s.dataPut (bits h 21 16) (bits h 13 0) v else s
  | 7 => s.regIn (bits h 31 0) (v.setWidth 32)
  | 8 => s.forceIn head v
  | 9 => s.itemIn (bits h 59 0) v
  | 0xA =>
    let s := s.setReg R.PAIR_COPY (min (s.reg R.PAIR_COPY + bits h 55 40) (2 ^ 32 - 1))
    let s := s.copyIn (bits h 59 56) (bits h 39 0) (ws.drop 2)
    if v = 1 then State.lagShow { s with pair.copied := true } else s
  | _ => s

/-- Apply every whole entry that has been accepted; a standby's own journal gains nothing. (DEDUCED, log entry 99.) -/
def State.entriesIn (s : State) (age : Nat) : Nat → State
  | 0 => s
  | fuel + 1 =>
    match s.pair.inq with
    | [] => s
    | head :: _ =>
      let n := entryLen head
      if s.pair.inq.length < n then s
      else
        let s' := State.entryIn { s with pair.inq := s.pair.inq.drop n } age (s.pair.inq.take n)
        State.entriesIn { s' with image.journal := s.image.journal } age fuel

/-- A DATA frame of an active module: words in stream order from the position expected (R367). -/
def State.streamIn (s : State) (pos : Nat) (ws : List W64) (age : Nat) : State :=
  let new := if pos ≤ s.pair.expect then ws.drop (s.pair.expect - pos) else []
  let s := { s with pair.expect := s.pair.expect + new.length, pair.inq := s.pair.inq ++ new }
  s.entriesIn age s.pair.inq.length

/-! ### Receiving (R363 to R365) -/

/-- The receiver's lock. -/
def State.llLock (s : State) (good spaced : Bool) : State :=
  let p := s.pair
  if p.locked then
    if good && spaced then { s with pair.bad := 0 }
    else if p.bad + 1 < 4 then { s with pair.bad := p.bad + 1 }
    else
      let s := { s with pair.locked := false, pair.good := 0, pair.bad := 0, pair.hellos := 0 }
      if s.llState = llRefused then s.setFld F.LL_STATUS_STATE llSearch else s
  else
    let n := if good then (if spaced then p.good + 1 else 1) else 0
    if n < 4 then { s with pair.good := n }
    else
      let s := { s with pair.locked := true, pair.good := 0, pair.bad := 0 }
      if s.llState = llSearch then s.setFld F.LL_STATUS_STATE llHello else s

/-- A handover or swap is scheduled, or its window is open (R377). -/
def State.pairBusy (s : State) : Bool :=
  s.pair.winOpen || (s.image.fire ++ s.image.fireIn ++ s.image.fired).any fun f => f.action && (f.target == 1 || f.target == 2)

/-- The status of R377. -/
def State.pairStatus (s : State) : Nat :=
  if s.pairState ≠ psActive then 8
  else if s.pairBusy || !psInSync s.peerState || decide (100 < s.sendLag) then 1
  else if s.fld F.ACCT_QUOTA_1_FIRING 0 ≤ s.pendingOf 0 then 3
  else 0

/-- Schedule a planned handover (code 1) or swap (code 2) for 2 ms after a time in ns of TL. -/
def State.pairSchedule (s : State) (code from_ : Nat) : Nat × State :=
  let st := s.pairStatus
  let s := s.setFld F.PAIR_RESULT_STATUS st
  if st = 0 then
    let t := from_ + 2000000
    (0, (s.fireSubmit code 0 (BitVec.ofNat 64 t) true).ev 0x0F0B [.b8 code, .b64 (tlStamp t).toNat])
  else (st, s)

/-- The active module performs a reclaim that its peer requests (R383); what prevents it is recorded once. -/
def State.reclaimTry (s : State) : State :=
  if s.pairState ≠ psActive ∨ !s.pair.peerRq ∨ s.pairBusy then s
  else
    let (st, s) := s.pairSchedule 1 s.tl
    if st = 0 ∨ s.pair.said then s else State.ev { s with pair.said := true } 0x0F0D [.b8 st]

/-- The peer's state in an accepted header: sync reached, sync left, a resync to be served. (DEDUCED, log entry 103.) -/
def State.peerStateIn (s : State) (st : Nat) : State :=
  let was := s.peerState
  let s := s.setFld F.PAIR_STATUS_PEER_STATE st
  let s := if psIsActive st then s else { s with pair.peerIdle := some s.tick }
  if s.llState ≠ llUp then s
  else
    let s :=
      if s.pairState = psAlone ∧ psInSync st ∧ s.pair.sending then s.setPair psActive
      else if s.pairState = psActive ∧ !s.pair.winOpen ∧ !psInSync st then
        let s := (s.setPair psAlone).streamEnd
        if psInSync was ∧ st = psResync then s.syncLost 0 else s
      else s
    if (s.pairState = psActive ∨ s.pairState = psAlone) ∧ st = psResync ∧ !s.pair.sending then s.streamBegin true else s

/-- An accepted RELINQUISH (R373, R374). Entries are applied as they are accepted, so none of its tick waits. -/
def State.relinquishIn (s : State) : State :=
  if s.pairState = psResync || psInSync s.pairState then { s with pair.cause := some (s.pair.cause.getD 1) } else s

/-- A DATA frame: of an active module its stream words, of a module in sync its acknowledgement (R367). -/
def State.dataIn (s : State) (body : List W64) (words age : Nat) : State :=
  if s.llState ≠ llUp then s
  else if s.pair.winOpen ∨ (s.pair.resyncing ∧ psIsActive s.peerState) then
    s.streamIn (body.headD 0).toNat (body.tail.take (words - 1)) age
  else if s.pair.sending then s.ackIn (body.headD 0).toNat
  else s

/-- A ledger-link frame. -/
def State.ledgerIn (s : State) (f : LedgerFrame) (spaced : Bool) (age : Nat) : State :=
  if s.llState = llDown ∨ !s.alive then s
  else
    let h := f.header.toNat
    let good := f.body.length == 72 && llCrc f.header f.body == f.crc && bits h 63 62 != 3
    let s := if good then s else s.bump F.LL_COUNTS_CRC
    let s := s.llLock good spaced
    if !good ∨ !s.pair.locked then s
    else
      let s := if bit h 61 then { s with pair.hbAt := some s.tick } else s
      let s := s.peerStateIn (bits h 59 56)
      let rise := bit h 60 && !s.pair.peerRq
      let s := { s with pair.peerRq := bit h 60, pair.said := s.pair.said && bit h 60 }
      let s := if rise then s.reclaimTry else s
      let words := bits h 55 48
      if bits h 63 62 = 1 then s.helloIn f.body
      else if bits h 63 62 = 2 then s.relinquishIn
      else State.dataIn { s with pair.hellos := 0 } f.body words age

/-- LEDGER_LINK_LOST (R365): lock says whether for want of lock. A REFUSED link ends with its lock alone (R364). -/
def State.linkLost (s : State) (lock : Bool) : State :=
  let st := s.llState
  let heard := match s.pair.hbAt with | some t => decide (s.tick < t + 150) | none => false
  if !(st == llHello || st == llUp || (st == llRefused && lock)) || (if lock then s.pair.locked else heard) then s
  else
    let s := (s.setFld F.LL_STATUS_STATE llSearch).setFld F.LL_STATUS_VERSION 0
    let s := { s with pair.locked := false, pair.good := 0, pair.bad := 0, pair.hellos := 0 }
    let s := s.ev 0x0F03 [.b8 (Config.openCode (65 + b2n lock)).toNat]
    if st ≠ llUp then s
    else if s.pairState = psActive then ((s.setPair psAlone).streamEnd).syncLost 2
    else if s.pairState = psAlone then s.streamEnd
    else if s.pairState = psResync || psInSync s.pairState then { s with pair.cause := some (s.pair.cause.getD 2) }
    else s

/-- PEER_ABSENT (R366). -/
def State.peerGone (s : State) : State :=
  let s := s.peerSeen false
  if s.pairState = psResync || psInSync s.pairState then { s with pair.cause := some (s.pair.cause.getD 3) } else s

/-! ### Sending a frame at each tick -/

/-- The ledger-link part of a data-plane tick (R363, R367). -/
def State.ledgerTick (s : State) : State :=
  if s.llState = llDown then s
  else
    let s := ((s.resyncBegin).lagTick).backlogCheck
    if s.llState ≠ llUp then s.llSend lkHello s.helloWords
    else if s.pair.sending then
      let s := s.collect
      let pos := s.pair.sent
      let (ws, s) := s.streamWords
      s.llSend lkData (BitVec.ofNat 64 pos :: ws)
    else s.llSend lkData [BitVec.ofNat 64 s.pair.expect]

/-! ### Taking control (R374 to R378) -/

/-- A task of the ledger goes on here (R376): its grid and its last release are kept. -/
def State.continueTasks (s : State) (a : Nat) : State :=
  foldState (fun s k =>
    let t := s.task k
    (s.setTask k { Task.init with enabled := some s.tick, grid := t.grid, lastRel := t.lastRel }).setFld F.TASK_STATUS_STATE tkIdle k)
    (s.tasksOf a) s

/-- An item of the ledger. -/
def State.gotItem (s : State) (item index : Nat) : Option W64 := nget none s.pair.got (itemKey item index)

/-- The accounts take the ledger's states, where nothing here keeps them from it. -/
def State.takeAccounts (s : State) : State :=
  foldState (fun s a =>
    let here := s.acctState a
    if [aFault, aBlocked, aAbsent, aResetting].contains here then s
    else
      let v := ((s.gotItem 4 a).getD (BitVec.ofNat 64 aRunning)).toNat
      let st := bits v 3 0
      if st = aFault then (s.setAcctState a aFault).setFld F.ACCT_STATUS_CAUSE (bits v 15 8) a
      else if st = aResetting ∨ st = aBlocked then s.setAcctState a st
      else (s.setAcctState a aRunning).continueTasks a) acctOrder s

/-- The station's identity (R376). The ledger does not carry a tag's account: a tag taken is charged to none. (DESIGN CHOICE, log
entry 148.) -/
def State.takeIdentity (s : State) : State :=
  let s := { s with pair.inst := some (((s.gotItem 6 0).map (·.toNat % 2 ^ 32)).getD (s.reg R.NET_INSTANCE)),
                    pair.seqNr := (((s.gotItem 6 1).map (·.toNat)).getD s.pair.seqNr + 16384) % 65536 }
  let s := foldState (fun s n => match s.gotItem 6 (2 + n) with
    | some v => { s.setReg R.PUB_SEQ ((v.toNat + 65536) % 2 ^ 32) n with net.pubSent := nset false s.net.pubSent n true }
    | none => s) (List.range 256) s
  foldState (fun s t => match s.gotItem 5 t with
    | some v =>
      let d := (s.ownNs ((v.toNat % 2 ^ 60 : Nat) : Int) / 1000).toNat
      if bits v.toNat 63 62 = 0 then s
      else s.setTag t { Tag.init with st := 3, gen := bits v.toNat 61 60, account := 8, deadline := d }
    | none => s) (List.range 4096) s

/-- The safe transport goes on from the ledger (R348). -/
def State.takeRzt (s : State) : State :=
  if !s.rzOn then s
  else foldState (fun s c =>
    let s := match s.gotItem 7 c with
      | some v =>
        let n := v.toNat
        if !s.flag F.RZT_TX_CFG_EN c then s
        else
          let s := ((s.setReg R.RZT_TX_SEQ (bits n 31 0) c).setFld F.RZT_TX_STATUS_STATE 1 c).setFld F.RZT_TX_STATUS_WAITING
            (bits n 32 32) c
          let s := (s.setFld F.RZT_TX_STATUS_DEST (bits n 51 40) c).setFld F.RZT_TX_STATUS_VERSION (bits n 55 52) c
          s.setTx c ⟨if bit n 32 then some (s.rzDataBody c (bits n 31 0) (s.rzMaint c)) else none⟩
      | none => s
    match s.gotItem 8 c with
    | some v =>
      let n := v.toNat
      if !s.flag F.RZT_RX_CFG_EN c ∨ bits n 35 32 ≠ rsRun then s
      else
        let s := ((s.setReg R.RZT_RX_SEQ (bits n 31 0) c).setFld F.RZT_RX_STATUS_STATE rsRun c).setFld F.RZT_RX_STATUS_VERSION
          (bits n 39 36) c
        (s.setRx c { RzRx.init with acceptedAt := s.tick }).rzOpenSend c true
    | none => s) (List.range 64) s

/-- Seconds of a swap interval; all ones for none (R384). -/
def State.swapSeconds (s : State) : Nat :=
  if s.fld F.PAIR_TIMING_SWAP_H = 0 then 0xFFFFFFFF else 3600 * s.fld F.PAIR_TIMING_SWAP_H

/-- Step 9 of Table 6.4: the commands of all field outputs are handed to the slice links (R213, R255). -/
def State.handOutputs (s : State) : State :=
  foldState State.dHand (List.range 320) (foldState State.aHand (List.range 192) s)

/-- Control is taken at this tick from the state that the ledger has built. -/
def State.takeControl (s : State) (st : Nat) : State :=
  let s := State.dropSync { s.setPair st with pair.cause := none, pair.swapSaid := false }
  let s := (s.setReg R.PAIR_SWAP_DUE s.swapSeconds).setFld F.PAIR_STATUS_RECLAIM_PENDING 0
  let s := (((s.takeIdentity).takeAccounts).takeRzt).canBegin
  ((s.announce).supervise).handOutputs

/-- TAKEOVER: at H, after a cause of R374. A module in RESYNC goes on alone (R375). (DEDUCED, log entry 98.) -/
def State.takeover (s : State) : State :=
  match s.pair.cause with
  | none => s
  | some c =>
    if s.pairState = psResync then s.goAlone
    else if psInSync s.pairState then
      let s := (s.bump F.PAIR_COUNTS_0_TAKEOVERS).ev 0x0F0A [.b8 (Config.openCode (60 + c)).toNat, .b64 (tlStamp s.tl).toNat]
      State.takeControl { s with pair.hold := [] } (if psInSync s.peerState then psActive else psAlone)
    else { s with pair.cause := none }

/-- HANDOVER_ACTION_DUE: the check of R377 at H, then steps 3 and 4 of Table 15.11. -/
def State.handoverDue (s : State) : State :=
  match s.image.fired.find? fun f => f.action && (f.target == 1 || f.target == 2) with
  | none => s
  | some f =>
    let s := { s with image.fired := s.image.fired.erase f }
    let out := s.pairState == psActive && psInSync s.peerState && decide (s.sendLag ≤ 100)
    let inc := psInSync s.pairState && s.peerState == psActive && decide (s.lagUs ≤ 100)
    if out then
      let s := ((s.setPair psOutgoing).setReg R.PAIR_SWAP_DUE 0xFFFFFFFF).canCease
      State.handOutputs { s with pair.window := some s.tick, pair.winOpen := true, pair.expect := 0, pair.inq := [] }
    else if inc then
      let wait := (s.tasksOf 0 ++ s.tasksOf 1 ++ s.tasksOf 2 ++ s.tasksOf 3 ++ s.tasksOf 4 ++ s.tasksOf 5 ++ s.tasksOf 6 ++
        s.tasksOf 7).filter fun k => match s.gotItem 2 k with | some v => !bit v.toNat 32 | none => false
      let s := { s with pair.window := some s.tick, pair.winOpen := true, pair.endWait := wait,
                        pair.reclaimed := s.pair.reclaimed || s.flag F.PAIR_STATUS_RECLAIM_PENDING }
      let last := s.pair.lastTick
      let s := State.streamBegin (s.takeControl psActive) false
      { s with pair.lastTick := last }
    else
      let s := { s with pair.hold := [] }
      if s.inControl || psInSync s.pairState then (s.setFld F.PAIR_RESULT_STATUS 6).ev 0x0F0D [.b8 6] else s

/-- HANDOVER_WINDOW_END: step 8 of Table 15.11, and step 9 on the outgoing module. -/
def State.windowEnd (s : State) : State :=
  let h := s.pair.window.getD 0
  if !s.pair.winOpen ∨ s.tick < h + 600 then s
  else
    let s := (s.bump F.PAIR_COUNTS_0_HANDOVERS).ev 0x0F0C [.b64 (tlStamp (1000 * h)).toNat]
    let s := { s with pair.winOpen := false, pair.hold := [], pair.endWait := [], pair.inq := [] }
    if s.pairState = psOutgoing then State.restage (s.pairCease psResync) else s.streamEnd

/-- ASSUME takes effect (R362). -/
def State.assume (s : State) : State :=
  if s.pairState = psIsolated then (s.ev 0x0F10).goAlone else s

/-! ### Return policy and swaps (R383, R384) -/

/-- RECLAIM_TIMER (R383): STANDBY continuously for RECLAIM_S s. -/
def State.reclaimTimer (s : State) : State :=
  if s.pairState = psStandby && s.atHome && !s.flag F.PAIR_STATUS_POLICY && !s.pair.reclaimed &&
      decide (s.pair.syncAt + 1000000 * s.fld F.PAIR_TIMING_RECLAIM_S ≤ s.tick) then
    s.setFld F.PAIR_STATUS_RECLAIM_PENDING 1
  else s

/-- ROLE_SWAP_DUE; what prevents the swap is recorded once. (DEDUCED, log entry 102.) -/
def State.swapDue (s : State) : State :=
  if s.pairState ≠ psActive ∨ s.fld F.PAIR_TIMING_SWAP_H = 0 ∨ s.reg R.PAIR_SWAP_DUE ≠ 0 then s
  else
    let (st, s) := if s.peerState = psStandby then s.pairSchedule 2 s.tl else (1, s)
    if st = 0 ∨ s.pair.swapSaid then s else State.ev { s with pair.swapSaid := true } 0x0F0D [.b8 st]

/-- The pair's part of a 1 s management cycle: the time left to a swap, and a reclaim that is retried. -/
def State.pairCycle (s : State) : State :=
  let s :=
    if s.fld F.PAIR_TIMING_SWAP_H = 0 then s.setReg R.PAIR_SWAP_DUE 0xFFFFFFFF
    else if s.pairState = psActive then s.setReg R.PAIR_SWAP_DUE (min (s.reg R.PAIR_SWAP_DUE) s.swapSeconds - 1)
    else s
  s.reclaimTry

/-! ### Commands -/

def execRoleDecision (s : State) : Host.Outcome State Fault Refusal := .next s.roleDecision
def execLedgerFrameReceived (f : LedgerFrame) (spaced : Bool) (age : Nat) (s : State) : Host.Outcome State Fault Refusal :=
  .next (s.ledgerIn f spaced age)
def execRelinquishReceived (f : LedgerFrame) (spaced : Bool) (age : Nat) (s : State) : Host.Outcome State Fault Refusal :=
  .next (s.ledgerIn f spaced age)
def execLedgerLinkLost (lock : Bool) (s : State) : Host.Outcome State Fault Refusal := .next (s.linkLost lock)
def execPeerAbsent (s : State) : Host.Outcome State Fault Refusal := .next s.peerGone
def execPeerPresentSeated (s : State) : Host.Outcome State Fault Refusal := .next (s.peerSeen true)
def execJournalResend (s : State) : Host.Outcome State Fault Refusal := .next s.journalResend
def execTakeover (s : State) : Host.Outcome State Fault Refusal := .next s.takeover
def execHandoverActionDue (s : State) : Host.Outcome State Fault Refusal := .next s.handoverDue
def execHandoverWindowEnd (s : State) : Host.Outcome State Fault Refusal := .next s.windowEnd
def execReclaimTimer (s : State) : Host.Outcome State Fault Refusal := .next s.reclaimTimer
def execRoleSwapDue (s : State) : Host.Outcome State Fault Refusal := .next s.swapDue

end Sys2Proof.Machine
end

