-- ==== Sys2Proof/Machine/Access.lean ====
section
/-! DEFINITION. Register access by a management session (chapter 4, R5 to R8, R75, R76, R95 to R98): who may read and write
what, data windows and their claims, 64-bit quantities, till data, and the checks of each write. A write that completes OK waits
in mgmt.effects for the next data-plane tick, unless R75 makes it act at once. -/

namespace Sys2Proof.Machine

/-! ### Permission (R95, R101, R104, Table 4.6) -/

/-- The session whose block holds an address. -/
def sessionBlock (addr : Nat) : Option Nat :=
  if addr / 2 ^ 12 / 8 = 0x4300 / 8 then some (addr / 2 ^ 12 % 8) else none

/-- Session m is open and acts for account a. -/
def State.actsFor (s : State) (m a : Nat) : Bool := (s.session m).opened && (s.session m).account == a

/-- An unconfigured module grants the system-control, configuration and vault subsystems alone (R104). -/
def State.limited (s : State) (addr : Nat) : Bool :=
  s.phase == .unconfigured && !([0x01, 0x03, 0x11].contains (addr / 2 ^ 24))

/-- The CFG_WR registers (R71). -/
def isCfgWr (addr : Nat) : Bool := decide (R.CFG_WR_CTRL.addr 0 0 ≤ addr ∧ addr ≤ R.CFG_WR_CTRL.addr 0 0 + 0x10)

/-- A session of account a may read an address. (DEDUCED, log entry 40.) -/
def State.mayRead (s : State) (a addr : Nat) : Bool :=
  if a = 0 then true
  else match sessionBlock addr with
    | some m => s.actsFor m a
    | none =>
      if isCfgWr addr then false
      else match s.blockOwner addr with
        | some o => o == a
        | none => true

/-- A session of account a may write register r at an address. -/
def State.mayWrite (s : State) (a addr : Nat) (r : Reg) : Bool :=
  let own := (match s.blockOwner addr with | some o => o == a | none => false)
  let session := (sessionBlock addr).isSome
  (isWinAddr r && s.mayRead a addr) ||
    (r == R.SESSION_CTRL && (match sessionBlock addr with | some m => s.actsFor m a | none => false)) ||
    (if a = 0 then own || (s.blockOwner addr).isNone || r == R.ACCT_CTRL || r == R.ACCT_KEY
     else own && !session && (a != 7 || s.sw12))

/-- Another session holds the claim that covers register r (R97, R168). -/
def State.claimed (s : State) (n : Nat) (r : Reg) (i : Nat) : Bool :=
  match claimKey r i with
  | some key => (match (s.window key).holder with | some m => m != n | none => false)
  | none => false

/-- Session n's next access to the data of the window under a key completes with SEQ (R97). (DEDUCED, log entry 39.) -/
def State.owes (s : State) (n key : Nat) : Bool := (s.window key).owed.contains n

/-- That access has been made. -/
def State.paid (s : State) (n key : Nat) : State :=
  let w := s.window key
  s.setWindow key { w with owed := w.owed.filter (· != n) }

/-- The key of the claim under which register r of a force block, or a window's data register, is accessed. -/
def dataKey (r : Reg) (i : Nat) : Option Nat :=
  if isWinAddr r ∨ r = R.FORCE_SIGNAL then none else claimKey r i

/-! ### Reading -/

/-- What session n captured of the word after addr (R8, R98). -/
def State.captureAt (s : State) (n addr : Nat) : Option W32 := nget none (s.session n).captured addr
def State.capture (s : State) (n addr : Nat) (v : W32) : State :=
  s.setSession n { s.session n with captured := nset none (s.session n).captured addr (some v) }

/-- A session of account a is an endpoint of till t of account o: the consumer, or the producer. -/
def State.sessionEnd (s : State) (a o t : Nat) (prod : Bool) : Bool :=
  a == o && s.tillSize o t != 0 &&
    (if prod then s.fld F.TILL_CFG_PROD_KIND o t else s.fld F.TILL_CFG_CONS_KIND o t) == ekSession

/-- A read of TILL_DATA_LO: one word is consumed, its high half captured (R98). -/
def State.tillLoRead (s : State) (n o t : Nat) (e : Ecc) : Nat × W32 × State :=
  let (v, _, st, s) := s.tillRead o t e
  (st, half64 v 0, s.capture n (R.TILL_DATA_LO.addr o t) (half64 v 1))

/-- A read of a window's data register (R97, R164). -/
def State.winRead (s : State) (n a : Nat) (r ar : Reg) (i : Nat) : Nat × W32 × State :=
  let off := s.reg ar i
  let next (s : State) : State := s.setReg ar (off + 4) i
  let sig := s.sig (off / 64)
  if s.winBytes r i ≤ off then (9, 0, s)
  else if r = R.VAULT_WIN_DATA then
    let (v, st, s) := s.vwindow n off
    (st, v, next s)
  else if r = R.SIG_WIN_DATA ∧ a ≠ 0 ∧ sig.owner ≠ a ∧ !sig.shared then (8, 0, s)
  else if r.rw ||| r.ro = 0 then (0, 0, next s)
  else (0, s.winWord r i off, next s)

/-- A read of a register by session n: status, data, and the state it leaves. -/
def State.readReg (s : State) (n addr : Nat) (e : Ecc := .clean) : Nat × W32 × State :=
  let a := (s.session n).account
  if s.limited addr then (8, 0, s)
  else match regAt addr with
  | none => (9, 0, s)
  | some (r, i, j) =>
    if !s.mayRead a addr then (8, 0, s)
    else if r = R.TILL_DATA_LO then (if s.sessionEnd a i j false then s.tillLoRead n i j e else (8, 0, s))
    else if r = R.TILL_DATA_HI then
      if !s.sessionEnd a i j false then (8, 0, s)
      else match s.captureAt n (R.TILL_DATA_LO.addr i j) with
        | some v => (0, v, s)
        | none => (0x0C, 0, s)
    else if s.claimed n r i then (1, 0, s)
    else if (match dataKey r i with | some k => s.owes n k | none => false) then
      (0x0C, 0, s.paid n ((dataKey r i).getD 0))
    else match winAddrReg r with
      | some ar => s.winRead n a r ar i
      | none =>
        if r.w64 && j % 2 == 0 then (0, s.peek addr, s.capture n addr (s.peek (addr + 4)))
        else if r.w64 then (0, (s.captureAt n (addr - 4)).getD (s.peek addr), s)
        else (0, s.peek addr, s)

/-! ### Writing -/

/-- A completed write waits for the next data-plane tick (R75). -/
def State.effect (s : State) (e : Effect) : State := { s with mgmt.effects := s.mgmt.effects ++ [e] }

/-- A write of a window's address register: a claim with an offset, or the holder's release (R97). (DEDUCED, log entry 38.) -/
def State.winAddrWrite (s : State) (n : Nat) (r : Reg) (i v : Nat) : Nat × State :=
  let key := r.addr i 0
  let w := s.window key
  if r = R.NET_ISSUE_ADDR ∧ v ≠ 0 ∧ v ≠ 0xFFFFFFFF then (9, s)
  else
    let holder := if v = 0xFFFFFFFF then (if w.holder = some n then none else w.holder) else some n
    let s := (s.setWindow key ⟨holder, w.owed.filter (· != n)⟩).setReg r v i
    if v = 0xFFFFFFFF then (0, s)
    else if r = R.FIRE_LIST_ADDR then (0, { s with image.fireCopy := nset [] s.image.fireCopy i (s.fireListOf i) })
    else if r = R.NET_ISSUE_ADDR then (0, { s with net.issue := nset [] s.net.issue i [] })
    else (0, s)

/-- The state as it will be once the waiting writes of plain registers and of CFG_WR have taken effect: what the checks of a
further write go by (R71, R73, R200). -/
def State.ahead (s : State) : State :=
  s.mgmt.effects.foldl (fun (t : State) e => match e with
    | .word addr v _ _ => match regAt addr with
      | some (r, i, j) => if r.rw = 0 then t else t.setReg r (t.masked r i j v.toNat) i j
      | none => t
    | .pair addr v => match regAt addr with
      | some (r, i, _) => if r.rw = 0 then t else t.setReg64 r v.toNat i
      | none => t
    | .cfg data v => ((if data then t.cwData v else t.cwCtrl v.toNat).2)
    | _ => t) s

/-- A write of CFG_WR_DATA or CFG_WR_CTRL (R72, R73): its status is that of the session as the waiting writes leave it; it takes
effect at the next tick (R75). (DEDUCED, log entry 25.) -/
def State.cfgWrite (s : State) (data : Bool) (v : W32) : Nat × State :=
  let st := (if data then s.ahead.cwData v else s.ahead.cwCtrl v.toNat).1
  if st = 0 then (0, s.effect (.cfg data v)) else (st, s)

/-- A write of FORCE_SIGNAL claims the account's force block as R97 claims a window (R168); the number enters at the next tick.
(DEDUCED, log entry 35.) -/
def State.forceSignalWrite (s : State) (n i a v : Nat) : Nat × State :=
  let key := R.FORCE_SIGNAL.addr i 0
  let w := s.window key
  let holder := if v = 0xFFFFFFFF then (if w.holder = some n then none else w.holder) else some n
  if !s.rangeOk R.FORCE_SIGNAL i v then (9, s)
  else (0, (s.setWindow key ⟨holder, w.owed.filter (· != n)⟩).effect (.word key (BitVec.ofNat 32 v) n a))

/-- Half of a word of a signal record (R164): only the words and fields that a session may write, of its own signals; FRESH_US of
a PARAM or MODULE signal is 0 (R153, R469). (DEDUCED, log entry 119.) -/
def State.sigHalf (s : State) (n i off : Nat) (v : W32) : Nat × State :=
  let g := off / 64
  let w := off / 8 % 8
  let x := s.sig g
  let key := winKey R.SIG_WIN_DATA i off
  let mine := x != .init && x.owner == i && ((w == 0 && x.kind == kParam) || w == 3 || w == 5 || w == 6 || w == 7)
  if !mine then (8, s)
  else if off / 4 % 2 = 0 then (0, s.hold n key (some v))
  else match s.heldAt n key with
    | none => (0x0C, s)
    | some lo =>
      let word := joinHalves lo v
      let fixed : W64 := ~~~ 0xFFFFFF0000000300
      if w = 7 ∧ word &&& fixed ≠ x.control &&& fixed then (8, s)
      else if w = 7 ∧ (x.kind = kParam ∨ x.kind = kModule) ∧ bits word.toNat 63 40 ≠ 0 then (9, s)
      else (0, (s.hold n key none).effect (.sigWord g w word))

/-- Half of a data word (R141). -/
def State.dataHalf (s : State) (n k off : Nat) (v : W32) : Nat × State :=
  let key := winKey R.DATA_WIN_DATA k off
  if off / 4 % 2 = 0 then (0, s.hold n key (some v))
  else match s.heldAt n key with
    | none => (0x0C, s)
    | some lo => (0, (s.hold n key none).effect (.dataWord k (off / 8) (joinHalves lo v)))

/-- Half of a word of an item to be issued (R320): with its last word the item is complete, ADDR returns to 0, and the item is
judged at the next tick (R75). -/
def State.issueHalf (s : State) (n i off : Nat) (v : W32) : Nat × State :=
  let key := winKey R.NET_ISSUE_DATA i off
  if off / 4 % 2 = 0 then (0, s.hold n key (some v))
  else match s.heldAt n key with
    | none => (0x0C, s)
    | some lo =>
      let item := nget [] s.net.issue i ++ [joinHalves lo v]
      let s := s.hold n key none
      if item.length = 1 + hLength (item.headD 0) then
        (0, State.effect { s.setReg R.NET_ISSUE_ADDR 0 i with net.issue := nset [] s.net.issue i [] } (.issue i item))
      else (0, { s with net.issue := nset [] s.net.issue i item })

/-- A write of a window's data register. -/
def State.winWrite (s : State) (n : Nat) (r ar : Reg) (i : Nat) (v : W32) : Nat × State :=
  let off := s.reg ar i
  if s.winBytes r i ≤ off then (9, s)
  else
    let moved := s.setReg ar (off + 4) i
    let (st, t) :=
      if r = R.SIG_WIN_DATA then moved.sigHalf n i off v
      else if r = R.DATA_WIN_DATA then moved.dataHalf n i off v
      else if r = R.NET_ISSUE_DATA then moved.issueHalf n i off v
      else if r = R.PANEL_WIN_DATA then (0, moved.effect (.frameWord (off / 4) v))
      else (8, s)
    if st = 0 then (0, t) else (st, s)

/-- The producer's halves of a till word (R90, R98). -/
def State.tillDataWrite (s : State) (n o t : Nat) (high : Bool) (v : W32) : Nat × State :=
  let key := R.TILL_DATA_LO.addr o t
  if !high then (0, s.hold n key (some v))
  else match s.heldAt n key with
    | none => (0x0C, s)
    | some lo => match s.tillWrite o t (joinHalves lo v) with
      | none => (3, s)
      | some s' => (0, s'.hold n key none)

/-- Status of an ACCT_CTRL write by a session of account a (R84, R85). -/
def State.acctCtrlCheck (s : State) (a i v : Nat) : Nat :=
  let st := s.acctState i
  if bits v 31 24 ≠ 0x3C then 8
  else if bits v 3 0 ≠ 1 ∧ bits v 3 0 ≠ 2 then 9
  else if i = 7 ∧ !(s.sw12 && (a == 7 || a == 0)) then 8
  else if st = aAbsent ∨ (i = 7 ∧ st = aBlocked) then 8
  else if bits v 3 0 = 1 ∧ (st = aStarting ∨ st = aResetting) then 1
  else 0

/-- Status of the write of a 32-bit register that takes effect at the next tick: v is the register after the write, x the word
written. -/
def State.wordCheck (s : State) (a : Nat) (r : Reg) (i v x : Nat) : Nat :=
  if r = R.SYS_RESTART then (if bits x 7 0 = 0xA5 then 0 else 8)
  else if r = R.SESSION_CTRL ∨ r = R.DS_CTRL then (if bits x 31 24 = 0x3C then 0 else 8)
  else if r = R.ACCT_CTRL then s.acctCtrlCheck a i x
  else if r = R.ACCT_KEY then (if i = 7 ∧ !s.sw12 then 8 else 0)
  else if r = R.PAIR_CTRL then
    if bits x 31 24 ≠ 0x3C then 8
    else if bits x 3 0 = 2 then (if s.pairState = psIsolated then 0 else 8)
    else 9
  else if r = R.DCH_CNT_CTRL then s.dCntCheck i x
  else
    let own := if r = R.ACH_CFG then s.aCfgCheck i v
      else if r = R.HART_CFG then s.hCfgCheck i v
      else if r = R.DCH_CFG then s.dCfgCheck i v
      else 0
    if own ≠ 0 then own else if s.rangeOk r i v then 0 else 9

/-- The value that FORCE_VALUE of account i will have at the next tick. -/
def State.forceValue (s : State) (i : Nat) : W64 :=
  s.mgmt.effects.foldl (fun v e => match e with
    | .pair addr x => if addr = R.FORCE_VALUE.addr i 0 then x else v
    | _ => v) (BitVec.ofNat 64 (s.reg64 R.FORCE_VALUE i))

/-- The signal number that FORCE_SIGNAL of account i will hold at the next tick. -/
def State.forceTarget (s : State) (i : Nat) : Nat :=
  s.mgmt.effects.foldl (fun g e => match e with
    | .word addr x _ _ => if addr = R.FORCE_SIGNAL.addr i 0 then x.toNat else g
    | _ => g) (s.reg R.FORCE_SIGNAL i)

/-- PAIR_CTRL HANDOVER (R377): judged at the write, and one at a time; the entry is submitted at the next tick. -/
def State.handoverWrite (s : State) (addr : Nat) (v : W32) (n a : Nat) : Nat × State :=
  let waits := s.mgmt.effects.any fun e => match e with | .word b x _ _ => b == addr && bits x.toNat 3 0 == 1 | _ => false
  let st := if s.pairStatus = 0 ∧ waits then 1 else s.pairStatus
  if st = 0 then (0, s.effect (.word addr v n a)) else (st, s.setFld F.PAIR_RESULT_STATUS st)

/-- A write of FORCE_CTRL (R168). -/
def State.forceCtrl (s : State) (n i v : Nat) : Nat × State :=
  if bits v 31 24 ≠ 0x3C then (8, s)
  else if bits v 1 0 = 0 then (9, s)
  else (0, s.effect (.force i (bits v 1 0) n (s.forceTarget i) (s.forceValue i)))

/-- A half of a 64-bit quantity (R8, R295). -/
def State.halfWrite (s : State) (n : Nat) (r : Reg) (i j addr : Nat) (v : W32) : Nat × State :=
  let st := s.fld F.TIME_STATUS_TS_STATE
  let x := joinHalves ((s.heldAt n (addr - 4)).getD 0) v
  if r = R.TIME_SET ∧ st ≠ tsUnset ∧ st ≠ tsExpired then (8, s)
  else if j % 2 = 0 then (0, s.hold n addr (some v))
  else if (s.heldAt n (addr - 4)).isNone then (0x0C, s)
  else if !rangeOk64 r x then (9, s)
  else (0, (s.hold n (addr - 4) none).effect (.pair (r.addr i (j - 1)) x))

/-- A write of a register by session n: status, and the state it leaves. -/
def State.writeReg (s : State) (n addr : Nat) (v : W32) : Nat × State :=
  let a := (s.session n).account
  let x := v.toNat
  if s.limited addr ∨ (s.session n).map = 2 then (8, s)
  else match regAt addr with
  | none => (9, s)
  | some (r, i, j) =>
    if !s.mayWrite a addr r then (8, s)
    else if !s.inControl && !(moduleLocal r || isWinAddr r) then (8, s)
    else if r.wr = 0 ∨ imageOnly r then (8, s)
    else if r = R.TILL_DATA_LO ∨ r = R.TILL_DATA_HI then
      if s.sessionEnd a i j true then s.tillDataWrite n i j (r == R.TILL_DATA_HI) v else (8, s)
    else if r = R.TILL_CMD then
      if !s.sessionEnd a i j false then (8, s) else if bits x 1 0 = 0 then (9, s) else (0, s.tillCmd i j (bits x 1 0))
    else if s.claimed n r i then (1, s)
    else if isWinAddr r then s.winAddrWrite n r i x
    else if r = R.FORCE_SIGNAL then s.forceSignalWrite n i a x
    else if (match dataKey r i with | some k => s.owes n k | none => false) then (0x0C, s.paid n ((dataKey r i).getD 0))
    else match winAddrReg r with
      | some ar => s.winWrite n r ar i v
      | none =>
        if r = R.CFG_WR_CTRL then s.cfgWrite false v
        else if r = R.CFG_WR_DATA then s.cfgWrite true v
        else if r = R.FORCE_CTRL then s.forceCtrl n i x
        else if r = R.PAIR_CTRL ∧ bits x 31 24 = 0x3C ∧ bits x 3 0 = 1 then s.handoverWrite addr v n a
        else if r.w64 then s.halfWrite n r i j addr v
        else
          let st := s.ahead.wordCheck a r i (s.ahead.masked r i j x) x
          if st = 0 then (0, s.effect (.word addr v n a)) else (st, s)

/-! ### Sessions that command -/

/-- A write by session place n: nothing where no session is open there. -/
def State.command (s : State) (n addr : Nat) (v : W32) : State :=
  if !(s.session n).opened ∨ !s.alive then s
  else
    let (st, s) := s.writeReg n addr v
    { s with mgmt.status := st, mgmt.data := 0 }

/-- A read by session place n. -/
def State.inquire (s : State) (n addr : Nat) (e : Ecc := .clean) : State :=
  if !(s.session n).opened ∨ !s.alive then s
  else
    let (st, v, s) := s.readReg n addr e
    { s with mgmt.status := st, mgmt.data := v }

/-- A control word: KEY in bits 31:24, CMD in the low bits. -/
def ctrlWord (key : BitVec 8) (cmd : Nat) : W32 := BitVec.ofNat 32 (key.toNat * 2 ^ 24 + cmd)

/-- WINDOW_CLAIM_TIMEOUT (R97): the claim ends, and its holder owes a SEQ. -/
def State.claimTimeout (s : State) (addr : Nat) : State :=
  match (s.window addr).holder with
  | some n => s.setWindow addr ⟨none, n :: (s.window addr).owed⟩
  | none => s

/-- The address of a window's address register, or of FORCE_SIGNAL. -/
def isClaimAddr (addr : Nat) : Bool :=
  match regAt addr with | some (r, _, _) => isWinAddr r || r == R.FORCE_SIGNAL | none => false

/-- The address of a window's address register. -/
def isWinAddrAt (addr : Nat) : Bool := match regAt addr with | some (r, _, _) => isWinAddr r | none => false

/-- The address of a window's data register. -/
def isWinDataAt (addr : Nat) : Bool := match regAt addr with | some (r, _, _) => (winAddrReg r).isSome | none => false

/-! ### Commands -/

def execRegisterWrite (n : Fin 8) (addr v : W32) (s : State) : Host.Outcome State Fault Refusal :=
  .next (s.command n.val addr.toNat v)

def execDataWindowAddrWrite (n : Fin 8) (addr v : W32) (s : State) : Host.Outcome State Fault Refusal :=
  if isWinAddrAt addr.toNat then .next (s.command n.val addr.toNat v) else .fault (.illFormed "DATA_WINDOW_ADDR_WRITE")

def execDataWindowDataAccess (n : Fin 8) (addr : W32) (v : Option W32) (s : State) : Host.Outcome State Fault Refusal :=
  if isWinDataAt addr.toNat then
    .next (match v with | some v => s.command n.val addr.toNat v | none => s.inquire n.val addr.toNat)
  else .fault (.illFormed "DATA_WINDOW_DATA_ACCESS")

def execWindowClaimTimeout (addr : W32) (s : State) : Host.Outcome State Fault Refusal :=
  if isClaimAddr addr.toNat then .next (s.claimTimeout addr.toNat) else .fault (.illFormed "WINDOW_CLAIM_TIMEOUT")

def execSysRestart (n : Fin 8) (v : W32) (s : State) : Host.Outcome State Fault Refusal :=
  .next (s.command n.val (R.SYS_RESTART.addr 0 0) v)

/-- CFG_WR_START, CFG_WR_COMMIT and CFG_WR_ABORT: the word written to CFG_WR_CTRL carries their CMD. -/
def execCfgWrStart (n : Fin 8) (v : W32) (s : State) : Host.Outcome State Fault Refusal :=
  if bits v.toNat 3 0 = 1 then .next (s.command n.val (R.CFG_WR_CTRL.addr 0 0) v) else .fault (.illFormed "CFG_WR_START")

def execCfgWrCommit (n : Fin 8) (v : W32) (s : State) : Host.Outcome State Fault Refusal :=
  if bits v.toNat 3 0 = 2 then .next (s.command n.val (R.CFG_WR_CTRL.addr 0 0) v) else .fault (.illFormed "CFG_WR_COMMIT")

def execCfgWrAbort (n : Fin 8) (v : W32) (s : State) : Host.Outcome State Fault Refusal :=
  if bits v.toNat 3 0 = 3 then .next (s.command n.val (R.CFG_WR_CTRL.addr 0 0) v) else .fault (.illFormed "CFG_WR_ABORT")

def execCfgWrData (n : Fin 8) (v : W32) (s : State) : Host.Outcome State Fault Refusal :=
  .next (s.command n.val (R.CFG_WR_DATA.addr 0 0) v)

def execAcctCtrlReset (n a : Fin 8) (key : BitVec 8) (s : State) : Host.Outcome State Fault Refusal :=
  .next (s.command n.val (R.ACCT_CTRL.addr a.val 0) (ctrlWord key 1))
def execAcctCtrlFault (n a : Fin 8) (key : BitVec 8) (s : State) : Host.Outcome State Fault Refusal :=
  .next (s.command n.val (R.ACCT_CTRL.addr a.val 0) (ctrlWord key 2))

/-- ACCT_KEY_WRITE: ACCT_KEY_7, which makes the new key take effect (R103). -/
def execAcctKeyWrite (n a : Fin 8) (v : W32) (s : State) : Host.Outcome State Fault Refusal :=
  .next (s.command n.val (R.ACCT_KEY.addr a.val 7) v)

def execTillMark (n a : Fin 8) (t : Fin 16) (s : State) : Host.Outcome State Fault Refusal :=
  .next (s.command n.val (R.TILL_CMD.addr a.val t.val) 1)
def execTillRewind (n a : Fin 8) (t : Fin 16) (s : State) : Host.Outcome State Fault Refusal :=
  .next (s.command n.val (R.TILL_CMD.addr a.val t.val) 2)
def execTillRelease (n a : Fin 8) (t : Fin 16) (s : State) : Host.Outcome State Fault Refusal :=
  .next (s.command n.val (R.TILL_CMD.addr a.val t.val) 3)
def execTillDataLoRead (n a : Fin 8) (t : Fin 16) (ecc : Ecc) (s : State) : Host.Outcome State Fault Refusal :=
  .next (s.inquire n.val (R.TILL_DATA_LO.addr a.val t.val) ecc)
def execTillDataHiRead (n a : Fin 8) (t : Fin 16) (s : State) : Host.Outcome State Fault Refusal :=
  .next (s.inquire n.val (R.TILL_DATA_HI.addr a.val t.val))
def execTillDataLoWrite (n a : Fin 8) (t : Fin 16) (v : W32) (s : State) : Host.Outcome State Fault Refusal :=
  .next (s.command n.val (R.TILL_DATA_LO.addr a.val t.val) v)
def execTillDataHiWrite (n a : Fin 8) (t : Fin 16) (v : W32) (s : State) : Host.Outcome State Fault Refusal :=
  .next (s.command n.val (R.TILL_DATA_HI.addr a.val t.val) v)

/-- SESSION_CTRL_CLOSE: session n writes SESSION_CTRL of session place m with CLOSE 1. -/
def execSessionCtrlClose (n m : Fin 8) (key : BitVec 8) (s : State) : Host.Outcome State Fault Refusal :=
  .next (s.command n.val (R.SESSION_CTRL.addr m.val 0) (ctrlWord key 1))

def execDataWinDataWrite (n : Fin 8) (k : Fin 64) (v : W32) (s : State) : Host.Outcome State Fault Refusal :=
  .next (s.command n.val (R.DATA_WIN_DATA.addr k.val 0) v)
def execSigWinDataWrite (n a : Fin 8) (v : W32) (s : State) : Host.Outcome State Fault Refusal :=
  .next (s.command n.val (R.SIG_WIN_DATA.addr a.val 0) v)
def execForceSignalWrite (n a : Fin 8) (v : W32) (s : State) : Host.Outcome State Fault Refusal :=
  .next (s.command n.val (R.FORCE_SIGNAL.addr a.val 0) v)
def execForceSet (n a : Fin 8) (key : BitVec 8) (s : State) : Host.Outcome State Fault Refusal :=
  .next (s.command n.val (R.FORCE_CTRL.addr a.val 0) (ctrlWord key 1))
def execForceClear (n a : Fin 8) (key : BitVec 8) (s : State) : Host.Outcome State Fault Refusal :=
  .next (s.command n.val (R.FORCE_CTRL.addr a.val 0) (ctrlWord key 2))
def execForceClearAll (n a : Fin 8) (key : BitVec 8) (s : State) : Host.Outcome State Fault Refusal :=
  .next (s.command n.val (R.FORCE_CTRL.addr a.val 0) (ctrlWord key 3))
def execFireListAddrWrite (n a : Fin 8) (v : W32) (s : State) : Host.Outcome State Fault Refusal :=
  .next (s.command n.val (R.FIRE_LIST_ADDR.addr a.val 0) v)
def execAnalogueChCfgWrite (n : Fin 8) (g : Fin 192) (v : W32) (s : State) : Host.Outcome State Fault Refusal :=
  .next (s.command n.val (R.ACH_CFG.addr g.val 0) v)
def execHartCfgWrite (n : Fin 8) (g : Fin 192) (v : W32) (s : State) : Host.Outcome State Fault Refusal :=
  .next (s.command n.val (R.HART_CFG.addr g.val 0) v)
def execHartZBaseWrite (n : Fin 8) (g : Fin 192) (v : W32) (s : State) : Host.Outcome State Fault Refusal :=
  .next (s.command n.val (R.HART_Z_BASE.addr g.val 0) v)
def execCntClear (n : Fin 8) (ch : Fin 320) (key : BitVec 8) (s : State) : Host.Outcome State Fault Refusal :=
  .next (s.command n.val (R.DCH_CNT_CTRL.addr ch.val 0) (ctrlWord key 1))
def execCntPreset (n : Fin 8) (ch : Fin 320) (key : BitVec 8) (s : State) : Host.Outcome State Fault Refusal :=
  .next (s.command n.val (R.DCH_CNT_CTRL.addr ch.val 0) (ctrlWord key 2))
def execDsCtrlRestore (n : Fin 8) (sl : Fin 10) (key : BitVec 8) (s : State) : Host.Outcome State Fault Refusal :=
  .next (s.command n.val (R.DS_CTRL.addr sl.val 0) (ctrlWord key 1))
def execDigitalChCfgWrite (n : Fin 8) (ch : Fin 320) (v : W32) (s : State) : Host.Outcome State Fault Refusal :=
  .next (s.command n.val (R.DCH_CFG.addr ch.val 0) v)

/-- TIME_SET_WRITE: the low word (0) or the high word (1) of TIME_SET. -/
def execTimeSetWrite (n : Fin 8) (half : Fin 2) (v : W32) (s : State) : Host.Outcome State Fault Refusal :=
  .next (s.command n.val (R.TIME_SET.addr 0 half.val) v)
def execDomCfgWrite (n : Fin 8) (plane : Fin 2) (v : W32) (s : State) : Host.Outcome State Fault Refusal :=
  .next (s.command n.val (R.DOM_CFG.addr plane.val 0) v)
def execNetIssueDataWrite (n a : Fin 8) (v : W32) (s : State) : Host.Outcome State Fault Refusal :=
  .next (s.command n.val (R.NET_ISSUE_DATA.addr a.val 0) v)
def execPairHandover (n : Fin 8) (key : BitVec 8) (s : State) : Host.Outcome State Fault Refusal :=
  .next (s.command n.val (R.PAIR_CTRL.addr 0 0) (ctrlWord key 1))
def execPairAssume (n : Fin 8) (key : BitVec 8) (s : State) : Host.Outcome State Fault Refusal :=
  .next (s.command n.val (R.PAIR_CTRL.addr 0 0) (ctrlWord key 2))
def execVaultWinDataRead (n : Fin 8) (s : State) : Host.Outcome State Fault Refusal :=
  .next (s.inquire n.val (R.VAULT_WIN_DATA.addr 0 0))
def execPanelWinDataWrite (n : Fin 8) (v : W32) (s : State) : Host.Outcome State Fault Refusal :=
  .next (s.command n.val (R.PANEL_WIN_DATA.addr 0 0) v)

end Sys2Proof.Machine
end

