-- ==== Sys2Proof/Machine/Mgmt.lean ====
section
/-! DEFINITION. Management sessions and frames (R99 to R104, R476; R327, R328, R474, R475, Table 13.10) and the till scrubber
(R91). -/

namespace Sys2Proof.Machine

/-! ### Bytes -/

/-- The header of a received frame as it stands in it (Table 13.3). -/
def mgmtHeader (f : Frame) : List Byte :=
  headerBytes f.version.toNat f.kind.toNat f.flags.toNat f.hops.toNat f.source.toNat f.dest.toNat
    f.inst.toNat f.bodyLen.toNat

/-- The 32 bytes of an account's key. -/
def State.keyBytes (s : State) (a : Nat) : List Byte :=
  bytesOf32 ((List.range 8).map fun n => (s.acct a).key.getD n 0)

/-- The response that opens a session (R99). -/
def State.response (s : State) (x : Session) : List Byte :=
  (hmacSha256 (s.keyBytes x.account)
    (bytesLE 8 x.moduleNonce.toNat ++ bytesLE 8 x.clientNonce.toNat ++ bytesLE 2 s.addr ++ bytesLE 1 x.account)).take 16

/-- The frame key of a session (R99). -/
def State.sessionKey (s : State) (x : Session) : List Byte :=
  hmacSha256 (s.keyBytes x.account) (bytesLE 1 0x53 ++ bytesLE 8 x.moduleNonce.toNat ++ bytesLE 8 x.clientNonce.toNat)

/-! ### Replies -/

/-- Send a reply: to port M for source 0, else to a peer on the planes; with a MAC where a key is given (R327, R474). -/
def State.mgmtReply (s : State) (source : Nat) (key : Option (List Byte)) (ws : List W32) : State :=
  let body := bytesOf32 ws
  let mac := match key with
    | some k => (hmacSha256 k (headerBytes 3 nkManagement 0 0 s.addr source (s.reg R.NET_INSTANCE) (body.length + 16) ++ body)).take 16
    | none => []
  if source = 0 then
    s.emit ⟨[4], nkManagement, 3, 0, 0, s.reg R.NET_INSTANCE, s.addr, 0, 0, body ++ mac, 0⟩
  else s.netSend nkManagement 3 0 s.addr source (body ++ mac)

/-- The words of a reply (Table 13.10). -/
def replyWords (op session count : Nat) (seq addr : W32) (status done : Nat) (data : List W32) : List W32 :=
  [BitVec.ofNat 32 (op * 2 ^ 24 + session % 256 * 2 ^ 16 + count), seq, addr, BitVec.ofNat 32 (status * 2 ^ 24 + done)] ++ data

/-- Fields of word 0 of a request. -/
def mOp (ws : List W32) : Nat := (ws.headD 0).toNat / 2 ^ 24
def mSession (ws : List W32) : Nat := (ws.headD 0).toNat / 2 ^ 16 % 256
def mCount (ws : List W32) : Nat := (ws.headD 0).toNat % 2 ^ 16

/-- The source of a frame: 0 for port M (R102). -/
def mgmtOrigin (f : Frame) : Nat := if f.port.val = 4 then 0 else f.source.toNat

/-! ### Opening (R99, R100, R102, R104, R476) -/

/-- The version of a session (R100). -/
def mapVersion (offer : Nat) : Nat := min offer 3

/-- The checks of R100, in order. -/
def State.openCheck (s : State) (source account offer : Nat) : Nat :=
  if (nget Lockout.init s.mgmt.lockouts source).locked then 8
  else if offer < 2 then 0x0B
  else if s.acctState account = aAbsent then 9
  else if s.phase ≠ .unconfigured ∧ (s.keyBytes account).all (· == 0) then 8
  else if (List.range 8).all fun n => (s.session n).opened || (s.session n).awaiting then 1
  else 0

/-- OPEN_1: on an unconfigured module's port M the session opens at once (R104). (DEDUCED, log entry 127.) -/
def State.open1 (s : State) (f : Frame) (ws : List W32) : State :=
  let w4 := (ws.getD 4 0).toNat
  let account := bits w4 2 0
  let offer := bits w4 15 8
  let seq := ws.getD 1 0
  let source := (mgmtOrigin f)
  let st := s.openCheck source account offer
  if st ≠ 0 then
    let s := if st = 0x0B then s.ev 0x040A else s
    s.mgmtReply source none (replyWords 1 (mSession ws) (mCount ws) seq (ws.getD 2 0) st 0 [])
  else
    let n := ((List.range 8).find? fun n => !(s.session n).opened && !(s.session n).awaiting).getD 0
    let s := s.draw
    let nonce := Config.random s.free
    let free := decide (s.phase = .unconfigured)
    let x : Session := { Session.init with
      awaiting := !free, opened := free, noMac := free, account := account, source := source, map := mapVersion offer,
      clientNonce := joinHalves (ws.getD 5 0) (ws.getD 6 0), moduleNonce := nonce, since := s.tick }
    let data := [half64 nonce 0, half64 nonce 1]
    let x := if free then { x with seq := some seq.toNat, reply := some (1, 0, 0, data) } else x
    let s := s.setSession n x
    let s := if free then s.ev 0x0406 [.b16 n, .b8 account, .b16 source, .b8 x.map] else s
    s.mgmtReply source none (replyWords 1 n (mCount ws) seq (ws.getD 2 0) 0 0 data)

/-- A response has failed (R102): 4 within 10 s lock the source out. (DEDUCED, log entry 127.) -/
def State.authFailed (s : State) (source account : Nat) : State :=
  let s := (s.bump F.MGMT_STATUS_AUTH_FAIL).ev 0x0408 [.b16 source, .b8 account]
  let x := nget Lockout.init s.mgmt.lockouts source
  let fails := s.tick :: x.fails.filter fun t => decide (s.tick < t + 10000000)
  let locked := decide (4 ≤ fails.length)
  let x : Lockout := if locked then ⟨[], true, s.tick⟩ else { x with fails := fails }
  let s := { s with mgmt.lockouts := nset .init s.mgmt.lockouts source x }
  if locked then s.ev 0x0409 else s

/-- OPEN_2. (DEDUCED, log entry 57.) -/
def State.open2 (s : State) (f : Frame) (ws : List W32) : State :=
  let n := mSession ws
  let x := s.session n
  let seq := ws.getD 1 0
  if 8 ≤ n ∨ !x.awaiting ∨ x.source ≠ (mgmtOrigin f) then s
  else
    let answer (s : State) (st : Nat) : State :=
      s.mgmtReply x.source none (replyWords 2 n (mCount ws) seq (ws.getD 2 0) st 0 [])
    if bytesOf32 ((ws.drop 4).take 4) = s.response x then
      let s := s.setSession n { x with awaiting := false, opened := true, frameKey := s.sessionKey x, since := s.tick,
                                       seq := some seq.toNat, reply := some (2, 0, 0, []) }
      answer (s.ev 0x0406 [.b16 n, .b8 x.account, .b16 x.source, .b8 x.map]) 0
    else answer ((s.dropSession n).authFailed x.source x.account) 8

/-- OPEN_RESPONSE_TIMEOUT: 10 s after the OPEN_1 (R476). -/
def State.openTimeout (s : State) (n : Nat) : State :=
  let x := s.session n
  if x.awaiting ∧ x.since + 10000000 ≤ s.tick then s.dropSession n else s

/-- SESSION_IDLE_TIMEOUT: 60 s after the last frame that counts (R101). -/
def State.idleTimeout (s : State) (n : Nat) : State :=
  if (s.session n).since + 60000000 ≤ s.tick then s.closeSession n 86 else s

/-- LOCKOUT_EXPIRY: 60 s after the 4th failure (R102). -/
def State.lockoutEnd (s : State) (source : Nat) : State :=
  let x := nget Lockout.init s.mgmt.lockouts source
  if x.since + 60000000 ≤ s.tick then
    { s with mgmt.lockouts := nset .init s.mgmt.lockouts source { x with locked := false } }
  else s

/-! ### Frames of a session (R327, R328, R475) -/

/-- What accesses have answered so far: data read, status of the first that was not OK, accesses before it. -/
structure Answer where
  s : State
  data : List W32
  status : Nat
  done : Nat

/-- One access is added to an answer. -/
def Answer.add (x : Answer) (s : State) (data : List W32) (status : Nat) : Answer :=
  { s := { s with mgmt.status := status, mgmt.data := data.headD 0 }, data := x.data ++ data,
    status := if x.status = 0 then status else x.status, done := x.done + b2n (x.status == 0 && status == 0) }

/-- READ and READ_REPEAT: COUNT accesses, zero in place of each that is not OK; ecc is what each finds in a till word (R91), clean
where it lists none. -/
def readMany (n addr step : Nat) : Nat → List Ecc → Answer → Answer
  | 0, _, x => x
  | k + 1, ecc, x =>
    let (st, v, s) := x.s.readReg n addr (ecc.headD .clean)
    readMany n (addr + step) step k ecc.tail (x.add s [if st = 0 then v else 0] st)

/-- WRITE and WRITE_REPEAT: they stop at the first access that is not OK. A word that the frame does not hold is RANGE (DEDUCED,
log entry 56). -/
def writeMany (n addr step : Nat) : Nat → List W32 → Answer → Answer
  | 0, _, x => x
  | k + 1, ws, x =>
    if x.status ≠ 0 then x
    else match ws with
      | [] => x.add x.s [] 9
      | v :: ws =>
        let (st, s) := x.s.writeReg n addr v
        writeMany n (addr + step) step k ws (x.add s [] st)

/-- A frame's accesses carried out. -/
def State.carryOut (s : State) (n : Nat) (ws : List W32) (data : List W32) (ecc : List Ecc) : Answer :=
  let addr := (ws.getD 2 0).toNat
  let count := mCount ws
  let x : Answer := ⟨s, [], 0, 0⟩
  if 256 < count then { x with status := 9 }
  else match mOp ws with
    | 3 => readMany n addr 4 count ecc x
    | 4 => writeMany n addr 4 count data x
    | 5 => readMany n addr 0 count ecc x
    | 6 => writeMany n addr 0 count data x
    | 7 => x
    | _ => { x with status := 9 }

/-- A frame whose OP is not that of an opening. -/
def State.sessionFrame (s : State) (f : Frame) (ws : List W32) (ecc : List Ecc) : State :=
  let n := mSession ws
  let x := s.session n
  let len := f.body.length
  if 8 ≤ n ∨ !x.opened then s.bump F.NET_DROPS_2_MAC_FAIL
  else
    let cut := if x.noMac then 0 else 16
    let text := f.body.take (len - cut)
    let good := x.noMac || (decide (32 ≤ len) &&
      (hmacSha256 x.frameKey (mgmtHeader f ++ text)).take 16 == f.body.drop (len - 16))
    if !good then (s.bump F.NET_DROPS_2_MAC_FAIL).ev 0x0D09 [.b16 (mgmtOrigin f), .b16 n]
    else
      let s := s.setSession n { x with since := s.tick }
      let seq := (ws.getD 1 0).toNat
      let ahead := (seq + 2 ^ 32 - x.seq.getD 0) % 2 ^ 32
      let key := if x.noMac then none else some x.frameKey
      let answer (s : State) (st done : Nat) (data : List W32) : State :=
        s.mgmtReply x.source key (replyWords (mOp ws) n (mCount ws) (ws.getD 1 0) (ws.getD 2 0) st done data)
      if ahead = 0 then
        match x.reply with
        | some (_, st, done, data) => answer s st done data
        | none => s
      else if 2 ^ 31 ≤ ahead then s.bump F.NET_DROPS_2_MGMT_SEQ
      else
        let before := s.mgmt.effects.length
        let r := s.carryOut n ws ((words32 text).drop 4) ecc
        let s := r.s.setSession n { r.s.session n with seq := some seq, reply := some (mOp ws, r.status, r.done, r.data) }
        let hold := s.sliceHold (s.mgmt.effects.drop before)
        let s := if hold = 0 then answer s r.status r.done r.data
          else { s with mgmt.replies := s.mgmt.replies ++ [⟨s.tick + hold, x.source, key,
            replyWords (mOp ws) n (mCount ws) (ws.getD 1 0) (ws.getD 2 0) r.status r.done r.data⟩] }
        if mOp ws = 7 ∧ mCount ws ≤ 256 then s.closeSession n 83 else s

/-- A MANAGEMENT frame arrives (R313, R474). (DEDUCED, log entry 58.) -/
def State.mgmtIn (s : State) (f : Frame) (ecc : List Ecc := []) : State :=
  let portM := decide (f.port.val = 4)
  if !s.alive ∨ (portM && !s.domOn 22) ∨ (!portM && (s.phase == .unconfigured || f.dest.toNat != s.addr)) then s
  else
    let (ok, s) := s.receive f nkManagement
    if !ok then s
    else
      let ws := words32 f.body
      let other := f.version != 3 || f.source != 0 || f.dest != 0 || f.inst != 0
      let short := decide (ws.length < (if mOp ws = 1 then 7 else if mOp ws = 2 then 8 else 4))
      if (portM && other) || short then s.dropMalformed f
      else match mOp ws with
        | 1 => s.open1 f ws
        | 2 => s.open2 f ws
        | _ => s.sessionFrame f ws ecc

/-! ### Tills (R91) -/

/-- One error that the till scrubber finds in an occupied word. (DEDUCED, log entry 60.) -/
def State.tillScrub (s : State) (e : TillError) : State :=
  let a := e.account.val
  let t := e.till.val
  let x := s.till a t
  let size := s.tillSize a t
  if size ≤ e.pos ∨ x.wr - x.rel ≤ (e.pos + size - x.rel % max 1 size) % max 1 size then s
  else if e.double then
    let s := s.tillEcc a t e.pos .double
    if s.flag F.TILL_CFG_ECC2_FAULT a t then s.enterFault a 3 else s
  else s.tillEcc a t e.pos .corrected

/-! ### Commands -/

/-- The body of a frame is a request with an OP, and with a COUNT that R475 allows. -/
def opIs (f : Frame) (op : Nat) : Bool := mOp (words32 f.body) == op && decide (mCount (words32 f.body) ≤ 256)

def execMgmtOpen1 (f : Frame) (s : State) : Host.Outcome State Fault Refusal :=
  if mOp (words32 f.body) = 1 then .next (s.mgmtIn f) else .fault (.illFormed "MGMT_OPEN_1")
def execMgmtOpen2 (f : Frame) (s : State) : Host.Outcome State Fault Refusal :=
  if mOp (words32 f.body) = 2 then .next (s.mgmtIn f) else .fault (.illFormed "MGMT_OPEN_2")
def execMgmtRead (f : Frame) (ecc : List Ecc) (s : State) : Host.Outcome State Fault Refusal :=
  if opIs f 3 then .next (s.mgmtIn f ecc) else .fault (.illFormed "MGMT_READ")
def execMgmtWrite (f : Frame) (s : State) : Host.Outcome State Fault Refusal :=
  if opIs f 4 then .next (s.mgmtIn f) else .fault (.illFormed "MGMT_WRITE")
def execMgmtReadRepeat (f : Frame) (ecc : List Ecc) (s : State) : Host.Outcome State Fault Refusal :=
  if opIs f 5 then .next (s.mgmtIn f ecc) else .fault (.illFormed "MGMT_READ_REPEAT")
def execMgmtWriteRepeat (f : Frame) (s : State) : Host.Outcome State Fault Refusal :=
  if opIs f 6 then .next (s.mgmtIn f) else .fault (.illFormed "MGMT_WRITE_REPEAT")
def execMgmtClose (f : Frame) (s : State) : Host.Outcome State Fault Refusal :=
  if opIs f 7 then .next (s.mgmtIn f) else .fault (.illFormed "MGMT_CLOSE")

/-- MGMT_UNKNOWN_OP (R475): an unlisted OP, or a COUNT above 256. -/
def opUnknown (f : Frame) : Bool :=
  let op := mOp (words32 f.body)
  (op == 0 || decide (7 < op)) || (decide (3 ≤ op) && decide (256 < mCount (words32 f.body)))

def execMgmtUnknownOp (f : Frame) (s : State) : Host.Outcome State Fault Refusal :=
  if opUnknown f then .next (s.mgmtIn f) else .fault (.illFormed "MGMT_UNKNOWN_OP")

def execSessionIdleTimeout (n : Fin 8) (s : State) : Host.Outcome State Fault Refusal := .next (s.idleTimeout n.val)
def execOpenResponseTimeout (n : Fin 8) (s : State) : Host.Outcome State Fault Refusal := .next (s.openTimeout n.val)
def execLockoutExpiry (source : Fin 4096) (s : State) : Host.Outcome State Fault Refusal := .next (s.lockoutEnd source.val)
def execTillScrub (errs : List TillError) (s : State) : Host.Outcome State Fault Refusal :=
  .next (foldState State.tillScrub errs s)

end Sys2Proof.Machine
end

