-- ==== Sys2Proof/Machine/Tick.lean ====
section
/-! DEFINITION. The data-plane tick: the writes that wait for it (R75), the changes to the image in the order of Table 6.4
(R157), the causes of RELINQUISH judged at a tick (R373), the hold of a planned handover (R378), and the ledger frame; and the
1 s management cycle. -/

namespace Sys2Proof.Machine

/-! ### Management writes that completed before this tick (R75, R272) -/

/-- One write takes effect ahead of the image: a register or a data word. Signal words and forces have places of their own in
Table 6.4. -/
def State.applyEffect (s : State) (e : Effect) : State :=
  match e with
  | .word addr v n _ =>
    if addr = R.PAIR_CTRL.addr 0 0 then (if bits v.toNat 3 0 = 1 then (s.pairSchedule 1 (s.tl - 1000)).2 else s.assume)
    else s.applyWord addr v n
  | .pair addr v => s.applyPair addr v
  | .cfg data v => (if data then s.cwData v else s.cwCtrl v.toNat).2
  | .issue a item => (s.setFld F.NET_ISSUE_STATUS_STATUS (s.reqStatus a item) a).reqIssue a item
  | .frameWord n v => s.setFrameWord n v
  | .dataWord k w v => s.applyData k w v
  | .sigWord _ _ _ => s
  | .force _ _ _ _ _ => s

/-- Part the waiting writes into those of this tick and those held for the next: at most one per slice (R272). (DEDUCED, log entry
32.) -/
def splitEffects (used : List Nat) : List Effect → List Effect × List Effect
  | [] => ([], [])
  | e :: es =>
    match e.slice with
    | some sl =>
      if used.contains sl then let (now, later) := splitEffects used es; (now, e :: later)
      else let (now, later) := splitEffects (sl :: used) es; (e :: now, later)
    | none => let (now, later) := splitEffects used es; (e :: now, later)

/-! ### Safe-value commands (R84, Table 4.4, Table 6.7) -/

/-- The signals consumed by the field outputs that account a owns. -/
def State.outputSigsOf (s : State) (a : Nat) : List Nat :=
  let an := (List.range 192).filter fun g => aIsOut (s.aMode g) && s.fld F.ACH_OWNER_ACCOUNT g == a
  let di := (List.range 320).filter fun n => dIsOut (s.dMode n) && s.fld F.DCH_OWNER_ACCOUNT n == a
  ((an.map fun g => s.fld F.ACH_OUT_SIG_SIGNAL g) ++ (di.map fun n => s.fld F.DCH_OUT_SIG_SIGNAL n)).dedup

/-- The output signals of task k: those its output slots name. -/
def State.taskOutSigs (s : State) (k : Nat) : List Nat :=
  ((s.slotsOf k).filter fun n => (s.slot k n).out).map fun n => (s.slot k n).sig

def State.safeCommand (s : State) (c : SafeCmd) : State :=
  match c with
  | .account a => foldState State.safeSig (s.outputSigsOf a) s
  | .task k => foldState State.safeSig (s.taskOutSigs k) s

/-! ### The image at a tick (Table 6.4) -/

/-- Step 3; a SAFE word goes to the slices as well (R272). -/
def State.sigEffect (s : State) (e : Effect) : State :=
  match e with
  | .sigWord g w v =>
    let s' := s.writeSigWord g w v
    if (s'.sig g).safe = (s.sig g).safe then s' else s'.slSafe g
  | _ => s

/-- Step 7. -/
def State.forceEffect (s : State) (e : Effect) : State :=
  match e with
  | .force a cmd n g v => s.forceCommand a cmd n g v
  | _ => s

/-- Step 5: TS no longer usable (R187), admission (R182), application (R184). -/
def State.fireStep (s : State) : State := ((s.fireUsables).fireAdmission).fireApply

/-- Step 6. -/
def State.safeStep (s : State) : State :=
  let cmds := s.image.safeCmds
  foldState State.safeCommand cmds { s with image.safeCmds := [] }

/-- Steps 1 to 7 where this module builds its own image. -/
def State.imageSteps (s : State) (es : List Effect) : State :=
  let s := ((s.applyUpdates).freshness)
  let s := (foldState State.sigEffect es s).applyMerged
  foldState State.forceEffect es ((s.fireStep).safeStep)

/-- Where the image comes from the ledger: producer updates are dropped, and the handover entries that fall due go to the pair
(R367, R377). -/
def State.replayStep (s : State) : State :=
  let mine (f : Fire) : Bool := f.action && (f.target == 1 || f.target == 2) && s.fireDue f
  let due := s.image.fire.filter mine
  { s with image.updates := s.image.updates.filter fun u => s.tick < u.due,
           image.fire := s.image.fire.filter fun f => !mine f,
           image.fired := s.image.fired ++ due,
           image.safeCmds := [] }

/-! ### The pair at a tick -/

/-- An account fault of this tick is a cause of RELINQUISH (R373, cause 0x07): bits 0 to 3 enable causes 0x03 to 0x06. -/
def State.faultHandover (s : State) : State :=
  let on_ := s.hoCauses.any fun c => decide (3 ≤ c ∧ c ≤ 6) && bit (s.fld F.PAIR_FAULT_HO_CAUSES) (c - 3)
  let s := { s with hoCauses := [] }
  if on_ then s.relinquish 7 else s

/-- F of R378 has come for a handover that is scheduled: its entry's time lies at most 100 µs ahead. (DEDUCED, log entry 101.) -/
def State.holdDue (s : State) : Bool :=
  (s.image.fire ++ s.image.fired).any fun f =>
    f.action && (f.target == 1 || f.target == 2) && decide (f.t ≤ s.tickTime f + 100000)

/-- Step 2 of Table 15.11: at F, S of every current output is kept; where no handover follows, it is let go. -/
def State.holdStep (s : State) : State :=
  if s.pair.winOpen then s
  else if !s.holdDue then { s with pair.hold := [] }
  else if s.pair.hold ≠ [] then s
  else
    let outs := (List.range 192).filter fun g => s.aMode g == aCurOut
    let keep (m : NMap (Option W64)) (g : Nat) : NMap (Option W64) :=
      nset none m g (some (if s.inControl then (s.achan g).setp else (s.aSetpoint g).v))
    { s with pair.hold := outs.foldl keep [] }

/-- The ledger link's frame, unless this tick has sent RELINQUISH. -/
def State.ledgerStep (s : State) : State :=
  let was := s.pairState
  let s := s.faultHandover
  if was = psActive ∧ s.pairState ≠ psActive then s else s.ledgerTick

/-! ### The tick and the management cycle -/

/-- What a tick does to the image and to everything that follows the image. -/
def State.imageTick (s : State) (es : List Effect) : State :=
  let s := if !s.image.built then
      foldState State.forceEffect es (foldState State.sigEffect es
        { s with image.updates := s.image.updates.filter fun u => s.tick < u.due })
    else if s.inControl then s.imageSteps es
    else s.replayStep
  let s := ((s.holdStep).handOutputs).slSendAll
  ((s.rzSync).sfUpdate).panelUpdate

/-- The replies whose writes have completed are sent (R272). -/
def State.heldReplies (s : State) : State :=
  let due := s.mgmt.replies.filter fun r => decide (r.due ≤ s.tick)
  foldState (fun s r => s.mgmtReply r.source r.key r.words) due
    { s with mgmt.replies := s.mgmt.replies.filter fun r => decide (s.tick < r.due) }

/-- DATA_PLANE_TICK (R284): ticks are numbered while D61 is up; in a stopped module time moves on, and the hold of R44 ends. -/
def State.dataTick (s : State) : State :=
  if !s.time.ticking then s
  else
    let s := State.tsTick { s with tick := s.tick + 1 }
    let (now, later) := splitEffects [] s.mgmt.effects
    let s := State.heldReplies (foldState State.applyEffect now { s with mgmt.effects := later })
    if s.phase = .stopped ∨ s.phase = .waiting then ((s.slSendAll).powerDown).chargeTick
    else ((s.imageTick now).ledgerStep).chargeTick

/-- MANAGEMENT_CYCLE: the vault's counts of the cycle (R410), wheel loads (Table 5.13), the panel page (R445), the pair (R383,
R384), event 0x1004 once per cycle (R392), and the next compare-unit test (R333). -/
def State.mgmtCycle (s : State) : State :=
  let s := State.pairCycle ((((s.vcycle).stCycle).panelCycle))
  let s := { s with safety.cmpTested := false }
  foldState (fun s n => s.setCan n { s.canCh n with lostSaid := false }) (List.range 4) s

/-- DEDUCED, log entry 113. -/
def execDataPlaneTick (s : State) : Host.Outcome State Fault Refusal := .next s.dataTick
def execManagementCycle (s : State) : Host.Outcome State Fault Refusal := .next s.mgmtCycle

end Sys2Proof.Machine
end

