-- ==== Sys2Proof/Machine/WheelFb.lean ====
section
/-! DEFINITION. Wheel instructions 0x90 to 0x96: the hardware function blocks (R125 to R133). Every binary64 step is
rounded as R118 says; the blocks set no flag but FBE (R116). -/

namespace Sys2Proof.Machine

/-- What a parameter word must be beside finite. -/
inductive PKind where
  | any
  | ge0
  | gt0
  deriving DecidableEq, Repr

def PKind.ok (k : PKind) (v : W64) : Bool :=
  f64Finite v && match k with | .any => true | .ge0 => f64Le 0 v | .gt0 => f64Lt 0 v

/-- Input of a block: its words, x (WA), BA, dt in s, the release time in TL, whether INIT was 1. -/
structure FbIn where
  w : Nat → W64
  ctrl : Nat
  x : W64
  ba : Bool
  dt : W64
  now : Nat
  init : Bool

/-- Output of a block: state words written, WA, BA, STATUS bits. -/
structure FbOut where
  writes : List (Nat × W64)
  wa : W64
  ba : Bool
  status : Nat

/-- A function block: its words, the MODE bits it uses, the kinds of its parameter words 1, 2, …, a pair (lo, hi) that must be
ordered, its output word (none for HYST), and its effect. -/
structure Fb where
  words : Nat
  modeBits : Nat
  params : List PKind
  order : Option (Nat × Nat)
  out : Option Nat
  timer : Bool
  run : FbIn → FbOut

/-- DT × 10^-9 s as the nearest binary64 (R125). -/
def dtSeconds (ns : Nat) : W64 := f64OfRat false ns 1000000000

/-- The parameters and the input are accepted (R126). -/
def Fb.accepts (b : Fb) (w : Nat → W64) (ctrl : Nat) (x : W64) : Bool :=
  ctrl / 2 ^ 16 == 0 && (List.range 8).all (fun i => i == 0 || !bit ctrl i || bit b.modeBits i) &&
    if b.timer then bits ctrl 2 1 != 3 && decide ((w 1).toNat < 2 ^ 62)
    else
      f64Finite x && ((List.range b.params.length).all fun i => (b.params.getD i .any).ok (w (i + 1))) &&
        match b.order with | some (lo, hi) => f64Le (w lo) (w hi) | none => true

/-- Run a function block at the operand's address. -/
def Ctx.fblock (c : Ctx) (b : Fb) : WOut :=
  match c.addr b.words with
  | none => c.trap trBounds
  | some a =>
    let w (i : Nat) : W64 := c.data (a + i)
    let ctrl := (w 0).toNat
    if b.accepts w ctrl c.lane.wa then
      let o := b.run ⟨w, ctrl, c.lane.wa, c.lane.ba, dtSeconds c.ex.dt, c.ex.relTl.toNat, bit ctrl 0⟩
      let ctrl' := bits ctrl 7 1 * 2 + 1 + o.status
      { c.ok { c.lane with wa := o.wa, ba := o.ba } with
          writes := o.writes.map (fun (i, v) => (a + i, v)) ++ [(a, BitVec.ofNat 64 ctrl')] }
    else
      let wa := match b.out with | some i => w i | none => c.lane.wa
      { c.okc { c.lane with wa := wa, ba := true, flags := stick c.lane.flags fFBE true } trFbparam with
          writes := [(a, (w 0) ||| 0x8000)] }

def fadd (a b : W64) : W64 := (f64Add a b).val
def fsub (a b : W64) : W64 := (f64Sub a b).val
def fmul (a b : W64) : W64 := (f64Mul a b).val
def fdiv (a b : W64) : W64 := (f64Div a b).val
def fmin (a b : W64) : W64 := (f64Min a b).val
def fmax (a b : W64) : W64 := (f64Max a b).val

/-- HI and LO as STATUS bits 8 and 9. -/
def hiLo (hi lo : Bool) : Nat := 256 * b2n hi + 512 * b2n lo

/-- PID (R127). -/
def fbPid : Fb where
  words := 14
  modeBits := 0x0E
  params := [.any, .any, .ge0, .ge0, .ge0, .any, .any, .any, .any]
  order := some (7, 6)
  out := some 13
  timer := false
  run i :=
    let sp := i.w 1
    let kp := i.w 2
    let ti := i.w 3
    let td := i.w 4
    let tf := i.w 5
    let hi := i.w 6
    let lo := i.w 7
    let bias := i.w 9
    let man := bit i.ctrl 1
    let rev := bit i.ctrl 2
    let derr := bit i.ctrl 3
    let sg (v : W64) : W64 := if rev then f64Neg v else v
    let e := sg (fsub sp i.x)
    let cur := if derr then e else i.x
    let i0 := if i.init then i.w 10 else 0
    let d0 := if i.init then i.w 12 else 0
    let prev := if i.init then i.w 11 else cur
    let din := if derr then fsub e prev else f64Neg (sg (fsub i.x prev))
    let d := if f64IsZero td then 0 else fdiv (fadd (fmul tf d0) (fmul (fmul kp td) din)) (fadd tf i.dt)
    let p := fmul kp e
    let inew := if f64IsZero ti then 0 else fadd i0 (fdiv (fmul (fmul kp e) i.dt) ti)
    let u := fadd (fadd (fadd p inew) d) bias
    let (out, ii, h, l) :=
      if man then
        let out := fmin (fmax (i.w 8) lo) hi
        (out, if f64IsZero ti then 0 else fsub (fsub (fsub out p) d) bias, f64Eq out hi, f64Eq out lo)
      else if f64Lt hi u then (hi, if f64Lt inew i0 then inew else i0, true, false)
      else if f64Lt u lo then (lo, if f64Lt i0 inew then inew else i0, false, true)
      else (u, inew, false, false)
    ⟨[(10, ii), (11, cur), (12, d), (13, out)], out, h || l, hiLo h l⟩

/-- RAMP (R128). -/
def fbRamp : Fb where
  words := 4
  modeBits := 0x02
  params := [.gt0, .gt0]
  order := none
  out := some 3
  timer := false
  run i :=
    let o := i.w 3
    let out :=
      if !i.init then i.x
      else if bit i.ctrl 1 then o
      else if f64Lt o i.x then fmin i.x (fadd o (fmul (i.w 1) i.dt))
      else if f64Lt i.x o then fmax i.x (fsub o (fmul (i.w 2) i.dt))
      else o
    let ramping := !f64Eq out i.x
    ⟨[(3, out)], out, ramping, 256 * b2n ramping⟩

/-- LIM (R129). -/
def fbLim : Fb where
  words := 4
  modeBits := 0
  params := [.any, .any]
  order := some (2, 1)
  out := some 3
  timer := false
  run i :=
    let out := fmin (fmax i.x (i.w 2)) (i.w 1)
    let h := f64Lt (i.w 1) i.x
    let l := f64Lt i.x (i.w 2)
    ⟨[(3, out)], out, h || l, hiLo h l⟩

/-- FILT (R130): BA unchanged. -/
def fbFilt : Fb where
  words := 3
  modeBits := 0
  params := [.ge0]
  order := none
  out := some 2
  timer := false
  run i :=
    let y := i.w 2
    let out := if i.init then fadd y (fdiv (fmul (fsub i.x y) i.dt) (fadd (i.w 1) i.dt)) else i.x
    ⟨[(2, out)], out, i.ba, 0⟩

/-- ROC (R131). -/
def fbRoc : Fb where
  words := 4
  modeBits := 0
  params := [.ge0]
  order := none
  out := some 3
  timer := false
  run i :=
    let rate := if i.init then fdiv (fsub i.x (i.w 2)) i.dt else 0
    ⟨[(2, i.x), (3, rate)], rate, f64Lt (i.w 1) (f64Abs rate), 0⟩

/-- HYST (R132): WA unchanged; where both conditions hold (ON = OFF = x) STATE holds (DESIGN CHOICE, log entry 21). -/
def fbHyst : Fb where
  words := 3
  modeBits := 0x02
  params := [.any, .any]
  order := none
  out := none
  timer := false
  run i :=
    let st0 := i.init && bit i.ctrl 8
    let on_ := i.w 1
    let off_ := i.w 2
    let (up, down) := if f64Le off_ on_ then (f64Le on_ i.x, f64Le i.x off_) else (f64Le i.x on_, f64Le off_ i.x)
    let st := if up && !down then true else if down && !up then false else st0
    ⟨[], i.x, st != bit i.ctrl 1, 256 * b2n st⟩

/-- TMR (R133): integer words in ns; types TON, TOF, TP. -/
def fbTmr : Fb where
  words := 4
  modeBits := 0x06
  params := []
  order := none
  out := some 3
  timer := true
  run i :=
    let pt := (i.w 1).toInt
    let now : Int := i.now
    let q0 := i.init && bit i.ctrl 8
    let in0 := i.init && bit i.ctrl 9
    let et0 := if i.init then (i.w 3).toInt else 0
    let st0 := if i.init then (i.w 2).toInt else now
    let el (st : Int) : Int := min (now - st) pt
    let (start, et, q) :=
      match bits i.ctrl 2 1 with
      | 0 =>
        if i.ba then
          let st := if in0 then st0 else now
          (st, el st, decide (el st = pt))
        else (st0, 0, false)
      | 1 =>
        if i.ba then (st0, 0, true)
        else
          let st := if in0 then now else st0
          if q0 then (st, el st, decide (el st < pt)) else (st, et0, false)
      | _ =>
        let fire := i.ba && !in0 && !q0
        let st := if fire then now else st0
        if q0 || fire then (st, el st, decide (el st ≠ pt))
        else (st, if i.ba then et0 else 0, false)
    ⟨[(2, BitVec.ofInt 64 start), (3, BitVec.ofInt 64 et)], BitVec.ofInt 64 et, q, 256 * b2n q + 512 * b2n i.ba⟩

def execWPid (l : Fin 16) (s : State) : Host.Outcome State Fault Refusal :=
  .next (s.runInstr l.val 0x90 0 (fun c => c.fblock fbPid))
def execWRamp (l : Fin 16) (s : State) : Host.Outcome State Fault Refusal :=
  .next (s.runInstr l.val 0x91 0 (fun c => c.fblock fbRamp))
def execWLim (l : Fin 16) (s : State) : Host.Outcome State Fault Refusal :=
  .next (s.runInstr l.val 0x92 0 (fun c => c.fblock fbLim))
def execWFilt (l : Fin 16) (s : State) : Host.Outcome State Fault Refusal :=
  .next (s.runInstr l.val 0x93 0 (fun c => c.fblock fbFilt))
def execWRoc (l : Fin 16) (s : State) : Host.Outcome State Fault Refusal :=
  .next (s.runInstr l.val 0x94 0 (fun c => c.fblock fbRoc))
def execWHyst (l : Fin 16) (s : State) : Host.Outcome State Fault Refusal :=
  .next (s.runInstr l.val 0x95 0 (fun c => c.fblock fbHyst))
def execWTmr (l : Fin 16) (s : State) : Host.Outcome State Fault Refusal :=
  .next (s.runInstr l.val 0x96 0 (fun c => c.fblock fbTmr))

end Sys2Proof.Machine
end

