-- ==== Sys2Proof/Machine/WheelFloat.lean ====
section
/-! DEFINITION. Wheel instructions 0x40 to 0x50: binary64 arithmetic and comparisons (Table 5.5, R118). -/

namespace Sys2Proof.Machine

/-- WA := f WA src. -/
def Ctx.float2 (c : Ctx) (f : W64 → W64 → FRes) : WOut :=
  match c.src true with
  | .ok v => c.floatResult (f c.lane.wa v)
  | .error e => c.trap e

/-- BA := WA rel src in binary64; IV only for a signalling NaN. -/
def Ctx.fcmp2 (c : Ctx) (f : W64 → W64 → Bool) : WOut :=
  match c.src true with
  | .ok v =>
    let iv := f64CmpIv c.lane.wa v
    c.okc { c.lane with ba := f c.lane.wa v, flags := stick c.lane.flags fIV iv } (if iv then trFiv else 0)
  | .error e => c.trap e

/-- FTOI writes an integer: Z and N as of an integer result; the conversion of IEEE 754 that signals no inexact exception
(DEDUCED, log entry 20). -/
def bFtoi (c : Ctx) : WOut :=
  let r := f64ToInt c.lane.wa
  c.okc { c.lane with wa := r.val, flags := flagsZN (stick c.lane.flags fIV r.iv) r.val } (r.cause c.ex.mask)

def execWFadd (l : Fin 16) (s : State) : Host.Outcome State Fault Refusal :=
  .next (s.runInstr l.val 0x40 0 (fun c => c.float2 f64Add))
def execWFsub (l : Fin 16) (s : State) : Host.Outcome State Fault Refusal :=
  .next (s.runInstr l.val 0x41 0 (fun c => c.float2 f64Sub))
def execWFmul (l : Fin 16) (s : State) : Host.Outcome State Fault Refusal :=
  .next (s.runInstr l.val 0x42 0 (fun c => c.float2 f64Mul))
def execWFdiv (l : Fin 16) (s : State) : Host.Outcome State Fault Refusal :=
  .next (s.runInstr l.val 0x43 0 (fun c => c.float2 f64Div))
def execWFmin (l : Fin 16) (s : State) : Host.Outcome State Fault Refusal :=
  .next (s.runInstr l.val 0x44 0 (fun c => c.float2 f64Min))
def execWFmax (l : Fin 16) (s : State) : Host.Outcome State Fault Refusal :=
  .next (s.runInstr l.val 0x45 0 (fun c => c.float2 f64Max))
def execWFsqrt (l : Fin 16) (s : State) : Host.Outcome State Fault Refusal :=
  .next (s.runInstr l.val 0x46 0 (fun c => c.floatResult (f64Sqrt c.lane.wa)))
def execWFabs (l : Fin 16) (s : State) : Host.Outcome State Fault Refusal :=
  .next (s.runInstr l.val 0x47 0 (fun c => c.floatResult (.exact (f64Abs c.lane.wa))))
def execWFneg (l : Fin 16) (s : State) : Host.Outcome State Fault Refusal :=
  .next (s.runInstr l.val 0x48 0 (fun c => c.floatResult (.exact (f64Neg c.lane.wa))))
def execWItof (l : Fin 16) (s : State) : Host.Outcome State Fault Refusal :=
  .next (s.runInstr l.val 0x49 0 (fun c => c.floatResult (f64OfInt c.lane.wa.toInt)))
def execWFtoi (l : Fin 16) (s : State) : Host.Outcome State Fault Refusal :=
  .next (s.runInstr l.val 0x4A 0 bFtoi)
def execWFceq (l : Fin 16) (s : State) : Host.Outcome State Fault Refusal :=
  .next (s.runInstr l.val 0x4B 0 (fun c => c.fcmp2 f64Eq))
def execWFcne (l : Fin 16) (s : State) : Host.Outcome State Fault Refusal :=
  .next (s.runInstr l.val 0x4C 0 (fun c => c.fcmp2 fun a b => !f64Eq a b))
def execWFclt (l : Fin 16) (s : State) : Host.Outcome State Fault Refusal :=
  .next (s.runInstr l.val 0x4D 0 (fun c => c.fcmp2 f64Lt))
def execWFcle (l : Fin 16) (s : State) : Host.Outcome State Fault Refusal :=
  .next (s.runInstr l.val 0x4E 0 (fun c => c.fcmp2 f64Le))
def execWFcgt (l : Fin 16) (s : State) : Host.Outcome State Fault Refusal :=
  .next (s.runInstr l.val 0x4F 0 (fun c => c.fcmp2 fun a b => f64Lt b a))
def execWFcge (l : Fin 16) (s : State) : Host.Outcome State Fault Refusal :=
  .next (s.runInstr l.val 0x50 0 (fun c => c.fcmp2 fun a b => f64Le b a))

end Sys2Proof.Machine
end

