-- ==== Sys2Proof/Machine/WheelInt.lean ====
section
/-! DEFINITION. Wheel instructions 0x23 to 0x37: integer arithmetic, shifts and comparisons (Table 5.5, R117). -/

namespace Sys2Proof.Machine

/-- An operation on WA and src. -/
def Ctx.int2 (c : Ctx) (f : W64 → W64 → WOut) : WOut :=
  match c.src false with
  | .ok v => f c.lane.wa v
  | .error e => c.trap e

/-- The exact result narrowed to 64 bits, V where it does not fit (R117). -/
def Ctx.intExact (c : Ctx) (r : Int) : WOut :=
  c.intResult (BitVec.ofInt 64 r) (decide (r < -(2 ^ 63) ∨ 2 ^ 63 ≤ r)) false

/-- BA := WA rel src. -/
def Ctx.cmp2 (c : Ctx) (f : W64 → W64 → Bool) : WOut :=
  match c.src false with
  | .ok v => c.ok { c.lane with ba := f c.lane.wa v }
  | .error e => c.trap e

def bAdd (c : Ctx) : WOut := c.int2 fun a b => c.intExact (a.toInt + b.toInt)
def bSub (c : Ctx) : WOut := c.int2 fun a b => c.intExact (a.toInt - b.toInt)
def bMul (c : Ctx) : WOut := c.int2 fun a b => c.intExact (a.toInt * b.toInt)
/-- Division truncates toward zero; by zero: WA 0, V cleared, DZ (R117). -/
def bDiv (c : Ctx) : WOut :=
  c.int2 fun a b => if b = 0 then c.intResult 0 false true else c.intExact (a.toInt.tdiv b.toInt)
def bMod (c : Ctx) : WOut :=
  c.int2 fun a b => if b = 0 then c.intResult 0 false true else c.intExact (a.toInt.tmod b.toInt)

def execWAdd (l : Fin 16) (s : State) : Host.Outcome State Fault Refusal :=
  .next (s.runInstr l.val 0x23 0 bAdd)
def execWSub (l : Fin 16) (s : State) : Host.Outcome State Fault Refusal :=
  .next (s.runInstr l.val 0x24 0 bSub)
def execWMul (l : Fin 16) (s : State) : Host.Outcome State Fault Refusal :=
  .next (s.runInstr l.val 0x25 0 bMul)
def execWDiv (l : Fin 16) (s : State) : Host.Outcome State Fault Refusal :=
  .next (s.runInstr l.val 0x26 0 bDiv)
def execWMod (l : Fin 16) (s : State) : Host.Outcome State Fault Refusal :=
  .next (s.runInstr l.val 0x27 0 bMod)
def execWAnd (l : Fin 16) (s : State) : Host.Outcome State Fault Refusal :=
  .next (s.runInstr l.val 0x28 0 (fun c => c.int2 fun a b => c.intResult (a &&& b) false false))
def execWOr (l : Fin 16) (s : State) : Host.Outcome State Fault Refusal :=
  .next (s.runInstr l.val 0x29 0 (fun c => c.int2 fun a b => c.intResult (a ||| b) false false))
def execWXor (l : Fin 16) (s : State) : Host.Outcome State Fault Refusal :=
  .next (s.runInstr l.val 0x2A 0 (fun c => c.int2 fun a b => c.intResult (a ^^^ b) false false))
def execWShl (l : Fin 16) (s : State) : Host.Outcome State Fault Refusal :=
  .next (s.runInstr l.val 0x2B 0 (fun c => c.int2 fun a b => c.intResult (a <<< (b.toNat % 256)) false false))
def execWShr (l : Fin 16) (s : State) : Host.Outcome State Fault Refusal :=
  .next (s.runInstr l.val 0x2C 0 (fun c => c.int2 fun a b => c.intResult (a >>> (b.toNat % 256)) false false))
def execWSar (l : Fin 16) (s : State) : Host.Outcome State Fault Refusal :=
  .next (s.runInstr l.val 0x2D 0 (fun c => c.int2 fun a b => c.intResult (a.sshiftRight (b.toNat % 256)) false false))
def execWNeg (l : Fin 16) (s : State) : Host.Outcome State Fault Refusal :=
  .next (s.runInstr l.val 0x2E 0 (fun c => c.intExact (-c.lane.wa.toInt)))
def execWAbs (l : Fin 16) (s : State) : Host.Outcome State Fault Refusal :=
  .next (s.runInstr l.val 0x2F 0 (fun c => c.intExact c.lane.wa.toInt.natAbs))
def execWCeq (l : Fin 16) (s : State) : Host.Outcome State Fault Refusal :=
  .next (s.runInstr l.val 0x30 0 (fun c => c.cmp2 fun a b => a == b))
def execWCne (l : Fin 16) (s : State) : Host.Outcome State Fault Refusal :=
  .next (s.runInstr l.val 0x31 0 (fun c => c.cmp2 fun a b => a != b))
def execWClt (l : Fin 16) (s : State) : Host.Outcome State Fault Refusal :=
  .next (s.runInstr l.val 0x32 0 (fun c => c.cmp2 fun a b => decide (a.toInt < b.toInt)))
def execWCle (l : Fin 16) (s : State) : Host.Outcome State Fault Refusal :=
  .next (s.runInstr l.val 0x33 0 (fun c => c.cmp2 fun a b => decide (a.toInt ≤ b.toInt)))
def execWCgt (l : Fin 16) (s : State) : Host.Outcome State Fault Refusal :=
  .next (s.runInstr l.val 0x34 0 (fun c => c.cmp2 fun a b => decide (b.toInt < a.toInt)))
def execWCge (l : Fin 16) (s : State) : Host.Outcome State Fault Refusal :=
  .next (s.runInstr l.val 0x35 0 (fun c => c.cmp2 fun a b => decide (b.toInt ≤ a.toInt)))
def execWCltu (l : Fin 16) (s : State) : Host.Outcome State Fault Refusal :=
  .next (s.runInstr l.val 0x36 0 (fun c => c.cmp2 fun a b => decide (a.toNat < b.toNat)))
def execWCgeu (l : Fin 16) (s : State) : Host.Outcome State Fault Refusal :=
  .next (s.runInstr l.val 0x37 0 (fun c => c.cmp2 fun a b => decide (b.toNat ≤ a.toNat)))

end Sys2Proof.Machine
end

