-- ==== Sys2Proof/Machine/WheelLogic.lean ====
section
/-! DEFINITION. Wheel instructions 0x00 to 0x22: flow, boolean accumulator, word loads and stores (Table 5.5). -/

namespace Sys2Proof.Machine

/-- A branch to TARGET, one cycle more than not taken where Table 5.5 says so. (DESIGN CHOICE, log entry 130.) -/
def Ctx.branch (c : Ctx) (l : Lane) (extra : Nat) : WOut :=
  let t := iOpnd c.word % 2 ^ 16
  if c.codeWords ≤ t then c.trap trBounds
  else ⟨c.s, { l with pc := BitVec.ofNat 16 t, cycles := l.cycles + extra }, [], 0, []⟩

/-- BA := f (src ≠ 0). -/
def Ctx.boolOp (c : Ctx) (f : Bool → Bool → Bool) : WOut :=
  match c.src false with
  | .ok v => c.ok { c.lane with ba := f c.lane.ba (v != 0) }
  | .error e => c.trap e

/-- BA := f (popped value) BA. -/
def Ctx.popOp (c : Ctx) (f : Bool → Bool → Bool) : WOut :=
  match c.lane.bs with
  | [] => c.trap trStack
  | b :: bs => c.ok { c.lane with bs := bs, ba := f b c.lane.ba }

def bNop (c : Ctx) : WOut := c.ok c.lane
def bEnd (c : Ctx) : WOut := { c.ok { c.lane with ended := true } with points := [.done] }
def bJmp (c : Ctx) : WOut := c.branch c.lane 0
/-- DESIGN CHOICE, log entry 130. -/
def bJc (c : Ctx) : WOut := if c.lane.ba then c.branch c.lane 1 else c.ok c.lane
/-- DESIGN CHOICE, log entry 130. -/
def bJcn (c : Ctx) : WOut := if c.lane.ba then c.ok c.lane else c.branch c.lane 1
def bCall (c : Ctx) : WOut :=
  if c.codeWords ≤ iOpnd c.word % 2 ^ 16 then c.trap trBounds
  else if 8 ≤ c.lane.cs.length then c.trap trStack
  else c.branch { c.lane with cs := (c.lane.pc + 1) :: c.lane.cs } 0
def bRet (c : Ctx) : WOut :=
  match c.lane.cs with
  | [] => c.trap trStack
  | r :: cs => ⟨c.s, { c.lane with cs := cs, pc := r }, [], 0, []⟩
def bTrap (c : Ctx) : WOut := c.okc c.lane trSwt
def bRtt (c : Ctx) : WOut :=
  if !c.lane.handler then c.trap trIll
  else ⟨c.s, { c.lane with pc := c.lane.trapPc + 1, handler := false }, [], 0, []⟩
/-- DESIGN CHOICE, log entry 130. -/
def bLoop (c : Ctx) : WOut :=
  let x := c.lane.xr (iXs c.word) - 1
  let l := c.lane.setX (iXs c.word) x
  if x = 0 then c.ok l else c.branch l 1

def bBnot (c : Ctx) : WOut := c.ok { c.lane with ba := !c.lane.ba }
def bPushb (c : Ctx) : WOut :=
  if 16 ≤ c.lane.bs.length then c.trap trStack else c.ok { c.lane with bs := c.lane.ba :: c.lane.bs }
def bBldf (c : Ctx) : WOut := c.ok { c.lane with ba := c.lane.flags.getLsbD (iOpnd c.word % 16) }
def bLd (c : Ctx) : WOut :=
  match c.src false with
  | .ok v => c.ok { c.lane with wa := v }
  | .error e => c.trap e
def bLdu (c : Ctx) : WOut := c.ok { c.lane with wa := (c.lane.wa <<< 20) ||| BitVec.ofNat 64 (iOpnd c.word) }

def execIllegalInstruction (l : Fin 16) (s : State) : Host.Outcome State Fault Refusal := .next (s.runIllegal l.val)
def execWNop (l : Fin 16) (s : State) : Host.Outcome State Fault Refusal := .next (s.runInstr l.val 0x00 0 bNop)
def execWEnd (l : Fin 16) (ns : Nat) (cmpReports : Bool) (s : State) : Host.Outcome State Fault Refusal :=
  .next ((s.runInstr l.val 0x01 ns bEnd).cmpAfterEnd cmpReports)
def execWJmp (l : Fin 16) (s : State) : Host.Outcome State Fault Refusal :=
  .next (s.runInstr l.val 0x02 0 bJmp)
def execWJc (l : Fin 16) (s : State) : Host.Outcome State Fault Refusal :=
  .next (s.runInstr l.val 0x03 0 bJc)
def execWJcn (l : Fin 16) (s : State) : Host.Outcome State Fault Refusal :=
  .next (s.runInstr l.val 0x04 0 bJcn)
def execWCall (l : Fin 16) (s : State) : Host.Outcome State Fault Refusal :=
  .next (s.runInstr l.val 0x05 0 bCall)
def execWRet (l : Fin 16) (s : State) : Host.Outcome State Fault Refusal :=
  .next (s.runInstr l.val 0x06 0 bRet)
def execWTrap (l : Fin 16) (s : State) : Host.Outcome State Fault Refusal :=
  .next (s.runInstr l.val 0x07 0 bTrap)
def execWRtt (l : Fin 16) (s : State) : Host.Outcome State Fault Refusal :=
  .next (s.runInstr l.val 0x08 0 bRtt)
def execWLoop (l : Fin 16) (s : State) : Host.Outcome State Fault Refusal :=
  .next (s.runInstr l.val 0x09 0 bLoop)
def execWBld (l : Fin 16) (s : State) : Host.Outcome State Fault Refusal :=
  .next (s.runInstr l.val 0x10 0 (fun c => c.boolOp fun _ v => v))
def execWBldn (l : Fin 16) (s : State) : Host.Outcome State Fault Refusal :=
  .next (s.runInstr l.val 0x11 0 (fun c => c.boolOp fun _ v => !v))
def execWBand (l : Fin 16) (s : State) : Host.Outcome State Fault Refusal :=
  .next (s.runInstr l.val 0x12 0 (fun c => c.boolOp fun b v => b && v))
def execWBandn (l : Fin 16) (s : State) : Host.Outcome State Fault Refusal :=
  .next (s.runInstr l.val 0x13 0 (fun c => c.boolOp fun b v => b && !v))
def execWBor (l : Fin 16) (s : State) : Host.Outcome State Fault Refusal :=
  .next (s.runInstr l.val 0x14 0 (fun c => c.boolOp fun b v => b || v))
def execWBorn (l : Fin 16) (s : State) : Host.Outcome State Fault Refusal :=
  .next (s.runInstr l.val 0x15 0 (fun c => c.boolOp fun b v => b || !v))
def execWBxor (l : Fin 16) (s : State) : Host.Outcome State Fault Refusal :=
  .next (s.runInstr l.val 0x16 0 (fun c => c.boolOp fun b v => b != v))
def execWBnot (l : Fin 16) (s : State) : Host.Outcome State Fault Refusal :=
  .next (s.runInstr l.val 0x17 0 bBnot)
def execWBst (l : Fin 16) (s : State) : Host.Outcome State Fault Refusal :=
  .next (s.runInstr l.val 0x18 0 (fun c => c.store (if c.lane.ba then 1 else 0)))
def execWBstn (l : Fin 16) (s : State) : Host.Outcome State Fault Refusal :=
  .next (s.runInstr l.val 0x19 0 (fun c => c.store (if c.lane.ba then 0 else 1)))
def execWPushb (l : Fin 16) (s : State) : Host.Outcome State Fault Refusal :=
  .next (s.runInstr l.val 0x1A 0 bPushb)
def execWPopb (l : Fin 16) (s : State) : Host.Outcome State Fault Refusal :=
  .next (s.runInstr l.val 0x1B 0 (fun c => c.popOp fun p _ => p))
def execWPopa (l : Fin 16) (s : State) : Host.Outcome State Fault Refusal :=
  .next (s.runInstr l.val 0x1C 0 (fun c => c.popOp fun p b => p && b))
def execWPopo (l : Fin 16) (s : State) : Host.Outcome State Fault Refusal :=
  .next (s.runInstr l.val 0x1D 0 (fun c => c.popOp fun p b => p || b))
def execWPopx (l : Fin 16) (s : State) : Host.Outcome State Fault Refusal :=
  .next (s.runInstr l.val 0x1E 0 (fun c => c.popOp fun p b => p != b))
def execWBldf (l : Fin 16) (s : State) : Host.Outcome State Fault Refusal :=
  .next (s.runInstr l.val 0x1F 0 bBldf)
def execWLd (l : Fin 16) (s : State) : Host.Outcome State Fault Refusal :=
  .next (s.runInstr l.val 0x20 0 bLd)
def execWLdu (l : Fin 16) (s : State) : Host.Outcome State Fault Refusal :=
  .next (s.runInstr l.val 0x21 0 bLdu)
def execWSt (l : Fin 16) (s : State) : Host.Outcome State Fault Refusal :=
  .next (s.runInstr l.val 0x22 0 (fun c => c.store c.lane.wa))

end Sys2Proof.Machine
end

