-- ==== Sys2Proof/Machine/WheelMove.lean ====
section
/-! DEFINITION. Wheel instructions 0x60 to 0x7B: index registers, slot quality and time, gather and vector operations,
FIRE and RDT (Table 5.5, R121, R122). -/

namespace Sys2Proof.Machine

def bLdx (c : Ctx) : WOut :=
  match c.src false with
  | .ok v => c.ok (c.lane.setX (iXs c.word) (v.setWidth 16))
  | .error e => c.trap e

def bAddx (c : Ctx) : WOut :=
  c.ok (c.lane.setX (iXs c.word) (c.lane.xr (iXs c.word) + BitVec.ofInt 16 (iImm c.word)))

/-- WA := f of the slot's copy. -/
def Ctx.slotOp (c : Ctx) (f : Copy → W64) : WOut :=
  match c.slotNo with
  | some n => c.ok { c.lane with wa := f (c.slotView n) }
  | none => c.trap trSlot

/-- A copy faults for a gather (R122): VALID at 0, STALE at 1 or FAULT at 1. -/
def Copy.faulted (v : Copy) : Bool := v.quality &&& qValid == 0 || v.quality &&& (qStale ||| qFault) != 0

/-- Element i of the list at address a: four slot numbers to a data word (R122). -/
def Ctx.gathSlot (c : Ctx) (a i : Nat) : Nat := (c.data (a + i / 4)).toNat / 2 ^ (16 * (i % 4)) % 2 ^ 16

/-- Load the N elements of a gather whose every slot is valid: V and GQ. (DESIGN CHOICE, log entry 132.) -/
def Ctx.gathLoad (c : Ctx) (a : Nat) : Nat → Lane → Lane
  | 0, l => l
  | i + 1, l =>
    let l := c.gathLoad a i l
    let n := c.gathSlot a i
    let v := c.slotView n
    if v.faulted then
      { l.setV i (c.s.sig (c.s.slot c.ex.k n).sig).subst with gq := l.gq ||| BitVec.ofNat 16 (2 ^ i) }
    else l.setV i v.value

def bGath (c : Ctx) : WOut :=
  let n := iCount c.word
  match c.addr ((n + 3) / 4) with
  | none => c.trap trBounds
  | some a =>
    if (List.range n).all fun i => decide (c.gathSlot a i < 4096) && (c.s.slot c.ex.k (c.gathSlot a i)).used then
      let l := c.gathLoad a n { c.lane with v := [], gq := 0 }
      c.okc { l with flags := stick l.flags fGF (l.gq != 0) } (if l.gq = 0 then 0 else trGather)
    else c.trap trSlot

def bVget (c : Ctx) : WOut :=
  let o := iOpnd c.word
  let i := o % 16 + if bit o 19 then (c.lane.xr (iXs c.word)).toNat else 0
  c.ok { c.lane with wa := c.lane.vr (i % 16) }

/-- Fold V0 to V(N−1) in element order: the sticky flags of every step; the lowest enabled cause (R134). One signalling NaN alone
is an invalid operand as it is among others. -/
def Ctx.vecFold (c : Ctx) (f : W64 → W64 → FRes) : WOut :=
  let vs := (List.range (iCount c.word)).map c.lane.vr
  let step (acc : FRes) (v : W64) : FRes :=
    let r := f acc.val v
    ⟨r.val, acc.iv || r.iv, acc.dz || r.dz, acc.of_ || r.of_, acc.uf || r.uf, acc.ix || r.ix⟩
  let first := vs.headD 0
  let start : FRes := if f64IsSNaN first && vs.length == 1 then f first first else .exact first
  let r := vs.tail.foldl step start
  c.okc { c.lane with wa := r.val, flags := flagsFloat c.lane.flags r } (r.cause c.ex.mask)

/-- Order of VMED: NaN counts as larger than every number. -/
def vmedKey (v : W64) : Int := if f64IsNaN v then 2 ^ 64 else f64Key v

def vmedInsert (v : W64) : List W64 → List W64
  | [] => [v]
  | u :: us => if vmedKey v ≤ vmedKey u then v :: u :: us else u :: vmedInsert v us

def bVmed (c : Ctx) : WOut :=
  let vs := ((List.range (iCount c.word)).map c.lane.vr).foldr vmedInsert []
  c.ok { c.lane with wa := vs.getD ((vs.length - 1) / 2) 0 }

def bClf (c : Ctx) : WOut :=
  c.ok { c.lane with flags := c.lane.flags &&& ~~~ (BitVec.ofNat 10 (iOpnd c.word) &&& 0x3F8) }

/-- Modes 1 and 2 are illegal in A7 (R121); mode 3 is illegal as an encoding. -/
def bFire (c : Ctx) : WOut :=
  let m := iOpnd c.word % 4
  if m ≠ 0 ∧ c.s.taskAcct c.ex.k = 7 then c.trap trIll
  else c.ok { c.lane with ftMode := m, ftTime := if m = 0 then 0 else c.lane.wa }

def bRdt (c : Ctx) : WOut :=
  let l := c.lane
  match iOpnd c.word % 8 with
  | 0 => if c.ex.tsValid then c.ok { l with wa := c.ex.rtTs, ba := true } else c.ok { l with wa := 0, ba := false }
  | 1 => c.ok { l with wa := c.ex.relTl, ba := true }
  | 2 => c.ok { l with wa := BitVec.ofNat 64 c.ex.dt, ba := true }
  | 3 => c.ok { l with wa := l.trapCause.setWidth 64, ba := true }
  | _ => c.ok { l with wa := l.trapPc.setWidth 64, ba := true }

def execWLdx (l : Fin 16) (s : State) : Host.Outcome State Fault Refusal :=
  .next (s.runInstr l.val 0x60 0 bLdx)
def execWStx (l : Fin 16) (s : State) : Host.Outcome State Fault Refusal :=
  .next (s.runInstr l.val 0x61 0 (fun c => c.store ((c.lane.xr (iXs c.word)).setWidth 64)))
def execWAddx (l : Fin 16) (s : State) : Host.Outcome State Fault Refusal :=
  .next (s.runInstr l.val 0x62 0 bAddx)
def execWLdwx (l : Fin 16) (s : State) : Host.Outcome State Fault Refusal :=
  .next (s.runInstr l.val 0x63 0 (fun c => c.ok { c.lane with wa := (c.lane.xr (iXs c.word)).setWidth 64 }))
def execWLdq (l : Fin 16) (s : State) : Host.Outcome State Fault Refusal :=
  .next (s.runInstr l.val 0x70 0 (fun c => c.slotOp fun v => v.quality.setWidth 64))
def execWLdts (l : Fin 16) (s : State) : Host.Outcome State Fault Refusal :=
  .next (s.runInstr l.val 0x71 0 (fun c => c.slotOp fun v => v.stamp))
def execWGath (l : Fin 16) (s : State) : Host.Outcome State Fault Refusal :=
  .next (s.runInstr l.val 0x72 0 bGath)
def execWVget (l : Fin 16) (s : State) : Host.Outcome State Fault Refusal :=
  .next (s.runInstr l.val 0x73 0 bVget)
def execWVmax (l : Fin 16) (s : State) : Host.Outcome State Fault Refusal :=
  .next (s.runInstr l.val 0x74 0 (fun c => c.vecFold f64Max))
def execWVmin (l : Fin 16) (s : State) : Host.Outcome State Fault Refusal :=
  .next (s.runInstr l.val 0x75 0 (fun c => c.vecFold f64Min))
def execWVsum (l : Fin 16) (s : State) : Host.Outcome State Fault Refusal :=
  .next (s.runInstr l.val 0x76 0 (fun c => c.vecFold f64Add))
def execWVmed (l : Fin 16) (s : State) : Host.Outcome State Fault Refusal :=
  .next (s.runInstr l.val 0x77 0 bVmed)
def execWLdgq (l : Fin 16) (s : State) : Host.Outcome State Fault Refusal :=
  .next (s.runInstr l.val 0x78 0 (fun c => c.ok { c.lane with wa := c.lane.gq.setWidth 64 }))
def execWClf (l : Fin 16) (s : State) : Host.Outcome State Fault Refusal :=
  .next (s.runInstr l.val 0x79 0 bClf)
def execWFire (l : Fin 16) (s : State) : Host.Outcome State Fault Refusal :=
  .next (s.runInstr l.val 0x7A 0 bFire)
def execWRdt (l : Fin 16) (s : State) : Host.Outcome State Fault Refusal :=
  .next (s.runInstr l.val 0x7B 0 bRdt)

end Sys2Proof.Machine
end

