-- ==== Sys2Proof/Machine/WheelTill.lean ====
section
/-! DEFINITION. Wheel instructions 0x80 to 0x87: tills and requests (R123, R124). The two wheels of A7 run the same
instruction once each: the second gets the result of the first, and PUSHT words and REQ items are held until both have
reached END (R139). -/

namespace Sys2Proof.Machine

def Ctx.acct (c : Ctx) : Nat := c.s.taskAcct c.ex.k
def Ctx.tillNo (c : Ctx) : Nat := iOpnd c.word % 16

/-- The result the other wheel of A7 has already drawn for this wheel's next till or request instruction. -/
def Ctx.logged (c : Ctx) : Option (W64 × Option Bool) :=
  if c.ex.lanes.length < 2 then none
  else (c.ex.lanes.getD (1 - c.copy) .init).tillLog[c.lane.tillLog.length]?

/-- Give WA and BA the result and note it for the other wheel. -/
def Ctx.tillResult (c : Ctx) (s : State) (wa : W64) (ba : Option Bool) (cause : Nat) : WOut :=
  let l := { c.lane with wa := wa, ba := ba.getD c.lane.ba, tillLog := c.lane.tillLog ++ [(wa, ba)] }
  { c.okc l cause with s := s }

/-- The task must be the consumer (R123). -/
def Ctx.consumer (c : Ctx) : Bool := c.s.tillConsumer c.acct c.tillNo c.ex.k

/-- Words of A7 held for a till and not yet queued. -/
def Lane.heldFor (l : Lane) (t : Nat) : Nat :=
  (l.held.filter fun p => match p with | .push u _ => u == t | _ => false).length

def bPusht (c : Ctx) : WOut :=
  let a := c.acct
  let t := c.tillNo
  if !c.s.tillProducer a t c.ex.k then c.trap trTill
  else if 1 < c.ex.lanes.length then
    let fits := match c.logged with
      | some (_, b) => b.getD false
      | none => decide (c.lane.heldFor t < c.s.tillFree a t)
    if fits then
      let p := ComparePoint.push t c.lane.wa
      let o := c.tillResult c.s c.lane.wa (some true) 0
      { o with lane := { o.lane with held := o.lane.held ++ [p] }, points := [p] }
    else c.tillResult c.s c.lane.wa (some false) trNospace
  else
    match c.s.tillWrite a t c.lane.wa with
    | some s => c.tillResult s c.lane.wa (some true) 0
    | none => c.tillResult c.s c.lane.wa (some false) trNospace

def bPopt (ecc : Ecc) (c : Ctx) : WOut :=
  if !c.consumer then c.trap trTill
  else
    match c.logged with
    | some (v, b) => c.tillResult c.s v b 0
    | none =>
      let (v, moved, _, s) := c.s.tillRead c.acct c.tillNo ecc
      c.tillResult s v (some moved) 0

/-- MARK, REWIND, RELEASE. -/
def Ctx.tillCtl (c : Ctx) (cmd : Nat) : WOut :=
  if !c.consumer then c.trap trTill
  else
    match c.logged with
    | some _ => c.tillResult c.s c.lane.wa none 0
    | none => c.tillResult (c.s.tillCmd c.acct c.tillNo cmd) c.lane.wa none 0

/-- TUNR and TFREE. -/
def Ctx.tillAsk (c : Ctx) (f : Nat → Nat → Nat) : WOut :=
  if !c.consumer then c.trap trTill
  else
    match c.logged with
    | some (v, _) => c.tillResult c.s v none 0
    | none => c.tillResult c.s (BitVec.ofNat 64 (f c.acct c.tillNo)) none 0

/-- Words of a request item: one header word and the LENGTH words of its payload (R319, Table 13.7). -/
def reqWords (header : W64) : Nat := 1 + hLength header

/-- REQ (R124): the item is taken unless its status is TOOBIG or another refusal; A7's is held. -/
def bReq (c : Ctx) : WOut :=
  match c.addr 1 with
  | none => c.trap trBounds
  | some a0 =>
    let n := reqWords (c.data a0)
    match c.addr n with
    | none => c.trap trBounds
    | some a =>
      let item := (List.range n).map fun i => c.data (a + i)
      let st := match c.logged with | some (v, _) => v.toNat | none => c.s.reqStatus c.acct item
      let taken := decide (st ≤ 1)
      let extra (l : Lane) : Lane := { l with cycles := l.cycles + (n + 7) / 8 }
      if 1 < c.ex.lanes.length then
        let s := if taken || c.logged.isSome then c.s else c.s.reqIssue c.acct item
        let o := c.tillResult s (BitVec.ofNat 64 st) (some taken) 0
        let p := ComparePoint.req item
        { o with lane := extra { o.lane with held := if taken then o.lane.held ++ [p] else o.lane.held }, points := [p] }
      else
        let o := c.tillResult (c.s.reqIssue c.acct item) (BitVec.ofNat 64 st) (some taken) 0
        { o with lane := extra o.lane }

def execWPopt (l : Fin 16) (ecc : Ecc) (s : State) : Host.Outcome State Fault Refusal :=
  .next (s.runInstr l.val 0x81 0 (bPopt ecc))
def execWPusht (l : Fin 16) (s : State) : Host.Outcome State Fault Refusal :=
  .next (s.runInstr l.val 0x80 0 bPusht)
def execWTmark (l : Fin 16) (s : State) : Host.Outcome State Fault Refusal :=
  .next (s.runInstr l.val 0x82 0 (fun c => c.tillCtl 1))
def execWTrew (l : Fin 16) (s : State) : Host.Outcome State Fault Refusal :=
  .next (s.runInstr l.val 0x83 0 (fun c => c.tillCtl 2))
def execWTrel (l : Fin 16) (s : State) : Host.Outcome State Fault Refusal :=
  .next (s.runInstr l.val 0x84 0 (fun c => c.tillCtl 3))
def execWTunr (l : Fin 16) (s : State) : Host.Outcome State Fault Refusal :=
  .next (s.runInstr l.val 0x85 0 (fun c => c.tillAsk fun a t => (c.s.till a t).unread))
def execWTfree (l : Fin 16) (s : State) : Host.Outcome State Fault Refusal :=
  .next (s.runInstr l.val 0x86 0 (fun c => c.tillAsk fun a t => c.s.tillFree a t))
def execWReq (l : Fin 16) (s : State) : Host.Outcome State Fault Refusal :=
  .next (s.runInstr l.val 0x87 0 bReq)

end Sys2Proof.Machine
end

