-- ==== Sys2Proof/Machine/Dispatch.lean ====
section
/-! DEFINITION. One arm per command: a direct call of its meaning. -/

namespace Sys2Proof.Machine

def exec (i : Instr) (s : State) : Host.Outcome State Fault Refusal :=
  match i with
  | .mateContactChange contact closed => Sys2Proof.Machine.execMateContactChange contact closed s
  | .mateFilterPass straps => Sys2Proof.Machine.execMateFilterPass straps s
  | .oneMateClosed5s => Sys2Proof.Machine.execOneMateClosed5s s
  | .unmated => Sys2Proof.Machine.execUnmated s
  | .lampTestEnd => Sys2Proof.Machine.execLampTestEnd s
  | .sealScan phase1 phase2 => Sys2Proof.Machine.execSealScan phase1 phase2 s
  | .maintHoldEnd => Sys2Proof.Machine.execMaintHoldEnd s
  | .feedMeasure f1 f2 => Sys2Proof.Machine.execFeedMeasure f1 f2 s
  | .feedValid f => Sys2Proof.Machine.execFeedValid f s
  | .feedUndervoltage f => Sys2Proof.Machine.execFeedUndervoltage f s
  | .feedOvervoltage f => Sys2Proof.Machine.execFeedOvervoltage f s
  | .holdupDip store => Sys2Proof.Machine.execHoldupDip store s
  | .powerFailDeclared => Sys2Proof.Machine.execPowerFailDeclared s
  | .storeExhausted => Sys2Proof.Machine.execStoreExhausted s
  | .fsStateChange sl v => Sys2Proof.Machine.execFsStateChange sl v s
  | .domainTrip d => Sys2Proof.Machine.execDomainTrip d s
  | .domainRetry d => Sys2Proof.Machine.execDomainRetry d s
  | .holdupChargeMeasure riseUs => Sys2Proof.Machine.execHoldupChargeMeasure riseUs s
  | .holdupTestStart => Sys2Proof.Machine.execHoldupTestStart s
  | .holdupTestEnd timeUs dropMv => Sys2Proof.Machine.execHoldupTestEnd timeUs dropMv s
  | .holdupStoreCharged => Sys2Proof.Machine.execHoldupStoreCharged s
  | .holdupChargeTimeout => Sys2Proof.Machine.execHoldupChargeTimeout s
  | .thermalSample n t => Sys2Proof.Machine.execThermalSample n t s
  | .sensorIncluded n => Sys2Proof.Machine.execSensorIncluded n s
  | .thermalRestart => Sys2Proof.Machine.execThermalRestart s
  | .tcxoCheck ppm => Sys2Proof.Machine.execTcxoCheck ppm s
  | .pllUnlock => Sys2Proof.Machine.execPllUnlock s
  | .startSequenceBegin => Sys2Proof.Machine.execStartSequenceBegin s
  | .cfgHeadersRead sfdpA sfdpB => Sys2Proof.Machine.execCfgHeadersRead sfdpA sfdpB s
  | .candidateChecked bank timedOut => Sys2Proof.Machine.execCandidateChecked bank timedOut s
  | .imageApply cmpReports => Sys2Proof.Machine.execImageApply cmpReports s
  | .settlingEnd => Sys2Proof.Machine.execSettlingEnd s
  | .roleDecision => Sys2Proof.Machine.execRoleDecision s
  | .startRelease => Sys2Proof.Machine.execStartRelease s
  | .sysRestart ses v => Sys2Proof.Machine.execSysRestart ses v s
  | .cfgWrStart ses v => Sys2Proof.Machine.execCfgWrStart ses v s
  | .cfgWrEraseDone => Sys2Proof.Machine.execCfgWrEraseDone s
  | .cfgWrData ses v => Sys2Proof.Machine.execCfgWrData ses v s
  | .cfgWrCommit ses v => Sys2Proof.Machine.execCfgWrCommit ses v s
  | .cfgWrCommitDone verified => Sys2Proof.Machine.execCfgWrCommitDone verified s
  | .cfgWrAbort ses v => Sys2Proof.Machine.execCfgWrAbort ses v s
  | .cfgWrTimeout => Sys2Proof.Machine.execCfgWrTimeout s
  | .registerWrite ses addr v => Sys2Proof.Machine.execRegisterWrite ses addr v s
  | .dataWindowAddrWrite ses addr v => Sys2Proof.Machine.execDataWindowAddrWrite ses addr v s
  | .dataWindowDataAccess ses addr v => Sys2Proof.Machine.execDataWindowDataAccess ses addr v s
  | .windowClaimTimeout addr => Sys2Proof.Machine.execWindowClaimTimeout addr s
  | .acctCtrlReset ses a key => Sys2Proof.Machine.execAcctCtrlReset ses a key s
  | .acctResetComplete a => Sys2Proof.Machine.execAcctResetComplete a s
  | .acctCtrlFault ses a key => Sys2Proof.Machine.execAcctCtrlFault ses a key s
  | .acctKeyWrite ses a v => Sys2Proof.Machine.execAcctKeyWrite ses a v s
  | .tillMark ses a t => Sys2Proof.Machine.execTillMark ses a t s
  | .tillRewind ses a t => Sys2Proof.Machine.execTillRewind ses a t s
  | .tillRelease ses a t => Sys2Proof.Machine.execTillRelease ses a t s
  | .tillDataLoRead ses a t ecc => Sys2Proof.Machine.execTillDataLoRead ses a t ecc s
  | .tillDataHiRead ses a t => Sys2Proof.Machine.execTillDataHiRead ses a t s
  | .tillDataLoWrite ses a t v => Sys2Proof.Machine.execTillDataLoWrite ses a t v s
  | .tillDataHiWrite ses a t v => Sys2Proof.Machine.execTillDataHiWrite ses a t v s
  | .requestAdmitWaiting a => Sys2Proof.Machine.execRequestAdmitWaiting a s
  | .tillScrub errs => Sys2Proof.Machine.execTillScrub errs s
  | .mgmtOpen1 f => Sys2Proof.Machine.execMgmtOpen1 f s
  | .mgmtOpen2 f => Sys2Proof.Machine.execMgmtOpen2 f s
  | .mgmtRead f ecc => Sys2Proof.Machine.execMgmtRead f ecc s
  | .mgmtWrite f => Sys2Proof.Machine.execMgmtWrite f s
  | .mgmtReadRepeat f ecc => Sys2Proof.Machine.execMgmtReadRepeat f ecc s
  | .mgmtWriteRepeat f => Sys2Proof.Machine.execMgmtWriteRepeat f s
  | .mgmtClose f => Sys2Proof.Machine.execMgmtClose f s
  | .mgmtUnknownOp f => Sys2Proof.Machine.execMgmtUnknownOp f s
  | .sessionCtrlClose ses n key => Sys2Proof.Machine.execSessionCtrlClose ses n key s
  | .sessionIdleTimeout n => Sys2Proof.Machine.execSessionIdleTimeout n s
  | .openResponseTimeout n => Sys2Proof.Machine.execOpenResponseTimeout n s
  | .lockoutExpiry source => Sys2Proof.Machine.execLockoutExpiry source s
  | .illegalInstruction l => Sys2Proof.Machine.execIllegalInstruction l s
  | .wNop l => Sys2Proof.Machine.execWNop l s
  | .wEnd l ns cmpReports => Sys2Proof.Machine.execWEnd l ns cmpReports s
  | .wJmp l => Sys2Proof.Machine.execWJmp l s
  | .wJc l => Sys2Proof.Machine.execWJc l s
  | .wJcn l => Sys2Proof.Machine.execWJcn l s
  | .wCall l => Sys2Proof.Machine.execWCall l s
  | .wRet l => Sys2Proof.Machine.execWRet l s
  | .wTrap l => Sys2Proof.Machine.execWTrap l s
  | .wRtt l => Sys2Proof.Machine.execWRtt l s
  | .wLoop l => Sys2Proof.Machine.execWLoop l s
  | .wBld l => Sys2Proof.Machine.execWBld l s
  | .wBldn l => Sys2Proof.Machine.execWBldn l s
  | .wBand l => Sys2Proof.Machine.execWBand l s
  | .wBandn l => Sys2Proof.Machine.execWBandn l s
  | .wBor l => Sys2Proof.Machine.execWBor l s
  | .wBorn l => Sys2Proof.Machine.execWBorn l s
  | .wBxor l => Sys2Proof.Machine.execWBxor l s
  | .wBnot l => Sys2Proof.Machine.execWBnot l s
  | .wBst l => Sys2Proof.Machine.execWBst l s
  | .wBstn l => Sys2Proof.Machine.execWBstn l s
  | .wPushb l => Sys2Proof.Machine.execWPushb l s
  | .wPopb l => Sys2Proof.Machine.execWPopb l s
  | .wPopa l => Sys2Proof.Machine.execWPopa l s
  | .wPopo l => Sys2Proof.Machine.execWPopo l s
  | .wPopx l => Sys2Proof.Machine.execWPopx l s
  | .wBldf l => Sys2Proof.Machine.execWBldf l s
  | .wLd l => Sys2Proof.Machine.execWLd l s
  | .wLdu l => Sys2Proof.Machine.execWLdu l s
  | .wSt l => Sys2Proof.Machine.execWSt l s
  | .wAdd l => Sys2Proof.Machine.execWAdd l s
  | .wSub l => Sys2Proof.Machine.execWSub l s
  | .wMul l => Sys2Proof.Machine.execWMul l s
  | .wDiv l => Sys2Proof.Machine.execWDiv l s
  | .wMod l => Sys2Proof.Machine.execWMod l s
  | .wAnd l => Sys2Proof.Machine.execWAnd l s
  | .wOr l => Sys2Proof.Machine.execWOr l s
  | .wXor l => Sys2Proof.Machine.execWXor l s
  | .wShl l => Sys2Proof.Machine.execWShl l s
  | .wShr l => Sys2Proof.Machine.execWShr l s
  | .wSar l => Sys2Proof.Machine.execWSar l s
  | .wNeg l => Sys2Proof.Machine.execWNeg l s
  | .wAbs l => Sys2Proof.Machine.execWAbs l s
  | .wCeq l => Sys2Proof.Machine.execWCeq l s
  | .wCne l => Sys2Proof.Machine.execWCne l s
  | .wClt l => Sys2Proof.Machine.execWClt l s
  | .wCle l => Sys2Proof.Machine.execWCle l s
  | .wCgt l => Sys2Proof.Machine.execWCgt l s
  | .wCge l => Sys2Proof.Machine.execWCge l s
  | .wCltu l => Sys2Proof.Machine.execWCltu l s
  | .wCgeu l => Sys2Proof.Machine.execWCgeu l s
  | .wFadd l => Sys2Proof.Machine.execWFadd l s
  | .wFsub l => Sys2Proof.Machine.execWFsub l s
  | .wFmul l => Sys2Proof.Machine.execWFmul l s
  | .wFdiv l => Sys2Proof.Machine.execWFdiv l s
  | .wFmin l => Sys2Proof.Machine.execWFmin l s
  | .wFmax l => Sys2Proof.Machine.execWFmax l s
  | .wFsqrt l => Sys2Proof.Machine.execWFsqrt l s
  | .wFabs l => Sys2Proof.Machine.execWFabs l s
  | .wFneg l => Sys2Proof.Machine.execWFneg l s
  | .wItof l => Sys2Proof.Machine.execWItof l s
  | .wFtoi l => Sys2Proof.Machine.execWFtoi l s
  | .wFceq l => Sys2Proof.Machine.execWFceq l s
  | .wFcne l => Sys2Proof.Machine.execWFcne l s
  | .wFclt l => Sys2Proof.Machine.execWFclt l s
  | .wFcle l => Sys2Proof.Machine.execWFcle l s
  | .wFcgt l => Sys2Proof.Machine.execWFcgt l s
  | .wFcge l => Sys2Proof.Machine.execWFcge l s
  | .wLdx l => Sys2Proof.Machine.execWLdx l s
  | .wStx l => Sys2Proof.Machine.execWStx l s
  | .wAddx l => Sys2Proof.Machine.execWAddx l s
  | .wLdwx l => Sys2Proof.Machine.execWLdwx l s
  | .wLdq l => Sys2Proof.Machine.execWLdq l s
  | .wLdts l => Sys2Proof.Machine.execWLdts l s
  | .wGath l => Sys2Proof.Machine.execWGath l s
  | .wVget l => Sys2Proof.Machine.execWVget l s
  | .wVmax l => Sys2Proof.Machine.execWVmax l s
  | .wVmin l => Sys2Proof.Machine.execWVmin l s
  | .wVsum l => Sys2Proof.Machine.execWVsum l s
  | .wVmed l => Sys2Proof.Machine.execWVmed l s
  | .wLdgq l => Sys2Proof.Machine.execWLdgq l s
  | .wClf l => Sys2Proof.Machine.execWClf l s
  | .wFire l => Sys2Proof.Machine.execWFire l s
  | .wRdt l => Sys2Proof.Machine.execWRdt l s
  | .wPusht l => Sys2Proof.Machine.execWPusht l s
  | .wPopt l ecc => Sys2Proof.Machine.execWPopt l ecc s
  | .wTmark l => Sys2Proof.Machine.execWTmark l s
  | .wTrew l => Sys2Proof.Machine.execWTrew l s
  | .wTrel l => Sys2Proof.Machine.execWTrel l s
  | .wTunr l => Sys2Proof.Machine.execWTunr l s
  | .wTfree l => Sys2Proof.Machine.execWTfree l s
  | .wReq l => Sys2Proof.Machine.execWReq l s
  | .wPid l => Sys2Proof.Machine.execWPid l s
  | .wRamp l => Sys2Proof.Machine.execWRamp l s
  | .wLim l => Sys2Proof.Machine.execWLim l s
  | .wFilt l => Sys2Proof.Machine.execWFilt l s
  | .wRoc l => Sys2Proof.Machine.execWRoc l s
  | .wHyst l => Sys2Proof.Machine.execWHyst l s
  | .wTmr l => Sys2Proof.Machine.execWTmr l s
  | .comparePointTimeout lane => Sys2Proof.Machine.execComparePointTimeout lane s
  | .dataWinDataWrite ses k v => Sys2Proof.Machine.execDataWinDataWrite ses k v s
  | .dataPlaneTick => Sys2Proof.Machine.execDataPlaneTick s
  | .taskRelease k => Sys2Proof.Machine.execTaskRelease k s
  | .snapshotComplete k ns => Sys2Proof.Machine.execSnapshotComplete k ns s
  | .mergeComplete ns => Sys2Proof.Machine.execMergeComplete ns s
  | .overrunCheck k => Sys2Proof.Machine.execOverrunCheck k s
  | .signalStale sig => Sys2Proof.Machine.execSignalStale sig s
  | .sigWinDataWrite ses a v => Sys2Proof.Machine.execSigWinDataWrite ses a v s
  | .forceSignalWrite ses a v => Sys2Proof.Machine.execForceSignalWrite ses a v s
  | .forceSet ses a key => Sys2Proof.Machine.execForceSet ses a key s
  | .forceClear ses a key => Sys2Proof.Machine.execForceClear ses a key s
  | .forceClearAll ses a key => Sys2Proof.Machine.execForceClearAll ses a key s
  | .imageScrub errs => Sys2Proof.Machine.execImageScrub errs s
  | .firingAdmission => Sys2Proof.Machine.execFiringAdmission s
  | .firingApply => Sys2Proof.Machine.execFiringApply s
  | .fireListAddrWrite ses a v => Sys2Proof.Machine.execFireListAddrWrite ses a v s
  | .analogueSample g m => Sys2Proof.Machine.execAnalogueSample g m s
  | .readbackSample g m => Sys2Proof.Machine.execReadbackSample g m s
  | .curInOverload g => Sys2Proof.Machine.execCurInOverload g s
  | .curInProtectRetry g exceeds => Sys2Proof.Machine.execCurInProtectRetry g exceeds s
  | .voltOutOverload g => Sys2Proof.Machine.execVoltOutOverload g s
  | .voltOutRetry g => Sys2Proof.Machine.execVoltOutRetry g s
  | .analogueChCfgWrite ses g v => Sys2Proof.Machine.execAnalogueChCfgWrite ses g v s
  | .analogueReconfigDone g => Sys2Proof.Machine.execAnalogueReconfigDone g s
  | .hartCfgWrite ses g v => Sys2Proof.Machine.execHartCfgWrite ses g v s
  | .hartPoll g => Sys2Proof.Machine.execHartPoll g s
  | .hartReply g r => Sys2Proof.Machine.execHartReply g r s
  | .hartBurstFrame g => Sys2Proof.Machine.execHartBurstFrame g s
  | .hartTimeout g => Sys2Proof.Machine.execHartTimeout g s
  | .hartIdentRetry g => Sys2Proof.Machine.execHartIdentRetry g s
  | .hartPassthroughRequest a sl ecc => Sys2Proof.Machine.execHartPassthroughRequest a sl ecc s
  | .hartZMeasure g z1200 z2200 overlap => Sys2Proof.Machine.execHartZMeasure g z1200 z2200 overlap s
  | .hartZBaseWrite ses g v => Sys2Proof.Machine.execHartZBaseWrite ses g v s
  | .hartResume g => Sys2Proof.Machine.execHartResume g s
  | .levelFilterPass n level => Sys2Proof.Machine.execLevelFilterPass n level s
  | .lineMonOpen n below => Sys2Proof.Machine.execLineMonOpen n below s
  | .edgeAccepted n level time => Sys2Proof.Machine.execEdgeAccepted n level time s
  | .quadVelocityUpdate n => Sys2Proof.Machine.execQuadVelocityUpdate n s
  | .loadCurrentUpdate n ma termV fsMa => Sys2Proof.Machine.execLoadCurrentUpdate n ma termV fsMa s
  | .cntClear ses n key => Sys2Proof.Machine.execCntClear ses n key s
  | .cntPreset ses n key => Sys2Proof.Machine.execCntPreset ses n key s
  | .outputThermalOff n => Sys2Proof.Machine.execOutputThermalOff n s
  | .outputThermalRetry n => Sys2Proof.Machine.execOutputThermalRetry n s
  | .sliceOvercurrentTrip sl ma => Sys2Proof.Machine.execSliceOvercurrentTrip sl ma s
  | .sliceOvercurrentResume sl => Sys2Proof.Machine.execSliceOvercurrentResume sl s
  | .dsCtrlRestore ses sl key => Sys2Proof.Machine.execDsCtrlRestore ses sl key s
  | .extdrvChange n on termV => Sys2Proof.Machine.execExtdrvChange n on termV s
  | .outputConditionChange n c on => Sys2Proof.Machine.execOutputConditionChange n c on s
  | .digitalChCfgWrite ses n v => Sys2Proof.Machine.execDigitalChCfgWrite ses n v s
  | .digitalReconfigDone n => Sys2Proof.Machine.execDigitalReconfigDone n s
  | .sliceLinkFrameReceived sl down line => Sys2Proof.Machine.execSliceLinkFrameReceived sl down line s
  | .sliceLinkRunTimeout sl => Sys2Proof.Machine.execSliceLinkRunTimeout sl s
  | .ptpInterval => Sys2Proof.Machine.execPtpInterval s
  | .ptpSyncReceived m => Sys2Proof.Machine.execPtpSyncReceived m s
  | .ptpFollowUpReceived m => Sys2Proof.Machine.execPtpFollowUpReceived m s
  | .ptpAnnounceReceived m => Sys2Proof.Machine.execPtpAnnounceReceived m s
  | .ptpPdelayReqReceived m => Sys2Proof.Machine.execPtpPdelayReqReceived m s
  | .ptpPdelayRespReceived m => Sys2Proof.Machine.execPtpPdelayRespReceived m s
  | .pdelayTimeout p => Sys2Proof.Machine.execPdelayTimeout p s
  | .announceReceiptTimeout plane => Sys2Proof.Machine.execAnnounceReceiptTimeout plane s
  | .tsRevert => Sys2Proof.Machine.execTsRevert s
  | .tsSlewComplete => Sys2Proof.Machine.execTsSlewComplete s
  | .holdoverLimit => Sys2Proof.Machine.execHoldoverLimit s
  | .timeSetWrite ses addr v => Sys2Proof.Machine.execTimeSetWrite ses addr v s
  | .domCfgWrite ses plane v => Sys2Proof.Machine.execDomCfgWrite ses plane v s
  | .abOffsetAlarm => Sys2Proof.Machine.execAbOffsetAlarm s
  | .transceiverInserted p => Sys2Proof.Machine.execTransceiverInserted p s
  | .transceiverIdRead p id => Sys2Proof.Machine.execTransceiverIdRead p id s
  | .portLinkUp p => Sys2Proof.Machine.execPortLinkUp p s
  | .portLinkDown p => Sys2Proof.Machine.execPortLinkDown p s
  | .supervisionSend => Sys2Proof.Machine.execSupervisionSend s
  | .supervisionReceived f => Sys2Proof.Machine.execSupervisionReceived f s
  | .segmentTimeout p member => Sys2Proof.Machine.execSegmentTimeout p member s
  | .announceSend => Sys2Proof.Machine.execAnnounceSend s
  | .heartbeatFlagChange => Sys2Proof.Machine.execHeartbeatFlagChange s
  | .announceReceived f => Sys2Proof.Machine.execAnnounceReceived f s
  | .peerLost peer => Sys2Proof.Machine.execPeerLost peer s
  | .publicationSend n => Sys2Proof.Machine.execPublicationSend n s
  | .publicationReceived f => Sys2Proof.Machine.execPublicationReceived f s
  | .netIssueDataWrite ses a v => Sys2Proof.Machine.execNetIssueDataWrite ses a v s
  | .tagGrant a peer => Sys2Proof.Machine.execTagGrant a peer s
  | .requestTagTimeout a q => Sys2Proof.Machine.execRequestTagTimeout a q s
  | .tagDeadline tag => Sys2Proof.Machine.execTagDeadline tag s
  | .tagRetry tag => Sys2Proof.Machine.execTagRetry tag s
  | .tagQuarantineEnd tag => Sys2Proof.Machine.execTagQuarantineEnd tag s
  | .requestReceived f acct => Sys2Proof.Machine.execRequestReceived f acct s
  | .replyReceived f => Sys2Proof.Machine.execReplyReceived f s
  | .incomingRequestExpire source handle => Sys2Proof.Machine.execIncomingRequestExpire source handle s
  | .rztOpenSend c => Sys2Proof.Machine.execRztOpenSend c s
  | .rztOpenReceived f => Sys2Proof.Machine.execRztOpenReceived f s
  | .rztAcceptReceived f => Sys2Proof.Machine.execRztAcceptReceived f s
  | .rztDataSend c => Sys2Proof.Machine.execRztDataSend c s
  | .rztCheckReceived f => Sys2Proof.Machine.execRztCheckReceived f s
  | .rztDataReceived f => Sys2Proof.Machine.execRztDataReceived f s
  | .rztAssayTimeout c => Sys2Proof.Machine.execRztAssayTimeout c s
  | .rztWatchdog c => Sys2Proof.Machine.execRztWatchdog c s
  | .rztFaultRetry c => Sys2Proof.Machine.execRztFaultRetry c s
  | .rztRefusedRetry c => Sys2Proof.Machine.execRztRefusedRetry c s
  | .rztDegradedLimit c => Sys2Proof.Machine.execRztDegradedLimit c s
  | .ledgerFrameReceived f spaced age => Sys2Proof.Machine.execLedgerFrameReceived f spaced age s
  | .relinquishReceived f spaced age => Sys2Proof.Machine.execRelinquishReceived f spaced age s
  | .ledgerLinkLost lock => Sys2Proof.Machine.execLedgerLinkLost lock s
  | .peerAbsent => Sys2Proof.Machine.execPeerAbsent s
  | .journalResend => Sys2Proof.Machine.execJournalResend s
  | .takeover => Sys2Proof.Machine.execTakeover s
  | .pairHandover ses key => Sys2Proof.Machine.execPairHandover ses key s
  | .pairAssume ses key => Sys2Proof.Machine.execPairAssume ses key s
  | .handoverActionDue => Sys2Proof.Machine.execHandoverActionDue s
  | .handoverWindowEnd => Sys2Proof.Machine.execHandoverWindowEnd s
  | .reclaimTimer => Sys2Proof.Machine.execReclaimTimer s
  | .roleSwapDue => Sys2Proof.Machine.execRoleSwapDue s
  | .canTxItemRead n ecc => Sys2Proof.Machine.execCanTxItemRead n ecc s
  | .canTxComplete n sof tdcv => Sys2Proof.Machine.execCanTxComplete n sof tdcv s
  | .canTxError n code dataPhase exempt => Sys2Proof.Machine.execCanTxError n code dataPhase exempt s
  | .canBusoffRecovery n => Sys2Proof.Machine.execCanBusoffRecovery n s
  | .canIntegrated n => Sys2Proof.Machine.execCanIntegrated n s
  | .canRxFrame n f => Sys2Proof.Machine.execCanRxFrame n f s
  | .canRxItemWrite n => Sys2Proof.Machine.execCanRxItemWrite n s
  | .canConfigApply n => Sys2Proof.Machine.execCanConfigApply n s
  | .managementCycle => Sys2Proof.Machine.execManagementCycle s
  | .vaultPageTimeout => Sys2Proof.Machine.execVaultPageTimeout s
  | .vaultPageVerified outcome => Sys2Proof.Machine.execVaultPageVerified outcome s
  | .vaultFaultFlushDone us => Sys2Proof.Machine.execVaultFaultFlushDone us s
  | .vaultClosingFlushDone us => Sys2Proof.Machine.execVaultClosingFlushDone us s
  | .vaultEraseDone dev ok => Sys2Proof.Machine.execVaultEraseDone dev ok s
  | .vaultRecoveryDone r => Sys2Proof.Machine.execVaultRecoveryDone r s
  | .vaultWinDataRead ses => Sys2Proof.Machine.execVaultWinDataRead ses s
  | .wheelTestDone w checkpoint misr => Sys2Proof.Machine.execWheelTestDone w checkpoint misr s
  | .wheelRetestDone w agreed => Sys2Proof.Machine.execWheelRetestDone w agreed s
  | .fuseBurnDone w => Sys2Proof.Machine.execFuseBurnDone w s
  | .rotationStep => Sys2Proof.Machine.execRotationStep s
  | .sparePrepared => Sys2Proof.Machine.execSparePrepared s
  | .wheelSwitch => Sys2Proof.Machine.execWheelSwitch s
  | .rotationSkip => Sys2Proof.Machine.execRotationSkip s
  | .wheelLost w why => Sys2Proof.Machine.execWheelLost w why s
  | .spareLoaded l => Sys2Proof.Machine.execSpareLoaded l s
  | .wheelScrub errs => Sys2Proof.Machine.execWheelScrub errs s
  | .ledgerScrub errs => Sys2Proof.Machine.execLedgerScrub errs s
  | .panelWinDataWrite ses v => Sys2Proof.Machine.execPanelWinDataWrite ses v s
  | .panelFrameScan => Sys2Proof.Machine.execPanelFrameScan s
  | .panelPowerUp => Sys2Proof.Machine.execPanelPowerUp s
  | .panelRailTimeout => Sys2Proof.Machine.execPanelRailTimeout s
  | .panelRailRetry => Sys2Proof.Machine.execPanelRailRetry s
  | .panelPowerDown => Sys2Proof.Machine.execPanelPowerDown s
  | .linkOutsideRunTimeout sl => Sys2Proof.Machine.execLinkOutsideRunTimeout sl s
  | .cfgWrPageProgrammed => Sys2Proof.Machine.execCfgWrPageProgrammed s
  | .frameForward p source dest fcs len => Sys2Proof.Machine.execFrameForward p source dest fcs len s
  | .transceiverRemoved p => Sys2Proof.Machine.execTransceiverRemoved p s
  | .peerPresentSeated => Sys2Proof.Machine.execPeerPresentSeated s
  | .canBusError n code dataPhase first => Sys2Proof.Machine.execCanBusError n code dataPhase first s
  | .storeConverterCarry store => Sys2Proof.Machine.execStoreConverterCarry store s
  | .outputStageThermalShutdown g => Sys2Proof.Machine.execOutputStageThermalShutdown g s
  | .outputStageThermalRetry g => Sys2Proof.Machine.execOutputStageThermalRetry g s
  | .currentLimitChange n on => Sys2Proof.Machine.execCurrentLimitChange n on s

end Sys2Proof.Machine
end

