-- ==== Sys2Proof/WellFormed.lean ====
section
/-! DEFINITION. Well-formed commands: the relations between operands that the types of Instr do not carry. A word written to
CFG_WR_CTRL carries the CMD of its row, a window access names a window register, a management frame carries the OP of its row, a
measurement is a finite number, a HART line holds whole characters, a CAN frame has a length its bus can carry. -/

namespace Sys2Proof

/-- The command can be sent: its operands agree with one another and with its row. (DEDUCED, log entry 8.) -/
def Instr.wf (i : Instr) : Bool :=
  match i with
  | .mateContactChange _ _ => true
  | .mateFilterPass _ => true
  | .oneMateClosed5s => true
  | .unmated => true
  | .lampTestEnd => true
  | .sealScan _ _ => true
  | .maintHoldEnd => true
  | .feedMeasure _ _ => true
  | .feedValid _ => true
  | .feedUndervoltage _ => true
  | .feedOvervoltage _ => true
  | .holdupDip _ => true
  | .powerFailDeclared => true
  | .storeExhausted => true
  | .fsStateChange _ _ => true
  | .domainTrip _ => true
  | .domainRetry _ => true
  | .holdupChargeMeasure _ => true
  | .holdupTestStart => true
  | .holdupTestEnd _ _ => true
  | .holdupStoreCharged => true
  | .holdupChargeTimeout => true
  | .thermalSample _ _ => true
  | .sensorIncluded _ => true
  | .thermalRestart => true
  | .tcxoCheck _ => true
  | .pllUnlock => true
  | .startSequenceBegin => true
  | .cfgHeadersRead _ _ => true
  | .candidateChecked _ _ => true
  | .imageApply _ => true
  | .settlingEnd => true
  | .roleDecision => true
  | .startRelease => true
  | .sysRestart _ _ => true
  | .cfgWrStart _ v => decide (Machine.bits v.toNat 3 0 = 1)
  | .cfgWrEraseDone => true
  | .cfgWrData _ _ => true
  | .cfgWrCommit _ v => decide (Machine.bits v.toNat 3 0 = 2)
  | .cfgWrCommitDone _ => true
  | .cfgWrAbort _ v => decide (Machine.bits v.toNat 3 0 = 3)
  | .cfgWrTimeout => true
  | .registerWrite _ _ _ => true
  | .dataWindowAddrWrite _ addr _ => Machine.isWinAddrAt addr.toNat
  | .dataWindowDataAccess _ addr _ => Machine.isWinDataAt addr.toNat
  | .windowClaimTimeout addr => Machine.isClaimAddr addr.toNat
  | .acctCtrlReset _ _ _ => true
  | .acctResetComplete _ => true
  | .acctCtrlFault _ _ _ => true
  | .acctKeyWrite _ _ _ => true
  | .tillMark _ _ _ => true
  | .tillRewind _ _ _ => true
  | .tillRelease _ _ _ => true
  | .tillDataLoRead _ _ _ _ => true
  | .tillDataHiRead _ _ _ => true
  | .tillDataLoWrite _ _ _ _ => true
  | .tillDataHiWrite _ _ _ _ => true
  | .requestAdmitWaiting _ => true
  | .tillScrub _ => true
  | .mgmtOpen1 f => decide (Machine.mOp (Machine.words32 f.body) = 1)
  | .mgmtOpen2 f => decide (Machine.mOp (Machine.words32 f.body) = 2)
  | .mgmtRead f _ => Machine.opIs f 3
  | .mgmtWrite f => Machine.opIs f 4
  | .mgmtReadRepeat f _ => Machine.opIs f 5
  | .mgmtWriteRepeat f => Machine.opIs f 6
  | .mgmtClose f => Machine.opIs f 7
  | .mgmtUnknownOp f => Machine.opUnknown f
  | .sessionCtrlClose _ _ _ => true
  | .sessionIdleTimeout _ => true
  | .openResponseTimeout _ => true
  | .lockoutExpiry _ => true
  | .illegalInstruction _ => true
  | .wNop _ => true
  | .wEnd _ _ _ => true
  | .wJmp _ => true
  | .wJc _ => true
  | .wJcn _ => true
  | .wCall _ => true
  | .wRet _ => true
  | .wTrap _ => true
  | .wRtt _ => true
  | .wLoop _ => true
  | .wBld _ => true
  | .wBldn _ => true
  | .wBand _ => true
  | .wBandn _ => true
  | .wBor _ => true
  | .wBorn _ => true
  | .wBxor _ => true
  | .wBnot _ => true
  | .wBst _ => true
  | .wBstn _ => true
  | .wPushb _ => true
  | .wPopb _ => true
  | .wPopa _ => true
  | .wPopo _ => true
  | .wPopx _ => true
  | .wBldf _ => true
  | .wLd _ => true
  | .wLdu _ => true
  | .wSt _ => true
  | .wAdd _ => true
  | .wSub _ => true
  | .wMul _ => true
  | .wDiv _ => true
  | .wMod _ => true
  | .wAnd _ => true
  | .wOr _ => true
  | .wXor _ => true
  | .wShl _ => true
  | .wShr _ => true
  | .wSar _ => true
  | .wNeg _ => true
  | .wAbs _ => true
  | .wCeq _ => true
  | .wCne _ => true
  | .wClt _ => true
  | .wCle _ => true
  | .wCgt _ => true
  | .wCge _ => true
  | .wCltu _ => true
  | .wCgeu _ => true
  | .wFadd _ => true
  | .wFsub _ => true
  | .wFmul _ => true
  | .wFdiv _ => true
  | .wFmin _ => true
  | .wFmax _ => true
  | .wFsqrt _ => true
  | .wFabs _ => true
  | .wFneg _ => true
  | .wItof _ => true
  | .wFtoi _ => true
  | .wFceq _ => true
  | .wFcne _ => true
  | .wFclt _ => true
  | .wFcle _ => true
  | .wFcgt _ => true
  | .wFcge _ => true
  | .wLdx _ => true
  | .wStx _ => true
  | .wAddx _ => true
  | .wLdwx _ => true
  | .wLdq _ => true
  | .wLdts _ => true
  | .wGath _ => true
  | .wVget _ => true
  | .wVmax _ => true
  | .wVmin _ => true
  | .wVsum _ => true
  | .wVmed _ => true
  | .wLdgq _ => true
  | .wClf _ => true
  | .wFire _ => true
  | .wRdt _ => true
  | .wPusht _ => true
  | .wPopt _ _ => true
  | .wTmark _ => true
  | .wTrew _ => true
  | .wTrel _ => true
  | .wTunr _ => true
  | .wTfree _ => true
  | .wReq _ => true
  | .wPid _ => true
  | .wRamp _ => true
  | .wLim _ => true
  | .wFilt _ => true
  | .wRoc _ => true
  | .wHyst _ => true
  | .wTmr _ => true
  | .comparePointTimeout _ => true
  | .dataWinDataWrite _ _ _ => true
  | .dataPlaneTick => true
  | .taskRelease _ => true
  | .snapshotComplete _ _ => true
  | .mergeComplete _ => true
  | .overrunCheck _ => true
  | .signalStale _ => true
  | .sigWinDataWrite _ _ _ => true
  | .forceSignalWrite _ _ _ => true
  | .forceSet _ _ _ => true
  | .forceClear _ _ _ => true
  | .forceClearAll _ _ _ => true
  | .imageScrub _ => true
  | .firingAdmission => true
  | .firingApply => true
  | .fireListAddrWrite _ _ _ => true
  | .analogueSample _ m => Machine.f64Finite m.x && Machine.f64Finite m.lead && Machine.f64Finite m.exc
  | .readbackSample _ m => Machine.f64Finite m.value && Machine.f64Finite m.aux
  | .curInOverload _ => true
  | .curInProtectRetry _ _ => true
  | .voltOutOverload _ => true
  | .voltOutRetry _ => true
  | .analogueChCfgWrite _ _ _ => true
  | .analogueReconfigDone _ => true
  | .hartCfgWrite _ _ _ => true
  | .hartPoll _ => true
  | .hartReply _ r => decide (r.line.length % 11 = 0)
  | .hartBurstFrame _ => true
  | .hartTimeout _ => true
  | .hartIdentRetry _ => true
  | .hartPassthroughRequest _ _ _ => true
  | .hartZMeasure _ _ _ _ => true
  | .hartZBaseWrite _ _ _ => true
  | .hartResume _ => true
  | .levelFilterPass _ _ => true
  | .lineMonOpen _ _ => true
  | .edgeAccepted _ _ _ => true
  | .quadVelocityUpdate _ => true
  | .loadCurrentUpdate _ _ _ _ => true
  | .cntClear _ _ _ => true
  | .cntPreset _ _ _ => true
  | .outputThermalOff _ => true
  | .outputThermalRetry _ => true
  | .sliceOvercurrentTrip _ _ => true
  | .sliceOvercurrentResume _ => true
  | .dsCtrlRestore _ _ _ => true
  | .extdrvChange _ _ _ => true
  | .outputConditionChange _ _ _ => true
  | .digitalChCfgWrite _ _ _ => true
  | .digitalReconfigDone _ => true
  | .sliceLinkFrameReceived _ _ _ => true
  | .sliceLinkRunTimeout _ => true
  | .ptpInterval => true
  | .ptpSyncReceived _ => true
  | .ptpFollowUpReceived _ => true
  | .ptpAnnounceReceived _ => true
  | .ptpPdelayReqReceived _ => true
  | .ptpPdelayRespReceived _ => true
  | .pdelayTimeout _ => true
  | .announceReceiptTimeout _ => true
  | .tsRevert => true
  | .tsSlewComplete => true
  | .holdoverLimit => true
  | .timeSetWrite _ _ _ => true
  | .domCfgWrite _ _ _ => true
  | .abOffsetAlarm => true
  | .transceiverInserted _ => true
  | .transceiverIdRead _ _ => true
  | .portLinkUp _ => true
  | .portLinkDown _ => true
  | .supervisionSend => true
  | .supervisionReceived _ => true
  | .segmentTimeout _ _ => true
  | .announceSend => true
  | .heartbeatFlagChange => true
  | .announceReceived _ => true
  | .peerLost _ => true
  | .publicationSend _ => true
  | .publicationReceived _ => true
  | .netIssueDataWrite _ _ _ => true
  | .tagGrant _ _ => true
  | .requestTagTimeout _ _ => true
  | .tagDeadline _ => true
  | .tagRetry _ => true
  | .tagQuarantineEnd _ => true
  | .requestReceived _ _ => true
  | .replyReceived _ => true
  | .incomingRequestExpire _ _ => true
  | .rztOpenSend _ => true
  | .rztOpenReceived _ => true
  | .rztAcceptReceived _ => true
  | .rztDataSend _ => true
  | .rztCheckReceived _ => true
  | .rztDataReceived _ => true
  | .rztAssayTimeout _ => true
  | .rztWatchdog _ => true
  | .rztFaultRetry _ => true
  | .rztRefusedRetry _ => true
  | .rztDegradedLimit _ => true
  | .ledgerFrameReceived _ _ _ => true
  | .relinquishReceived _ _ _ => true
  | .ledgerLinkLost _ => true
  | .peerAbsent => true
  | .journalResend => true
  | .takeover => true
  | .pairHandover _ _ => true
  | .pairAssume _ _ => true
  | .handoverActionDue => true
  | .handoverWindowEnd => true
  | .reclaimTimer => true
  | .roleSwapDue => true
  | .canTxItemRead _ _ => true
  | .canTxComplete _ _ _ => true
  | .canTxError _ _ _ _ => true
  | .canBusoffRecovery _ => true
  | .canIntegrated _ => true
  | .canRxFrame _ f => Machine.canRxOk f
  | .canRxItemWrite _ => true
  | .canConfigApply _ => true
  | .managementCycle => true
  | .vaultPageTimeout => true
  | .vaultPageVerified _ => true
  | .vaultFaultFlushDone _ => true
  | .vaultClosingFlushDone _ => true
  | .vaultEraseDone _ _ => true
  | .vaultRecoveryDone _ => true
  | .vaultWinDataRead _ => true
  | .wheelTestDone _ _ _ => true
  | .wheelRetestDone _ _ => true
  | .fuseBurnDone _ => true
  | .rotationStep => true
  | .sparePrepared => true
  | .wheelSwitch => true
  | .rotationSkip => true
  | .wheelLost _ _ => true
  | .spareLoaded _ => true
  | .wheelScrub _ => true
  | .ledgerScrub _ => true
  | .panelWinDataWrite _ _ => true
  | .panelFrameScan => true
  | .panelPowerUp => true
  | .panelRailTimeout => true
  | .panelRailRetry => true
  | .panelPowerDown => true
  | .linkOutsideRunTimeout _ => true
  | .cfgWrPageProgrammed => true
  | .frameForward _ _ _ _ _ => true
  | .transceiverRemoved _ => true
  | .peerPresentSeated => true
  | .canBusError _ _ _ _ => true
  | .storeConverterCarry _ => true
  | .outputStageThermalShutdown _ => true
  | .outputStageThermalRetry _ => true
  | .currentLimitChange _ _ => true

end Sys2Proof
end

