-- ==== Sys2Proof/Safety.lean ====
section
/-! DEFINITION. What a run is judged by: a command that completes, the canonical form of the register file and the till memory,
a queue of well-formed commands, and the frame of a command that changes named registers only or only records events. -/

namespace Sys2Proof.Machine

/-- The command completes on s, in a state of which Q holds. -/
def Yields (c : Instr) (s : State) (Q : State → Prop) : Prop := ∃ t, exec c s = .next t ∧ Q t

/-- The register file and the till memory are in canonical form: keys strictly rising, no entry equal to what an unlisted key
reads as. -/
def State.canonical (s : State) : Bool := nwf resetWord s.regs && nwf (fun _ => 0) s.tillMem

/-- Every command that waits is well formed. -/
def State.orderly (s : State) : Bool := s.pending.all (·.wf)

/-- Session place n may write register r, entry i, at an address, and the write reaches the register's own checks: the session is
open on a module that runs, Table 4.6 and R104 permit it, the module is in control or the register is module-local, and no other
session's claim and no SEQ owed stands in its way (R95, R97, R101, R104). -/
def State.granted (s : State) (n addr : Nat) (r : Reg) (i : Nat) : Bool :=
  (s.session n).opened && s.alive && !s.limited addr && (s.session n).map != 2 &&
    s.mayWrite (s.session n).account addr r && (s.inControl || moduleLocal r || isWinAddr r) && !s.claimed n r i &&
    !(match dataKey r i with | some k => s.owes n k | none => false)

/-- t is s with one more completed write waiting for the next data-plane tick, and the access answered OK (R75). -/
abbrev State.Queued (s : State) (e : Effect) (t : State) : Prop :=
  t = { s with mgmt.effects := s.mgmt.effects ++ [e], mgmt.status := 0, mgmt.data := 0 }

/-- A completed write taken at its place in the next data-plane tick (R75): a signal word at step 3 of Table 6.4, a force command
at step 7, any other ahead of the image. -/
def State.taken (s : State) (e : Effect) : State :=
  match e with
  | .sigWord _ _ _ => s.sigEffect e
  | .force _ _ _ _ _ => s.forceEffect e
  | _ => s.applyEffect e

/-- The tick that takes the write leaves a state of which Q holds. -/
def State.Takes (s : State) (e : Effect) (Q : State → Prop) : Prop := Q (s.taken e)

/-- t is s with the access answered by a status of Table 4.7 and nothing else. -/
abbrev State.Answered (s : State) (status : Nat) (t : State) : Prop := t = { s with mgmt.status := status, mgmt.data := 0 }

/-- A management frame reaches the sessions: the module runs, the frame is received (R312, R313) and long enough for its OP; on
port M it carries version 3, no addresses and no INSTANCE (R474), on a plane it names this module. -/
def State.hears (s : State) (f : Frame) : Bool :=
  let ws := words32 f.body
  s.alive && (s.receive f nkManagement).1 &&
    decide ((if mOp ws = 1 then 7 else if mOp ws = 2 then 8 else 4) ≤ ws.length) &&
    (if f.port.val = 4 then s.domOn 22 && f.version == 3 && f.source == 0 && f.dest == 0 && f.inst == 0
     else s.phase != .unconfigured && f.dest.toNat == s.addr)

/-- The state after the receipt of a management frame has been counted. -/
def State.heard (s : State) (f : Frame) : State := (s.receive f nkManagement).2

/-- The frame names session place n, open, and its MAC verifies (or it needs none), and its SEQ is ahead of the last (R328). -/
def State.counts (s : State) (f : Frame) (n : Nat) : Bool :=
  let x := s.session n
  let ahead := (((words32 f.body).getD 1 0).toNat + 2 ^ 32 - x.seq.getD 0) % 2 ^ 32
  mSession (words32 f.body) == n && decide (n < 8) && x.opened && ahead != 0 && decide (ahead < 2 ^ 31) &&
    (x.noMac || (decide (32 ≤ f.body.length) &&
      (hmacSha256 x.frameKey (mgmtHeader f ++ f.body.take (f.body.length - 16))).take 16 == f.body.drop (f.body.length - 16)))

/-- The accesses that a session frame makes, with what they answer. -/
def State.accesses (s : State) (f : Frame) (n : Nat) (ecc : List Ecc) : Answer :=
  let x := s.session n
  let text := f.body.take (f.body.length - if x.noMac then 0 else 16)
  State.carryOut (s.setSession n { x with since := s.tick }) n (words32 f.body) ((words32 text).drop 4) ecc

/-! ### What can change the life of the module -/

/-- The commands whose effect can change the module's phase, the cause of its stop, or its drive: the start sequence and what it
waits for (R55, R56), the stops (R20, R27, R35, R37, R47, R283), a tick, at which a restart takes effect (R57), and what lets a
pair module finish its start (R362, R375). -/
def changesLife (i : Instr) : Bool :=
  match i with
  | .startSequenceBegin | .cfgHeadersRead .. | .candidateChecked .. | .imageApply .. | .roleDecision | .startRelease => true
  | .unmated | .powerFailDeclared | .storeExhausted | .domainTrip .. | .wheelLost .. | .tcxoCheck .. | .pllUnlock => true
  | .thermalSample .. | .sensorIncluded .. | .thermalRestart => true
  | .dataPlaneTick .. | .ledgerFrameReceived .. | .relinquishReceived .. | .takeover => true
  | _ => false

/-! ### Wheels -/

/-- Logical wheel l is about to run the legal instruction of opcode op that c describes: the execution it runs, on its first wheel
or the second of A7, with its registers and the word at its PC, inside the code region. -/
abbrev Ctx.fetched (c : Ctx) (l op : Nat) : Prop :=
  c.s.running l = some (c.ex, c.copy) ∧ c.s.exec? c.ex.k = some c.ex ∧ c.copy < c.ex.lanes.length ∧
    c.lane = c.ex.lanes.getD c.copy .init ∧ c.lane.ended = false ∧ c.lane.dead = none ∧
    c.word = nget 0 c.s.image.code (65536 * c.ex.k + c.lane.pc.toNat) ∧ c.lane.pc.toNat < c.codeWords ∧
    iOp c.word = op ∧ iLegal c.word = true

/-- The registers after an instruction that only changes registers, its cycles counted. -/
def Ctx.counted (c : Ctx) (l : Lane) : Lane := { l with cycles := l.cycles + iCycles c.word 0 }

/-- The state s with the registers of the wheel that c describes replaced, and the cycles booked on its physical wheel. -/
def Ctx.ranOn (c : Ctx) (s : State) (l : Lane) : State :=
  (s.wheelBusy (s.taskWheel c.ex.k + c.copy) ((c.counted l).cycles - c.lane.cycles)).setExec c.ex.k
    (some { c.ex with lanes := c.ex.lanes.set c.copy (c.counted l) })

/-- The state after an instruction that only changes registers: PC moved on, the rest as l says. -/
def Ctx.ran (c : Ctx) (l : Lane) : State := c.ranOn c.s { l with pc := c.lane.pc + 1 }

/-- The other wheel of A7 has no compare point waiting; a task of another account has no other wheel. -/
abbrev Ctx.quiet (c : Ctx) : Prop := c.ex.lanes.length = 1 ∨ (c.ex.lanes.getD (1 - c.copy) .init).points = []

/-- The registers l with a compare point that waits for the other wheel, on A7 (R138). -/
def Ctx.pointing (c : Ctx) (l : Lane) (p : ComparePoint) : Lane :=
  if 1 < c.ex.lanes.length then { l with points := l.points ++ [p] } else l

/-- The registers of wheel `copy` of task k's open execution. -/
def State.laneAt (s : State) (k copy : Nat) : Lane := match s.exec? k with | some e => e.lanes.getD copy .init | none => .init

/-- Every register word but those at the addresses of the list is in t as in s. -/
def State.Keeps (addrs : List Nat) (s t : State) : Prop := ∀ a, a ∉ addrs → t.word a = s.word a

/-- t differs from s in registers only, and only in the words at the addresses of the list. -/
def State.OnlyWords (addrs : List Nat) (s t : State) : Prop := t = { s with regs := t.regs } ∧ s.Keeps addrs t

/-- The two registers that record an event: the number of the next slot, and the counts of lost and suppressed records. -/
def eventWords : List Nat := [R.VAULT_NEXT.base, R.VAULT_COUNTS_0.base]

/-- t differs from s as recording events makes it differ: in the vault, and in the words of eventWords. -/
def State.Logged (s t : State) : Prop := t = { s with regs := t.regs, vault := t.vault } ∧ s.Keeps eventWords t

end Sys2Proof.Machine
end

