-- ==== Sys2Proof/Certificates/Slice0/Obligations.lean ====
section
/-! DEFINITION. The statements for the provers. Each says what commands of a chapter of the spec do, on every state that meets
its hypotheses; `Yields c s Q` says that command c completes on s in a state of which Q holds. -/

section

open Sys2Proof Sys2Proof.Machine

/-- A step carries out the command at the front of the queue on the state with the rest of the queue; an empty queue idles (log
entry 1) (95, 04). -/
def Obligations.StepRunsFrontCommand : Prop :=
  (∀ (c : Instr) (s : State), step { s with pending := c :: s.pending } = exec c s) ∧
  (∀ (s : State), s.pending = [] → step s = .next s)

/-- After reset the register file and the till memory are in canonical form, nothing waits, and the registers read as the Reset
column says (R7, R56, R381, R385, R425, R472). -/
def Obligations.ResetState : Prop :=
  State.reset.canonical = true ∧ State.reset.orderly = true ∧ State.reset.pending = [] ∧ State.reset.out = [] ∧
  State.reset.phase = .waiting ∧ State.reset.image.fire = [] ∧ State.reset.image.forces = [] ∧ State.reset.vault.buf = [] ∧
  State.reset.fld F.PAIR_TIMING_SWAP_H = 0xA8 ∧ State.reset.fld F.PAIR_TIMING_RECLAIM_S = 0x3C ∧
  State.reset.fld F.PAIR_FAULT_HO_CAUSES = 0xF ∧ State.reset.pairState = psSingle ∧ State.reset.llState = llDown ∧
  State.reset.acctState 0 = aAbsent ∧ State.reset.vnext = 0

/-- No command changes the queue of waiting commands (95). -/
def Obligations.QueueUntouched : Prop :=
  ∀ (c : Instr) (s t : State), exec c s = .next t → t.pending = s.pending

/-- Every well-formed command completes on every state; a command whose operands contradict its row ends in the fault illFormed of
its row and in no other way (R7, R8, R21, R56, R75, R312, R328, R363, R401). -/
def Obligations.WellFormedCommandCompletes : Prop :=
  ∀ (c : Instr) (s : State), (c.wf = true → ∃ t, exec c s = .next t) ∧ (c.wf = false → ∃ m, exec c s = .fault (.illFormed m))

/-- Every step keeps the register file and the till memory in canonical form (R7, R8, R88, R472). -/
def Obligations.StepKeepsCanonical : Prop :=
  ∀ (s t : State), s.canonical = true → step s = .next t → t.canonical = true

/-- From every state whose waiting commands are well formed, k steps of the block carry out the first k commands and answer a
state whose queue is the rest (95, 04). -/
def Obligations.OrderlyQueuesRun : Prop :=
  ∀ (s : State) (k : Nat), s.orderly = true → ∃ t, Host.Core.run Sys2Proof.core k s = .next t ∧ State.pending t = s.pending.drop k ∧ State.orderly t = true

/-- An event becomes a record slot under the next slot number, is suppressed beyond its limit, waits during recovery, and is lost
in a closing flush (R407, R408, R410, R411, R415, R420). -/
def Obligations.EventsBecomeRecords : Prop :=
  let plain (s : State) (code : Nat) (items : List Item) (d : BitVec 96) : Prop := packItems items 0 0 = [d] ∧
    flushClass.contains code = false ∧ s.privSource code = none
  let below (s : State) (code : Nat) : Prop := nget 0 s.vault.counts code < s.rateLimit code
  let room (s : State) (code : Nat) : Prop := s.vault.buf.length + 1 + (if usesReserve code then 0 else 64) ≤ 2048 ∧ s.vault.buf.length + 1 ≤ s.vroom
  (∀ (s : State) (code : Nat) (items : List Item) (d : BitVec 96), s.vstate = vRunning → plain s code items d → below s code → room s code →
    (s.ev code items).vault = { s.vault with buf := s.vault.buf ++ [mkSlot code 0 0 s.vnext s.stamp d], counts := nset 0 s.vault.counts code (nget 0 s.vault.counts code + 1) } ∧
    (s.ev code items).vnext = (s.vnext + 1) % 2 ^ 32) ∧
  (∀ (s : State) (code : Nat) (items : List Item) (d : BitVec 96), s.vstate = vRunning → plain s code items d → below s code → ¬ room s code →
    (s.ev code items).vault.buf = s.vault.buf ∧ (s.ev code items).vault.lost = s.vault.lost + 1 ∧ (s.ev code items).vnext = s.vnext ∧
    (s.ev code items).fld F.VAULT_COUNTS_0_LOST = min (s.fld F.VAULT_COUNTS_0_LOST + 1) 0xFFFF) ∧
  (∀ (s : State) (code : Nat) (items : List Item), s.vstate ≠ vFlushing → ¬ below s code → flushClass.contains code = false →
    (s.ev code items).vault.buf = s.vault.buf ∧ (s.ev code items).vault.counts = s.vault.counts ∧ (s.ev code items).vnext = s.vnext ∧
    (s.ev code items).fld F.VAULT_COUNTS_0_SUPPRESSED = min (s.fld F.VAULT_COUNTS_0_SUPPRESSED + 1) 0xFFFF) ∧
  (∀ (s : State) (code : Nat) (items : List Item), s.vstate = vRecovering → below s code →
    (s.ev code items).vault.waiting = s.vault.waiting ++ [(⟨code, s.stamp, packItems items 0 0, s.vcapture code⟩, 0, 0)] ∧
    (s.ev code items).vault.buf = s.vault.buf ∧ (s.ev code items).vnext = s.vnext) ∧
  (∀ (s : State) (code : Nat) (items : List Item), s.vstate = vFlushing → s.ev code items = s)

/-- Twenty named commands alone can change the module's phase, the cause of its stop and its drive (R20, R35, R37, R47, R55, R56,
R57, R283, R362, R375). -/
def Obligations.LifeFrame : Prop :=
  ∀ (c : Instr) (s t : State), changesLife c = false → exec c s = .next t → t.phase = s.phase ∧ t.stop = s.stop ∧ t.drive = s.drive

/-- What a mate contact change, the mate filter, 5 s with one contact closed, unmating and the end of the lamp test do (R13, R19,
R20, R21, R26). -/
def Obligations.MateContactsAndStraps : Prop :=
  (∀ (s : State) (c : Fin 2) (closed : Bool), Yields (.mateContactChange c closed) s fun t =>
    t.mateClosed c.val = closed ∧ t.mateClosed (1 - c.val) = s.mateClosed (1 - c.val) ∧
    t.fld F.BASEPLATE_STATUS_MATE_GLITCH =
      (if closed && !s.mateClosed c.val && s.plate.mated then min (s.fld F.BASEPLATE_STATUS_MATE_GLITCH + 1) 255
        else s.fld F.BASEPLATE_STATUS_MATE_GLITCH) ∧
    t = { s with regs := t.regs, plate.oneMate := s.plate.oneMate && t.oneClosed } ∧ s.Keeps [R.BASEPLATE_STATUS.base] t) ∧
  (∀ (s : State) (x : Straps), s.bothClosed = true → s.plate.mated = false → Yields (.mateFilterPass x) s fun t =>
    t.plate = { s.plate with mated := true } ∧ t.fld F.BASEPLATE_STATUS_BP_TYPE = x.bpType.val ∧
    t.flag F.BASEPLATE_STATUS_PAIR_POS = x.pairPos ∧ t.flag F.BASEPLATE_STATUS_CFG_A_PRESENT = x.cfgA ∧
    t.flag F.BASEPLATE_STATUS_CFG_B_PRESENT = x.cfgB ∧ t.bothClosed = true ∧
    t.flag F.BASEPLATE_STATUS_PEER_PRESENT = s.flag F.BASEPLATE_STATUS_PEER_PRESENT ∧
    t = { s with regs := t.regs, plate := t.plate, vault := t.vault } ∧ s.Keeps (R.BASEPLATE_STATUS.base :: eventWords) t) ∧
  (∀ s : State, s.oneClosed = true → s.plate.oneMate = false → Yields .oneMateClosed5s s fun t =>
    t.plate.oneMate = true ∧ State.Logged { s with plate.oneMate := true } t) ∧
  (∀ s : State, s.plate.mated = true → s.bothClosed = false → Yields .unmated s fun t =>
    t.plate = { s.plate with mated := false } ∧ t.drive = .ended ∧ (s.alive = true → t.phase = .stopped ∧ t.stop = .unmated) ∧
    (s.alive = false → t.phase = s.phase ∧ t.stop = s.stop) ∧
    (∀ d : Fin 64, t.domOn d.val = (s.domOn d.val && (decide (d.val < 27) || decide (59 ≤ d.val)))) ∧
    t.mateClosed 0 = s.mateClosed 0 ∧ t.mateClosed 1 = s.mateClosed 1 ∧
    t.fld F.BASEPLATE_STATUS_BP_TYPE = 0 ∧ t.flag F.BASEPLATE_STATUS_PAIR_POS = false ∧
    t.flag F.BASEPLATE_STATUS_CFG_A_PRESENT = false ∧ t.flag F.BASEPLATE_STATUS_CFG_B_PRESENT = false) ∧
  (∀ s : State, Yields .lampTestEnd s fun t => t = { s with plate.lampTest := false })

/-- Eight agreeing scans set a switch state, sixteen bad ones its contact fault (R16). -/
def Obligations.SealScanFiltersEverySwitch : Prop :=
  ∀ (s : State) (p1 p2 : BitVec 16) (n : Fin 16), s.phase ≠ .waiting → Yields (.sealScan p1 p2) s fun t =>
    let x := nget SealFilter.init s.plate.seals n.val
    let sw (u : State) := bit (u.fld F.SEAL_STATE_SW) n.val
    let swf (u : State) := bit (u.fld F.SEAL_STATE_SWF) n.val
    (p1.getLsbD n.val ≠ p2.getLsbD n.val → 7 ≤ x.run → x.dir = p1.getLsbD n.val →
      sw t = p1.getLsbD n.val ∧ swf t = false) ∧
    (p1.getLsbD n.val ≠ p2.getLsbD n.val → x.run < 7 ∨ x.dir ≠ p1.getLsbD n.val → sw t = sw s ∧ swf t = swf s) ∧
    (p1.getLsbD n.val = p2.getLsbD n.val → 15 ≤ x.bad → sw t = sw s ∧ swf t = true) ∧
    (p1.getLsbD n.val = p2.getLsbD n.val → x.bad < 15 → sw t = sw s ∧ swf t = swf s)

/-- What measuring, validating and losing a feed, the store converter taking over, and a dip do to the supply's registers (R31,
R32, R42). -/
def Obligations.FeedsAndTheStoreConverter : Prop :=
  (∀ (s : State) (f1 f2 : BitVec 16), Yields (.feedMeasure f1 f2) s fun t =>
    t.feedVolt 0 = f1.toNat ∧ t.feedVolt 1 = f2.toNat ∧
    (s.flag F.HOLDUP_STATUS_CARRYING = false → s.feedValid 0 = true → f2.toNat < f1.toNat →
      t.flag F.FEED_STATUS_F1_CARRY = true ∧ t.flag F.FEED_STATUS_F2_CARRY = false) ∧
    (s.flag F.HOLDUP_STATUS_CARRYING = false → s.feedValid 1 = true → f1.toNat < f2.toNat →
      t.flag F.FEED_STATUS_F2_CARRY = true ∧ t.flag F.FEED_STATUS_F1_CARRY = false) ∧
    State.OnlyWords [R.FEED_VOLTAGE.base, R.FEED_STATUS.base] s t) ∧
  (∀ (s : State) (f : Fin 2), s.feedValid f.val = false → inR (s.feedVolt f.val) 900 6050 = true →
    Yields (.feedValid f) s fun t => t.feedValid f.val = true ∧ t.feedValid (1 - f.val) = s.feedValid (1 - f.val) ∧
      bit (t.reg R.FEED_STATUS) (2 + f.val) = false ∧ bit (t.reg R.FEED_STATUS) (4 + f.val) = false ∧
      t.flag F.HOLDUP_STATUS_CARRYING = false ∧ nget false t.power.feedLost f.val = false ∧
      t = { s with regs := t.regs, power.feedLost := t.power.feedLost, vault := t.vault } ∧
      s.Keeps (R.FEED_STATUS.base :: R.HOLDUP_STATUS.base :: eventWords) t) ∧
  (∀ (s : State) (f : Fin 2), s.feedValid f.val = true →
    Yields (.feedUndervoltage f) s fun t => t.feedValid f.val = false ∧ bit (t.reg R.FEED_STATUS) (2 + f.val) = true ∧
      t.feedValid (1 - f.val) = s.feedValid (1 - f.val) ∧
      nget false t.power.feedLost f.val = (s.feedValid (1 - f.val) || nget false s.power.feedLost f.val) ∧
      t = { s with regs := t.regs, power.feedLost := t.power.feedLost, vault := t.vault } ∧
      s.Keeps (R.FEED_STATUS.base :: eventWords) t) ∧
  (∀ (s : State) (f : Fin 2), s.feedValid f.val = true →
    Yields (.feedOvervoltage f) s fun t => t.feedValid f.val = false ∧ bit (t.reg R.FEED_STATUS) (4 + f.val) = true ∧
      t.feedValid (1 - f.val) = s.feedValid (1 - f.val) ∧
      nget false t.power.feedLost f.val = (s.feedValid (1 - f.val) || nget false s.power.feedLost f.val) ∧
      t = { s with regs := t.regs, power.feedLost := t.power.feedLost, vault := t.vault } ∧
      s.Keeps (R.FEED_STATUS.base :: eventWords) t) ∧
  (∀ (s : State) (v : BitVec 16), Yields (.storeConverterCarry v) s fun t =>
    t.flag F.HOLDUP_STATUS_CARRYING = true ∧ t.fld F.HOLDUP_STATUS_STORE_V = v.toNat ∧
    t.flag F.FEED_STATUS_F1_CARRY = false ∧ t.flag F.FEED_STATUS_F2_CARRY = false ∧
    t.flag F.HOLDUP_STATUS_HOLDUP_OK = (decide (4600 ≤ v.toNat) && decide (550 ≤ s.fld F.HOLDUP_CAPACITY_CAP_UF)) ∧
    t = { s with regs := t.regs, vault := t.vault } ∧
    s.Keeps (R.FEED_STATUS.base :: R.HOLDUP_STATUS.base :: R.VAULT_STATUS.base :: eventWords) t) ∧
  (∀ (s : State) (v : BitVec 16), s.supplyValid = true → Yields (.holdupDip v) s fun t =>
    t.flag F.HOLDUP_STATUS_CARRYING = false ∧ t.fld F.HOLDUP_STATUS_STORE_V = v.toNat ∧
    t.fld F.HOLDUP_STATUS_DIP_COUNT = min (s.fld F.HOLDUP_STATUS_DIP_COUNT + 1) 255 ∧
    t.flag F.HOLDUP_STATUS_HOLDUP_OK = (decide (4600 ≤ v.toNat) && decide (550 ≤ s.fld F.HOLDUP_CAPACITY_CAP_UF)) ∧
    t.flag F.HOLDUP_STATUS_CHARGING = (decide (v.toNat < 4800) && !s.flag F.HOLDUP_STATUS_TEST) ∧
    t = { s with regs := t.regs, vault := t.vault } ∧
    s.Keeps (R.FEED_STATUS.base :: R.HOLDUP_STATUS.base :: R.VAULT_STATUS.base :: eventWords) t)

/-- The hold-up store's measurement at a start, its discharge test, its charge and the charge time-out (R40, R41, R46). -/
def Obligations.HoldupStoreMeasurements : Prop :=
  let frame (s t : State) : Prop :=
    t = { s with regs := t.regs, power.storeReady := t.power.storeReady, vault := t.vault } ∧
    s.Keeps (R.HOLDUP_STATUS.base :: R.HOLDUP_CAPACITY.base :: R.VAULT_STATUS.base :: eventWords) t
  (∀ (s : State) (us : Nat), s.supplyValid = true → Yields (.holdupChargeMeasure us) s fun t =>
    t.fld F.HOLDUP_CAPACITY_CAP_UF = min (3 * us / 1000) 0xFFFF ∧ t.fld F.HOLDUP_STATUS_STORE_V = 4000 ∧
    t.flag F.HOLDUP_STATUS_DEGRADED = decide (min (3 * us / 1000) 0xFFFF < 800) ∧
    t.flag F.HOLDUP_STATUS_FAILED = decide (min (3 * us / 1000) 0xFFFF < 550) ∧
    t.flag F.HOLDUP_STATUS_HOLDUP_OK = false ∧ frame s t) ∧
  (∀ s : State, s.alive = true → s.supplyValid = true → s.flag F.HOLDUP_STATUS_TEST = false →
    Yields .holdupTestStart s fun t => t.flag F.HOLDUP_STATUS_TEST = true ∧ t.flag F.HOLDUP_STATUS_CHARGING = false ∧
      t.fld F.HOLDUP_STATUS_STORE_V = s.fld F.HOLDUP_STATUS_STORE_V ∧ State.OnlyWords [R.HOLDUP_STATUS.base] s t) ∧
  (∀ (s : State) (us mv : Nat), s.flag F.HOLDUP_STATUS_TEST = true → Yields (.holdupTestEnd us mv) s fun t =>
    let cap := if mv = 0 then 0xFFFF else min (100 * us / mv) 0xFFFF
    t.flag F.HOLDUP_STATUS_TEST = false ∧ t.fld F.HOLDUP_STATUS_STORE_V = s.fld F.HOLDUP_STATUS_STORE_V - mv / 10 ∧
    t.flag F.HOLDUP_STATUS_CHARGING = decide (s.fld F.HOLDUP_STATUS_STORE_V - mv / 10 < 4800) ∧
    t.fld F.HOLDUP_CAPACITY_CAP_UF = cap ∧ t.fld F.HOLDUP_CAPACITY_HOLD_MS = min 0xFFFF (storeMs cap) ∧
    t.flag F.HOLDUP_STATUS_DEGRADED = decide (cap < 800) ∧
    t.flag F.HOLDUP_STATUS_FAILED = (decide (cap < 550) || s.flag F.HOLDUP_STATUS_FAILED) ∧ frame s t) ∧
  (∀ s : State, s.supplyValid = true → Yields .holdupStoreCharged s fun t =>
    t.power.storeReady = true ∧ t.fld F.HOLDUP_STATUS_STORE_V = max 4600 (s.fld F.HOLDUP_STATUS_STORE_V) ∧
    t.flag F.HOLDUP_STATUS_HOLDUP_OK = decide (550 ≤ s.fld F.HOLDUP_CAPACITY_CAP_UF) ∧ frame s t) ∧
  (∀ s : State, s.supplyValid = true → s.power.storeReady = false → Yields .holdupChargeTimeout s fun t =>
    t.power.storeReady = true ∧ State.Logged { s with power.storeReady := true } t)

/-- Power-fail stops the module undriven and sheds D00 to D60; the exhausted store leaves the state after reset but for the flash,
the contacts and the fuses (R43, R44, R45, R473). -/
def Obligations.PowerFailEndsDrive : Prop :=
  (∀ s : State, s.supplyValid = false → s.stop ≠ .powerFail → Yields .powerFailDeclared s fun t =>
    t.phase = .stopped ∧ t.stop = .powerFail ∧ t.drive = .ended ∧ t.power.storeReady = false ∧
    t.flag F.HOLDUP_STATUS_CHARGING = false ∧ t.flag F.HOLDUP_STATUS_TEST = false ∧
    (∀ d : Fin 61, t.domOn d.val = false) ∧
    (s.flag F.HOLDUP_STATUS_HOLDUP_OK = true → s.time.ticking = true →
      t.power.holdFrom = some s.tick ∧ t.domOn 61 = s.domOn 61 ∧ t.domOn 62 = s.domOn 62)) ∧
  (∀ s : State, s.supplyValid = false → s.holding = false → Yields .storeExhausted s fun t =>
    t = { State.reset with
      pending := s.pending, free := s.free, out := s.out, regs := t.regs, vault := t.vault, start := t.start,
      stop := if s.stop = .powerFail then .powerFail else .none } ∧
    t.start = { Start.init with bankA := s.start.bankA, bankB := s.start.bankB } ∧
    t.vault.stored = s.vault.stored ∧ t.vault.marks = s.vault.marks ∧ t.vault.buf = [] ∧ t.vault.waiting = [] ∧
    t.mateClosed 0 = s.mateClosed 0 ∧ t.mateClosed 1 = s.mateClosed 1 ∧
    (∀ w : Fin 18, t.fld F.WHEEL_STATE_STRIKE w.val = s.fld F.WHEEL_STATE_STRIKE w.val ∧
      t.fld F.WHEEL_STATE_OUT w.val = s.fld F.WHEEL_STATE_OUT w.val) ∧
    State.reset.Keeps (R.BASEPLATE_STATUS.base :: R.PAIR_STATUS.base ::
      (List.range 18).map fun w => R.WHEEL_STATE.addr w 0) t)

/-- What the trip of a domain and its retry do to the domains, and what a field supply's voltage does to its state (R34, R36,
R37). -/
def Obligations.DomainTripAndRetry : Prop :=
  (∀ (s : State) (d : Fin 64), d.val ≠ 63 → s.domOn d.val = true → Yields (.domainTrip d) s fun t =>
    t.domOn d.val = false ∧ bit (t.reg R.DOMAIN_TRIP 0 (d.val / 32)) (d.val % 32) = true ∧
    t.domTrip? d.val = (match (s.domTrip? d.val).first with
      | some k => if s.tick - k ≤ 10000000 then ⟨some k, false, true⟩ else ⟨some s.tick, true, false⟩
      | none => ⟨some s.tick, true, false⟩)) ∧
  (∀ s : State, Yields (.domainTrip 63) s fun t => t = s) ∧
  (∀ (s : State) (d : Fin 64), (s.domTrip? d.val).awaiting = true → s.domNeeded d.val = true →
    Yields (.domainRetry d) s fun t => t.domOn d.val = true ∧ t.domTrip? d.val = { s.domTrip? d.val with awaiting := false } ∧
      (∀ e : Fin 64, e ≠ d → t.domTrip? e.val = s.domTrip? e.val) ∧
      (∀ e : Fin 64, e ≠ d → t.domOn e.val = (s.domOn e.val || (decide (27 ≤ d.val ∧ d.val < 43 ∧ e.val = d.val + 16) &&
        !(s.domTrip? e.val).awaiting && !(s.domTrip? e.val).locked))) ∧
      (d.val < 23 ∨ 59 ≤ d.val → t = { s with regs := t.regs, power.trips := t.power.trips })) ∧
  (∀ (s : State) (d : Fin 64), (s.domTrip? d.val).awaiting = true → s.domNeeded d.val = false →
    Yields (.domainRetry d) s fun t => t = s.setTrip d.val { s.domTrip? d.val with awaiting := false }) ∧
  (∀ (s : State) (sl : Fin 16) (v : BitVec 16), s.powered = true → Yields (.fsStateChange sl v) s fun t =>
    t.fsState sl.val = fsNext (s.fsState sl.val) v.toNat ∧ t.fld F.FS_VOLTAGE_FS_V sl.val = v.toNat ∧
    (∀ k : Fin 16, k ≠ sl → t.fsState k.val = s.fsState k.val ∧ t.fld F.FS_VOLTAGE_FS_V k.val = s.fld F.FS_VOLTAGE_FS_V k.val) ∧
    t.phase = s.phase ∧ t.drive = s.drive)

/-- A sensor's samples, its exclusion and return, thermal stop and the restart after it, and the two clock checks (R47, R48,
R283). -/
def Obligations.ThermalAndClockProtection : Prop :=
  (∀ (s : State) (n : Fin 24) (x : BitVec 16), (nget Sensor.init s.power.sensors n.val).samples.length < 7 →
    Yields (.thermalSample n x) s fun t =>
      let p := nget Sensor.init s.power.sensors n.val
      t = { s with power.sensors := nset Sensor.init s.power.sensors n.val { p with samples := x.toInt :: p.samples } }) ∧
  (∀ (s : State) (n : Fin 24) (x : BitVec 16),
    let p := nget Sensor.init s.power.sensors n.val
    7 ≤ p.samples.length → Yields (.thermalSample n x) s fun t =>
      let sum := ((x.toInt :: p.samples).take 8).sum
      t.fld F.THERMAL_SENSOR_T n.val = ofSint 16 (sum / 8) ∧
      t.flag F.THERMAL_SENSOR_EXCL n.val = (!meanPlausible sum p.mean || s.flag F.THERMAL_SENSOR_EXCL n.val) ∧
      (19200 ≤ sum → t.flag F.THERMAL_SENSOR_EXCL n.val = false → s.stop ≠ .powerFail →
        t.phase = (if s.stop = .thermal then s.phase else .stopped) ∧ t.stop = .thermal)) ∧
  (∀ (s : State) (n : Fin 24), s.flag F.THERMAL_SENSOR_EXCL n.val = true →
    (nget Sensor.init s.power.sensors n.val).plausible = true → Yields (.sensorIncluded n) s fun t =>
      t.flag F.THERMAL_SENSOR_EXCL n.val = false) ∧
  (∀ s : State, s.stop = .thermal → s.vault.closing = none → s.startAllowed = true → Yields .thermalRestart s fun t =>
    t.phase = .starting ∧ t.stop = .none ∧ t.drive = .normal ∧ t.tick = 0 ∧ t.time.ticking = true ∧ t.pending = s.pending) ∧
  (∀ (s : State) (ppm : Int), ppm.natAbs ≤ 500 → Yields (.tcxoCheck ppm) s fun t =>
    t.flag F.CLOCK_STATUS_TCXO_OK = true ∧
    t.flag F.CLOCK_STATUS_PLL_LOCK = (s.flag F.CLOCK_STATUS_PLL_LOCK || s.time.clockFault) ∧
    State.OnlyWords [R.CLOCK_STATUS.base] s t) ∧
  (∀ (s : State) (ppm : Int), 500 < ppm.natAbs → Yields (.tcxoCheck ppm) s fun t =>
    t.flag F.CLOCK_STATUS_TCXO_OK = false ∧ t.time.clockFault = true ∧
    (s.alive = true → t.phase = .stopped ∧ t.stop = .clock ∧ t.drive = (if s.drive = .ended then .ended else .safe)) ∧
    (s.alive = false → t = { s with regs := t.regs, vault := t.vault, time.clockFault := true } ∧
      s.Keeps (R.CLOCK_STATUS.base :: eventWords) t) ∧
    (s.alive = false → s.flag F.CLOCK_STATUS_TCXO_OK = false →
      t = { s with regs := t.regs, time.clockFault := true } ∧ s.Keeps [R.CLOCK_STATUS.base] t)) ∧
  (∀ s : State, Yields .pllUnlock s fun t =>
    t.flag F.CLOCK_STATUS_PLL_LOCK = false ∧ t.time.clockFault = true ∧
    (s.alive = true → s.flag F.CLOCK_STATUS_PLL_LOCK = true →
      t.phase = .stopped ∧ t.stop = .clock ∧ t.drive = (if s.drive = .ended then .ended else .safe)) ∧
    (s.alive = false → t = { s with regs := t.regs, vault := t.vault, time.clockFault := true } ∧
      s.Keeps (R.CLOCK_STATUS.base :: eventWords) t) ∧
    (s.flag F.CLOCK_STATUS_PLL_LOCK = false →
      t = { s with regs := t.regs, time.clockFault := true } ∧ s.Keeps [R.CLOCK_STATUS.base] t))

/-- What the start, the headers read, a candidate checked, the image applied, the end of settling and the release each do (R52,
R53, R58, R66, R69, R362). -/
def Obligations.StartSequenceSteps : Prop :=
  (∀ s : State, s.phase = .waiting ∨ (s.phase = .stopped ∧ s.stopOver = true ∧ s.stop ≠ .thermal) → s.startAllowed = true →
    Yields .startSequenceBegin s fun t =>
      t.phase = .starting ∧ t.stop = .none ∧ t.drive = .normal ∧ t.tick = 0 ∧ t.time.ticking = true ∧ t.plate.lampTest = true ∧
      t.image = .init ∧ t.tillMem = [] ∧ t.pending = s.pending ∧ t.start.bankA = s.start.bankA ∧ t.start.bankB = s.start.bankB ∧
      (∀ d : Fin 63, 18 ≤ d.val → t.domOn d.val = (decide (d.val = 22) || decide (59 ≤ d.val)))) ∧
  (∀ (s : State) (a b : Bool), s.phase = .starting → s.domOn 60 = true → s.stepDone 5 = false →
    Yields (.cfgHeadersRead a b) s fun t =>
      let goodA := headerResult a s.start.bankA = 0
      let goodB := headerResult b s.start.bankB = 0
      t.start.presentA = a ∧ t.start.presentB = b ∧ t.phase = (if goodA ∨ goodB then .starting else .unconfigured) ∧
      t.stepDone 4 = true ∧ t.stepDone 5 = true ∧
      t.start.candidates = (if goodA then
          (if goodB then (if bankWord s.start.bankA 2 < bankWord s.start.bankB 2 then [1, 0] else [0, 1]) else [0])
        else if goodB then [1] else [])) ∧
  (∀ (s : State) (b : Fin 2) (late : Bool) (rest : List Nat), s.phase = .starting → s.domOn 60 = true →
    s.start.candidates = b.val :: rest → Yields (.candidateChecked b late) s fun t =>
      let r := if late then rsTimeout else (fullResult (s.bank b.val) (s.fld F.BASEPLATE_STATUS_BP_TYPE)).1
      t.bankResult b.val = r ∧ t.start.head = (if r = rsValid then some (imgHead (s.bank b.val)) else s.start.head) ∧
      t.start.candidates = (if r = rsValid then [] else rest) ∧ t.stepDone 6 = true ∧ (r = rsValid → t.stepDone 8 = true) ∧
      t.phase = (if r ≠ rsValid ∧ rest = [] then .unconfigured else .starting)) ∧
  (∀ (s : State) (h : ImgHead) (same : Bool), s.phase = .starting → s.start.head = some h → s.stepDone 8 = true →
    s.stepDone 3 = true → s.start.applied = false → Yields (.imageApply same) s fun t =>
      t.start.applied = true ∧ t.drive = (if h.pair then .normal else .safe) ∧ t.phase = .starting ∧ t.stepDone 9 = true ∧
      t.stepDone 10 = true ∧ t.start.head = s.start.head ∧ t.start.bankA = s.start.bankA ∧ t.start.bankB = s.start.bankB) ∧
  (∀ (s : State) (h : ImgHead), s.phase = .starting → s.start.head = some h → s.stepDone 11 = true →
    s.start.settleFrom + 1000 * h.settleMs ≤ s.tick → Yields .settlingEnd s fun t =>
      (h.pair = false → t.stepDone 12 = true) ∧ (h.pair = true → t.stepDone 12 = s.stepDone 12) ∧
      t = { s with start.steps := t.start.steps }) ∧
  (∀ (s : State), s.phase = .starting → s.stepDone 12 = true → s.power.storeReady = true → Yields .startRelease s fun t =>
    t.phase = .running ∧ t.drive = .normal ∧ t.image.built = true ∧ t.stepDone 13 = true ∧
    (s.inControl = true → t.stepDone 14 = true ∧ t.reg64 R.RELEASE_BASE = s.tl % 2 ^ 64) ∧
    ∀ a : Fin 8, s.acctState a.val = aStarting → t.acctState a.val = (if s.inControl then aRunning else aStandby))

/-- The configuration write session: START, DATA, COMMIT and ABORT as they are answered and as the tick takes them, the time-out,
and the flash's completions (R71, R72, R73, R74, R75). -/
def Obligations.ConfigurationWriteSession : Prop :=
  (∀ (s : State) (n : Fin 8), s.granted n.val (R.CFG_WR_CTRL.addr 0 0) R.CFG_WR_CTRL 0 = true → s.ahead.cwOpen = false →
    inR (s.ahead.fld F.CFG_WR_BLOCKS_BLOCKS) 2 7680 = true →
    Yields (.cfgWrStart n (ctrlWord 0xC5 1)) s (s.Queued (.cfg false (ctrlWord 0xC5 1)))) ∧
  (∀ s : State, s.cwOpen = false → inR (s.fld F.CFG_WR_BLOCKS_BLOCKS) 2 7680 = true →
    s.Takes (.cfg false (ctrlWord 0xC5 1)) fun t =>
      t.cwState = cwErasing ∧ t.cwBank = s.inactiveBank ∧ t.domOn 60 = true ∧ t.start.wrBlock0 = [] ∧
      t.start.wrBlock = [] ∧ t.start.wrQueue = [] ∧ t.bank (1 - s.inactiveBank) = s.bank (1 - s.inactiveBank)) ∧
  (∀ s : State, s.cwState = cwErasing → Yields .cfgWrEraseDone s fun t => t.cwState = cwReceiving ∧
    (∀ k, (k : Nat) < (s.fld F.CFG_WR_BLOCKS_BLOCKS + 15) / 16 * 16384 → bankWord (t.bank s.cwBank) k = 0xFFFFFFFF) ∧
    t.bank (1 - s.cwBank) = s.bank (1 - s.cwBank) ∧
    t = { s with regs := t.regs, start.bankA := t.start.bankA, start.bankB := t.start.bankB } ∧ s.Keeps [R.CFG_WR_STATUS.base] t) ∧
  (∀ (s : State) (n : Fin 8) (v : W32), s.granted n.val (R.CFG_WR_DATA.addr 0 0) R.CFG_WR_DATA 0 = true →
    s.ahead.cwState = cwReceiving → s.ahead.start.wrQueue = [] →
    s.ahead.fld F.CFG_WR_STATUS_BLOCK < s.ahead.fld F.CFG_WR_BLOCKS_BLOCKS →
    Yields (.cfgWrData n v) s (s.Queued (.cfg true v))) ∧
  (∀ (s : State) (v : W32), s.cwState = cwReceiving → s.start.wrQueue = [] →
    s.fld F.CFG_WR_STATUS_BLOCK < s.fld F.CFG_WR_BLOCKS_BLOCKS → s.start.wrBlock.length < 1023 → s.Takes (.cfg true v) fun t =>
      t = { s with regs := t.regs, start.wrBlock := v :: s.start.wrBlock } ∧ s.Keeps [R.CFG_WR_STATUS.base] t ∧
      t.fld F.CFG_WR_STATUS_WORD = s.start.wrBlock.length + 1 ∧ t.cwState = cwReceiving) ∧
  (∀ (s : State) (v : W32), s.cwState = cwReceiving → s.start.wrQueue = [] →
    s.fld F.CFG_WR_STATUS_BLOCK < s.fld F.CFG_WR_BLOCKS_BLOCKS → s.start.wrBlock.length = 1023 → s.Takes (.cfg true v) fun t =>
      let n := s.fld F.CFG_WR_STATUS_BLOCK
      let good := crc32 (s.start.wrBlock.reverse.flatMap wordBytes) = v
      t.cwState = (if n = 0 ∨ good then cwReceiving else cwFailed) ∧ t.start.wrBlock = [] ∧
      t.start.wrBlock0 = (if n = 0 then v :: s.start.wrBlock else if good then s.start.wrBlock0 else []) ∧
      t.start.wrQueue = (if n ≠ 0 ∧ good then [(n, (v :: s.start.wrBlock).reverse)] else []) ∧
      (n = 0 ∨ good → t.fld F.CFG_WR_STATUS_BLOCK = n + 1 ∧ t.fld F.CFG_WR_STATUS_WORD = 0)) ∧
  (∀ (s : State) (n : Fin 8), s.granted n.val (R.CFG_WR_CTRL.addr 0 0) R.CFG_WR_CTRL 0 = true →
    s.ahead.cwState = cwReceiving → (∀ h, s.ahead.start.head = some h → h.gen < bankWord s.ahead.cwImage 2) →
    Yields (.cfgWrCommit n (ctrlWord 0xC5 2)) s (s.Queued (.cfg false (ctrlWord 0xC5 2)))) ∧
  (∀ s : State, s.cwState = cwReceiving → (∀ h, s.start.head = some h → h.gen < bankWord s.cwImage 2) →
    s.Takes (.cfg false (ctrlWord 0xC5 2)) fun t => t.cwState = cwVerifying ∧ State.OnlyWords [R.CFG_WR_STATUS.base] s t) ∧
  (∀ (s : State) (n : Fin 8), s.granted n.val (R.CFG_WR_CTRL.addr 0 0) R.CFG_WR_CTRL 0 = true →
    Yields (.cfgWrAbort n (ctrlWord 0xC5 3)) s (s.Queued (.cfg false (ctrlWord 0xC5 3)))) ∧
  (∀ s : State, s.Takes (.cfg false (ctrlWord 0xC5 3)) fun t =>
    (s.cwOpen = false → t = s) ∧
    (s.cwOpen = true → t.cwState = cwFailed ∧ t.start.wrBlock0 = [] ∧ t.start.wrBlock = [] ∧ t.start.wrQueue = [] ∧
      t.start.bankA = s.start.bankA ∧ t.start.bankB = s.start.bankB ∧ t.domOn 60 = false)) ∧
  (∀ s : State, s.cwOpen = true → Yields .cfgWrTimeout s fun t =>
    t.cwState = cwFailed ∧ t.fld F.CFG_WR_STATUS_RESULT = rsTimeout ∧ t.domOn 60 = false ∧ t.start.wrQueue = [] ∧
    t.start.wrBlock = [] ∧ t.start.wrBlock0 = [] ∧ t.start.bankA = s.start.bankA ∧ t.start.bankB = s.start.bankB) ∧
  (∀ (s : State) (n : Nat) (ws : List W32) (rest : List (Nat × List W32)), s.start.wrQueue = (n, ws) :: rest → s.cwOpen = true →
    Yields .cfgWrPageProgrammed s fun t => t.start.wrQueue = rest ∧
      t.bank s.cwBank = bankPut (s.bank s.cwBank) (1024 * n) ws ∧ t.bank (1 - s.cwBank) = s.bank (1 - s.cwBank) ∧
      t = { s with start.wrQueue := rest, start.bankA := t.start.bankA, start.bankB := t.start.bankB }) ∧
  (∀ s : State, s.start.wrQueue = [] → s.cwState = cwVerifying → Yields .cfgWrPageProgrammed s fun t =>
    t.cwState = (if s.cwResult = 0 then cwProgramming else cwVerifying) ∧
    t.bank s.cwBank = (if s.cwResult = 0 then s.cwImage else s.bank s.cwBank) ∧
    t.bank (1 - s.cwBank) = s.bank (1 - s.cwBank)) ∧
  (∀ (s : State) (o : CommitOutcome), s.cwState = cwVerifying ∨ s.cwState = cwProgramming → s.start.wrQueue = [] →
    Yields (.cfgWrCommitDone o) s fun t =>
      let late := o = .timedOut ∧ s.cwState = cwVerifying
      t.cwState = (if o = .verified ∧ s.cwResult = 0 then cwDone else cwFailed) ∧
      t.bank s.cwBank = (if s.cwResult = 0 ∧ ¬ late then s.cwImage else s.bank s.cwBank) ∧
      t.bank (1 - s.cwBank) = s.bank (1 - s.cwBank) ∧ t.domOn 60 = false)

/-- A permitted register write completes OK and waits for the next data-plane tick, and what the tick then makes of it (R5, R57,
R75, R84, R85, R86, R95, R101, R103, R168, R169, R265). -/
def Obligations.WritesWaitForTheTick : Prop :=
  (∀ (s : State) (n : Fin 8) (a v : W32) (r : Reg) (i j : Nat), regAt a.toNat = some (r, i, j) → r.wr ≠ 0 → imageOnly r = false →
    r.w64 = false → claimKey r i = none → r ∉ [R.TILL_CMD, R.TILL_DATA_LO, R.TILL_DATA_HI, R.CFG_WR_CTRL, R.CFG_WR_DATA, R.PAIR_CTRL] →
    s.granted n.val a.toNat r i = true →
    s.ahead.wordCheck (s.session n.val).account r i (s.ahead.masked r i j v.toNat) v.toNat = 0 →
    Yields (.registerWrite n a v) s (s.Queued (.word a.toNat v n.val (s.session n.val).account))) ∧
  (∀ (s : State) (n : Nat) (a v : W32) (r : Reg) (i j o : Nat), regAt a.toNat = some (r, i, j) →
    r ∉ [R.SYS_RESTART, R.SESSION_CTRL, R.ACCT_CTRL, R.ACCT_KEY, R.DCH_CNT_CTRL, R.DS_CTRL, R.PAIR_CTRL, R.ACH_CFG, R.ACH_RATE, R.HART_CFG,
      R.HART_Z_BASE, R.DCH_CFG, R.DOM_CFG, R.CAN_CFG, R.CAN_NBT, R.CAN_DBT, R.CAN_TDC] → s.Takes (.word a.toNat v n o) fun t =>
      t.word a.toNat = BitVec.ofNat 32 (s.masked r i j v.toNat)) ∧
  (∀ (s : State) (n : Fin 8) (v : W32), s.granted n.val (R.SYS_RESTART.addr 0 0) R.SYS_RESTART 0 = true → bits v.toNat 7 0 = 0xA5 →
    Yields (.sysRestart n v) s (s.Queued (.word (R.SYS_RESTART.addr 0 0) v n.val (s.session n.val).account))) ∧
  (∀ (s : State) (n o : Nat) (v : W32), s.alive = true → s.Takes (.word (R.SYS_RESTART.addr 0 0) v n o) fun t =>
      t.phase = .stopped ∧ t.stop = .restart ∧ t.drive = .ended) ∧
  (∀ (s : State) (n a : Fin 8), s.granted n.val (R.ACCT_CTRL.addr a.val 0) R.ACCT_CTRL a.val = true →
    s.ahead.acctCtrlCheck (s.session n.val).account a.val (ctrlWord 0x3C 1).toNat = 0 →
    Yields (.acctCtrlReset n a 0x3C) s
      (s.Queued (.word (R.ACCT_CTRL.addr a.val 0) (ctrlWord 0x3C 1) n.val (s.session n.val).account))) ∧
  (∀ (s : State) (n o : Nat) (a : Fin 8), s.acctState a.val = aRunning ∨ s.acctState a.val = aFault →
    s.Takes (.word (R.ACCT_CTRL.addr a.val 0) (ctrlWord 0x3C 1) n o) fun t =>
      t.acctState a.val = aResetting ∧ (t.acct a.val).bySession = n ∧ ∀ b : Fin 8, b ≠ a → t.acctState b.val = s.acctState b.val) ∧
  (∀ (s : State) (n a : Fin 8), s.granted n.val (R.ACCT_CTRL.addr a.val 0) R.ACCT_CTRL a.val = true →
    s.ahead.acctCtrlCheck (s.session n.val).account a.val (ctrlWord 0x3C 2).toNat = 0 →
    Yields (.acctCtrlFault n a 0x3C) s
      (s.Queued (.word (R.ACCT_CTRL.addr a.val 0) (ctrlWord 0x3C 2) n.val (s.session n.val).account))) ∧
  (∀ (s : State) (n o : Nat) (a : Fin 8), s.acctState a.val ∈ [aRunning, aStarting, aStandby] →
    s.Takes (.word (R.ACCT_CTRL.addr a.val 0) (ctrlWord 0x3C 2) n o) fun t => t.acctState a.val = aFault ∧
      t.fld F.ACCT_STATUS_CAUSE a.val = 7 ∧ ∀ b : Fin 8, b ≠ a → t.acctState b.val = s.acctState b.val) ∧
  (∀ (s : State) (n a : Fin 8) (v : W32), s.granted n.val (R.ACCT_KEY.addr a.val 7) R.ACCT_KEY a.val = true →
    (a.val = 7 → s.ahead.sw12 = true) →
    Yields (.acctKeyWrite n a v) s (s.Queued (.word (R.ACCT_KEY.addr a.val 7) v n.val (s.session n.val).account))) ∧
  (∀ (s : State) (n o : Nat) (a : Fin 8) (v : W32), s.Takes (.word (R.ACCT_KEY.addr a.val 7) v n o) fun t =>
      (t.acct a.val).newKey = [] ∧ (t.acct a.val).key = (List.range 8).map fun j =>
        nget ((s.acct a.val).key.getD j 0) (ninsert (s.acct a.val).newKey 7 v) j) ∧
  (∀ (s : State) (n m : Fin 8), s.granted n.val (R.SESSION_CTRL.addr m.val 0) R.SESSION_CTRL m.val = true →
    Yields (.sessionCtrlClose n m 0x3C) s
      (s.Queued (.word (R.SESSION_CTRL.addr m.val 0) (ctrlWord 0x3C 1) n.val (s.session n.val).account))) ∧
  (∀ (s : State) (n o : Nat) (m : Fin 8), (s.session m.val).opened = true →
    s.Takes (.word (R.SESSION_CTRL.addr m.val 0) (ctrlWord 0x3C 1) n o) fun t =>
      t.session m.val = .init ∧ ∀ k : Fin 8, k ≠ m → t.session k.val = s.session k.val) ∧
  (∀ (s : State) (n a : Fin 8), s.granted n.val (R.FORCE_CTRL.addr a.val 0) R.FORCE_CTRL a.val = true →
    Yields (.forceSet n a 0x3C) s
      (s.Queued (.force a.val 1 n.val (s.forceTarget a.val) (s.forceValue a.val)))) ∧
  (∀ (s : State) (n a : Fin 8), s.granted n.val (R.FORCE_CTRL.addr a.val 0) R.FORCE_CTRL a.val = true →
    Yields (.forceClear n a 0x3C) s
      (s.Queued (.force a.val 2 n.val (s.forceTarget a.val) (s.forceValue a.val)))) ∧
  (∀ (s : State) (n a : Fin 8), s.granted n.val (R.FORCE_CTRL.addr a.val 0) R.FORCE_CTRL a.val = true →
    Yields (.forceClearAll n a 0x3C) s
      (s.Queued (.force a.val 3 n.val (s.forceTarget a.val) (s.forceValue a.val)))) ∧
  (∀ (s : State) (a : Fin 8) (n g : Nat) (v : W64), (∃ x ∈ s.image.sigs, x.1 = g) → (s.sig g).owner = a.val →
    (s.sig g).kind ≠ kModule → (a.val = 7 → s.sw12 = true) → ((s.force? g).isSome = true ∨ s.forceCount < 1024) →
    s.Takes (.force a.val 1 n g v) fun t => (t.sig g).value = v ∧ (t.sig g).quality = qValid ||| qForced ∧
      (t.sig g).stamp = s.stamp ∧ (t.force? g).map (·.value) = some v ∧ t.fld F.FORCE_RESULT_STATUS a.val = 0) ∧
  (∀ (s : State) (a : Fin 8) (n g : Nat) (v : W64) (f : Force), (∃ x ∈ s.image.sigs, x.1 = g) → (s.sig g).owner = a.val →
    (a.val = 7 → s.sw12 = true) → s.force? g = some f → s.Takes (.force a.val 2 n g v) fun t =>
      (t.sig g).value = f.unforced.value ∧ (t.sig g).quality = f.unforced.quality ∧ (t.sig g).stamp = f.unforced.stamp ∧
      t.fld F.FORCE_RESULT_STATUS a.val = 0) ∧
  (∀ (s : State) (a : Fin 8) (n g : Nat) (v : W64), (a.val = 7 → s.sw12 = true) → s.Takes (.force a.val 3 n g v) fun t =>
      (s.forcesOf a.val = [] → t.image = s.image) ∧ t.fld F.FORCE_RESULT_STATUS a.val = 0) ∧
  (∀ (s : State) (n : Fin 8) (g : Fin 192) (v : W32), s.granted n.val (R.ACH_CFG.addr g.val 0) R.ACH_CFG g.val = true →
    s.ahead.wordCheck (s.session n.val).account R.ACH_CFG g.val (s.ahead.masked R.ACH_CFG g.val 0 v.toNat) v.toNat = 0 →
    Yields (.analogueChCfgWrite n g v) s (s.Queued (.word (R.ACH_CFG.addr g.val 0) v n.val (s.session n.val).account))) ∧
  (∀ (s : State) (n o : Nat) (g : Fin 192) (v : W32), s.Takes (.word (R.ACH_CFG.addr g.val 0) v n o) fun t =>
      t.reg R.ACH_CFG g.val = s.masked R.ACH_CFG g.val 0 v.toNat ∧
      (aReconfigures (s.reg R.ACH_CFG g.val) (s.masked R.ACH_CFG g.val 0 v.toNat) = true → (t.achan g.val).setting = true)) ∧
  (∀ (s : State) (n : Fin 8) (g : Fin 192) (v : W32), s.granted n.val (R.HART_CFG.addr g.val 0) R.HART_CFG g.val = true →
    s.ahead.wordCheck (s.session n.val).account R.HART_CFG g.val (s.ahead.masked R.HART_CFG g.val 0 v.toNat) v.toNat = 0 →
    Yields (.hartCfgWrite n g v) s (s.Queued (.word (R.HART_CFG.addr g.val 0) v n.val (s.session n.val).account))) ∧
  (∀ (s : State) (n o : Nat) (g : Fin 192) (v : W32), s.Takes (.word (R.HART_CFG.addr g.val 0) v n o) fun t =>
      t.reg R.HART_CFG g.val = s.masked R.HART_CFG g.val 0 v.toNat ∧
      (s.flag F.HART_CFG_EN g.val = false → t.flag F.HART_CFG_EN g.val = true →
        t.fld F.HART_STATUS_STATE g.val = (if s.inControl then hsIdent else hsStandby))) ∧
  (∀ (s : State) (n : Fin 8) (g : Fin 192) (v : W32), s.granted n.val (R.HART_Z_BASE.addr g.val 0) R.HART_Z_BASE g.val = true →
    s.ahead.wordCheck (s.session n.val).account R.HART_Z_BASE g.val (s.ahead.masked R.HART_Z_BASE g.val 0 v.toNat) v.toNat = 0 →
    Yields (.hartZBaseWrite n g v) s (s.Queued (.word (R.HART_Z_BASE.addr g.val 0) v n.val (s.session n.val).account))) ∧
  (∀ (s : State) (n o : Nat) (g : Fin 192) (v : W32), s.Takes (.word (R.HART_Z_BASE.addr g.val 0) v n o) fun t =>
      t.reg R.HART_Z_BASE g.val = s.masked R.HART_Z_BASE g.val 0 v.toNat ∧
      (t.hartOf g.val).rebase1200 = (s.masked R.HART_Z_BASE g.val 0 v.toNat == 0)) ∧
  (∀ (s : State) (n : Fin 8) (g : Fin 320) (v : W32), s.granted n.val (R.DCH_CFG.addr g.val 0) R.DCH_CFG g.val = true →
    s.ahead.wordCheck (s.session n.val).account R.DCH_CFG g.val (s.ahead.masked R.DCH_CFG g.val 0 v.toNat) v.toNat = 0 →
    Yields (.digitalChCfgWrite n g v) s (s.Queued (.word (R.DCH_CFG.addr g.val 0) v n.val (s.session n.val).account))) ∧
  (∀ (s : State) (n o : Nat) (g : Fin 320) (v : W32), s.Takes (.word (R.DCH_CFG.addr g.val 0) v n o) fun t =>
      t.reg R.DCH_CFG g.val = s.masked R.DCH_CFG g.val 0 v.toNat ∧
      (bits (s.reg R.DCH_CFG g.val) 31 27 ≠ bits (s.masked R.DCH_CFG g.val 0 v.toNat) 31 27 → (t.dchan g.val).setting = true)) ∧
  (∀ (s : State) (n : Fin 8) (g : Fin 2) (v : W32), s.granted n.val (R.DOM_CFG.addr g.val 0) R.DOM_CFG g.val = true →
    s.ahead.wordCheck (s.session n.val).account R.DOM_CFG g.val (s.ahead.masked R.DOM_CFG g.val 0 v.toNat) v.toNat = 0 →
    Yields (.domCfgWrite n g v) s (s.Queued (.word (R.DOM_CFG.addr g.val 0) v n.val (s.session n.val).account))) ∧
  (∀ (s : State) (n o : Nat) (g : Fin 2) (v : W32), s.Takes (.word (R.DOM_CFG.addr g.val 0) v n o) fun t =>
      t.reg R.DOM_CFG g.val = s.masked R.DOM_CFG g.val 0 v.toNat ∧ (t.base g.val).foreign = []) ∧
  (∀ (s : State) (n : Fin 8) (ch : Fin 320), s.granted n.val (R.DCH_CNT_CTRL.addr ch.val 0) R.DCH_CNT_CTRL ch.val = true →
    s.ahead.dCntCheck ch.val (ctrlWord 0x3C 1).toNat = 0 →
    Yields (.cntClear n ch 0x3C) s
      (s.Queued (.word (R.DCH_CNT_CTRL.addr ch.val 0) (ctrlWord 0x3C 1) n.val (s.session n.val).account))) ∧
  (∀ (s : State) (n o : Nat) (ch : Fin 320), s.Takes (.word (R.DCH_CNT_CTRL.addr ch.val 0) (ctrlWord 0x3C 1) n o) fun t =>
      (t.dchan ch.val).count = 0) ∧
  (∀ (s : State) (n : Fin 8) (ch : Fin 320), s.granted n.val (R.DCH_CNT_CTRL.addr ch.val 0) R.DCH_CNT_CTRL ch.val = true →
    s.ahead.dCntCheck ch.val (ctrlWord 0x3C 2).toNat = 0 →
    Yields (.cntPreset n ch 0x3C) s
      (s.Queued (.word (R.DCH_CNT_CTRL.addr ch.val 0) (ctrlWord 0x3C 2) n.val (s.session n.val).account))) ∧
  (∀ (s : State) (n o : Nat) (ch : Fin 320), s.Takes (.word (R.DCH_CNT_CTRL.addr ch.val 0) (ctrlWord 0x3C 2) n o) fun t =>
      (t.dchan ch.val).count = BitVec.ofNat 64 (s.reg64 R.DCH_PRESET ch.val)) ∧
  (∀ (s : State) (n : Fin 8) (sl : Fin 10), s.granted n.val (R.DS_CTRL.addr sl.val 0) R.DS_CTRL sl.val = true →
    Yields (.dsCtrlRestore n sl 0x3C) s
      (s.Queued (.word (R.DS_CTRL.addr sl.val 0) (ctrlWord 0x3C 1) n.val (s.session n.val).account))) ∧
  (∀ (s : State) (n o : Nat) (sl : Fin 10), s.flag F.DS_LOAD_OVL_OFF sl.val = true →
    s.Takes (.word (R.DS_CTRL.addr sl.val 0) (ctrlWord 0x3C 1) n o) fun t =>
      t.flag F.DS_LOAD_OVL sl.val = false ∧ t.flag F.DS_LOAD_OVL_OFF sl.val = false)

/-- A write to an undefined address is RANGE, a write without permission PROT, and neither has an effect (R7, R95). -/
def Obligations.RefusedAccessHasNoEffect : Prop :=
  (∀ (s : State) (n : Fin 8) (a v : W32), (s.session n.val).opened = true → s.alive = true → s.limited a.toNat = false →
    (s.session n.val).map ≠ 2 → regAt a.toNat = none → Yields (.registerWrite n a v) s (s.Answered 9)) ∧
  (∀ (s : State) (n : Fin 8) (a v : W32), (s.session n.val).opened = true → s.alive = true →
    s.limited a.toNat = true ∨ (s.session n.val).map = 2 → Yields (.registerWrite n a v) s (s.Answered 8)) ∧
  (∀ (s : State) (n : Fin 8) (a v : W32) (r : Reg) (i j : Nat), (s.session n.val).opened = true → s.alive = true →
    regAt a.toNat = some (r, i, j) → (s.mayWrite (s.session n.val).account a.toNat r = false ∨ r.wr = 0 ∨ imageOnly r = true) →
    Yields (.registerWrite n a v) s (s.Answered 8)) ∧
  (∀ (s : State) (n : Fin 8) (a : Nat) (e : Ecc), s.limited a = false → regAt a = none → s.readReg n.val a e = (9, 0, s)) ∧
  (∀ (s : State) (n : Fin 8) (a v : W32), (s.session n.val).opened = false ∨ s.alive = false →
    Yields (.registerWrite n a v) s fun t => t = s)

/-- MARK, REWIND, RELEASE, reading and writing a till through a session, the till scrubber, and the admission of waiting requests
(R89, R91, R92, R98). -/
def Obligations.TillControl : Prop :=
  (∀ (s : State) (n a : Fin 8) (t : Fin 16), s.granted n.val (R.TILL_CMD.addr a.val t.val) R.TILL_CMD a.val = true →
    s.sessionEnd (s.session n.val).account a.val t.val false = true → Yields (.tillMark n a t) s fun u =>
      u = { s.setTill a.val t.val { s.till a.val t.val with mark := (s.till a.val t.val).rd } with mgmt.status := 0, mgmt.data := 0 }) ∧
  (∀ (s : State) (n a : Fin 8) (t : Fin 16), s.granted n.val (R.TILL_CMD.addr a.val t.val) R.TILL_CMD a.val = true →
    s.sessionEnd (s.session n.val).account a.val t.val false = true → Yields (.tillRewind n a t) s fun u =>
      u = { s.setTill a.val t.val { s.till a.val t.val with rd := (s.till a.val t.val).mark } with mgmt.status := 0, mgmt.data := 0 }) ∧
  (∀ (s : State) (n a : Fin 8) (t : Fin 16), s.granted n.val (R.TILL_CMD.addr a.val t.val) R.TILL_CMD a.val = true →
    s.sessionEnd (s.session n.val).account a.val t.val false = true → Yields (.tillRelease n a t) s fun u =>
      let x := s.till a.val t.val
      u = { s.setTill a.val t.val { x with rel := x.rd, mark := x.rd } with mgmt.status := 0, mgmt.data := 0 }) ∧
  (∀ (s : State) (n a : Fin 8) (t : Fin 16) (e : Ecc), (s.session n.val).opened = true → s.alive = true →
    s.limited (R.TILL_DATA_LO.addr a.val t.val) = false → s.sessionEnd (s.session n.val).account a.val t.val false = true →
    e ≠ .double → (s.till a.val t.val).rd ≠ (s.till a.val t.val).wr → Yields (.tillDataLoRead n a t e) s fun u =>
      let v := nget 0 s.tillMem (s.tillPos a.val t.val (s.till a.val t.val).rd)
      u.mgmt.status = 0 ∧ u.mgmt.data = half64 v 0 ∧
      u.captureAt n.val (R.TILL_DATA_LO.addr a.val t.val) = some (half64 v 1) ∧
      u.tills = (s.setTill a.val t.val { s.till a.val t.val with rd := (s.till a.val t.val).rd + 1 }).tills ∧
      u = { s with regs := u.regs, tills := u.tills, mgmt := u.mgmt } ∧
      s.Keeps (if e = .clean then [] else [R.TILL_ECC.addr a.val t.val]) u) ∧
  (∀ (s : State) (n a : Fin 8) (t : Fin 16), (s.session n.val).opened = true → s.alive = true →
    s.limited (R.TILL_DATA_LO.addr a.val t.val) = false → s.sessionEnd (s.session n.val).account a.val t.val false = true →
    (s.till a.val t.val).rd ≠ (s.till a.val t.val).wr → Yields (.tillDataLoRead n a t .double) s fun u =>
      u.mgmt.status = 0x0A ∧ u.mgmt.data = 0 ∧ u.flag F.TILL_STATUS_ECC2 a.val t.val = true ∧
      (u.till a.val t.val).rd = (s.till a.val t.val).rd + 1 ∧ u.tillMem = s.tillMem) ∧
  (∀ (s : State) (n a : Fin 8) (t : Fin 16) (v : W32), (s.session n.val).opened = true → s.alive = true →
    s.limited (R.TILL_DATA_HI.addr a.val t.val) = false → s.sessionEnd (s.session n.val).account a.val t.val false = true →
    s.captureAt n.val (R.TILL_DATA_LO.addr a.val t.val) = some v → Yields (.tillDataHiRead n a t) s fun u =>
      u = { s with mgmt.status := 0, mgmt.data := v }) ∧
  (∀ (s : State) (n a : Fin 8) (t : Fin 16) (v : W32), s.granted n.val (R.TILL_DATA_LO.addr a.val t.val) R.TILL_DATA_LO a.val = true →
    s.sessionEnd (s.session n.val).account a.val t.val true = true → Yields (.tillDataLoWrite n a t v) s fun u =>
      u.mgmt.status = 0 ∧ u.heldAt n.val (R.TILL_DATA_LO.addr a.val t.val) = some v ∧ u = { s with mgmt := u.mgmt }) ∧
  (∀ (s : State) (n a : Fin 8) (t : Fin 16) (v lo : W32), s.granted n.val (R.TILL_DATA_HI.addr a.val t.val) R.TILL_DATA_HI a.val = true →
    s.sessionEnd (s.session n.val).account a.val t.val true = true →
    s.heldAt n.val (R.TILL_DATA_LO.addr a.val t.val) = some lo → s.tillFree a.val t.val ≠ 0 →
    Yields (.tillDataHiWrite n a t v) s fun u =>
      let x := s.till a.val t.val
      u.mgmt.status = 0 ∧ u.heldAt n.val (R.TILL_DATA_LO.addr a.val t.val) = none ∧
      u.tills = (s.setTill a.val t.val { x with wr := x.wr + 1 }).tills ∧
      u.tillMem = nset 0 s.tillMem (s.tillPos a.val t.val x.wr) (joinHalves lo v) ∧
      u = { s with tills := u.tills, tillMem := u.tillMem, mgmt := u.mgmt }) ∧
  (∀ (s : State) (e : TillError),
    let x := s.till e.account.val e.till.val
    let size := s.tillSize e.account.val e.till.val
    e.pos < size → (e.pos + size - x.rel % size) % size < x.wr - x.rel → Yields (.tillScrub [e]) s fun u =>
      u.tillMem = s.tillMem ∧ u.tills = s.tills ∧
      (e.double = true → u.flag F.TILL_STATUS_ECC2 e.account.val e.till.val = true) ∧
      (e.double = false → u.fld F.TILL_ECC_CORRECTED e.account.val e.till.val =
        min (s.fld F.TILL_ECC_CORRECTED e.account.val e.till.val + 1) 0xFFFF)) ∧
  (∀ s : State, Yields (.tillScrub []) s fun u => u = s) ∧
  (∀ (s : State) (e : TillError) (es : List TillError), Yields (.tillScrub (e :: es)) s fun u =>
    u = es.foldl State.tillScrub (State.tillScrub s e)) ∧
  (∀ (s : State) (e : TillError), Yields (.tillScrub [e]) s fun u => u = State.tillScrub s e) ∧
  (∀ (s : State) (a : Fin 8), Yields (.requestAdmitWaiting a) s fun u =>
    let i := (s.queue a.val).findIdx (·.admitted.isNone)
    let q := (s.queue a.val).getD i ⟨[], none⟩
    let need := 1 + hReplyMax (q.item.headD 0)
    (u.queue a.val).map (·.item) = (s.queue a.val).map (·.item) ∧ u = { s with tills := u.tills, net := u.net } ∧
    (i < (s.queue a.val).length → need ≤ s.tillFree a.val ((s.replyTill a.val).getD 0) →
      ((u.queue a.val).getD i ⟨[], none⟩).admitted = some s.tick) ∧
    (i < (s.queue a.val).length → s.tillFree a.val ((s.replyTill a.val).getD 0) < need →
      u.queue a.val = s.queue a.val ∧ u.tills = s.tills))

/-- An empty till reads as the idle item, a full one takes nothing (R90). -/
def Obligations.EmptyAndFullTills : Prop :=
  (∀ (s : State) (a t : Nat) (e : Ecc), (s.till a t).rd = (s.till a t).wr →
    s.tillRead a t e = (0x1D1E000000000000, false, 0, s)) ∧
  (∀ (s : State) (a t : Nat) (v : W64), s.tillFree a t = 0 → s.tillWrite a t v = none) ∧
  (∀ (s : State) (n a : Fin 8) (t : Fin 16) (v lo : W32), s.granted n.val (R.TILL_DATA_HI.addr a.val t.val) R.TILL_DATA_HI a.val = true →
    s.sessionEnd (s.session n.val).account a.val t.val true = true →
    s.heldAt n.val (R.TILL_DATA_LO.addr a.val t.val) = some lo → s.tillFree a.val t.val = 0 →
    Yields (.tillDataHiWrite n a t v) s (s.Answered 3))

/-- Data windows: the claim by a write of the address register, its release and time-out, and accesses through the data register
(R8, R97, R141, R164, R168, R320). -/
def Obligations.WindowsAndTheirClaims : Prop :=
  (∀ (s : State) (n : Fin 8) (a v : W32) (r : Reg) (i j : Nat), regAt a.toNat = some (r, i, j) → isWinAddr r = true →
    a.toNat = r.addr i 0 → s.granted n.val a.toNat r i = true → (r = R.NET_ISSUE_ADDR → v = 0 ∨ v = 0xFFFFFFFF) →
    Yields (.dataWindowAddrWrite n a v) s fun t => t.mgmt.status = 0 ∧ t.reg r i = v.toNat ∧
      (v ≠ 0xFFFFFFFF → (t.window a.toNat).holder = some n.val) ∧ n.val ∉ (t.window a.toNat).owed ∧
      (v = 0xFFFFFFFF → (t.window a.toNat).holder ≠ some n.val) ∧ s.Keeps [a.toNat] t ∧ t.mgmt.effects = s.mgmt.effects) ∧
  (∀ (s : State) (a : W32) (n : Nat), isClaimAddr a.toNat = true → (s.window a.toNat).holder = some n →
    Yields (.windowClaimTimeout a) s fun t => (t.window a.toNat).holder = none ∧ n ∈ (t.window a.toNat).owed ∧
      t = { s with mgmt.windows := t.mgmt.windows }) ∧
  (∀ (s : State) (n : Fin 8) (k : Fin 64) (v : W32), s.granted n.val (R.DATA_WIN_DATA.addr k.val 0) R.DATA_WIN_DATA k.val = true →
    s.reg R.DATA_WIN_ADDR k.val < s.winBytes R.DATA_WIN_DATA k.val → s.reg R.DATA_WIN_ADDR k.val / 4 % 2 = 0 →
    Yields (.dataWinDataWrite n k v) s fun t => t.mgmt.status = 0 ∧ t.mgmt.effects = s.mgmt.effects ∧
      t.reg R.DATA_WIN_ADDR k.val = s.reg R.DATA_WIN_ADDR k.val + 4 ∧
      t.heldAt n.val (winKey R.DATA_WIN_DATA k.val (s.reg R.DATA_WIN_ADDR k.val)) = some v ∧
      t = { s with regs := t.regs, mgmt := t.mgmt } ∧ s.Keeps [R.DATA_WIN_ADDR.addr k.val 0] t) ∧
  (∀ (s : State) (n : Fin 8) (k : Fin 64) (v lo : W32), s.granted n.val (R.DATA_WIN_DATA.addr k.val 0) R.DATA_WIN_DATA k.val = true →
    s.reg R.DATA_WIN_ADDR k.val < s.winBytes R.DATA_WIN_DATA k.val → s.reg R.DATA_WIN_ADDR k.val / 4 % 2 = 1 →
    s.heldAt n.val (winKey R.DATA_WIN_DATA k.val (s.reg R.DATA_WIN_ADDR k.val)) = some lo →
    Yields (.dataWinDataWrite n k v) s fun t => t.mgmt.status = 0 ∧
      t.mgmt.effects = s.mgmt.effects ++ [.dataWord k.val (s.reg R.DATA_WIN_ADDR k.val / 8) (joinHalves lo v)] ∧
      t.reg R.DATA_WIN_ADDR k.val = s.reg R.DATA_WIN_ADDR k.val + 4 ∧
      t = { s with regs := t.regs, mgmt := t.mgmt } ∧ s.Keeps [R.DATA_WIN_ADDR.addr k.val 0] t) ∧
  (∀ (s : State) (k : Fin 64) (w : Nat) (v : W64), (s.exec? k.val).isSome = true → s.Takes (.dataWord k.val w v) fun t =>
    t = { s with image.dataWait := s.image.dataWait ++ [(k.val, w, v)] }) ∧
  (∀ (s : State) (n a : Fin 8) (v lo : W32), s.granted n.val (R.SIG_WIN_DATA.addr a.val 0) R.SIG_WIN_DATA a.val = true →
    let off := s.reg R.SIG_WIN_ADDR a.val
    off < s.winBytes R.SIG_WIN_DATA a.val → off / 4 % 2 = 1 → off / 8 % 8 = 3 → s.sig (off / 64) ≠ .init →
    (s.sig (off / 64)).owner = a.val → s.heldAt n.val (winKey R.SIG_WIN_DATA a.val off) = some lo →
    Yields (.sigWinDataWrite n a v) s fun t => t.mgmt.status = 0 ∧
      t.mgmt.effects = s.mgmt.effects ++ [.sigWord (off / 64) 3 (joinHalves lo v)] ∧
      t = { s with regs := t.regs, mgmt := t.mgmt } ∧ s.Keeps [R.SIG_WIN_ADDR.addr a.val 0] t) ∧
  (∀ (s : State) (n a : Fin 8) (v : W32), s.granted n.val (R.FORCE_SIGNAL.addr a.val 0) R.FORCE_SIGNAL a.val = true →
    s.rangeOk R.FORCE_SIGNAL a.val v.toNat = true → v ≠ 0xFFFFFFFF → Yields (.forceSignalWrite n a v) s fun t =>
      t.mgmt.status = 0 ∧ (t.window (R.FORCE_SIGNAL.addr a.val 0)).holder = some n.val ∧
      t.mgmt.effects = s.mgmt.effects ++ [.word (R.FORCE_SIGNAL.addr a.val 0) v n.val (s.session n.val).account] ∧
      t = { s with mgmt := t.mgmt }) ∧
  (∀ (s : State) (n a : Fin 8) (v : W32), s.granted n.val (R.FIRE_LIST_ADDR.addr a.val 0) R.FIRE_LIST_ADDR a.val = true →
    v ≠ 0xFFFFFFFF → Yields (.fireListAddrWrite n a v) s fun t => t.mgmt.status = 0 ∧
      nget [] t.image.fireCopy a.val = s.fireListOf a.val ∧ t.reg R.FIRE_LIST_ADDR a.val = v.toNat ∧
      t = { s with regs := t.regs, mgmt := t.mgmt, image.fireCopy := t.image.fireCopy } ∧
      s.Keeps [R.FIRE_LIST_ADDR.addr a.val 0] t) ∧
  (∀ (s : State) (n a : Fin 8) (v : W32), s.granted n.val (R.NET_ISSUE_DATA.addr a.val 0) R.NET_ISSUE_DATA a.val = true →
    s.reg R.NET_ISSUE_ADDR a.val < s.winBytes R.NET_ISSUE_DATA a.val → s.reg R.NET_ISSUE_ADDR a.val / 4 % 2 = 0 →
    Yields (.netIssueDataWrite n a v) s fun t => t.mgmt.status = 0 ∧
      t.heldAt n.val (winKey R.NET_ISSUE_DATA a.val (s.reg R.NET_ISSUE_ADDR a.val)) = some v ∧
      t = { s with regs := t.regs, mgmt := t.mgmt } ∧ s.Keeps [R.NET_ISSUE_ADDR.addr a.val 0] t) ∧
  (∀ (s : State) (n a : Fin 8) (v lo : W32), s.granted n.val (R.NET_ISSUE_DATA.addr a.val 0) R.NET_ISSUE_DATA a.val = true →
    let item := nget [] s.net.issue a.val ++ [joinHalves lo v]
    s.reg R.NET_ISSUE_ADDR a.val < s.winBytes R.NET_ISSUE_DATA a.val → s.reg R.NET_ISSUE_ADDR a.val / 4 % 2 = 1 →
    s.heldAt n.val (winKey R.NET_ISSUE_DATA a.val (s.reg R.NET_ISSUE_ADDR a.val)) = some lo →
    Yields (.netIssueDataWrite n a v) s fun t => t.mgmt.status = 0 ∧
      (item.length ≠ 1 + hLength (item.headD 0) → t.mgmt.effects = s.mgmt.effects ∧ nget [] t.net.issue a.val = item) ∧
      (item.length = 1 + hLength (item.headD 0) → t.mgmt.effects = s.mgmt.effects ++ [.issue a.val item] ∧
        nget [] t.net.issue a.val = [] ∧ t.reg R.NET_ISSUE_ADDR a.val = 0)) ∧
  (∀ (s : State) (n a : Fin 8), (s.session n.val).opened = true → s.alive = true →
    s.limited (R.SIG_WIN_DATA.addr a.val 0) = false →
    s.mayRead (s.session n.val).account (R.SIG_WIN_DATA.addr a.val 0) = true → s.claimed n.val R.SIG_WIN_DATA a.val = false →
    s.owes n.val (R.SIG_WIN_ADDR.addr a.val 0) = false → s.reg R.SIG_WIN_ADDR a.val < 64 * 131072 →
    ((s.session n.val).account = 0 ∨ (s.sig (s.reg R.SIG_WIN_ADDR a.val / 64)).owner = (s.session n.val).account ∨
      (s.sig (s.reg R.SIG_WIN_ADDR a.val / 64)).shared = true) →
    Yields (.dataWindowDataAccess n (BitVec.ofNat 32 (R.SIG_WIN_DATA.addr a.val 0)) none) s fun t => t.mgmt.status = 0 ∧
      t.mgmt.data = s.winWord R.SIG_WIN_DATA a.val (s.reg R.SIG_WIN_ADDR a.val) ∧
      t.reg R.SIG_WIN_ADDR a.val = s.reg R.SIG_WIN_ADDR a.val + 4 ∧
      t = { s with regs := t.regs, mgmt.status := t.mgmt.status, mgmt.data := t.mgmt.data } ∧
      s.Keeps [R.SIG_WIN_ADDR.addr a.val 0] t)

/-- Opening a session in two steps, its close by the client and by silence, the response that does not come, and the end of a
lockout (R99, R100, R101, R102, R104, R476). -/
def Obligations.SessionsOpenAndClose : Prop :=
  (∀ (s : State) (f : Frame) (n : Fin 8), s.hears f = true → mOp (words32 f.body) = 1 → s.phase ≠ .unconfigured →
    let w4 := ((words32 f.body).getD 4 0).toNat
    s.openCheck (mgmtOrigin f) (bits w4 2 0) (bits w4 15 8) = 0 →
    (List.range 8).find? (fun n => !(s.session n).opened && !(s.session n).awaiting) = some n.val →
    Yields (.mgmtOpen1 f) s fun t => (t.session n.val).awaiting = true ∧ (t.session n.val).opened = false ∧
      (t.session n.val).account = bits w4 2 0 ∧ (t.session n.val).map = min (bits w4 15 8) 3 ∧
      (t.session n.val).source = mgmtOrigin f ∧ (t.session n.val).moduleNonce = Config.random s.free ∧
      (∀ m : Fin 8, m ≠ n → t.session m.val = s.session m.val) ∧ t.free = s.free + 1 ∧ t.out.length = s.out.length + 1) ∧
  (∀ (s : State) (f : Frame), s.hears f = true → mOp (words32 f.body) = 2 →
    let n := mSession (words32 f.body)
    let x := s.session n
    n < 8 → x.awaiting = true → x.source = mgmtOrigin f → Yields (.mgmtOpen2 f) s fun t =>
      (t.session n).awaiting = false ∧ t.out.length = s.out.length + 1 ∧
      ((t.session n).opened = true ↔ bytesOf32 (((words32 f.body).drop 4).take 4) = s.response x) ∧
      ((t.session n).opened = false → t.session n = .init) ∧
      (∀ m : Fin 8, m.val ≠ n → t.session m.val = s.session m.val)) ∧
  (∀ (s : State) (f : Frame) (n : Fin 8), s.hears f = true → opIs f 7 = true → s.counts f n.val = true →
    Yields (.mgmtClose f) s fun t => t.session n.val = .init ∧ t.out.length = s.out.length + 1 ∧
      ∀ m : Fin 8, m ≠ n → t.session m.val = s.session m.val) ∧
  (∀ (s : State) (n : Fin 8), (s.session n.val).opened = true → (s.session n.val).since + 60000000 ≤ s.tick →
    Yields (.sessionIdleTimeout n) s fun t =>
    t.session n.val = .init ∧ (∀ m : Fin 8, m ≠ n → t.session m.val = s.session m.val) ∧
    t = { s with regs := t.regs, mgmt := t.mgmt, vault := t.vault } ∧ s.Keeps eventWords t) ∧
  (∀ (s : State) (n : Fin 8), ((s.session n.val).opened = false ∨ s.tick < (s.session n.val).since + 60000000) →
    Yields (.sessionIdleTimeout n) s fun t => t = s) ∧
  (∀ (s : State) (n : Fin 8), (s.session n.val).awaiting = true → (s.session n.val).since + 10000000 ≤ s.tick →
    Yields (.openResponseTimeout n) s fun t =>
    t.session n.val = .init ∧ (∀ m : Fin 8, m ≠ n → t.session m.val = s.session m.val) ∧
    t = { s with mgmt := t.mgmt, vault := t.vault }) ∧
  (∀ (s : State) (n : Fin 8), ((s.session n.val).awaiting = false ∨ s.tick < (s.session n.val).since + 10000000) →
    Yields (.openResponseTimeout n) s fun t => t = s) ∧
  (∀ (s : State) (src : Fin 4096), s.tick < (nget Lockout.init s.mgmt.lockouts src.val).since + 60000000 →
    Yields (.lockoutExpiry src) s fun t => t = s) ∧
  (∀ (s : State) (src : Fin 4096), (nget Lockout.init s.mgmt.lockouts src.val).since + 60000000 ≤ s.tick →
    Yields (.lockoutExpiry src) s fun t =>
    (nget Lockout.init t.mgmt.lockouts src.val).locked = false ∧ t = { s with mgmt.lockouts := t.mgmt.lockouts })

/-- A READ or WRITE frame of a session that counts is carried out once, answered, and its answer stored (R272, R327, R328). -/
def Obligations.SessionFramesAreAnswered : Prop :=
  (∀ (s : State) (f : Frame) (n : Fin 8) (ecc : List Ecc), s.hears f = true → opIs f 3 = true → s.counts f n.val = true →
    Yields (.mgmtRead f ecc) s fun t => let r := (s.heard f).accesses f n.val ecc
      (t.session n.val).reply = some (3, r.status, r.done, r.data) ∧ (t.session n.val).seq = some ((words32 f.body).getD 1 0).toNat ∧
      r.done ≤ mCount (words32 f.body) ∧ r.data.length = mCount (words32 f.body) ∧ t.out.length = r.s.out.length + 1) ∧
  (∀ (s : State) (f : Frame) (n : Fin 8), s.hears f = true → opIs f 4 = true → s.counts f n.val = true →
    Yields (.mgmtWrite f) s fun t => let r := (s.heard f).accesses f n.val []
      (t.session n.val).reply = some (4, r.status, r.done, []) ∧ (t.session n.val).seq = some ((words32 f.body).getD 1 0).toNat ∧
      r.done ≤ mCount (words32 f.body) ∧ (r.status = 0 → r.done = mCount (words32 f.body)) ∧
      t.out.length + t.mgmt.replies.length = r.s.out.length + r.s.mgmt.replies.length + 1) ∧
  (∀ (s : State) (f : Frame) (n : Fin 8) (ecc : List Ecc), s.hears f = true → opIs f 5 = true → s.counts f n.val = true →
    Yields (.mgmtReadRepeat f ecc) s fun t => let r := (s.heard f).accesses f n.val ecc
      (t.session n.val).reply = some (5, r.status, r.done, r.data) ∧ (t.session n.val).seq = some ((words32 f.body).getD 1 0).toNat ∧
      r.done ≤ mCount (words32 f.body) ∧ r.data.length = mCount (words32 f.body) ∧ t.out.length = r.s.out.length + 1) ∧
  (∀ (s : State) (f : Frame) (n : Fin 8), s.hears f = true → opIs f 6 = true → s.counts f n.val = true →
    Yields (.mgmtWriteRepeat f) s fun t => let r := (s.heard f).accesses f n.val []
      (t.session n.val).reply = some (6, r.status, r.done, []) ∧ (t.session n.val).seq = some ((words32 f.body).getD 1 0).toNat ∧
      r.done ≤ mCount (words32 f.body) ∧ (r.status = 0 → r.done = mCount (words32 f.body)) ∧
      t.out.length + t.mgmt.replies.length = r.s.out.length + r.s.mgmt.replies.length + 1)

/-- A counted frame with an unknown OP or a COUNT above 256 accesses no register and is answered RANGE (R475). -/
def Obligations.UnknownOpAnsweredRange : Prop :=
  ∀ (s : State) (f : Frame) (n : Fin 8), s.hears f = true → opUnknown f = true → s.counts f n.val = true →
    Yields (.mgmtUnknownOp f) s fun t => (t.session n.val).reply = some (mOp (words32 f.body), 9, 0, []) ∧
      (t.session n.val).seq = some ((words32 f.body).getD 1 0).toNat ∧
      t.out.length = s.out.length + 1 ∧ t.out.take s.out.length = s.out ∧
      t.out.getLast?.map (fun x => (x.body.drop 12).take 4) = some [0, 0, 0, 9] ∧
      (f.port.val = 4 → t = { s with mgmt := t.mgmt, out := t.out }) ∧ t.tillMem = s.tillMem ∧ t.tills = s.tills ∧
      t.mgmt = { s.mgmt with sessions := t.mgmt.sessions } ∧
      s.Keeps ((List.range 4).map (fun p => R.PORT_RX.addr p 0) ++ (List.range 4).map fun p => R.PORT_TX.addr p 0) t

/-- A completed account reset: empty tills, a count, and a running account, a standby account, or the fault that waited (R86). -/
def Obligations.AccountResetCompletes : Prop :=
  ∀ (s : State) (a : Fin 8), s.acctState a.val = aResetting → Yields (.acctResetComplete a) s fun t =>
    (∀ k : Fin 16, t.till a.val k.val = .init) ∧ (t.acct a.val).pendingFault = 0 ∧
    t.fld F.ACCT_STATUS_RESETS a.val = min (s.fld F.ACCT_STATUS_RESETS a.val + 1) (2 ^ (F.ACCT_STATUS_RESETS.hi + 1 - F.ACCT_STATUS_RESETS.lo) - 1) ∧
    t.acctState a.val = (if (s.acct a.val).pendingFault ≠ 0 then aFault else if s.inControl then aRunning else aStandby) ∧
    ((s.acct a.val).pendingFault ≠ 0 → t.fld F.ACCT_STATUS_CAUSE a.val = (s.acct a.val).pendingFault % 256) ∧
    t.fld F.FIRE_USED_PEAK a.val = 0 ∧ t.phase = s.phase ∧ t.drive = s.drive ∧ t.tick = s.tick

/-- NOP, END, jumps, calls, returns, the loop, the software trap, the return from a trap, and an illegal instruction (R110, R112,
R115, R116, R135, R158). -/
def Obligations.WheelControlFlow : Prop :=
  (∀ (c : Ctx) (l : Fin 16), c.fetched l.val 0x00 → Yields (.wNop l) c.s fun t => t = c.ran c.lane) ∧
  (∀ (c : Ctx) (l : Fin 16) (ns : Nat) (same : Bool), c.fetched l.val 0x01 → c.ex.lanes.length = 1 → Yields (.wEnd l ns same) c.s fun t =>
    t.exec? c.ex.k = none ∧ t.reg R.TASK_LAST c.ex.k = ns % 2 ^ 32 ∧ t.fld F.PROG_FLAGS_FLAGS c.ex.k = c.lane.flags.toNat ∧
    t.reg R.PROG_CYCLES c.ex.k = (c.lane.cycles + 2) % 2 ^ 32) ∧
  (∀ (c : Ctx) (l : Fin 16) (ns : Nat) (same : Bool), c.fetched l.val 0x01 → 1 < c.ex.lanes.length → c.quiet →
    (c.ex.lanes.getD (1 - c.copy) .init).ended = false → Yields (.wEnd l ns same) c.s fun t =>
      t = c.ranOn c.s (c.pointing { c.lane with ended := true, pc := c.lane.pc + 1 } .done)) ∧
  (∀ (c : Ctx) (l : Fin 16) (ns : Nat) (same : Bool), c.fetched l.val 0x01 → c.ex.lanes.length = 2 →
    (c.ex.lanes.getD (1 - c.copy) .init).ended = true → (c.ex.lanes.getD (1 - c.copy) .init).dead = none →
    (c.ex.lanes.getD (1 - c.copy) .init).points = [.done] → Yields (.wEnd l ns same) c.s fun t =>
      t.exec? c.ex.k = none ∧ t.reg R.TASK_LAST c.ex.k = ns % 2 ^ 32) ∧
  (∀ (c : Ctx) (l : Fin 16), c.fetched l.val 0x02 → iOpnd c.word < c.codeWords → Yields (.wJmp l) c.s fun t =>
    t = c.ranOn c.s { c.lane with pc := BitVec.ofNat 16 (iOpnd c.word) }) ∧
  (∀ (c : Ctx) (l : Fin 16), c.fetched l.val 0x03 → iOpnd c.word < c.codeWords → Yields (.wJc l) c.s fun t =>
    t = if c.lane.ba then c.ranOn c.s { c.lane with pc := BitVec.ofNat 16 (iOpnd c.word), cycles := c.lane.cycles + 1 }
      else c.ran c.lane) ∧
  (∀ (c : Ctx) (l : Fin 16), c.fetched l.val 0x04 → iOpnd c.word < c.codeWords → Yields (.wJcn l) c.s fun t =>
    t = if c.lane.ba then c.ran c.lane
      else c.ranOn c.s { c.lane with pc := BitVec.ofNat 16 (iOpnd c.word), cycles := c.lane.cycles + 1 }) ∧
  (∀ (c : Ctx) (l : Fin 16), c.fetched l.val 0x05 → iOpnd c.word < c.codeWords → c.lane.cs.length < 8 →
    Yields (.wCall l) c.s fun t =>
      t = c.ranOn c.s { c.lane with pc := BitVec.ofNat 16 (iOpnd c.word), cs := (c.lane.pc + 1) :: c.lane.cs }) ∧
  (∀ (c : Ctx) (l : Fin 16) (r : BitVec 16) (rs : List (BitVec 16)), c.fetched l.val 0x06 → c.lane.cs = r :: rs →
    Yields (.wRet l) c.s fun t => t = c.ranOn c.s { c.lane with pc := r, cs := rs }) ∧
  (∀ (c : Ctx) (l : Fin 16), c.fetched l.val 0x07 → c.quiet → c.lane.handler = false →
    c.s.fld F.PROG_ENTRY_TRAP_VEC c.ex.k ≠ 0xFFFF → Yields (.wTrap l) c.s fun t =>
      t.laneAt c.ex.k c.copy = c.pointing { c.counted c.lane with
        pc := BitVec.ofNat 16 (c.s.fld F.PROG_ENTRY_TRAP_VEC c.ex.k), trapCause := BitVec.ofNat 8 (0x80 + iOpnd c.word % 128),
        trapPc := c.lane.pc, handler := true } (.trap (0x80 + iOpnd c.word % 128) c.lane.pc.toNat) ∧
      (c.copy = 0 → t.fld F.PROG_STATUS_LAST_CAUSE c.ex.k = 0x80 + iOpnd c.word % 128) ∧ t.tillMem = c.s.tillMem ∧
      t.image = { c.s.image with execs := t.image.execs }) ∧
  (∀ (c : Ctx) (l : Fin 16), c.fetched l.val 0x08 → c.lane.handler = true → Yields (.wRtt l) c.s fun t =>
    t = c.ranOn c.s { c.lane with pc := c.lane.trapPc + 1, handler := false }) ∧
  (∀ (c : Ctx) (l : Fin 16), c.fetched l.val 0x09 → iOpnd c.word < c.codeWords → Yields (.wLoop l) c.s fun t =>
    let x := c.lane.xr (iXs c.word) - 1
    t = if x = 0 then c.ran (c.lane.setX (iXs c.word) x)
      else c.ranOn c.s { c.lane.setX (iXs c.word) x with pc := BitVec.ofNat 16 (iOpnd c.word), cycles := c.lane.cycles + 1 }) ∧
  (∀ (c : Ctx) (l : Fin 16), c.s.running l.val = some (c.ex, c.copy) → c.s.exec? c.ex.k = some c.ex → c.copy < c.ex.lanes.length →
    c.lane = c.ex.lanes.getD c.copy .init → c.lane.ended = false → c.lane.dead = none →
    iLegal (nget 0 c.s.image.code (65536 * c.ex.k + c.lane.pc.toNat)) = false → c.lane.pc.toNat < c.codeWords → c.quiet →
    c.lane.handler = false → c.s.fld F.PROG_ENTRY_TRAP_VEC c.ex.k ≠ 0xFFFF → Yields (.illegalInstruction l) c.s fun t =>
      (t.laneAt c.ex.k c.copy).trapCause = 1 ∧ (t.laneAt c.ex.k c.copy).trapPc = c.lane.pc ∧
      (t.laneAt c.ex.k c.copy).handler = true ∧ (t.laneAt c.ex.k c.copy).wa = c.lane.wa ∧
      (t.laneAt c.ex.k c.copy).pc = BitVec.ofNat 16 (c.s.fld F.PROG_ENTRY_TRAP_VEC c.ex.k))

/-- Boolean instructions on BA and the branch stack, and loads of WA in every operand form (R113, R114, R116, R119). -/
def Obligations.WheelBooleanAndLoads : Prop :=
  (∀ (c : Ctx) (l : Fin 16) (v : W64), c.fetched l.val 0x10 → c.src false = .ok v → Yields (.wBld l) c.s fun t =>
    t = c.ran { c.lane with ba := v != 0 }) ∧
  (∀ (c : Ctx) (l : Fin 16) (v : W64), c.fetched l.val 0x11 → c.src false = .ok v → Yields (.wBldn l) c.s fun t =>
    t = c.ran { c.lane with ba := v == 0 }) ∧
  (∀ (c : Ctx) (l : Fin 16) (v : W64), c.fetched l.val 0x12 → c.src false = .ok v → Yields (.wBand l) c.s fun t =>
    t = c.ran { c.lane with ba := c.lane.ba && v != 0 }) ∧
  (∀ (c : Ctx) (l : Fin 16) (v : W64), c.fetched l.val 0x13 → c.src false = .ok v → Yields (.wBandn l) c.s fun t =>
    t = c.ran { c.lane with ba := c.lane.ba && v == 0 }) ∧
  (∀ (c : Ctx) (l : Fin 16) (v : W64), c.fetched l.val 0x14 → c.src false = .ok v → Yields (.wBor l) c.s fun t =>
    t = c.ran { c.lane with ba := c.lane.ba || v != 0 }) ∧
  (∀ (c : Ctx) (l : Fin 16) (v : W64), c.fetched l.val 0x15 → c.src false = .ok v → Yields (.wBorn l) c.s fun t =>
    t = c.ran { c.lane with ba := c.lane.ba || v == 0 }) ∧
  (∀ (c : Ctx) (l : Fin 16) (v : W64), c.fetched l.val 0x16 → c.src false = .ok v → Yields (.wBxor l) c.s fun t =>
    t = c.ran { c.lane with ba := Bool.xor c.lane.ba (v != 0) }) ∧
  (∀ (c : Ctx) (l : Fin 16), c.fetched l.val 0x17 → Yields (.wBnot l) c.s fun t => t = c.ran { c.lane with ba := !c.lane.ba }) ∧
  (∀ (c : Ctx) (l : Fin 16), c.fetched l.val 0x1A → c.lane.bs.length < 16 → Yields (.wPushb l) c.s fun t =>
    t = c.ran { c.lane with bs := c.lane.ba :: c.lane.bs }) ∧
  (∀ (c : Ctx) (l : Fin 16) (p : Bool) (bs : List Bool), c.fetched l.val 0x1B → c.lane.bs = p :: bs → Yields (.wPopb l) c.s fun t =>
    t = c.ran { c.lane with bs := bs, ba := p }) ∧
  (∀ (c : Ctx) (l : Fin 16) (p : Bool) (bs : List Bool), c.fetched l.val 0x1C → c.lane.bs = p :: bs → Yields (.wPopa l) c.s fun t =>
    t = c.ran { c.lane with bs := bs, ba := p && c.lane.ba }) ∧
  (∀ (c : Ctx) (l : Fin 16) (p : Bool) (bs : List Bool), c.fetched l.val 0x1D → c.lane.bs = p :: bs → Yields (.wPopo l) c.s fun t =>
    t = c.ran { c.lane with bs := bs, ba := p || c.lane.ba }) ∧
  (∀ (c : Ctx) (l : Fin 16) (p : Bool) (bs : List Bool), c.fetched l.val 0x1E → c.lane.bs = p :: bs → Yields (.wPopx l) c.s fun t =>
    t = c.ran { c.lane with bs := bs, ba := Bool.xor p c.lane.ba }) ∧
  (∀ (c : Ctx) (l : Fin 16), c.fetched l.val 0x1F → Yields (.wBldf l) c.s fun t =>
    t = c.ran { c.lane with ba := c.lane.flags.getLsbD (iOpnd c.word) }) ∧
  (∀ (c : Ctx) (l : Fin 16), c.fetched l.val 0x20 → iMode c.word = 0 → Yields (.wLd l) c.s fun t =>
    t = c.ran { c.lane with wa := (BitVec.ofNat 20 (iOpnd c.word)).signExtend 64 }) ∧
  (∀ (c : Ctx) (l : Fin 16), c.fetched l.val 0x20 → iMode c.word = 1 → iOpnd c.word < c.dataWords → Yields (.wLd l) c.s fun t =>
    t = c.ran { c.lane with wa := c.data (iOpnd c.word) }) ∧
  (∀ (c : Ctx) (l : Fin 16), c.fetched l.val 0x20 → iMode c.word = 2 →
    iOpnd c.word + (c.lane.xr (iXs c.word)).toNat < c.dataWords → Yields (.wLd l) c.s fun t =>
      t = c.ran { c.lane with wa := c.data (iOpnd c.word + (c.lane.xr (iXs c.word)).toNat) }) ∧
  (∀ (c : Ctx) (l : Fin 16) (n : Nat), c.fetched l.val 0x20 → iMode c.word = 3 → c.slotNo = some n → Yields (.wLd l) c.s fun t =>
    t = c.ran { c.lane with wa := (c.slotView n).value }) ∧
  (∀ (c : Ctx) (l : Fin 16), c.fetched l.val 0x21 → Yields (.wLdu l) c.s fun t =>
    t = c.ran { c.lane with wa := c.lane.wa <<< 20 ||| BitVec.ofNat 64 (iOpnd c.word) })

/-- BST, BSTN, ST and STX store to the one data word or the one output slot that the operand names (R116, R119, R120). -/
def Obligations.WheelStores : Prop :=
  (∀ (c : Ctx) (l : Fin 16) (a : Nat), c.fetched l.val 0x18 → iMode c.word ≠ 3 → c.addr 1 = some a → Yields (.wBst l) c.s fun t =>
    t = c.ranOn (c.s.wheelStore c a (if c.lane.ba then 1 else 0)) { c.lane with pc := c.lane.pc + 1 }) ∧
  (∀ (c : Ctx) (l : Fin 16) (a : Nat), c.fetched l.val 0x19 → iMode c.word ≠ 3 → c.addr 1 = some a → Yields (.wBstn l) c.s fun t =>
    t = c.ranOn (c.s.wheelStore c a (if c.lane.ba then 0 else 1)) { c.lane with pc := c.lane.pc + 1 }) ∧
  (∀ (c : Ctx) (l : Fin 16) (a : Nat), c.fetched l.val 0x22 → iMode c.word ≠ 3 → c.addr 1 = some a → Yields (.wSt l) c.s fun t =>
    t = c.ranOn (c.s.wheelStore c a c.lane.wa) { c.lane with pc := c.lane.pc + 1 }) ∧
  (∀ (c : Ctx) (l : Fin 16) (a : Nat), c.fetched l.val 0x61 → c.addr 1 = some a → Yields (.wStx l) c.s fun t =>
    t = c.ranOn (c.s.wheelStore c a ((c.lane.xr (iXs c.word)).setWidth 64)) { c.lane with pc := c.lane.pc + 1 }) ∧
  (∀ (c : Ctx) (a b : Nat) (v : W64), nget 0 (c.s.wheelStore c a v).image.data b =
    if b = c.dataKey a then v else nget 0 c.s.image.data b) ∧
  (∀ (c : Ctx) (l : Fin 16) (n : Nat), c.fetched l.val 0x22 → iMode c.word = 3 → c.slotNo = some n →
    (c.s.slot c.ex.k n).out = true → c.quiet →
    let e : DEntry := ⟨n, (c.s.slot c.ex.k n).sig, c.lane.wa, c.lane.ftMode, c.lane.ftTime⟩
    deltaSize (deltaPut e c.lane.delta) ≤ 2048 → Yields (.wSt l) c.s fun t =>
      t = c.ranOn c.s (c.pointing { c.lane with delta := deltaPut e c.lane.delta, pc := c.lane.pc + 1 } (.entry e))) ∧
  (∀ (c : Ctx) (l : Fin 16) (n : Nat), c.fetched l.val 0x18 → iMode c.word = 3 → c.slotNo = some n →
    (c.s.slot c.ex.k n).out = true → c.quiet →
    let e : DEntry := ⟨n, (c.s.slot c.ex.k n).sig, if c.lane.ba then 1 else 0, c.lane.ftMode, c.lane.ftTime⟩
    deltaSize (deltaPut e c.lane.delta) ≤ 2048 → Yields (.wBst l) c.s fun t =>
      t = c.ranOn c.s (c.pointing { c.lane with delta := deltaPut e c.lane.delta, pc := c.lane.pc + 1 } (.entry e))) ∧
  (∀ (c : Ctx) (l : Fin 16) (n : Nat), c.fetched l.val 0x19 → iMode c.word = 3 → c.slotNo = some n →
    (c.s.slot c.ex.k n).out = true → c.quiet →
    let e : DEntry := ⟨n, (c.s.slot c.ex.k n).sig, if c.lane.ba then 0 else 1, c.lane.ftMode, c.lane.ftTime⟩
    deltaSize (deltaPut e c.lane.delta) ≤ 2048 → Yields (.wBstn l) c.s fun t =>
      t = c.ranOn c.s (c.pointing { c.lane with delta := deltaPut e c.lane.delta, pc := c.lane.pc + 1 } (.entry e)))

/-- Integer arithmetic, logic, shifts and comparisons on WA, with their flags (R116, R117). -/
def Obligations.WheelIntegerArithmetic : Prop :=
  let res (c : Ctx) (r : Int) : State := c.ran { c.lane with
    wa := BitVec.ofInt 64 r,
    flags := setFlag (setFlag (setFlag c.lane.flags fZ (BitVec.ofInt 64 r == 0)) fN ((BitVec.ofInt 64 r).slt 0)) fV
      (r < -(2 ^ 63) || 2 ^ 63 ≤ r) }
  let bitsTo (c : Ctx) (r : W64) : State := c.ran { c.lane with
    wa := r, flags := setFlag (setFlag (setFlag c.lane.flags fZ (r == 0)) fN (r.slt 0)) fV false }
  let byZero (c : Ctx) : State := c.ran { c.lane with
    wa := 0, flags := stick (setFlag (setFlag (setFlag c.lane.flags fZ true) fN false) fV false) fDZ true }
  (∀ (c : Ctx) (l : Fin 16) (b : W64), c.fetched l.val 0x23 → c.src false = .ok b → c.ex.mask.getLsbD 0 = false →
    Yields (.wAdd l) c.s fun t => t = res c (c.lane.wa.toInt + b.toInt)) ∧
  (∀ (c : Ctx) (l : Fin 16) (b : W64), c.fetched l.val 0x24 → c.src false = .ok b → c.ex.mask.getLsbD 0 = false →
    Yields (.wSub l) c.s fun t => t = res c (c.lane.wa.toInt - b.toInt)) ∧
  (∀ (c : Ctx) (l : Fin 16) (b : W64), c.fetched l.val 0x25 → c.src false = .ok b → c.ex.mask.getLsbD 0 = false →
    Yields (.wMul l) c.s fun t => t = res c (c.lane.wa.toInt * b.toInt)) ∧
  (∀ (c : Ctx) (l : Fin 16) (b : W64), c.fetched l.val 0x26 → c.src false = .ok b → c.ex.mask.getLsbD 0 = false →
    c.ex.mask.getLsbD 1 = false → Yields (.wDiv l) c.s fun t =>
      t = if b = 0 then byZero c else res c (c.lane.wa.toInt.tdiv b.toInt)) ∧
  (∀ (c : Ctx) (l : Fin 16) (b : W64), c.fetched l.val 0x27 → c.src false = .ok b → c.ex.mask.getLsbD 1 = false →
    Yields (.wMod l) c.s fun t => t = if b = 0 then byZero c else res c (c.lane.wa.toInt.tmod b.toInt)) ∧
  (∀ (c : Ctx) (l : Fin 16) (b : W64), c.fetched l.val 0x28 → c.src false = .ok b → Yields (.wAnd l) c.s fun t =>
    t = bitsTo c (c.lane.wa &&& b)) ∧
  (∀ (c : Ctx) (l : Fin 16) (b : W64), c.fetched l.val 0x29 → c.src false = .ok b → Yields (.wOr l) c.s fun t =>
    t = bitsTo c (c.lane.wa ||| b)) ∧
  (∀ (c : Ctx) (l : Fin 16) (b : W64), c.fetched l.val 0x2A → c.src false = .ok b → Yields (.wXor l) c.s fun t =>
    t = bitsTo c (c.lane.wa ^^^ b)) ∧
  (∀ (c : Ctx) (l : Fin 16) (b : W64), c.fetched l.val 0x2B → c.src false = .ok b → Yields (.wShl l) c.s fun t =>
    t = bitsTo c (if b.toNat % 256 < 64 then c.lane.wa <<< (b.toNat % 256) else 0)) ∧
  (∀ (c : Ctx) (l : Fin 16) (b : W64), c.fetched l.val 0x2C → c.src false = .ok b → Yields (.wShr l) c.s fun t =>
    t = bitsTo c (if b.toNat % 256 < 64 then c.lane.wa >>> (b.toNat % 256) else 0)) ∧
  (∀ (c : Ctx) (l : Fin 16) (b : W64), c.fetched l.val 0x2D → c.src false = .ok b → Yields (.wSar l) c.s fun t =>
    t = bitsTo c (c.lane.wa.sshiftRight (min (b.toNat % 256) 63))) ∧
  (∀ (c : Ctx) (l : Fin 16), c.fetched l.val 0x2E → c.ex.mask.getLsbD 0 = false → Yields (.wNeg l) c.s fun t =>
    t = res c (-c.lane.wa.toInt)) ∧
  (∀ (c : Ctx) (l : Fin 16), c.fetched l.val 0x2F → c.ex.mask.getLsbD 0 = false → Yields (.wAbs l) c.s fun t =>
    t = res c (if c.lane.wa.toInt < 0 then -c.lane.wa.toInt else c.lane.wa.toInt)) ∧
  (∀ (c : Ctx) (l : Fin 16) (b : W64), c.fetched l.val 0x30 → c.src false = .ok b → Yields (.wCeq l) c.s fun t =>
    t = c.ran { c.lane with ba := decide (c.lane.wa = b) }) ∧
  (∀ (c : Ctx) (l : Fin 16) (b : W64), c.fetched l.val 0x31 → c.src false = .ok b → Yields (.wCne l) c.s fun t =>
    t = c.ran { c.lane with ba := decide (c.lane.wa ≠ b) }) ∧
  (∀ (c : Ctx) (l : Fin 16) (b : W64), c.fetched l.val 0x32 → c.src false = .ok b → Yields (.wClt l) c.s fun t =>
    t = c.ran { c.lane with ba := c.lane.wa.slt b }) ∧
  (∀ (c : Ctx) (l : Fin 16) (b : W64), c.fetched l.val 0x33 → c.src false = .ok b → Yields (.wCle l) c.s fun t =>
    t = c.ran { c.lane with ba := c.lane.wa.sle b }) ∧
  (∀ (c : Ctx) (l : Fin 16) (b : W64), c.fetched l.val 0x34 → c.src false = .ok b → Yields (.wCgt l) c.s fun t =>
    t = c.ran { c.lane with ba := b.slt c.lane.wa }) ∧
  (∀ (c : Ctx) (l : Fin 16) (b : W64), c.fetched l.val 0x35 → c.src false = .ok b → Yields (.wCge l) c.s fun t =>
    t = c.ran { c.lane with ba := b.sle c.lane.wa }) ∧
  (∀ (c : Ctx) (l : Fin 16) (b : W64), c.fetched l.val 0x36 → c.src false = .ok b → Yields (.wCltu l) c.s fun t =>
    t = c.ran { c.lane with ba := c.lane.wa.ult b }) ∧
  (∀ (c : Ctx) (l : Fin 16) (b : W64), c.fetched l.val 0x37 → c.src false = .ok b → Yields (.wCgeu l) c.s fun t =>
    t = c.ran { c.lane with ba := b.ule c.lane.wa })

/-- Binary64 arithmetic, conversions and comparisons, with their sticky flags (R116, R118). -/
def Obligations.WheelFloatArithmetic : Prop :=
  let res (c : Ctx) (r : FRes) : State := c.ran { c.lane with
    wa := r.val,
    flags := setFlag (setFlag (stick (stick (stick (stick (stick c.lane.flags fDZ r.dz) fIV r.iv) fOF r.of_) fUF r.uf) fIX r.ix)
      fZ (r.val &&& 0x7FFFFFFFFFFFFFFF == 0)) fN (r.val.getLsbD 63) }
  let free (c : Ctx) : Prop := c.ex.mask.getLsbD 2 = false ∧ c.ex.mask.getLsbD 3 = false ∧ c.ex.mask.getLsbD 4 = false
  let truth (c : Ctx) (b : W64) (v : Bool) : State := c.ran { c.lane with
    ba := v, flags := stick c.lane.flags fIV (f64IsSNaN c.lane.wa || f64IsSNaN b) }
  (∀ (c : Ctx) (l : Fin 16) (b : W64), c.fetched l.val 0x40 → c.src true = .ok b → free c → Yields (.wFadd l) c.s fun t =>
    t = res c (f64Add c.lane.wa b)) ∧
  (∀ (c : Ctx) (l : Fin 16) (b : W64), c.fetched l.val 0x41 → c.src true = .ok b → free c → Yields (.wFsub l) c.s fun t =>
    t = res c (f64Sub c.lane.wa b)) ∧
  (∀ (c : Ctx) (l : Fin 16) (b : W64), c.fetched l.val 0x42 → c.src true = .ok b → free c → Yields (.wFmul l) c.s fun t =>
    t = res c (f64Mul c.lane.wa b)) ∧
  (∀ (c : Ctx) (l : Fin 16) (b : W64), c.fetched l.val 0x43 → c.src true = .ok b → free c → Yields (.wFdiv l) c.s fun t =>
    t = res c (f64Div c.lane.wa b)) ∧
  (∀ (c : Ctx) (l : Fin 16) (b : W64), c.fetched l.val 0x44 → c.src true = .ok b → free c → Yields (.wFmin l) c.s fun t =>
    t = res c (f64Min c.lane.wa b)) ∧
  (∀ (c : Ctx) (l : Fin 16) (b : W64), c.fetched l.val 0x45 → c.src true = .ok b → free c → Yields (.wFmax l) c.s fun t =>
    t = res c (f64Max c.lane.wa b)) ∧
  (∀ (c : Ctx) (l : Fin 16), c.fetched l.val 0x46 → free c → Yields (.wFsqrt l) c.s fun t => t = res c (f64Sqrt c.lane.wa)) ∧
  (∀ (c : Ctx) (l : Fin 16), c.fetched l.val 0x47 → Yields (.wFabs l) c.s fun t =>
    t = res c ⟨c.lane.wa &&& 0x7FFFFFFFFFFFFFFF, false, false, false, false, false⟩) ∧
  (∀ (c : Ctx) (l : Fin 16), c.fetched l.val 0x48 → Yields (.wFneg l) c.s fun t =>
    t = res c ⟨c.lane.wa ^^^ 0x8000000000000000, false, false, false, false, false⟩) ∧
  (∀ (c : Ctx) (l : Fin 16), c.fetched l.val 0x49 → free c → Yields (.wItof l) c.s fun t =>
    t = res c (f64OfInt c.lane.wa.toInt)) ∧
  (∀ (c : Ctx) (l : Fin 16), c.fetched l.val 0x4A → free c → Yields (.wFtoi l) c.s fun t =>
    let r := f64ToInt c.lane.wa
    t = c.ran { c.lane with wa := r.val, flags := setFlag (setFlag (stick c.lane.flags fIV r.iv) fZ (r.val == 0)) fN (r.val.slt 0) }) ∧
  (∀ (c : Ctx) (l : Fin 16) (b : W64), c.fetched l.val 0x4B → c.src true = .ok b → free c → Yields (.wFceq l) c.s fun t =>
    t = truth c b (f64Eq c.lane.wa b)) ∧
  (∀ (c : Ctx) (l : Fin 16) (b : W64), c.fetched l.val 0x4C → c.src true = .ok b → free c → Yields (.wFcne l) c.s fun t =>
    t = truth c b (!f64Eq c.lane.wa b)) ∧
  (∀ (c : Ctx) (l : Fin 16) (b : W64), c.fetched l.val 0x4D → c.src true = .ok b → free c → Yields (.wFclt l) c.s fun t =>
    t = truth c b (f64Lt c.lane.wa b)) ∧
  (∀ (c : Ctx) (l : Fin 16) (b : W64), c.fetched l.val 0x4E → c.src true = .ok b → free c → Yields (.wFcle l) c.s fun t =>
    t = truth c b (f64Le c.lane.wa b)) ∧
  (∀ (c : Ctx) (l : Fin 16) (b : W64), c.fetched l.val 0x4F → c.src true = .ok b → free c → Yields (.wFcgt l) c.s fun t =>
    t = truth c b (f64Lt b c.lane.wa)) ∧
  (∀ (c : Ctx) (l : Fin 16) (b : W64), c.fetched l.val 0x50 → c.src true = .ok b → free c → Yields (.wFcge l) c.s fun t =>
    t = truth c b (f64Le b c.lane.wa))

/-- LDX, ADDX, LDWX, LDQ, LDTS, GATH, VGET, VMAX, VMIN, VSUM, VMED, LDGQ, CLF, FIRE and RDT: the registers that each leaves, and
what it leaves alone (R116, R119, R121, R122). -/
def Obligations.WheelIndexVectorAndMisc : Prop :=
  let reduced (c : Ctx) (f : W64 → W64 → FRes) : W64 :=
    let v0 := c.lane.vr 0
    if iCount c.word = 1 then if f64IsSNaN v0 then (f v0 v0).val else v0
    else (List.range (iCount c.word - 1)).foldl (fun a i => (f a (c.lane.vr (i + 1))).val) v0
  (∀ (c : Ctx) (l : Fin 16) (v : W64), c.fetched l.val 0x60 → c.src false = .ok v → Yields (.wLdx l) c.s fun t =>
    t = c.ran (c.lane.setX (iXs c.word) (v.setWidth 16))) ∧
  (∀ (c : Ctx) (l : Fin 16), c.fetched l.val 0x62 → Yields (.wAddx l) c.s fun t =>
    t = c.ran (c.lane.setX (iXs c.word) (c.lane.xr (iXs c.word) + BitVec.ofNat 16 (iOpnd c.word)))) ∧
  (∀ (c : Ctx) (l : Fin 16), c.fetched l.val 0x63 → Yields (.wLdwx l) c.s fun t =>
    t = c.ran { c.lane with wa := BitVec.ofNat 64 (c.lane.xr (iXs c.word)).toNat }) ∧
  (∀ (c : Ctx) (l : Fin 16) (n : Nat), c.fetched l.val 0x70 → c.slotNo = some n → Yields (.wLdq l) c.s fun t =>
    t = c.ran { c.lane with wa := BitVec.ofNat 64 ((nget none c.ex.snap n).getD .init).quality.toNat }) ∧
  (∀ (c : Ctx) (l : Fin 16) (n : Nat), c.fetched l.val 0x71 → c.slotNo = some n → Yields (.wLdts l) c.s fun t =>
    t = c.ran { c.lane with wa := ((nget none c.ex.snap n).getD .init).stamp }) ∧
  (∀ (c : Ctx) (l : Fin 16) (a : Nat), c.fetched l.val 0x72 → c.addr ((iCount c.word + 3) / 4) = some a →
    (∀ i < iCount c.word, c.gathSlot a i < 4096 ∧ (c.s.slot c.ex.k (c.gathSlot a i)).used = true) → c.ex.mask.getLsbD 5 = false →
    Yields (.wGath l) c.s fun t => let m := t.laneAt c.ex.k c.copy
      m.wa = c.lane.wa ∧ m.ba = c.lane.ba ∧ m.pc = c.lane.pc + 1 ∧ m.flags.getLsbD 8 = (c.lane.flags.getLsbD 8 || m.gq != 0) ∧
      (∀ i < iCount c.word, m.gq.getLsbD i = (c.slotView (c.gathSlot a i)).faulted ∧
        m.vr i = if (c.slotView (c.gathSlot a i)).faulted then (c.s.sig (c.s.slot c.ex.k (c.gathSlot a i)).sig).subst
          else (c.slotView (c.gathSlot a i)).value)) ∧
  (∀ (c : Ctx) (l : Fin 16), c.fetched l.val 0x73 → Yields (.wVget l) c.s fun t =>
    let n := (iOpnd c.word % 16 + if bit (iOpnd c.word) 19 then (c.lane.xr (iXs c.word)).toNat else 0) % 16
    t = c.ran { c.lane with wa := c.lane.vr n }) ∧
  (∀ (c : Ctx) (l : Fin 16), c.fetched l.val 0x74 → c.ex.mask.getLsbD 2 = false →
    Yields (.wVmax l) c.s fun t => (t.laneAt c.ex.k c.copy).wa = reduced c f64Max ∧
      (t.laneAt c.ex.k c.copy).pc = c.lane.pc + 1 ∧ (t.laneAt c.ex.k c.copy).v = c.lane.v ∧
      (t.laneAt c.ex.k c.copy).ba = c.lane.ba ∧ t.tillMem = c.s.tillMem ∧ t.regs = c.s.regs ∧
      t.image = { c.s.image with execs := t.image.execs }) ∧
  (∀ (c : Ctx) (l : Fin 16), c.fetched l.val 0x75 → c.ex.mask.getLsbD 2 = false →
    Yields (.wVmin l) c.s fun t => (t.laneAt c.ex.k c.copy).wa = reduced c f64Min ∧
      (t.laneAt c.ex.k c.copy).pc = c.lane.pc + 1 ∧ (t.laneAt c.ex.k c.copy).v = c.lane.v ∧
      (t.laneAt c.ex.k c.copy).ba = c.lane.ba ∧ t.tillMem = c.s.tillMem ∧ t.regs = c.s.regs ∧
      t.image = { c.s.image with execs := t.image.execs }) ∧
  (∀ (c : Ctx) (l : Fin 16), c.fetched l.val 0x76 → c.ex.mask.getLsbD 2 = false → c.ex.mask.getLsbD 4 = false →
    Yields (.wVsum l) c.s fun t => (t.laneAt c.ex.k c.copy).wa = reduced c f64Add ∧
      (t.laneAt c.ex.k c.copy).pc = c.lane.pc + 1 ∧ (t.laneAt c.ex.k c.copy).v = c.lane.v ∧
      (t.laneAt c.ex.k c.copy).ba = c.lane.ba ∧ t.tillMem = c.s.tillMem ∧ t.regs = c.s.regs ∧
      t.image = { c.s.image with execs := t.image.execs }) ∧
  (∀ (c : Ctx) (l : Fin 16), c.fetched l.val 0x77 → Yields (.wVmed l) c.s fun t =>
    let vs := (List.range (iCount c.word)).map c.lane.vr
    let w := (t.laneAt c.ex.k c.copy).wa
    w ∈ vs ∧ (vs.filter fun v => decide (vmedKey v < vmedKey w)).length ≤ (vs.length - 1) / 2 ∧
    (vs.filter fun v => decide (vmedKey w < vmedKey v)).length ≤ vs.length / 2 ∧ t = c.ran { c.lane with wa := w }) ∧
  (∀ (c : Ctx) (l : Fin 16), c.fetched l.val 0x78 → Yields (.wLdgq l) c.s fun t =>
    t = c.ran { c.lane with wa := BitVec.ofNat 64 c.lane.gq.toNat }) ∧
  (∀ (c : Ctx) (l : Fin 16), c.fetched l.val 0x79 → Yields (.wClf l) c.s fun t =>
    t = c.ran { c.lane with flags := c.lane.flags &&& ~~~ BitVec.ofNat 10 (iOpnd c.word) }) ∧
  (∀ (c : Ctx) (l : Fin 16), c.fetched l.val 0x7A → (iOpnd c.word % 4 = 0 ∨ c.s.taskAcct c.ex.k ≠ 7) → Yields (.wFire l) c.s fun t =>
    t = c.ran { c.lane with ftMode := iOpnd c.word % 4, ftTime := if iOpnd c.word % 4 = 0 then 0 else c.lane.wa }) ∧
  (∀ (c : Ctx) (l : Fin 16), c.fetched l.val 0x7B → Yields (.wRdt l) c.s fun t =>
    t = c.ran (match iOpnd c.word with
      | 0 => { c.lane with wa := if c.ex.tsValid then c.ex.rtTs else 0, ba := c.ex.tsValid }
      | 1 => { c.lane with wa := c.ex.relTl, ba := true }
      | 2 => { c.lane with wa := BitVec.ofNat 64 c.ex.dt, ba := true }
      | 3 => { c.lane with wa := BitVec.ofNat 64 c.lane.trapCause.toNat, ba := true }
      | _ => { c.lane with wa := BitVec.ofNat 64 c.lane.trapPc.toNat, ba := true }))

/-- PUSHT, POPT, TMARK, TREW, TREL, TUNR, TFREE and REQ by a till's producer or consumer, on a single wheel and on A7 (R123,
R124). -/
def Obligations.WheelTillsAndRequests : Prop :=
  let note (c : Ctx) (wa : W64) (ba : Option Bool) : Lane :=
    { c.lane with wa := wa, ba := ba.getD c.lane.ba, tillLog := c.lane.tillLog ++ [(wa, ba)], pc := c.lane.pc + 1 }
  (∀ (c : Ctx) (l : Fin 16) (u : State), c.fetched l.val 0x80 → c.ex.lanes.length = 1 →
    c.s.tillProducer c.acct c.tillNo c.ex.k = true → c.s.tillWrite c.acct c.tillNo c.lane.wa = some u → Yields (.wPusht l) c.s fun t =>
      t = c.ranOn u (note c c.lane.wa (some true))) ∧
  (∀ (c : Ctx) (l : Fin 16), c.fetched l.val 0x80 → c.ex.lanes.length = 1 → c.s.tillProducer c.acct c.tillNo c.ex.k = true →
    c.s.tillFree c.acct c.tillNo = 0 → c.ex.mask.getLsbD 7 = false → Yields (.wPusht l) c.s fun t =>
      t = c.ranOn c.s (note c c.lane.wa (some false))) ∧
  (∀ (c : Ctx) (l : Fin 16), c.fetched l.val 0x81 → c.logged = none → c.consumer = true →
    Yields (.wPopt l .clean) c.s fun t =>
      let x := c.s.till c.acct c.tillNo
      t = if x.rd = x.wr then c.ranOn c.s (note c idleItem (some false))
        else c.ranOn (c.s.setTill c.acct c.tillNo { x with rd := x.rd + 1 })
          (note c (nget 0 c.s.tillMem (c.s.tillPos c.acct c.tillNo x.rd)) (some true))) ∧
  (∀ (c : Ctx) (l : Fin 16) (e : Ecc), c.fetched l.val 0x81 → c.logged = none → c.consumer = true → Yields (.wPopt l e) c.s fun t =>
    t = c.ranOn (c.s.tillRead c.acct c.tillNo e).2.2.2
      (note c (c.s.tillRead c.acct c.tillNo e).1 (some (c.s.tillRead c.acct c.tillNo e).2.1))) ∧
  (∀ (c : Ctx) (l : Fin 16), c.fetched l.val 0x81 → c.logged = none → c.consumer = true →
    (c.s.till c.acct c.tillNo).rd ≠ (c.s.till c.acct c.tillNo).wr → Yields (.wPopt l .double) c.s fun t =>
      (t.laneAt c.ex.k c.copy).wa = idleItem ∧ (t.laneAt c.ex.k c.copy).ba = true ∧
      (t.till c.acct c.tillNo).rd = (c.s.till c.acct c.tillNo).rd + 1) ∧
  (∀ (c : Ctx) (l : Fin 16), c.fetched l.val 0x82 → c.logged = none → c.consumer = true → Yields (.wTmark l) c.s fun t =>
    let x := c.s.till c.acct c.tillNo
    t = c.ranOn (c.s.setTill c.acct c.tillNo { x with mark := x.rd }) (note c c.lane.wa none)) ∧
  (∀ (c : Ctx) (l : Fin 16), c.fetched l.val 0x83 → c.logged = none → c.consumer = true → Yields (.wTrew l) c.s fun t =>
    let x := c.s.till c.acct c.tillNo
    t = c.ranOn (c.s.setTill c.acct c.tillNo { x with rd := x.mark }) (note c c.lane.wa none)) ∧
  (∀ (c : Ctx) (l : Fin 16), c.fetched l.val 0x84 → c.logged = none → c.consumer = true → Yields (.wTrel l) c.s fun t =>
    let x := c.s.till c.acct c.tillNo
    t = c.ranOn (c.s.setTill c.acct c.tillNo { x with rel := x.rd, mark := x.rd }) (note c c.lane.wa none)) ∧
  (∀ (c : Ctx) (l : Fin 16), c.fetched l.val 0x85 → c.logged = none → c.consumer = true → Yields (.wTunr l) c.s fun t =>
    let x := c.s.till c.acct c.tillNo
    t = c.ranOn c.s (note c (BitVec.ofNat 64 (x.wr - x.rd)) none)) ∧
  (∀ (c : Ctx) (l : Fin 16), c.fetched l.val 0x86 → c.logged = none → c.consumer = true → Yields (.wTfree l) c.s fun t =>
    t = c.ranOn c.s (note c (BitVec.ofNat 64 (c.s.tillFree c.acct c.tillNo)) none)) ∧
  (∀ (c : Ctx) (l : Fin 16) (a : Nat), c.fetched l.val 0x87 → c.ex.lanes.length = 1 → c.addr 1 = some a →
    c.addr (reqWords (c.data a)) = some a → Yields (.wReq l) c.s fun t =>
      let item := (List.range (reqWords (c.data a))).map fun i => c.data (a + i)
      t = c.ranOn (c.s.reqIssue c.acct item) { note c (BitVec.ofNat 64 (c.s.reqStatus c.acct item))
        (some (decide (c.s.reqStatus c.acct item ≤ 1))) with cycles := c.lane.cycles + (reqWords (c.data a) + 7) / 8 } ∧
      (1 < c.s.reqStatus c.acct item → t.queue c.acct = c.s.queue c.acct)) ∧
  (∀ (c : Ctx) (l : Fin 16) (a : Nat), c.fetched l.val 0x87 → 1 < c.ex.lanes.length → c.quiet → c.addr 1 = some a →
    c.addr (reqWords (c.data a)) = some a → Yields (.wReq l) c.s fun t =>
      let item := (List.range (reqWords (c.data a))).map fun i => c.data (a + i)
      let st := match c.logged with | some (v, _) => v.toNat | none => c.s.reqStatus c.acct item
      let u := if 1 < st ∧ c.logged = none then c.s.reqIssue c.acct item else c.s
      t = c.ranOn u (c.pointing { note c (BitVec.ofNat 64 st) (some (decide (st ≤ 1))) with
        cycles := c.lane.cycles + (reqWords (c.data a) + 7) / 8,
        held := if st ≤ 1 then c.lane.held ++ [.req item] else c.lane.held } (.req item))) ∧
  (∀ (c : Ctx) (l : Fin 16), c.fetched l.val 0x80 → 1 < c.ex.lanes.length → c.quiet →
    c.s.tillProducer c.acct c.tillNo c.ex.k = true →
    let room := decide (c.lane.heldFor c.tillNo < c.s.tillFree c.acct c.tillNo)
    let fits := (c.logged.map fun p => p.2.getD false).getD room
    fits = true ∨ c.ex.mask.getLsbD 7 = false → Yields (.wPusht l) c.s fun t =>
      t = c.ranOn c.s (if fits then c.pointing { note c c.lane.wa (some true) with
            held := c.lane.held ++ [.push c.tillNo c.lane.wa] } (.push c.tillNo c.lane.wa)
          else note c c.lane.wa (some false))) ∧
  (∀ (c : Ctx) (l : Fin 16) (v : W64) (b : Option Bool), c.logged = some (v, b) → c.consumer = true →
    (∀ e : Ecc, c.fetched l.val 0x81 → Yields (.wPopt l e) c.s fun t => t = c.ranOn c.s (note c v b)) ∧
    (c.fetched l.val 0x82 → Yields (.wTmark l) c.s fun t => t = c.ranOn c.s (note c c.lane.wa none)) ∧
    (c.fetched l.val 0x83 → Yields (.wTrew l) c.s fun t => t = c.ranOn c.s (note c c.lane.wa none)) ∧
    (c.fetched l.val 0x84 → Yields (.wTrel l) c.s fun t => t = c.ranOn c.s (note c c.lane.wa none)) ∧
    (c.fetched l.val 0x85 → Yields (.wTunr l) c.s fun t => t = c.ranOn c.s (note c v none)) ∧
    (c.fetched l.val 0x86 → Yields (.wTfree l) c.s fun t => t = c.ranOn c.s (note c v none)))

/-- PID, RAMP, LIM, FILT, ROC, HYST and TMR, with FBPARAM masked off: accepted, they leave what their block computes; rejected,
they hold their output (R125, R126, R127, R128, R129, R130, R131, R132, R133). -/
def Obligations.WheelFunctionBlocks : Prop :=
  let ready (c : Ctx) (l : Fin 16) (b : Fb) (op a : Nat) : Prop :=
    c.fetched l.val op ∧ c.addr b.words = some a ∧ c.ex.mask.getLsbD 6 = false
  let after (c : Ctx) (b : Fb) (a : Nat) : State :=
    let w (i : Nat) : W64 := c.data (a + i)
    let ctrl := (w 0).toNat
    let o := b.run ⟨w, ctrl, c.lane.wa, c.lane.ba, dtSeconds c.ex.dt, c.ex.relTl.toNat, bit ctrl 0⟩
    if b.accepts w ctrl c.lane.wa then
      c.ranOn (foldState (fun s (x : Nat × W64) => s.wheelStore c (a + x.1) x.2)
        (o.writes ++ [(0, BitVec.ofNat 64 (bits ctrl 7 1 * 2 + 1 + o.status))]) c.s)
        { c.lane with wa := o.wa, ba := o.ba, pc := c.lane.pc + 1 }
    else
      c.ranOn (c.s.wheelStore c a (w 0 ||| 0x8000)) { c.lane with
        wa := (match b.out with | some i => w i | none => c.lane.wa), ba := true, flags := stick c.lane.flags fFBE true,
        pc := c.lane.pc + 1 }
  (∀ (c : Ctx) (l : Fin 16) (a : Nat), ready c l fbPid 0x90 a → Yields (.wPid l) c.s fun t => t = after c fbPid a) ∧
  (∀ (c : Ctx) (l : Fin 16) (a : Nat), ready c l fbRamp 0x91 a → Yields (.wRamp l) c.s fun t => t = after c fbRamp a) ∧
  (∀ (c : Ctx) (l : Fin 16) (a : Nat), ready c l fbLim 0x92 a → Yields (.wLim l) c.s fun t => t = after c fbLim a) ∧
  (∀ (c : Ctx) (l : Fin 16) (a : Nat), ready c l fbFilt 0x93 a → Yields (.wFilt l) c.s fun t => t = after c fbFilt a) ∧
  (∀ (c : Ctx) (l : Fin 16) (a : Nat), ready c l fbRoc 0x94 a → Yields (.wRoc l) c.s fun t => t = after c fbRoc a) ∧
  (∀ (c : Ctx) (l : Fin 16) (a : Nat), ready c l fbHyst 0x95 a → Yields (.wHyst l) c.s fun t => t = after c fbHyst a) ∧
  (∀ (c : Ctx) (l : Fin 16) (a : Nat), ready c l fbTmr 0x96 a → Yields (.wTmr l) c.s fun t => t = after c fbTmr a) ∧
  (∀ i : FbIn, let o := fbLim.run i
    o.wa = (f64Min (f64Max i.x (i.w 2)).val (i.w 1)).val ∧ o.ba = (f64Lt (i.w 1) i.x || f64Lt i.x (i.w 2)) ∧ o.writes = [(3, o.wa)]) ∧
  (∀ i : FbIn, i.init = false → (fbRamp.run i).wa = i.x ∧ (fbFilt.run i).wa = i.x ∧ (fbRoc.run i).wa = 0) ∧
  (∀ i : FbIn, i.ba = false → bits i.ctrl 2 1 = 0 → (fbTmr.run i).wa = 0 ∧ (fbTmr.run i).ba = false)

/-- A trap without a handler, or inside one, ends the execution and faults its account (R84, R134, R135, R136). -/
def Obligations.UnhandledTrapFaultsTheAccount : Prop :=
  ∀ (c : Ctx) (l : Fin 16), c.fetched l.val 0x06 → c.lane.cs = [] → c.ex.lanes.length = 1 →
    (c.lane.handler = true ∨ c.s.fld F.PROG_ENTRY_TRAP_VEC c.ex.k = 0xFFFF) → c.s.acctState c.acct = aRunning →
    Yields (.wRet l) c.s fun t => t.exec? c.ex.k = none ∧ t.acctState c.acct = aFault ∧ t.fld F.ACCT_STATUS_CAUSE c.acct = 1 ∧
      t.fld F.PROG_STATUS_LAST_CAUSE c.ex.k = trStack ∧ t.tillMem = c.s.tillMem

/-- TASK_RELEASE, SNAPSHOT_COMPLETE, MERGE_COMPLETE, OVERRUN_CHECK: what a release, a skip, a snapshot, a merge and a tolerated
overrun change and leave (R112, R147, R155, R158, R159, R161, R162, R165). -/
def Obligations.TaskReleaseSnapshotAndMerge : Prop :=
  let due (s : State) (k : Nat) : Bool := (s.task k).enabled.any fun e => s.tick == e ||
    (decide (e + s.fld F.TASK_PERIOD_PERIOD_US k ≤ s.tick) && decide (((s.tl : Int) - (s.task k).grid -
      1000 * (s.fld F.TASK_PHASE_PHASE_US k : Int)) % (1000 * (s.fld F.TASK_PERIOD_PERIOD_US k : Int)) < 1000))
  let gridded (s : State) (k : Nat) : Prop := s.flag F.TASK_CFG_PRESENT k = true ∧ s.acctState (s.taskAcct k) = aRunning ∧
    due s k = true ∧ (s.task k).lastGrid ≠ some s.tick ∧ s.pairState ≠ psOutgoing ∧ s.wheelReady k = true
  let busy (s : State) (k : Nat) : Prop :=
    (s.exec? k).isSome = true ∨ (s.task k).abandoned = some s.tick ∨ s.pair.endWait.contains k = true
  (∀ (s : State) (k : Fin 64), ¬ gridded s k.val → Yields (.taskRelease k) s fun t => t = s) ∧
  (∀ (s : State) (k : Fin 64), gridded s k.val → ¬ busy s k.val → Yields (.taskRelease k) s fun t =>
      let lane := { Lane.init with pc := BitVec.ofNat 16 (s.fld F.PROG_ENTRY_ENTRY k.val) }
      t.exec? k.val = some {
        k := k.val, rel := s.tick, relTl := s.pairNs s.tl, rtTs := s.stamp, tsValid := s.tsValid,
        dt := (match (s.task k.val).lastRel with
          | some r => (1000 * ((s.tick : Int) - r)).toNat
          | none => 1000 * s.fld F.TASK_PERIOD_PERIOD_US k.val),
        late := if s.fld F.TASK_OVR_MAX_LATE_US k.val = 0 then s.fld F.TASK_PERIOD_PERIOD_US k.val
          else s.fld F.TASK_OVR_MAX_LATE_US k.val,
        tol := s.fld F.TASK_OVR_TOL k.val, act := s.fld F.TASK_OVR_ACTION k.val,
        mask := BitVec.ofNat 8 (s.fld F.PROG_TRAPMASK_MASK k.val), snap := s.snapshot k.val, state := .snapshot,
        lanes := if s.taskAcct k.val = 7 then [lane, lane] else [lane] } ∧
      t.task k.val = { s.task k.val with lastRel := some (s.tick : Int), lateSeen := false, lastCheck := none, lastGrid := some s.tick } ∧
      t.fld F.TASK_STATUS_STATE k.val = 1 ∧ t.reg64 R.TASK_RELEASES k.val = min (s.reg64 R.TASK_RELEASES k.val + 1) (2 ^ 64 - 1) ∧
      k.val ∈ t.image.snapQ ∧ (∀ j : Fin 64, j ≠ k → t.exec? j.val = s.exec? j.val ∧ t.task j.val = s.task j.val) ∧
      t = { s with regs := t.regs, image.execs := t.image.execs, image.tasks := t.image.tasks, image.snapQ := t.image.snapQ } ∧
      s.Keeps [R.TASK_STATUS.addr k.val 0, R.TASK_RELEASES.addr k.val 0, R.TASK_RELEASES.addr k.val 1] t) ∧
  (∀ (s : State) (k : Fin 64), gridded s k.val → busy s k.val → Yields (.taskRelease k) s fun t =>
    t.fld F.TASK_COUNTS_SKIPPED k.val = min (s.fld F.TASK_COUNTS_SKIPPED k.val + 1) 0xFFFF ∧
    t.fld F.TASK_COUNTS_OVERRUNS k.val = s.fld F.TASK_COUNTS_OVERRUNS k.val ∧
    State.OnlyWords [R.TASK_COUNTS.addr k.val 0] (s.setTask k.val { s.task k.val with lastGrid := some s.tick }) t) ∧
  (∀ (s : State) (k n : Nat), n < 4096 → nwf (fun _ => Slot.init) s.image.slots = true →
    nget none (s.snapshot k) n = if (s.slot k n).used then some (s.snapCopy (s.slot k n).sig) else none) ∧
  (∀ (s : State) (g : Nat), s.snapCopy g = if (s.sig g).substMode = true ∧ s.force? g = none ∧
      ((s.sig g).quality.getLsbD 0 = false ∨ (s.sig g).quality.getLsbD 1 = true ∨ (s.sig g).quality.getLsbD 5 = true)
    then ⟨(s.sig g).subst, (s.sig g).quality ||| 0x08, (s.sig g).stamp⟩
    else ⟨(s.sig g).value, (s.sig g).quality, (s.sig g).stamp⟩) ∧
  (∀ (s : State) (k : Fin 64) (ns : Nat), s.image.snapQ.head? = some k.val → (s.exec? k.val).isSome = true →
    Yields (.snapshotComplete k ns) s fun t =>
      t.image.snapQ = s.image.snapQ.tail ∧ (t.exec? k.val).map (·.snap) = (s.exec? k.val).map (·.snap) ∧
      (t.exec? k.val).map (·.lanes) = (s.exec? k.val).map (·.lanes) ∧
      (t.exec? k.val).map (·.state) ≠ some .snapshot ∧ (t.exec? k.val).map (·.state) ≠ some .preempted ∧
      t.reg R.SNAP_MAX = max (s.reg R.SNAP_MAX) (min ns 0xFFFFFFFF) ∧
      t = { s with regs := t.regs, image.snapQ := t.image.snapQ, image.execs := t.image.execs } ∧
      s.Keeps (R.SNAP_MAX.base :: (List.range 64).map fun j => R.TASK_STATUS.addr j 0) t) ∧
  (∀ (s : State) (k : Fin 64) (ns : Nat), s.image.snapQ.head? ≠ some k.val ∨ s.exec? k.val = none →
    Yields (.snapshotComplete k ns) s fun t => t = s) ∧
  (∀ (s : State) (d : Delta) (ds : List Delta) (ns : Nat), s.image.merging = d :: ds → Yields (.mergeComplete ns) s fun t =>
    t.image.merged = s.image.merged ++ [(d.entries.filter fun e => e.mode == 0).map fun e => ⟨e.sig, e.value, s.mergeQuality d e⟩] ∧
    t.image.fireIn = s.image.fireIn ++ (d.entries.filter fun e => e.mode != 0).map (s.timedEntry d) ∧
    t.reg R.CH_MERGE_MAX = max (s.reg R.CH_MERGE_MAX) (min ns 0xFFFFFFFF) ∧
    ((∀ e ∈ s.image.endWait, e.lwheel ≠ d.lwheel) → t.image.merging = ds ∧ t.image.endWait = s.image.endWait) ∧
    t = { s with
      regs := t.regs, image.merging := t.image.merging, image.merged := t.image.merged, image.fireIn := t.image.fireIn,
      image.endWait := t.image.endWait, image.execs := t.image.execs } ∧
    s.Keeps (R.CH_MERGE_MAX.base :: R.CH_WAIT_MAX.base :: t.image.execs.map (fun x => R.TASK_STATUS.addr x.1 0) ++
      s.image.endWait.map fun e => R.TASK_STATUS.addr e.ex.k 0) t) ∧
  (∀ (s : State) (ns : Nat), s.image.merging = [] → Yields (.mergeComplete ns) s fun t => t = s) ∧
  (∀ (s : State) (k : Fin 64) (e : Exec), s.exec? k.val = some e → s.checkTick e = true → (s.task k.val).lastCheck ≠ some s.tick →
    min (s.fld F.TASK_STATUS_CONSEC k.val + 1) 31 ≤ e.tol → Yields (.overrunCheck k) s fun t =>
      t.fld F.TASK_COUNTS_OVERRUNS k.val = min (s.fld F.TASK_COUNTS_OVERRUNS k.val + 1) 0xFFFF ∧
      t.fld F.TASK_STATUS_CONSEC k.val = min (s.fld F.TASK_STATUS_CONSEC k.val + 1) 31 ∧
      t.task k.val = { s.task k.val with lateSeen := true, lastCheck := some s.tick } ∧
      t = { s with regs := t.regs, vault := t.vault, image.tasks := t.image.tasks } ∧
      s.Keeps (R.TASK_COUNTS.addr k.val 0 :: R.TASK_STATUS.addr k.val 0 :: eventWords) t) ∧
  (∀ (s : State) (k : Fin 64), (∀ e, s.exec? k.val = some e → s.checkTick e = false ∨ (s.task k.val).lastCheck = some s.tick) →
    Yields (.overrunCheck k) s fun t => t = s) ∧
  (∀ (s : State) (e : Exec), s.checkTick e = (s.tick == e.rel + e.late || (decide (e.rel + e.late < s.tick) && decide (((s.tl : Int) -
    (s.task e.k).grid - 1000 * (s.fld F.TASK_PHASE_PHASE_US e.k : Int)) % (1000 * (s.fld F.TASK_PERIOD_PERIOD_US e.k : Int)) < 1000))))

/-- OVERRUN_CHECK beyond the tolerance, by the four actions of Table 6.7, and COMPARE_POINT_TIMEOUT (R84, R138, R166). -/
def Obligations.OverrunActionsAndMismatch : Prop :=
  let late (s : State) (k act : Nat) : Prop := ∃ e, s.exec? k = some e ∧ s.checkTick e = true ∧
    (s.task k).lastCheck ≠ some s.tick ∧ e.tol < min (s.fld F.TASK_STATUS_CONSEC k + 1) 31 ∧ e.act = act
  (∀ (s : State) (k : Fin 64), late s k.val 0 → Yields (.overrunCheck k) s fun t =>
    t.exec? k.val = none ∧ t.image.merging = s.image.merging ∧ t.image.sigs = s.image.sigs ∧ t.image.safeCmds = s.image.safeCmds ∧
    t.image.fire = s.image.fire ∧ t.image.fireIn = s.image.fireIn ∧ (t.task k.val).abandoned = some s.tick ∧
    t.fld F.TASK_STATUS_CONSEC k.val = 0 ∧ t.accts = s.accts ∧ t.tillMem = s.tillMem ∧ t.phase = s.phase) ∧
  (∀ (s : State) (k : Fin 64), late s k.val 1 → Yields (.overrunCheck k) s fun t =>
    let mine (f : Fire) : Bool := f.account == s.taskAcct k.val && f.task == s.taskIdx k.val && !f.action
    t.exec? k.val = none ∧ t.image.merging = s.image.merging ∧ t.image.sigs = s.image.sigs ∧
    t.image.safeCmds = s.image.safeCmds ++ [.task k.val] ∧ (t.task k.val).abandoned = some s.tick ∧
    t.image.fire = s.image.fire.filter (fun f => !mine f) ∧ t.image.fireIn = s.image.fireIn.filter (fun f => !mine f) ∧
    t.fld F.TASK_STATUS_CONSEC k.val = 0 ∧ t.accts = s.accts ∧ t.tillMem = s.tillMem ∧ t.phase = s.phase) ∧
  (∀ (s : State) (k : Fin 64), late s k.val 2 → s.acctState (s.taskAcct k.val) = aRunning →
    Yields (.overrunCheck k) s fun t =>
      t.acctState (s.taskAcct k.val) = aFault ∧ t.fld F.ACCT_STATUS_CAUSE (s.taskAcct k.val) = 2 ∧
      t.image.safeCmds = s.image.safeCmds ++ [.account (s.taskAcct k.val)] ∧
      (∀ a : Fin 8, a.val ≠ s.taskAcct k.val → t.acctState a.val = s.acctState a.val) ∧ t.tillMem = s.tillMem ∧ t.phase = s.phase) ∧
  (∀ (s : State) (k : Fin 64), late s k.val 3 → Yields (.overrunCheck k) s fun t =>
    t = { s with regs := t.regs, vault := t.vault, image.tasks := t.image.tasks } ∧
    s.Keeps (R.TASK_COUNTS.addr k.val 0 :: R.TASK_STATUS.addr k.val 0 :: eventWords) t) ∧
  (∀ (s : State) (w : Fin 2) (e : Exec), e ∈ s.openExecs → (∀ x ∈ s.openExecs, s.exec? x.k = some x) → s.taskAcct e.k = 7 →
    (e.lanes.getD w.val .init).points ≠ [] → Yields (.comparePointTimeout w) s fun t =>
      t.fld F.SAFE_CMP_MISMATCHES = min (s.fld F.SAFE_CMP_MISMATCHES + 1) 0xFF ∧
      t.selfTest.next = [s.fld F.ST_MAP_WHEEL 14, s.fld F.ST_MAP_WHEEL 15] ∧ t.tillMem = s.tillMem ∧
      (s.acctState 7 = aRunning → t.acctState 7 = aFault ∧ t.fld F.ACCT_STATUS_CAUSE 7 = 5) ∧
      ∀ a : Fin 7, t.acctState a.val = s.acctState a.val) ∧
  (∀ (s : State) (w : Fin 2), (∀ e ∈ s.openExecs, s.taskAcct e.k = 7 → (e.lanes.getD w.val .init).points = []) →
    Yields (.comparePointTimeout w) s fun t => t = s)

/-- SIGNAL_STALE, IMAGE_SCRUB, FIRING_ADMISSION and FIRING_APPLY: what each does to the image and the schedule, and what it leaves
alone (R153, R174, R182, R183, R184, R185). -/
def Obligations.FreshnessScrubAndFiring : Prop :=
  (∀ (s : State) (g : Fin 131072), Yields (.signalStale g) s fun t =>
    if (s.sig g.val).freshUs ≠ 0 ∧ 1000 * (s.sig g.val).freshUs < s.tl - (s.sig g.val).upd ∧
        (s.sig g.val).quality.getLsbD 1 = false ∧ s.force? g.val = none then
      t = (s.setSig g.val { s.sig g.val with quality := (s.sig g.val).quality ||| 0x02 }).journalSig 2 g.val
    else t = s) ∧
  (∀ s : State, Yields (.imageScrub []) s fun t => t = s) ∧
  (∀ (s : State) (e : ImageError) (es : List ImageError), Yields (.imageScrub [e]) s fun t =>
    exec (.imageScrub (e :: es)) s = exec (.imageScrub es) t) ∧
  (∀ (s : State) (e : ImageError), e.double = false → Yields (.imageScrub [e]) s fun t =>
    t.fld F.IMAGE_ECC_CORRECTED = min (s.fld F.IMAGE_ECC_CORRECTED + 1) 0xFFFF ∧ State.OnlyWords [R.IMAGE_ECC.base] s t) ∧
  (∀ (s : State) (e : ImageError), e.double = true → (e.word.val < 3 ∨ e.word.val = 7) → Yields (.imageScrub [e]) s fun t =>
    t.fld F.IMAGE_ECC_UNCORRECTED = min (s.fld F.IMAGE_ECC_UNCORRECTED + 1) 0xFFFF ∧
    t.sig e.sig.val = { s.sig e.sig.val with quality := (t.sig e.sig.val).quality } ∧
    (t.sig e.sig.val).quality.getLsbD 0 = false ∧ (t.sig e.sig.val).quality.getLsbD 5 = true ∧
    (∀ i : Fin 8, i.val ≠ 0 → i.val ≠ 5 → (t.sig e.sig.val).quality.getLsbD i.val = (s.sig e.sig.val).quality.getLsbD i.val) ∧
    t.image = ((s.setSig e.sig.val (t.sig e.sig.val)).journalRec e.sig.val).image ∧
    s.Keeps (R.IMAGE_ECC.base :: eventWords) t) ∧
  (∀ (s : State) (e : ImageError), e.double = true → 3 ≤ e.word.val → e.word.val ≤ 6 → Yields (.imageScrub [e]) s fun t =>
    let r := (s.sig e.sig.val).setWord e.word.val ((nget .init s.image.sigImg e.sig.val).word e.word.val)
    t.fld F.IMAGE_ECC_UNCORRECTED = min (s.fld F.IMAGE_ECC_UNCORRECTED + 1) 0xFFFF ∧
    t.image = ((s.setSig e.sig.val r).journalRec e.sig.val).image ∧ s.Keeps (R.IMAGE_ECC.base :: eventWords) t) ∧
  (∀ (s : State), Yields .firingAdmission s fun t => t.image.fireIn = [] ∧ t.image.sigs = s.image.sigs ∧
    t.image.forces = s.image.forces ∧ t.image.data = s.image.data ∧ t.tillMem = s.tillMem ∧ t.accts = s.accts ∧ t.phase = s.phase) ∧
  (∀ (s : State) (f : Fire) (fs : List Fire), s.image.fireIn = f :: fs →
    Yields .firingAdmission { s with image.fireIn := [f] } fun t =>
      exec .firingAdmission s = exec .firingAdmission { t with image.fireIn := fs }) ∧
  (∀ (s : State) (f : Fire), s.image.fireIn = [f] → f.account < 8 → Yields .firingAdmission s fun t =>
    let tooFar := (f.tl = false ∧ f.time.getLsbD 63 = true) ∨ (3600000000000 < f.t - s.tickTime f ∧ (f.tl = true ∨ s.tsValid = true))
    if tooFar then t.image.fire = s.image.fire ∧ t.fld F.FIRE_LAST_STATUS f.account = 9
    else if f.tl = false ∧ s.tsUsable f.account = false then t.image.fire = s.image.fire ∧ t.fld F.FIRE_LAST_STATUS f.account = 0x0E
    else if (s.fld F.ACCT_CFG_LATE_TOL f.account : Int) < s.overdue f then
      t.image.fire = s.image.fire ∧ t.fld F.FIRE_LAST_STATUS f.account = 6
    else if s.fld F.ACCT_QUOTA_1_FIRING f.account ≤ s.pendingOf f.account then
      t.image.fire = s.image.fire ∧ t.fld F.FIRE_LAST_STATUS f.account = 3
    else if 1 ≤ s.overdue f then
      t.image.fire = s.image.fire ++ [{ f with late := true, seq := s.image.fireSeq }] ∧ t.fld F.FIRE_LAST_STATUS f.account = 5
    else t.image.fire = s.image.fire ++ [{ f with late := false, seq := s.image.fireSeq }] ∧
      t.fld F.FIRE_LAST_STATUS f.account = s.fld F.FIRE_LAST_STATUS f.account) ∧
  (∀ (s : State), Yields .firingApply s fun t => t.image.fire = s.image.fire.filter (fun f => !s.fireDue f) ∧
    t.image.fireIn = s.image.fireIn ∧ t.image.data = s.image.data ∧ t.tillMem = s.tillMem ∧ t.accts = s.accts ∧ t.phase = s.phase ∧
    t.fld F.FIRE_PEAK_DUE_MAX = max (s.fld F.FIRE_PEAK_DUE_MAX) (min (s.image.fire.filter s.fireDue).length
      (2 ^ (F.FIRE_PEAK_DUE_MAX.hi + 1 - F.FIRE_PEAK_DUE_MAX.lo) - 1)) ∧
    ∀ g : Fin 131072, (∀ f ∈ s.image.fire, s.fireDue f = true → f.action = true ∨ f.target ≠ g.val) → t.sig g.val = s.sig g.val) ∧
  (∀ (s : State) (f : Fire), s.image.fire = [f] → f.account < 8 → s.fireDue f = true → f.action = false → s.force? f.target = none →
    Yields .firingApply s fun t => (t.sig f.target).value = f.value ∧ (t.sig f.target).stamp = s.stamp ∧
      (t.sig f.target).upd = s.tl ∧ t.image.fired = s.image.fired) ∧
  (∀ (s : State) (f : Fire) (x : Force), s.image.fire = [f] → s.fireDue f = true → f.action = false → s.force? f.target = some x →
    Yields .firingApply s fun t => (t.sig f.target).value = (s.sig f.target).value ∧
      (t.force? f.target).map (·.unforced.value) = some f.value ∧ t.image.fired = s.image.fired) ∧
  (∀ (s : State) (f : Fire), s.image.fire = [f] → s.fireDue f = true → f.action = true →
    Yields .firingApply s fun t => t.image.fired = s.image.fired ++ [f] ∧ t.image.sigs = s.image.sigs)

/-- DATA_PLANE_TICK and MANAGEMENT_CYCLE: the time, the writes that waited, the image, and what they leave alone (R75, R157, R169,
R284). -/
def Obligations.TheTickAndTheImage : Prop :=
  let forcesHold (s : State) : Prop := ∀ g : Nat, ((s.force? g).all fun f => (s.sig g).value == f.value) = true
  (∀ s : State, s.time.ticking = false → Yields .dataPlaneTick s fun t => t = s) ∧
  (∀ s : State, s.time.ticking = true → Yields .dataPlaneTick s fun t => t.tick = s.tick + 1) ∧
  (∀ s : State, s.time.ticking = true → (s.phase = .stopped ∨ s.phase = .waiting) → s.mgmt.effects = [] →
    Yields .dataPlaneTick s fun t => t.image = s.image ∧ t.tillMem = s.tillMem ∧ t.tills = s.tills ∧ t.phase = s.phase) ∧
  (∀ s : State, s.time.ticking = true → s.phase ≠ .stopped → s.phase ≠ .waiting → s.mgmt.effects = [] → s.image.built = true →
    s.pairState = psSingle → Yields .dataPlaneTick s fun t =>
      t.image.sigs = ((State.tsTick { s with tick := s.tick + 1 }).imageSteps []).image.sigs ∧
      (∀ u ∈ t.image.updates, s.tick + 1 < u.due)) ∧
  (∀ (s : State) (v : W32) (n o : Nat) (r : Reg) (i j : Nat), s.time.ticking = true → (s.phase = .stopped ∨ s.phase = .waiting) →
    s.mgmt.effects = [.word (r.addr i j) v n o] → regAt (r.addr i j) = some (r, i, j) → r.base / 2 ^ 24 ∈ [4, 5, 6, 7, 9, 13, 14, 16, 17, 19] →
    r ∉ [R.SESSION_CTRL, R.ACCT_CTRL, R.ACCT_KEY, R.HART_CFG, R.HART_Z_BASE, R.CAN_CFG, R.CAN_NBT, R.CAN_DBT, R.CAN_TDC] →
    Yields .dataPlaneTick s fun t => t.word (r.addr i j) = BitVec.ofNat 32 (s.masked r i j v.toNat) ∧ t.mgmt.effects = []) ∧
  (∀ (used : List Nat) (e : Effect) (es : List Effect),
    splitEffects used (e :: es) = match e.slice with
      | none => (e :: (splitEffects used es).1, (splitEffects used es).2)
      | some sl => if used.contains sl then ((splitEffects used es).1, e :: (splitEffects used es).2)
          else (e :: (splitEffects (sl :: used) es).1, (splitEffects (sl :: used) es).2)) ∧
  (∀ (used : List Nat) (es : List Effect),
    (∀ e ∈ es, e.slice = none → e ∈ (splitEffects used es).1) ∧
    (∀ sl : Nat, ((splitEffects used es).1.filter fun e => e.slice == some sl).length ≤ 1) ∧
    (splitEffects used es).1.length + (splitEffects used es).2.length = es.length) ∧
  (∀ (s : State) (u : Update) (g : Nat), s.image.updates = [u] → u.due ≤ s.tick → s.image.merged = [] → s.image.fire = [] →
    s.image.fireIn = [] → s.image.safeCmds = [] → u.kind ≠ kParam → (s.sig g).kind = u.kind → (s.sig g).index = u.index →
    s.force? g = none → nwf (fun _ => Sig.init) s.image.sigs = true →
    ((s.imageSteps []).sig g).value = u.copy.value ∧ ((s.imageSteps []).sig g).stamp = u.copy.stamp ∧
      ((s.imageSteps []).sig g).upd = s.tl ∧ (s.imageSteps []).image.updates = []) ∧
  (∀ (s : State) (es : List Effect), forcesHold s → forcesHold (s.imageSteps es)) ∧
  (∀ s : State, Yields .managementCycle s fun t => (∀ n < 4, (t.canCh n).lostSaid = false) ∧ t.tick = s.tick ∧ t.phase = s.phase ∧
    t.safety.cmpTested = false ∧
    t.image.sigs = s.image.sigs ∧ t.image.data = s.image.data ∧ t.tillMem = s.tillMem ∧ t.tills = s.tills)

/-- ANALOGUE_SAMPLE and READBACK_SAMPLE: what a conversion and a readback window write and deliver, and what they leave alone
(R197, R198, R199, R202, R204, R218, R222). -/
def Obligations.AnalogueSamplesAndReadback : Prop :=
  let words (g : Nat) : List Nat := [R.ACH_STATUS.addr g 0, R.ACH_LATCH.addr g 0, R.ACH_COUNTS.addr g 0, R.AS_FAULT.addr (g / 32) 0,
    R.AS_SUMMARY.base] ++ eventWords
  let frame (s t : State) (also : List Nat) (gs : List Nat) : Prop :=
    t = { s with regs := t.regs, vault := t.vault, ach := t.ach, image.updates := t.image.updates, image.last := t.image.last } ∧
    s.Keeps (gs.flatMap words ++ also) t ∧ (∀ h < 192, h ∉ gs → t.achan h = s.achan h)
  let whole (m : ASample) : Prop := f64Finite m.x = true ∧ f64Finite m.lead = true ∧ f64Finite m.exc = true
  let cjWords (g : Nat) : List Nat := (List.range 4).map fun i => R.AS_CJ.addr (g / 32) i
  let junctions (m : ASample) (g : Nat) (t : State) : Prop := ∀ a ∈ m.cj, t.fld F.AS_CJ_T (g / 32) 0 = a.1.toNat ∧
    t.fld F.AS_CJ_T (g / 32) 1 = a.2.1.toNat ∧ t.fld F.AS_CJ_T (g / 32) 2 = a.2.2.1.toNat ∧ t.fld F.AS_CJ_T (g / 32) 3 = a.2.2.2.toNat
  let sensed (s : State) (m : ASample) (g : Nat) : State := match m.cj with
    | some (a, b, c, d) => (((s.setFld F.AS_CJ_T a.toNat (g / 32) 0).setFld F.AS_CJ_T b.toNat (g / 32) 1).setFld F.AS_CJ_T
        c.toNat (g / 32) 2).setFld F.AS_CJ_T d.toNat (g / 32) 3
    | none => s
  (∀ (s : State) (g : Fin 192) (m : ASample), whole m → s.aDue g.val = false →
    Yields (.analogueSample g m) s fun t => junctions m g.val t ∧ (m.cj = none → t = s) ∧ State.OnlyWords (cjWords g.val) s t) ∧
  (∀ (s : State) (g : Fin 192) (m : ASample), whole m → s.aDue g.val = true →
    Yields (.analogueSample g m) s fun t =>
      let f := (sensed s m g.val).aFind g.val m
      let st := t.reg R.ACH_STATUS g.val
      let p := aPeriod (s.fld F.ACH_RATE_RATE g.val)
      let stamp := s.stampNs ((1000 * s.tick : Nat) - (1500 * p : Nat) - 2000)
      let y := s.aScale g.val f.x
      let out := if s.fld F.ACH_RATE_FILT_TC_US g.val = 0 ∨ st &&& aFaultMask (s.aMode g.val) ≠ 0 then y
        else match (s.achan g.val).filt with | some z => filtStep z y (s.fld F.ACH_RATE_FILT_TC_US g.val) p | none => y
      t.reg R.ACH_RAW g.val = ofSint 32 m.raw.toInt ∧ junctions m g.val t ∧
      bit st abLink = false ∧ bit st abReconfig = false ∧ bit st abRangeZone = f.zone ∧ bit st abCjFault = f.cj ∧
      ⟨s.tick + 2, kChannel, 8 * g.val, ⟨out, aQual (s.aMode g.val) st 0, stamp⟩⟩ ∈ t.image.updates ∧
      (∀ v ∈ f.item1, ⟨s.tick + 2, kChannel, 8 * g.val + 1, ⟨v, aQual (s.aMode g.val) st 1, stamp⟩⟩ ∈ t.image.updates) ∧
      ⟨s.tick + 2, kChannel, 8 * g.val + 3, ⟨m.raw.signExtend 64, aQual (s.aMode g.val) st 3, stamp⟩⟩ ∈ t.image.updates ∧
      (s.aMode g.val = aBridge → t.reg R.ACH_RAW (g.val + 1) = ofSint 32 m.rawOdd.toInt ∧
        bit (t.reg R.ACH_STATUS (g.val + 1)) abLink = false ∧ bit (t.reg R.ACH_STATUS (g.val + 1)) abReconfig = false ∧
        ∃ q, ⟨s.tick + 2, kChannel, 8 * (g.val + 1), ⟨m.x, q, stamp⟩⟩ ∈ t.image.updates) ∧
      frame s t (cjWords g.val ++ [R.ACH_RAW.addr g.val 0, R.ACH_RAW.addr (g.val + 1) 0])
        (if s.aMode g.val = aBridge then [g.val, g.val + 1] else [g.val])) ∧
  (∀ (s : State) (g : Fin 192) (m : ARead), f64Finite m.value = true → f64Finite m.aux = true →
    (s.aMode g.val = aOff ∨ s.tick % s.rbWindow g.val ≠ 0 ∨ s.slState (g.val / 32) ≠ slRun ∨ (s.achan g.val).setting = true) →
    Yields (.readbackSample g m) s fun t => t = s) ∧
  (∀ (s : State) (g : Fin 192) (m : ARead), f64Finite m.value = true → f64Finite m.aux = true → s.aMode g.val ≠ aOff →
    s.tick % s.rbWindow g.val = 0 → s.slState (g.val / 32) = slRun → (s.achan g.val).setting = false →
    Yields (.readbackSample g m) s fun t =>
      let st := t.reg R.ACH_STATUS g.val
      t.reg R.ACH_RB g.val = ofSintSat 32 (f64ScaleRound m.value
        (if s.aMode g.val = aCurOut ∨ s.aMode g.val = aCurIn then 1000 else 1000000) 1) ∧
      (aIsOut (s.aMode g.val) = true → bit st abLink = false ∧
        ⟨s.tick + 2, kChannel, 8 * g.val, ⟨m.value, aQual (s.aMode g.val) st 0, s.stamp⟩⟩ ∈ t.image.updates ∧
        ⟨s.tick + 2, kChannel, 8 * g.val + 3, ⟨m.aux, aQual (s.aMode g.val) st 3, s.stamp⟩⟩ ∈ t.image.updates) ∧
      (s.aMode g.val = aCurIn → bit st abLink = false ∧
        ⟨s.tick + 2, kChannel, 8 * g.val + 1, ⟨m.value, aQual aCurIn st 1, s.stamp⟩⟩ ∈ t.image.updates) ∧
      t.fld F.ACH_COUNTS_RB_MISMATCH g.val = (if s.rbIdle g.val = false ∧ s.rbFound g.val m (s.rbWindow g.val) ≠ none
        then min (s.fld F.ACH_COUNTS_RB_MISMATCH g.val + 1) 0xFFFF else s.fld F.ACH_COUNTS_RB_MISMATCH g.val) ∧
      (t.achan g.val).n = 0 ∧ (t.achan g.val).sum = 0 ∧ frame s t [R.ACH_RB.addr g.val 0] [g.val])

/-- CUR_IN and VOLT_OUT protection and retries, OUTPUT_STAGE_THERMAL_*, ANALOGUE_RECONFIG_DONE: what each does to its channel and
that it does nothing elsewhere (R206, R216, R223, R226). -/
def Obligations.AnalogueProtectionAndReconfiguration : Prop :=
  let words (g : Nat) : List Nat := [R.ACH_STATUS.addr g 0, R.ACH_LATCH.addr g 0, R.ACH_COUNTS.addr g 0, R.AS_FAULT.addr (g / 32) 0,
    R.AS_SUMMARY.base] ++ eventWords
  let frame (s t : State) (also : List Nat) (gs : List Nat) : Prop :=
    t = { s with regs := t.regs, vault := t.vault, ach := t.ach, image.updates := t.image.updates, image.last := t.image.last } ∧
    s.Keeps (gs.flatMap words ++ also) t ∧ (∀ h < 192, h ∉ gs → t.achan h = s.achan h)
  (∀ (s : State) (g : Fin 192), s.aMode g.val = aCurIn → (s.achan g.val).cut = false → Yields (.curInOverload g) s fun t =>
    (t.achan g.val).cut = true ∧ bit (t.reg R.ACH_STATUS g.val) abOverload = true ∧ frame s t [] [g.val]) ∧
  (∀ (s : State) (g : Fin 192), s.aMode g.val ≠ aCurIn ∨ (s.achan g.val).cut = true → Yields (.curInOverload g) s fun t => t = s) ∧
  (∀ (s : State) (g : Fin 192) (high : Bool), s.aMode g.val ≠ aCurIn ∨ (s.achan g.val).cut = false ∨ high = true →
    Yields (.curInProtectRetry g high) s fun t => t = s) ∧
  (∀ (s : State) (g : Fin 192), s.aMode g.val = aCurIn → (s.achan g.val).cut = true → Yields (.curInProtectRetry g false) s fun t =>
    (t.achan g.val).cut = false ∧ bit (t.reg R.ACH_STATUS g.val) abOverload = false ∧ frame s t [] [g.val]) ∧
  (∀ (s : State) (g : Fin 192), s.aMode g.val = aVoltOut → (s.achan g.val).cut = false → Yields (.voltOutOverload g) s fun t =>
    (t.achan g.val).cut = true ∧ (t.achan g.val).stage = .init ∧ bit (t.reg R.ACH_STATUS g.val) abOverload = true ∧
    frame s t [] [g.val]) ∧
  (∀ (s : State) (g : Fin 192), s.aMode g.val ≠ aVoltOut ∨ (s.achan g.val).cut = true →
    Yields (.voltOutOverload g) s fun t => t = s) ∧
  (∀ (s : State) (g : Fin 192), s.aMode g.val = aVoltOut → (s.achan g.val).cut = true → Yields (.voltOutRetry g) s fun t =>
    (t.achan g.val).cut = false ∧ bit (t.reg R.ACH_STATUS g.val) abOverload = false ∧
    (s.override (g.val / 32) = .none → (s.achan g.val).setting = false → bit (s.reg R.ACH_STATUS g.val) abThermal = false →
      (t.achan g.val).stage = ⟨true, aCode aVoltOut (s.achan g.val).setp⟩) ∧ frame s t [] [g.val]) ∧
  (∀ (s : State) (g : Fin 192), s.aMode g.val ≠ aVoltOut ∨ (s.achan g.val).cut = false → Yields (.voltOutRetry g) s fun t => t = s) ∧
  (∀ (s : State) (g : Fin 192), aIsOut (s.aMode g.val) = true → Yields (.outputStageThermalShutdown g) s fun t =>
    bit (t.reg R.ACH_STATUS g.val) abThermal = true ∧ (t.achan g.val).stage = .init ∧ frame s t [] [g.val]) ∧
  (∀ (s : State) (g : Fin 192), aIsOut (s.aMode g.val) = false → Yields (.outputStageThermalShutdown g) s fun t => t = s) ∧
  (∀ (s : State) (g : Fin 192), aIsOut (s.aMode g.val) = true → bit (s.reg R.ACH_STATUS g.val) abThermal = true →
    Yields (.outputStageThermalRetry g) s fun t =>
      bit (t.reg R.ACH_STATUS g.val) abThermal = false ∧
      (s.override (g.val / 32) = .none → (s.achan g.val).cut = false → (s.achan g.val).setting = false →
        (t.achan g.val).stage = ⟨true, aCode (s.aMode g.val) (s.achan g.val).setp⟩) ∧ frame s t [] [g.val]) ∧
  (∀ (s : State) (g : Fin 192), aIsOut (s.aMode g.val) = false ∨ bit (s.reg R.ACH_STATUS g.val) abThermal = false →
    Yields (.outputStageThermalRetry g) s fun t => t = s) ∧
  (∀ (s : State) (g : Fin 192), (s.achan g.val).setting = true → Yields (.analogueReconfigDone g) s fun t =>
    t.achan g.val = { s.achan g.val with
      setting := false, holdUntil := s.tick + 3 * aPeriod (s.fld F.ACH_RATE_RATE g.val) + 2, wait := (t.achan g.val).wait } ∧
    (aIsOut (s.aMode g.val) = true → bit (t.reg R.ACH_STATUS g.val) abReconfig = false) ∧
    (aIsOut (s.aMode g.val) = false → t.regs = s.regs ∧ t.image = s.image ∧ t.vault = s.vault) ∧ frame s t [] [g.val]) ∧
  (∀ (s : State) (g : Fin 192), (s.achan g.val).setting = false → Yields (.analogueReconfigDone g) s fun t => t = s)

/-- HART_POLL, HART_REPLY, HART_BURST_FRAME, HART_TIMEOUT, HART_IDENT_RETRY and HART_RESUME: what each makes of a channel, and
that no other channel changes (R229, R231, R232, R233, R234, R238, R239). -/
def Obligations.HartTransactions : Prop :=
  let others (s t : State) (g : Fin 192) : Prop := (∀ h : Fin 192, h ≠ g → t.hartOf h.val = s.hartOf h.val ∧ t.hState h.val = s.hState h.val) ∧
    t.image.sigs = s.image.sigs ∧ t.tick = s.tick ∧ t.phase = s.phase ∧ t.ach = s.ach
  let begun (s : State) (g : Nat) (h : HartCh) (u : HartUse) : HartCh :=
    { h with cur := some u, tries := 0, sent := s.hFrame g u, measure := true, lastPass := u == .pass }
  let heard (s : State) (g : Nat) (r : HartRx) (m : HartMsg) : Prop := r.line.length % 11 = 0 ∧ s.hState g ≠ hsOff ∧
    hartCarrier r.mv = true ∧ (hartBytes r.line).bind hartParse = some m
  let answered (s : State) (g : Nat) (r : HartRx) (m : HartMsg) (u : HartUse) : Prop := heard s g r m ∧ m.reply = true ∧
    m.primary = true ∧ (s.hartOf g).cur = some u ∧ 2 ≤ m.data.length ∧ m.respCode.getLsbD 7 = false ∧ s.hAnswers g u m = true ∧
    hartAddrKey m.addr = hartAddrKey (((s.hartOf g).sent.drop 1).take (if ((s.hartOf g).sent.headD 0).getLsbD 7 then 5 else 1))
  let shown (s t : State) (g : Fin 192) (m : HartMsg) : Prop :=
    t.reg R.HART_COUNTS_0 g.val = min (s.reg R.HART_COUNTS_0 g.val + 1) 0xFFFFFFFF ∧
    t.fld F.HART_STATUS_DEV_STATUS g.val = m.devStatus.toNat ∧ t.fld F.HART_STATUS_RESP_CODE g.val = m.respCode.toNat ∧
    (m.command = 3 → 4 ≤ m.body.length → t.reg R.HART_LOOP_I g.val = m.loopI.toNat) ∧
    (m.command = 48 → 1 ≤ m.body.length → t.fld F.HART_STATUS_EXT_STATUS g.val = (m.body.headD 0).toNat) ∧ others s t g
  (∀ (s : State) (g : Nat), s.hFrame g .ident = hartFrame false (hartShortAddr (s.fld F.HART_CFG_POLL_ADDR g)) 0 [] ∧
    ((s.hartOf g).known = true → s.hFrame g .poll =
      let dest := hartLongAddr (s.fld F.HART_ID_EXP_TYPE g) (s.fld F.HART_DEVID_DEVICE_ID g)
      if s.flag F.HART_CFG_POLL_CMD g then
        hartFrame true dest 9 ((List.range 4).map fun n => BitVec.ofNat 8 (s.reg R.HART_VARS g / 256 ^ n))
      else hartFrame true dest 3 [])) ∧
  (∀ (s : State) (g : Fin 192), s.hState g.val ≠ hsPolling ∨ s.fld F.HART_CFG_PERIOD_MS g.val = 0 →
    Yields (.hartPoll g) s fun t => t = s) ∧
  (∀ (s : State) (g : Fin 192), s.hState g.val = hsPolling → s.fld F.HART_CFG_PERIOD_MS g.val ≠ 0 →
    Yields (.hartPoll g) s fun t =>
      let h := { s.hartOf g.val with pollDue := true, moreSent := false }
      t = s.setHart g.val (
        if h.cur.isSome = true ∨ h.busy = true then h
        else if h.queue ≠ [] ∧ h.lastPass = false then begun s g.val h .pass
        else if h.identDue then { begun s g.val h .ident with identDue := false }
        else if h.moreDue then { begun s g.val h .more with moreDue := false, moreSent := true }
        else { begun s g.val h .poll with pollDue := false })) ∧
  (∀ (s : State) (g : Fin 192) (r : HartRx), r.line.length % 11 = 0 →
    (s.hState g.val = hsOff ∨ hartCarrier r.mv = false ∨ (hartBytes r.line).bind hartParse = none) →
    Yields (.hartReply g r) s fun t => t = s) ∧
  (∀ (s : State) (g : Fin 192) (r : HartRx) (m : HartMsg), answered s g.val r m .poll → Yields (.hartReply g r) s fun t =>
      shown s t g m ∧ t.hState g.val = s.hState g.val ∧ t.tillMem = s.tillMem ∧
      (∀ i < 4, (i = 3 → s.flag F.HART_CFG_VAR3_SEL g.val = false) →
        (⟨s.tick + 1, kHart, 4 * g.val + i, match m.var i with
          | some (v, bad) => ⟨f32to64 v, condQ (!hartSuccess m.respCode || m.devStatus.getLsbD 7 || bad || f64IsNaN (f32to64 v)) false,
              s.stampNs ((1000 * s.tick : Nat) - (1000 * r.age : Nat))⟩
          | none => ⟨(nget .init s.image.last (65536 * kHart + (4 * g.val + i))).value, qFault,
              s.stampNs ((1000 * s.tick : Nat) - (1000 * r.age : Nat))⟩⟩ : Update) ∈ t.image.updates)) ∧
  (∀ (s : State) (g : Fin 192) (r : HartRx) (m : HartMsg) (ty d : Nat), answered s g.val r m .ident → m.ident = some (ty, d) →
    Yields (.hartReply g r) s fun t => shown s t g m ∧ t.hState g.val = hsPolling ∧ t.fld F.HART_ID_EXP_TYPE g.val = ty ∧
      t.fld F.HART_DEVID_DEVICE_ID g.val = d ∧ (t.hartOf g.val).known = true ∧
      bit (t.reg R.HART_COMMFAIL (g.val / 32)) (g.val % 32) = false ∧ t.image = s.image ∧ t.tillMem = s.tillMem) ∧
  (∀ (s : State) (g : Fin 192) (r : HartRx) (m : HartMsg), answered s g.val r m .more → Yields (.hartReply g r) s fun t =>
      shown s t g m ∧ t.hState g.val = s.hState g.val ∧ t.image = s.image ∧ t.tillMem = s.tillMem) ∧
  (∀ (s : State) (g : Fin 192) (r : HartRx) (m : HartMsg) (q : HartReq) (qs : List HartReq), answered s g.val r m .pass →
    (s.hartOf g.val).queue = q :: qs → Yields (.hartReply g r) s fun t =>
      shown s t g m ∧ (t.hartOf g.val).queue = qs ∧ t.hState g.val = s.hState g.val ∧
      t.tillMem = (s.hReply q.account (g.val / 32) q.id q.command g.val 0 m.data).tillMem) ∧
  (∀ (s : State) (g : Fin 192) (r : HartRx) (m : HartMsg), heard s g.val r m → m.burst = true → Yields (.hartReply g r) s fun t =>
      t.fld F.HART_COUNTS_1_IGNORED g.val = min (s.fld F.HART_COUNTS_1_IGNORED g.val + 1) 0xFF ∧
      State.OnlyWords [R.HART_COUNTS_1.addr g.val 0] s t) ∧
  (∀ (s : State) (g : Fin 192) (r : HartRx) (m : HartMsg), heard s g.val r m → m.burst = false → m.primary = false →
    Yields (.hartReply g r) s fun t => if m.request then t = s.setHart g.val { s.hartOf g.val with busy := true }
      else (t.hartOf g.val).busy = false ∧ others s t g ∧ t.regs = s.regs) ∧
  (∀ (s : State) (g : Fin 192), s.hState g.val = hsOff → Yields (.hartBurstFrame g) s fun t => t = s) ∧
  (∀ (s : State) (g : Fin 192), s.hState g.val ≠ hsOff → Yields (.hartBurstFrame g) s fun t =>
    t.fld F.HART_COUNTS_1_IGNORED g.val = min (s.fld F.HART_COUNTS_1_IGNORED g.val + 1) 0xFF ∧
    State.OnlyWords [R.HART_COUNTS_1.addr g.val 0] s t) ∧
  (∀ (s : State) (g : Fin 192), (s.hartOf g.val).cur.isSome = true → (s.hartOf g.val).tries < s.fld F.HART_CFG_RETRIES g.val →
    Yields (.hartTimeout g) s fun t =>
      t.hartOf g.val = { s.hartOf g.val with busy := false, tries := (s.hartOf g.val).tries + 1, measure := true } ∧
      t.fld F.HART_COUNTS_1_RETRIES g.val = min (s.fld F.HART_COUNTS_1_RETRIES g.val + 1)
        (2 ^ (F.HART_COUNTS_1_RETRIES.hi + 1 - F.HART_COUNTS_1_RETRIES.lo) - 1) ∧ others s t g ∧
      State.OnlyWords [R.HART_COUNTS_1.addr g.val 0] { s with hart := t.hart } t) ∧
  (∀ (s : State) (g : Fin 192), (s.hartOf g.val).cur.isSome = true → s.fld F.HART_CFG_RETRIES g.val ≤ (s.hartOf g.val).tries →
    Yields (.hartTimeout g) s fun t => t.hState g.val = hsFail ∧ (t.hartOf g.val).pollDue = false ∧
      (t.hartOf g.val).moreDue = false ∧ others s t g ∧
      t.fld F.HART_COUNTS_1_FAILURES g.val = min (s.fld F.HART_COUNTS_1_FAILURES g.val + 1) 0xFFF ∧
      (s.hState g.val ≠ hsFail → ∀ i < 4, (⟨s.tick + 1, kHart, 4 * g.val + i,
        ⟨(nget .init s.image.last (65536 * kHart + (4 * g.val + i))).value, qFault, s.stamp⟩⟩ : Update) ∈ t.image.updates)) ∧
  (∀ (s : State) (g : Fin 192), (s.hartOf g.val).cur = none → Yields (.hartTimeout g) s fun t =>
    (t.hartOf g.val).busy = false ∧ others s t g ∧ t.regs = s.regs ∧ t.image = s.image ∧ t.tillMem = s.tillMem) ∧
  (∀ (s : State) (g : Fin 192), s.hState g.val ≠ hsFail → Yields (.hartIdentRetry g) s fun t => t = s) ∧
  (∀ (s : State) (g : Fin 192), s.hState g.val = hsFail → Yields (.hartIdentRetry g) s fun t =>
      let h := { s.hartOf g.val with identDue := true }
      t = s.setHart g.val (
        if h.cur.isSome = true ∨ h.busy = true then h
        else if h.queue ≠ [] ∧ h.lastPass = false then begun s g.val h .pass
        else { begun s g.val h .ident with identDue := false })) ∧
  (∀ (s : State) (g : Fin 192), s.hState g.val ≠ hsStandby ∨ s.inControl = false ∨ s.pair.winOpen = true →
    Yields (.hartResume g) s fun t => t = s) ∧
  (∀ (s : State) (g : Fin 192), s.hState g.val = hsStandby → s.inControl = true → s.pair.winOpen = false →
    Yields (.hartResume g) s fun t =>
      t.hState g.val = (if (s.hartOf g.val).known then hsPolling else hsIdent) ∧ others s t g ∧
      ((s.hartOf g.val).known = false → (s.hartOf g.val).cur = none → (s.hartOf g.val).busy = false → (s.hartOf g.val).queue = [] →
        (t.hartOf g.val).cur = some .ident) ∧ t.image = s.image ∧ t.tillMem = s.tillMem)

/-- HART_PASSTHROUGH_REQUEST and HART_Z_MEASURE: a request joins its channel's queue or is answered, and a measurement stores,
compares and counts (R235, R236, R237, R240, R241). -/
def Obligations.HartRequestsAndImpedance : Prop :=
  let word (s : State) (a q i : Nat) : W64 := nget 0 s.tillMem (s.tillPos a q ((s.till a q).rd + i))
  let head (s : State) (a q : Nat) : Nat := (word s a q 0).toNat
  let len (s : State) (a q : Nat) : Nat := bits (head s a q) 31 24
  let items (s : State) (a q : Nat) : Nat := 1 + (len s a q + 7) / 8
  let body (s : State) (a q : Nat) : List Byte := dwordsBytes ((List.range (items s a q - 1)).map fun i => word s a q (i + 1))
  let req (s : State) (a : Fin 8) (sl : Fin 6) (ecc : List Ecc) (q rt : Nat) : Prop :=
    s.findTill a.val false ekHart sl.val = some q ∧ s.findTill a.val true ekHart sl.val = some rt ∧ q ≠ rt ∧
    s.inControl = true ∧ 33 ≤ s.tillFree a.val rt ∧ items s a.val q ≤ (s.till a.val q).unread ∧
    (∀ e ∈ ecc.take (items s a.val q), e ≠ .double)
  let sound (s : State) (a : Fin 8) (sl : Fin 6) (q : Nat) : Prop :=
    bits (head s a.val q) 7 0 / 32 = sl.val ∧ s.flag F.HART_CFG_EN (bits (head s a.val q) 7 0) = true ∧
    bits (head s a.val q) 23 8 = 0 ∧ ((body s a.val q).drop (len s a.val q)).all (· == 0) = true ∧
    (255 < bits (head s a.val q) 47 32 → len s a.val q ≤ 253)
  let taken (s t : State) (a q : Nat) : Prop :=
    (t.till a q).rd = (s.till a q).rd + items s a q ∧ (t.till a q).rel = (s.till a q).rd + items s a q ∧ t.image = s.image
  let refused (s t : State) (a q rt status : Nat) : Prop :=
    nget 0 t.tillMem (s.tillPos a rt (s.till a rt).wr) = BitVec.ofNat 64 (bits (head s a q) 63 48 * 2 ^ 48 +
      bits (head s a q) 47 32 * 2 ^ 32 + status * 2 ^ 16 + bits (head s a q) 7 0) ∧ taken s t a q ∧ t.hart = s.hart
  let own (s : State) (a q : Nat) : Prop := s.fld F.ACH_OWNER_ACCOUNT (bits (head s a q) 7 0) = a
  let safe (s : State) (a q : Nat) : Prop := a = 7 → s.sw12 = true ∨ bits (head s a q) 47 32 ∈ hSafeCommands
  (∀ (s : State) (a : Fin 8) (sl : Fin 6) (ecc : List Ecc), (s.findTill a.val false ekHart sl.val = none ∨
      s.findTill a.val true ekHart sl.val = none ∨ s.inControl = false) →
    Yields (.hartPassthroughRequest a sl ecc) s fun t => t = s) ∧
  (∀ (s : State) (a : Fin 8) (sl : Fin 6) (ecc : List Ecc) (q rt : Nat), req s a sl ecc q rt → sound s a sl q → own s a.val q →
    safe s a.val q → (s.hartOf (bits (head s a.val q) 7 0)).queue.length < 8 →
    Yields (.hartPassthroughRequest a sl ecc) s fun t =>
      let g := bits (head s a.val q) 7 0
      (t.hartOf g).queue = (s.hartOf g).queue ++
        [⟨a.val, bits (head s a.val q) 63 48, bits (head s a.val q) 47 32, (body s a.val q).take (len s a.val q)⟩] ∧
      taken s t a.val q ∧ (∀ h < 192, h ≠ g → t.hartOf h = s.hartOf h) ∧ t.tillMem = s.tillMem) ∧
  (∀ (s : State) (a : Fin 8) (sl : Fin 6) (ecc : List Ecc) (q rt : Nat), req s a sl ecc q rt → ¬ sound s a sl q →
    Yields (.hartPassthroughRequest a sl ecc) s fun t => refused s t a.val q rt 9) ∧
  (∀ (s : State) (a : Fin 8) (sl : Fin 6) (ecc : List Ecc) (q rt : Nat), req s a sl ecc q rt → sound s a sl q →
    ¬ (own s a.val q ∧ safe s a.val q) → Yields (.hartPassthroughRequest a sl ecc) s fun t => refused s t a.val q rt 8) ∧
  (∀ (s : State) (a : Fin 8) (sl : Fin 6) (ecc : List Ecc) (q rt : Nat), req s a sl ecc q rt → sound s a sl q → own s a.val q →
    safe s a.val q → 8 ≤ (s.hartOf (bits (head s a.val q) 7 0)).queue.length →
    Yields (.hartPassthroughRequest a sl ecc) s fun t => refused s t a.val q rt 1) ∧
  (∀ (s : State) (g : Fin 192) (z1 z2 : Nat) (o : Bool), (s.hartOf g.val).cur = none ∨ (s.hartOf g.val).measure = false →
    Yields (.hartZMeasure g z1 z2 o) s fun t => t = s) ∧
  (∀ (s : State) (g : Fin 192) (z1 z2 : Nat) (o : Bool), (s.hartOf g.val).cur.isSome = true → (s.hartOf g.val).measure = true →
    o = true ∨ s.inWindow = true → Yields (.hartZMeasure g z1 z2 o) s fun t =>
      t = s.setHart g.val { s.hartOf g.val with measure := false }) ∧
  (∀ (s : State) (g : Fin 192) (z1 z2 : Nat), (s.hartOf g.val).cur.isSome = true → (s.hartOf g.val).measure = true →
    s.inWindow = false → Yields (.hartZMeasure g z1 z2 false) s fun t =>
      let h := s.hartOf g.val
      let two := decide (16 ≤ hartSpaces h.sent)
      let b1 := if h.rebase1200 then min z1 0xFFFE else s.fld F.HART_Z_BASE_B1200 g.val
      let b2 := if h.rebase2200 then min z2 0xFFFE else s.fld F.HART_Z_BASE_B2200 g.val
      let pct := s.fld F.HART_Z_CFG_DRIFT_PCT g.val
      let far := decide (pct * b1 < 100 * ((z1 : Int) - b1).natAbs) || (two && decide (pct * b2 < 100 * ((z2 : Int) - b2).natAbs))
      let n := s.fld F.HART_Z_CFG_DRIFT_COUNT g.val
      t.hartOf g.val = { h with measure := false, rebase1200 := false, rebase2200 := (h.rebase2200 && !two),
                                drift := (if far then h.drift + 1 else 0), steady := (if far then 0 else h.steady + 1) } ∧
      t.fld F.HART_Z_Z1200 g.val = min z1 0xFFFE ∧ t.fld F.HART_Z_BASE_B1200 g.val = b1 ∧
      t.fld F.HART_Z_Z2200 g.val = (if two then min z2 0xFFFE else s.fld F.HART_Z_Z2200 g.val) ∧
      t.fld F.HART_Z_BASE_B2200 g.val = (if two then b2 else s.fld F.HART_Z_BASE_B2200 g.val) ∧
      (t.flag F.HART_Z_CFG_ALARM g.val = if s.flag F.HART_Z_CFG_ALARM g.val then decide ((t.hartOf g.val).steady < n)
        else decide (n ≤ (t.hartOf g.val).drift)) ∧
      (∀ k : Fin 192, k ≠ g → t.hartOf k.val = s.hartOf k.val) ∧
      t = { s with regs := t.regs, vault := t.vault, hart := t.hart } ∧
      s.Keeps ([R.HART_Z.addr g.val 0, R.HART_Z_BASE.addr g.val 0, R.HART_Z_CFG.addr g.val 0, R.HART_ZALARM.addr (g.val / 32) 0] ++
        eventWords) t)

/-- LEVEL_FILTER_PASS, LINE_MON_OPEN, EDGE_ACCEPTED and QUAD_VELOCITY_UPDATE: what each does to its channel, when it does nothing,
and that nothing else changes (R247, R249, R250, R251, R252). -/
def Obligations.DigitalInputs : Prop :=
  let words (n : Nat) : List Nat := [R.DCH_STATUS.addr n 0, R.DCH_LATCH.addr n 0, R.DCH_COUNTS.addr n 0, R.DS_FAULT.addr (n / 32) 0,
    R.DS_SUMMARY.base] ++ eventWords
  let frame (s t : State) (ns also : List Nat) : Prop :=
    t = { s with regs := t.regs, vault := t.vault, dch := t.dch, image.updates := t.image.updates, image.last := t.image.last } ∧
    s.Keeps (ns.flatMap words ++ also) t ∧ (∀ m < 320, m ∉ ns → t.dchan m = s.dchan m)
  let idx (n : Nat) (i : Nat) : Nat := 8 * (192 + n) + i
  let first (s : State) (n : Nat) : Prop :=
    (s.dchan n).level = none ∨ (s.dHas n dbReconfig = true ∧ dIsIn (s.dMode n) = true)
  let passes (s : State) (n : Nat) (b : Bool) : Prop := s.dMode n ≠ dOff ∧ (s.dchan n).setting = false ∧
    (first s n ∨ (s.dMode n ≠ dEdge ∧ s.dMode n ≠ dQuad ∧ (s.dchan n).level ≠ some b))
  let accepted (s : State) (n : Nat) (b : Bool) (m : Nat) : Prop :=
    s.dMode n = m ∧ (s.dchan n).setting = false ∧ (s.dchan n).level ≠ some b
  (∀ (s : State) (n : Fin 320) (b : Bool), ¬ passes s n.val b → Yields (.levelFilterPass n b) s fun t => t = s) ∧
  (∀ (s : State) (n : Fin 320) (b : Bool), passes s n.val b → Yields (.levelFilterPass n b) s fun t =>
      (t.dchan n.val).level = some b ∧ (dIsIn (s.dMode n.val) = true → t.dHas n.val dbReconfig = false) ∧
      (s.dHas n.val dbReconfig = false → t.dchan n.val = { s.dchan n.val with level := some b } ∧ t.regs = s.regs) ∧
      frame s t [n.val] [] ∧
      (s.slState (dSlice n.val) = slRun → t.image.updates.getLast? = some ⟨s.tick + 2, kChannel, idx n.val 0, BitVec.ofNat 64 (b2n b),
        dQual (s.dMode n.val) (t.dchan n.val).conds.toNat 0, s.stampNs (
          if s.dMode n.val = dOut then (1000 * s.tick : Nat)
          else if s.dMode n.val = dEdge ∨ s.dMode n.val = dQuad then
            ((1000 * s.tick : Nat) : Int) - (1000 * s.fld F.DCH_FILT_EDGE_FILT_US (s.dLead n.val) : Nat) - 1500
          else ((1000 * s.tick : Nat) : Int) - (1000 * (s.fld F.DCH_FILT_FILT_US n.val - 1) : Nat) - 1500)⟩)) ∧
  (∀ (s : State) (n : Fin 320) (b : Bool), s.dMode n.val = dIn13 → s.flag F.DCH_CFG_LINE_MON n.val = true →
    Yields (.lineMonOpen n b) s fun t => t.dHas n.val dbOpen = b ∧ (t.dchan n.val).level = (s.dchan n.val).level ∧
      frame s t [n.val] []) ∧
  (∀ (s : State) (n : Fin 320) (b : Bool), s.dMode n.val ≠ dIn13 ∨ s.flag F.DCH_CFG_LINE_MON n.val = false →
    Yields (.lineMonOpen n b) s fun t => t = s) ∧
  (∀ (s : State) (n : Fin 320) (b : Bool) (at_ : Nat), accepted s n.val b dEdge → Yields (.edgeAccepted n b at_) s fun t =>
      let counts := bit (s.fld F.DCH_CFG_EDGE_SEL n.val) (if b then 0 else 1)
      (t.dchan n.val).level = some b ∧ (t.dchan n.val).count = (s.dchan n.val).count + (if counts then 1 else 0) ∧
      (t.dchan n.val).lastEdge = (if counts then some ((at_ : Int) - 1500) else (s.dchan n.val).lastEdge) ∧
      t.dHas n.val dbReconfig = false ∧ frame s t [n.val] [] ∧
      (s.slState (dSlice n.val) = slRun → counts = true → ⟨s.tick + 2, kChannel, idx n.val 1, ⟨(s.dchan n.val).count + 1,
        dQual dEdge (t.dchan n.val).conds.toNat 1, s.stampNs ((at_ : Int) - 1500)⟩⟩ ∈ t.image.updates)) ∧
  (∀ (s : State) (n : Fin 320) (b : Bool) (at_ : Nat), accepted s n.val b dQuad →
    let a := n.val - n.val % 2
    let other := s.dchan (if n.val % 2 = 0 then a + 1 else a)
    let near := match other.phaseEdge with | some u => decide (((at_ : Int) - 1500 - u).natAbs ≤ 200) | none => false
    let forward := if n.val % 2 = 0 then b != other.level.getD false else b == other.level.getD false
    let count := if near then (s.dchan a).count else if forward then (s.dchan a).count + 1 else (s.dchan a).count - 1
    Yields (.edgeAccepted n b at_) s fun t =>
      (t.dchan n.val).level = some b ∧ (t.dchan n.val).phaseEdge = some ((at_ : Int) - 1500) ∧ (t.dchan a).count = count ∧
      (near = true → t.dHas a dbQuadErr = true) ∧ frame s t [n.val, a] [] ∧
      (s.slState (dSlice a) = slRun → near = false → ∃ q, ⟨s.tick + 2, kChannel, idx a 1,
        ⟨count, q, s.stampNs ((at_ : Int) - 1500)⟩⟩ ∈ t.image.updates)) ∧
  (∀ (s : State) (n : Fin 320) (b : Bool) (at_ : Nat), ¬ accepted s n.val b dEdge → ¬ accepted s n.val b dQuad →
    Yields (.edgeAccepted n b at_) s fun t => t = s) ∧
  (∀ (s : State) (n : Fin 320), s.dMode n.val = dQuad → n.val % 2 = 0 → s.slState (dSlice n.val) = slRun →
    Yields (.quadVelocityUpdate n) s fun t =>
      t.dchan n.val = { s.dchan n.val with velAt := (s.dchan n.val).count } ∧ frame s t [n.val] [] ∧ t.regs = s.regs ∧
      (t.image.updates.getLast?.map fun u => (u.due, u.kind, u.index, u.copy.value)) = some (s.tick + 2, kChannel, idx n.val 4,
        (f64OfInt (((s.dchan n.val).count - (s.dchan n.val).velAt).toInt * 1000)).val)) ∧
  (∀ (s : State) (n : Fin 320), s.dMode n.val ≠ dQuad ∨ n.val % 2 = 1 ∨ s.slState (dSlice n.val) ≠ slRun →
    Yields (.quadVelocityUpdate n) s fun t => t = s)

/-- Load current, thermal off and retry, slice overcurrent, EXTDRV, output conditions, current limit, DIGITAL_RECONFIG_DONE: what
each does and leaves alone (R258, R259, R260, R261, R262, R263, R265). -/
def Obligations.DigitalOutputs : Prop :=
  let words (n : Nat) : List Nat := [R.DCH_STATUS.addr n 0, R.DCH_LATCH.addr n 0, R.DCH_COUNTS.addr n 0, R.DS_FAULT.addr (n / 32) 0,
    R.DS_SUMMARY.base] ++ eventWords
  let frame (s t : State) (ns also : List Nat) : Prop :=
    t = { s with regs := t.regs, vault := t.vault, dch := t.dch, image.updates := t.image.updates, image.last := t.image.last } ∧
    s.Keeps (ns.flatMap words ++ also) t ∧ (∀ m < 320, m ∉ ns → t.dchan m = s.dchan m)
  let outputOf (s : State) (n : Nat) : Prop := dIsOut (s.dMode n) = true
  let same (s t : State) (n : Nat) : Prop := (t.dchan n).cmd = (s.dchan n).cmd ∧ (t.dchan n).level = (s.dchan n).level
  let free (s : State) (n : Nat) : Prop := outputOf s n ∧ s.override (dSlice n) = .none ∧ (s.dchan n).setting = false
  let slice (sl : Nat) : List Nat := (List.range 32).map (32 * sl + ·)
  let flag (c : DCond) : Nat := match c with | .short => dbShort | .openLoad => dbOpen | .rbDiff => dbRbDiff
  let may (s : State) (n : Nat) (c : DCond) (on : Bool) : Bool := dIsOut (s.dMode n) && match c with
    | .short => !on || ((s.dchan n).cmd && s.fsState (dSlice n) == fsNormal)
    | .openLoad => !on || ((s.dchan n).cmd && s.flag F.DCH_CFG_OL_EN n)
    | .rbDiff => s.dMode n == dOutRb && !s.dWindow &&
        (!on || [dbFsLow, dbSliceOvl, dbThermal, dbExtdrv, dbShort, dbOpen].all fun b => !s.dHas n b)
  (∀ (s : State) (n : Fin 320) (ma v fs : BitVec 16), Yields (.loadCurrentUpdate n ma v fs) s fun t =>
    t.fld F.DCH_LOAD_LOAD_MA n.val = ma.toNat ∧ t.fld F.DCH_LOAD_TERM_V n.val = v.toNat ∧
    t.fld F.DS_LOAD_FS_MA (n.val / 32) = fs.toNat ∧ t.dch = s.dch ∧
    frame s t [] [R.DCH_LOAD.addr n.val 0, R.DS_LOAD.addr (n.val / 32) 0] ∧
    (¬ (outputOf s n.val ∧ s.slState (dSlice n.val) = slRun) → t.image = s.image) ∧
    (outputOf s n.val → s.slState (dSlice n.val) = slRun → ⟨s.tick + 2, kChannel, 8 * (192 + n.val) + 5,
      ⟨(f64OfInt ma.toNat).val, dQual (s.dMode n.val) (s.dchan n.val).conds.toNat 5, s.stamp⟩⟩ ∈ t.image.updates)) ∧
  (∀ (s : State) (n : Fin 320), outputOf s n.val → s.dHas n.val dbThermal = false → Yields (.outputThermalOff n) s fun t =>
    t.dHas n.val dbThermal = true ∧ (t.dchan n.val).stage = .init ∧ same s t n.val ∧ frame s t [n.val] []) ∧
  (∀ (s : State) (n : Fin 320), ¬ outputOf s n.val ∨ s.dHas n.val dbThermal = true →
    Yields (.outputThermalOff n) s fun t => t = s) ∧
  (∀ (s : State) (n : Fin 320), s.dHas n.val dbThermal = true → Yields (.outputThermalRetry n) s fun t =>
    t.dHas n.val dbThermal = false ∧ same s t n.val ∧
    t.fld F.DCH_COUNTS_RETRIES n.val = (if (t.dchan n.val).stage = ⟨true, 1⟩ then min (s.fld F.DCH_COUNTS_RETRIES n.val + 1) 0xFFFF
      else s.fld F.DCH_COUNTS_RETRIES n.val) ∧
    (free s n.val → s.dHas n.val dbSliceOvl = false → (t.dchan n.val).stage = ⟨true, b2n (s.dchan n.val).cmd⟩) ∧
    frame s t [n.val] []) ∧
  (∀ (s : State) (n : Fin 320), s.dHas n.val dbThermal = false → Yields (.outputThermalRetry n) s fun t => t = s) ∧
  (∀ (s : State) (sl : Fin 10) (ma : BitVec 16), s.flag F.DS_LOAD_OVL sl.val = false → Yields (.sliceOvercurrentTrip sl ma) s fun t =>
    t.flag F.DS_LOAD_OVL sl.val = true ∧
    t.flag F.DS_LOAD_OVL_OFF sl.val = (match (nget DSlice.init s.dslice sl.val).firstTrip with
      | some u => decide (s.tick - u ≤ 10000000) | none => false) ∧
    t.fld F.DS_LOAD_FS_MA sl.val = ma.toNat ∧
    (∀ c < 32, outputOf s (32 * sl.val + c) → t.dHas (32 * sl.val + c) dbSliceOvl = true ∧
      (t.dchan (32 * sl.val + c)).stage = .init ∧ same s t (32 * sl.val + c)) ∧
    frame { s with dslice := t.dslice } t (slice sl.val) [R.DS_LOAD.addr sl.val 0]) ∧
  (∀ (s : State) (sl : Fin 10) (ma : BitVec 16), s.flag F.DS_LOAD_OVL sl.val = true →
    Yields (.sliceOvercurrentTrip sl ma) s fun t => t = s) ∧
  (∀ (s : State) (sl : Fin 10), s.flag F.DS_LOAD_OVL sl.val = true → s.flag F.DS_LOAD_OVL_OFF sl.val = false →
    Yields (.sliceOvercurrentResume sl) s fun t => t.flag F.DS_LOAD_OVL sl.val = false ∧
      (∀ c < 32, t.dHas (32 * sl.val + c) dbSliceOvl = false ∧ same s t (32 * sl.val + c) ∧ (free s (32 * sl.val + c) →
        s.dHas (32 * sl.val + c) dbThermal = false → (t.dchan (32 * sl.val + c)).stage = ⟨true, b2n (s.dchan (32 * sl.val + c)).cmd⟩)) ∧
      frame s t (slice sl.val) [R.DS_LOAD.addr sl.val 0]) ∧
  (∀ (s : State) (sl : Fin 10), s.flag F.DS_LOAD_OVL sl.val = false ∨ s.flag F.DS_LOAD_OVL_OFF sl.val = true →
    Yields (.sliceOvercurrentResume sl) s fun t => t = s) ∧
  (∀ (s : State) (n : Fin 320) (on : Bool) (v : BitVec 16), outputOf s n.val → s.inControl = true → s.dWindow = false →
    s.dHas n.val dbExtdrv ≠ on → Yields (.extdrvChange n on v) s fun t => t.dHas n.val dbExtdrv = on ∧ same s t n.val ∧
      (t.dchan n.val).stage = (s.dchan n.val).stage ∧ t.fld F.DCH_LOAD_TERM_V n.val = v.toNat ∧
      frame s t [n.val] [R.DCH_LOAD.addr n.val 0]) ∧
  (∀ (s : State) (n : Fin 320) (on : Bool) (v : BitVec 16), ¬ outputOf s n.val ∨ s.inControl = false ∨ s.dWindow = true ∨
    s.dHas n.val dbExtdrv = on → Yields (.extdrvChange n on v) s fun t => t = s) ∧
  (∀ (s : State) (n : Fin 320) (c : DCond) (on : Bool), may s n.val c on = true → Yields (.outputConditionChange n c on) s fun t =>
      t.dHas n.val (flag c) = on ∧ same s t n.val ∧ (t.dchan n.val).stage = (s.dchan n.val).stage ∧ frame s t [n.val] []) ∧
  (∀ (s : State) (n : Fin 320) (c : DCond) (on : Bool), may s n.val c on = false →
    Yields (.outputConditionChange n c on) s fun t => t = s) ∧
  (∀ (s : State) (n : Fin 320) (on : Bool), outputOf s n.val → Yields (.currentLimitChange n on) s fun t =>
    t.dHas n.val dbCurlim = on ∧ same s t n.val ∧ (t.dchan n.val).stage = (s.dchan n.val).stage ∧ frame s t [n.val] []) ∧
  (∀ (s : State) (n : Fin 320) (on : Bool), ¬ outputOf s n.val → Yields (.currentLimitChange n on) s fun t => t = s) ∧
  (∀ (s : State) (n : Fin 320), (s.dchan n.val).setting = true → Yields (.digitalReconfigDone n) s fun t =>
    (t.dchan n.val).setting = false ∧ same s t n.val ∧ frame s t [n.val] [] ∧
    (outputOf s n.val → t.dHas n.val dbReconfig = false ∧ (s.override (dSlice n.val) = .none → s.dHas n.val dbThermal = false →
      s.dHas n.val dbSliceOvl = false → (t.dchan n.val).stage = (s.dchan n.val).stage)) ∧
    (¬ outputOf s n.val → t = s.setDch n.val { s.dchan n.val with setting := false })) ∧
  (∀ (s : State) (n : Fin 320), (s.dchan n.val).setting = false → Yields (.digitalReconfigDone n) s fun t => t = s)

/-- A slice-link frame is read as it was built: decode of encode (R269, R270, R271). -/
def Obligations.SliceFrameRoundTrip : Prop :=
  (∀ (h : BitVec 16) (p : BitVec 544), frameSync (mkFrame h.toNat p.toNat) = true ∧ frameGood (mkFrame h.toNat p.toNat) = true ∧
    frameGuard (mkFrame h.toNat p.toNat) = true ∧
    frameHeader (mkFrame h.toNat p.toNat) = h.toNat ∧ framePayload (mkFrame h.toNat p.toNat) = p.toNat) ∧
  (∀ (h k : BitVec 16) (p q : BitVec 544), mkFrame h.toNat p.toNat = mkFrame k.toNat q.toNat → h = k ∧ p = q)

/-- SLICE_LINK_FRAME_RECEIVED on either lane and the two link timeouts: search, lock and its loss, HELLO, DOWNLOAD, RUN, and what
a down frame drives (R269, R272, R273, R275, R276, R277, R278, R279, R280, R470). -/
def Obligations.SliceLinkAlignmentAndStates : Prop :=
  let upOut (s : State) (sl : Nat) (line : BitVec 625) : RxOut := (s.link sl).up.take line
  let downOut (s : State) (sl : Nat) (line : BitVec 625) : RxOut := (s.link sl).down.take line
  let kind (o : RxOut) : Nat := bits (frameHeader o.frame) 15 14
  let others (s t : State) (sl : Nat) : Prop := (∀ k : Fin 16, k.val ≠ sl → t.link k.val = s.link k.val ∧ t.slState k.val = s.slState k.val) ∧
    t.image.sigs = s.image.sigs ∧ t.tillMem = s.tillMem ∧ t.phase = s.phase ∧ t.drive = s.drive
  let comes (s : State) (sl : Nat) (line : BitVec 625) : Prop := s.slState sl ≠ slOff ∧
    ((downOut s sl line).accepted = true → (s.link sl).sent.contains ⟨frameHeader (downOut s sl line).frame,
      framePayload (downOut s sl line).frame⟩ = true)
  (∀ (last line : BitVec 625) (from_ p : Nat), slFind last line from_ = some p → from_ ≤ p ∧ p ≤ 625 ∧
    frameSync (slFrameAt last line p) = true ∧ ∀ q < p, from_ ≤ q → frameSync (slFrameAt last line q) = false) ∧
  (∀ (r : Rx) (line : BitVec 625), r.locked = false → 3 ≤ r.syncs → 2 ≤ r.crcs → frameSync (slFrameAt r.last line r.pos) = true →
    (r.take line).rx.locked = true ∧ (r.take line).what = 1 ∧ (r.take line).rx.pos = r.pos) ∧
  (∀ (r : Rx) (line : BitVec 625), r.locked = false → r.syncs ≠ 0 → (r.syncs < 3 ∨ r.crcs < 2) →
    (frameSync (slFrameAt r.last line r.pos) = false ∨ frameGood (slFrameAt r.last line r.pos) = false) →
    (r.take line).rx.locked = false ∧ (r.take line).rx.syncs = 0 ∧ (r.take line).rx.from_ = r.pos + 1 ∧ (r.take line).what = 2) ∧
  (∀ (r : Rx) (line : BitVec 625), r.locked = true → let f := slFrameAt r.last line r.pos
    let missing := if frameSync f then 0 else r.missing + 1
    let errs := ((!frameGood f) :: r.errs).take 64
    (r.take line).what = (if 4 ≤ missing then 3 else if 8 ≤ (errs.filter (·)).length then 4 else 0) ∧
    (r.take line).rx.locked = ((r.take line).what == 0)) ∧
  (∀ (s : State) (sl : Fin 16) (d : Bool) (line : BitVec 625), s.slState sl.val = slOff →
    Yields (.sliceLinkFrameReceived sl d line) s fun t => t = s) ∧
  (∀ (s : State) (sl : Fin 16) (line : BitVec 625), s.slState sl.val ≠ slOff → Yields (.sliceLinkFrameReceived sl false line) s fun t =>
      let o := upOut s sl.val line
      (t.link sl.val).up = o.rx ∧ (t.link sl.val).ack = o.accepted ∧ t.flag F.SL_STATUS_UP_LOCK sl.val = o.rx.locked ∧
      t.fld F.SL_COUNTS_0_UP_CRC sl.val = (if o.bad then min (s.fld F.SL_COUNTS_0_UP_CRC sl.val + 1) 0xFFFF
        else s.fld F.SL_COUNTS_0_UP_CRC sl.val) ∧
      (o.what = 1 → t.reg R.SL_ACQ_NS sl.val = o.rx.acqNs % 2 ^ 32) ∧ others s t sl.val) ∧
  (∀ (s : State) (sl : Fin 16) (line : BitVec 625), s.slState sl.val ≠ slOff → s.slState sl.val ≠ slRefused →
    3 ≤ (upOut s sl.val line).what → Yields (.sliceLinkFrameReceived sl false line) s fun t =>
      t.slState sl.val = slSearch ∧ (t.link sl.val).items = [] ∧ (t.link sl.val).flight = [] ∧ t.fld F.SL_STATUS_VERSION sl.val = 0 ∧
      t.fld F.SL_COUNTS_1_LOSSES sl.val = min (s.fld F.SL_COUNTS_1_LOSSES sl.val + 1) 0xFFFF ∧
      bit (t.reg R.SL_SUMMARY) sl.val = false ∧
      (t.image.updates.all fun u => !u.ofSlice sl.val || (s.slState sl.val == slRun && u.due == s.tick + 2)) = true) ∧
  (∀ (s : State) (sl : Fin 16) (line : BitVec 625), s.slState sl.val = slSearch → (upOut s sl.val line).accepted = true →
    (s.link sl.val).down.locked = true → (s.link sl.val).downLost = [] → Yields (.sliceLinkFrameReceived sl false line) s fun t =>
      t.slState sl.val = slHello ∧ (t.link sl.val).hellos = (if kind (upOut s sl.val line) = fkHello then 1 else 0)) ∧
  (∀ (s : State) (sl : Fin 16) (line : BitVec 625), s.slState sl.val = slHello → (upOut s sl.val line).accepted = true →
    (s.link sl.val).downLost = [] → kind (upOut s sl.val line) = fkHello → 1 ≤ (s.link sl.val).hellos →
    Yields (.sliceLinkFrameReceived sl false line) s fun t =>
      t.slState sl.val = (if bit (framePayload (upOut s sl.val line).frame) 0 then slDownload else slRefused) ∧
      (bit (framePayload (upOut s sl.val line).frame) 0 = true → t.fld F.SL_STATUS_VERSION sl.val = 1 ∧
        (t.link sl.val).items = downloadItems sl.val) ∧ t.image = s.image) ∧
  (∀ (s : State) (sl : Fin 16) (line : BitVec 625), s.slState sl.val = slDownload → (upOut s sl.val line).accepted = true →
    (s.link sl.val).downLost = [] → kind (upOut s sl.val line) = fkData → (s.link sl.val).items = [] →
    (∀ x ∈ (s.link sl.val).flight, x.acked = true ∨
      (x.sent + 2 = s.tick ∧ bit (frameHeader (upOut s sl.val line).frame) 13 = true)) →
    Yields (.sliceLinkFrameReceived sl false line) s fun t =>
      t.slState sl.val = slRun ∧ t.flag F.SL_STATUS_DOWNLOADED sl.val = true ∧ t.reg64 R.SL_RUN_TIME sl.val = s.stamp.toNat ∧
      bit (t.reg R.SL_SUMMARY) sl.val = true ∧ (t.link sl.val).late = false ∧
      (t.link sl.val).obeys = ((s.link sl.val).down.locked && decide (2 ≤ (s.link sl.val).heard))) ∧
  (∀ (s : State) (sl : Fin 16) (line : BitVec 625), s.slState sl.val = slRun → (upOut s sl.val line).what = 0 →
    (upOut s sl.val line).rx.locked = true → (upOut s sl.val line).accepted = false →
    Yields (.sliceLinkFrameReceived sl false line) s fun t => t.image.updates = s.image.updates.map fun u =>
      if u.kind = kChannel ∧ u.index / 256 = sl.val ∧ u.due = s.tick + 1 then { u with due := u.due + 3 } else u) ∧
  (∀ (s : State) (sl : Fin 16) (line : BitVec 625), s.slState sl.val ≠ slOff → ¬ comes s sl.val line →
    Yields (.sliceLinkFrameReceived sl true line) s fun t => t = s) ∧
  (∀ (s : State) (sl : Fin 16) (line : BitVec 625), comes s sl.val line → Yields (.sliceLinkFrameReceived sl true line) s fun t =>
      let o := downOut s sl.val line
      (t.link sl.val).down = o.rx ∧ (t.link sl.val).downCrc = (s.link sl.val).downCrc + b2n o.bad ∧
      (t.link sl.val).downLost = (s.link sl.val).downLost ++ (if 3 ≤ o.what then [o.what] else []) ∧
      (3 ≤ o.what → (t.link sl.val).obeys = false ∧ (t.link sl.val).heard = 0) ∧
      (o.accepted = true → bits (frameHeader o.frame) 15 14 = fkHold → (t.link sl.val).obeys = false ∧ (t.link sl.val).heard = 0) ∧
      (o.accepted = true → kind o = fkHello → (t.link sl.val).obeys = false ∧
        (t.link sl.val).heard = if (s.link sl.val).obeys then 1 else (s.link sl.val).heard + 1) ∧
      t.slState sl.val = s.slState sl.val ∧ others s t sl.val) ∧
  (∀ (s : State) (sl : Fin 16) (line : BitVec 625) (c : Nat), comes s sl.val line → (downOut s sl.val line).accepted = true →
    kind (downOut s sl.val line) = fkData → 2 ≤ (s.link sl.val).heard → c < 32 →
    Yields (.sliceLinkFrameReceived sl true line) s fun t =>
      let f := (downOut s sl.val line).frame
      (bit (frameHeader f) 12 = true → nget 0 (t.link sl.val).copy (bits (frameHeader f) 11 0) =
        BitVec.ofNat 64 (bits (framePayload f) 543 480)) ∧
      ((s.link sl.val).obeys = true → s.override sl.val = .none →
        (sl.val < 6 → aIsOut (s.aMode (32 * sl.val + c)) = true → s.aHeldOff (32 * sl.val + c) = false →
          (t.achan (32 * sl.val + c)).stage = ⟨true, bits (framePayload f) (15 * c + 14) (15 * c)⟩) ∧
        (6 ≤ sl.val → dIsOut (s.dMode (32 * (sl.val - 6) + c)) = true → s.dHeldOff (32 * (sl.val - 6) + c) = false →
          (t.dchan (32 * (sl.val - 6) + c)).stage = ⟨true, b2n (bit (framePayload f) c)⟩)) ∧ t.image = s.image) ∧
  (∀ (s : State) (sl : Fin 16), s.slState sl.val ≠ slOff →
    let x := ((s.slSend sl.val).link sl.val).sent.headD ⟨0, 0⟩
    (s.slSend sl.val).slLine sl.val = some (mkFrame x.header x.payload) ∧
    bits x.header 15 14 = slKind (s.slState sl.val) ∧ bit x.header 13 = (s.link sl.val).ack) ∧
  (∀ (s : State) (sl : Fin 16), s.slState sl.val = slOff ∨ s.slState sl.val = slRun → Yields (.sliceLinkRunTimeout sl) s fun t => t = s) ∧
  (∀ (s : State) (sl : Fin 16), s.slState sl.val ≠ slOff → s.slState sl.val ≠ slRun → Yields (.sliceLinkRunTimeout sl) s fun t =>
    t.link sl.val = { s.link sl.val with late := true } ∧ t.slState sl.val = s.slState sl.val ∧ others s t sl.val ∧
    (s.phase ≠ .starting → State.Logged (s.setLink sl.val { s.link sl.val with late := true }) t)) ∧
  (∀ (s : State) (sl : Fin 16), s.slState sl.val ≠ slOff → s.slState sl.val ≠ slRun → s.slUsed sl.val = true →
    Yields (.linkOutsideRunTimeout sl) s fun t => t = s.setLink sl.val { s.link sl.val with late := true }) ∧
  (∀ (s : State) (sl : Fin 16), s.slState sl.val = slOff ∨ s.slState sl.val = slRun ∨ s.slUsed sl.val = false →
    Yields (.linkOutsideRunTimeout sl) s fun t => t = s)

/-- The eight PTP commands from PTP_SYNC_RECEIVED to PTP_INTERVAL: what each does to ports and bases, and what it leaves alone
(R286, R287, R288, R289, R290, R309). -/
def Obligations.PtpMessagesAndBases : Prop :=
  let good (s : State) (p v mi dom : Nat) (needs : Bool) : Prop := s.portUp p = true ∧ s.ptpRefused p v mi dom needs = false
  let refused (s : State) (p v mi dom : Nat) (needs : Bool) (t : State) : Prop := s.portUp p = true ∧
    s.ptpRefused p v mi dom needs = true → t.fld F.DOM_COUNTS_1_REFUSED (p / 2) = min (s.fld F.DOM_COUNTS_1_REFUSED (p / 2) + 1) 0xFFFF ∧
      State.OnlyWords [R.DOM_COUNTS_1.addr (p / 2) 0] s t
  let other (p : Nat) : Nat := if p % 2 = 0 then p + 1 else p - 1
  let relayed (s : State) (m : SyncMsg) : State :=
    if s.forwards m.port.val m.from_ 0 then
      s.emit ⟨[other m.port.val], 0x100, 2, 0, 0, 0, s.addr, dstKind, m.seq, ptpMessage 0 (s.fld F.DOM_CFG_DOMAIN (m.port.val / 2))
        m.twoStep (m.correction + (m.residence : Int) + rxLat m.port.val + txLat (other m.port.val) + s.pdelay m.port.val +
          s.asym m.port.val) m.source m.seq (ptpTime m.origin), 0⟩
    else s
  let slave (s : State) (p : Nat) : Prop := (s.base (p / 2)).gm.map (·.2) = some p
  let adj (s : State) (m : SyncMsg) : Int :=
    m.correction + s.pdelay m.port.val + s.asym m.port.val - (m.ingress - rxLat m.port.val)
  (∀ (s : State) (m : SyncMsg), (s.portUp m.port.val = false → Yields (.ptpSyncReceived m) s fun t => t = s) ∧
    Yields (.ptpSyncReceived m) s fun t => refused s m.port.val m.version m.minor m.domain true t) ∧
  (∀ (s : State) (m : SyncMsg), good s m.port.val m.version m.minor m.domain true → 1000000000 < m.correction →
    Yields (.ptpSyncReceived m) s fun t =>
      t.fld F.DOM_COUNTS_1_REFUSED (m.port.val / 2) = min (s.fld F.DOM_COUNTS_1_REFUSED (m.port.val / 2) + 1) 0xFFFF ∧
      State.OnlyWords [R.DOM_COUNTS_1.addr (m.port.val / 2) 0] s t) ∧
  (∀ (s : State) (m : SyncMsg), good s m.port.val m.version m.minor m.domain true → m.correction ≤ 1000000000 →
    Yields (.ptpSyncReceived m) s fun t =>
      let d := m.port.val / 2
      (¬ slave s m.port.val → t = relayed s m) ∧
      (slave s m.port.val → m.twoStep = true → t = (relayed s m).setBase d
        { s.base d with twoStep := some (m.port.val, m.seq, m.source, adj s m) }) ∧
      (slave s m.port.val → m.twoStep = false → t = (relayed s m).measure d (m.origin + adj s m))) ∧
  (∀ (s : State) (m : FollowUpMsg), (s.portUp m.port.val = false → Yields (.ptpFollowUpReceived m) s fun t => t = s) ∧
    Yields (.ptpFollowUpReceived m) s fun t => refused s m.port.val m.version m.minor m.domain true t) ∧
  (∀ (s : State) (m : FollowUpMsg), good s m.port.val m.version m.minor m.domain true → m.correction ≤ 1000000000 →
    Yields (.ptpFollowUpReceived m) s fun t =>
      let d := m.port.val / 2
      t = match (s.base d).twoStep with
        | some (q, seq, src, a) =>
          if q = m.port.val ∧ seq = m.seq ∧ src = m.source then
            (s.setBase d { s.base d with twoStep := none }).measure d (m.origin + m.correction + a)
          else s
        | none => s) ∧
  (∀ (s : State) (d : Nat) (off : Int), d < 2 →
    let b := s.base d
    let t := s.measure d off
    let far := (off - b.off).natAbs
    (s.bState d ≠ bsAcquiring → s.bState d ≠ bsLocked → t = s) ∧
    (s.bState d = bsAcquiring → b.stepped = false →
      t = s.setBase d { b with off := off, stepped := true, good := 1, outliers := 0 }) ∧
    (s.bState d = bsAcquiring → b.stepped = true → far ≤ 100 → (t.base d).off = off ∧ (t.base d).good = b.good + 1 ∧
      t.bState d = (if 7 ≤ b.good then bsLocked else bsAcquiring)) ∧
    (s.bState d = bsAcquiring → b.stepped = true → 100 < far → far ≤ 1000 →
      t = s.setBase d { b with off := off, good := 0, outliers := 0 }) ∧
    (s.bState d = bsLocked → far ≤ 1000 → t = s.setBase d { b with off := off, outliers := 0 }) ∧
    ((s.bState d = bsLocked ∨ (s.bState d = bsAcquiring ∧ b.stepped = true)) → 1000 < far →
      t.fld F.DOM_COUNTS_0_OUTLIERS d = min (s.fld F.DOM_COUNTS_0_OUTLIERS d + 1) 0xFFFF ∧ (t.base d).off = b.off ∧
      (if 2 ≤ b.outliers then t.bState d = bsFree else t.bState d = s.bState d ∧ (t.base d).outliers = b.outliers + 1 ∧
        (t.base d).good = 0)) ∧
    t.base (1 - d) = s.base (1 - d) ∧ t.bState (1 - d) = s.bState (1 - d) ∧ t.image = s.image ∧ t.tillMem = s.tillMem) ∧
  (∀ (s : State) (m : AnnounceMsg), (s.portUp m.port.val = false → Yields (.ptpAnnounceReceived m) s fun t => t = s) ∧
    Yields (.ptpAnnounceReceived m) s fun t => refused s m.port.val m.version m.minor m.domain true t) ∧
  (∀ (s : State) (m : AnnounceMsg), good s m.port.val m.version m.minor m.domain true → Yields (.ptpAnnounceReceived m) s fun t =>
      let d := m.port.val / 2
      let heard := (s.base d).foreign.filter fun f => s.tick < f.at_ + 3000000
      let mine (f : Foreign) : Bool := f.gm == m.gm && f.port == m.port.val
      let f : Foreign := ⟨m.gm, m.port.val, [m.priority1, m.clockClass, m.accuracy, m.variance, m.priority2], m.steps,
        (match heard.find? mine with | some x => x.n + 1 | none => 1), s.tick⟩
      t = (s.setBase d { s.base d with foreign := heard.filter (fun x => !mine x) ++ [f] }).elect d) ∧
  (∀ (s : State) (d : Nat), d < 2 →
    (s.bestClock d = none → s.elect d = s) ∧
    (∀ f, s.bestClock d = some f → ((s.elect d).base d).gm = (if f.port = 4 ∧ s.bState d = bsMaster then (s.base d).gm
        else some (f.gm, f.port)) ∧
      (s.elect d).bState d = (if f.port = 4 then bsMaster
        else if s.bState d = bsFree ∨ s.bState d = bsMaster then bsAcquiring else s.bState d) ∧
      (s.elect d).reg64 R.DOM_GM_ID d = f.gm % 2 ^ 64) ∧
    (s.elect d).base (1 - d) = s.base (1 - d) ∧ (s.elect d).bState (1 - d) = s.bState (1 - d) ∧ (s.elect d).image = s.image ∧
    (s.elect d).tillMem = s.tillMem) ∧
  (∀ (s : State) (p : Fin 2), (s.base p.val).gm = none → Yields (.announceReceiptTimeout p) s fun t => t = s.elect p.val) ∧
  (∀ (s : State) (p : Fin 2) (g : Nat), (s.base p.val).gm = some (g, 4) → Yields (.announceReceiptTimeout p) s fun t => t = s) ∧
  (∀ (s : State) (p : Fin 2) (g q : Nat), (s.base p.val).gm = some (g, q) →
    ((s.base p.val).foreign.any fun f => f.gm == g && f.port == q && decide (s.tick < f.at_ + 3000000)) = true →
    Yields (.announceReceiptTimeout p) s fun t => t = s) ∧
  (∀ (s : State) (p : Fin 2) (g q : Nat), (s.base p.val).gm = some (g, q) → q ≠ 4 →
    ((s.base p.val).foreign.any fun f => f.gm == g && f.port == q && decide (s.tick < f.at_ + 3000000)) = false →
    Yields (.announceReceiptTimeout p) s fun t =>
      t.base (1 - p.val) = s.base (1 - p.val) ∧ t.image = s.image ∧
      (∀ f ∈ (t.base p.val).foreign, f.gm ≠ g ∧ f ∈ (s.base p.val).foreign) ∧
      (s.flag F.DOM_CFG_GM_EN p.val = false → (∀ f ∈ (s.base p.val).foreign, f.gm = g) →
        t.bState p.val = bsFree ∧ (t.base p.val).gm = none ∧ (t.base p.val).lockedAt = none)) ∧
  (∀ (s : State) (m : PdelayReqMsg), (s.portUp m.port.val = false → Yields (.ptpPdelayReqReceived m) s fun t => t = s) ∧
    Yields (.ptpPdelayReqReceived m) s fun t => refused s m.port.val m.version m.minor m.domain false t) ∧
  (∀ (s : State) (m : PdelayReqMsg), good s m.port.val m.version m.minor m.domain false → Yields (.ptpPdelayReqReceived m) s fun t =>
      t.out = s.out ++ [⟨[m.port.val], 0x103, 2, 0, 0, 0, s.addr, dstKind, m.seq, ptpMessage 3 (s.fld F.DOM_CFG_DOMAIN (m.port.val / 2))
        false 0 (ptpPortId m.port.val) m.seq (ptpTime (m.ingress - rxLat m.port.val) ++ bytesBE 10 m.source), 0⟩] ∧
      State.OnlyWords [R.PORT_TX.addr m.port.val 0] { s with out := t.out } t) ∧
  (∀ (s : State) (m : PdelayRespMsg), (s.portUp m.port.val = false → Yields (.ptpPdelayRespReceived m) s fun t => t = s) ∧
    Yields (.ptpPdelayRespReceived m) s fun t => refused s m.port.val m.version m.minor m.domain false t) ∧
  (∀ (s : State) (m : PdelayRespMsg), good s m.port.val m.version m.minor m.domain false → Yields (.ptpPdelayRespReceived m) s fun t =>
      let p := m.port.val
      let x := s.ptp p
      let delay : Int := ((m.ingress - rxLat p) - (m.sent + txLat p) - m.turn) / 2
      if x.waiting ≠ some m.seq then t = s
      else if 0 ≤ delay ∧ delay ≤ 10000 then
        t.ptp p = { x with waiting := none, delays := (delay :: x.delays).take 5, timeouts := 0, accepted := x.accepted + 1 } ∧
        t.reg R.PORT_PDELAY p = (medianInt ((delay :: x.delays).take 5)).toNat % 2 ^ 32 ∧
        t.asCapable p = (s.asCapable p || decide (2 ≤ x.accepted)) ∧
        State.OnlyWords [R.PORT_PDELAY.addr p 0, R.PORT_PTP.addr p 0] { s with time.ports := t.time.ports } t
      else t.ptp p = { x with waiting := none, timeouts := 0, accepted := 0 } ∧
        State.OnlyWords [R.PORT_COUNTS.addr p 0] { s with time.ports := t.time.ports } t) ∧
  (∀ (s : State) (p : Fin 4), ((s.ptp p.val).waiting = none ∨ s.tick < (s.ptp p.val).askedAt + 100000) →
    Yields (.pdelayTimeout p) s fun t => t = s) ∧
  (∀ (s : State) (p : Fin 4), (s.ptp p.val).waiting.isSome = true → (s.ptp p.val).askedAt + 100000 ≤ s.tick → Yields (.pdelayTimeout p) s fun t =>
    t.ptp p.val = { s.ptp p.val with waiting := none, timeouts := (s.ptp p.val).timeouts + 1, accepted := 0 } ∧
    t.fld F.PORT_COUNTS_PDELAY_TIMEOUTS p.val = min (s.fld F.PORT_COUNTS_PDELAY_TIMEOUTS p.val + 1) 0xFFFF ∧
    t.asCapable p.val = (s.asCapable p.val && decide ((s.ptp p.val).timeouts < 2)) ∧
    State.OnlyWords [R.PORT_COUNTS.addr p.val 0, R.PORT_PTP.addr p.val 0] { s with time.ports := t.time.ports } t) ∧
  (∀ s : State, Yields .ptpInterval s fun t =>
    (∀ p < 4, s.portUp p = true → t.ptp p = { s.ptp p with waiting := some (s.ptp p).seq, seq := ((s.ptp p).seq + 1) % 65536, askedAt := s.tick }) ∧
    (∀ p < 4, s.portUp p = false → t.ptp p = s.ptp p) ∧ t.time.syncSeq = (s.time.syncSeq + 1) % 65536 ∧
    t.out.take s.out.length = s.out ∧
    (t.out.drop s.out.length).map (fun f => (f.ports, f.kind)) =
      ((List.range 4).filter s.portUp).map (fun p => ([p], 0x102)) ++
      [0, 1].flatMap (fun d => if s.bState d = bsMaster then (s.planePorts d).flatMap fun p => [([p], 0x100), ([p], 0x10B)] else []) ∧
    State.OnlyWords ((List.range 4).map fun p => R.PORT_TX.addr p 0) { s with out := t.out, time := t.time } t)

/-- TS_REVERT, TS_SLEW_COMPLETE, HOLDOVER_LIMIT, AB_OFFSET_ALARM and TIME_SET_WRITE: what each does to TS and what it leaves alone
(R8, R75, R292, R293, R295, R296, R297, R300). -/
def Obligations.TsSelectionAndSetting : Prop :=
  (∀ s : State, s.revertDue = true → Yields .tsRevert s fun t =>
    t.fld F.TIME_STATUS_SOURCE = s.fld F.TIME_CFG_SEL_PREF ∧ t.tsState = tsLocked ∧ t.tsValid = true ∧
    t.time.tsOff = s.time.tsOff ∧ t.time.following = true ∧ t.image = s.image) ∧
  (∀ s : State, s.revertDue = false → Yields .tsRevert s fun t => t = s) ∧
  (∀ s : State, s.time.following = true → s.tsValid = true → s.tsState = tsHoldover → s.revertDue = false →
    s.bLocked (s.fld F.TIME_STATUS_SOURCE) = true → (s.domOffset (s.fld F.TIME_STATUS_SOURCE)).natAbs ≤ 50 →
    Yields .tsSlewComplete s fun t => t.tsState = tsLocked ∧ t.tsValid = true ∧ t.flag F.TIME_STATUS_HOLDOVER = false ∧
      t.flag F.TIME_STATUS_SLEWING = false ∧ t.time.holdTick = none ∧ t.time.tsOff = s.time.tsOff ∧ t.image = s.image) ∧
  (∀ s : State, s.time.following = false ∨ 50 < (s.domOffset (s.fld F.TIME_STATUS_SOURCE)).natAbs →
    Yields .tsSlewComplete s fun t => t = s) ∧
  (∀ s : State, s.time.following = true → s.tsValid = true → s.tsState ≠ tsHoldover → s.revertDue = false →
    s.bLocked (s.fld F.TIME_STATUS_SOURCE) = true → (s.domOffset (s.fld F.TIME_STATUS_SOURCE)).natAbs ≤ 50 →
    Yields .tsSlewComplete s fun t => t.flag F.TIME_STATUS_SLEWING = false ∧ State.OnlyWords [R.TIME_STATUS.base] s t ∧
      t.tsState = s.tsState ∧ t.tsValid = s.tsValid) ∧
  (∀ s : State, s.tsState = tsHoldover → 1000 * s.fld F.TIME_CFG_HOLD_LIMIT_S ≤ s.holdMs → Yields .holdoverLimit s fun t =>
    t.tsState = tsExpired ∧ t.tsValid = false ∧ t.flag F.TIME_STATUS_HOLDOVER = true ∧ t.time.following = false ∧
    t.time.tsOff = s.time.tsOff ∧ t.image = s.image) ∧
  (∀ s : State, s.tsState ≠ tsHoldover ∨ s.holdMs < 1000 * s.fld F.TIME_CFG_HOLD_LIMIT_S →
    Yields .holdoverLimit s fun t => t = s) ∧
  (∀ s : State, Yields .abOffsetAlarm s fun t => State.Logged s t ∧
    ((s.bLocked 0 && s.bLocked 1 && decide (50 < ((s.base 0).off - (s.base 1).off).natAbs)) = false → t = s) ∧
    (s.time.abSince.all (fun t0 => decide (s.tick < t0 + 10000000)) = true → t = s)) ∧
  (∀ (s : State) (n : Fin 8) (v : W32), s.granted n.val (R.TIME_SET.addr 0 0) R.TIME_SET 0 = true →
    (s.tsState = tsUnset ∨ s.tsState = tsExpired) → Yields (.timeSetWrite n 0 v) s fun t =>
      t.heldAt n.val (R.TIME_SET.addr 0 0) = some v ∧ t.regs = s.regs ∧ t.mgmt.effects = s.mgmt.effects ∧ t.mgmt.status = 0) ∧
  (∀ (s : State) (n : Fin 8) (v : W32), s.granted n.val (R.TIME_SET.addr 0 1) R.TIME_SET 0 = true →
    (s.tsState = tsUnset ∨ s.tsState = tsExpired) → Yields (.timeSetWrite n 1 v) s fun t =>
      (s.heldAt n.val (R.TIME_SET.addr 0 0) = none → s.Answered 0x0C t) ∧
      (∀ lo : W32, s.heldAt n.val (R.TIME_SET.addr 0 0) = some lo →
        if rangeOk64 R.TIME_SET (joinHalves lo v) = true then
          t.mgmt.effects = s.mgmt.effects ++ [.pair (R.TIME_SET.addr 0 0) (joinHalves lo v)] ∧ t.mgmt.status = 0 ∧ t.regs = s.regs ∧
          t.heldAt n.val (R.TIME_SET.addr 0 0) = none
        else s.Answered 9 t)) ∧
  (∀ (s : State) (n : Fin 8) (h : Fin 2) (v : W32), s.granted n.val (R.TIME_SET.addr 0 h.val) R.TIME_SET 0 = true →
    s.tsState ≠ tsUnset → s.tsState ≠ tsExpired → Yields (.timeSetWrite n h v) s (s.Answered 8)) ∧
  (∀ (s : State) (v : W64), s.Takes (.pair (R.TIME_SET.addr 0 0) v) fun t => t.reg64 R.TIME_SET = v.toNat ∧
    t.time = { s.time with preset := true })

/-- Transceivers, port link up and down, supervision, segment timeout, forwarding, ANNOUNCE_SEND, HEARTBEAT_FLAG_CHANGE: what each
does and leaves alone (R303, R306, R307, R308, R309, R313, R315). -/
def Obligations.PortsAndSegments : Prop :=
  let members (s : State) (plane a : Nat) : Option SegMember := nget none s.net.members (4096 * plane + a)
  let tx : List Nat := [R.PORT_TX.addr 0 0, R.PORT_TX.addr 1 0, R.PORT_TX.addr 2 0, R.PORT_TX.addr 3 0]
  let other (p : Nat) : Nat := if p % 2 = 0 then p + 1 else p - 1
  let settles (p : Nat) (s t : State) : Prop :=
    t = { s with regs := t.regs, vault := t.vault, out := t.out, pair := { s.pair with seqNr := t.pair.seqNr },
                 net := { s.net with seqNr := t.net.seqNr, flags := t.net.flags, members := t.net.members,
                                      supervised := t.net.supervised } } ∧
    State.Keeps ([R.PORT_STATUS.addr p 0, R.PORT_RX.addr p 0, R.PORT_FWD.addr (other p) 0, R.NET_SEG.addr 0 (p / 2)] ++ tx ++ eventWords) s t
  let same (p : Nat) (s t : State) : Prop := s.portUp p = false → t = s
  let whole_ (s : State) (f : Frame) : Prop := s.malformed f nkSupervision = false ∧ f.body.length = 8 ∧ bits (leAt f.body 0 8) 63 21 = 0
  let met (s : State) (f : Frame) (t : State) : Prop := s.portUp f.port.val = true → whole_ s f → s.fromStation f = true → t = s.meetStation
  (∀ (s : State) (p : Fin 4), Yields (.transceiverInserted p) s fun t => t.fld F.PORT_STATUS_XCVR p.val = 0 ∧
    t.portUp p.val = s.portUp p.val ∧ t.portRole p.val = s.portRole p.val ∧ State.OnlyWords [R.PORT_STATUS.addr p.val 0] s t) ∧
  (∀ (s : State) (p : Fin 4), Yields (.transceiverRemoved p) s fun t => t.fld F.PORT_STATUS_XCVR p.val = 0 ∧
    t.portUp p.val = s.portUp p.val ∧ t.portRole p.val = s.portRole p.val ∧ State.OnlyWords [R.PORT_STATUS.addr p.val 0] s t) ∧
  (∀ (s : State) (p : Fin 4) (id : XcvrId), Yields (.transceiverIdRead p id) s fun t =>
    let good := id.readable ∧ (id.sr ∨ id.lr) ∧ id.powerMw ≤ 1500
    (s.portOn p.val = false → t = s) ∧
    (s.portOn p.val = true → t.fld F.PORT_STATUS_XCVR p.val = (if good then (if id.sr then 1 else 2) else 3) ∧
      t.portUp p.val = s.portUp p.val ∧ t.portRole p.val = s.portRole p.val ∧
      t = (if good then s.setFld F.PORT_STATUS_XCVR (if id.sr then 1 else 2) p.val
        else (s.setFld F.PORT_STATUS_XCVR 3 p.val).ev 0x0D03 [.b8 p.val]))) ∧
  (∀ (s : State) (p : Fin 4), Yields (.portLinkUp p) s fun t =>
    let rises := s.portOn p.val = true ∧ s.portUp p.val = false ∧
      (s.fld F.PORT_STATUS_XCVR p.val = 1 ∨ s.fld F.PORT_STATUS_XCVR p.val = 2)
    (¬ rises → t = s) ∧
    (rises → t.portUp p.val = true ∧ t.portRole p.val = prInner ∧ nget (0, false) t.net.supervised p.val = (s.tick, false) ∧ t.fld F.PORT_STATUS_NEIGHBOUR p.val = 0 ∧
      (t.out.drop s.out.length).getLast?.map (fun f => (f.kind, f.dst)) = some (nkAnnounce, dstKind) ∧ settles p.val s t)) ∧
  (∀ (s : State) (p : Fin 4), Yields (.portLinkDown p) s fun t => same p.val s t ∧
    (s.portUp p.val = true → t.portUp p.val = false ∧ t.portRole p.val = prDown ∧ t.fld F.PORT_STATUS_NEIGHBOUR p.val = 0 ∧
      settles p.val s t)) ∧
  (∀ s : State, Yields .supervisionSend s fun t =>
    let inner (plane : Nat) : List Nat := [2 * plane, 2 * plane + 1].filter fun p => s.portUp p && s.portRole p == prInner
    let word (plane : Nat) : Nat := 7 + s.fld F.NET_SEG_EXIT 0 plane * 2 ^ 8 + b2n (s.isEnd plane) * 2 ^ 20
    let from_ (plane a : Nat) : Sent :=
      ⟨inner plane, nkSupervision, 1, 0, 0, s.srcInst a, a, dstKind, 0, bytesOf64 [BitVec.ofNat 64 (word plane)], 0⟩
    let sent (plane : Nat) : List Sent := if inner plane = [] then [] else
      if s.asStation then [from_ plane s.addr, from_ plane s.station] else [from_ plane s.addr]
    t.out = s.out ++ sent 0 ++ sent 1 ∧ t = { s with regs := t.regs, out := t.out } ∧ State.Keeps tx s t ∧
    (∀ p < 4, t.reg R.PORT_TX p = (if s.portUp p = true ∧ s.portRole p = prInner then
      min (s.reg R.PORT_TX p + (if s.asStation then 2 else 1)) 0xFFFFFFFF else s.reg R.PORT_TX p))) ∧
  (∀ (s : State) (f : Frame), (f.port.val = 4 ∨ s.portUp f.port.val = false) → Yields (.supervisionReceived f) s fun t => t = s) ∧
  (∀ (s : State) (f : Frame), f.port.val < 4 → Yields (.supervisionReceived f) s fun t => met s f t) ∧
  (∀ (s : State) (f : Frame), f.port.val < 4 → s.portUp f.port.val = true → whole_ s f → s.fromStation f = false → f.source.toNat < 4096 → Yields (.supervisionReceived f) s fun t =>
      let w := leAt f.body 0 8
      let p := f.port.val
      let strange := f.hops = 0 ∧ bits w 2 0 = 0
      (strange → t.portRole p = prRefused ∧ t.net.members = s.net.members ∧ (s.portRole p = prRefused → t = s.bump (whole R.PORT_RX) p)) ∧
      (strange → s.portRole p ≠ prRefused → t.fld F.PORT_STATUS_NEIGHBOUR p = f.source.toNat) ∧
      (¬ strange → members t (p / 2) f.source.toNat = some ⟨s.tick, f.hops.toNat, bit w 20, bits w 19 8⟩) ∧
      (¬ strange → f.hops = 0 → t.portRole p = prInner ∧ t.fld F.PORT_STATUS_NEIGHBOUR p = f.source.toNat) ∧
      (¬ strange → f.hops ≠ 0 → t.portRole p = (if s.portRole p = prUplink then prInner else s.portRole p) ∧
        t.fld F.PORT_STATUS_NEIGHBOUR p = (if s.portRole p = prUplink then 0 else s.fld F.PORT_STATUS_NEIGHBOUR p)) ∧
      (¬ strange → (nget (0, false) t.net.supervised p).1 = s.tick) ∧
      (let on := ¬ strange ∧ t.portRole (other p) ≠ prUplink ∧ t.forwards p f.source.toNat 0 = true
       t.reg R.PORT_FWD (other p) = (if on then min (s.reg R.PORT_FWD (other p) + 1) 0xFFFFFFFF else s.reg R.PORT_FWD (other p)) ∧
       (on → t.out.getLast? = some ⟨[other p], nkSupervision, f.version.toNat, f.flags.toNat, f.hops.toNat + 1, f.inst.toNat,
         f.source.toNat, dstKind, 0, f.body, 0⟩)) ∧
      (∀ k < 8192, k ≠ 4096 * (p / 2) + f.source.toNat → nget none t.net.members k = nget none s.net.members k) ∧
      t.reg R.PORT_RX p = min (s.reg R.PORT_RX p + 1) 0xFFFFFFFF ∧ settles p s t) ∧
  (∀ (s : State) (f : Frame), f.port.val < 4 → s.portUp f.port.val = true →
    (s.malformed f nkSupervision = true ∨ f.body.length ≠ 8 ∨ bits (leAt f.body 0 8) 63 21 ≠ 0) → Yields (.supervisionReceived f) s fun t =>
      t.fld F.NET_DROPS_1_MALFORMED = min (s.fld F.NET_DROPS_1_MALFORMED + 1) 0xFFFF ∧
      t.fld F.PORT_ERR_FCS f.port.val = (if f.fcs then s.fld F.PORT_ERR_FCS f.port.val else min (s.fld F.PORT_ERR_FCS f.port.val + 1) 0xFFFF) ∧
      State.OnlyWords [R.NET_DROPS_1.base, R.PORT_ERR.addr f.port.val 0] s t) ∧
  (∀ (s : State) (p : Fin 4) (a : BitVec 12), Yields (.segmentTimeout p (some a)) s fun t =>
    if (members s (p.val / 2) a.toNat).all (fun m => decide (s.tick < m.last + 3000)) then t = s else members t (p.val / 2) a.toNat = none ∧ t.portRole p.val = s.portRole p.val ∧
    (∀ k < 8192, k ≠ 4096 * (p.val / 2) + a.toNat → nget none t.net.members k = nget none s.net.members k) ∧ settles p.val s t) ∧
  (∀ (s : State) (p : Fin 4), Yields (.segmentTimeout p none) s fun t =>
    let inner := s.portUp p.val = true ∧ s.portRole p.val = prInner ∧ (nget (0, false) s.net.supervised p.val).1 + 3000 ≤ s.tick
    (¬ inner → t = s) ∧
    (inner → t.portRole p.val = prUplink ∧ t.fld F.PORT_STATUS_NEIGHBOUR p.val = 0 ∧ t.net.members = s.net.members ∧ settles p.val s t)) ∧
  (∀ (s : State) (plane : Nat), plane < 2 →
    let t := s.segUpdate plane
    let ex := (s.chooseExit plane).getD (0, 0xFF)
    (s.isEnd plane = true → ex = (s.addr, 0)) ∧
    (ex.1 < 4096 → t.fld F.NET_SEG_EXIT 0 plane = ex.1 ∧ t.fld F.NET_SEG_EXIT_HOPS 0 plane = min ex.2 0xFF) ∧
    (ex.1 ≠ s.fld F.NET_SEG_EXIT 0 plane → (t.out.drop s.out.length).getLast?.map (·.kind) = some nkAnnounce) ∧
    (ex.1 = s.fld F.NET_SEG_EXIT 0 plane → State.OnlyWords [R.NET_SEG.addr 0 plane] s t)) ∧
  (∀ (s : State) (p : Fin 4) (a b : BitVec 12) (fcs : Bool) (len : Nat), Yields (.frameForward p a b fcs len) s fun t =>
      let q := other p.val
      let taken := s.portUp p.val = true ∧ s.portRole p.val ≠ prRefused
      let chosen := (members s (p.val / 2) a.toNat).map (·.exit) = some s.addr
      let stop := (b ≠ 0 ∧ s.isOwn b.toNat = true) ∨ s.isOwn a.toNat = true ∨ s.portUp q = false ∨ s.portRole q = prRefused ∨
        (s.portRole q = prUplink ∧ ¬ chosen) ∨ (s.portRole p.val = prUplink ∧ (members s (p.val / 2) a.toNat).isSome = true)
      (¬ taken → t = s) ∧
      (taken → t.reg R.PORT_FWD q = (if stop then s.reg R.PORT_FWD q else min (s.reg R.PORT_FWD q + 1) 0xFFFFFFFF) ∧
        t.reg R.PORT_RX p.val = (if b = 0 then s.reg R.PORT_RX p.val else min (s.reg R.PORT_RX p.val + 1) 0xFFFFFFFF) ∧
        t.fld F.PORT_ERR_FCS p.val = (if fcs then s.fld F.PORT_ERR_FCS p.val else min (s.fld F.PORT_ERR_FCS p.val + 1) 0xFFFF) ∧
        t.fld F.PORT_ERR_SIZE p.val = (if len < 64 ∨ 8252 < len then min (s.fld F.PORT_ERR_SIZE p.val + 1) 0xFFFF
          else s.fld F.PORT_ERR_SIZE p.val) ∧
        State.OnlyWords [R.PORT_RX.addr p.val 0, R.PORT_ERR.addr p.val 0, R.PORT_FWD.addr q 0] s t)) ∧
  (∀ s : State, Yields .announceSend s fun t =>
    let from_ (a seq : Nat) : Sent := ⟨s.sendPorts, nkAnnounce, 1, 0, 0, s.srcInst a, a, dstKind, seq,
      bytesOf64 [BitVec.ofNat 64 (0x4207 + s.heartbeatFlags * 2 ^ 16)], 0⟩
    (s.asStation = false → t.out = s.out ++ [from_ s.addr s.net.seqNr] ∧ t.pair = s.pair) ∧
    (s.asStation = true → s.addr ≠ s.station → t.out = s.out ++ [from_ s.addr s.net.seqNr, from_ s.station s.pair.seqNr] ∧
      t.pair = { s.pair with seqNr := (s.pair.seqNr + 1) % 65536 }) ∧
    (s.asStation = false ∨ s.addr ≠ s.station →
      t.net = { s.net with flags := s.heartbeatFlags, seqNr := (s.net.seqNr + 1) % 65536 }) ∧
    t = { s with regs := t.regs, out := t.out, net := t.net, pair := t.pair } ∧ State.Keeps tx s t) ∧
  (∀ s : State, Yields .heartbeatFlagChange s fun t =>
    if s.heartbeatFlags = s.net.flags then t = s
    else t = s.announce ∧ t.net.flags = s.heartbeatFlags ∧ t.out.length = s.out.length + (if s.asStation then 2 else 1))

/-- ANNOUNCE_RECEIVED, PEER_LOST, PUBLICATION_SEND, PUBLICATION_RECEIVED (R312, R313, R314, R316, R317, R318). -/
def Obligations.PeersAndPublications : Prop :=
  let open_ (s : State) (f : Frame) (kind : Nat) : Prop := f.port.val < 4 ∧ s.portUp f.port.val = true ∧
    s.portRole f.port.val ≠ prRefused ∧ s.malformed f kind = false ∧ s.fromStation f = false
  let said (f : Frame) : Prop := f.body.length = 8 ∧ bits (leAt f.body 0 8) 63 22 = 0
  let tells (f : Frame) : Prop := let w0 := leAt f.body 0 8
    f.body.length = 8 * (1 + 3 * bits w0 31 23) ∧ bits w0 22 8 = 0 ∧ 1 ≤ bits w0 31 23 ∧ bits w0 31 23 ≤ 256 ∧
    (∀ i < bits w0 31 23, bits (leAt f.body (8 + 24 * i) 8) 63 40 = 0 ∧ bits (leAt f.body (8 + 24 * i) 8) 31 17 = 0)
  let unseen (s : State) (f : Frame) : Prop := nget (0, 0) s.net.seen (65536 * f.source.toNat + f.seqNr.toNat) = (0, 0)
  let shut (s : State) (f : Frame) : Prop := s.portUp f.port.val = false ∨ s.portRole f.port.val = prRefused
  let rx (f : Frame) : List Nat := [R.PORT_RX.addr f.port.val 0]
  let tx : List Nat := [R.PORT_TX.addr 0 0, R.PORT_TX.addr 1 0, R.PORT_TX.addr 2 0, R.PORT_TX.addr 3 0]
  let counted (s : State) (f : Frame) (fl : Fld) (t : State) : Prop :=
    t.fld fl = min (s.fld fl + 1) 0xFFFF ∧ t = { s with regs := t.regs, net := { s.net with seen := t.net.seen } } ∧
    State.Keeps (rx f ++ [fl.reg.base, R.PORT_ERR.addr f.port.val 0]) s t
  (∀ (s : State) (f : Frame), open_ s f nkAnnounce → said f → unseen s f → Yields (.announceReceived f) s fun t =>
    let w := leAt f.body 0 8
    let p := t.peer f.source.toNat
    p.state = (if bits w 2 0 = 0 then 2 else 1) ∧
    p.version = (if bit w 2 then 3 else if bit w 1 then 2 else if bit w 0 then 1 else 0) ∧
    p.flags = bits w 23 16 ∧ p.inst = f.inst.toNat ∧
    (if f.port.val / 2 = 0 then p.heardA else p.heardB) = some s.tick ∧
    (if f.port.val / 2 = 0 then p.heardB else p.heardA) = (if f.port.val / 2 = 0 then (s.peer f.source.toNat).heardB else
      (s.peer f.source.toNat).heardA) ∧ t.image = s.image ∧
    (∀ b < 4096, b ≠ f.source.toNat → t.peer b = s.peer b) ∧
    ((bits w 2 0 ≠ 0 ∨ (s.peer f.source.toNat).state = 2) →
      t = { s with regs := t.regs, net := { s.net with seen := t.net.seen, peers := t.net.peers } } ∧ State.Keeps (rx f) s t) ∧
    (bits w 2 0 = 0 → (s.peer f.source.toNat).state ≠ 2 →
      ∀ a < 8, ((t.queue a).any fun q => hPeer (q.item.headD 0) == f.source.toNat && q.admitted.isSome) = false)) ∧
  (∀ (s : State) (f : Frame) (t0 planes : Nat), open_ s f nkAnnounce → said f →
    nget (0, 0) s.net.seen (65536 * f.source.toNat + f.seqNr.toNat) = (t0, planes) → planes ≠ 0 → s.tick < t0 + 400000 →
    Yields (.announceReceived f) s fun t =>
      (t.peer f.source.toNat).state = (s.peer f.source.toNat).state ∧ (t.peer f.source.toNat).version = (s.peer f.source.toNat).version ∧
      (if f.port.val / 2 = 0 then (t.peer f.source.toNat).heardA else (t.peer f.source.toNat).heardB) = some s.tick ∧
      nget (0, 0) t.net.seen (65536 * f.source.toNat + f.seqNr.toNat) = (t0, planes ||| 2 ^ (f.port.val / 2)) ∧
      t = { s with regs := t.regs, net := { s.net with seen := t.net.seen, peers := t.net.peers } } ∧ State.Keeps (rx f) s t) ∧
  (∀ (s : State) (f : Frame), f.port.val < 4 → (s.malformed f nkAnnounce = true ∨ ¬ said f) →
    Yields (.announceReceived f) s fun t => if s.portUp f.port.val then counted s f F.NET_DROPS_1_MALFORMED t else t = s) ∧
  (∀ (s : State) (f : Frame), f.port.val < 4 → shut s f → s.malformed f nkAnnounce = false → said f →
    Yields (.announceReceived f) s fun t => t = s) ∧
  (∀ (s : State) (a : BitVec 12), Yields (.peerLost a) s fun t =>
    let silent (h : Option Nat) : Bool := h.all fun x => decide (x + 3000000 ≤ s.tick)
    (if ((s.peer a.toNat).state = 1 ∨ (s.peer a.toNat).state = 2) ∧ silent (s.peer a.toNat).heardA = true ∧
        silent (s.peer a.toNat).heardB = true then
      t.peer a.toNat = { s.peer a.toNat with state := 3 } ∧ State.Logged { s with net.peers := t.net.peers } t else t = s) ∧
    (∀ b < 4096, b ≠ a.toNat → t.peer b = s.peer b)) ∧
  (∀ (s : State) (n : Fin 256), s.flag F.PUB_CFG_EN n.val = true → s.acctState (s.fld F.PUB_OWNER_ACCOUNT n.val) = aRunning →
    s.gridPasses s.net.grid (s.fld F.PUB_PHASE_PHASE_US n.val) (s.fld F.PUB_PERIOD_PERIOD_US n.val) = true → Yields (.publicationSend n) s fun t =>
      let count := s.fld F.PUB_CFG_COUNT n.val
      let body := ((t.out.drop s.out.length).headD ⟨[], 0, 0, 0, 0, 0, 0, 0, 0, [], 0⟩).body
      let sig (i : Nat) : Nat := nget 0 s.net.pubList (s.fld F.PUB_CFG_FIRST n.val + i)
      t.reg R.PUB_SEQ n.val = (if nget false s.net.pubSent n.val then (s.reg R.PUB_SEQ n.val + 1) % 2 ^ 32 else 0) ∧
      nget false t.net.pubSent n.val = true ∧
      (t.out.drop s.out.length).map (fun f => (f.ports, f.kind, f.src, f.dst, f.inst)) =
        [(s.sendPorts, nkPublication, s.dataSrc, dstPub s.dataSrc, s.srcInst s.dataSrc)] ∧
      leAt body 0 8 = t.reg R.PUB_SEQ n.val * 2 ^ 32 + count * 2 ^ 23 + n.val ∧ body.length = 8 + 24 * count ∧
      (∀ i < count, leAt body (8 + 24 * i) 8 = ((s.sig (sig i)).quality.toNat * 2 ^ 32 + sig i) % 2 ^ 64 ∧
        leAt body (16 + 24 * i) 8 = (s.sig (sig i)).value.toNat ∧ leAt body (24 + 24 * i) 8 = (s.sig (sig i)).stamp.toNat) ∧
      t = { s with regs := t.regs, out := t.out, pair := { s.pair with seqNr := t.pair.seqNr },
                   net := { s.net with seqNr := t.net.seqNr, pubSent := t.net.pubSent } } ∧
      State.Keeps (R.PUB_SEQ.addr n.val 0 :: tx) s t) ∧
  (∀ (s : State) (n : Fin 256), (s.flag F.PUB_CFG_EN n.val = false ∨ s.acctState (s.fld F.PUB_OWNER_ACCOUNT n.val) ≠ aRunning ∨
    s.gridPasses s.net.grid (s.fld F.PUB_PHASE_PHASE_US n.val) (s.fld F.PUB_PERIOD_PERIOD_US n.val) = false) →
    Yields (.publicationSend n) s fun t => t = s) ∧
  (∀ (s : State) (f : Frame), open_ s f nkPublication → unseen s f → (s.peer f.source.toNat).state ≠ 2 →
    let w0 := leAt f.body 0 8
    let count := bits w0 31 23
    let rec_ (i : Nat) : Nat := leAt f.body (8 + 24 * i) 8
    let key := 256 * f.source.toNat + bits w0 7 0
    let prev := nget none s.net.pubIn key
    let newer := prev.all fun x => x.inst != f.inst.toNat ||
      (let d := (bits w0 63 32 + 2 ^ 32 - x.seq) % 2 ^ 32; d != 0 && decide (d < 2 ^ 31))
    let degr := prev.any fun x => let planes := (nget (0, 0) s.net.seen (65536 * f.source.toNat + x.seqNr)).2
      x.seqNr != f.seqNr.toNat && (planes == 1 || planes == 2)
    Yields (.publicationReceived f) s fun t =>
      (¬ tells f → counted s f F.NET_DROPS_1_MALFORMED t ∧ t.net = s.net) ∧
      (tells f → newer = false → counted s f F.NET_DROPS_0_SEQ_OLD t ∧ t.net.pubIn = s.net.pubIn) ∧
      (tells f → newer = true → prev.all (·.seqNr != f.seqNr.toNat) = true →
        (∀ j < count, ∀ i ∈ s.subsOf f.source.toNat (bits (rec_ j) 16 0), (⟨s.tick + 1, kNetSub, i,
          ⟨BitVec.ofNat 64 (leAt f.body (16 + 24 * j) 8),
           (BitVec.ofNat 8 (bits (rec_ j) 39 32) &&& ~~~ (qSafe ||| qDegr)) ||| (if degr then qDegr else 0),
           if bit (leAt f.body (24 + 24 * j) 8) 63 = false ∧ s.tsValid = true then BitVec.ofNat 64 (leAt f.body (24 + 24 * j) 8)
           else s.stamp⟩⟩ : Update) ∈ t.image.updates)) ∧
      (tells f → newer = true → nget none t.net.pubIn key = some ⟨f.inst.toNat, bits w0 63 32, f.seqNr.toNat, 0⟩ ∧
        t = { s with regs := t.regs, net := { s.net with seen := t.net.seen, pubIn := t.net.pubIn },
                     image := { s.image with last := t.image.last, updates := t.image.updates } } ∧ State.Keeps (rx f) s t)) ∧
  (∀ (s : State) (f : Frame), open_ s f nkPublication → tells f → (s.peer f.source.toNat).state = 2 →
    Yields (.publicationReceived f) s fun t => counted s f F.NET_DROPS_1_VERS t ∧ t.net = s.net) ∧
  (∀ (s : State) (f : Frame), f.port.val < 4 → shut s f → Yields (.publicationReceived f) s fun t => t = s) ∧
  (∀ (s : State) (f : Frame), f.port.val < 4 → s.portUp f.port.val = true → s.portRole f.port.val ≠ prRefused →
    s.malformed f nkPublication = true → Yields (.publicationReceived f) s fun t => counted s f F.NET_DROPS_1_MALFORMED t)

/-- TAG_GRANT, REQUEST_TAG_TIMEOUT, TAG_DEADLINE, TAG_RETRY, TAG_QUARANTINE_END, REQUEST_RECEIVED, REPLY_RECEIVED,
INCOMING_REQUEST_EXPIRE (R92, R93, R319, R321, R322, R323, R324, R325, R326). -/
def Obligations.RequestTransactions : Prop :=
  let up (s : State) (f : Frame) : Prop := f.port.val < 4 ∧ s.portUp f.port.val = true ∧ s.portRole f.port.val ≠ prRefused
  let open_ (s : State) (f : Frame) (kind : Nat) : Prop := up s f ∧ s.isOwn f.dest.toNat = true ∧ s.malformed f kind = false ∧ s.fromStation f = false ∧
    (s.peer f.source.toNat).state ≠ 2 ∧ nget (0, 0) s.net.seen (65536 * f.source.toNat + f.seqNr.toNat) = (0, 0)
  let tx : List Nat := [R.PORT_TX.addr 0 0, R.PORT_TX.addr 1 0, R.PORT_TX.addr 2 0, R.PORT_TX.addr 3 0]
  let rx (f : Frame) : List Nat := [R.PORT_RX.addr f.port.val 0]
  let compl (a : Nat) : List Nat := [R.NET_COMPL_0.addr a 0, R.NET_COMPL_1.addr a 0, R.NET_COMPL_2.addr a 0, R.NET_COMPL_OK.addr a 0]
  let netOnly (addrs : List Nat) (s t : State) : Prop :=
    t = { s with regs := t.regs, vault := t.vault, out := t.out, net := t.net, tills := t.tills, tillMem := t.tillMem,
                 pair := { s.pair with seqNr := t.pair.seqNr } } ∧ State.Keeps (addrs ++ eventWords) s t
  let completed (s : State) (a rt : Nat) (item : List W64) (peer status : Nat) (t : State) : Prop :=
    nget 0 t.tillMem (s.tillPos a rt (s.till a rt).wr) =
      mkHeader 1 peer 0 (hService (item.headD 0)) 0 0 (hRef (item.headD 0)) status ∧
    t.till a rt = { s.till a rt with wr := (s.till a rt).wr + 1, reserved := (s.till a rt).reserved - (1 + hReplyMax (item.headD 0)) }
  let counted (s : State) (f : Frame) (fl : Fld) (t : State) : Prop :=
    t.fld fl = min (s.fld fl + 1) 0xFFFF ∧ t = { s with regs := t.regs, net := { s.net with seen := t.net.seen } } ∧
    State.Keeps (rx f ++ [fl.reg.base, R.PORT_ERR.addr f.port.val 0]) s t
  let mayTag (s : State) (a peer : Nat) : Prop := (s.peer peer).state ≠ 0 ∧ (s.peer peer).state ≠ 2 ∧
    s.tagsHeld a none < s.fld F.ACCT_QUOTA_1_TAGS a ∧ s.tagsHeld a (some peer) < s.budget peer
  let firstOf (s : State) (a peer : Nat) : Option (QItem × List QItem) :=
    takeFirst (fun (q : QItem) => q.admitted.isSome && hPeer (q.item.headD 0) == peer) (s.queue a)
  (∀ (s : State) (a : Fin 8) (peer : BitVec 12), (¬ mayTag s a.val peer.toNat ∨ firstOf s a.val peer.toNat = none ∨ s.freeTag = none) →
    Yields (.tagGrant a peer) s fun t => t = s) ∧
  (∀ (s : State) (a : Fin 8) (peer : BitVec 12) (q : QItem) (rest : List QItem) (tag : Nat), mayTag s a.val peer.toNat →
    firstOf s a.val peer.toNat = some (q, rest) → s.freeTag = some tag → Yields (.tagGrant a peer) s fun t =>
      let h := q.item.headD 0
      let T := if hLow h = 0 then 1000 * s.fld F.NET_TIMING_TIMEOUT_MS else 10000 * hLow h
      let gen := ((s.tag tag).gen + 1) % 4
      let v := s.peerVersion peer.toNat
      t.queue a.val = rest ∧
      t.tag tag = { s.tag tag with st := 1, gen := gen, account := a.val, peer := peer.toNat, inst := (s.peer peer.toNat).inst,
                                   item := q.item, deadline := s.tick + T } ∧
      (t.out.drop s.out.length).map (fun f => (f.kind, f.version, f.flags, f.src, f.dst)) =
        [(nkRequest, v, 0, s.dataSrc, peer.toNat)] ∧
      (t.out.drop s.out.length).map (·.body) = [bytesOf64 (mkHeader 0 s.dataSrc a.val (hService h) (hLength h) (hReplyMax h)
        ((if v = 1 then 0 else gen) * 4096 + tag) (hLow h) :: BitVec.ofNat 64 T :: q.item.tail)] ∧
      netOnly tx s t ∧ t.tillMem = s.tillMem ∧ t.tills = s.tills) ∧
  (∀ (s : State) (a : Fin 8) (i : Nat), 
    (s.queue a.val)[i]?.all (fun q => q.admitted.all fun x => decide (s.tick < x + s.reqT (q.item.headD 0))) = true → Yields (.requestTagTimeout a i) s fun t => t = s) ∧
  (∀ (s : State) (a : Fin 8) (i : Nat) (q : QItem) (rt : Nat), (s.queue a.val)[i]? = some q →
    q.admitted.any (fun x => decide (x + s.reqT (q.item.headD 0) ≤ s.tick)) = true →
    s.replyTill a.val = some rt → Yields (.requestTagTimeout a i) s fun t =>
      t.queue a.val = (s.queue a.val).eraseIdx i ∧ completed s a.val rt q.item (hPeer (q.item.headD 0)) 0x04 t ∧
      t.fld F.NET_COMPL_0_NOTAG a.val = min (s.fld F.NET_COMPL_0_NOTAG a.val + 1) 0xFFFF ∧ netOnly (compl a.val) s t ∧
      t.net = { s.net with queues := t.net.queues }) ∧
  (∀ (s : State) (tag : Fin 4096), (((s.tag tag.val).st ≠ 1 ∧ (s.tag tag.val).st ≠ 2) ∨ s.tick < (s.tag tag.val).deadline) →
    Yields (.tagDeadline tag) s fun t => t = s) ∧
  (∀ (s : State) (tag : Fin 4096) (rt : Nat), ((s.tag tag.val).st = 1 ∨ (s.tag tag.val).st = 2) →
    (s.tag tag.val).deadline ≤ s.tick → (s.tag tag.val).account < 8 →
    s.replyTill (s.tag tag.val).account = some rt → Yields (.tagDeadline tag) s fun t =>
      let a := (s.tag tag.val).account
      t.tag tag.val = { s.tag tag.val with st := 3 } ∧
      completed s a rt (s.tag tag.val).item (s.tag tag.val).peer (if (s.tag tag.val).st = 1 then 0x0D else 0x01) t ∧
      t.fld F.NET_COMPL_0_TIMEOUT a = (if (s.tag tag.val).st = 1 then min (s.fld F.NET_COMPL_0_TIMEOUT a + 1) 0xFFFF
        else s.fld F.NET_COMPL_0_TIMEOUT a) ∧
      t.fld F.NET_COMPL_1_BUSY a = (if (s.tag tag.val).st = 2 then min (s.fld F.NET_COMPL_1_BUSY a + 1) 0xFFFF
        else s.fld F.NET_COMPL_1_BUSY a) ∧
      netOnly (compl a) s t ∧ t.net = { s.net with tags := t.net.tags }) ∧
  (∀ (s : State) (tag : Fin 4096), Yields (.tagRetry tag) s fun t =>
    let x := s.tag tag.val
    let due := x.st = 2 ∧ x.busyAt + s.fld F.NET_TIMING_RETRY_US ≤ s.tick ∧ s.tick < x.deadline
    (¬ due → t = s) ∧
    (due → t.tag tag.val = { x with st := 1 } ∧
      (t.out.drop s.out.length).map (fun f => (f.kind, f.flags, f.dst, leAt f.body 8 8)) =
        [(nkRequest, 1, x.peer, (x.deadline - s.tick) % 2 ^ 64)] ∧
      netOnly tx s t ∧ t.tillMem = s.tillMem ∧ t.tills = s.tills)) ∧
  (∀ (s : State) (tag : Fin 4096), (s.tag tag.val).st = 3 →
    (s.tag tag.val).deadline + 2 * s.fld F.NET_PATH_PATH_MAX_US ≤ s.tick → Yields (.tagQuarantineEnd tag) s fun t =>
    (t.tag tag.val).st = 0 ∧ (t.tag tag.val).gen = (s.tag tag.val).gen ∧ (t.tag tag.val).freeAt = s.net.freeSeq + 1 ∧
    t = { s with net := { s.net with tags := t.net.tags, freeSeq := s.net.freeSeq + 1 } }) ∧
  (∀ (s : State) (tag : Fin 4096), ((s.tag tag.val).st ≠ 3 ∨
    s.tick < (s.tag tag.val).deadline + 2 * s.fld F.NET_PATH_PATH_MAX_US) → Yields (.tagQuarantineEnd tag) s fun t => t = s) ∧
  (∀ (s : State) (f : Frame) (acct : Fin 8), open_ s f nkRequest →
    f.body.length = 8 * (2 + hLength ((words64 f.body).headD 0)) → hKind ((words64 f.body).headD 0) = 0 →
    hLength ((words64 f.body).headD 0) ≤ 1024 → Yields (.requestReceived f acct) s fun t =>
      let h := (words64 f.body).headD 0
      let a := acct.val
      let till := s.findTill a true ekNetIn (hService h)
      let x := till.getD 0
      let need := 1 + hLength h
      let known := s.net.incoming.any fun r => r.source == f.source.toNat && r.inst == f.inst.toNat && r.handle == hRef h
      let answered (status : Nat) : Prop :=
        (t.out.drop s.out.length).map (fun g => (g.kind, g.dst, g.body)) =
          [(nkReply, f.source.toNat, bytesOf64 [mkHeader 1 f.source.toNat a 0 0 0 (hRef h) status])] ∧
        t.tillMem = s.tillMem ∧ t.tills = s.tills ∧ t.net.incoming = s.net.incoming ∧
        netOnly (rx f ++ tx ++ [R.ACCT_COUNTS.addr a 0]) s t
      let verdict : Nat := if known then 256
        else if s.acctState a = aAbsent ∨ till.isNone ∨ versionLimit f.version.toNat < hReplyMax h ∨ (words64 f.body).getD 1 0 = 0 then 9
        else if s.acctState a ≠ aRunning then 1
        else if s.tillSize a x < need then 2
        else if s.tillFree a x < need ∨ 4096 ≤ s.net.incoming.length then 1
        else 0
      (verdict = 256 → t = { s with regs := t.regs, net := { s.net with seen := t.net.seen } } ∧ State.Keeps (rx f) s t) ∧
      ((verdict = 1 ∨ verdict = 2 ∨ verdict = 9) → answered verdict) ∧
      (verdict = 2 → t.fld F.ACCT_COUNTS_TOOBIG a = min (s.fld F.ACCT_COUNTS_TOOBIG a + 1) 0xFFFF) ∧
      (verdict = 0 →
        nget 0 t.tillMem (s.tillPos a x (s.till a x).wr) =
          mkHeader 0 f.source.toNat (hAccount h) (hService h) (hLength h) (hReplyMax h) (hRef h) 0 ∧
        (∀ i < hLength h, nget 0 t.tillMem (s.tillPos a x ((s.till a x).wr + 1 + i)) = (words64 f.body).getD (2 + i) 0) ∧
        t.till a x = { s.till a x with wr := (s.till a x).wr + 1 + hLength h } ∧
        t.net.incoming = s.net.incoming ++ [⟨f.source.toNat, f.inst.toNat, hRef h, a, hService h, hReplyMax h,
          s.tick + ((words64 f.body).getD 1 0).toNat⟩] ∧
        t = { s with regs := t.regs, net := { s.net with seen := t.net.seen, incoming := t.net.incoming }, tills := t.tills,
                     tillMem := t.tillMem } ∧ State.Keeps (rx f) s t)) ∧
  (∀ (s : State) (f : Frame) (acct : Fin 8), open_ s f nkRequest →
    (f.body.length ≠ 8 * (2 + hLength ((words64 f.body).headD 0)) ∨ hKind ((words64 f.body).headD 0) ≠ 0 ∨
      1024 < hLength ((words64 f.body).headD 0)) → Yields (.requestReceived f acct) s fun t =>
        counted s f F.NET_DROPS_1_MALFORMED t ∧ t.net = s.net) ∧
  (∀ (s : State) (f : Frame) (acct : Fin 8), up s f → f.fcs = true → s.isOwn f.dest.toNat = false →
    Yields (.requestReceived f acct) s fun t => t = s) ∧
  (∀ (s : State) (f : Frame) (acct : Fin 8), f.port.val < 4 → (s.portUp f.port.val = false ∨ s.portRole f.port.val = prRefused) →
    Yields (.requestReceived f acct) s fun t => t = s) ∧
  (∀ (s : State) (f : Frame) (acct : Fin 8), up s f → (s.isOwn f.dest.toNat = true ∨ f.fcs = false) → s.malformed f nkRequest = true →
    Yields (.requestReceived f acct) s fun t =>
    counted s f F.NET_DROPS_1_MALFORMED t) ∧
  (∀ (s : State) (f : Frame), open_ s f nkReply → f.body.length = 8 * (1 + hLength ((words64 f.body).headD 0)) →
    hKind ((words64 f.body).headD 0) = 1 → hService ((words64 f.body).headD 0) = 0 → hReplyMax ((words64 f.body).headD 0) = 0 →
    Yields (.replyReceived f) s fun t =>
      let h := (words64 f.body).headD 0
      let x := s.tag (hRef h % 4096)
      let live := x.st ≠ 0 ∧ x.st ≠ 3 ∧ x.peer = f.source.toNat ∧ x.inst = f.inst.toNat ∧
        (s.peerVersion f.source.toNat = 1 ∨ hRef h / 4096 = x.gen)
      let rt := (s.replyTill x.account).getD 0
      (¬ live → counted s f F.NET_DROPS_0_STALE_REPLY t ∧ t.net.tags = s.net.tags ∧ t.tillMem = s.tillMem) ∧
      (live → hReplyMax (x.item.headD 0) < hLength h → counted s f F.NET_DROPS_1_MALFORMED t) ∧
      (live → hLength h ≤ hReplyMax (x.item.headD 0) → hLow h = 1 → t.tag (hRef h % 4096) = { x with st := 2, busyAt := s.tick } ∧
        t = { s with regs := t.regs, net := { s.net with seen := t.net.seen, tags := t.net.tags } } ∧ State.Keeps (rx f) s t) ∧
      (live → hLength h ≤ hReplyMax (x.item.headD 0) → hLow h ≠ 1 → x.account < 8 → (t.tag (hRef h % 4096)).st = 0 ∧
        (t.tag (hRef h % 4096)).gen = x.gen ∧
        nget 0 t.tillMem (s.tillPos x.account rt (s.till x.account rt).wr + 0) = (if hLength h < s.tillSize x.account rt then
          mkHeader 1 f.source.toNat (hAccount h) (hService (x.item.headD 0)) (hLength h) 0 (hRef (x.item.headD 0)) (hLow h)
          else nget 0 t.tillMem (s.tillPos x.account rt (s.till x.account rt).wr)) ∧
        t.till x.account rt = { s.till x.account rt with
          wr := (s.till x.account rt).wr + 1 + hLength h
          reserved := (s.till x.account rt).reserved - (1 + hReplyMax (x.item.headD 0)) } ∧
        netOnly (rx f ++ compl x.account) s t) ∧
      t.image = s.image ∧ t.out = s.out) ∧
  (∀ (s : State) (f : Frame), open_ s f nkReply → (f.body.length ≠ 8 * (1 + hLength ((words64 f.body).headD 0)) ∨
    hKind ((words64 f.body).headD 0) ≠ 1 ∨ hService ((words64 f.body).headD 0) ≠ 0 ∨ hReplyMax ((words64 f.body).headD 0) ≠ 0) →
    Yields (.replyReceived f) s fun t => counted s f F.NET_DROPS_1_MALFORMED t ∧ t.net = s.net) ∧
  (∀ (s : State) (f : Frame), up s f → f.fcs = true → s.isOwn f.dest.toNat = false → Yields (.replyReceived f) s fun t => t = s) ∧
  (∀ (s : State) (f : Frame), up s f → (s.isOwn f.dest.toNat = true ∨ f.fcs = false) → s.malformed f nkReply = true → Yields (.replyReceived f) s fun t =>
    counted s f F.NET_DROPS_1_MALFORMED t) ∧
  (∀ (s : State) (f : Frame), f.port.val < 4 → (s.portUp f.port.val = false ∨ s.portRole f.port.val = prRefused) →
    Yields (.replyReceived f) s fun t => t = s) ∧
  (∀ (s : State) (a : BitVec 12) (h : BitVec 14), Yields (.incomingRequestExpire a h) s fun t =>
    t = { s with net.incoming := s.net.incoming.filter fun r => !(r.source == a.toNat && r.handle == h.toNat && decide (r.closesAt ≤ s.tick)) })

/-- RZT_OPEN_SEND, RZT_ACCEPT_RECEIVED, RZT_DATA_RECEIVED, RZT_ASSAY_TIMEOUT, RZT_WATCHDOG, RZT_FAULT_RETRY, RZT_REFUSED_RETRY,
RZT_DEGRADED_LIMIT (R338, R339, R340, R341, R343, R344, R345, R346). -/
def Obligations.RztReceiveConnections : Prop :=
  let open_ (s : State) (f : Frame) : Prop := f.port.val < 4 ∧ s.portUp f.port.val = true ∧
    s.portRole f.port.val ≠ prRefused ∧ f.dest.toNat = s.addr ∧ s.rzPeer f.source.toNat = true ∧
    rzZero (words64 f.body) = true ∧ s.malformed f nkRzt = false ∧ s.fromStation f = false ∧ (s.peer f.source.toNat).state ≠ 2
  let unseen (s : State) (f : Frame) : Prop := nget (0, 0) s.net.seen (65536 * f.source.toNat + f.seqNr.toNat) = (0, 0)
  let tx : List Nat := [R.PORT_TX.addr 0 0, R.PORT_TX.addr 1 0, R.PORT_TX.addr 2 0, R.PORT_TX.addr 3 0]
  let mine (c : Nat) : List Nat := [R.RZT_RX_STATUS.addr c 0, R.RZT_RX_SEQ.addr c 0, R.RZT_RX_COUNTS_0.addr c 0, R.RZT_RX_COUNTS_1.addr c 0]
  let within (c : Nat) (more : List Nat) (s t : State) : Prop :=
    t = { s with regs := t.regs, vault := t.vault, out := t.out, free := t.free, pair := { s.pair with seqNr := t.pair.seqNr },
                 net := { s.net with seqNr := t.net.seqNr, seen := t.net.seen }, safety := { s.safety with rx := t.safety.rx },
                 image := { s.image with last := t.image.last, updates := t.image.updates } } ∧
    State.Keeps (mine c ++ more ++ tx ++ eventWords) s t ∧ (∀ d < 64, d ≠ c → t.rx d = s.rx d)
  let opens (s : State) (c : Nat) (t : State) : Prop :=
    let body := rzBody (s.reg R.RZT_RX_SIG c) [rzWord0 (s.fld F.RZT_RX_CFG_CONN_ID c) rtOpen 0 0,
      BitVec.ofNat 64 ((t.rx c).nonce * 2 ^ 32 + s.fld F.RZT_RX_CFG_VERSIONS c)]
    let alt := s.fld F.RZT_RX_PEER_PEER_ALT c
    t.rzState c = rsOpening ∧ (t.rx c).since = s.tick ∧ (t.rx c).nonce = (Config.random t.free).toNat % 2 ^ 32 ∧ t.free = s.free + 1 ∧
    (t.out.drop s.out.length).map (fun f => (f.kind, f.src, f.dst, f.body)) =
      (([s.fld F.RZT_RX_PEER_PEER c] ++ if alt = 0 then [] else [alt]).filter s.rzPeer).map fun d => (nkRzt, s.addr, d, bytesOf64 body)
  let refuses (c : Nat) (s t : State) : Prop := t.rzState c = rsRefused ∧ (t.rx c).since = s.tick ∧ t.fld F.RZT_RX_STATUS_VERSION c = 0 ∧ t.out = s.out ∧
    t.image = s.image ∧ t.free = s.free
  let old (s : State) (c : Nat) : Prop := (s.peer (s.fld F.RZT_RX_PEER_PEER c)).version = 1
  let data (s : State) (f : Frame) (c : Nat) (ws : List W64) : Prop := words64 f.body = ws ∧ s.rxOf (rzConn (ws.headD 0)) = some c ∧
    s.rzState c = rsRun ∧ s.rxPeer c f.source.toNat = true ∧ rzType (ws.headD 0) = rtData ∧
    rzVersion (ws.headD 0) = s.fld F.RZT_RX_STATUS_VERSION c ∧ rzGood (s.reg R.RZT_RX_SIG c) ws = true ∧
    bits (ws.getD 1 0).toNat 15 8 = s.fld F.RZT_RX_CFG_COUNT c ∧
    ws.length = 3 + s.fld F.RZT_RX_CFG_COUNT c * rzElemWords (s.fld F.RZT_RX_STATUS_VERSION c)
  let next (s : State) (c : Nat) (ws : List W64) : Prop := rzSeq (ws.headD 0) = (s.reg R.RZT_RX_SEQ c + 1) % 2 ^ 32
  let heard (s : State) (f : Frame) : State := (s.receiveCopy f).2
  let port (f : Frame) : List Nat := [R.PORT_RX.addr f.port.val 0]
  let quality (maint degr limit : Bool) (q0 : Byte) : Byte :=
    let q := (q0 &&& ~~~ (qSafe ||| qDegr)) ||| (if degr then qDegr else 0)
    if limit then (q &&& ~~~ qValid) ||| qFault else if maint then q &&& ~~~ qValid else q ||| qSafe
  let delivers (s : State) (c : Nat) (ws : List W64) (maint degr limit : Bool) (t : State) : Prop :=
    ∀ e < s.fld F.RZT_RX_CFG_COUNT c,
      let k := 2 + rzElemWords (s.fld F.RZT_RX_STATUS_VERSION c) * e
      (t.image.updates.filter fun u => u.kind == kNetSub && u.index == rzIndex c e && u.due == s.tick + 1).getLast?.map
        (fun u => (u.copy.value, u.copy.quality)) =
          some (ws.getD k 0, quality maint degr limit (BitVec.ofNat 8 (ws.getD (k + 1) 0).toNat))
  let faults (s : State) (c : Nat) (t : State) : Prop := t.rzState c = rsFault ∧ (t.rx c).assay = none ∧ (t.rx c).since = s.tick ∧
    t.reg R.RZT_RX_SEQ c = s.reg R.RZT_RX_SEQ c ∧
    (∀ e < s.fld F.RZT_RX_CFG_COUNT c,
      let was := nget .init s.image.last (65536 * kNetSub + rzIndex c e)
      nget .init t.image.last (65536 * kNetSub + rzIndex c e) =
        ⟨was.value, (was.quality &&& ~~~ (qValid ||| qSafe)) ||| qFault, s.stamp⟩) ∧ t.out = s.out
  let checks (s : State) (c dst seq : Nat) (t : State) : Prop :=
    (t.out.drop s.out.length).map (fun f => (f.kind, f.src, f.dst, f.body)) = if s.rzPeer dst = false then [] else
      [(nkRzt, s.addr, dst, bytesOf64 (rzBody (s.reg R.RZT_RX_SIG c) [rzWord0 (s.fld F.RZT_RX_CFG_CONN_ID c) rtCheck (s.fld F.RZT_RX_STATUS_VERSION c) seq, 0]))]
  (∀ (s : State) (c : Fin 64), Yields (.rztOpenSend c) s fun t =>
    let due := (s.rx c.val).since + 100000 ≤ s.tick
    (s.rzState c.val ≠ rsOpening → t = s) ∧
    (s.rzState c.val = rsOpening → ¬ old s c.val → ¬ due → t = s) ∧
    (s.rzState c.val = rsOpening → ¬ old s c.val → due → opens s c.val t ∧ t.image = s.image) ∧
    (s.rzState c.val = rsOpening → old s c.val → refuses c.val s t) ∧ within c.val [] s t) ∧
  (∀ (s : State) (f : Frame), (s.receiveRzt f).1 = false → Yields (.rztAcceptReceived f) s fun t => t = (s.receiveRzt f).2) ∧
  (∀ (s : State) (f : Frame) (c : Nat), open_ s f → unseen s f → s.rxOf (rzConn ((words64 f.body).headD 0)) = some c →
    Yields (.rztAcceptReceived f) s fun t =>
      let w0 := (words64 f.body).headD 0
      let good := rzType w0 = rtAccept ∧ (words64 f.body).length = 3 ∧ rzGood (s.reg R.RZT_RX_SIG c) (words64 f.body) = true ∧
        s.rxPeer c f.source.toNat = true ∧ bits ((words64 f.body).getD 1 0).toNat 63 32 = (s.rx c).nonce ∧
        (s.rzState c = rsOpening ∨ s.rzState c = rsRun)
      (¬ good → t = (s.receiveRzt f).2) ∧
      (good → rzVersion w0 = 0 → refuses c s t) ∧
      (good → rzVersion w0 ≠ 0 → rzVersion w0 < 4 → t.rzState c = rsRun ∧ t.fld F.RZT_RX_STATUS_VERSION c = rzVersion w0 ∧
        t.reg R.RZT_RX_SEQ c = rzSeq w0 ∧ t.rx c = { s.rx c with assay := none, acceptedAt := s.tick } ∧ t.image = s.image ∧
        t.out = s.out) ∧
      within c (port f) s t) ∧
  (∀ (s : State) (f : Frame), (s.receiveRzt f).1 = true → s.rxOf (rzConn ((words64 f.body).headD 0)) = none →
    Yields (.rztAcceptReceived f) s fun t => t = (s.receiveRzt f).2) ∧
  (∀ (s : State) (f : Frame), (s.receiveCopy f).1 = false → Yields (.rztDataReceived f) s fun t => t = heard s f) ∧
  (∀ (s : State) (f : Frame), (s.receiveCopy f).1 = true → s.rxOf (rzConn ((words64 f.body).headD 0)) = none →
    Yields (.rztDataReceived f) s fun t => t = heard s f) ∧
  (∀ (s : State) (f : Frame) (c : Nat), open_ s f → s.rxOf (rzConn ((words64 f.body).headD 0)) = some c →
    (s.rzState c ≠ rsRun ∨ s.rxPeer c f.source.toNat = false) → Yields (.rztDataReceived f) s fun t =>
      t = (heard s f).bump F.RZT_RX_COUNTS_0_OTHER c) ∧
  (∀ (s : State) (f : Frame) (c : Nat) (ws : List W64), open_ s f → words64 f.body = ws → s.rxOf (rzConn (ws.headD 0)) = some c →
    s.rzState c = rsRun → s.rxPeer c f.source.toNat = true → ¬ data s f c ws → Yields (.rztDataReceived f) s fun t =>
      t = (heard s f).bump F.RZT_RX_COUNTS_0_CRC c) ∧
  (∀ (s : State) (f : Frame) (c : Nat) (ws : List W64), open_ s f → data s f c ws → rzSeq (ws.headD 0) = s.reg R.RZT_RX_SEQ c →
    Yields (.rztDataReceived f) s fun t =>
      let late := s.fld F.RZT_RX_ASSAY_ASSAY_US c < s.tick - (s.rx c).acceptedAt
      (¬ late → t = heard s f) ∧ (late → checks s c f.source.toNat (s.reg R.RZT_RX_SEQ c) t) ∧
      t.rx c = s.rx c ∧ t.image = s.image ∧ within c (port f) s t) ∧
  (∀ (s : State) (f : Frame) (c : Nat) (ws : List W64), open_ s f → data s f c ws → rzSeq (ws.headD 0) ≠ s.reg R.RZT_RX_SEQ c →
    ¬ next s c ws → Yields (.rztDataReceived f) s fun t =>
      t = (heard s f).bump F.RZT_RX_COUNTS_0_SEQ c ∧ t.fld F.RZT_RX_COUNTS_0_SEQ c = min (s.fld F.RZT_RX_COUNTS_0_SEQ c + 1) 0xFF ∧
      t.image = s.image ∧ t.rx c = s.rx c ∧ t.reg R.RZT_RX_SEQ c = s.reg R.RZT_RX_SEQ c) ∧
  (∀ (s : State) (f : Frame) (c : Nat) (ws : List W64), open_ s f → data s f c ws → next s c ws → (s.rx c).assay = none →
    Yields (.rztDataReceived f) s fun t => t.rx c = { s.rx c with assay := some ⟨f.port.val / 2, f.source.toNat, ws, s.tick⟩ } ∧
      t.reg R.RZT_RX_SEQ c = s.reg R.RZT_RX_SEQ c ∧ t.image = s.image ∧ t.out = s.out ∧ within c (port f) s t) ∧
  (∀ (s : State) (f : Frame) (c : Nat) (ws : List W64) (a : Assay), open_ s f → data s f c ws → next s c ws →
    (s.rx c).assay = some a → a.plane = f.port.val / 2 → Yields (.rztDataReceived f) s fun t => t = heard s f) ∧
  (∀ (s : State) (f : Frame) (c : Nat) (ws : List W64) (a : Assay), open_ s f → data s f c ws → next s c ws →
    (s.rx c).assay = some a → a.plane ≠ f.port.val / 2 → a.words = ws →
    Yields (.rztDataReceived f) s fun t =>
      let maint := bit (ws.getD 1 0).toNat 0
      t.reg R.RZT_RX_SEQ c = rzSeq (ws.headD 0) ∧ t.flag F.RZT_RX_STATUS_DEGR c = false ∧ t.flag F.RZT_RX_STATUS_LIMIT c = false ∧
      t.flag F.RZT_RX_STATUS_MAINT c = maint ∧ t.fld F.RZT_RX_STATUS_FROM c = f.source.toNat % 4096 ∧
      t.rx c = { s.rx c with assay := none, acceptedAt := s.tick, two := true, degrSince := none } ∧
      delivers s c ws maint false false t ∧ checks s c f.source.toNat (rzSeq (ws.headD 0)) t ∧ within c (port f) s t) ∧
  (∀ (s : State) (f : Frame) (c : Nat) (ws : List W64) (a : Assay), open_ s f → data s f c ws → next s c ws →
    (s.rx c).assay = some a → a.plane ≠ f.port.val / 2 → a.words ≠ ws → Yields (.rztDataReceived f) s fun t =>
      faults s c t ∧ t.fld F.RZT_RX_COUNTS_1_MISMATCH c = min (s.fld F.RZT_RX_COUNTS_1_MISMATCH c + 1) 0xFF ∧ within c (port f) s t) ∧
  (∀ (s : State) (c : Fin 64), (s.rzState c.val ≠ rsRun ∨
    ((s.rx c.val).assay.all fun a => decide (s.tick < a.openedAt + s.fld F.RZT_RX_ASSAY_ASSAY_US c.val)) = true) → Yields (.rztAssayTimeout c) s fun t => t = s) ∧
  (∀ (s : State) (c : Fin 64) (a : Assay), s.rzState c.val = rsRun → (s.rx c.val).assay = some a →
    a.openedAt + s.fld F.RZT_RX_ASSAY_ASSAY_US c.val ≤ s.tick → Yields (.rztAssayTimeout c) s fun t =>
    let maint := bit (a.words.getD 1 0).toNat 0
    let limit := t.flag F.RZT_RX_STATUS_LIMIT c.val
    let since := (s.rx c.val).degrSince.getD s.tick
    let lim := s.fld F.RZT_RX_DEGR_DEGR_LIMIT_S c.val
    t.reg R.RZT_RX_SEQ c.val = rzSeq (a.words.headD 0) ∧ t.flag F.RZT_RX_STATUS_DEGR c.val = true ∧
    t.flag F.RZT_RX_STATUS_MAINT c.val = maint ∧
    limit = (s.flag F.RZT_RX_STATUS_LIMIT c.val || lim == 0 || decide (1000000 * lim < s.tick - since)) ∧
    t.rx c.val = { s.rx c.val with assay := none, acceptedAt := s.tick, two := false, degrSince := some since } ∧
    t.fld F.RZT_RX_COUNTS_1_DEGR c.val = min (s.fld F.RZT_RX_COUNTS_1_DEGR c.val + 1) 0xFFFF ∧
    (a.words.length = 3 + s.fld F.RZT_RX_CFG_COUNT c.val * rzElemWords (s.fld F.RZT_RX_STATUS_VERSION c.val) →
      delivers s c.val a.words maint true limit t) ∧
    checks s c.val a.source (rzSeq (a.words.headD 0)) t ∧ within c.val [] s t) ∧
  (∀ (s : State) (c : Fin 64), Yields (.rztWatchdog c) s fun t =>
    let over_ := s.rzState c.val = rsRun ∧ (s.rx c.val).acceptedAt + s.fld F.RZT_RX_WDOG_WATCHDOG_US c.val < s.tick
    (¬ over_ → t = s) ∧
    (over_ → faults s c.val t ∧
      t.fld F.RZT_RX_COUNTS_1_WATCHDOG c.val = min (s.fld F.RZT_RX_COUNTS_1_WATCHDOG c.val + 1) 0xFF) ∧ within c.val [] s t) ∧
  (∀ (s : State) (c : Fin 64), Yields (.rztFaultRetry c) s fun t =>
    let due := s.rzState c.val = rsFault ∧ s.rzOn = true ∧ (s.rx c.val).since + 100000 ≤ s.tick
    (¬ due → t = s) ∧
    (due → ¬ old s c.val → opens s c.val t ∧ (t.rx c.val).assay = none ∧ t.image = s.image) ∧
    (due → old s c.val → refuses c.val s t) ∧ within c.val [] s t) ∧
  (∀ (s : State) (c : Fin 64), Yields (.rztRefusedRetry c) s fun t =>
    let due := s.rzState c.val = rsRefused ∧ s.rzOn = true ∧ (s.rx c.val).since + 10000000 ≤ s.tick
    (¬ due → t = s) ∧
    (due → ¬ old s c.val → opens s c.val t ∧ (t.rx c.val).assay = none ∧ t.image = s.image) ∧
    (due → old s c.val → refuses c.val s t) ∧ within c.val [] s t) ∧
  (∀ (s : State) (c : Fin 64), Yields (.rztDegradedLimit c) s fun t =>
    let over_ := (s.rx c.val).degrSince.any fun x => let lim := s.fld F.RZT_RX_DEGR_DEGR_LIMIT_S c.val
      lim == 0 || decide (1000000 * lim < s.tick - x)
    (over_ = false → t = s) ∧
    (over_ = true → t.flag F.RZT_RX_STATUS_LIMIT c.val = true ∧ t.rzState c.val = s.rzState c.val ∧
      t = { s with regs := t.regs, vault := t.vault } ∧ State.Keeps (R.RZT_RX_STATUS.addr c.val 0 :: eventWords) s t))

/-- RZT_OPEN_RECEIVED, RZT_DATA_SEND, RZT_CHECK_RECEIVED, MAINT_HOLD_END (R337, R339, R340, R342). -/
def Obligations.RztSendConnectionsAndHold : Prop :=
  let open_ (s : State) (f : Frame) : Prop := f.port.val < 4 ∧ s.portUp f.port.val = true ∧
    s.portRole f.port.val ≠ prRefused ∧ f.dest.toNat = s.addr ∧ s.rzPeer f.source.toNat = true ∧
    rzZero (words64 f.body) = true ∧ s.malformed f nkRzt = false ∧ s.fromStation f = false ∧ (s.peer f.source.toNat).state ≠ 2 ∧
    nget (0, 0) s.net.seen (65536 * f.source.toNat + f.seqNr.toNat) = (0, 0)
  let tx : List Nat := [R.PORT_TX.addr 0 0, R.PORT_TX.addr 1 0, R.PORT_TX.addr 2 0, R.PORT_TX.addr 3 0]
  let within (c : Nat) (more : List Nat) (s t : State) : Prop :=
    t = { s with regs := t.regs, out := t.out, free := t.free, pair := { s.pair with seqNr := t.pair.seqNr },
                 net := { s.net with seqNr := t.net.seqNr, seen := t.net.seen }, safety := { s.safety with tx := t.safety.tx } } ∧
    State.Keeps ([R.RZT_TX_STATUS.addr c 0, R.RZT_TX_SEQ.addr c 0] ++ more ++ tx) s t ∧ (∀ d < 64, d ≠ c → t.tx d = s.tx d)
  let accepts (s : State) (f : Frame) (c version start : Nat) (t : State) : Prop :=
    (t.out.drop s.out.length).map (fun f => (f.kind, f.src, f.dst, f.body)) = [(nkRzt, s.addr, f.source.toNat, bytesOf64
      (rzBody (s.reg R.RZT_TX_SIG c) [rzWord0 (s.fld F.RZT_TX_CFG_CONN_ID c) rtAccept version start,
        BitVec.ofNat 64 (leAt f.body 12 4 * 2 ^ 32 + s.fld F.RZT_TX_CFG_VERSIONS c)]))]
  let instant (s : State) (c : Nat) : Bool :=
    s.gridPasses s.net.grid (s.fld F.RZT_TX_PHASE_PHASE_US c) (s.fld F.RZT_TX_PERIOD_PERIOD_US c)
  let wordsOf (f : Frame) : List W64 := words64 f.body
  let hd (f : Frame) : W64 := (wordsOf f).headD 0
  (∀ (s : State) (f : Frame), (s.receiveRzt f).1 = false → Yields (.rztOpenReceived f) s fun t => t = (s.receiveRzt f).2) ∧
  (∀ (s : State) (f : Frame), (s.receiveRzt f).1 = true → s.txOf (rzConn (hd f)) = none →
    Yields (.rztOpenReceived f) s fun t => t = (s.receiveRzt f).2) ∧
  (∀ (s : State) (f : Frame) (c : Nat), open_ s f → s.txOf (rzConn (hd f)) = some c → Yields (.rztOpenReceived f) s fun t =>
    let w1 := ((wordsOf f).getD 1 0).toNat
    let alt := bits (s.reg R.RZT_TX_PEER c) 27 16
    let good := rzType (hd f) = rtOpen ∧ (wordsOf f).length = 3 ∧ rzGood (s.reg R.RZT_TX_SIG c) (wordsOf f) = true ∧
      (f.source.toNat = bits (s.reg R.RZT_TX_PEER c) 11 0 ∨ (alt ≠ 0 ∧ f.source.toNat = alt)) ∧ s.rzOn = true
    let can (v : Nat) : Bool := bit w1 (v - 1) && bit (s.fld F.RZT_TX_CFG_VERSIONS c) (v - 1)
    let version := if can 2 then 2 else if can 1 then 1 else 0
    let resumes := bit w1 8 = true ∧ s.fld F.RZT_TX_STATUS_STATE c = 1 ∧
      (s.reg R.RZT_TX_SEQ c = rzSeq (hd f) ∨ s.reg R.RZT_TX_SEQ c = (rzSeq (hd f) + 1) % 2 ^ 32)
    (¬ good → t = (s.receiveRzt f).2) ∧
    (good → version = 0 → accepts s f c 0 0 t ∧ t.tx c = s.tx c ∧
      t.fld F.RZT_TX_STATUS_STATE c = (if s.fld F.RZT_TX_STATUS_DEST c = f.source.toNat then 0 else s.fld F.RZT_TX_STATUS_STATE c) ∧
      t.fld F.RZT_TX_STATUS_DEST c = s.fld F.RZT_TX_STATUS_DEST c) ∧
    (good → version ≠ 0 → resumes → accepts s f c version (rzSeq (hd f)) t ∧ t.tx c = s.tx c ∧ t.free = s.free ∧
      t.reg R.RZT_TX_SEQ c = s.reg R.RZT_TX_SEQ c ∧ t.fld F.RZT_TX_STATUS_DEST c = f.source.toNat ∧
      t.flag F.RZT_TX_STATUS_WAITING c = s.flag F.RZT_TX_STATUS_WAITING c) ∧
    (good → version ≠ 0 → ¬ resumes → accepts s f c version (t.reg R.RZT_TX_SEQ c) t ∧ t.fld F.RZT_TX_STATUS_STATE c = 1 ∧
      t.fld F.RZT_TX_STATUS_VERSION c = version ∧ t.fld F.RZT_TX_STATUS_DEST c = f.source.toNat ∧
      t.flag F.RZT_TX_STATUS_WAITING c = false ∧ t.tx c = ⟨none⟩ ∧ t.free = s.free + 1 ∧
      t.reg R.RZT_TX_SEQ c = (Config.random t.free).toNat % 2 ^ 32) ∧
    within c [R.PORT_RX.addr f.port.val 0] s t) ∧
  (∀ (s : State) (c : Fin 64), (s.fld F.RZT_TX_STATUS_STATE c.val ≠ 1 ∨ s.rzOn = false ∨ instant s c.val = false) →
    Yields (.rztDataSend c) s fun t => t = s) ∧
  (∀ (s : State) (c : Fin 64), s.fld F.RZT_TX_STATUS_STATE c.val = 1 → s.rzOn = true → instant s c.val = true →
    Yields (.rztDataSend c) s fun t =>
    let again := s.flag F.RZT_TX_STATUS_WAITING c.val = true ∧ (s.tx c.val).last.isSome = true
    let seq := (s.reg R.RZT_TX_SEQ c.val + 1) % 2 ^ 32
    let body := if again then (s.tx c.val).last.getD [] else s.rzDataBody c.val seq (s.rzMaint c.val)
    (t.out.drop s.out.length).map (fun f => (f.kind, f.src, f.dst, f.body)) =
      (if s.rzPeer (s.fld F.RZT_TX_STATUS_DEST c.val) then [(nkRzt, s.addr, s.fld F.RZT_TX_STATUS_DEST c.val, bytesOf64 body)]
       else []) ∧
    (again → t.reg R.RZT_TX_SEQ c.val = s.reg R.RZT_TX_SEQ c.val ∧ t.tx c.val = s.tx c.val ∧
      t.reg R.RZT_TX_STATUS c.val = s.reg R.RZT_TX_STATUS c.val) ∧
    (¬ again → t.reg R.RZT_TX_SEQ c.val = seq ∧ t.flag F.RZT_TX_STATUS_WAITING c.val = true ∧
      t.flag F.RZT_TX_STATUS_MAINT c.val = s.rzMaint c.val ∧ t.tx c.val = ⟨some body⟩) ∧
    within c.val [] s t) ∧
  (∀ (s : State) (c : Fin 64) (seq : Nat) (maint : Bool), seq < 2 ^ 32 →
    let ws := s.rzDataBody c.val seq maint
    let k := if s.fld F.RZT_TX_STATUS_VERSION c.val = 1 then 2 else 3
    let n := s.fld F.RZT_TX_CFG_COUNT c.val
    ws.length = 3 + k * n ∧ rzSeq (ws.headD 0) = seq ∧ rzType (ws.headD 0) = rtData ∧
    (ws.getD 1 0).toNat = n * 2 ^ 8 + b2n maint ∧ rzGood (s.reg R.RZT_TX_SIG c.val) ws = true ∧
    (∀ e < n, ws.getD (2 + k * e) 0 = (s.sig (s.fld F.RZT_TX_ELEM_SIGNAL c.val e)).value ∧
      ws.getD (3 + k * e) 0 = (s.sig (s.fld F.RZT_TX_ELEM_SIGNAL c.val e)).quality.setWidth 64 ∧
      (k = 3 → ws.getD (4 + k * e) 0 = (s.sig (s.fld F.RZT_TX_ELEM_SIGNAL c.val e)).stamp))) ∧
  (∀ (s : State) (f : Frame), (s.receiveRzt f).1 = false → Yields (.rztCheckReceived f) s fun t => t = (s.receiveRzt f).2) ∧
  (∀ (s : State) (f : Frame), (s.receiveRzt f).1 = true → s.txOf (rzConn (hd f)) = none →
    Yields (.rztCheckReceived f) s fun t => t = (s.receiveRzt f).2) ∧
  (∀ (s : State) (f : Frame) (c : Nat), open_ s f → s.txOf (rzConn (hd f)) = some c → Yields (.rztCheckReceived f) s fun t =>
    let good := (wordsOf f).length = 3 ∧ rzType (hd f) = rtCheck ∧ rzGood (s.reg R.RZT_TX_SIG c) (wordsOf f) = true ∧
      f.source.toNat = s.fld F.RZT_TX_STATUS_DEST c ∧ rzSeq (hd f) = s.reg R.RZT_TX_SEQ c ∧ (s.tx c).last.isSome = true
    (¬ good → t = (s.receiveRzt f).2) ∧
    (good → t.flag F.RZT_TX_STATUS_WAITING c = false ∧ t.reg R.RZT_TX_SEQ c = s.reg R.RZT_TX_SEQ c ∧ t.tx c = s.tx c ∧ t.out = s.out) ∧
    within c [R.PORT_RX.addr f.port.val 0] s t) ∧
  (∀ (s : State), s.flag F.SAFE_STATUS_HOLD = true → s.flag F.SAFE_STATUS_MAINT = false → s.safety.holdTasks = [] →
    Yields .maintHoldEnd s fun t => t.flag F.SAFE_STATUS_HOLD = false ∧ t.flag F.SAFE_STATUS_MAINT = false ∧
      State.OnlyWords [R.SAFE_STATUS.base] s t) ∧
  (∀ (s : State), (s.flag F.SAFE_STATUS_HOLD = false ∨ s.flag F.SAFE_STATUS_MAINT = true ∨ s.safety.holdTasks ≠ []) →
    Yields .maintHoldEnd s fun t => t = s)

/-- LEDGER_FRAME_RECEIVED, RELINQUISH_RECEIVED, LEDGER_LINK_LOST, PEER_ABSENT, PEER_PRESENT_SEATED, JOURNAL_RESEND (R363, R364,
R365, R366, R367, R368, R374). -/
def Obligations.LedgerLinkFrames : Prop :=
  let good (f : LedgerFrame) : Prop := f.body.length = 72 ∧ llCrc f.header f.body = f.crc ∧ bits f.header.toNat 63 62 ≠ 3
  let kind (f : LedgerFrame) : Nat := bits f.header.toNat 63 62
  let hears (s : State) : Prop := s.alive = true ∧ s.llState ≠ llDown
  let takes (s : State) (f : LedgerFrame) (spaced : Bool) : Prop := hears s ∧ s.pair.locked = true ∧ good f ∧
    (spaced = true ∨ s.pair.bad < 3)
  let carries (s : State) (f : LedgerFrame) (n : Nat) : Prop := takes s f true ∧ kind f = lkData ∧ s.llState = llUp ∧
    s.pairState = psStandby ∧ bits f.header.toNat 59 56 = psActive ∧ s.pair.resyncing = true ∧ s.pair.winOpen = false ∧
    s.pair.mapped = false ∧ s.pair.inq = [] ∧ bits f.header.toNat 55 48 = n + 1
  let waits (s : State) : Prop := s.pairState = psResync ∨ s.pairState = psStandby ∨ s.pairState = psMapped
  let caused (s : State) (c : Nat) : Option Nat := if waits s then some (s.pair.cause.getD c) else s.pair.cause
  (∀ (s : State) (f : LedgerFrame) (spaced : Bool) (age : Nat), ¬ hears s →
    Yields (.ledgerFrameReceived f spaced age) s fun t => t = s) ∧
  (∀ (s : State) (f : LedgerFrame) (spaced : Bool) (age : Nat), ¬ hears s →
    Yields (.relinquishReceived f spaced age) s fun t => t = s) ∧
  (∀ (s : State) (f : LedgerFrame) (spaced : Bool) (age : Nat), hears s → ¬ good f →
    Yields (.ledgerFrameReceived f spaced age) s fun t =>
      t.fld F.LL_COUNTS_CRC = min (s.fld F.LL_COUNTS_CRC + 1) 0xFFFF ∧ t.pairState = s.pairState ∧
      (t.pair.locked = true ↔ s.pair.locked = true ∧ s.pair.bad < 3) ∧ (s.pair.locked = false → t.pair.good = 0) ∧
      (t.llState = s.llState ∨ (s.llState = llRefused ∧ t.llState = llSearch ∧ t.pair.locked = false)) ∧
      t = { s with regs := t.regs, pair := { s.pair with
                     locked := t.pair.locked, good := t.pair.good, bad := t.pair.bad, hellos := t.pair.hellos } } ∧ State.Keeps [R.LL_COUNTS.base, R.LL_STATUS.base] s t) ∧
  (∀ (s : State) (f : LedgerFrame) (spaced : Bool) (age : Nat), hears s → s.pair.locked = false → good f →
    (spaced = false ∨ s.pair.good < 3) → Yields (.ledgerFrameReceived f spaced age) s fun t =>
      t = { s with pair.good := if spaced then s.pair.good + 1 else 1 }) ∧
  (∀ (s : State) (f : LedgerFrame) (age : Nat), s.alive = true → s.llState = llSearch → s.pair.locked = false → 3 ≤ s.pair.good →
    good f → kind f = lkData → Yields (.ledgerFrameReceived f true age) s fun t =>
      t.pair.locked = true ∧ t.llState = llHello ∧ t.peerState = bits f.header.toNat 59 56 ∧ t.image = s.image) ∧
  (∀ (s : State) (f : LedgerFrame) (spaced : Bool) (age : Nat), takes s f spaced → kind f = lkHello → s.llState = llHello →
    s.pairState = psStarting → Yields (.ledgerFrameReceived f spaced age) s fun t =>
      let versions := (f.body.headD 0).toNat % 256
      let again := s.pair.hello = versions ∧ 1 ≤ s.pair.hellos
      t.llState = (if again then (if bit versions 1 then llUp else llRefused) else llHello) ∧
      t.pair.hello = versions ∧ t.pair.hellos = (if s.pair.hello = versions then s.pair.hellos + 1 else 1) ∧
      t.pair.peerId = f.body.getD 1 0 ∧ t.pair.peerGen = f.body.getD 3 0 ∧
      t.reg R.PAIR_PEER_LAYOUT = (f.body.getD 2 0).toNat % 2 ^ 32 ∧ t.pairState = psStarting ∧ t.image = s.image) ∧
  (∀ (s : State) (f : LedgerFrame) (spaced : Bool) (age : Nat), takes s f spaced → kind f = lkData → s.llState ≠ llUp →
    Yields (.ledgerFrameReceived f spaced age) s fun t =>
      t.peerState = bits f.header.toNat 59 56 ∧ t.llState = s.llState ∧ t.image = s.image ∧ t.net = s.net ∧
      t.pair.hellos = 0) ∧
  (∀ (s : State) (f : LedgerFrame) (age : Nat) (h v stamp : W64), carries s f 3 →
    (f.body.headD 0).toNat = s.pair.expect → f.body.tail.take 3 = [h, v, stamp] → bits h.toNat 63 60 = 2 → bits h.toNat 59 56 ≠ 1 →
    s.force? (bits h.toNat 16 0) = none → Yields (.ledgerFrameReceived f true age) s fun t =>
      let g := bits h.toNat 16 0
      t.sig g = { s.sig g with value := v, quality := BitVec.ofNat 8 (bits h.toNat 55 48), stamp := s.ownStamp stamp,
                               upd := if [3, 4, 5].contains (bits h.toNat 59 56) then s.entryTl else (s.sig g).upd } ∧
      (∀ g', g' ≠ g → t.sig g' = s.sig g') ∧ t.image.data = s.image.data ∧ t.image.journal = s.image.journal ∧
      t.pair.expect = s.pair.expect + 3 ∧ t.pairState = psStandby) ∧
  (∀ (s : State) (f : LedgerFrame) (age : Nat) (h v : W64), carries s f 2 → (f.body.headD 0).toNat = s.pair.expect →
    f.body.tail.take 2 = [h, v] → bits h.toNat 63 60 = 6 → Yields (.ledgerFrameReceived f true age) s fun t =>
      nget 0 t.image.data (65536 * bits h.toNat 21 16 + bits h.toNat 13 0) = v ∧
      (∀ a, a ≠ 65536 * bits h.toNat 21 16 + bits h.toNat 13 0 → nget 0 t.image.data a = nget 0 s.image.data a) ∧
      (∀ g, t.sig g = s.sig g) ∧ t.pair.expect = s.pair.expect + 2) ∧
  (∀ (s : State) (f : LedgerFrame) (age n : Nat), carries s f n → (f.body.headD 0).toNat + n ≤ s.pair.expect → n < 72 →
    Yields (.ledgerFrameReceived f true age) s fun t => t.image = s.image ∧ t.pair.expect = s.pair.expect) ∧
  (∀ (s : State) (age : Nat) (ws : List W64), s.pair.mapped = false → s.pair.winOpen = false →
    let t := s.entryIn age ws
    let h := (ws.headD 0).toNat
    let f := s.fireOf ws.tail
    (bits h 63 60 = 4 → (t.image.fire = if s.image.fire.any (·.seq == f.seq) then s.image.fire else s.image.fire ++ [f])) ∧
    (bits h 63 60 = 5 → t.image.fire = s.image.fire.filter fun f => f.seq != bits h 31 0) ∧
    (bits h 63 60 = 8 → (t.force? (bits h 16 0)).map (·.value) = if bit h 17 then some (ws.getD 1 0) else none) ∧
    (bits h 63 60 = 9 → nget none t.pair.got (bits h 59 0) = some (ws.getD 1 0)) ∧ t.out = s.out ∧ t.tillMem = s.tillMem) ∧
  (∀ (s : State) (f : LedgerFrame) (spaced : Bool) (age : Nat), takes s f spaced → kind f = lkRelinquish →
    (waits s ∨ s.llState ≠ llUp) → Yields (.relinquishReceived f spaced age) s fun t =>
      t.pair.cause = caused s 1 ∧ t.pairState = s.pairState ∧ t.peerState = bits f.header.toNat 59 56 ∧
      t.image = s.image ∧ t.net = s.net ∧ t.out = s.out) ∧
  (∀ (s : State) (f : LedgerFrame) (spaced : Bool) (age : Nat), takes s f spaced → kind f = lkRelinquish →
    ¬ waits s → Yields (.relinquishReceived f spaced age) s fun t => t.pair.cause = s.pair.cause) ∧
  (∀ (s : State) (lock : Bool), Yields (.ledgerLinkLost lock) s fun t =>
      let ends := (s.llState = llHello ∨ s.llState = llUp ∨ (s.llState = llRefused ∧ lock = true)) ∧
        (if lock then s.pair.locked = false else s.pair.hbAt.all (fun x => decide (x + 150 ≤ s.tick)) = true)
      (¬ ends → t = s) ∧
      (ends → t.llState = llSearch ∧ t.fld F.LL_STATUS_VERSION = 0 ∧ t.pair.locked = false ∧ t.pair.hellos = 0 ∧
        t.pairState = (if s.llState = llUp ∧ s.pairState = psActive then psAlone else s.pairState) ∧
        t.pair.sending = (if s.llState = llUp ∧ (s.pairState = psActive ∨ s.pairState = psAlone) then false else s.pair.sending) ∧
        t.pair.cause = (if s.llState = llUp then caused s 2 else s.pair.cause)) ∧
      t.fld F.PAIR_COUNTS_1_SYNC_LOSSES = (if ends ∧ s.llState = llUp ∧ s.pairState = psActive then
        min (s.fld F.PAIR_COUNTS_1_SYNC_LOSSES + 1) 0xFF else s.fld F.PAIR_COUNTS_1_SYNC_LOSSES) ∧
      t = { s with regs := t.regs, vault := t.vault, pair := t.pair } ∧
      State.Keeps ([R.LL_STATUS.base, R.PAIR_STATUS.base, R.PAIR_LAST.addr 0 0, R.PAIR_LAST.addr 0 0 + 4,
        R.PAIR_COUNTS_1.base] ++ eventWords) s t) ∧
  (∀ (s : State), Yields .peerAbsent s fun t =>
      t.flag F.PAIR_STATUS_PEER_PRESENT = false ∧ t.flag F.BASEPLATE_STATUS_PEER_PRESENT = false ∧ t.pairState = s.pairState ∧
      t = { s with regs := t.regs, pair.cause := caused s 3 } ∧ State.Keeps [R.PAIR_STATUS.base, R.BASEPLATE_STATUS.base] s t) ∧
  (∀ (s : State), Yields .peerPresentSeated s fun t =>
      t.flag F.PAIR_STATUS_PEER_PRESENT = true ∧ t.flag F.BASEPLATE_STATUS_PEER_PRESENT = true ∧ t.pairState = s.pairState ∧
      State.OnlyWords [R.PAIR_STATUS.base, R.BASEPLATE_STATUS.base] s t) ∧
  (∀ (s : State), Yields .journalResend s fun t =>
      let lags := s.pair.sending = true ∧ s.pair.sent ≠ s.pair.base
      (¬ lags → t = s) ∧
      (lags → t = { s with pair.sent := s.pair.base, regs := t.regs } ∧ State.Keeps [R.LL_COUNTS.base] s t ∧
        t.fld F.LL_COUNTS_RESENDS = min (s.fld F.LL_COUNTS_RESENDS + 1) 0xFFFF))

/-- ROLE_DECISION, TAKEOVER, PAIR_HANDOVER, PAIR_ASSUME, HANDOVER_ACTION_DUE, HANDOVER_WINDOW_END, RECLAIM_TIMER, ROLE_SWAP_DUE
(R362, R374, R376, R377, R378, R383, R384). -/
def Obligations.PairRolesAndHandover : Prop :=
  let decides (s : State) : Prop := s.phase = .starting ∧ s.pairState = psStarting ∧ nget false s.start.steps settleKey = true
  let waits (s : State) : Bool := s.flag F.PAIR_STATUS_PEER_PRESENT &&
    decide (s.tick < s.start.settleFrom + 1000 * (s.start.head.map (·.settleMs)).getD 0 + 5000000)
  let writes (s : State) (n : Nat) : Prop := s.granted n (R.PAIR_CTRL.addr 0 0) R.PAIR_CTRL 0 = true
  let held (s : State) : Prop := s.pair.syncAt + 1000000 * s.fld F.PAIR_TIMING_RECLAIM_S ≤ s.tick
  let handover : W32 := ctrlWord 0x3C 1
  let waiting (s : State) : Prop := (s.mgmt.effects.any fun e =>
    match e with | .word b x _ _ => b == R.PAIR_CTRL.addr 0 0 && bits x.toNat 3 0 == 1 | _ => false) = true
  let scheduled (s t : State) (code time : Nat) : Prop :=
    t.image.fire = s.image.fire ∧ (t.image.fireIn.drop s.image.fireIn.length).map (fun f => (f.action, f.target, f.tl, f.account)) =
      [(true, code, true, 0)] ∧ (t.image.fireIn.drop s.image.fireIn.length).map (·.time) = [BitVec.ofNat 64 time]
  let role (s : State) (st : Nat) : Prop := Yields .roleDecision s fun t =>
    t.pairState = st ∧ t.stepDone 12 = true ∧ t.image = s.image ∧ t.out = s.out ∧ t.drive = s.drive
  let due (s : State) (f : Fire) : Prop := s.image.fired = [f] ∧ f.action = true ∧ (f.target = 1 ∨ f.target = 2)
  (∀ (s : State), decides s → s.llState = llUp → s.peerAgrees = false → role s psIsolated) ∧
  (∀ (s : State), decides s → s.llState = llUp → s.peerAgrees = true → psIsActive s.peerState = true → role s psResync) ∧
  (∀ (s : State), decides s → s.llState = llUp → s.peerAgrees = true → s.peerState = psStarting ∨ s.peerState = psIsolated →
    role s (if s.atHome then psAlone else psResync)) ∧
  (∀ (s : State), decides s → s.llState = llUp → s.peerAgrees = true → s.peerState = psResync ∨ psInSync s.peerState = true → role s psAlone) ∧
  (∀ (s : State), decides s → s.llState ≠ llUp → waits s = false →
    role s (if s.flag F.PAIR_STATUS_PEER_PRESENT then psIsolated else psAlone)) ∧
  (∀ (s : State), ¬ decides s ∨ (s.llState ≠ llUp ∧ waits s = true) → Yields .roleDecision s fun t => t = s) ∧
  (∀ (s : State) (c : Nat), s.pair.cause = some c → s.pairState = psStandby ∨ s.pairState = psMapped →
    Yields .takeover s fun t =>
      let seq := (((s.gotItem 6 1).map (·.toNat)).getD s.pair.seqNr + 16384) % 65536
      t.pairState = (if psInSync s.peerState then psActive else psAlone) ∧ t.pair.cause = none ∧ t.pair.resyncing = false ∧
      (s.addr ≠ s.station → t.pair.seqNr = (seq + 1) % 65536) ∧
      t.pair.inst = some (((s.gotItem 6 0).map (·.toNat % 2 ^ 32)).getD (s.reg R.NET_INSTANCE)) ∧
      t.reg R.PAIR_SWAP_DUE = s.swapSeconds ∧ t.flag F.PAIR_STATUS_RECLAIM_PENDING = false ∧
      t.fld F.PAIR_COUNTS_0_TAKEOVERS = min (s.fld F.PAIR_COUNTS_0_TAKEOVERS + 1) 0xFFFF ∧
      t.image.sigs = s.image.sigs ∧ t.image.data = s.image.data) ∧
  (∀ (s : State), s.pair.cause = none → Yields .takeover s fun t => t = s) ∧
  (∀ (s : State) (c : Nat), s.pair.cause = some c → s.pairState = psResync → Yields .takeover s fun t =>
    t.pairState = psAlone ∧ t.pair.cause = none ∧ t.pair.resyncing = false ∧
    (s.phase = .running → t.image.forces = [] ∧ t.image.fire = [] ∧ t.image.fireIn = []) ∧
    (s.phase ≠ .running → t.image.sigs = s.image.sigs)) ∧
  (∀ (s : State) (c : Nat), s.pair.cause = some c → s.pairState ≠ psResync → psInSync s.pairState = false →
    Yields .takeover s fun t => t = { s with pair.cause := none }) ∧
  (∀ (s : State) (n : Fin 8) (key : BitVec 8), writes s n.val → Yields (.pairHandover n key) s fun t =>
    let busy := s.pairBusy = true ∨ psInSync s.peerState = false ∨ 100 < s.sendLag
    let status := if s.pairState ≠ psActive then 8 else if busy then 1
      else if s.fld F.ACCT_QUOTA_1_FIRING 0 ≤ s.pendingOf 0 then 3 else if waiting s then 1 else 0
    (key ≠ 0x3C → s.Answered 8 t) ∧
    (key = 0x3C → status = 0 → s.Queued (.word (R.PAIR_CTRL.addr 0 0) handover n.val (s.session n.val).account) t) ∧
    (key = 0x3C → status ≠ 0 → (s.setFld F.PAIR_RESULT_STATUS status).Answered status t)) ∧
  (∀ (s : State) (n a : Nat), s.pairState = psActive → psInSync s.peerState = true → s.pairBusy = false → s.sendLag ≤ 100 →
    s.pendingOf 0 < s.fld F.ACCT_QUOTA_1_FIRING 0 → s.Takes (.word (R.PAIR_CTRL.addr 0 0) handover n a) fun t =>
      t.fld F.PAIR_RESULT_STATUS = 0 ∧ t.pairState = psActive ∧ scheduled s t 1 (s.tl - 1000 + 2000000) ∧ t.image.sigs = s.image.sigs) ∧
  (∀ (s : State) (n : Fin 8) (key : BitVec 8), writes s n.val → Yields (.pairAssume n key) s (if s.pairState = psIsolated ∧ key = 0x3C then
      s.Queued (.word (R.PAIR_CTRL.addr 0 0) (ctrlWord 0x3C 2) n.val (s.session n.val).account) else s.Answered 8)) ∧
  (∀ (s : State) (n a : Nat), s.Takes (.word (R.PAIR_CTRL.addr 0 0) (ctrlWord 0x3C 2) n a) fun t =>
    (s.pairState ≠ psIsolated → t = s) ∧ (s.pairState = psIsolated → t.pairState = psAlone ∧ t.pair.cause = none)) ∧
  (∀ (s : State) (f : Fire), due s f → s.pairState = psActive → psInSync s.peerState = true → s.sendLag ≤ 100 →
    Yields .handoverActionDue s fun t =>
      t.pairState = psOutgoing ∧ t.pair.winOpen = true ∧ t.pair.window = some s.tick ∧ t.reg R.PAIR_SWAP_DUE = 0xFFFFFFFF ∧
      t.image = { s.image with fired := [] }) ∧
  (∀ (s : State) (f : Fire), due s f → psInSync s.pairState = true → s.peerState = psActive → s.lagUs ≤ 100 →
    Yields .handoverActionDue s fun t =>
      t.pairState = psActive ∧ t.pair.winOpen = true ∧ t.pair.window = some s.tick ∧ t.pair.sending = true ∧
      t.image.sigs = s.image.sigs ∧ t.image.fired = []) ∧
  (∀ (s : State) (f : Fire), due s f → s.pairState = psActive → psInSync s.peerState = false ∨ 100 < s.sendLag →
    Yields .handoverActionDue s fun t =>
      t.pairState = psActive ∧ t.pair.winOpen = s.pair.winOpen ∧ t.fld F.PAIR_RESULT_STATUS = 6 ∧ t.image = { s.image with fired := [] }) ∧
  (∀ (s : State), (s.image.fired.any fun f => f.action && (f.target == 1 || f.target == 2)) = false →
    Yields .handoverActionDue s fun t => t = s) ∧
  (∀ (s : State) (f : Fire), due s f → psInSync s.pairState = true → (s.peerState ≠ psActive ∨ 100 < s.lagUs) →
    Yields .handoverActionDue s fun t => t.pairState = s.pairState ∧ t.fld F.PAIR_RESULT_STATUS = 6 ∧ t.pair.hold = [] ∧
      t.pair.winOpen = s.pair.winOpen ∧ t.image = { s.image with fired := [] }) ∧
  (∀ (s : State), (s.pair.winOpen = false ∨ s.tick < s.pair.window.getD 0 + 600) → Yields .handoverWindowEnd s fun t => t = s) ∧
  (∀ (s : State), s.pair.winOpen = true → s.pair.window.getD 0 + 600 ≤ s.tick → s.pairState = psOutgoing →
    Yields .handoverWindowEnd s fun t =>
      t.pairState = psResync ∧ t.pair.winOpen = false ∧ t.pair.sending = false ∧
      t.fld F.PAIR_COUNTS_0_HANDOVERS = min (s.fld F.PAIR_COUNTS_0_HANDOVERS + 1) 0xFFFF) ∧
  (∀ (s : State), s.pair.winOpen = true → s.pair.window.getD 0 + 600 ≤ s.tick → s.pairState = psActive →
    Yields .handoverWindowEnd s fun t =>
      t.pairState = psActive ∧ t.pair.winOpen = false ∧ t.pair.hold = [] ∧ t.image = s.image) ∧
  (∀ (s : State), s.pairState = psStandby → s.atHome = true → s.flag F.PAIR_STATUS_POLICY = false → s.pair.reclaimed = false →
    held s →
    Yields .reclaimTimer s fun t => t.flag F.PAIR_STATUS_RECLAIM_PENDING = true ∧ State.OnlyWords [R.PAIR_STATUS.base] s t) ∧
  (∀ (s : State), s.pairState ≠ psStandby ∨ s.atHome = false ∨ s.flag F.PAIR_STATUS_POLICY = true ∨ s.pair.reclaimed = true ∨ ¬ held s →
    Yields .reclaimTimer s fun t => t = s) ∧
  (∀ (s : State), s.pairState = psActive → s.fld F.PAIR_TIMING_SWAP_H ≠ 0 → s.reg R.PAIR_SWAP_DUE = 0 → s.peerState = psStandby → s.pairBusy = false →
    s.sendLag ≤ 100 → s.pendingOf 0 < s.fld F.ACCT_QUOTA_1_FIRING 0 → Yields .roleSwapDue s fun t =>
      scheduled s t 2 (s.tl + 2000000) ∧ t.fld F.PAIR_RESULT_STATUS = 0 ∧ t.pairState = psActive ∧ t.image.sigs = s.image.sigs) ∧
  (∀ (s : State), s.pairState = psActive → s.fld F.PAIR_TIMING_SWAP_H ≠ 0 → s.reg R.PAIR_SWAP_DUE = 0 →
    (s.peerState ≠ psStandby ∨ s.pairBusy = true ∨
    100 < s.sendLag ∨ s.fld F.ACCT_QUOTA_1_FIRING 0 ≤ s.pendingOf 0) → Yields .roleSwapDue s fun t =>
      t.pair = { s.pair with swapSaid := true } ∧ t.pairState = psActive ∧ t.image = s.image) ∧
  (∀ (s : State), s.pairState ≠ psActive ∨ s.fld F.PAIR_TIMING_SWAP_H = 0 ∨ s.reg R.PAIR_SWAP_DUE ≠ 0 → Yields .roleSwapDue s fun t => t = s)

/-- CAN_TX_ITEM_READ, CAN_TX_COMPLETE, CAN_TX_ERROR, CAN_BUSOFF_RECOVERY, CAN_INTEGRATED, CAN_RX_FRAME, CAN_RX_ITEM_WRITE,
CAN_CONFIG_APPLY, CAN_BUS_ERROR (R392, R393, R395, R396, R397, R398, R399, R401, R402). -/
def Obligations.CanChannels : Prop :=
  let chTill (s : State) (n t : Nat) : Prop := s.findTill (s.canOwner n) false ekCan n = some t
  let word (s : State) (n t : Nat) (ecc : List Ecc) (i : Nat) : Nat :=
    (if ecc.getD i .clean = .double then idleItem
      else nget 0 s.tillMem (s.tillPos (s.canOwner n) t ((s.till (s.canOwner n) t).rd + i))).toNat
  let len (h : Nat) : Nat := canLen (bit h 58) (bits h 55 52)
  let size (h : Nat) : Nat := 2 + (len h + 7) / 8
  let room (s : State) (n : Nat) : Prop := (s.canTill n).all fun p => decide (4 ≤ s.tillFree (s.canOwner n) p)
  let reads (s : State) (n t : Nat) (h : Nat) : Prop := s.canActive = true ∧ (s.canCh n).tripped = false ∧ s.canMode n ≠ cmOff ∧
    (s.canCh n).pend.length < 32 ∧ size h ≤ (s.till (s.canOwner n) t).unread ∧ (bit h 56 = true → room s n)
  let late (s : State) (g : CanFrame) : Prop := g.deadlineMs ≠ 0 ∧ 1000 * g.deadlineMs < s.tick - g.readAt
  let only (n : Nat) (s t : State) : Prop :=
    t = { s with regs := t.regs, vault := t.vault, can := t.can, tills := t.tills, tillMem := t.tillMem, free := t.free,
                 image := { s.image with last := t.image.last, updates := t.image.updates } } ∧
    (∀ m < 4, m ≠ n → t.canCh m = s.canCh m ∧ t.reg R.CAN_STATUS m = s.reg R.CAN_STATUS m ∧ t.reg R.CAN_CFG m = s.reg R.CAN_CFG m)
  let kept (s t : State) (n : Nat) : Prop := ∀ g ∈ (t.canCh n).pend, g ∈ (s.canCh n).pend
  let hears (s : State) (n : Nat) (f : CanRx) : Prop := canRxOk f = true ∧ s.canOnBus n = true ∧ s.canMode n ≠ cmLoopInt ∧
    (f.fdf = true → f.res = false ∧ s.flag F.CAN_CFG_FD n = true)
  let hit (s : State) (n k : Nat) (f : CanRx) : Prop := s.canMatch n k f.ide f.id.toNat = true
  let sends (s : State) (n : Nat) (f : CanFrame) : Prop := s.canCur n = some f ∧ s.canOnBus n = true
  let free (s : State) (n : Nat) : Prop := s.canCur n = none ∨ s.canOnBus n = false
  (∀ (s : State) (n : Fin 4) (ecc : List Ecc), s.findTill (s.canOwner n.val) false ekCan n.val = none →
    Yields (.canTxItemRead n ecc) s fun t => t = s) ∧
  (∀ (s : State) (n : Fin 4) (ecc : List Ecc) (k : Nat), chTill s n.val k →
    ((s.till (s.canOwner n.val) k).unread < 2 ∨ ¬ reads s n.val k (word s n.val k ecc 0)) →
    Yields (.canTxItemRead n ecc) s fun t => t = s) ∧
  (∀ (s : State) (n : Fin 4) (ecc : List Ecc) (k : Nat), chTill s n.val k → 2 ≤ (s.till (s.canOwner n.val) k).unread →
    reads s n.val k (word s n.val k ecc 0) → s.canOwner n.val < 8 → k < 16 → Yields (.canTxItemRead n ecc) s fun t =>
      let h := word s n.val k ecc 0
      let r := word s n.val k ecc 1
      let data := (List.range (8 * (size h - 2))).map fun b => BitVec.ofNat 8 (word s n.val k ecc (2 + b / 8) / 2 ^ (8 * (b % 8)))
      let sound := ((ecc.take (size h)).any (· == .double)) = false ∧ bits h 63 60 = 1 ∧ bits h 31 29 = 0 ∧
        (bit h 59 = true ∨ bits h 28 11 = 0) ∧ bits r 63 16 = 0 ∧ (data.drop (len h)).all (· == 0) = true ∧
        (bit h 57 = true → bit h 58 = true) ∧ (bit h 58 = true → s.flag F.CAN_CFG_FD n.val = true) ∧
        (bit h 56 = true → (s.canTill n.val).isSome = true)
      let f : CanFrame := ⟨bit h 59, bit h 58, bit h 57, bit h 56, bits h 55 52, bits h 51 48, bits h 47 32, bits h 28 0,
        bits r 15 0, data.take (len h), s.tick, 0, (s.canCh n.val).next⟩
      let stays := (s.canCh n.val).cur ≠ none ∨ s.canSends n.val = false
      (s.canTill n.val ≠ some k → t.till (s.canOwner n.val) k = { s.till (s.canOwner n.val) k with
        rd := (s.till (s.canOwner n.val) k).rd + size h, rel := (s.till (s.canOwner n.val) k).rd + size h,
        mark := (s.till (s.canOwner n.val) k).rd + size h }) ∧
      (¬ sound → (t.canCh n.val) = s.canCh n.val ∧
        t.fld F.CAN_COUNTS_1_TX_REFUSED n.val = min (s.fld F.CAN_COUNTS_1_TX_REFUSED n.val + 1) 0xFFFF) ∧
      (sound → (t.canCh n.val).next = (s.canCh n.val).next + 1 ∧
        (t.canCh n.val).pend = ((s.canCh n.val).pend ++ [f]).filter fun g => stays || !decide (late s g)) ∧
      (sound → stays → bit h 56 = true → ∀ p < 16, s.canTill n.val = some p → p ≠ k →
        t.till (s.canOwner n.val) p = { s.till (s.canOwner n.val) p with reserved := (s.till (s.canOwner n.val) p).reserved + 4 }) ∧
      t.image = s.image ∧ only n.val s t) ∧
  (∀ (s : State) (n : Fin 4) (sof : Nat) (v : BitVec 8), free s n.val → Yields (.canTxComplete n sof v) s fun t => t = s) ∧
  (∀ (s : State) (n : Fin 4) (f : CanFrame) (sof : Nat) (v : BitVec 8), sends s n.val f → Yields (.canTxComplete n sof v) s fun t =>
      let loops := s.canMode n.val = cmLoopInt ∨ s.canMode n.val = cmLoopExt
      (∀ g ∈ (t.canCh n.val).pend, g ∈ (s.canCh n.val).pend ∧ g.order ≠ f.order) ∧ (t.canCh n.val).cur ≠ some f.order ∧
      t.fld F.CAN_COUNTS_0_TX_OK n.val = min (s.fld F.CAN_COUNTS_0_TX_OK n.val + 1) 0xFFFF ∧
      t.fld F.CAN_STATUS_TEC n.val = s.fld F.CAN_STATUS_TEC n.val - 1 ∧
      (f.fdf = true → s.flag F.CAN_TDC_EN n.val = true → t.fld F.CAN_TDC_TDCV n.val = v.toNat) ∧
      t.fld F.CAN_COUNTS_0_RX_OK n.val = (if loops then min (s.fld F.CAN_COUNTS_0_RX_OK n.val + 1) 0xFFFF
        else s.fld F.CAN_COUNTS_0_RX_OK n.val) ∧
      (s.canActive = false → t.canState n.val = csIntegrating ∧ t.tills = s.tills) ∧
      (¬ loops → t.image = s.image ∧ (t.canCh n.val).rx = (s.canCh n.val).rx) ∧ only n.val s t) ∧
  (∀ (s : State) (n : Fin 4) (e : CanErr) (d x : Bool), free s n.val → Yields (.canTxError n e d x) s fun t => t = s) ∧
  (∀ (s : State) (n : Fin 4) (f : CanFrame) (e : CanErr) (d x : Bool), sends s n.val f → Yields (.canTxError n e d x) s fun t =>
      let tec := s.fld F.CAN_STATUS_TEC n.val + (if x then 0 else 8)
      (255 < tec → t.canState n.val = csBusOff ∧ t.fld F.CAN_STATUS_TEC n.val = 255 ∧
        t.canCh n.val = { s.canCh n.val with
          cur := none, busOffAt := s.tick,
          pend := (s.canCh n.val).pend.filter fun g => s.canActive || g.order != f.order } ∧
        t.fld F.CAN_STATUS_RECOVERY n.val = 0 ∧ t.fld F.CAN_COUNTS_3_BUS_OFF n.val = min (s.fld F.CAN_COUNTS_3_BUS_OFF n.val + 1) 0xFF ∧
        t.tillMem = s.tillMem ∧ t.tills = s.tills) ∧
      (tec ≤ 255 → t.fld F.CAN_STATUS_TEC n.val = tec ∧ t.canState n.val ≠ csBusOff ∧
        (s.canActive = false ∨ (f.retry ≠ 15 ∧ f.retry ≤ f.attempts) → ∀ g ∈ (t.canCh n.val).pend, g.order ≠ f.order) ∧
        (s.canActive = false → t.canState n.val = csIntegrating ∧ t.tills = s.tills)) ∧
      t.reg R.CAN_LAST_ERR n.val = b2n d * 256 + canErrCode e ∧
      t.fld F.CAN_COUNTS_3_ERRORS n.val = min (s.fld F.CAN_COUNTS_3_ERRORS n.val + 1) 0xFFFF ∧ t.image = s.image ∧ only n.val s t) ∧
  (∀ (s : State) (n : Fin 4), (s.canState n.val ≠ csBusOff ∨ (s.canCh n.val).tripped = true) →
    Yields (.canBusoffRecovery n) s fun t => t = s) ∧
  (∀ (s : State) (n : Fin 4), s.canState n.val = csBusOff → (s.canCh n.val).tripped = false → Yields (.canBusoffRecovery n) s fun t =>
      t.canState n.val = csActive ∧ t.fld F.CAN_STATUS_TEC n.val = 0 ∧ t.fld F.CAN_STATUS_REC n.val = 0 ∧
      t.fld F.CAN_STATUS_RECOVERY n.val = 128 ∧ kept s t n.val ∧ t.image = s.image ∧ only n.val s t) ∧
  (∀ (s : State) (n : Fin 4), s.canState n.val ≠ csIntegrating → Yields (.canIntegrated n) s fun t => t = s) ∧
  (∀ (s : State) (n : Fin 4), s.canState n.val = csIntegrating → Yields (.canIntegrated n) s fun t =>
      t.canState n.val = (if 127 < s.fld F.CAN_STATUS_TEC n.val ∨ 127 < s.fld F.CAN_STATUS_REC n.val then csPassive else csActive) ∧
      t.fld F.CAN_STATUS_TEC n.val = s.fld F.CAN_STATUS_TEC n.val ∧ t.fld F.CAN_STATUS_REC n.val = s.fld F.CAN_STATUS_REC n.val ∧
      kept s t n.val ∧ t.image = s.image ∧ only n.val s t) ∧
  (∀ (s : State) (n : Fin 4) (f : CanRx), canRxOk f = false → execCanRxFrame n f s = .fault (.illFormed "CAN_RX_FRAME")) ∧
  (∀ (s : State) (n : Fin 4) (f : CanRx), canRxOk f = true → (s.canOnBus n.val = false ∨ s.canMode n.val = cmLoopInt) →
    Yields (.canRxFrame n f) s fun t => t = s) ∧
  (∀ (s : State) (n : Fin 4) (f : CanRx), hears s n.val f → f.remote = false → s.canActive = true → Yields (.canRxFrame n f) s fun t =>
      (∀ k < 64, hit s n.val k f → s.flag F.CAN_FLT_CTRL_SIG n.val k = true →
        (t.image.updates.filter fun u => u.kind == kCan && u.index == 64 * n.val + k).getLast? =
          some ⟨s.tick + 1, kCan, 64 * n.val + k, ⟨canValue f.data (s.fld F.CAN_FLT_CTRL_BYTE_OFF n.val k), qValid, s.stampNs f.sof⟩⟩) ∧
      t.fld F.CAN_COUNTS_0_RX_OK n.val = min (s.fld F.CAN_COUNTS_0_RX_OK n.val + 1) 0xFFFF ∧ only n.val s t) ∧
  (∀ (s : State) (n : Fin 4) (f : CanRx) (k : Fin 64), hears s n.val f → f.remote = false → s.canActive = true →
    hit s n.val k.val f → s.flag F.CAN_FLT_CTRL_TILL n.val k.val = true →
    (∀ j < k.val, hit s n.val j f → s.flag F.CAN_FLT_CTRL_TILL n.val j = false) → (s.canTill n.val).isSome = true →
    Yields (.canRxFrame n f) s fun t =>
      let item := BitVec.ofNat 64 (2 ^ 60 + canFlags f.ide f.fdf f.brs f.esi f.dlc.val + k.val * 2 ^ 32 + f.id.toNat) ::
        s.stampNs f.sof :: canWords f.data
      ((s.canCh n.val).rx.length < 64 → (t.canCh n.val).rx = (s.canCh n.val).rx ++ [item]) ∧
      (64 ≤ (s.canCh n.val).rx.length → (t.canCh n.val).rx = (s.canCh n.val).rx ∧
        t.fld F.CAN_COUNTS_2_RX_LOST n.val = min (s.fld F.CAN_COUNTS_2_RX_LOST n.val + 1) 0xFFFF)) ∧
  (∀ (s : State) (n : Fin 4) (f : CanRx), hears s n.val f → (f.remote = true ∨ ∀ k < 64, s.canMatch n.val k f.ide f.id.toNat = false) →
    Yields (.canRxFrame n f) s fun t => t.image = s.image ∧ (t.canCh n.val).rx = (s.canCh n.val).rx ∧
      t.fld F.CAN_COUNTS_0_RX_OK n.val = min (s.fld F.CAN_COUNTS_0_RX_OK n.val + 1) 0xFFFF ∧
      t.fld F.CAN_COUNTS_2_NOMATCH n.val = min (s.fld F.CAN_COUNTS_2_NOMATCH n.val + 1) 0xFFFF ∧ only n.val s t) ∧
  (∀ (s : State) (n : Fin 4) (f : CanRx), canRxOk f = true → s.canOnBus n.val = true → s.canMode n.val ≠ cmLoopInt → f.fdf = true →
    (f.res = true ∨ s.flag F.CAN_CFG_FD n.val = false) → Yields (.canRxFrame n f) s fun t => t.image = s.image ∧ (t.canCh n.val).rx = (s.canCh n.val).rx ∧
      t.fld F.CAN_COUNTS_0_RX_OK n.val = s.fld F.CAN_COUNTS_0_RX_OK n.val ∧
      (s.flag F.CAN_CFG_PEX n.val = true → t.canState n.val = csIntegrating ∧ t.fld F.CAN_COUNTS_3_ERRORS n.val = s.fld F.CAN_COUNTS_3_ERRORS n.val) ∧
      (s.flag F.CAN_CFG_PEX n.val = false → t.reg R.CAN_LAST_ERR n.val = canErrCode .form ∧
        t.fld F.CAN_COUNTS_3_ERRORS n.val = min (s.fld F.CAN_COUNTS_3_ERRORS n.val + 1) 0xFFFF) ∧ only n.val s t) ∧
  (∀ (s : State) (n : Fin 4), ((s.canCh n.val).rx = [] ∨ s.canTill n.val = none) → Yields (.canRxItemWrite n) s fun t => t = s) ∧
  (∀ (s : State) (n : Fin 4) (x : List W64) (xs : List (List W64)) (k : Nat), (s.canCh n.val).rx = x :: xs → s.canTill n.val = some k →
    x.length ≤ s.tillFree (s.canOwner n.val) k → Yields (.canRxItemWrite n) s fun t =>
      (t.canCh n.val) = { s.canCh n.val with rx := xs } ∧
      t.till (s.canOwner n.val) k = { s.till (s.canOwner n.val) k with wr := (s.till (s.canOwner n.val) k).wr + x.length } ∧
      (∀ i < x.length, nget 0 t.tillMem (s.tillPos (s.canOwner n.val) k ((s.till (s.canOwner n.val) k).wr + i)) = x.getD i 0) ∧
      t = { s with can := t.can, tills := t.tills, tillMem := t.tillMem }) ∧
  (∀ (s : State) (n : Fin 4) (x : List W64) (xs : List (List W64)) (k : Nat), (s.canCh n.val).rx = x :: xs → s.canTill n.val = some k →
    s.tillFree (s.canOwner n.val) k < x.length → Yields (.canRxItemWrite n) s fun t => t = s) ∧
  (∀ (s : State) (n : Fin 4), (s.canCh n.val).cfg = [] → Yields (.canConfigApply n) s fun t => t = s) ∧
  (∀ (s : State) (n : Fin 4), (s.canCh n.val).cfg ≠ [] → Yields (.canConfigApply n) s fun t =>
      let now (off : Nat) (r : Reg) : Nat := ((nget none (s.canCh n.val).cfg off).map (·.toNat)).getD (s.reg r n.val)
      t.reg R.CAN_CFG n.val = now 0 R.CAN_CFG ∧ t.reg R.CAN_NBT n.val = now 4 R.CAN_NBT ∧ t.reg R.CAN_DBT n.val = now 8 R.CAN_DBT ∧
      t.flag F.CAN_TDC_EN n.val = bit (now 12 R.CAN_TDC) F.CAN_TDC_EN.lo ∧ t.fld F.CAN_TDC_TDCV n.val = s.fld F.CAN_TDC_TDCV n.val ∧
      (t.canCh n.val).cfg = [] ∧ (t.canCh n.val).cur = none ∧ t.fld F.CAN_STATUS_TEC n.val = 0 ∧ t.fld F.CAN_STATUS_REC n.val = 0 ∧
      (t.fld F.CAN_CFG_MODE n.val = cmOff → (t.canCh n.val).pend = [] ∧ t.canState n.val = csStopped) ∧
      (t.fld F.CAN_CFG_MODE n.val ≠ cmOff → (t.canCh n.val).pend = (s.canCh n.val).pend ∧
        t.canState n.val = (if t.canMode n.val = cmOff ∨ (s.canCh n.val).tripped then csStopped else csIntegrating)) ∧
      t.image = s.image ∧ only n.val s t) ∧
  (∀ (s : State) (n : Fin 4) (e : CanErr) (d first : Bool), (s.canOnBus n.val = false ∨ s.canMode n.val = cmLoopInt) →
    Yields (.canBusError n e d first) s fun t => t = s) ∧
  (∀ (s : State) (n : Fin 4) (e : CanErr) (d first : Bool), s.canOnBus n.val = true → s.canMode n.val ≠ cmLoopInt → Yields (.canBusError n e d first) s fun t =>
      t.fld F.CAN_STATUS_REC n.val = (if s.canMode n.val = cmRestricted then s.fld F.CAN_STATUS_REC n.val
        else min 255 (s.fld F.CAN_STATUS_REC n.val + if first then 8 else 1)) ∧
      t.fld F.CAN_STATUS_TEC n.val = s.fld F.CAN_STATUS_TEC n.val ∧ t.reg R.CAN_LAST_ERR n.val = b2n d * 256 + canErrCode e ∧
      t.fld F.CAN_COUNTS_3_ERRORS n.val = min (s.fld F.CAN_COUNTS_3_ERRORS n.val + 1) 0xFFFF ∧ t.image = s.image ∧ only n.val s t)

/-- VAULT_PAGE_TIMEOUT, VAULT_PAGE_VERIFIED, VAULT_FAULT_FLUSH_DONE, VAULT_CLOSING_FLUSH_DONE, VAULT_ERASE_DONE,
VAULT_RECOVERY_DONE, VAULT_WIN_DATA_READ (R411, R413, R414, R415, R416, R417, R418, R419, R420, R421). -/
def Obligations.VaultPagesErasesAndWindow : Prop :=
  let pages (s : State) (d sec page : Nat) : Prop := s.vturn = some d ∧ (s.vdev d).openSector = some (sec, page) ∧ page < 255 ∧
    (s.vmark d sec).mark = vmOpen
  let ready (s : State) : Prop := (s.vstate = vRunning ∨ s.vstate = vWriteThrough) ∧ s.vault.buf.length % 8 = 0 ∧ 8 ≤ s.vault.buf.length ∧
    s.vault.lost = 0 ∧ ((s.vault.buf.take 8).map (·.num)).Nodup
  let windows (s : State) (n : Nat) : Prop := (s.session n).opened = true ∧ s.alive = true ∧ s.limited (R.VAULT_WIN_DATA.addr 0 0) = false ∧
    s.mayRead (s.session n).account (R.VAULT_WIN_DATA.addr 0 0) = true ∧ s.claimed n R.VAULT_WIN_DATA 0 = false ∧
    s.owes n (R.VAULT_WIN_ADDR.addr 0 0) = false ∧ s.reg R.VAULT_WIN_ADDR < 2 ^ 32 - 4
  let only (s t : State) : Prop := t = { s with regs := t.regs, vault := t.vault } ∧
    State.Keeps ([R.VAULT_STATUS.base, R.VAULT_OLDEST.base, R.VAULT_COUNTS_1.base, R.VAULT_FLUSH_MAX.base] ++ eventWords) s t
  let read (s t : State) : Prop := t = { s with regs := t.regs, mgmt := t.mgmt, vault := { s.vault with capture := t.vault.capture } } ∧
    State.Keeps [R.VAULT_WIN_ADDR.addr 0 0] s t
  let works (s : State) : Prop := s.vstate = vRunning ∨ s.vstate = vWriteThrough ∨ s.vstate = vFlushing
  (∀ (s : State), (s.vstate ≠ vRunning ∨ s.vault.buf = []) → Yields .vaultPageTimeout s fun t => t = s) ∧
  (∀ (s : State), s.vstate = vRunning → s.vault.buf ≠ [] → Yields .vaultPageTimeout s fun t =>
    s.vault.buf <+: t.vault.buf ∧ t.vault.buf.length = (s.vault.buf.length + 7) / 8 * 8 ∧ t.vault.stored = s.vault.stored ∧
    (∀ x ∈ t.vault.buf.drop s.vault.buf.length, bits x.w1.toNat 63 40 = 0x10) ∧ only s t) ∧
  (∀ (s : State) (d sec page : Nat), ready s → pages s d sec page → Yields (.vaultPageVerified .verified) s fun t =>
    t.vault.buf = s.vault.buf.drop 8 ∧ (∀ x ∈ s.vault.buf.take 8, nget none t.vault.stored x.num = some (d, sec, x)) ∧
    (t.vdev d).openSector = some (sec, page + 1) ∧ t.vault.turn = 1 - d ∧ only s t) ∧
  (∀ (s : State) (d sec : Nat), ready s → s.vturn = some d → d < 2 → (s.vdev d).openSector = some (sec, 255) → 4 ≤ s.verased d →
    Yields (.vaultPageVerified .verified) s fun t => t.vault.buf = s.vault.buf.drop 8 ∧
      (∀ x ∈ s.vault.buf.take 8, nget none t.vault.stored x.num = some (d, sec, x)) ∧
      (t.vdev d).openSector = none ∧ t.vmark d sec = { s.vmark d sec with mark := vmFull } ∧ t.vault.turn = 1 - d ∧ only s t) ∧
  (∀ (s : State) (d sec : Nat), ready s → s.vturn = some d → d < 2 → (s.vdev d).openSector = none → 4 < s.verased d →
    (slotSectors.find? fun x => (s.vmark d x).mark == vmErased) = some sec → Yields (.vaultPageVerified .verified) s fun t =>
      t.vault.buf = s.vault.buf.drop 8 ∧ (t.vmark d sec).mark = vmOpen ∧ (t.vmark d sec).slot = (s.vault.buf.map (·.num)).headD 0 ∧
      (∀ x ∈ s.vault.buf.take 8, nget none t.vault.stored x.num = some (d, sec, x)) ∧
      (t.vdev d).openSector = some (sec, 1) ∧ t.vault.turn = 1 - d ∧ only s t) ∧
  (∀ (s : State) (o : PageOutcome), works s → s.vturn = none → Yields (.vaultPageVerified o) s fun t =>
    s.vault.buf <+: t.vault.buf ∧ t.vault.stored = s.vault.stored ∧ only s t) ∧
  (∀ (s : State) (d sec page : Nat) (o : PageOutcome), ready s → pages s d sec page → o = .notBlank ∨ o = .verifyFailed → 4 ≤ s.verased d →
    Yields (.vaultPageVerified o) s fun t =>
      s.vault.buf <+: t.vault.buf ∧ (t.vmark d sec).mark = vmTainted ∧ (t.vdev d).openSector = none ∧ t.vault.stored = s.vault.stored ∧
      t.vault.turn = s.vault.turn ∧ t.fld F.VAULT_COUNTS_1_TAINTED = min (s.fld F.VAULT_COUNTS_1_TAINTED + 1) 0xFF ∧
      only s t) ∧
  (∀ (s : State) (d sec page : Nat) (e : Fin 2), ready s → pages s d sec page → Yields (.vaultPageVerified (.logNotBlank e)) s fun t =>
    s.vault.buf <+: t.vault.buf ∧ t.vmark d sec = s.vmark d sec ∧ (t.vdev d).openSector = (s.vdev d).openSector ∧
      t.vault.stored = s.vault.stored ∧ t.vault.turn = s.vault.turn ∧ only s t) ∧
  (∀ (s : State) (o : PageOutcome), s.vstate = vFailed ∨ s.vstate = vRecovering → Yields (.vaultPageVerified o) s fun t => t = s) ∧
  (∀ (s : State) (n at_ us : Nat), s.vault.flush = some (0, n, at_) → s.vault.flushAgain = false →
    Yields (.vaultFaultFlushDone us) s fun t =>
      t.vault.flush = none ∧ t.fld F.VAULT_COUNTS_1_FLUSHES = min (s.fld F.VAULT_COUNTS_1_FLUSHES + 1) 0xFFFF ∧
      t.reg R.VAULT_FLUSH_MAX = max (s.reg R.VAULT_FLUSH_MAX) (min us (2 ^ 32 - 1)) ∧ only s t) ∧
  (∀ (s : State) (us : Nat), (s.vault.flush.all fun x => x.1 != 0) = true → Yields (.vaultFaultFlushDone us) s fun t => t = s) ∧
  (∀ (s : State) (cause n at_ us d sec page : Nat), s.vault.closing = some (cause, n, at_) → s.vault.buf.length < 8 → s.vstate = vFlushing →
    (∀ x ∈ s.vault.buf, x.num ≠ s.vnext) → pages s d sec page → Yields (.vaultClosingFlushDone us) s fun t =>
      let done := s.stop = .powerFail ∧ s.holding = false
      t.vault.closing = none ∧ t.vault.buf = [] ∧
      (nget none t.vault.stored s.vnext).map (fun x => (x.1, x.2.1, bits x.2.2.w1.toNat 63 48)) = some (d, sec, 0x1103) ∧
      (done → t.domOn 61 = false ∧ t.domOn 62 = false ∧ t.time.ticking = false) ∧
      (¬ done → (∀ k < 64, t.domOn k = s.domOn k) ∧ t.time = s.time) ∧ t.image = s.image ∧ t.phase = s.phase) ∧
  (∀ (s : State) (us : Nat), (8 ≤ s.vault.buf.length ∨ s.vault.closing = none ∨ s.vstate ≠ vFlushing) → Yields (.vaultClosingFlushDone us) s fun t => t = s) ∧
  (∀ (s : State) (d : Fin 2) (sec : Nat), (s.vdev d.val).erasing = some sec → s.vault.flush = none → s.vault.closing = none →
    Yields (.vaultEraseDone d true) s fun t => t.vmark d.val sec = ⟨vmErased, false, 0, 0, (s.vmark d.val sec).erases + 1⟩ ∧
      (t.vdev d.val).erasing ≠ some sec ∧ t.vault.buf = s.vault.buf ∧ only s t) ∧
  (∀ (s : State) (d : Fin 2) (sec : Nat), (s.vdev d.val).erasing = some sec → s.vault.flush = none → s.vault.closing = none →
    Yields (.vaultEraseDone d false) s fun t =>
      ((s.vmark d.val sec).fails < 2 → t.vmark d.val sec = { s.vmark d.val sec with fails := (s.vmark d.val sec).fails + 1 } ∧
        t.vdev d.val = s.vdev d.val ∧ t = { s with vault.marks := t.vault.marks }) ∧
      (2 ≤ (s.vmark d.val sec).fails → (t.vmark d.val sec).mark = vmRetired ∧ (t.vdev d.val).erasing ≠ some sec ∧
        t.fld F.VAULT_COUNTS_1_RETIRED = min (s.fld F.VAULT_COUNTS_1_RETIRED + 1) 0xFF) ∧ only s t) ∧
  (∀ (s : State) (d : Fin 2) (ok : Bool), (s.vdev d.val).erasing = none ∨ s.vault.flush.isSome = true ∨ s.vault.closing.isSome = true →
    Yields (.vaultEraseDone d ok) s fun t => t = s) ∧
  (∀ (s : State) (r : VaultRecovery), s.vstate = vRecovering → s.phase ≠ .waiting → s.phase ≠ .stopped →
    Yields (.vaultRecoveryDone r) s fun t =>
      t.vstate = (if r.usableA = false ∧ r.usableB = false then vFailed
        else if s.flag F.HOLDUP_STATUS_HOLDUP_OK then vRunning else vWriteThrough) ∧
      (∀ d < 2, (t.vdev d).usable = if d = 0 then r.usableA else r.usableB) ∧
      (∀ d < 2, ∀ k < 1024, (s.vmark d k).mark = vmErasing → (t.vmark d k).mark ≠ vmErasing ∨ (t.vdev d).erasing = some k) ∧
      ((r.usableA = true ∨ r.usableB = true) → t.vault.waiting = []) ∧ only s t) ∧
  (∀ (s : State) (r : VaultRecovery), s.vstate ≠ vRecovering ∨ s.phase = .waiting ∨ s.phase = .stopped → Yields (.vaultRecoveryDone r) s fun t => t = s) ∧
  (∀ (s : State) (n : Fin 8) (v : VSlot), windows s n.val → s.reg R.VAULT_WIN_ADDR % 32 = 0 →
    s.vfind (s.reg R.VAULT_WIN_ADDR / 32) = some v → Yields (.vaultWinDataRead n) s fun t =>
      t.mgmt.status = 0 ∧ t.mgmt.data = v.half 0 ∧ t.reg R.VAULT_WIN_ADDR = s.reg R.VAULT_WIN_ADDR + 4 ∧
      nget none t.vault.capture n.val = some v ∧ read s t) ∧
  (∀ (s : State) (n : Fin 8) (v : VSlot), windows s n.val → s.reg R.VAULT_WIN_ADDR % 32 ≠ 0 → nget none s.vault.capture n.val = some v →
    Yields (.vaultWinDataRead n) s fun t =>
      t.mgmt.status = 0 ∧ t.mgmt.data = v.half (s.reg R.VAULT_WIN_ADDR / 4 % 8) ∧ t.vault = s.vault ∧
      t.reg R.VAULT_WIN_ADDR = s.reg R.VAULT_WIN_ADDR + 4 ∧ read s t) ∧
  (∀ (s : State) (n : Fin 8), windows s n.val → (if s.reg R.VAULT_WIN_ADDR % 32 = 0 then s.vfind (s.reg R.VAULT_WIN_ADDR / 32)
      else nget none s.vault.capture n.val) = none →
    Yields (.vaultWinDataRead n) s fun t => t.mgmt.status = 9 ∧ t.mgmt.data = 0 ∧ read s t ∧
      t.reg R.VAULT_WIN_ADDR = s.reg R.VAULT_WIN_ADDR + 4) ∧
  (∀ (s : State) (n : Fin 8), (s.session n.val).opened = false → Yields (.vaultWinDataRead n) s fun t => t = s)

/-- Wheel test and retest, fuse, rotation step, spare, switch, skip, loss, load, WHEEL_SCRUB, LEDGER_SCRUB: what each does and
leaves alone (R425, R427, R428, R430, R431, R432, R434, R436, R437, R438). -/
def Obligations.WheelTestsRotationAndLoss : Prop :=
  let wheelWords (w : Nat) : List Nat := [R.WHEEL_STATE.addr w 0, R.WHEEL_TEST.addr w 0, R.WHEEL_SIG.addr w 0, R.WHEEL_SIG.addr w 0 + 4]
  let shown : List Nat := [R.ST_STATUS.base, R.ST_COUNTS.base, R.ST_ROUND.base, R.SAFE_STATUS.base, R.SAFE_CMP.base]
  let doms : List Nat := [R.DOMAIN_ON.addr 0 0, R.DOMAIN_ON.addr 0 0 + 4]
  let same (s t : State) : Prop := t.phase = s.phase ∧ (∀ l < 16, t.fld F.ST_MAP_WHEEL l = s.fld F.ST_MAP_WHEEL l) ∧
    t = { s with regs := t.regs, vault := t.vault, selfTest := t.selfTest }
  let only (ws : List Nat) (s t : State) : Prop := same s t ∧ State.Keeps (ws.flatMap wheelWords ++ shown ++ doms ++ eventWords) s t
  let switching (s : State) (w p : Nat) : Prop := s.selfTest.target = some w ∧ s.selfTest.spare = some p ∧ w < 18 ∧ p < 18 ∧ w ≠ p ∧
    s.rotState = rotSwitchWait
  (∀ (s : State) (w : Fin 18) (m : W64), (s.pwheel w.val).test = some .main → Yields (.wheelTestDone w none m) s fun t =>
    t.wst w.val = wsSpare ∧ t.fld F.WHEEL_STATE_RESULT w.val = 1 ∧ (t.pwheel w.val).test = none ∧ (t.pwheel w.val).passedAt = some s.tick ∧
    t.fld F.ST_COUNTS_PASSED = (if s.phase = .starting then s.fld F.ST_COUNTS_PASSED else min (s.fld F.ST_COUNTS_PASSED + 1) 0xFFFF) ∧ only [w.val] s t) ∧
  (∀ (s : State) (w : Fin 18) (c : Fin 11) (m : W64), (s.pwheel w.val).test = some .main → Yields (.wheelTestDone w (some c) m) s fun t =>
    (t.pwheel w.val).test = some (.retest c.val) ∧ t.fld F.WHEEL_STATE_FAIL_CP w.val = c.val ∧ t.reg64 R.WHEEL_SIG w.val = m.toNat ∧
    t.wst w.val = s.wst w.val ∧ only [w.val] s t ∧ t.vault = s.vault) ∧
  (∀ (s : State) (w : Fin 18) (c : Option (Fin 11)) (m : W64), (s.pwheel w.val).test ≠ some .main →
    Yields (.wheelTestDone w c m) s fun t => t = s) ∧
  (∀ (s : State) (w : Fin 18) (c : Nat) (agreed : Bool), (s.pwheel w.val).test = some (.retest c) → Yields (.wheelRetestDone w agreed) s fun t =>
    t.wst w.val = wsRemoved ∧ t.domOn w.val = false ∧ t.fld F.WHEEL_STATE_RESULT w.val = (if agreed then 2 else 3) ∧
    t.fld F.WHEEL_TEST_FAILS w.val = min (s.fld F.WHEEL_TEST_FAILS w.val + 1) 0xFF ∧
    (t.pwheel w.val).test = (if agreed = true ∨ s.vault.closing.isSome = true then none
      else some (.burn (s.flag F.WHEEL_STATE_STRIKE w.val))) ∧ only [w.val] s t) ∧
  (∀ (s : State) (w : Fin 18) (agreed : Bool), (match (s.pwheel w.val).test with | some (.retest _) => false | _ => true) = true →
    Yields (.wheelRetestDone w agreed) s fun t => t = s) ∧
  (∀ (s : State) (w : Fin 18), (match (s.pwheel w.val).test with | some (.burn _) => false | _ => true) = true →
    Yields (.fuseBurnDone w) s fun t => t = s) ∧
  (∀ (s : State) (w : Fin 18), (s.pwheel w.val).test = some (.burn false) → Yields (.fuseBurnDone w) s fun t =>
    t.flag F.WHEEL_STATE_STRIKE w.val = true ∧ t.flag F.WHEEL_STATE_OUT w.val = s.flag F.WHEEL_STATE_OUT w.val ∧
    t.wst w.val = s.wst w.val ∧ (t.pwheel w.val).test = none ∧ only [w.val] s t) ∧
  (∀ (s : State) (w : Fin 18), (s.pwheel w.val).test = some (.burn true) → Yields (.fuseBurnDone w) s fun t =>
    t.flag F.WHEEL_STATE_OUT w.val = true ∧ t.wst w.val = wsFused ∧ (t.pwheel w.val).test = none ∧ only [w.val] s t) ∧
  (∀ (s : State) (w p : Nat), s.phase = .running → s.selfTest.target = none → s.rotNext = some w → s.wst w = wsActive →
    s.bestSpare = some p → w < 18 → p < 18 → Yields .rotationStep s fun t =>
      t.selfTest.target = some w ∧ t.selfTest.spare = some p ∧ t.selfTest.prev = w ∧ t.wst p = wsPreparing ∧ t.wst w = wsActive ∧
      t.rotState = rotPreparing ∧ t.selfTest.interval = s.fld F.ST_CFG_INTERVAL_S ∧ only [w, p] s t) ∧
  (∀ (s : State) (w : Nat), s.phase = .running → s.selfTest.target = none → s.rotNext = some w → s.wst w = wsActive →
    s.bestSpare = none → w < 18 → Yields .rotationStep s fun t =>
      t.selfTest.target = some w ∧ t.selfTest.spare = s.selfTest.spare ∧ t.wst w = wsActive ∧ t.rotState = s.rotState ∧ only [w] s t) ∧
  (∀ (s : State), s.phase = .running → s.selfTest.target = none → s.rotNext = none → Yields .rotationStep s fun t =>
      t.selfTest.target = none ∧ t.selfTest.interval = s.fld F.ST_CFG_INTERVAL_S ∧ only [] s t) ∧
  (∀ (s : State) (w : Nat), s.phase = .running → s.selfTest.target = none → s.rotNext = some w → s.wst w ≠ wsActive → w < 18 →
    Yields .rotationStep s fun t =>
      t.selfTest.target = some w ∧ t.wst w = wsTesting ∧ (t.pwheel w).test = some .main ∧
      t.rotState = (if s.rotState = rotStopped then rotStopped else rotTesting) ∧ only [w] s t) ∧
  (∀ (s : State), s.phase ≠ .running ∨ s.selfTest.target.isSome = true → Yields .rotationStep s fun t => t = s) ∧
  (∀ (s : State), Yields .sparePrepared s fun t =>
    t.rotState = (if s.rotState = rotPreparing then rotSwitchWait else s.rotState) ∧ State.OnlyWords [R.ST_STATUS.base] s t) ∧
  (∀ (s : State) (w p : Nat), switching s w p → s.fld F.WHEEL_STATE_LWHEEL w < 16 → s.lwheelIdle (s.fld F.WHEEL_STATE_LWHEEL w) = true →
    Yields .wheelSwitch s fun t =>
      t.fld F.ST_MAP_WHEEL (s.fld F.WHEEL_STATE_LWHEEL w) = p ∧ t.wst p = wsActive ∧
      t.fld F.WHEEL_STATE_LWHEEL p = s.fld F.WHEEL_STATE_LWHEEL w ∧ t.wst w = wsTesting ∧ (t.pwheel w).test = some .main ∧
      t.rotState = rotTesting ∧ t = { s with regs := t.regs, selfTest := t.selfTest } ∧
      State.Keeps (wheelWords w ++ wheelWords p ++ shown ++ [R.ST_MAP.addr (s.fld F.WHEEL_STATE_LWHEEL w) 0]) s t) ∧
  (∀ (s : State), s.rotState ≠ rotSwitchWait ∨ s.selfTest.target = none ∨ s.selfTest.spare = none →
    Yields .wheelSwitch s fun t => t = s) ∧
  (∀ (s : State), s.rotState ≠ rotSwitchWait ∨ s.selfTest.target = none ∨ s.selfTest.spare = none →
    Yields .rotationSkip s fun t => t = s) ∧
  (∀ (s : State) (w p : Nat), switching s w p → s.lwheelIdle (s.fld F.WHEEL_STATE_LWHEEL w) = false → Yields .wheelSwitch s fun t => t = s) ∧
  (∀ (s : State) (w p : Nat), switching s w p → s.phase = .running → Yields .rotationSkip s fun t =>
    t.wst p = wsSpare ∧ t.selfTest.target = none ∧ t.selfTest.next.head? = some w ∧ t.rotState = rotWaiting ∧
    t.fld F.WHEEL_TEST_SKIPS w = min (s.fld F.WHEEL_TEST_SKIPS w + 1) 0xFF ∧ only [w, p] s t) ∧
  (∀ (s : State) (w : Fin 18), (s.wst w.val = wsSpare ∨ s.wst w.val = wsTesting ∨ (s.wst w.val = wsPreparing ∧ s.selfTest.spare = some w.val)) →
    Yields (.wheelLost w .trip) s fun t => t.wst w.val = wsRemoved ∧ t.domOn w.val = false ∧
      (s.wst w.val = wsTesting → (t.pwheel w.val).test = none ∧ t.fld F.WHEEL_STATE_RESULT w.val = 4) ∧ t.image = s.image ∧
      (∀ l < 16, t.fld F.ST_MAP_WHEEL l = s.fld F.ST_MAP_WHEEL l)) ∧
  (∀ (s : State) (w : Fin 18) (p : Nat), s.wst w.val = wsActive → s.fld F.WHEEL_STATE_LWHEEL w.val < 16 → s.replacement = some p →
    p < 18 → p ≠ w.val → Yields (.wheelLost w .trip) s fun t =>
      t.wst w.val = wsRemoved ∧ t.domOn w.val = false ∧ t.wst p = wsPreparing ∧
      t.fld F.WHEEL_STATE_LWHEEL p = s.fld F.WHEEL_STATE_LWHEEL w.val ∧ t.fld F.ST_MAP_WHEEL (s.fld F.WHEEL_STATE_LWHEEL w.val) = p ∧
      nget none t.selfTest.loading (s.fld F.WHEEL_STATE_LWHEEL w.val) = some p ∧ t.image.sigs = s.image.sigs) ∧
  (∀ (s : State) (w : Fin 18) (a : Nat), s.wst w.val = wsActive → s.fld F.WHEEL_STATE_LWHEEL w.val < 16 → s.replacement = none →
    s.lwheelAcct (s.fld F.WHEEL_STATE_LWHEEL w.val) = some a → a < 8 → s.acctState a = aRunning → Yields (.wheelLost w .trip) s fun t =>
      t.wst w.val = wsRemoved ∧ t.domOn w.val = false ∧ t.fld F.ST_MAP_WHEEL (s.fld F.WHEEL_STATE_LWHEEL w.val) = noWheel ∧
      t.acctState a = aFault ∧ t.fld F.ACCT_STATUS_CAUSE a = 6) ∧
  (∀ (s : State) (w : Fin 18) (a addr : Nat), s.wst w.val = wsActive → s.lwheelAcct (s.fld F.WHEEL_STATE_LWHEEL w.val) = some a → a < 8 →
    s.acctState a = aRunning → (s.pwheel w.val).errors = [] → Yields (.wheelLost w (.fetch addr)) s fun t =>
      t.acctState a = aFault ∧ t.fld F.ACCT_STATUS_CAUSE a = 4 ∧ t.wst w.val = wsActive ∧ (t.pwheel w.val).errors = [s.tick] ∧
      t.fld F.WHEEL_ECC_CODE_UNC w.val = min (s.fld F.WHEEL_ECC_CODE_UNC w.val + 1) 0xFF) ∧
  (∀ (s : State) (w : Fin 18) (why : WheelLoss), why ≠ .trip → s.wst w.val ≠ wsActive → Yields (.wheelLost w why) s fun t => t = s) ∧
  (∀ (s : State) (w : Fin 18) (a addr : Nat), s.wst w.val = wsActive → s.lwheelAcct (s.fld F.WHEEL_STATE_LWHEEL w.val) = some a → a < 8 →
    s.acctState a = aRunning → (s.pwheel w.val).errors = [] → Yields (.wheelLost w (.load addr)) s fun t =>
      t.acctState a = aFault ∧ t.fld F.ACCT_STATUS_CAUSE a = 4 ∧ t.wst w.val = wsActive ∧ (t.pwheel w.val).errors = [s.tick] ∧
      t.fld F.WHEEL_ECC_DATA_UNC w.val = min (s.fld F.WHEEL_ECC_DATA_UNC w.val + 1) 0xFF) ∧
  (∀ (s : State) (l : Fin 16) (p : Nat), nget none s.selfTest.loading l.val = some p → p < 18 → Yields (.spareLoaded l) s fun t =>
    t.wst p = wsActive ∧ t.fld F.WHEEL_STATE_LWHEEL p = l.val ∧ t.fld F.ST_MAP_WHEEL l.val = p ∧
    nget none t.selfTest.loading l.val = none ∧ t = { s with regs := t.regs, vault := t.vault, selfTest := t.selfTest } ∧
    State.Keeps (wheelWords p ++ shown ++ [R.ST_MAP.addr l.val 0] ++ eventWords) s t) ∧
  (∀ (s : State) (l : Fin 16), nget none s.selfTest.loading l.val = none → Yields (.spareLoaded l) s fun t => t = s) ∧
  (∀ (s : State) (e : WheelError), s.scrubbed e.wheel.val = true → e.double = false → Yields (.wheelScrub [e]) s fun t =>
    State.OnlyWords [R.WHEEL_ECC.addr e.wheel.val 0] s t ∧
    t.fld F.WHEEL_ECC_DATA_COR e.wheel.val = (if e.data then min (s.fld F.WHEEL_ECC_DATA_COR e.wheel.val + 1) 0xFF
      else s.fld F.WHEEL_ECC_DATA_COR e.wheel.val) ∧
    t.fld F.WHEEL_ECC_CODE_COR e.wheel.val = (if e.data then s.fld F.WHEEL_ECC_CODE_COR e.wheel.val
      else min (s.fld F.WHEEL_ECC_CODE_COR e.wheel.val + 1) 0xFF)) ∧
  (∀ (s : State) (e : WheelError), s.wst e.wheel.val = wsSpare → e.double = true →
    (s.pwheel e.wheel.val).errors.any (fun t => decide (s.tick < t + dayTicks)) = true → Yields (.wheelScrub [e]) s fun t =>
      t.wst e.wheel.val = wsRemoved ∧ t.domOn e.wheel.val = false ∧ t.image = s.image) ∧
  (∀ (s : State) (e : WheelError), s.scrubbed e.wheel.val = false → Yields (.wheelScrub [e]) s fun t => t = s) ∧
  (∀ (s : State) (e : WheelError), s.wst e.wheel.val = wsSpare → e.double = true →
    (s.pwheel e.wheel.val).errors.any (fun t => decide (s.tick < t + dayTicks)) = false → Yields (.wheelScrub [e]) s fun t =>
      t.wst e.wheel.val = wsSpare ∧ (t.pwheel e.wheel.val).errors = [s.tick] ∧ t.image = s.image ∧
      (if e.data then t.fld F.WHEEL_ECC_DATA_UNC e.wheel.val = min (s.fld F.WHEEL_ECC_DATA_UNC e.wheel.val + 1) 0xFF
        else t.fld F.WHEEL_ECC_CODE_UNC e.wheel.val = min (s.fld F.WHEEL_ECC_CODE_UNC e.wheel.val + 1) 0xFF)) ∧
  (∀ (s : State) (e : WheelError) (es : List WheelError), Yields (.wheelScrub (e :: es)) s fun t =>
    t = foldState State.scrubWheel es (s.scrubWheel e)) ∧
  (∀ (s : State), Yields (.wheelScrub []) s fun t => t = s) ∧
  (∀ (s : State), Yields (.ledgerScrub []) s fun t => t = s) ∧
  (∀ (s : State) (e : LedgerError) (es : List LedgerError), Yields (.ledgerScrub (e :: es)) s fun t =>
    t = foldState State.scrubLedger es (s.scrubLedger e)) ∧
  (∀ (s : State), Yields (.ledgerScrub [.uncorrectable]) s fun t => State.OnlyWords [R.LEDGER_ECC.base] s t ∧
    t.fld F.LEDGER_ECC_UNCORRECTED = min (s.fld F.LEDGER_ECC_UNCORRECTED + 1) 0xFFFF) ∧
  (∀ (s : State) (k : Fin 64) (addr : Fin 65536), s.flag F.TASK_CFG_PRESENT k.val = false →
    Yields (.ledgerScrub [.bothCopies k addr]) s fun t =>
      t.fld F.LEDGER_ECC_UNCORRECTED = min (s.fld F.LEDGER_ECC_UNCORRECTED + 2) 0xFFFF ∧
      t = { s with regs := t.regs, vault := t.vault } ∧ State.Keeps (R.LEDGER_ECC.base :: eventWords) s t) ∧
  (∀ (s : State), Yields (.ledgerScrub [.corrected]) s fun t => State.OnlyWords [R.LEDGER_ECC.base] s t ∧
    t.fld F.LEDGER_ECC_CORRECTED = min (s.fld F.LEDGER_ECC_CORRECTED + 1) 0xFFFF) ∧
  (∀ (s : State) (k : Fin 64) (addr : Fin 65536), s.flag F.TASK_CFG_PRESENT k.val = true → s.acctState (s.taskAcct k.val) = aRunning →
    Yields (.ledgerScrub [.bothCopies k addr]) s fun t =>
      t.acctState (s.taskAcct k.val) = aFault ∧ t.fld F.ACCT_STATUS_CAUSE (s.taskAcct k.val) = 4 ∧
      t.fld F.LEDGER_ECC_UNCORRECTED = min (s.fld F.LEDGER_ECC_UNCORRECTED + 2) 0xFFFF)

/-- PANEL_POWER_UP, PANEL_FRAME_SCAN, PANEL_RAIL_TIMEOUT, PANEL_RAIL_RETRY, PANEL_POWER_DOWN, PANEL_WIN_DATA_WRITE (R444, R447,
R449, R450, R451, R452). -/
def Obligations.PanelRailsScanAndWindow : Prop :=
  let sequenced (s t : State) : Prop := t.panel.avdd = true ∧ t.panel.vgl = true ∧ t.panel.vgh = true ∧ t.panel.backlight = false ∧
    t.panel.awaiting = false ∧ t.pnState = pnPowering ∧ t.panel.page.isSome = true ∧ t.panel.words = [] ∧
    State.Keeps [R.PANEL_STATUS.base] s t ∧ t = { s with regs := t.regs, panel := t.panel }
  let off (t : State) : Prop := t.panel.avdd = false ∧ t.panel.vgl = false ∧ t.panel.vgh = false ∧ t.panel.backlight = false
  (∀ (s : State), s.domOn 59 = true → s.pnState = pnOff → Yields .panelPowerUp s (sequenced s)) ∧
  (∀ (s : State), s.domOn 59 = false ∨ s.pnState ≠ pnOff → Yields .panelPowerUp s fun t => t = s) ∧
  (∀ (s : State), s.domOn 59 = true → s.pnState ≠ pnOff → s.panel.awaiting = false → Yields .panelFrameScan s fun t =>
    t.pnState = pnRunning ∧ t.panel.backlight = true ∧ t.reg R.PANEL_FRAMES = (s.reg R.PANEL_FRAMES + 1) % 2 ^ 32 ∧
    t.panel.ctrl = s.word R.PANEL_CTRL.base ∧ t.panel.scanAt = s.tick ∧ t.panel.avdd = s.panel.avdd ∧
    t = { s with regs := t.regs, panel := t.panel } ∧ State.Keeps [R.PANEL_FRAMES.base, R.PANEL_STATUS.base] s t ∧
    t.flag F.PANEL_STATUS_SOURCE_EFF = (bit (s.word R.PANEL_CTRL.base).toNat 0 && s.phase == .running && s.pairState != psResync &&
      s.acctState 0 != aFault && s.acctState 0 != aResetting)) ∧
  (∀ (s : State), s.domOn 59 = false ∨ s.pnState = pnOff ∨ s.panel.awaiting = true → Yields .panelFrameScan s fun t => t = s) ∧
  (∀ (s : State), s.pnState = pnPowering → s.panel.awaiting = false → Yields .panelRailTimeout s fun t =>
    off t ∧ t.panel.awaiting = true ∧ t = { s with panel := t.panel } ∧ t.panel.words = s.panel.words) ∧
  (∀ (s : State), s.pnState ≠ pnPowering ∨ s.panel.awaiting = true → Yields .panelRailTimeout s fun t => t = s) ∧
  (∀ (s : State), s.panel.awaiting = true → s.domOn 59 = true → Yields .panelRailRetry s (sequenced s)) ∧
  (∀ (s : State), s.panel.awaiting = false ∨ s.domOn 59 = false → Yields .panelRailRetry s fun t => t = s) ∧
  (∀ (s : State), s.domOn 59 = false → Yields .panelPowerDown s fun t =>
    off t ∧ t.pnState = pnOff ∧ t.panel.words = [] ∧ t.panel.page = none ∧ t.flag F.PANEL_STATUS_SOURCE_EFF = false ∧
    t = { s with regs := t.regs, panel := .init } ∧ State.Keeps [R.PANEL_STATUS.base] s t) ∧
  (∀ (s : State), s.domOn 59 = true → Yields .panelPowerDown s fun t => t = s) ∧
  (∀ (s : State) (n : Fin 8) (v : W32), s.granted n.val (R.PANEL_WIN_DATA.addr 0 0) R.PANEL_WIN_DATA 0 = true →
    s.reg R.PANEL_WIN_ADDR < 4 * frameWords → Yields (.panelWinDataWrite n v) s fun t =>
      t.mgmt.status = 0 ∧ t.reg R.PANEL_WIN_ADDR = s.reg R.PANEL_WIN_ADDR + 4 ∧
      t.mgmt.effects = s.mgmt.effects ++ [.frameWord (s.reg R.PANEL_WIN_ADDR / 4) v] ∧
      t = { s with regs := t.regs, mgmt := t.mgmt } ∧ State.Keeps [R.PANEL_WIN_ADDR.base] s t) ∧
  (∀ (s : State) (k : Nat) (v : W32), s.Takes (.frameWord k v) fun t =>
      t.frameWord k = v ∧ (∀ j, j ≠ k → t.frameWord j = s.frameWord j) ∧ t = { s with panel := t.panel }) ∧
  (∀ (s : State) (n : Fin 8) (v : W32), s.granted n.val (R.PANEL_WIN_DATA.addr 0 0) R.PANEL_WIN_DATA 0 = true →
    4 * frameWords ≤ s.reg R.PANEL_WIN_ADDR → Yields (.panelWinDataWrite n v) s (s.Answered 9))

end
end

