-- ==== Sys2Proof/Laws/NMap.lean ====
section
/-! SUPPORT. Laws of the sparse maps: a read after a write at the same key gives the value written, a write leaves every other
key alone, and every operation keeps the canonical form. -/

namespace Sys2Proof.Machine

/-! ### Read after write -/

@[simp] theorem nget_ninsert_same {V : Type} (d : V) (m : NMap V) (k : Nat) (v : V) : nget d (ninsert m k v) k = v := by
  induction m with
  | nil => simp [ninsert, nget]
  | cons p m ih =>
    obtain ⟨k', v'⟩ := p
    unfold ninsert
    split
    · simp [nget]
    · split
      · simp [nget]
      · rename_i h1 h2
        simp [nget, h2, ih]

theorem nget_ninsert_ne {V : Type} (d : V) (m : NMap V) {k j : Nat} (v : V) (h : j ≠ k) :
    nget d (ninsert m k v) j = nget d m j := by
  induction m with
  | nil => simp [ninsert, nget, h]
  | cons p m ih =>
    obtain ⟨k', v'⟩ := p
    unfold ninsert
    split
    · simp [nget, h]
    · split
      · rename_i h1 h2
        subst h2
        simp [nget, h]
      · simp [nget, ih]

@[simp] theorem nget_nerase_same {V : Type} (d : V) (m : NMap V) (k : Nat) : nget d (nerase m k) k = d := by
  induction m with
  | nil => rfl
  | cons p m ih =>
    obtain ⟨k', v'⟩ := p
    unfold nerase
    split
    · exact ih
    · rename_i h
      simp [nget, h, ih]

theorem nget_nerase_ne {V : Type} (d : V) (m : NMap V) {k j : Nat} (h : j ≠ k) : nget d (nerase m k) j = nget d m j := by
  induction m with
  | nil => rfl
  | cons p m ih =>
    obtain ⟨k', v'⟩ := p
    unfold nerase
    split
    · rename_i e
      subst e
      simp [nget, h, ih]
    · simp [nget, ih]

/-- A read after a write at the same key gives the value written. -/
@[simp] theorem nget_nset_same {V : Type} [DecidableEq V] (d : V) (m : NMap V) (k : Nat) (v : V) :
    nget d (nset d m k v) k = v := by
  unfold nset
  split
  · rename_i h
    simp [h]
  · simp

/-- A write leaves every other key alone. -/
theorem nget_nset_ne {V : Type} [DecidableEq V] (d e : V) (m : NMap V) {k j : Nat} (v : V) (h : j ≠ k) :
    nget e (nset d m k v) j = nget e m j := by
  unfold nset
  split
  · exact nget_nerase_ne e m h
  · exact nget_ninsert_ne e m v h

/-! ### The canonical form -/

theorem nabove_mono {V : Type} {a b : Nat} {m : NMap V} (hab : a ≤ b) (h : nabove b m = true) : nabove a m = true := by
  induction m with
  | nil => rfl
  | cons p m ih =>
    simp only [nabove, Bool.and_eq_true, decide_eq_true_eq] at h ⊢
    exact ⟨by omega, ih h.2⟩

theorem nabove_ninsert {V : Type} {b k : Nat} {v : V} {m : NMap V} (hk : b < k) (h : nabove b m = true) :
    nabove b (ninsert m k v) = true := by
  induction m with
  | nil => simp [ninsert, nabove, hk]
  | cons p m ih =>
    obtain ⟨k', v'⟩ := p
    simp only [nabove, Bool.and_eq_true, decide_eq_true_eq] at h
    unfold ninsert
    split
    · simp [nabove, hk, h.1, h.2]
    · split
      · simp [nabove, hk, h.2]
      · simp [nabove, h.1, ih h.2]

theorem nabove_nerase {V : Type} {b k : Nat} {m : NMap V} (h : nabove b m = true) : nabove b (nerase m k) = true := by
  induction m with
  | nil => rfl
  | cons p m ih =>
    obtain ⟨k', v'⟩ := p
    simp only [nabove, Bool.and_eq_true, decide_eq_true_eq] at h
    unfold nerase
    split
    · exact ih h.2
    · simp [nabove, h.1, ih h.2]

theorem ninsert_wf {V : Type} [DecidableEq V] {d : Nat → V} {m : NMap V} {k : Nat} {v : V} (hv : v ≠ d k)
    (h : nwf d m = true) : nwf d (ninsert m k v) = true := by
  induction m with
  | nil => simp [ninsert, nwf, nabove, hv]
  | cons p m ih =>
    obtain ⟨k', v'⟩ := p
    simp only [nwf, Bool.and_eq_true, decide_eq_true_eq] at h
    obtain ⟨⟨h1, h2⟩, h3⟩ := h
    unfold ninsert
    split
    · rename_i hk
      simp only [nwf, nabove, Bool.and_eq_true, decide_eq_true_eq]
      exact ⟨⟨hv, hk, nabove_mono (by omega) h2⟩, ⟨h1, h2⟩, h3⟩
    · split
      · rename_i hk
        subst hk
        simp only [nwf, Bool.and_eq_true, decide_eq_true_eq]
        exact ⟨⟨hv, h2⟩, h3⟩
      · rename_i hk hk'
        simp only [nwf, Bool.and_eq_true, decide_eq_true_eq]
        exact ⟨⟨h1, nabove_ninsert (by omega) h2⟩, ih h3⟩

theorem nerase_wf {V : Type} [DecidableEq V] {d : Nat → V} {m : NMap V} {k : Nat} (h : nwf d m = true) :
    nwf d (nerase m k) = true := by
  induction m with
  | nil => rfl
  | cons p m ih =>
    obtain ⟨k', v'⟩ := p
    simp only [nwf, Bool.and_eq_true, decide_eq_true_eq] at h
    obtain ⟨⟨h1, h2⟩, h3⟩ := h
    unfold nerase
    split
    · exact ih h3
    · simp only [nwf, Bool.and_eq_true, decide_eq_true_eq]
      exact ⟨⟨h1, nabove_nerase h2⟩, ih h3⟩

/-- A write keeps the canonical form, where the default of the map at that key is the one written against. -/
theorem nset_wf {V : Type} [DecidableEq V] {d : Nat → V} {m : NMap V} {k : Nat} {v : V} (h : nwf d m = true) :
    nwf d (nset (d k) m k v) = true := by
  unfold nset
  split
  · exact nerase_wf h
  · rename_i hv
    exact ninsert_wf hv h

theorem nabove_filter {V : Type} {b : Nat} {p : Nat × V → Bool} {m : NMap V} (h : nabove b m = true) :
    nabove b (m.filter p) = true := by
  induction m with
  | nil => rfl
  | cons x m ih =>
    simp only [nabove, Bool.and_eq_true, decide_eq_true_eq] at h
    rw [List.filter_cons]
    split
    · simp [nabove, h.1, ih h.2]
    · exact ih h.2

theorem filter_wf {V : Type} [DecidableEq V] {d : Nat → V} {p : Nat × V → Bool} {m : NMap V} (h : nwf d m = true) :
    nwf d (m.filter p) = true := by
  induction m with
  | nil => rfl
  | cons x m ih =>
    simp only [nwf, Bool.and_eq_true, decide_eq_true_eq] at h
    rw [List.filter_cons]
    split
    · simp only [nwf, Bool.and_eq_true, decide_eq_true_eq]
      exact ⟨⟨h.1.1, nabove_filter h.1.2⟩, ih h.2⟩
    · exact ih h.2

theorem nabove_nmapv {V : Type} [DecidableEq V] {d : V} {b : Nat} {f : Nat → V → V} {m : NMap V} (h : nabove b m = true) :
    nabove b (nmapv d f m) = true := by
  induction m with
  | nil => rfl
  | cons x m ih =>
    simp only [nabove, Bool.and_eq_true, decide_eq_true_eq] at h
    unfold nmapv
    split
    · exact ih h.2
    · simp [nabove, h.1, ih h.2]

theorem nmapv_wf {V : Type} [DecidableEq V] {d : V} {f : Nat → V → V} {m : NMap V} (h : nwf (fun _ => d) m = true) :
    nwf (fun _ => d) (nmapv d f m) = true := by
  induction m with
  | nil => rfl
  | cons x m ih =>
    simp only [nwf, Bool.and_eq_true, decide_eq_true_eq] at h
    unfold nmapv
    split
    · exact ih h.2
    · rename_i hv
      simp only [nwf, Bool.and_eq_true, decide_eq_true_eq]
      exact ⟨⟨hv, nabove_nmapv h.1.2⟩, ih h.2⟩

end Sys2Proof.Machine
end

