-- ==== Sys2Proof/Laws/Regs.lean ====
section
/-! SUPPORT. Laws of the register file: a register word, a register and a field read what was last written to them, and a write
leaves every other address, and every other field of the same register, alone. -/

namespace Sys2Proof.Machine

/-! ### Words -/

@[simp] theorem word_setWord_same (s : State) (a : Nat) (v : W32) : (s.setWord a v).word a = v := by
  simp [State.word, State.setWord]

theorem word_setWord_ne (s : State) {a b : Nat} (v : W32) (h : b ≠ a) : (s.setWord a v).word b = s.word b := by
  simp [State.word, State.setWord, nget_nset_ne _ _ _ _ h]

theorem reg_lt (s : State) (r : Reg) (i j : Nat) : s.reg r i j < 2 ^ 32 := (s.word _).isLt

theorem reg_setReg_same (s : State) (r : Reg) (v i j : Nat) (h : v < 2 ^ 32) : (s.setReg r v i j).reg r i j = v := by
  simpa [State.reg, State.setReg] using h

theorem reg_setReg_ne (s : State) {r q : Reg} (v : Nat) {i j k l : Nat} (h : q.addr k l ≠ r.addr i j) :
    (s.setReg r v i j).reg q k l = s.reg q k l := by
  simp only [State.reg, State.setReg, word_setWord_ne _ _ h]

/-! ### Bit fields -/

theorem testBit_bits (v hi lo n : Nat) : (bits v hi lo).testBit n = (decide (n < hi + 1 - lo) && v.testBit (lo + n)) := by
  rw [bits, Nat.testBit_mod_two_pow, Nat.testBit_div_two_pow, Nat.add_comm n lo]

theorem testBit_putBits {v hi lo f : Nat} (h : lo ≤ hi) (n : Nat) :
    (putBits v hi lo f).testBit n = if lo ≤ n ∧ n ≤ hi then f.testBit (n - lo) else v.testBit n := by
  have e : putBits v hi lo f =
      2 ^ (hi + 1) * (v / 2 ^ (hi + 1)) + (2 ^ lo * (f % 2 ^ (hi + 1 - lo)) + v % 2 ^ lo) := by
    unfold putBits; ring
  have h1 : v % 2 ^ lo < 2 ^ lo := Nat.mod_lt _ (Nat.two_pow_pos lo)
  have h2 : f % 2 ^ (hi + 1 - lo) < 2 ^ (hi + 1 - lo) := Nat.mod_lt _ (Nat.two_pow_pos _)
  have h3 : 2 ^ lo * (f % 2 ^ (hi + 1 - lo)) + v % 2 ^ lo < 2 ^ (hi + 1) := by
    have hp : (2 : Nat) ^ (hi + 1) = 2 ^ lo * 2 ^ (hi + 1 - lo) := by rw [← pow_add]; congr 1; omega
    rw [hp]
    calc 2 ^ lo * (f % 2 ^ (hi + 1 - lo)) + v % 2 ^ lo < 2 ^ lo * (f % 2 ^ (hi + 1 - lo)) + 2 ^ lo := by omega
      _ = 2 ^ lo * (f % 2 ^ (hi + 1 - lo) + 1) := by ring
      _ ≤ 2 ^ lo * 2 ^ (hi + 1 - lo) := Nat.mul_le_mul_left _ h2
  rw [e, Nat.testBit_two_pow_mul_add _ h3, Nat.testBit_two_pow_mul_add _ h1, Nat.testBit_div_two_pow,
    Nat.testBit_mod_two_pow, Nat.testBit_mod_two_pow]
  by_cases a : n < lo
  · have : n < hi + 1 := by omega
    simp [a, this]
  · by_cases b : n < hi + 1
    · have c1 : lo ≤ n := by omega
      have c2 : n ≤ hi := by omega
      have c3 : n - lo < hi + 1 - lo := by omega
      simp [a, b, c1, c2, c3]
    · have c2 : ¬ n ≤ hi := by omega
      have c4 : n - (hi + 1) + (hi + 1) = n := by omega
      simp [b, c2, c4]

theorem bits_putBits_same (v hi lo f : Nat) (h : lo ≤ hi) : bits (putBits v hi lo f) hi lo = f % 2 ^ (hi + 1 - lo) := by
  apply Nat.eq_of_testBit_eq
  intro n
  rw [testBit_bits, testBit_putBits h, Nat.testBit_mod_two_pow]
  by_cases a : n < hi + 1 - lo
  · have : lo ≤ lo + n ∧ lo + n ≤ hi := by omega
    simp only [a, decide_true, Bool.true_and, this, and_self, if_true, Nat.add_sub_cancel_left]
  · simp [a]

theorem bits_putBits_disjoint (v : Nat) {hi lo hi' lo' : Nat} (f : Nat) (h : lo ≤ hi) (d : hi' < lo ∨ hi < lo') :
    bits (putBits v hi lo f) hi' lo' = bits v hi' lo' := by
  apply Nat.eq_of_testBit_eq
  intro n
  rw [testBit_bits, testBit_bits, testBit_putBits h]
  by_cases a : n < hi' + 1 - lo'
  · have : ¬ (lo ≤ lo' + n ∧ lo' + n ≤ hi) := by omega
    simp [this]
  · simp [a]

theorem putBits_lt {v hi lo f : Nat} (h : lo ≤ hi) (h32 : hi < 32) (hv : v < 2 ^ 32) : putBits v hi lo f < 2 ^ 32 := by
  apply Nat.lt_pow_two_of_testBit
  intro n hn
  rw [testBit_putBits h]
  have : ¬ (lo ≤ n ∧ n ≤ hi) := by omega
  simp only [this, if_false]
  exact Nat.testBit_lt_two_pow (lt_of_lt_of_le hv (Nat.pow_le_pow_right (by omega) hn))

/-! ### Fields -/

/-- A field reads what was written to it. -/
theorem fld_setFld_same (s : State) (f : Fld) (v i j : Nat) (h : f.lo ≤ f.hi) (h32 : f.hi < 32) :
    (s.setFld f v i j).fld f i j = v % 2 ^ (f.hi + 1 - f.lo) := by
  rw [State.fld, State.setFld, reg_setReg_same _ _ _ _ _ (putBits_lt h h32 (reg_lt s _ _ _)), bits_putBits_same _ _ _ _ h]

/-- A write to another address leaves a field alone. -/
theorem fld_setReg_ne (s : State) {r : Reg} {f : Fld} (v : Nat) {i j k l : Nat} (h : f.reg.addr k l ≠ r.addr i j) :
    (s.setReg r v i j).fld f k l = s.fld f k l := by
  rw [State.fld, State.fld, reg_setReg_ne _ _ h]

theorem fld_setFld_ne (s : State) {e f : Fld} (v : Nat) {i j k l : Nat} (h : f.reg.addr k l ≠ e.reg.addr i j) :
    (s.setFld e v i j).fld f k l = s.fld f k l := fld_setReg_ne s _ h

theorem reg_setFld_ne (s : State) {r : Reg} {f : Fld} (v : Nat) {i j k l : Nat} (h : r.addr k l ≠ f.reg.addr i j) :
    (s.setFld f v i j).reg r k l = s.reg r k l := reg_setReg_ne s _ h

/-- A write to a field leaves the other fields of its register alone. -/
theorem fld_setFld_disjoint (s : State) {e f : Fld} (v : Nat) {i j : Nat} (hr : f.reg = e.reg) (h : e.lo ≤ e.hi)
    (h32 : e.hi < 32) (d : f.hi < e.lo ∨ e.hi < f.lo) : (s.setFld e v i j).fld f i j = s.fld f i j := by
  rw [State.fld, State.fld, State.setFld, hr, reg_setReg_same _ _ _ _ _ (putBits_lt h h32 (reg_lt s _ _ _)),
    bits_putBits_disjoint _ _ h d]

end Sys2Proof.Machine
end

