-- ==== Sys2Proof/Laws/State.lean ====
section
/-! SUPPORT. What each named update of the state leaves alone, one lemma per field, true by rfl; and what the accessor of the
sparse map it writes then reads. -/

namespace Sys2Proof.Machine

/-! ### setWord -/
@[simp] theorem State.setWord_pending (s : State) (a : Nat) (v : W32) : (s.setWord a v).pending = s.pending := rfl
@[simp] theorem State.setWord_tick (s : State) (a : Nat) (v : W32) : (s.setWord a v).tick = s.tick := rfl
@[simp] theorem State.setWord_free (s : State) (a : Nat) (v : W32) : (s.setWord a v).free = s.free := rfl
@[simp] theorem State.setWord_phase (s : State) (a : Nat) (v : W32) : (s.setWord a v).phase = s.phase := rfl
@[simp] theorem State.setWord_stop (s : State) (a : Nat) (v : W32) : (s.setWord a v).stop = s.stop := rfl
@[simp] theorem State.setWord_drive (s : State) (a : Nat) (v : W32) : (s.setWord a v).drive = s.drive := rfl
@[simp] theorem State.setWord_plate (s : State) (a : Nat) (v : W32) : (s.setWord a v).plate = s.plate := rfl
@[simp] theorem State.setWord_power (s : State) (a : Nat) (v : W32) : (s.setWord a v).power = s.power := rfl
@[simp] theorem State.setWord_start (s : State) (a : Nat) (v : W32) : (s.setWord a v).start = s.start := rfl
@[simp] theorem State.setWord_time (s : State) (a : Nat) (v : W32) : (s.setWord a v).time = s.time := rfl
@[simp] theorem State.setWord_vault (s : State) (a : Nat) (v : W32) : (s.setWord a v).vault = s.vault := rfl
@[simp] theorem State.setWord_accts (s : State) (a : Nat) (v : W32) : (s.setWord a v).accts = s.accts := rfl
@[simp] theorem State.setWord_tills (s : State) (a : Nat) (v : W32) : (s.setWord a v).tills = s.tills := rfl
@[simp] theorem State.setWord_tillMem (s : State) (a : Nat) (v : W32) : (s.setWord a v).tillMem = s.tillMem := rfl
@[simp] theorem State.setWord_mgmt (s : State) (a : Nat) (v : W32) : (s.setWord a v).mgmt = s.mgmt := rfl
@[simp] theorem State.setWord_image (s : State) (a : Nat) (v : W32) : (s.setWord a v).image = s.image := rfl
@[simp] theorem State.setWord_hoCauses (s : State) (a : Nat) (v : W32) : (s.setWord a v).hoCauses = s.hoCauses := rfl
@[simp] theorem State.setWord_ach (s : State) (a : Nat) (v : W32) : (s.setWord a v).ach = s.ach := rfl
@[simp] theorem State.setWord_hart (s : State) (a : Nat) (v : W32) : (s.setWord a v).hart = s.hart := rfl
@[simp] theorem State.setWord_dch (s : State) (a : Nat) (v : W32) : (s.setWord a v).dch = s.dch := rfl
@[simp] theorem State.setWord_dslice (s : State) (a : Nat) (v : W32) : (s.setWord a v).dslice = s.dslice := rfl
@[simp] theorem State.setWord_links (s : State) (a : Nat) (v : W32) : (s.setWord a v).links = s.links := rfl
@[simp] theorem State.setWord_pair (s : State) (a : Nat) (v : W32) : (s.setWord a v).pair = s.pair := rfl
@[simp] theorem State.setWord_can (s : State) (a : Nat) (v : W32) : (s.setWord a v).can = s.can := rfl
@[simp] theorem State.setWord_net (s : State) (a : Nat) (v : W32) : (s.setWord a v).net = s.net := rfl
@[simp] theorem State.setWord_out (s : State) (a : Nat) (v : W32) : (s.setWord a v).out = s.out := rfl
@[simp] theorem State.setWord_safety (s : State) (a : Nat) (v : W32) : (s.setWord a v).safety = s.safety := rfl
@[simp] theorem State.setWord_selfTest (s : State) (a : Nat) (v : W32) : (s.setWord a v).selfTest = s.selfTest := rfl
@[simp] theorem State.setWord_panel (s : State) (a : Nat) (v : W32) : (s.setWord a v).panel = s.panel := rfl

/-! ### setReg -/
@[simp] theorem State.setReg_pending (s : State) (r : Reg) (v i j : Nat) : (s.setReg r v i j).pending = s.pending := rfl
@[simp] theorem State.setReg_tick (s : State) (r : Reg) (v i j : Nat) : (s.setReg r v i j).tick = s.tick := rfl
@[simp] theorem State.setReg_free (s : State) (r : Reg) (v i j : Nat) : (s.setReg r v i j).free = s.free := rfl
@[simp] theorem State.setReg_phase (s : State) (r : Reg) (v i j : Nat) : (s.setReg r v i j).phase = s.phase := rfl
@[simp] theorem State.setReg_stop (s : State) (r : Reg) (v i j : Nat) : (s.setReg r v i j).stop = s.stop := rfl
@[simp] theorem State.setReg_drive (s : State) (r : Reg) (v i j : Nat) : (s.setReg r v i j).drive = s.drive := rfl
@[simp] theorem State.setReg_plate (s : State) (r : Reg) (v i j : Nat) : (s.setReg r v i j).plate = s.plate := rfl
@[simp] theorem State.setReg_power (s : State) (r : Reg) (v i j : Nat) : (s.setReg r v i j).power = s.power := rfl
@[simp] theorem State.setReg_start (s : State) (r : Reg) (v i j : Nat) : (s.setReg r v i j).start = s.start := rfl
@[simp] theorem State.setReg_time (s : State) (r : Reg) (v i j : Nat) : (s.setReg r v i j).time = s.time := rfl
@[simp] theorem State.setReg_vault (s : State) (r : Reg) (v i j : Nat) : (s.setReg r v i j).vault = s.vault := rfl
@[simp] theorem State.setReg_accts (s : State) (r : Reg) (v i j : Nat) : (s.setReg r v i j).accts = s.accts := rfl
@[simp] theorem State.setReg_tills (s : State) (r : Reg) (v i j : Nat) : (s.setReg r v i j).tills = s.tills := rfl
@[simp] theorem State.setReg_tillMem (s : State) (r : Reg) (v i j : Nat) : (s.setReg r v i j).tillMem = s.tillMem := rfl
@[simp] theorem State.setReg_mgmt (s : State) (r : Reg) (v i j : Nat) : (s.setReg r v i j).mgmt = s.mgmt := rfl
@[simp] theorem State.setReg_image (s : State) (r : Reg) (v i j : Nat) : (s.setReg r v i j).image = s.image := rfl
@[simp] theorem State.setReg_hoCauses (s : State) (r : Reg) (v i j : Nat) : (s.setReg r v i j).hoCauses = s.hoCauses := rfl
@[simp] theorem State.setReg_ach (s : State) (r : Reg) (v i j : Nat) : (s.setReg r v i j).ach = s.ach := rfl
@[simp] theorem State.setReg_hart (s : State) (r : Reg) (v i j : Nat) : (s.setReg r v i j).hart = s.hart := rfl
@[simp] theorem State.setReg_dch (s : State) (r : Reg) (v i j : Nat) : (s.setReg r v i j).dch = s.dch := rfl
@[simp] theorem State.setReg_dslice (s : State) (r : Reg) (v i j : Nat) : (s.setReg r v i j).dslice = s.dslice := rfl
@[simp] theorem State.setReg_links (s : State) (r : Reg) (v i j : Nat) : (s.setReg r v i j).links = s.links := rfl
@[simp] theorem State.setReg_pair (s : State) (r : Reg) (v i j : Nat) : (s.setReg r v i j).pair = s.pair := rfl
@[simp] theorem State.setReg_can (s : State) (r : Reg) (v i j : Nat) : (s.setReg r v i j).can = s.can := rfl
@[simp] theorem State.setReg_net (s : State) (r : Reg) (v i j : Nat) : (s.setReg r v i j).net = s.net := rfl
@[simp] theorem State.setReg_out (s : State) (r : Reg) (v i j : Nat) : (s.setReg r v i j).out = s.out := rfl
@[simp] theorem State.setReg_safety (s : State) (r : Reg) (v i j : Nat) : (s.setReg r v i j).safety = s.safety := rfl
@[simp] theorem State.setReg_selfTest (s : State) (r : Reg) (v i j : Nat) : (s.setReg r v i j).selfTest = s.selfTest := rfl
@[simp] theorem State.setReg_panel (s : State) (r : Reg) (v i j : Nat) : (s.setReg r v i j).panel = s.panel := rfl

/-! ### setFld -/
@[simp] theorem State.setFld_pending (s : State) (f : Fld) (v i j : Nat) : (s.setFld f v i j).pending = s.pending := rfl
@[simp] theorem State.setFld_tick (s : State) (f : Fld) (v i j : Nat) : (s.setFld f v i j).tick = s.tick := rfl
@[simp] theorem State.setFld_free (s : State) (f : Fld) (v i j : Nat) : (s.setFld f v i j).free = s.free := rfl
@[simp] theorem State.setFld_phase (s : State) (f : Fld) (v i j : Nat) : (s.setFld f v i j).phase = s.phase := rfl
@[simp] theorem State.setFld_stop (s : State) (f : Fld) (v i j : Nat) : (s.setFld f v i j).stop = s.stop := rfl
@[simp] theorem State.setFld_drive (s : State) (f : Fld) (v i j : Nat) : (s.setFld f v i j).drive = s.drive := rfl
@[simp] theorem State.setFld_plate (s : State) (f : Fld) (v i j : Nat) : (s.setFld f v i j).plate = s.plate := rfl
@[simp] theorem State.setFld_power (s : State) (f : Fld) (v i j : Nat) : (s.setFld f v i j).power = s.power := rfl
@[simp] theorem State.setFld_start (s : State) (f : Fld) (v i j : Nat) : (s.setFld f v i j).start = s.start := rfl
@[simp] theorem State.setFld_time (s : State) (f : Fld) (v i j : Nat) : (s.setFld f v i j).time = s.time := rfl
@[simp] theorem State.setFld_vault (s : State) (f : Fld) (v i j : Nat) : (s.setFld f v i j).vault = s.vault := rfl
@[simp] theorem State.setFld_accts (s : State) (f : Fld) (v i j : Nat) : (s.setFld f v i j).accts = s.accts := rfl
@[simp] theorem State.setFld_tills (s : State) (f : Fld) (v i j : Nat) : (s.setFld f v i j).tills = s.tills := rfl
@[simp] theorem State.setFld_tillMem (s : State) (f : Fld) (v i j : Nat) : (s.setFld f v i j).tillMem = s.tillMem := rfl
@[simp] theorem State.setFld_mgmt (s : State) (f : Fld) (v i j : Nat) : (s.setFld f v i j).mgmt = s.mgmt := rfl
@[simp] theorem State.setFld_image (s : State) (f : Fld) (v i j : Nat) : (s.setFld f v i j).image = s.image := rfl
@[simp] theorem State.setFld_hoCauses (s : State) (f : Fld) (v i j : Nat) : (s.setFld f v i j).hoCauses = s.hoCauses := rfl
@[simp] theorem State.setFld_ach (s : State) (f : Fld) (v i j : Nat) : (s.setFld f v i j).ach = s.ach := rfl
@[simp] theorem State.setFld_hart (s : State) (f : Fld) (v i j : Nat) : (s.setFld f v i j).hart = s.hart := rfl
@[simp] theorem State.setFld_dch (s : State) (f : Fld) (v i j : Nat) : (s.setFld f v i j).dch = s.dch := rfl
@[simp] theorem State.setFld_dslice (s : State) (f : Fld) (v i j : Nat) : (s.setFld f v i j).dslice = s.dslice := rfl
@[simp] theorem State.setFld_links (s : State) (f : Fld) (v i j : Nat) : (s.setFld f v i j).links = s.links := rfl
@[simp] theorem State.setFld_pair (s : State) (f : Fld) (v i j : Nat) : (s.setFld f v i j).pair = s.pair := rfl
@[simp] theorem State.setFld_can (s : State) (f : Fld) (v i j : Nat) : (s.setFld f v i j).can = s.can := rfl
@[simp] theorem State.setFld_net (s : State) (f : Fld) (v i j : Nat) : (s.setFld f v i j).net = s.net := rfl
@[simp] theorem State.setFld_out (s : State) (f : Fld) (v i j : Nat) : (s.setFld f v i j).out = s.out := rfl
@[simp] theorem State.setFld_safety (s : State) (f : Fld) (v i j : Nat) : (s.setFld f v i j).safety = s.safety := rfl
@[simp] theorem State.setFld_selfTest (s : State) (f : Fld) (v i j : Nat) : (s.setFld f v i j).selfTest = s.selfTest := rfl
@[simp] theorem State.setFld_panel (s : State) (f : Fld) (v i j : Nat) : (s.setFld f v i j).panel = s.panel := rfl

/-! ### bump -/
@[simp] theorem State.bump_pending (s : State) (f : Fld) (i j n : Nat) : (s.bump f i j n).pending = s.pending := rfl
@[simp] theorem State.bump_tick (s : State) (f : Fld) (i j n : Nat) : (s.bump f i j n).tick = s.tick := rfl
@[simp] theorem State.bump_free (s : State) (f : Fld) (i j n : Nat) : (s.bump f i j n).free = s.free := rfl
@[simp] theorem State.bump_phase (s : State) (f : Fld) (i j n : Nat) : (s.bump f i j n).phase = s.phase := rfl
@[simp] theorem State.bump_stop (s : State) (f : Fld) (i j n : Nat) : (s.bump f i j n).stop = s.stop := rfl
@[simp] theorem State.bump_drive (s : State) (f : Fld) (i j n : Nat) : (s.bump f i j n).drive = s.drive := rfl
@[simp] theorem State.bump_plate (s : State) (f : Fld) (i j n : Nat) : (s.bump f i j n).plate = s.plate := rfl
@[simp] theorem State.bump_power (s : State) (f : Fld) (i j n : Nat) : (s.bump f i j n).power = s.power := rfl
@[simp] theorem State.bump_start (s : State) (f : Fld) (i j n : Nat) : (s.bump f i j n).start = s.start := rfl
@[simp] theorem State.bump_time (s : State) (f : Fld) (i j n : Nat) : (s.bump f i j n).time = s.time := rfl
@[simp] theorem State.bump_vault (s : State) (f : Fld) (i j n : Nat) : (s.bump f i j n).vault = s.vault := rfl
@[simp] theorem State.bump_accts (s : State) (f : Fld) (i j n : Nat) : (s.bump f i j n).accts = s.accts := rfl
@[simp] theorem State.bump_tills (s : State) (f : Fld) (i j n : Nat) : (s.bump f i j n).tills = s.tills := rfl
@[simp] theorem State.bump_tillMem (s : State) (f : Fld) (i j n : Nat) : (s.bump f i j n).tillMem = s.tillMem := rfl
@[simp] theorem State.bump_mgmt (s : State) (f : Fld) (i j n : Nat) : (s.bump f i j n).mgmt = s.mgmt := rfl
@[simp] theorem State.bump_image (s : State) (f : Fld) (i j n : Nat) : (s.bump f i j n).image = s.image := rfl
@[simp] theorem State.bump_hoCauses (s : State) (f : Fld) (i j n : Nat) : (s.bump f i j n).hoCauses = s.hoCauses := rfl
@[simp] theorem State.bump_ach (s : State) (f : Fld) (i j n : Nat) : (s.bump f i j n).ach = s.ach := rfl
@[simp] theorem State.bump_hart (s : State) (f : Fld) (i j n : Nat) : (s.bump f i j n).hart = s.hart := rfl
@[simp] theorem State.bump_dch (s : State) (f : Fld) (i j n : Nat) : (s.bump f i j n).dch = s.dch := rfl
@[simp] theorem State.bump_dslice (s : State) (f : Fld) (i j n : Nat) : (s.bump f i j n).dslice = s.dslice := rfl
@[simp] theorem State.bump_links (s : State) (f : Fld) (i j n : Nat) : (s.bump f i j n).links = s.links := rfl
@[simp] theorem State.bump_pair (s : State) (f : Fld) (i j n : Nat) : (s.bump f i j n).pair = s.pair := rfl
@[simp] theorem State.bump_can (s : State) (f : Fld) (i j n : Nat) : (s.bump f i j n).can = s.can := rfl
@[simp] theorem State.bump_net (s : State) (f : Fld) (i j n : Nat) : (s.bump f i j n).net = s.net := rfl
@[simp] theorem State.bump_out (s : State) (f : Fld) (i j n : Nat) : (s.bump f i j n).out = s.out := rfl
@[simp] theorem State.bump_safety (s : State) (f : Fld) (i j n : Nat) : (s.bump f i j n).safety = s.safety := rfl
@[simp] theorem State.bump_selfTest (s : State) (f : Fld) (i j n : Nat) : (s.bump f i j n).selfTest = s.selfTest := rfl
@[simp] theorem State.bump_panel (s : State) (f : Fld) (i j n : Nat) : (s.bump f i j n).panel = s.panel := rfl

/-! ### peak -/
@[simp] theorem State.peak_pending (s : State) (f : Fld) (v i j : Nat) : (s.peak f v i j).pending = s.pending := rfl
@[simp] theorem State.peak_tick (s : State) (f : Fld) (v i j : Nat) : (s.peak f v i j).tick = s.tick := rfl
@[simp] theorem State.peak_free (s : State) (f : Fld) (v i j : Nat) : (s.peak f v i j).free = s.free := rfl
@[simp] theorem State.peak_phase (s : State) (f : Fld) (v i j : Nat) : (s.peak f v i j).phase = s.phase := rfl
@[simp] theorem State.peak_stop (s : State) (f : Fld) (v i j : Nat) : (s.peak f v i j).stop = s.stop := rfl
@[simp] theorem State.peak_drive (s : State) (f : Fld) (v i j : Nat) : (s.peak f v i j).drive = s.drive := rfl
@[simp] theorem State.peak_plate (s : State) (f : Fld) (v i j : Nat) : (s.peak f v i j).plate = s.plate := rfl
@[simp] theorem State.peak_power (s : State) (f : Fld) (v i j : Nat) : (s.peak f v i j).power = s.power := rfl
@[simp] theorem State.peak_start (s : State) (f : Fld) (v i j : Nat) : (s.peak f v i j).start = s.start := rfl
@[simp] theorem State.peak_time (s : State) (f : Fld) (v i j : Nat) : (s.peak f v i j).time = s.time := rfl
@[simp] theorem State.peak_vault (s : State) (f : Fld) (v i j : Nat) : (s.peak f v i j).vault = s.vault := rfl
@[simp] theorem State.peak_accts (s : State) (f : Fld) (v i j : Nat) : (s.peak f v i j).accts = s.accts := rfl
@[simp] theorem State.peak_tills (s : State) (f : Fld) (v i j : Nat) : (s.peak f v i j).tills = s.tills := rfl
@[simp] theorem State.peak_tillMem (s : State) (f : Fld) (v i j : Nat) : (s.peak f v i j).tillMem = s.tillMem := rfl
@[simp] theorem State.peak_mgmt (s : State) (f : Fld) (v i j : Nat) : (s.peak f v i j).mgmt = s.mgmt := rfl
@[simp] theorem State.peak_image (s : State) (f : Fld) (v i j : Nat) : (s.peak f v i j).image = s.image := rfl
@[simp] theorem State.peak_hoCauses (s : State) (f : Fld) (v i j : Nat) : (s.peak f v i j).hoCauses = s.hoCauses := rfl
@[simp] theorem State.peak_ach (s : State) (f : Fld) (v i j : Nat) : (s.peak f v i j).ach = s.ach := rfl
@[simp] theorem State.peak_hart (s : State) (f : Fld) (v i j : Nat) : (s.peak f v i j).hart = s.hart := rfl
@[simp] theorem State.peak_dch (s : State) (f : Fld) (v i j : Nat) : (s.peak f v i j).dch = s.dch := rfl
@[simp] theorem State.peak_dslice (s : State) (f : Fld) (v i j : Nat) : (s.peak f v i j).dslice = s.dslice := rfl
@[simp] theorem State.peak_links (s : State) (f : Fld) (v i j : Nat) : (s.peak f v i j).links = s.links := rfl
@[simp] theorem State.peak_pair (s : State) (f : Fld) (v i j : Nat) : (s.peak f v i j).pair = s.pair := rfl
@[simp] theorem State.peak_can (s : State) (f : Fld) (v i j : Nat) : (s.peak f v i j).can = s.can := rfl
@[simp] theorem State.peak_net (s : State) (f : Fld) (v i j : Nat) : (s.peak f v i j).net = s.net := rfl
@[simp] theorem State.peak_out (s : State) (f : Fld) (v i j : Nat) : (s.peak f v i j).out = s.out := rfl
@[simp] theorem State.peak_safety (s : State) (f : Fld) (v i j : Nat) : (s.peak f v i j).safety = s.safety := rfl
@[simp] theorem State.peak_selfTest (s : State) (f : Fld) (v i j : Nat) : (s.peak f v i j).selfTest = s.selfTest := rfl
@[simp] theorem State.peak_panel (s : State) (f : Fld) (v i j : Nat) : (s.peak f v i j).panel = s.panel := rfl

/-! ### setBit -/
@[simp] theorem State.setBit_pending (s : State) (r : Reg) (n : Nat) (b : Bool) (i j : Nat) : (s.setBit r n b i j).pending = s.pending := rfl
@[simp] theorem State.setBit_tick (s : State) (r : Reg) (n : Nat) (b : Bool) (i j : Nat) : (s.setBit r n b i j).tick = s.tick := rfl
@[simp] theorem State.setBit_free (s : State) (r : Reg) (n : Nat) (b : Bool) (i j : Nat) : (s.setBit r n b i j).free = s.free := rfl
@[simp] theorem State.setBit_phase (s : State) (r : Reg) (n : Nat) (b : Bool) (i j : Nat) : (s.setBit r n b i j).phase = s.phase := rfl
@[simp] theorem State.setBit_stop (s : State) (r : Reg) (n : Nat) (b : Bool) (i j : Nat) : (s.setBit r n b i j).stop = s.stop := rfl
@[simp] theorem State.setBit_drive (s : State) (r : Reg) (n : Nat) (b : Bool) (i j : Nat) : (s.setBit r n b i j).drive = s.drive := rfl
@[simp] theorem State.setBit_plate (s : State) (r : Reg) (n : Nat) (b : Bool) (i j : Nat) : (s.setBit r n b i j).plate = s.plate := rfl
@[simp] theorem State.setBit_power (s : State) (r : Reg) (n : Nat) (b : Bool) (i j : Nat) : (s.setBit r n b i j).power = s.power := rfl
@[simp] theorem State.setBit_start (s : State) (r : Reg) (n : Nat) (b : Bool) (i j : Nat) : (s.setBit r n b i j).start = s.start := rfl
@[simp] theorem State.setBit_time (s : State) (r : Reg) (n : Nat) (b : Bool) (i j : Nat) : (s.setBit r n b i j).time = s.time := rfl
@[simp] theorem State.setBit_vault (s : State) (r : Reg) (n : Nat) (b : Bool) (i j : Nat) : (s.setBit r n b i j).vault = s.vault := rfl
@[simp] theorem State.setBit_accts (s : State) (r : Reg) (n : Nat) (b : Bool) (i j : Nat) : (s.setBit r n b i j).accts = s.accts := rfl
@[simp] theorem State.setBit_tills (s : State) (r : Reg) (n : Nat) (b : Bool) (i j : Nat) : (s.setBit r n b i j).tills = s.tills := rfl
@[simp] theorem State.setBit_tillMem (s : State) (r : Reg) (n : Nat) (b : Bool) (i j : Nat) : (s.setBit r n b i j).tillMem = s.tillMem := rfl
@[simp] theorem State.setBit_mgmt (s : State) (r : Reg) (n : Nat) (b : Bool) (i j : Nat) : (s.setBit r n b i j).mgmt = s.mgmt := rfl
@[simp] theorem State.setBit_image (s : State) (r : Reg) (n : Nat) (b : Bool) (i j : Nat) : (s.setBit r n b i j).image = s.image := rfl
@[simp] theorem State.setBit_hoCauses (s : State) (r : Reg) (n : Nat) (b : Bool) (i j : Nat) : (s.setBit r n b i j).hoCauses = s.hoCauses := rfl
@[simp] theorem State.setBit_ach (s : State) (r : Reg) (n : Nat) (b : Bool) (i j : Nat) : (s.setBit r n b i j).ach = s.ach := rfl
@[simp] theorem State.setBit_hart (s : State) (r : Reg) (n : Nat) (b : Bool) (i j : Nat) : (s.setBit r n b i j).hart = s.hart := rfl
@[simp] theorem State.setBit_dch (s : State) (r : Reg) (n : Nat) (b : Bool) (i j : Nat) : (s.setBit r n b i j).dch = s.dch := rfl
@[simp] theorem State.setBit_dslice (s : State) (r : Reg) (n : Nat) (b : Bool) (i j : Nat) : (s.setBit r n b i j).dslice = s.dslice := rfl
@[simp] theorem State.setBit_links (s : State) (r : Reg) (n : Nat) (b : Bool) (i j : Nat) : (s.setBit r n b i j).links = s.links := rfl
@[simp] theorem State.setBit_pair (s : State) (r : Reg) (n : Nat) (b : Bool) (i j : Nat) : (s.setBit r n b i j).pair = s.pair := rfl
@[simp] theorem State.setBit_can (s : State) (r : Reg) (n : Nat) (b : Bool) (i j : Nat) : (s.setBit r n b i j).can = s.can := rfl
@[simp] theorem State.setBit_net (s : State) (r : Reg) (n : Nat) (b : Bool) (i j : Nat) : (s.setBit r n b i j).net = s.net := rfl
@[simp] theorem State.setBit_out (s : State) (r : Reg) (n : Nat) (b : Bool) (i j : Nat) : (s.setBit r n b i j).out = s.out := rfl
@[simp] theorem State.setBit_safety (s : State) (r : Reg) (n : Nat) (b : Bool) (i j : Nat) : (s.setBit r n b i j).safety = s.safety := rfl
@[simp] theorem State.setBit_selfTest (s : State) (r : Reg) (n : Nat) (b : Bool) (i j : Nat) : (s.setBit r n b i j).selfTest = s.selfTest := rfl
@[simp] theorem State.setBit_panel (s : State) (r : Reg) (n : Nat) (b : Bool) (i j : Nat) : (s.setBit r n b i j).panel = s.panel := rfl

/-! ### setReg64 -/
@[simp] theorem State.setReg64_pending (s : State) (r : Reg) (v i : Nat) : (s.setReg64 r v i).pending = s.pending := rfl
@[simp] theorem State.setReg64_tick (s : State) (r : Reg) (v i : Nat) : (s.setReg64 r v i).tick = s.tick := rfl
@[simp] theorem State.setReg64_free (s : State) (r : Reg) (v i : Nat) : (s.setReg64 r v i).free = s.free := rfl
@[simp] theorem State.setReg64_phase (s : State) (r : Reg) (v i : Nat) : (s.setReg64 r v i).phase = s.phase := rfl
@[simp] theorem State.setReg64_stop (s : State) (r : Reg) (v i : Nat) : (s.setReg64 r v i).stop = s.stop := rfl
@[simp] theorem State.setReg64_drive (s : State) (r : Reg) (v i : Nat) : (s.setReg64 r v i).drive = s.drive := rfl
@[simp] theorem State.setReg64_plate (s : State) (r : Reg) (v i : Nat) : (s.setReg64 r v i).plate = s.plate := rfl
@[simp] theorem State.setReg64_power (s : State) (r : Reg) (v i : Nat) : (s.setReg64 r v i).power = s.power := rfl
@[simp] theorem State.setReg64_start (s : State) (r : Reg) (v i : Nat) : (s.setReg64 r v i).start = s.start := rfl
@[simp] theorem State.setReg64_time (s : State) (r : Reg) (v i : Nat) : (s.setReg64 r v i).time = s.time := rfl
@[simp] theorem State.setReg64_vault (s : State) (r : Reg) (v i : Nat) : (s.setReg64 r v i).vault = s.vault := rfl
@[simp] theorem State.setReg64_accts (s : State) (r : Reg) (v i : Nat) : (s.setReg64 r v i).accts = s.accts := rfl
@[simp] theorem State.setReg64_tills (s : State) (r : Reg) (v i : Nat) : (s.setReg64 r v i).tills = s.tills := rfl
@[simp] theorem State.setReg64_tillMem (s : State) (r : Reg) (v i : Nat) : (s.setReg64 r v i).tillMem = s.tillMem := rfl
@[simp] theorem State.setReg64_mgmt (s : State) (r : Reg) (v i : Nat) : (s.setReg64 r v i).mgmt = s.mgmt := rfl
@[simp] theorem State.setReg64_image (s : State) (r : Reg) (v i : Nat) : (s.setReg64 r v i).image = s.image := rfl
@[simp] theorem State.setReg64_hoCauses (s : State) (r : Reg) (v i : Nat) : (s.setReg64 r v i).hoCauses = s.hoCauses := rfl
@[simp] theorem State.setReg64_ach (s : State) (r : Reg) (v i : Nat) : (s.setReg64 r v i).ach = s.ach := rfl
@[simp] theorem State.setReg64_hart (s : State) (r : Reg) (v i : Nat) : (s.setReg64 r v i).hart = s.hart := rfl
@[simp] theorem State.setReg64_dch (s : State) (r : Reg) (v i : Nat) : (s.setReg64 r v i).dch = s.dch := rfl
@[simp] theorem State.setReg64_dslice (s : State) (r : Reg) (v i : Nat) : (s.setReg64 r v i).dslice = s.dslice := rfl
@[simp] theorem State.setReg64_links (s : State) (r : Reg) (v i : Nat) : (s.setReg64 r v i).links = s.links := rfl
@[simp] theorem State.setReg64_pair (s : State) (r : Reg) (v i : Nat) : (s.setReg64 r v i).pair = s.pair := rfl
@[simp] theorem State.setReg64_can (s : State) (r : Reg) (v i : Nat) : (s.setReg64 r v i).can = s.can := rfl
@[simp] theorem State.setReg64_net (s : State) (r : Reg) (v i : Nat) : (s.setReg64 r v i).net = s.net := rfl
@[simp] theorem State.setReg64_out (s : State) (r : Reg) (v i : Nat) : (s.setReg64 r v i).out = s.out := rfl
@[simp] theorem State.setReg64_safety (s : State) (r : Reg) (v i : Nat) : (s.setReg64 r v i).safety = s.safety := rfl
@[simp] theorem State.setReg64_selfTest (s : State) (r : Reg) (v i : Nat) : (s.setReg64 r v i).selfTest = s.selfTest := rfl
@[simp] theorem State.setReg64_panel (s : State) (r : Reg) (v i : Nat) : (s.setReg64 r v i).panel = s.panel := rfl

/-! ### bump64 -/
@[simp] theorem State.bump64_pending (s : State) (r : Reg) (i : Nat) : (s.bump64 r i).pending = s.pending := rfl
@[simp] theorem State.bump64_tick (s : State) (r : Reg) (i : Nat) : (s.bump64 r i).tick = s.tick := rfl
@[simp] theorem State.bump64_free (s : State) (r : Reg) (i : Nat) : (s.bump64 r i).free = s.free := rfl
@[simp] theorem State.bump64_phase (s : State) (r : Reg) (i : Nat) : (s.bump64 r i).phase = s.phase := rfl
@[simp] theorem State.bump64_stop (s : State) (r : Reg) (i : Nat) : (s.bump64 r i).stop = s.stop := rfl
@[simp] theorem State.bump64_drive (s : State) (r : Reg) (i : Nat) : (s.bump64 r i).drive = s.drive := rfl
@[simp] theorem State.bump64_plate (s : State) (r : Reg) (i : Nat) : (s.bump64 r i).plate = s.plate := rfl
@[simp] theorem State.bump64_power (s : State) (r : Reg) (i : Nat) : (s.bump64 r i).power = s.power := rfl
@[simp] theorem State.bump64_start (s : State) (r : Reg) (i : Nat) : (s.bump64 r i).start = s.start := rfl
@[simp] theorem State.bump64_time (s : State) (r : Reg) (i : Nat) : (s.bump64 r i).time = s.time := rfl
@[simp] theorem State.bump64_vault (s : State) (r : Reg) (i : Nat) : (s.bump64 r i).vault = s.vault := rfl
@[simp] theorem State.bump64_accts (s : State) (r : Reg) (i : Nat) : (s.bump64 r i).accts = s.accts := rfl
@[simp] theorem State.bump64_tills (s : State) (r : Reg) (i : Nat) : (s.bump64 r i).tills = s.tills := rfl
@[simp] theorem State.bump64_tillMem (s : State) (r : Reg) (i : Nat) : (s.bump64 r i).tillMem = s.tillMem := rfl
@[simp] theorem State.bump64_mgmt (s : State) (r : Reg) (i : Nat) : (s.bump64 r i).mgmt = s.mgmt := rfl
@[simp] theorem State.bump64_image (s : State) (r : Reg) (i : Nat) : (s.bump64 r i).image = s.image := rfl
@[simp] theorem State.bump64_hoCauses (s : State) (r : Reg) (i : Nat) : (s.bump64 r i).hoCauses = s.hoCauses := rfl
@[simp] theorem State.bump64_ach (s : State) (r : Reg) (i : Nat) : (s.bump64 r i).ach = s.ach := rfl
@[simp] theorem State.bump64_hart (s : State) (r : Reg) (i : Nat) : (s.bump64 r i).hart = s.hart := rfl
@[simp] theorem State.bump64_dch (s : State) (r : Reg) (i : Nat) : (s.bump64 r i).dch = s.dch := rfl
@[simp] theorem State.bump64_dslice (s : State) (r : Reg) (i : Nat) : (s.bump64 r i).dslice = s.dslice := rfl
@[simp] theorem State.bump64_links (s : State) (r : Reg) (i : Nat) : (s.bump64 r i).links = s.links := rfl
@[simp] theorem State.bump64_pair (s : State) (r : Reg) (i : Nat) : (s.bump64 r i).pair = s.pair := rfl
@[simp] theorem State.bump64_can (s : State) (r : Reg) (i : Nat) : (s.bump64 r i).can = s.can := rfl
@[simp] theorem State.bump64_net (s : State) (r : Reg) (i : Nat) : (s.bump64 r i).net = s.net := rfl
@[simp] theorem State.bump64_out (s : State) (r : Reg) (i : Nat) : (s.bump64 r i).out = s.out := rfl
@[simp] theorem State.bump64_safety (s : State) (r : Reg) (i : Nat) : (s.bump64 r i).safety = s.safety := rfl
@[simp] theorem State.bump64_selfTest (s : State) (r : Reg) (i : Nat) : (s.bump64 r i).selfTest = s.selfTest := rfl
@[simp] theorem State.bump64_panel (s : State) (r : Reg) (i : Nat) : (s.bump64 r i).panel = s.panel := rfl

/-! ### setTask -/
@[simp] theorem State.setTask_task_same (s : State) (k : Nat) (x : Task) : (s.setTask k x).task k = x := by
  simp [State.task, State.setTask]
theorem State.setTask_task_ne (s : State) {k j : Nat} (x : Task) (h : j ≠ k) : (s.setTask k x).task j = s.task j := by
  simp [State.task, State.setTask, nget_nset_ne _ _ _ _ h]
@[simp] theorem State.setTask_pending (s : State) (k : Nat) (x : Task) : (s.setTask k x).pending = s.pending := rfl
@[simp] theorem State.setTask_tick (s : State) (k : Nat) (x : Task) : (s.setTask k x).tick = s.tick := rfl
@[simp] theorem State.setTask_free (s : State) (k : Nat) (x : Task) : (s.setTask k x).free = s.free := rfl
@[simp] theorem State.setTask_phase (s : State) (k : Nat) (x : Task) : (s.setTask k x).phase = s.phase := rfl
@[simp] theorem State.setTask_stop (s : State) (k : Nat) (x : Task) : (s.setTask k x).stop = s.stop := rfl
@[simp] theorem State.setTask_drive (s : State) (k : Nat) (x : Task) : (s.setTask k x).drive = s.drive := rfl
@[simp] theorem State.setTask_regs (s : State) (k : Nat) (x : Task) : (s.setTask k x).regs = s.regs := rfl
@[simp] theorem State.setTask_plate (s : State) (k : Nat) (x : Task) : (s.setTask k x).plate = s.plate := rfl
@[simp] theorem State.setTask_power (s : State) (k : Nat) (x : Task) : (s.setTask k x).power = s.power := rfl
@[simp] theorem State.setTask_start (s : State) (k : Nat) (x : Task) : (s.setTask k x).start = s.start := rfl
@[simp] theorem State.setTask_time (s : State) (k : Nat) (x : Task) : (s.setTask k x).time = s.time := rfl
@[simp] theorem State.setTask_vault (s : State) (k : Nat) (x : Task) : (s.setTask k x).vault = s.vault := rfl
@[simp] theorem State.setTask_accts (s : State) (k : Nat) (x : Task) : (s.setTask k x).accts = s.accts := rfl
@[simp] theorem State.setTask_tills (s : State) (k : Nat) (x : Task) : (s.setTask k x).tills = s.tills := rfl
@[simp] theorem State.setTask_tillMem (s : State) (k : Nat) (x : Task) : (s.setTask k x).tillMem = s.tillMem := rfl
@[simp] theorem State.setTask_mgmt (s : State) (k : Nat) (x : Task) : (s.setTask k x).mgmt = s.mgmt := rfl
@[simp] theorem State.setTask_hoCauses (s : State) (k : Nat) (x : Task) : (s.setTask k x).hoCauses = s.hoCauses := rfl
@[simp] theorem State.setTask_ach (s : State) (k : Nat) (x : Task) : (s.setTask k x).ach = s.ach := rfl
@[simp] theorem State.setTask_hart (s : State) (k : Nat) (x : Task) : (s.setTask k x).hart = s.hart := rfl
@[simp] theorem State.setTask_dch (s : State) (k : Nat) (x : Task) : (s.setTask k x).dch = s.dch := rfl
@[simp] theorem State.setTask_dslice (s : State) (k : Nat) (x : Task) : (s.setTask k x).dslice = s.dslice := rfl
@[simp] theorem State.setTask_links (s : State) (k : Nat) (x : Task) : (s.setTask k x).links = s.links := rfl
@[simp] theorem State.setTask_pair (s : State) (k : Nat) (x : Task) : (s.setTask k x).pair = s.pair := rfl
@[simp] theorem State.setTask_can (s : State) (k : Nat) (x : Task) : (s.setTask k x).can = s.can := rfl
@[simp] theorem State.setTask_net (s : State) (k : Nat) (x : Task) : (s.setTask k x).net = s.net := rfl
@[simp] theorem State.setTask_out (s : State) (k : Nat) (x : Task) : (s.setTask k x).out = s.out := rfl
@[simp] theorem State.setTask_safety (s : State) (k : Nat) (x : Task) : (s.setTask k x).safety = s.safety := rfl
@[simp] theorem State.setTask_selfTest (s : State) (k : Nat) (x : Task) : (s.setTask k x).selfTest = s.selfTest := rfl
@[simp] theorem State.setTask_panel (s : State) (k : Nat) (x : Task) : (s.setTask k x).panel = s.panel := rfl
@[simp] theorem State.setTask_word (s : State) (k : Nat) (x : Task) (addr : Nat) : (s.setTask k x).word addr = s.word addr := rfl
@[simp] theorem State.setTask_reg (s : State) (k : Nat) (x : Task) (r : Reg) (i j : Nat) : (s.setTask k x).reg r i j = s.reg r i j := rfl
@[simp] theorem State.setTask_fld (s : State) (k : Nat) (x : Task) (f : Fld) (i j : Nat) : (s.setTask k x).fld f i j = s.fld f i j := rfl
@[simp] theorem State.setTask_flag (s : State) (k : Nat) (x : Task) (f : Fld) (i j : Nat) : (s.setTask k x).flag f i j = s.flag f i j := rfl

/-! ### setSig -/
@[simp] theorem State.setSig_sig_same (s : State) (g : Nat) (x : Sig) : (s.setSig g x).sig g = x := by
  simp [State.sig, State.setSig]
theorem State.setSig_sig_ne (s : State) {g j : Nat} (x : Sig) (h : j ≠ g) : (s.setSig g x).sig j = s.sig j := by
  simp [State.sig, State.setSig, nget_nset_ne _ _ _ _ h]
@[simp] theorem State.setSig_pending (s : State) (g : Nat) (x : Sig) : (s.setSig g x).pending = s.pending := rfl
@[simp] theorem State.setSig_tick (s : State) (g : Nat) (x : Sig) : (s.setSig g x).tick = s.tick := rfl
@[simp] theorem State.setSig_free (s : State) (g : Nat) (x : Sig) : (s.setSig g x).free = s.free := rfl
@[simp] theorem State.setSig_phase (s : State) (g : Nat) (x : Sig) : (s.setSig g x).phase = s.phase := rfl
@[simp] theorem State.setSig_stop (s : State) (g : Nat) (x : Sig) : (s.setSig g x).stop = s.stop := rfl
@[simp] theorem State.setSig_drive (s : State) (g : Nat) (x : Sig) : (s.setSig g x).drive = s.drive := rfl
@[simp] theorem State.setSig_regs (s : State) (g : Nat) (x : Sig) : (s.setSig g x).regs = s.regs := rfl
@[simp] theorem State.setSig_plate (s : State) (g : Nat) (x : Sig) : (s.setSig g x).plate = s.plate := rfl
@[simp] theorem State.setSig_power (s : State) (g : Nat) (x : Sig) : (s.setSig g x).power = s.power := rfl
@[simp] theorem State.setSig_start (s : State) (g : Nat) (x : Sig) : (s.setSig g x).start = s.start := rfl
@[simp] theorem State.setSig_time (s : State) (g : Nat) (x : Sig) : (s.setSig g x).time = s.time := rfl
@[simp] theorem State.setSig_vault (s : State) (g : Nat) (x : Sig) : (s.setSig g x).vault = s.vault := rfl
@[simp] theorem State.setSig_accts (s : State) (g : Nat) (x : Sig) : (s.setSig g x).accts = s.accts := rfl
@[simp] theorem State.setSig_tills (s : State) (g : Nat) (x : Sig) : (s.setSig g x).tills = s.tills := rfl
@[simp] theorem State.setSig_tillMem (s : State) (g : Nat) (x : Sig) : (s.setSig g x).tillMem = s.tillMem := rfl
@[simp] theorem State.setSig_mgmt (s : State) (g : Nat) (x : Sig) : (s.setSig g x).mgmt = s.mgmt := rfl
@[simp] theorem State.setSig_hoCauses (s : State) (g : Nat) (x : Sig) : (s.setSig g x).hoCauses = s.hoCauses := rfl
@[simp] theorem State.setSig_ach (s : State) (g : Nat) (x : Sig) : (s.setSig g x).ach = s.ach := rfl
@[simp] theorem State.setSig_hart (s : State) (g : Nat) (x : Sig) : (s.setSig g x).hart = s.hart := rfl
@[simp] theorem State.setSig_dch (s : State) (g : Nat) (x : Sig) : (s.setSig g x).dch = s.dch := rfl
@[simp] theorem State.setSig_dslice (s : State) (g : Nat) (x : Sig) : (s.setSig g x).dslice = s.dslice := rfl
@[simp] theorem State.setSig_links (s : State) (g : Nat) (x : Sig) : (s.setSig g x).links = s.links := rfl
@[simp] theorem State.setSig_pair (s : State) (g : Nat) (x : Sig) : (s.setSig g x).pair = s.pair := rfl
@[simp] theorem State.setSig_can (s : State) (g : Nat) (x : Sig) : (s.setSig g x).can = s.can := rfl
@[simp] theorem State.setSig_net (s : State) (g : Nat) (x : Sig) : (s.setSig g x).net = s.net := rfl
@[simp] theorem State.setSig_out (s : State) (g : Nat) (x : Sig) : (s.setSig g x).out = s.out := rfl
@[simp] theorem State.setSig_safety (s : State) (g : Nat) (x : Sig) : (s.setSig g x).safety = s.safety := rfl
@[simp] theorem State.setSig_selfTest (s : State) (g : Nat) (x : Sig) : (s.setSig g x).selfTest = s.selfTest := rfl
@[simp] theorem State.setSig_panel (s : State) (g : Nat) (x : Sig) : (s.setSig g x).panel = s.panel := rfl
@[simp] theorem State.setSig_word (s : State) (g : Nat) (x : Sig) (addr : Nat) : (s.setSig g x).word addr = s.word addr := rfl
@[simp] theorem State.setSig_reg (s : State) (g : Nat) (x : Sig) (r : Reg) (i j : Nat) : (s.setSig g x).reg r i j = s.reg r i j := rfl
@[simp] theorem State.setSig_fld (s : State) (g : Nat) (x : Sig) (f : Fld) (i j : Nat) : (s.setSig g x).fld f i j = s.fld f i j := rfl
@[simp] theorem State.setSig_flag (s : State) (g : Nat) (x : Sig) (f : Fld) (i j : Nat) : (s.setSig g x).flag f i j = s.flag f i j := rfl

/-! ### setExec -/
@[simp] theorem State.setExec_exec_same (s : State) (k : Nat) (x : Option Exec) : (s.setExec k x).exec? k = x := by
  simp [State.exec?, State.setExec]
theorem State.setExec_exec_ne (s : State) {k j : Nat} (x : Option Exec) (h : j ≠ k) : (s.setExec k x).exec? j = s.exec? j := by
  simp [State.exec?, State.setExec, nget_nset_ne _ _ _ _ h]
@[simp] theorem State.setExec_pending (s : State) (k : Nat) (x : Option Exec) : (s.setExec k x).pending = s.pending := rfl
@[simp] theorem State.setExec_tick (s : State) (k : Nat) (x : Option Exec) : (s.setExec k x).tick = s.tick := rfl
@[simp] theorem State.setExec_free (s : State) (k : Nat) (x : Option Exec) : (s.setExec k x).free = s.free := rfl
@[simp] theorem State.setExec_phase (s : State) (k : Nat) (x : Option Exec) : (s.setExec k x).phase = s.phase := rfl
@[simp] theorem State.setExec_stop (s : State) (k : Nat) (x : Option Exec) : (s.setExec k x).stop = s.stop := rfl
@[simp] theorem State.setExec_drive (s : State) (k : Nat) (x : Option Exec) : (s.setExec k x).drive = s.drive := rfl
@[simp] theorem State.setExec_regs (s : State) (k : Nat) (x : Option Exec) : (s.setExec k x).regs = s.regs := rfl
@[simp] theorem State.setExec_plate (s : State) (k : Nat) (x : Option Exec) : (s.setExec k x).plate = s.plate := rfl
@[simp] theorem State.setExec_power (s : State) (k : Nat) (x : Option Exec) : (s.setExec k x).power = s.power := rfl
@[simp] theorem State.setExec_start (s : State) (k : Nat) (x : Option Exec) : (s.setExec k x).start = s.start := rfl
@[simp] theorem State.setExec_time (s : State) (k : Nat) (x : Option Exec) : (s.setExec k x).time = s.time := rfl
@[simp] theorem State.setExec_vault (s : State) (k : Nat) (x : Option Exec) : (s.setExec k x).vault = s.vault := rfl
@[simp] theorem State.setExec_accts (s : State) (k : Nat) (x : Option Exec) : (s.setExec k x).accts = s.accts := rfl
@[simp] theorem State.setExec_tills (s : State) (k : Nat) (x : Option Exec) : (s.setExec k x).tills = s.tills := rfl
@[simp] theorem State.setExec_tillMem (s : State) (k : Nat) (x : Option Exec) : (s.setExec k x).tillMem = s.tillMem := rfl
@[simp] theorem State.setExec_mgmt (s : State) (k : Nat) (x : Option Exec) : (s.setExec k x).mgmt = s.mgmt := rfl
@[simp] theorem State.setExec_hoCauses (s : State) (k : Nat) (x : Option Exec) : (s.setExec k x).hoCauses = s.hoCauses := rfl
@[simp] theorem State.setExec_ach (s : State) (k : Nat) (x : Option Exec) : (s.setExec k x).ach = s.ach := rfl
@[simp] theorem State.setExec_hart (s : State) (k : Nat) (x : Option Exec) : (s.setExec k x).hart = s.hart := rfl
@[simp] theorem State.setExec_dch (s : State) (k : Nat) (x : Option Exec) : (s.setExec k x).dch = s.dch := rfl
@[simp] theorem State.setExec_dslice (s : State) (k : Nat) (x : Option Exec) : (s.setExec k x).dslice = s.dslice := rfl
@[simp] theorem State.setExec_links (s : State) (k : Nat) (x : Option Exec) : (s.setExec k x).links = s.links := rfl
@[simp] theorem State.setExec_pair (s : State) (k : Nat) (x : Option Exec) : (s.setExec k x).pair = s.pair := rfl
@[simp] theorem State.setExec_can (s : State) (k : Nat) (x : Option Exec) : (s.setExec k x).can = s.can := rfl
@[simp] theorem State.setExec_net (s : State) (k : Nat) (x : Option Exec) : (s.setExec k x).net = s.net := rfl
@[simp] theorem State.setExec_out (s : State) (k : Nat) (x : Option Exec) : (s.setExec k x).out = s.out := rfl
@[simp] theorem State.setExec_safety (s : State) (k : Nat) (x : Option Exec) : (s.setExec k x).safety = s.safety := rfl
@[simp] theorem State.setExec_selfTest (s : State) (k : Nat) (x : Option Exec) : (s.setExec k x).selfTest = s.selfTest := rfl
@[simp] theorem State.setExec_panel (s : State) (k : Nat) (x : Option Exec) : (s.setExec k x).panel = s.panel := rfl
@[simp] theorem State.setExec_word (s : State) (k : Nat) (x : Option Exec) (addr : Nat) : (s.setExec k x).word addr = s.word addr := rfl
@[simp] theorem State.setExec_reg (s : State) (k : Nat) (x : Option Exec) (r : Reg) (i j : Nat) : (s.setExec k x).reg r i j = s.reg r i j := rfl
@[simp] theorem State.setExec_fld (s : State) (k : Nat) (x : Option Exec) (f : Fld) (i j : Nat) : (s.setExec k x).fld f i j = s.fld f i j := rfl
@[simp] theorem State.setExec_flag (s : State) (k : Nat) (x : Option Exec) (f : Fld) (i j : Nat) : (s.setExec k x).flag f i j = s.flag f i j := rfl

/-! ### setForce -/
@[simp] theorem State.setForce_force_same (s : State) (g : Nat) (x : Option Force) : (s.setForce g x).force? g = x := by
  simp [State.force?, State.setForce]
theorem State.setForce_force_ne (s : State) {g j : Nat} (x : Option Force) (h : j ≠ g) : (s.setForce g x).force? j = s.force? j := by
  simp [State.force?, State.setForce, nget_nset_ne _ _ _ _ h]
@[simp] theorem State.setForce_pending (s : State) (g : Nat) (x : Option Force) : (s.setForce g x).pending = s.pending := rfl
@[simp] theorem State.setForce_tick (s : State) (g : Nat) (x : Option Force) : (s.setForce g x).tick = s.tick := rfl
@[simp] theorem State.setForce_free (s : State) (g : Nat) (x : Option Force) : (s.setForce g x).free = s.free := rfl
@[simp] theorem State.setForce_phase (s : State) (g : Nat) (x : Option Force) : (s.setForce g x).phase = s.phase := rfl
@[simp] theorem State.setForce_stop (s : State) (g : Nat) (x : Option Force) : (s.setForce g x).stop = s.stop := rfl
@[simp] theorem State.setForce_drive (s : State) (g : Nat) (x : Option Force) : (s.setForce g x).drive = s.drive := rfl
@[simp] theorem State.setForce_regs (s : State) (g : Nat) (x : Option Force) : (s.setForce g x).regs = s.regs := rfl
@[simp] theorem State.setForce_plate (s : State) (g : Nat) (x : Option Force) : (s.setForce g x).plate = s.plate := rfl
@[simp] theorem State.setForce_power (s : State) (g : Nat) (x : Option Force) : (s.setForce g x).power = s.power := rfl
@[simp] theorem State.setForce_start (s : State) (g : Nat) (x : Option Force) : (s.setForce g x).start = s.start := rfl
@[simp] theorem State.setForce_time (s : State) (g : Nat) (x : Option Force) : (s.setForce g x).time = s.time := rfl
@[simp] theorem State.setForce_vault (s : State) (g : Nat) (x : Option Force) : (s.setForce g x).vault = s.vault := rfl
@[simp] theorem State.setForce_accts (s : State) (g : Nat) (x : Option Force) : (s.setForce g x).accts = s.accts := rfl
@[simp] theorem State.setForce_tills (s : State) (g : Nat) (x : Option Force) : (s.setForce g x).tills = s.tills := rfl
@[simp] theorem State.setForce_tillMem (s : State) (g : Nat) (x : Option Force) : (s.setForce g x).tillMem = s.tillMem := rfl
@[simp] theorem State.setForce_mgmt (s : State) (g : Nat) (x : Option Force) : (s.setForce g x).mgmt = s.mgmt := rfl
@[simp] theorem State.setForce_hoCauses (s : State) (g : Nat) (x : Option Force) : (s.setForce g x).hoCauses = s.hoCauses := rfl
@[simp] theorem State.setForce_ach (s : State) (g : Nat) (x : Option Force) : (s.setForce g x).ach = s.ach := rfl
@[simp] theorem State.setForce_hart (s : State) (g : Nat) (x : Option Force) : (s.setForce g x).hart = s.hart := rfl
@[simp] theorem State.setForce_dch (s : State) (g : Nat) (x : Option Force) : (s.setForce g x).dch = s.dch := rfl
@[simp] theorem State.setForce_dslice (s : State) (g : Nat) (x : Option Force) : (s.setForce g x).dslice = s.dslice := rfl
@[simp] theorem State.setForce_links (s : State) (g : Nat) (x : Option Force) : (s.setForce g x).links = s.links := rfl
@[simp] theorem State.setForce_pair (s : State) (g : Nat) (x : Option Force) : (s.setForce g x).pair = s.pair := rfl
@[simp] theorem State.setForce_can (s : State) (g : Nat) (x : Option Force) : (s.setForce g x).can = s.can := rfl
@[simp] theorem State.setForce_net (s : State) (g : Nat) (x : Option Force) : (s.setForce g x).net = s.net := rfl
@[simp] theorem State.setForce_out (s : State) (g : Nat) (x : Option Force) : (s.setForce g x).out = s.out := rfl
@[simp] theorem State.setForce_safety (s : State) (g : Nat) (x : Option Force) : (s.setForce g x).safety = s.safety := rfl
@[simp] theorem State.setForce_selfTest (s : State) (g : Nat) (x : Option Force) : (s.setForce g x).selfTest = s.selfTest := rfl
@[simp] theorem State.setForce_panel (s : State) (g : Nat) (x : Option Force) : (s.setForce g x).panel = s.panel := rfl
@[simp] theorem State.setForce_word (s : State) (g : Nat) (x : Option Force) (addr : Nat) : (s.setForce g x).word addr = s.word addr := rfl
@[simp] theorem State.setForce_reg (s : State) (g : Nat) (x : Option Force) (r : Reg) (i j : Nat) : (s.setForce g x).reg r i j = s.reg r i j := rfl
@[simp] theorem State.setForce_fld (s : State) (g : Nat) (x : Option Force) (f : Fld) (i j : Nat) : (s.setForce g x).fld f i j = s.fld f i j := rfl
@[simp] theorem State.setForce_flag (s : State) (g : Nat) (x : Option Force) (f : Fld) (i j : Nat) : (s.setForce g x).flag f i j = s.flag f i j := rfl

/-! ### setAcct -/
@[simp] theorem State.setAcct_acct_same (s : State) (a : Nat) (x : Acct) : (s.setAcct a x).acct a = x := by
  simp [State.acct, State.setAcct]
theorem State.setAcct_acct_ne (s : State) {a j : Nat} (x : Acct) (h : j ≠ a) : (s.setAcct a x).acct j = s.acct j := by
  simp [State.acct, State.setAcct, nget_nset_ne _ _ _ _ h]
@[simp] theorem State.setAcct_pending (s : State) (a : Nat) (x : Acct) : (s.setAcct a x).pending = s.pending := rfl
@[simp] theorem State.setAcct_tick (s : State) (a : Nat) (x : Acct) : (s.setAcct a x).tick = s.tick := rfl
@[simp] theorem State.setAcct_free (s : State) (a : Nat) (x : Acct) : (s.setAcct a x).free = s.free := rfl
@[simp] theorem State.setAcct_phase (s : State) (a : Nat) (x : Acct) : (s.setAcct a x).phase = s.phase := rfl
@[simp] theorem State.setAcct_stop (s : State) (a : Nat) (x : Acct) : (s.setAcct a x).stop = s.stop := rfl
@[simp] theorem State.setAcct_drive (s : State) (a : Nat) (x : Acct) : (s.setAcct a x).drive = s.drive := rfl
@[simp] theorem State.setAcct_regs (s : State) (a : Nat) (x : Acct) : (s.setAcct a x).regs = s.regs := rfl
@[simp] theorem State.setAcct_plate (s : State) (a : Nat) (x : Acct) : (s.setAcct a x).plate = s.plate := rfl
@[simp] theorem State.setAcct_power (s : State) (a : Nat) (x : Acct) : (s.setAcct a x).power = s.power := rfl
@[simp] theorem State.setAcct_start (s : State) (a : Nat) (x : Acct) : (s.setAcct a x).start = s.start := rfl
@[simp] theorem State.setAcct_time (s : State) (a : Nat) (x : Acct) : (s.setAcct a x).time = s.time := rfl
@[simp] theorem State.setAcct_vault (s : State) (a : Nat) (x : Acct) : (s.setAcct a x).vault = s.vault := rfl
@[simp] theorem State.setAcct_tills (s : State) (a : Nat) (x : Acct) : (s.setAcct a x).tills = s.tills := rfl
@[simp] theorem State.setAcct_tillMem (s : State) (a : Nat) (x : Acct) : (s.setAcct a x).tillMem = s.tillMem := rfl
@[simp] theorem State.setAcct_mgmt (s : State) (a : Nat) (x : Acct) : (s.setAcct a x).mgmt = s.mgmt := rfl
@[simp] theorem State.setAcct_image (s : State) (a : Nat) (x : Acct) : (s.setAcct a x).image = s.image := rfl
@[simp] theorem State.setAcct_hoCauses (s : State) (a : Nat) (x : Acct) : (s.setAcct a x).hoCauses = s.hoCauses := rfl
@[simp] theorem State.setAcct_ach (s : State) (a : Nat) (x : Acct) : (s.setAcct a x).ach = s.ach := rfl
@[simp] theorem State.setAcct_hart (s : State) (a : Nat) (x : Acct) : (s.setAcct a x).hart = s.hart := rfl
@[simp] theorem State.setAcct_dch (s : State) (a : Nat) (x : Acct) : (s.setAcct a x).dch = s.dch := rfl
@[simp] theorem State.setAcct_dslice (s : State) (a : Nat) (x : Acct) : (s.setAcct a x).dslice = s.dslice := rfl
@[simp] theorem State.setAcct_links (s : State) (a : Nat) (x : Acct) : (s.setAcct a x).links = s.links := rfl
@[simp] theorem State.setAcct_pair (s : State) (a : Nat) (x : Acct) : (s.setAcct a x).pair = s.pair := rfl
@[simp] theorem State.setAcct_can (s : State) (a : Nat) (x : Acct) : (s.setAcct a x).can = s.can := rfl
@[simp] theorem State.setAcct_net (s : State) (a : Nat) (x : Acct) : (s.setAcct a x).net = s.net := rfl
@[simp] theorem State.setAcct_out (s : State) (a : Nat) (x : Acct) : (s.setAcct a x).out = s.out := rfl
@[simp] theorem State.setAcct_safety (s : State) (a : Nat) (x : Acct) : (s.setAcct a x).safety = s.safety := rfl
@[simp] theorem State.setAcct_selfTest (s : State) (a : Nat) (x : Acct) : (s.setAcct a x).selfTest = s.selfTest := rfl
@[simp] theorem State.setAcct_panel (s : State) (a : Nat) (x : Acct) : (s.setAcct a x).panel = s.panel := rfl
@[simp] theorem State.setAcct_word (s : State) (a : Nat) (x : Acct) (addr : Nat) : (s.setAcct a x).word addr = s.word addr := rfl
@[simp] theorem State.setAcct_reg (s : State) (a : Nat) (x : Acct) (r : Reg) (i j : Nat) : (s.setAcct a x).reg r i j = s.reg r i j := rfl
@[simp] theorem State.setAcct_fld (s : State) (a : Nat) (x : Acct) (f : Fld) (i j : Nat) : (s.setAcct a x).fld f i j = s.fld f i j := rfl
@[simp] theorem State.setAcct_flag (s : State) (a : Nat) (x : Acct) (f : Fld) (i j : Nat) : (s.setAcct a x).flag f i j = s.flag f i j := rfl

/-! ### setSession -/
@[simp] theorem State.setSession_session_same (s : State) (n : Nat) (x : Session) : (s.setSession n x).session n = x := by
  simp [State.session, State.setSession]
theorem State.setSession_session_ne (s : State) {n j : Nat} (x : Session) (h : j ≠ n) : (s.setSession n x).session j = s.session j := by
  simp [State.session, State.setSession, nget_nset_ne _ _ _ _ h]
@[simp] theorem State.setSession_pending (s : State) (n : Nat) (x : Session) : (s.setSession n x).pending = s.pending := rfl
@[simp] theorem State.setSession_tick (s : State) (n : Nat) (x : Session) : (s.setSession n x).tick = s.tick := rfl
@[simp] theorem State.setSession_free (s : State) (n : Nat) (x : Session) : (s.setSession n x).free = s.free := rfl
@[simp] theorem State.setSession_phase (s : State) (n : Nat) (x : Session) : (s.setSession n x).phase = s.phase := rfl
@[simp] theorem State.setSession_stop (s : State) (n : Nat) (x : Session) : (s.setSession n x).stop = s.stop := rfl
@[simp] theorem State.setSession_drive (s : State) (n : Nat) (x : Session) : (s.setSession n x).drive = s.drive := rfl
@[simp] theorem State.setSession_regs (s : State) (n : Nat) (x : Session) : (s.setSession n x).regs = s.regs := rfl
@[simp] theorem State.setSession_plate (s : State) (n : Nat) (x : Session) : (s.setSession n x).plate = s.plate := rfl
@[simp] theorem State.setSession_power (s : State) (n : Nat) (x : Session) : (s.setSession n x).power = s.power := rfl
@[simp] theorem State.setSession_start (s : State) (n : Nat) (x : Session) : (s.setSession n x).start = s.start := rfl
@[simp] theorem State.setSession_time (s : State) (n : Nat) (x : Session) : (s.setSession n x).time = s.time := rfl
@[simp] theorem State.setSession_vault (s : State) (n : Nat) (x : Session) : (s.setSession n x).vault = s.vault := rfl
@[simp] theorem State.setSession_accts (s : State) (n : Nat) (x : Session) : (s.setSession n x).accts = s.accts := rfl
@[simp] theorem State.setSession_tills (s : State) (n : Nat) (x : Session) : (s.setSession n x).tills = s.tills := rfl
@[simp] theorem State.setSession_tillMem (s : State) (n : Nat) (x : Session) : (s.setSession n x).tillMem = s.tillMem := rfl
@[simp] theorem State.setSession_image (s : State) (n : Nat) (x : Session) : (s.setSession n x).image = s.image := rfl
@[simp] theorem State.setSession_hoCauses (s : State) (n : Nat) (x : Session) : (s.setSession n x).hoCauses = s.hoCauses := rfl
@[simp] theorem State.setSession_ach (s : State) (n : Nat) (x : Session) : (s.setSession n x).ach = s.ach := rfl
@[simp] theorem State.setSession_hart (s : State) (n : Nat) (x : Session) : (s.setSession n x).hart = s.hart := rfl
@[simp] theorem State.setSession_dch (s : State) (n : Nat) (x : Session) : (s.setSession n x).dch = s.dch := rfl
@[simp] theorem State.setSession_dslice (s : State) (n : Nat) (x : Session) : (s.setSession n x).dslice = s.dslice := rfl
@[simp] theorem State.setSession_links (s : State) (n : Nat) (x : Session) : (s.setSession n x).links = s.links := rfl
@[simp] theorem State.setSession_pair (s : State) (n : Nat) (x : Session) : (s.setSession n x).pair = s.pair := rfl
@[simp] theorem State.setSession_can (s : State) (n : Nat) (x : Session) : (s.setSession n x).can = s.can := rfl
@[simp] theorem State.setSession_net (s : State) (n : Nat) (x : Session) : (s.setSession n x).net = s.net := rfl
@[simp] theorem State.setSession_out (s : State) (n : Nat) (x : Session) : (s.setSession n x).out = s.out := rfl
@[simp] theorem State.setSession_safety (s : State) (n : Nat) (x : Session) : (s.setSession n x).safety = s.safety := rfl
@[simp] theorem State.setSession_selfTest (s : State) (n : Nat) (x : Session) : (s.setSession n x).selfTest = s.selfTest := rfl
@[simp] theorem State.setSession_panel (s : State) (n : Nat) (x : Session) : (s.setSession n x).panel = s.panel := rfl
@[simp] theorem State.setSession_word (s : State) (n : Nat) (x : Session) (addr : Nat) : (s.setSession n x).word addr = s.word addr := rfl
@[simp] theorem State.setSession_reg (s : State) (n : Nat) (x : Session) (r : Reg) (i j : Nat) : (s.setSession n x).reg r i j = s.reg r i j := rfl
@[simp] theorem State.setSession_fld (s : State) (n : Nat) (x : Session) (f : Fld) (i j : Nat) : (s.setSession n x).fld f i j = s.fld f i j := rfl
@[simp] theorem State.setSession_flag (s : State) (n : Nat) (x : Session) (f : Fld) (i j : Nat) : (s.setSession n x).flag f i j = s.flag f i j := rfl

/-! ### setWindow -/
@[simp] theorem State.setWindow_window_same (s : State) (a : Nat) (x : Window) : (s.setWindow a x).window a = x := by
  simp [State.window, State.setWindow]
theorem State.setWindow_window_ne (s : State) {a j : Nat} (x : Window) (h : j ≠ a) : (s.setWindow a x).window j = s.window j := by
  simp [State.window, State.setWindow, nget_nset_ne _ _ _ _ h]
@[simp] theorem State.setWindow_pending (s : State) (a : Nat) (x : Window) : (s.setWindow a x).pending = s.pending := rfl
@[simp] theorem State.setWindow_tick (s : State) (a : Nat) (x : Window) : (s.setWindow a x).tick = s.tick := rfl
@[simp] theorem State.setWindow_free (s : State) (a : Nat) (x : Window) : (s.setWindow a x).free = s.free := rfl
@[simp] theorem State.setWindow_phase (s : State) (a : Nat) (x : Window) : (s.setWindow a x).phase = s.phase := rfl
@[simp] theorem State.setWindow_stop (s : State) (a : Nat) (x : Window) : (s.setWindow a x).stop = s.stop := rfl
@[simp] theorem State.setWindow_drive (s : State) (a : Nat) (x : Window) : (s.setWindow a x).drive = s.drive := rfl
@[simp] theorem State.setWindow_regs (s : State) (a : Nat) (x : Window) : (s.setWindow a x).regs = s.regs := rfl
@[simp] theorem State.setWindow_plate (s : State) (a : Nat) (x : Window) : (s.setWindow a x).plate = s.plate := rfl
@[simp] theorem State.setWindow_power (s : State) (a : Nat) (x : Window) : (s.setWindow a x).power = s.power := rfl
@[simp] theorem State.setWindow_start (s : State) (a : Nat) (x : Window) : (s.setWindow a x).start = s.start := rfl
@[simp] theorem State.setWindow_time (s : State) (a : Nat) (x : Window) : (s.setWindow a x).time = s.time := rfl
@[simp] theorem State.setWindow_vault (s : State) (a : Nat) (x : Window) : (s.setWindow a x).vault = s.vault := rfl
@[simp] theorem State.setWindow_accts (s : State) (a : Nat) (x : Window) : (s.setWindow a x).accts = s.accts := rfl
@[simp] theorem State.setWindow_tills (s : State) (a : Nat) (x : Window) : (s.setWindow a x).tills = s.tills := rfl
@[simp] theorem State.setWindow_tillMem (s : State) (a : Nat) (x : Window) : (s.setWindow a x).tillMem = s.tillMem := rfl
@[simp] theorem State.setWindow_image (s : State) (a : Nat) (x : Window) : (s.setWindow a x).image = s.image := rfl
@[simp] theorem State.setWindow_hoCauses (s : State) (a : Nat) (x : Window) : (s.setWindow a x).hoCauses = s.hoCauses := rfl
@[simp] theorem State.setWindow_ach (s : State) (a : Nat) (x : Window) : (s.setWindow a x).ach = s.ach := rfl
@[simp] theorem State.setWindow_hart (s : State) (a : Nat) (x : Window) : (s.setWindow a x).hart = s.hart := rfl
@[simp] theorem State.setWindow_dch (s : State) (a : Nat) (x : Window) : (s.setWindow a x).dch = s.dch := rfl
@[simp] theorem State.setWindow_dslice (s : State) (a : Nat) (x : Window) : (s.setWindow a x).dslice = s.dslice := rfl
@[simp] theorem State.setWindow_links (s : State) (a : Nat) (x : Window) : (s.setWindow a x).links = s.links := rfl
@[simp] theorem State.setWindow_pair (s : State) (a : Nat) (x : Window) : (s.setWindow a x).pair = s.pair := rfl
@[simp] theorem State.setWindow_can (s : State) (a : Nat) (x : Window) : (s.setWindow a x).can = s.can := rfl
@[simp] theorem State.setWindow_net (s : State) (a : Nat) (x : Window) : (s.setWindow a x).net = s.net := rfl
@[simp] theorem State.setWindow_out (s : State) (a : Nat) (x : Window) : (s.setWindow a x).out = s.out := rfl
@[simp] theorem State.setWindow_safety (s : State) (a : Nat) (x : Window) : (s.setWindow a x).safety = s.safety := rfl
@[simp] theorem State.setWindow_selfTest (s : State) (a : Nat) (x : Window) : (s.setWindow a x).selfTest = s.selfTest := rfl
@[simp] theorem State.setWindow_panel (s : State) (a : Nat) (x : Window) : (s.setWindow a x).panel = s.panel := rfl
@[simp] theorem State.setWindow_word (s : State) (a : Nat) (x : Window) (addr : Nat) : (s.setWindow a x).word addr = s.word addr := rfl
@[simp] theorem State.setWindow_reg (s : State) (a : Nat) (x : Window) (r : Reg) (i j : Nat) : (s.setWindow a x).reg r i j = s.reg r i j := rfl
@[simp] theorem State.setWindow_fld (s : State) (a : Nat) (x : Window) (f : Fld) (i j : Nat) : (s.setWindow a x).fld f i j = s.fld f i j := rfl
@[simp] theorem State.setWindow_flag (s : State) (a : Nat) (x : Window) (f : Fld) (i j : Nat) : (s.setWindow a x).flag f i j = s.flag f i j := rfl

/-! ### setBase -/
@[simp] theorem State.setBase_base_same (s : State) (d : Nat) (x : Base) : (s.setBase d x).base d = x := by
  simp [State.base, State.setBase]
theorem State.setBase_base_ne (s : State) {d j : Nat} (x : Base) (h : j ≠ d) : (s.setBase d x).base j = s.base j := by
  simp [State.base, State.setBase, nget_nset_ne _ _ _ _ h]
@[simp] theorem State.setBase_pending (s : State) (d : Nat) (x : Base) : (s.setBase d x).pending = s.pending := rfl
@[simp] theorem State.setBase_tick (s : State) (d : Nat) (x : Base) : (s.setBase d x).tick = s.tick := rfl
@[simp] theorem State.setBase_free (s : State) (d : Nat) (x : Base) : (s.setBase d x).free = s.free := rfl
@[simp] theorem State.setBase_phase (s : State) (d : Nat) (x : Base) : (s.setBase d x).phase = s.phase := rfl
@[simp] theorem State.setBase_stop (s : State) (d : Nat) (x : Base) : (s.setBase d x).stop = s.stop := rfl
@[simp] theorem State.setBase_drive (s : State) (d : Nat) (x : Base) : (s.setBase d x).drive = s.drive := rfl
@[simp] theorem State.setBase_regs (s : State) (d : Nat) (x : Base) : (s.setBase d x).regs = s.regs := rfl
@[simp] theorem State.setBase_plate (s : State) (d : Nat) (x : Base) : (s.setBase d x).plate = s.plate := rfl
@[simp] theorem State.setBase_power (s : State) (d : Nat) (x : Base) : (s.setBase d x).power = s.power := rfl
@[simp] theorem State.setBase_start (s : State) (d : Nat) (x : Base) : (s.setBase d x).start = s.start := rfl
@[simp] theorem State.setBase_vault (s : State) (d : Nat) (x : Base) : (s.setBase d x).vault = s.vault := rfl
@[simp] theorem State.setBase_accts (s : State) (d : Nat) (x : Base) : (s.setBase d x).accts = s.accts := rfl
@[simp] theorem State.setBase_tills (s : State) (d : Nat) (x : Base) : (s.setBase d x).tills = s.tills := rfl
@[simp] theorem State.setBase_tillMem (s : State) (d : Nat) (x : Base) : (s.setBase d x).tillMem = s.tillMem := rfl
@[simp] theorem State.setBase_mgmt (s : State) (d : Nat) (x : Base) : (s.setBase d x).mgmt = s.mgmt := rfl
@[simp] theorem State.setBase_image (s : State) (d : Nat) (x : Base) : (s.setBase d x).image = s.image := rfl
@[simp] theorem State.setBase_hoCauses (s : State) (d : Nat) (x : Base) : (s.setBase d x).hoCauses = s.hoCauses := rfl
@[simp] theorem State.setBase_ach (s : State) (d : Nat) (x : Base) : (s.setBase d x).ach = s.ach := rfl
@[simp] theorem State.setBase_hart (s : State) (d : Nat) (x : Base) : (s.setBase d x).hart = s.hart := rfl
@[simp] theorem State.setBase_dch (s : State) (d : Nat) (x : Base) : (s.setBase d x).dch = s.dch := rfl
@[simp] theorem State.setBase_dslice (s : State) (d : Nat) (x : Base) : (s.setBase d x).dslice = s.dslice := rfl
@[simp] theorem State.setBase_links (s : State) (d : Nat) (x : Base) : (s.setBase d x).links = s.links := rfl
@[simp] theorem State.setBase_pair (s : State) (d : Nat) (x : Base) : (s.setBase d x).pair = s.pair := rfl
@[simp] theorem State.setBase_can (s : State) (d : Nat) (x : Base) : (s.setBase d x).can = s.can := rfl
@[simp] theorem State.setBase_net (s : State) (d : Nat) (x : Base) : (s.setBase d x).net = s.net := rfl
@[simp] theorem State.setBase_out (s : State) (d : Nat) (x : Base) : (s.setBase d x).out = s.out := rfl
@[simp] theorem State.setBase_safety (s : State) (d : Nat) (x : Base) : (s.setBase d x).safety = s.safety := rfl
@[simp] theorem State.setBase_selfTest (s : State) (d : Nat) (x : Base) : (s.setBase d x).selfTest = s.selfTest := rfl
@[simp] theorem State.setBase_panel (s : State) (d : Nat) (x : Base) : (s.setBase d x).panel = s.panel := rfl
@[simp] theorem State.setBase_word (s : State) (d : Nat) (x : Base) (addr : Nat) : (s.setBase d x).word addr = s.word addr := rfl
@[simp] theorem State.setBase_reg (s : State) (d : Nat) (x : Base) (r : Reg) (i j : Nat) : (s.setBase d x).reg r i j = s.reg r i j := rfl
@[simp] theorem State.setBase_fld (s : State) (d : Nat) (x : Base) (f : Fld) (i j : Nat) : (s.setBase d x).fld f i j = s.fld f i j := rfl
@[simp] theorem State.setBase_flag (s : State) (d : Nat) (x : Base) (f : Fld) (i j : Nat) : (s.setBase d x).flag f i j = s.flag f i j := rfl

/-! ### setPtp -/
@[simp] theorem State.setPtp_ptp_same (s : State) (p : Nat) (x : PtpPort) : (s.setPtp p x).ptp p = x := by
  simp [State.ptp, State.setPtp]
theorem State.setPtp_ptp_ne (s : State) {p j : Nat} (x : PtpPort) (h : j ≠ p) : (s.setPtp p x).ptp j = s.ptp j := by
  simp [State.ptp, State.setPtp, nget_nset_ne _ _ _ _ h]
@[simp] theorem State.setPtp_pending (s : State) (p : Nat) (x : PtpPort) : (s.setPtp p x).pending = s.pending := rfl
@[simp] theorem State.setPtp_tick (s : State) (p : Nat) (x : PtpPort) : (s.setPtp p x).tick = s.tick := rfl
@[simp] theorem State.setPtp_free (s : State) (p : Nat) (x : PtpPort) : (s.setPtp p x).free = s.free := rfl
@[simp] theorem State.setPtp_phase (s : State) (p : Nat) (x : PtpPort) : (s.setPtp p x).phase = s.phase := rfl
@[simp] theorem State.setPtp_stop (s : State) (p : Nat) (x : PtpPort) : (s.setPtp p x).stop = s.stop := rfl
@[simp] theorem State.setPtp_drive (s : State) (p : Nat) (x : PtpPort) : (s.setPtp p x).drive = s.drive := rfl
@[simp] theorem State.setPtp_regs (s : State) (p : Nat) (x : PtpPort) : (s.setPtp p x).regs = s.regs := rfl
@[simp] theorem State.setPtp_plate (s : State) (p : Nat) (x : PtpPort) : (s.setPtp p x).plate = s.plate := rfl
@[simp] theorem State.setPtp_power (s : State) (p : Nat) (x : PtpPort) : (s.setPtp p x).power = s.power := rfl
@[simp] theorem State.setPtp_start (s : State) (p : Nat) (x : PtpPort) : (s.setPtp p x).start = s.start := rfl
@[simp] theorem State.setPtp_vault (s : State) (p : Nat) (x : PtpPort) : (s.setPtp p x).vault = s.vault := rfl
@[simp] theorem State.setPtp_accts (s : State) (p : Nat) (x : PtpPort) : (s.setPtp p x).accts = s.accts := rfl
@[simp] theorem State.setPtp_tills (s : State) (p : Nat) (x : PtpPort) : (s.setPtp p x).tills = s.tills := rfl
@[simp] theorem State.setPtp_tillMem (s : State) (p : Nat) (x : PtpPort) : (s.setPtp p x).tillMem = s.tillMem := rfl
@[simp] theorem State.setPtp_mgmt (s : State) (p : Nat) (x : PtpPort) : (s.setPtp p x).mgmt = s.mgmt := rfl
@[simp] theorem State.setPtp_image (s : State) (p : Nat) (x : PtpPort) : (s.setPtp p x).image = s.image := rfl
@[simp] theorem State.setPtp_hoCauses (s : State) (p : Nat) (x : PtpPort) : (s.setPtp p x).hoCauses = s.hoCauses := rfl
@[simp] theorem State.setPtp_ach (s : State) (p : Nat) (x : PtpPort) : (s.setPtp p x).ach = s.ach := rfl
@[simp] theorem State.setPtp_hart (s : State) (p : Nat) (x : PtpPort) : (s.setPtp p x).hart = s.hart := rfl
@[simp] theorem State.setPtp_dch (s : State) (p : Nat) (x : PtpPort) : (s.setPtp p x).dch = s.dch := rfl
@[simp] theorem State.setPtp_dslice (s : State) (p : Nat) (x : PtpPort) : (s.setPtp p x).dslice = s.dslice := rfl
@[simp] theorem State.setPtp_links (s : State) (p : Nat) (x : PtpPort) : (s.setPtp p x).links = s.links := rfl
@[simp] theorem State.setPtp_pair (s : State) (p : Nat) (x : PtpPort) : (s.setPtp p x).pair = s.pair := rfl
@[simp] theorem State.setPtp_can (s : State) (p : Nat) (x : PtpPort) : (s.setPtp p x).can = s.can := rfl
@[simp] theorem State.setPtp_net (s : State) (p : Nat) (x : PtpPort) : (s.setPtp p x).net = s.net := rfl
@[simp] theorem State.setPtp_out (s : State) (p : Nat) (x : PtpPort) : (s.setPtp p x).out = s.out := rfl
@[simp] theorem State.setPtp_safety (s : State) (p : Nat) (x : PtpPort) : (s.setPtp p x).safety = s.safety := rfl
@[simp] theorem State.setPtp_selfTest (s : State) (p : Nat) (x : PtpPort) : (s.setPtp p x).selfTest = s.selfTest := rfl
@[simp] theorem State.setPtp_panel (s : State) (p : Nat) (x : PtpPort) : (s.setPtp p x).panel = s.panel := rfl
@[simp] theorem State.setPtp_word (s : State) (p : Nat) (x : PtpPort) (addr : Nat) : (s.setPtp p x).word addr = s.word addr := rfl
@[simp] theorem State.setPtp_reg (s : State) (p : Nat) (x : PtpPort) (r : Reg) (i j : Nat) : (s.setPtp p x).reg r i j = s.reg r i j := rfl
@[simp] theorem State.setPtp_fld (s : State) (p : Nat) (x : PtpPort) (f : Fld) (i j : Nat) : (s.setPtp p x).fld f i j = s.fld f i j := rfl
@[simp] theorem State.setPtp_flag (s : State) (p : Nat) (x : PtpPort) (f : Fld) (i j : Nat) : (s.setPtp p x).flag f i j = s.flag f i j := rfl

/-! ### setVdev -/
@[simp] theorem State.setVdev_vdev_same (s : State) (d : Nat) (x : VDev) : (s.setVdev d x).vdev d = x := by
  simp [State.vdev, State.setVdev]
theorem State.setVdev_vdev_ne (s : State) {d j : Nat} (x : VDev) (h : j ≠ d) : (s.setVdev d x).vdev j = s.vdev j := by
  simp [State.vdev, State.setVdev, nget_nset_ne _ _ _ _ h]
@[simp] theorem State.setVdev_pending (s : State) (d : Nat) (x : VDev) : (s.setVdev d x).pending = s.pending := rfl
@[simp] theorem State.setVdev_tick (s : State) (d : Nat) (x : VDev) : (s.setVdev d x).tick = s.tick := rfl
@[simp] theorem State.setVdev_free (s : State) (d : Nat) (x : VDev) : (s.setVdev d x).free = s.free := rfl
@[simp] theorem State.setVdev_phase (s : State) (d : Nat) (x : VDev) : (s.setVdev d x).phase = s.phase := rfl
@[simp] theorem State.setVdev_stop (s : State) (d : Nat) (x : VDev) : (s.setVdev d x).stop = s.stop := rfl
@[simp] theorem State.setVdev_drive (s : State) (d : Nat) (x : VDev) : (s.setVdev d x).drive = s.drive := rfl
@[simp] theorem State.setVdev_regs (s : State) (d : Nat) (x : VDev) : (s.setVdev d x).regs = s.regs := rfl
@[simp] theorem State.setVdev_plate (s : State) (d : Nat) (x : VDev) : (s.setVdev d x).plate = s.plate := rfl
@[simp] theorem State.setVdev_power (s : State) (d : Nat) (x : VDev) : (s.setVdev d x).power = s.power := rfl
@[simp] theorem State.setVdev_start (s : State) (d : Nat) (x : VDev) : (s.setVdev d x).start = s.start := rfl
@[simp] theorem State.setVdev_time (s : State) (d : Nat) (x : VDev) : (s.setVdev d x).time = s.time := rfl
@[simp] theorem State.setVdev_accts (s : State) (d : Nat) (x : VDev) : (s.setVdev d x).accts = s.accts := rfl
@[simp] theorem State.setVdev_tills (s : State) (d : Nat) (x : VDev) : (s.setVdev d x).tills = s.tills := rfl
@[simp] theorem State.setVdev_tillMem (s : State) (d : Nat) (x : VDev) : (s.setVdev d x).tillMem = s.tillMem := rfl
@[simp] theorem State.setVdev_mgmt (s : State) (d : Nat) (x : VDev) : (s.setVdev d x).mgmt = s.mgmt := rfl
@[simp] theorem State.setVdev_image (s : State) (d : Nat) (x : VDev) : (s.setVdev d x).image = s.image := rfl
@[simp] theorem State.setVdev_hoCauses (s : State) (d : Nat) (x : VDev) : (s.setVdev d x).hoCauses = s.hoCauses := rfl
@[simp] theorem State.setVdev_ach (s : State) (d : Nat) (x : VDev) : (s.setVdev d x).ach = s.ach := rfl
@[simp] theorem State.setVdev_hart (s : State) (d : Nat) (x : VDev) : (s.setVdev d x).hart = s.hart := rfl
@[simp] theorem State.setVdev_dch (s : State) (d : Nat) (x : VDev) : (s.setVdev d x).dch = s.dch := rfl
@[simp] theorem State.setVdev_dslice (s : State) (d : Nat) (x : VDev) : (s.setVdev d x).dslice = s.dslice := rfl
@[simp] theorem State.setVdev_links (s : State) (d : Nat) (x : VDev) : (s.setVdev d x).links = s.links := rfl
@[simp] theorem State.setVdev_pair (s : State) (d : Nat) (x : VDev) : (s.setVdev d x).pair = s.pair := rfl
@[simp] theorem State.setVdev_can (s : State) (d : Nat) (x : VDev) : (s.setVdev d x).can = s.can := rfl
@[simp] theorem State.setVdev_net (s : State) (d : Nat) (x : VDev) : (s.setVdev d x).net = s.net := rfl
@[simp] theorem State.setVdev_out (s : State) (d : Nat) (x : VDev) : (s.setVdev d x).out = s.out := rfl
@[simp] theorem State.setVdev_safety (s : State) (d : Nat) (x : VDev) : (s.setVdev d x).safety = s.safety := rfl
@[simp] theorem State.setVdev_selfTest (s : State) (d : Nat) (x : VDev) : (s.setVdev d x).selfTest = s.selfTest := rfl
@[simp] theorem State.setVdev_panel (s : State) (d : Nat) (x : VDev) : (s.setVdev d x).panel = s.panel := rfl
@[simp] theorem State.setVdev_word (s : State) (d : Nat) (x : VDev) (addr : Nat) : (s.setVdev d x).word addr = s.word addr := rfl
@[simp] theorem State.setVdev_reg (s : State) (d : Nat) (x : VDev) (r : Reg) (i j : Nat) : (s.setVdev d x).reg r i j = s.reg r i j := rfl
@[simp] theorem State.setVdev_fld (s : State) (d : Nat) (x : VDev) (f : Fld) (i j : Nat) : (s.setVdev d x).fld f i j = s.fld f i j := rfl
@[simp] theorem State.setVdev_flag (s : State) (d : Nat) (x : VDev) (f : Fld) (i j : Nat) : (s.setVdev d x).flag f i j = s.flag f i j := rfl

/-! ### setLink -/
@[simp] theorem State.setLink_link_same (s : State) (sl : Nat) (x : Link) : (s.setLink sl x).link sl = x := by
  simp [State.link, State.setLink]
theorem State.setLink_link_ne (s : State) {sl j : Nat} (x : Link) (h : j ≠ sl) : (s.setLink sl x).link j = s.link j := by
  simp [State.link, State.setLink, nget_nset_ne _ _ _ _ h]
@[simp] theorem State.setLink_pending (s : State) (sl : Nat) (x : Link) : (s.setLink sl x).pending = s.pending := rfl
@[simp] theorem State.setLink_tick (s : State) (sl : Nat) (x : Link) : (s.setLink sl x).tick = s.tick := rfl
@[simp] theorem State.setLink_free (s : State) (sl : Nat) (x : Link) : (s.setLink sl x).free = s.free := rfl
@[simp] theorem State.setLink_phase (s : State) (sl : Nat) (x : Link) : (s.setLink sl x).phase = s.phase := rfl
@[simp] theorem State.setLink_stop (s : State) (sl : Nat) (x : Link) : (s.setLink sl x).stop = s.stop := rfl
@[simp] theorem State.setLink_drive (s : State) (sl : Nat) (x : Link) : (s.setLink sl x).drive = s.drive := rfl
@[simp] theorem State.setLink_regs (s : State) (sl : Nat) (x : Link) : (s.setLink sl x).regs = s.regs := rfl
@[simp] theorem State.setLink_plate (s : State) (sl : Nat) (x : Link) : (s.setLink sl x).plate = s.plate := rfl
@[simp] theorem State.setLink_power (s : State) (sl : Nat) (x : Link) : (s.setLink sl x).power = s.power := rfl
@[simp] theorem State.setLink_start (s : State) (sl : Nat) (x : Link) : (s.setLink sl x).start = s.start := rfl
@[simp] theorem State.setLink_time (s : State) (sl : Nat) (x : Link) : (s.setLink sl x).time = s.time := rfl
@[simp] theorem State.setLink_vault (s : State) (sl : Nat) (x : Link) : (s.setLink sl x).vault = s.vault := rfl
@[simp] theorem State.setLink_accts (s : State) (sl : Nat) (x : Link) : (s.setLink sl x).accts = s.accts := rfl
@[simp] theorem State.setLink_tills (s : State) (sl : Nat) (x : Link) : (s.setLink sl x).tills = s.tills := rfl
@[simp] theorem State.setLink_tillMem (s : State) (sl : Nat) (x : Link) : (s.setLink sl x).tillMem = s.tillMem := rfl
@[simp] theorem State.setLink_mgmt (s : State) (sl : Nat) (x : Link) : (s.setLink sl x).mgmt = s.mgmt := rfl
@[simp] theorem State.setLink_image (s : State) (sl : Nat) (x : Link) : (s.setLink sl x).image = s.image := rfl
@[simp] theorem State.setLink_hoCauses (s : State) (sl : Nat) (x : Link) : (s.setLink sl x).hoCauses = s.hoCauses := rfl
@[simp] theorem State.setLink_ach (s : State) (sl : Nat) (x : Link) : (s.setLink sl x).ach = s.ach := rfl
@[simp] theorem State.setLink_hart (s : State) (sl : Nat) (x : Link) : (s.setLink sl x).hart = s.hart := rfl
@[simp] theorem State.setLink_dch (s : State) (sl : Nat) (x : Link) : (s.setLink sl x).dch = s.dch := rfl
@[simp] theorem State.setLink_dslice (s : State) (sl : Nat) (x : Link) : (s.setLink sl x).dslice = s.dslice := rfl
@[simp] theorem State.setLink_pair (s : State) (sl : Nat) (x : Link) : (s.setLink sl x).pair = s.pair := rfl
@[simp] theorem State.setLink_can (s : State) (sl : Nat) (x : Link) : (s.setLink sl x).can = s.can := rfl
@[simp] theorem State.setLink_net (s : State) (sl : Nat) (x : Link) : (s.setLink sl x).net = s.net := rfl
@[simp] theorem State.setLink_out (s : State) (sl : Nat) (x : Link) : (s.setLink sl x).out = s.out := rfl
@[simp] theorem State.setLink_safety (s : State) (sl : Nat) (x : Link) : (s.setLink sl x).safety = s.safety := rfl
@[simp] theorem State.setLink_selfTest (s : State) (sl : Nat) (x : Link) : (s.setLink sl x).selfTest = s.selfTest := rfl
@[simp] theorem State.setLink_panel (s : State) (sl : Nat) (x : Link) : (s.setLink sl x).panel = s.panel := rfl
@[simp] theorem State.setLink_word (s : State) (sl : Nat) (x : Link) (addr : Nat) : (s.setLink sl x).word addr = s.word addr := rfl
@[simp] theorem State.setLink_reg (s : State) (sl : Nat) (x : Link) (r : Reg) (i j : Nat) : (s.setLink sl x).reg r i j = s.reg r i j := rfl
@[simp] theorem State.setLink_fld (s : State) (sl : Nat) (x : Link) (f : Fld) (i j : Nat) : (s.setLink sl x).fld f i j = s.fld f i j := rfl
@[simp] theorem State.setLink_flag (s : State) (sl : Nat) (x : Link) (f : Fld) (i j : Nat) : (s.setLink sl x).flag f i j = s.flag f i j := rfl

/-! ### setAch -/
@[simp] theorem State.setAch_achan_same (s : State) (g : Nat) (x : ACh) : (s.setAch g x).achan g = x := by
  simp [State.achan, State.setAch]
theorem State.setAch_achan_ne (s : State) {g j : Nat} (x : ACh) (h : j ≠ g) : (s.setAch g x).achan j = s.achan j := by
  simp [State.achan, State.setAch, nget_nset_ne _ _ _ _ h]
@[simp] theorem State.setAch_pending (s : State) (g : Nat) (x : ACh) : (s.setAch g x).pending = s.pending := rfl
@[simp] theorem State.setAch_tick (s : State) (g : Nat) (x : ACh) : (s.setAch g x).tick = s.tick := rfl
@[simp] theorem State.setAch_free (s : State) (g : Nat) (x : ACh) : (s.setAch g x).free = s.free := rfl
@[simp] theorem State.setAch_phase (s : State) (g : Nat) (x : ACh) : (s.setAch g x).phase = s.phase := rfl
@[simp] theorem State.setAch_stop (s : State) (g : Nat) (x : ACh) : (s.setAch g x).stop = s.stop := rfl
@[simp] theorem State.setAch_drive (s : State) (g : Nat) (x : ACh) : (s.setAch g x).drive = s.drive := rfl
@[simp] theorem State.setAch_regs (s : State) (g : Nat) (x : ACh) : (s.setAch g x).regs = s.regs := rfl
@[simp] theorem State.setAch_plate (s : State) (g : Nat) (x : ACh) : (s.setAch g x).plate = s.plate := rfl
@[simp] theorem State.setAch_power (s : State) (g : Nat) (x : ACh) : (s.setAch g x).power = s.power := rfl
@[simp] theorem State.setAch_start (s : State) (g : Nat) (x : ACh) : (s.setAch g x).start = s.start := rfl
@[simp] theorem State.setAch_time (s : State) (g : Nat) (x : ACh) : (s.setAch g x).time = s.time := rfl
@[simp] theorem State.setAch_vault (s : State) (g : Nat) (x : ACh) : (s.setAch g x).vault = s.vault := rfl
@[simp] theorem State.setAch_accts (s : State) (g : Nat) (x : ACh) : (s.setAch g x).accts = s.accts := rfl
@[simp] theorem State.setAch_tills (s : State) (g : Nat) (x : ACh) : (s.setAch g x).tills = s.tills := rfl
@[simp] theorem State.setAch_tillMem (s : State) (g : Nat) (x : ACh) : (s.setAch g x).tillMem = s.tillMem := rfl
@[simp] theorem State.setAch_mgmt (s : State) (g : Nat) (x : ACh) : (s.setAch g x).mgmt = s.mgmt := rfl
@[simp] theorem State.setAch_image (s : State) (g : Nat) (x : ACh) : (s.setAch g x).image = s.image := rfl
@[simp] theorem State.setAch_hoCauses (s : State) (g : Nat) (x : ACh) : (s.setAch g x).hoCauses = s.hoCauses := rfl
@[simp] theorem State.setAch_hart (s : State) (g : Nat) (x : ACh) : (s.setAch g x).hart = s.hart := rfl
@[simp] theorem State.setAch_dch (s : State) (g : Nat) (x : ACh) : (s.setAch g x).dch = s.dch := rfl
@[simp] theorem State.setAch_dslice (s : State) (g : Nat) (x : ACh) : (s.setAch g x).dslice = s.dslice := rfl
@[simp] theorem State.setAch_links (s : State) (g : Nat) (x : ACh) : (s.setAch g x).links = s.links := rfl
@[simp] theorem State.setAch_pair (s : State) (g : Nat) (x : ACh) : (s.setAch g x).pair = s.pair := rfl
@[simp] theorem State.setAch_can (s : State) (g : Nat) (x : ACh) : (s.setAch g x).can = s.can := rfl
@[simp] theorem State.setAch_net (s : State) (g : Nat) (x : ACh) : (s.setAch g x).net = s.net := rfl
@[simp] theorem State.setAch_out (s : State) (g : Nat) (x : ACh) : (s.setAch g x).out = s.out := rfl
@[simp] theorem State.setAch_safety (s : State) (g : Nat) (x : ACh) : (s.setAch g x).safety = s.safety := rfl
@[simp] theorem State.setAch_selfTest (s : State) (g : Nat) (x : ACh) : (s.setAch g x).selfTest = s.selfTest := rfl
@[simp] theorem State.setAch_panel (s : State) (g : Nat) (x : ACh) : (s.setAch g x).panel = s.panel := rfl
@[simp] theorem State.setAch_word (s : State) (g : Nat) (x : ACh) (addr : Nat) : (s.setAch g x).word addr = s.word addr := rfl
@[simp] theorem State.setAch_reg (s : State) (g : Nat) (x : ACh) (r : Reg) (i j : Nat) : (s.setAch g x).reg r i j = s.reg r i j := rfl
@[simp] theorem State.setAch_fld (s : State) (g : Nat) (x : ACh) (f : Fld) (i j : Nat) : (s.setAch g x).fld f i j = s.fld f i j := rfl
@[simp] theorem State.setAch_flag (s : State) (g : Nat) (x : ACh) (f : Fld) (i j : Nat) : (s.setAch g x).flag f i j = s.flag f i j := rfl

/-! ### setDch -/
@[simp] theorem State.setDch_dchan_same (s : State) (n : Nat) (x : DCh) : (s.setDch n x).dchan n = x := by
  simp [State.dchan, State.setDch]
theorem State.setDch_dchan_ne (s : State) {n j : Nat} (x : DCh) (h : j ≠ n) : (s.setDch n x).dchan j = s.dchan j := by
  simp [State.dchan, State.setDch, nget_nset_ne _ _ _ _ h]
@[simp] theorem State.setDch_pending (s : State) (n : Nat) (x : DCh) : (s.setDch n x).pending = s.pending := rfl
@[simp] theorem State.setDch_tick (s : State) (n : Nat) (x : DCh) : (s.setDch n x).tick = s.tick := rfl
@[simp] theorem State.setDch_free (s : State) (n : Nat) (x : DCh) : (s.setDch n x).free = s.free := rfl
@[simp] theorem State.setDch_phase (s : State) (n : Nat) (x : DCh) : (s.setDch n x).phase = s.phase := rfl
@[simp] theorem State.setDch_stop (s : State) (n : Nat) (x : DCh) : (s.setDch n x).stop = s.stop := rfl
@[simp] theorem State.setDch_drive (s : State) (n : Nat) (x : DCh) : (s.setDch n x).drive = s.drive := rfl
@[simp] theorem State.setDch_regs (s : State) (n : Nat) (x : DCh) : (s.setDch n x).regs = s.regs := rfl
@[simp] theorem State.setDch_plate (s : State) (n : Nat) (x : DCh) : (s.setDch n x).plate = s.plate := rfl
@[simp] theorem State.setDch_power (s : State) (n : Nat) (x : DCh) : (s.setDch n x).power = s.power := rfl
@[simp] theorem State.setDch_start (s : State) (n : Nat) (x : DCh) : (s.setDch n x).start = s.start := rfl
@[simp] theorem State.setDch_time (s : State) (n : Nat) (x : DCh) : (s.setDch n x).time = s.time := rfl
@[simp] theorem State.setDch_vault (s : State) (n : Nat) (x : DCh) : (s.setDch n x).vault = s.vault := rfl
@[simp] theorem State.setDch_accts (s : State) (n : Nat) (x : DCh) : (s.setDch n x).accts = s.accts := rfl
@[simp] theorem State.setDch_tills (s : State) (n : Nat) (x : DCh) : (s.setDch n x).tills = s.tills := rfl
@[simp] theorem State.setDch_tillMem (s : State) (n : Nat) (x : DCh) : (s.setDch n x).tillMem = s.tillMem := rfl
@[simp] theorem State.setDch_mgmt (s : State) (n : Nat) (x : DCh) : (s.setDch n x).mgmt = s.mgmt := rfl
@[simp] theorem State.setDch_image (s : State) (n : Nat) (x : DCh) : (s.setDch n x).image = s.image := rfl
@[simp] theorem State.setDch_hoCauses (s : State) (n : Nat) (x : DCh) : (s.setDch n x).hoCauses = s.hoCauses := rfl
@[simp] theorem State.setDch_ach (s : State) (n : Nat) (x : DCh) : (s.setDch n x).ach = s.ach := rfl
@[simp] theorem State.setDch_hart (s : State) (n : Nat) (x : DCh) : (s.setDch n x).hart = s.hart := rfl
@[simp] theorem State.setDch_dslice (s : State) (n : Nat) (x : DCh) : (s.setDch n x).dslice = s.dslice := rfl
@[simp] theorem State.setDch_links (s : State) (n : Nat) (x : DCh) : (s.setDch n x).links = s.links := rfl
@[simp] theorem State.setDch_pair (s : State) (n : Nat) (x : DCh) : (s.setDch n x).pair = s.pair := rfl
@[simp] theorem State.setDch_can (s : State) (n : Nat) (x : DCh) : (s.setDch n x).can = s.can := rfl
@[simp] theorem State.setDch_net (s : State) (n : Nat) (x : DCh) : (s.setDch n x).net = s.net := rfl
@[simp] theorem State.setDch_out (s : State) (n : Nat) (x : DCh) : (s.setDch n x).out = s.out := rfl
@[simp] theorem State.setDch_safety (s : State) (n : Nat) (x : DCh) : (s.setDch n x).safety = s.safety := rfl
@[simp] theorem State.setDch_selfTest (s : State) (n : Nat) (x : DCh) : (s.setDch n x).selfTest = s.selfTest := rfl
@[simp] theorem State.setDch_panel (s : State) (n : Nat) (x : DCh) : (s.setDch n x).panel = s.panel := rfl
@[simp] theorem State.setDch_word (s : State) (n : Nat) (x : DCh) (addr : Nat) : (s.setDch n x).word addr = s.word addr := rfl
@[simp] theorem State.setDch_reg (s : State) (n : Nat) (x : DCh) (r : Reg) (i j : Nat) : (s.setDch n x).reg r i j = s.reg r i j := rfl
@[simp] theorem State.setDch_fld (s : State) (n : Nat) (x : DCh) (f : Fld) (i j : Nat) : (s.setDch n x).fld f i j = s.fld f i j := rfl
@[simp] theorem State.setDch_flag (s : State) (n : Nat) (x : DCh) (f : Fld) (i j : Nat) : (s.setDch n x).flag f i j = s.flag f i j := rfl

/-! ### setHart -/
@[simp] theorem State.setHart_hartOf_same (s : State) (g : Nat) (x : HartCh) : (s.setHart g x).hartOf g = x := by
  simp [State.hartOf, State.setHart]
theorem State.setHart_hartOf_ne (s : State) {g j : Nat} (x : HartCh) (h : j ≠ g) : (s.setHart g x).hartOf j = s.hartOf j := by
  simp [State.hartOf, State.setHart, nget_nset_ne _ _ _ _ h]
@[simp] theorem State.setHart_pending (s : State) (g : Nat) (x : HartCh) : (s.setHart g x).pending = s.pending := rfl
@[simp] theorem State.setHart_tick (s : State) (g : Nat) (x : HartCh) : (s.setHart g x).tick = s.tick := rfl
@[simp] theorem State.setHart_free (s : State) (g : Nat) (x : HartCh) : (s.setHart g x).free = s.free := rfl
@[simp] theorem State.setHart_phase (s : State) (g : Nat) (x : HartCh) : (s.setHart g x).phase = s.phase := rfl
@[simp] theorem State.setHart_stop (s : State) (g : Nat) (x : HartCh) : (s.setHart g x).stop = s.stop := rfl
@[simp] theorem State.setHart_drive (s : State) (g : Nat) (x : HartCh) : (s.setHart g x).drive = s.drive := rfl
@[simp] theorem State.setHart_regs (s : State) (g : Nat) (x : HartCh) : (s.setHart g x).regs = s.regs := rfl
@[simp] theorem State.setHart_plate (s : State) (g : Nat) (x : HartCh) : (s.setHart g x).plate = s.plate := rfl
@[simp] theorem State.setHart_power (s : State) (g : Nat) (x : HartCh) : (s.setHart g x).power = s.power := rfl
@[simp] theorem State.setHart_start (s : State) (g : Nat) (x : HartCh) : (s.setHart g x).start = s.start := rfl
@[simp] theorem State.setHart_time (s : State) (g : Nat) (x : HartCh) : (s.setHart g x).time = s.time := rfl
@[simp] theorem State.setHart_vault (s : State) (g : Nat) (x : HartCh) : (s.setHart g x).vault = s.vault := rfl
@[simp] theorem State.setHart_accts (s : State) (g : Nat) (x : HartCh) : (s.setHart g x).accts = s.accts := rfl
@[simp] theorem State.setHart_tills (s : State) (g : Nat) (x : HartCh) : (s.setHart g x).tills = s.tills := rfl
@[simp] theorem State.setHart_tillMem (s : State) (g : Nat) (x : HartCh) : (s.setHart g x).tillMem = s.tillMem := rfl
@[simp] theorem State.setHart_mgmt (s : State) (g : Nat) (x : HartCh) : (s.setHart g x).mgmt = s.mgmt := rfl
@[simp] theorem State.setHart_image (s : State) (g : Nat) (x : HartCh) : (s.setHart g x).image = s.image := rfl
@[simp] theorem State.setHart_hoCauses (s : State) (g : Nat) (x : HartCh) : (s.setHart g x).hoCauses = s.hoCauses := rfl
@[simp] theorem State.setHart_ach (s : State) (g : Nat) (x : HartCh) : (s.setHart g x).ach = s.ach := rfl
@[simp] theorem State.setHart_dch (s : State) (g : Nat) (x : HartCh) : (s.setHart g x).dch = s.dch := rfl
@[simp] theorem State.setHart_dslice (s : State) (g : Nat) (x : HartCh) : (s.setHart g x).dslice = s.dslice := rfl
@[simp] theorem State.setHart_links (s : State) (g : Nat) (x : HartCh) : (s.setHart g x).links = s.links := rfl
@[simp] theorem State.setHart_pair (s : State) (g : Nat) (x : HartCh) : (s.setHart g x).pair = s.pair := rfl
@[simp] theorem State.setHart_can (s : State) (g : Nat) (x : HartCh) : (s.setHart g x).can = s.can := rfl
@[simp] theorem State.setHart_net (s : State) (g : Nat) (x : HartCh) : (s.setHart g x).net = s.net := rfl
@[simp] theorem State.setHart_out (s : State) (g : Nat) (x : HartCh) : (s.setHart g x).out = s.out := rfl
@[simp] theorem State.setHart_safety (s : State) (g : Nat) (x : HartCh) : (s.setHart g x).safety = s.safety := rfl
@[simp] theorem State.setHart_selfTest (s : State) (g : Nat) (x : HartCh) : (s.setHart g x).selfTest = s.selfTest := rfl
@[simp] theorem State.setHart_panel (s : State) (g : Nat) (x : HartCh) : (s.setHart g x).panel = s.panel := rfl
@[simp] theorem State.setHart_word (s : State) (g : Nat) (x : HartCh) (addr : Nat) : (s.setHart g x).word addr = s.word addr := rfl
@[simp] theorem State.setHart_reg (s : State) (g : Nat) (x : HartCh) (r : Reg) (i j : Nat) : (s.setHart g x).reg r i j = s.reg r i j := rfl
@[simp] theorem State.setHart_fld (s : State) (g : Nat) (x : HartCh) (f : Fld) (i j : Nat) : (s.setHart g x).fld f i j = s.fld f i j := rfl
@[simp] theorem State.setHart_flag (s : State) (g : Nat) (x : HartCh) (f : Fld) (i j : Nat) : (s.setHart g x).flag f i j = s.flag f i j := rfl

/-! ### setCan -/
@[simp] theorem State.setCan_canCh_same (s : State) (n : Nat) (x : CanCh) : (s.setCan n x).canCh n = x := by
  simp [State.canCh, State.setCan]
theorem State.setCan_canCh_ne (s : State) {n j : Nat} (x : CanCh) (h : j ≠ n) : (s.setCan n x).canCh j = s.canCh j := by
  simp [State.canCh, State.setCan, nget_nset_ne _ _ _ _ h]
@[simp] theorem State.setCan_pending (s : State) (n : Nat) (x : CanCh) : (s.setCan n x).pending = s.pending := rfl
@[simp] theorem State.setCan_tick (s : State) (n : Nat) (x : CanCh) : (s.setCan n x).tick = s.tick := rfl
@[simp] theorem State.setCan_free (s : State) (n : Nat) (x : CanCh) : (s.setCan n x).free = s.free := rfl
@[simp] theorem State.setCan_phase (s : State) (n : Nat) (x : CanCh) : (s.setCan n x).phase = s.phase := rfl
@[simp] theorem State.setCan_stop (s : State) (n : Nat) (x : CanCh) : (s.setCan n x).stop = s.stop := rfl
@[simp] theorem State.setCan_drive (s : State) (n : Nat) (x : CanCh) : (s.setCan n x).drive = s.drive := rfl
@[simp] theorem State.setCan_regs (s : State) (n : Nat) (x : CanCh) : (s.setCan n x).regs = s.regs := rfl
@[simp] theorem State.setCan_plate (s : State) (n : Nat) (x : CanCh) : (s.setCan n x).plate = s.plate := rfl
@[simp] theorem State.setCan_power (s : State) (n : Nat) (x : CanCh) : (s.setCan n x).power = s.power := rfl
@[simp] theorem State.setCan_start (s : State) (n : Nat) (x : CanCh) : (s.setCan n x).start = s.start := rfl
@[simp] theorem State.setCan_time (s : State) (n : Nat) (x : CanCh) : (s.setCan n x).time = s.time := rfl
@[simp] theorem State.setCan_vault (s : State) (n : Nat) (x : CanCh) : (s.setCan n x).vault = s.vault := rfl
@[simp] theorem State.setCan_accts (s : State) (n : Nat) (x : CanCh) : (s.setCan n x).accts = s.accts := rfl
@[simp] theorem State.setCan_tills (s : State) (n : Nat) (x : CanCh) : (s.setCan n x).tills = s.tills := rfl
@[simp] theorem State.setCan_tillMem (s : State) (n : Nat) (x : CanCh) : (s.setCan n x).tillMem = s.tillMem := rfl
@[simp] theorem State.setCan_mgmt (s : State) (n : Nat) (x : CanCh) : (s.setCan n x).mgmt = s.mgmt := rfl
@[simp] theorem State.setCan_image (s : State) (n : Nat) (x : CanCh) : (s.setCan n x).image = s.image := rfl
@[simp] theorem State.setCan_hoCauses (s : State) (n : Nat) (x : CanCh) : (s.setCan n x).hoCauses = s.hoCauses := rfl
@[simp] theorem State.setCan_ach (s : State) (n : Nat) (x : CanCh) : (s.setCan n x).ach = s.ach := rfl
@[simp] theorem State.setCan_hart (s : State) (n : Nat) (x : CanCh) : (s.setCan n x).hart = s.hart := rfl
@[simp] theorem State.setCan_dch (s : State) (n : Nat) (x : CanCh) : (s.setCan n x).dch = s.dch := rfl
@[simp] theorem State.setCan_dslice (s : State) (n : Nat) (x : CanCh) : (s.setCan n x).dslice = s.dslice := rfl
@[simp] theorem State.setCan_links (s : State) (n : Nat) (x : CanCh) : (s.setCan n x).links = s.links := rfl
@[simp] theorem State.setCan_pair (s : State) (n : Nat) (x : CanCh) : (s.setCan n x).pair = s.pair := rfl
@[simp] theorem State.setCan_net (s : State) (n : Nat) (x : CanCh) : (s.setCan n x).net = s.net := rfl
@[simp] theorem State.setCan_out (s : State) (n : Nat) (x : CanCh) : (s.setCan n x).out = s.out := rfl
@[simp] theorem State.setCan_safety (s : State) (n : Nat) (x : CanCh) : (s.setCan n x).safety = s.safety := rfl
@[simp] theorem State.setCan_selfTest (s : State) (n : Nat) (x : CanCh) : (s.setCan n x).selfTest = s.selfTest := rfl
@[simp] theorem State.setCan_panel (s : State) (n : Nat) (x : CanCh) : (s.setCan n x).panel = s.panel := rfl
@[simp] theorem State.setCan_word (s : State) (n : Nat) (x : CanCh) (addr : Nat) : (s.setCan n x).word addr = s.word addr := rfl
@[simp] theorem State.setCan_reg (s : State) (n : Nat) (x : CanCh) (r : Reg) (i j : Nat) : (s.setCan n x).reg r i j = s.reg r i j := rfl
@[simp] theorem State.setCan_fld (s : State) (n : Nat) (x : CanCh) (f : Fld) (i j : Nat) : (s.setCan n x).fld f i j = s.fld f i j := rfl
@[simp] theorem State.setCan_flag (s : State) (n : Nat) (x : CanCh) (f : Fld) (i j : Nat) : (s.setCan n x).flag f i j = s.flag f i j := rfl

/-! ### setRx -/
@[simp] theorem State.setRx_rx_same (s : State) (c : Nat) (x : RzRx) : (s.setRx c x).rx c = x := by
  simp [State.rx, State.setRx]
theorem State.setRx_rx_ne (s : State) {c j : Nat} (x : RzRx) (h : j ≠ c) : (s.setRx c x).rx j = s.rx j := by
  simp [State.rx, State.setRx, nget_nset_ne _ _ _ _ h]
@[simp] theorem State.setRx_pending (s : State) (c : Nat) (x : RzRx) : (s.setRx c x).pending = s.pending := rfl
@[simp] theorem State.setRx_tick (s : State) (c : Nat) (x : RzRx) : (s.setRx c x).tick = s.tick := rfl
@[simp] theorem State.setRx_free (s : State) (c : Nat) (x : RzRx) : (s.setRx c x).free = s.free := rfl
@[simp] theorem State.setRx_phase (s : State) (c : Nat) (x : RzRx) : (s.setRx c x).phase = s.phase := rfl
@[simp] theorem State.setRx_stop (s : State) (c : Nat) (x : RzRx) : (s.setRx c x).stop = s.stop := rfl
@[simp] theorem State.setRx_drive (s : State) (c : Nat) (x : RzRx) : (s.setRx c x).drive = s.drive := rfl
@[simp] theorem State.setRx_regs (s : State) (c : Nat) (x : RzRx) : (s.setRx c x).regs = s.regs := rfl
@[simp] theorem State.setRx_plate (s : State) (c : Nat) (x : RzRx) : (s.setRx c x).plate = s.plate := rfl
@[simp] theorem State.setRx_power (s : State) (c : Nat) (x : RzRx) : (s.setRx c x).power = s.power := rfl
@[simp] theorem State.setRx_start (s : State) (c : Nat) (x : RzRx) : (s.setRx c x).start = s.start := rfl
@[simp] theorem State.setRx_time (s : State) (c : Nat) (x : RzRx) : (s.setRx c x).time = s.time := rfl
@[simp] theorem State.setRx_vault (s : State) (c : Nat) (x : RzRx) : (s.setRx c x).vault = s.vault := rfl
@[simp] theorem State.setRx_accts (s : State) (c : Nat) (x : RzRx) : (s.setRx c x).accts = s.accts := rfl
@[simp] theorem State.setRx_tills (s : State) (c : Nat) (x : RzRx) : (s.setRx c x).tills = s.tills := rfl
@[simp] theorem State.setRx_tillMem (s : State) (c : Nat) (x : RzRx) : (s.setRx c x).tillMem = s.tillMem := rfl
@[simp] theorem State.setRx_mgmt (s : State) (c : Nat) (x : RzRx) : (s.setRx c x).mgmt = s.mgmt := rfl
@[simp] theorem State.setRx_image (s : State) (c : Nat) (x : RzRx) : (s.setRx c x).image = s.image := rfl
@[simp] theorem State.setRx_hoCauses (s : State) (c : Nat) (x : RzRx) : (s.setRx c x).hoCauses = s.hoCauses := rfl
@[simp] theorem State.setRx_ach (s : State) (c : Nat) (x : RzRx) : (s.setRx c x).ach = s.ach := rfl
@[simp] theorem State.setRx_hart (s : State) (c : Nat) (x : RzRx) : (s.setRx c x).hart = s.hart := rfl
@[simp] theorem State.setRx_dch (s : State) (c : Nat) (x : RzRx) : (s.setRx c x).dch = s.dch := rfl
@[simp] theorem State.setRx_dslice (s : State) (c : Nat) (x : RzRx) : (s.setRx c x).dslice = s.dslice := rfl
@[simp] theorem State.setRx_links (s : State) (c : Nat) (x : RzRx) : (s.setRx c x).links = s.links := rfl
@[simp] theorem State.setRx_pair (s : State) (c : Nat) (x : RzRx) : (s.setRx c x).pair = s.pair := rfl
@[simp] theorem State.setRx_can (s : State) (c : Nat) (x : RzRx) : (s.setRx c x).can = s.can := rfl
@[simp] theorem State.setRx_net (s : State) (c : Nat) (x : RzRx) : (s.setRx c x).net = s.net := rfl
@[simp] theorem State.setRx_out (s : State) (c : Nat) (x : RzRx) : (s.setRx c x).out = s.out := rfl
@[simp] theorem State.setRx_selfTest (s : State) (c : Nat) (x : RzRx) : (s.setRx c x).selfTest = s.selfTest := rfl
@[simp] theorem State.setRx_panel (s : State) (c : Nat) (x : RzRx) : (s.setRx c x).panel = s.panel := rfl
@[simp] theorem State.setRx_word (s : State) (c : Nat) (x : RzRx) (addr : Nat) : (s.setRx c x).word addr = s.word addr := rfl
@[simp] theorem State.setRx_reg (s : State) (c : Nat) (x : RzRx) (r : Reg) (i j : Nat) : (s.setRx c x).reg r i j = s.reg r i j := rfl
@[simp] theorem State.setRx_fld (s : State) (c : Nat) (x : RzRx) (f : Fld) (i j : Nat) : (s.setRx c x).fld f i j = s.fld f i j := rfl
@[simp] theorem State.setRx_flag (s : State) (c : Nat) (x : RzRx) (f : Fld) (i j : Nat) : (s.setRx c x).flag f i j = s.flag f i j := rfl

/-! ### setTx -/
@[simp] theorem State.setTx_tx_same (s : State) (c : Nat) (x : RzTx) : (s.setTx c x).tx c = x := by
  simp [State.tx, State.setTx]
theorem State.setTx_tx_ne (s : State) {c j : Nat} (x : RzTx) (h : j ≠ c) : (s.setTx c x).tx j = s.tx j := by
  simp [State.tx, State.setTx, nget_nset_ne _ _ _ _ h]
@[simp] theorem State.setTx_pending (s : State) (c : Nat) (x : RzTx) : (s.setTx c x).pending = s.pending := rfl
@[simp] theorem State.setTx_tick (s : State) (c : Nat) (x : RzTx) : (s.setTx c x).tick = s.tick := rfl
@[simp] theorem State.setTx_free (s : State) (c : Nat) (x : RzTx) : (s.setTx c x).free = s.free := rfl
@[simp] theorem State.setTx_phase (s : State) (c : Nat) (x : RzTx) : (s.setTx c x).phase = s.phase := rfl
@[simp] theorem State.setTx_stop (s : State) (c : Nat) (x : RzTx) : (s.setTx c x).stop = s.stop := rfl
@[simp] theorem State.setTx_drive (s : State) (c : Nat) (x : RzTx) : (s.setTx c x).drive = s.drive := rfl
@[simp] theorem State.setTx_regs (s : State) (c : Nat) (x : RzTx) : (s.setTx c x).regs = s.regs := rfl
@[simp] theorem State.setTx_plate (s : State) (c : Nat) (x : RzTx) : (s.setTx c x).plate = s.plate := rfl
@[simp] theorem State.setTx_power (s : State) (c : Nat) (x : RzTx) : (s.setTx c x).power = s.power := rfl
@[simp] theorem State.setTx_start (s : State) (c : Nat) (x : RzTx) : (s.setTx c x).start = s.start := rfl
@[simp] theorem State.setTx_time (s : State) (c : Nat) (x : RzTx) : (s.setTx c x).time = s.time := rfl
@[simp] theorem State.setTx_vault (s : State) (c : Nat) (x : RzTx) : (s.setTx c x).vault = s.vault := rfl
@[simp] theorem State.setTx_accts (s : State) (c : Nat) (x : RzTx) : (s.setTx c x).accts = s.accts := rfl
@[simp] theorem State.setTx_tills (s : State) (c : Nat) (x : RzTx) : (s.setTx c x).tills = s.tills := rfl
@[simp] theorem State.setTx_tillMem (s : State) (c : Nat) (x : RzTx) : (s.setTx c x).tillMem = s.tillMem := rfl
@[simp] theorem State.setTx_mgmt (s : State) (c : Nat) (x : RzTx) : (s.setTx c x).mgmt = s.mgmt := rfl
@[simp] theorem State.setTx_image (s : State) (c : Nat) (x : RzTx) : (s.setTx c x).image = s.image := rfl
@[simp] theorem State.setTx_hoCauses (s : State) (c : Nat) (x : RzTx) : (s.setTx c x).hoCauses = s.hoCauses := rfl
@[simp] theorem State.setTx_ach (s : State) (c : Nat) (x : RzTx) : (s.setTx c x).ach = s.ach := rfl
@[simp] theorem State.setTx_hart (s : State) (c : Nat) (x : RzTx) : (s.setTx c x).hart = s.hart := rfl
@[simp] theorem State.setTx_dch (s : State) (c : Nat) (x : RzTx) : (s.setTx c x).dch = s.dch := rfl
@[simp] theorem State.setTx_dslice (s : State) (c : Nat) (x : RzTx) : (s.setTx c x).dslice = s.dslice := rfl
@[simp] theorem State.setTx_links (s : State) (c : Nat) (x : RzTx) : (s.setTx c x).links = s.links := rfl
@[simp] theorem State.setTx_pair (s : State) (c : Nat) (x : RzTx) : (s.setTx c x).pair = s.pair := rfl
@[simp] theorem State.setTx_can (s : State) (c : Nat) (x : RzTx) : (s.setTx c x).can = s.can := rfl
@[simp] theorem State.setTx_net (s : State) (c : Nat) (x : RzTx) : (s.setTx c x).net = s.net := rfl
@[simp] theorem State.setTx_out (s : State) (c : Nat) (x : RzTx) : (s.setTx c x).out = s.out := rfl
@[simp] theorem State.setTx_selfTest (s : State) (c : Nat) (x : RzTx) : (s.setTx c x).selfTest = s.selfTest := rfl
@[simp] theorem State.setTx_panel (s : State) (c : Nat) (x : RzTx) : (s.setTx c x).panel = s.panel := rfl
@[simp] theorem State.setTx_word (s : State) (c : Nat) (x : RzTx) (addr : Nat) : (s.setTx c x).word addr = s.word addr := rfl
@[simp] theorem State.setTx_reg (s : State) (c : Nat) (x : RzTx) (r : Reg) (i j : Nat) : (s.setTx c x).reg r i j = s.reg r i j := rfl
@[simp] theorem State.setTx_fld (s : State) (c : Nat) (x : RzTx) (f : Fld) (i j : Nat) : (s.setTx c x).fld f i j = s.fld f i j := rfl
@[simp] theorem State.setTx_flag (s : State) (c : Nat) (x : RzTx) (f : Fld) (i j : Nat) : (s.setTx c x).flag f i j = s.flag f i j := rfl

/-! ### setPwheel -/
@[simp] theorem State.setPwheel_pwheel_same (s : State) (w : Nat) (x : PhysWheel) : (s.setPwheel w x).pwheel w = x := by
  simp [State.pwheel, State.setPwheel]
theorem State.setPwheel_pwheel_ne (s : State) {w j : Nat} (x : PhysWheel) (h : j ≠ w) : (s.setPwheel w x).pwheel j = s.pwheel j := by
  simp [State.pwheel, State.setPwheel, nget_nset_ne _ _ _ _ h]
@[simp] theorem State.setPwheel_pending (s : State) (w : Nat) (x : PhysWheel) : (s.setPwheel w x).pending = s.pending := rfl
@[simp] theorem State.setPwheel_tick (s : State) (w : Nat) (x : PhysWheel) : (s.setPwheel w x).tick = s.tick := rfl
@[simp] theorem State.setPwheel_free (s : State) (w : Nat) (x : PhysWheel) : (s.setPwheel w x).free = s.free := rfl
@[simp] theorem State.setPwheel_phase (s : State) (w : Nat) (x : PhysWheel) : (s.setPwheel w x).phase = s.phase := rfl
@[simp] theorem State.setPwheel_stop (s : State) (w : Nat) (x : PhysWheel) : (s.setPwheel w x).stop = s.stop := rfl
@[simp] theorem State.setPwheel_drive (s : State) (w : Nat) (x : PhysWheel) : (s.setPwheel w x).drive = s.drive := rfl
@[simp] theorem State.setPwheel_regs (s : State) (w : Nat) (x : PhysWheel) : (s.setPwheel w x).regs = s.regs := rfl
@[simp] theorem State.setPwheel_plate (s : State) (w : Nat) (x : PhysWheel) : (s.setPwheel w x).plate = s.plate := rfl
@[simp] theorem State.setPwheel_power (s : State) (w : Nat) (x : PhysWheel) : (s.setPwheel w x).power = s.power := rfl
@[simp] theorem State.setPwheel_start (s : State) (w : Nat) (x : PhysWheel) : (s.setPwheel w x).start = s.start := rfl
@[simp] theorem State.setPwheel_time (s : State) (w : Nat) (x : PhysWheel) : (s.setPwheel w x).time = s.time := rfl
@[simp] theorem State.setPwheel_vault (s : State) (w : Nat) (x : PhysWheel) : (s.setPwheel w x).vault = s.vault := rfl
@[simp] theorem State.setPwheel_accts (s : State) (w : Nat) (x : PhysWheel) : (s.setPwheel w x).accts = s.accts := rfl
@[simp] theorem State.setPwheel_tills (s : State) (w : Nat) (x : PhysWheel) : (s.setPwheel w x).tills = s.tills := rfl
@[simp] theorem State.setPwheel_tillMem (s : State) (w : Nat) (x : PhysWheel) : (s.setPwheel w x).tillMem = s.tillMem := rfl
@[simp] theorem State.setPwheel_mgmt (s : State) (w : Nat) (x : PhysWheel) : (s.setPwheel w x).mgmt = s.mgmt := rfl
@[simp] theorem State.setPwheel_image (s : State) (w : Nat) (x : PhysWheel) : (s.setPwheel w x).image = s.image := rfl
@[simp] theorem State.setPwheel_hoCauses (s : State) (w : Nat) (x : PhysWheel) : (s.setPwheel w x).hoCauses = s.hoCauses := rfl
@[simp] theorem State.setPwheel_ach (s : State) (w : Nat) (x : PhysWheel) : (s.setPwheel w x).ach = s.ach := rfl
@[simp] theorem State.setPwheel_hart (s : State) (w : Nat) (x : PhysWheel) : (s.setPwheel w x).hart = s.hart := rfl
@[simp] theorem State.setPwheel_dch (s : State) (w : Nat) (x : PhysWheel) : (s.setPwheel w x).dch = s.dch := rfl
@[simp] theorem State.setPwheel_dslice (s : State) (w : Nat) (x : PhysWheel) : (s.setPwheel w x).dslice = s.dslice := rfl
@[simp] theorem State.setPwheel_links (s : State) (w : Nat) (x : PhysWheel) : (s.setPwheel w x).links = s.links := rfl
@[simp] theorem State.setPwheel_pair (s : State) (w : Nat) (x : PhysWheel) : (s.setPwheel w x).pair = s.pair := rfl
@[simp] theorem State.setPwheel_can (s : State) (w : Nat) (x : PhysWheel) : (s.setPwheel w x).can = s.can := rfl
@[simp] theorem State.setPwheel_net (s : State) (w : Nat) (x : PhysWheel) : (s.setPwheel w x).net = s.net := rfl
@[simp] theorem State.setPwheel_out (s : State) (w : Nat) (x : PhysWheel) : (s.setPwheel w x).out = s.out := rfl
@[simp] theorem State.setPwheel_safety (s : State) (w : Nat) (x : PhysWheel) : (s.setPwheel w x).safety = s.safety := rfl
@[simp] theorem State.setPwheel_panel (s : State) (w : Nat) (x : PhysWheel) : (s.setPwheel w x).panel = s.panel := rfl
@[simp] theorem State.setPwheel_word (s : State) (w : Nat) (x : PhysWheel) (addr : Nat) : (s.setPwheel w x).word addr = s.word addr := rfl
@[simp] theorem State.setPwheel_reg (s : State) (w : Nat) (x : PhysWheel) (r : Reg) (i j : Nat) : (s.setPwheel w x).reg r i j = s.reg r i j := rfl
@[simp] theorem State.setPwheel_fld (s : State) (w : Nat) (x : PhysWheel) (f : Fld) (i j : Nat) : (s.setPwheel w x).fld f i j = s.fld f i j := rfl
@[simp] theorem State.setPwheel_flag (s : State) (w : Nat) (x : PhysWheel) (f : Fld) (i j : Nat) : (s.setPwheel w x).flag f i j = s.flag f i j := rfl

/-! ### setPeer -/
@[simp] theorem State.setPeer_peer_same (s : State) (a : Nat) (x : NetPeer) : (s.setPeer a x).peer a = x := by
  simp [State.peer, State.setPeer]
theorem State.setPeer_peer_ne (s : State) {a j : Nat} (x : NetPeer) (h : j ≠ a) : (s.setPeer a x).peer j = s.peer j := by
  simp [State.peer, State.setPeer, nget_nset_ne _ _ _ _ h]
@[simp] theorem State.setPeer_pending (s : State) (a : Nat) (x : NetPeer) : (s.setPeer a x).pending = s.pending := rfl
@[simp] theorem State.setPeer_tick (s : State) (a : Nat) (x : NetPeer) : (s.setPeer a x).tick = s.tick := rfl
@[simp] theorem State.setPeer_free (s : State) (a : Nat) (x : NetPeer) : (s.setPeer a x).free = s.free := rfl
@[simp] theorem State.setPeer_phase (s : State) (a : Nat) (x : NetPeer) : (s.setPeer a x).phase = s.phase := rfl
@[simp] theorem State.setPeer_stop (s : State) (a : Nat) (x : NetPeer) : (s.setPeer a x).stop = s.stop := rfl
@[simp] theorem State.setPeer_drive (s : State) (a : Nat) (x : NetPeer) : (s.setPeer a x).drive = s.drive := rfl
@[simp] theorem State.setPeer_regs (s : State) (a : Nat) (x : NetPeer) : (s.setPeer a x).regs = s.regs := rfl
@[simp] theorem State.setPeer_plate (s : State) (a : Nat) (x : NetPeer) : (s.setPeer a x).plate = s.plate := rfl
@[simp] theorem State.setPeer_power (s : State) (a : Nat) (x : NetPeer) : (s.setPeer a x).power = s.power := rfl
@[simp] theorem State.setPeer_start (s : State) (a : Nat) (x : NetPeer) : (s.setPeer a x).start = s.start := rfl
@[simp] theorem State.setPeer_time (s : State) (a : Nat) (x : NetPeer) : (s.setPeer a x).time = s.time := rfl
@[simp] theorem State.setPeer_vault (s : State) (a : Nat) (x : NetPeer) : (s.setPeer a x).vault = s.vault := rfl
@[simp] theorem State.setPeer_accts (s : State) (a : Nat) (x : NetPeer) : (s.setPeer a x).accts = s.accts := rfl
@[simp] theorem State.setPeer_tills (s : State) (a : Nat) (x : NetPeer) : (s.setPeer a x).tills = s.tills := rfl
@[simp] theorem State.setPeer_tillMem (s : State) (a : Nat) (x : NetPeer) : (s.setPeer a x).tillMem = s.tillMem := rfl
@[simp] theorem State.setPeer_mgmt (s : State) (a : Nat) (x : NetPeer) : (s.setPeer a x).mgmt = s.mgmt := rfl
@[simp] theorem State.setPeer_image (s : State) (a : Nat) (x : NetPeer) : (s.setPeer a x).image = s.image := rfl
@[simp] theorem State.setPeer_hoCauses (s : State) (a : Nat) (x : NetPeer) : (s.setPeer a x).hoCauses = s.hoCauses := rfl
@[simp] theorem State.setPeer_ach (s : State) (a : Nat) (x : NetPeer) : (s.setPeer a x).ach = s.ach := rfl
@[simp] theorem State.setPeer_hart (s : State) (a : Nat) (x : NetPeer) : (s.setPeer a x).hart = s.hart := rfl
@[simp] theorem State.setPeer_dch (s : State) (a : Nat) (x : NetPeer) : (s.setPeer a x).dch = s.dch := rfl
@[simp] theorem State.setPeer_dslice (s : State) (a : Nat) (x : NetPeer) : (s.setPeer a x).dslice = s.dslice := rfl
@[simp] theorem State.setPeer_links (s : State) (a : Nat) (x : NetPeer) : (s.setPeer a x).links = s.links := rfl
@[simp] theorem State.setPeer_pair (s : State) (a : Nat) (x : NetPeer) : (s.setPeer a x).pair = s.pair := rfl
@[simp] theorem State.setPeer_can (s : State) (a : Nat) (x : NetPeer) : (s.setPeer a x).can = s.can := rfl
@[simp] theorem State.setPeer_out (s : State) (a : Nat) (x : NetPeer) : (s.setPeer a x).out = s.out := rfl
@[simp] theorem State.setPeer_safety (s : State) (a : Nat) (x : NetPeer) : (s.setPeer a x).safety = s.safety := rfl
@[simp] theorem State.setPeer_selfTest (s : State) (a : Nat) (x : NetPeer) : (s.setPeer a x).selfTest = s.selfTest := rfl
@[simp] theorem State.setPeer_panel (s : State) (a : Nat) (x : NetPeer) : (s.setPeer a x).panel = s.panel := rfl
@[simp] theorem State.setPeer_word (s : State) (a : Nat) (x : NetPeer) (addr : Nat) : (s.setPeer a x).word addr = s.word addr := rfl
@[simp] theorem State.setPeer_reg (s : State) (a : Nat) (x : NetPeer) (r : Reg) (i j : Nat) : (s.setPeer a x).reg r i j = s.reg r i j := rfl
@[simp] theorem State.setPeer_fld (s : State) (a : Nat) (x : NetPeer) (f : Fld) (i j : Nat) : (s.setPeer a x).fld f i j = s.fld f i j := rfl
@[simp] theorem State.setPeer_flag (s : State) (a : Nat) (x : NetPeer) (f : Fld) (i j : Nat) : (s.setPeer a x).flag f i j = s.flag f i j := rfl

/-! ### setQueue -/
@[simp] theorem State.setQueue_queue_same (s : State) (a : Nat) (x : List QItem) : (s.setQueue a x).queue a = x := by
  simp [State.queue, State.setQueue]
theorem State.setQueue_queue_ne (s : State) {a j : Nat} (x : List QItem) (h : j ≠ a) : (s.setQueue a x).queue j = s.queue j := by
  simp [State.queue, State.setQueue, nget_nset_ne _ _ _ _ h]
@[simp] theorem State.setQueue_pending (s : State) (a : Nat) (x : List QItem) : (s.setQueue a x).pending = s.pending := rfl
@[simp] theorem State.setQueue_tick (s : State) (a : Nat) (x : List QItem) : (s.setQueue a x).tick = s.tick := rfl
@[simp] theorem State.setQueue_free (s : State) (a : Nat) (x : List QItem) : (s.setQueue a x).free = s.free := rfl
@[simp] theorem State.setQueue_phase (s : State) (a : Nat) (x : List QItem) : (s.setQueue a x).phase = s.phase := rfl
@[simp] theorem State.setQueue_stop (s : State) (a : Nat) (x : List QItem) : (s.setQueue a x).stop = s.stop := rfl
@[simp] theorem State.setQueue_drive (s : State) (a : Nat) (x : List QItem) : (s.setQueue a x).drive = s.drive := rfl
@[simp] theorem State.setQueue_regs (s : State) (a : Nat) (x : List QItem) : (s.setQueue a x).regs = s.regs := rfl
@[simp] theorem State.setQueue_plate (s : State) (a : Nat) (x : List QItem) : (s.setQueue a x).plate = s.plate := rfl
@[simp] theorem State.setQueue_power (s : State) (a : Nat) (x : List QItem) : (s.setQueue a x).power = s.power := rfl
@[simp] theorem State.setQueue_start (s : State) (a : Nat) (x : List QItem) : (s.setQueue a x).start = s.start := rfl
@[simp] theorem State.setQueue_time (s : State) (a : Nat) (x : List QItem) : (s.setQueue a x).time = s.time := rfl
@[simp] theorem State.setQueue_vault (s : State) (a : Nat) (x : List QItem) : (s.setQueue a x).vault = s.vault := rfl
@[simp] theorem State.setQueue_accts (s : State) (a : Nat) (x : List QItem) : (s.setQueue a x).accts = s.accts := rfl
@[simp] theorem State.setQueue_tills (s : State) (a : Nat) (x : List QItem) : (s.setQueue a x).tills = s.tills := rfl
@[simp] theorem State.setQueue_tillMem (s : State) (a : Nat) (x : List QItem) : (s.setQueue a x).tillMem = s.tillMem := rfl
@[simp] theorem State.setQueue_mgmt (s : State) (a : Nat) (x : List QItem) : (s.setQueue a x).mgmt = s.mgmt := rfl
@[simp] theorem State.setQueue_image (s : State) (a : Nat) (x : List QItem) : (s.setQueue a x).image = s.image := rfl
@[simp] theorem State.setQueue_hoCauses (s : State) (a : Nat) (x : List QItem) : (s.setQueue a x).hoCauses = s.hoCauses := rfl
@[simp] theorem State.setQueue_ach (s : State) (a : Nat) (x : List QItem) : (s.setQueue a x).ach = s.ach := rfl
@[simp] theorem State.setQueue_hart (s : State) (a : Nat) (x : List QItem) : (s.setQueue a x).hart = s.hart := rfl
@[simp] theorem State.setQueue_dch (s : State) (a : Nat) (x : List QItem) : (s.setQueue a x).dch = s.dch := rfl
@[simp] theorem State.setQueue_dslice (s : State) (a : Nat) (x : List QItem) : (s.setQueue a x).dslice = s.dslice := rfl
@[simp] theorem State.setQueue_links (s : State) (a : Nat) (x : List QItem) : (s.setQueue a x).links = s.links := rfl
@[simp] theorem State.setQueue_pair (s : State) (a : Nat) (x : List QItem) : (s.setQueue a x).pair = s.pair := rfl
@[simp] theorem State.setQueue_can (s : State) (a : Nat) (x : List QItem) : (s.setQueue a x).can = s.can := rfl
@[simp] theorem State.setQueue_out (s : State) (a : Nat) (x : List QItem) : (s.setQueue a x).out = s.out := rfl
@[simp] theorem State.setQueue_safety (s : State) (a : Nat) (x : List QItem) : (s.setQueue a x).safety = s.safety := rfl
@[simp] theorem State.setQueue_selfTest (s : State) (a : Nat) (x : List QItem) : (s.setQueue a x).selfTest = s.selfTest := rfl
@[simp] theorem State.setQueue_panel (s : State) (a : Nat) (x : List QItem) : (s.setQueue a x).panel = s.panel := rfl
@[simp] theorem State.setQueue_word (s : State) (a : Nat) (x : List QItem) (addr : Nat) : (s.setQueue a x).word addr = s.word addr := rfl
@[simp] theorem State.setQueue_reg (s : State) (a : Nat) (x : List QItem) (r : Reg) (i j : Nat) : (s.setQueue a x).reg r i j = s.reg r i j := rfl
@[simp] theorem State.setQueue_fld (s : State) (a : Nat) (x : List QItem) (f : Fld) (i j : Nat) : (s.setQueue a x).fld f i j = s.fld f i j := rfl
@[simp] theorem State.setQueue_flag (s : State) (a : Nat) (x : List QItem) (f : Fld) (i j : Nat) : (s.setQueue a x).flag f i j = s.flag f i j := rfl

/-! ### setTag -/
@[simp] theorem State.setTag_tag_same (s : State) (t : Nat) (x : Tag) : (s.setTag t x).tag t = x := by
  simp [State.tag, State.setTag]
theorem State.setTag_tag_ne (s : State) {t j : Nat} (x : Tag) (h : j ≠ t) : (s.setTag t x).tag j = s.tag j := by
  simp [State.tag, State.setTag, nget_nset_ne _ _ _ _ h]
@[simp] theorem State.setTag_pending (s : State) (t : Nat) (x : Tag) : (s.setTag t x).pending = s.pending := rfl
@[simp] theorem State.setTag_tick (s : State) (t : Nat) (x : Tag) : (s.setTag t x).tick = s.tick := rfl
@[simp] theorem State.setTag_free (s : State) (t : Nat) (x : Tag) : (s.setTag t x).free = s.free := rfl
@[simp] theorem State.setTag_phase (s : State) (t : Nat) (x : Tag) : (s.setTag t x).phase = s.phase := rfl
@[simp] theorem State.setTag_stop (s : State) (t : Nat) (x : Tag) : (s.setTag t x).stop = s.stop := rfl
@[simp] theorem State.setTag_drive (s : State) (t : Nat) (x : Tag) : (s.setTag t x).drive = s.drive := rfl
@[simp] theorem State.setTag_regs (s : State) (t : Nat) (x : Tag) : (s.setTag t x).regs = s.regs := rfl
@[simp] theorem State.setTag_plate (s : State) (t : Nat) (x : Tag) : (s.setTag t x).plate = s.plate := rfl
@[simp] theorem State.setTag_power (s : State) (t : Nat) (x : Tag) : (s.setTag t x).power = s.power := rfl
@[simp] theorem State.setTag_start (s : State) (t : Nat) (x : Tag) : (s.setTag t x).start = s.start := rfl
@[simp] theorem State.setTag_time (s : State) (t : Nat) (x : Tag) : (s.setTag t x).time = s.time := rfl
@[simp] theorem State.setTag_vault (s : State) (t : Nat) (x : Tag) : (s.setTag t x).vault = s.vault := rfl
@[simp] theorem State.setTag_accts (s : State) (t : Nat) (x : Tag) : (s.setTag t x).accts = s.accts := rfl
@[simp] theorem State.setTag_tills (s : State) (t : Nat) (x : Tag) : (s.setTag t x).tills = s.tills := rfl
@[simp] theorem State.setTag_tillMem (s : State) (t : Nat) (x : Tag) : (s.setTag t x).tillMem = s.tillMem := rfl
@[simp] theorem State.setTag_mgmt (s : State) (t : Nat) (x : Tag) : (s.setTag t x).mgmt = s.mgmt := rfl
@[simp] theorem State.setTag_image (s : State) (t : Nat) (x : Tag) : (s.setTag t x).image = s.image := rfl
@[simp] theorem State.setTag_hoCauses (s : State) (t : Nat) (x : Tag) : (s.setTag t x).hoCauses = s.hoCauses := rfl
@[simp] theorem State.setTag_ach (s : State) (t : Nat) (x : Tag) : (s.setTag t x).ach = s.ach := rfl
@[simp] theorem State.setTag_hart (s : State) (t : Nat) (x : Tag) : (s.setTag t x).hart = s.hart := rfl
@[simp] theorem State.setTag_dch (s : State) (t : Nat) (x : Tag) : (s.setTag t x).dch = s.dch := rfl
@[simp] theorem State.setTag_dslice (s : State) (t : Nat) (x : Tag) : (s.setTag t x).dslice = s.dslice := rfl
@[simp] theorem State.setTag_links (s : State) (t : Nat) (x : Tag) : (s.setTag t x).links = s.links := rfl
@[simp] theorem State.setTag_pair (s : State) (t : Nat) (x : Tag) : (s.setTag t x).pair = s.pair := rfl
@[simp] theorem State.setTag_can (s : State) (t : Nat) (x : Tag) : (s.setTag t x).can = s.can := rfl
@[simp] theorem State.setTag_out (s : State) (t : Nat) (x : Tag) : (s.setTag t x).out = s.out := rfl
@[simp] theorem State.setTag_safety (s : State) (t : Nat) (x : Tag) : (s.setTag t x).safety = s.safety := rfl
@[simp] theorem State.setTag_selfTest (s : State) (t : Nat) (x : Tag) : (s.setTag t x).selfTest = s.selfTest := rfl
@[simp] theorem State.setTag_panel (s : State) (t : Nat) (x : Tag) : (s.setTag t x).panel = s.panel := rfl
@[simp] theorem State.setTag_word (s : State) (t : Nat) (x : Tag) (addr : Nat) : (s.setTag t x).word addr = s.word addr := rfl
@[simp] theorem State.setTag_reg (s : State) (t : Nat) (x : Tag) (r : Reg) (i j : Nat) : (s.setTag t x).reg r i j = s.reg r i j := rfl
@[simp] theorem State.setTag_fld (s : State) (t : Nat) (x : Tag) (f : Fld) (i j : Nat) : (s.setTag t x).fld f i j = s.fld f i j := rfl
@[simp] theorem State.setTag_flag (s : State) (t : Nat) (x : Tag) (f : Fld) (i j : Nat) : (s.setTag t x).flag f i j = s.flag f i j := rfl

end Sys2Proof.Machine
end

