-- ==== Sys2Proof/Laws/Events.lean ====
section
/-! SUPPORT. Recording an event changes the vault and the two registers that count records, and nothing else. -/

namespace Sys2Proof.Machine

theorem State.Logged.refl (s : State) : s.Logged s := ⟨rfl, fun _ _ => rfl⟩

theorem State.Logged.trans {s t u : State} (h : s.Logged t) (k : t.Logged u) : s.Logged u :=
  ⟨by rw [k.1]; rw [h.1], fun a ha => (k.2 a ha).trans (h.2 a ha)⟩

theorem State.Logged.vault {s t : State} (h : s.Logged t) (v) : s.Logged { t with vault := v } :=
  ⟨by rw [h.1], h.2⟩

theorem State.Logged.setReg {s t : State} (h : s.Logged t) {r : Reg} {v i j : Nat} (m : r.addr i j ∈ eventWords) :
    s.Logged (t.setReg r v i j) := by
  refine ⟨?_, fun a ha => ?_⟩
  · conv_lhs => unfold State.setReg State.setWord
    rw [h.1]; rfl
  · unfold State.setReg
    rw [word_setWord_ne _ _ (fun e => ha (by rw [e]; exact m))]
    exact h.2 a ha

theorem State.Logged.fold {α : Type} {s : State} {f : State → α → State} {l : List α}
    (hf : ∀ t a, s.Logged t → s.Logged (f t a)) {t : State} (h : s.Logged t) : s.Logged (foldState f l t) := by
  unfold foldState
  induction l generalizing t with
  | nil => exact h
  | cons a l ih => exact ih (hf t a h)

theorem State.Logged.vput {s t : State} (h : s.Logged t) (mk) : s.Logged (t.vput mk) := by
  unfold State.vput
  exact State.Logged.setReg (h.vault _) (by decide)

theorem State.Logged.vfills {s : State} (n : Nat) : ∀ {t : State}, s.Logged t → s.Logged (State.vfills n t) := by
  induction n with
  | zero => exact fun h => h
  | succ n ih => exact fun h => ih (h.vput _)

theorem State.Logged.bumpLost {s t : State} (h : s.Logged t) {f : Fld} (e : f.reg = R.VAULT_COUNTS_0) (n : Nat) :
    s.Logged (t.bump f 0 0 n) := by
  unfold State.bump State.setFld
  exact h.setReg (by rw [e]; decide)

theorem State.Logged.vrecord {s t : State} (h : s.Logged t) (r : VRaise) (flags supp : Nat) :
    s.Logged (t.vrecord r flags supp) := by
  unfold State.vrecord
  extract_lets n free src due take fl trigger u
  have hu : s.Logged u := by
    unfold u
    split
    · exact State.Logged.fold (fun _ _ k => k.vput _) (h.vput _)
    · exact h
  split
  · unfold State.vsnap
    exact State.Logged.vault (State.Logged.fold (fun _ _ k => k.vput _) hu) _
  · exact hu

theorem State.Logged.vaccept {s t : State} (h : s.Logged t) (r : VRaise) (flags supp : Nat) :
    s.Logged (t.vaccept r flags supp) := by
  unfold State.vaccept
  extract_lets n reserve fits w lose
  have hl : s.Logged lose := State.Logged.bumpLost (f := F.VAULT_COUNTS_0_LOST) (h.vault _) rfl _
  split
  · split
    · exact h.vrecord r flags supp
    · exact hl
  · split
    · split
      · exact h.vrecord r flags supp
      · exact hl
    · split
      · exact h.vault _
      · exact hl

theorem State.Logged.vflush {s t : State} (h : s.Logged t) : s.Logged t.vflush := by
  unfold State.vflush
  split
  · split
    · exact h.vault _
    · exact State.Logged.vault (h.vfills _) _
  · exact h

theorem State.Logged.evAt {s t : State} (h : s.Logged t) (stamp : W64) (code : Nat) (items : List Item) :
    s.Logged (t.evAt stamp code items) := by
  unfold State.evAt
  split
  · exact h
  · extract_lets r done w m u
    have hu : s.Logged u := by
      unfold u
      split
      · exact State.Logged.vaccept (h.vault _) _ _ _
      · exact State.Logged.bumpLost (f := F.VAULT_COUNTS_0_SUPPRESSED) (h.vault _) rfl _
    split
    · exact hu.vflush
    · exact hu

/-- Raising an event changes the vault and the words of eventWords only. -/
theorem State.Logged.ev {s t : State} (h : s.Logged t) (code : Nat) (items : List Item) : s.Logged (t.ev code items) :=
  h.evAt _ _ _

theorem logged_ev (s : State) (code : Nat) (items : List Item) : s.Logged (s.ev code items) := (State.Logged.refl s).ev _ _

/-! ### What an event leaves alone -/

theorem ev_word (s : State) (code : Nat) (items : List Item) {a : Nat} (h : a ∉ eventWords) :
    (s.ev code items).word a = s.word a := (logged_ev s code items).2 a h

theorem ev_reg (s : State) (code : Nat) (items : List Item) {r : Reg} {i j : Nat} (h : r.addr i j ∉ eventWords) :
    (s.ev code items).reg r i j = s.reg r i j := by
  unfold State.reg; rw [ev_word _ _ _ h]

theorem ev_fld (s : State) (code : Nat) (items : List Item) {f : Fld} {i j : Nat} (h : f.reg.addr i j ∉ eventWords) :
    (s.ev code items).fld f i j = s.fld f i j := by
  unfold State.fld; rw [ev_reg _ _ _ h]

@[simp] theorem State.ev_pending (s : State) (code : Nat) (items : List Item) : (s.ev code items).pending = s.pending := by
  rw [(logged_ev s code items).1]
@[simp] theorem State.ev_tick (s : State) (code : Nat) (items : List Item) : (s.ev code items).tick = s.tick := by
  rw [(logged_ev s code items).1]
@[simp] theorem State.ev_free (s : State) (code : Nat) (items : List Item) : (s.ev code items).free = s.free := by
  rw [(logged_ev s code items).1]
@[simp] theorem State.ev_phase (s : State) (code : Nat) (items : List Item) : (s.ev code items).phase = s.phase := by
  rw [(logged_ev s code items).1]
@[simp] theorem State.ev_stop (s : State) (code : Nat) (items : List Item) : (s.ev code items).stop = s.stop := by
  rw [(logged_ev s code items).1]
@[simp] theorem State.ev_drive (s : State) (code : Nat) (items : List Item) : (s.ev code items).drive = s.drive := by
  rw [(logged_ev s code items).1]
@[simp] theorem State.ev_plate (s : State) (code : Nat) (items : List Item) : (s.ev code items).plate = s.plate := by
  rw [(logged_ev s code items).1]
@[simp] theorem State.ev_power (s : State) (code : Nat) (items : List Item) : (s.ev code items).power = s.power := by
  rw [(logged_ev s code items).1]
@[simp] theorem State.ev_start (s : State) (code : Nat) (items : List Item) : (s.ev code items).start = s.start := by
  rw [(logged_ev s code items).1]
@[simp] theorem State.ev_time (s : State) (code : Nat) (items : List Item) : (s.ev code items).time = s.time := by
  rw [(logged_ev s code items).1]
@[simp] theorem State.ev_accts (s : State) (code : Nat) (items : List Item) : (s.ev code items).accts = s.accts := by
  rw [(logged_ev s code items).1]
@[simp] theorem State.ev_tills (s : State) (code : Nat) (items : List Item) : (s.ev code items).tills = s.tills := by
  rw [(logged_ev s code items).1]
@[simp] theorem State.ev_tillMem (s : State) (code : Nat) (items : List Item) : (s.ev code items).tillMem = s.tillMem := by
  rw [(logged_ev s code items).1]
@[simp] theorem State.ev_mgmt (s : State) (code : Nat) (items : List Item) : (s.ev code items).mgmt = s.mgmt := by
  rw [(logged_ev s code items).1]
@[simp] theorem State.ev_image (s : State) (code : Nat) (items : List Item) : (s.ev code items).image = s.image := by
  rw [(logged_ev s code items).1]
@[simp] theorem State.ev_hoCauses (s : State) (code : Nat) (items : List Item) : (s.ev code items).hoCauses = s.hoCauses := by
  rw [(logged_ev s code items).1]
@[simp] theorem State.ev_ach (s : State) (code : Nat) (items : List Item) : (s.ev code items).ach = s.ach := by
  rw [(logged_ev s code items).1]
@[simp] theorem State.ev_hart (s : State) (code : Nat) (items : List Item) : (s.ev code items).hart = s.hart := by
  rw [(logged_ev s code items).1]
@[simp] theorem State.ev_dch (s : State) (code : Nat) (items : List Item) : (s.ev code items).dch = s.dch := by
  rw [(logged_ev s code items).1]
@[simp] theorem State.ev_dslice (s : State) (code : Nat) (items : List Item) : (s.ev code items).dslice = s.dslice := by
  rw [(logged_ev s code items).1]
@[simp] theorem State.ev_links (s : State) (code : Nat) (items : List Item) : (s.ev code items).links = s.links := by
  rw [(logged_ev s code items).1]
@[simp] theorem State.ev_pair (s : State) (code : Nat) (items : List Item) : (s.ev code items).pair = s.pair := by
  rw [(logged_ev s code items).1]
@[simp] theorem State.ev_can (s : State) (code : Nat) (items : List Item) : (s.ev code items).can = s.can := by
  rw [(logged_ev s code items).1]
@[simp] theorem State.ev_net (s : State) (code : Nat) (items : List Item) : (s.ev code items).net = s.net := by
  rw [(logged_ev s code items).1]
@[simp] theorem State.ev_out (s : State) (code : Nat) (items : List Item) : (s.ev code items).out = s.out := by
  rw [(logged_ev s code items).1]
@[simp] theorem State.ev_safety (s : State) (code : Nat) (items : List Item) : (s.ev code items).safety = s.safety := by
  rw [(logged_ev s code items).1]
@[simp] theorem State.ev_selfTest (s : State) (code : Nat) (items : List Item) : (s.ev code items).selfTest = s.selfTest := by
  rw [(logged_ev s code items).1]
@[simp] theorem State.ev_panel (s : State) (code : Nat) (items : List Item) : (s.ev code items).panel = s.panel := by
  rw [(logged_ev s code items).1]

end Sys2Proof.Machine
end

