-- ==== Sys2Proof/Laws/KeepsBase.lean ====
section
/-! SUPPORT. A property of states that every single update keeps is kept by every operation of the machine: Closed says what
the single updates are, and one lemma per operation says that it keeps such a property. Here: the shared operations, events, the vault, the image, the firing schedule and the tills. -/

namespace Sys2Proof.Machine

/-- P is kept by every register write, by every write to the till memory, and by every update of the rest of the state but for
the queue and what ClosedLife names. -/
structure Closed (P : State → Prop) : Prop where
  word : ∀ {s : State} {a : Nat} {v : W32}, P s → P { s with regs := nset (resetWord a) s.regs a v }
  till : ∀ {s : State} {k : Nat} {v : W64}, P s → P { s with tillMem := nset 0 s.tillMem k v }
  upd : ∀ {s : State} {a1 a2 a7 a8 a9 a10 a11 a12 a13 a15 a16 a17 a18 a19 a20 a21 a22 a23 a24 a25 a26 a27 a28 a29}, P s →
    P (State.mk s.pending a1 a2 s.phase s.stop s.drive s.regs a7 a8 a9 a10 a11 a12 a13 s.tillMem a15 a16 a17 a18 a19 a20 a21 a22 a23 a24 a25 a26 a27 a28 a29)

/-- P is kept by what begins and ends the life of the module as well: a change of phase, stop cause and drive, and the return
of the register file and the till memory to their reset contents. -/
structure ClosedLife (P : State → Prop) : Prop extends Closed P where
  clear : ∀ {s : State} {a1 a2 a3 a4 a5 a7 a8 a9 a10 a11 a12 a13 a15 a16 a17 a18 a19 a20 a21 a22 a23 a24 a25 a26 a27 a28 a29}, P s →
    P (State.mk s.pending a1 a2 a3 a4 a5 [] a7 a8 a9 a10 a11 a12 a13 [] a15 a16 a17 a18 a19 a20 a21 a22 a23 a24 a25 a26 a27 a28 a29)
  life : ∀ {s : State} {a1 a2 a3 a4 a5 a7 a8 a9 a10 a11 a12 a13 a15 a16 a17 a18 a19 a20 a21 a22 a23 a24 a25 a26 a27 a28 a29}, P s →
    P (State.mk s.pending a1 a2 a3 a4 a5 s.regs a7 a8 a9 a10 a11 a12 a13 s.tillMem a15 a16 a17 a18 a19 a20 a21 a22 a23 a24 a25 a26 a27 a28 a29)

theorem keeps_ite {P : State → Prop} {c : Prop} [Decidable c] {a b : State} (h1 : P a) (h2 : P b) : P (if c then a else b) := by
  split <;> assumption

theorem keeps_fold {P : State → Prop} {α : Type} {f : State → α → State} {l : List α} {s : State}
    (hf : ∀ s a, P s → P (f s a)) (h : P s) : P (foldState f l s) := by
  unfold foldState
  induction l generalizing s with
  | nil => exact h
  | cons a l ih => exact ih (hf s a h)

theorem keeps_foldl {β : Type} {Q : β → Prop} {α : Type} {f : β → α → β} {l : List α} {s : β}
    (hf : ∀ s a, Q s → Q (f s a)) (h : Q s) : Q (l.foldl f s) := by
  induction l generalizing s with
  | nil => exact h
  | cons a l ih => exact ih (hf s a h)

theorem keeps_of_eq {P : State → Prop} {x y : State} (e : x = y) (h : P x) : P y := e ▸ h

theorem keeps_getD {P : State → Prop} {o : Option State} {d : State} (h : ∀ t, o = some t → P t) (hd : P d) : P (o.getD d) := by
  cases o with
  | none => exact hd
  | some t => exact h t rfl

theorem keeps_ifQ {β : Type} {Q : β → Prop} {c : Prop} [Decidable c] {a b : β} (h1 : Q a) (h2 : Q b) : Q (if c then a else b) := by
  split <;> assumption


variable {P : State → Prop} (hP : Closed P)
include hP

theorem keeps_setWord {s : State} {a : Nat} {v : W32} (hs : P s) : P (State.setWord s a v) := by
  unfold State.setWord
  exact hP.word hs

theorem keeps_setReg {s : State} {r : Reg} {v : Nat} {i : Nat} {j : Nat} (hs : P s) : P (State.setReg s r v i j) := by
  unfold State.setReg
  exact keeps_setWord hP hs

theorem keeps_setFld {s : State} {f : Fld} {v : Nat} {i : Nat} {j : Nat} (hs : P s) : P (State.setFld s f v i j) := by
  unfold State.setFld
  exact keeps_setReg hP hs

theorem keeps_bump {s : State} {f : Fld} {i : Nat} {j : Nat} {by_ : Nat} (hs : P s) : P (State.bump s f i j by_) := by
  unfold State.bump
  exact keeps_setFld hP hs

theorem keeps_peak {s : State} {f : Fld} {v : Nat} {i : Nat} {j : Nat} (hs : P s) : P (State.peak s f v i j) := by
  unfold State.peak
  exact keeps_setFld hP hs

theorem keeps_setReg64 {s : State} {r : Reg} {v : Nat} {i : Nat} (hs : P s) : P (State.setReg64 s r v i) := by
  unfold State.setReg64
  exact keeps_setReg hP (keeps_setReg hP hs)

theorem keeps_bump64 {s : State} {r : Reg} {i : Nat} (hs : P s) : P (State.bump64 s r i) := by
  unfold State.bump64
  exact keeps_setReg64 hP hs

theorem keeps_setBit {s : State} {r : Reg} {n : Nat} {b : Bool} {i : Nat} {j : Nat} (hs : P s) : P (State.setBit s r n b i j)
    := by
  unfold State.setBit
  exact keeps_setReg hP hs

theorem keeps_setDom {s : State} {d : Nat} {on : Bool} (hs : P s) : P (State.setDom s d on) := by
  unfold State.setDom
  exact keeps_setBit hP hs

theorem keeps_setDoms {s : State} {ds : List Nat} {on : Bool} (hs : P s) : P (State.setDoms s ds on) := by
  unfold State.setDoms
  exact keeps_foldl (Q := fun p => P p) (fun _ _ hf0 => keeps_setDom hP hf0) hs

theorem keeps_setTask {s : State} {k : Nat} {t : Task} (hs : P s) : P (State.setTask s k t) := by
  unfold State.setTask
  exact hP.upd hs

theorem keeps_setSig {s : State} {g : Nat} {r : Sig} (hs : P s) : P (State.setSig s g r) := by
  unfold State.setSig
  exact hP.upd hs

theorem keeps_setExec {s : State} {k : Nat} {e : Option Exec} (hs : P s) : P (State.setExec s k e) := by
  unfold State.setExec
  exact hP.upd hs

theorem keeps_setForce {s : State} {g : Nat} {f : Option Force} (hs : P s) : P (State.setForce s g f) := by
  unfold State.setForce
  exact hP.upd hs

theorem keeps_setAcct {s : State} {a : Nat} {x : Acct} (hs : P s) : P (State.setAcct s a x) := by
  unfold State.setAcct
  exact hP.upd hs

theorem keeps_setTill {s : State} {a : Nat} {t : Nat} {x : Till} (hs : P s) : P (State.setTill s a t x) := by
  unfold State.setTill
  exact hP.upd hs

theorem keeps_setSession {s : State} {n : Nat} {x : Session} (hs : P s) : P (State.setSession s n x) := by
  unfold State.setSession
  exact hP.upd hs

theorem keeps_setWindow {s : State} {a : Nat} {x : Window} (hs : P s) : P (State.setWindow s a x) := by
  unfold State.setWindow
  exact hP.upd hs

theorem keeps_setBase {s : State} {d : Nat} {b : Base} (hs : P s) : P (State.setBase s d b) := by
  unfold State.setBase
  exact hP.upd hs

theorem keeps_setPtp {s : State} {p : Nat} {b : PtpPort} (hs : P s) : P (State.setPtp s p b) := by
  unfold State.setPtp
  exact hP.upd hs

theorem keeps_setVdev {s : State} {d : Nat} {x : VDev} (hs : P s) : P (State.setVdev s d x) := by
  unfold State.setVdev
  exact hP.upd hs

theorem keeps_draw {s : State} (hs : P s) : P (State.draw s) := by
  unfold State.draw
  exact hP.upd hs

theorem keeps_markStep {s : State} {n : Nat} (hs : P s) : P (State.markStep s n) := by
  unfold State.markStep
  exact hP.upd hs

theorem keeps_vput {s : State} {mk : Nat → VSlot} (hs : P s) : P (State.vput s mk) := by
  unfold State.vput
  extract_lets -merge -underBinder +onlyGivenNames x0
  exact keeps_setReg hP (hP.upd hs)

theorem keeps_vfill {s : State} (hs : P s) : P (State.vfill s) := by
  unfold State.vfill
  exact keeps_vput hP hs

theorem keeps_vfills {n : Nat} {s : State} (hs : P s) : P (State.vfills n s) := by
  induction n generalizing s with
  | zero => exact hs
  | succ n ih => unfold State.vfills; exact ih (keeps_vfill hP hs)

theorem keeps_vpad {s : State} (hs : P s) : P (State.vpad s) := by
  unfold State.vpad
  exact keeps_vfills hP hs

theorem keeps_vsnap {s : State} {r : VRaise} {src : Nat} {trigger : Nat} (hs : P s) : P (State.vsnap s r src trigger) := by
  unfold State.vsnap
  extract_lets -merge -underBinder +onlyGivenNames x0 x1
  have h2 : P x1 := keeps_fold (fun _ _ hf3 => keeps_vput hP hf3) hs
  try clear_value x1
  exact hP.upd h2

theorem keeps_vrecord {s : State} {r : VRaise} {flags : Nat} {supp : Nat} (hs : P s) : P (State.vrecord s r flags supp) := by
  unfold State.vrecord
  extract_lets -merge -underBinder +onlyGivenNames x0 x1 x2 x3 x4 x5 x6 x7
  have h8 : P x7 := by
    unfold x7
    split
    · exact keeps_fold (fun _ _ hf9 => keeps_vput hP hf9) (keeps_vput hP hs)
    · exact hs
  try clear_value x7
  exact keeps_ite (keeps_vsnap hP h8) h8

theorem keeps_vaccept {s : State} {r : VRaise} {flags : Nat} {supp : Nat} (hs : P s) : P (State.vaccept s r flags supp) := by
  unfold State.vaccept
  extract_lets -merge -underBinder +onlyGivenNames x0 x1 x2
  extract_lets -merge -underBinder +onlyGivenNames y4 x3
  clear_value y4
  have h5 : P x3 := keeps_bump hP (hP.upd hs)
  try clear_value x3
  exact keeps_ite (keeps_ite (keeps_vrecord hP hs) h5) (keeps_ite (keeps_ite (keeps_vrecord hP hs) h5) (keeps_ite (hP.upd hs)
      h5))

theorem keeps_vflush {s : State} (hs : P s) : P (State.vflush s) := by
  unfold State.vflush
  refine keeps_ite ?_ ?_
  · split
    · exact hP.upd hs
    · extract_lets -merge -underBinder +onlyGivenNames x0 x1
      have h2 : P x1 := keeps_vpad hP hs
      try clear_value x1
      exact hP.upd h2
  · exact hs

theorem keeps_evAt {s : State} {stamp : W64} {code : Nat} {items : List Item} (hs : P s) : P (State.evAt s stamp code items)
    := by
  unfold State.evAt
  refine keeps_ite ?_ ?_
  · exact hs
  · extract_lets -merge -underBinder +onlyGivenNames x0
    clear_value x0
    extract_lets -merge -underBinder +onlyGivenNames x1
    extract_lets -merge -underBinder +onlyGivenNames y3 y4 y5 x2
    clear_value y3 y4 y5
    have h6 : P x2 := keeps_ite (keeps_vaccept hP (hP.upd hs)) (keeps_bump hP (hP.upd hs))
    try clear_value x2
    exact keeps_ite (keeps_vflush hP h6) h6

theorem keeps_ev {s : State} {code : Nat} {items : List Item} (hs : P s) : P (State.ev s code items) := by
  unfold State.ev
  exact keeps_evAt hP hs

theorem keeps_closingFlush {s : State} {cause : Nat} (hs : P s) : P (State.closingFlush s cause) := by
  unfold State.closingFlush
  exact keeps_ite hs (keeps_setFld hP (hP.upd hs))

theorem keeps_vlog {s : State} {d : Nat} (hs : P s) : P (State.vlog s d) := by
  unfold State.vlog
  extract_lets -merge -underBinder +onlyGivenNames x0
  clear_value x0
  exact keeps_ite (keeps_setVdev hP hs) (keeps_setVdev hP hs)

theorem keeps_vsetMark {s : State} {d : Nat} {sec : Nat} {m : VMark} (hs : P s) : P (State.vsetMark s d sec m) := by
  unfold State.vsetMark
  exact keeps_vlog hP (hP.upd hs)

theorem keeps_vsetOldest {s : State} (hs : P s) : P (State.vsetOldest s) := by
  unfold State.vsetOldest
  extract_lets -merge -underBinder +onlyGivenNames x0 x1
  exact keeps_setReg hP hs

theorem keeps_vdropSector {s : State} {d : Nat} {sec : Nat} (hs : P s) : P (State.vdropSector s d sec) := by
  unfold State.vdropSector
  exact keeps_vsetOldest hP (hP.upd hs)

theorem keeps_veraseBegin {s : State} {d : Nat} {sec : Nat} (hs : P s) : P (State.veraseBegin s d sec) := by
  unfold State.veraseBegin
  extract_lets -merge -underBinder +onlyGivenNames y1 x0
  clear_value y1
  have h2 : P x0 := keeps_vsetMark hP hs
  try clear_value x0
  exact keeps_vdropSector hP (keeps_setVdev hP h2)

theorem keeps_veraseCheck {s : State} {d : Nat} (hs : P s) : P (State.veraseCheck s d) := by
  unfold State.veraseCheck
  refine keeps_ite ?_ ?_
  · split
    · exact keeps_veraseBegin hP hs
    · exact hs
  · exact hs

theorem keeps_veraseOk {s : State} {d : Nat} {sec : Nat} (hs : P s) : P (State.veraseOk s d sec) := by
  unfold State.veraseOk
  extract_lets -merge -underBinder +onlyGivenNames x0
  clear_value x0
  extract_lets -merge -underBinder +onlyGivenNames x1
  have h2 : P x1 := keeps_vsetMark hP hs
  try clear_value x1
  exact keeps_setVdev hP h2

theorem keeps_vfailure {s : State} {d : Nat} {sec : Nat} {cause : Nat} (hs : P s) : P (State.vfailure s d sec cause) := by
  unfold State.vfailure
  exact keeps_ev hP hs

theorem keeps_veraseDone {s : State} {d : Nat} {ok : Bool} (hs : P s) : P (State.veraseDone s d ok) := by
  unfold State.veraseDone
  split
  · exact hs
  · refine keeps_ite ?_ ?_
    · exact hs
    · refine keeps_ite ?_ ?_
      · exact keeps_veraseCheck hP (keeps_veraseOk hP hs)
      · extract_lets -merge -underBinder +onlyGivenNames x0
        clear_value x0
        refine keeps_ite ?_ ?_
        · extract_lets -merge -underBinder +onlyGivenNames x1
          have h2 : P x1 := keeps_vsetMark hP hs
          try clear_value x1
          extract_lets -merge -underBinder +onlyGivenNames y4 x3
          clear_value y4
          have h5 : P x3 := keeps_bump hP (keeps_setVdev hP h2)
          try clear_value x3
          exact keeps_veraseCheck hP (keeps_vfailure hP h5)
        · exact hP.upd hs

theorem keeps_vtarget {s : State} {d : Nat} {first : Nat} (hs : P s) : P (State.vtarget s d first).2 := by
  unfold State.vtarget
  split
  · exact hs
  · split
    · extract_lets -merge -underBinder +onlyGivenNames y1 x0
      clear_value y1
      have h2 : P x0 := keeps_vsetMark hP hs
      try clear_value x0
      exact keeps_setVdev hP h2
    · exact hs

theorem keeps_vtaint {s : State} {d : Nat} {sec : Nat} (hs : P s) : P (State.vtaint s d sec) := by
  unfold State.vtaint
  extract_lets -merge -underBinder +onlyGivenNames y1 x0
  clear_value y1
  have h2 : P x0 := keeps_vsetMark hP hs
  try clear_value x0
  exact keeps_bump hP (keeps_setVdev hP h2)

theorem keeps_vreportLost {s : State} (hs : P s) : P (State.vreportLost s) := by
  unfold State.vreportLost
  refine keeps_ite ?_ ?_
  · exact hs
  · extract_lets -merge -underBinder +onlyGivenNames x0
    exact keeps_ev hP (hP.upd hs)

theorem keeps_vpageDone {s : State} {d : Nat} {sec : Nat} {page : Nat} {slots : List VSlot} (hs : P s) : P (State.vpageDone s
    d sec page slots) := by
  unfold State.vpageDone
  extract_lets -merge -underBinder +onlyGivenNames y1 x0
  clear_value y1
  have h2 : P x0 := hP.upd hs
  try clear_value x0
  extract_lets -merge -underBinder +onlyGivenNames y4 x3
  clear_value y4
  have h5 : P x3 := hP.upd h2
  try clear_value x3
  extract_lets -merge -underBinder +onlyGivenNames y7 y8 y9 x6
  clear_value y7 y8 y9
  have h10 : P x6 := keeps_ite (keeps_vsetMark hP (keeps_setVdev hP h5)) (keeps_setVdev hP h5)
  try clear_value x6
  exact keeps_veraseCheck hP h10

theorem keeps_vpageTimeout {s : State} (hs : P s) : P (State.vpageTimeout s) := by
  unfold State.vpageTimeout
  exact keeps_ite (keeps_vpad hP hs) hs

theorem keeps_vlogSkip {s : State} {d : Nat} (hs : P s) : P (State.vlogSkip s d) := by
  unfold State.vlogSkip
  exact keeps_ev hP (keeps_vlog hP hs)

theorem keeps_vpage {s : State} {o : PageOutcome} (hs : P s) : P (State.vpage s o) := by
  unfold State.vpage
  extract_lets -merge -underBinder +onlyGivenNames x0
  refine keeps_ite ?_ ?_
  · exact hs
  · extract_lets -merge -underBinder +onlyGivenNames x1
    have h2 : P x1 := keeps_ite hs (keeps_vpad hP hs)
    try clear_value x1
    refine keeps_ite ?_ ?_
    · exact h2
    · split
      · exact h2
      · extract_lets -merge -underBinder +onlyGivenNames x3
        split
        · rename_i m4 m5 e6
          have h7 : P m5 := keeps_of_eq (congrArg (fun p => Prod.snd (p)) e6) (keeps_vtarget hP h2)
          split
          · exact h7
          · split
            · exact keeps_vreportLost hP (keeps_vpageDone hP h7)
            · exact keeps_veraseCheck hP (keeps_ev hP (keeps_vtaint hP h7))
            · exact keeps_veraseCheck hP (keeps_vfailure hP (keeps_vtaint hP h7))
            · exact keeps_vlogSkip hP h7

theorem keeps_vflushDone {s : State} {us : Nat} (hs : P s) : P (State.vflushDone s us) := by
  unfold State.vflushDone
  split
  · extract_lets -merge -underBinder +onlyGivenNames x0
    extract_lets -merge -underBinder +onlyGivenNames y2 x1
    clear_value y2
    have h3 : P x1 := hP.upd hs
    try clear_value x1
    extract_lets -merge -underBinder +onlyGivenNames x4
    have h5 : P x4 := keeps_peak hP (keeps_bump hP h3)
    try clear_value x4
    extract_lets -merge -underBinder +onlyGivenNames x6
    have h7 : P x6 := keeps_ev hP h5
    try clear_value x6
    exact keeps_ite (keeps_vflush hP h7) h7
  · exact hs

theorem keeps_powerDown {s : State} (hs : P s) : P (State.powerDown s) := by
  unfold State.powerDown
  refine keeps_ite ?_ ?_
  · extract_lets -merge -underBinder +onlyGivenNames x0
    have h1 : P x0 := keeps_setDoms hP hs
    try clear_value x0
    exact hP.upd h1
  · exact hs

theorem keeps_vcloseDone {s : State} {us : Nat} (hs : P s) : P (State.vcloseDone s us) := by
  unfold State.vcloseDone
  split
  · refine keeps_ite ?_ ?_
    · exact hs
    · extract_lets -merge -underBinder +onlyGivenNames x0 x1
      have h2 : P x1 := keeps_vput hP hs
      try clear_value x1
      split
      · exact h2
      · extract_lets -merge -underBinder +onlyGivenNames x3
        have h4 : P x3 := keeps_vpad hP h2
        try clear_value x3
        extract_lets -merge -underBinder +onlyGivenNames x5
        split
        · rename_i m6 m7 e8
          have h9 : P m7 := keeps_of_eq (congrArg (fun p => Prod.snd (p)) e8) (keeps_vtarget hP h4)
          split
          · refine keeps_powerDown hP ?_
            extract_lets -merge -underBinder +onlyGivenNames x10
            have h11 : P x10 := keeps_vpageDone hP h9
            try clear_value x10
            exact hP.upd h11
          · exact h9
  · exact hs

theorem keeps_vholdup {s : State} {ok : Bool} (hs : P s) : P (State.vholdup s ok) := by
  unfold State.vholdup
  extract_lets -merge -underBinder +onlyGivenNames x0
  exact keeps_ite (keeps_ev hP (keeps_setFld hP hs)) (keeps_ite (keeps_ev hP (keeps_setFld hP hs)) hs)

theorem keeps_vfail {s : State} (hs : P s) : P (State.vfail s) := by
  unfold State.vfail
  exact keeps_setFld hP hs

theorem keeps_vstart {s : State} (hs : P s) : P (State.vstart s) := by
  unfold State.vstart
  extract_lets -merge -underBinder +onlyGivenNames x0
  clear_value x0
  extract_lets -merge -underBinder +onlyGivenNames x1
  extract_lets -merge -underBinder +onlyGivenNames y3 x2
  clear_value y3
  clear_value x2
  exact hP.upd hs

theorem keeps_vdevice {s : State} {d : Nat} {ok : Bool} (hs : P s) : P (State.vdevice s d ok) := by
  unfold State.vdevice
  extract_lets -merge -underBinder +onlyGivenNames y1 x0
  clear_value y1
  have h2 : P x0 := keeps_setVdev hP hs
  try clear_value x0
  exact keeps_ite h2 (keeps_vfailure hP h2)

theorem keeps_vlogLost {s : State} {d : Nat} {lost : Bool} (hs : P s) : P (State.vlogLost s d lost) := by
  unfold State.vlogLost
  refine keeps_ite ?_ ?_
  · exact hs
  · extract_lets -merge -underBinder +onlyGivenNames x0
    have h1 : P x0 := keeps_fold (fun _ _ hf2 => keeps_bump hP (hP.upd hf2)) hs
    try clear_value x0
    extract_lets -merge -underBinder +onlyGivenNames y4 x3
    clear_value y4
    have h5 : P x3 := keeps_setVdev hP h1
    try clear_value x3
    exact hP.upd h5

theorem keeps_vfoundErasing {s : State} {d : Nat} (hs : P s) : P (State.vfoundErasing s d) := by
  unfold State.vfoundErasing
  refine keeps_fold ?_ ?_
  · intro y0 a0 hf0
    refine keeps_ite ?_ ?_
    · extract_lets -merge -underBinder +onlyGivenNames y2 x1
      clear_value y2
      have h3 : P x1 := keeps_vsetMark hP hf0
      try clear_value x1
      exact keeps_ev hP (keeps_vdropSector hP (keeps_bump hP h3))
    · exact hf0
  · exact hs

theorem keeps_vfoundOpen {s : State} {d : Nat} (hs : P s) : P (State.vfoundOpen s d) := by
  unfold State.vfoundOpen
  refine keeps_fold ?_ ?_
  · intro y0 a0 hf0
    refine keeps_ite ?_ ?_
    · extract_lets -merge -underBinder +onlyGivenNames x1
      exact keeps_ite (keeps_vsetMark hP hf0) (keeps_setVdev hP hf0)
    · exact hf0
  · exact hs

theorem keeps_verestore {d : Nat} {x : Nat × State} (hx : P x.2) : P (State.verestore d x).2 := by
  unfold State.verestore
  refine keeps_ifQ (Q := fun p => P (Prod.snd p)) ?_ ?_
  · split
    · exact keeps_veraseOk hP (keeps_veraseBegin hP hx)
    · exact hx
  · exact hx

theorem keeps_vrecover {s : State} {r : VaultRecovery} (hs : P s) : P (State.vrecover s r) := by
  unfold State.vrecover
  refine keeps_ite ?_ ?_
  · exact hs
  · extract_lets -merge -underBinder +onlyGivenNames x0
    have h1 : P x0 := keeps_vdevice hP (keeps_vdevice hP hs)
    try clear_value x0
    extract_lets -merge -underBinder +onlyGivenNames x2
    have h3 : P x2 := keeps_vfoundErasing hP (keeps_vfoundErasing hP (keeps_vlogLost hP (keeps_vlogLost hP h1)))
    try clear_value x2
    extract_lets -merge -underBinder +onlyGivenNames x4
    have h5 : P x4 := keeps_setReg hP (keeps_vfoundOpen hP (keeps_vfoundOpen hP h3))
    try clear_value x4
    extract_lets -merge -underBinder +onlyGivenNames x6
    have h7 : P x6 := keeps_vsetOldest hP h5
    try clear_value x6
    extract_lets -merge -underBinder +onlyGivenNames x8
    have h9 : P x8 := keeps_ite (keeps_ev hP h7) h7
    try clear_value x8
    split
    · rename_i m10 m11 e12
      have h13 : P m11 := keeps_of_eq (congrArg (fun p => Prod.snd (p)) e12) (keeps_verestore hP (keeps_verestore hP
          (keeps_verestore hP (keeps_verestore hP h9))))
      refine keeps_ite ?_ ?_
      · refine keeps_fold ?_ ?_
        · exact fun _ _ hf14 => keeps_vaccept hP hf14
        · extract_lets -merge -underBinder +onlyGivenNames x15
          have h16 : P x15 := keeps_vfail hP h13
          try clear_value x15
          exact hP.upd h16
      · extract_lets -merge -underBinder +onlyGivenNames x17
        have h18 : P x17 := keeps_setFld hP h13
        try clear_value x17
        extract_lets -merge -underBinder +onlyGivenNames x19 x20
        extract_lets -merge -underBinder +onlyGivenNames y22 x21
        clear_value y22
        have h23 : P x21 := keeps_fold (fun _ _ hf24 => keeps_vaccept hP hf24) (hP.upd h18)
        try clear_value x21
        extract_lets -merge -underBinder +onlyGivenNames x25
        have h26 : P x25 := keeps_ev hP h23
        try clear_value x25
        exact keeps_veraseCheck hP (keeps_veraseCheck hP h26)

theorem keeps_vwindow {s : State} {n : Nat} {off : Nat} (hs : P s) : P (State.vwindow s n off).2.2 := by
  unfold State.vwindow
  extract_lets -merge -underBinder +onlyGivenNames y1 x0
  clear_value y1
  have h2 : P x0 := keeps_ite (hP.upd hs) hs
  try clear_value x0
  split
  · exact h2
  · exact h2

theorem keeps_vcycle {s : State} (hs : P s) : P (State.vcycle s) := by
  unfold State.vcycle
  extract_lets -merge -underBinder +onlyGivenNames x0
  clear_value x0
  extract_lets -merge -underBinder +onlyGivenNames y2 x1
  clear_value y2
  have h3 : P x1 := hP.upd hs
  try clear_value x1
  extract_lets -merge -underBinder +onlyGivenNames x4
  have h5 : P x4 := by
    unfold x4
    refine keeps_fold ?_ ?_
    · intro y6 a6 hf6
      split
      · split
        · exact keeps_ite hf6 (keeps_vaccept hP hf6)
        · exact hf6
    · exact h3
  try clear_value x4
  exact keeps_vreportLost hP h5

theorem keeps_journal {s : State} {kind : Nat} {subject : Nat} {words : List W64} {led : List W64} (hs : P s) : P
    (State.journal s kind subject words led) := by
  unfold State.journal
  exact hP.upd hs

theorem keeps_journalSig {s : State} {kind : Nat} {g : Nat} (hs : P s) : P (State.journalSig s kind g) := by
  unfold State.journalSig
  exact keeps_journal hP hs

theorem keeps_journalRec {s : State} {g : Nat} (hs : P s) : P (State.journalRec s g) := by
  unfold State.journalRec
  exact keeps_journal hP hs

theorem keeps_journalForce {s : State} {g : Nat} {set : Bool} {v : W64} (hs : P s) : P (State.journalForce s g set v) := by
  unfold State.journalForce
  exact keeps_journal hP hs

theorem keeps_change {s : State} {kind : Nat} {g : Nat} {c : Copy} (hs : P s) : P (State.change s kind g c) := by
  unfold State.change
  extract_lets -merge -underBinder +onlyGivenNames x0
  clear_value x0
  extract_lets -merge -underBinder +onlyGivenNames x1 x2 x3
  clear_value x3
  extract_lets -merge -underBinder +onlyGivenNames x4
  have h5 : P x4 := keeps_setSig hP hs
  try clear_value x4
  split
  · exact keeps_journalSig hP (keeps_setForce hP h5)
  · exact keeps_journalSig hP (keeps_setSig hP h5)

theorem keeps_deliverAt {s : State} {due : Nat} {kind : Nat} {index : Nat} {c : Copy} (hs : P s) : P (State.deliverAt s due
    kind index c) := by
  unfold State.deliverAt
  exact hP.upd hs

theorem keeps_deliver {s : State} {kind : Nat} {index : Nat} {c : Copy} (hs : P s) : P (State.deliver s kind index c) := by
  unfold State.deliver
  exact keeps_deliverAt hP hs

theorem keeps_applyUpdates {s : State} (hs : P s) : P (State.applyUpdates s) := by
  unfold State.applyUpdates
  extract_lets -merge -underBinder +onlyGivenNames x0
  exact keeps_fold (fun _ _ hf1 => keeps_fold (fun _ _ hf2 => keeps_change hP hf2) hf1) (hP.upd hs)

theorem keeps_freshOne {s : State} {g : Nat} (hs : P s) : P (State.freshOne s g) := by
  unfold State.freshOne
  extract_lets -merge -underBinder +onlyGivenNames x0
  clear_value x0
  exact keeps_ite (keeps_journalSig hP (keeps_setSig hP hs)) hs

theorem keeps_freshness {s : State} (hs : P s) : P (State.freshness s) := by
  unfold State.freshness
  exact keeps_fold (fun _ _ hf0 => keeps_freshOne hP hf0) hs

theorem keeps_writeSigWord {s : State} {g : Nat} {w : Nat} {v : W64} (hs : P s) : P (State.writeSigWord s g w v) := by
  unfold State.writeSigWord
  extract_lets -merge -underBinder +onlyGivenNames x0
  clear_value x0
  split
  · exact keeps_change hP hs
  · extract_lets -merge -underBinder +onlyGivenNames x1 x2
    clear_value x2
    exact keeps_journalRec hP (keeps_setSig hP hs)
  · exact keeps_journalRec hP (keeps_setSig hP hs)

theorem keeps_safeSig {s : State} {g : Nat} (hs : P s) : P (State.safeSig s g) := by
  unfold State.safeSig
  exact keeps_change hP hs

theorem keeps_setForced {s : State} {g : Nat} {a : Nat} {v : W64} (hs : P s) : P (State.setForced s g a v) := by
  unfold State.setForced
  extract_lets -merge -underBinder +onlyGivenNames x0
  clear_value x0
  extract_lets -merge -underBinder +onlyGivenNames x1
  clear_value x1
  extract_lets -merge -underBinder +onlyGivenNames x2
  have h3 : P x2 := keeps_setForce hP hs
  try clear_value x2
  exact keeps_journalForce hP (keeps_setSig hP h3)

theorem keeps_clearForced {s : State} {g : Nat} (hs : P s) : P (State.clearForced s g) := by
  unfold State.clearForced
  split
  · extract_lets -merge -underBinder +onlyGivenNames x0
    clear_value x0
    exact keeps_journalForce hP (keeps_setSig hP (keeps_setForce hP hs))
  · exact hs

theorem keeps_clearForcesOf {s : State} {a : Nat} {reason : Nat} {always : Bool} (hs : P s) : P (State.clearForcesOf s a
    reason always) := by
  unfold State.clearForcesOf
  extract_lets -merge -underBinder +onlyGivenNames x0 x1
  have h2 : P x1 := keeps_fold (fun _ _ hf3 => keeps_clearForced hP hf3) hs
  try clear_value x1
  exact keeps_ite (keeps_ev hP h2) h2

theorem keeps_forceCommand {s : State} {a : Nat} {cmd : Nat} {session : Nat} {g : Nat} {v : W64} (hs : P s) : P
    (State.forceCommand s a cmd session g v) := by
  unfold State.forceCommand
  extract_lets -merge -underBinder +onlyGivenNames x0
  clear_value x0
  extract_lets -merge -underBinder +onlyGivenNames x1
  have h2 : ∀ {v3 v4}, P v3 → P (x1 v3 v4) := by
    intro v3 v4 h5
    unfold x1
    exact keeps_setFld hP h5
  try clear_value x1
  exact keeps_ite (keeps_ite (h2 hs) (h2 (keeps_clearForcesOf hP hs))) (keeps_ite (h2 hs) (keeps_ite (keeps_ite (h2 hs)
      (keeps_ite (h2 hs) (h2 (keeps_ev hP (keeps_setForced hP hs))))) (keeps_ite (h2 hs) (keeps_ite (h2 hs) (h2 (keeps_ev hP
      (keeps_clearForced hP hs)))))))

theorem keeps_scrubImage {s : State} {e : ImageError} (hs : P s) : P (State.scrubImage s e) := by
  unfold State.scrubImage
  extract_lets -merge -underBinder +onlyGivenNames x0 x1 x2
  clear_value x2
  refine keeps_ite ?_ ?_
  · exact keeps_bump hP hs
  · extract_lets -merge -underBinder +onlyGivenNames x3
    have h4 : P x3 := keeps_ev hP (keeps_bump hP hs)
    try clear_value x3
    refine keeps_ite ?_ ?_
    · exact keeps_journalRec hP (keeps_setSig hP h4)
    · extract_lets -merge -underBinder +onlyGivenNames x5
      exact keeps_journalRec hP (keeps_setSig hP h4)

theorem keeps_fireLast {s : State} {f : Fire} {status : Nat} (hs : P s) : P (State.fireLast s f status) := by
  unfold State.fireLast
  extract_lets -merge -underBinder +onlyGivenNames x0 x1
  exact keeps_setReg64 hP (keeps_setReg hP hs)

theorem keeps_firePeaks {s : State} {a : Nat} (hs : P s) : P (State.firePeaks s a) := by
  unfold State.firePeaks
  exact keeps_peak hP (keeps_peak hP hs)

theorem keeps_fireAdmit {s : State} {f : Fire} {late : Bool} (hs : P s) : P (State.fireAdmit s f late) := by
  unfold State.fireAdmit
  extract_lets -merge -underBinder +onlyGivenNames x0
  clear_value x0
  extract_lets -merge -underBinder +onlyGivenNames y2 x1
  clear_value y2
  have h3 : P x1 := hP.upd hs
  try clear_value x1
  exact keeps_journal hP (keeps_firePeaks hP h3)

theorem keeps_fireRefuse {s : State} {f : Fire} {status : Nat} {ev : Nat} {more : List Item} (hs : P s) : P (State.fireRefuse
    s f status ev more) := by
  unfold State.fireRefuse
  extract_lets -merge -underBinder +onlyGivenNames x0
  have h1 : P x0 := keeps_ev hP (keeps_fireLast hP hs)
  try clear_value x0
  exact keeps_ite (keeps_ev hP (keeps_setFld hP h1)) h1

theorem keeps_fireJudge {s : State} {f : Fire} (hs : P s) : P (State.fireJudge s f) := by
  unfold State.fireJudge
  extract_lets -merge -underBinder +onlyGivenNames x0 x1 x2 x3
  exact keeps_ite (keeps_fireRefuse hP (keeps_bump hP hs)) (keeps_ite (keeps_fireRefuse hP (keeps_bump hP hs)) (keeps_ite
      (keeps_fireRefuse hP (keeps_bump hP hs)) (keeps_ite (keeps_fireRefuse hP (keeps_bump hP hs)) (keeps_ite (keeps_ev hP
      (keeps_fireLast hP (keeps_bump hP (keeps_fireAdmit hP hs)))) (keeps_fireAdmit hP hs)))))

theorem keeps_fireAdmission {s : State} (hs : P s) : P (State.fireAdmission s) := by
  unfold State.fireAdmission
  exact keeps_fold (fun _ _ hf0 => keeps_fireJudge hP hf0) (hP.upd hs)

theorem keeps_fireOne {s : State} {f : Fire} (hs : P s) : P (State.fireOne s f) := by
  unfold State.fireOne
  extract_lets -merge -underBinder +onlyGivenNames x0
  have h1 : P x0 := keeps_journal hP (keeps_bump64 hP hs)
  try clear_value x0
  exact keeps_ite (hP.upd h1) (keeps_change hP h1)

theorem keeps_fireApply {s : State} (hs : P s) : P (State.fireApply s) := by
  unfold State.fireApply
  extract_lets -merge -underBinder +onlyGivenNames x0 x1
  exact keeps_fold (fun _ _ hf2 => keeps_fireOne hP hf2) (keeps_peak hP (hP.upd hs))

theorem keeps_fireDrop {s : State} {p : Fire → Bool} {status : Nat} (hs : P s) : P (State.fireDrop s p status) := by
  unfold State.fireDrop
  extract_lets -merge -underBinder +onlyGivenNames x0
  exact keeps_fold (fun _ _ hf1 => keeps_journal hP (keeps_fireLast hP (keeps_bump hP hf1))) (hP.upd hs)

theorem keeps_fireInDrop {s : State} {p : Fire → Bool} {status : Nat} (hs : P s) : P (State.fireInDrop s p status) := by
  unfold State.fireInDrop
  extract_lets -merge -underBinder +onlyGivenNames x0
  exact keeps_fold (fun _ _ hf1 => keeps_fireLast hP (keeps_bump hP hf1)) (hP.upd hs)

theorem keeps_fireRemove {s : State} {a : Nat} {cause : Nat} {p : Fire → Bool} (hs : P s) : P (State.fireRemove s a cause p)
    := by
  unfold State.fireRemove
  extract_lets -merge -underBinder +onlyGivenNames x0 x1
  have h2 : P x1 := keeps_fireInDrop hP (keeps_fireDrop hP hs)
  try clear_value x1
  exact keeps_ite h2 (keeps_ev hP h2)

theorem keeps_fireUsable {s : State} {a : Nat} (hs : P s) : P (State.fireUsable s a) := by
  unfold State.fireUsable
  extract_lets -merge -underBinder +onlyGivenNames x0 x1
  extract_lets -merge -underBinder +onlyGivenNames y3 x2
  clear_value y3
  have h4 : P x2 := keeps_ite (keeps_fold (fun _ _ hf5 => keeps_ev hP (keeps_bump hP hf5)) (keeps_fireDrop hP hs)) hs
  try clear_value x2
  exact keeps_setAcct hP h4

theorem keeps_fireUsables {s : State} (hs : P s) : P (State.fireUsables s) := by
  unfold State.fireUsables
  exact keeps_fold (fun _ _ hf0 => keeps_fireUsable hP hf0) hs

theorem keeps_fireSubmit {s : State} {code : Nat} {arg : W64} {time : W64} {tl : Bool} (hs : P s) : P (State.fireSubmit s
    code arg time tl) := by
  unfold State.fireSubmit
  exact hP.upd hs

theorem keeps_setAcctState {s : State} {a : Nat} {st : Nat} (hs : P s) : P (State.setAcctState s a st) := by
  unfold State.setAcctState
  exact keeps_setFld hP hs

theorem keeps_abandon {s : State} {k : Nat} (hs : P s) : P (State.abandon s k) := by
  unfold State.abandon
  refine keeps_ite ?_ ?_
  · refine keeps_setFld hP ?_
    extract_lets -merge -underBinder +onlyGivenNames x0
    have h1 : P x0 := keeps_setExec hP hs
    try clear_value x0
    exact hP.upd h1
  · exact hs

theorem keeps_dataPut {s : State} {k : Nat} {w : Nat} {v : W64} (hs : P s) : P (State.dataPut s k w v) := by
  unfold State.dataPut
  extract_lets -merge -underBinder +onlyGivenNames x0
  clear_value x0
  exact hP.upd hs

theorem keeps_dataWrite {s : State} {k : Nat} {w : Nat} {v : W64} (hs : P s) : P (State.dataWrite s k w v) := by
  unfold State.dataWrite
  exact keeps_journal hP (keeps_dataPut hP hs)

theorem keeps_dataReady {s : State} {k : Nat} (hs : P s) : P (State.dataReady s k) := by
  unfold State.dataReady
  extract_lets -merge -underBinder +onlyGivenNames x0
  refine keeps_fold ?_ ?_
  · intro y1 a1 hf1
    split
    · exact keeps_dataWrite hP hf1
  · exact hP.upd hs

theorem keeps_stopAccount {s : State} {a : Nat} (hs : P s) : P (State.stopAccount s a) := by
  unfold State.stopAccount
  extract_lets -merge -underBinder +onlyGivenNames x0
  have h1 : P x0 := keeps_fold (fun _ _ hf2 => keeps_setFld hP (keeps_setTask hP (keeps_abandon hP hf2))) hs
  try clear_value x0
  extract_lets -merge -underBinder +onlyGivenNames x3
  exact hP.upd h1

theorem keeps_enterFault {s : State} {a : Nat} {cause : Nat} (hs : P s) : P (State.enterFault s a cause) := by
  unfold State.enterFault
  extract_lets -merge -underBinder +onlyGivenNames x0
  refine keeps_ite ?_ ?_
  · exact keeps_setAcct hP hs
  · refine keeps_ite ?_ ?_
    · extract_lets -merge -underBinder +onlyGivenNames x1
      have h2 : P x1 := keeps_setFld hP (keeps_setAcctState hP hs)
      try clear_value x1
      extract_lets -merge -underBinder +onlyGivenNames x3
      have h4 : P x3 := keeps_stopAccount hP h2
      try clear_value x3
      extract_lets -merge -underBinder +onlyGivenNames x5
      have h6 : P x5 := keeps_clearForcesOf hP h4
      try clear_value x5
      extract_lets -merge -underBinder +onlyGivenNames x7
      have h8 : P x7 := keeps_fireRemove hP h6
      try clear_value x7
      extract_lets -merge -underBinder +onlyGivenNames y10 x9
      clear_value y10
      have h11 : P x9 := hP.upd h8
      try clear_value x9
      exact keeps_ev hP h11
    · exact hs

theorem keeps_tillPut {s : State} {a : Nat} {t : Nat} {v : W64} (hs : P s) : P (State.tillPut s a t v) := by
  unfold State.tillPut
  extract_lets -merge -underBinder +onlyGivenNames x0
  clear_value x0
  exact keeps_setTill hP (hP.till hs)

theorem keepsO_tillWrite {s : State} {a t : Nat} {v : W64} (hs : P s) :
    ∀ x, s.tillWrite a t v = some x → P x := by
  intro x h
  unfold State.tillWrite at h
  split at h
  · cases h
  · cases h; exact keeps_tillPut hP hs

theorem keeps_tillEcc {s : State} {a : Nat} {t : Nat} {pos : Nat} {e : Ecc} (hs : P s) : P (State.tillEcc s a t pos e) := by
  unfold State.tillEcc
  split
  · exact hs
  · exact keeps_bump hP hs
  · exact keeps_ev hP (keeps_bump hP (keeps_setFld hP hs))

theorem keeps_tillRead {s : State} {a : Nat} {t : Nat} {e : Ecc} (hs : P s) : P (State.tillRead s a t e).2.2.2 := by
  unfold State.tillRead
  extract_lets -merge -underBinder +onlyGivenNames x0
  clear_value x0
  refine keeps_ifQ (Q := fun p => P (Prod.snd (Prod.snd (Prod.snd p)))) ?_ ?_
  · exact hs
  · extract_lets -merge -underBinder +onlyGivenNames x1 x2
    clear_value x2
    extract_lets -merge -underBinder +onlyGivenNames x3
    have h4 : P x3 := keeps_tillEcc hP (keeps_setTill hP hs)
    try clear_value x3
    split
    · exact keeps_ite (keeps_enterFault hP h4) h4
    · exact h4

theorem keeps_tillCmd {s : State} {a : Nat} {t : Nat} {cmd : Nat} (hs : P s) : P (State.tillCmd s a t cmd) := by
  unfold State.tillCmd
  extract_lets -merge -underBinder +onlyGivenNames x0
  clear_value x0
  split
  · exact keeps_setTill hP hs
  · exact keeps_setTill hP hs
  · exact keeps_setTill hP hs
  · exact hs

theorem keeps_tillReserve {s : State} {a : Nat} {t : Nat} {n : Nat} (hs : P s) : P (State.tillReserve s a t n) := by
  unfold State.tillReserve
  extract_lets -merge -underBinder +onlyGivenNames x0
  clear_value x0
  exact keeps_setTill hP hs

theorem keeps_tillComplete {s : State} {a : Nat} {t : Nat} {n : Nat} {ws : List W64} (hs : P s) : P (State.tillComplete s a t
    n ws) := by
  unfold State.tillComplete
  extract_lets -merge -underBinder +onlyGivenNames x0
  have h1 : P x0 := keeps_fold (fun _ _ hf2 => keeps_tillPut hP hf2) hs
  try clear_value x0
  extract_lets -merge -underBinder +onlyGivenNames x3
  clear_value x3
  exact keeps_setTill hP h1

end Sys2Proof.Machine
end

