-- ==== Sys2Proof/Laws/KeepsWheel.lean ====
section
/-! SUPPORT. Every operation keeps a Closed property (see KeepsBase): time, requests, wheels and tasks. -/

namespace Sys2Proof.Machine

variable {P : State → Prop} (hP : Closed P)
include hP

theorem keeps_Ctx_trap {c : Ctx} {cause : Nat} (hc : P c.s) : P (Ctx.trap c cause).s := by
  unfold Ctx.trap
  exact hc

theorem keeps_Ctx_ok {c : Ctx} {l : Lane} (hc : P c.s) : P (Ctx.ok c l).s := by
  unfold Ctx.ok
  exact hc

theorem keeps_Ctx_okc {c : Ctx} {l : Lane} {cause : Nat} (hc : P c.s) : P (Ctx.okc c l cause).s := by
  unfold Ctx.okc
  extract_lets -merge -underBinder +onlyGivenNames x0
  have h1 : P x0.s := keeps_Ctx_ok hP hc
  try clear_value x0
  exact h1

theorem keeps_Ctx_store {c : Ctx} {v : W64} (hc : P c.s) : P (Ctx.store c v).s := by
  unfold Ctx.store
  split
  · split
    · exact keeps_Ctx_trap hP hc
    · extract_lets -merge -underBinder +onlyGivenNames x0
      clear_value x0
      split
      · exact keeps_Ctx_trap hP hc
      · extract_lets -merge -underBinder +onlyGivenNames x1
        clear_value x1
        extract_lets -merge -underBinder +onlyGivenNames x2
        split
        · exact keeps_Ctx_trap hP hc
        · extract_lets -merge -underBinder +onlyGivenNames y4 x3
          clear_value y4
          have h5 : P x3.s := keeps_Ctx_ok hP hc
          try clear_value x3
          exact h5
  · split
    · exact keeps_Ctx_trap hP hc
    · extract_lets -merge -underBinder +onlyGivenNames x6
      have h7 : P x6.s := keeps_Ctx_ok hP hc
      try clear_value x6
      exact h7

theorem keeps_Ctx_intResult {c : Ctx} {wa : W64} {v : Bool} {dz : Bool} (hc : P c.s) : P (Ctx.intResult c wa v dz).s := by
  unfold Ctx.intResult
  extract_lets -merge -underBinder +onlyGivenNames x0
  exact keeps_Ctx_okc hP hc

theorem keeps_Ctx_floatResult {c : Ctx} {r : FRes} (hc : P c.s) : P (Ctx.floatResult c r).s := by
  unfold Ctx.floatResult
  exact keeps_Ctx_okc hP hc

theorem keeps_setPeer {s : State} {a : Nat} {p : NetPeer} (hs : P s) : P (State.setPeer s a p) := by
  unfold State.setPeer
  exact hP.upd hs

theorem keeps_setQueue {s : State} {a : Nat} {q : List QItem} (hs : P s) : P (State.setQueue s a q) := by
  unfold State.setQueue
  exact hP.upd hs

theorem keeps_setTag {s : State} {t : Nat} {x : Tag} (hs : P s) : P (State.setTag s t x) := by
  unfold State.setTag
  exact hP.upd hs

theorem keeps_emit {s : State} {f : Sent} (hs : P s) : P (State.emit s f) := by
  unfold State.emit
  exact keeps_fold (fun _ _ hf0 => keeps_ite (keeps_bump hP hf0) hf0) (hP.upd hs)

theorem keeps_takeSeq {s : State} {src : Nat} (hs : P s) : P (State.takeSeq s src).2 := by
  unfold State.takeSeq
  exact keeps_ifQ (Q := fun p => P (Prod.snd p)) (hP.upd hs) (hP.upd hs)

theorem keeps_netSend {s : State} {kind : Nat} {version : Nat} {flags : Nat} {src : Nat} {dst : Nat} {body : List Byte} {acct
    : Nat} (hs : P s) : P (State.netSend s kind version flags src dst body acct) := by
  unfold State.netSend
  split
  · rename_i m0 m1 e2
    have h3 : P m1 := keeps_of_eq (congrArg (fun p => Prod.snd (p)) e2) (keeps_takeSeq hP hs)
    exact keeps_emit hP h3

theorem keeps_ptpEmit {s : State} {type : Nat} {p : Nat} {seq : Nat} {twoStep : Bool} {corr : Int} {source : Nat} {body :
    List Byte} (hs : P s) : P (State.ptpEmit s type p seq twoStep corr source body) := by
  unfold State.ptpEmit
  exact keeps_emit hP hs

theorem keeps_baseLeave {s : State} {d : Nat} {cause : Nat} (hs : P s) : P (State.baseLeave s d cause) := by
  unfold State.baseLeave
  exact keeps_ite (keeps_ev hP (keeps_bump hP hs)) (keeps_ite (keeps_ev hP hs) hs)

theorem keeps_baseFree {s : State} {d : Nat} {cause : Nat} (hs : P s) : P (State.baseFree s d cause) := by
  unfold State.baseFree
  extract_lets -merge -underBinder +onlyGivenNames x0
  have h1 : P x0 := keeps_setFld hP (keeps_baseLeave hP hs)
  try clear_value x0
  exact keeps_setBase hP h1

theorem keeps_showGm {s : State} {d : Nat} {f : Foreign} (hs : P s) : P (State.showGm s d f) := by
  unfold State.showGm
  exact keeps_setReg64 hP (keeps_setFld hP (keeps_setFld hP hs))

theorem keeps_elect {s : State} {d : Nat} (hs : P s) : P (State.elect s d) := by
  unfold State.elect
  split
  · exact hs
  · extract_lets -merge -underBinder +onlyGivenNames x0
    clear_value x0
    extract_lets -merge -underBinder +onlyGivenNames x1 x2 x3
    have h4 : P x3 := keeps_ite (keeps_bump hP hs) hs
    try clear_value x3
    extract_lets -merge -underBinder +onlyGivenNames x5
    have h6 : P x5 := keeps_showGm hP h4
    try clear_value x5
    refine keeps_ite ?_ ?_
    · refine keeps_ite ?_ ?_
      · exact h6
      · extract_lets -merge -underBinder +onlyGivenNames x7
        have h8 : P x7 := keeps_ite (keeps_bump hP h6) h6
        try clear_value x7
        extract_lets -merge -underBinder +onlyGivenNames x9
        have h10 : P x9 := keeps_setBase hP (keeps_setFld hP h8)
        try clear_value x9
        exact keeps_ev hP h10
    · extract_lets -merge -underBinder +onlyGivenNames x11
      have h12 : P x11 := keeps_setBase hP h6
      try clear_value x11
      refine keeps_ite ?_ ?_
      · extract_lets -merge -underBinder +onlyGivenNames x13
        have h14 : P x13 := keeps_ite (keeps_ev hP h12) h12
        try clear_value x13
        extract_lets -merge -underBinder +onlyGivenNames x15
        have h16 : P x15 := keeps_setFld hP h14
        try clear_value x15
        exact keeps_setBase hP h16
      · exact h12

theorem keeps_measure {s : State} {d : Nat} {off : Int} (hs : P s) : P (State.measure s d off) := by
  unfold State.measure
  extract_lets -merge -underBinder +onlyGivenNames x0
  clear_value x0
  extract_lets -merge -underBinder +onlyGivenNames x1 x2
  refine keeps_ite ?_ ?_
  · exact hs
  · refine keeps_ite ?_ ?_
    · exact keeps_setBase hP hs
    · refine keeps_ite ?_ ?_
      · extract_lets -merge -underBinder +onlyGivenNames x3
        have h4 : P x3 := keeps_bump hP hs
        try clear_value x3
        exact keeps_ite (keeps_baseFree hP h4) (keeps_setBase hP h4)
      · refine keeps_ite ?_ ?_
        · extract_lets -merge -underBinder +onlyGivenNames x5
          refine keeps_ite ?_ ?_
          · extract_lets -merge -underBinder +onlyGivenNames x6
            have h7 : P x6 := keeps_setBase hP hs
            try clear_value x6
            extract_lets -merge -underBinder +onlyGivenNames x8
            have h9 : P x8 := keeps_setFld hP (keeps_draw hP h7)
            try clear_value x8
            exact keeps_ev hP (keeps_setFld hP h9)
          · exact keeps_setBase hP hs
        · exact keeps_setBase hP hs

theorem keeps_ptpRefuse {s : State} {port : Nat} (hs : P s) : P (State.ptpRefuse s port) := by
  unfold State.ptpRefuse
  exact keeps_bump hP hs

theorem keeps_syncIn {s : State} {m : SyncMsg} (hs : P s) : P (State.syncIn s m) := by
  unfold State.syncIn
  extract_lets -merge -underBinder +onlyGivenNames x0 x1
  refine keeps_ite ?_ ?_
  · exact hs
  · refine keeps_ite ?_ ?_
    · exact keeps_ptpRefuse hP hs
    · extract_lets -merge -underBinder +onlyGivenNames x2 x3
      have h4 : P x3 := keeps_ite (keeps_ptpEmit hP hs) hs
      try clear_value x3
      split
      · refine keeps_ite ?_ ?_
        · exact h4
        · extract_lets -merge -underBinder +onlyGivenNames x5
          exact keeps_ite (keeps_setBase hP h4) (keeps_measure hP h4)
      · exact h4

theorem keeps_followUpIn {s : State} {m : FollowUpMsg} (hs : P s) : P (State.followUpIn s m) := by
  unfold State.followUpIn
  extract_lets -merge -underBinder +onlyGivenNames x0 x1
  refine keeps_ite ?_ ?_
  · exact hs
  · refine keeps_ite ?_ ?_
    · exact keeps_ptpRefuse hP hs
    · split
      · exact keeps_ite (keeps_measure hP (keeps_setBase hP hs)) hs
      · exact hs

theorem keeps_ptpAnnounceIn {s : State} {m : AnnounceMsg} (hs : P s) : P (State.ptpAnnounceIn s m) := by
  unfold State.ptpAnnounceIn
  extract_lets -merge -underBinder +onlyGivenNames x0 x1
  refine keeps_ite ?_ ?_
  · exact hs
  · refine keeps_ite ?_ ?_
    · exact keeps_ptpRefuse hP hs
    · extract_lets -merge -underBinder +onlyGivenNames x2
      clear_value x2
      extract_lets -merge -underBinder +onlyGivenNames x3 x4 x5
      clear_value x5
      extract_lets -merge -underBinder +onlyGivenNames x6
      exact keeps_elect hP (keeps_setBase hP hs)

theorem keeps_announceTimeout {s : State} {d : Nat} (hs : P s) : P (State.announceTimeout s d) := by
  unfold State.announceTimeout
  split
  · refine keeps_ite ?_ ?_
    · exact hs
    · extract_lets -merge -underBinder +onlyGivenNames x0
      have h1 : P x0 := keeps_baseFree hP hs
      try clear_value x0
      exact keeps_elect hP (keeps_setBase hP h1)
  · exact keeps_elect hP hs

theorem keeps_pdelayReqIn {s : State} {m : PdelayReqMsg} (hs : P s) : P (State.pdelayReqIn s m) := by
  unfold State.pdelayReqIn
  extract_lets -merge -underBinder +onlyGivenNames x0
  exact keeps_ite hs (keeps_ite (keeps_ptpRefuse hP hs) (keeps_ptpEmit hP hs))

theorem keeps_pdelayRespIn {s : State} {m : PdelayRespMsg} (hs : P s) : P (State.pdelayRespIn s m) := by
  unfold State.pdelayRespIn
  extract_lets -merge -underBinder +onlyGivenNames x0 x1
  clear_value x1
  refine keeps_ite ?_ ?_
  · exact hs
  · refine keeps_ite ?_ ?_
    · exact keeps_ptpRefuse hP hs
    · refine keeps_ite ?_ ?_
      · exact hs
      · refine keeps_ite ?_ ?_
        · extract_lets -merge -underBinder +onlyGivenNames x2 x3
          have h4 : P x3 := keeps_setPtp hP hs
          try clear_value x3
          extract_lets -merge -underBinder +onlyGivenNames x5
          have h6 : P x5 := keeps_setReg hP h4
          try clear_value x5
          exact keeps_ite (keeps_setFld hP h6) h6
        · exact keeps_bump hP (keeps_setPtp hP hs)

theorem keeps_pdelayTimeout {s : State} {p : Nat} (hs : P s) : P (State.pdelayTimeout s p) := by
  unfold State.pdelayTimeout
  extract_lets -merge -underBinder +onlyGivenNames x0
  clear_value x0
  refine keeps_ite ?_ ?_
  · exact hs
  · extract_lets -merge -underBinder +onlyGivenNames x1
    have h2 : P x1 := keeps_bump hP (keeps_setPtp hP hs)
    try clear_value x1
    exact keeps_ite (keeps_setFld hP h2) h2

theorem keeps_ptpInterval {s : State} (hs : P s) : P (State.ptpInterval s) := by
  unfold State.ptpInterval
  extract_lets -merge -underBinder +onlyGivenNames x0
  have h1 : P x0 := by
    unfold x0
    refine keeps_fold ?_ ?_
    · intro y2 a2 hf2
      refine keeps_ite ?_ ?_
      · exact hf2
      · extract_lets -merge -underBinder +onlyGivenNames x3
        clear_value x3
        exact keeps_ptpEmit hP (keeps_setPtp hP hf2)
    · exact hs
  try clear_value x0
  extract_lets -merge -underBinder +onlyGivenNames x4 x5
  have h6 : P x5 := by
    unfold x5
    refine keeps_fold ?_ ?_
    · intro y7 a7 hf7
      refine keeps_ite ?_ ?_
      · exact hf7
      · extract_lets -merge -underBinder +onlyGivenNames x8
        clear_value x8
        extract_lets -merge -underBinder +onlyGivenNames x9
        refine keeps_fold ?_ ?_
        · intro y10 a10 hf10
          extract_lets -merge -underBinder +onlyGivenNames x11
          have h12 : P x11 := keeps_ptpEmit hP hf10
          try clear_value x11
          exact keeps_ptpEmit hP h12
        · exact hf7
    · exact h1
  try clear_value x5
  exact hP.upd h6

theorem keeps_setTs {s : State} {st : Nat} {valid : Bool} (hs : P s) : P (State.setTs s st valid) := by
  unfold State.setTs
  extract_lets -merge -underBinder +onlyGivenNames x0
  have h1 : P x0 := keeps_setFld hP (keeps_setFld hP hs)
  try clear_value x0
  extract_lets -merge -underBinder +onlyGivenNames x2
  have h3 : P x2 := keeps_setFld hP h1
  try clear_value x2
  exact keeps_ite (keeps_ev hP (hP.upd h3)) h3

theorem keeps_holdEnds {s : State} {st : Nat} (hs : P s) : P (State.holdEnds s st) := by
  unfold State.holdEnds
  extract_lets -merge -underBinder +onlyGivenNames x0
  exact keeps_ev hP (hP.upd hs)

theorem keeps_tsLock {s : State} {d : Nat} (hs : P s) : P (State.tsLock s d) := by
  unfold State.tsLock
  extract_lets -merge -underBinder +onlyGivenNames x0 x1 x2
  extract_lets -merge -underBinder +onlyGivenNames y4 x3
  clear_value y4
  have h5 : P x3 := hP.upd hs
  try clear_value x3
  extract_lets -merge -underBinder +onlyGivenNames x6
  have h7 : P x6 := keeps_ite (keeps_ev hP (keeps_bump hP h5)) h5
  try clear_value x6
  extract_lets -merge -underBinder +onlyGivenNames x8
  have h9 : P x8 := keeps_setTs hP (keeps_setFld hP h7)
  try clear_value x8
  exact keeps_ite (keeps_holdEnds hP h9) h9

theorem keeps_tsStep {s : State} {d : Nat} (hs : P s) : P (State.tsStep s d) := by
  unfold State.tsStep
  extract_lets -merge -underBinder +onlyGivenNames x0 x1 x2
  have h3 : P x2 := keeps_setTs hP hs
  try clear_value x2
  extract_lets -merge -underBinder +onlyGivenNames y5 x4
  clear_value y5
  have h6 : P x4 := hP.upd h3
  try clear_value x4
  exact keeps_ev hP (keeps_setFld hP h6)

theorem keeps_holdExit {s : State} (hs : P s) : P (State.holdExit s) := by
  unfold State.holdExit
  split
  · exact hs
  · refine keeps_ite ?_ ?_
    · extract_lets -merge -underBinder +onlyGivenNames x0
      have h1 : P x0 := keeps_setFld hP hs
      try clear_value x0
      exact hP.upd h1
    · exact keeps_tsStep hP hs

theorem keeps_tsSelect {s : State} (hs : P s) : P (State.tsSelect s) := by
  unfold State.tsSelect
  extract_lets -merge -underBinder +onlyGivenNames x0 x1 x2
  refine keeps_ite ?_ ?_
  · exact keeps_ite (keeps_holdEnds hP (keeps_setTs hP hs)) hs
  · refine keeps_ite ?_ ?_
    · exact keeps_tsLock hP hs
    · split
      · exact keeps_tsLock hP hs
      · refine keeps_ite ?_ ?_
        · extract_lets -merge -underBinder +onlyGivenNames y4 x3
          clear_value y4
          have h5 : P x3 := hP.upd hs
          try clear_value x3
          extract_lets -merge -underBinder +onlyGivenNames y7 x6
          clear_value y7
          have h8 : P x6 := keeps_ite h5 (keeps_ev hP (keeps_setTs hP (hP.upd h5)))
          try clear_value x6
          exact keeps_holdExit hP h8
        · refine keeps_ite ?_ ?_
          · refine keeps_ite ?_ ?_
            · exact hs
            · extract_lets -merge -underBinder +onlyGivenNames y10 x9
              clear_value y10
              have h11 : P x9 := hP.upd hs
              try clear_value x9
              refine keeps_ite ?_ ?_
              · extract_lets -merge -underBinder +onlyGivenNames x12
                exact keeps_setTs hP (hP.upd h11)
              · extract_lets -merge -underBinder +onlyGivenNames x13 x14
                have h15 : P x14 := keeps_setTs hP h11
                try clear_value x14
                exact keeps_ite (keeps_holdEnds hP h15) h15
          · split
            · exact keeps_ite hs (keeps_tsStep hP hs)
            · exact hP.upd hs

theorem keeps_tsSteer {s : State} (hs : P s) : P (State.tsSteer s) := by
  unfold State.tsSteer
  extract_lets -merge -underBinder +onlyGivenNames x0
  refine keeps_ite ?_ ?_
  · exact hs
  · extract_lets -merge -underBinder +onlyGivenNames x1
    exact keeps_ite hs (keeps_fold (fun _ _ hf2 => keeps_setBase hP hf2) hs)

theorem keeps_tsSlewing {s : State} (hs : P s) : P (State.tsSlewing s) := by
  unfold State.tsSlewing
  extract_lets -merge -underBinder +onlyGivenNames x0
  exact keeps_setFld hP hs

theorem keeps_abTrack {s : State} (hs : P s) : P (State.abTrack s) := by
  unfold State.abTrack
  exact hP.upd hs

theorem keeps_tsTick {s : State} (hs : P s) : P (State.tsTick s) := by
  unfold State.tsTick
  exact keeps_abTrack hP (keeps_tsSlewing hP (keeps_tsSelect hP (keeps_tsSteer hP hs)))

theorem keeps_holdLimit {s : State} (hs : P s) : P (State.holdLimit s) := by
  unfold State.holdLimit
  exact keeps_ite (keeps_ev hP (keeps_setTs hP (hP.upd hs))) hs

theorem keeps_abAlarm {s : State} (hs : P s) : P (State.abAlarm s) := by
  unfold State.abAlarm
  split
  · exact keeps_ite (keeps_ev hP hs) hs
  · exact hs

theorem keeps_domCfgApply {s : State} {d : Nat} {v : Nat} (hs : P s) : P (State.domCfgApply s d v) := by
  unfold State.domCfgApply
  extract_lets -merge -underBinder +onlyGivenNames x0
  have h1 : P x0 := keeps_baseFree hP hs
  try clear_value x0
  exact keeps_setReg hP (keeps_setBase hP h1)

theorem keeps_timeCfgApply {s : State} {v : Nat} (hs : P s) : P (State.timeCfgApply s v) := by
  unfold State.timeCfgApply
  exact keeps_holdLimit hP (keeps_setReg hP hs)

theorem keeps_timeSetApply {s : State} {v : Nat} (hs : P s) : P (State.timeSetApply s v) := by
  unfold State.timeSetApply
  extract_lets -merge -underBinder +onlyGivenNames x0
  have h1 : P x0 := keeps_setReg64 hP hs
  try clear_value x0
  exact hP.upd h1

theorem keeps_sendReply {s : State} {account : Nat} {peer : Nat} {handle : Nat} {status : Nat} {payload : List W64} (hs : P
    s) : P (State.sendReply s account peer handle status payload) := by
  unfold State.sendReply
  extract_lets -merge -underBinder +onlyGivenNames x0
  clear_value x0
  extract_lets -merge -underBinder +onlyGivenNames x1
  have h2 : P x1 := keeps_netSend hP hs
  try clear_value x1
  exact hP.upd h2

theorem keeps_tooBig {s : State} {a : Nat} {t : Nat} {need : Nat} (hs : P s) : P (State.tooBig s a t need) := by
  unfold State.tooBig
  exact keeps_ev hP (keeps_ite (keeps_bump hP hs) hs)

theorem keeps_reqIssue {s : State} {a : Nat} {item : List W64} (hs : P s) : P (State.reqIssue s a item) := by
  unfold State.reqIssue
  extract_lets -merge -underBinder +onlyGivenNames x0
  clear_value x0
  extract_lets -merge -underBinder +onlyGivenNames x1 x2
  refine keeps_ite ?_ ?_
  · exact keeps_ite (keeps_tooBig hP hs) hs
  · refine keeps_ite ?_ ?_
    · exact keeps_bump hP hs
    · refine keeps_ite ?_ ?_
      · exact hs
      · refine keeps_ite ?_ ?_
        · exact keeps_sendReply hP hs
        · refine keeps_ite ?_ ?_
          · exact keeps_setQueue hP (keeps_bump hP hs)
          · extract_lets -merge -underBinder +onlyGivenNames x3
            have h4 : P x3 := keeps_tillReserve hP hs
            try clear_value x3
            exact keeps_setQueue hP h4

theorem keeps_admitWaiting {s : State} {a : Nat} (hs : P s) : P (State.admitWaiting s a) := by
  unfold State.admitWaiting
  extract_lets -merge -underBinder +onlyGivenNames x0
  have h1 : ∀ {v2 v3}, P v2.1 → P (x0 v2 v3).1 := by
    intro v2 v3 h4
    unfold x0
    split
    · rename_i m5 m6 m7
      have h9 : P m5 := h4
      split
      · exact h9
      · extract_lets -merge -underBinder +onlyGivenNames x10 x11
        exact keeps_ifQ (Q := fun p => P (Prod.fst p)) h9 (keeps_tillReserve hP h9)
  try clear_value x0
  split
  · rename_i m12 m13 m14 e15
    have h16 : P m12 := keeps_of_eq (congrArg (fun p => Prod.fst (p)) e15) (keeps_foldl (Q := fun p => P (Prod.fst p)) (fun _
        _ hf17 => h1 hf17) hs)
    exact keeps_setQueue hP h16

theorem keeps_complete {s : State} {a : Nat} {item : List W64} {peer : Nat} {account : Nat} {status : Nat} {payload : List
    W64} (hs : P s) : P (State.complete s a item peer account status payload) := by
  unfold State.complete
  extract_lets -merge -underBinder +onlyGivenNames x0
  clear_value x0
  extract_lets -merge -underBinder +onlyGivenNames x1
  clear_value x1
  extract_lets -merge -underBinder +onlyGivenNames x2
  have h3 : P x2 := keeps_tillComplete hP hs
  try clear_value x2
  split
  · exact keeps_bump hP h3
  · exact keeps_bump hP h3
  · exact keeps_bump hP h3
  · exact keeps_bump hP h3
  · exact keeps_bump hP h3
  · exact keeps_bump hP h3

theorem keeps_putExec {s : State} {e : Exec} (hs : P s) : P (State.putExec s e) := by
  unfold State.putExec
  exact keeps_setFld hP (keeps_setExec hP hs)

theorem keeps_redispatch {s : State} {l : Nat} (hs : P s) : P (State.redispatch s l) := by
  unfold State.redispatch
  extract_lets -merge -underBinder +onlyGivenNames x0 x1 x2
  clear_value x2
  split
  · exact keeps_putExec hP hs
  · exact keeps_ite (keeps_putExec hP (keeps_putExec hP hs)) hs
  · exact hs

theorem keeps_handOver {s : State} {d : Delta} (hs : P s) : P (State.handOver s d) := by
  unfold State.handOver
  exact keeps_ite (keeps_setFld hP (hP.upd hs)) (hP.upd hs)

theorem keeps_releaseHeld {s : State} {a : Nat} {ps : List ComparePoint} (hs : P s) : P (State.releaseHeld s a ps) := by
  unfold State.releaseHeld
  refine keeps_fold ?_ ?_
  · intro y0 a0 hf0
    split
    · exact keeps_getD (keepsO_tillWrite hP hf0) hf0
    · exact keeps_reqIssue hP hf0
    · exact hf0
  · exact hs

theorem keeps_journalData {s : State} {k : Nat} (hs : P s) : P (State.journalData s k) := by
  unfold State.journalData
  extract_lets -merge -underBinder +onlyGivenNames x0
  refine keeps_fold ?_ ?_
  · intro y1 a1 hf1
    extract_lets -merge -underBinder +onlyGivenNames x2
    clear_value x2
    exact keeps_journal hP hf1
  · exact hP.upd hs

theorem keeps_finishExec {s : State} {k : Nat} {ns : Nat} (hs : P s) : P (State.finishExec s k ns) := by
  unfold State.finishExec
  split
  · exact hs
  · extract_lets -merge -underBinder +onlyGivenNames x0
    clear_value x0
    extract_lets -merge -underBinder +onlyGivenNames x1 x2
    have h3 : P x2 := keeps_peak hP (keeps_setReg hP hs)
    try clear_value x2
    extract_lets -merge -underBinder +onlyGivenNames x4
    have h5 : P x4 := keeps_setFld hP h3
    try clear_value x4
    extract_lets -merge -underBinder +onlyGivenNames x6
    have h7 : P x6 := keeps_peak hP (keeps_setReg hP h5)
    try clear_value x6
    extract_lets -merge -underBinder +onlyGivenNames x8
    have h9 : P x8 := keeps_ite h7 (keeps_setFld hP h7)
    try clear_value x8
    extract_lets -merge -underBinder +onlyGivenNames y11 x10
    clear_value y11
    have h12 : P x10 := keeps_ite (hP.upd h9) h9
    try clear_value x10
    extract_lets -merge -underBinder +onlyGivenNames x13
    have h14 : P x13 := keeps_journalData hP (keeps_setFld hP (keeps_setExec hP h12))
    try clear_value x13
    extract_lets -merge -underBinder +onlyGivenNames x15
    have h16 : P x15 := keeps_releaseHeld hP h14
    try clear_value x15
    extract_lets -merge -underBinder +onlyGivenNames x17
    have h18 : P x17 := keeps_handOver hP h16
    try clear_value x17
    extract_lets -merge -underBinder +onlyGivenNames y20 x19
    clear_value y20
    have h21 : P x19 := keeps_ite (hP.upd h18) h18
    try clear_value x19
    exact keeps_redispatch hP (keeps_dataReady hP h21)

theorem keeps_cmpTest {s : State} {reports : Bool} (hs : P s) : P (State.cmpTest s reports) := by
  unfold State.cmpTest
  exact keeps_ite hs (keeps_enterFault hP (keeps_ev hP (keeps_bump hP hs)))

theorem keeps_cmpAfterEnd {s : State} {reports : Bool} (hs : P s) : P (State.cmpAfterEnd s reports) := by
  unfold State.cmpAfterEnd
  exact keeps_ite (keeps_cmpTest hP (hP.upd hs)) hs

theorem keeps_mismatch {s : State} {k : Nat} {kind : Nat} (hs : P s) : P (State.mismatch s k kind) := by
  unfold State.mismatch
  split
  · exact hs
  · extract_lets -merge -underBinder +onlyGivenNames x0 x1
    have h2 : P x1 := keeps_ev hP hs
    try clear_value x1
    extract_lets -merge -underBinder +onlyGivenNames y4 x3
    clear_value y4
    have h5 : P x3 := hP.upd h2
    try clear_value x3
    exact keeps_enterFault hP (keeps_bump hP h5)

theorem keeps_present {s : State} {k : Nat} {i : Nat} {p : ComparePoint} (hs : P s) : P (State.present s k i p) := by
  unfold State.present
  split
  · exact hs
  · extract_lets -merge -underBinder +onlyGivenNames x0
    clear_value x0
    split
    · exact keeps_ite (keeps_setExec hP hs) (keeps_mismatch hP hs)
    · extract_lets -merge -underBinder +onlyGivenNames x1
      clear_value x1
      exact keeps_setExec hP hs

theorem keeps_settle {s : State} {k : Nat} {ns : Nat} (hs : P s) : P (State.settle s k ns) := by
  unfold State.settle
  split
  · exact hs
  · split
    · refine keeps_ite ?_ ?_
      · extract_lets -merge -underBinder +onlyGivenNames x0 x1
        have h2 : P x1 := keeps_abandon hP hs
        try clear_value x1
        extract_lets -merge -underBinder +onlyGivenNames x3
        have h4 : P x3 := keeps_ev hP h2
        try clear_value x3
        exact keeps_redispatch hP (keeps_enterFault hP h4)
      · exact hs
    · exact keeps_ite (keeps_finishExec hP hs) hs

theorem keeps_trapReport {s : State} {k : Nat} {copy : Nat} {code : Nat} {pc : Nat} {handled : Bool} (hs : P s) : P
    (State.trapReport s k copy code pc handled) := by
  unfold State.trapReport
  refine keeps_ite ?_ ?_
  · exact hs
  · extract_lets -merge -underBinder +onlyGivenNames x0
    have h1 : P x0 := keeps_setFld hP (keeps_setFld hP (keeps_bump hP hs))
    try clear_value x0
    exact keeps_ite (keeps_ev hP h1) h1

theorem keeps_wheelStore {s : State} {c : Ctx} {a : Nat} {v : W64} (hs : P s) (hc : P c.s) : P (State.wheelStore s c a v) :=
    by
  unfold State.wheelStore
  extract_lets -merge -underBinder +onlyGivenNames x0 x1
  clear_value x1
  exact hP.upd hs

theorem keeps_wheelBusy {s : State} {l : Nat} {n : Nat} (hs : P s) : P (State.wheelBusy s l n) := by
  unfold State.wheelBusy
  extract_lets -merge -underBinder +onlyGivenNames x0 x1
  clear_value x1
  exact hP.upd hs

theorem keeps_WOut_commit {o : WOut} {c : Ctx} {ns : Nat} (ho : P o.s) (hc : P c.s) : P (WOut.commit o c ns) := by
  unfold WOut.commit
  extract_lets -merge -underBinder +onlyGivenNames x0 x1 x2 x3
  extract_lets -merge -underBinder +onlyGivenNames y5 x4
  clear_value y5
  clear_value x4
  extract_lets -merge -underBinder +onlyGivenNames x6 x7
  clear_value x7
  extract_lets -merge -underBinder +onlyGivenNames x8
  split
  · exact ho
  · extract_lets -merge -underBinder +onlyGivenNames x9
    have h10 : P x9 := keeps_fold (fun _ _ hf11 => keeps_wheelStore hP hf11 hc) ho
    try clear_value x9
    extract_lets -merge -underBinder +onlyGivenNames x12
    have h13 : P x12 := keeps_wheelBusy hP h10
    try clear_value x12
    extract_lets -merge -underBinder +onlyGivenNames x14
    have h15 : P x14 := keeps_setExec hP h13
    try clear_value x14
    extract_lets -merge -underBinder +onlyGivenNames x16
    have h17 : P x16 := keeps_ite (keeps_trapReport hP h15) h15
    try clear_value x16
    extract_lets -merge -underBinder +onlyGivenNames x18
    have h19 : P x18 := keeps_ite (keeps_fold (fun _ _ hf20 => keeps_present hP hf20) h17) h17
    try clear_value x18
    exact keeps_settle hP h19

theorem keeps_runInstr {s : State} {l : Nat} {op : Nat} {ns : Nat} {body : Ctx → WOut} (hs : P s) (hbody : ∀ {w0}, P w0.s → P
    (body w0).s) : P (State.runInstr s l op ns body) := by
  unfold State.runInstr
  split
  · exact hs
  · extract_lets -merge -underBinder +onlyGivenNames x0
    clear_value x0
    refine keeps_ite ?_ ?_
    · exact hs
    · extract_lets -merge -underBinder +onlyGivenNames x1
      clear_value x1
      extract_lets -merge -underBinder +onlyGivenNames x2
      have h3 : P x2.s := hs
      try clear_value x2
      exact keeps_ite (keeps_WOut_commit hP (keeps_Ctx_trap hP h3) h3) (keeps_ite hs (keeps_ite (keeps_WOut_commit hP
          (keeps_Ctx_trap hP h3) h3) (keeps_WOut_commit hP (hbody h3) h3)))

theorem keeps_runIllegal {s : State} {l : Nat} (hs : P s) : P (State.runIllegal s l) := by
  unfold State.runIllegal
  split
  · exact hs
  · extract_lets -merge -underBinder +onlyGivenNames x0
    clear_value x0
    refine keeps_ite ?_ ?_
    · exact hs
    · extract_lets -merge -underBinder +onlyGivenNames x1
      clear_value x1
      extract_lets -merge -underBinder +onlyGivenNames x2
      have h3 : P x2.s := hs
      try clear_value x2
      exact keeps_ite (keeps_WOut_commit hP (keeps_Ctx_trap hP h3) h3) (keeps_ite hs (keeps_WOut_commit hP (keeps_Ctx_trap hP
          h3) h3))

theorem keeps_compareTimeout {s : State} {copy : Nat} (hs : P s) : P (State.compareTimeout s copy) := by
  unfold State.compareTimeout
  split
  · split
    · exact keeps_mismatch hP hs
    · exact hs
  · exact hs

theorem keeps_release {s : State} {k : Nat} (hs : P s) : P (State.release s k) := by
  unfold State.release
  extract_lets -merge -underBinder +onlyGivenNames x0
  clear_value x0
  extract_lets -merge -underBinder +onlyGivenNames x1
  extract_lets -merge -underBinder +onlyGivenNames y3 x2
  clear_value y3
  clear_value x2
  extract_lets -merge -underBinder +onlyGivenNames x4 x5
  clear_value x5
  extract_lets -merge -underBinder +onlyGivenNames x6
  have h7 : P x6 := keeps_setTask hP (keeps_putExec hP hs)
  try clear_value x6
  extract_lets -merge -underBinder +onlyGivenNames y9 x8
  clear_value y9
  have h10 : P x8 := hP.upd h7
  try clear_value x8
  exact keeps_bump64 hP h10

theorem keeps_gridPoint {s : State} {k : Nat} (hs : P s) : P (State.gridPoint s k) := by
  unfold State.gridPoint
  refine keeps_ite ?_ ?_
  · exact hs
  · extract_lets -merge -underBinder +onlyGivenNames y1 x0
    clear_value y1
    have h2 : P x0 := keeps_setTask hP hs
    try clear_value x0
    exact keeps_ite (keeps_bump hP h2) (keeps_release hP h2)

theorem keeps_snapshotDone {s : State} {k : Nat} {ns : Nat} (hs : P s) : P (State.snapshotDone s k ns) := by
  unfold State.snapshotDone
  split
  · refine keeps_ite ?_ ?_
    · extract_lets -merge -underBinder +onlyGivenNames y1 x0
      clear_value y1
      have h2 : P x0 := keeps_peak hP (hP.upd hs)
      try clear_value x0
      exact keeps_redispatch hP (keeps_putExec hP h2)
    · exact hs
  · exact hs

theorem keeps_merge {s : State} {d : Delta} (hs : P s) : P (State.merge s d) := by
  unfold State.merge
  extract_lets -merge -underBinder +onlyGivenNames x0 x1
  exact hP.upd hs

theorem keeps_endWaitNext {s : State} {l : Nat} {at_ : Nat} (hs : P s) : P (State.endWaitNext s l at_) := by
  unfold State.endWaitNext
  split
  · exact hs
  · extract_lets -merge -underBinder +onlyGivenNames y1 x0
    clear_value y1
    have h2 : P x0 := hP.upd hs
    try clear_value x0
    extract_lets -merge -underBinder +onlyGivenNames x3
    have h4 : P x3 := keeps_peak hP h2
    try clear_value x3
    exact keeps_ite (keeps_setFld hP h4) h4

theorem keeps_mergeDone {s : State} {ns : Nat} (hs : P s) : P (State.mergeDone s ns) := by
  unfold State.mergeDone
  split
  · exact hs
  · extract_lets -merge -underBinder +onlyGivenNames y1 x0
    clear_value y1
    have h2 : P x0 := keeps_peak hP (hP.upd hs)
    try clear_value x0
    exact keeps_redispatch hP (keeps_endWaitNext hP (keeps_merge hP h2))

theorem keeps_applyMerged {s : State} (hs : P s) : P (State.applyMerged s) := by
  unfold State.applyMerged
  extract_lets -merge -underBinder +onlyGivenNames x0
  exact keeps_fold (fun _ _ hf1 => keeps_fold (fun _ _ hf2 => keeps_change hP hf2) hf1) (hP.upd hs)

theorem keeps_overrunAction {s : State} {k : Nat} {act : Nat} (hs : P s) : P (State.overrunAction s k act) := by
  unfold State.overrunAction
  extract_lets -merge -underBinder +onlyGivenNames x0 x1 x2
  have h3 : P x2 := keeps_ev hP hs
  try clear_value x2
  extract_lets -merge -underBinder +onlyGivenNames x4
  have h5 : ∀ {v6}, P v6 → P (x4 v6) := by
    intro v6 h7
    unfold x4
    extract_lets -merge -underBinder +onlyGivenNames x8
    have h9 : P x8 := keeps_setFld hP (keeps_abandon hP h7)
    try clear_value x8
    exact keeps_redispatch hP (keeps_dataReady hP (keeps_setTask hP h9))
  try clear_value x4
  split
  · exact h5 h3
  · extract_lets -merge -underBinder +onlyGivenNames x10 x11
    have h12 : P x11 := h5 h3
    try clear_value x11
    exact keeps_fireRemove hP (hP.upd h12)
  · exact keeps_enterFault hP h3
  · exact h3

theorem keeps_overrunCheck {s : State} {k : Nat} (hs : P s) : P (State.overrunCheck s k) := by
  unfold State.overrunCheck
  split
  · exact hs
  · refine keeps_ite ?_ ?_
    · exact hs
    · extract_lets -merge -underBinder +onlyGivenNames x0 x1
      have h2 : P x1 := keeps_bump hP (keeps_bump hP hs)
      try clear_value x1
      extract_lets -merge -underBinder +onlyGivenNames y4 x3
      clear_value y4
      have h5 : P x3 := keeps_setTask hP h2
      try clear_value x3
      extract_lets -merge -underBinder +onlyGivenNames x6
      have h7 : P x6 := keeps_ite (keeps_ev hP h5) h5
      try clear_value x6
      exact keeps_ite (keeps_overrunAction hP h7) h7

theorem keeps_enableTasks {s : State} {a : Nat} (hs : P s) : P (State.enableTasks s a) := by
  unfold State.enableTasks
  exact keeps_fold (fun _ _ hf0 => keeps_setFld hP (keeps_setTask hP hf0)) hs

end Sys2Proof.Machine
end

