-- ==== Sys2Proof/Laws/KeepsField.lean ====
section
/-! SUPPORT. Every operation keeps a Closed property (see KeepsBase): channels, HART, slice links, CAN, panel and self-test. -/

namespace Sys2Proof.Machine

variable {P : State → Prop} (hP : Closed P)
include hP

theorem keeps_setLink {s : State} {sl : Nat} {x : Link} (hs : P s) : P (State.setLink s sl x) := by
  unfold State.setLink
  exact hP.upd hs

theorem keeps_setAch {s : State} {g : Nat} {x : ACh} (hs : P s) : P (State.setAch s g x) := by
  unfold State.setAch
  exact hP.upd hs

theorem keeps_setDch {s : State} {g : Nat} {x : DCh} (hs : P s) : P (State.setDch s g x) := by
  unfold State.setDch
  exact hP.upd hs

theorem keeps_setHart {s : State} {g : Nat} {x : HartCh} (hs : P s) : P (State.setHart s g x) := by
  unfold State.setHart
  exact hP.upd hs

theorem keeps_pageDraw {s : State} (hs : P s) : P (State.pageDraw s) := by
  unfold State.pageDraw
  exact hP.upd hs

theorem keeps_panelUpdate {s : State} (hs : P s) : P (State.panelUpdate s) := by
  unfold State.panelUpdate
  extract_lets -merge -underBinder +onlyGivenNames x0 x1 x2
  have h3 : P x2 := keeps_setFld hP hs
  try clear_value x2
  exact keeps_ite (keeps_pageDraw hP h3) h3

theorem keeps_panelCycle {s : State} (hs : P s) : P (State.panelCycle s) := by
  unfold State.panelCycle
  exact keeps_ite (keeps_pageDraw hP hs) hs

theorem keeps_setFrameWord {s : State} {n : Nat} {v : W32} (hs : P s) : P (State.setFrameWord s n v) := by
  unfold State.setFrameWord
  exact hP.upd hs

theorem keeps_panelScan {s : State} (hs : P s) : P (State.panelScan s) := by
  unfold State.panelScan
  refine keeps_ite ?_ ?_
  · exact hs
  · extract_lets -merge -underBinder +onlyGivenNames x0
    have h1 : P x0 := keeps_setReg hP hs
    try clear_value x0
    extract_lets -merge -underBinder +onlyGivenNames y3 y4 x2
    clear_value y4
    have h5 : P x2 := by
      unfold x2
      have h6 : P y3 := keeps_setFld hP h1
      try clear_value y3
      exact hP.upd h6
    try clear_value x2
    exact keeps_panelUpdate hP h5

theorem keeps_panelSequence {s : State} (hs : P s) : P (State.panelSequence s) := by
  unfold State.panelSequence
  extract_lets -merge -underBinder +onlyGivenNames y1 x0
  clear_value y1
  have h2 : P x0 := hP.upd hs
  try clear_value x0
  exact keeps_pageDraw hP (keeps_setFld hP (keeps_setFld hP h2))

theorem keeps_panelUp {s : State} (hs : P s) : P (State.panelUp s) := by
  unfold State.panelUp
  exact keeps_ite (keeps_panelSequence hP hs) hs

theorem keeps_panelTimeout {s : State} (hs : P s) : P (State.panelTimeout s) := by
  unfold State.panelTimeout
  exact keeps_ite (hP.upd hs) hs

theorem keeps_panelRetry {s : State} (hs : P s) : P (State.panelRetry s) := by
  unfold State.panelRetry
  exact keeps_ite (keeps_panelSequence hP hs) hs

theorem keeps_panelDown {s : State} (hs : P s) : P (State.panelDown s) := by
  unfold State.panelDown
  refine keeps_ite ?_ ?_
  · exact hs
  · extract_lets -merge -underBinder +onlyGivenNames x0
    have h1 : P x0 := keeps_setFld hP (keeps_setFld hP hs)
    try clear_value x0
    exact hP.upd h1

theorem keeps_setPwheel {s : State} {w : Nat} {x : PhysWheel} (hs : P s) : P (State.setPwheel s w x) := by
  unfold State.setPwheel
  exact hP.upd hs

theorem keeps_setRot {s : State} {st : Nat} (hs : P s) : P (State.setRot s st) := by
  unfold State.setRot
  exact keeps_setFld hP hs

theorem keeps_degUpdate {s : State} (hs : P s) : P (State.degUpdate s) := by
  unfold State.degUpdate
  extract_lets -merge -underBinder +onlyGivenNames x0 x1 x2
  have h3 : P x2 := keeps_setFld hP (keeps_setFld hP hs)
  try clear_value x2
  exact keeps_ite (keeps_ev hP h3) h3

theorem keeps_stShow {s : State} (hs : P s) : P (State.stShow s) := by
  unfold State.stShow
  extract_lets -merge -underBinder +onlyGivenNames x0
  have h1 : P x0 := keeps_setFld hP (keeps_setFld hP hs)
  try clear_value x0
  extract_lets -merge -underBinder +onlyGivenNames x2
  have h3 : P x2 := keeps_setFld hP h1
  try clear_value x2
  extract_lets -merge -underBinder +onlyGivenNames x4
  have h5 : P x4 := keeps_setFld hP h3
  try clear_value x4
  extract_lets -merge -underBinder +onlyGivenNames x6
  exact keeps_setFld hP (keeps_setFld hP h5)

theorem keeps_rotCheck {s : State} (hs : P s) : P (State.rotCheck s) := by
  unfold State.rotCheck
  extract_lets -merge -underBinder +onlyGivenNames x0
  have h1 : P x0 := keeps_ite hs (keeps_ite (keeps_ite hs (keeps_ev hP (keeps_setRot hP hs))) (keeps_setRot hP hs))
  try clear_value x0
  exact keeps_degUpdate hP (keeps_stShow hP h1)

theorem keeps_setWheel {s : State} {w : Nat} {st : Nat} {l : Nat} (hs : P s) : P (State.setWheel s w st l) := by
  unfold State.setWheel
  exact keeps_setFld hP (keeps_setFld hP hs)

theorem keeps_carry {s : State} {l : Nat} {w : Nat} (hs : P s) : P (State.carry s l w) := by
  unfold State.carry
  exact keeps_setFld hP (keeps_setWheel hP hs)

theorem keeps_buildMap {s : State} (hs : P s) : P (State.buildMap s) := by
  unfold State.buildMap
  extract_lets -merge -underBinder +onlyGivenNames x0 x1 x2 x3
  have h4 : P x3 := keeps_fold (fun _ _ hf5 => keeps_carry hP hf5) hs
  try clear_value x3
  exact keeps_fold (fun _ _ hf6 => keeps_enterFault hP hf6) h4

theorem keeps_testBegin {s : State} {w : Nat} (hs : P s) : P (State.testBegin s w) := by
  unfold State.testBegin
  exact keeps_setWheel hP (keeps_setPwheel hP hs)

theorem keeps_rotEnd {s : State} (hs : P s) : P (State.rotEnd s) := by
  unfold State.rotEnd
  extract_lets -merge -underBinder +onlyGivenNames y1 x0
  clear_value y1
  have h2 : P x0 := hP.upd hs
  try clear_value x0
  exact keeps_rotCheck hP (keeps_ite h2 (keeps_setRot hP h2))

theorem keeps_testEnd {s : State} {w : Nat} (hs : P s) : P (State.testEnd s w) := by
  unfold State.testEnd
  extract_lets -merge -underBinder +onlyGivenNames y1 x0
  clear_value y1
  have h2 : P x0 := keeps_setPwheel hP hs
  try clear_value x0
  exact keeps_ite (keeps_rotEnd hP h2) (keeps_rotCheck hP h2)

theorem keeps_startTest {s : State} (hs : P s) : P (State.startTest s) := by
  unfold State.startTest
  exact keeps_fold (fun _ _ hf0 => keeps_ite (keeps_setWheel hP hf0) (keeps_testBegin hP (keeps_setDom hP hf0))) hs

theorem keeps_testDone {s : State} {w : Nat} {cp : Option Nat} {misr : W64} (hs : P s) : P (State.testDone s w cp misr) := by
  unfold State.testDone
  refine keeps_ite ?_ ?_
  · exact hs
  · split
    · extract_lets -merge -underBinder +onlyGivenNames x0
      have h1 : P x0 := keeps_setFld hP (keeps_setFld hP hs)
      try clear_value x0
      extract_lets -merge -underBinder +onlyGivenNames y3 x2
      clear_value y3
      have h4 : P x2 := keeps_setPwheel hP h1
      try clear_value x2
      extract_lets -merge -underBinder +onlyGivenNames x5
      have h6 : P x5 := keeps_ite h4 (keeps_bump hP h4)
      try clear_value x5
      exact keeps_testEnd hP h6
    · extract_lets -merge -underBinder +onlyGivenNames x7
      have h8 : P x7 := keeps_setReg64 hP (keeps_setFld hP hs)
      try clear_value x7
      exact keeps_setPwheel hP h8

theorem keeps_spareTook {s : State} {w : Nat} (hs : P s) : P (State.spareTook s w) := by
  unfold State.spareTook
  split
  · exact keeps_ite (keeps_ev hP hs) hs
  · exact hs

theorem keeps_retestDone {s : State} {w : Nat} {agreed : Bool} (hs : P s) : P (State.retestDone s w agreed) := by
  unfold State.retestDone
  split
  · extract_lets -merge -underBinder +onlyGivenNames x0 x1 x2
    have h3 : P x2 := keeps_setDom hP (keeps_setFld hP (keeps_setFld hP hs))
    try clear_value x2
    extract_lets -merge -underBinder +onlyGivenNames x4
    have h5 : P x4 := keeps_bump hP h3
    try clear_value x4
    extract_lets -merge -underBinder +onlyGivenNames x6
    have h7 : P x6 := keeps_ite h5 (keeps_bump hP h5)
    try clear_value x6
    extract_lets -merge -underBinder +onlyGivenNames x8
    have h9 : P x8 := keeps_ev hP h7
    try clear_value x8
    extract_lets -merge -underBinder +onlyGivenNames x10
    have h11 : P x10 := keeps_spareTook hP h9
    try clear_value x10
    exact keeps_ite (keeps_testEnd hP h11) (keeps_setPwheel hP h11)
  · exact hs

theorem keeps_fuseDone {s : State} {w : Nat} (hs : P s) : P (State.fuseDone s w) := by
  unfold State.fuseDone
  split
  · exact keeps_testEnd hP (keeps_setFld hP hs)
  · exact keeps_testEnd hP (keeps_ev hP (keeps_setFld hP (keeps_setFld hP hs)))
  · exact hs

theorem keeps_roundStep {s : State} {w : Nat} (hs : P s) : P (State.roundStep s w) := by
  unfold State.roundStep
  split
  · exact hP.upd hs
  · extract_lets -merge -underBinder +onlyGivenNames x0
    refine keeps_ite ?_ ?_
    · extract_lets -merge -underBinder +onlyGivenNames x1
      have h2 : P x1 := keeps_setReg hP hs
      try clear_value x1
      exact hP.upd h2
    · exact hs

theorem keeps_rotStep {s : State} (hs : P s) : P (State.rotStep s) := by
  unfold State.rotStep
  refine keeps_ite ?_ ?_
  · exact hs
  · extract_lets -merge -underBinder +onlyGivenNames y1 x0
    clear_value y1
    have h2 : P x0 := hP.upd hs
    try clear_value x0
    split
    · exact keeps_rotCheck hP h2
    · extract_lets -merge -underBinder +onlyGivenNames x3
      have h4 : P x3 := keeps_ite h2 (keeps_roundStep hP h2)
      try clear_value x3
      extract_lets -merge -underBinder +onlyGivenNames y6 x5
      clear_value y6
      have h7 : P x5 := hP.upd h4
      try clear_value x5
      extract_lets -merge -underBinder +onlyGivenNames x8
      have h9 : P x8 := by
        unfold x8
        refine keeps_ite ?_ ?_
        · split
          · exact keeps_setRot hP (keeps_setFld hP (hP.upd h7))
          · exact h7
        · exact keeps_ite (keeps_testBegin hP h7) (keeps_setRot hP (keeps_testBegin hP h7))
      try clear_value x8
      exact keeps_degUpdate hP (keeps_stShow hP h9)

theorem keeps_sparePrepared {s : State} (hs : P s) : P (State.sparePrepared s) := by
  unfold State.sparePrepared
  exact keeps_ite (keeps_setRot hP hs) hs

theorem keeps_wheelSwitch {s : State} (hs : P s) : P (State.wheelSwitch s) := by
  unfold State.wheelSwitch
  split
  · extract_lets -merge -underBinder +onlyGivenNames x0
    exact keeps_ite (keeps_stShow hP (keeps_setRot hP (keeps_testBegin hP (keeps_carry hP hs)))) hs
  · exact hs

theorem keeps_stepSkipped {s : State} {w : Nat} (hs : P s) : P (State.stepSkipped s w) := by
  unfold State.stepSkipped
  extract_lets -merge -underBinder +onlyGivenNames x0
  have h1 : P x0 := keeps_bump hP (keeps_bump hP hs)
  try clear_value x0
  exact keeps_rotEnd hP (hP.upd h1)

theorem keeps_rotSkip {s : State} (hs : P s) : P (State.rotSkip s) := by
  unfold State.rotSkip
  split
  · exact keeps_ite (keeps_stepSkipped hP (keeps_setFld hP hs)) hs
  · exact hs

theorem keeps_lwheelLost {s : State} {l : Nat} (hs : P s) : P (State.lwheelLost s l) := by
  unfold State.lwheelLost
  refine keeps_fold ?_ ?_
  · intro y0 a0 hf0
    extract_lets -merge -underBinder +onlyGivenNames x1 x2 x3
    have h4 : P x3 := keeps_abandon hP hf0
    try clear_value x3
    extract_lets -merge -underBinder +onlyGivenNames y6 x5
    clear_value y6
    have h7 : P x5 := hP.upd h4
    try clear_value x5
    exact keeps_dataReady hP h7
  · exact hs

theorem keeps_loadOn {s : State} {l : Nat} {p : Nat} (hs : P s) : P (State.loadOn s l p) := by
  unfold State.loadOn
  extract_lets -merge -underBinder +onlyGivenNames x0
  have h1 : P x0 := keeps_setFld hP (keeps_setWheel hP hs)
  try clear_value x0
  exact hP.upd h1

theorem keeps_moveWork {s : State} {w : Nat} {l : Nat} (hs : P s) : P (State.moveWork s w l) := by
  unfold State.moveWork
  extract_lets -merge -underBinder +onlyGivenNames x0
  have h1 : P x0 := keeps_lwheelLost hP hs
  try clear_value x0
  split
  · extract_lets -merge -underBinder +onlyGivenNames x2
    have h3 : P x2 := keeps_ev hP (keeps_setFld hP h1)
    try clear_value x2
    split
    · exact keeps_enterFault hP h3
    · exact h3
  · extract_lets -merge -underBinder +onlyGivenNames x4 x5
    have h6 : P x5 := keeps_ev hP (keeps_loadOn hP h1)
    try clear_value x5
    exact keeps_ite (keeps_stepSkipped hP h6) (keeps_ite (keeps_testEnd hP (keeps_setFld hP h6)) h6)

theorem keeps_wheelLost {s : State} {w : Nat} (hs : P s) : P (State.wheelLost s w) := by
  unfold State.wheelLost
  extract_lets -merge -underBinder +onlyGivenNames x0 x1 x2
  have h3 : ∀ {v4}, P v4 → P (x2 v4) := by
    intro v4 h5
    unfold x2
    exact keeps_setDom hP (keeps_setWheel hP h5)
  try clear_value x2
  exact keeps_ite (keeps_testEnd hP (keeps_setFld hP (h3 hs))) (keeps_ite (keeps_rotCheck hP (h3 hs)) (keeps_ite
      (keeps_rotEnd hP (h3 hs)) (keeps_ite (keeps_rotCheck hP (keeps_moveWork hP (h3 (hP.upd hs)))) (keeps_ite
      (keeps_rotCheck hP (keeps_moveWork hP (h3 hs))) hs))))

theorem keeps_spareLoaded {s : State} {l : Nat} (hs : P s) : P (State.spareLoaded s l) := by
  unfold State.spareLoaded
  split
  · refine keeps_rotCheck hP ?_
    extract_lets -merge -underBinder +onlyGivenNames x0
    have h1 : P x0 := keeps_carry hP hs
    try clear_value x0
    exact hP.upd h1
  · exact hs

theorem keeps_wheelDouble {s : State} {w : Nat} {data : Bool} {addr : Nat} {used : Bool} (hs : P s) : P (State.wheelDouble s
    w data addr used) := by
  unfold State.wheelDouble
  extract_lets -merge -underBinder +onlyGivenNames x0
  have h1 : P x0 := keeps_bump hP hs
  try clear_value x0
  extract_lets -merge -underBinder +onlyGivenNames x2
  have h3 : P x2 := keeps_ev hP h1
  try clear_value x2
  extract_lets -merge -underBinder +onlyGivenNames x4
  extract_lets -merge -underBinder +onlyGivenNames y6 x5
  clear_value y6
  have h7 : P x5 := keeps_setPwheel hP h3
  try clear_value x5
  extract_lets -merge -underBinder +onlyGivenNames x8 x9
  have h10 : P x9 := by
    unfold x9
    refine keeps_ite ?_ ?_
    · split
      · exact keeps_enterFault hP h7
      · exact h7
    · exact h7
  try clear_value x9
  exact keeps_ite (keeps_wheelLost hP h10) h10

theorem keeps_scrubWheel {s : State} {e : WheelError} (hs : P s) : P (State.scrubWheel s e) := by
  unfold State.scrubWheel
  extract_lets -merge -underBinder +onlyGivenNames x0
  exact keeps_ite hs (keeps_ite (keeps_wheelDouble hP hs) (keeps_bump hP hs))

theorem keeps_scrubLedger {s : State} {e : LedgerError} (hs : P s) : P (State.scrubLedger s e) := by
  unfold State.scrubLedger
  split
  · exact keeps_bump hP hs
  · exact keeps_bump hP hs
  · extract_lets -merge -underBinder +onlyGivenNames x0
    have h1 : P x0 := keeps_ev hP (keeps_bump hP hs)
    try clear_value x0
    exact keeps_ite (keeps_enterFault hP h1) h1

theorem keeps_stCycle {s : State} (hs : P s) : P (State.stCycle s) := by
  unfold State.stCycle
  exact keeps_degUpdate hP (keeps_fold (fun _ _ hf0 => keeps_setPwheel hP (keeps_setFld hP hf0)) hs)

theorem keeps_aDeliver {s : State} {g : Nat} {i : Nat} {v : W64} {q : BitVec 8} {stamp : W64} (hs : P s) : P (State.aDeliver
    s g i v q stamp) := by
  unfold State.aDeliver
  extract_lets -merge -underBinder +onlyGivenNames x0
  clear_value x0
  extract_lets -merge -underBinder +onlyGivenNames x1
  have h2 : P x1 := keeps_ite (keeps_setAch hP hs) hs
  try clear_value x1
  exact keeps_deliverAt hP h2

theorem keeps_aItem {s : State} {g : Nat} {i : Nat} {v : W64} {stamp : W64} (hs : P s) : P (State.aItem s g i v stamp) := by
  unfold State.aItem
  extract_lets -merge -underBinder +onlyGivenNames x0
  exact keeps_aDeliver hP hs

theorem keeps_setAStatus {s : State} {g : Nat} {new : Nat} (hs : P s) : P (State.setAStatus s g new) := by
  unfold State.setAStatus
  extract_lets -merge -underBinder +onlyGivenNames x0
  refine keeps_ite ?_ ?_
  · exact hs
  · extract_lets -merge -underBinder +onlyGivenNames x1 x2 x3 x4 x5
    have h6 : P x5 := keeps_setReg hP (keeps_setReg hP hs)
    try clear_value x5
    extract_lets -merge -underBinder +onlyGivenNames x7
    have h8 : P x7 := keeps_setBit hP h6
    try clear_value x7
    extract_lets -merge -underBinder +onlyGivenNames x9
    have h10 : P x9 := keeps_setBit hP h8
    try clear_value x9
    extract_lets -merge -underBinder +onlyGivenNames x11
    have h12 : P x11 := keeps_ite (keeps_ev hP (keeps_bump hP h10)) (keeps_ite (keeps_ev hP h10) h10)
    try clear_value x11
    exact keeps_aItem hP h12

theorem keeps_aBit {s : State} {g : Nat} {n : Nat} {b : Bool} (hs : P s) : P (State.aBit s g n b) := by
  unfold State.aBit
  exact keeps_setAStatus hP hs

theorem keeps_aRequal {s : State} {g : Nat} (hs : P s) : P (State.aRequal s g) := by
  unfold State.aRequal
  refine keeps_fold ?_ ?_
  · intro y0 a0 hf0
    refine keeps_ite ?_ ?_
    · exact hf0
    · extract_lets -merge -underBinder +onlyGivenNames x1
      exact keeps_deliverAt hP hf0
  · exact hs

theorem keeps_aCond {s : State} {g : Nat} {n : Nat} {b : Bool} (hs : P s) : P (State.aCond s g n b) := by
  unfold State.aCond
  exact keeps_ite hs (keeps_aRequal hP (keeps_aBit hP hs))

theorem keeps_aPersist {s : State} {g : Nat} {found : Nat} (hs : P s) : P (State.aPersist s g found).1 := by
  unfold State.aPersist
  extract_lets -merge -underBinder +onlyGivenNames x0
  refine keeps_foldl (Q := fun p => P (Prod.fst p)) ?_ ?_
  · intro y1 a1 hf1
    split
    · rename_i m2 m3
      have h5 : P m2 := hf1
      extract_lets -merge -underBinder +onlyGivenNames x6
      clear_value x6
      split
      · exact keeps_setAch hP h5
  · exact hs

theorem keeps_aOddSample {s : State} {g : Nat} {st : Nat} {m : ASample} {stamp : W64} (hs : P s) : P (State.aOddSample s g st
    m stamp) := by
  unfold State.aOddSample
  extract_lets -merge -underBinder +onlyGivenNames x0 x1 x2
  have h3 : P x2 := keeps_setReg hP hs
  try clear_value x2
  extract_lets -merge -underBinder +onlyGivenNames x4
  clear_value x4
  extract_lets -merge -underBinder +onlyGivenNames x5
  have h6 : P x5 := keeps_setAch hP h3
  try clear_value x5
  extract_lets -merge -underBinder +onlyGivenNames x7 x8
  have h9 : P x8 := keeps_setAStatus hP h6
  try clear_value x8
  extract_lets -merge -underBinder +onlyGivenNames x10
  have h11 : P x10 := keeps_ite (keeps_ev hP h9) h9
  try clear_value x10
  extract_lets -merge -underBinder +onlyGivenNames x12 x13 x14
  have h15 : P x14 := keeps_aDeliver hP h11
  try clear_value x14
  extract_lets -merge -underBinder +onlyGivenNames x16
  have h17 : P x16 := keeps_ite (keeps_aItem hP h15) h15
  try clear_value x16
  exact keeps_aDeliver hP h17

theorem keeps_aSample {s : State} {g : Nat} {m : ASample} (hs : P s) : P (State.aSample s g m) := by
  unfold State.aSample
  extract_lets -merge -underBinder +onlyGivenNames x0 x1
  have h2 : P x1 := by
    unfold x1
    split
    · exact keeps_setFld hP (keeps_setFld hP (keeps_setFld hP (keeps_setFld hP hs)))
    · exact hs
  try clear_value x1
  refine keeps_ite ?_ ?_
  · exact h2
  · extract_lets -merge -underBinder +onlyGivenNames x3
    clear_value x3
    extract_lets -merge -underBinder +onlyGivenNames x4 x5 x6
    split
    · rename_i m7 m8 e9
      have h10 : P m7 := keeps_of_eq (congrArg (fun p => Prod.fst (p)) e9) (keeps_aPersist hP h2)
      extract_lets -merge -underBinder +onlyGivenNames x11 x12 x13
      have h14 : P x13 := keeps_setReg hP h10
      try clear_value x13
      extract_lets -merge -underBinder +onlyGivenNames x15 x16
      have h17 : P x16 := keeps_setAStatus hP h14
      try clear_value x16
      extract_lets -merge -underBinder +onlyGivenNames x18
      have h19 : P x18 := keeps_ite (keeps_ev hP h17) h17
      try clear_value x18
      extract_lets -merge -underBinder +onlyGivenNames x20
      have h21 : P x20 := keeps_ite (keeps_ev hP h19) h19
      try clear_value x20
      extract_lets -merge -underBinder +onlyGivenNames x22 x23 x24 x25
      clear_value x25
      extract_lets -merge -underBinder +onlyGivenNames x26
      clear_value x26
      extract_lets -merge -underBinder +onlyGivenNames x27
      clear_value x27
      extract_lets -merge -underBinder +onlyGivenNames x28
      clear_value x28
      extract_lets -merge -underBinder +onlyGivenNames x29
      have h30 : P x29 := keeps_setAch hP h21
      try clear_value x29
      extract_lets -merge -underBinder +onlyGivenNames x31
      clear_value x31
      extract_lets -merge -underBinder +onlyGivenNames x32
      have h33 : P x32 := keeps_aItem hP h30
      try clear_value x32
      extract_lets -merge -underBinder +onlyGivenNames x34
      have h35 : P x34 := by
        unfold x34
        split
        · exact keeps_aItem hP h33
        · exact h33
      try clear_value x34
      extract_lets -merge -underBinder +onlyGivenNames x36
      have h37 : P x36 := keeps_ite (keeps_aItem hP h35) h35
      try clear_value x36
      extract_lets -merge -underBinder +onlyGivenNames x38
      have h39 : P x38 := keeps_aItem hP h37
      try clear_value x38
      exact keeps_ite (keeps_aOddSample hP h39) h39

theorem keeps_aStage {s : State} {g : Nat} (hs : P s) : P (State.aStage s g) := by
  unfold State.aStage
  refine keeps_ite ?_ ?_
  · exact hs
  · extract_lets -merge -underBinder +onlyGivenNames x0 x1
    have h2 : P x1 := by
      unfold x1
      split
      · exact keeps_setAStatus hP hs
      · exact keeps_setAStatus hP hs
      · exact hs
    try clear_value x1
    exact keeps_setAch hP h2

theorem keeps_aHand {s : State} {g : Nat} (hs : P s) : P (State.aHand s g) := by
  unfold State.aHand
  refine keeps_ite ?_ ?_
  · exact hs
  · extract_lets -merge -underBinder +onlyGivenNames x0
    clear_value x0
    extract_lets -merge -underBinder +onlyGivenNames x1
    clear_value x1
    extract_lets -merge -underBinder +onlyGivenNames x2
    have h3 : P x2 := keeps_setAStatus hP hs
    try clear_value x2
    extract_lets -merge -underBinder +onlyGivenNames x4
    clear_value x4
    extract_lets -merge -underBinder +onlyGivenNames x5
    clear_value x5
    extract_lets -merge -underBinder +onlyGivenNames x6
    clear_value x6
    extract_lets -merge -underBinder +onlyGivenNames x7
    clear_value x7
    extract_lets -merge -underBinder +onlyGivenNames x8
    have h9 : P x8 := keeps_setAch hP h3
    try clear_value x8
    extract_lets -merge -underBinder +onlyGivenNames x10
    have h11 : P x10 := keeps_ite (keeps_aItem hP h9) h9
    try clear_value x10
    exact keeps_aStage hP h11

theorem keeps_rbCount {s : State} {g : Nat} {found : Option Nat} (hs : P s) : P (State.rbCount s g found).1 := by
  unfold State.rbCount
  refine keeps_foldl (Q := fun p => P (Prod.fst p)) ?_ ?_
  · intro y0 a0 hf0
    split
    · rename_i m1 m2
      have h4 : P m1 := hf0
      extract_lets -merge -underBinder +onlyGivenNames x5
      clear_value x5
      extract_lets -merge -underBinder +onlyGivenNames x6 x7 x8
      exact keeps_setAch hP h4
  · exact hs

theorem keeps_aReadback {s : State} {g : Nat} {m : ARead} (hs : P s) : P (State.aReadback s g m) := by
  unfold State.aReadback
  extract_lets -merge -underBinder +onlyGivenNames x0 x1
  refine keeps_ite ?_ ?_
  · exact hs
  · extract_lets -merge -underBinder +onlyGivenNames x2 x3
    have h4 : P x3 := keeps_setReg hP hs
    try clear_value x3
    extract_lets -merge -underBinder +onlyGivenNames x5 x6 x7
    have h8 : P x7 := keeps_ite (keeps_bump hP h4) h4
    try clear_value x7
    extract_lets -merge -underBinder +onlyGivenNames x9 x10
    split
    · rename_i m11 m12 e13
      have h14 : P m11 := keeps_of_eq (congrArg (fun p => Prod.fst (p)) e13) (keeps_ifQ (Q := fun p => P (Prod.fst p)) h8
          (keeps_rbCount hP h8))
      extract_lets -merge -underBinder +onlyGivenNames x15 x16
      have h17 : P x16 := keeps_setAStatus hP h14
      try clear_value x16
      extract_lets -merge -underBinder +onlyGivenNames x18
      have h19 : P x18 := keeps_ite (keeps_ev hP h17) h17
      try clear_value x18
      extract_lets -merge -underBinder +onlyGivenNames x20
      clear_value x20
      extract_lets -merge -underBinder +onlyGivenNames x21
      have h22 : P x21 := keeps_setAch hP h19
      try clear_value x21
      refine keeps_ite ?_ ?_
      · extract_lets -merge -underBinder +onlyGivenNames x23
        have h24 : P x23 := keeps_aItem hP h22
        try clear_value x23
        extract_lets -merge -underBinder +onlyGivenNames x25
        have h26 : P x25 := keeps_ite (keeps_aItem hP h24) h24
        try clear_value x25
        exact keeps_aItem hP h26
      · exact keeps_ite (keeps_aItem hP h22) h22

theorem keeps_aCfgApply {s : State} {g : Nat} {new : Nat} (hs : P s) : P (State.aCfgApply s g new) := by
  unfold State.aCfgApply
  refine keeps_ite ?_ ?_
  · exact keeps_setReg hP hs
  · extract_lets -merge -underBinder +onlyGivenNames x0 x1
    have h2 : P x1 := keeps_setReg hP (keeps_setAStatus hP hs)
    try clear_value x1
    extract_lets -merge -underBinder +onlyGivenNames x3
    clear_value x3
    extract_lets -merge -underBinder +onlyGivenNames x4
    have h5 : P x4 := keeps_setAch hP h2
    try clear_value x4
    extract_lets -merge -underBinder +onlyGivenNames x6
    clear_value x6
    extract_lets -merge -underBinder +onlyGivenNames x7
    have h8 : P x7 := keeps_setHart hP h5
    try clear_value x7
    extract_lets -merge -underBinder +onlyGivenNames x9
    have h10 : P x9 := keeps_aRequal hP h8
    try clear_value x9
    exact keeps_aStage hP h10

theorem keeps_aReconfigDone {s : State} {g : Nat} (hs : P s) : P (State.aReconfigDone s g) := by
  unfold State.aReconfigDone
  extract_lets -merge -underBinder +onlyGivenNames x0
  clear_value x0
  refine keeps_ite ?_ ?_
  · exact hs
  · extract_lets -merge -underBinder +onlyGivenNames x1 x2
    have h3 : P x2 := keeps_setAch hP hs
    try clear_value x2
    exact keeps_ite (keeps_ev hP (keeps_aCond hP h3)) h3

theorem keeps_aRateApply {s : State} {g : Nat} {new : Nat} (hs : P s) : P (State.aRateApply s g new) := by
  unfold State.aRateApply
  extract_lets -merge -underBinder +onlyGivenNames x0
  have h1 : P x0 := keeps_setReg hP hs
  try clear_value x0
  exact keeps_ite h1 (keeps_setAch hP h1)

theorem keeps_aFsChange {s : State} {sl : Nat} (hs : P s) : P (State.aFsChange s sl) := by
  unfold State.aFsChange
  refine keeps_fold ?_ ?_
  · intro y0 a0 hf0
    extract_lets -merge -underBinder +onlyGivenNames x1
    exact keeps_aCond hP hf0
  · exact hs

theorem keeps_aLinkLost {s : State} {sl : Nat} (hs : P s) : P (State.aLinkLost s sl) := by
  unfold State.aLinkLost
  refine keeps_fold ?_ ?_
  · intro y0 a0 hf0
    extract_lets -merge -underBinder +onlyGivenNames x1
    refine keeps_ite ?_ ?_
    · exact hf0
    · extract_lets -merge -underBinder +onlyGivenNames y3 x2
      clear_value y3
      have h4 : P x2 := keeps_setAch hP hf0
      try clear_value x2
      exact keeps_aStage hP (keeps_aCond hP h4)
  · exact hs

theorem keeps_aCurOverload {s : State} {g : Nat} (hs : P s) : P (State.aCurOverload s g) := by
  unfold State.aCurOverload
  refine keeps_ite ?_ ?_
  · exact hs
  · extract_lets -merge -underBinder +onlyGivenNames y1 x0
    clear_value y1
    have h2 : P x0 := keeps_setAch hP hs
    try clear_value x0
    exact keeps_ev hP (keeps_aCond hP h2)

theorem keeps_aCurRetry {s : State} {g : Nat} {ovr : Bool} (hs : P s) : P (State.aCurRetry s g ovr) := by
  unfold State.aCurRetry
  exact keeps_ite hs (keeps_aCond hP (keeps_setAch hP hs))

theorem keeps_aVoltOverload {s : State} {g : Nat} (hs : P s) : P (State.aVoltOverload s g) := by
  unfold State.aVoltOverload
  refine keeps_ite ?_ ?_
  · exact hs
  · extract_lets -merge -underBinder +onlyGivenNames y1 x0
    clear_value y1
    have h2 : P x0 := keeps_setAch hP hs
    try clear_value x0
    exact keeps_aStage hP (keeps_ev hP (keeps_aCond hP h2))

theorem keeps_aVoltRetry {s : State} {g : Nat} (hs : P s) : P (State.aVoltRetry s g) := by
  unfold State.aVoltRetry
  refine keeps_ite ?_ ?_
  · exact hs
  · extract_lets -merge -underBinder +onlyGivenNames y1 x0
    clear_value y1
    have h2 : P x0 := keeps_aCond hP (keeps_setAch hP hs)
    try clear_value x0
    exact keeps_ite (keeps_setAch hP h2) (keeps_aStage hP h2)

theorem keeps_aThermal {s : State} {g : Nat} (hs : P s) : P (State.aThermal s g) := by
  unfold State.aThermal
  exact keeps_ite (keeps_aStage hP (keeps_aBit hP hs)) hs

theorem keeps_aThermalRetry {s : State} {g : Nat} (hs : P s) : P (State.aThermalRetry s g) := by
  unfold State.aThermalRetry
  refine keeps_ite ?_ ?_
  · exact hs
  · extract_lets -merge -underBinder +onlyGivenNames x0
    have h1 : P x0 := keeps_aBit hP hs
    try clear_value x0
    exact keeps_ite (keeps_setAch hP h1) (keeps_aStage hP h1)

theorem keeps_setHState {s : State} {g : Nat} {st : Nat} (hs : P s) : P (State.setHState s g st) := by
  unfold State.setHState
  exact keeps_setBit hP (keeps_setFld hP hs)

theorem keeps_hNext {s : State} {g : Nat} (hs : P s) : P (State.hNext s g) := by
  unfold State.hNext
  extract_lets -merge -underBinder +onlyGivenNames x0
  clear_value x0
  extract_lets -merge -underBinder +onlyGivenNames x1
  refine keeps_ite ?_ ?_
  · exact hs
  · extract_lets -merge -underBinder +onlyGivenNames x2 x3
    clear_value x3
    split
    · exact hs
    · exact keeps_setHart hP hs

theorem keeps_hReply {s : State} {a : Nat} {sl : Nat} {id : Nat} {cmd : Nat} {ch : Nat} {status : Nat} {data : List Byte} (hs
    : P s) : P (State.hReply s a sl id cmd ch status data) := by
  unfold State.hReply
  split
  · exact hs
  · extract_lets -merge -underBinder +onlyGivenNames x0
    exact keeps_tillComplete hP hs

theorem keeps_hForget {s : State} {a : Nat} {g : Nat} (hs : P s) : P (State.hForget s a g) := by
  unfold State.hForget
  extract_lets -merge -underBinder +onlyGivenNames x0
  clear_value x0
  refine keeps_ite ?_ ?_
  · exact hs
  · extract_lets -merge -underBinder +onlyGivenNames x1
    exact keeps_hNext hP (keeps_setHart hP hs)

theorem keeps_hFlush {s : State} {g : Nat} {status : Nat} (hs : P s) : P (State.hFlush s g status) := by
  unfold State.hFlush
  extract_lets -merge -underBinder +onlyGivenNames x0
  clear_value x0
  extract_lets -merge -underBinder +onlyGivenNames x1
  have h2 : P x1 := keeps_setHart hP hs
  try clear_value x1
  exact keeps_fold (fun _ _ hf3 => keeps_hReply hP hf3) h2

theorem keeps_hFaultSignals {s : State} {g : Nat} (hs : P s) : P (State.hFaultSignals s g) := by
  unfold State.hFaultSignals
  exact keeps_fold (fun _ _ hf0 => keeps_deliver hP hf0) hs

theorem keeps_hFail {s : State} {g : Nat} (hs : P s) : P (State.hFail s g) := by
  unfold State.hFail
  extract_lets -merge -underBinder +onlyGivenNames x0
  clear_value x0
  extract_lets -merge -underBinder +onlyGivenNames x1
  have h2 : P x1 := by
    unfold x1
    split
    · exact keeps_hReply hP (keeps_setHart hP hs)
    · exact keeps_setHart hP hs
  try clear_value x1
  extract_lets -merge -underBinder +onlyGivenNames x3
  have h4 : P x3 := keeps_bump hP h2
  try clear_value x3
  extract_lets -merge -underBinder +onlyGivenNames x5
  have h6 : P x5 := keeps_ite h4 (keeps_hFaultSignals hP (keeps_ev hP (keeps_setHState hP h4)))
  try clear_value x5
  extract_lets -merge -underBinder +onlyGivenNames x7
  clear_value x7
  exact keeps_hNext hP (keeps_setHart hP h6)

theorem keeps_hTimeout {s : State} {g : Nat} (hs : P s) : P (State.hTimeout s g) := by
  unfold State.hTimeout
  extract_lets -merge -underBinder +onlyGivenNames y1 x0
  clear_value y1
  have h2 : P x0 := keeps_ite (keeps_setHart hP hs) hs
  try clear_value x0
  extract_lets -merge -underBinder +onlyGivenNames x3
  clear_value x3
  exact keeps_ite (keeps_hNext hP h2) (keeps_ite (keeps_bump hP (keeps_setHart hP h2)) (keeps_hFail hP h2))

theorem keeps_hSignals {s : State} {g : Nat} {m : HartMsg} {age : Nat} (hs : P s) : P (State.hSignals s g m age) := by
  unfold State.hSignals
  extract_lets -merge -underBinder +onlyGivenNames x0
  clear_value x0
  extract_lets -merge -underBinder +onlyGivenNames x1
  refine keeps_fold ?_ ?_
  · intro y2 a2 hf2
    refine keeps_ite ?_ ?_
    · extract_lets -merge -underBinder +onlyGivenNames x3
      exact keeps_deliver hP hf2
    · split
      · extract_lets -merge -underBinder +onlyGivenNames x4
        clear_value x4
        exact keeps_deliver hP hf2
      · exact keeps_deliver hP hf2
  · exact hs

theorem keeps_hIdentified {s : State} {g : Nat} {expType : Nat} {devId : Nat} (hs : P s) : P (State.hIdentified s g expType
    devId) := by
  unfold State.hIdentified
  extract_lets -merge -underBinder +onlyGivenNames x0
  clear_value x0
  extract_lets -merge -underBinder +onlyGivenNames x1 x2
  have h3 : P x2 := keeps_ite (keeps_ev hP hs) (keeps_ev hP hs)
  try clear_value x2
  extract_lets -merge -underBinder +onlyGivenNames x4
  have h5 : P x4 := keeps_setFld hP (keeps_setFld hP h3)
  try clear_value x4
  extract_lets -merge -underBinder +onlyGivenNames x6
  have h7 : P x6 := keeps_setHart hP h5
  try clear_value x6
  extract_lets -merge -underBinder +onlyGivenNames x8
  have h9 : P x8 := keeps_ite (keeps_ev hP h7) h7
  try clear_value x8
  exact keeps_setHState hP h9

theorem keeps_hAnswer {s : State} {g : Nat} {u : HartUse} {m : HartMsg} {age : Nat} (hs : P s) : P (State.hAnswer s g u m
    age) := by
  unfold State.hAnswer
  extract_lets -merge -underBinder +onlyGivenNames x0
  clear_value x0
  extract_lets -merge -underBinder +onlyGivenNames x1 x2
  have h3 : P x2 := keeps_bump hP hs
  try clear_value x2
  extract_lets -merge -underBinder +onlyGivenNames x4 x5
  have h6 : P x5 := keeps_setHart hP h3
  try clear_value x5
  extract_lets -merge -underBinder +onlyGivenNames x7
  have h8 : P x7 := keeps_ite (keeps_setReg hP h6) h6
  try clear_value x7
  extract_lets -merge -underBinder +onlyGivenNames x9
  have h10 : P x9 := keeps_ite (keeps_setFld hP h8) h8
  try clear_value x9
  extract_lets -merge -underBinder +onlyGivenNames x11
  have h12 : P x11 := by
    unfold x11
    split
    · split
      · exact keeps_hIdentified hP h10
      · exact h10
    · exact keeps_hSignals hP h10
    · exact h10
    · split
      · extract_lets -merge -underBinder +onlyGivenNames x13
        extract_lets -merge -underBinder +onlyGivenNames y15 x14
        clear_value y15
        have h16 : P x14 := keeps_setHart hP h10
        try clear_value x14
        exact keeps_hReply hP h16
      · exact h10
  try clear_value x11
  exact keeps_hNext hP h12

theorem keeps_hMessage {s : State} {g : Nat} {m : HartMsg} {age : Nat} (hs : P s) : P (State.hMessage s g m age) := by
  unfold State.hMessage
  extract_lets -merge -underBinder +onlyGivenNames x0
  clear_value x0
  refine keeps_ite ?_ ?_
  · exact keeps_bump hP hs
  · refine keeps_ite ?_ ?_
    · exact keeps_ite (keeps_setHart hP hs) (keeps_hNext hP (keeps_setHart hP hs))
    · split
      · exact hs
      · extract_lets -merge -underBinder +onlyGivenNames x1
        refine keeps_ite ?_ ?_
        · exact hs
        · extract_lets -merge -underBinder +onlyGivenNames x2
          have h3 : P x2 := keeps_setFld hP (keeps_setFld hP hs)
          try clear_value x2
          exact keeps_ite h3 (keeps_hAnswer hP h3)

theorem keeps_hReplyIn {s : State} {g : Nat} {r : HartRx} (hs : P s) : P (State.hReplyIn s g r) := by
  unfold State.hReplyIn
  refine keeps_ite ?_ ?_
  · exact hs
  · split
    · exact keeps_hMessage hP hs
    · exact hs

theorem keeps_tillTake {a t n : Nat} {ecc : List Ecc}
    {s : State} (hs : P s) : P (State.tillTake s a t ecc n).2 := by
  induction n generalizing s ecc with
  | zero => exact hs
  | succ n ih =>
    rw [State.tillTake]
    split
    rename_i v m1 m2 s1 e1
    split
    rename_i vs s2 e2
    have h1 : P s1 := by
      refine keeps_of_eq (congrArg (fun p => Prod.snd (Prod.snd (Prod.snd p))) e1) ?_
      exact keeps_tillRead hP hs
    show P s2
    refine keeps_of_eq (congrArg (fun p => Prod.snd p) e2) ?_
    exact ih h1

theorem keeps_hRequest {s : State} {a : Nat} {sl : Nat} {ecc : List Ecc} (hs : P s) : P (State.hRequest s a sl ecc) := by
  unfold State.hRequest
  split
  · extract_lets -merge -underBinder +onlyGivenNames x0
    clear_value x0
    refine keeps_ite ?_ ?_
    · exact hs
    · extract_lets -merge -underBinder +onlyGivenNames x1 x2 x3
      refine keeps_ite ?_ ?_
      · exact hs
      · split
        · rename_i m4 m5 e6
          have h7 : P m5 := keeps_of_eq (congrArg (fun p => Prod.snd (p)) e6) (keeps_tillTake hP hs)
          extract_lets -merge -underBinder +onlyGivenNames x8
          have h9 : P x8 := keeps_tillReserve hP (keeps_tillCmd hP h7)
          try clear_value x8
          extract_lets -merge -underBinder +onlyGivenNames x10 x11 x12 x13 x14 x15
          have h16 : ∀ {v17 v18}, P v17 → P (x15 v17 v18) := by
            intro v17 v18 h19
            unfold x15
            exact keeps_hReply hP h19
          try clear_value x15
          refine keeps_ite ?_ ?_
          · exact h16 h9
          · extract_lets -merge -underBinder +onlyGivenNames x20 x21
            refine keeps_ite ?_ ?_
            · exact h16 h9
            · refine keeps_ite ?_ ?_
              · exact h16 (keeps_ev hP h9)
              · extract_lets -merge -underBinder +onlyGivenNames x22
                clear_value x22
                exact keeps_ite (h16 h9) (keeps_hNext hP (keeps_setHart hP h9))
  · exact hs

theorem keeps_hZMeasure {s : State} {g : Nat} {z1200 : Nat} {z2200 : Nat} {overlap : Bool} (hs : P s) : P (State.hZMeasure s
    g z1200 z2200 overlap) := by
  unfold State.hZMeasure
  extract_lets -merge -underBinder +onlyGivenNames x0
  clear_value x0
  refine keeps_ite ?_ ?_
  · exact hs
  · refine keeps_ite ?_ ?_
    · exact keeps_setHart hP hs
    · extract_lets -merge -underBinder +onlyGivenNames x1 x2
      have h3 : P x2 := keeps_setFld hP hs
      try clear_value x2
      extract_lets -merge -underBinder +onlyGivenNames x4
      have h5 : P x4 := by
        unfold x4
        clear_value x1
        split
        · exact keeps_setFld hP h3
        · exact h3
      try clear_value x4
      extract_lets -merge -underBinder +onlyGivenNames x6
      have h7 : P x6 := keeps_ite (keeps_setFld hP h5) h5
      try clear_value x6
      extract_lets -merge -underBinder +onlyGivenNames x8
      have h9 : P x8 := by
        unfold x8
        clear_value x1
        split
        · exact keeps_ite (keeps_setFld hP h7) h7
        · exact h7
      try clear_value x8
      extract_lets -merge -underBinder +onlyGivenNames x10 x11 x12
      clear_value x12
      extract_lets -merge -underBinder +onlyGivenNames x13
      have h14 : P x13 := keeps_setHart hP h9
      try clear_value x13
      extract_lets -merge -underBinder +onlyGivenNames x15 x16 x17
      have h18 : ∀ {v19 v20}, P v19 → P (x17 v19 v20) := by
        intro v19 v20 h21
        unfold x17
        exact keeps_setBit hP (keeps_setFld hP h21)
      try clear_value x17
      exact keeps_ite (keeps_ev hP (h18 h14)) (keeps_ite (keeps_ev hP (h18 h14)) h14)

theorem keeps_hZBaseApply {s : State} {g : Nat} {v : Nat} (hs : P s) : P (State.hZBaseApply s g v) := by
  unfold State.hZBaseApply
  extract_lets -merge -underBinder +onlyGivenNames x0
  have h1 : P x0 := keeps_setReg hP hs
  try clear_value x0
  extract_lets -merge -underBinder +onlyGivenNames x2
  exact keeps_setHart hP h1

theorem keeps_hCfgApply {s : State} {g : Nat} {v : Nat} (hs : P s) : P (State.hCfgApply s g v) := by
  unfold State.hCfgApply
  extract_lets -merge -underBinder +onlyGivenNames x0 x1
  have h2 : P x1 := keeps_setReg hP hs
  try clear_value x1
  extract_lets -merge -underBinder +onlyGivenNames x3
  refine keeps_ite ?_ ?_
  · extract_lets -merge -underBinder +onlyGivenNames x4
    clear_value x4
    extract_lets -merge -underBinder +onlyGivenNames x5
    have h6 : P x5 := keeps_setHart hP h2
    try clear_value x5
    exact keeps_hNext hP (keeps_setHState hP h6)
  · refine keeps_ite ?_ ?_
    · extract_lets -merge -underBinder +onlyGivenNames x7
      have h8 : P x7 := keeps_setHState hP (keeps_hFlush hP h2)
      try clear_value x7
      exact keeps_setHart hP h8
    · exact h2

theorem keeps_hCease {s : State} (hs : P s) : P (State.hCease s) := by
  unfold State.hCease
  refine keeps_fold ?_ ?_
  · intro y0 a0 hf0
    refine keeps_ite ?_ ?_
    · exact hf0
    · extract_lets -merge -underBinder +onlyGivenNames x1
      have h2 : P x1 := keeps_hFlush hP hf0
      try clear_value x1
      exact keeps_setHState hP (keeps_setHart hP h2)
  · exact hs

theorem keeps_hResume {s : State} {g : Nat} (hs : P s) : P (State.hResume s g) := by
  unfold State.hResume
  refine keeps_ite ?_ ?_
  · exact hs
  · extract_lets -merge -underBinder +onlyGivenNames x0
    clear_value x0
    exact keeps_ite (keeps_hNext hP (keeps_setHState hP (keeps_setHart hP hs))) (keeps_hNext hP (keeps_setHState hP
        (keeps_setHart hP hs)))

theorem keeps_hPoll {s : State} {g : Nat} (hs : P s) : P (State.hPoll s g) := by
  unfold State.hPoll
  exact keeps_ite hs (keeps_hNext hP (keeps_setHart hP hs))

theorem keeps_hIdentRetry {s : State} {g : Nat} (hs : P s) : P (State.hIdentRetry s g) := by
  unfold State.hIdentRetry
  exact keeps_ite hs (keeps_hNext hP (keeps_setHart hP hs))

theorem keeps_hBurst {s : State} {g : Nat} (hs : P s) : P (State.hBurst s g) := by
  unfold State.hBurst
  exact keeps_ite hs (keeps_bump hP hs)

theorem keeps_dItem {s : State} {n : Nat} {i : Nat} {v : W64} {stamp : W64} (hs : P s) : P (State.dItem s n i v stamp) := by
  unfold State.dItem
  exact keeps_deliverAt hP hs

theorem keeps_dItemOnce {s : State} {n : Nat} {i : Nat} {v : W64} {stamp : W64} (hs : P s) : P (State.dItemOnce s n i v
    stamp) := by
  unfold State.dItemOnce
  extract_lets -merge -underBinder +onlyGivenNames x0 x1
  exact keeps_dItem hP (hP.upd hs)

theorem keeps_setDConds {s : State} {n : Nat} {new : Nat} (hs : P s) : P (State.setDConds s n new) := by
  unfold State.setDConds
  extract_lets -merge -underBinder +onlyGivenNames x0
  clear_value x0
  extract_lets -merge -underBinder +onlyGivenNames x1
  refine keeps_ite ?_ ?_
  · exact hs
  · extract_lets -merge -underBinder +onlyGivenNames x2 x3 x4 x5 x6
    have h7 : P x6 := keeps_setDch hP hs
    try clear_value x6
    extract_lets -merge -underBinder +onlyGivenNames x8
    have h9 : P x8 := keeps_setReg hP (keeps_setReg hP h7)
    try clear_value x8
    extract_lets -merge -underBinder +onlyGivenNames x10
    have h11 : P x10 := keeps_setBit hP h9
    try clear_value x10
    extract_lets -merge -underBinder +onlyGivenNames x12
    have h13 : P x12 := keeps_setBit hP h11
    try clear_value x12
    extract_lets -merge -underBinder +onlyGivenNames x14
    have h15 : P x14 := keeps_ite (keeps_ev hP (keeps_bump hP h13)) (keeps_ite (keeps_ev hP h13) h13)
    try clear_value x14
    exact keeps_ite h15 (keeps_dItem hP h15)

theorem keeps_dRequal {s : State} {n : Nat} (hs : P s) : P (State.dRequal s n) := by
  unfold State.dRequal
  exact keeps_fold (fun _ _ hf0 => keeps_ite hf0 (keeps_dItem hP hf0)) hs

theorem keeps_dCond {s : State} {n : Nat} {b : Nat} {v : Bool} (hs : P s) : P (State.dCond s n b v) := by
  unfold State.dCond
  extract_lets -merge -underBinder +onlyGivenNames x0
  exact keeps_ite hs (keeps_dRequal hP (keeps_setDConds hP hs))

theorem keeps_dStage {s : State} {n : Nat} (hs : P s) : P (State.dStage s n) := by
  unfold State.dStage
  refine keeps_ite ?_ ?_
  · exact hs
  · extract_lets -merge -underBinder +onlyGivenNames x0
    have h1 : P x0 := keeps_ite hs (keeps_setDConds hP hs)
    try clear_value x0
    exact keeps_setDch hP h1

theorem keeps_dResume {s : State} {n : Nat} (hs : P s) : P (State.dResume s n) := by
  unfold State.dResume
  exact keeps_ite hs (keeps_ite (keeps_setDch hP hs) (keeps_dStage hP hs))

theorem keeps_dHand {s : State} {n : Nat} (hs : P s) : P (State.dHand s n) := by
  unfold State.dHand
  refine keeps_ite ?_ ?_
  · exact hs
  · split
    · extract_lets -merge -underBinder +onlyGivenNames x0
      extract_lets -merge -underBinder +onlyGivenNames y2 x1
      clear_value y2
      have h3 : P x1 := keeps_setDch hP hs
      try clear_value x1
      extract_lets -merge -underBinder +onlyGivenNames x4
      have h5 : P x4 := keeps_setDConds hP h3
      try clear_value x4
      extract_lets -merge -underBinder +onlyGivenNames x6
      have h7 : P x6 := keeps_ite h5 (keeps_dItem hP h5)
      try clear_value x6
      exact keeps_dStage hP h7

theorem keeps_dFirst {s : State} {n : Nat} (hs : P s) : P (State.dFirst s n) := by
  unfold State.dFirst
  exact keeps_ite (keeps_ev hP (keeps_dCond hP hs)) hs

theorem keeps_dLevel {s : State} {n : Nat} {level : Bool} (hs : P s) : P (State.dLevel s n level) := by
  unfold State.dLevel
  extract_lets -merge -underBinder +onlyGivenNames x0
  clear_value x0
  extract_lets -merge -underBinder +onlyGivenNames x1 x2
  refine keeps_ite ?_ ?_
  · exact hs
  · extract_lets -merge -underBinder +onlyGivenNames x3
    have h4 : P x3 := keeps_setDch hP hs
    try clear_value x3
    extract_lets -merge -underBinder +onlyGivenNames x5
    have h6 : P x5 := keeps_dFirst hP h4
    try clear_value x5
    exact keeps_ite h6 (keeps_dItem hP h6)

theorem keeps_dLineMon {s : State} {n : Nat} {below : Bool} (hs : P s) : P (State.dLineMon s n below) := by
  unfold State.dLineMon
  exact keeps_ite (keeps_dCond hP hs) hs

theorem keeps_dCounted {s : State} {n : Nat} {count : W64} {t : Int} (hs : P s) : P (State.dCounted s n count t) := by
  unfold State.dCounted
  extract_lets -merge -underBinder +onlyGivenNames x0
  clear_value x0
  extract_lets -merge -underBinder +onlyGivenNames x1 x2 x3 x4
  clear_value x4
  extract_lets -merge -underBinder +onlyGivenNames x5
  have h6 : P x5 := keeps_setDch hP hs
  try clear_value x5
  refine keeps_ite ?_ ?_
  · exact h6
  · extract_lets -merge -underBinder +onlyGivenNames x7
    clear_value x7
    extract_lets -merge -underBinder +onlyGivenNames x8
    have h9 : P x8 := keeps_dItemOnce hP (keeps_dItemOnce hP h6)
    try clear_value x8
    refine keeps_ite ?_ ?_
    · extract_lets -merge -underBinder +onlyGivenNames x10
      exact keeps_dItemOnce hP h9
    · exact h9

theorem keeps_dQuadEdge {s : State} {n : Nat} {level : Bool} {t : Int} (hs : P s) : P (State.dQuadEdge s n level t) := by
  unfold State.dQuadEdge
  extract_lets -merge -underBinder +onlyGivenNames x0 x1 x2
  extract_lets -merge -underBinder +onlyGivenNames y4 x3
  clear_value y4
  have h5 : P x3 := keeps_setDch hP hs
  try clear_value x3
  extract_lets -merge -underBinder +onlyGivenNames x6
  clear_value x6
  refine keeps_ite ?_ ?_
  · exact keeps_ev hP (keeps_dCond hP h5)
  · extract_lets -merge -underBinder +onlyGivenNames x7
    exact keeps_dCounted hP h5

theorem keeps_dEdgeIn {s : State} {n : Nat} {level : Bool} {time : Nat} (hs : P s) : P (State.dEdgeIn s n level time) := by
  unfold State.dEdgeIn
  extract_lets -merge -underBinder +onlyGivenNames x0
  clear_value x0
  extract_lets -merge -underBinder +onlyGivenNames x1
  refine keeps_ite ?_ ?_
  · exact hs
  · extract_lets -merge -underBinder +onlyGivenNames x2 x3
    have h4 : P x3 := keeps_dFirst hP hs
    try clear_value x3
    extract_lets -merge -underBinder +onlyGivenNames x5
    have h6 : ∀ {v7}, P v7 → P (x5 v7) := by
      intro v7 h8
      unfold x5
      exact keeps_ite (keeps_dItem hP h8) h8
    try clear_value x5
    refine keeps_ite ?_ ?_
    · exact h6 (keeps_dQuadEdge hP h4)
    · extract_lets -merge -underBinder +onlyGivenNames y10 x9
      clear_value y10
      have h11 : P x9 := keeps_setDch hP h4
      try clear_value x9
      extract_lets -merge -underBinder +onlyGivenNames x12 x13
      have h14 : P x13 := keeps_ite (keeps_dCounted hP h11) h11
      try clear_value x13
      exact h6 h14

theorem keeps_dVelocity {s : State} {n : Nat} (hs : P s) : P (State.dVelocity s n) := by
  unfold State.dVelocity
  extract_lets -merge -underBinder +onlyGivenNames x0
  clear_value x0
  refine keeps_ite ?_ ?_
  · exact hs
  · extract_lets -merge -underBinder +onlyGivenNames x1
    have h2 : P x1 := keeps_setDch hP hs
    try clear_value x1
    exact keeps_dItem hP h2

theorem keeps_dLoad {s : State} {n : Nat} {ma : Nat} {termV : Nat} {fsMa : Nat} (hs : P s) : P (State.dLoad s n ma termV
    fsMa) := by
  unfold State.dLoad
  extract_lets -merge -underBinder +onlyGivenNames x0
  have h1 : P x0 := keeps_setFld hP (keeps_setFld hP (keeps_setFld hP hs))
  try clear_value x0
  exact keeps_ite h1 (keeps_dItem hP h1)

theorem keeps_dCount {s : State} {n : Nat} {preset : Bool} (hs : P s) : P (State.dCount s n preset) := by
  unfold State.dCount
  extract_lets -merge -underBinder +onlyGivenNames x0
  clear_value x0
  extract_lets -merge -underBinder +onlyGivenNames y2 x1
  clear_value y2
  have h3 : P x1 := keeps_dCond hP (keeps_setDch hP hs)
  try clear_value x1
  exact keeps_ite (keeps_dItemOnce hP h3) h3

theorem keeps_dAddSince {s : State} {n : Nat} {v : W64} {tick : Nat} (hs : P s) : P (State.dAddSince s n v tick) := by
  unfold State.dAddSince
  extract_lets -merge -underBinder +onlyGivenNames x0
  clear_value x0
  extract_lets -merge -underBinder +onlyGivenNames x1
  exact keeps_setDch hP hs

theorem keeps_dReplay {s : State} {n : Nat} {v : W64} {tick : Nat} (hs : P s) : P (State.dReplay s n v tick) := by
  unfold State.dReplay
  exact keeps_dAddSince hP hs

theorem keeps_dRecount {s : State} {addr : Nat} {tick : Nat} (hs : P s) : P (State.dRecount s addr tick) := by
  unfold State.dRecount
  extract_lets -merge -underBinder +onlyGivenNames x0
  exact keeps_ite (keeps_dAddSince hP hs) hs

theorem keeps_dExtdrv {s : State} {n : Nat} {on_ : Bool} {termV : Nat} (hs : P s) : P (State.dExtdrv s n on_ termV) := by
  unfold State.dExtdrv
  refine keeps_ite ?_ ?_
  · exact hs
  · extract_lets -merge -underBinder +onlyGivenNames x0
    have h1 : P x0 := keeps_setFld hP hs
    try clear_value x0
    extract_lets -merge -underBinder +onlyGivenNames x2
    have h3 : P x2 := keeps_dCond hP h1
    try clear_value x2
    exact keeps_ite (keeps_ev hP h3) h3

theorem keeps_dCondition {s : State} {n : Nat} {c : DCond} {on_ : Bool} (hs : P s) : P (State.dCondition s n c on_) := by
  unfold State.dCondition
  extract_lets -merge -underBinder +onlyGivenNames x0 x1
  refine keeps_ite ?_ ?_
  · exact hs
  · split
    · exact keeps_ite hs (keeps_dCond hP hs)
    · exact keeps_ite hs (keeps_dCond hP hs)
    · extract_lets -merge -underBinder +onlyGivenNames x2
      exact keeps_ite hs (keeps_dCond hP hs)

theorem keeps_dThermal {s : State} {n : Nat} (hs : P s) : P (State.dThermal s n) := by
  unfold State.dThermal
  exact keeps_ite hs (keeps_dStage hP (keeps_ev hP (keeps_dCond hP hs)))

theorem keeps_dThermalRetry {s : State} {n : Nat} (hs : P s) : P (State.dThermalRetry s n) := by
  unfold State.dThermalRetry
  refine keeps_ite ?_ ?_
  · exact hs
  · extract_lets -merge -underBinder +onlyGivenNames x0
    have h1 : P x0 := keeps_dResume hP (keeps_dCond hP hs)
    try clear_value x0
    exact keeps_ite (keeps_bump hP h1) h1

theorem keeps_dsTrip {s : State} {i : Nat} {ma : Nat} (hs : P s) : P (State.dsTrip s i ma) := by
  unfold State.dsTrip
  refine keeps_ite ?_ ?_
  · exact hs
  · extract_lets -merge -underBinder +onlyGivenNames x0 x1
    have h2 : P x1 := hP.upd hs
    try clear_value x1
    extract_lets -merge -underBinder +onlyGivenNames x3
    have h4 : P x3 := keeps_setFld hP (keeps_setFld hP (keeps_setFld hP h2))
    try clear_value x3
    extract_lets -merge -underBinder +onlyGivenNames x5
    have h6 : P x5 := keeps_bump hP h4
    try clear_value x5
    extract_lets -merge -underBinder +onlyGivenNames x7
    have h8 : P x7 := keeps_fold (fun _ _ hf9 => keeps_ite (keeps_dStage hP (keeps_dCond hP hf9)) hf9) h6
    try clear_value x7
    exact keeps_ev hP h8

theorem keeps_dsRelease {s : State} {i : Nat} (hs : P s) : P (State.dsRelease s i) := by
  unfold State.dsRelease
  extract_lets -merge -underBinder +onlyGivenNames x0
  have h1 : P x0 := keeps_setFld hP (keeps_setFld hP hs)
  try clear_value x0
  exact keeps_fold (fun _ _ hf2 => keeps_dResume hP (keeps_dCond hP hf2)) h1

theorem keeps_dsResume {s : State} {i : Nat} (hs : P s) : P (State.dsResume s i) := by
  unfold State.dsResume
  exact keeps_ite (keeps_dsRelease hP hs) hs

theorem keeps_dsRestore {s : State} {i : Nat} (hs : P s) : P (State.dsRestore s i) := by
  unfold State.dsRestore
  exact keeps_ite (keeps_dsRelease hP hs) hs

theorem keeps_dFsOne {s : State} {n : Nat} (hs : P s) : P (State.dFsOne s n) := by
  unfold State.dFsOne
  extract_lets -merge -underBinder +onlyGivenNames x0
  exact keeps_dCond hP hs

theorem keeps_dFsChange {s : State} {i : Nat} (hs : P s) : P (State.dFsChange s i) := by
  unfold State.dFsChange
  exact keeps_fold (fun _ _ hf0 => keeps_dFsOne hP hf0) hs

theorem keeps_dReconfigure {s : State} {n : Nat} {kept : Nat} (hs : P s) : P (State.dReconfigure s n kept) := by
  unfold State.dReconfigure
  extract_lets -merge -underBinder +onlyGivenNames x0
  clear_value x0
  extract_lets -merge -underBinder +onlyGivenNames x1
  have h2 : P x1 := keeps_setDch hP hs
  try clear_value x1
  extract_lets -merge -underBinder +onlyGivenNames x3
  have h4 : P x3 := keeps_dRequal hP (keeps_setDConds hP h2)
  try clear_value x3
  extract_lets -merge -underBinder +onlyGivenNames x5
  have h6 : P x5 := keeps_ite (keeps_dItemOnce hP (keeps_dItemOnce hP h4)) h4
  try clear_value x5
  exact keeps_dStage hP (keeps_dFsOne hP h6)

theorem keeps_dSettings {s : State} {n : Nat} (hs : P s) : P (State.dSettings s n) := by
  unfold State.dSettings
  extract_lets -merge -underBinder +onlyGivenNames x0
  have h1 : P x0 := keeps_dFsOne hP hs
  try clear_value x0
  exact keeps_ite (keeps_dCond hP h1) h1

theorem keeps_dCfgApply {s : State} {n : Nat} {new : Nat} (hs : P s) : P (State.dCfgApply s n new) := by
  unfold State.dCfgApply
  extract_lets -merge -underBinder +onlyGivenNames x0 x1
  have h2 : P x1 := keeps_setReg hP hs
  try clear_value x1
  extract_lets -merge -underBinder +onlyGivenNames x3
  exact keeps_ite (keeps_fold (fun _ _ hf4 => keeps_dSettings hP hf4) h2) (keeps_fold (fun _ _ hf5 => keeps_dReconfigure hP
      hf5) h2)

theorem keeps_dReconfigDone {s : State} {n : Nat} (hs : P s) : P (State.dReconfigDone s n) := by
  unfold State.dReconfigDone
  extract_lets -merge -underBinder +onlyGivenNames x0
  clear_value x0
  refine keeps_ite ?_ ?_
  · exact hs
  · extract_lets -merge -underBinder +onlyGivenNames x1
    have h2 : P x1 := keeps_setDch hP hs
    try clear_value x1
    exact keeps_ite (keeps_dStage hP (keeps_ev hP (keeps_dCond hP h2))) h2

theorem keeps_dLinkLost {s : State} {i : Nat} (hs : P s) : P (State.dLinkLost s i) := by
  unfold State.dLinkLost
  exact keeps_fold (fun _ _ hf0 => keeps_dStage hP (keeps_dCond hP hf0)) hs

theorem keeps_dPresent {s : State} {i : Nat} {states : Nat} (hs : P s) : P (State.dPresent s i states) := by
  unfold State.dPresent
  refine keeps_fold ?_ ?_
  · intro y0 a0 hf0
    refine keeps_ite ?_ ?_
    · exact hf0
    · refine keeps_ite ?_ ?_
      · exact keeps_dCond hP hf0
      · extract_lets -merge -underBinder +onlyGivenNames x1
        extract_lets -merge -underBinder +onlyGivenNames y3 x2
        clear_value y3
        have h4 : P x2 := keeps_setDch hP hf0
        try clear_value x2
        extract_lets -merge -underBinder +onlyGivenNames x5
        have h6 : P x5 := keeps_setDConds hP h4
        try clear_value x5
        exact keeps_dItem hP (keeps_dRequal hP h6)
  · exact hs

theorem keeps_slQueue {s : State} {sl : Nat} {item : Nat} (hs : P s) : P (State.slQueue s sl item) := by
  unfold State.slQueue
  extract_lets -merge -underBinder +onlyGivenNames x0
  clear_value x0
  exact keeps_ite (keeps_setLink hP hs) hs

theorem keeps_slSafe {s : State} {n : Nat} (hs : P s) : P (State.slSafe s n) := by
  unfold State.slSafe
  extract_lets -merge -underBinder +onlyGivenNames x0 x1 x2
  have h3 : P x2 := keeps_fold (fun _ _ hf4 => keeps_slQueue hP hf4) hs
  try clear_value x2
  exact keeps_fold (fun _ _ hf5 => keeps_slQueue hP hf5) h3

theorem keeps_slSend {s : State} {sl : Nat} (hs : P s) : P (State.slSend s sl) := by
  unfold State.slSend
  extract_lets -merge -underBinder +onlyGivenNames x0
  refine keeps_ite ?_ ?_
  · exact hs
  · extract_lets -merge -underBinder +onlyGivenNames x1
    clear_value x1
    extract_lets -merge -underBinder +onlyGivenNames x2 x3 x4 x5 x6 x7 x8 x9 x10
    have h11 : P x10 := keeps_setLink hP hs
    try clear_value x10
    exact keeps_ite (keeps_bump hP h11) h11

theorem keeps_slSendAll {s : State} (hs : P s) : P (State.slSendAll s) := by
  unfold State.slSendAll
  exact keeps_fold (fun _ _ hf0 => keeps_slSend hP hf0) hs

theorem keeps_alignCheck {s : State} (hs : P s) : P (State.alignCheck s) := by
  unfold State.alignCheck
  exact keeps_ite hs (keeps_ite (keeps_markStep hP (hP.upd hs)) hs)

theorem keeps_slLost {s : State} {sl : Nat} (hs : P s) : P (State.slLost s sl) := by
  unfold State.slLost
  exact keeps_ite (keeps_aLinkLost hP hs) (keeps_dLinkLost hP hs)

theorem keeps_setSl {s : State} {sl : Nat} {st : Nat} (hs : P s) : P (State.setSl s sl st) := by
  unfold State.setSl
  exact keeps_setBit hP (keeps_setFld hP hs)

theorem keeps_slSearchAgain {s : State} {sl : Nat} (hs : P s) : P (State.slSearchAgain s sl) := by
  unfold State.slSearchAgain
  extract_lets -merge -underBinder +onlyGivenNames x0 x1
  have h2 : P x1 := keeps_setFld hP (keeps_setSl hP hs)
  try clear_value x1
  extract_lets -merge -underBinder +onlyGivenNames y4 x3
  clear_value y4
  have h5 : P x3 := keeps_setLink hP h2
  try clear_value x3
  extract_lets -merge -underBinder +onlyGivenNames y7 x6
  clear_value y7
  have h8 : P x6 := hP.upd h5
  try clear_value x6
  exact keeps_ite (keeps_slLost hP h8) h8

theorem keeps_slLoss {s : State} {sl : Nat} {down : Bool} {what : Nat} (hs : P s) : P (State.slLoss s sl down what) := by
  unfold State.slLoss
  extract_lets -merge -underBinder +onlyGivenNames x0
  have h1 : P x0 := keeps_ev hP (keeps_bump hP hs)
  try clear_value x0
  exact keeps_ite h1 (keeps_slSearchAgain hP h1)

theorem keeps_slLocked {s : State} {sl : Nat} (hs : P s) : P (State.slLocked s sl) := by
  unfold State.slLocked
  extract_lets -merge -underBinder +onlyGivenNames x0
  clear_value x0
  exact keeps_ite (keeps_setLink hP (keeps_setSl hP hs)) hs

theorem keeps_slPowerOn {s : State} {sl : Nat} (hs : P s) : P (State.slPowerOn s sl) := by
  unfold State.slPowerOn
  refine keeps_ite ?_ ?_
  · exact hs
  · extract_lets -merge -underBinder +onlyGivenNames x0
    have h1 : P x0 := keeps_setLink hP (keeps_setSl hP hs)
    try clear_value x0
    extract_lets -merge -underBinder +onlyGivenNames x2
    have h3 : P x2 := keeps_setFld hP h1
    try clear_value x2
    exact keeps_slLost hP h3

theorem keeps_slPowerOff {s : State} {sl : Nat} (hs : P s) : P (State.slPowerOff s sl) := by
  unfold State.slPowerOff
  extract_lets -merge -underBinder +onlyGivenNames x0
  have h1 : P x0 := keeps_setLink hP (keeps_setSl hP hs)
  try clear_value x0
  extract_lets -merge -underBinder +onlyGivenNames x2
  have h3 : P x2 := keeps_setFld hP (keeps_setFld hP (keeps_setFld hP h1))
  try clear_value x2
  exact keeps_slLost hP (keeps_setFld hP h3)

theorem keeps_slEnterRun {s : State} {sl : Nat} (hs : P s) : P (State.slEnterRun s sl) := by
  unfold State.slEnterRun
  extract_lets -merge -underBinder +onlyGivenNames x0
  clear_value x0
  extract_lets -merge -underBinder +onlyGivenNames x1
  have h2 : P x1 := keeps_setLink hP (keeps_setFld hP (keeps_setSl hP hs))
  try clear_value x1
  extract_lets -merge -underBinder +onlyGivenNames x3
  have h4 : P x3 := keeps_setReg64 hP h2
  try clear_value x3
  exact keeps_alignCheck hP (keeps_ev hP h4)

theorem keeps_slHelloIn {s : State} {sl : Nat} {bitmap : Nat} (hs : P s) : P (State.slHelloIn s sl bitmap) := by
  unfold State.slHelloIn
  extract_lets -merge -underBinder +onlyGivenNames x0
  clear_value x0
  refine keeps_ite ?_ ?_
  · exact hs
  · extract_lets -merge -underBinder +onlyGivenNames x1
    have h2 : P x1 := keeps_setLink hP hs
    try clear_value x1
    refine keeps_ite ?_ ?_
    · exact h2
    · extract_lets -merge -underBinder +onlyGivenNames x3
      refine keeps_ite ?_ ?_
      · exact keeps_ev hP (keeps_setSl hP h2)
      · extract_lets -merge -underBinder +onlyGivenNames x4
        have h5 : P x4 := keeps_setSl hP (keeps_setFld hP h2)
        try clear_value x4
        exact keeps_setLink hP h5

theorem keeps_slAck {s : State} {sl : Nat} {ack : Bool} (hs : P s) : P (State.slAck s sl ack) := by
  unfold State.slAck
  extract_lets -merge -underBinder +onlyGivenNames x0
  clear_value x0
  extract_lets -merge -underBinder +onlyGivenNames x1 x2
  have h3 : P x2 := keeps_setLink hP hs
  try clear_value x2
  exact keeps_ite (keeps_slEnterRun hP h3) h3

theorem keeps_slReport {s : State} {sl : Nat} (hs : P s) : P (State.slReport s sl) := by
  unfold State.slReport
  extract_lets -merge -underBinder +onlyGivenNames x0
  clear_value x0
  extract_lets -merge -underBinder +onlyGivenNames x1
  have h2 : P x1 := keeps_setFld hP hs
  try clear_value x1
  extract_lets -merge -underBinder +onlyGivenNames x3
  have h4 : P x3 := keeps_setFld hP h2
  try clear_value x3
  extract_lets -merge -underBinder +onlyGivenNames x5
  have h6 : P x5 := keeps_setLink hP h4
  try clear_value x5
  exact keeps_fold (fun _ _ hf7 => keeps_slLoss hP hf7) h6

theorem keeps_slUpAccepted {s : State} {sl : Nat} {h : Nat} {p : Nat} (hs : P s) : P (State.slUpAccepted s sl h p) := by
  unfold State.slUpAccepted
  extract_lets -merge -underBinder +onlyGivenNames x0
  have h1 : P x0 := keeps_slLocked hP (keeps_slReport hP hs)
  try clear_value x0
  extract_lets -merge -underBinder +onlyGivenNames x2
  refine keeps_ite ?_ ?_
  · exact keeps_slHelloIn hP h1
  · refine keeps_ite ?_ ?_
    · extract_lets -merge -underBinder +onlyGivenNames y4 x3
      clear_value y4
      have h5 : P x3 := keeps_ite (keeps_setLink hP h1) h1
      try clear_value x3
      extract_lets -merge -underBinder +onlyGivenNames x6
      have h7 : P x6 := keeps_slAck hP h5
      try clear_value x6
      exact keeps_ite (keeps_dPresent hP h7) h7
    · exact h1

theorem keeps_slDelay {s : State} {sl : Nat} (hs : P s) : P (State.slDelay s sl) := by
  unfold State.slDelay
  extract_lets -merge -underBinder +onlyGivenNames x0
  extract_lets -merge -underBinder +onlyGivenNames y2 x1
  clear_value y2
  have h3 : P x1 := hP.upd hs
  try clear_value x1
  exact keeps_ite (keeps_bump hP h3) h3

theorem keeps_slApply {s : State} {sl : Nat} {payload : Nat} (hs : P s) : P (State.slApply s sl payload) := by
  unfold State.slApply
  refine keeps_fold ?_ ?_
  · intro y0 a0 hf0
    refine keeps_ite ?_ ?_
    · extract_lets -merge -underBinder +onlyGivenNames x1
      exact keeps_ite (keeps_setAch hP hf0) hf0
    · extract_lets -merge -underBinder +onlyGivenNames x2
      exact keeps_ite (keeps_setDch hP hf0) hf0
  · exact hs

theorem keeps_slHold {s : State} {sl : Nat} {heard : Nat} (hs : P s) : P (State.slHold s sl heard) := by
  unfold State.slHold
  extract_lets -merge -underBinder +onlyGivenNames y1 x0
  clear_value y1
  have h2 : P x0 := keeps_setLink hP hs
  try clear_value x0
  exact keeps_fold (fun _ _ hf3 => keeps_ite (keeps_aStage hP hf3) (keeps_dStage hP hf3)) h2

theorem keeps_slDownAccepted {s : State} {sl : Nat} {h : Nat} {p : Nat} (hs : P s) : P (State.slDownAccepted s sl h p) := by
  unfold State.slDownAccepted
  extract_lets -merge -underBinder +onlyGivenNames x0
  clear_value x0
  extract_lets -merge -underBinder +onlyGivenNames x1
  refine keeps_ite ?_ ?_
  · exact keeps_ite (keeps_slHold hP hs) (keeps_setLink hP hs)
  · refine keeps_ite ?_ ?_
    · exact keeps_slHold hP hs
    · refine keeps_ite ?_ ?_
      · exact keeps_setLink hP hs
      · extract_lets -merge -underBinder +onlyGivenNames x2
        have h3 : P x2 := keeps_ite (keeps_setLink hP hs) hs
        try clear_value x2
        exact keeps_ite (keeps_slApply hP h3) h3

theorem keeps_slDown {s : State} {sl : Nat} {line : BitVec 625} (hs : P s) : P (State.slDown s sl line) := by
  unfold State.slDown
  extract_lets -merge -underBinder +onlyGivenNames x0
  clear_value x0
  extract_lets -merge -underBinder +onlyGivenNames x1
  clear_value x1
  extract_lets -merge -underBinder +onlyGivenNames x2 x3
  refine keeps_ite ?_ ?_
  · exact hs
  · extract_lets -merge -underBinder +onlyGivenNames x4
    have h5 : P x4 := keeps_setLink hP hs
    try clear_value x4
    refine keeps_ite ?_ ?_
    · exact keeps_bump hP h5
    · refine keeps_ite ?_ ?_
      · exact keeps_slHold hP h5
      · extract_lets -merge -underBinder +onlyGivenNames x6
        have h7 : P x6 := keeps_ite (keeps_setReg hP h5) h5
        try clear_value x6
        exact keeps_ite (keeps_slDownAccepted hP h7) h7

theorem keeps_slUp {s : State} {sl : Nat} {line : BitVec 625} (hs : P s) : P (State.slUp s sl line) := by
  unfold State.slUp
  extract_lets -merge -underBinder +onlyGivenNames x0
  clear_value x0
  extract_lets -merge -underBinder +onlyGivenNames x1
  clear_value x1
  extract_lets -merge -underBinder +onlyGivenNames x2
  have h3 : P x2 := keeps_setLink hP hs
  try clear_value x2
  extract_lets -merge -underBinder +onlyGivenNames x4
  have h5 : P x4 := keeps_setFld hP h3
  try clear_value x4
  extract_lets -merge -underBinder +onlyGivenNames x6
  have h7 : P x6 := keeps_ite (keeps_bump hP h5) h5
  try clear_value x6
  refine keeps_ite ?_ ?_
  · exact keeps_bump hP h7
  · refine keeps_ite ?_ ?_
    · exact keeps_slLoss hP h7
    · extract_lets -merge -underBinder +onlyGivenNames x8
      have h9 : P x8 := keeps_ite (keeps_setReg hP h7) h7
      try clear_value x8
      exact keeps_ite (keeps_slUpAccepted hP h9) (keeps_ite (keeps_slDelay hP h9) h9)

theorem keeps_slFrame {s : State} {sl : Nat} {down : Bool} {line : BitVec 625} (hs : P s) : P (State.slFrame s sl down line)
    := by
  unfold State.slFrame
  exact keeps_ite hs (keeps_ite (keeps_slDown hP hs) (keeps_slUp hP hs))

theorem keeps_slRunTimeout {s : State} {sl : Nat} (hs : P s) : P (State.slRunTimeout s sl) := by
  unfold State.slRunTimeout
  exact keeps_ite hs (keeps_alignCheck hP (keeps_ev hP (keeps_setLink hP hs)))

theorem keeps_slOutside {s : State} {sl : Nat} (hs : P s) : P (State.slOutside s sl) := by
  unfold State.slOutside
  exact keeps_ite hs (keeps_setLink hP hs)

theorem keeps_setCan {s : State} {n : Nat} {x : CanCh} (hs : P s) : P (State.setCan s n x) := by
  unfold State.setCan
  exact hP.upd hs

theorem keeps_canComplete {s : State} {n : Nat} {f : CanFrame} {status : Nat} {cause : Nat} {sof : Nat} (hs : P s) : P
    (State.canComplete s n f status cause sof) := by
  unfold State.canComplete
  split
  · exact hs
  · extract_lets -merge -underBinder +onlyGivenNames x0 x1
    exact keeps_tillComplete hP hs

theorem keeps_canRemove {s : State} {n : Nat} {f : CanFrame} (hs : P s) : P (State.canRemove s n f) := by
  unfold State.canRemove
  extract_lets -merge -underBinder +onlyGivenNames x0
  clear_value x0
  exact keeps_setCan hP hs

theorem keeps_canDiscard {s : State} {n : Nat} {cause : Nat} {f : CanFrame} (hs : P s) : P (State.canDiscard s n cause f) :=
    by
  unfold State.canDiscard
  extract_lets -merge -underBinder +onlyGivenNames x0
  have h1 : P x0 := keeps_bump hP (keeps_canRemove hP hs)
  try clear_value x0
  extract_lets -merge -underBinder +onlyGivenNames x2
  have h3 : P x2 := keeps_ite (keeps_canComplete hP h1) h1
  try clear_value x2
  exact keeps_ev hP h3

theorem keeps_canExpire {s : State} {n : Nat} (hs : P s) : P (State.canExpire s n) := by
  unfold State.canExpire
  exact keeps_fold (fun _ _ hf0 => keeps_canDiscard hP hf0) hs

theorem keeps_canOffer {s : State} {n : Nat} (hs : P s) : P (State.canOffer s n) := by
  unfold State.canOffer
  refine keeps_ite ?_ ?_
  · exact hs
  · extract_lets -merge -underBinder +onlyGivenNames x0
    have h1 : P x0 := keeps_canExpire hP hs
    try clear_value x0
    extract_lets -merge -underBinder +onlyGivenNames x2
    clear_value x2
    exact keeps_setCan hP h1

theorem keeps_canOfferIdle {s : State} {n : Nat} (hs : P s) : P (State.canOfferIdle s n) := by
  unfold State.canOfferIdle
  exact keeps_ite (keeps_canOffer hP hs) hs

theorem keeps_canForget {s : State} {n : Nat} (hs : P s) : P (State.canForget s n) := by
  unfold State.canForget
  extract_lets -merge -underBinder +onlyGivenNames x0
  clear_value x0
  exact keeps_setCan hP hs

theorem keeps_canRead {s : State} {n : Nat} {ecc : List Ecc} (hs : P s) : P (State.canRead s n ecc) := by
  unfold State.canRead
  extract_lets -merge -underBinder +onlyGivenNames x0 x1
  clear_value x1
  split
  · exact hs
  · extract_lets -merge -underBinder +onlyGivenNames x2
    clear_value x2
    refine keeps_ite ?_ ?_
    · exact hs
    · extract_lets -merge -underBinder +onlyGivenNames x3 x4 x5 x6 x7 x8 x9 x10 x11
      refine keeps_ite ?_ ?_
      · exact hs
      · split
        · rename_i m12 m13 e14
          have h15 : P m13 := keeps_of_eq (congrArg (fun p => Prod.snd (p)) e14) (keeps_tillTake hP hs)
          extract_lets -merge -underBinder +onlyGivenNames x16
          have h17 : P x16 := keeps_tillCmd hP h15
          try clear_value x16
          extract_lets -merge -underBinder +onlyGivenNames x18 x19 x20
          clear_value x20
          extract_lets -merge -underBinder +onlyGivenNames x21
          have h22 : P x21 := by
            unfold x21
            clear_value x6
            clear_value x10
            split
            · exact keeps_tillReserve hP h17
            · exact h17
          try clear_value x21
          refine keeps_ite ?_ ?_
          · extract_lets -merge -underBinder +onlyGivenNames x23
            have h24 : P x23 := keeps_bump hP h22
            try clear_value x23
            exact keeps_ite (keeps_canComplete hP h24) h24
          · exact keeps_canOfferIdle hP (keeps_setCan hP h22)

theorem keeps_canFilter {s : State} {n : Nat} {f : CanRx} {loop : Bool} (hs : P s) : P (State.canFilter s n f loop) := by
  unfold State.canFilter
  extract_lets -merge -underBinder +onlyGivenNames x0
  have h1 : P x0 := keeps_bump hP hs
  try clear_value x0
  extract_lets -merge -underBinder +onlyGivenNames x2
  refine keeps_ite ?_ ?_
  · exact keeps_bump hP h1
  · refine keeps_ite ?_ ?_
    · exact h1
    · extract_lets -merge -underBinder +onlyGivenNames x3
      clear_value x3
      extract_lets -merge -underBinder +onlyGivenNames x4
      have h5 : P x4 := keeps_fold (fun _ _ hf6 => keeps_ite (keeps_deliver hP hf6) hf6) h1
      try clear_value x4
      split
      · extract_lets -merge -underBinder +onlyGivenNames x7
        clear_value x7
        refine keeps_ite ?_ ?_
        · extract_lets -merge -underBinder +onlyGivenNames x8
          have h9 : P x8 := keeps_bump hP h5
          try clear_value x8
          exact keeps_ite h9 (keeps_ev hP (keeps_setCan hP h9))
        · extract_lets -merge -underBinder +onlyGivenNames x10
          exact keeps_setCan hP h5
      · exact h5

theorem keeps_canConfine {s : State} {n : Nat} (hs : P s) : P (State.canConfine s n) := by
  unfold State.canConfine
  extract_lets -merge -underBinder +onlyGivenNames x0 x1
  exact keeps_ite (keeps_ev hP (keeps_bump hP (keeps_setFld hP hs))) (keeps_ite (keeps_setFld hP hs) hs)

theorem keeps_canDetect {s : State} {n : Nat} {code : CanErr} {dataPhase : Bool} (hs : P s) : P (State.canDetect s n code
    dataPhase) := by
  unfold State.canDetect
  exact keeps_setReg hP (keeps_bump hP hs)

theorem keeps_canRecUp {s : State} {n : Nat} {by_ : Nat} (hs : P s) : P (State.canRecUp s n by_) := by
  unfold State.canRecUp
  exact keeps_ite hs (keeps_canConfine hP (keeps_setFld hP hs))

theorem keeps_canRecDown {s : State} {n : Nat} (hs : P s) : P (State.canRecDown s n) := by
  unfold State.canRecDown
  extract_lets -merge -underBinder +onlyGivenNames x0
  refine keeps_ite ?_ ?_
  · exact hs
  · refine keeps_ite ?_ ?_
    · exact keeps_canConfine hP (keeps_setFld hP hs)
    · extract_lets -merge -underBinder +onlyGivenNames x1
      exact keeps_canConfine hP (keeps_setFld hP (keeps_draw hP hs))

theorem keeps_canReceive {s : State} {n : Nat} {f : CanRx} (hs : P s) : P (State.canReceive s n f) := by
  unfold State.canReceive
  exact keeps_ite hs (keeps_ite (keeps_ite (keeps_setCan hP (keeps_setFld hP hs)) (keeps_canOffer hP (keeps_canRecUp hP
      (keeps_canDetect hP hs)))) (keeps_canOffer hP (keeps_canRecDown hP (keeps_canFilter hP hs))))

theorem keeps_canRxWrite {s : State} {n : Nat} (hs : P s) : P (State.canRxWrite s n) := by
  unfold State.canRxWrite
  extract_lets -merge -underBinder +onlyGivenNames x0
  clear_value x0
  split
  · extract_lets -merge -underBinder +onlyGivenNames x1
    exact keeps_ite hs (keeps_fold (fun _ _ hf2 => keeps_tillPut hP hf2) (keeps_setCan hP hs))
  · exact hs

theorem keeps_canStart {s : State} {n : Nat} (hs : P s) : P (State.canStart s n) := by
  unfold State.canStart
  extract_lets -merge -underBinder +onlyGivenNames y1 x0
  clear_value y1
  have h2 : P x0 := keeps_setCan hP hs
  try clear_value x0
  exact keeps_setFld hP h2

theorem keeps_canNext {s : State} {n : Nat} (hs : P s) : P (State.canNext s n) := by
  unfold State.canNext
  exact keeps_ite (keeps_canOffer hP hs) (keeps_canStart hP hs)

theorem keeps_canSent {s : State} {n : Nat} {sof : Nat} {tdcv : Nat} (hs : P s) : P (State.canSent s n sof tdcv) := by
  unfold State.canSent
  split
  · exact hs
  · refine keeps_ite ?_ ?_
    · exact hs
    · extract_lets -merge -underBinder +onlyGivenNames x0 x1
      clear_value x1
      extract_lets -merge -underBinder +onlyGivenNames x2
      have h3 : P x2 := keeps_bump hP (keeps_canRemove hP hs)
      try clear_value x2
      extract_lets -merge -underBinder +onlyGivenNames x4
      have h5 : P x4 := keeps_ite (keeps_setFld hP h3) h3
      try clear_value x4
      extract_lets -merge -underBinder +onlyGivenNames x6
      have h7 : P x6 := keeps_canConfine hP (keeps_setFld hP h5)
      try clear_value x6
      extract_lets -merge -underBinder +onlyGivenNames x8
      have h9 : P x8 := keeps_ite (keeps_canComplete hP h7) h7
      try clear_value x8
      extract_lets -merge -underBinder +onlyGivenNames x10
      have h11 : P x10 := keeps_ite (keeps_canFilter hP h9) h9
      try clear_value x10
      exact keeps_canNext hP h11

theorem keeps_canTxError {s : State} {n : Nat} {code : CanErr} {dataPhase : Bool} {exempt : Bool} (hs : P s) : P
    (State.canTxError s n code dataPhase exempt) := by
  unfold State.canTxError
  split
  · exact hs
  · refine keeps_ite ?_ ?_
    · exact hs
    · extract_lets -merge -underBinder +onlyGivenNames x0
      have h1 : P x0 := keeps_canDetect hP hs
      try clear_value x0
      extract_lets -merge -underBinder +onlyGivenNames x2
      have h3 : P x2 := keeps_ite h1 (keeps_canRemove hP h1)
      try clear_value x2
      extract_lets -merge -underBinder +onlyGivenNames x4
      refine keeps_ite ?_ ?_
      · extract_lets -merge -underBinder +onlyGivenNames x5
        have h6 : P x5 := keeps_setFld hP (keeps_setFld hP (keeps_setFld hP h3))
        try clear_value x5
        extract_lets -merge -underBinder +onlyGivenNames y8 x7
        clear_value y8
        have h9 : P x7 := keeps_setCan hP (keeps_bump hP h6)
        try clear_value x7
        exact keeps_ev hP h9
      · extract_lets -merge -underBinder +onlyGivenNames x10
        have h11 : P x10 := keeps_canConfine hP (keeps_setFld hP h3)
        try clear_value x10
        extract_lets -merge -underBinder +onlyGivenNames x12
        clear_value x12
        extract_lets -merge -underBinder +onlyGivenNames x13
        clear_value x13
        extract_lets -merge -underBinder +onlyGivenNames x14
        have h15 : P x14 := keeps_setCan hP h11
        try clear_value x14
        extract_lets -merge -underBinder +onlyGivenNames x16
        have h17 : P x16 := keeps_ite (keeps_canDiscard hP h15) h15
        try clear_value x16
        exact keeps_canNext hP h17

theorem keeps_canBusError {s : State} {n : Nat} {code : CanErr} {dataPhase : Bool} {first : Bool} (hs : P s) : P
    (State.canBusError s n code dataPhase first) := by
  unfold State.canBusError
  exact keeps_ite hs (keeps_canOffer hP (keeps_canRecUp hP (keeps_canDetect hP hs)))

theorem keeps_canRecovered {s : State} {n : Nat} (hs : P s) : P (State.canRecovered s n) := by
  unfold State.canRecovered
  exact keeps_canOffer hP (keeps_canExpire hP hs)

theorem keeps_canRecover {s : State} {n : Nat} (hs : P s) : P (State.canRecover s n) := by
  unfold State.canRecover
  refine keeps_ite ?_ ?_
  · exact hs
  · extract_lets -merge -underBinder +onlyGivenNames x0
    have h1 : P x0 := keeps_setFld hP (keeps_setFld hP (keeps_setFld hP hs))
    try clear_value x0
    extract_lets -merge -underBinder +onlyGivenNames x2
    have h3 : P x2 := keeps_ev hP (keeps_setFld hP h1)
    try clear_value x2
    exact keeps_canRecovered hP h3

theorem keeps_canIntegrated {s : State} {n : Nat} (hs : P s) : P (State.canIntegrated s n) := by
  unfold State.canIntegrated
  exact keeps_ite hs (keeps_canRecovered hP (keeps_canConfine hP (keeps_setFld hP hs)))

theorem keeps_canCfgWrite {s : State} {n : Nat} {off : Nat} {v : W32} (hs : P s) : P (State.canCfgWrite s n off v) := by
  unfold State.canCfgWrite
  exact keeps_setCan hP hs

theorem keeps_canCfgApply {s : State} {n : Nat} (hs : P s) : P (State.canCfgApply s n) := by
  unfold State.canCfgApply
  extract_lets -merge -underBinder +onlyGivenNames x0
  clear_value x0
  refine keeps_ite ?_ ?_
  · exact hs
  · extract_lets -merge -underBinder +onlyGivenNames x1
    have h2 : ∀ {v3 v4 v5}, P v5 → P (x1 v3 v4 v5) := by
      intro v3 v4 v5 h6
      unfold x1
      split
      · exact keeps_setReg hP h6
      · exact h6
    try clear_value x1
    extract_lets -merge -underBinder +onlyGivenNames x7 x8
    have h9 : P x8 := h2 (h2 (h2 (h2 hs)))
    try clear_value x8
    extract_lets -merge -underBinder +onlyGivenNames x10
    have h11 : P x10 := keeps_setCan hP (keeps_setFld hP h9)
    try clear_value x10
    extract_lets -merge -underBinder +onlyGivenNames x12
    have h13 : P x12 := keeps_setFld hP (keeps_setFld hP h11)
    try clear_value x12
    extract_lets -merge -underBinder +onlyGivenNames x14
    have h15 : P x14 := keeps_ite (keeps_fold (fun _ _ hf16 => keeps_canDiscard hP hf16) h13) h13
    try clear_value x14
    exact keeps_ev hP (keeps_canStart hP h15)

theorem keeps_canTrip {s : State} {n : Nat} (hs : P s) : P (State.canTrip s n) := by
  unfold State.canTrip
  exact keeps_ite hs (keeps_ev hP (keeps_canStart hP (keeps_setCan hP hs)))

theorem keeps_canRestart {s : State} {n : Nat} (hs : P s) : P (State.canRestart s n) := by
  unfold State.canRestart
  exact keeps_ite hs (keeps_ev hP (keeps_canStart hP (keeps_setCan hP hs)))

theorem keeps_canCease {s : State} (hs : P s) : P (State.canCease s) := by
  unfold State.canCease
  refine keeps_fold ?_ ?_
  · intro y0 a0 hf0
    extract_lets -merge -underBinder +onlyGivenNames x1
    clear_value x1
    extract_lets -merge -underBinder +onlyGivenNames x2 x3
    have h4 : P x3 := by
      unfold x3
      split
      · extract_lets -merge -underBinder +onlyGivenNames x5
        clear_value x5
        exact keeps_setTill hP hf0
      · exact hf0
    try clear_value x3
    extract_lets -merge -underBinder +onlyGivenNames x6 x7
    have h8 : P x7 := keeps_setCan hP h4
    try clear_value x7
    exact keeps_ite (keeps_canStart hP h8) h8
  · exact hs

theorem keeps_canBegin {s : State} (hs : P s) : P (State.canBegin s) := by
  unfold State.canBegin
  exact keeps_fold (fun _ _ hf0 => keeps_ite hf0 (keeps_canStart hP hf0)) hs

end Sys2Proof.Machine
end

