-- ==== Sys2Proof/Laws/KeepsNet.lean ====
section
/-! SUPPORT. Every operation keeps a Closed property (see KeepsBase): network, safe transport, base plate and windows. -/

namespace Sys2Proof.Machine

variable {P : State → Prop} (hP : Closed P)
include hP

theorem keeps_llSend {s : State} {kind : Nat} {ws : List W64} (hs : P s) : P (State.llSend s kind ws) := by
  unfold State.llSend
  extract_lets -merge -underBinder +onlyGivenNames x0
  clear_value x0
  extract_lets -merge -underBinder +onlyGivenNames x1
  exact hP.upd hs

theorem keeps_setPair {s : State} {st : Nat} (hs : P s) : P (State.setPair s st) := by
  unfold State.setPair
  extract_lets -merge -underBinder +onlyGivenNames x0 x1 x2
  have h3 : P x2 := keeps_setFld hP hs
  try clear_value x2
  extract_lets -merge -underBinder +onlyGivenNames x4
  have h5 : P x4 := keeps_ite (keeps_setReg64 hP h3) h3
  try clear_value x4
  exact keeps_ite (hP.upd h5) h5

theorem keeps_standAccounts {s : State} (hs : P s) : P (State.standAccounts s) := by
  unfold State.standAccounts
  refine keeps_fold ?_ ?_
  · intro y0 a0 hf0
    extract_lets -merge -underBinder +onlyGivenNames x1
    refine keeps_ite ?_ ?_
    · extract_lets -merge -underBinder +onlyGivenNames x2
      have h3 : P x2 := keeps_setAcctState hP (keeps_stopAccount hP hf0)
      try clear_value x2
      exact hP.upd h3
    · exact hf0
  · exact hs

theorem keeps_pairCease {s : State} {st : Nat} (hs : P s) : P (State.pairCease s st) := by
  unfold State.pairCease
  extract_lets -merge -underBinder +onlyGivenNames x0
  have h1 : P x0 := keeps_hCease hP (keeps_standAccounts hP (keeps_setPair hP hs))
  try clear_value x0
  extract_lets -merge -underBinder +onlyGivenNames x2
  have h3 : P x2 := keeps_canCease hP h1
  try clear_value x2
  exact hP.upd h3

theorem keeps_relinquish {s : State} {cause : Nat} (hs : P s) : P (State.relinquish s cause) := by
  unfold State.relinquish
  refine keeps_ite ?_ ?_
  · extract_lets -merge -underBinder +onlyGivenNames x0
    have h1 : P x0 := keeps_llSend hP hs
    try clear_value x0
    exact keeps_pairCease hP (keeps_ev hP h1)
  · exact hs

theorem keeps_stationConflict {s : State} (hs : P s) : P (State.stationConflict s).2 := by
  unfold State.stationConflict
  extract_lets -merge -underBinder +onlyGivenNames x0 x1
  have h2 : P x1 := keeps_ev hP (keeps_bump hP hs)
  try clear_value x1
  exact keeps_ite h2 (keeps_relinquish hP h2)

theorem keeps_xcvrInsert {s : State} {p : Nat} (hs : P s) : P (State.xcvrInsert s p) := by
  unfold State.xcvrInsert
  exact keeps_setFld hP hs

theorem keeps_xcvrRead {s : State} {p : Nat} {id : XcvrId} (hs : P s) : P (State.xcvrRead s p id) := by
  unfold State.xcvrRead
  exact keeps_ite hs (keeps_ite (keeps_setFld hP hs) (keeps_ev hP (keeps_setFld hP hs)))

theorem keeps_announceFrom {s : State} {src : Nat} (hs : P s) : P (State.announceFrom s src) := by
  unfold State.announceFrom
  exact keeps_netSend hP hs

theorem keeps_announce {s : State} (hs : P s) : P (State.announce s) := by
  unfold State.announce
  extract_lets -merge -underBinder +onlyGivenNames x0 x1
  have h2 : P x1 := keeps_announceFrom hP hs
  try clear_value x1
  extract_lets -merge -underBinder +onlyGivenNames x3
  have h4 : P x3 := keeps_ite (keeps_announceFrom hP h2) h2
  try clear_value x3
  exact hP.upd h4

theorem keeps_segUpdate {s : State} {plane : Nat} (hs : P s) : P (State.segUpdate s plane) := by
  unfold State.segUpdate
  split
  · extract_lets -merge -underBinder +onlyGivenNames x0 x1
    have h2 : P x1 := keeps_setFld hP (keeps_setFld hP hs)
    try clear_value x1
    extract_lets -merge -underBinder +onlyGivenNames x3
    have h4 : P x3 := keeps_setFld hP h2
    try clear_value x3
    exact keeps_ite h4 (keeps_ev hP (keeps_announce hP h4))

theorem keeps_portRoleIs {s : State} {p : Nat} {role : Nat} {neighbour : Nat} (hs : P s) : P (State.portRoleIs s p role
    neighbour) := by
  unfold State.portRoleIs
  split
  · extract_lets -merge -underBinder +onlyGivenNames x0
    have h1 : P x0 := keeps_setFld hP (keeps_setFld hP hs)
    try clear_value x0
    extract_lets -merge -underBinder +onlyGivenNames y3 x2
    clear_value y3
    have h4 : P x2 := hP.upd h1
    try clear_value x2
    exact keeps_ite h4 (keeps_ev hP h4)

theorem keeps_supervised {s : State} {p : Nat} (hs : P s) : P (State.supervised s p) := by
  unfold State.supervised
  exact hP.upd hs

theorem keeps_linkUp {s : State} {p : Nat} (hs : P s) : P (State.linkUp s p) := by
  unfold State.linkUp
  refine keeps_ite ?_ ?_
  · exact hs
  · extract_lets -merge -underBinder +onlyGivenNames x0
    have h1 : P x0 := keeps_setFld hP (keeps_setFld hP (keeps_setFld hP hs))
    try clear_value x0
    extract_lets -merge -underBinder +onlyGivenNames y3 x2
    clear_value y3
    have h4 : P x2 := hP.upd h1
    try clear_value x2
    exact keeps_announce hP (keeps_segUpdate hP h4)

theorem keeps_linkDown {s : State} {p : Nat} (hs : P s) : P (State.linkDown s p) := by
  unfold State.linkDown
  refine keeps_ite ?_ ?_
  · exact hs
  · extract_lets -merge -underBinder +onlyGivenNames x0
    have h1 : P x0 := keeps_setFld hP (keeps_setFld hP (keeps_setFld hP hs))
    try clear_value x0
    exact keeps_segUpdate hP (keeps_ev hP h1)

theorem keeps_portOff {s : State} {p : Nat} (hs : P s) : P (State.portOff s p) := by
  unfold State.portOff
  exact keeps_setFld hP (keeps_linkDown hP hs)

theorem keeps_xcvrRemove {s : State} {p : Nat} (hs : P s) : P (State.xcvrRemove s p) := by
  unfold State.xcvrRemove
  exact keeps_setFld hP hs

theorem keeps_supervise {s : State} (hs : P s) : P (State.supervise s) := by
  unfold State.supervise
  refine keeps_fold ?_ ?_
  · intro y0 a0 hf0
    extract_lets -merge -underBinder +onlyGivenNames x1 x2
    refine keeps_ite ?_ ?_
    · exact hf0
    · extract_lets -merge -underBinder +onlyGivenNames x3
      have h4 : P x3 := keeps_emit hP hf0
      try clear_value x3
      exact keeps_ite (keeps_emit hP h4) h4
  · exact hs

theorem keeps_dropMalformed {s : State} {f : Frame} (hs : P s) : P (State.dropMalformed s f) := by
  unfold State.dropMalformed
  extract_lets -merge -underBinder +onlyGivenNames x0
  have h1 : P x0 := keeps_ite hs (keeps_bump hP hs)
  try clear_value x0
  exact keeps_bump hP h1

theorem keeps_meetStation {s : State} (hs : P s) : P (State.meetStation s) := by
  unfold State.meetStation
  split
  · rename_i m0 m1 e2
    have h3 : P m1 := keeps_of_eq (congrArg (fun p => Prod.snd (p)) e2) (keeps_stationConflict hP hs)
    exact keeps_ite (keeps_announceFrom hP h3) h3

theorem keeps_receive {s : State} {f : Frame} {kind : Nat} {bad : Bool} (hs : P s) : P (State.receive s f kind bad).2 := by
  unfold State.receive
  extract_lets -merge -underBinder +onlyGivenNames x0 x1
  refine keeps_ifQ (Q := fun p => P (Prod.snd p)) ?_ ?_
  · exact hs
  · refine keeps_ifQ (Q := fun p => P (Prod.snd p)) ?_ ?_
    · exact hs
    · extract_lets -merge -underBinder +onlyGivenNames x2
      have h3 : P x2 := keeps_ite (keeps_bump hP hs) hs
      try clear_value x2
      refine keeps_ifQ (Q := fun p => P (Prod.snd p)) ?_ ?_
      · exact keeps_dropMalformed hP h3
      · refine keeps_ifQ (Q := fun p => P (Prod.snd p)) ?_ ?_
        · exact keeps_meetStation hP h3
        · refine keeps_ifQ (Q := fun p => P (Prod.snd p)) ?_ ?_
          · exact keeps_bump hP h3
          · refine keeps_ifQ (Q := fun p => P (Prod.snd p)) ?_ ?_
            · exact h3
            · extract_lets -merge -underBinder +onlyGivenNames x4
              split
              · exact keeps_ifQ (Q := fun p => P (Prod.snd p)) (hP.upd h3) (hP.upd h3)

theorem keeps_superviseOn {s : State} {f : Frame} (hs : P s) : P (State.superviseOn s f) := by
  unfold State.superviseOn
  extract_lets -merge -underBinder +onlyGivenNames x0 x1
  exact keeps_ite hs (keeps_bump hP (hP.upd hs))

theorem keeps_superviseIn {s : State} {f : Frame} (hs : P s) : P (State.superviseIn s f) := by
  unfold State.superviseIn
  refine keeps_ite ?_ ?_
  · exact hs
  · extract_lets -merge -underBinder +onlyGivenNames x0 x1
    refine keeps_ite ?_ ?_
    · exact keeps_dropMalformed hP hs
    · refine keeps_ite ?_ ?_
      · exact keeps_meetStation hP hs
      · extract_lets -merge -underBinder +onlyGivenNames x2
        have h3 : P x2 := keeps_bump hP hs
        try clear_value x2
        extract_lets -merge -underBinder +onlyGivenNames x4 x5 x6
        refine keeps_ite ?_ ?_
        · refine keeps_ite ?_ ?_
          · exact h3
          · extract_lets -merge -underBinder +onlyGivenNames x7
            have h8 : P x7 := keeps_portRoleIs hP h3
            try clear_value x7
            exact keeps_segUpdate hP (keeps_ev hP h8)
        · extract_lets -merge -underBinder +onlyGivenNames x9
          have h10 : P x9 := keeps_supervised hP h3
          try clear_value x9
          extract_lets -merge -underBinder +onlyGivenNames x11
          have h12 : P x11 := keeps_ite (keeps_portRoleIs hP h10) (keeps_ite (keeps_portRoleIs hP h10) h10)
          try clear_value x11
          extract_lets -merge -underBinder +onlyGivenNames x13
          clear_value x13
          extract_lets -merge -underBinder +onlyGivenNames y15 x14
          clear_value y15
          have h16 : P x14 := hP.upd h12
          try clear_value x14
          exact keeps_superviseOn hP (keeps_segUpdate hP h16)

theorem keeps_segTimeout {s : State} {p : Nat} {member : Option Nat} (hs : P s) : P (State.segTimeout s p member) := by
  unfold State.segTimeout
  split
  · extract_lets -merge -underBinder +onlyGivenNames x0
    split
    · exact keeps_ite (keeps_segUpdate hP (hP.upd hs)) hs
    · exact hs
  · exact keeps_ite (keeps_segUpdate hP (keeps_portRoleIs hP hs)) hs

theorem keeps_forward {s : State} {p : Nat} {source : Nat} {dest : Nat} {fcs : Bool} {len : Nat} (hs : P s) : P
    (State.forward s p source dest fcs len) := by
  unfold State.forward
  extract_lets -merge -underBinder +onlyGivenNames x0
  refine keeps_ite ?_ ?_
  · exact hs
  · extract_lets -merge -underBinder +onlyGivenNames x1
    have h2 : P x1 := keeps_ite hs (keeps_bump hP hs)
    try clear_value x1
    extract_lets -merge -underBinder +onlyGivenNames x3
    have h4 : P x3 := keeps_ite (keeps_bump hP h2) h2
    try clear_value x3
    extract_lets -merge -underBinder +onlyGivenNames x5
    have h6 : P x5 := keeps_ite h4 (keeps_bump hP h4)
    try clear_value x5
    exact keeps_ite (keeps_bump hP h6) h6

theorem keeps_refuseQueued {s : State} {peer : Nat} (hs : P s) : P (State.refuseQueued s peer) := by
  unfold State.refuseQueued
  refine keeps_fold ?_ ?_
  · intro y0 a0 hf0
    split
    · exact keeps_fold (fun _ _ hf1 => keeps_complete hP hf1) (keeps_setQueue hP hf0)
  · exact hs

theorem keeps_announceIn {s : State} {f : Frame} (hs : P s) : P (State.announceIn s f) := by
  unfold State.announceIn
  extract_lets -merge -underBinder +onlyGivenNames x0 x1 x2
  have h3 : ∀ {v4}, P v4 → P (x2 v4) := by
    intro v4 h5
    unfold x2
    extract_lets -merge -underBinder +onlyGivenNames x6
    clear_value x6
    exact keeps_setPeer hP h5
  try clear_value x2
  extract_lets -merge -underBinder +onlyGivenNames x7
  refine keeps_ite ?_ ?_
  · exact keeps_ite (keeps_dropMalformed hP hs) hs
  · split
    · rename_i m8 m9 e10
      have h11 : P m9 := keeps_of_eq (congrArg (fun p => Prod.snd (p)) e10) (keeps_receive hP hs)
      extract_lets -merge -underBinder +onlyGivenNames x12
      have h13 : P x12 := keeps_ite (h3 h11) h11
      try clear_value x12
      refine keeps_ite ?_ ?_
      · exact h13
      · extract_lets -merge -underBinder +onlyGivenNames x14 x15
        extract_lets -merge -underBinder +onlyGivenNames y17 x16
        clear_value y17
        clear_value x16
        refine keeps_ite ?_ ?_
        · extract_lets -merge -underBinder +onlyGivenNames x18
          have h19 : P x18 := keeps_setPeer hP h13
          try clear_value x18
          exact keeps_ite h19 (keeps_refuseQueued hP (keeps_ev hP h19))
        · extract_lets -merge -underBinder +onlyGivenNames x20
          exact keeps_setPeer hP h13

theorem keeps_peerLost {s : State} {a : Nat} (hs : P s) : P (State.peerLost s a) := by
  unfold State.peerLost
  extract_lets -merge -underBinder +onlyGivenNames x0
  clear_value x0
  extract_lets -merge -underBinder +onlyGivenNames x1
  exact keeps_ite (keeps_ev hP (keeps_setPeer hP hs)) hs

theorem keeps_publish {s : State} {n : Nat} (hs : P s) : P (State.publish s n) := by
  unfold State.publish
  refine keeps_ite ?_ ?_
  · exact hs
  · extract_lets -merge -underBinder +onlyGivenNames x0 x1 x2 x3
    extract_lets -merge -underBinder +onlyGivenNames y5 y6 x4
    clear_value y6
    have h7 : P x4 := by
      unfold x4
      have h8 : P y5 := keeps_setReg hP hs
      try clear_value y5
      exact hP.upd h8
    try clear_value x4
    exact keeps_netSend hP h7

theorem keeps_pubRecord {s : State} {source : Nat} {degr : Bool} {head : W64} {value : W64} {stamp : W64} (hs : P s) : P
    (State.pubRecord s source degr head value stamp) := by
  unfold State.pubRecord
  extract_lets -merge -underBinder +onlyGivenNames x0 x1 x2
  clear_value x2
  exact keeps_fold (fun _ _ hf3 => keeps_deliver hP hf3) hs

theorem keeps_pubRecords {source n : Nat} {degr : Bool} {ws : List W64} {s : State}
    (hs : P s) : P (State.pubRecords s source degr n ws) := by
  induction n generalizing s ws with
  | zero => rw [State.pubRecords]; exact hs; intros; simp_all
  | succ n ih =>
    match ws with
    | h :: v :: t :: rest => rw [State.pubRecords]; exact ih (keeps_pubRecord hP hs)
    | [] => rw [State.pubRecords]; exact hs; intros; simp_all
    | [_] => rw [State.pubRecords]; exact hs; intros; simp_all
    | [_, _] => rw [State.pubRecords]; exact hs; intros; simp_all

theorem keeps_publicationIn {s : State} {f : Frame} (hs : P s) : P (State.publicationIn s f) := by
  unfold State.publicationIn
  extract_lets -merge -underBinder +onlyGivenNames x0 x1 x2 x3 x4 x5 x6
  split
  · rename_i m7 m8 e9
    have h10 : P m8 := keeps_of_eq (congrArg (fun p => Prod.snd (p)) e9) (keeps_receive hP hs)
    refine keeps_ite ?_ ?_
    · exact h10
    · extract_lets -merge -underBinder +onlyGivenNames x11 x12 x13
      refine keeps_ite ?_ ?_
      · exact keeps_bump hP h10
      · extract_lets -merge -underBinder +onlyGivenNames x14
        extract_lets -merge -underBinder +onlyGivenNames y16 x15
        clear_value y16
        have h17 : P x15 := hP.upd h10
        try clear_value x15
        exact keeps_pubRecords hP h17

theorem keeps_sendRequest {s : State} {tag : Nat} {left : Nat} {resend : Bool} (hs : P s) : P (State.sendRequest s tag left
    resend) := by
  unfold State.sendRequest
  extract_lets -merge -underBinder +onlyGivenNames x0
  clear_value x0
  extract_lets -merge -underBinder +onlyGivenNames x1
  clear_value x1
  extract_lets -merge -underBinder +onlyGivenNames x2 x3 x4
  clear_value x4
  extract_lets -merge -underBinder +onlyGivenNames x5
  exact keeps_netSend hP hs

theorem keeps_tagGrant {s : State} {a : Nat} {peer : Nat} (hs : P s) : P (State.tagGrant s a peer) := by
  unfold State.tagGrant
  extract_lets -merge -underBinder +onlyGivenNames x0
  split
  · refine keeps_ite ?_ ?_
    · exact hs
    · extract_lets -merge -underBinder +onlyGivenNames x1
      clear_value x1
      extract_lets -merge -underBinder +onlyGivenNames x2
      clear_value x2
      extract_lets -merge -underBinder +onlyGivenNames x3
      have h4 : P x3 := keeps_sendRequest hP (keeps_setTag hP (keeps_setQueue hP hs))
      try clear_value x3
      extract_lets -merge -underBinder +onlyGivenNames x5
      exact keeps_ite (keeps_ev hP (hP.upd h4)) h4
  · exact hs

theorem keeps_tagTimeout {s : State} {a : Nat} {i : Nat} (hs : P s) : P (State.tagTimeout s a i) := by
  unfold State.tagTimeout
  split
  · exact keeps_ite hs (keeps_complete hP (keeps_setQueue hP hs))
  · exact hs

theorem keeps_freeTagNow {s : State} {tag : Nat} (hs : P s) : P (State.freeTagNow s tag) := by
  unfold State.freeTagNow
  extract_lets -merge -underBinder +onlyGivenNames y1 x0
  clear_value y1
  have h2 : P x0 := keeps_setTag hP hs
  try clear_value x0
  exact hP.upd h2

theorem keeps_tagDeadline {s : State} {tag : Nat} (hs : P s) : P (State.tagDeadline s tag) := by
  unfold State.tagDeadline
  extract_lets -merge -underBinder +onlyGivenNames x0
  clear_value x0
  exact keeps_ite (keeps_complete hP (keeps_setTag hP hs)) hs

theorem keeps_tagRetry {s : State} {tag : Nat} (hs : P s) : P (State.tagRetry s tag) := by
  unfold State.tagRetry
  extract_lets -merge -underBinder +onlyGivenNames x0
  clear_value x0
  exact keeps_ite (keeps_sendRequest hP (keeps_setTag hP hs)) hs

theorem keeps_tagQuarEnd {s : State} {tag : Nat} (hs : P s) : P (State.tagQuarEnd s tag) := by
  unfold State.tagQuarEnd
  extract_lets -merge -underBinder +onlyGivenNames x0
  clear_value x0
  exact keeps_ite (keeps_freeTagNow hP hs) hs

theorem keeps_quarantineAcct {s : State} {a : Nat} (hs : P s) : P (State.quarantineAcct s a) := by
  unfold State.quarantineAcct
  extract_lets -merge -underBinder +onlyGivenNames y1 x0
  clear_value y1
  have h2 : P x0 := hP.upd hs
  try clear_value x0
  exact keeps_setQueue hP h2

theorem keeps_requestIn {s : State} {f : Frame} {acct : Nat} (hs : P s) : P (State.requestIn s f acct) := by
  unfold State.requestIn
  extract_lets -merge -underBinder +onlyGivenNames x0 x1
  clear_value x1
  extract_lets -merge -underBinder +onlyGivenNames x2 x3 x4
  split
  · rename_i m5 m6 e7
    have h8 : P m6 := keeps_of_eq (congrArg (fun p => Prod.snd (p)) e7) (keeps_receive hP hs)
    refine keeps_ite ?_ ?_
    · exact h8
    · extract_lets -merge -underBinder +onlyGivenNames x9 x10 x11 x12
      have h13 : ∀ {v14 v15}, P v14 → P (x12 v14 v15) := by
        intro v14 v15 h16
        unfold x12
        extract_lets -merge -underBinder +onlyGivenNames x17
        clear_value x17
        exact keeps_netSend hP h16
      try clear_value x12
      extract_lets -merge -underBinder +onlyGivenNames x18 x19 x20
      refine keeps_ite ?_ ?_
      · exact h8
      · refine keeps_ite ?_ ?_
        · exact h13 h8
        · refine keeps_ite ?_ ?_
          · exact h13 h8
          · extract_lets -merge -underBinder +onlyGivenNames x21
            refine keeps_ite ?_ ?_
            · exact h13 (keeps_tooBig hP h8)
            · refine keeps_ite ?_ ?_
              · exact h13 h8
              · extract_lets -merge -underBinder +onlyGivenNames x22
                clear_value x22
                extract_lets -merge -underBinder +onlyGivenNames x23
                have h24 : P x23 := keeps_fold (fun _ _ hf25 => keeps_tillPut hP hf25) h8
                try clear_value x23
                exact hP.upd h24

theorem keeps_replyIn {s : State} {f : Frame} (hs : P s) : P (State.replyIn s f) := by
  unfold State.replyIn
  extract_lets -merge -underBinder +onlyGivenNames x0 x1
  clear_value x1
  extract_lets -merge -underBinder +onlyGivenNames x2
  split
  · rename_i m3 m4 e5
    have h6 : P m4 := keeps_of_eq (congrArg (fun p => Prod.snd (p)) e5) (keeps_receive hP hs)
    refine keeps_ite ?_ ?_
    · exact h6
    · extract_lets -merge -underBinder +onlyGivenNames x7 x8 x9
      clear_value x9
      extract_lets -merge -underBinder +onlyGivenNames x10 x11
      exact keeps_ite (keeps_bump hP h6) (keeps_ite (keeps_bump hP h6) (keeps_ite (keeps_setTag hP h6) (keeps_complete hP
          (keeps_freeTagNow hP h6))))

theorem keeps_incomingExpire {s : State} {source : Nat} {handle : Nat} (hs : P s) : P (State.incomingExpire s source handle)
    := by
  unfold State.incomingExpire
  exact hP.upd hs

theorem keeps_pendingUpdate {s : State} (hs : P s) : P (State.pendingUpdate s) := by
  unfold State.pendingUpdate
  extract_lets -merge -underBinder +onlyGivenNames x0 x1 x2
  have h3 : P x2 := keeps_setFld hP hs
  try clear_value x2
  exact keeps_ite (keeps_ev hP h3) h3

theorem keeps_maintEnter {s : State} (hs : P s) : P (State.maintEnter s) := by
  unfold State.maintEnter
  extract_lets -merge -underBinder +onlyGivenNames x0 x1
  have h2 : P x1 := keeps_setReg64 hP (keeps_setFld hP (keeps_setFld hP hs))
  try clear_value x1
  exact keeps_ev hP (keeps_bump hP h2)

theorem keeps_maintLeave {s : State} (hs : P s) : P (State.maintLeave s) := by
  unfold State.maintLeave
  extract_lets -merge -underBinder +onlyGivenNames x0
  have h1 : P x0 := keeps_setFld hP hs
  try clear_value x0
  extract_lets -merge -underBinder +onlyGivenNames x2
  have h3 : P x2 := keeps_fold (fun _ _ hf4 => keeps_clearForced hP hf4) h1
  try clear_value x2
  extract_lets -merge -underBinder +onlyGivenNames y6 x5
  clear_value y6
  have h7 : P x5 := hP.upd h3
  try clear_value x5
  exact keeps_ev hP h7

theorem keeps_maintUpdate {s : State} (hs : P s) : P (State.maintUpdate s) := by
  unfold State.maintUpdate
  extract_lets -merge -underBinder +onlyGivenNames x0 x1
  exact keeps_ite (keeps_maintEnter hP hs) (keeps_ite (keeps_maintLeave hP hs) hs)

theorem keeps_holdEnd {s : State} (hs : P s) : P (State.holdEnd s) := by
  unfold State.holdEnd
  exact keeps_ite (keeps_setFld hP hs) hs

theorem keeps_setRx {s : State} {c : Nat} {x : RzRx} (hs : P s) : P (State.setRx s c x) := by
  unfold State.setRx
  exact hP.upd hs

theorem keeps_setTx {s : State} {c : Nat} {x : RzTx} (hs : P s) : P (State.setTx s c x) := by
  unfold State.setTx
  exact hP.upd hs

theorem keeps_rzSend {s : State} {dst : Nat} {body : List W64} (hs : P s) : P (State.rzSend s dst body) := by
  unfold State.rzSend
  exact keeps_ite (keeps_netSend hP hs) hs

theorem keeps_receiveRzt {s : State} {f : Frame} (hs : P s) : P (State.receiveRzt s f).2 := by
  unfold State.receiveRzt
  exact keeps_ifQ (Q := fun p => P (Prod.snd p)) hs (keeps_receive hP hs)

theorem keeps_receiveCopy {s : State} {f : Frame} (hs : P s) : P (State.receiveCopy s f).2 := by
  unfold State.receiveCopy
  extract_lets -merge -underBinder +onlyGivenNames x0
  refine keeps_ifQ (Q := fun p => P (Prod.snd p)) ?_ ?_
  · exact hs
  · refine keeps_ifQ (Q := fun p => P (Prod.snd p)) ?_ ?_
    · exact hs
    · extract_lets -merge -underBinder +onlyGivenNames x1
      have h2 : P x1 := keeps_bump hP hs
      try clear_value x1
      exact keeps_ifQ (Q := fun p => P (Prod.snd p)) (keeps_dropMalformed hP h2) (keeps_ifQ (Q := fun p => P (Prod.snd p))
          (keeps_meetStation hP h2) (keeps_ifQ (Q := fun p => P (Prod.snd p)) (keeps_bump hP h2) h2))

theorem keeps_rzOpenSend {s : State} {c : Nat} {resume : Bool} (hs : P s) : P (State.rzOpenSend s c resume) := by
  unfold State.rzOpenSend
  extract_lets -merge -underBinder +onlyGivenNames x0
  have h1 : P x0 := keeps_draw hP hs
  try clear_value x0
  extract_lets -merge -underBinder +onlyGivenNames x2
  extract_lets -merge -underBinder +onlyGivenNames y4 x3
  clear_value y4
  have h5 : P x3 := keeps_setRx hP h1
  try clear_value x3
  extract_lets -merge -underBinder +onlyGivenNames x6 x7
  clear_value x7
  extract_lets -merge -underBinder +onlyGivenNames x8 x9 x10 x11
  have h12 : P x11 := keeps_rzSend hP h5
  try clear_value x11
  exact keeps_ite h12 (keeps_rzSend hP h12)

theorem keeps_rzRefuse {s : State} {c : Nat} {bitmap : Nat} (hs : P s) : P (State.rzRefuse s c bitmap) := by
  unfold State.rzRefuse
  extract_lets -merge -underBinder +onlyGivenNames y1 x0
  clear_value y1
  have h2 : P x0 := keeps_setRx hP hs
  try clear_value x0
  exact keeps_ev hP (keeps_setFld hP (keeps_setFld hP h2))

theorem keeps_rzOpening {s : State} {c : Nat} (hs : P s) : P (State.rzOpening s c) := by
  unfold State.rzOpening
  extract_lets -merge -underBinder +onlyGivenNames x0
  have h1 : P x0 := keeps_setFld hP (keeps_setFld hP hs)
  try clear_value x0
  extract_lets -merge -underBinder +onlyGivenNames y3 x2
  clear_value y3
  have h4 : P x2 := keeps_setRx hP h1
  try clear_value x2
  exact keeps_ite (keeps_rzRefuse hP h4) (keeps_rzOpenSend hP h4)

theorem keeps_rzReopen {s : State} {c : Nat} (hs : P s) : P (State.rzReopen s c) := by
  unfold State.rzReopen
  exact keeps_ite hs (keeps_ite (keeps_rzRefuse hP hs) (keeps_ite hs (keeps_rzOpenSend hP hs)))

theorem keeps_rzFault {s : State} {c : Nat} (hs : P s) : P (State.rzFault s c) := by
  unfold State.rzFault
  extract_lets -merge -underBinder +onlyGivenNames y1 x0
  clear_value y1
  have h2 : P x0 := keeps_setRx hP (keeps_setFld hP hs)
  try clear_value x0
  refine keeps_fold ?_ ?_
  · intro y3 a3 hf3
    extract_lets -merge -underBinder +onlyGivenNames x4
    clear_value x4
    exact keeps_deliver hP hf3
  · exact h2

theorem keeps_rzAccept {s : State} {f : Frame} (hs : P s) : P (State.rzAccept s f) := by
  unfold State.rzAccept
  extract_lets -merge -underBinder +onlyGivenNames x0 x1
  clear_value x1
  extract_lets -merge -underBinder +onlyGivenNames x2
  split
  · rename_i m3 m4 e5
    have h6 : P m4 := keeps_of_eq (congrArg (fun p => Prod.snd (p)) e5) (keeps_receiveRzt hP hs)
    refine keeps_ite ?_ ?_
    · exact h6
    · split
      · exact h6
      · extract_lets -merge -underBinder +onlyGivenNames x7 x8
        refine keeps_ite ?_ ?_
        · exact h6
        · refine keeps_ite ?_ ?_
          · exact keeps_rzRefuse hP h6
          · extract_lets -merge -underBinder +onlyGivenNames x9
            have h10 : P x9 := keeps_setFld hP (keeps_setReg hP h6)
            try clear_value x9
            extract_lets -merge -underBinder +onlyGivenNames y12 x11
            clear_value y12
            have h13 : P x11 := keeps_setRx hP h10
            try clear_value x11
            exact keeps_ite h13 (keeps_ev hP (keeps_setFld hP h13))

theorem keeps_rzCheckSend {s : State} {c : Nat} {dst : Nat} (hs : P s) : P (State.rzCheckSend s c dst) := by
  unfold State.rzCheckSend
  extract_lets -merge -underBinder +onlyGivenNames x0
  clear_value x0
  exact keeps_rzSend hP hs

theorem keeps_rzDeliver {s : State} {c : Nat} {version : Nat} {maint : Bool} {degr : Bool} {limit : Bool} {ws : List W64} (hs
    : P s) : P (State.rzDeliver s c version maint degr limit ws) := by
  unfold State.rzDeliver
  extract_lets -merge -underBinder +onlyGivenNames x0 x1
  refine keeps_fold ?_ ?_
  · intro y2 a2 hf2
    extract_lets -merge -underBinder +onlyGivenNames x3
    clear_value x3
    extract_lets -merge -underBinder +onlyGivenNames x4 x5 x6 x7
    clear_value x7
    extract_lets -merge -underBinder +onlyGivenNames x8
    clear_value x8
    exact keeps_deliver hP hf2
  · exact hs

theorem keeps_rzSetLimit {s : State} {c : Nat} {b : Bool} (hs : P s) : P (State.rzSetLimit s c b) := by
  unfold State.rzSetLimit
  extract_lets -merge -underBinder +onlyGivenNames x0 x1
  have h2 : P x1 := keeps_setFld hP hs
  try clear_value x1
  exact keeps_ite (keeps_ev hP h2) h2

theorem keeps_rzTake {s : State} {c : Nat} {source : Nat} {ws : List W64} {single : Option Nat} (hs : P s) : P (State.rzTake
    s c source ws single) := by
  unfold State.rzTake
  extract_lets -merge -underBinder +onlyGivenNames x0 x1 x2
  clear_value x2
  extract_lets -merge -underBinder +onlyGivenNames x3
  have h4 : P x3 := keeps_setReg hP hs
  try clear_value x3
  extract_lets -merge -underBinder +onlyGivenNames x5
  have h6 : P x5 := keeps_setFld hP (keeps_setFld hP h4)
  try clear_value x5
  extract_lets -merge -underBinder +onlyGivenNames x7
  have h8 : P x7 := keeps_setFld hP h6
  try clear_value x7
  extract_lets -merge -underBinder +onlyGivenNames x9
  have h10 : P x9 := by
    unfold x9
    split
    · extract_lets -merge -underBinder +onlyGivenNames x11
      have h12 : P x11 := keeps_bump hP h8
      try clear_value x11
      extract_lets -merge -underBinder +onlyGivenNames x13
      have h14 : P x13 := keeps_ite (keeps_ev hP h12) h12
      try clear_value x13
      extract_lets -merge -underBinder +onlyGivenNames x15
      have h16 : P x15 := keeps_setRx hP h14
      try clear_value x15
      exact keeps_ite (keeps_rzSetLimit hP h16) h16
    · exact keeps_rzSetLimit hP (keeps_setRx hP h8)
  try clear_value x9
  extract_lets -merge -underBinder +onlyGivenNames x17 x18
  have h19 : P x18 := keeps_rzDeliver hP h10
  try clear_value x18
  exact keeps_rzCheckSend hP h19

theorem keeps_rzData {s : State} {f : Frame} (hs : P s) : P (State.rzData s f) := by
  unfold State.rzData
  extract_lets -merge -underBinder +onlyGivenNames x0 x1
  clear_value x1
  extract_lets -merge -underBinder +onlyGivenNames x2
  split
  · rename_i m3 m4 e5
    have h6 : P m4 := keeps_of_eq (congrArg (fun p => Prod.snd (p)) e5) (keeps_receiveCopy hP hs)
    refine keeps_ite ?_ ?_
    · exact h6
    · extract_lets -merge -underBinder +onlyGivenNames x7
      split
      · split
        · exact keeps_bump hP h6
        · exact h6
      · extract_lets -merge -underBinder +onlyGivenNames x8 x9 x10 x11 x12
        clear_value x12
        extract_lets -merge -underBinder +onlyGivenNames x13
        refine keeps_ite ?_ ?_
        · exact keeps_bump hP h6
        · refine keeps_ite ?_ ?_
          · exact keeps_ite (keeps_rzCheckSend hP h6) h6
          · refine keeps_ite ?_ ?_
            · exact keeps_bump hP h6
            · split
              · exact keeps_setRx hP h6
              · exact keeps_ite h6 (keeps_ite (keeps_rzTake hP h6) (keeps_ev hP (keeps_rzFault hP (keeps_bump hP h6))))

theorem keeps_rzAssay {s : State} {c : Nat} (hs : P s) : P (State.rzAssay s c) := by
  unfold State.rzAssay
  split
  · exact keeps_ite (keeps_rzTake hP hs) hs
  · exact hs

theorem keeps_rzWatchdog {s : State} {c : Nat} (hs : P s) : P (State.rzWatchdog s c) := by
  unfold State.rzWatchdog
  exact keeps_ite hs (keeps_ev hP (keeps_rzFault hP (keeps_bump hP hs)))

theorem keeps_rzRetry {s : State} {c : Nat} {from_ : Nat} (hs : P s) : P (State.rzRetry s c from_) := by
  unfold State.rzRetry
  exact keeps_ite (keeps_rzOpening hP hs) hs

theorem keeps_rzDegraded {s : State} {c : Nat} (hs : P s) : P (State.rzDegraded s c) := by
  unfold State.rzDegraded
  exact keeps_ite (keeps_rzSetLimit hP hs) hs

theorem keeps_rzOpenIn {s : State} {f : Frame} (hs : P s) : P (State.rzOpenIn s f) := by
  unfold State.rzOpenIn
  extract_lets -merge -underBinder +onlyGivenNames x0 x1
  clear_value x1
  extract_lets -merge -underBinder +onlyGivenNames x2
  split
  · rename_i m3 m4 e5
    have h6 : P m4 := keeps_of_eq (congrArg (fun p => Prod.snd (p)) e5) (keeps_receiveRzt hP hs)
    refine keeps_ite ?_ ?_
    · exact h6
    · split
      · exact h6
      · extract_lets -merge -underBinder +onlyGivenNames x7 x8 x9 x10
        refine keeps_ite ?_ ?_
        · exact h6
        · extract_lets -merge -underBinder +onlyGivenNames x11 x12 x13 x14 x15 x16
          have h17 : ∀ {v18 v19 v20}, P v18 → P (x16 v18 v19 v20) := by
            intro v18 v19 v20 h21
            unfold x16
            exact keeps_rzSend hP h21
          try clear_value x16
          refine keeps_ite ?_ ?_
          · exact h17 (keeps_ite (keeps_setFld hP h6) h6)
          · refine keeps_ite ?_ ?_
            · exact h17 (keeps_setFld hP h6)
            · extract_lets -merge -underBinder +onlyGivenNames x22
              have h23 : P x22 := keeps_draw hP h6
              try clear_value x22
              extract_lets -merge -underBinder +onlyGivenNames x24 x25
              have h26 : P x25 := keeps_setFld hP (keeps_setFld hP (keeps_setFld hP h23))
              try clear_value x25
              extract_lets -merge -underBinder +onlyGivenNames x27
              have h28 : P x27 := keeps_setTx hP (keeps_setFld hP (keeps_setReg hP h26))
              try clear_value x27
              exact h17 h28

theorem keeps_rzDataSend {s : State} {c : Nat} (hs : P s) : P (State.rzDataSend s c) := by
  unfold State.rzDataSend
  refine keeps_ite ?_ ?_
  · exact hs
  · extract_lets -merge -underBinder +onlyGivenNames x0
    split
    · exact keeps_rzSend hP hs
    · extract_lets -merge -underBinder +onlyGivenNames x1 x2 x3 x4
      have h5 : P x4 := keeps_setFld hP (keeps_setReg hP hs)
      try clear_value x4
      extract_lets -merge -underBinder +onlyGivenNames x6
      have h7 : P x6 := keeps_setTx hP (keeps_setFld hP h5)
      try clear_value x6
      exact keeps_rzSend hP h7

theorem keeps_rzCheckIn {s : State} {f : Frame} (hs : P s) : P (State.rzCheckIn s f) := by
  unfold State.rzCheckIn
  extract_lets -merge -underBinder +onlyGivenNames x0 x1
  clear_value x1
  split
  · rename_i m2 m3 e4
    have h5 : P m3 := keeps_of_eq (congrArg (fun p => Prod.snd (p)) e4) (keeps_receiveRzt hP hs)
    refine keeps_ite ?_ ?_
    · exact h5
    · split
      · exact h5
      · extract_lets -merge -underBinder +onlyGivenNames x6
        exact keeps_ite (keeps_setFld hP h5) h5

theorem keeps_rzSync {s : State} (hs : P s) : P (State.rzSync s) := by
  unfold State.rzSync
  extract_lets -merge -underBinder +onlyGivenNames x0
  refine keeps_fold ?_ ?_
  · intro y1 a1 hf1
    extract_lets -merge -underBinder +onlyGivenNames x2
    extract_lets -merge -underBinder +onlyGivenNames y4 x3
    clear_value y4
    have h5 : P x3 := keeps_ite (keeps_ite (keeps_rzOpening hP hf1) hf1) (keeps_ite hf1 (keeps_setRx hP (keeps_setFld hP
        (keeps_setFld hP hf1))))
    try clear_value x3
    exact keeps_ite h5 (keeps_setTx hP (keeps_setFld hP (keeps_setFld hP h5)))
  · exact hs

theorem keeps_sfOne {s : State} {f : Nat} (hs : P s) : P (State.sfOne s f) := by
  unfold State.sfOne
  refine keeps_ite ?_ ?_
  · exact hs
  · split
    · extract_lets -merge -underBinder +onlyGivenNames x0
      have h1 : P x0 := keeps_setReg hP (keeps_setReg hP hs)
      try clear_value x0
      extract_lets -merge -underBinder +onlyGivenNames x2 x3 x4 x5
      have h6 : P x5 := keeps_setFld hP h1
      try clear_value x5
      exact keeps_ite (keeps_ev hP h6) h6

theorem keeps_sfUpdate {s : State} (hs : P s) : P (State.sfUpdate s) := by
  unfold State.sfUpdate
  exact keeps_fold (fun _ _ hf0 => keeps_sfOne hP hf0) hs

theorem keeps_restage {s : State} (hs : P s) : P (State.restage s) := by
  unfold State.restage
  exact keeps_fold (fun _ _ hf0 => keeps_dStage hP hf0) (keeps_fold (fun _ _ hf1 => keeps_aStage hP hf1) hs)

omit hP in
theorem keeps_halt (hL : ClosedLife P) {s : State} {why : StopCause} {drive : Drive} {rel : Nat} (hs : P s) : P (State.halt s why drive rel) := by
  have hP := hL.toClosed
  unfold State.halt
  extract_lets -merge -underBinder +onlyGivenNames x0
  have h1 : P x0 := keeps_relinquish hP hs
  try clear_value x0
  extract_lets -merge -underBinder +onlyGivenNames x2
  have h3 : P x2 := keeps_fold (fun _ _ hf4 => keeps_stopAccount hP hf4) h1
  try clear_value x2
  extract_lets -merge -underBinder +onlyGivenNames x5
  clear_value x5
  exact keeps_restage hP (hL.life h3)

theorem keeps_mateChange {s : State} {n : Nat} {closed : Bool} (hs : P s) : P (State.mateChange s n closed) := by
  unfold State.mateChange
  extract_lets -merge -underBinder +onlyGivenNames x0 x1
  have h2 : P x1 := keeps_ite (keeps_setFld hP hs) (keeps_setFld hP hs)
  try clear_value x1
  extract_lets -merge -underBinder +onlyGivenNames x3
  have h4 : P x3 := keeps_ite (keeps_bump hP h2) h2
  try clear_value x3
  exact hP.upd h4

theorem keeps_matePass {s : State} {x : Straps} (hs : P s) : P (State.matePass s x) := by
  unfold State.matePass
  refine keeps_ite ?_ ?_
  · exact hs
  · extract_lets -merge -underBinder +onlyGivenNames y1 x0
    clear_value y1
    have h2 : P x0 := hP.upd hs
    try clear_value x0
    extract_lets -merge -underBinder +onlyGivenNames x3
    have h4 : P x3 := keeps_setFld hP (keeps_setFld hP h2)
    try clear_value x3
    extract_lets -merge -underBinder +onlyGivenNames x5
    have h6 : P x5 := keeps_setFld hP (keeps_setFld hP h4)
    try clear_value x5
    exact keeps_ite (keeps_ev hP h6) h6

theorem keeps_oneMate5s {s : State} (hs : P s) : P (State.oneMate5s s) := by
  unfold State.oneMate5s
  exact keeps_ite (keeps_ev hP (hP.upd hs)) hs

theorem keeps_unsample {s : State} (hs : P s) : P (State.unsample s) := by
  unfold State.unsample
  exact keeps_setFld hP (keeps_setFld hP (keeps_setFld hP (keeps_setFld hP hs)))

omit hP in
theorem keeps_unmate (hL : ClosedLife P) {s : State} (hs : P s) : P (State.unmate s) := by
  have hP := hL.toClosed
  unfold State.unmate
  refine keeps_ite ?_ ?_
  · exact hs
  · extract_lets -merge -underBinder +onlyGivenNames x0
    have h1 : P x0 := keeps_ite (keeps_halt hL hs) (keeps_restage hP (hL.life hs))
    try clear_value x0
    extract_lets -merge -underBinder +onlyGivenNames x2
    have h3 : P x2 := keeps_setDoms hP (keeps_closingFlush hP (keeps_ev hP h1))
    try clear_value x2
    extract_lets -merge -underBinder +onlyGivenNames x4
    have h5 : P x4 := keeps_fold (fun _ _ hf6 => keeps_ite hf6 (keeps_slPowerOff hP hf6)) h3
    try clear_value x4
    exact keeps_unsample hP (hL.life h5)

theorem keeps_sealOne {s : State} {n : Nat} {p1 : Bool} {p2 : Bool} (hs : P s) : P (State.sealOne s n p1 p2) := by
  unfold State.sealOne
  extract_lets -merge -underBinder +onlyGivenNames x0
  clear_value x0
  extract_lets -merge -underBinder +onlyGivenNames x1 x2 x3
  have h4 : ∀ {v5 v6}, P v6 → P (x3 v5 v6) := by
    intro v5 v6 h7
    unfold x3
    exact hP.upd h7
  try clear_value x3
  extract_lets -merge -underBinder +onlyGivenNames x8
  have h9 : ∀ {v10}, P v10 → P (x8 v10) := by
    intro v10 h11
    unfold x8
    exact keeps_bump hP h11
  try clear_value x8
  refine keeps_ite ?_ ?_
  · extract_lets -merge -underBinder +onlyGivenNames x12 x13
    have h14 : P x13 := h4 hs
    try clear_value x13
    exact keeps_ite (keeps_ev hP (h9 (keeps_setBit hP h14))) h14
  · extract_lets -merge -underBinder +onlyGivenNames x15 x16 x17
    have h18 : P x17 := h4 hs
    try clear_value x17
    refine keeps_ite ?_ ?_
    · exact h18
    · extract_lets -merge -underBinder +onlyGivenNames x19 x20
      have h21 : P x20 := keeps_setBit hP (keeps_setBit hP h18)
      try clear_value x20
      extract_lets -merge -underBinder +onlyGivenNames x22
      have h23 : P x22 := keeps_ite (h9 h21) h21
      try clear_value x22
      exact keeps_ite (keeps_ev hP h23) h23

theorem keeps_peerSeen {s : State} {on : Bool} (hs : P s) : P (State.peerSeen s on) := by
  unfold State.peerSeen
  exact keeps_setFld hP (keeps_setFld hP hs)

theorem keeps_sealScan {s : State} {p1 : BitVec 16} {p2 : BitVec 16} (hs : P s) : P (State.sealScan s p1 p2) := by
  unfold State.sealScan
  refine keeps_ite ?_ ?_
  · exact hs
  · extract_lets -merge -underBinder +onlyGivenNames x0
    have h1 : P x0 := keeps_fold (fun _ _ hf2 => keeps_sealOne hP hf2) hs
    try clear_value x0
    exact keeps_ite (keeps_pendingUpdate hP (keeps_maintUpdate hP h1)) h1

theorem keeps_hold {s : State} {n : Nat} {key : Nat} {v : Option W32} (hs : P s) : P (State.hold s n key v) := by
  unfold State.hold
  exact keeps_setSession hP hs

theorem keeps_keyWrite {s : State} {a : Nat} {j : Nat} {v : W32} (hs : P s) : P (State.keyWrite s a j v) := by
  unfold State.keyWrite
  extract_lets -merge -underBinder +onlyGivenNames x0
  clear_value x0
  extract_lets -merge -underBinder +onlyGivenNames x1
  clear_value x1
  exact keeps_ite (keeps_setAcct hP hs) (keeps_setAcct hP hs)

end Sys2Proof.Machine
end

