-- ==== Sys2Proof/Laws/KeepsStart.lean ====
section
/-! SUPPORT. Every operation keeps a Closed property (see KeepsBase): start, supply and the effects of management writes. -/

namespace Sys2Proof.Machine

variable {P : State → Prop} (hP : Closed P)
include hP

theorem keeps_markSteps {s : State} {l : List Nat} (hs : P s) : P (State.markSteps s l) := by
  unfold State.markSteps
  exact keeps_fold (fun _ _ hf0 => keeps_markStep hP hf0) hs

theorem keeps_chargeOn {s : State} (hs : P s) : P (State.chargeOn s) := by
  unfold State.chargeOn
  exact keeps_setFld hP hs

theorem keeps_keptRegs {s : State} {t : State} (hs : P s) (ht : P t) : P (State.keptRegs s t) := by
  unfold State.keptRegs
  extract_lets -merge -underBinder +onlyGivenNames x0
  have h1 : P x0 := keeps_fold (fun _ _ hf2 => keeps_setReg hP hf2) ht
  try clear_value x0
  extract_lets -merge -underBinder +onlyGivenNames x3
  have h4 : P x3 := keeps_setReg hP (keeps_setReg hP h1)
  try clear_value x3
  extract_lets -merge -underBinder +onlyGivenNames x5
  have h6 : P x5 := keeps_fold (fun _ _ hf7 => keeps_setReg hP hf7) h4
  try clear_value x5
  extract_lets -merge -underBinder +onlyGivenNames x8
  have h9 : P x8 := keeps_fold (fun _ _ hf10 => keeps_setFld hP (keeps_setFld hP hf10)) h6
  try clear_value x8
  exact keeps_setFld hP h9

omit hP in
theorem keeps_fresh (hL : ClosedLife P) {s : State} (hs : P s) : P (State.fresh s) := by
  have hP := hL.toClosed
  unfold State.fresh
  extract_lets -merge -underBinder +onlyGivenNames x0
  clear_value x0
  extract_lets -merge -underBinder +onlyGivenNames y2 x1
  have h3 : P x1 := hL.clear hs
  try clear_value x1
  extract_lets -merge -underBinder +onlyGivenNames y5 x4
  clear_value y5
  have h6 : P x4 := hL.life h3
  try clear_value x4
  extract_lets -merge -underBinder +onlyGivenNames y8 x7
  clear_value y8
  have h9 : P x7 := hL.life h6
  try clear_value x7
  extract_lets -merge -underBinder +onlyGivenNames y11 x10
  clear_value y11
  have h12 : P x10 := hL.life h9
  try clear_value x10
  extract_lets -merge -underBinder +onlyGivenNames x13
  have h14 : P x13 := keeps_peerSeen hP (keeps_keptRegs hP hs h12)
  try clear_value x13
  exact keeps_setFld hP h14

theorem keeps_startEnds {s : State} {t : State} (hs : P s) (ht : P t) : P (State.startEnds s t) := by
  unfold State.startEnds
  extract_lets -merge -underBinder +onlyGivenNames x0
  have h1 : P x0 := keeps_fold (fun _ _ hf2 => keeps_ite (keeps_ev hP hf2) hf2) ht
  try clear_value x0
  exact keeps_fold (fun _ _ hf3 => keeps_ite hf3 (keeps_ev hP hf3)) h1

theorem keeps_newInstance {s : State} (hs : P s) : P (State.newInstance s) := by
  unfold State.newInstance
  extract_lets -merge -underBinder +onlyGivenNames x0
  exact keeps_setReg hP (keeps_draw hP hs)

omit hP in
theorem keeps_begin (hL : ClosedLife P) {s : State} {afterThermal : Bool} (hs : P s) : P (State.begin s afterThermal) := by
  have hP := hL.toClosed
  unfold State.begin
  extract_lets -merge -underBinder +onlyGivenNames x0
  have h1 : P x0 := keeps_fresh hL hs
  try clear_value x0
  extract_lets -merge -underBinder +onlyGivenNames y3 x2
  clear_value y3
  have h4 : P x2 := hL.life h1
  try clear_value x2
  extract_lets -merge -underBinder +onlyGivenNames x5
  have h6 : P x5 := keeps_newInstance hP (keeps_setFld hP h4)
  try clear_value x5
  extract_lets -merge -underBinder +onlyGivenNames x7
  have h8 : P x7 := keeps_startEnds hP hs h6
  try clear_value x7
  extract_lets -merge -underBinder +onlyGivenNames x9
  have h10 : P x9 := keeps_ev hP (keeps_ite (keeps_ev hP h8) h8)
  try clear_value x9
  extract_lets -merge -underBinder +onlyGivenNames x11
  have h12 : P x11 := keeps_setDoms hP h10
  try clear_value x11
  extract_lets -merge -underBinder +onlyGivenNames y14 y15 x13
  clear_value y14 y15
  have h16 : P x13 := hL.life h12
  try clear_value x13
  exact keeps_markSteps hP (keeps_startTest hP (keeps_chargeOn hP h16))

omit hP in
theorem keeps_startBegin (hL : ClosedLife P) {s : State} (hs : P s) : P (State.startBegin s) := by
  have hP := hL.toClosed
  unfold State.startBegin
  exact keeps_ite (keeps_begin hL hs) hs

omit hP in
theorem keeps_thermalRestart (hL : ClosedLife P) {s : State} (hs : P s) : P (State.thermalRestart s) := by
  have hP := hL.toClosed
  unfold State.thermalRestart
  exact keeps_ite (keeps_begin hL hs) hs

theorem keeps_setBank {s : State} {b : Nat} {m : NMap W32} (hs : P s) : P (State.setBank s b m) := by
  unfold State.setBank
  exact keeps_ite (hP.upd hs) (hP.upd hs)

theorem keeps_setResult {s : State} {b : Nat} {r : Nat} {block : Nat} (hs : P s) : P (State.setResult s b r block) := by
  unfold State.setResult
  extract_lets -merge -underBinder +onlyGivenNames x0
  have h1 : P x0 := keeps_ite (keeps_setFld hP hs) (keeps_setFld hP hs)
  try clear_value x0
  extract_lets -merge -underBinder +onlyGivenNames x2
  have h3 : P x2 := keeps_ite (keeps_setFld hP h1) (keeps_setFld hP h1)
  try clear_value x2
  exact keeps_ite h3 (keeps_ev hP h3)

omit hP in
theorem keeps_unconfigure (hL : ClosedLife P) {s : State} (hs : P s) : P (State.unconfigure s) := by
  have hP := hL.toClosed
  unfold State.unconfigure
  extract_lets -merge -underBinder +onlyGivenNames x0 x1 x2
  extract_lets -merge -underBinder +onlyGivenNames y4 x3
  clear_value y4
  have h5 : P x3 := hL.life hs
  try clear_value x3
  extract_lets -merge -underBinder +onlyGivenNames x6
  have h7 : P x6 := keeps_setDom hP (keeps_setFld hP (keeps_setFld hP h5))
  try clear_value x6
  extract_lets -merge -underBinder +onlyGivenNames x8
  have h9 : P x8 := keeps_ev hP (keeps_ev hP h7)
  try clear_value x8
  extract_lets -merge -underBinder +onlyGivenNames x10
  have h11 : P x10 := keeps_markSteps hP h9
  try clear_value x10
  exact keeps_setAcctState hP h11

omit hP in
theorem keeps_headersRead (hL : ClosedLife P) {s : State} {sfdpA : Bool} {sfdpB : Bool} (hs : P s) : P (State.headersRead s sfdpA sfdpB) := by
  have hP := hL.toClosed
  unfold State.headersRead
  refine keeps_ite ?_ ?_
  · exact hs
  · extract_lets -merge -underBinder +onlyGivenNames y1 x0
    clear_value y1
    have h2 : P x0 := hL.life hs
    try clear_value x0
    extract_lets -merge -underBinder +onlyGivenNames x3
    have h4 : P x3 := keeps_fold (fun _ _ hf5 => keeps_setReg hP hf5) h2
    try clear_value x3
    extract_lets -merge -underBinder +onlyGivenNames x6
    have h7 : P x6 := by
      unfold x6
      refine keeps_fold ?_ ?_
      · intro y8 a8 hf8
        extract_lets -merge -underBinder +onlyGivenNames x9
        exact keeps_ite hf8 (keeps_setResult hP hf8)
      · exact h4
    try clear_value x6
    extract_lets -merge -underBinder +onlyGivenNames x10 x11 x12
    have h13 : P x12 := keeps_ite (keeps_ev hP h7) h7
    try clear_value x12
    extract_lets -merge -underBinder +onlyGivenNames y15 x14
    clear_value y15
    have h16 : P x14 := keeps_markSteps hP (hL.life h13)
    try clear_value x14
    exact keeps_ite (keeps_unconfigure hL h16) h16

theorem keeps_sealLatch {s : State} {h : ImgHead} (hs : P s) : P (State.sealLatch s h) := by
  unfold State.sealLatch
  extract_lets -merge -underBinder +onlyGivenNames x0 x1 x2 x3
  extract_lets -merge -underBinder +onlyGivenNames y5 x4
  clear_value y5
  have h6 : P x4 := hP.upd hs
  try clear_value x4
  extract_lets -merge -underBinder +onlyGivenNames x7
  have h8 : P x7 := keeps_setReg hP (keeps_setReg hP h6)
  try clear_value x7
  extract_lets -merge -underBinder +onlyGivenNames x9
  have h10 : P x9 := keeps_setFld hP (keeps_setFld hP h8)
  try clear_value x9
  extract_lets -merge -underBinder +onlyGivenNames x11
  have h12 : P x11 := keeps_setFld hP (keeps_setFld hP h10)
  try clear_value x11
  extract_lets -merge -underBinder +onlyGivenNames x13
  have h14 : P x13 := keeps_setFld hP h12
  try clear_value x13
  extract_lets -merge -underBinder +onlyGivenNames x15
  have h16 : P x15 := keeps_pendingUpdate hP (keeps_maintUpdate hP h14)
  try clear_value x15
  exact keeps_ite (keeps_ev hP h16) h16

theorem keeps_accept {s : State} {b : Nat} (hs : P s) : P (State.accept s b) := by
  unfold State.accept
  extract_lets -merge -underBinder +onlyGivenNames x0
  clear_value x0
  extract_lets -merge -underBinder +onlyGivenNames x1
  clear_value x1
  extract_lets -merge -underBinder +onlyGivenNames y3 x2
  clear_value y3
  have h4 : P x2 := hP.upd hs
  try clear_value x2
  extract_lets -merge -underBinder +onlyGivenNames x5
  have h6 : P x5 := keeps_setFld hP (keeps_setFld hP (keeps_setFld hP h4))
  try clear_value x5
  extract_lets -merge -underBinder +onlyGivenNames x7
  have h8 : P x7 := keeps_fold (fun _ _ hf9 => keeps_setReg hP hf9) h6
  try clear_value x7
  extract_lets -merge -underBinder +onlyGivenNames x10
  have h11 : P x10 := keeps_setDom hP (keeps_setFld hP h8)
  try clear_value x10
  extract_lets -merge -underBinder +onlyGivenNames x12
  have h13 : P x12 := keeps_ite (keeps_setResult hP h11) h11
  try clear_value x12
  extract_lets -merge -underBinder +onlyGivenNames x14
  have h15 : P x14 := keeps_ev hP h13
  try clear_value x14
  extract_lets -merge -underBinder +onlyGivenNames x16
  have h17 : P x16 := keeps_ite (keeps_ev hP h15) h15
  try clear_value x16
  exact keeps_markSteps hP (keeps_sealLatch hP h17)

omit hP in
theorem keeps_candidateChecked (hL : ClosedLife P) {s : State} {b : Nat} {timedOut : Bool} (hs : P s) : P (State.candidateChecked s b timedOut)
    := by
  have hP := hL.toClosed
  unfold State.candidateChecked
  refine keeps_ite ?_ ?_
  · exact hs
  · split
    · extract_lets -merge -underBinder +onlyGivenNames x0
      extract_lets -merge -underBinder +onlyGivenNames y2 x1
      clear_value y2
      have h3 : P x1 := keeps_markStep hP (keeps_setResult hP (hL.life hs))
      try clear_value x1
      exact keeps_ite (keeps_accept hP h3) (keeps_ite (keeps_unconfigure hL h3) h3)

omit hP in
theorem keeps_readTrip (hL : ClosedLife P) {s : State} {locked : Bool} (hs : P s) : P (State.readTrip s locked) := by
  have hP := hL.toClosed
  unfold State.readTrip
  refine keeps_ite ?_ ?_
  · exact hs
  · refine keeps_ite ?_ ?_
    · extract_lets -merge -underBinder +onlyGivenNames x0
      have h1 : P x0 := keeps_fold (fun _ _ hf2 => keeps_ite (keeps_setResult hP hf2) hf2) hs
      try clear_value x0
      exact keeps_unconfigure hL h1
    · split
      · extract_lets -merge -underBinder +onlyGivenNames y4 x3
        clear_value y4
        have h5 : P x3 := keeps_markStep hP (keeps_setResult hP (hL.life hs))
        try clear_value x3
        exact keeps_ite (keeps_unconfigure hL h5) h5
      · exact hs

theorem keeps_startAccounts {s : State} {h : ImgHead} {accts : List Nat} (hs : P s) : P (State.startAccounts s h accts) := by
  unfold State.startAccounts
  extract_lets -merge -underBinder +onlyGivenNames x0
  have h1 : P x0 := keeps_fold (fun _ _ hf2 => keeps_setFld hP hf2) hs
  try clear_value x0
  exact keeps_fold (fun _ _ hf3 => keeps_ite (keeps_setAcctState hP hf3) hf3) h1

theorem keeps_powerUsed {s : State} (hs : P s) : P (State.powerUsed s) := by
  unfold State.powerUsed
  extract_lets -merge -underBinder +onlyGivenNames x0 x1 x2 x3
  have h4 : P x3 := keeps_setDoms hP hs
  try clear_value x3
  extract_lets -merge -underBinder +onlyGivenNames x5
  have h6 : P x5 := keeps_fold (fun _ _ hf7 => keeps_slPowerOn hP hf7) h4
  try clear_value x5
  extract_lets -merge -underBinder +onlyGivenNames x8
  have h9 : P x8 := keeps_fold (fun _ _ hf10 => keeps_ite (keeps_aFsChange hP hf10) (keeps_dFsChange hP hf10)) h6
  try clear_value x8
  exact keeps_fold (fun _ _ hf11 => keeps_canStart hP hf11) h9

theorem keeps_hartStart {s : State} (hs : P s) : P (State.hartStart s) := by
  unfold State.hartStart
  refine keeps_fold ?_ ?_
  · intro y0 a0 hf0
    refine keeps_ite ?_ ?_
    · extract_lets -merge -underBinder +onlyGivenNames y2 x1
      clear_value y2
      have h3 : P x1 := keeps_setHart hP hf0
      try clear_value x1
      exact keeps_hNext hP (keeps_setHState hP h3)
    · exact hf0
  · exact hs

theorem keeps_dataLoad {s : State} {k : Nat} (hs : P s) : P (State.dataLoad s k) := by
  unfold State.dataLoad
  exact keeps_fold (fun _ _ hf0 => keeps_dataPut hP hf0) hs

theorem keepsO_imgPut {s : State} {r : Reg} {i off : Nat} {v : W64} (hs : P s) :
    ∀ x, s.imgPut r i off v = some x → P x := by
  intro x h
  unfold State.imgPut at h
  split at h
  · cases h; exact hP.upd hs
  · split at h
    · split at h
      · cases h; exact hP.upd hs
      · cases h
    · split at h
      · extract_lets g w y at h
        split at h
        · cases h
        · split at h
          · cases h
          · cases h; exact keeps_setSig hP hs
      · split at h
        · split at h
          · cases h; exact hP.upd hs
          · cases h
        · cases h

theorem keepsO_imgWin {s : State} {r a : Reg} {i : Nat} {v : W32} (hs : P s) :
    ∀ x, s.imgWin r a i v = some x → P x := by
  intro x h
  unfold State.imgWin at h
  extract_lets off s1 at h
  have h1 : P s1 := keeps_setReg hP hs
  clear_value s1
  split at h
  · cases h
  · split at h
    · cases h; exact hP.upd h1
    · split at h
      · split at h
        · cases h; exact hP.upd h1
        · cases h
      · split at h
        · cases h; exact keeps_setFrameWord hP h1
        · split at h
          · cases h; exact keeps_hold hP h1
          · split at h
            · exact keepsO_imgPut hP (keeps_hold hP h1) _ h
            · cases h; exact h1

theorem keepsO_imgWrite {s : State} {addr : Nat} {v : W32} (hs : P s) :
    ∀ x, s.imgWrite addr v = some x → P x := by
  intro x h
  unfold State.imgWrite at h
  split at h
  · cases h
  · split at h
    · exact keepsO_imgWin hP hs _ h
    · split at h
      · cases h; exact keeps_keyWrite hP hs
      · extract_lets s1 at h
        have h1 : P s1 := keeps_setReg hP hs
        clear_value s1
        cases h
        exact keeps_ite (hP.upd h1) h1

theorem keepsO_imgRecord {s : State} {r : ImgRec} (hs : P s) :
    ∀ x, s.imgRecord r = some x → P x := by
  unfold State.imgRecord
  refine keeps_foldl (Q := fun (p : Option State × Nat) => ∀ x, p.1 = some x → P x) ?_ ?_
  · intro p w hp x h
    cases hq : p.1 with
    | none => rw [hq] at h; cases h
    | some y =>
      rw [hq] at h
      exact keepsO_imgWrite hP (hp y hq) x h
  · intro x h
    cases h
    exact hs

omit hP in
theorem keeps_imageApply (hL : ClosedLife P) {s : State} {cmpReports : Bool} (hs : P s) : P (State.imageApply s cmpReports) := by
  have hP := hL.toClosed
  unfold State.imageApply
  split
  · exact hs
  · refine keeps_ite ?_ ?_
    · exact hs
    · extract_lets -merge -underBinder +onlyGivenNames x0
      have h1 : P x0 := keeps_foldl (Q := fun p => P p) (fun _ _ hf2 => keeps_getD (keepsO_imgRecord hP hf2) hf2) hs
      try clear_value x0
      extract_lets -merge -underBinder +onlyGivenNames x3
      have h4 : P x3 := keeps_setSession hP h1
      try clear_value x3
      extract_lets -merge -underBinder +onlyGivenNames y6 y7 x5
      clear_value y6 y7
      have h8 : P x5 := hL.life h4
      try clear_value x5
      extract_lets -merge -underBinder +onlyGivenNames x9
      have h10 : P x9 := keeps_fold (fun _ _ hf11 => keeps_dataLoad hP hf11) h8
      try clear_value x9
      extract_lets -merge -underBinder +onlyGivenNames x12
      have h13 : P x12 := keeps_startAccounts hP h10
      try clear_value x12
      extract_lets -merge -underBinder +onlyGivenNames x14
      have h15 : P x14 := keeps_cmpTest hP (keeps_fold (fun _ _ hf16 => keeps_setReg hP hf16) h13)
      try clear_value x14
      extract_lets -merge -underBinder +onlyGivenNames y18 x17
      have h19 : P x17 := by
        unfold x17
        refine keeps_ite ?_ ?_
        · have h20 : P y18 := keeps_setPair hP (keeps_setReg hP h15)
          try clear_value y18
          exact keeps_setFld hP h20
        · exact h15
      try clear_value x17
      extract_lets -merge -underBinder +onlyGivenNames x21
      have h22 : P x21 := keeps_hartStart hP (keeps_powerUsed hP (keeps_stShow hP (keeps_buildMap hP h19)))
      try clear_value x21
      exact keeps_alignCheck hP (keeps_markSteps hP (keeps_restage hP (keeps_sfUpdate hP h22)))

theorem keeps_settlingEnd {s : State} (hs : P s) : P (State.settlingEnd s) := by
  unfold State.settlingEnd
  split
  · exact hs
  · exact keeps_ite hs (keeps_markStep hP hs)

theorem keeps_buildSig {s : State} {g : Nat} (hs : P s) : P (State.buildSig s g) := by
  unfold State.buildSig
  extract_lets -merge -underBinder +onlyGivenNames x0
  clear_value x0
  extract_lets -merge -underBinder +onlyGivenNames x1
  clear_value x1
  extract_lets -merge -underBinder +onlyGivenNames x2 x3 x4
  clear_value x4
  extract_lets -merge -underBinder +onlyGivenNames x5
  clear_value x5
  split
  · exact keeps_setForce hP (keeps_setSig hP hs)
  · exact keeps_setSig hP hs

theorem keeps_buildImage {s : State} (hs : P s) : P (State.buildImage s) := by
  unfold State.buildImage
  extract_lets -merge -underBinder +onlyGivenNames x0
  have h1 : P x0 := keeps_fold (fun _ _ hf2 => keeps_buildSig hP hf2) hs
  try clear_value x0
  exact hP.upd h1

theorem keeps_acctsTo {s : State} {st : Nat} (hs : P s) : P (State.acctsTo s st) := by
  unfold State.acctsTo
  exact keeps_fold (fun _ _ hf0 => keeps_ite (keeps_setAcctState hP hf0) hf0) hs

theorem keeps_startDone {s : State} (hs : P s) : P (State.startDone s) := by
  unfold State.startDone
  exact keeps_markSteps hP (keeps_setReg hP hs)

omit hP in
theorem keeps_releaseAll (hL : ClosedLife P) {s : State} (hs : P s) : P (State.releaseAll s) := by
  have hP := hL.toClosed
  unfold State.releaseAll
  extract_lets -merge -underBinder +onlyGivenNames x0
  have h1 : P x0 := hL.life hs
  try clear_value x0
  extract_lets -merge -underBinder +onlyGivenNames x2
  have h3 : P x2 := keeps_setReg64 hP (keeps_acctsTo hP h1)
  try clear_value x2
  extract_lets -merge -underBinder +onlyGivenNames y5 x4
  clear_value y5
  have h6 : P x4 := keeps_fold (fun _ _ hf7 => keeps_setTask hP hf7) (hL.life h3)
  try clear_value x4
  exact keeps_fold (fun _ _ hf8 => keeps_ite (keeps_enableTasks hP hf8) hf8) h6

omit hP in
theorem keeps_firstRelease (hL : ClosedLife P) {s : State} (hs : P s) : P (State.firstRelease s) := by
  have hP := hL.toClosed
  unfold State.firstRelease
  extract_lets -merge -underBinder +onlyGivenNames x0
  have h1 : P x0 := keeps_releaseAll hL hs
  try clear_value x0
  extract_lets -merge -underBinder +onlyGivenNames y3 x2
  have h4 : P x2 := by
    unfold x2
    refine keeps_ite ?_ ?_
    · exact h1
    · have h5 : P y3 := keeps_startDone hP h1
      try clear_value y3
      exact keeps_ev hP h5
  try clear_value x2
  exact keeps_restage hP (keeps_rotCheck hP h4)

omit hP in
theorem keeps_startRelease (hL : ClosedLife P) {s : State} (hs : P s) : P (State.startRelease s) := by
  have hP := hL.toClosed
  unfold State.startRelease
  refine keeps_ite ?_ ?_
  · exact hs
  · extract_lets -merge -underBinder +onlyGivenNames x0
    have h1 : P x0 := keeps_buildImage hP hs
    try clear_value x0
    refine keeps_ite ?_ ?_
    · exact keeps_firstRelease hL h1
    · extract_lets -merge -underBinder +onlyGivenNames x2
      have h3 : P x2 := keeps_acctsTo hP (hL.life h1)
      try clear_value x2
      extract_lets -merge -underBinder +onlyGivenNames x4
      have h5 : P x4 := keeps_ite (keeps_startDone hP h3) (keeps_markStep hP h3)
      try clear_value x4
      exact keeps_restage hP (keeps_rotCheck hP h5)

omit hP in
theorem keeps_sysRestart (hL : ClosedLife P) {s : State} (hs : P s) : P (State.sysRestart s) := by
  have hP := hL.toClosed
  unfold State.sysRestart
  exact keeps_ite (keeps_closingFlush hP (keeps_halt hL hs)) hs

theorem keeps_cwFail {s : State} {result : Nat} (hs : P s) : P (State.cwFail s result) := by
  unfold State.cwFail
  extract_lets -merge -underBinder +onlyGivenNames x0
  have h1 : P x0 := keeps_setFld hP (keeps_setFld hP hs)
  try clear_value x0
  extract_lets -merge -underBinder +onlyGivenNames y3 x2
  clear_value y3
  have h4 : P x2 := hP.upd h1
  try clear_value x2
  exact keeps_ev hP (keeps_setDom hP h4)

theorem keeps_cwStart {s : State} (hs : P s) : P (State.cwStart s).2 := by
  unfold State.cwStart
  extract_lets -merge -underBinder +onlyGivenNames x0
  refine keeps_ifQ (Q := fun p => P (Prod.snd p)) ?_ ?_
  · exact hs
  · refine keeps_ifQ (Q := fun p => P (Prod.snd p)) ?_ ?_
    · exact hs
    · extract_lets -merge -underBinder +onlyGivenNames x1 x2
      have h3 : P x2 := keeps_setReg hP hs
      try clear_value x2
      extract_lets -merge -underBinder +onlyGivenNames x4
      have h5 : P x4 := keeps_setBank hP h3
      try clear_value x4
      extract_lets -merge -underBinder +onlyGivenNames y7 x6
      clear_value y7
      have h8 : P x6 := hP.upd h5
      try clear_value x6
      exact keeps_ev hP (keeps_setDom hP (keeps_setReg hP h8))

theorem keeps_cwErased {s : State} (hs : P s) : P (State.cwErased s) := by
  unfold State.cwErased
  refine keeps_ite ?_ ?_
  · exact hs
  · extract_lets -merge -underBinder +onlyGivenNames x0
    exact keeps_setFld hP (keeps_setBank hP hs)

theorem keeps_cwBlock {s : State} {n : Nat} {ws : List W32} (hs : P s) : P (State.cwBlock s n ws) := by
  unfold State.cwBlock
  extract_lets -merge -underBinder +onlyGivenNames x0
  have h1 : ∀ {v2}, P v2 → P (x0 v2) := by
    intro v2 h3
    unfold x0
    exact keeps_setFld hP (keeps_setFld hP h3)
  try clear_value x0
  exact keeps_ite (h1 (hP.upd hs)) (keeps_ite (h1 (hP.upd hs)) (keeps_cwFail hP hs))

theorem keeps_cwData {s : State} {v : W32} (hs : P s) : P (State.cwData s v).2 := by
  unfold State.cwData
  refine keeps_ifQ (Q := fun p => P (Prod.snd p)) ?_ ?_
  · exact hs
  · refine keeps_ifQ (Q := fun p => P (Prod.snd p)) ?_ ?_
    · exact hs
    · extract_lets -merge -underBinder +onlyGivenNames x0
      refine keeps_ifQ (Q := fun p => P (Prod.snd p)) ?_ ?_
      · exact hs
      · extract_lets -merge -underBinder +onlyGivenNames x1
        extract_lets -merge -underBinder +onlyGivenNames y3 x2
        clear_value y3
        have h4 : P x2 := hP.upd hs
        try clear_value x2
        exact keeps_ifQ (Q := fun p => P (Prod.snd p)) (keeps_cwBlock hP h4) (keeps_setFld hP h4)

theorem keeps_cwProgrammed {s : State} (hs : P s) : P (State.cwProgrammed s) := by
  unfold State.cwProgrammed
  split
  · exact keeps_ite (keeps_setBank hP (hP.upd hs)) hs
  · exact keeps_ite (keeps_setFld hP (keeps_setBank hP hs)) hs

theorem keeps_cwCommit {s : State} (hs : P s) : P (State.cwCommit s).2 := by
  unfold State.cwCommit
  exact keeps_ifQ (Q := fun p => P (Prod.snd p)) hs (keeps_ifQ (Q := fun p => P (Prod.snd p)) hs (keeps_setFld hP hs))

theorem keeps_cwCommitDone {s : State} {o : CommitOutcome} (hs : P s) : P (State.cwCommitDone s o) := by
  unfold State.cwCommitDone
  refine keeps_ite ?_ ?_
  · exact hs
  · extract_lets -merge -underBinder +onlyGivenNames x0
    clear_value x0
    refine keeps_ite ?_ ?_
    · exact keeps_cwFail hP hs
    · refine keeps_ite ?_ ?_
      · exact keeps_cwFail hP hs
      · refine keeps_ite ?_ ?_
        · exact keeps_cwFail hP (keeps_setBank hP hs)
        · extract_lets -merge -underBinder +onlyGivenNames x1
          clear_value x1
          extract_lets -merge -underBinder +onlyGivenNames x2
          have h3 : P x2 := keeps_setBank hP hs
          try clear_value x2
          extract_lets -merge -underBinder +onlyGivenNames x4
          have h5 : P x4 := keeps_setReg hP h3
          try clear_value x4
          extract_lets -merge -underBinder +onlyGivenNames y7 x6
          clear_value y7
          have h8 : P x6 := hP.upd h5
          try clear_value x6
          exact keeps_ev hP (keeps_setDom hP (keeps_setFld hP h8))

theorem keeps_cwAbort {s : State} (hs : P s) : P (State.cwAbort s).2 := by
  unfold State.cwAbort
  exact keeps_ifQ (Q := fun p => P (Prod.snd p)) (keeps_cwFail hP hs) hs

theorem keeps_cwTimeout {s : State} (hs : P s) : P (State.cwTimeout s) := by
  unfold State.cwTimeout
  exact keeps_ite (keeps_cwFail hP hs) hs

theorem keeps_cwCtrl {s : State} {v : Nat} (hs : P s) : P (State.cwCtrl s v).2 := by
  unfold State.cwCtrl
  refine keeps_ifQ (Q := fun p => P (Prod.snd p)) ?_ ?_
  · exact hs
  · split
    · exact keeps_cwStart hP hs
    · exact keeps_cwCommit hP hs
    · exact keeps_cwAbort hP hs
    · exact hs

theorem keeps_feedCarry {s : State} (hs : P s) : P (State.feedCarry s) := by
  unfold State.feedCarry
  extract_lets -merge -underBinder +onlyGivenNames x0 x1 x2 x3 x4
  exact keeps_setFld hP (keeps_setFld hP hs)

theorem keeps_feedMeasure {s : State} {f1 : Nat} {f2 : Nat} (hs : P s) : P (State.feedMeasure s f1 f2) := by
  unfold State.feedMeasure
  exact keeps_feedCarry hP (keeps_setFld hP (keeps_setFld hP hs))

theorem keeps_feedGood {s : State} {f : Nat} (hs : P s) : P (State.feedGood s f) := by
  unfold State.feedGood
  refine keeps_ite ?_ ?_
  · exact hs
  · extract_lets -merge -underBinder +onlyGivenNames x0 x1
    have h2 : P x1 := keeps_setBit hP (keeps_setBit hP (keeps_setBit hP hs))
    try clear_value x1
    extract_lets -merge -underBinder +onlyGivenNames y4 x3
    clear_value y4
    have h5 : P x3 := hP.upd h2
    try clear_value x3
    extract_lets -merge -underBinder +onlyGivenNames x6
    have h7 : P x6 := keeps_setFld hP h5
    try clear_value x6
    extract_lets -merge -underBinder +onlyGivenNames x8
    have h9 : P x8 := keeps_ite (keeps_chargeOn hP h7) h7
    try clear_value x8
    extract_lets -merge -underBinder +onlyGivenNames x10
    have h11 : P x10 := keeps_feedCarry hP h9
    try clear_value x10
    exact keeps_ite (keeps_ev hP h11) h11

theorem keeps_feedBad {s : State} {f : Nat} {ov : Bool} (hs : P s) : P (State.feedBad s f ov) := by
  unfold State.feedBad
  refine keeps_ite ?_ ?_
  · exact hs
  · extract_lets -merge -underBinder +onlyGivenNames x0
    have h1 : P x0 := keeps_setBit hP (keeps_setBit hP hs)
    try clear_value x0
    extract_lets -merge -underBinder +onlyGivenNames x2
    have h3 : P x2 := keeps_feedCarry hP h1
    try clear_value x2
    exact keeps_ite (keeps_ev hP (hP.upd h3)) h3

theorem keeps_holdupUpdate {s : State} (hs : P s) : P (State.holdupUpdate s) := by
  unfold State.holdupUpdate
  extract_lets -merge -underBinder +onlyGivenNames x0
  exact keeps_ite hs (keeps_vholdup hP (keeps_setFld hP hs))

theorem keeps_setStore {s : State} {v : Nat} (hs : P s) : P (State.setStore s v) := by
  unfold State.setStore
  exact keeps_holdupUpdate hP (keeps_setFld hP hs)

theorem keeps_capMeasured {s : State} {cap : Nat} {charge : Bool} (hs : P s) : P (State.capMeasured s cap charge) := by
  unfold State.capMeasured
  extract_lets -merge -underBinder +onlyGivenNames x0 x1 x2 x3 x4 x5
  have h6 : P x5 := keeps_setFld hP (keeps_setFld hP hs)
  try clear_value x5
  extract_lets -merge -underBinder +onlyGivenNames x7
  have h8 : P x7 := keeps_setFld hP h6
  try clear_value x7
  extract_lets -merge -underBinder +onlyGivenNames x9
  have h10 : P x9 := keeps_setFld hP h8
  try clear_value x9
  extract_lets -merge -underBinder +onlyGivenNames x11
  have h12 : P x11 := keeps_ite (keeps_ev hP h10) h10
  try clear_value x11
  extract_lets -merge -underBinder +onlyGivenNames x13
  have h14 : P x13 := keeps_ite (keeps_ev hP h12) h12
  try clear_value x13
  exact keeps_holdupUpdate hP h14

theorem keeps_chargeMeasure {s : State} {riseUs : Nat} (hs : P s) : P (State.chargeMeasure s riseUs) := by
  unfold State.chargeMeasure
  exact keeps_ite hs (keeps_capMeasured hP (keeps_setFld hP hs))

theorem keeps_testStart {s : State} (hs : P s) : P (State.testStart s) := by
  unfold State.testStart
  exact keeps_ite hs (keeps_setFld hP (keeps_setFld hP hs))

theorem keeps_testStop {s : State} {timeUs : Nat} {dropMv : Nat} (hs : P s) : P (State.testStop s timeUs dropMv) := by
  unfold State.testStop
  refine keeps_ite ?_ ?_
  · exact hs
  · extract_lets -merge -underBinder +onlyGivenNames x0
    have h1 : P x0 := keeps_setFld hP hs
    try clear_value x0
    extract_lets -merge -underBinder +onlyGivenNames x2
    have h3 : P x2 := keeps_chargeOn hP (keeps_setFld hP h1)
    try clear_value x2
    exact keeps_capMeasured hP h3

theorem keeps_storeCharged {s : State} (hs : P s) : P (State.storeCharged s) := by
  unfold State.storeCharged
  exact keeps_ite hs (keeps_setStore hP (hP.upd hs))

theorem keeps_chargeTick {s : State} (hs : P s) : P (State.chargeTick s) := by
  unfold State.chargeTick
  extract_lets -merge -underBinder +onlyGivenNames x0 x1
  refine keeps_ite ?_ ?_
  · exact hs
  · refine keeps_ite ?_ ?_
    · exact hP.upd hs
    · extract_lets -merge -underBinder +onlyGivenNames y3 x2
      clear_value y3
      have h4 : P x2 := keeps_setFld hP (hP.upd hs)
      try clear_value x2
      exact keeps_ite (keeps_setFld hP h4) h4

theorem keeps_chargeTimeout {s : State} (hs : P s) : P (State.chargeTimeout s) := by
  unfold State.chargeTimeout
  exact keeps_ite hs (keeps_ev hP (hP.upd hs))

theorem keeps_storeCarry {s : State} {store : Nat} (hs : P s) : P (State.storeCarry s store) := by
  unfold State.storeCarry
  exact keeps_setStore hP (keeps_feedCarry hP (keeps_setFld hP hs))

theorem keeps_holdupDip {s : State} {store : Nat} (hs : P s) : P (State.holdupDip s store) := by
  unfold State.holdupDip
  exact keeps_ite hs (keeps_chargeOn hP (keeps_setStore hP (keeps_feedCarry hP (keeps_bump hP (keeps_setFld hP hs)))))

theorem keeps_shed {s : State} (hs : P s) : P (State.shed s) := by
  unfold State.shed
  extract_lets -merge -underBinder +onlyGivenNames x0
  have h1 : P x0 := keeps_setDoms hP hs
  try clear_value x0
  extract_lets -merge -underBinder +onlyGivenNames x2
  have h3 : P x2 := keeps_fold (fun _ _ hf4 => keeps_ite hf4 (keeps_slPowerOff hP hf4)) h1
  try clear_value x2
  exact keeps_fold (fun _ _ hf5 => keeps_portOff hP hf5) h3

omit hP in
theorem keeps_powerFail (hL : ClosedLife P) {s : State} (hs : P s) : P (State.powerFail s) := by
  have hP := hL.toClosed
  unfold State.powerFail
  refine keeps_ite ?_ ?_
  · exact hs
  · extract_lets -merge -underBinder +onlyGivenNames x0
    extract_lets -merge -underBinder +onlyGivenNames y2 x1
    clear_value y2
    have h3 : P x1 := hL.life hs
    try clear_value x1
    extract_lets -merge -underBinder +onlyGivenNames x4
    have h5 : P x4 := keeps_ite (keeps_halt hL h3) (keeps_restage hP (hL.life h3))
    try clear_value x4
    extract_lets -merge -underBinder +onlyGivenNames x6
    have h7 : P x6 := keeps_setFld hP (keeps_setFld hP h5)
    try clear_value x6
    extract_lets -merge -underBinder +onlyGivenNames x8
    have h9 : P x8 := keeps_powerDown hP (keeps_shed hP (keeps_closingFlush hP (keeps_ev hP h7)))
    try clear_value x8
    exact keeps_holdupUpdate hP (keeps_setFld hP (keeps_draw hP h9))

omit hP in
theorem keeps_exhausted (hL : ClosedLife P) {s : State} (hs : P s) : P (State.exhausted s) := by
  have hP := hL.toClosed
  unfold State.exhausted
  refine keeps_ite ?_ ?_
  · exact hs
  · extract_lets -merge -underBinder +onlyGivenNames x0
    clear_value x0
    extract_lets -merge -underBinder +onlyGivenNames x1
    clear_value x1
    extract_lets -merge -underBinder +onlyGivenNames y3 x2
    have h4 : P x2 := hL.clear hs
    try clear_value x2
    extract_lets -merge -underBinder +onlyGivenNames y6 x5
    clear_value y6
    have h7 : P x5 := hL.life h4
    try clear_value x5
    extract_lets -merge -underBinder +onlyGivenNames x8
    have h9 : P x8 := hL.life h7
    try clear_value x8
    extract_lets -merge -underBinder +onlyGivenNames x10
    have h11 : P x10 := keeps_peerSeen hP (keeps_setReg hP h9)
    try clear_value x10
    exact keeps_fold (fun _ _ hf12 => keeps_setFld hP (keeps_setFld hP hf12)) h11

theorem keeps_fsChange {s : State} {sl : Nat} {v : Nat} (hs : P s) : P (State.fsChange s sl v) := by
  unfold State.fsChange
  refine keeps_ite ?_ ?_
  · exact hs
  · extract_lets -merge -underBinder +onlyGivenNames x0 x1 x2
    have h3 : P x2 := keeps_setReg hP hs
    try clear_value x2
    refine keeps_ite ?_ ?_
    · exact h3
    · extract_lets -merge -underBinder +onlyGivenNames x4
      have h5 : P x4 := keeps_setReg hP h3
      try clear_value x4
      extract_lets -merge -underBinder +onlyGivenNames x6
      have h7 : P x6 := keeps_ite (keeps_ev hP h5) h5
      try clear_value x6
      exact keeps_ite (keeps_aFsChange hP h7) (keeps_dFsChange hP h7)

theorem keeps_setTrip {s : State} {d : Nat} {x : DomTrip} (hs : P s) : P (State.setTrip s d x) := by
  unfold State.setTrip
  exact hP.upd hs

omit hP in
theorem keeps_clockStop (hL : ClosedLife P) {s : State} {why : StopCause} (hs : P s) : P (State.clockStop s why) := by
  have hP := hL.toClosed
  unfold State.clockStop
  exact keeps_ite (keeps_closingFlush hP (keeps_halt hL hs)) hs

omit hP in
theorem keeps_tripAction (hL : ClosedLife P) {s : State} {d : Nat} {locked : Bool} (hs : P s) : P (State.tripAction s d locked) := by
  have hP := hL.toClosed
  unfold State.tripAction
  refine keeps_ite ?_ ?_
  · exact keeps_wheelLost hP hs
  · refine keeps_ite ?_ ?_
    · exact keeps_portOff hP hs
    · refine keeps_ite ?_ ?_
      · exact hs
      · refine keeps_ite ?_ ?_
        · exact keeps_canTrip hP hs
        · refine keeps_ite ?_ ?_
          · extract_lets -merge -underBinder +onlyGivenNames x0 x1
            have h2 : P x1 := keeps_relinquish hP hs
            try clear_value x1
            extract_lets -merge -underBinder +onlyGivenNames x3
            have h4 : P x3 := keeps_ite (keeps_setDom hP h2) h2
            try clear_value x3
            exact keeps_slPowerOff hP h4
          · refine keeps_ite ?_ ?_
            · exact hs
            · refine keeps_ite ?_ ?_
              · extract_lets -merge -underBinder +onlyGivenNames x5
                have h6 : P x5 := keeps_readTrip hL hs
                try clear_value x5
                exact keeps_ite (keeps_cwFail hP h6) h6
              · refine keeps_ite ?_ ?_
                · extract_lets -merge -underBinder +onlyGivenNames x7
                  have h8 : P x7 := keeps_clockStop hL hs
                  try clear_value x7
                  exact hL.life h8
                · extract_lets -merge -underBinder +onlyGivenNames x9
                  have h10 : P x9 := keeps_vfail hP hs
                  try clear_value x9
                  exact keeps_powerDown hP (hL.life h10)

omit hP in
theorem keeps_domainTrip (hL : ClosedLife P) {s : State} {d : Nat} (hs : P s) : P (State.domainTrip s d) := by
  have hP := hL.toClosed
  unfold State.domainTrip
  refine keeps_ite ?_ ?_
  · exact hs
  · extract_lets -merge -underBinder +onlyGivenNames x0
    clear_value x0
    extract_lets -merge -underBinder +onlyGivenNames x1 x2
    have h3 : P x2 := keeps_setBit hP (keeps_setDom hP hs)
    try clear_value x2
    extract_lets -merge -underBinder +onlyGivenNames x4
    have h5 : P x4 := keeps_setTrip hP h3
    try clear_value x4
    exact keeps_tripAction hL (keeps_ev hP h5)

theorem keeps_domainRetry {s : State} {d : Nat} (hs : P s) : P (State.domainRetry s d) := by
  unfold State.domainRetry
  extract_lets -merge -underBinder +onlyGivenNames x0
  clear_value x0
  refine keeps_ite ?_ ?_
  · exact hs
  · extract_lets -merge -underBinder +onlyGivenNames x1
    have h2 : P x1 := keeps_setTrip hP hs
    try clear_value x1
    refine keeps_ite ?_ ?_
    · exact h2
    · extract_lets -merge -underBinder +onlyGivenNames x3
      have h4 : P x3 := keeps_setDom hP h2
      try clear_value x3
      refine keeps_ite ?_ ?_
      · exact keeps_canRestart hP h4
      · refine keeps_ite ?_ ?_
        · extract_lets -merge -underBinder +onlyGivenNames x5 x6
          clear_value x6
          extract_lets -merge -underBinder +onlyGivenNames x7
          have h8 : P x7 := keeps_ite (keeps_setDom hP h4) h4
          try clear_value x7
          exact keeps_ite (keeps_slPowerOn hP h8) h8
        · exact h4

omit hP in
theorem keeps_wheelLoss (hL : ClosedLife P) {s : State} {w : Nat} {why : WheelLoss} (hs : P s) : P (State.wheelLoss s w why) := by
  have hP := hL.toClosed
  unfold State.wheelLoss
  split
  · exact keeps_domainTrip hL hs
  · exact keeps_ite (keeps_wheelDouble hP hs) hs
  · exact keeps_ite (keeps_wheelDouble hP hs) hs

omit hP in
theorem keeps_thermalStop (hL : ClosedLife P) {s : State} (hs : P s) : P (State.thermalStop s) := by
  have hP := hL.toClosed
  unfold State.thermalStop
  refine keeps_ite ?_ ?_
  · exact hs
  · extract_lets -merge -underBinder +onlyGivenNames x0
    have h1 : P x0 := keeps_ite (keeps_halt hL hs) (hL.life hs)
    try clear_value x0
    exact keeps_closingFlush hP (keeps_ev hP (keeps_setDoms hP h1))

omit hP in
theorem keeps_thermalUpdate (hL : ClosedLife P) {s : State} (hs : P s) : P (State.thermalUpdate s) := by
  have hP := hL.toClosed
  unfold State.thermalUpdate
  extract_lets -merge -underBinder +onlyGivenNames x0 x1 x2
  have h3 : P x2 := keeps_setReg hP hs
  try clear_value x2
  extract_lets -merge -underBinder +onlyGivenNames y5 y6 x4
  clear_value y5 y6
  have h7 : P x4 := keeps_ite (keeps_ev hP (hL.life h3)) (keeps_ite (hL.life h3) h3)
  try clear_value x4
  exact keeps_ite (keeps_thermalStop hL h7) h7

omit hP in
theorem keeps_thermalSample (hL : ClosedLife P) {s : State} {n : Nat} {t : Int} (hs : P s) : P (State.thermalSample s n t) := by
  have hP := hL.toClosed
  unfold State.thermalSample
  extract_lets -merge -underBinder +onlyGivenNames x0
  clear_value x0
  extract_lets -merge -underBinder +onlyGivenNames x1
  refine keeps_ite ?_ ?_
  · exact hL.life hs
  · extract_lets -merge -underBinder +onlyGivenNames x2 x3
    extract_lets -merge -underBinder +onlyGivenNames y5 x4
    clear_value y5
    have h6 : P x4 := hL.life hs
    try clear_value x4
    extract_lets -merge -underBinder +onlyGivenNames x7
    have h8 : P x7 := keeps_setFld hP h6
    try clear_value x7
    extract_lets -merge -underBinder +onlyGivenNames x9
    have h10 : P x9 := keeps_ite (keeps_ev hP (keeps_setFld hP h8)) h8
    try clear_value x9
    exact keeps_thermalUpdate hL h10

omit hP in
theorem keeps_sensorIncluded (hL : ClosedLife P) {s : State} {n : Nat} (hs : P s) : P (State.sensorIncluded s n) := by
  have hP := hL.toClosed
  unfold State.sensorIncluded
  exact keeps_ite (keeps_thermalUpdate hL (keeps_ev hP (keeps_setFld hP hs))) hs

theorem keeps_clockEvent {s : State} (hs : P s) : P (State.clockEvent s) := by
  unfold State.clockEvent
  exact keeps_ev hP hs

omit hP in
theorem keeps_tcxoCheck (hL : ClosedLife P) {s : State} {ppm : Int} (hs : P s) : P (State.tcxoCheck s ppm) := by
  have hP := hL.toClosed
  unfold State.tcxoCheck
  refine keeps_ite ?_ ?_
  · extract_lets -merge -underBinder +onlyGivenNames x0
    have h1 : P x0 := keeps_setFld hP hs
    try clear_value x0
    exact keeps_ite (keeps_setFld hP h1) h1
  · extract_lets -merge -underBinder +onlyGivenNames x2
    extract_lets -merge -underBinder +onlyGivenNames y4 x3
    clear_value y4
    have h5 : P x3 := keeps_setFld hP (hL.life hs)
    try clear_value x3
    extract_lets -merge -underBinder +onlyGivenNames x6
    have h7 : P x6 := keeps_ite (keeps_clockEvent hP h5) h5
    try clear_value x6
    exact keeps_ite (keeps_clockStop hL h7) h7

omit hP in
theorem keeps_pllUnlock (hL : ClosedLife P) {s : State} (hs : P s) : P (State.pllUnlock s) := by
  have hP := hL.toClosed
  unfold State.pllUnlock
  extract_lets -merge -underBinder +onlyGivenNames x0
  extract_lets -merge -underBinder +onlyGivenNames y2 x1
  clear_value y2
  have h3 : P x1 := keeps_setFld hP (hL.life hs)
  try clear_value x1
  refine keeps_ite ?_ ?_
  · exact h3
  · extract_lets -merge -underBinder +onlyGivenNames x4
    have h5 : P x4 := keeps_clockEvent hP h3
    try clear_value x4
    exact keeps_ite (keeps_clockStop hL h5) h5

theorem keeps_putWord {s : State} {r : Reg} {i : Nat} {j : Nat} {v : Nat} (hs : P s) : P (State.putWord s r i j v) := by
  unfold State.putWord
  extract_lets -merge -underBinder +onlyGivenNames x0
  exact keeps_ite (keeps_aCfgApply hP hs) (keeps_ite (keeps_aRateApply hP hs) (keeps_ite (keeps_hCfgApply hP hs) (keeps_ite
      (keeps_hZBaseApply hP hs) (keeps_ite (keeps_dCfgApply hP hs) (keeps_ite (keeps_domCfgApply hP hs) (keeps_ite
      (keeps_timeCfgApply hP hs) (keeps_ite (keeps_canCfgWrite hP hs) (keeps_setReg hP hs))))))))

theorem keeps_deliverItem {s : State} {addr : Nat} (hs : P s) : P (State.deliverItem s addr) := by
  unfold State.deliverItem
  split
  · exact keeps_slQueue hP hs
  · exact hs

theorem keeps_journalReg {s : State} {addr : Nat} {v : Nat} {keep : Bool} (hs : P s) : P (State.journalReg s addr v keep) :=
    by
  unfold State.journalReg
  refine keeps_ite ?_ ?_
  · exact hs
  · extract_lets -merge -underBinder +onlyGivenNames x0
    have h1 : P x0 := keeps_journal hP hs
    try clear_value x0
    exact keeps_ite (hP.upd h1) h1

theorem keeps_dropSession {s : State} {n : Nat} (hs : P s) : P (State.dropSession s n) := by
  unfold State.dropSession
  extract_lets -merge -underBinder +onlyGivenNames x0
  have h1 : P x0 := keeps_setSession hP hs
  try clear_value x0
  exact hP.upd h1

theorem keeps_closeSession {s : State} {n : Nat} {why : Nat} (hs : P s) : P (State.closeSession s n why) := by
  unfold State.closeSession
  exact keeps_ite (keeps_dropSession hP (keeps_ev hP hs)) hs

theorem keeps_acctReset {s : State} {a : Nat} {n : Nat} (hs : P s) : P (State.acctReset s a n) := by
  unfold State.acctReset
  extract_lets -merge -underBinder +onlyGivenNames x0
  refine keeps_ite ?_ ?_
  · exact hs
  · extract_lets -merge -underBinder +onlyGivenNames y2 x1
    clear_value y2
    have h3 : P x1 := keeps_setAcct hP (keeps_setAcctState hP hs)
    try clear_value x1
    extract_lets -merge -underBinder +onlyGivenNames x4
    have h5 : P x4 := keeps_ev hP h3
    try clear_value x4
    refine keeps_ite ?_ ?_
    · exact h5
    · extract_lets -merge -underBinder +onlyGivenNames x6
      have h7 : P x6 := keeps_fireRemove hP (keeps_stopAccount hP h5)
      try clear_value x6
      exact hP.upd h7

theorem keeps_restoreReg {s : State} {addr : Nat} (hs : P s) : P (State.restoreReg s addr) := by
  unfold State.restoreReg
  split
  · exact hs
  · extract_lets -merge -underBinder +onlyGivenNames x0
    exact keeps_ite hs (keeps_journalReg hP (keeps_deliverItem hP (keeps_putWord hP hs)))

theorem keeps_endClaims {s : State} {a : Nat} (hs : P s) : P (State.endClaims s a) := by
  unfold State.endClaims
  exact hP.upd hs

theorem keeps_resetTask {s : State} {k : Nat} (hs : P s) : P (State.resetTask s k) := by
  unfold State.resetTask
  extract_lets -merge -underBinder +onlyGivenNames x0
  extract_lets -merge -underBinder +onlyGivenNames y2 x1
  clear_value y2
  have h3 : P x1 := hP.upd hs
  try clear_value x1
  extract_lets -merge -underBinder +onlyGivenNames x4
  have h5 : P x4 := keeps_dataLoad hP h3
  try clear_value x4
  extract_lets -merge -underBinder +onlyGivenNames x6
  have h7 : P x6 := keeps_fold (fun _ _ hf8 => keeps_journal hP hf8) h5
  try clear_value x6
  extract_lets -merge -underBinder +onlyGivenNames x9
  have h10 : P x9 := keeps_setReg hP (keeps_setFld hP h7)
  try clear_value x9
  exact keeps_setReg hP (keeps_setFld hP h10)

theorem keeps_acctResetDone {s : State} {a : Nat} (hs : P s) : P (State.acctResetDone s a) := by
  unfold State.acctResetDone
  refine keeps_ite ?_ ?_
  · exact hs
  · extract_lets -merge -underBinder +onlyGivenNames x0
    have h1 : P x0 := keeps_fold (fun _ _ hf2 => keeps_setTill hP hf2) hs
    try clear_value x0
    extract_lets -merge -underBinder +onlyGivenNames x3
    have h4 : P x3 := keeps_fold (fun _ _ hf5 => keeps_hForget hP hf5) h1
    try clear_value x3
    extract_lets -merge -underBinder +onlyGivenNames x6
    have h7 : P x6 := keeps_fold (fun _ _ hf8 => keeps_canForget hP hf8) h4
    try clear_value x6
    extract_lets -merge -underBinder +onlyGivenNames x9
    have h10 : P x9 := keeps_clearForcesOf hP (keeps_endClaims hP (keeps_quarantineAcct hP h7))
    try clear_value x9
    extract_lets -merge -underBinder +onlyGivenNames x11
    have h12 : P x11 := keeps_fold (fun _ _ hf13 => keeps_resetTask hP hf13) h10
    try clear_value x11
    extract_lets -merge -underBinder +onlyGivenNames x14
    have h15 : P x14 := keeps_fold (fun _ _ hf16 => keeps_restoreReg hP hf16) h12
    try clear_value x14
    extract_lets -merge -underBinder +onlyGivenNames x17
    have h18 : P x17 := keeps_setFld hP h15
    try clear_value x17
    extract_lets -merge -underBinder +onlyGivenNames x19
    extract_lets -merge -underBinder +onlyGivenNames y21 x20
    clear_value y21
    have h22 : P x20 := keeps_setAcct hP h18
    try clear_value x20
    extract_lets -merge -underBinder +onlyGivenNames x23
    have h24 : P x23 := keeps_bump hP h22
    try clear_value x23
    exact keeps_ite (keeps_enterFault hP (keeps_setAcctState hP h24)) (keeps_ite (keeps_setAcctState hP h24) (keeps_ev hP
        (keeps_enableTasks hP (keeps_setAcctState hP h24))))

omit hP in
theorem keeps_applyWord (hL : ClosedLife P) {s : State} {addr : Nat} {v : W32} {n : Nat} (hs : P s) : P (State.applyWord s addr v n) := by
  have hP := hL.toClosed
  unfold State.applyWord
  split
  · exact hs
  · extract_lets -merge -underBinder +onlyGivenNames x0
    refine keeps_ite ?_ ?_
    · exact keeps_sysRestart hL hs
    · refine keeps_ite ?_ ?_
      · exact keeps_ite (keeps_closeSession hP hs) hs
      · refine keeps_ite ?_ ?_
        · exact keeps_ite (keeps_acctReset hP hs) (keeps_enterFault hP hs)
        · extract_lets -merge -underBinder +onlyGivenNames x1
          have h2 : P x1 := keeps_ite (keeps_keyWrite hP hs) (keeps_ite (keeps_dCount hP hs) (keeps_ite (keeps_ite
              (keeps_dsRestore hP hs) hs) (keeps_putWord hP hs)))
          try clear_value x1
          extract_lets -merge -underBinder +onlyGivenNames x3
          have h4 : P x3 := keeps_deliverItem hP h2
          try clear_value x3
          exact keeps_ite h4 (keeps_journalReg hP h4)

theorem keeps_applyPair {s : State} {addr : Nat} {v : W64} (hs : P s) : P (State.applyPair s addr v) := by
  unfold State.applyPair
  split
  · exact hs
  · extract_lets -merge -underBinder +onlyGivenNames x0
    have h1 : P x0 := keeps_ite (keeps_timeSetApply hP hs) (keeps_ite (keeps_setReg64 hP hs) (keeps_setReg64 hP hs))
    try clear_value x0
    extract_lets -merge -underBinder +onlyGivenNames x2
    have h3 : P x2 := keeps_deliverItem hP h1
    try clear_value x2
    exact keeps_ite h3 (keeps_journalReg hP (keeps_journalReg hP h3))

theorem keeps_applyData {s : State} {k : Nat} {w : Nat} {v : W64} (hs : P s) : P (State.applyData s k w v) := by
  unfold State.applyData
  exact keeps_ite (hP.upd hs) (keeps_dataWrite hP hs)

end Sys2Proof.Machine
end

