-- ==== Sys2Proof/Laws/KeepsPair.lean ====
section
/-! SUPPORT. Every operation keeps a Closed property (see KeepsBase): pairs and the ledger link. -/

namespace Sys2Proof.Machine

theorem keeps_pieces {P : State → Prop} {f : State → Nat → List W64 → State} {n k i : Nat} {ws : List W64} {s : State}
    (hf : ∀ {s i ws}, P s → P (f s i ws)) (hs : P s) : P (pieces f n k i ws s) := by
  induction k generalizing s i ws with
  | zero => rw [pieces]; exact hs
  | succ k ih =>
    rw [pieces]
    exact keeps_ite hs (ih (hf hs))



variable {P : State → Prop} (hP : Closed P)
include hP

theorem keeps_dropSync {s : State} (hs : P s) : P (State.dropSync s) := by
  unfold State.dropSync
  exact hP.upd hs

omit hP in
theorem keeps_goAlone (hL : ClosedLife P) {s : State} (hs : P s) : P (State.goAlone s) := by
  have hP := hL.toClosed
  unfold State.goAlone
  extract_lets -merge -underBinder +onlyGivenNames y1 y2 x0
  clear_value y2
  have h3 : P x0 := by
    unfold x0
    refine keeps_dropSync hP ?_
    have h4 : P y1 := keeps_setFld hP (keeps_setPair hP hs)
    try clear_value y1
    exact hL.life h4
  try clear_value x0
  extract_lets -merge -underBinder +onlyGivenNames x5
  have h6 : P x5 := keeps_canBegin hP h3
  try clear_value x5
  refine keeps_ite ?_ ?_
  · exact h6
  · extract_lets -merge -underBinder +onlyGivenNames y8 x7
    clear_value y8
    have h9 : P x7 := hL.life h6
    try clear_value x7
    extract_lets -merge -underBinder +onlyGivenNames x10
    have h11 : P x10 := keeps_fold (fun _ _ hf12 => keeps_dataLoad hP hf12) h9
    try clear_value x10
    extract_lets -merge -underBinder +onlyGivenNames x13
    have h14 : P x13 := keeps_buildImage hP h11
    try clear_value x13
    extract_lets -merge -underBinder +onlyGivenNames x15
    have h16 : P x15 := keeps_fold (fun _ _ hf17 => keeps_ite (keeps_setAcctState hP hf17) hf17) h14
    try clear_value x15
    exact keeps_supervise hP (keeps_announce hP (keeps_firstRelease hL h16))

omit hP in
theorem keeps_roleTo (hL : ClosedLife P) {s : State} {st : Nat} {row : Nat} (hs : P s) : P (State.roleTo s st row) := by
  have hP := hL.toClosed
  unfold State.roleTo
  extract_lets -merge -underBinder +onlyGivenNames x0
  have h1 : P x0 := keeps_ev hP hs
  try clear_value x0
  refine keeps_ite ?_ ?_
  · exact keeps_goAlone hL h1
  · extract_lets -merge -underBinder +onlyGivenNames x2
    have h3 : P x2 := keeps_setPair hP h1
    try clear_value x2
    exact keeps_ite (keeps_startDone hP h3) h3

omit hP in
theorem keeps_roleDecision (hL : ClosedLife P) {s : State} (hs : P s) : P (State.roleDecision s) := by
  have hP := hL.toClosed
  unfold State.roleDecision
  extract_lets -merge -underBinder +onlyGivenNames x0 x1
  refine keeps_ite ?_ ?_
  · exact hs
  · split
    · exact keeps_markStep hP (keeps_roleTo hL hs)

omit hP in
theorem keeps_pairUp (hL : ClosedLife P) {s : State} (hs : P s) : P (State.pairUp s) := by
  have hP := hL.toClosed
  unfold State.pairUp
  extract_lets -merge -underBinder +onlyGivenNames x0 x1 x2
  have h3 : P x2 := keeps_setFld hP hs
  try clear_value x2
  extract_lets -merge -underBinder +onlyGivenNames x4
  have h5 : P x4 := keeps_ite (keeps_ev hP h3) h3
  try clear_value x4
  refine keeps_ite ?_ ?_
  · extract_lets -merge -underBinder +onlyGivenNames x6
    have h7 : P x6 := keeps_ev hP h5
    try clear_value x6
    exact keeps_ite h7 (keeps_dropSync hP (keeps_pairCease hP h7))
  · refine keeps_ite ?_ ?_
    · split
      · exact keeps_roleTo hL h5
    · exact h5

omit hP in
theorem keeps_helloIn (hL : ClosedLife P) {s : State} {ws : List W64} (hs : P s) : P (State.helloIn s ws) := by
  have hP := hL.toClosed
  unfold State.helloIn
  extract_lets -merge -underBinder +onlyGivenNames x0 x1
  extract_lets -merge -underBinder +onlyGivenNames y3 x2
  clear_value y3
  have h4 : P x2 := hL.life hs
  try clear_value x2
  extract_lets -merge -underBinder +onlyGivenNames x5
  have h6 : P x5 := keeps_setReg hP h4
  try clear_value x5
  refine keeps_ite ?_ ?_
  · exact h6
  · refine keeps_ite ?_ ?_
    · exact keeps_ev hP (keeps_setFld hP h6)
    · extract_lets -merge -underBinder +onlyGivenNames x7
      have h8 : P x7 := keeps_setFld hP (keeps_setFld hP h6)
      try clear_value x7
      exact keeps_pairUp hL (keeps_ev hP h8)

theorem keeps_syncLost {s : State} {why : Nat} (hs : P s) : P (State.syncLost s why) := by
  unfold State.syncLost
  exact keeps_ev hP (keeps_bump hP hs)

theorem keeps_resyncBegin {s : State} (hs : P s) : P (State.resyncBegin s) := by
  unfold State.resyncBegin
  refine keeps_ite ?_ ?_
  · exact hs
  · extract_lets -merge -underBinder +onlyGivenNames x0
    extract_lets -merge -underBinder +onlyGivenNames y2 x1
    clear_value y2
    have h3 : P x1 := hP.upd hs
    try clear_value x1
    extract_lets -merge -underBinder +onlyGivenNames y5 x4
    clear_value y5
    have h6 : P x4 := hP.upd h3
    try clear_value x4
    extract_lets -merge -underBinder +onlyGivenNames x7
    have h8 : P x7 := keeps_bump hP (keeps_setReg hP h6)
    try clear_value x7
    exact keeps_ev hP h8

theorem keeps_lagShow {s : State} (hs : P s) : P (State.lagShow s) := by
  unfold State.lagShow
  extract_lets -merge -underBinder +onlyGivenNames x0 x1
  have h2 : P x1 := keeps_peak hP (keeps_setFld hP hs)
  try clear_value x1
  refine keeps_ite ?_ ?_
  · extract_lets -merge -underBinder +onlyGivenNames x3
    have h4 : P x3 := keeps_setPair hP h2
    try clear_value x3
    exact keeps_ev hP (keeps_setFld hP (hP.upd h4))
  · exact h2

theorem keeps_lagTick {s : State} (hs : P s) : P (State.lagTick s) := by
  unfold State.lagTick
  refine keeps_ite ?_ ?_
  · exact hs
  · extract_lets -merge -underBinder +onlyGivenNames x0
    have h1 : P x0 := keeps_lagShow hP hs
    try clear_value x0
    exact keeps_ite (keeps_dropSync hP (keeps_setFld hP (keeps_setPair hP (keeps_syncLost hP h1)))) h1

theorem keeps_streamBegin {s : State} {copy : Bool} (hs : P s) : P (State.streamBegin s copy) := by
  unfold State.streamBegin
  extract_lets -merge -underBinder +onlyGivenNames x0
  have h1 : P x0 := keeps_ite (keeps_setReg hP hs) hs
  try clear_value x0
  exact hP.upd h1

theorem keeps_streamEnd {s : State} (hs : P s) : P (State.streamEnd s) := by
  unfold State.streamEnd
  exact hP.upd hs

theorem keeps_collect {s : State} (hs : P s) : P (State.collect s) := by
  unfold State.collect
  extract_lets -merge -underBinder +onlyGivenNames x0 x1
  exact hP.upd hs

theorem keeps_streamWords {s : State} (hs : P s) : P (State.streamWords s).2 := by
  unfold State.streamWords
  extract_lets -merge -underBinder +onlyGivenNames x0
  refine keeps_ifQ (Q := fun p => P (Prod.snd p)) ?_ ?_
  · extract_lets -merge -underBinder +onlyGivenNames x1
    exact hP.upd hs
  · split
    · split
      · extract_lets -merge -underBinder +onlyGivenNames x2 x3 x4
        have h5 : P x4 := keeps_setReg hP hs
        try clear_value x4
        exact hP.upd h5

theorem keeps_backlogCheck {s : State} (hs : P s) : P (State.backlogCheck s) := by
  unfold State.backlogCheck
  exact keeps_ite hs (keeps_ite (keeps_streamEnd hP (keeps_setPair hP (keeps_syncLost hP hs))) (keeps_ite (keeps_streamEnd hP
      (keeps_setPair hP (keeps_syncLost hP hs))) hs))

theorem keeps_ackIn {s : State} {p : Nat} (hs : P s) : P (State.ackIn s p) := by
  unfold State.ackIn
  exact keeps_ite (keeps_streamBegin hP hs) (keeps_ite hs (hP.upd hs))

theorem keeps_journalResend {s : State} (hs : P s) : P (State.journalResend s) := by
  unfold State.journalResend
  exact keeps_ite hs (keeps_bump hP (hP.upd hs))

theorem keeps_recordIn {s : State} {g : Nat} {ws : List W64} (hs : P s) : P (State.recordIn s g ws) := by
  unfold State.recordIn
  extract_lets -merge -underBinder +onlyGivenNames x0
  clear_value x0
  extract_lets -merge -underBinder +onlyGivenNames x1
  clear_value x1
  extract_lets -merge -underBinder +onlyGivenNames x2
  clear_value x2
  extract_lets -merge -underBinder +onlyGivenNames x3
  have h4 : P x3 := keeps_setSig hP hs
  try clear_value x3
  extract_lets -merge -underBinder +onlyGivenNames x5
  have h6 : P x5 := keeps_ite h4 (keeps_slSafe hP h4)
  try clear_value x5
  exact keeps_ite (hP.upd h6) h6

theorem keeps_signalIn {s : State} {head : W64} {v : W64} {stamp : W64} (hs : P s) : P (State.signalIn s head v stamp) := by
  unfold State.signalIn
  extract_lets -merge -underBinder +onlyGivenNames x0 x1 x2
  clear_value x2
  refine keeps_ite ?_ ?_
  · exact hs
  · extract_lets -merge -underBinder +onlyGivenNames x3
    clear_value x3
    extract_lets -merge -underBinder +onlyGivenNames x4
    clear_value x4
    extract_lets -merge -underBinder +onlyGivenNames x5
    have h6 : P x5 := by
      unfold x5
      split
      · exact keeps_setSig hP (keeps_setForce hP hs)
      · exact keeps_setSig hP hs
    try clear_value x5
    refine keeps_ite ?_ ?_
    · exact h6
    · refine keeps_ite ?_ ?_
      · extract_lets -merge -underBinder +onlyGivenNames x7
        exact keeps_ite (keeps_dReplay hP h6) h6
      · exact hP.upd h6

theorem keeps_fireIn' {s : State} {ws : List W64} (hs : P s) : P (State.fireIn' s ws) := by
  unfold State.fireIn'
  extract_lets -merge -underBinder +onlyGivenNames x0
  clear_value x0
  refine keeps_ite ?_ ?_
  · exact hs
  · extract_lets -merge -underBinder +onlyGivenNames y2 x1
    clear_value y2
    have h3 : P x1 := hP.upd hs
    try clear_value x1
    exact keeps_firePeaks hP h3

theorem keeps_fireEndIn {s : State} {head : W64} (hs : P s) : P (State.fireEndIn s head) := by
  unfold State.fireEndIn
  extract_lets -merge -underBinder +onlyGivenNames x0 x1
  exact hP.upd hs

theorem keeps_forceIn {s : State} {head : W64} {v : W64} (hs : P s) : P (State.forceIn s head v) := by
  unfold State.forceIn
  extract_lets -merge -underBinder +onlyGivenNames x0
  refine keeps_ite ?_ ?_
  · exact hs
  · refine keeps_ite ?_ ?_
    · extract_lets -merge -underBinder +onlyGivenNames x1
      clear_value x1
      extract_lets -merge -underBinder +onlyGivenNames x2
      clear_value x2
      exact keeps_setForce hP hs
    · exact keeps_setForce hP hs

theorem keeps_forceCopy {s : State} {ws : List W64} (hs : P s) : P (State.forceCopy s ws) := by
  unfold State.forceCopy
  extract_lets -merge -underBinder +onlyGivenNames x0 x1 x2
  clear_value x2
  exact keeps_ite hs (keeps_setForce hP (keeps_draw hP (keeps_draw hP hs)))

omit hP in
theorem keeps_regIn (hL : ClosedLife P) {s : State} {addr : Nat} {v : W32} (hs : P s) : P (State.regIn s addr v) := by
  have hP := hL.toClosed
  unfold State.regIn
  refine keeps_ite ?_ ?_
  · exact hs
  · extract_lets -merge -underBinder +onlyGivenNames x0
    have h1 : P x0 := keeps_dRecount hP (keeps_applyWord hL hs)
    try clear_value x0
    exact keeps_ite (hL.life h1) h1

theorem keeps_itemIn {s : State} {key : Nat} {v : W64} (hs : P s) : P (State.itemIn s key v) := by
  unfold State.itemIn
  extract_lets -merge -underBinder +onlyGivenNames x0 x1 x2
  extract_lets -merge -underBinder +onlyGivenNames y4 x3
  clear_value y4
  have h5 : P x3 := hP.upd hs
  try clear_value x3
  clear_value x0
  split
  · exact keeps_ite (keeps_setTask hP h5) h5
  · extract_lets -merge -underBinder +onlyGivenNames x6
    have h7 : P x6 := keeps_ite (keeps_setFld hP h5) h5
    try clear_value x6
    exact keeps_ite (hP.upd h7) h7
  · exact keeps_setTask hP (hP.upd h5)
  · exact keeps_setHart hP (keeps_setFld hP (keeps_setFld hP h5))
  · exact h5

omit hP in
theorem keeps_copyIn (hL : ClosedLife P) {s : State} {region : Nat} {off : Nat} {ws : List W64} (hs : P s) : P (State.copyIn s region off ws) := by
  have hP := hL.toClosed
  unfold State.copyIn
  extract_lets -merge -underBinder +onlyGivenNames x0
  split
  · refine keeps_pieces ?_ ?_
    · intro y1 a1 b1 hf1
      extract_lets -merge -underBinder +onlyGivenNames x2 x3 x4
      clear_value x4
      exact keeps_ite (keeps_ite (keeps_recordIn hP (hL.life hf1)) hf1) (keeps_recordIn hP hf1)
    · exact hs
  · refine keeps_pieces ?_ ?_
    · intro y5 a5 b5 hf5
      extract_lets -merge -underBinder +onlyGivenNames x6
      exact keeps_ite (keeps_dataPut hP hf5) hf5
    · exact hs
  · exact keeps_pieces (fun hf7 => keeps_fireIn' hP hf7) hs
  · exact keeps_pieces (fun hf8 => keeps_forceCopy hP hf8) hs
  · exact keeps_pieces (fun hf9 => keeps_regIn hL hf9) hs
  · exact keeps_pieces (fun hf10 => keeps_itemIn hP hf10) hs
  · exact hs

theorem keeps_tickIn {s : State} {v : Int} {age : Nat} (hs : P s) : P (State.tickIn s v age) := by
  unfold State.tickIn
  extract_lets -merge -underBinder +onlyGivenNames x0
  have h1 : P x0 := keeps_ite (keeps_setReg64 hP hs) hs
  try clear_value x0
  exact keeps_lagShow hP (hP.upd h1)

omit hP in
theorem keeps_entryIn (hL : ClosedLife P) {s : State} {age : Nat} {ws : List W64} (hs : P s) : P (State.entryIn s age ws) := by
  have hP := hL.toClosed
  unfold State.entryIn
  extract_lets -merge -underBinder +onlyGivenNames x0
  clear_value x0
  extract_lets -merge -underBinder +onlyGivenNames x1 x2
  clear_value x2
  split
  · exact keeps_tickIn hP hs
  · exact keeps_signalIn hP hs
  · exact keeps_ite (keeps_recordIn hP hs) hs
  · exact keeps_fireIn' hP hs
  · exact keeps_fireEndIn hP hs
  · exact keeps_ite (keeps_dataPut hP hs) hs
  · exact keeps_regIn hL hs
  · exact keeps_forceIn hP hs
  · exact keeps_itemIn hP hs
  · extract_lets -merge -underBinder +onlyGivenNames x3
    have h4 : P x3 := keeps_setReg hP hs
    try clear_value x3
    extract_lets -merge -underBinder +onlyGivenNames x5
    have h6 : P x5 := keeps_copyIn hL h4
    try clear_value x5
    exact keeps_ite (keeps_lagShow hP (hL.life h6)) h6
  · exact hs

omit hP in
theorem keeps_entriesIn (hL : ClosedLife P) {age k : Nat} {s : State} (hs : P s) : P (State.entriesIn s age k) := by
  have hP := hL.toClosed
  induction k generalizing s with
  | zero => rw [State.entriesIn]; exact hs
  | succ k ih =>
    rw [State.entriesIn]
    split
    · exact hs
    · extract_lets -merge -underBinder +onlyGivenNames x1 y1 x2
      refine keeps_ite hs (ih ?_)
      refine hL.life ?_
      refine keeps_entryIn hL ?_
      refine hL.life ?_
      exact hs

omit hP in
theorem keeps_streamIn (hL : ClosedLife P) {s : State} {pos : Nat} {ws : List W64} {age : Nat} (hs : P s) : P (State.streamIn s pos ws age) := by
  have hP := hL.toClosed
  unfold State.streamIn
  extract_lets -merge -underBinder +onlyGivenNames x0
  extract_lets -merge -underBinder +onlyGivenNames y2 x1
  clear_value y2
  have h3 : P x1 := hL.life hs
  try clear_value x1
  exact keeps_entriesIn hL h3

theorem keeps_llLock {s : State} {good : Bool} {spaced : Bool} (hs : P s) : P (State.llLock s good spaced) := by
  unfold State.llLock
  extract_lets -merge -underBinder +onlyGivenNames x0
  clear_value x0
  refine keeps_ite ?_ ?_
  · refine keeps_ite ?_ ?_
    · exact hP.upd hs
    · refine keeps_ite ?_ ?_
      · exact hP.upd hs
      · extract_lets -merge -underBinder +onlyGivenNames y2 x1
        clear_value y2
        have h3 : P x1 := hP.upd hs
        try clear_value x1
        exact keeps_ite (keeps_setFld hP h3) h3
  · extract_lets -merge -underBinder +onlyGivenNames x4
    refine keeps_ite ?_ ?_
    · exact hP.upd hs
    · extract_lets -merge -underBinder +onlyGivenNames y6 x5
      clear_value y6
      have h7 : P x5 := hP.upd hs
      try clear_value x5
      exact keeps_ite (keeps_setFld hP h7) h7

theorem keeps_pairSchedule {s : State} {code : Nat} {from_ : Nat} (hs : P s) : P (State.pairSchedule s code from_).2 := by
  unfold State.pairSchedule
  extract_lets -merge -underBinder +onlyGivenNames x0 x1
  have h2 : P x1 := keeps_setFld hP hs
  try clear_value x1
  refine keeps_ifQ (Q := fun p => P (Prod.snd p)) ?_ ?_
  · extract_lets -merge -underBinder +onlyGivenNames x3
    exact keeps_ev hP (keeps_fireSubmit hP h2)
  · exact h2

theorem keeps_reclaimTry {s : State} (hs : P s) : P (State.reclaimTry s) := by
  unfold State.reclaimTry
  refine keeps_ite ?_ ?_
  · exact hs
  · split
    · rename_i m0 m1 e2
      have h3 : P m1 := keeps_of_eq (congrArg (fun p => Prod.snd (p)) e2) (keeps_pairSchedule hP hs)
      exact keeps_ite h3 (keeps_ev hP (hP.upd h3))

theorem keeps_peerStateIn {s : State} {st : Nat} (hs : P s) : P (State.peerStateIn s st) := by
  unfold State.peerStateIn
  extract_lets -merge -underBinder +onlyGivenNames x0 x1
  have h2 : P x1 := keeps_setFld hP hs
  try clear_value x1
  extract_lets -merge -underBinder +onlyGivenNames y4 x3
  clear_value y4
  have h5 : P x3 := keeps_ite h2 (hP.upd h2)
  try clear_value x3
  refine keeps_ite ?_ ?_
  · exact h5
  · extract_lets -merge -underBinder +onlyGivenNames y7 x6
    have h8 : P x6 := by
      unfold x6
      refine keeps_ite ?_ ?_
      · exact keeps_setPair hP h5
      · refine keeps_ite ?_ ?_
        · have h9 : P y7 := keeps_streamEnd hP (keeps_setPair hP h5)
          try clear_value y7
          exact keeps_ite (keeps_syncLost hP h9) h9
        · exact h5
    try clear_value x6
    exact keeps_ite (keeps_streamBegin hP h8) h8

theorem keeps_relinquishIn {s : State} (hs : P s) : P (State.relinquishIn s) := by
  unfold State.relinquishIn
  exact keeps_ite (hP.upd hs) hs

omit hP in
theorem keeps_dataIn (hL : ClosedLife P) {s : State} {body : List W64} {words : Nat} {age : Nat} (hs : P s) : P (State.dataIn s body words age)
    := by
  have hP := hL.toClosed
  unfold State.dataIn
  exact keeps_ite hs (keeps_ite (keeps_streamIn hL hs) (keeps_ite (keeps_ackIn hP hs) hs))

omit hP in
theorem keeps_ledgerIn (hL : ClosedLife P) {s : State} {f : LedgerFrame} {spaced : Bool} {age : Nat} (hs : P s) : P (State.ledgerIn s f spaced
    age) := by
  have hP := hL.toClosed
  unfold State.ledgerIn
  refine keeps_ite ?_ ?_
  · exact hs
  · extract_lets -merge -underBinder +onlyGivenNames x0 x1 x2
    have h3 : P x2 := keeps_ite hs (keeps_bump hP hs)
    try clear_value x2
    extract_lets -merge -underBinder +onlyGivenNames x4
    have h5 : P x4 := keeps_llLock hP h3
    try clear_value x4
    refine keeps_ite ?_ ?_
    · exact h5
    · extract_lets -merge -underBinder +onlyGivenNames y7 x6
      clear_value y7
      have h8 : P x6 := keeps_ite (hL.life h5) h5
      try clear_value x6
      extract_lets -merge -underBinder +onlyGivenNames x9
      have h10 : P x9 := keeps_peerStateIn hP h8
      try clear_value x9
      extract_lets -merge -underBinder +onlyGivenNames x11
      extract_lets -merge -underBinder +onlyGivenNames y13 x12
      clear_value y13
      have h14 : P x12 := hL.life h10
      try clear_value x12
      extract_lets -merge -underBinder +onlyGivenNames x15
      have h16 : P x15 := keeps_ite (keeps_reclaimTry hP h14) h14
      try clear_value x15
      extract_lets -merge -underBinder +onlyGivenNames x17
      exact keeps_ite (keeps_helloIn hL h16) (keeps_ite (keeps_relinquishIn hP h16) (keeps_dataIn hL (hL.life h16)))

theorem keeps_linkLost {s : State} {lock : Bool} (hs : P s) : P (State.linkLost s lock) := by
  unfold State.linkLost
  extract_lets -merge -underBinder +onlyGivenNames x0 x1
  refine keeps_ite ?_ ?_
  · exact hs
  · extract_lets -merge -underBinder +onlyGivenNames x2
    have h3 : P x2 := keeps_setFld hP (keeps_setFld hP hs)
    try clear_value x2
    extract_lets -merge -underBinder +onlyGivenNames y5 x4
    clear_value y5
    have h6 : P x4 := hP.upd h3
    try clear_value x4
    extract_lets -merge -underBinder +onlyGivenNames x7
    have h8 : P x7 := keeps_ev hP h6
    try clear_value x7
    exact keeps_ite h8 (keeps_ite (keeps_syncLost hP (keeps_streamEnd hP (keeps_setPair hP h8))) (keeps_ite (keeps_streamEnd
        hP h8) (keeps_ite (hP.upd h8) h8)))

theorem keeps_peerGone {s : State} (hs : P s) : P (State.peerGone s) := by
  unfold State.peerGone
  extract_lets -merge -underBinder +onlyGivenNames x0
  have h1 : P x0 := keeps_peerSeen hP hs
  try clear_value x0
  exact keeps_ite (hP.upd h1) h1

theorem keeps_ledgerTick {s : State} (hs : P s) : P (State.ledgerTick s) := by
  unfold State.ledgerTick
  refine keeps_ite ?_ ?_
  · exact hs
  · extract_lets -merge -underBinder +onlyGivenNames x0
    have h1 : P x0 := keeps_backlogCheck hP (keeps_lagTick hP (keeps_resyncBegin hP hs))
    try clear_value x0
    refine keeps_ite ?_ ?_
    · exact keeps_llSend hP h1
    · refine keeps_ite ?_ ?_
      · extract_lets -merge -underBinder +onlyGivenNames x2
        have h3 : P x2 := keeps_collect hP h1
        try clear_value x2
        extract_lets -merge -underBinder +onlyGivenNames x4
        split
        · rename_i m5 m6 e7
          have h8 : P m6 := keeps_of_eq (congrArg (fun p => Prod.snd (p)) e7) (keeps_streamWords hP h3)
          exact keeps_llSend hP h8
      · exact keeps_llSend hP h1

theorem keeps_continueTasks {s : State} {a : Nat} (hs : P s) : P (State.continueTasks s a) := by
  unfold State.continueTasks
  refine keeps_fold ?_ ?_
  · intro y0 a0 hf0
    extract_lets -merge -underBinder +onlyGivenNames x1
    clear_value x1
    exact keeps_setFld hP (keeps_setTask hP hf0)
  · exact hs

theorem keeps_takeAccounts {s : State} (hs : P s) : P (State.takeAccounts s) := by
  unfold State.takeAccounts
  refine keeps_fold ?_ ?_
  · intro y0 a0 hf0
    extract_lets -merge -underBinder +onlyGivenNames x1
    refine keeps_ite ?_ ?_
    · exact hf0
    · extract_lets -merge -underBinder +onlyGivenNames x2 x3
      exact keeps_ite (keeps_setFld hP (keeps_setAcctState hP hf0)) (keeps_ite (keeps_setAcctState hP hf0)
          (keeps_continueTasks hP (keeps_setAcctState hP hf0)))
  · exact hs

theorem keeps_takeIdentity {s : State} (hs : P s) : P (State.takeIdentity s) := by
  unfold State.takeIdentity
  extract_lets -merge -underBinder +onlyGivenNames y1 x0
  clear_value y1
  have h2 : P x0 := hP.upd hs
  try clear_value x0
  extract_lets -merge -underBinder +onlyGivenNames x3
  have h4 : P x3 := by
    unfold x3
    refine keeps_fold ?_ ?_
    · intro y5 a5 hf5
      split
      · extract_lets -merge -underBinder +onlyGivenNames x6
        have h7 : P x6 := keeps_setReg hP hf5
        try clear_value x6
        exact hP.upd h7
      · exact hf5
    · exact h2
  try clear_value x3
  refine keeps_fold ?_ ?_
  · intro y8 a8 hf8
    split
    · extract_lets -merge -underBinder +onlyGivenNames x9
      exact keeps_ite hf8 (keeps_setTag hP hf8)
    · exact hf8
  · exact h4

theorem keeps_takeRzt {s : State} (hs : P s) : P (State.takeRzt s) := by
  unfold State.takeRzt
  refine keeps_ite ?_ ?_
  · exact hs
  · refine keeps_fold ?_ ?_
    · intro y0 a0 hf0
      extract_lets -merge -underBinder +onlyGivenNames x1
      have h2 : P x1 := by
        unfold x1
        split
        · extract_lets -merge -underBinder +onlyGivenNames x3
          refine keeps_ite ?_ ?_
          · exact hf0
          · extract_lets -merge -underBinder +onlyGivenNames x4
            have h5 : P x4 := keeps_setFld hP (keeps_setFld hP (keeps_setReg hP hf0))
            try clear_value x4
            extract_lets -merge -underBinder +onlyGivenNames x6
            have h7 : P x6 := keeps_setFld hP (keeps_setFld hP h5)
            try clear_value x6
            exact keeps_setTx hP h7
        · exact hf0
      try clear_value x1
      split
      · extract_lets -merge -underBinder +onlyGivenNames x8
        refine keeps_ite ?_ ?_
        · exact h2
        · extract_lets -merge -underBinder +onlyGivenNames x9
          have h10 : P x9 := keeps_setFld hP (keeps_setFld hP (keeps_setReg hP h2))
          try clear_value x9
          exact keeps_rzOpenSend hP (keeps_setRx hP h10)
      · exact h2
    · exact hs

theorem keeps_handOutputs {s : State} (hs : P s) : P (State.handOutputs s) := by
  unfold State.handOutputs
  exact keeps_fold (fun _ _ hf0 => keeps_dHand hP hf0) (keeps_fold (fun _ _ hf1 => keeps_aHand hP hf1) hs)

theorem keeps_takeControl {s : State} {st : Nat} (hs : P s) : P (State.takeControl s st) := by
  unfold State.takeControl
  extract_lets -merge -underBinder +onlyGivenNames y1 y2 x0
  clear_value y2
  have h3 : P x0 := by
    unfold x0
    refine keeps_dropSync hP ?_
    have h4 : P y1 := keeps_setPair hP hs
    try clear_value y1
    exact hP.upd h4
  try clear_value x0
  extract_lets -merge -underBinder +onlyGivenNames x5
  have h6 : P x5 := keeps_setFld hP (keeps_setReg hP h3)
  try clear_value x5
  extract_lets -merge -underBinder +onlyGivenNames x7
  have h8 : P x7 := keeps_canBegin hP (keeps_takeRzt hP (keeps_takeAccounts hP (keeps_takeIdentity hP h6)))
  try clear_value x7
  exact keeps_handOutputs hP (keeps_supervise hP (keeps_announce hP h8))

omit hP in
theorem keeps_takeover (hL : ClosedLife P) {s : State} (hs : P s) : P (State.takeover s) := by
  have hP := hL.toClosed
  unfold State.takeover
  split
  · exact hs
  · refine keeps_ite ?_ ?_
    · exact keeps_goAlone hL hs
    · refine keeps_ite ?_ ?_
      · extract_lets -merge -underBinder +onlyGivenNames x0
        have h1 : P x0 := keeps_ev hP (keeps_bump hP hs)
        try clear_value x0
        exact keeps_takeControl hP (hL.life h1)
      · exact hL.life hs

theorem keeps_handoverDue {s : State} (hs : P s) : P (State.handoverDue s) := by
  unfold State.handoverDue
  split
  · exact hs
  · extract_lets -merge -underBinder +onlyGivenNames y1 x0
    clear_value y1
    have h2 : P x0 := hP.upd hs
    try clear_value x0
    extract_lets -merge -underBinder +onlyGivenNames x3 x4
    refine keeps_ite ?_ ?_
    · extract_lets -merge -underBinder +onlyGivenNames x5
      have h6 : P x5 := keeps_canCease hP (keeps_setReg hP (keeps_setPair hP h2))
      try clear_value x5
      exact keeps_handOutputs hP (hP.upd h6)
    · refine keeps_ite ?_ ?_
      · extract_lets -merge -underBinder +onlyGivenNames x7
        extract_lets -merge -underBinder +onlyGivenNames y9 x8
        clear_value y9
        have h10 : P x8 := hP.upd h2
        try clear_value x8
        extract_lets -merge -underBinder +onlyGivenNames x11 x12
        have h13 : P x12 := keeps_streamBegin hP (keeps_takeControl hP h10)
        try clear_value x12
        exact hP.upd h13
      · extract_lets -merge -underBinder +onlyGivenNames y15 x14
        clear_value y15
        have h16 : P x14 := hP.upd h2
        try clear_value x14
        exact keeps_ite (keeps_ev hP (keeps_setFld hP h16)) h16

theorem keeps_windowEnd {s : State} (hs : P s) : P (State.windowEnd s) := by
  unfold State.windowEnd
  extract_lets -merge -underBinder +onlyGivenNames x0
  refine keeps_ite ?_ ?_
  · exact hs
  · extract_lets -merge -underBinder +onlyGivenNames x1
    have h2 : P x1 := keeps_ev hP (keeps_bump hP hs)
    try clear_value x1
    extract_lets -merge -underBinder +onlyGivenNames y4 x3
    clear_value y4
    have h5 : P x3 := hP.upd h2
    try clear_value x3
    exact keeps_ite (keeps_restage hP (keeps_pairCease hP h5)) (keeps_streamEnd hP h5)

omit hP in
theorem keeps_assume (hL : ClosedLife P) {s : State} (hs : P s) : P (State.assume s) := by
  have hP := hL.toClosed
  unfold State.assume
  exact keeps_ite (keeps_goAlone hL (keeps_ev hP hs)) hs

theorem keeps_reclaimTimer {s : State} (hs : P s) : P (State.reclaimTimer s) := by
  unfold State.reclaimTimer
  exact keeps_ite (keeps_setFld hP hs) hs

theorem keeps_swapDue {s : State} (hs : P s) : P (State.swapDue s) := by
  unfold State.swapDue
  refine keeps_ite ?_ ?_
  · exact hs
  · split
    · rename_i m0 m1 e2
      have h3 : P m1 := keeps_of_eq (congrArg (fun p => Prod.snd (p)) e2) (keeps_ifQ (Q := fun p => P (Prod.snd p))
          (keeps_pairSchedule hP hs) hs)
      exact keeps_ite h3 (keeps_ev hP (hP.upd h3))

theorem keeps_pairCycle {s : State} (hs : P s) : P (State.pairCycle s) := by
  unfold State.pairCycle
  extract_lets -merge -underBinder +onlyGivenNames x0
  have h1 : P x0 := keeps_ite (keeps_setReg hP hs) (keeps_ite (keeps_setReg hP hs) hs)
  try clear_value x0
  exact keeps_reclaimTry hP h1

end Sys2Proof.Machine
end

