-- ==== Sys2Proof/Laws/KeepsTop.lean ====
section
/-! SUPPORT. Every operation keeps a Closed property (see KeepsBase): register access, management frames and the tick. -/

namespace Sys2Proof.Machine

variable {P : State → Prop} (hP : Closed P)
include hP

theorem keeps_paid {s : State} {n : Nat} {key : Nat} (hs : P s) : P (State.paid s n key) := by
  unfold State.paid
  extract_lets -merge -underBinder +onlyGivenNames x0
  clear_value x0
  exact keeps_setWindow hP hs

theorem keeps_capture {s : State} {n : Nat} {addr : Nat} {v : W32} (hs : P s) : P (State.capture s n addr v) := by
  unfold State.capture
  exact keeps_setSession hP hs

theorem keeps_tillLoRead {s : State} {n : Nat} {o : Nat} {t : Nat} {e : Ecc} (hs : P s) : P (State.tillLoRead s n o t e).2.2
    := by
  unfold State.tillLoRead
  split
  · rename_i m0 m1 m2 m3 e4
    have h5 : P m3 := keeps_of_eq (congrArg (fun p => Prod.snd (Prod.snd (Prod.snd (p)))) e4) (keeps_tillRead hP hs)
    exact keeps_capture hP h5

theorem keeps_winRead {s : State} {n : Nat} {a : Nat} {r : Reg} {ar : Reg} {i : Nat} (hs : P s) : P (State.winRead s n a r ar
    i).2.2 := by
  unfold State.winRead
  extract_lets -merge -underBinder +onlyGivenNames x0 x1
  have h2 : ∀ {v3}, P v3 → P (x1 v3) := by
    intro v3 h4
    unfold x1
    exact keeps_setReg hP h4
  try clear_value x1
  extract_lets -merge -underBinder +onlyGivenNames x5
  clear_value x5
  refine keeps_ifQ (Q := fun p => P (Prod.snd (Prod.snd p))) ?_ ?_
  · exact hs
  · refine keeps_ifQ (Q := fun p => P (Prod.snd (Prod.snd p))) ?_ ?_
    · split
      · rename_i m6 m7 m8 e9
        have h10 : P m8 := keeps_of_eq (congrArg (fun p => Prod.snd (Prod.snd (p))) e9) (keeps_vwindow hP hs)
        exact h2 h10
    · exact keeps_ifQ (Q := fun p => P (Prod.snd (Prod.snd p))) hs (keeps_ifQ (Q := fun p => P (Prod.snd (Prod.snd p))) (h2
        hs) (h2 hs))

theorem keeps_readReg {s : State} {n : Nat} {addr : Nat} {e : Ecc} (hs : P s) : P (State.readReg s n addr e).2.2 := by
  unfold State.readReg
  extract_lets -merge -underBinder +onlyGivenNames x0
  refine keeps_ifQ (Q := fun p => P (Prod.snd (Prod.snd p))) ?_ ?_
  · exact hs
  · split
    · exact hs
    · refine keeps_ifQ (Q := fun p => P (Prod.snd (Prod.snd p))) ?_ ?_
      · exact hs
      · refine keeps_ifQ (Q := fun p => P (Prod.snd (Prod.snd p))) ?_ ?_
        · exact keeps_ifQ (Q := fun p => P (Prod.snd (Prod.snd p))) (keeps_tillLoRead hP hs) hs
        · refine keeps_ifQ (Q := fun p => P (Prod.snd (Prod.snd p))) ?_ ?_
          · refine keeps_ifQ (Q := fun p => P (Prod.snd (Prod.snd p))) ?_ ?_
            · exact hs
            · split
              · exact hs
              · exact hs
          · refine keeps_ifQ (Q := fun p => P (Prod.snd (Prod.snd p))) ?_ ?_
            · exact hs
            · refine keeps_ifQ (Q := fun p => P (Prod.snd (Prod.snd p))) ?_ ?_
              · exact keeps_paid hP hs
              · split
                · exact keeps_winRead hP hs
                · exact keeps_ifQ (Q := fun p => P (Prod.snd (Prod.snd p))) (keeps_capture hP hs) (keeps_ifQ (Q := fun p => P
                    (Prod.snd (Prod.snd p))) hs hs)

theorem keeps_effect {s : State} {e : Effect} (hs : P s) : P (State.effect s e) := by
  unfold State.effect
  exact hP.upd hs

theorem keeps_winAddrWrite {s : State} {n : Nat} {r : Reg} {i : Nat} {v : Nat} (hs : P s) : P (State.winAddrWrite s n r i
    v).2 := by
  unfold State.winAddrWrite
  extract_lets -merge -underBinder +onlyGivenNames x0 x1
  clear_value x1
  refine keeps_ifQ (Q := fun p => P (Prod.snd p)) ?_ ?_
  · exact hs
  · extract_lets -merge -underBinder +onlyGivenNames x2 x3
    have h4 : P x3 := keeps_setReg hP (keeps_setWindow hP hs)
    try clear_value x3
    exact keeps_ifQ (Q := fun p => P (Prod.snd p)) h4 (keeps_ifQ (Q := fun p => P (Prod.snd p)) (hP.upd h4) (keeps_ifQ (Q :=
        fun p => P (Prod.snd p)) (hP.upd h4) h4))

theorem keeps_ahead {s : State} (hs : P s) : P (State.ahead s) := by
  unfold State.ahead
  refine keeps_foldl (Q := fun p => P p) ?_ ?_
  · intro y0 a0 hf0
    split
    · split
      · exact keeps_ite hf0 (keeps_setReg hP hf0)
      · exact hf0
    · split
      · exact keeps_ite hf0 (keeps_setReg64 hP hf0)
      · exact hf0
    · exact keeps_ifQ (Q := fun p => P (Prod.snd p)) (keeps_cwData hP hf0) (keeps_cwCtrl hP hf0)
    · exact hf0
  · exact hs

theorem keeps_cfgWrite {s : State} {data : Bool} {v : W32} (hs : P s) : P (State.cfgWrite s data v).2 := by
  unfold State.cfgWrite
  extract_lets -merge -underBinder +onlyGivenNames x0
  exact keeps_ifQ (Q := fun p => P (Prod.snd p)) (keeps_effect hP hs) hs

theorem keeps_forceSignalWrite {s : State} {n : Nat} {i : Nat} {a : Nat} {v : Nat} (hs : P s) : P (State.forceSignalWrite s n
    i a v).2 := by
  unfold State.forceSignalWrite
  extract_lets -merge -underBinder +onlyGivenNames x0 x1
  clear_value x1
  extract_lets -merge -underBinder +onlyGivenNames x2
  exact keeps_ifQ (Q := fun p => P (Prod.snd p)) hs (keeps_effect hP (keeps_setWindow hP hs))

theorem keeps_sigHalf {s : State} {n : Nat} {i : Nat} {off : Nat} {v : W32} (hs : P s) : P (State.sigHalf s n i off v).2 := by
  unfold State.sigHalf
  extract_lets -merge -underBinder +onlyGivenNames x0 x1 x2
  clear_value x2
  extract_lets -merge -underBinder +onlyGivenNames x3 x4
  refine keeps_ifQ (Q := fun p => P (Prod.snd p)) ?_ ?_
  · exact hs
  · refine keeps_ifQ (Q := fun p => P (Prod.snd p)) ?_ ?_
    · exact keeps_hold hP hs
    · split
      · exact hs
      · extract_lets -merge -underBinder +onlyGivenNames x5
        clear_value x5
        extract_lets -merge -underBinder +onlyGivenNames x6
        clear_value x6
        exact keeps_ifQ (Q := fun p => P (Prod.snd p)) hs (keeps_ifQ (Q := fun p => P (Prod.snd p)) hs (keeps_effect hP
            (keeps_hold hP hs)))

theorem keeps_dataHalf {s : State} {n : Nat} {k : Nat} {off : Nat} {v : W32} (hs : P s) : P (State.dataHalf s n k off v).2 :=
    by
  unfold State.dataHalf
  extract_lets -merge -underBinder +onlyGivenNames x0
  refine keeps_ifQ (Q := fun p => P (Prod.snd p)) ?_ ?_
  · exact keeps_hold hP hs
  · split
    · exact hs
    · exact keeps_effect hP (keeps_hold hP hs)

theorem keeps_issueHalf {s : State} {n : Nat} {i : Nat} {off : Nat} {v : W32} (hs : P s) : P (State.issueHalf s n i off v).2
    := by
  unfold State.issueHalf
  extract_lets -merge -underBinder +onlyGivenNames x0
  refine keeps_ifQ (Q := fun p => P (Prod.snd p)) ?_ ?_
  · exact keeps_hold hP hs
  · split
    · exact hs
    · extract_lets -merge -underBinder +onlyGivenNames x1 x2
      have h3 : P x2 := keeps_hold hP hs
      try clear_value x2
      refine keeps_ifQ (Q := fun p => P (Prod.snd p)) ?_ ?_
      · refine keeps_effect hP ?_
        extract_lets -merge -underBinder +onlyGivenNames x4
        have h5 : P x4 := keeps_setReg hP h3
        try clear_value x4
        exact hP.upd h5
      · exact hP.upd h3

theorem keeps_winWrite {s : State} {n : Nat} {r : Reg} {ar : Reg} {i : Nat} {v : W32} (hs : P s) : P (State.winWrite s n r ar
    i v).2 := by
  unfold State.winWrite
  extract_lets -merge -underBinder +onlyGivenNames x0
  refine keeps_ifQ (Q := fun p => P (Prod.snd p)) ?_ ?_
  · exact hs
  · extract_lets -merge -underBinder +onlyGivenNames x1
    have h2 : P x1 := keeps_setReg hP hs
    try clear_value x1
    split
    · rename_i m3 m4 e5
      have h6 : P m4 := keeps_of_eq (congrArg (fun p => Prod.snd (p)) e5) (keeps_ifQ (Q := fun p => P (Prod.snd p))
          (keeps_sigHalf hP h2) (keeps_ifQ (Q := fun p => P (Prod.snd p)) (keeps_dataHalf hP h2) (keeps_ifQ (Q := fun p => P
          (Prod.snd p)) (keeps_issueHalf hP h2) (keeps_ifQ (Q := fun p => P (Prod.snd p)) (keeps_effect hP h2) hs))))
      exact keeps_ifQ (Q := fun p => P (Prod.snd p)) h6 hs

theorem keeps_tillDataWrite {s : State} {n : Nat} {o : Nat} {t : Nat} {high : Bool} {v : W32} (hs : P s) : P
    (State.tillDataWrite s n o t high v).2 := by
  unfold State.tillDataWrite
  extract_lets -merge -underBinder +onlyGivenNames x0
  refine keeps_ifQ (Q := fun p => P (Prod.snd p)) ?_ ?_
  · exact keeps_hold hP hs
  · split
    · exact hs
    · split
      · exact hs
      · rename_i m1 e2
        have h3 : P m1 := keepsO_tillWrite hP hs _ e2
        exact keeps_hold hP h3

theorem keeps_handoverWrite {s : State} {addr : Nat} {v : W32} {n : Nat} {a : Nat} (hs : P s) : P (State.handoverWrite s addr
    v n a).2 := by
  unfold State.handoverWrite
  extract_lets -merge -underBinder +onlyGivenNames x0 x1
  exact keeps_ifQ (Q := fun p => P (Prod.snd p)) (keeps_effect hP hs) (keeps_setFld hP hs)

theorem keeps_forceCtrl {s : State} {n : Nat} {i : Nat} {v : Nat} (hs : P s) : P (State.forceCtrl s n i v).2 := by
  unfold State.forceCtrl
  exact keeps_ifQ (Q := fun p => P (Prod.snd p)) hs (keeps_ifQ (Q := fun p => P (Prod.snd p)) hs (keeps_effect hP hs))

theorem keeps_halfWrite {s : State} {n : Nat} {r : Reg} {i : Nat} {j : Nat} {addr : Nat} {v : W32} (hs : P s) : P
    (State.halfWrite s n r i j addr v).2 := by
  unfold State.halfWrite
  extract_lets -merge -underBinder +onlyGivenNames x0 x1
  clear_value x1
  exact keeps_ifQ (Q := fun p => P (Prod.snd p)) hs (keeps_ifQ (Q := fun p => P (Prod.snd p)) (keeps_hold hP hs) (keeps_ifQ
      (Q := fun p => P (Prod.snd p)) hs (keeps_ifQ (Q := fun p => P (Prod.snd p)) hs (keeps_effect hP (keeps_hold hP hs)))))

theorem keeps_writeReg {s : State} {n : Nat} {addr : Nat} {v : W32} (hs : P s) : P (State.writeReg s n addr v).2 := by
  unfold State.writeReg
  extract_lets -merge -underBinder +onlyGivenNames x0 x1
  refine keeps_ifQ (Q := fun p => P (Prod.snd p)) ?_ ?_
  · exact hs
  · split
    · exact hs
    · refine keeps_ifQ (Q := fun p => P (Prod.snd p)) ?_ ?_
      · exact hs
      · refine keeps_ifQ (Q := fun p => P (Prod.snd p)) ?_ ?_
        · exact hs
        · refine keeps_ifQ (Q := fun p => P (Prod.snd p)) ?_ ?_
          · exact hs
          · refine keeps_ifQ (Q := fun p => P (Prod.snd p)) ?_ ?_
            · exact keeps_ifQ (Q := fun p => P (Prod.snd p)) (keeps_tillDataWrite hP hs) hs
            · refine keeps_ifQ (Q := fun p => P (Prod.snd p)) ?_ ?_
              · exact keeps_ifQ (Q := fun p => P (Prod.snd p)) hs (keeps_ifQ (Q := fun p => P (Prod.snd p)) hs (keeps_tillCmd
                  hP hs))
              · refine keeps_ifQ (Q := fun p => P (Prod.snd p)) ?_ ?_
                · exact hs
                · refine keeps_ifQ (Q := fun p => P (Prod.snd p)) ?_ ?_
                  · exact keeps_winAddrWrite hP hs
                  · refine keeps_ifQ (Q := fun p => P (Prod.snd p)) ?_ ?_
                    · exact keeps_forceSignalWrite hP hs
                    · refine keeps_ifQ (Q := fun p => P (Prod.snd p)) ?_ ?_
                      · exact keeps_paid hP hs
                      · split
                        · exact keeps_winWrite hP hs
                        · refine keeps_ifQ (Q := fun p => P (Prod.snd p)) ?_ ?_
                          · exact keeps_cfgWrite hP hs
                          · refine keeps_ifQ (Q := fun p => P (Prod.snd p)) ?_ ?_
                            · exact keeps_cfgWrite hP hs
                            · refine keeps_ifQ (Q := fun p => P (Prod.snd p)) ?_ ?_
                              · exact keeps_forceCtrl hP hs
                              · refine keeps_ifQ (Q := fun p => P (Prod.snd p)) ?_ ?_
                                · exact keeps_handoverWrite hP hs
                                · refine keeps_ifQ (Q := fun p => P (Prod.snd p)) ?_ ?_
                                  · exact keeps_halfWrite hP hs
                                  · extract_lets -merge -underBinder +onlyGivenNames x2
                                    exact keeps_ifQ (Q := fun p => P (Prod.snd p)) (keeps_effect hP hs) hs

theorem keeps_command {s : State} {n : Nat} {addr : Nat} {v : W32} (hs : P s) : P (State.command s n addr v) := by
  unfold State.command
  refine keeps_ite ?_ ?_
  · exact hs
  · split
    · rename_i m0 m1 e2
      have h3 : P m1 := keeps_of_eq (congrArg (fun p => Prod.snd (p)) e2) (keeps_writeReg hP hs)
      exact hP.upd h3

theorem keeps_inquire {s : State} {n : Nat} {addr : Nat} {e : Ecc} (hs : P s) : P (State.inquire s n addr e) := by
  unfold State.inquire
  refine keeps_ite ?_ ?_
  · exact hs
  · split
    · rename_i m0 m1 m2 e3
      have h4 : P m2 := keeps_of_eq (congrArg (fun p => Prod.snd (Prod.snd (p))) e3) (keeps_readReg hP hs)
      exact hP.upd h4

theorem keeps_claimTimeout {s : State} {addr : Nat} (hs : P s) : P (State.claimTimeout s addr) := by
  unfold State.claimTimeout
  split
  · exact keeps_setWindow hP hs
  · exact hs

theorem keeps_mgmtReply {s : State} {source : Nat} {key : Option (List Byte)} {ws : List W32} (hs : P s) : P (State.mgmtReply
    s source key ws) := by
  unfold State.mgmtReply
  extract_lets -merge -underBinder +onlyGivenNames x0 x1
  exact keeps_ite (keeps_emit hP hs) (keeps_netSend hP hs)

theorem keeps_open1 {s : State} {f : Frame} {ws : List W32} (hs : P s) : P (State.open1 s f ws) := by
  unfold State.open1
  extract_lets -merge -underBinder +onlyGivenNames x0 x1 x2 x3
  clear_value x3
  extract_lets -merge -underBinder +onlyGivenNames x4 x5
  refine keeps_ite ?_ ?_
  · extract_lets -merge -underBinder +onlyGivenNames x6
    have h7 : P x6 := keeps_ite (keeps_ev hP hs) hs
    try clear_value x6
    exact keeps_mgmtReply hP h7
  · extract_lets -merge -underBinder +onlyGivenNames x8 x9
    have h10 : P x9 := keeps_draw hP hs
    try clear_value x9
    extract_lets -merge -underBinder +onlyGivenNames x11
    clear_value x11
    extract_lets -merge -underBinder +onlyGivenNames x12
    extract_lets -merge -underBinder +onlyGivenNames y14 x13
    clear_value y14
    clear_value x13
    extract_lets -merge -underBinder +onlyGivenNames x15 x16
    clear_value x16
    extract_lets -merge -underBinder +onlyGivenNames x17
    have h18 : P x17 := keeps_setSession hP h10
    try clear_value x17
    extract_lets -merge -underBinder +onlyGivenNames x19
    have h20 : P x19 := keeps_ite (keeps_ev hP h18) h18
    try clear_value x19
    exact keeps_mgmtReply hP h20

theorem keeps_authFailed {s : State} {source : Nat} {account : Nat} (hs : P s) : P (State.authFailed s source account) := by
  unfold State.authFailed
  extract_lets -merge -underBinder +onlyGivenNames x0
  have h1 : P x0 := keeps_ev hP (keeps_bump hP hs)
  try clear_value x0
  extract_lets -merge -underBinder +onlyGivenNames x2
  clear_value x2
  extract_lets -merge -underBinder +onlyGivenNames x3 x4 x5
  clear_value x5
  extract_lets -merge -underBinder +onlyGivenNames y7 x6
  clear_value y7
  have h8 : P x6 := hP.upd h1
  try clear_value x6
  exact keeps_ite (keeps_ev hP h8) h8

theorem keeps_open2 {s : State} {f : Frame} {ws : List W32} (hs : P s) : P (State.open2 s f ws) := by
  unfold State.open2
  extract_lets -merge -underBinder +onlyGivenNames x0 x1
  clear_value x1
  extract_lets -merge -underBinder +onlyGivenNames x2
  clear_value x2
  refine keeps_ite ?_ ?_
  · exact hs
  · extract_lets -merge -underBinder +onlyGivenNames x3
    have h4 : ∀ {v5 v6}, P v5 → P (x3 v5 v6) := by
      intro v5 v6 h7
      unfold x3
      exact keeps_mgmtReply hP h7
    try clear_value x3
    refine keeps_ite ?_ ?_
    · extract_lets -merge -underBinder +onlyGivenNames x8
      have h9 : P x8 := keeps_setSession hP hs
      try clear_value x8
      exact h4 (keeps_ev hP h9)
    · exact h4 (keeps_authFailed hP (keeps_dropSession hP hs))

theorem keeps_openTimeout {s : State} {n : Nat} (hs : P s) : P (State.openTimeout s n) := by
  unfold State.openTimeout
  extract_lets -merge -underBinder +onlyGivenNames x0
  clear_value x0
  exact keeps_ite (keeps_dropSession hP hs) hs

theorem keeps_idleTimeout {s : State} {n : Nat} (hs : P s) : P (State.idleTimeout s n) := by
  unfold State.idleTimeout
  exact keeps_ite (keeps_closeSession hP hs) hs

theorem keeps_lockoutEnd {s : State} {source : Nat} (hs : P s) : P (State.lockoutEnd s source) := by
  unfold State.lockoutEnd
  extract_lets -merge -underBinder +onlyGivenNames x0
  clear_value x0
  exact keeps_ite (hP.upd hs) hs

theorem keeps_Answer_add {x : Answer} {s : State} {data : List W32} {status : Nat} (hx : P x.s) (hs : P s) : P (Answer.add x
    s data status).s := by
  unfold Answer.add
  exact hP.upd hs

theorem keeps_readMany {n addr step k : Nat} {ecc : List Ecc} {x : Answer}
    (hx : P x.s) : P (readMany n addr step k ecc x).s := by
  induction k generalizing x addr ecc with
  | zero => rw [readMany]; exact hx
  | succ k ih =>
    rw [readMany]
    split
    rename_i st v s e
    refine ih (keeps_Answer_add hP hx ?_)
    refine keeps_of_eq (congrArg (fun p => Prod.snd (Prod.snd p)) e) ?_
    exact keeps_readReg hP hx

theorem keeps_writeMany {n addr step k : Nat} {ws : List W32} {x : Answer} (hx : P x.s) :
    P (writeMany n addr step k ws x).s := by
  induction k generalizing x addr ws with
  | zero => rw [writeMany]; exact hx
  | succ k ih =>
    rw [writeMany.eq_def]
    dsimp only
    split
    · exact hx
    · split
      · exact keeps_Answer_add hP hx hx
      · exact ih (keeps_Answer_add hP hx (keeps_writeReg hP hx))

theorem keeps_carryOut {s : State} {n : Nat} {ws : List W32} {data : List W32} {ecc : List Ecc} (hs : P s) : P
    (State.carryOut s n ws data ecc).s := by
  unfold State.carryOut
  extract_lets -merge -underBinder +onlyGivenNames x0 x1 x2
  have h3 : P x2.s := hs
  try clear_value x2
  split
  · exact h3
  · split
    · exact keeps_readMany hP h3
    · exact keeps_writeMany hP h3
    · exact keeps_readMany hP h3
    · exact keeps_writeMany hP h3
    · exact h3
    · exact h3

theorem keeps_sessionFrame {s : State} {f : Frame} {ws : List W32} {ecc : List Ecc} (hs : P s) : P (State.sessionFrame s f ws
    ecc) := by
  unfold State.sessionFrame
  extract_lets -merge -underBinder +onlyGivenNames x0 x1
  clear_value x1
  extract_lets -merge -underBinder +onlyGivenNames x2
  refine keeps_ite ?_ ?_
  · exact keeps_bump hP hs
  · extract_lets -merge -underBinder +onlyGivenNames x3 x4 x5
    refine keeps_ite ?_ ?_
    · exact keeps_ev hP (keeps_bump hP hs)
    · extract_lets -merge -underBinder +onlyGivenNames x6
      have h7 : P x6 := keeps_setSession hP hs
      try clear_value x6
      extract_lets -merge -underBinder +onlyGivenNames x8 x9 x10 x11
      have h12 : ∀ {v13 v14 v15 v16}, P v13 → P (x11 v13 v14 v15 v16) := by
        intro v13 v14 v15 v16 h17
        unfold x11
        exact keeps_mgmtReply hP h17
      try clear_value x11
      refine keeps_ite ?_ ?_
      · split
        · exact h12 h7
        · exact h7
      · refine keeps_ite ?_ ?_
        · exact keeps_bump hP h7
        · extract_lets -merge -underBinder +onlyGivenNames x18 x19
          have h20 : P x19.s := keeps_carryOut hP h7
          try clear_value x19
          extract_lets -merge -underBinder +onlyGivenNames y22 x21
          clear_value y22
          have h23 : P x21 := keeps_setSession hP h20
          try clear_value x21
          extract_lets -merge -underBinder +onlyGivenNames x24
          extract_lets -merge -underBinder +onlyGivenNames y26 x25
          clear_value y26
          have h27 : P x25 := keeps_ite (h12 h23) (hP.upd h23)
          try clear_value x25
          exact keeps_ite (keeps_closeSession hP h27) h27

theorem keeps_mgmtIn {s : State} {f : Frame} {ecc : List Ecc} (hs : P s) : P (State.mgmtIn s f ecc) := by
  unfold State.mgmtIn
  extract_lets -merge -underBinder +onlyGivenNames x0
  refine keeps_ite ?_ ?_
  · exact hs
  · split
    · rename_i m1 m2 e3
      have h4 : P m2 := keeps_of_eq (congrArg (fun p => Prod.snd (p)) e3) (keeps_receive hP hs)
      refine keeps_ite ?_ ?_
      · exact h4
      · extract_lets -merge -underBinder +onlyGivenNames x5 x6 x7
        refine keeps_ite ?_ ?_
        · exact keeps_dropMalformed hP h4
        · split
          · exact keeps_open1 hP h4
          · exact keeps_open2 hP h4
          · exact keeps_sessionFrame hP h4

theorem keeps_tillScrub {s : State} {e : TillError} (hs : P s) : P (State.tillScrub s e) := by
  unfold State.tillScrub
  extract_lets -merge -underBinder +onlyGivenNames x0 x1 x2
  clear_value x2
  extract_lets -merge -underBinder +onlyGivenNames x3
  refine keeps_ite ?_ ?_
  · exact hs
  · refine keeps_ite ?_ ?_
    · extract_lets -merge -underBinder +onlyGivenNames x4
      have h5 : P x4 := keeps_tillEcc hP hs
      try clear_value x4
      exact keeps_ite (keeps_enterFault hP h5) h5
    · exact keeps_tillEcc hP hs

omit hP in
theorem keeps_applyEffect (hL : ClosedLife P) {s : State} {e : Effect} (hs : P s) : P (State.applyEffect s e) := by
  have hP := hL.toClosed
  unfold State.applyEffect
  split
  · exact keeps_ite (keeps_ite (keeps_pairSchedule hP hs) (keeps_assume hL hs)) (keeps_applyWord hL hs)
  · exact keeps_applyPair hP hs
  · exact keeps_ifQ (Q := fun p => P (Prod.snd p)) (keeps_cwData hP hs) (keeps_cwCtrl hP hs)
  · exact keeps_reqIssue hP (keeps_setFld hP hs)
  · exact keeps_setFrameWord hP hs
  · exact keeps_applyData hP hs
  · exact hs
  · exact hs

theorem keeps_safeCommand {s : State} {c : SafeCmd} (hs : P s) : P (State.safeCommand s c) := by
  unfold State.safeCommand
  split
  · exact keeps_fold (fun _ _ hf0 => keeps_safeSig hP hf0) hs
  · exact keeps_fold (fun _ _ hf1 => keeps_safeSig hP hf1) hs

theorem keeps_sigEffect {s : State} {e : Effect} (hs : P s) : P (State.sigEffect s e) := by
  unfold State.sigEffect
  split
  · extract_lets -merge -underBinder +onlyGivenNames x0
    have h1 : P x0 := keeps_writeSigWord hP hs
    try clear_value x0
    exact keeps_ite h1 (keeps_slSafe hP h1)
  · exact hs

theorem keeps_forceEffect {s : State} {e : Effect} (hs : P s) : P (State.forceEffect s e) := by
  unfold State.forceEffect
  split
  · exact keeps_forceCommand hP hs
  · exact hs

theorem keeps_fireStep {s : State} (hs : P s) : P (State.fireStep s) := by
  unfold State.fireStep
  exact keeps_fireApply hP (keeps_fireAdmission hP (keeps_fireUsables hP hs))

theorem keeps_safeStep {s : State} (hs : P s) : P (State.safeStep s) := by
  unfold State.safeStep
  extract_lets -merge -underBinder +onlyGivenNames x0
  exact keeps_fold (fun _ _ hf1 => keeps_safeCommand hP hf1) (hP.upd hs)

theorem keeps_imageSteps {s : State} {es : List Effect} (hs : P s) : P (State.imageSteps s es) := by
  unfold State.imageSteps
  extract_lets -merge -underBinder +onlyGivenNames x0
  have h1 : P x0 := keeps_freshness hP (keeps_applyUpdates hP hs)
  try clear_value x0
  extract_lets -merge -underBinder +onlyGivenNames x2
  have h3 : P x2 := keeps_applyMerged hP (keeps_fold (fun _ _ hf4 => keeps_sigEffect hP hf4) h1)
  try clear_value x2
  exact keeps_fold (fun _ _ hf5 => keeps_forceEffect hP hf5) (keeps_safeStep hP (keeps_fireStep hP h3))

theorem keeps_replayStep {s : State} (hs : P s) : P (State.replayStep s) := by
  unfold State.replayStep
  extract_lets -merge -underBinder +onlyGivenNames x0 x1
  exact hP.upd hs

theorem keeps_faultHandover {s : State} (hs : P s) : P (State.faultHandover s) := by
  unfold State.faultHandover
  extract_lets -merge -underBinder +onlyGivenNames x0 x1
  have h2 : P x1 := hP.upd hs
  try clear_value x1
  exact keeps_ite (keeps_relinquish hP h2) h2

theorem keeps_holdStep {s : State} (hs : P s) : P (State.holdStep s) := by
  unfold State.holdStep
  refine keeps_ite ?_ ?_
  · exact hs
  · refine keeps_ite ?_ ?_
    · exact hP.upd hs
    · refine keeps_ite ?_ ?_
      · exact hs
      · extract_lets -merge -underBinder +onlyGivenNames x0 x1
        exact hP.upd hs

theorem keeps_ledgerStep {s : State} (hs : P s) : P (State.ledgerStep s) := by
  unfold State.ledgerStep
  extract_lets -merge -underBinder +onlyGivenNames x0 x1
  have h2 : P x1 := keeps_faultHandover hP hs
  try clear_value x1
  exact keeps_ite h2 (keeps_ledgerTick hP h2)

theorem keeps_imageTick {s : State} {es : List Effect} (hs : P s) : P (State.imageTick s es) := by
  unfold State.imageTick
  extract_lets -merge -underBinder +onlyGivenNames y1 x0
  clear_value y1
  have h2 : P x0 := keeps_ite (keeps_fold (fun _ _ hf3 => keeps_forceEffect hP hf3) (keeps_fold (fun _ _ hf4 =>
      keeps_sigEffect hP hf4) (hP.upd hs))) (keeps_ite (keeps_imageSteps hP hs) (keeps_replayStep hP hs))
  try clear_value x0
  extract_lets -merge -underBinder +onlyGivenNames x5
  have h6 : P x5 := keeps_slSendAll hP (keeps_handOutputs hP (keeps_holdStep hP h2))
  try clear_value x5
  exact keeps_panelUpdate hP (keeps_sfUpdate hP (keeps_rzSync hP h6))

theorem keeps_heldReplies {s : State} (hs : P s) : P (State.heldReplies s) := by
  unfold State.heldReplies
  extract_lets -merge -underBinder +onlyGivenNames x0
  exact keeps_fold (fun _ _ hf1 => keeps_mgmtReply hP hf1) (hP.upd hs)

omit hP in
theorem keeps_dataTick (hL : ClosedLife P) {s : State} (hs : P s) : P (State.dataTick s) := by
  have hP := hL.toClosed
  unfold State.dataTick
  refine keeps_ite ?_ ?_
  · exact hs
  · extract_lets -merge -underBinder +onlyGivenNames x0
    have h1 : P x0 := keeps_tsTick hP (hL.life hs)
    try clear_value x0
    split
    · extract_lets -merge -underBinder +onlyGivenNames y3 x2
      clear_value y3
      have h4 : P x2 := keeps_heldReplies hP (keeps_fold (fun _ _ hf5 => keeps_applyEffect hL hf5) (hL.life h1))
      try clear_value x2
      exact keeps_ite (keeps_chargeTick hP (keeps_powerDown hP (keeps_slSendAll hP h4))) (keeps_chargeTick hP
          (keeps_ledgerStep hP (keeps_imageTick hP h4)))

theorem keeps_mgmtCycle {s : State} (hs : P s) : P (State.mgmtCycle s) := by
  unfold State.mgmtCycle
  extract_lets -merge -underBinder +onlyGivenNames x0
  have h1 : P x0 := keeps_pairCycle hP (keeps_panelCycle hP (keeps_stCycle hP (keeps_vcycle hP hs)))
  try clear_value x0
  extract_lets -merge -underBinder +onlyGivenNames y3 x2
  clear_value y3
  have h4 : P x2 := hP.upd h1
  try clear_value x2
  exact keeps_fold (fun _ _ hf5 => keeps_setCan hP hf5) h4

end Sys2Proof.Machine
end

