-- ==== Sys2Proof/Tests/Slice0.lean ====
section
/-! SUPPORT. Tests of the model's author: ill-formed commands are refused, single steps worked out by hand from the spec, and for
every statement with hypotheses a state and operands that meet them. -/

namespace Sys2Proof.Tests

open Sys2Proof Sys2Proof.Machine

set_option linter.unusedVariables false
set_option Elab.async false

/-! ### Helpers -/

/-- A state with fields of registers set: field, value, entry, word. -/
def st (l : List (Fld × Nat × Nat × Nat)) (s : State := State.reset) : State := l.foldl (fun s (f, v, i, j) => s.setFld f v i j) s

def wheelWords : List W64 := [0, 1, 2, 5, 0xFFFFFFFFFFFFFFFF, 0x8000000000000000, 0x7FFFFFFFFFFFFFFF, 0x3FF8000000000000, 0xBFF0000000000000, 0x7FF0000000000001, 0x7FF8000000000000, 0x7FF0000000000000, 0x4014000000000000, 0x4024000000000000]

/-- Task k of an account about to run a word on a wheel with the registers given: code, data, slots and tills set up. -/
def wheelCtx (k acct : Nat) (copy : Nat) (w : W32) (lane : Lane) (vec : Nat := 0xFFFF) (mask : BitVec 8 := 0) : Ctx :=
  let s := st [(F.PROG_CODE_CODE_UNITS, 1, k, 0), (F.PROG_DATA_DATA_UNITS, 1, k, 0), (F.TASK_CFG_LWHEEL, if acct = 7 then 14 else 2, k, 0), (F.TASK_CFG_PRESENT, 1, k, 0),
    (F.TASK_CFG_INDEX, 4, k, 0), (F.TASK_OWNER_ACCOUNT, acct, k, 0), (F.PROG_ENTRY_TRAP_VEC, vec, k, 0), (F.ACCT_STATUS_STATE, 2, acct, 0), (F.ACCT_STATUS_STATE, 2, 7, 0),
    (F.TILL_CFG_SIZE_LOG2, 3, acct, 1), (F.TILL_CFG_PROD_KIND, ekTask, acct, 1), (F.TILL_CFG_PROD_INDEX, 4, acct, 1),
    (F.TILL_CFG_SIZE_LOG2, 3, acct, 3), (F.TILL_CFG_PROD_KIND, ekTask, acct, 3), (F.TILL_CFG_PROD_INDEX, 4, acct, 3),
    (F.TILL_CFG_SIZE_LOG2, 3, acct, 2), (F.TILL_CFG_CONS_KIND, ekTask, acct, 2), (F.TILL_CFG_CONS_INDEX, 4, acct, 2),
    (F.TILL_CFG_SIZE_LOG2, 3, acct, 0), (F.TILL_CFG_CONS_KIND, ekTask, acct, 0), (F.TILL_CFG_CONS_INDEX, 4, acct, 0)]
  let other : Lane := if lane.wa = 5 then { Lane.init with pc := 9, ended := true, points := [.done] } else if lane.wa = 0x8000000000000000 then { Lane.init with tillLog := [(2, some true)] } else { Lane.init with pc := 9, flags := 0 }
  let lanes := if acct = 7 then (if copy = 0 then [lane, other] else [other, lane]) else [lane]
  let ex : Exec := ⟨k, 10, 77, 88, true, 1000, 0, 0, 0, mask, [(0, some { Copy.init with value := 5 }), (1, some { Copy.init with value := 0x3FF8000000000000, quality := 1 }), (2, some {Copy.init with value := 2})], .running, lanes⟩
  let key (i : Nat) := 65536 * (64 * copy + k) + i
  let hd (kind peer len : Nat) : W64 := BitVec.ofNat 64 (kind * 2^60 + peer * 2^32 + len)
  let data : NMap W64 := (List.range 13).map (fun i => (key (i+1), wheelWords.getD (i+1) 0)) ++ [(key 16, 0x0000000200010000), (key 17, 0x1), (key 24, hd 1 5 2), (key 25, 77), (key 40, hd 0 5 2)]
  let sl : NMap Slot := [(4096 * k + 0, ⟨true, false, 10, false, 0, false⟩), (4096 * k + 1, ⟨true, true, 11, false, 0, false⟩), (4096*k+2, ⟨true, false, 12, false, 0, false⟩)]
  let s := { s with phase := .running, tick := 1000, image.code := nset 0 s.image.code (65536 * k + lane.pc.toNat) w, image.data := data, image.slots := sl, image.execs := [(k, some ex)], image.sigs := [(11, { Sig.init with subst := 99 })], tills := [(16 * acct + 0, ⟨9,5,4,4,0⟩), (16*acct+2, ⟨3,3,1,2,0⟩), (16*acct+3, ⟨8,0,0,0,0⟩)] }
  let s := { s with tillMem := [(s.tillPos acct 0 5, 4242)] }
  ⟨s, ex, copy, lane, w⟩

def lane0 : Lane := { Lane.init with pc := 5, wa := 5, ba := true, x := [(1, 2), (2, 1)], flags := 0x3FF }
def lane1 : Lane := { Lane.init with pc := 5, wa := 0x4014000000000000, x := [(1,0), (2,1), (3, 40)], flags := 0 }
def lane2 : Lane := { Lane.init with pc := 7, wa := 0x8000000000000000, bs := [false, true], cs := [5, 6], v := [(0, 0xBFF0000000000000), (1, 0x4014000000000000), (2, 0x3FF8000000000000)], handler := true, trapPc := 7, ba := true, gq := 3 }
def lane3 : Lane := { Lane.init with pc := 7, wa := 0xFFFFFFFFFFFFFFFF, bs := [false, true], cs := [7], ftMode := 1, ftTime := 9}

/-- A ledger-link frame with a good CRC, its body filled with zeros. -/
def llFrame (h : W64) (ws : List W64) : LedgerFrame :=
  ⟨h, ws ++ List.replicate (72 - ws.length) 0, llCrc h (ws ++ List.replicate (72 - ws.length) 0)⟩

theorem llFrame_good (h : W64) (ws : List W64) : llCrc (llFrame h ws).header (llFrame h ws).body = (llFrame h ws).crc := rfl

/-- Where no tag has been used the lowest number is the one granted. -/
theorem freeTag_fresh (s : State) (h : s.net.tags = []) : s.freeTag = some 0 := by
  have ht (t : Nat) : s.tag t = Tag.init := by simp [State.tag, h, nget]
  unfold State.freeTag
  rw [show (4096 : Nat) = 4095 + 1 from rfl, List.range_succ_eq_map, List.foldl_cons]
  generalize List.map Nat.succ (List.range 4095) = l
  simp only [ht, ne_eq, not_true_eq_false, if_false]
  induction l with
  | nil => rfl
  | cons a l ih => simpa using ih

/-! ### Ill-formed commands (one for each check of Instr.wf) -/

/-- A frame on port M with a body of the given 32-bit words. -/
def mFrame (ws : List W32) : Frame :=
  ⟨4, true, 0x88B5, 3, 0, 0, 0, 0, 0, 0, BitVec.ofNat 16 (4 * ws.length), 0, ws.flatMap wordBytes, 0⟩

def emptySample : ASample := ⟨0x7FF0000000000000, 0, 0, false, false, 0, 0, none⟩

theorem test_wf_cfg_wr_start : Instr.wf (.cfgWrStart 0 2) = false := by decide
theorem test_wf_cfg_wr_commit : Instr.wf (.cfgWrCommit 0 1) = false := by decide
theorem test_wf_cfg_wr_abort : Instr.wf (.cfgWrAbort 0 0) = false := by decide
theorem test_wf_window_addr : Instr.wf (.dataWindowAddrWrite 0 0x0F00000C 0) = false := by decide +kernel
theorem test_wf_window_data : Instr.wf (.dataWindowDataAccess 0 0x0F00000C none) = false := by decide +kernel
theorem test_wf_window_claim : Instr.wf (.windowClaimTimeout 0x0F00000C) = false := by decide +kernel
theorem test_wf_open1 : Instr.wf (.mgmtOpen1 (mFrame [0x02000000, 0])) = false := by decide +kernel
theorem test_wf_open2 : Instr.wf (.mgmtOpen2 (mFrame [0x01000000, 0])) = false := by decide +kernel
theorem test_wf_read : Instr.wf (.mgmtRead (mFrame []) []) = false := by decide +kernel
theorem test_wf_write : Instr.wf (.mgmtWrite (mFrame [])) = false := by decide +kernel
theorem test_wf_read_repeat : Instr.wf (.mgmtReadRepeat (mFrame []) []) = false := by decide +kernel
theorem test_wf_write_repeat : Instr.wf (.mgmtWriteRepeat (mFrame [])) = false := by decide +kernel
theorem test_wf_close : Instr.wf (.mgmtClose (mFrame [])) = false := by decide +kernel
theorem test_wf_unknown_op : Instr.wf (.mgmtUnknownOp (mFrame [0x01000000, 0])) = false := by decide +kernel
theorem test_wf_sample : Instr.wf (.analogueSample 0 emptySample) = false := by decide +kernel
theorem test_wf_readback : Instr.wf (.readbackSample 0 ⟨0, 0x7FF8000000000000, false, false⟩) = false := by decide +kernel
theorem test_wf_hart_reply :
    Instr.wf (.hartReply 0 ⟨120, List.replicate 12 true, 0⟩) = false := by decide +kernel
theorem test_wf_can_frame : Instr.wf (.canRxFrame 0 ⟨false, false, false, false, false, 3, 0x800, [1, 2, 3], 0, false⟩) = false := by
  decide +kernel
theorem test_wf_can_frame_length : Instr.wf (.canRxFrame 0 ⟨false, false, false, false, false, 9, 5, [1, 2, 3], 0, false⟩) = false := by
  decide +kernel

/-- An ill-formed command stops by the name of its row and changes nothing. -/
theorem test_ill_formed_stops : exec (.cfgWrStart 0 2) State.reset = .fault (.illFormed "CFG_WR_START") := by rfl

/-! ### Values from the spec's own tables and from published check values -/

/-- The check value of the CRC-32 that chapter 3 names (IEEE 802.3, reflected). -/
theorem test_crc32 : crc32 [0x31, 0x32, 0x33, 0x34, 0x35, 0x36, 0x37, 0x38, 0x39] = 0xCBF43926 := by decide +kernel

/-- FIPS 180-4: the digest of "abc" begins BA7816BF. -/
theorem test_sha256 : (sha256 [0x61, 0x62, 0x63]).take 4 = [0xBA, 0x78, 0x16, 0xBF] := by decide +kernel

/-- The example after Table 17.3: event 0x0702 packs the account, the task index, the signal, then T and the count. -/
theorem test_event_packing : packItems [.b8 0xA1, .b8 0xB2, .b32 0xC3C4C5C6, .b64 0x0102030405060708, .b32 9] 0 0 =
    [BitVec.ofNat 96 (0xC3C4C5C6 * 2 ^ 32 + 0xB2A1), BitVec.ofNat 96 (9 * 2 ^ 64 + 0x0102030405060708)] := by decide +kernel

/-- Table 3.7: ID_PART reads FAMILY 0x4858 and NUMBER 512. -/
theorem test_id_part : State.reset.peek 0x01000000 = 0x48580200 := by decide +kernel

/-- The cycles of the program of Table 5.11, address by address. -/
theorem test_wheel_cycles : ([0x72420000, 0x74020000, 0x93400008, 0x95400010, 0x18C0000C, 0x20C00003, 0x04000008, 0x44400028,
    0x91400018, 0x92400020, 0x22C0000A, 0x10C00004, 0x1A000000, 0x78000000, 0x30000000, 0x14C00005, 0x1C000000, 0x18C0000B,
    0x01000000].map fun w => iCycles w 0) = [5, 3, 10, 4, 2, 2, 1, 2, 12, 6, 2, 2, 1, 1, 1, 2, 1, 2, 2] := by decide +kernel

/-- Binary64 addition rounds to nearest even: 0.1 + 0.2. -/
theorem test_f64_add : (f64Add 0x3FB999999999999A 0x3FC999999999999A).val = 0x3FD3333333333334 := by decide +kernel

/-- R395: DLC 15 of a CAN FD frame stands for 64 bytes, of a classical frame for 8. -/
theorem test_can_len : canLen true 15 = 64 ∧ canLen false 15 = 8 := by decide

/-- R397: a base frame goes ahead of an extended frame with the same base identifier. -/
theorem test_can_arbitration : (canBest [⟨true, false, false, false, 0, 15, 0, 5 * 2 ^ 18, 0, [], 0, 0, 1⟩,
    ⟨false, false, false, false, 0, 15, 0, 5, 0, [], 0, 0, 2⟩]).map (·.order) = some 2 := by decide +kernel

/-! ### Single steps -/

/-- The state a command leads to. -/
def after (c : Instr) (s : State) : State := match exec c s with | .next t => t | _ => s

/-- Table 16.6, step 2: TEC passes 255, the channel is bus-off, and the attempt is not counted (R399). -/
theorem test_bus_off :
    let f : CanFrame := ⟨false, false, false, true, 0, 3, 50, 0x80, 1, [], 100, 1, 0⟩
    let s := { st [(F.CAN_CFG_MODE, 1, 1, 0), (F.CAN_STATUS_STATE, csPassive, 1, 0), (F.CAN_STATUS_TEC, 252, 1, 0)] with
      plate.mated := true, can := [(1, { CanCh.init with pend := [f], cur := some 0 })] }
    let t := after (.canTxError 1 .ack false false) s
    t.canState 1 = csBusOff ∧ (t.canCh 1).pend = [f] := by decide +kernel

/-- Table 15.2, row 6: the ledger link has not come up in 5 s and a peer is seated. -/
theorem test_role_isolated :
    let s := { st [(F.PAIR_STATUS_STATE, psStarting, 0, 0), (F.PAIR_STATUS_PEER_PRESENT, 1, 0, 0)] with
      tick := 5000000, phase := .starting, start.steps := [(settleKey, true)] }
    (after .roleDecision s).pairState = psIsolated := by decide +kernel

/-- R366: an absent peer is shown. -/
theorem test_peer_absent :
    (after .peerAbsent (st [(F.PAIR_STATUS_PEER_PRESENT, 1, 0, 0)])).flag F.PAIR_STATUS_PEER_PRESENT = false := by decide +kernel

/-- An instruction adds modulo 2^64 and moves PC on: ADD 1 with WA all ones. -/
theorem test_wheel_add_wraps :
    let c := wheelCtx 3 2 0 0x23000001 { Lane.init with pc := 5, wa := 0xFFFFFFFFFFFFFFFF }
    ((after (.wAdd 2) c.s).laneAt 3 0).wa = 0 ∧ ((after (.wAdd 2) c.s).laneAt 3 0).pc = 6 := by decide +kernel

/-- On an empty queue a step answers the same state. -/
theorem test_idle : step State.reset = .next State.reset := rfl

/-- Well-formed and ill-formed commands both exist. -/
theorem witness_WellFormedCommandCompletes : (∃ c : Instr, c.wf = true) ∧ (∃ c : Instr, c.wf = false) :=
  ⟨⟨.dataPlaneTick, by decide⟩, ⟨.cfgWrStart 0 2, by decide⟩⟩

/-! ### States of the witnesses: State.reset with the parts that a statement asks about -/

def st1 : State :=
    { State.reset with
      regs := [(R.VAULT_STATUS.addr 0 0, 0x10000000)], vault.counts := [(4101, 0)],
      vault.devs := [(0, {VDev.init with usable := true })] }

def st2 : State :=
    {State.reset with regs := [(R.VAULT_STATUS.addr 0 0, 0x10000000)], vault.counts := [(4101, 0)] }

def st3 : State :=
    {State.reset with vault.counts := [(4101, 1000)] }

def st4 : State :=
    {State.reset with vault.counts := [(4101, 0)] }

def st5 : State :=
    {State.reset with regs := [(R.VAULT_STATUS.addr 0 0, 0x30000000)], vault.counts := [(4101, 0)] }

def st6 : State :=
    {State.reset with regs := [(R.BASEPLATE_STATUS.addr 0 0, 3)] }

def st7 : State :=
    {State.reset with regs := [(R.BASEPLATE_STATUS.addr 0 0, 1)] }

def st8 : State :=
    {State.reset with regs := [(R.BASEPLATE_STATUS.addr 0 0, 1)], plate.mated := true }

def st9 : State :=
    {State.reset with phase := .running, regs := [(R.BASEPLATE_STATUS.addr 0 0, 1)], plate.mated := true }

def st10 : State :=
    {State.reset with regs := [(R.FEED_STATUS.addr 0 0, 1), (R.FEED_VOLTAGE.addr 0 0, 0x8fc0960)] }

def st11 : State :=
    { State.reset with
      tick := 123456, phase := .running,
      regs := [(R.FEED_STATUS.addr 0 0, 1), (R.FEED_VOLTAGE.addr 0 0, 0x8fc0960), (R.DOMAIN_ON.addr 0 0, 0xffffffff),
          (R.DOMAIN_ON.addr 0 1, 0xffffffff)], time.ticking := true }

def st12 : State :=
    { State.reset with
      regs := [(R.FEED_STATUS.addr 0 0, 6), (R.FEED_VOLTAGE.addr 0 0, 0x960), (R.HOLDUP_STATUS.addr 0 0, 0xe0000)] }

def st13 : State :=
    { State.reset with
      tick := 123456, phase := .running, regs := [(R.DOMAIN_ON.addr 0 0, 0xffffffff), (R.DOMAIN_ON.addr 0 1, 0xffffffff)],
      time.ticking := true }

def st14 : State :=
    { State.reset with
      tick := 20000000, phase := .running,
      regs := [(R.FEED_STATUS.addr 0 0, 3), (R.FEED_VOLTAGE.addr 0 0, 0x8fc0960), (R.HOLDUP_STATUS.addr 0 0, 0xff000000),
          (R.HOLDUP_CAPACITY.addr 0 0, 0x258), (R.DOMAIN_ON.addr 0 0, 0xffffffff), (R.DOMAIN_ON.addr 0 1, 0xffffffff)],
      power.trips := [(0, {DomTrip.init with first := some 1000, awaiting := true }),
          (1, {DomTrip.init with first := some 1000 }), (2, {DomTrip.init with first := some 1000 }),
          (3, {DomTrip.init with first := some 1000, awaiting := true }), (4, {DomTrip.init with first := some 1000 }),
          (5, {DomTrip.init with first := some 1000 }), (6, {DomTrip.init with first := some 1000, awaiting := true }),
          (7, {DomTrip.init with first := some 1000 }), (8, {DomTrip.init with first := some 1000 }),
          (9, {DomTrip.init with first := some 1000, awaiting := true }), (10, {DomTrip.init with first := some 1000 }),
          (11, {DomTrip.init with first := some 1000 }), (12, {DomTrip.init with first := some 1000, awaiting := true }),
          (13, {DomTrip.init with first := some 1000 }), (14, {DomTrip.init with first := some 1000 }),
          (15, {DomTrip.init with first := some 1000, awaiting := true }), (16, {DomTrip.init with first := some 1000 }),
          (17, {DomTrip.init with first := some 1000 }), (18, {DomTrip.init with first := some 1000, awaiting := true }),
          (19, {DomTrip.init with first := some 1000 }), (20, {DomTrip.init with first := some 1000 }),
          (21, {DomTrip.init with first := some 1000, awaiting := true }), (22, {DomTrip.init with first := some 1000 }),
          (23, {DomTrip.init with first := some 1000 }), (24, {DomTrip.init with first := some 1000, awaiting := true }),
          (25, {DomTrip.init with first := some 1000 }), (26, {DomTrip.init with first := some 1000 }),
          (27, {DomTrip.init with first := some 1000, awaiting := true }), (28, {DomTrip.init with first := some 1000 }),
          (29, {DomTrip.init with first := some 1000 }), (30, {DomTrip.init with first := some 1000, awaiting := true }),
          (31, {DomTrip.init with first := some 1000 }), (32, {DomTrip.init with first := some 1000 }),
          (33, {DomTrip.init with first := some 1000, awaiting := true }), (34, {DomTrip.init with first := some 1000 }),
          (35, {DomTrip.init with first := some 1000 }), (36, {DomTrip.init with first := some 1000, awaiting := true }),
          (37, {DomTrip.init with first := some 1000 }), (38, {DomTrip.init with first := some 1000 }),
          (39, {DomTrip.init with first := some 1000, awaiting := true }), (40, {DomTrip.init with first := some 1000 }),
          (41, {DomTrip.init with first := some 1000 }), (42, {DomTrip.init with first := some 1000, awaiting := true }),
          (43, {DomTrip.init with first := some 1000 }), (44, {DomTrip.init with first := some 1000 }),
          (45, {DomTrip.init with first := some 1000, awaiting := true }), (46, {DomTrip.init with first := some 1000 }),
          (47, {DomTrip.init with first := some 1000 }), (48, {DomTrip.init with first := some 1000, awaiting := true }),
          (49, {DomTrip.init with first := some 1000 }), (50, {DomTrip.init with first := some 1000 }),
          (51, {DomTrip.init with first := some 1000, awaiting := true }), (52, {DomTrip.init with first := some 1000 }),
          (53, {DomTrip.init with first := some 1000 }), (54, {DomTrip.init with first := some 1000, awaiting := true }),
          (55, {DomTrip.init with first := some 1000 }), (56, {DomTrip.init with first := some 1000 }),
          (57, {DomTrip.init with first := some 1000, awaiting := true }), (58, {DomTrip.init with first := some 1000 }),
          (59, {DomTrip.init with first := some 1000 })], time.ticking := true }

def st15 : State :=
    { State.reset with
      power.trips := [(0, {DomTrip.init with first := some 1000, awaiting := true }),
          (1, {DomTrip.init with first := some 1000 }), (2, {DomTrip.init with first := some 1000 }),
          (3, {DomTrip.init with first := some 1000, awaiting := true }), (4, {DomTrip.init with first := some 1000 }),
          (5, {DomTrip.init with first := some 1000 }), (6, {DomTrip.init with first := some 1000, awaiting := true }),
          (7, {DomTrip.init with first := some 1000 }), (8, {DomTrip.init with first := some 1000 }),
          (9, {DomTrip.init with first := some 1000, awaiting := true }), (10, {DomTrip.init with first := some 1000 }),
          (11, {DomTrip.init with first := some 1000 }), (12, {DomTrip.init with first := some 1000, awaiting := true }),
          (13, {DomTrip.init with first := some 1000 }), (14, {DomTrip.init with first := some 1000 }),
          (15, {DomTrip.init with first := some 1000, awaiting := true }), (16, {DomTrip.init with first := some 1000 }),
          (17, {DomTrip.init with first := some 1000 }), (18, {DomTrip.init with first := some 1000, awaiting := true }),
          (19, {DomTrip.init with first := some 1000 }), (20, {DomTrip.init with first := some 1000 }),
          (21, {DomTrip.init with first := some 1000, awaiting := true }), (22, {DomTrip.init with first := some 1000 }),
          (23, {DomTrip.init with first := some 1000 }), (24, {DomTrip.init with first := some 1000, awaiting := true }),
          (25, {DomTrip.init with first := some 1000 }), (26, {DomTrip.init with first := some 1000 }),
          (27, {DomTrip.init with first := some 1000, awaiting := true }), (28, {DomTrip.init with first := some 1000 }),
          (29, {DomTrip.init with first := some 1000 }), (30, {DomTrip.init with first := some 1000, awaiting := true }),
          (31, {DomTrip.init with first := some 1000 }), (32, {DomTrip.init with first := some 1000 }),
          (33, {DomTrip.init with first := some 1000, awaiting := true }), (34, {DomTrip.init with first := some 1000 }),
          (35, {DomTrip.init with first := some 1000 }), (36, {DomTrip.init with first := some 1000, awaiting := true }),
          (37, {DomTrip.init with first := some 1000 }), (38, {DomTrip.init with first := some 1000 }),
          (39, {DomTrip.init with first := some 1000, awaiting := true }), (40, {DomTrip.init with first := some 1000 }),
          (41, {DomTrip.init with first := some 1000 }), (42, {DomTrip.init with first := some 1000, awaiting := true }),
          (43, {DomTrip.init with first := some 1000 }), (44, {DomTrip.init with first := some 1000 }),
          (45, {DomTrip.init with first := some 1000, awaiting := true }), (46, {DomTrip.init with first := some 1000 }),
          (47, {DomTrip.init with first := some 1000 }), (48, {DomTrip.init with first := some 1000, awaiting := true }),
          (49, {DomTrip.init with first := some 1000 }), (50, {DomTrip.init with first := some 1000 }),
          (51, {DomTrip.init with first := some 1000, awaiting := true }), (52, {DomTrip.init with first := some 1000 }),
          (53, {DomTrip.init with first := some 1000 }), (54, {DomTrip.init with first := some 1000, awaiting := true }),
          (55, {DomTrip.init with first := some 1000 }), (56, {DomTrip.init with first := some 1000 }),
          (57, {DomTrip.init with first := some 1000, awaiting := true }), (58, {DomTrip.init with first := some 1000 }),
          (59, {DomTrip.init with first := some 1000 })] }

def st16 : State :=
    { State.reset with
      tick := 123456, phase := .running,
      regs := [(R.FEED_STATUS.addr 0 0, 3), (R.FEED_VOLTAGE.addr 0 0, 0x8fc0960), (R.HOLDUP_STATUS.addr 0 0, 0xff000000),
          (R.HOLDUP_CAPACITY.addr 0 0, 0x258), (R.DOMAIN_ON.addr 0 0, 0xffffffff), (R.DOMAIN_ON.addr 0 1, 0xffffffff)],
      power.sensors := [(0, {Sensor.init with samples := [400, 400, 400, 400, 400, 400, 410], mean := some 3210 }),
          (1, {Sensor.init with samples := [400, 400, 400, 400, 400, 400, 410], mean := some 3210 }),
          (2, {Sensor.init with samples := [400, 400, 400, 400, 400, 400, 410], mean := some 3210 }),
          (3, {Sensor.init with samples := [400, 400, 400, 400, 400, 400, 410], mean := some 3210 }),
          (4, {Sensor.init with samples := [400, 400, 400, 400, 400, 400, 410], mean := some 3210 }),
          (5, {Sensor.init with samples := [400, 400, 400, 400, 400, 400, 410], mean := some 3210 }),
          (6, {Sensor.init with samples := [400, 400, 400, 400, 400, 400, 410], mean := some 3210 }),
          (7, {Sensor.init with samples := [400, 400, 400, 400, 400, 400, 410], mean := some 3210 }),
          (8, {Sensor.init with samples := [400, 400, 400, 400, 400, 400, 410], mean := some 3210 }),
          (9, {Sensor.init with samples := [400, 400, 400, 400, 400, 400, 410], mean := some 3210 }),
          (10, {Sensor.init with samples := [400, 400, 400, 400, 400, 400, 410], mean := some 3210 }),
          (11, {Sensor.init with samples := [400, 400, 400, 400, 400, 400, 410], mean := some 3210 }),
          (12, {Sensor.init with samples := [400, 400, 400, 400, 400, 400, 410], mean := some 3210 }),
          (13, {Sensor.init with samples := [400, 400, 400, 400, 400, 400, 410], mean := some 3210 }),
          (14, {Sensor.init with samples := [400, 400, 400, 400, 400, 400, 410], mean := some 3210 }),
          (15, {Sensor.init with samples := [400, 400, 400, 400, 400, 400, 410], mean := some 3210 }),
          (16, {Sensor.init with samples := [400, 400, 400, 400, 400, 400, 410], mean := some 3210 }),
          (17, {Sensor.init with samples := [400, 400, 400, 400, 400, 400, 410], mean := some 3210 }),
          (18, {Sensor.init with samples := [400, 400, 400, 400, 400, 400, 410], mean := some 3210 }),
          (19, {Sensor.init with samples := [400, 400, 400, 400, 400, 400, 410], mean := some 3210 }),
          (20, {Sensor.init with samples := [400, 400, 400, 400, 400, 400, 410], mean := some 3210 }),
          (21, {Sensor.init with samples := [400, 400, 400, 400, 400, 400, 410], mean := some 3210 }),
          (22, {Sensor.init with samples := [400, 400, 400, 400, 400, 400, 410], mean := some 3210 }),
          (23, {Sensor.init with samples := [400, 400, 400, 400, 400, 400, 410], mean := some 3210 })], time.ticking := true }

def st17 : State :=
    { State.reset with
      tick := 123456, phase := .running,
      regs := [(R.FEED_STATUS.addr 0 0, 6), (R.FEED_VOLTAGE.addr 0 0, 0x960), (R.HOLDUP_STATUS.addr 0 0, 0xe0000),
          (R.DOMAIN_ON.addr 0 0, 0xffffffff), (R.DOMAIN_ON.addr 0 1, 0xffffffff), (R.THERMAL_SENSOR.addr 0 0, 0x80000000),
          (R.THERMAL_SENSOR.addr 1 0, 0x80000000), (R.THERMAL_SENSOR.addr 2 0, 0x80000000)],
      power.sensors := [(0, {Sensor.init with samples := [400, 400, 400, 400, 400, 400, 410], mean := some 3210 }),
          (1, {Sensor.init with samples := [400, 400, 400, 400, 400, 400, 410], mean := some 3210 }),
          (2, {Sensor.init with samples := [400, 400, 400, 400, 400, 400, 410], mean := some 3210 }),
          (3, {Sensor.init with samples := [400, 400, 400, 400, 400, 400, 410], mean := some 3210 }),
          (4, {Sensor.init with samples := [400, 400, 400, 400, 400, 400, 410], mean := some 3210 }),
          (5, {Sensor.init with samples := [400, 400, 400, 400, 400, 400, 410], mean := some 3210 }),
          (6, {Sensor.init with samples := [400, 400, 400, 400, 400, 400, 410], mean := some 3210 }),
          (7, {Sensor.init with samples := [400, 400, 400, 400, 400, 400, 410], mean := some 3210 }),
          (8, {Sensor.init with samples := [400, 400, 400, 400, 400, 400, 410], mean := some 3210 }),
          (9, {Sensor.init with samples := [400, 400, 400, 400, 400, 400, 410], mean := some 3210 }),
          (10, {Sensor.init with samples := [400, 400, 400, 400, 400, 400, 410], mean := some 3210 }),
          (11, {Sensor.init with samples := [400, 400, 400, 400, 400, 400, 410], mean := some 3210 }),
          (12, {Sensor.init with samples := [400, 400, 400, 400, 400, 400, 410], mean := some 3210 }),
          (13, {Sensor.init with samples := [400, 400, 400, 400, 400, 400, 410], mean := some 3210 }),
          (14, {Sensor.init with samples := [400, 400, 400, 400, 400, 400, 410], mean := some 3210 }),
          (15, {Sensor.init with samples := [400, 400, 400, 400, 400, 400, 410], mean := some 3210 }),
          (16, {Sensor.init with samples := [400, 400, 400, 400, 400, 400, 410], mean := some 3210 }),
          (17, {Sensor.init with samples := [400, 400, 400, 400, 400, 400, 410], mean := some 3210 }),
          (18, {Sensor.init with samples := [400, 400, 400, 400, 400, 400, 410], mean := some 3210 }),
          (19, {Sensor.init with samples := [400, 400, 400, 400, 400, 400, 410], mean := some 3210 }),
          (20, {Sensor.init with samples := [400, 400, 400, 400, 400, 400, 410], mean := some 3210 }),
          (21, {Sensor.init with samples := [400, 400, 400, 400, 400, 400, 410], mean := some 3210 }),
          (22, {Sensor.init with samples := [400, 400, 400, 400, 400, 400, 410], mean := some 3210 }),
          (23, {Sensor.init with samples := [400, 400, 400, 400, 400, 400, 410], mean := some 3210 })], time.ticking := true }

def st18 : State :=
    { State.reset with
      tick := 123456, phase := .stopped, stop := .thermal,
      regs := [(R.BASEPLATE_STATUS.addr 0 0, 4), (R.FEED_STATUS.addr 0 0, 1), (R.DOMAIN_ON.addr 0 0, 0xffffffff),
          (R.DOMAIN_ON.addr 0 1, 0xffffffff), (R.CLOCK_STATUS.addr 0 0, 0x80000000)], plate.mated := true,
      time.ticking := true }

def st19 : State :=
    {State.reset with regs := [(R.BASEPLATE_STATUS.addr 0 0, 4), (R.FEED_STATUS.addr 0 0, 1)], plate.mated := true }

def st20 : State :=
    { State.reset with
      phase := .starting,
      regs := [(R.BASEPLATE_STATUS.addr 0 0, 4), (R.FEED_STATUS.addr 0 0, 1), (R.DOMAIN_ON.addr 0 1, 0xf0000000)],
      plate.mated := true, time.ticking := true }

def st21 : State :=
    { State.reset with
      phase := .starting,
      regs := [(R.BASEPLATE_STATUS.addr 0 0, 4), (R.FEED_STATUS.addr 0 0, 1), (R.DOMAIN_ON.addr 0 1, 0xf0000000)],
      plate.mated := true,
      start.bankA := [(0, 5), (1, 0), (2, 7), (3, 2), (4, 0), (5, 0), (6, 0), (7, 0), (8, 0), (9, 0), (10, 0), (11, 0),
          (12, 0), (13, 0), (14, 0), (15, 0), (16, 0), (17, 0), (18, 0), (19, 0), (20, 0), (21, 0), (22, 0), (23, 0), (24, 0),
          (25, 0), (26, 0), (27, 0), (28, 0), (29, 0), (30, 0), (31, 0), (32, 0), (33, 0), (34, 0), (35, 0), (36, 0), (37, 0),
          (38, 0), (39, 0), (20000, 5)],
      start.bankB := [(0, 5), (1, 0), (2, 7), (3, 2), (4, 0), (5, 0), (6, 0), (7, 0), (8, 0), (9, 0), (10, 0), (11, 0),
          (12, 0), (13, 0), (14, 0), (15, 0), (16, 0), (17, 0), (18, 0), (19, 0), (20, 0), (21, 0), (22, 0), (23, 0), (24, 0),
          (25, 0), (26, 0), (27, 0), (28, 0), (29, 0), (30, 0), (31, 0), (32, 0), (33, 0), (34, 0), (35, 0), (36, 0), (37, 0),
          (38, 0), (39, 0), (20000, 5)], start.candidates := [1], time.ticking := true }

def st22 : State :=
    { State.reset with
      phase := .starting,
      regs := [(R.BASEPLATE_STATUS.addr 0 0, 4), (R.FEED_STATUS.addr 0 0, 1), (R.DOMAIN_ON.addr 0 1, 0xf0000000)],
      plate.mated := true, start.steps := [(2, true), (4, true), (5, true), (6, true), (7, true), (8, true)],
      start.head := some {
          format := 3, gen := 5, blocks := 2, address := 7, sections := 1, pair := false, safety := false, settleMs := 0,
          digest := [], safetyCrc := 0 }, time.ticking := true }

def st23 : State :=
    { State.reset with
      tick := 100000, phase := .starting,
      regs := [(R.BASEPLATE_STATUS.addr 0 0, 4), (R.FEED_STATUS.addr 0 0, 1), (R.DOMAIN_ON.addr 0 1, 0xf0000000)],
      plate.mated := true,
      start.steps := [(2, true), (4, true), (5, true), (6, true), (7, true), (8, true), (10, true), (11, true)],
      start.head := some {
          format := 3, gen := 5, blocks := 2, address := 7, sections := 1, pair := true, safety := false, settleMs := 0,
          digest := [], safetyCrc := 0 }, time.ticking := true }

def st24 : State :=
    { State.reset with
      phase := .starting,
      regs := [(R.BASEPLATE_STATUS.addr 0 0, 4), (R.FEED_STATUS.addr 0 0, 1), (R.DOMAIN_ON.addr 0 1, 0xf0000000),
          (R.PAIR_STATUS.addr 0 0, 0x40000000)], plate.mated := true, power.storeReady := true, start.steps := [(12, true)],
      time.ticking := true }

def st25 : State :=
    { State.reset with
      phase := .running,
      regs := [(R.BASEPLATE_STATUS.addr 0 0, 4), (R.FEED_STATUS.addr 0 0, 1), (R.DOMAIN_ON.addr 0 1, 0xf0000000),
          (R.CFG_WR_BLOCKS.addr 0 0, 2)], plate.mated := true,
      start.bankA := [(0, 5), (1, 0), (2, 7), (3, 2), (4, 0), (5, 0), (6, 0), (7, 0), (8, 0), (9, 0), (10, 0), (11, 0),
          (12, 0), (13, 0), (14, 0), (15, 0), (16, 0), (17, 0), (18, 0), (19, 0), (20, 0), (21, 0), (22, 0), (23, 0), (24, 0),
          (25, 0), (26, 0), (27, 0), (28, 0), (29, 0), (30, 0), (31, 0), (32, 0), (33, 0), (34, 0), (35, 0), (36, 0), (37, 0),
          (38, 0), (39, 0), (20000, 5)],
      start.bankB := [(0, 5), (1, 0), (2, 7), (3, 2), (4, 0), (5, 0), (6, 0), (7, 0), (8, 0), (9, 0), (10, 0), (11, 0),
          (12, 0), (13, 0), (14, 0), (15, 0), (16, 0), (17, 0), (18, 0), (19, 0), (20, 0), (21, 0), (22, 0), (23, 0), (24, 0),
          (25, 0), (26, 0), (27, 0), (28, 0), (29, 0), (30, 0), (31, 0), (32, 0), (33, 0), (34, 0), (35, 0), (36, 0), (37, 0),
          (38, 0), (39, 0), (20000, 5)], time.ticking := true,
      mgmt.sessions := [(1, {Session.init with opened := true }), (0, {Session.init with opened := true, account := 3 })] }

def st26 : State :=
    { State.reset with
      phase := .running,
      regs := [(R.BASEPLATE_STATUS.addr 0 0, 4), (R.FEED_STATUS.addr 0 0, 1), (R.DOMAIN_ON.addr 0 1, 0xf0000000),
          (R.CFG_WR_BLOCKS.addr 0 0, 3), (R.CFG_WR_STATUS.addr 0 0, 1)], plate.mated := true,
      start.bankA := [(0, 5), (1, 0), (2, 7), (3, 2), (4, 0), (5, 0), (6, 0), (7, 0), (8, 0), (9, 0), (10, 0), (11, 0),
          (12, 0), (13, 0), (14, 0), (15, 0), (16, 0), (17, 0), (18, 0), (19, 0), (20, 0), (21, 0), (22, 0), (23, 0), (24, 0),
          (25, 0), (26, 0), (27, 0), (28, 0), (29, 0), (30, 0), (31, 0), (32, 0), (33, 0), (34, 0), (35, 0), (36, 0), (37, 0),
          (38, 0), (39, 0), (20000, 5)],
      start.bankB := [(0, 5), (1, 0), (2, 7), (3, 2), (4, 0), (5, 0), (6, 0), (7, 0), (8, 0), (9, 0), (10, 0), (11, 0),
          (12, 0), (13, 0), (14, 0), (15, 0), (16, 0), (17, 0), (18, 0), (19, 0), (20, 0), (21, 0), (22, 0), (23, 0), (24, 0),
          (25, 0), (26, 0), (27, 0), (28, 0), (29, 0), (30, 0), (31, 0), (32, 0), (33, 0), (34, 0), (35, 0), (36, 0), (37, 0),
          (38, 0), (39, 0), (20000, 5)], time.ticking := true,
      mgmt.sessions := [(1, {Session.init with opened := true }), (0, {Session.init with opened := true, account := 3 })] }

def st27 : State :=
    { State.reset with
      phase := .running,
      regs := [(R.BASEPLATE_STATUS.addr 0 0, 4), (R.FEED_STATUS.addr 0 0, 1), (R.DOMAIN_ON.addr 0 1, 0xf0000000),
          (R.CFG_WR_BLOCKS.addr 0 0, 3), (R.CFG_WR_STATUS.addr 0 0, 0x102)], plate.mated := true,
      start.bankA := [(0, 5), (1, 0), (2, 7), (3, 2), (4, 0), (5, 0), (6, 0), (7, 0), (8, 0), (9, 0), (10, 0), (11, 0),
          (12, 0), (13, 0), (14, 0), (15, 0), (16, 0), (17, 0), (18, 0), (19, 0), (20, 0), (21, 0), (22, 0), (23, 0), (24, 0),
          (25, 0), (26, 0), (27, 0), (28, 0), (29, 0), (30, 0), (31, 0), (32, 0), (33, 0), (34, 0), (35, 0), (36, 0), (37, 0),
          (38, 0), (39, 0), (20000, 5)],
      start.bankB := [(0, 5), (1, 0), (2, 7), (3, 2), (4, 0), (5, 0), (6, 0), (7, 0), (8, 0), (9, 0), (10, 0), (11, 0),
          (12, 0), (13, 0), (14, 0), (15, 0), (16, 0), (17, 0), (18, 0), (19, 0), (20, 0), (21, 0), (22, 0), (23, 0), (24, 0),
          (25, 0), (26, 0), (27, 0), (28, 0), (29, 0), (30, 0), (31, 0), (32, 0), (33, 0), (34, 0), (35, 0), (36, 0), (37, 0),
          (38, 0), (39, 0), (20000, 5)], time.ticking := true,
      mgmt.sessions := [(1, {Session.init with opened := true }), (0, {Session.init with opened := true, account := 3 })] }

def st28 : State :=
    { State.reset with
      phase := .running,
      regs := [(R.BASEPLATE_STATUS.addr 0 0, 4), (R.FEED_STATUS.addr 0 0, 1), (R.DOMAIN_ON.addr 0 1, 0xf0000000),
          (R.CFG_WR_BLOCKS.addr 0 0, 3), (R.CFG_WR_STATUS.addr 0 0, 0x102)], plate.mated := true,
      start.wrBlock := [0, 0, 0, 0, 0, 0, 0, 0, 0, 0, 0, 0, 0, 0, 0, 0, 0, 0, 0, 0, 0, 0, 0, 0, 0, 0, 0, 0, 0, 0, 0, 0, 0, 0,
          0, 0, 0, 0, 0, 0, 0, 0, 0, 0, 0, 0, 0, 0, 0, 0, 0, 0, 0, 0, 0, 0, 0, 0, 0, 0, 0, 0, 0, 0, 0, 0, 0, 0, 0, 0, 0, 0, 0,
          0, 0, 0, 0, 0, 0, 0, 0, 0, 0, 0, 0, 0, 0, 0, 0, 0, 0, 0, 0, 0, 0, 0, 0, 0, 0, 0, 0, 0, 0, 0, 0, 0, 0, 0, 0, 0, 0, 0,
          0, 0, 0, 0, 0, 0, 0, 0, 0, 0, 0, 0, 0, 0, 0, 0, 0, 0, 0, 0, 0, 0, 0, 0, 0, 0, 0, 0, 0, 0, 0, 0, 0, 0, 0, 0, 0, 0, 0,
          0, 0, 0, 0, 0, 0, 0, 0, 0, 0, 0, 0, 0, 0, 0, 0, 0, 0, 0, 0, 0, 0, 0, 0, 0, 0, 0, 0, 0, 0, 0, 0, 0, 0, 0, 0, 0, 0, 0,
          0, 0, 0, 0, 0, 0, 0, 0, 0, 0, 0, 0, 0, 0, 0, 0, 0, 0, 0, 0, 0, 0, 0, 0, 0, 0, 0, 0, 0, 0, 0, 0, 0, 0, 0, 0, 0, 0, 0,
          0, 0, 0, 0, 0, 0, 0, 0, 0, 0, 0, 0, 0, 0, 0, 0, 0, 0, 0, 0, 0, 0, 0, 0, 0, 0, 0, 0, 0, 0, 0, 0, 0, 0, 0, 0, 0, 0, 0,
          0, 0, 0, 0, 0, 0, 0, 0, 0, 0, 0, 0, 0, 0, 0, 0, 0, 0, 0, 0, 0, 0, 0, 0, 0, 0, 0, 0, 0, 0, 0, 0, 0, 0, 0, 0, 0, 0, 0,
          0, 0, 0, 0, 0, 0, 0, 0, 0, 0, 0, 0, 0, 0, 0, 0, 0, 0, 0, 0, 0, 0, 0, 0, 0, 0, 0, 0, 0, 0, 0, 0, 0, 0, 0, 0, 0, 0, 0,
          0, 0, 0, 0, 0, 0, 0, 0, 0, 0, 0, 0, 0, 0, 0, 0, 0, 0, 0, 0, 0, 0, 0, 0, 0, 0, 0, 0, 0, 0, 0, 0, 0, 0, 0, 0, 0, 0, 0,
          0, 0, 0, 0, 0, 0, 0, 0, 0, 0, 0, 0, 0, 0, 0, 0, 0, 0, 0, 0, 0, 0, 0, 0, 0, 0, 0, 0, 0, 0, 0, 0, 0, 0, 0, 0, 0, 0, 0,
          0, 0, 0, 0, 0, 0, 0, 0, 0, 0, 0, 0, 0, 0, 0, 0, 0, 0, 0, 0, 0, 0, 0, 0, 0, 0, 0, 0, 0, 0, 0, 0, 0, 0, 0, 0, 0, 0, 0,
          0, 0, 0, 0, 0, 0, 0, 0, 0, 0, 0, 0, 0, 0, 0, 0, 0, 0, 0, 0, 0, 0, 0, 0, 0, 0, 0, 0, 0, 0, 0, 0, 0, 0, 0, 0, 0, 0, 0,
          0, 0, 0, 0, 0, 0, 0, 0, 0, 0, 0, 0, 0, 0, 0, 0, 0, 0, 0, 0, 0, 0, 0, 0, 0, 0, 0, 0, 0, 0, 0, 0, 0, 0, 0, 0, 0, 0, 0,
          0, 0, 0, 0, 0, 0, 0, 0, 0, 0, 0, 0, 0, 0, 0, 0, 0, 0, 0, 0, 0, 0, 0, 0, 0, 0, 0, 0, 0, 0, 0, 0, 0, 0, 0, 0, 0, 0, 0,
          0, 0, 0, 0, 0, 0, 0, 0, 0, 0, 0, 0, 0, 0, 0, 0, 0, 0, 0, 0, 0, 0, 0, 0, 0, 0, 0, 0, 0, 0, 0, 0, 0, 0, 0, 0, 0, 0, 0,
          0, 0, 0, 0, 0, 0, 0, 0, 0, 0, 0, 0, 0, 0, 0, 0, 0, 0, 0, 0, 0, 0, 0, 0, 0, 0, 0, 0, 0, 0, 0, 0, 0, 0, 0, 0, 0, 0, 0,
          0, 0, 0, 0, 0, 0, 0, 0, 0, 0, 0, 0, 0, 0, 0, 0, 0, 0, 0, 0, 0, 0, 0, 0, 0, 0, 0, 0, 0, 0, 0, 0, 0, 0, 0, 0, 0, 0, 0,
          0, 0, 0, 0, 0, 0, 0, 0, 0, 0, 0, 0, 0, 0, 0, 0, 0, 0, 0, 0, 0, 0, 0, 0, 0, 0, 0, 0, 0, 0, 0, 0, 0, 0, 0, 0, 0, 0, 0,
          0, 0, 0, 0, 0, 0, 0, 0, 0, 0, 0, 0, 0, 0, 0, 0, 0, 0, 0, 0, 0, 0, 0, 0, 0, 0, 0, 0, 0, 0, 0, 0, 0, 0, 0, 0, 0, 0, 0,
          0, 0, 0, 0, 0, 0, 0, 0, 0, 0, 0, 0, 0, 0, 0, 0, 0, 0, 0, 0, 0, 0, 0, 0, 0, 0, 0, 0, 0, 0, 0, 0, 0, 0, 0, 0, 0, 0, 0,
          0, 0, 0, 0, 0, 0, 0, 0, 0, 0, 0, 0, 0, 0, 0, 0, 0, 0, 0, 0, 0, 0, 0, 0, 0, 0, 0, 0, 0, 0, 0, 0, 0, 0, 0, 0, 0, 0, 0,
          0, 0, 0, 0, 0, 0, 0, 0, 0, 0, 0, 0, 0, 0, 0, 0, 0, 0, 0, 0, 0, 0, 0, 0, 0, 0, 0, 0, 0, 0, 0, 0, 0, 0, 0, 0, 0, 0, 0,
          0, 0, 0, 0, 0, 0, 0, 0, 0, 0, 0, 0, 0, 0, 0, 0, 0, 0, 0, 0, 0, 0, 0, 0, 0, 0, 0, 0, 0, 0, 0, 0, 0, 0, 0, 0, 0, 0, 0,
          0, 0, 0, 0, 0, 0, 0, 0, 0, 0, 0, 0, 0, 0, 0, 0, 0, 0, 0, 0, 0, 0, 0, 0, 0, 0, 0, 0, 0, 0, 0, 0, 0, 0, 0, 0, 0, 0, 0,
          0, 0, 0, 0, 0, 0, 0, 0, 0, 0, 0, 0, 0, 0, 0, 0, 0, 0, 0, 0, 0, 0, 0, 0, 0, 0, 0, 0, 0, 0, 0, 0, 0, 0, 0, 0, 0, 0, 0,
          0, 0, 0, 0, 0, 0, 0, 0, 0, 0, 0, 0, 0, 0], time.ticking := true,
      mgmt.sessions := [(1, {Session.init with opened := true }), (0, {Session.init with opened := true, account := 3 })] }

def st29 : State :=
    { State.reset with
      phase := .running,
      regs := [(R.BASEPLATE_STATUS.addr 0 0, 4), (R.FEED_STATUS.addr 0 0, 1), (R.DOMAIN_ON.addr 0 1, 0xf0000000),
          (R.CFG_WR_BLOCKS.addr 0 0, 3), (R.CFG_WR_STATUS.addr 0 0, 0x102)], plate.mated := true,
      start.wrQueue := [(0, [1, 2])], time.ticking := true,
      mgmt.sessions := [(1, {Session.init with opened := true }), (0, {Session.init with opened := true, account := 3 })] }

def st30 : State :=
    { State.reset with
      phase := .running,
      regs := [(R.BASEPLATE_STATUS.addr 0 0, 4), (R.FEED_STATUS.addr 0 0, 1), (R.DOMAIN_ON.addr 0 1, 0xf0000000)],
      plate.mated := true, time.ticking := true,
      mgmt.sessions := [(1, {Session.init with opened := true }), (0, {Session.init with opened := true, account := 3 })] }

def st31 : State :=
    { State.reset with
      phase := .running,
      regs := [(R.BASEPLATE_STATUS.addr 0 0, 4), (R.FEED_STATUS.addr 0 0, 1), (R.DOMAIN_ON.addr 0 1, 0xf0000000),
          (R.CFG_WR_BLOCKS.addr 0 0, 3), (R.CFG_WR_STATUS.addr 0 0, 0x103)], plate.mated := true,
      start.bankB := [(0, 5), (1, 0), (2, 7), (3, 2), (4, 0), (5, 0), (6, 0), (7, 0), (8, 0), (9, 0), (10, 0), (11, 0),
          (12, 0), (13, 0), (14, 0), (15, 0), (16, 0), (17, 0), (18, 0), (19, 0), (20, 0), (21, 0), (22, 0), (23, 0), (24, 0),
          (25, 0), (26, 0), (27, 0), (28, 0), (29, 0), (30, 0), (31, 0), (32, 0), (33, 0), (34, 0), (35, 0), (36, 0), (37, 0),
          (38, 0), (39, 0), (20000, 5)], start.wrBlock0 := [1, 2, 3], time.ticking := true,
      mgmt.sessions := [(1, {Session.init with opened := true }), (0, {Session.init with opened := true, account := 3 })] }

def st32 : State :=
    { State.reset with
      tick := 1000, phase := .running, regs := [(R.DOMAIN_ON.addr 0 0, 0x400000)],
      mgmt.sessions := [(0, { Session.init with
              opened := true, captured := [(69206048, some 0x4d)], held := [(69214240, some 5)] }),
          (1, {Session.init with opened := true, account := 3, since := 3, captured := [(69410848, some 0x4d)] }),
          (2, {Session.init with awaiting := true, moduleNonce := 7 }),
          (4, {Session.init with opened := true, noMac := true, seq := some 2 }),
          (5, {Session.init with opened := true, noMac := true, account := 3, reply := some (1, 2, 3, [4]) }),
          (7, {Session.init with opened := true, account := 7 })] }

def st33 : State :=
    { State.reset with
      tick := 1000, phase := .running,
      regs := [(R.DOMAIN_ON.addr 0 0, 0x400000), (R.ACCT_STATUS.addr 0 0, 2), (R.ACCT_STATUS.addr 3 0, 2),
          (R.TILL_CFG.addr 0 0, 0x200003), (R.TILL_CFG.addr 0 2, 0x2002), (R.TILL_CFG.addr 3 2, 0x80200003)],
      tills := [(0, {Till.init with wr := 9, rd := 5, rel := 4, mark := 4 }), (2, {Till.init with wr := 3, reserved := 1 }),
          (50, {Till.init with wr := 6, rd := 3, rel := 1, mark := 2 })],
      tillMem := [(5, 0x123456789abcdef0), (3276803, 0x63)],
      mgmt.sessions := [(0, { Session.init with
              opened := true, captured := [(69206048, some 0x4d)], held := [(69214240, some 5)] }),
          (1, {Session.init with opened := true, account := 3, since := 3, captured := [(69410848, some 0x4d)] }),
          (2, {Session.init with awaiting := true, moduleNonce := 7 }),
          (4, {Session.init with opened := true, noMac := true, seq := some 2 }),
          (5, {Session.init with opened := true, noMac := true, account := 3, reply := some (1, 2, 3, [4]) }),
          (7, {Session.init with opened := true, account := 7 })] }

def st34 : State :=
    { State.reset with
      tick := 1000, phase := .running,
      regs := [(R.MODULE_ADDRESS.addr 0 0, 7), (R.DOMAIN_ON.addr 0 0, 0x400000), (R.ACCT_STATUS.addr 3 0, 2),
          (R.TILL_CFG.addr 0 1, 0x4003), (R.PORT_STATUS.addr 1 0, 0x80000000), (R.NET_ISSUE_ADDR.addr 0 0, 4)],
      accts := [(3, {Acct.init with key := [1, 2, 3, 4, 5, 6, 7, 8] }), (0, {Acct.init with key := [1, 2, 3, 4, 5, 6, 7, 8] })],
      mgmt.sessions := [(0, {Session.init with opened := true, held := [(941252476739256320, some 5)] })],
      image.sigs := [(0, {Sig.init with value := 3, kind := 1 }), (3, {Sig.init with value := 8, owner := 3 }),
          (1, {Sig.init with value := 8, owner := 3, kind := 6 })],
      net.queues := [(0, [{item := [5], admitted := some 4 }, {item := [0x400000], admitted := none }])],
      net.issue := [(3, [0x200000000])] }

def st35 : State :=
    { State.reset with
      tick := 1000, phase := .running,
      regs := [(R.MODULE_ADDRESS.addr 0 0, 7), (R.SEAL_STATE.addr 0 0, 0x1000), (R.DOMAIN_ON.addr 0 0, 0x400000),
          (R.ACCT_STATUS.addr 0 0, 3), (R.ACCT_STATUS.addr 3 0, 2), (R.ACCT_STATUS.addr 7 0, 2),
          (R.TILL_CFG.addr 0 0, 0x200003), (R.TILL_CFG.addr 0 2, 0x2002), (R.TILL_CFG.addr 3 2, 0x80200003),
          (R.DS_LOAD.addr 3 0, 0xc0000000), (R.NET_PORTS.addr 0 0, 0xf), (R.PORT_STATUS.addr 1 0, 0x80000000)],
      mgmt.sessions := [(0, { Session.init with
              opened := true, captured := [(69206048, some 0x4d)], held := [(69214240, some 5)] }),
          (1, {Session.init with opened := true, account := 3, since := 3, captured := [(69410848, some 0x4d)] }),
          (2, {Session.init with awaiting := true, moduleNonce := 7 }),
          (4, {Session.init with opened := true, noMac := true, seq := some 2 }),
          (5, {Session.init with opened := true, noMac := true, account := 3, reply := some (1, 2, 3, [4]) }),
          (7, {Session.init with opened := true, account := 7 })],
      image.sigs := [(0, {Sig.init with value := 3, kind := 1 }), (3, {Sig.init with value := 8, owner := 3 }),
          (1, {Sig.init with value := 8, owner := 3, kind := 6 })],
      image.forces := [(3, some {
              value := 4, unforced := {Copy.init with value := 9, quality := 1, stamp := 5 }, stamp := 0, account := 3 })],
      image.execs := [(3, some {
              k := 3, rel := 10, relTl := 0x4d, rtTs := 0x58, tsValid := true, dt := 1000, late := 0, tol := 0, act := 0,
              mask := 0, snap := [], state := .running, lanes := [Lane.init] })],
      net.queues := [(3, [{item := [1], admitted := none }]),
          (0, [{item := [5], admitted := some 4 }, {item := [0x400000], admitted := none }])] }

def st36 : State :=
    { State.reset with
      tick := 1000, phase := .unconfigured, regs := [(R.DOMAIN_ON.addr 0 0, 0x400000)],
      mgmt.sessions := [(0, { Session.init with
              opened := true, captured := [(69206048, some 0x4d)], held := [(69214240, some 5)] }),
          (1, {Session.init with opened := true, account := 3, since := 3, captured := [(69410848, some 0x4d)] }),
          (2, {Session.init with awaiting := true, moduleNonce := 7 }),
          (4, {Session.init with opened := true, noMac := true, seq := some 2 }),
          (5, {Session.init with opened := true, noMac := true, account := 3, reply := some (1, 2, 3, [4]) }),
          (7, {Session.init with opened := true, account := 7 })] }

def st37 : State :=
    { State.reset with
      tick := 1000, phase := .running,
      regs := [(R.DOMAIN_ON.addr 0 0, 0x400000), (R.ACCT_STATUS.addr 0 0, 2), (R.ACCT_STATUS.addr 3 0, 2),
          (R.TILL_CFG.addr 0 0, 0x200003), (R.TILL_CFG.addr 0 2, 0x2002), (R.TILL_CFG.addr 3 2, 0x80200003)],
      accts := [(3, {Acct.init with key := [1, 2, 3, 4, 5, 6, 7, 8] }), (0, {Acct.init with key := [1, 2, 3, 4, 5, 6, 7, 8] })],
      mgmt.sessions := [(0, { Session.init with
              opened := true, captured := [(69206048, some 0x4d)], held := [(69214240, some 5)] }),
          (1, {Session.init with opened := true, account := 3, since := 3, captured := [(69410848, some 0x4d)] }),
          (2, {Session.init with awaiting := true, moduleNonce := 7 }),
          (4, {Session.init with opened := true, noMac := true, seq := some 2 }),
          (5, {Session.init with opened := true, noMac := true, account := 3, reply := some (1, 2, 3, [4]) }),
          (7, {Session.init with opened := true, account := 7 })] }

def st38 : State :=
    { State.reset with
      tick := 1000, phase := .running,
      regs := [(R.DOMAIN_ON.addr 0 0, 0x400000), (R.ACCT_STATUS.addr 0 0, 2), (R.ACCT_STATUS.addr 3 0, 2),
          (R.TILL_CFG.addr 0 0, 0x200003), (R.TILL_CFG.addr 0 2, 0x2002), (R.TILL_CFG.addr 3 2, 0x80200003),
          (R.DATA_WIN_ADDR.addr 0 0, 4), (R.PROG_DATA.addr 3 0, 1), (R.SIG_WIN_ADDR.addr 0 0, 0x1c)],
      tills := [(0, {Till.init with wr := 9, rd := 5, rel := 4, mark := 4 }), (2, {Till.init with wr := 3, reserved := 1 }),
          (50, {Till.init with wr := 6, rd := 3, rel := 1, mark := 2 })],
      tillMem := [(5, 0x123456789abcdef0), (3276803, 0x63)],
      mgmt.sessions := [(0, { Session.init with
              opened := true, captured := [(69206048, some 0x4d)],
              held := [(364844604073181184, some 5), (441352780662177816, some 8), (69214240, some 5)] }),
          (1, { Session.init with
              opened := true, account := 3, since := 3, captured := [(69410848, some 0x4d)],
              held := [(364844604073181184, some 5), (441352780662177816, some 8), (69214240, some 5)] }),
          (2, { Session.init with
              awaiting := true, moduleNonce := 7,
              held := [(364844604073181184, some 5), (441352780662177816, some 8), (69214240, some 5)] }),
          (4, { Session.init with
              opened := true, noMac := true, seq := some 2,
              held := [(364844604073181184, some 5), (441352780662177816, some 8), (69214240, some 5)] }),
          (5, { Session.init with
              opened := true, noMac := true, account := 3, reply := some (1, 2, 3, [4]),
              held := [(364844604073181184, some 5), (441352780662177816, some 8), (69214240, some 5)] }),
          (7, { Session.init with
              opened := true, account := 7,
              held := [(364844604073181184, some 5), (441352780662177816, some 8), (69214240, some 5)] })],
      mgmt.windows := [(102760448, {Window.init with holder := some 1, owed := [0] }),
          (103821312, {Window.init with holder := some 1 })], image.sigs := [(0, {Sig.init with shared := true, kind := 1 })] }

def st39 : State :=
    { State.reset with
      tick := 1000, phase := .running,
      regs := [(R.DOMAIN_ON.addr 0 0, 0x400000), (R.ACCT_STATUS.addr 0 0, 2), (R.ACCT_STATUS.addr 3 0, 2),
          (R.TILL_CFG.addr 0 0, 0x200003), (R.TILL_CFG.addr 0 2, 0x2002), (R.TILL_CFG.addr 3 2, 0x80200003),
          (R.DATA_WIN_ADDR.addr 0 0, 4), (R.PROG_DATA.addr 3 0, 1), (R.DATA_WIN_ADDR.addr 3 0, 4),
          (R.SIG_WIN_ADDR.addr 0 0, 0x1c)],
      tills := [(2, {Till.init with wr := 7, rd := 3, rel := 3 }), (0, {Till.init with wr := 3, rd := 3 })],
      mgmt.sessions := [(0, { Session.init with
              opened := true, captured := [(69206048, some 0x4d)],
              held := [(364844604073181184, some 5), (441352780662177816, some 8), (69214240, some 5)] }),
          (1, { Session.init with
              opened := true, account := 3, since := 3, captured := [(69410848, some 0x4d)],
              held := [(364844604073181184, some 5), (441352780662177816, some 8), (69214240, some 5)] }),
          (2, { Session.init with
              awaiting := true, moduleNonce := 7,
              held := [(364844604073181184, some 5), (441352780662177816, some 8), (69214240, some 5)] }),
          (4, { Session.init with
              opened := true, noMac := true, seq := some 2,
              held := [(364844604073181184, some 5), (441352780662177816, some 8), (69214240, some 5)] }),
          (5, { Session.init with
              opened := true, noMac := true, account := 3, reply := some (1, 2, 3, [4]),
              held := [(364844604073181184, some 5), (441352780662177816, some 8), (69214240, some 5)] }),
          (7, { Session.init with
              opened := true, account := 7,
              held := [(364844604073181184, some 5), (441352780662177816, some 8), (69214240, some 5)] })],
      image.sigs := [(0, {Sig.init with shared := true, kind := 1 })] }

def st40 : State :=
    { State.reset with
      tick := 70000000, phase := .running, regs := [(R.DOMAIN_ON.addr 0 0, 0x400000)],
      mgmt.sessions := [(0, { Session.init with
              opened := true, captured := [(69206048, some 0x4d)], held := [(69214240, some 5)] }),
          (1, {Session.init with opened := true, account := 3, since := 3, captured := [(69410848, some 0x4d)] }),
          (2, {Session.init with awaiting := true, moduleNonce := 7 }),
          (4, {Session.init with opened := true, noMac := true, seq := some 2 }),
          (5, {Session.init with opened := true, noMac := true, account := 3, reply := some (1, 2, 3, [4]) }),
          (7, {Session.init with opened := true, account := 7 })],
      mgmt.lockouts := [(0, {Lockout.init with fails := [5], locked := true, since := 9000 }),
          (2, {Lockout.init with locked := true, since := 20000000 })] }

def st41 : State :=
    { State.reset with
      tick := 1000, phase := .running,
      regs := [(R.DOMAIN_ON.addr 0 0, 0x400000), (R.ACCT_STATUS.addr 0 0, 2), (R.ACCT_STATUS.addr 3 0, 4),
          (R.TILL_CFG.addr 0 0, 0x200003), (R.TILL_CFG.addr 0 2, 0x2002), (R.TILL_CFG.addr 3 2, 0x80200003),
          (R.PAIR_STATUS.addr 0 0, 0x50000000)],
      tills := [(0, {Till.init with wr := 9, rd := 5, rel := 4, mark := 4 }), (2, {Till.init with wr := 3, reserved := 1 }),
          (50, {Till.init with wr := 6, rd := 3, rel := 1, mark := 2 })],
      tillMem := [(5, 0x123456789abcdef0), (3276803, 0x63)],
      mgmt.sessions := [(0, { Session.init with
              opened := true, captured := [(69206048, some 0x4d)], held := [(69214240, some 5)] }),
          (1, {Session.init with opened := true, account := 3, since := 3, captured := [(69410848, some 0x4d)] }),
          (2, {Session.init with awaiting := true, moduleNonce := 7 }),
          (4, {Session.init with opened := true, noMac := true, seq := some 2 }),
          (5, {Session.init with opened := true, noMac := true, account := 3, reply := some (1, 2, 3, [4]) }),
          (7, {Session.init with opened := true, account := 7 })] }

def st42 : State :=
    { State.reset with
      tick := 1000, phase := .running,
      regs := [(R.ACCT_STATUS.addr 2 0, 2), (R.ACCT_QUOTA_1.addr 2 0, 0x50000), (R.ACCT_CFG.addr 2 0, 3),
          (R.ACCT_CFG.addr 3 0, 3), (R.PROG_ENTRY.addr 3 0, 0xffff0008), (R.TASK_CFG.addr 3 0, 0x80024000),
          (R.TASK_PERIOD.addr 3 0, 0xa), (R.TASK_OVR.addr 3 0, 0x8000000), (R.TASK_STATUS.addr 3 0, 0x8000000),
          (R.TASK_OWNER.addr 3 0, 2), (R.ST_MAP.addr 2 0, 5), (R.ST_MAP.addr 14 0, 6), (R.ST_MAP.addr 15 0, 7)],
      time.ticking := true, image.sigs := [(11, {Sig.init with kind := 2, index := 80 })],
      image.updates := [{due := 5, kind := 2, index := 80, copy := {Copy.init with value := 7, quality := 1, stamp := 9 } }],
      image.built := true,
      image.slots := [(12288, {Slot.init with used := true, sig := 10 }),
          (12289, {Slot.init with used := true, out := true, sig := 11, qsrcEn := true, propGf := true }),
          (12290, {Slot.init with sig := 12 })] }

def st43 : State :=
    { State.reset with
      tick := 1000, phase := .running,
      regs := [(R.ACCT_STATUS.addr 2 0, 2), (R.ACCT_QUOTA_1.addr 2 0, 0x50000), (R.ACCT_CFG.addr 2 0, 3),
          (R.ACCT_CFG.addr 3 0, 3), (R.PROG_ENTRY.addr 3 0, 0xffff0008), (R.TASK_CFG.addr 3 0, 0x80024000),
          (R.TASK_PERIOD.addr 3 0, 0xa), (R.TASK_OVR.addr 3 0, 0x8000000), (R.TASK_STATUS.addr 3 0, 0x8000000),
          (R.TASK_OWNER.addr 3 0, 2), (R.ST_MAP.addr 2 0, 5), (R.ST_MAP.addr 14 0, 6), (R.ST_MAP.addr 15 0, 7)],
      time.ticking := true,
      image.sigs := [(10, {Sig.init with subst := 9, quality := 2, substMode := true, freshUs := 10 }),
          (11, {Sig.init with value := 4, quality := 1, freshUs := 10 }),
          (12, {Sig.init with upd := 990000, quality := 1, freshUs := 10 })],
      image.slots := [(12288, {Slot.init with used := true, sig := 10 }),
          (12289, {Slot.init with used := true, out := true, sig := 11, qsrcEn := true, propGf := true }),
          (12290, {Slot.init with sig := 12 })],
      image.tasks := [(3, {Task.init with enabled := some 3, lastRel := some 900 }),
          (6, {Task.init with enabled := some 3, lastRel := some 900 })] }

def st44 : State :=
    { State.reset with
      tick := 1000, phase := .running,
      regs := [(R.ACCT_STATUS.addr 2 0, 2), (R.ACCT_QUOTA_1.addr 2 0, 0x50000), (R.ACCT_CFG.addr 2 0, 3),
          (R.ACCT_CFG.addr 3 0, 3), (R.PROG_ENTRY.addr 3 0, 0xffff0008), (R.TASK_CFG.addr 3 0, 0x80024000),
          (R.TASK_PERIOD.addr 3 0, 0xa), (R.TASK_OVR.addr 3 0, 0x8000000), (R.TASK_STATUS.addr 3 0, 0x8000000),
          (R.TASK_OWNER.addr 3 0, 2), (R.ST_MAP.addr 2 0, 5), (R.ST_MAP.addr 14 0, 6), (R.ST_MAP.addr 15 0, 7)],
      time.ticking := true,
      image.sigs := [(10, {Sig.init with subst := 9, quality := 2, substMode := true, freshUs := 10 }),
          (11, {Sig.init with value := 4, quality := 1, freshUs := 10 }),
          (12, {Sig.init with upd := 990000, quality := 1, freshUs := 10 })],
      image.slots := [(12288, {Slot.init with used := true, sig := 10 }),
          (12289, {Slot.init with used := true, out := true, sig := 11, qsrcEn := true, propGf := true }),
          (12290, {Slot.init with sig := 12 })],
      image.tasks := [(3, {Task.init with enabled := some 3, lastRel := some 900 })],
      image.execs := [(3, some {
              k := 3, rel := 10, relTl := 0x4d, rtTs := 0x58, tsValid := true, dt := 1000, late := 990, tol := 1, act := 0,
              mask := 0, snap := [(0, some {Copy.init with value := 5 })], state := .running, lanes := [Lane.init] })],
      image.snapQ := [3, 9] }

def st45 : State :=
    { State.reset with
      tick := 1000, phase := .running,
      regs := [(R.ACCT_STATUS.addr 2 0, 2), (R.ACCT_QUOTA_1.addr 2 0, 0x50000), (R.ACCT_CFG.addr 2 0, 3),
          (R.ACCT_CFG.addr 3 0, 3), (R.PROG_ENTRY.addr 3 0, 0xffff0008), (R.TASK_CFG.addr 3 0, 0x80024000),
          (R.TASK_PERIOD.addr 3 0, 0xa), (R.TASK_OVR.addr 3 0, 0x8000000), (R.TASK_STATUS.addr 3 0, 0x8000000),
          (R.TASK_OWNER.addr 3 0, 2), (R.ST_MAP.addr 2 0, 5), (R.ST_MAP.addr 14 0, 6), (R.ST_MAP.addr 15 0, 7)],
      time.ticking := true,
      image.sigs := [(10, {Sig.init with subst := 9, quality := 2, substMode := true, freshUs := 10 }),
          (11, {Sig.init with value := 4, quality := 1, freshUs := 10 }),
          (12, {Sig.init with upd := 990000, quality := 1, freshUs := 10 })],
      image.slots := [(12288, {Slot.init with used := true, sig := 10 }),
          (12289, {Slot.init with used := true, out := true, sig := 11, qsrcEn := true, propGf := true }),
          (12290, {Slot.init with sig := 12 })],
      image.execs := [(3, some {
              k := 3, rel := 10, relTl := 0x4d, rtTs := 0x58, tsValid := true, dt := 1000, late := 990, tol := 0, act := 1,
              mask := 0, snap := [(0, some {Copy.init with value := 5 })], state := .running, lanes := [Lane.init] })],
      image.snapQ := [3, 9] }

def st46 : State :=
    { State.reset with
      tick := 1000, phase := .running,
      regs := [(R.ACCT_STATUS.addr 2 0, 2), (R.ACCT_QUOTA_1.addr 2 0, 0x50000), (R.ACCT_CFG.addr 2 0, 3),
          (R.ACCT_CFG.addr 3 0, 3), (R.PROG_ENTRY.addr 3 0, 0xffff0008), (R.TASK_CFG.addr 3 0, 0x80024000),
          (R.TASK_PERIOD.addr 3 0, 0xa), (R.TASK_OVR.addr 3 0, 0x8000000), (R.TASK_STATUS.addr 3 0, 0x8000000),
          (R.TASK_OWNER.addr 3 0, 2), (R.ST_MAP.addr 2 0, 5), (R.ST_MAP.addr 14 0, 6), (R.ST_MAP.addr 15 0, 7)],
      time.ticking := true,
      image.sigs := [(10, {Sig.init with subst := 9, quality := 2, substMode := true, freshUs := 10 }),
          (11, {Sig.init with value := 4, quality := 1, freshUs := 10 }),
          (12, {Sig.init with upd := 990000, quality := 1, freshUs := 10 })],
      image.slots := [(12288, {Slot.init with used := true, sig := 10 }),
          (12289, {Slot.init with used := true, out := true, sig := 11, qsrcEn := true, propGf := true }),
          (12290, {Slot.init with sig := 12 })],
      image.merging := [{
            ex := {
                k := 3, rel := 10, relTl := 0x4d, rtTs := 0x58, tsValid := true, dt := 1000, late := 990, tol := 1, act := 0,
                mask := 0, snap := [(0, some {Copy.init with value := 5 })], state := .running, lanes := [Lane.init] },
            entries := [{slot := 0, sig := 11, value := 5, mode := 0, time := 0 },
                {slot := 1, sig := 12, value := 6, mode := 1, time := 0x63 },
                {slot := 2, sig := 13, value := 7, mode := 2, time := 0x63 }], gf := true, lwheel := 2, account := 2,
            since := 3 }] }

def st47 : State :=
    { State.reset with
      tick := 1000, phase := .running,
      regs := [(R.ACCT_QUOTA_1.addr 2 0, 0x50000), (R.ACCT_CFG.addr 2 0, 3), (R.ACCT_CFG.addr 3 0, 3),
          (R.ACCT_STATUS.addr 7 0, 2), (R.PROG_ENTRY.addr 6 0, 0xffff0008), (R.TASK_CFG.addr 6 0, 0x800e4000),
          (R.TASK_PERIOD.addr 6 0, 0xa), (R.TASK_OVR.addr 6 0, 0x8000000), (R.TASK_STATUS.addr 6 0, 0x8000000),
          (R.TASK_OWNER.addr 6 0, 7), (R.ST_MAP.addr 2 0, 5), (R.ST_MAP.addr 14 0, 6), (R.ST_MAP.addr 15 0, 7)],
      time.ticking := true,
      image.sigs := [(10, {Sig.init with subst := 9, quality := 2, substMode := true, freshUs := 10 }),
          (11, {Sig.init with value := 4, quality := 1, freshUs := 10 }),
          (12, {Sig.init with upd := 990000, quality := 1, freshUs := 10 })],
      image.slots := [(24576, {Slot.init with used := true, sig := 10 }),
          (24577, {Slot.init with used := true, out := true, sig := 11, qsrcEn := true, propGf := true }),
          (24578, {Slot.init with sig := 12 })],
      image.tasks := [(3, {Task.init with enabled := some 3, lastRel := some 900 })],
      image.execs := [(3, some {
              k := 3, rel := 10, relTl := 0x4d, rtTs := 0x58, tsValid := true, dt := 1000, late := 990, tol := 1, act := 0,
              mask := 0, snap := [(0, some {Copy.init with value := 5 })], state := .running, lanes := [Lane.init] })],
      image.snapQ := [3, 9] }

def st48 : State :=
    { State.reset with
      tick := 1000, phase := .running,
      regs := [(R.ACCT_STATUS.addr 2 0, 2), (R.ACCT_QUOTA_1.addr 2 0, 0x50000), (R.ACCT_CFG.addr 2 0, 3),
          (R.ACCT_CFG.addr 3 0, 3), (R.PROG_ENTRY.addr 3 0, 0xffff0008), (R.TASK_CFG.addr 3 0, 0x80024000),
          (R.TASK_PERIOD.addr 3 0, 0xa), (R.TASK_OVR.addr 3 0, 0x8000000), (R.TASK_STATUS.addr 3 0, 0x8000000),
          (R.TASK_OWNER.addr 3 0, 2), (R.ST_MAP.addr 2 0, 5), (R.ST_MAP.addr 14 0, 6), (R.ST_MAP.addr 15 0, 7)],
      time.ticking := true,
      image.sigs := [(10, {Sig.init with subst := 9, quality := 2, substMode := true, freshUs := 10 }),
          (11, {Sig.init with value := 4, quality := 1, freshUs := 10 }),
          (12, {Sig.init with upd := 990000, quality := 1, freshUs := 10 })],
      image.slots := [(12288, {Slot.init with used := true, sig := 10 }),
          (12289, {Slot.init with used := true, out := true, sig := 11, qsrcEn := true, propGf := true }),
          (12290, {Slot.init with sig := 12 })],
      image.execs := [(3, some {
              k := 3, rel := 10, relTl := 0x4d, rtTs := 0x58, tsValid := true, dt := 1000, late := 990, tol := 0, act := 2,
              mask := 0, snap := [(0, some {Copy.init with value := 5 })], state := .running, lanes := [Lane.init] })],
      image.snapQ := [3, 9] }

def st49 : State :=
    { State.reset with
      tick := 1000, phase := .running,
      regs := [(R.ACCT_STATUS.addr 2 0, 2), (R.ACCT_QUOTA_1.addr 2 0, 0x50000), (R.ACCT_CFG.addr 2 0, 3),
          (R.ACCT_CFG.addr 3 0, 3), (R.PROG_ENTRY.addr 3 0, 0xffff0008), (R.TASK_CFG.addr 3 0, 0x80024000),
          (R.TASK_PERIOD.addr 3 0, 0xa), (R.TASK_OVR.addr 3 0, 0x8000000), (R.TASK_STATUS.addr 3 0, 0x8000000),
          (R.TASK_OWNER.addr 3 0, 2), (R.ST_MAP.addr 2 0, 5), (R.ST_MAP.addr 14 0, 6), (R.ST_MAP.addr 15 0, 7)],
      time.ticking := true,
      image.sigs := [(10, {Sig.init with subst := 9, quality := 2, substMode := true, freshUs := 10 }),
          (11, {Sig.init with value := 4, quality := 1, freshUs := 10 }),
          (12, {Sig.init with upd := 990000, quality := 1, freshUs := 10 })],
      image.slots := [(12288, {Slot.init with used := true, sig := 10 }),
          (12289, {Slot.init with used := true, out := true, sig := 11, qsrcEn := true, propGf := true }),
          (12290, {Slot.init with sig := 12 })],
      image.execs := [(3, some {
              k := 3, rel := 10, relTl := 0x4d, rtTs := 0x58, tsValid := true, dt := 1000, late := 990, tol := 0, act := 3,
              mask := 0, snap := [(0, some {Copy.init with value := 5 })], state := .running, lanes := [Lane.init] })],
      image.snapQ := [3, 9] }

def st50 : State :=
    { State.reset with
      tick := 1000, phase := .running,
      regs := [(R.ACCT_QUOTA_1.addr 2 0, 0x50000), (R.ACCT_CFG.addr 2 0, 3), (R.ACCT_CFG.addr 3 0, 3),
          (R.ACCT_STATUS.addr 7 0, 2), (R.PROG_ENTRY.addr 6 0, 0xffff0008), (R.TASK_CFG.addr 6 0, 0x800e4000),
          (R.TASK_PERIOD.addr 6 0, 0xa), (R.TASK_OVR.addr 6 0, 0x8000000), (R.TASK_STATUS.addr 6 0, 0x8000000),
          (R.TASK_OWNER.addr 6 0, 7), (R.ST_MAP.addr 2 0, 5), (R.ST_MAP.addr 14 0, 6), (R.ST_MAP.addr 15 0, 7)],
      time.ticking := true,
      image.sigs := [(10, {Sig.init with subst := 9, quality := 2, substMode := true, freshUs := 10 }),
          (11, {Sig.init with value := 4, quality := 1, freshUs := 10 }),
          (12, {Sig.init with upd := 990000, quality := 1, freshUs := 10 })],
      image.slots := [(24576, {Slot.init with used := true, sig := 10 }),
          (24577, {Slot.init with used := true, out := true, sig := 11, qsrcEn := true, propGf := true }),
          (24578, {Slot.init with sig := 12 })],
      image.tasks := [(6, {Task.init with enabled := some 3, lastRel := some 900 })],
      image.execs := [(6, some {
              k := 6, rel := 10, relTl := 0x4d, rtTs := 0x58, tsValid := true, dt := 1000, late := 990, tol := 1, act := 0,
              mask := 0, snap := [(0, some {Copy.init with value := 5 })], state := .running,
              lanes := [{Lane.init with points := [.done] }, Lane.init] })], image.snapQ := [6, 9] }

def st51 : State :=
    { State.reset with
      tick := 1000, phase := .running,
      regs := [(R.ACCT_STATUS.addr 2 0, 2), (R.ACCT_QUOTA_1.addr 2 0, 0x50000), (R.ACCT_CFG.addr 2 0, 3),
          (R.ACCT_CFG.addr 3 0, 3), (R.PROG_ENTRY.addr 3 0, 0xffff0008), (R.TASK_CFG.addr 3 0, 0x80024000),
          (R.TASK_PERIOD.addr 3 0, 0xa), (R.TASK_OVR.addr 3 0, 0x8000000), (R.TASK_STATUS.addr 3 0, 0x8000000),
          (R.TASK_OWNER.addr 3 0, 2), (R.ST_MAP.addr 2 0, 5), (R.ST_MAP.addr 14 0, 6), (R.ST_MAP.addr 15 0, 7)],
      time.ticking := true,
      image.sigs := [(10, {Sig.init with subst := 9, quality := 2, substMode := true, freshUs := 10 }),
          (11, {Sig.init with value := 4, quality := 1, freshUs := 10 }),
          (12, {Sig.init with upd := 990000, quality := 1, freshUs := 10 })],
      image.slots := [(12288, {Slot.init with used := true, sig := 10 }),
          (12289, {Slot.init with used := true, out := true, sig := 11, qsrcEn := true, propGf := true }),
          (12290, {Slot.init with sig := 12 })],
      image.fireIn := [{
            time := 0xf4240, value := 7, late := false, target := 3, task := 4, account := 0, action := true, tl := true,
            quality := 1, seq := 0 }] }

def st52 : State :=
    { State.reset with
      tick := 1000, phase := .running,
      regs := [(R.ACCT_STATUS.addr 2 0, 2), (R.ACCT_QUOTA_1.addr 2 0, 0x50000), (R.ACCT_CFG.addr 2 0, 3),
          (R.ACCT_CFG.addr 3 0, 3), (R.PROG_ENTRY.addr 3 0, 0xffff0008), (R.TASK_CFG.addr 3 0, 0x80024000),
          (R.TASK_PERIOD.addr 3 0, 0xa), (R.TASK_OVR.addr 3 0, 0x8000000), (R.TASK_STATUS.addr 3 0, 0x8000000),
          (R.TASK_OWNER.addr 3 0, 2), (R.ST_MAP.addr 2 0, 5), (R.ST_MAP.addr 14 0, 6), (R.ST_MAP.addr 15 0, 7)],
      time.ticking := true,
      image.sigs := [(10, {Sig.init with subst := 9, quality := 2, substMode := true, freshUs := 10 }),
          (11, {Sig.init with value := 4, quality := 1, freshUs := 10 }),
          (12, {Sig.init with upd := 990000, quality := 1, freshUs := 10 })],
      image.slots := [(12288, {Slot.init with used := true, sig := 10 }),
          (12289, {Slot.init with used := true, out := true, sig := 11, qsrcEn := true, propGf := true }),
          (12290, {Slot.init with sig := 12 })],
      image.fire := [{
            time := 0xdbba0, value := 7, late := true, target := 11, task := 4, account := 3, action := false, tl := true,
            quality := 1, seq := 0 }] }

def st53 : State :=
    { State.reset with
      tick := 1000, phase := .running,
      regs := [(R.ACCT_STATUS.addr 2 0, 2), (R.ACCT_QUOTA_1.addr 2 0, 0x50000), (R.ACCT_CFG.addr 2 0, 3),
          (R.ACCT_CFG.addr 3 0, 3), (R.PROG_ENTRY.addr 3 0, 0xffff0008), (R.TASK_CFG.addr 3 0, 0x80024000),
          (R.TASK_PERIOD.addr 3 0, 0xa), (R.TASK_OVR.addr 3 0, 0x8000000), (R.TASK_STATUS.addr 3 0, 0x8000000),
          (R.TASK_OWNER.addr 3 0, 2), (R.ST_MAP.addr 2 0, 5), (R.ST_MAP.addr 14 0, 6), (R.ST_MAP.addr 15 0, 7)],
      time.ticking := true,
      image.sigs := [(10, {Sig.init with subst := 9, quality := 2, substMode := true, freshUs := 10 }),
          (11, {Sig.init with value := 4, quality := 1, freshUs := 10 }),
          (12, {Sig.init with upd := 990000, quality := 1, freshUs := 10 })],
      image.forces := [(11, some {value := 4, unforced := Copy.init, stamp := 0, account := 2 })],
      image.slots := [(12288, {Slot.init with used := true, sig := 10 }),
          (12289, {Slot.init with used := true, out := true, sig := 11, qsrcEn := true, propGf := true }),
          (12290, {Slot.init with sig := 12 })],
      image.fire := [{
            time := 0xf3e58, value := 5, late := false, target := 11, task := 4, account := 2, action := false, tl := true,
            quality := 1, seq := 0 }] }

def st54 : State :=
    { State.reset with
      tick := 1000, phase := .running,
      regs := [(R.ACCT_STATUS.addr 2 0, 2), (R.ACCT_QUOTA_1.addr 2 0, 0x50000), (R.ACCT_CFG.addr 2 0, 3),
          (R.ACCT_CFG.addr 3 0, 3), (R.PROG_ENTRY.addr 3 0, 0xffff0008), (R.TASK_CFG.addr 3 0, 0x80024000),
          (R.TASK_PERIOD.addr 3 0, 0xa), (R.TASK_OVR.addr 3 0, 0x8000000), (R.TASK_STATUS.addr 3 0, 0x8000000),
          (R.TASK_OWNER.addr 3 0, 2), (R.ST_MAP.addr 2 0, 5), (R.ST_MAP.addr 14 0, 6), (R.ST_MAP.addr 15 0, 7)],
      time.ticking := true,
      image.sigs := [(10, {Sig.init with subst := 9, quality := 2, substMode := true, freshUs := 10 }),
          (11, {Sig.init with value := 4, quality := 1, freshUs := 10 }),
          (12, {Sig.init with upd := 990000, quality := 1, freshUs := 10 })],
      image.slots := [(12288, {Slot.init with used := true, sig := 10 }),
          (12289, {Slot.init with used := true, out := true, sig := 11, qsrcEn := true, propGf := true }),
          (12290, {Slot.init with sig := 12 })],
      image.fire := [{
            time := 0xf4240, value := 7, late := false, target := 3, task := 4, account := 0, action := true, tl := true,
            quality := 1, seq := 0 }] }

def st55 : State :=
    { State.reset with
      tick := 1000, phase := .running,
      regs := [(R.ACCT_STATUS.addr 2 0, 2), (R.ACCT_QUOTA_1.addr 2 0, 0x50000), (R.ACCT_CFG.addr 2 0, 3),
          (R.ACCT_CFG.addr 3 0, 3), (R.PROG_ENTRY.addr 3 0, 0xffff0008), (R.TASK_CFG.addr 3 0, 0x80024000),
          (R.TASK_PERIOD.addr 3 0, 0xa), (R.TASK_OVR.addr 3 0, 0x8000000), (R.TASK_STATUS.addr 3 0, 0x8000000),
          (R.TASK_OWNER.addr 3 0, 2), (R.ST_MAP.addr 2 0, 5), (R.ST_MAP.addr 14 0, 6), (R.ST_MAP.addr 15 0, 7)],
      image.sigs := [(10, {Sig.init with subst := 9, quality := 2, substMode := true, freshUs := 10 }),
          (11, {Sig.init with value := 4, quality := 1, freshUs := 10 }),
          (12, {Sig.init with upd := 990000, quality := 1, freshUs := 10 })], image.built := true,
      image.slots := [(12288, {Slot.init with used := true, sig := 10 }),
          (12289, {Slot.init with used := true, out := true, sig := 11, qsrcEn := true, propGf := true }),
          (12290, {Slot.init with sig := 12 })] }

def st56 : State :=
    { State.reset with
      tick := 1000, phase := .stopped,
      regs := [(R.ACCT_STATUS.addr 2 0, 2), (R.ACCT_QUOTA_1.addr 2 0, 0x50000), (R.ACCT_CFG.addr 2 0, 3),
          (R.ACCT_CFG.addr 3 0, 3), (R.PROG_ENTRY.addr 3 0, 0xffff0008), (R.TASK_CFG.addr 3 0, 0x80024000),
          (R.TASK_PERIOD.addr 3 0, 0xa), (R.TASK_OVR.addr 3 0, 0x8000000), (R.TASK_STATUS.addr 3 0, 0x8000000),
          (R.TASK_OWNER.addr 3 0, 2), (R.ST_MAP.addr 2 0, 5), (R.ST_MAP.addr 14 0, 6), (R.ST_MAP.addr 15 0, 7)],
      time.ticking := true,
      image.sigs := [(10, {Sig.init with subst := 9, quality := 2, substMode := true, freshUs := 10 }),
          (11, {Sig.init with value := 4, quality := 1, freshUs := 10 }),
          (12, {Sig.init with upd := 990000, quality := 1, freshUs := 10 })], image.built := true,
      image.slots := [(12288, {Slot.init with used := true, sig := 10 }),
          (12289, {Slot.init with used := true, out := true, sig := 11, qsrcEn := true, propGf := true }),
          (12290, {Slot.init with sig := 12 })] }

def st57 : State :=
    { State.reset with
      tick := 1000,
      regs := [(R.ACCT_STATUS.addr 2 0, 2), (R.ACCT_QUOTA_1.addr 2 0, 0x50000), (R.ACCT_CFG.addr 2 0, 3),
          (R.ACCT_CFG.addr 3 0, 3), (R.PROG_ENTRY.addr 3 0, 0xffff0008), (R.TASK_CFG.addr 3 0, 0x80024000),
          (R.TASK_PERIOD.addr 3 0, 0xa), (R.TASK_OVR.addr 3 0, 0x8000000), (R.TASK_STATUS.addr 3 0, 0x8000000),
          (R.TASK_OWNER.addr 3 0, 2), (R.ST_MAP.addr 2 0, 5), (R.ST_MAP.addr 14 0, 6), (R.ST_MAP.addr 15 0, 7)],
      time.ticking := true, mgmt.effects := [.word 68161560 0xffffffff 1 2],
      image.sigs := [(10, {Sig.init with subst := 9, quality := 2, substMode := true, freshUs := 10 }),
          (11, {Sig.init with value := 4, quality := 1, freshUs := 10 }),
          (12, {Sig.init with upd := 990000, quality := 1, freshUs := 10 })], image.built := true,
      image.slots := [(12288, {Slot.init with used := true, sig := 10 }),
          (12289, {Slot.init with used := true, out := true, sig := 11, qsrcEn := true, propGf := true }),
          (12290, {Slot.init with sig := 12 })] }

def st58 : State :=
    { State.reset with
      tick := 2000, phase := .running,
      regs := [(R.ACH_RATE.addr 0 0, 0x20000000), (R.ACH_RATE.addr 2 0, 0x20000000), (R.ACH_RATE.addr 3 0, 0x20000000),
          (R.ACH_RATE.addr 40 0, 0x20000000), (R.SL_STATUS.addr 0 0, 0x40000000), (R.SL_STATUS.addr 1 0, 0x40000000)],
      links := [(0, {Link.init with obeys := true }), (1, {Link.init with obeys := true })] }

def st59 : State :=
    { State.reset with
      tick := 2000, phase := .running,
      regs := [(R.ACH_CFG.addr 0 0, 0x10000000), (R.ACH_RATE.addr 0 0, 0x20000000), (R.ACH_CFG.addr 2 0, 0x10000000),
          (R.ACH_RATE.addr 2 0, 0x20000000), (R.ACH_CFG.addr 3 0, 0x10000000), (R.ACH_RATE.addr 3 0, 0x20000000),
          (R.ACH_CFG.addr 40 0, 0x10000000), (R.ACH_RATE.addr 40 0, 0x20000000), (R.SL_STATUS.addr 0 0, 0x40000000),
          (R.SL_STATUS.addr 1 0, 0x40000000)],
      links := [(0, {Link.init with obeys := true }), (1, {Link.init with obeys := true })] }

def st60 : State :=
    { State.reset with
      tick := 2001, phase := .running,
      regs := [(R.ACH_CFG.addr 0 0, 0x10000000), (R.ACH_RATE.addr 0 0, 0x20000000), (R.ACH_STATUS.addr 0 0, 0xb020),
          (R.ACH_CFG.addr 2 0, 0x10000000), (R.ACH_RATE.addr 2 0, 0x20000000), (R.ACH_STATUS.addr 2 0, 0xb020),
          (R.ACH_CFG.addr 3 0, 0x10000000), (R.ACH_RATE.addr 3 0, 0x20000000), (R.ACH_STATUS.addr 3 0, 0xb020),
          (R.ACH_CFG.addr 40 0, 0x10000000), (R.ACH_RATE.addr 40 0, 0x20000000), (R.ACH_STATUS.addr 40 0, 0xb020),
          (R.SL_STATUS.addr 0 0, 0x40000000), (R.SL_STATUS.addr 1 0, 0x40000000)],
      ach := [(0, { ACh.init with
              setp := 0x4014000000000000, stage := {Stage.init with driven := true, code := 5 }, cut := true }),
          (2, {ACh.init with setp := 0x4014000000000000, stage := {Stage.init with driven := true, code := 5 }, cut := true }),
          (3, {ACh.init with setp := 0x4014000000000000, stage := {Stage.init with driven := true, code := 5 }, cut := true }),
          (40, {ACh.init with setp := 0x4014000000000000, stage := {Stage.init with driven := true, code := 5 }, cut := true })],
      links := [(0, {Link.init with obeys := true }), (1, {Link.init with obeys := true })] }

def st61 : State :=
    { State.reset with
      tick := 2000, phase := .running,
      regs := [(R.ACH_CFG.addr 0 0, 0x72000000), (R.ACH_RATE.addr 0 0, 0x20000000), (R.ACH_CFG.addr 2 0, 0x72000000),
          (R.ACH_RATE.addr 2 0, 0x20000000), (R.ACH_CFG.addr 3 0, 0x72000000), (R.ACH_RATE.addr 3 0, 0x20000000),
          (R.ACH_CFG.addr 40 0, 0x72000000), (R.ACH_RATE.addr 40 0, 0x20000000), (R.SL_STATUS.addr 0 0, 0x40000000),
          (R.SL_STATUS.addr 1 0, 0x40000000)],
      links := [(0, {Link.init with obeys := true }), (1, {Link.init with obeys := true })] }

def st62 : State :=
    { State.reset with
      tick := 2001, phase := .running,
      regs := [(R.ACH_CFG.addr 0 0, 0x72000000), (R.ACH_RATE.addr 0 0, 0x20000000), (R.ACH_STATUS.addr 0 0, 0xb020),
          (R.ACH_CFG.addr 2 0, 0x72000000), (R.ACH_RATE.addr 2 0, 0x20000000), (R.ACH_STATUS.addr 2 0, 0xb020),
          (R.ACH_CFG.addr 3 0, 0x72000000), (R.ACH_RATE.addr 3 0, 0x20000000), (R.ACH_STATUS.addr 3 0, 0xb020),
          (R.ACH_CFG.addr 40 0, 0x72000000), (R.ACH_RATE.addr 40 0, 0x20000000), (R.ACH_STATUS.addr 40 0, 0xb020),
          (R.SL_STATUS.addr 0 0, 0x40000000), (R.SL_STATUS.addr 1 0, 0x40000000)],
      ach := [(0, { ACh.init with
              setp := 0x4014000000000000, stage := {Stage.init with driven := true, code := 5 }, cut := true }),
          (2, {ACh.init with setp := 0x4014000000000000, stage := {Stage.init with driven := true, code := 5 }, cut := true }),
          (3, {ACh.init with setp := 0x4014000000000000, stage := {Stage.init with driven := true, code := 5 }, cut := true }),
          (40, {ACh.init with setp := 0x4014000000000000, stage := {Stage.init with driven := true, code := 5 }, cut := true })],
      links := [(0, {Link.init with obeys := true }), (1, {Link.init with obeys := true })] }

def st63 : State :=
    { State.reset with
      tick := 2000, phase := .running,
      regs := [(R.ACH_CFG.addr 0 0, 0x60000000), (R.ACH_RATE.addr 0 0, 0x20000000), (R.ACH_CFG.addr 2 0, 0x60000000),
          (R.ACH_RATE.addr 2 0, 0x20000000), (R.ACH_CFG.addr 3 0, 0x60000000), (R.ACH_RATE.addr 3 0, 0x20000000),
          (R.ACH_CFG.addr 40 0, 0x60000000), (R.ACH_RATE.addr 40 0, 0x20000000), (R.SL_STATUS.addr 0 0, 0x40000000),
          (R.SL_STATUS.addr 1 0, 0x40000000)],
      links := [(0, {Link.init with obeys := true }), (1, {Link.init with obeys := true })] }

def st64 : State :=
    { State.reset with
      tick := 2001, phase := .running,
      regs := [(R.ACH_CFG.addr 0 0, 0x60000000), (R.ACH_RATE.addr 0 0, 0x20000000), (R.ACH_STATUS.addr 0 0, 0xb020),
          (R.ACH_CFG.addr 2 0, 0x60000000), (R.ACH_RATE.addr 2 0, 0x20000000), (R.ACH_STATUS.addr 2 0, 0xb020),
          (R.ACH_CFG.addr 3 0, 0x60000000), (R.ACH_RATE.addr 3 0, 0x20000000), (R.ACH_STATUS.addr 3 0, 0xb020),
          (R.ACH_CFG.addr 40 0, 0x60000000), (R.ACH_RATE.addr 40 0, 0x20000000), (R.ACH_STATUS.addr 40 0, 0xb020),
          (R.SL_STATUS.addr 0 0, 0x40000000), (R.SL_STATUS.addr 1 0, 0x40000000)],
      ach := [(0, { ACh.init with
              setp := 0x4014000000000000, stage := {Stage.init with driven := true, code := 5 }, cut := true }),
          (2, {ACh.init with setp := 0x4014000000000000, stage := {Stage.init with driven := true, code := 5 }, cut := true }),
          (3, {ACh.init with setp := 0x4014000000000000, stage := {Stage.init with driven := true, code := 5 }, cut := true }),
          (40, {ACh.init with setp := 0x4014000000000000, stage := {Stage.init with driven := true, code := 5 }, cut := true })],
      links := [(0, {Link.init with obeys := true }), (1, {Link.init with obeys := true })] }

def st65 : State :=
    { State.reset with
      tick := 2000, phase := .running,
      regs := [(R.ACH_RATE.addr 0 0, 0x20000000), (R.ACH_STATUS.addr 0 0, 0x1000), (R.ACH_RATE.addr 2 0, 0x20000000),
          (R.ACH_STATUS.addr 2 0, 0x1000), (R.ACH_RATE.addr 3 0, 0x20000000), (R.ACH_STATUS.addr 3 0, 0x1000),
          (R.ACH_RATE.addr 40 0, 0x20000000), (R.ACH_STATUS.addr 40 0, 0x1000), (R.SL_STATUS.addr 0 0, 0x40000000),
          (R.SL_STATUS.addr 1 0, 0x40000000)],
      ach := [(0, {ACh.init with setp := 0x4014000000000000, holdUntil := 1, setting := true }),
          (2, {ACh.init with setp := 0x4014000000000000, holdUntil := 1, setting := true }),
          (3, {ACh.init with setp := 0x4014000000000000, holdUntil := 1, setting := true }),
          (40, {ACh.init with setp := 0x4014000000000000, holdUntil := 1, setting := true })],
      links := [(0, {Link.init with obeys := true }), (1, {Link.init with obeys := true })] }

def st66 : State :=
    { State.reset with
      tick := 2000, phase := .running,
      regs := [(R.TILL_CFG.addr 3 0, 0x500006), (R.TILL_CFG.addr 3 2, 0x5006), (R.ACH_OWNER.addr 0 0, 3),
          (R.ACH_OWNER.addr 3 0, 3), (R.ACH_OWNER.addr 40 0, 3), (R.HART_CFG.addr 0 0, 0x900007d0),
          (R.HART_ID.addr 0 0, 0x1234), (R.HART_DEVID.addr 0 0, 0xabcdef), (R.HART_Z_CFG.addr 0 0, 0x808),
          (R.HART_CFG.addr 3 0, 0x900007d0), (R.HART_ID.addr 3 0, 0x1234), (R.HART_DEVID.addr 3 0, 0xabcdef),
          (R.HART_Z_CFG.addr 3 0, 0x808), (R.HART_CFG.addr 40 0, 0x900007d0), (R.HART_ID.addr 40 0, 0x1234),
          (R.HART_DEVID.addr 40 0, 0xabcdef), (R.HART_Z_CFG.addr 40 0, 0x808)], time.ticking := true,
      tills := [(48, {Till.init with wr := 1 }), (50, {Till.init with wr := 5, rd := 3, rel := 2, mark := 2, reserved := 1 })],
      hart := [(0, {HartCh.init with sent := [2, 0x80, 3, 0, 0x81] }), (3, {HartCh.init with sent := [2, 0x80, 3, 0, 0x81] }),
          (40, {HartCh.init with sent := [2, 0x80, 3, 0, 0x81] })] }

def st67 : State :=
    { State.reset with
      tick := 2000, phase := .running,
      regs := [(R.TILL_CFG.addr 3 0, 0x500006), (R.TILL_CFG.addr 3 2, 0x5006), (R.ACH_OWNER.addr 0 0, 3),
          (R.ACH_OWNER.addr 3 0, 3), (R.ACH_OWNER.addr 40 0, 3), (R.HART_CFG.addr 0 0, 0x900007d0),
          (R.HART_STATUS.addr 0 0, 0x20000000), (R.HART_Z_CFG.addr 0 0, 0x808), (R.HART_CFG.addr 3 0, 0x900007d0),
          (R.HART_STATUS.addr 3 0, 0x20000000), (R.HART_Z_CFG.addr 3 0, 0x80000808), (R.HART_CFG.addr 40 0, 0x900007d0),
          (R.HART_STATUS.addr 40 0, 0x20000000), (R.HART_Z_CFG.addr 40 0, 0x808)], time.ticking := true,
      tills := [(48, {Till.init with wr := 1 }), (50, {Till.init with wr := 5, rd := 3, rel := 2, mark := 2, reserved := 1 })] }

def st68 : State :=
    { State.reset with
      tick := 2000, phase := .running,
      regs := [(R.TILL_CFG.addr 3 0, 0x500006), (R.TILL_CFG.addr 3 2, 0x5006), (R.ACH_OWNER.addr 0 0, 3),
          (R.ACH_OWNER.addr 3 0, 3), (R.ACH_OWNER.addr 40 0, 3), (R.HART_CFG.addr 0 0, 0x900007d0),
          (R.HART_STATUS.addr 0 0, 0x20000000), (R.HART_ID.addr 0 0, 0x1234), (R.HART_DEVID.addr 0 0, 0xabcdef),
          (R.HART_Z_CFG.addr 0 0, 0x808), (R.HART_CFG.addr 3 0, 0x900007d0), (R.HART_STATUS.addr 3 0, 0x20000000),
          (R.HART_ID.addr 3 0, 0x1234), (R.HART_DEVID.addr 3 0, 0xabcdef), (R.HART_Z_CFG.addr 3 0, 0x808),
          (R.HART_CFG.addr 40 0, 0x900007d0), (R.HART_STATUS.addr 40 0, 0x20000000), (R.HART_ID.addr 40 0, 0x1234),
          (R.HART_DEVID.addr 40 0, 0xabcdef), (R.HART_Z_CFG.addr 40 0, 0x808)], time.ticking := true,
      tills := [(48, {Till.init with wr := 1 }), (50, {Till.init with wr := 5, rd := 3, rel := 2, mark := 2, reserved := 1 })],
      hart := [(0, { HartCh.init with
              cur := some .poll, tries := 3, sent := [2, 0x80, 3, 0, 0x81], measure := true, rebase1200 := true }),
          (3, { HartCh.init with
              cur := some .poll, tries := 3, sent := [2, 0x80, 3, 0, 0x81], measure := true, rebase1200 := true }),
          (40, { HartCh.init with
              cur := some .poll, tries := 3, sent := [2, 0x80, 3, 0, 0x81], measure := true, rebase1200 := true })] }

def st69 : State :=
    { State.reset with
      tick := 2000, phase := .running,
      regs := [(R.TILL_CFG.addr 3 0, 0x500006), (R.TILL_CFG.addr 3 2, 0x5006), (R.ACH_OWNER.addr 0 0, 3),
          (R.ACH_OWNER.addr 3 0, 3), (R.ACH_OWNER.addr 40 0, 3), (R.HART_CFG.addr 0 0, 0x900007d0),
          (R.HART_STATUS.addr 0 0, 0x20000000), (R.HART_ID.addr 0 0, 0x1234), (R.HART_DEVID.addr 0 0, 0xabcdef),
          (R.HART_Z_CFG.addr 0 0, 0x808), (R.HART_CFG.addr 3 0, 0x900007d0), (R.HART_STATUS.addr 3 0, 0x20000000),
          (R.HART_ID.addr 3 0, 0x1234), (R.HART_DEVID.addr 3 0, 0xabcdef), (R.HART_Z_CFG.addr 3 0, 0x808),
          (R.HART_CFG.addr 40 0, 0x900007d0), (R.HART_STATUS.addr 40 0, 0x20000000), (R.HART_ID.addr 40 0, 0x1234),
          (R.HART_DEVID.addr 40 0, 0xabcdef), (R.HART_Z_CFG.addr 40 0, 0x808)], time.ticking := true,
      tills := [(48, {Till.init with wr := 1 }), (50, {Till.init with wr := 5, rd := 3, rel := 2, mark := 2, reserved := 1 })],
      hart := [(0, {HartCh.init with cur := some .ident, tries := 2, sent := [2, 0x80, 0, 0, 0x82] }),
          (3, {HartCh.init with cur := some .ident, tries := 2, sent := [2, 0x80, 0, 0, 0x82] }),
          (40, {HartCh.init with cur := some .ident, tries := 2, sent := [2, 0x80, 0, 0, 0x82] })] }

def st70 : State :=
    { State.reset with
      tick := 2000, phase := .running,
      regs := [(R.TILL_CFG.addr 3 0, 0x500006), (R.TILL_CFG.addr 3 2, 0x5006), (R.ACH_OWNER.addr 0 0, 3),
          (R.ACH_OWNER.addr 3 0, 3), (R.ACH_OWNER.addr 40 0, 3), (R.HART_CFG.addr 0 0, 0x900007d0),
          (R.HART_STATUS.addr 0 0, 0x20000000), (R.HART_ID.addr 0 0, 0x1234), (R.HART_DEVID.addr 0 0, 0xabcdef),
          (R.HART_Z_CFG.addr 0 0, 0x808), (R.HART_CFG.addr 3 0, 0x900007d0), (R.HART_STATUS.addr 3 0, 0x20000000),
          (R.HART_ID.addr 3 0, 0x1234), (R.HART_DEVID.addr 3 0, 0xabcdef), (R.HART_Z_CFG.addr 3 0, 0x808),
          (R.HART_CFG.addr 40 0, 0x900007d0), (R.HART_STATUS.addr 40 0, 0x20000000), (R.HART_ID.addr 40 0, 0x1234),
          (R.HART_DEVID.addr 40 0, 0xabcdef), (R.HART_Z_CFG.addr 40 0, 0x808)], time.ticking := true,
      tills := [(48, {Till.init with wr := 1 }), (50, {Till.init with wr := 5, rd := 3, rel := 2, mark := 2, reserved := 1 })],
      hart := [(0, { HartCh.init with
              cur := some .more, sent := [0x82, 0x92, 0x34, 0xab, 0xcd, 0xef, 0x30, 0, 0x9d], measure := true, known := true,
              rebase2200 := true }), (3, { HartCh.init with
              cur := some .more, sent := [0x82, 0x92, 0x34, 0xab, 0xcd, 0xef, 0x30, 0, 0x9d], measure := true, known := true,
              rebase2200 := true }), (40, { HartCh.init with
              cur := some .more, sent := [0x82, 0x92, 0x34, 0xab, 0xcd, 0xef, 0x30, 0, 0x9d], measure := true, known := true,
              rebase2200 := true })] }

def st71 : State :=
    { State.reset with
      tick := 2000, phase := .running,
      regs := [(R.TILL_CFG.addr 3 0, 0x500006), (R.TILL_CFG.addr 3 2, 0x5006), (R.ACH_OWNER.addr 0 0, 3),
          (R.ACH_OWNER.addr 3 0, 3), (R.ACH_OWNER.addr 40 0, 3), (R.HART_CFG.addr 0 0, 0x900007d0),
          (R.HART_STATUS.addr 0 0, 0x20000000), (R.HART_ID.addr 0 0, 0x1234), (R.HART_DEVID.addr 0 0, 0xabcdef),
          (R.HART_Z_CFG.addr 0 0, 0x808), (R.HART_CFG.addr 3 0, 0x900007d0), (R.HART_STATUS.addr 3 0, 0x20000000),
          (R.HART_ID.addr 3 0, 0x1234), (R.HART_DEVID.addr 3 0, 0xabcdef), (R.HART_Z_CFG.addr 3 0, 0x808),
          (R.HART_CFG.addr 40 0, 0x900007d0), (R.HART_STATUS.addr 40 0, 0x20000000), (R.HART_ID.addr 40 0, 0x1234),
          (R.HART_DEVID.addr 40 0, 0xabcdef), (R.HART_Z_CFG.addr 40 0, 0x808)], time.ticking := true,
      tills := [(48, {Till.init with wr := 1 }), (50, {Till.init with wr := 5, rd := 3, rel := 2, mark := 2, reserved := 1 })],
      hart := [(0, { HartCh.init with
              cur := some .pass, queue := [{account := 3, id := 8, command := 300, data := [4] }],
              sent := [0x82, 0x92, 0x34, 0xab, 0xcd, 0xef, 0x1f, 3, 1, 0x2c, 4, 0x98], busy := true, known := true }),
          (3, { HartCh.init with
              cur := some .pass, queue := [{account := 3, id := 8, command := 300, data := [4] }],
              sent := [0x82, 0x92, 0x34, 0xab, 0xcd, 0xef, 0x1f, 3, 1, 0x2c, 4, 0x98], busy := true, known := true }),
          (40, { HartCh.init with
              cur := some .pass, queue := [{account := 3, id := 8, command := 300, data := [4] }],
              sent := [0x82, 0x92, 0x34, 0xab, 0xcd, 0xef, 0x1f, 3, 1, 0x2c, 4, 0x98], busy := true, known := true })] }

def st72 : State :=
    { State.reset with
      tick := 2000, phase := .running,
      regs := [(R.TILL_CFG.addr 3 0, 0x500006), (R.TILL_CFG.addr 3 2, 0x5006), (R.ACH_OWNER.addr 0 0, 3),
          (R.ACH_OWNER.addr 3 0, 3), (R.ACH_OWNER.addr 40 0, 3), (R.HART_CFG.addr 0 0, 0x900007d0),
          (R.HART_STATUS.addr 0 0, 0x30000000), (R.HART_ID.addr 0 0, 0x1234), (R.HART_DEVID.addr 0 0, 0xabcdef),
          (R.HART_Z_CFG.addr 0 0, 0x808), (R.HART_CFG.addr 3 0, 0x900007d0), (R.HART_STATUS.addr 3 0, 0x30000000),
          (R.HART_ID.addr 3 0, 0x1234), (R.HART_DEVID.addr 3 0, 0xabcdef), (R.HART_Z_CFG.addr 3 0, 0x808),
          (R.HART_CFG.addr 40 0, 0x900007d0), (R.HART_STATUS.addr 40 0, 0x30000000), (R.HART_ID.addr 40 0, 0x1234),
          (R.HART_DEVID.addr 40 0, 0xabcdef), (R.HART_Z_CFG.addr 40 0, 0x808)], time.ticking := true,
      tills := [(48, {Till.init with wr := 1 }), (50, {Till.init with wr := 5, rd := 3, rel := 2, mark := 2, reserved := 1 })],
      hart := [(0, {HartCh.init with sent := [2, 0x80, 3, 0, 0x81] }), (3, {HartCh.init with sent := [2, 0x80, 3, 0, 0x81] }),
          (40, {HartCh.init with sent := [2, 0x80, 3, 0, 0x81] })] }

def st73 : State :=
    { State.reset with
      tick := 2000, phase := .running,
      regs := [(R.TILL_CFG.addr 3 0, 0x500006), (R.TILL_CFG.addr 3 2, 0x5006), (R.ACH_OWNER.addr 0 0, 3),
          (R.ACH_OWNER.addr 3 0, 3), (R.ACH_OWNER.addr 40 0, 3), (R.HART_CFG.addr 0 0, 0x900007d0),
          (R.HART_STATUS.addr 0 0, 0x40000000), (R.HART_ID.addr 0 0, 0x1234), (R.HART_DEVID.addr 0 0, 0xabcdef),
          (R.HART_Z_CFG.addr 0 0, 0x808), (R.HART_CFG.addr 3 0, 0x900007d0), (R.HART_STATUS.addr 3 0, 0x40000000),
          (R.HART_ID.addr 3 0, 0x1234), (R.HART_DEVID.addr 3 0, 0xabcdef), (R.HART_Z_CFG.addr 3 0, 0x808),
          (R.HART_CFG.addr 40 0, 0x900007d0), (R.HART_STATUS.addr 40 0, 0x40000000), (R.HART_ID.addr 40 0, 0x1234),
          (R.HART_DEVID.addr 40 0, 0xabcdef), (R.HART_Z_CFG.addr 40 0, 0x808)], time.ticking := true,
      tills := [(48, {Till.init with wr := 1 }), (50, {Till.init with wr := 5, rd := 3, rel := 2, mark := 2, reserved := 1 })],
      hart := [(0, {HartCh.init with sent := [2, 0x80, 3, 0, 0x81] }), (3, {HartCh.init with sent := [2, 0x80, 3, 0, 0x81] }),
          (40, {HartCh.init with sent := [2, 0x80, 3, 0, 0x81] })] }

def st74 : State :=
    { State.reset with
      tick := 2000, phase := .running,
      regs := [(R.TILL_CFG.addr 3 0, 0x500006), (R.TILL_CFG.addr 3 2, 0x5006), (R.ACH_OWNER.addr 0 0, 3),
          (R.ACH_OWNER.addr 3 0, 3), (R.ACH_OWNER.addr 40 0, 3), (R.HART_CFG.addr 0 0, 0x900007d0),
          (R.HART_STATUS.addr 0 0, 0x20000000), (R.HART_Z_CFG.addr 0 0, 0x808), (R.HART_CFG.addr 3 0, 0x900007d0),
          (R.HART_STATUS.addr 3 0, 0x20000000), (R.HART_Z_CFG.addr 3 0, 0x808), (R.HART_CFG.addr 40 0, 0x900007d0),
          (R.HART_STATUS.addr 40 0, 0x20000000), (R.HART_Z_CFG.addr 40 0, 0x808)], time.ticking := true,
      tills := [(48, {Till.init with wr := 2 }), (50, {Till.init with wr := 5, rd := 3, rel := 2, mark := 2 })],
      tillMem := [(3145728, 0x1012c02000003), (3145729, 0x50607)] }

def st75 : State :=
    { State.reset with
      tick := 2000, phase := .running,
      regs := [(R.TILL_CFG.addr 3 0, 0x500006), (R.TILL_CFG.addr 3 2, 0x5006), (R.ACH_OWNER.addr 0 0, 3),
          (R.ACH_OWNER.addr 3 0, 2), (R.ACH_OWNER.addr 40 0, 3), (R.HART_CFG.addr 0 0, 0x900007d0),
          (R.HART_STATUS.addr 0 0, 0x20000000), (R.HART_Z_CFG.addr 0 0, 0x808), (R.HART_CFG.addr 3 0, 0x900007d0),
          (R.HART_STATUS.addr 3 0, 0x20000000), (R.HART_Z_CFG.addr 3 0, 0x808), (R.HART_CFG.addr 40 0, 0x900007d0),
          (R.HART_STATUS.addr 40 0, 0x20000000), (R.HART_Z_CFG.addr 40 0, 0x808)], time.ticking := true,
      tills := [(48, {Till.init with wr := 2 }), (50, {Till.init with wr := 5, rd := 3, rel := 2, mark := 2 })],
      tillMem := [(3145728, 0x1000f03000003), (3145729, 0x50607)] }

def st76 : State :=
    { State.reset with
      tick := 2000, phase := .running,
      regs := [(R.TILL_CFG.addr 3 0, 0x500006), (R.TILL_CFG.addr 3 2, 0x5006), (R.ACH_OWNER.addr 0 0, 3),
          (R.ACH_OWNER.addr 3 0, 3), (R.ACH_OWNER.addr 40 0, 3), (R.HART_CFG.addr 0 0, 0x900007d0),
          (R.HART_STATUS.addr 0 0, 0x20000000), (R.HART_ID.addr 0 0, 0x1234), (R.HART_DEVID.addr 0 0, 0xabcdef),
          (R.HART_Z_CFG.addr 0 0, 0x808), (R.HART_CFG.addr 3 0, 0x900007d0), (R.HART_STATUS.addr 3 0, 0x20000000),
          (R.HART_ID.addr 3 0, 0x1234), (R.HART_DEVID.addr 3 0, 0xabcdef), (R.HART_Z_CFG.addr 3 0, 0x808),
          (R.HART_CFG.addr 40 0, 0x900007d0), (R.HART_STATUS.addr 40 0, 0x20000000), (R.HART_ID.addr 40 0, 0x1234),
          (R.HART_DEVID.addr 40 0, 0xabcdef), (R.HART_Z_CFG.addr 40 0, 0x808)], time.ticking := true,
      tills := [(48, {Till.init with wr := 1 }), (50, {Till.init with wr := 5, rd := 3, rel := 2, mark := 2, reserved := 1 })],
      hart := [(0, { HartCh.init with
              queue := [{account := 3, id := 7, command := 15, data := [] },
                  {account := 3, id := 7, command := 15, data := [] }, {account := 3, id := 7, command := 15, data := [] },
                  {account := 3, id := 7, command := 15, data := [] }, {account := 3, id := 7, command := 15, data := [] },
                  {account := 3, id := 7, command := 15, data := [] }, {account := 3, id := 7, command := 15, data := [] },
                  {account := 3, id := 7, command := 15, data := [] }], sent := [2, 0x80, 3, 0, 0x81] }),
          (3, { HartCh.init with
              queue := [{account := 3, id := 7, command := 15, data := [] },
                  {account := 3, id := 7, command := 15, data := [] }, {account := 3, id := 7, command := 15, data := [] },
                  {account := 3, id := 7, command := 15, data := [] }, {account := 3, id := 7, command := 15, data := [] },
                  {account := 3, id := 7, command := 15, data := [] }, {account := 3, id := 7, command := 15, data := [] },
                  {account := 3, id := 7, command := 15, data := [] }], sent := [2, 0x80, 3, 0, 0x81] }),
          (40, { HartCh.init with
              queue := [{account := 3, id := 7, command := 15, data := [] },
                  {account := 3, id := 7, command := 15, data := [] }, {account := 3, id := 7, command := 15, data := [] },
                  {account := 3, id := 7, command := 15, data := [] }, {account := 3, id := 7, command := 15, data := [] },
                  {account := 3, id := 7, command := 15, data := [] }, {account := 3, id := 7, command := 15, data := [] },
                  {account := 3, id := 7, command := 15, data := [] }], sent := [2, 0x80, 3, 0, 0x81] })] }

def st77 : State :=
    { State.reset with
      tick := 2000, phase := .running,
      regs := [(R.FS_STATUS.addr 0 0, 0xa000), (R.DCH_CFG.addr 0 0, 0x3000000), (R.DCH_CFG.addr 1 0, 0x3000000),
          (R.DCH_CFG.addr 2 0, 0x3000000), (R.DCH_CFG.addr 3 0, 0x3000000), (R.DCH_CFG.addr 32 0, 0x3000000),
          (R.DCH_CFG.addr 33 0, 0x3000000), (R.SL_STATUS.addr 6 0, 0x40000000), (R.SL_STATUS.addr 7 0, 0x40000000)],
      time.ticking := true, links := [(6, {Link.init with obeys := true }), (7, {Link.init with obeys := true })] }

def st78 : State :=
    { State.reset with
      tick := 2000, phase := .running,
      regs := [(R.FS_STATUS.addr 0 0, 0xa000), (R.DCH_CFG.addr 0 0, 0x13000000), (R.DCH_CFG.addr 1 0, 0x13000000),
          (R.DCH_CFG.addr 2 0, 0x13000000), (R.DCH_CFG.addr 3 0, 0x13000000), (R.DCH_CFG.addr 32 0, 0x13000000),
          (R.DCH_CFG.addr 33 0, 0x13000000), (R.SL_STATUS.addr 6 0, 0x40000000), (R.SL_STATUS.addr 7 0, 0x40000000)],
      time.ticking := true, links := [(6, {Link.init with obeys := true }), (7, {Link.init with obeys := true })] }

def st79 : State :=
    { State.reset with
      tick := 2000, phase := .running,
      regs := [(R.FS_STATUS.addr 0 0, 0xa000), (R.DCH_CFG.addr 0 0, 0x53000000), (R.DCH_CFG.addr 1 0, 0x53000000),
          (R.DCH_CFG.addr 2 0, 0x53000000), (R.DCH_CFG.addr 3 0, 0x53000000), (R.DCH_CFG.addr 32 0, 0x53000000),
          (R.DCH_CFG.addr 33 0, 0x53000000), (R.SL_STATUS.addr 6 0, 0x40000000), (R.SL_STATUS.addr 7 0, 0x40000000)],
      time.ticking := true, links := [(6, {Link.init with obeys := true }), (7, {Link.init with obeys := true })] }

def st80 : State :=
    { State.reset with
      tick := 2000, phase := .running,
      regs := [(R.FS_STATUS.addr 0 0, 0xa000), (R.DCH_CFG.addr 0 0, 0x63000000), (R.DCH_CFG.addr 1 0, 0x63000000),
          (R.DCH_CFG.addr 2 0, 0x63000000), (R.DCH_CFG.addr 3 0, 0x63000000), (R.DCH_CFG.addr 32 0, 0x63000000),
          (R.DCH_CFG.addr 33 0, 0x63000000), (R.SL_STATUS.addr 6 0, 0x40000000), (R.SL_STATUS.addr 7 0, 0x40000000)],
      time.ticking := true, links := [(6, {Link.init with obeys := true }), (7, {Link.init with obeys := true })] }

def st81 : State :=
    { State.reset with
      tick := 2000, phase := .running,
      regs := [(R.FS_STATUS.addr 0 0, 0xa000), (R.DCH_CFG.addr 0 0, 0x33000000), (R.DCH_CFG.addr 1 0, 0x33000000),
          (R.DCH_CFG.addr 2 0, 0x33000000), (R.DCH_CFG.addr 3 0, 0x33000000), (R.DCH_CFG.addr 32 0, 0x33000000),
          (R.DCH_CFG.addr 33 0, 0x33000000), (R.SL_STATUS.addr 6 0, 0x40000000), (R.SL_STATUS.addr 7 0, 0x40000000)],
      time.ticking := true, links := [(6, {Link.init with obeys := true }), (7, {Link.init with obeys := true })] }

def st82 : State :=
    { State.reset with
      tick := 2000, phase := .running,
      regs := [(R.FS_STATUS.addr 0 0, 0xa000), (R.DOMAIN_ON.addr 0 0, 0xffffffff), (R.DOMAIN_ON.addr 0 1, 0xffffffff),
          (R.DCH_CFG.addr 0 0, 0x3000000), (R.DCH_CFG.addr 1 0, 0x3000000), (R.DCH_CFG.addr 2 0, 0x3000000),
          (R.DCH_CFG.addr 3 0, 0x3000000), (R.DCH_CFG.addr 32 0, 0x3000000), (R.DCH_CFG.addr 33 0, 0x3000000),
          (R.SL_STATUS.addr 6 0, 0x40000000), (R.SL_STATUS.addr 7 0, 0x40000000)], time.ticking := true,
      dch := [(0, {DCh.init with level := some false, cmd := true, conds := 0x108, setting := true }),
          (1, {DCh.init with level := some false, cmd := true, conds := 0x108, setting := true }),
          (2, {DCh.init with level := some false, cmd := true, conds := 0x108, setting := true }),
          (3, {DCh.init with level := some false, cmd := true, conds := 0x108, setting := true }),
          (32, {DCh.init with level := some false, cmd := true, conds := 0x108, setting := true }),
          (33, {DCh.init with level := some false, cmd := true, conds := 0x108, setting := true })],
      links := [(6, {Link.init with obeys := true }), (7, {Link.init with obeys := true })] }

def st83 : State :=
    { State.reset with
      tick := 2000, phase := .running,
      regs := [(R.FS_STATUS.addr 0 0, 0xa000), (R.DS_LOAD.addr 0 0, 0xc0000000), (R.DCH_CFG.addr 0 0, 0x3000000),
          (R.DCH_CFG.addr 1 0, 0x3000000), (R.DCH_CFG.addr 2 0, 0x3000000), (R.DCH_CFG.addr 3 0, 0x3000000),
          (R.DCH_CFG.addr 32 0, 0x3000000), (R.DCH_CFG.addr 33 0, 0x3000000), (R.SL_STATUS.addr 6 0, 0x40000000),
          (R.SL_STATUS.addr 7 0, 0x40000000)], time.ticking := true, dslice := [(1, {DSlice.init with firstTrip := some 5 })],
      links := [(6, {Link.init with obeys := true }), (7, {Link.init with obeys := true })] }

def st84 : State :=
    { State.reset with
      tick := 2000, phase := .running,
      regs := [(R.FS_STATUS.addr 0 0, 0xa000), (R.DOMAIN_ON.addr 0 0, 0xffffffff), (R.DOMAIN_ON.addr 0 1, 0xffffffff),
          (R.DS_LOAD.addr 0 0, 0x40000000), (R.DCH_CFG.addr 0 0, 0x3000000), (R.DCH_CFG.addr 1 0, 0x3000000),
          (R.DCH_CFG.addr 2 0, 0x3000000), (R.DCH_CFG.addr 3 0, 0x3000000), (R.DCH_CFG.addr 32 0, 0x3000000),
          (R.DCH_CFG.addr 33 0, 0x3000000), (R.SL_STATUS.addr 6 0, 0x40000000), (R.SL_STATUS.addr 7 0, 0x40000000)],
      time.ticking := true,
      dch := [(0, {DCh.init with level := some false, cmd := true, conds := 0x40 }),
          (1, {DCh.init with level := some false, cmd := true, conds := 0x40 }),
          (2, {DCh.init with level := some false, cmd := true, conds := 0x40 }),
          (3, {DCh.init with level := some false, cmd := true, conds := 0x40 }),
          (32, {DCh.init with level := some false, cmd := true, conds := 0x40 }),
          (33, {DCh.init with level := some false, cmd := true, conds := 0x40 })],
      links := [(6, {Link.init with obeys := true }), (7, {Link.init with obeys := true })] }

def st85 : State :=
    { State.reset with
      tick := 2000, phase := .running,
      regs := [(R.DOMAIN_ON.addr 0 0, 0xffffffff), (R.DOMAIN_ON.addr 0 1, 0xffffffff), (R.ACH_CFG.addr 1 0, 0x60000000),
          (R.ACH_CFG.addr 2 0, 0x70000000), (R.DCH_CFG.addr 32 0, 0x12000000), (R.DCH_CFG.addr 33 0, 0x32000000)],
      time.ticking := true }

def st86 : State :=
    { State.reset with
      tick := 2000, phase := .running,
      regs := [(R.DOMAIN_ON.addr 0 0, 0xffffffff), (R.DOMAIN_ON.addr 0 1, 0xffffffff), (R.ACH_CFG.addr 1 0, 0x60000000),
          (R.ACH_CFG.addr 2 0, 0x70000000), (R.DCH_CFG.addr 32 0, 0x12000000), (R.DCH_CFG.addr 33 0, 0x32000000),
          (R.SL_STATUS.addr 0 0, 0x10000000), (R.SL_STATUS.addr 7 0, 0x10000000)], time.ticking := true }

def st87 : State :=
    { State.reset with
      tick := 2000, phase := .running,
      regs := [(R.DOMAIN_ON.addr 0 0, 0xffffffff), (R.DOMAIN_ON.addr 0 1, 0xffffffff), (R.ACH_CFG.addr 1 0, 0x60000000),
          (R.ACH_CFG.addr 2 0, 0x70000000), (R.DCH_CFG.addr 32 0, 0x12000000), (R.DCH_CFG.addr 33 0, 0x32000000),
          (R.SL_STATUS.addr 0 0, 0x10000000), (R.SL_STATUS.addr 7 0, 0x10000000)], time.ticking := true,
      links := [(0, { Link.init with
              down := {Rx.init with locked := true, pos := 625, missing := 3 },
              up := {Rx.init with locked := true, pos := 625, missing := 3 }, heard := 3,
              sent := [{header := 0, payload := 4294906420 }, {header := 0, payload := 1 },
                  {header := 4229, payload := 65535 }, {header := 8192, payload := 4294906420 },
                  {header := 8192, payload := 1 }, {header := 12421, payload := 65535 },
                  {header := 32768, payload := 4294906420 }, {header := 32768, payload := 1 },
                  {header := 36997, payload := 65535 }, {header := 16384, payload := 4294906420 },
                  {header := 16384, payload := 1 }, {header := 20613, payload := 65535 }], obeys := true }),
          (7, { Link.init with
              down := {Rx.init with locked := true, pos := 625, missing := 3 },
              up := {Rx.init with locked := true, pos := 625, missing := 3 }, heard := 3,
              sent := [{header := 0, payload := 4294906420 }, {header := 0, payload := 1 },
                  {header := 4229, payload := 65535 }, {header := 8192, payload := 4294906420 },
                  {header := 8192, payload := 1 }, {header := 12421, payload := 65535 },
                  {header := 32768, payload := 4294906420 }, {header := 32768, payload := 1 },
                  {header := 36997, payload := 65535 }, {header := 16384, payload := 4294906420 },
                  {header := 16384, payload := 1 }, {header := 20613, payload := 65535 }], obeys := true })] }

def st88 : State :=
    { State.reset with
      tick := 2000, phase := .running,
      regs := [(R.DOMAIN_ON.addr 0 0, 0xffffffff), (R.DOMAIN_ON.addr 0 1, 0xffffffff), (R.ACH_CFG.addr 1 0, 0x60000000),
          (R.ACH_CFG.addr 2 0, 0x70000000), (R.DCH_CFG.addr 32 0, 0x12000000), (R.DCH_CFG.addr 33 0, 0x32000000),
          (R.SL_STATUS.addr 0 0, 0x10000000), (R.SL_STATUS.addr 7 0, 0x10000000)], time.ticking := true,
      links := [(0, { Link.init with
              down := {Rx.init with locked := true, pos := 625 }, up := {Rx.init with locked := true, pos := 625 },
              hellos := 1, heard := 2,
              sent := [{header := 0, payload := 4294906420 }, {header := 0, payload := 1 },
                  {header := 4229, payload := 65535 }, {header := 8192, payload := 4294906420 },
                  {header := 8192, payload := 1 }, {header := 12421, payload := 65535 },
                  {header := 32768, payload := 4294906420 }, {header := 32768, payload := 1 },
                  {header := 36997, payload := 65535 }, {header := 16384, payload := 4294906420 },
                  {header := 16384, payload := 1 }, {header := 20613, payload := 65535 }], obeys := true }),
          (7, { Link.init with
              down := {Rx.init with locked := true, pos := 625 }, up := {Rx.init with locked := true, pos := 625 },
              hellos := 1, heard := 2,
              sent := [{header := 0, payload := 4294906420 }, {header := 0, payload := 1 },
                  {header := 4229, payload := 65535 }, {header := 8192, payload := 4294906420 },
                  {header := 8192, payload := 1 }, {header := 12421, payload := 65535 },
                  {header := 32768, payload := 4294906420 }, {header := 32768, payload := 1 },
                  {header := 36997, payload := 65535 }, {header := 16384, payload := 4294906420 },
                  {header := 16384, payload := 1 }, {header := 20613, payload := 65535 }], obeys := true })] }

def st89 : State :=
    { State.reset with
      tick := 2000, phase := .running,
      regs := [(R.DOMAIN_ON.addr 0 0, 0xffffffff), (R.DOMAIN_ON.addr 0 1, 0xffffffff), (R.ACH_CFG.addr 1 0, 0x60000000),
          (R.ACH_CFG.addr 2 0, 0x70000000), (R.DCH_CFG.addr 32 0, 0x12000000), (R.DCH_CFG.addr 33 0, 0x32000000),
          (R.SL_STATUS.addr 0 0, 0x20000000), (R.SL_STATUS.addr 7 0, 0x20000000)], time.ticking := true,
      links := [(0, { Link.init with
              down := {Rx.init with locked := true, pos := 625 }, up := {Rx.init with locked := true, pos := 625 },
              hellos := 1, heard := 2,
              sent := [{header := 0, payload := 4294906420 }, {header := 0, payload := 1 },
                  {header := 4229, payload := 65535 }, {header := 8192, payload := 4294906420 },
                  {header := 8192, payload := 1 }, {header := 12421, payload := 65535 },
                  {header := 32768, payload := 4294906420 }, {header := 32768, payload := 1 },
                  {header := 36997, payload := 65535 }, {header := 16384, payload := 4294906420 },
                  {header := 16384, payload := 1 }, {header := 20613, payload := 65535 }], obeys := true }),
          (7, { Link.init with
              down := {Rx.init with locked := true, pos := 625 }, up := {Rx.init with locked := true, pos := 625 },
              hellos := 1, heard := 2,
              sent := [{header := 0, payload := 4294906420 }, {header := 0, payload := 1 },
                  {header := 4229, payload := 65535 }, {header := 8192, payload := 4294906420 },
                  {header := 8192, payload := 1 }, {header := 12421, payload := 65535 },
                  {header := 32768, payload := 4294906420 }, {header := 32768, payload := 1 },
                  {header := 36997, payload := 65535 }, {header := 16384, payload := 4294906420 },
                  {header := 16384, payload := 1 }, {header := 20613, payload := 65535 }], obeys := true })] }

def st90 : State :=
    { State.reset with
      tick := 2000, phase := .running,
      regs := [(R.DOMAIN_ON.addr 0 0, 0xffffffff), (R.DOMAIN_ON.addr 0 1, 0xffffffff), (R.ACH_CFG.addr 1 0, 0x60000000),
          (R.ACH_CFG.addr 2 0, 0x70000000), (R.DCH_CFG.addr 32 0, 0x12000000), (R.DCH_CFG.addr 33 0, 0x32000000),
          (R.SL_STATUS.addr 0 0, 0x30000000), (R.SL_STATUS.addr 7 0, 0x30000000)], time.ticking := true,
      links := [(0, { Link.init with
              down := {Rx.init with locked := true, pos := 625 }, up := {Rx.init with locked := true, pos := 625 },
              hellos := 1, heard := 2,
              sent := [{header := 0, payload := 4294906420 }, {header := 0, payload := 1 },
                  {header := 4229, payload := 65535 }, {header := 8192, payload := 4294906420 },
                  {header := 8192, payload := 1 }, {header := 12421, payload := 65535 },
                  {header := 32768, payload := 4294906420 }, {header := 32768, payload := 1 },
                  {header := 36997, payload := 65535 }, {header := 16384, payload := 4294906420 },
                  {header := 16384, payload := 1 }, {header := 20613, payload := 65535 }], obeys := true }),
          (7, { Link.init with
              down := {Rx.init with locked := true, pos := 625 }, up := {Rx.init with locked := true, pos := 625 },
              hellos := 1, heard := 2,
              sent := [{header := 0, payload := 4294906420 }, {header := 0, payload := 1 },
                  {header := 4229, payload := 65535 }, {header := 8192, payload := 4294906420 },
                  {header := 8192, payload := 1 }, {header := 12421, payload := 65535 },
                  {header := 32768, payload := 4294906420 }, {header := 32768, payload := 1 },
                  {header := 36997, payload := 65535 }, {header := 16384, payload := 4294906420 },
                  {header := 16384, payload := 1 }, {header := 20613, payload := 65535 }], obeys := true })] }

def st91 : State :=
    { State.reset with
      tick := 2000, phase := .running,
      regs := [(R.DOMAIN_ON.addr 0 0, 0xffffffff), (R.DOMAIN_ON.addr 0 1, 0xffffffff), (R.ACH_CFG.addr 1 0, 0x60000000),
          (R.ACH_CFG.addr 2 0, 0x70000000), (R.DCH_CFG.addr 32 0, 0x12000000), (R.DCH_CFG.addr 33 0, 0x32000000),
          (R.SL_STATUS.addr 0 0, 0x40000000), (R.SL_STATUS.addr 7 0, 0x40000000)], time.ticking := true,
      links := [(0, { Link.init with
              down := {Rx.init with locked := true, pos := 625 }, up := {Rx.init with locked := true, pos := 625 },
              hellos := 1, heard := 2,
              sent := [{header := 0, payload := 4294906420 }, {header := 0, payload := 1 },
                  {header := 4229, payload := 65535 }, {header := 8192, payload := 4294906420 },
                  {header := 8192, payload := 1 }, {header := 12421, payload := 65535 },
                  {header := 32768, payload := 4294906420 }, {header := 32768, payload := 1 },
                  {header := 36997, payload := 65535 }, {header := 16384, payload := 4294906420 },
                  {header := 16384, payload := 1 }, {header := 20613, payload := 65535 }], obeys := true }),
          (7, { Link.init with
              down := {Rx.init with locked := true, pos := 625 }, up := {Rx.init with locked := true, pos := 625 },
              hellos := 1, heard := 2,
              sent := [{header := 0, payload := 4294906420 }, {header := 0, payload := 1 },
                  {header := 4229, payload := 65535 }, {header := 8192, payload := 4294906420 },
                  {header := 8192, payload := 1 }, {header := 12421, payload := 65535 },
                  {header := 32768, payload := 4294906420 }, {header := 32768, payload := 1 },
                  {header := 36997, payload := 65535 }, {header := 16384, payload := 4294906420 },
                  {header := 16384, payload := 1 }, {header := 20613, payload := 65535 }], obeys := true })] }

def st92 : State :=
    { State.reset with
      tick := 2000000, phase := .running,
      regs := [(R.PORT_PTP.addr 0 0, 0x8000000), (R.PORT_PTP.addr 1 0, 0x8000000), (R.PORT_STATUS.addr 0 0, 0x80000000),
          (R.PORT_STATUS.addr 1 0, 0x80000000), (R.PORT_STATUS.addr 2 0, 0x80000000)], time.ticking := true }

def st93 : State :=
    { State.reset with
      tick := 9000000, phase := .running,
      regs := [(R.PORT_PTP.addr 0 0, 0x8000000), (R.PORT_PTP.addr 1 0, 0x8000000), (R.PORT_STATUS.addr 0 0, 0x80000000),
          (R.PORT_STATUS.addr 1 0, 0x80000000), (R.PORT_STATUS.addr 2 0, 0x80000000)], time.ticking := true,
      time.bases := [(0, {Base.init with off := 1000, stepped := true, good := 2, gm := some (99, 4) }),
          (1, {Base.init with off := 1060, stepped := true, good := 2, gm := some (99, 4) })] }

def st94 : State :=
    { State.reset with
      tick := 2000000, phase := .running,
      regs := [(R.PORT_PTP.addr 0 0, 0x8000000), (R.PORT_PTP.addr 1 0, 0x8000000), (R.PORT_STATUS.addr 0 0, 0x80000000),
          (R.PORT_STATUS.addr 1 0, 0x80000000), (R.PORT_STATUS.addr 2 0, 0x80000000)], time.ticking := true,
      time.bases := [(0, { Base.init with
              off := 1000, lockedAt := some 5, gm := some (99, 0),
              foreign := [{gm := 99, port := 0, qual := [1, 2, 3, 4, 5], steps := 1, n := 3, at_ := 1000 }] }),
          (1, { Base.init with
              off := 1060, lockedAt := some 5, gm := some (99, 0),
              foreign := [{gm := 99, port := 0, qual := [1, 2, 3, 4, 5], steps := 1, n := 3, at_ := 1000 }] })] }

def st95 : State :=
    { State.reset with
      tick := 9000000, phase := .running,
      regs := [(R.PORT_PTP.addr 0 0, 0x8000000), (R.PORT_PTP.addr 1 0, 0x8000000), (R.PORT_STATUS.addr 0 0, 0x80000000),
          (R.PORT_STATUS.addr 1 0, 0x80000000), (R.PORT_STATUS.addr 2 0, 0x80000000)], time.ticking := true,
      time.bases := [(0, {Base.init with off := 1000, stepped := true, good := 7, gm := some (99, 0) }),
          (1, {Base.init with off := 1060, stepped := true, good := 7, gm := some (99, 0) })] }

def st96 : State :=
    { State.reset with
      tick := 2000000, phase := .running,
      regs := [(R.PORT_PTP.addr 0 0, 0x8000000), (R.PORT_PTP.addr 1 0, 0x8000000), (R.PORT_STATUS.addr 0 0, 0x80000000),
          (R.PORT_STATUS.addr 1 0, 0x80000000), (R.PORT_STATUS.addr 2 0, 0x80000000)], time.ticking := true,
      time.ports := [(0, { PtpPort.init with
              delays := [5], timeouts := 2, accepted := 2, waiting := some 3, seq := 9, askedAt := 5 }),
          (1, {PtpPort.init with waiting := some 0, seq := 65535, askedAt := 1950000 })] }

def st97 : State :=
    { State.reset with
      tick := 2000000, phase := .running,
      regs := [(R.TIME_STATUS.addr 0 0, 0x2a000000), (R.TIME_CFG.addr 0 0, 0x10001), (R.DOM_STATUS.addr 0 0, 0x20000000),
          (R.DOM_STATUS.addr 1 0, 0x20000000), (R.PORT_PTP.addr 0 0, 0x8000000), (R.PORT_PTP.addr 1 0, 0x8000000),
          (R.PORT_STATUS.addr 0 0, 0x80000000), (R.PORT_STATUS.addr 1 0, 0x80000000), (R.PORT_STATUS.addr 2 0, 0x80000000)],
      time.ticking := true, time.tsOff := 1030, time.following := true,
      time.bases := [(0, { Base.init with
              off := 1000, lockedAt := some 5, gm := some (99, 0),
              foreign := [{gm := 99, port := 0, qual := [1, 2, 3, 4, 5], steps := 1, n := 3, at_ := 1000 }] }),
          (1, { Base.init with
              off := 1060, lockedAt := some 5, gm := some (99, 0),
              foreign := [{gm := 99, port := 0, qual := [1, 2, 3, 4, 5], steps := 1, n := 3, at_ := 1000 }] })] }

def st98 : State :=
    { State.reset with
      tick := 2000000, phase := .running,
      regs := [(R.TIME_STATUS.addr 0 0, 0x3e000000), (R.TIME_CFG.addr 0 0, 0x10001), (R.DOM_STATUS.addr 0 0, 0x20000000),
          (R.DOM_STATUS.addr 1 0, 0x20000000), (R.PORT_PTP.addr 0 0, 0x8000000), (R.PORT_PTP.addr 1 0, 0x8000000),
          (R.PORT_STATUS.addr 0 0, 0x80000000), (R.PORT_STATUS.addr 1 0, 0x80000000), (R.PORT_STATUS.addr 2 0, 0x80000000)],
      time.ticking := true, time.tsOff := 1030, time.following := true, time.holdTick := some 3,
      time.bases := [(0, {Base.init with off := 1000, stepped := true, good := 7, gm := some (99, 0) }),
          (1, {Base.init with off := 1060, stepped := true, good := 7, gm := some (99, 0) })] }

def st99 : State :=
    { State.reset with
      tick := 2000000, phase := .running,
      regs := [(R.TIME_STATUS.addr 0 0, 0x2a000000), (R.TIME_CFG.addr 0 0, 0x10001), (R.DOM_STATUS.addr 0 0, 0x20000000),
          (R.DOM_STATUS.addr 1 0, 0x20000000), (R.PORT_PTP.addr 0 0, 0x8000000), (R.PORT_PTP.addr 1 0, 0x8000000),
          (R.PORT_STATUS.addr 0 0, 0x80000000), (R.PORT_STATUS.addr 1 0, 0x80000000), (R.PORT_STATUS.addr 2 0, 0x80000000)],
      time.ticking := true, time.tsOff := 1030, time.following := true,
      time.bases := [(0, {Base.init with off := 1000, stepped := true, good := 7, gm := some (99, 0) }),
          (1, {Base.init with off := 1060, stepped := true, good := 7, gm := some (99, 0) })] }

def st100 : State :=
    { State.reset with
      tick := 2000000, phase := .running,
      regs := [(R.TIME_STATUS.addr 0 0, 0x3e000000), (R.TIME_CFG.addr 0 0, 0x10001), (R.PORT_PTP.addr 0 0, 0x8000000),
          (R.PORT_PTP.addr 1 0, 0x8000000), (R.PORT_STATUS.addr 0 0, 0x80000000), (R.PORT_STATUS.addr 1 0, 0x80000000),
          (R.PORT_STATUS.addr 2 0, 0x80000000)], time.ticking := true, time.tsOff := 9000, time.holdTick := some 3,
      time.bases := [(1, {Base.init with off := 60 })] }

def st101 : State :=
    { State.reset with
      tick := 2000000, phase := .running,
      regs := [(R.PORT_PTP.addr 0 0, 0x8000000), (R.PORT_PTP.addr 1 0, 0x8000000), (R.PORT_STATUS.addr 0 0, 0x80000000),
          (R.PORT_STATUS.addr 1 0, 0x80000000), (R.PORT_STATUS.addr 2 0, 0x80000000)], time.ticking := true,
      mgmt.sessions := [(0, {Session.init with opened := true }),
          (1, {Session.init with opened := true, held := [(201326632, some 7)] })] }

def st102 : State :=
    { State.reset with
      tick := 2000000, phase := .running,
      regs := [(R.TIME_STATUS.addr 0 0, 0x2e000000), (R.TIME_CFG.addr 0 0, 0x10001), (R.PORT_PTP.addr 0 0, 0x8000000),
          (R.PORT_PTP.addr 1 0, 0x8000000), (R.PORT_STATUS.addr 0 0, 0x80000000), (R.PORT_STATUS.addr 1 0, 0x80000000),
          (R.PORT_STATUS.addr 2 0, 0x80000000)], time.ticking := true,
      mgmt.sessions := [(0, {Session.init with opened := true }),
          (1, {Session.init with opened := true, held := [(201326632, some 7)] })] }

def st103 : State :=
    { State.reset with
      tick := 2000, phase := .running,
      regs := [(R.MODULE_ADDRESS.addr 0 0, 0x28), (R.DOMAIN_ON.addr 0 0, 0xffffffff), (R.DOMAIN_ON.addr 0 1, 0xffffffff),
          (R.ACCT_STATUS.addr 3 0, 2), (R.ACCT_QUOTA_1.addr 3 0, 4), (R.TILL_CFG.addr 3 0, 0x43003),
          (R.TILL_CFG.addr 3 2, 0x4004), (R.NET_BUDGET.addr 0 0, 4), (R.NET_PORTS.addr 0 0, 0xf),
          (R.PORT_STATUS.addr 0 0, 0xa0000000), (R.PORT_STATUS.addr 1 0, 0x30000000), (R.PORT_STATUS.addr 2 0, 0x30000000),
          (R.PORT_STATUS.addr 3 0, 0x30000000), (R.PUB_CFG.addr 5 0, 0x80800000), (R.PUB_PERIOD.addr 5 0, 0x3e8),
          (R.PUB_OWNER.addr 5 0, 3)], time.ticking := true }

def st104 : State :=
    { State.reset with
      tick := 2000, phase := .running,
      regs := [(R.MODULE_ADDRESS.addr 0 0, 0x28), (R.DOMAIN_ON.addr 0 0, 0xffffffff), (R.DOMAIN_ON.addr 0 1, 0xffffffff),
          (R.ACCT_QUOTA_1.addr 3 0, 4), (R.TILL_CFG.addr 3 0, 0x43003), (R.TILL_CFG.addr 3 2, 0x4004),
          (R.NET_BUDGET.addr 0 0, 4), (R.NET_PORTS.addr 0 0, 0xf), (R.PORT_STATUS.addr 0 0, 0xa0000000),
          (R.PORT_STATUS.addr 1 0, 0xa8000000), (R.PORT_STATUS.addr 2 0, 0xa0000000), (R.PORT_STATUS.addr 3 0, 0xa8000000),
          (R.PUB_CFG.addr 5 0, 0x80800000), (R.PUB_PERIOD.addr 5 0, 0x3e8), (R.PUB_OWNER.addr 5 0, 3)], time.ticking := true,
      net.peers := [(9, {NetPeer.init with state := 1, version := 1, inst := 77 })],
      net.members := [(9, some {last := 5, hops := 0, isEnd := true, exit := 40 })], net.seen := [(589829, 1900, 1)],
      net.pubIn := [(2309, some {inst := 77, seq := 1, seqNr := 5, planes := 0 })],
      net.queues := [(3, [{item := [0x4b400401400901, 7, 8], admitted := some 5 }])],
      net.tags := [(0, { Tag.init with
              st := 3, gen := 1, account := 3, peer := 9, inst := 77, item := [0x4b400401400901, 7, 8], deadline := 9000 }),
          (1, { Tag.init with
              st := 2, gen := 1, account := 3, peer := 9, inst := 77, item := [0x4b400401400901, 7, 8], deadline := 9000,
              busyAt := 9000 })],
      net.incoming := [{source := 9, inst := 77, handle := 9, account := 3, service := 4, replyMax := 5, closesAt := 4000 }] }

def st105 : State :=
    { State.reset with
      tick := 2000, phase := .running,
      regs := [(R.MODULE_ADDRESS.addr 0 0, 0x28), (R.DOMAIN_ON.addr 0 0, 0xffffffff), (R.DOMAIN_ON.addr 0 1, 0xffffffff),
          (R.ACCT_STATUS.addr 3 0, 2), (R.ACCT_QUOTA_1.addr 3 0, 4), (R.TILL_CFG.addr 3 0, 0x43003),
          (R.TILL_CFG.addr 3 2, 0x4004), (R.NET_BUDGET.addr 0 0, 4), (R.NET_PORTS.addr 0 0, 0xf),
          (R.PUB_CFG.addr 5 0, 0x80800000), (R.PUB_PERIOD.addr 5 0, 0x3e8), (R.PUB_OWNER.addr 5 0, 3)], time.ticking := true }

def st106 : State :=
    { State.reset with
      tick := 2000, phase := .running,
      regs := [(R.MODULE_ADDRESS.addr 0 0, 0x28), (R.DOMAIN_ON.addr 0 0, 0xffffffff), (R.DOMAIN_ON.addr 0 1, 0xffffffff),
          (R.ACCT_STATUS.addr 3 0, 2), (R.ACCT_QUOTA_1.addr 3 0, 4), (R.TILL_CFG.addr 3 0, 0x43003),
          (R.TILL_CFG.addr 3 2, 0x4004), (R.NET_BUDGET.addr 0 0, 4), (R.NET_PORTS.addr 0 0, 0xf),
          (R.PORT_STATUS.addr 0 0, 0xa0000000), (R.PORT_STATUS.addr 1 0, 0xa8000000), (R.PORT_STATUS.addr 2 0, 0xa0000000),
          (R.PORT_STATUS.addr 3 0, 0xa8000000), (R.PUB_CFG.addr 5 0, 0x80800000), (R.PUB_PERIOD.addr 5 0, 0x3e8),
          (R.PUB_OWNER.addr 5 0, 3)], time.ticking := true,
      tills := [(48, {Till.init with wr := 5, rd := 2, rel := 1, mark := 1 }),
          (50, {Till.init with wr := 9, rd := 4, rel := 4, mark := 4, reserved := 7 })],
      net.peers := [(9, {NetPeer.init with state := 2, version := 3, inst := 77 })],
      net.subs := [(7, 0x90000000b), (8, 0x90000000b)],
      net.queues := [(3, [{item := [0x4b400401400901, 7, 8], admitted := some 5 },
              {item := [0x4b400401400901, 7, 8], admitted := none }])],
      net.tags := [(1, { Tag.init with
              st := 1, gen := 1, account := 3, peer := 9, inst := 77, item := [0x4b400401400901, 7, 8], deadline := 9000 }),
          (2, { Tag.init with
              st := 2, gen := 1, account := 3, peer := 9, inst := 77, item := [0x4b400401400901, 7, 8], deadline := 9000 })] }

def st107 : State :=
    { State.reset with
      tick := 2000, phase := .running,
      regs := [(R.MODULE_ADDRESS.addr 0 0, 0x28), (R.DOMAIN_ON.addr 0 0, 0xffffffff), (R.DOMAIN_ON.addr 0 1, 0xffffffff),
          (R.ACCT_STATUS.addr 3 0, 2), (R.ACCT_QUOTA_1.addr 3 0, 4), (R.TILL_CFG.addr 3 0, 0x43003),
          (R.TILL_CFG.addr 3 2, 0x4004), (R.NET_BUDGET.addr 0 0, 4), (R.NET_PORTS.addr 0 0, 0xf),
          (R.PUB_CFG.addr 5 0, 0x80800000), (R.PUB_PERIOD.addr 5 0, 0x3e8), (R.PUB_OWNER.addr 5 0, 3)], time.ticking := true,
      tills := [(48, {Till.init with wr := 5, rd := 2, rel := 1, mark := 1 }),
          (50, {Till.init with wr := 9, rd := 4, rel := 4, mark := 4, reserved := 7 })],
      net.peers := [(9, {NetPeer.init with state := 1, version := 3, inst := 77 })],
      net.subs := [(7, 0x90000000b), (8, 0x90000000b)],
      net.queues := [(3, [{item := [0x4b400401400901, 7, 8], admitted := some 5 },
              {item := [0x4b400401400901, 7, 8], admitted := none }])],
      net.tags := [(1, { Tag.init with
              st := 1, gen := 1, account := 3, peer := 9, inst := 77, item := [0x4b400401400901, 7, 8], deadline := 9000 }),
          (2, { Tag.init with
              st := 2, gen := 1, account := 3, peer := 9, inst := 77, item := [0x4b400401400901, 7, 8], deadline := 9000 })] }

def st108 : State :=
    { State.reset with
      tick := 9000000, phase := .running,
      regs := [(R.MODULE_ADDRESS.addr 0 0, 0x28), (R.DOMAIN_ON.addr 0 0, 0xffffffff), (R.DOMAIN_ON.addr 0 1, 0xffffffff),
          (R.ACCT_STATUS.addr 3 0, 2), (R.ACCT_QUOTA_1.addr 3 0, 4), (R.TILL_CFG.addr 3 0, 0x43003),
          (R.TILL_CFG.addr 3 2, 0x4004), (R.NET_BUDGET.addr 0 0, 4), (R.NET_PORTS.addr 0 0, 0xf),
          (R.PUB_CFG.addr 5 0, 0x80800000), (R.PUB_PERIOD.addr 5 0, 0x3e8), (R.PUB_OWNER.addr 5 0, 3)], time.ticking := true,
      tills := [(48, {Till.init with wr := 5, rd := 2, rel := 1, mark := 1 }),
          (50, {Till.init with wr := 9, rd := 4, rel := 4, mark := 4, reserved := 7 })],
      net.peers := [(9, {NetPeer.init with state := 1, version := 3, inst := 77 })],
      net.subs := [(7, 0x90000000b), (8, 0x90000000b)],
      net.queues := [(3, [{item := [0x4b400401400901, 7, 8], admitted := some 5 },
              {item := [0x4b400401400901, 7, 8], admitted := none }])],
      net.tags := [(1, { Tag.init with
              st := 1, gen := 1, account := 3, peer := 9, inst := 77, item := [0x4b400401400901, 7, 8], deadline := 9000 }),
          (2, { Tag.init with
              st := 2, gen := 1, account := 3, peer := 9, inst := 77, item := [0x4b400401400901, 7, 8], deadline := 9000 })] }

def st109 : State :=
    { State.reset with
      tick := 9000000, phase := .running,
      regs := [(R.MODULE_ADDRESS.addr 0 0, 0x28), (R.DOMAIN_ON.addr 0 0, 0xffffffff), (R.DOMAIN_ON.addr 0 1, 0xffffffff),
          (R.ACCT_STATUS.addr 3 0, 2), (R.ACCT_QUOTA_1.addr 3 0, 4), (R.TILL_CFG.addr 3 0, 0x43003),
          (R.TILL_CFG.addr 3 2, 0x4004), (R.NET_BUDGET.addr 0 0, 4), (R.NET_PORTS.addr 0 0, 0xf),
          (R.PUB_CFG.addr 5 0, 0x80800000), (R.PUB_PERIOD.addr 5 0, 0x3e8), (R.PUB_OWNER.addr 5 0, 3)], time.ticking := true,
      net.peers := [(9, {NetPeer.init with state := 1, version := 1, inst := 77 })],
      net.members := [(9, some {last := 5, hops := 0, isEnd := true, exit := 40 })], net.seen := [(589829, 1900, 1)],
      net.pubIn := [(2309, some {inst := 77, seq := 1, seqNr := 5, planes := 0 })],
      net.queues := [(3, [{item := [0x4b400401400901, 7, 8], admitted := some 5 }])],
      net.tags := [(0, { Tag.init with
              st := 3, gen := 1, account := 3, peer := 9, inst := 77, item := [0x4b400401400901, 7, 8], deadline := 9000 }),
          (1, { Tag.init with
              st := 2, gen := 1, account := 3, peer := 9, inst := 77, item := [0x4b400401400901, 7, 8], deadline := 9000,
              busyAt := 9000 })],
      net.incoming := [{source := 9, inst := 77, handle := 9, account := 3, service := 4, replyMax := 5, closesAt := 4000 }] }

def st110 : State :=
    { State.reset with
      tick := 2000, phase := .running,
      regs := [(R.MODULE_ADDRESS.addr 0 0, 0x28), (R.DOMAIN_ON.addr 0 0, 0xffffffff), (R.DOMAIN_ON.addr 0 1, 0xffffffff),
          (R.ACCT_STATUS.addr 7 0, 2), (R.PORT_STATUS.addr 0 0, 0xa0000000), (R.PORT_STATUS.addr 1 0, 0xa0000000),
          (R.PORT_STATUS.addr 2 0, 0xa0000000), (R.PORT_STATUS.addr 3 0, 0xa0000000), (R.RZT_RX_CFG.addr 1 0, 0xb0800003),
          (R.RZT_RX_PEER.addr 1 0, 9), (R.RZT_RX_SIG.addr 1 0, 5), (R.RZT_RX_DEGR.addr 1 0, 1),
          (R.RZT_RX_STATUS.addr 1 0, 0x2000000), (R.RZT_RX_SEQ.addr 1 0, 0x28), (R.RZT_TX_CFG.addr 1 0, 0xb0800003),
          (R.RZT_TX_PEER.addr 1 0, 9), (R.RZT_TX_SIG.addr 1 0, 5), (R.RZT_TX_PERIOD.addr 1 0, 0x3e8),
          (R.RZT_TX_SEQ.addr 1 0, 0x28)], time.ticking := true }

def st111 : State :=
    { State.reset with
      tick := 2000, phase := .running,
      regs := [(R.MODULE_ADDRESS.addr 0 0, 0x28), (R.DOMAIN_ON.addr 0 0, 0xffffffff), (R.DOMAIN_ON.addr 0 1, 0xffffffff),
          (R.ACCT_STATUS.addr 7 0, 2), (R.PORT_STATUS.addr 0 0, 0xa0000000), (R.PORT_STATUS.addr 1 0, 0xa0000000),
          (R.PORT_STATUS.addr 2 0, 0xa0000000), (R.PORT_STATUS.addr 3 0, 0xa0000000), (R.RZT_RX_CFG.addr 1 0, 0xb0800003),
          (R.RZT_RX_PEER.addr 1 0, 9), (R.RZT_RX_SIG.addr 1 0, 5), (R.RZT_RX_DEGR.addr 1 0, 1), (R.RZT_RX_SEQ.addr 1 0, 0x28),
          (R.RZT_TX_CFG.addr 1 0, 0xb0800003), (R.RZT_TX_PEER.addr 1 0, 9), (R.RZT_TX_SIG.addr 1 0, 5),
          (R.RZT_TX_PERIOD.addr 1 0, 0x3e8), (R.RZT_TX_SEQ.addr 1 0, 0x28)], time.ticking := true,
      net.peers := [(9, {NetPeer.init with state := 1, version := 3 }), (10, {NetPeer.init with state := 1, version := 2 })] }

def st112 : State :=
    { State.reset with
      tick := 2000, phase := .running,
      regs := [(R.MODULE_ADDRESS.addr 0 0, 0x28), (R.DOMAIN_ON.addr 0 0, 0xffffffff), (R.DOMAIN_ON.addr 0 1, 0xffffffff),
          (R.ACCT_STATUS.addr 7 0, 2), (R.PORT_STATUS.addr 0 0, 0xa0000000), (R.PORT_STATUS.addr 1 0, 0xa0000000),
          (R.PORT_STATUS.addr 2 0, 0xa0000000), (R.PORT_STATUS.addr 3 0, 0xa0000000), (R.RZT_RX_CFG.addr 1 0, 0xb0800003),
          (R.RZT_RX_PEER.addr 1 0, 9), (R.RZT_RX_SIG.addr 1 0, 5), (R.RZT_RX_DEGR.addr 1 0, 1),
          (R.RZT_RX_STATUS.addr 1 0, 0x22000000), (R.RZT_RX_SEQ.addr 1 0, 0x28), (R.RZT_TX_CFG.addr 1 0, 0xb0800003),
          (R.RZT_TX_PEER.addr 1 0, 9), (R.RZT_TX_SIG.addr 1 0, 5), (R.RZT_TX_PERIOD.addr 1 0, 0x3e8),
          (R.RZT_TX_SEQ.addr 1 0, 0x28)], time.ticking := true,
      net.peers := [(9, {NetPeer.init with state := 1, version := 3 }), (10, {NetPeer.init with state := 1, version := 2 })] }

def st113 : State :=
    { State.reset with
      tick := 2000, phase := .running,
      regs := [(R.MODULE_ADDRESS.addr 0 0, 0x28), (R.DOMAIN_ON.addr 0 0, 0xffffffff), (R.DOMAIN_ON.addr 0 1, 0xffffffff),
          (R.ACCT_STATUS.addr 7 0, 2), (R.PORT_STATUS.addr 0 0, 0xa0000000), (R.PORT_STATUS.addr 1 0, 0xa0000000),
          (R.PORT_STATUS.addr 2 0, 0xa0000000), (R.PORT_STATUS.addr 3 0, 0xa0000000), (R.RZT_RX_CFG.addr 1 0, 0xb0800003),
          (R.RZT_RX_PEER.addr 1 0, 9), (R.RZT_RX_SIG.addr 1 0, 5), (R.RZT_RX_DEGR.addr 1 0, 1),
          (R.RZT_RX_STATUS.addr 1 0, 0x22000000), (R.RZT_RX_SEQ.addr 1 0, 0x28), (R.RZT_TX_CFG.addr 1 0, 0xb0800003),
          (R.RZT_TX_PEER.addr 1 0, 9), (R.RZT_TX_SIG.addr 1 0, 5), (R.RZT_TX_PERIOD.addr 1 0, 0x3e8),
          (R.RZT_TX_SEQ.addr 1 0, 0x28)], time.ticking := true,
      net.peers := [(9, {NetPeer.init with state := 1, version := 3 }), (10, {NetPeer.init with state := 1, version := 2 })],
      safety.rx := [(1, { RzRx.init with
              assay := some {
                  plane := 0, source := 9,
                  words := [0x3100200000029, 0x200, 9, 0x41, 0x64, 0xa, 1, 0x8000000000000001, 0x31a076b4], openedAt := 0 } })] }

def st114 : State :=
    { State.reset with
      tick := 2000, phase := .running,
      regs := [(R.MODULE_ADDRESS.addr 0 0, 0x28), (R.DOMAIN_ON.addr 0 0, 0xffffffff), (R.DOMAIN_ON.addr 0 1, 0xffffffff),
          (R.ACCT_STATUS.addr 7 0, 2), (R.PORT_STATUS.addr 0 0, 0xa0000000), (R.PORT_STATUS.addr 1 0, 0xa0000000),
          (R.PORT_STATUS.addr 2 0, 0xa0000000), (R.PORT_STATUS.addr 3 0, 0xa0000000), (R.RZT_RX_CFG.addr 1 0, 0xb0800003),
          (R.RZT_RX_PEER.addr 1 0, 9), (R.RZT_RX_SIG.addr 1 0, 5), (R.RZT_RX_DEGR.addr 1 0, 1),
          (R.RZT_RX_STATUS.addr 1 0, 0x22000000), (R.RZT_RX_SEQ.addr 1 0, 0x28), (R.RZT_TX_CFG.addr 1 0, 0xb0800003),
          (R.RZT_TX_PEER.addr 1 0, 9), (R.RZT_TX_SIG.addr 1 0, 5), (R.RZT_TX_PERIOD.addr 1 0, 0x3e8),
          (R.RZT_TX_SEQ.addr 1 0, 0x28)], time.ticking := true,
      net.peers := [(9, {NetPeer.init with state := 1, version := 3 }), (10, {NetPeer.init with state := 1, version := 2 })],
      safety.rx := [(1, { RzRx.init with
              assay := some {
                  plane := 1, source := 9,
                  words := [0x3100200000029, 0x200, 9, 0x41, 0x64, 0xa, 1, 0x8000000000000001, 0x31a076b4], openedAt := 0 },
              two := true, degrSince := some 4 })] }

def st115 : State :=
    { State.reset with
      tick := 2000, phase := .running,
      regs := [(R.MODULE_ADDRESS.addr 0 0, 0x28), (R.DOMAIN_ON.addr 0 0, 0xffffffff), (R.DOMAIN_ON.addr 0 1, 0xffffffff),
          (R.ACCT_STATUS.addr 7 0, 2), (R.PORT_STATUS.addr 0 0, 0xa0000000), (R.PORT_STATUS.addr 1 0, 0xa0000000),
          (R.PORT_STATUS.addr 2 0, 0xa0000000), (R.PORT_STATUS.addr 3 0, 0xa0000000), (R.RZT_RX_CFG.addr 1 0, 0xb0800003),
          (R.RZT_RX_PEER.addr 1 0, 9), (R.RZT_RX_SIG.addr 1 0, 5), (R.RZT_RX_DEGR.addr 1 0, 1),
          (R.RZT_RX_STATUS.addr 1 0, 0x22000000), (R.RZT_RX_SEQ.addr 1 0, 0x28), (R.RZT_TX_CFG.addr 1 0, 0xb0800003),
          (R.RZT_TX_PEER.addr 1 0, 9), (R.RZT_TX_SIG.addr 1 0, 5), (R.RZT_TX_PERIOD.addr 1 0, 0x3e8),
          (R.RZT_TX_SEQ.addr 1 0, 0x28)], time.ticking := true,
      safety.rx := [(1, { RzRx.init with
              assay := some {
                  plane := 0, source := 9,
                  words := [0x3100200000029, 0x200, 9, 0x41, 0x64, 0xa, 1, 0x8000000000000001, 0x31a076b4], openedAt := 0 } })] }

def st116 : State :=
    { State.reset with
      tick := 2000, phase := .running,
      regs := [(R.MODULE_ADDRESS.addr 0 0, 0x28), (R.DOMAIN_ON.addr 0 0, 0xffffffff), (R.DOMAIN_ON.addr 0 1, 0xffffffff),
          (R.ACCT_STATUS.addr 7 0, 2), (R.PORT_STATUS.addr 0 0, 0xa0000000), (R.PORT_STATUS.addr 1 0, 0xa0000000),
          (R.PORT_STATUS.addr 2 0, 0xa0000000), (R.PORT_STATUS.addr 3 0, 0xa0000000), (R.RZT_RX_CFG.addr 1 0, 0xb0800003),
          (R.RZT_RX_PEER.addr 1 0, 9), (R.RZT_RX_SIG.addr 1 0, 5), (R.RZT_RX_DEGR.addr 1 0, 1), (R.RZT_RX_SEQ.addr 1 0, 0x28),
          (R.RZT_TX_CFG.addr 1 0, 0xb0800003), (R.RZT_TX_PEER.addr 1 0, 9), (R.RZT_TX_SIG.addr 1 0, 5),
          (R.RZT_TX_PERIOD.addr 1 0, 0x3e8), (R.RZT_TX_STATUS.addr 1 0, 0x12000009), (R.RZT_TX_SEQ.addr 1 0, 0x28)],
      time.ticking := true,
      safety.tx := [(1, { RzTx.init with
              last := some [0x3100200000028, 0x200, 9, 0x41, 0x64, 0xa, 1, 0x8000000000000001, 0x45ae99b6] })] }

def st117 : State :=
    { State.reset with
      tick := 2000, phase := .running,
      regs := [(R.MODULE_ADDRESS.addr 0 0, 0x28), (R.DOMAIN_ON.addr 0 0, 0xffffffff), (R.DOMAIN_ON.addr 0 1, 0xffffffff),
          (R.ACCT_STATUS.addr 7 0, 2), (R.PORT_STATUS.addr 0 0, 0xa0000000), (R.PORT_STATUS.addr 1 0, 0xa0000000),
          (R.PORT_STATUS.addr 2 0, 0xa0000000), (R.PORT_STATUS.addr 3 0, 0xa0000000), (R.SAFE_STATUS.addr 0 0, 0x10000000),
          (R.RZT_RX_CFG.addr 1 0, 0xb0800003), (R.RZT_RX_PEER.addr 1 0, 9), (R.RZT_RX_SIG.addr 1 0, 5),
          (R.RZT_RX_DEGR.addr 1 0, 1), (R.RZT_RX_SEQ.addr 1 0, 0x28), (R.RZT_TX_CFG.addr 1 0, 0xb0800003),
          (R.RZT_TX_PEER.addr 1 0, 9), (R.RZT_TX_SIG.addr 1 0, 5), (R.RZT_TX_PERIOD.addr 1 0, 0x3e8),
          (R.RZT_TX_SEQ.addr 1 0, 0x28)], time.ticking := true,
      net.peers := [(9, {NetPeer.init with state := 1, version := 3 }), (10, {NetPeer.init with state := 1, version := 2 })] }

def st118 : State :=
    { State.reset with
      tick := 400, phase := .running,
      regs := [(R.MODULE_ADDRESS.addr 0 0, 0x28), (R.DOMAIN_ON.addr 0 0, 0xffffffff), (R.DOMAIN_ON.addr 0 1, 0xffffffff),
          (R.ACCT_QUOTA_1.addr 0 0, 0x40000), (R.ACCT_STATUS.addr 7 0, 2), (R.PAIR_CFG.addr 0 0, 0x3c02900),
          (R.PAIR_TIMING.addr 0 0, 0x1900003c), (R.PAIR_STATUS.addr 0 0, 0x32000000), (R.LL_STATUS.addr 0 0, 0x3000ffff)],
      time.ticking := true, mgmt.sessions := [(0, {Session.init with opened := true, map := 3 })] }

def st119 : State :=
    { State.reset with
      tick := 2000, phase := .running,
      regs := [(R.MODULE_ADDRESS.addr 0 0, 0x28), (R.DOMAIN_ON.addr 0 0, 0xffffffff), (R.DOMAIN_ON.addr 0 1, 0xffffffff),
          (R.ACCT_QUOTA_1.addr 0 0, 0x40000), (R.ACCT_STATUS.addr 7 0, 2), (R.PAIR_CFG.addr 0 0, 0x3c02900),
          (R.PAIR_TIMING.addr 0 0, 0x1900003c), (R.PAIR_STATUS.addr 0 0, 0x12000000), (R.LL_STATUS.addr 0 0, 0x1000ffff)],
      time.ticking := true, mgmt.sessions := [(0, {Session.init with opened := true, map := 3 })], pair.good := 3,
      pair.base := 9, pair.sent := 9, pair.expect := 10 }

def st120 : State :=
    { State.reset with
      tick := 2000, phase := .running,
      regs := [(R.MODULE_ADDRESS.addr 0 0, 0x28), (R.DOMAIN_ON.addr 0 0, 0xffffffff), (R.DOMAIN_ON.addr 0 1, 0xffffffff),
          (R.ACCT_QUOTA_1.addr 0 0, 0x40000), (R.ACCT_STATUS.addr 7 0, 2), (R.PAIR_CFG.addr 0 0, 0x3c02900),
          (R.PAIR_TIMING.addr 0 0, 0x1900003c), (R.PAIR_STATUS.addr 0 0, 0x12000000), (R.LL_STATUS.addr 0 0, 0x2000ffff)],
      time.ticking := true, mgmt.sessions := [(0, {Session.init with opened := true, map := 3 })], pair.locked := true,
      pair.good := 3, pair.hello := 2, pair.hellos := 1, pair.base := 9, pair.sent := 9, pair.expect := 10 }

def st121 : State :=
    { State.reset with
      tick := 2000, phase := .running,
      regs := [(R.MODULE_ADDRESS.addr 0 0, 0x28), (R.DOMAIN_ON.addr 0 0, 0xffffffff), (R.DOMAIN_ON.addr 0 1, 0xffffffff),
          (R.ACCT_QUOTA_1.addr 0 0, 0x40000), (R.ACCT_STATUS.addr 7 0, 2), (R.PAIR_CFG.addr 0 0, 0x3c02900),
          (R.PAIR_TIMING.addr 0 0, 0x1900003c), (R.PAIR_STATUS.addr 0 0, 0x10000000), (R.LL_STATUS.addr 0 0, 0x4000ffff)],
      time.ticking := true, mgmt.sessions := [(0, {Session.init with opened := true, map := 3 })], pair.locked := true,
      pair.hello := 2, pair.hellos := 1 }

def st122 : State :=
    { State.reset with
      tick := 2000, phase := .running,
      regs := [(R.MODULE_ADDRESS.addr 0 0, 0x28), (R.DOMAIN_ON.addr 0 0, 0xffffffff), (R.DOMAIN_ON.addr 0 1, 0xffffffff),
          (R.ACCT_QUOTA_1.addr 0 0, 0x40000), (R.ACCT_STATUS.addr 7 0, 2), (R.PAIR_CFG.addr 0 0, 0x3c02900),
          (R.PAIR_TIMING.addr 0 0, 0x1900003c), (R.PAIR_STATUS.addr 0 0, 0x52000000), (R.LL_STATUS.addr 0 0, 0x3000ffff)],
      time.ticking := true, mgmt.sessions := [(0, {Session.init with opened := true, map := 3 })], pair.locked := true,
      pair.good := 3, pair.hello := 2, pair.hellos := 1, pair.base := 9, pair.sent := 9, pair.resyncing := true,
      pair.expect := 10 }

def st123 : State :=
    { State.reset with
      tick := 2000, phase := .running,
      regs := [(R.MODULE_ADDRESS.addr 0 0, 0x28), (R.DOMAIN_ON.addr 0 0, 0xffffffff), (R.DOMAIN_ON.addr 0 1, 0xffffffff),
          (R.ACCT_QUOTA_1.addr 0 0, 0x40000), (R.ACCT_STATUS.addr 7 0, 2), (R.PAIR_CFG.addr 0 0, 0x3c02900),
          (R.PAIR_TIMING.addr 0 0, 0x1900003c), (R.PAIR_STATUS.addr 0 0, 0x20000000), (R.LL_STATUS.addr 0 0, 0x3000ffff)],
      time.ticking := true, mgmt.sessions := [(0, {Session.init with opened := true, map := 3 })], pair.locked := true,
      pair.bad := 1 }

def st124 : State :=
    { State.reset with
      tick := 2000, phase := .starting,
      regs := [(R.MODULE_ADDRESS.addr 0 0, 0x28), (R.DOMAIN_ON.addr 0 0, 0xffffffff), (R.DOMAIN_ON.addr 0 1, 0xffffffff),
          (R.ACCT_QUOTA_1.addr 0 0, 0x40000), (R.ACCT_STATUS.addr 7 0, 2), (R.PAIR_CFG.addr 0 0, 0x3c02900),
          (R.PAIR_TIMING.addr 0 0, 0x1900003c), (R.PAIR_STATUS.addr 0 0, 0x10000000), (R.LL_STATUS.addr 0 0, 0x3000ffff)],
      start.steps := [(112, true)], time.ticking := true,
      mgmt.sessions := [(0, {Session.init with opened := true, map := 3 })], pair.peerId := 5 }

def st125 : State :=
    { State.reset with
      tick := 2000, phase := .starting,
      regs := [(R.MODULE_ADDRESS.addr 0 0, 0x28), (R.DOMAIN_ON.addr 0 0, 0xffffffff), (R.DOMAIN_ON.addr 0 1, 0xffffffff),
          (R.ACCT_QUOTA_1.addr 0 0, 0x40000), (R.ACCT_STATUS.addr 7 0, 2), (R.PAIR_CFG.addr 0 0, 0x3c02900),
          (R.PAIR_TIMING.addr 0 0, 0x1900003c), (R.PAIR_STATUS.addr 0 0, 0x12000000), (R.LL_STATUS.addr 0 0, 0x3000ffff)],
      start.steps := [(112, true)], time.ticking := true,
      mgmt.sessions := [(0, {Session.init with opened := true, map := 3 })], pair.peerId := 0x29003c00280000 }

def st126 : State :=
    { State.reset with
      tick := 2000, phase := .starting,
      regs := [(R.MODULE_ADDRESS.addr 0 0, 0x28), (R.DOMAIN_ON.addr 0 0, 0xffffffff), (R.DOMAIN_ON.addr 0 1, 0xffffffff),
          (R.ACCT_QUOTA_1.addr 0 0, 0x40000), (R.ACCT_STATUS.addr 7 0, 2), (R.PAIR_CFG.addr 0 0, 0x3c02900),
          (R.PAIR_TIMING.addr 0 0, 0x1900003c), (R.PAIR_STATUS.addr 0 0, 0x11000000), (R.LL_STATUS.addr 0 0, 0x3000ffff)],
      start.steps := [(112, true)], time.ticking := true,
      mgmt.sessions := [(0, {Session.init with opened := true, map := 3 })], pair.peerId := 0x29003c00280000 }

def st127 : State :=
    { State.reset with
      tick := 2000, phase := .starting,
      regs := [(R.MODULE_ADDRESS.addr 0 0, 0x28), (R.DOMAIN_ON.addr 0 0, 0xffffffff), (R.DOMAIN_ON.addr 0 1, 0xffffffff),
          (R.ACCT_QUOTA_1.addr 0 0, 0x40000), (R.ACCT_STATUS.addr 7 0, 2), (R.PAIR_CFG.addr 0 0, 0x3c02900),
          (R.PAIR_TIMING.addr 0 0, 0x1900003c), (R.PAIR_STATUS.addr 0 0, 0x14000000), (R.LL_STATUS.addr 0 0, 0x3000ffff)],
      start.steps := [(112, true)], time.ticking := true,
      mgmt.sessions := [(0, {Session.init with opened := true, map := 3 })], pair.peerId := 0x29003c00280000 }

def st128 : State :=
    { State.reset with
      tick := 2000, phase := .starting,
      regs := [(R.MODULE_ADDRESS.addr 0 0, 0x28), (R.DOMAIN_ON.addr 0 0, 0xffffffff), (R.DOMAIN_ON.addr 0 1, 0xffffffff),
          (R.ACCT_QUOTA_1.addr 0 0, 0x40000), (R.ACCT_STATUS.addr 7 0, 2), (R.PAIR_CFG.addr 0 0, 0x3c02900),
          (R.PAIR_TIMING.addr 0 0, 0x1900003c), (R.PAIR_STATUS.addr 0 0, 0x10000000)], start.steps := [(112, true)],
      time.ticking := true, mgmt.sessions := [(0, {Session.init with opened := true, map := 3 })],
      pair.peerId := 0x29003c00280000 }

def st129 : State :=
    { State.reset with
      tick := 2000, phase := .running,
      regs := [(R.MODULE_ADDRESS.addr 0 0, 0x28), (R.DOMAIN_ON.addr 0 0, 0xffffffff), (R.DOMAIN_ON.addr 0 1, 0xffffffff),
          (R.ACCT_QUOTA_1.addr 0 0, 0x40000), (R.ACCT_STATUS.addr 7 0, 2), (R.PAIR_CFG.addr 0 0, 0x3c02900),
          (R.PAIR_TIMING.addr 0 0, 0x1900003c), (R.PAIR_STATUS.addr 0 0, 0x52000000), (R.LL_STATUS.addr 0 0, 0x1000ffff)],
      time.ticking := true, mgmt.sessions := [(0, {Session.init with opened := true, map := 3 })], pair.good := 3,
      pair.bad := 3, pair.hello := 1, pair.cause := some 2, pair.base := 9, pair.sent := 9, pair.resyncing := true,
      pair.expect := 10 }

def st130 : State :=
    { State.reset with
      tick := 2000, phase := .starting,
      regs := [(R.MODULE_ADDRESS.addr 0 0, 0x28), (R.DOMAIN_ON.addr 0 0, 0xffffffff), (R.DOMAIN_ON.addr 0 1, 0xffffffff),
          (R.ACCT_QUOTA_1.addr 0 0, 0x40000), (R.ACCT_STATUS.addr 7 0, 2), (R.PAIR_CFG.addr 0 0, 0x3c02900),
          (R.PAIR_TIMING.addr 0 0, 0x1900003c), (R.PAIR_STATUS.addr 0 0, 0x40000000)], time.ticking := true,
      mgmt.sessions := [(0, {Session.init with opened := true, map := 3 })], pair.cause := some 2 }

def st131 : State :=
    { State.reset with
      tick := 2000, phase := .running,
      regs := [(R.MODULE_ADDRESS.addr 0 0, 0x28), (R.DOMAIN_ON.addr 0 0, 0xffffffff), (R.DOMAIN_ON.addr 0 1, 0xffffffff),
          (R.ACCT_QUOTA_1.addr 0 0, 0x40000), (R.ACCT_STATUS.addr 7 0, 2), (R.PAIR_CFG.addr 0 0, 0x3c02900),
          (R.PAIR_TIMING.addr 0 0, 0x1900003c), (R.PAIR_STATUS.addr 0 0, 0x12000000), (R.LL_STATUS.addr 0 0, 0x1000ffff)],
      time.ticking := true, mgmt.sessions := [(0, {Session.init with opened := true, map := 3 })], pair.good := 3,
      pair.bad := 3, pair.hello := 1, pair.cause := some 2, pair.base := 9, pair.sent := 9, pair.expect := 10 }

def st132 : State :=
    { State.reset with
      tick := 2000, phase := .running,
      regs := [(R.MODULE_ADDRESS.addr 0 0, 0x28), (R.DOMAIN_ON.addr 0 0, 0xffffffff), (R.DOMAIN_ON.addr 0 1, 0xffffffff),
          (R.ACCT_STATUS.addr 7 0, 2), (R.PAIR_CFG.addr 0 0, 0x3c02900), (R.PAIR_TIMING.addr 0 0, 0x1900003c),
          (R.PAIR_STATUS.addr 0 0, 0x25000000)], time.ticking := true,
      mgmt.sessions := [(0, {Session.init with opened := true, map := 3 })] }

def st133 : State :=
    { State.reset with
      tick := 400, phase := .running,
      regs := [(R.MODULE_ADDRESS.addr 0 0, 0x28), (R.DOMAIN_ON.addr 0 0, 0xffffffff), (R.DOMAIN_ON.addr 0 1, 0xffffffff),
          (R.ACCT_QUOTA_1.addr 0 0, 0x40000), (R.ACCT_STATUS.addr 7 0, 2), (R.PAIR_CFG.addr 0 0, 0x3c02900),
          (R.PAIR_TIMING.addr 0 0, 0x1900003c), (R.PAIR_STATUS.addr 0 0, 0x25000000), (R.LL_STATUS.addr 0 0, 0x3000ffff)],
      time.ticking := true, mgmt.sessions := [(0, {Session.init with opened := true, map := 3 })], pair.sending := true }

def st134 : State :=
    { State.reset with
      tick := 400, phase := .running,
      regs := [(R.MODULE_ADDRESS.addr 0 0, 0x28), (R.DOMAIN_ON.addr 0 0, 0xffffffff), (R.DOMAIN_ON.addr 0 1, 0xffffffff),
          (R.ACCT_QUOTA_1.addr 0 0, 0x40000), (R.ACCT_STATUS.addr 7 0, 2), (R.PAIR_CFG.addr 0 0, 0x3c02900),
          (R.PAIR_TIMING.addr 0 0, 0x1900003c), (R.PAIR_STATUS.addr 0 0, 0x25000000), (R.LL_STATUS.addr 0 0, 0x3000ffff)],
      time.ticking := true, mgmt.sessions := [(0, {Session.init with opened := true, map := 3 })],
      image.fired := [{
            time := 5, value := 0, late := false, target := 1, task := 0, account := 0, action := true, tl := true,
            quality := 0, seq := 3 }], pair.sending := true }

def st135 : State :=
    { State.reset with
      tick := 400, phase := .running,
      regs := [(R.MODULE_ADDRESS.addr 0 0, 0x28), (R.DOMAIN_ON.addr 0 0, 0xffffffff), (R.DOMAIN_ON.addr 0 1, 0xffffffff),
          (R.ACCT_QUOTA_1.addr 0 0, 0x40000), (R.ACCT_STATUS.addr 7 0, 2), (R.PAIR_CFG.addr 0 0, 0x3c02900),
          (R.PAIR_TIMING.addr 0 0, 0x1900003c), (R.PAIR_STATUS.addr 0 0, 0x52000000), (R.LL_STATUS.addr 0 0, 0x3000ffff)],
      time.ticking := true, mgmt.sessions := [(0, {Session.init with opened := true, map := 3 })],
      image.fired := [{
            time := 5, value := 0, late := false, target := 1, task := 0, account := 0, action := true, tl := true,
            quality := 0, seq := 3 }] }

def st136 : State :=
    { State.reset with
      tick := 400, phase := .running,
      regs := [(R.MODULE_ADDRESS.addr 0 0, 0x28), (R.DOMAIN_ON.addr 0 0, 0xffffffff), (R.DOMAIN_ON.addr 0 1, 0xffffffff),
          (R.ACCT_QUOTA_1.addr 0 0, 0x40000), (R.ACCT_STATUS.addr 7 0, 2), (R.PAIR_CFG.addr 0 0, 0x3c02900),
          (R.PAIR_TIMING.addr 0 0, 0x1900003c), (R.PAIR_STATUS.addr 0 0, 0x22000000), (R.LL_STATUS.addr 0 0, 0x3000ffff)],
      time.ticking := true, mgmt.sessions := [(0, {Session.init with opened := true, map := 3 })],
      image.fired := [{
            time := 5, value := 0, late := false, target := 1, task := 0, account := 0, action := true, tl := true,
            quality := 0, seq := 3 }], pair.sending := true }

def st137 : State :=
    { State.reset with
      tick := 400, phase := .running,
      regs := [(R.MODULE_ADDRESS.addr 0 0, 0x28), (R.DOMAIN_ON.addr 0 0, 0xffffffff), (R.DOMAIN_ON.addr 0 1, 0xffffffff),
          (R.ACCT_QUOTA_1.addr 0 0, 0x40000), (R.ACCT_STATUS.addr 7 0, 2), (R.PAIR_CFG.addr 0 0, 0x3c02900),
          (R.PAIR_TIMING.addr 0 0, 0x1900003c), (R.PAIR_STATUS.addr 0 0, 0x55000000), (R.LL_STATUS.addr 0 0, 0x3000ffff)],
      time.ticking := true, mgmt.sessions := [(0, {Session.init with opened := true, map := 3 })],
      image.fired := [{
            time := 5, value := 0, late := false, target := 1, task := 0, account := 0, action := true, tl := true,
            quality := 0, seq := 3 }] }

def st138 : State :=
    { State.reset with
      tick := 2000, phase := .running,
      regs := [(R.MODULE_ADDRESS.addr 0 0, 0x28), (R.DOMAIN_ON.addr 0 0, 0xffffffff), (R.DOMAIN_ON.addr 0 1, 0xffffffff),
          (R.ACCT_QUOTA_1.addr 0 0, 0x40000), (R.ACCT_STATUS.addr 7 0, 2), (R.PAIR_CFG.addr 0 0, 0x3c02900),
          (R.PAIR_TIMING.addr 0 0, 0x1900003c), (R.PAIR_STATUS.addr 0 0, 0x82000000), (R.LL_STATUS.addr 0 0, 0x3000ffff)],
      time.ticking := true, mgmt.sessions := [(0, {Session.init with opened := true, map := 3 })], pair.winOpen := true,
      pair.marks := [(3, 100)] }

def st139 : State :=
    { State.reset with
      tick := 2000, phase := .running,
      regs := [(R.MODULE_ADDRESS.addr 0 0, 0x28), (R.DOMAIN_ON.addr 0 0, 0xffffffff), (R.DOMAIN_ON.addr 0 1, 0xffffffff),
          (R.ACCT_QUOTA_1.addr 0 0, 0x40000), (R.ACCT_STATUS.addr 7 0, 2), (R.PAIR_CFG.addr 0 0, 0x3c02900),
          (R.PAIR_TIMING.addr 0 0, 0x1900003c), (R.PAIR_STATUS.addr 0 0, 0x22000000), (R.LL_STATUS.addr 0 0, 0x3000ffff)],
      time.ticking := true, mgmt.sessions := [(0, {Session.init with opened := true, map := 3 })], pair.winOpen := true,
      pair.sending := true, pair.marks := [(3, 100)] }

def st140 : State :=
    { State.reset with
      tick := 9000000000, phase := .running,
      regs := [(R.MODULE_ADDRESS.addr 0 0, 0x28), (R.DOMAIN_ON.addr 0 0, 0xffffffff), (R.DOMAIN_ON.addr 0 1, 0xffffffff),
          (R.ACCT_QUOTA_1.addr 0 0, 0x40000), (R.ACCT_STATUS.addr 7 0, 2), (R.PAIR_CFG.addr 0 0, 0x3c02900),
          (R.PAIR_TIMING.addr 0 0, 0x1900003c), (R.PAIR_STATUS.addr 0 0, 0x50000000)], time.ticking := true,
      mgmt.sessions := [(0, {Session.init with opened := true, map := 3 })] }

def st141 : State :=
    { State.reset with
      tick := 2000, phase := .running,
      regs := [(R.MODULE_ADDRESS.addr 0 0, 0x28), (R.DOMAIN_ON.addr 0 0, 0xffffffff), (R.DOMAIN_ON.addr 0 1, 0xffffffff),
          (R.ACCT_QUOTA_1.addr 0 0, 0x40000), (R.ACCT_STATUS.addr 7 0, 2), (R.PAIR_CFG.addr 0 0, 0x3c02900),
          (R.PAIR_TIMING.addr 0 0, 0x1900003c), (R.PAIR_STATUS.addr 0 0, 0x25000000), (R.PAIR_SWAP_DUE.addr 0 0, 0),
          (R.LL_STATUS.addr 0 0, 0x3000ffff)], time.ticking := true,
      mgmt.sessions := [(0, {Session.init with opened := true, map := 3 })], pair.sending := true }

def st142 : State :=
    { State.reset with
      tick := 2000, phase := .running,
      regs := [(R.MODULE_ADDRESS.addr 0 0, 0x28), (R.DOMAIN_ON.addr 0 0, 0xffffffff), (R.DOMAIN_ON.addr 0 1, 0xffffffff),
          (R.ACCT_QUOTA_1.addr 0 0, 0x40000), (R.ACCT_STATUS.addr 7 0, 2), (R.PAIR_CFG.addr 0 0, 0x3c02900),
          (R.PAIR_TIMING.addr 0 0, 0x1900003c), (R.PAIR_STATUS.addr 0 0, 0x22000000), (R.PAIR_SWAP_DUE.addr 0 0, 0),
          (R.LL_STATUS.addr 0 0, 0x3000ffff)], time.ticking := true,
      mgmt.sessions := [(0, {Session.init with opened := true, map := 3 })], pair.sending := true }

def st143 : State :=
    { State.reset with
      tick := 2000, phase := .running,
      regs := [(R.DOMAIN_ON.addr 0 0, 0xffffffff), (R.DOMAIN_ON.addr 0 1, 0xffffffff), (R.TILL_CFG.addr 3 3, 0x2600006),
          (R.TILL_CFG.addr 3 4, 0x26006), (R.CAN_CFG.addr 2 0, 0x1a000000), (R.CAN_OWNER.addr 2 0, 3)], plate.mated := true,
      time.ticking := true, can := [(2, {CanCh.init with next := 9 })] }

def st144 : State :=
    { State.reset with
      tick := 2000, phase := .running,
      regs := [(R.DOMAIN_ON.addr 0 0, 0xffffffff), (R.DOMAIN_ON.addr 0 1, 0xffffffff), (R.TILL_CFG.addr 3 3, 0x2600006),
          (R.TILL_CFG.addr 3 4, 0x26006), (R.CAN_CFG.addr 2 0, 0x1a000000), (R.CAN_OWNER.addr 2 0, 3)], plate.mated := true,
      time.ticking := true, tills := [(51, {Till.init with wr := 2 })],
      tillMem := [(3342336, 0x1002000500000063), (3342337, 7)], can := [(2, {CanCh.init with next := 9 })] }

def st145 : State :=
    { State.reset with
      tick := 2000, phase := .running,
      regs := [(R.DOMAIN_ON.addr 0 0, 0xffffffff), (R.DOMAIN_ON.addr 0 1, 0xffffffff), (R.TILL_CFG.addr 3 3, 0x2600006),
          (R.TILL_CFG.addr 3 4, 0x26006), (R.CAN_CFG.addr 2 0, 0x1a000000), (R.CAN_STATUS.addr 2 0, 0x20000000),
          (R.CAN_OWNER.addr 2 0, 3)], plate.mated := true, time.ticking := true,
      can := [(2, { CanCh.init with
              pend := [{
                    ide := false, fdf := true, brs := false, conf := false, dlc := 0, retry := 15, deadlineMs := 0, id := 78,
                    ref := 5, data := [], readAt := 100, attempts := 15, order := 1 }], cur := some 1, next := 9 })] }

def st146 : State :=
    { State.reset with
      tick := 2000, phase := .running,
      regs := [(R.DOMAIN_ON.addr 0 0, 0xffffffff), (R.DOMAIN_ON.addr 0 1, 0xffffffff), (R.TILL_CFG.addr 3 3, 0x2600006),
          (R.TILL_CFG.addr 3 4, 0x26006), (R.CAN_CFG.addr 2 0, 0x1a000000), (R.CAN_STATUS.addr 2 0, 0x40000000),
          (R.CAN_OWNER.addr 2 0, 3)], plate.mated := true, time.ticking := true, can := [(2, {CanCh.init with next := 9 })] }

def st147 : State :=
    { State.reset with
      tick := 2000, phase := .running,
      regs := [(R.DOMAIN_ON.addr 0 0, 0xffffffff), (R.DOMAIN_ON.addr 0 1, 0xffffffff), (R.TILL_CFG.addr 3 3, 0x2600006),
          (R.TILL_CFG.addr 3 4, 0x26006), (R.CAN_CFG.addr 2 0, 0x1a000000), (R.CAN_STATUS.addr 2 0, 0x10000000),
          (R.CAN_OWNER.addr 2 0, 3)], plate.mated := true, time.ticking := true, can := [(2, {CanCh.init with next := 9 })] }

def st148 : State :=
    { State.reset with
      tick := 2000, phase := .running,
      regs := [(R.DOMAIN_ON.addr 0 0, 0xffffffff), (R.DOMAIN_ON.addr 0 1, 0xffffffff), (R.TILL_CFG.addr 3 3, 0x2600006),
          (R.TILL_CFG.addr 3 4, 0x26006), (R.CAN_CFG.addr 2 0, 0x1a000000), (R.CAN_STATUS.addr 2 0, 0x20000000),
          (R.CAN_OWNER.addr 2 0, 3)], plate.mated := true, time.ticking := true, can := [(2, {CanCh.init with next := 9 })] }

def st149 : State :=
    { State.reset with
      tick := 2000, phase := .running,
      regs := [(R.DOMAIN_ON.addr 0 0, 0xffffffff), (R.DOMAIN_ON.addr 0 1, 0xffffffff), (R.TILL_CFG.addr 3 3, 0x2600006),
          (R.TILL_CFG.addr 3 4, 0x26006), (R.CAN_CFG.addr 2 0, 0x10000000), (R.CAN_STATUS.addr 2 0, 0x20000000),
          (R.CAN_FLT_ID.addr 2 5, 0x4d), (R.CAN_FLT_MASK.addr 2 5, 0x7ff), (R.CAN_FLT_CTRL.addr 2 5, 0xe0000000),
          (R.CAN_OWNER.addr 2 0, 3)], plate.mated := true, time.ticking := true,
      can := [(2, { CanCh.init with
              pend := [{
                    ide := false, fdf := true, brs := false, conf := false, dlc := 0, retry := 15, deadlineMs := 0, id := 78,
                    ref := 5, data := [], readAt := 100, attempts := 15, order := 1 },
                  {
                    ide := false, fdf := true, brs := false, conf := true, dlc := 0, retry := 2, deadlineMs := 1, id := 79,
                    ref := 5, data := [], readAt := 100, attempts := 1, order := 2 },
                  {
                    ide := false, fdf := true, brs := false, conf := true, dlc := 0, retry := 2, deadlineMs := 0, id := 80,
                    ref := 5, data := [], readAt := 100, attempts := 2, order := 3 }], cur := some 1 })] }

def st150 : State :=
    { State.reset with
      tick := 2000, phase := .running,
      regs := [(R.DOMAIN_ON.addr 0 0, 0xffffffff), (R.DOMAIN_ON.addr 0 1, 0xffffffff), (R.TILL_CFG.addr 3 3, 0x2600006),
          (R.TILL_CFG.addr 3 4, 0x26006), (R.CAN_CFG.addr 2 0, 0x12000000), (R.CAN_STATUS.addr 2 0, 0x20000000),
          (R.CAN_OWNER.addr 2 0, 3)], plate.mated := true, time.ticking := true, can := [(2, {CanCh.init with next := 9 })] }

def st151 : State :=
    { State.reset with
      tick := 2000, phase := .running,
      regs := [(R.DOMAIN_ON.addr 0 0, 0xffffffff), (R.DOMAIN_ON.addr 0 1, 0xffffffff), (R.TILL_CFG.addr 3 3, 0x2600006),
          (R.TILL_CFG.addr 3 4, 0x26006), (R.CAN_CFG.addr 2 0, 0x12000000), (R.CAN_OWNER.addr 2 0, 3)], plate.mated := true,
      time.ticking := true, can := [(2, {CanCh.init with next := 9, rx := [[1, 2, 3], [4]], cfg := [(0, some 0x10000000)] })] }

def st152 : State :=
    { State.reset with
      tick := 2000, phase := .running,
      regs := [(R.DOMAIN_ON.addr 0 0, 0xffffffff), (R.DOMAIN_ON.addr 0 1, 0xffffffff), (R.TILL_CFG.addr 3 3, 0x2600006),
          (R.TILL_CFG.addr 3 4, 0x26006), (R.CAN_CFG.addr 2 0, 0x12000000), (R.CAN_OWNER.addr 2 0, 3)], plate.mated := true,
      time.ticking := true, tills := [(52, {Till.init with wr := 62 })],
      tillMem := [(3407872, 9), (3407873, 9), (3407874, 9), (3407875, 9), (3407876, 9), (3407877, 9), (3407878, 9),
          (3407879, 9), (3407880, 9), (3407881, 9), (3407882, 9), (3407883, 9), (3407884, 9), (3407885, 9), (3407886, 9),
          (3407887, 9), (3407888, 9), (3407889, 9), (3407890, 9), (3407891, 9), (3407892, 9), (3407893, 9), (3407894, 9),
          (3407895, 9), (3407896, 9), (3407897, 9), (3407898, 9), (3407899, 9), (3407900, 9), (3407901, 9), (3407902, 9),
          (3407903, 9), (3407904, 9), (3407905, 9), (3407906, 9), (3407907, 9), (3407908, 9), (3407909, 9), (3407910, 9),
          (3407911, 9), (3407912, 9), (3407913, 9), (3407914, 9), (3407915, 9), (3407916, 9), (3407917, 9), (3407918, 9),
          (3407919, 9), (3407920, 9), (3407921, 9), (3407922, 9), (3407923, 9), (3407924, 9), (3407925, 9), (3407926, 9),
          (3407927, 9), (3407928, 9), (3407929, 9), (3407930, 9), (3407931, 9), (3407932, 9), (3407933, 9)],
      can := [(2, {CanCh.init with next := 9, rx := [[1, 2, 3], [4]], cfg := [(0, some 0x10000000)] })] }

def st153 : State :=
    { State.reset with
      tick := 2000, phase := .running,
      regs := [(R.DOMAIN_ON.addr 0 0, 0xffffffff), (R.DOMAIN_ON.addr 0 1, 0xffffffff), (R.VAULT_STATUS.addr 0 0, 0x10000000)],
      time.ticking := true,
      vault.buf := [{num := 0, w0 := 7, w1 := 0x1234000000000000, w2 := 3, w3 := 0x95c68e7400000000 },
          {num := 1, w0 := 7, w1 := 0x1234000000000001, w2 := 3, w3 := 0xf0a1b53200000000 },
          {num := 2, w0 := 7, w1 := 0x1234000000000002, w2 := 3, w3 := 0x5f08f8f800000000 },
          {num := 3, w0 := 7, w1 := 0x1234000000000003, w2 := 3, w3 := 0x3a6fc3be00000000 },
          {num := 4, w0 := 7, w1 := 0x1234000000000004, w2 := 3, w3 := 0xdb2b652d00000000 }],
      vault.marks := [(5, {VMark.init with mark := 3 }), (9, {VMark.init with mark := 1, fails := 1 }),
          (10, {VMark.init with mark := 1, fails := 2 }), (1029, {VMark.init with mark := 3 }),
          (1035, {VMark.init with mark := 1, fails := 1 })],
      vault.devs := [(0, {VDev.init with usable := true, erasing := some 10 }),
          (1, {VDev.init with usable := true, erasing := some 10 })],
      mgmt.sessions := [(0, {Session.init with opened := true, map := 3 })] }

def st154 : State :=
    { State.reset with
      tick := 2000, phase := .running,
      regs := [(R.DOMAIN_ON.addr 0 0, 0xffffffff), (R.DOMAIN_ON.addr 0 1, 0xffffffff), (R.VAULT_STATUS.addr 0 0, 0x10000000)],
      time.ticking := true,
      vault.buf := [{num := 0, w0 := 7, w1 := 0x1234000000000000, w2 := 3, w3 := 0x95c68e7400000000 },
          {num := 1, w0 := 7, w1 := 0x1234000000000001, w2 := 3, w3 := 0xf0a1b53200000000 },
          {num := 2, w0 := 7, w1 := 0x1234000000000002, w2 := 3, w3 := 0x5f08f8f800000000 },
          {num := 3, w0 := 7, w1 := 0x1234000000000003, w2 := 3, w3 := 0x3a6fc3be00000000 },
          {num := 4, w0 := 7, w1 := 0x1234000000000004, w2 := 3, w3 := 0xdb2b652d00000000 },
          {num := 5, w0 := 7, w1 := 0x1234000000000005, w2 := 3, w3 := 0xbe4c5e6b00000000 },
          {num := 6, w0 := 7, w1 := 0x1234000000000006, w2 := 3, w3 := 0x11e513a100000000 },
          {num := 7, w0 := 7, w1 := 0x1234000000000007, w2 := 3, w3 := 0x748228e700000000 }],
      vault.marks := [(5, {VMark.init with mark := 3 }), (9, {VMark.init with mark := 1, fails := 1 }),
          (10, {VMark.init with mark := 1, fails := 2 }), (1029, {VMark.init with mark := 3 }),
          (1035, {VMark.init with mark := 1, fails := 1 })],
      vault.devs := [(0, {VDev.init with usable := true, openSector := some (5, 0), erasing := some 10 }),
          (1, {VDev.init with usable := true, openSector := some (5, 0), erasing := some 10 })],
      mgmt.sessions := [(0, {Session.init with opened := true, map := 3 })] }

def st155 : State :=
    { State.reset with
      tick := 2000, phase := .running,
      regs := [(R.DOMAIN_ON.addr 0 0, 0xffffffff), (R.DOMAIN_ON.addr 0 1, 0xffffffff), (R.VAULT_STATUS.addr 0 0, 0x10000000)],
      time.ticking := true,
      vault.buf := [{num := 0, w0 := 7, w1 := 0x1234000000000000, w2 := 3, w3 := 0x95c68e7400000000 },
          {num := 1, w0 := 7, w1 := 0x1234000000000001, w2 := 3, w3 := 0xf0a1b53200000000 },
          {num := 2, w0 := 7, w1 := 0x1234000000000002, w2 := 3, w3 := 0x5f08f8f800000000 },
          {num := 3, w0 := 7, w1 := 0x1234000000000003, w2 := 3, w3 := 0x3a6fc3be00000000 },
          {num := 4, w0 := 7, w1 := 0x1234000000000004, w2 := 3, w3 := 0xdb2b652d00000000 },
          {num := 5, w0 := 7, w1 := 0x1234000000000005, w2 := 3, w3 := 0xbe4c5e6b00000000 },
          {num := 6, w0 := 7, w1 := 0x1234000000000006, w2 := 3, w3 := 0x11e513a100000000 },
          {num := 7, w0 := 7, w1 := 0x1234000000000007, w2 := 3, w3 := 0x748228e700000000 }],
      vault.marks := [(5, {VMark.init with mark := 3 }), (1029, {VMark.init with mark := 3 })],
      vault.devs := [(0, {VDev.init with usable := true, openSector := some (5, 255) }),
          (1, {VDev.init with usable := true, openSector := some (5, 255) })],
      mgmt.sessions := [(0, {Session.init with opened := true, map := 3 })] }

def st156 : State :=
    { State.reset with
      tick := 2000, phase := .running,
      regs := [(R.DOMAIN_ON.addr 0 0, 0xffffffff), (R.DOMAIN_ON.addr 0 1, 0xffffffff), (R.VAULT_STATUS.addr 0 0, 0x10000000)],
      time.ticking := true,
      vault.buf := [{num := 0, w0 := 7, w1 := 0x1234000000000000, w2 := 3, w3 := 0x95c68e7400000000 },
          {num := 1, w0 := 7, w1 := 0x1234000000000001, w2 := 3, w3 := 0xf0a1b53200000000 },
          {num := 2, w0 := 7, w1 := 0x1234000000000002, w2 := 3, w3 := 0x5f08f8f800000000 },
          {num := 3, w0 := 7, w1 := 0x1234000000000003, w2 := 3, w3 := 0x3a6fc3be00000000 },
          {num := 4, w0 := 7, w1 := 0x1234000000000004, w2 := 3, w3 := 0xdb2b652d00000000 },
          {num := 5, w0 := 7, w1 := 0x1234000000000005, w2 := 3, w3 := 0xbe4c5e6b00000000 },
          {num := 6, w0 := 7, w1 := 0x1234000000000006, w2 := 3, w3 := 0x11e513a100000000 },
          {num := 7, w0 := 7, w1 := 0x1234000000000007, w2 := 3, w3 := 0x748228e700000000 }],
      vault.marks := [(5, {VMark.init with mark := 3 }), (1029, {VMark.init with mark := 3 })],
      vault.devs := [(0, {VDev.init with usable := true }), (1, {VDev.init with usable := true })],
      mgmt.sessions := [(0, {Session.init with opened := true, map := 3 })] }

def st157 : State :=
    { State.reset with
      tick := 2000, phase := .running,
      regs := [(R.DOMAIN_ON.addr 0 0, 0xffffffff), (R.DOMAIN_ON.addr 0 1, 0xffffffff), (R.VAULT_STATUS.addr 0 0, 0x10000000)],
      time.ticking := true, vault.flush := some (0, 5, 1),
      vault.marks := [(5, {VMark.init with mark := 3 }), (9, {VMark.init with mark := 1, fails := 1 }),
          (10, {VMark.init with mark := 1, fails := 2 }), (1029, {VMark.init with mark := 3 }),
          (1035, {VMark.init with mark := 1, fails := 1 })],
      mgmt.sessions := [(0, {Session.init with opened := true, map := 3 })] }

def st158 : State :=
    { State.reset with
      tick := 2000, phase := .running, regs := [(R.DOMAIN_ON.addr 0 0, 0xffffffff), (R.DOMAIN_ON.addr 0 1, 0xffffffff)],
      time.ticking := true, vault.flush := some (0, 5, 1),
      vault.marks := [(5, {VMark.init with mark := 3 }), (9, {VMark.init with mark := 1, fails := 1 }),
          (10, {VMark.init with mark := 1, fails := 2 }), (1029, {VMark.init with mark := 3 }),
          (1035, {VMark.init with mark := 1, fails := 1 })],
      mgmt.sessions := [(0, {Session.init with opened := true, map := 3 })] }

def st159 : State :=
    { State.reset with
      tick := 2000, phase := .running,
      regs := [(R.DOMAIN_ON.addr 0 0, 0xffffffff), (R.DOMAIN_ON.addr 0 1, 0xffffffff), (R.VAULT_STATUS.addr 0 0, 0x30000000)],
      time.ticking := true, vault.closing := some (1, 5, 0),
      vault.marks := [(5, {VMark.init with mark := 3 }), (9, {VMark.init with mark := 1, fails := 1 }),
          (10, {VMark.init with mark := 1, fails := 2 }), (1029, {VMark.init with mark := 3 }),
          (1035, {VMark.init with mark := 1, fails := 1 })],
      vault.devs := [(0, {VDev.init with usable := true, openSector := some (5, 0), erasing := some 10 }),
          (1, {VDev.init with usable := true, openSector := some (5, 0), erasing := some 10 })],
      mgmt.sessions := [(0, {Session.init with opened := true, map := 3 })] }

def st160 : State :=
    { State.reset with
      tick := 2000, phase := .running, regs := [(R.DOMAIN_ON.addr 0 0, 0xffffffff), (R.DOMAIN_ON.addr 0 1, 0xffffffff)],
      time.ticking := true,
      vault.marks := [(5, {VMark.init with mark := 3 }), (9, {VMark.init with mark := 1, fails := 1 }),
          (10, {VMark.init with mark := 1, fails := 2 }), (1029, {VMark.init with mark := 3 }),
          (1035, {VMark.init with mark := 1, fails := 1 })],
      vault.devs := [(0, {VDev.init with usable := true, erasing := some 10 }),
          (1, {VDev.init with usable := true, erasing := some 10 })],
      mgmt.sessions := [(0, {Session.init with opened := true, map := 3 })] }

def st161 : State :=
    { State.reset with
      tick := 2000, phase := .running, regs := [(R.DOMAIN_ON.addr 0 0, 0xffffffff), (R.DOMAIN_ON.addr 0 1, 0xffffffff)],
      time.ticking := true,
      vault.marks := [(5, {VMark.init with mark := 3 }), (9, {VMark.init with mark := 1, fails := 1 }),
          (10, {VMark.init with mark := 1, fails := 2 }), (1029, {VMark.init with mark := 3 }),
          (1035, {VMark.init with mark := 1, fails := 1 })],
      mgmt.sessions := [(0, {Session.init with opened := true, map := 3 })] }

def st162 : State :=
    { State.reset with
      tick := 2000, phase := .running, regs := [(R.DOMAIN_ON.addr 0 0, 0xffffffff), (R.DOMAIN_ON.addr 0 1, 0xffffffff)],
      time.ticking := true,
      vault.buf := [{num := 0, w0 := 7, w1 := 0x1234000000000000, w2 := 3, w3 := 0x95c68e7400000000 },
          {num := 9, w0 := 7, w1 := 0x1234000000000009, w2 := 3, w3 := 0x6d7a638000000000 }],
      vault.marks := [(5, {VMark.init with mark := 3 }), (9, {VMark.init with mark := 1, fails := 1 }),
          (10, {VMark.init with mark := 1, fails := 2 }), (1029, {VMark.init with mark := 3 }),
          (1035, {VMark.init with mark := 1, fails := 1 })],
      vault.devs := [(0, {VDev.init with usable := true, erasing := some 10 }),
          (1, {VDev.init with usable := true, erasing := some 10 })],
      vault.capture := [(0, some {num := 9, w0 := 7, w1 := 0x1234000000000009, w2 := 3, w3 := 0x6d7a638000000000 })],
      mgmt.sessions := [(0, {Session.init with opened := true, map := 3 })] }

def st163 : State :=
    { State.reset with
      tick := 2000, phase := .running,
      regs := [(R.DOMAIN_ON.addr 0 0, 0xffffffff), (R.DOMAIN_ON.addr 0 1, 0xffffffff), (R.VAULT_WIN_ADDR.addr 0 0, 4)],
      time.ticking := true,
      vault.buf := [{num := 0, w0 := 7, w1 := 0x1234000000000000, w2 := 3, w3 := 0x95c68e7400000000 },
          {num := 9, w0 := 7, w1 := 0x1234000000000009, w2 := 3, w3 := 0x6d7a638000000000 }],
      vault.marks := [(5, {VMark.init with mark := 3 }), (9, {VMark.init with mark := 1, fails := 1 }),
          (10, {VMark.init with mark := 1, fails := 2 }), (1029, {VMark.init with mark := 3 }),
          (1035, {VMark.init with mark := 1, fails := 1 })],
      vault.devs := [(0, {VDev.init with usable := true, erasing := some 10 }),
          (1, {VDev.init with usable := true, erasing := some 10 })],
      vault.capture := [(0, some {num := 9, w0 := 7, w1 := 0x1234000000000009, w2 := 3, w3 := 0x6d7a638000000000 })],
      mgmt.sessions := [(0, {Session.init with opened := true, map := 3 })] }

def st164 : State :=
    { State.reset with
      tick := 2000, phase := .running,
      regs := [(R.DOMAIN_ON.addr 0 0, 0xffffffff), (R.DOMAIN_ON.addr 0 1, 0xffffffff), (R.ACCT_STATUS.addr 0 0, 2),
          (R.ACCT_STATUS.addr 3 0, 2), (R.TASK_CFG.addr 1 0, 0x80020000), (R.TASK_OWNER.addr 1 0, 3),
          (R.ST_CFG.addr 0 0, 0x21), (R.WHEEL_STATE.addr 3 0, 0x1000000), (R.WHEEL_STATE.addr 5 0, 0x1f800000)],
      time.ticking := true, selfTest.wheels := [(3, {PhysWheel.init with test := some .main })],
      selfTest.loading := [(2, some 5)] }

def st165 : State :=
    { State.reset with
      tick := 2000, phase := .running,
      regs := [(R.DOMAIN_ON.addr 0 0, 0xffffffff), (R.DOMAIN_ON.addr 0 1, 0xffffffff), (R.ACCT_STATUS.addr 0 0, 2),
          (R.ACCT_STATUS.addr 3 0, 2), (R.TASK_CFG.addr 1 0, 0x80020000), (R.TASK_OWNER.addr 1 0, 3),
          (R.ST_CFG.addr 0 0, 0x21), (R.WHEEL_STATE.addr 3 0, 0x1000000), (R.WHEEL_STATE.addr 5 0, 0x1f800000)],
      time.ticking := true, selfTest.wheels := [(3, {PhysWheel.init with test := some (.retest 3) })],
      selfTest.loading := [(2, some 5)] }

def st166 : State :=
    { State.reset with
      tick := 2000, phase := .running,
      regs := [(R.DOMAIN_ON.addr 0 0, 0xffffffff), (R.DOMAIN_ON.addr 0 1, 0xffffffff), (R.ACCT_STATUS.addr 0 0, 2),
          (R.ACCT_STATUS.addr 3 0, 2), (R.TASK_CFG.addr 1 0, 0x80020000), (R.TASK_OWNER.addr 1 0, 3),
          (R.ST_CFG.addr 0 0, 0x21), (R.WHEEL_STATE.addr 3 0, 0x1000000), (R.WHEEL_STATE.addr 5 0, 0x1f800000)],
      time.ticking := true, selfTest.wheels := [(3, {PhysWheel.init with test := some (.burn false) })],
      selfTest.loading := [(2, some 5)] }

def st167 : State :=
    { State.reset with
      tick := 2000, phase := .running,
      regs := [(R.DOMAIN_ON.addr 0 0, 0xffffffff), (R.DOMAIN_ON.addr 0 1, 0xffffffff), (R.ACCT_STATUS.addr 0 0, 2),
          (R.ACCT_STATUS.addr 3 0, 2), (R.TASK_CFG.addr 1 0, 0x80020000), (R.TASK_OWNER.addr 1 0, 3),
          (R.ST_CFG.addr 0 0, 0x21), (R.WHEEL_STATE.addr 3 0, 0x1000000), (R.WHEEL_STATE.addr 5 0, 0x1f800000)],
      time.ticking := true, selfTest.wheels := [(3, {PhysWheel.init with test := some (.burn true) })],
      selfTest.loading := [(2, some 5)] }

def st168 : State :=
    { State.reset with
      tick := 2000, phase := .running,
      regs := [(R.DOMAIN_ON.addr 0 0, 0xffffffff), (R.DOMAIN_ON.addr 0 1, 0xffffffff), (R.ACCT_STATUS.addr 0 0, 2),
          (R.ACCT_STATUS.addr 3 0, 2), (R.TASK_CFG.addr 1 0, 0x80020000), (R.TASK_OWNER.addr 1 0, 3),
          (R.ST_CFG.addr 0 0, 0x21), (R.WHEEL_STATE.addr 3 0, 0x11000000), (R.WHEEL_STATE.addr 5 0, 0x2f800000)],
      time.ticking := true }

def st169 : State :=
    { State.reset with
      tick := 2000, phase := .running,
      regs := [(R.DOMAIN_ON.addr 0 0, 0xffffffff), (R.DOMAIN_ON.addr 0 1, 0xffffffff), (R.ACCT_STATUS.addr 0 0, 2),
          (R.ACCT_STATUS.addr 3 0, 2), (R.TASK_CFG.addr 1 0, 0x80020000), (R.TASK_OWNER.addr 1 0, 3),
          (R.ST_CFG.addr 0 0, 0x21), (R.WHEEL_STATE.addr 3 0, 0x11000000)], time.ticking := true }

def st170 : State :=
    { State.reset with
      tick := 2000, phase := .running,
      regs := [(R.DOMAIN_ON.addr 0 0, 0xffffffff), (R.DOMAIN_ON.addr 0 1, 0xffffffff), (R.ACCT_STATUS.addr 0 0, 2),
          (R.ACCT_STATUS.addr 3 0, 2), (R.TASK_CFG.addr 1 0, 0x80020000), (R.TASK_OWNER.addr 1 0, 3),
          (R.ST_CFG.addr 0 0, 0x21)], time.ticking := true }

def st171 : State :=
    { State.reset with
      tick := 2000, phase := .running,
      regs := [(R.DOMAIN_ON.addr 0 0, 0xffffffff), (R.DOMAIN_ON.addr 0 1, 0xffffffff), (R.ACCT_STATUS.addr 0 0, 2),
          (R.ACCT_STATUS.addr 3 0, 2), (R.TASK_CFG.addr 1 0, 0x80020000), (R.TASK_OWNER.addr 1 0, 3),
          (R.ST_CFG.addr 0 0, 0x21), (R.WHEEL_STATE.addr 3 0, 0x1000000), (R.WHEEL_STATE.addr 5 0, 0x2f800000)],
      time.ticking := true }

def st172 : State :=
    { State.reset with
      tick := 2000, phase := .running,
      regs := [(R.DOMAIN_ON.addr 0 0, 0xffffffff), (R.DOMAIN_ON.addr 0 1, 0xffffffff), (R.ACCT_STATUS.addr 0 0, 2),
          (R.ACCT_STATUS.addr 3 0, 2), (R.TASK_CFG.addr 1 0, 0x80020000), (R.TASK_OWNER.addr 1 0, 3),
          (R.ST_STATUS.addr 0 0, 0x21f00000), (R.ST_CFG.addr 0 0, 0x21), (R.WHEEL_STATE.addr 3 0, 0x1000000),
          (R.WHEEL_STATE.addr 5 0, 0x1f800000)], time.ticking := true, selfTest.target := some 3, selfTest.spare := some 5 }

def st173 : State :=
    { State.reset with
      tick := 2000, phase := .running,
      regs := [(R.DOMAIN_ON.addr 0 0, 0xffffffff), (R.DOMAIN_ON.addr 0 1, 0xffffffff), (R.ACCT_STATUS.addr 0 0, 2),
          (R.ACCT_STATUS.addr 3 0, 2), (R.TASK_CFG.addr 1 0, 0x80020000), (R.TASK_OWNER.addr 1 0, 3),
          (R.ST_STATUS.addr 0 0, 0x21f00000), (R.ST_CFG.addr 0 0, 0x21), (R.WHEEL_STATE.addr 3 0, 0x1000000),
          (R.WHEEL_STATE.addr 5 0, 0x1f800000)], time.ticking := true,
      image.execs := [(1, some {
              k := 1, rel := 10, relTl := 0x4d, rtTs := 0x58, tsValid := true, dt := 1000, late := 0, tol := 0, act := 0,
              mask := 0, snap := [], state := .running, lanes := [Lane.init] })], selfTest.target := some 3,
      selfTest.spare := some 5 }

def st174 : State :=
    { State.reset with
      tick := 2000, phase := .running,
      regs := [(R.DOMAIN_ON.addr 0 0, 0xffffffff), (R.DOMAIN_ON.addr 0 1, 0xffffffff), (R.ACCT_STATUS.addr 0 0, 2),
          (R.ACCT_STATUS.addr 3 0, 2), (R.TASK_CFG.addr 1 0, 0x80020000), (R.TASK_OWNER.addr 1 0, 3),
          (R.ST_CFG.addr 0 0, 0x21), (R.WHEEL_STATE.addr 3 0, 0x21000000), (R.WHEEL_STATE.addr 5 0, 0x1f800000)],
      time.ticking := true, selfTest.wheels := [(3, {PhysWheel.init with errors := [1000] })] }

def st175 : State :=
    { State.reset with
      tick := 2000, phase := .running,
      regs := [(R.DOMAIN_ON.addr 0 0, 0xffffffff), (R.DOMAIN_ON.addr 0 1, 0xffffffff), (R.ACCT_STATUS.addr 0 0, 2)],
      time.ticking := true, mgmt.sessions := [(0, {Session.init with opened := true, map := 3 })], panel.avdd := true,
      panel.page := some [[1]], panel.words := [(5, some 9)] }

def st176 : State :=
    { State.reset with
      tick := 2000, phase := .running,
      regs := [(R.DOMAIN_ON.addr 0 0, 0xffffffff), (R.DOMAIN_ON.addr 0 1, 0xf7ffffff), (R.ACCT_STATUS.addr 0 0, 2)],
      time.ticking := true, mgmt.sessions := [(0, {Session.init with opened := true, map := 3 })], panel.avdd := true,
      panel.page := some [[1]], panel.words := [(5, some 9)] }

def st177 : State :=
    { State.reset with
      tick := 2000, phase := .running,
      regs := [(R.DOMAIN_ON.addr 0 0, 0xffffffff), (R.DOMAIN_ON.addr 0 1, 0xffffffff), (R.ACCT_STATUS.addr 0 0, 2),
          (R.PANEL_STATUS.addr 0 0, 0x10000000)], time.ticking := true,
      mgmt.sessions := [(0, {Session.init with opened := true, map := 3 })], panel.avdd := true, panel.page := some [[1]],
      panel.words := [(5, some 9)] }

def st178 : State :=
    { State.reset with
      tick := 2000, phase := .running,
      regs := [(R.DOMAIN_ON.addr 0 0, 0xffffffff), (R.DOMAIN_ON.addr 0 1, 0xf7ffffff), (R.ACCT_STATUS.addr 0 0, 2),
          (R.PANEL_STATUS.addr 0 0, 0x10000000)], time.ticking := true,
      mgmt.sessions := [(0, {Session.init with opened := true, map := 3 })], panel.avdd := true, panel.page := some [[1]],
      panel.words := [(5, some 9)] }

def st179 : State :=
    { State.reset with
      tick := 2000, phase := .running,
      regs := [(R.DOMAIN_ON.addr 0 0, 0xffffffff), (R.DOMAIN_ON.addr 0 1, 0xffffffff), (R.ACCT_STATUS.addr 0 0, 2)],
      time.ticking := true, mgmt.sessions := [(0, {Session.init with opened := true, map := 3 })], panel.avdd := true,
      panel.awaiting := true, panel.page := some [[1]], panel.words := [(5, some 9)] }

def st180 : State :=
    { State.reset with
      tick := 2000, phase := .running,
      regs := [(R.DOMAIN_ON.addr 0 0, 0xffffffff), (R.DOMAIN_ON.addr 0 1, 0xf7ffffff), (R.ACCT_STATUS.addr 0 0, 2),
          (R.PANEL_WIN_ADDR.addr 0 0, 0x47b80)], time.ticking := true,
      mgmt.sessions := [(0, {Session.init with opened := true, map := 3 })], panel.avdd := true, panel.page := some [[1]],
      panel.words := [(5, some 9)] }

/-! ### Every statement's hypotheses are met -/

theorem witness_StepRunsFrontCommand : ∃ s : State, s.pending = [] := ⟨State.reset, rfl⟩

theorem witness_QueueUntouched : ∃ (c : Instr) (s t : State), exec c s = .next t :=
  ⟨.lampTestEnd, State.reset, _, rfl⟩

theorem witness_StepKeepsCanonical : ∃ s t : State, (s.canonical = true ∧ s.pending ≠ []) ∧ step s = .next t :=
  ⟨{ State.reset with pending := [.peerPresentSeated] }, _, by decide +kernel, rfl⟩

theorem witness_OrderlyQueuesRun : ∃ s : State, s.orderly = true ∧ s.pending ≠ [] :=
  ⟨{ State.reset with pending := [.peerPresentSeated] }, by decide +kernel⟩

theorem witness_EventsBecomeRecords :
  let plain (s : State) (code : Nat) (items : List Item) (d : BitVec 96) : Prop := packItems items 0 0 = [d] ∧
    flushClass.contains code = false ∧ s.privSource code = none
  let below (s : State) (code : Nat) : Prop := nget 0 s.vault.counts code < s.rateLimit code
  let room (s : State) (code : Nat) : Prop := s.vault.buf.length + 1 + (if usesReserve code then 0 else 64) ≤ 2048 ∧
    s.vault.buf.length + 1 ≤ s.vroom
  (∃ (s : State) (code : Nat) (items : List Item) (d : BitVec 96), s.vstate = vRunning ∧ plain s code items d ∧ below s code
    ∧ room s code) ∧
  (∃ (s : State) (code : Nat) (items : List Item) (d : BitVec 96), s.vstate = vRunning ∧ plain s code items d ∧ below s code
    ∧ ¬ room s code) ∧
  (∃ (s : State) (code : Nat) (items : List Item), s.vstate ≠ vFlushing ∧ ¬ below s code ∧ flushClass.contains code = false) ∧
  (∃ (s : State) (code : Nat) (items : List Item), s.vstate = vRecovering ∧ below s code) ∧
  (∃ (s : State) (code : Nat) (items : List Item), s.vstate = vFlushing) :=
  ⟨⟨st1, 4101, ([.b8 5, .b32 7]), (0x700000005), by decide +kernel⟩,
   ⟨st2, 4101, ([.b8 5, .b32 7]), (0x700000005), by decide +kernel⟩,
   ⟨st3, 4101, ([.b8 5, .b32 7]), by decide +kernel⟩,
   ⟨st4, 4101, ([.b8 5, .b32 7]), by decide +kernel⟩,
   ⟨st5, 4101, ([.b8 5, .b32 7]), by decide +kernel⟩⟩

theorem witness_LifeFrame : ∃ (c : Instr) (s t : State), changesLife c = false ∧ exec c s = .next t :=
  ⟨.lampTestEnd, State.reset, _, rfl, rfl⟩

theorem witness_MateContactsAndStraps :
  (∃ (s : State) (x : Straps), s.bothClosed = true ∧ s.plate.mated = false) ∧
  (∃ s : State, s.oneClosed = true ∧ s.plate.oneMate = false) ∧
  (∃ s : State, s.plate.mated = true ∧ s.bothClosed = false) :=
  ⟨⟨st6, ({ bpType := 1, pairPos := true, cfgA := true, cfgB := false }), by decide +kernel⟩,
   ⟨st7, by decide +kernel⟩,
   ⟨st8, by decide +kernel⟩⟩

theorem witness_SealScanFiltersEverySwitch :
  ∃ (s : State) (p1 p2 : BitVec 16) (n : Fin 16), s.phase ≠ .waiting :=
  ⟨st9, 0, 0, 0, by decide +kernel⟩

theorem witness_FeedsAndTheStoreConverter :
  (∃ (s : State) (f : Fin 2), s.feedValid f.val = false ∧ inR (s.feedVolt f.val) 900 6050 = true) ∧
  (∃ (s : State) (f : Fin 2), s.feedValid f.val = true) ∧
  (∃ (s : State) (f : Fin 2), s.feedValid f.val = true) ∧
  (∃ (s : State) (v : BitVec 16), s.supplyValid = true) :=
  ⟨⟨st10, 1, by decide +kernel⟩,
   ⟨st10, 0, by decide +kernel⟩,
   ⟨st10, 0, by decide +kernel⟩,
   ⟨st10, 0, by decide +kernel⟩⟩

theorem witness_HoldupStoreMeasurements :
  (∃ (s : State) (us : Nat), s.supplyValid = true) ∧
  (∃ s : State, s.alive = true ∧ s.supplyValid = true ∧ s.flag F.HOLDUP_STATUS_TEST = false) ∧
  (∃ (s : State) (us mv : Nat), s.flag F.HOLDUP_STATUS_TEST = true) ∧
  (∃ s : State, s.supplyValid = true) ∧
  (∃ s : State, s.supplyValid = true ∧ s.power.storeReady = false) :=
  ⟨⟨st10, 0, by decide +kernel⟩,
   ⟨st11, by decide +kernel⟩,
   ⟨st12, 0, 0, by decide +kernel⟩,
   ⟨st10, by decide +kernel⟩,
   ⟨st10, by decide +kernel⟩⟩

theorem witness_PowerFailEndsDrive :
  (∃ s : State, s.supplyValid = false ∧ s.stop ≠ .powerFail) ∧
  (∃ s : State, s.supplyValid = false ∧ s.holding = false) :=
  ⟨⟨State.reset, by decide +kernel⟩,
   ⟨State.reset, by decide +kernel⟩⟩

theorem witness_DomainTripAndRetry :
  (∃ (s : State) (d : Fin 64), d.val ≠ 63 ∧ s.domOn d.val = true) ∧
  (∃ (s : State) (d : Fin 64), (s.domTrip? d.val).awaiting = true ∧ s.domNeeded d.val = true) ∧
  (∃ (s : State) (d : Fin 64), (s.domTrip? d.val).awaiting = true ∧ s.domNeeded d.val = false) ∧
  (∃ (s : State) (sl : Fin 16) (v : BitVec 16), s.powered = true) :=
  ⟨⟨st13, 0, by decide +kernel⟩,
   ⟨st14, 0, by decide +kernel⟩,
   ⟨st15, 0, by decide +kernel⟩,
   ⟨st13, 0, 0, by decide +kernel⟩⟩

theorem witness_ThermalAndClockProtection :
  (∃ (s : State) (n : Fin 24) (x : BitVec 16), (nget Sensor.init s.power.sensors n.val).samples.length < 7) ∧
  (∃ (s : State) (n : Fin 24) (x : BitVec 16), 7 ≤ (nget Sensor.init s.power.sensors n.val).samples.length) ∧
  (∃ (s : State) (n : Fin 24), s.flag F.THERMAL_SENSOR_EXCL n.val = true ∧ (nget Sensor.init s.power.sensors
    n.val).plausible = true) ∧
  (∃ s : State, s.stop = .thermal ∧ s.vault.closing = none ∧ s.startAllowed = true) ∧
  (∃ (s : State) (ppm : Int), ppm.natAbs ≤ 500) ∧
  (∃ (s : State) (ppm : Int), 500 < ppm.natAbs) :=
  ⟨⟨State.reset, 0, 0, by decide +kernel⟩,
   ⟨st16, 0, 0, by decide +kernel⟩,
   ⟨st17, 0, by decide +kernel⟩,
   ⟨st18, by decide +kernel⟩,
   ⟨State.reset, 0, by decide +kernel⟩,
   ⟨State.reset, 600, by decide +kernel⟩⟩

theorem witness_StartSequenceSteps :
  (∃ s : State, (s.phase = .waiting ∨ (s.phase = .stopped ∧ s.stopOver = true ∧ s.stop ≠ .thermal)) ∧ s.startAllowed = true) ∧
  (∃ (s : State) (a b : Bool), s.phase = .starting ∧ s.domOn 60 = true ∧ s.stepDone 5 = false) ∧
  (∃ (s : State) (b : Fin 2) (late : Bool) (rest : List Nat), s.phase = .starting ∧ s.domOn 60 = true ∧ s.start.candidates =
    b.val :: rest) ∧
  (∃ (s : State) (h : ImgHead) (same : Bool), s.phase = .starting ∧ s.start.head = some h ∧ s.stepDone 8 = true ∧ s.stepDone
    3 = true ∧ s.start.applied = false) ∧
  (∃ (s : State) (h : ImgHead), s.phase = .starting ∧ s.start.head = some h ∧ s.stepDone 11 = true ∧ s.start.settleFrom +
    1000 * h.settleMs ≤ s.tick) ∧
  (∃ (s : State), s.phase = .starting ∧ s.stepDone 12 = true ∧ s.power.storeReady = true) :=
  ⟨⟨st19, by decide +kernel⟩,
   ⟨st20, (true), (true), by decide +kernel⟩,
   ⟨st21, 1, (true), ([]), by decide +kernel⟩,
   ⟨st22, ({
           format := 3, gen := 5, blocks := 2, address := 7, sections := 1, pair := false, safety := false, settleMs := 0,
           digest := [], safetyCrc := 0 }), (true), by decide +kernel⟩,
   ⟨st23, ({
           format := 3, gen := 5, blocks := 2, address := 7, sections := 1, pair := true, safety := false, settleMs := 0,
           digest := [], safetyCrc := 0 }), by decide +kernel⟩,
   ⟨st24, by decide +kernel⟩⟩

theorem witness_ConfigurationWriteSession :
  (∃ (s : State) (n : Fin 8), s.granted n.val (R.CFG_WR_CTRL.addr 0 0) R.CFG_WR_CTRL 0 = true ∧ s.ahead.cwOpen = false ∧ inR
    (s.ahead.fld F.CFG_WR_BLOCKS_BLOCKS) 2 7680 = true) ∧
  (∃ s : State, s.cwOpen = false ∧ inR (s.fld F.CFG_WR_BLOCKS_BLOCKS) 2 7680 = true) ∧
  (∃ s : State, s.cwState = cwErasing) ∧
  (∃ (s : State) (n : Fin 8) (v : W32), s.granted n.val (R.CFG_WR_DATA.addr 0 0) R.CFG_WR_DATA 0 = true ∧ s.ahead.cwState =
    cwReceiving ∧ s.ahead.start.wrQueue = [] ∧ s.ahead.fld F.CFG_WR_STATUS_BLOCK < s.ahead.fld F.CFG_WR_BLOCKS_BLOCKS) ∧
  (∃ (s : State) (v : W32), s.cwState = cwReceiving ∧ s.start.wrQueue = [] ∧ s.fld F.CFG_WR_STATUS_BLOCK < s.fld
    F.CFG_WR_BLOCKS_BLOCKS ∧ s.start.wrBlock.length < 1023) ∧
  (∃ (s : State) (v : W32), s.cwState = cwReceiving ∧ s.start.wrQueue = [] ∧ s.fld F.CFG_WR_STATUS_BLOCK < s.fld
    F.CFG_WR_BLOCKS_BLOCKS ∧ s.start.wrBlock.length = 1023) ∧
  (∃ (s : State) (n : Fin 8), s.granted n.val (R.CFG_WR_CTRL.addr 0 0) R.CFG_WR_CTRL 0 = true ∧ s.ahead.cwState =
    cwReceiving ∧ (∀ h, s.ahead.start.head = some h → h.gen < bankWord s.ahead.cwImage 2)) ∧
  (∃ s : State, s.cwState = cwReceiving ∧ (∀ h, s.start.head = some h → h.gen < bankWord s.cwImage 2)) ∧
  (∃ (s : State) (n : Fin 8), s.granted n.val (R.CFG_WR_CTRL.addr 0 0) R.CFG_WR_CTRL 0 = true) ∧
  (∃ s : State, s.cwOpen = true) ∧
  (∃ (s : State) (n : Nat) (ws : List W32) (rest : List (Nat × List W32)), s.start.wrQueue = (n, ws) :: rest ∧ s.cwOpen =
    true) ∧
  (∃ s : State, s.start.wrQueue = [] ∧ s.cwState = cwVerifying) ∧
  (∃ (s : State) (o : CommitOutcome), (s.cwState = cwVerifying ∨ s.cwState = cwProgramming) ∧ s.start.wrQueue = []) :=
  ⟨⟨st25, 1, by decide +kernel⟩,
   ⟨st25, by decide +kernel⟩,
   ⟨st26, by decide +kernel⟩,
   ⟨st27, 1, 0, by decide +kernel⟩,
   ⟨st27, 0, by decide +kernel⟩,
   ⟨st28, 0, by decide +kernel⟩,
   ⟨st29, 1, by decide +kernel⟩,
   ⟨st29, by decide +kernel⟩,
   ⟨st30, 1, by decide +kernel⟩,
   ⟨st29, by decide +kernel⟩,
   ⟨st29, 0, ([1, 2]), ([]), by decide +kernel⟩,
   ⟨st31, by decide +kernel⟩,
   ⟨st31, .verified, by decide +kernel⟩⟩

theorem witness_WritesWaitForTheTick :
  (∃ (s : State) (n : Fin 8) (a v : W32) (r : Reg) (i j : Nat), regAt a.toNat = some (r, i, j) ∧ r.wr ≠ 0 ∧ imageOnly r =
    false ∧ r.w64 = false ∧ claimKey r i = none ∧ r ∉ [R.TILL_CMD, R.TILL_DATA_LO, R.TILL_DATA_HI, R.CFG_WR_CTRL,
    R.CFG_WR_DATA, R.PAIR_CTRL] ∧ s.granted n.val a.toNat r i = true ∧ s.ahead.wordCheck (s.session n.val).account r i
    (s.ahead.masked r i j v.toNat) v.toNat = 0) ∧
  (∃ (s : State) (n : Nat) (a v : W32) (r : Reg) (i j o : Nat), regAt a.toNat = some (r, i, j) ∧ r ∉ [R.SYS_RESTART,
    R.SESSION_CTRL, R.ACCT_CTRL, R.ACCT_KEY, R.DCH_CNT_CTRL, R.DS_CTRL, R.PAIR_CTRL, R.ACH_CFG, R.ACH_RATE, R.HART_CFG,
    R.HART_Z_BASE, R.DCH_CFG, R.DOM_CFG, R.CAN_CFG, R.CAN_NBT, R.CAN_DBT, R.CAN_TDC]) ∧
  (∃ (s : State) (n : Fin 8) (v : W32), s.granted n.val (R.SYS_RESTART.addr 0 0) R.SYS_RESTART 0 = true ∧ bits v.toNat 7 0 =
    0xA5) ∧
  (∃ (s : State) (n o : Nat) (v : W32), s.alive = true) ∧
  (∃ (s : State) (n a : Fin 8), s.granted n.val (R.ACCT_CTRL.addr a.val 0) R.ACCT_CTRL a.val = true ∧ s.ahead.acctCtrlCheck
    (s.session n.val).account a.val (ctrlWord 0x3C 1).toNat = 0) ∧
  (∃ (s : State) (n o : Nat) (a : Fin 8), (s.acctState a.val = aRunning ∨ s.acctState a.val = aFault)) ∧
  (∃ (s : State) (n a : Fin 8), s.granted n.val (R.ACCT_CTRL.addr a.val 0) R.ACCT_CTRL a.val = true ∧ s.ahead.acctCtrlCheck
    (s.session n.val).account a.val (ctrlWord 0x3C 2).toNat = 0) ∧
  (∃ (s : State) (n o : Nat) (a : Fin 8), s.acctState a.val ∈ [aRunning, aStarting, aStandby]) ∧
  (∃ (s : State) (n a : Fin 8) (v : W32), s.granted n.val (R.ACCT_KEY.addr a.val 7) R.ACCT_KEY a.val = true ∧ (a.val = 7 →
    s.ahead.sw12 = true)) ∧
  (∃ (s : State) (n m : Fin 8), s.granted n.val (R.SESSION_CTRL.addr m.val 0) R.SESSION_CTRL m.val = true) ∧
  (∃ (s : State) (n o : Nat) (m : Fin 8), (s.session m.val).opened = true) ∧
  (∃ (s : State) (n a : Fin 8), s.granted n.val (R.FORCE_CTRL.addr a.val 0) R.FORCE_CTRL a.val = true) ∧
  (∃ (s : State) (n a : Fin 8), s.granted n.val (R.FORCE_CTRL.addr a.val 0) R.FORCE_CTRL a.val = true) ∧
  (∃ (s : State) (n a : Fin 8), s.granted n.val (R.FORCE_CTRL.addr a.val 0) R.FORCE_CTRL a.val = true) ∧
  (∃ (s : State) (a : Fin 8) (n g : Nat) (v : W64), (∃ x ∈ s.image.sigs, x.1 = g) ∧ (s.sig g).owner = a.val ∧ (s.sig g).kind
    ≠ kModule ∧ (a.val = 7 → s.sw12 = true) ∧ ((s.force? g).isSome = true ∨ s.forceCount < 1024)) ∧
  (∃ (s : State) (a : Fin 8) (n g : Nat) (v : W64) (f : Force), (∃ x ∈ s.image.sigs, x.1 = g) ∧ (s.sig g).owner = a.val ∧
    (a.val = 7 → s.sw12 = true) ∧ s.force? g = some f) ∧
  (∃ (s : State) (a : Fin 8) (n g : Nat) (v : W64), (a.val = 7 → s.sw12 = true)) ∧
  (∃ (s : State) (n : Fin 8) (g : Fin 192) (v : W32), s.granted n.val (R.ACH_CFG.addr g.val 0) R.ACH_CFG g.val = true ∧
    s.ahead.wordCheck (s.session n.val).account R.ACH_CFG g.val (s.ahead.masked R.ACH_CFG g.val 0 v.toNat) v.toNat = 0) ∧
  (∃ (s : State) (n : Fin 8) (g : Fin 192) (v : W32), s.granted n.val (R.HART_CFG.addr g.val 0) R.HART_CFG g.val = true ∧
    s.ahead.wordCheck (s.session n.val).account R.HART_CFG g.val (s.ahead.masked R.HART_CFG g.val 0 v.toNat) v.toNat = 0) ∧
  (∃ (s : State) (n : Fin 8) (g : Fin 192) (v : W32), s.granted n.val (R.HART_Z_BASE.addr g.val 0) R.HART_Z_BASE g.val =
    true ∧ s.ahead.wordCheck (s.session n.val).account R.HART_Z_BASE g.val (s.ahead.masked R.HART_Z_BASE g.val 0 v.toNat)
    v.toNat = 0) ∧
  (∃ (s : State) (n : Fin 8) (g : Fin 320) (v : W32), s.granted n.val (R.DCH_CFG.addr g.val 0) R.DCH_CFG g.val = true ∧
    s.ahead.wordCheck (s.session n.val).account R.DCH_CFG g.val (s.ahead.masked R.DCH_CFG g.val 0 v.toNat) v.toNat = 0) ∧
  (∃ (s : State) (n : Fin 8) (g : Fin 2) (v : W32), s.granted n.val (R.DOM_CFG.addr g.val 0) R.DOM_CFG g.val = true ∧
    s.ahead.wordCheck (s.session n.val).account R.DOM_CFG g.val (s.ahead.masked R.DOM_CFG g.val 0 v.toNat) v.toNat = 0) ∧
  (∃ (s : State) (n : Fin 8) (ch : Fin 320), s.granted n.val (R.DCH_CNT_CTRL.addr ch.val 0) R.DCH_CNT_CTRL ch.val = true ∧
    s.ahead.dCntCheck ch.val (ctrlWord 0x3C 1).toNat = 0) ∧
  (∃ (s : State) (n : Fin 8) (ch : Fin 320), s.granted n.val (R.DCH_CNT_CTRL.addr ch.val 0) R.DCH_CNT_CTRL ch.val = true ∧
    s.ahead.dCntCheck ch.val (ctrlWord 0x3C 2).toNat = 0) ∧
  (∃ (s : State) (n : Fin 8) (sl : Fin 10), s.granted n.val (R.DS_CTRL.addr sl.val 0) R.DS_CTRL sl.val = true) ∧
  (∃ (s : State) (n o : Nat) (sl : Fin 10), s.flag F.DS_LOAD_OVL_OFF sl.val = true) :=
  ⟨⟨st32, 0, (0x1001000), (0x4d), ({
           base := 16781312, s1 := 4096, n1 := 1, s2 := 4, n2 := 1, rst := 0, rstHi := 0, w64 := false, rw := 0, ro := 511,
           w1c := 16711680, wo := 0 }), 0, 0, by decide +kernel⟩,
   ⟨st32, 0, (0x1001000), (0x4d), ({
           base := 16781312, s1 := 4096, n1 := 1, s2 := 4, n2 := 1, rst := 0, rstHi := 0, w64 := false, rw := 0, ro := 511,
           w1c := 16711680, wo := 0 }), 0, 0, 0, by decide +kernel⟩,
   ⟨st32, 0, (0xa5), by decide +kernel⟩,
   ⟨st32, 0, 0, (0x4d), by decide +kernel⟩,
   ⟨st33, 0, 0, by decide +kernel⟩,
   ⟨st33, 0, 0, 0, by decide +kernel⟩,
   ⟨st33, 0, 0, by decide +kernel⟩,
   ⟨st33, 0, 0, 0, by decide +kernel⟩,
   ⟨st32, 0, 0, (0x4d), by decide +kernel⟩,
   ⟨st32, 0, 0, by decide +kernel⟩,
   ⟨st32, 0, 0, 0, by decide +kernel⟩,
   ⟨st32, 0, 0, by decide +kernel⟩,
   ⟨st32, 0, 0, by decide +kernel⟩,
   ⟨st32, 0, 0, by decide +kernel⟩,
   ⟨st34, 0, 0, 0, 0, by decide +kernel⟩,
   ⟨st35, 3, 0, 3, 0, ({
           value := 4, unforced := {Copy.init with value := 9, quality := 1, stamp := 5 }, stamp := 0, account := 3 }),
       by decide +kernel⟩,
   ⟨st32, 0, 0, 0, 0, by decide +kernel⟩,
   ⟨st32, 0, 0, (0x4d), by decide +kernel⟩,
   ⟨st32, 0, 0, 0, by decide +kernel⟩,
   ⟨st32, 0, 0, (0x4d), by decide +kernel⟩,
   ⟨st32, 0, 0, (0x4d), by decide +kernel⟩,
   ⟨st32, 0, 0, (0x4d), by decide +kernel⟩,
   ⟨st32, 0, 0, by decide +kernel⟩,
   ⟨st32, 0, 0, by decide +kernel⟩,
   ⟨st32, 0, 0, by decide +kernel⟩,
   ⟨st35, 0, 0, 3, by decide +kernel⟩⟩

theorem witness_RefusedAccessHasNoEffect :
  (∃ (s : State) (n : Fin 8) (a v : W32), (s.session n.val).opened = true ∧ s.alive = true ∧ s.limited a.toNat = false ∧
    (s.session n.val).map ≠ 2 ∧ regAt a.toNat = none) ∧
  (∃ (s : State) (n : Fin 8) (a v : W32), (s.session n.val).opened = true ∧ s.alive = true ∧ (s.limited a.toNat = true ∨
    (s.session n.val).map = 2)) ∧
  (∃ (s : State) (n : Fin 8) (a v : W32) (r : Reg) (i j : Nat), (s.session n.val).opened = true ∧ s.alive = true ∧ regAt
    a.toNat = some (r, i, j) ∧ (s.mayWrite (s.session n.val).account a.toNat r = false ∨ r.wr = 0 ∨ imageOnly r = true)) ∧
  (∃ (s : State) (n : Fin 8) (a : Nat) (e : Ecc), s.limited a = false ∧ regAt a = none) ∧
  (∃ (s : State) (n : Fin 8) (a v : W32), ((s.session n.val).opened = false ∨ s.alive = false)) :=
  ⟨⟨st32, 0, (0x4d), (0x4d), by decide +kernel⟩,
   ⟨st36, 0, (0x4d), (0x4d), by decide +kernel⟩,
   ⟨st32, 1, (0x1001000), (0x4d), ({
           base := 16781312, s1 := 4096, n1 := 1, s2 := 4, n2 := 1, rst := 0, rstHi := 0, w64 := false, rw := 0, ro := 511,
           w1c := 16711680, wo := 0 }), 0, 0, by decide +kernel⟩,
   ⟨st32, 0, 0, .clean, by decide +kernel⟩,
   ⟨st32, 2, (0x4d), (0x4d), by decide +kernel⟩⟩

theorem witness_TillControl :
  (∃ (s : State) (n a : Fin 8) (t : Fin 16), s.granted n.val (R.TILL_CMD.addr a.val t.val) R.TILL_CMD a.val = true ∧
    s.sessionEnd (s.session n.val).account a.val t.val false = true) ∧
  (∃ (s : State) (n a : Fin 8) (t : Fin 16), s.granted n.val (R.TILL_CMD.addr a.val t.val) R.TILL_CMD a.val = true ∧
    s.sessionEnd (s.session n.val).account a.val t.val false = true) ∧
  (∃ (s : State) (n a : Fin 8) (t : Fin 16), s.granted n.val (R.TILL_CMD.addr a.val t.val) R.TILL_CMD a.val = true ∧
    s.sessionEnd (s.session n.val).account a.val t.val false = true) ∧
  (∃ (s : State) (n a : Fin 8) (t : Fin 16) (e : Ecc), (s.session n.val).opened = true ∧ s.alive = true ∧ s.limited
    (R.TILL_DATA_LO.addr a.val t.val) = false ∧ s.sessionEnd (s.session n.val).account a.val t.val false = true ∧ e ≠ .double
    ∧ (s.till a.val t.val).rd ≠ (s.till a.val t.val).wr) ∧
  (∃ (s : State) (n a : Fin 8) (t : Fin 16), (s.session n.val).opened = true ∧ s.alive = true ∧ s.limited
    (R.TILL_DATA_LO.addr a.val t.val) = false ∧ s.sessionEnd (s.session n.val).account a.val t.val false = true ∧ (s.till
    a.val t.val).rd ≠ (s.till a.val t.val).wr) ∧
  (∃ (s : State) (n a : Fin 8) (t : Fin 16) (v : W32), (s.session n.val).opened = true ∧ s.alive = true ∧ s.limited
    (R.TILL_DATA_HI.addr a.val t.val) = false ∧ s.sessionEnd (s.session n.val).account a.val t.val false = true ∧ s.captureAt
    n.val (R.TILL_DATA_LO.addr a.val t.val) = some v) ∧
  (∃ (s : State) (n a : Fin 8) (t : Fin 16) (v : W32), s.granted n.val (R.TILL_DATA_LO.addr a.val t.val) R.TILL_DATA_LO
    a.val = true ∧ s.sessionEnd (s.session n.val).account a.val t.val true = true) ∧
  (∃ (s : State) (n a : Fin 8) (t : Fin 16) (v lo : W32), s.granted n.val (R.TILL_DATA_HI.addr a.val t.val) R.TILL_DATA_HI
    a.val = true ∧ s.sessionEnd (s.session n.val).account a.val t.val true = true ∧ s.heldAt n.val (R.TILL_DATA_LO.addr a.val
    t.val) = some lo ∧ s.tillFree a.val t.val ≠ 0) ∧
  (∃ (s : State) (e : TillError), e.pos < (s.tillSize e.account.val e.till.val) ∧ (e.pos + (s.tillSize e.account.val
    e.till.val) - (s.till e.account.val e.till.val).rel % (s.tillSize e.account.val e.till.val)) % (s.tillSize e.account.val
    e.till.val) < (s.till e.account.val e.till.val).wr - (s.till e.account.val e.till.val).rel) :=
  ⟨⟨st33, 0, 0, 0, by decide +kernel⟩,
   ⟨st33, 0, 0, 0, by decide +kernel⟩,
   ⟨st33, 0, 0, 0, by decide +kernel⟩,
   ⟨st33, 0, 0, 0, .clean, by decide +kernel⟩,
   ⟨st33, 0, 0, 0, by decide +kernel⟩,
   ⟨st33, 0, 0, 0, (0x4d), by decide +kernel⟩,
   ⟨st33, 0, 0, 2, (0x4d), by decide +kernel⟩,
   ⟨st37, 0, 0, 2, (0x4d), 5, by decide +kernel⟩,
   ⟨st33, ({ account := 0, till := 0, pos := 0, double := true }), by decide +kernel⟩⟩

theorem witness_EmptyAndFullTills :
  (∃ (s : State) (a t : Nat) (e : Ecc), (s.till a t).rd = (s.till a t).wr) ∧
  (∃ (s : State) (a t : Nat) (v : W64), s.tillFree a t = 0) ∧
  (∃ (s : State) (n a : Fin 8) (t : Fin 16) (v lo : W32), s.granted n.val (R.TILL_DATA_HI.addr a.val t.val) R.TILL_DATA_HI
    a.val = true ∧ s.sessionEnd (s.session n.val).account a.val t.val true = true ∧ s.heldAt n.val (R.TILL_DATA_LO.addr a.val
    t.val) = some lo ∧ s.tillFree a.val t.val = 0) :=
  ⟨⟨st32, 0, 0, .clean, by decide +kernel⟩,
   ⟨st32, 0, 0, 0, by decide +kernel⟩,
   ⟨st33, 0, 0, 2, (0x4d), 5, by decide +kernel⟩⟩

theorem witness_WindowsAndTheirClaims :
  (∃ (s : State) (n : Fin 8) (a v : W32) (r : Reg) (i j : Nat), regAt a.toNat = some (r, i, j) ∧ isWinAddr r = true ∧
    a.toNat = r.addr i 0 ∧ s.granted n.val a.toNat r i = true ∧ (r = R.NET_ISSUE_ADDR → v = 0 ∨ v = 0xFFFFFFFF)) ∧
  (∃ (s : State) (a : W32) (n : Nat), isClaimAddr a.toNat = true ∧ (s.window a.toNat).holder = some n) ∧
  (∃ (s : State) (n : Fin 8) (k : Fin 64) (v : W32), s.granted n.val (R.DATA_WIN_DATA.addr k.val 0) R.DATA_WIN_DATA k.val =
    true ∧ s.reg R.DATA_WIN_ADDR k.val < s.winBytes R.DATA_WIN_DATA k.val ∧ s.reg R.DATA_WIN_ADDR k.val / 4 % 2 = 0) ∧
  (∃ (s : State) (n : Fin 8) (k : Fin 64) (v lo : W32), s.granted n.val (R.DATA_WIN_DATA.addr k.val 0) R.DATA_WIN_DATA k.val
    = true ∧ s.reg R.DATA_WIN_ADDR k.val < s.winBytes R.DATA_WIN_DATA k.val ∧ s.reg R.DATA_WIN_ADDR k.val / 4 % 2 = 1 ∧
    s.heldAt n.val (winKey R.DATA_WIN_DATA k.val (s.reg R.DATA_WIN_ADDR k.val)) = some lo) ∧
  (∃ (s : State) (k : Fin 64) (w : Nat) (v : W64), (s.exec? k.val).isSome = true) ∧
  (∃ (s : State) (n a : Fin 8) (v lo : W32), s.granted n.val (R.SIG_WIN_DATA.addr a.val 0) R.SIG_WIN_DATA a.val = true ∧
    (s.reg R.SIG_WIN_ADDR a.val) < s.winBytes R.SIG_WIN_DATA a.val ∧ (s.reg R.SIG_WIN_ADDR a.val) / 4 % 2 = 1 ∧ (s.reg
    R.SIG_WIN_ADDR a.val) / 8 % 8 = 3 ∧ s.sig ((s.reg R.SIG_WIN_ADDR a.val) / 64) ≠ .init ∧ (s.sig ((s.reg R.SIG_WIN_ADDR
    a.val) / 64)).owner = a.val ∧ s.heldAt n.val (winKey R.SIG_WIN_DATA a.val (s.reg R.SIG_WIN_ADDR a.val)) = some lo) ∧
  (∃ (s : State) (n a : Fin 8) (v : W32), s.granted n.val (R.FORCE_SIGNAL.addr a.val 0) R.FORCE_SIGNAL a.val = true ∧
    s.rangeOk R.FORCE_SIGNAL a.val v.toNat = true ∧ v ≠ 0xFFFFFFFF) ∧
  (∃ (s : State) (n a : Fin 8) (v : W32), s.granted n.val (R.FIRE_LIST_ADDR.addr a.val 0) R.FIRE_LIST_ADDR a.val = true ∧ v
    ≠ 0xFFFFFFFF) ∧
  (∃ (s : State) (n a : Fin 8) (v : W32), s.granted n.val (R.NET_ISSUE_DATA.addr a.val 0) R.NET_ISSUE_DATA a.val = true ∧
    s.reg R.NET_ISSUE_ADDR a.val < s.winBytes R.NET_ISSUE_DATA a.val ∧ s.reg R.NET_ISSUE_ADDR a.val / 4 % 2 = 0) ∧
  (∃ (s : State) (n a : Fin 8) (v lo : W32), s.granted n.val (R.NET_ISSUE_DATA.addr a.val 0) R.NET_ISSUE_DATA a.val = true ∧
    s.reg R.NET_ISSUE_ADDR a.val < s.winBytes R.NET_ISSUE_DATA a.val ∧ s.reg R.NET_ISSUE_ADDR a.val / 4 % 2 = 1 ∧ s.heldAt
    n.val (winKey R.NET_ISSUE_DATA a.val (s.reg R.NET_ISSUE_ADDR a.val)) = some lo) ∧
  (∃ (s : State) (n a : Fin 8), (s.session n.val).opened = true ∧ s.alive = true ∧ s.limited (R.SIG_WIN_DATA.addr a.val 0) =
    false ∧ s.mayRead (s.session n.val).account (R.SIG_WIN_DATA.addr a.val 0) = true ∧ s.claimed n.val R.SIG_WIN_DATA a.val =
    false ∧ s.owes n.val (R.SIG_WIN_ADDR.addr a.val 0) = false ∧ s.reg R.SIG_WIN_ADDR a.val < 64 * 131072 ∧ ((s.session
    n.val).account = 0 ∨ (s.sig (s.reg R.SIG_WIN_ADDR a.val / 64)).owner = (s.session n.val).account ∨ (s.sig (s.reg
    R.SIG_WIN_ADDR a.val / 64)).shared = true)) :=
  ⟨⟨st32, 0, (0x6200000), (0x4d), ({
           base := 102760448, s1 := 4096, n1 := 8, s2 := 4, n2 := 1, rst := 0, rstHi := 0, w64 := false, rw := 4294967295,
           ro := 0, w1c := 0, wo := 0 }), 0, 0, by decide +kernel⟩,
   ⟨st38, (0x6200000), 1, by decide +kernel⟩,
   ⟨st38, 0, 3, (0x4d), by decide +kernel⟩,
   ⟨st39, 0, 3, (0x4d), 5, by decide +kernel⟩,
   ⟨st35, 3, 0, 0, by decide +kernel⟩,
   ⟨st39, 0, 0, (0x4d), 8, by decide +kernel⟩,
   ⟨st32, 0, 0, (0x4d), by decide +kernel⟩,
   ⟨st32, 0, 0, (0x4d), by decide +kernel⟩,
   ⟨st32, 0, 0, (0x4d), by decide +kernel⟩,
   ⟨st34, 0, 0, (0x4d), 5, by decide +kernel⟩,
   ⟨st32, 0, 0, by decide +kernel⟩⟩

theorem witness_SessionsOpenAndClose :
  (∃ (s : State) (f : Frame) (n : Fin 8), s.hears f = true ∧ mOp (words32 f.body) = 1 ∧ s.phase ≠ .unconfigured ∧
    s.openCheck (mgmtOrigin f) (bits (((words32 f.body).getD 4 0).toNat) 2 0) (bits (((words32 f.body).getD 4 0).toNat) 15 8)
    = 0 ∧ (List.range 8).find? (fun n => !(s.session n).opened && !(s.session n).awaiting) = some n.val) ∧
  (∃ (s : State) (f : Frame), s.hears f = true ∧ mOp (words32 f.body) = 2 ∧ (mSession (words32 f.body)) < 8 ∧ (s.session
    (mSession (words32 f.body))).awaiting = true ∧ (s.session (mSession (words32 f.body))).source = mgmtOrigin f) ∧
  (∃ (s : State) (f : Frame) (n : Fin 8), s.hears f = true ∧ opIs f 7 = true ∧ s.counts f n.val = true) ∧
  (∃ (s : State) (n : Fin 8), (s.session n.val).opened = true ∧ (s.session n.val).since + 60000000 ≤ s.tick) ∧
  (∃ (s : State) (n : Fin 8), ((s.session n.val).opened = false ∨ s.tick < (s.session n.val).since + 60000000)) ∧
  (∃ (s : State) (n : Fin 8), (s.session n.val).awaiting = true ∧ (s.session n.val).since + 10000000 ≤ s.tick) ∧
  (∃ (s : State) (n : Fin 8), ((s.session n.val).awaiting = false ∨ s.tick < (s.session n.val).since + 10000000)) ∧
  (∃ (s : State) (src : Fin 4096), s.tick < (nget Lockout.init s.mgmt.lockouts src.val).since + 60000000) ∧
  (∃ (s : State) (src : Fin 4096), (nget Lockout.init s.mgmt.lockouts src.val).since + 60000000 ≤ s.tick) :=
  ⟨⟨st34, ({
           port := 1, fcs := true, etherType := 0x88b5, version := 3, kind := 6, flags := 0, hops := 0, source := 9,
           dest := 7, inst := 0, bodyLen := 0x30, zero := 0,
           body := [0, 0, 0, 1, 7, 0, 0, 0, 0, 0, 0, 0, 0, 0, 0, 0, 3, 3, 0, 0, 0, 0, 0, 0, 0, 0, 0, 0, 0, 0, 0, 0, 0, 0, 0,
               0, 0, 0, 0, 0, 0, 0, 0, 0, 0, 0, 0, 0], seqNr := 1 }), 1, by decide +kernel⟩,
   ⟨st32, ({
           port := 4, fcs := true, etherType := 0x88b5, version := 3, kind := 6, flags := 0, hops := 0, source := 0,
           dest := 0, inst := 0, bodyLen := 0x30, zero := 0,
           body := [0, 0, 2, 2, 7, 0, 0, 0, 0, 0, 0, 0, 0, 0, 0, 0, 1, 0, 0, 0, 2, 0, 0, 0, 0, 0, 0, 0, 0, 0, 0, 0, 0, 0, 0,
               0, 0, 0, 0, 0, 0, 0, 0, 0, 0, 0, 0, 0], seqNr := 0 }), by decide +kernel⟩,
   ⟨st32, ({
           port := 4, fcs := true, etherType := 0x88b5, version := 3, kind := 6, flags := 0, hops := 0, source := 0,
           dest := 0, inst := 0, bodyLen := 0x30, zero := 0,
           body := [0, 0, 4, 7, 3, 0, 0, 0, 0, 0, 0, 0, 0, 0, 0, 0, 0, 0, 0, 0, 0, 0, 0, 0, 0, 0, 0, 0, 0, 0, 0, 0, 0, 0, 0,
               0, 0, 0, 0, 0, 0, 0, 0, 0, 0, 0, 0, 0], seqNr := 0 }), 4, by decide +kernel⟩,
   ⟨st40, 0, by decide +kernel⟩,
   ⟨st32, 0, by decide +kernel⟩,
   ⟨st40, 2, by decide +kernel⟩,
   ⟨st32, 0, by decide +kernel⟩,
   ⟨st32, 0, by decide +kernel⟩,
   ⟨st40, 0, by decide +kernel⟩⟩

theorem witness_SessionFramesAreAnswered :
  (∃ (s : State) (f : Frame) (n : Fin 8) (ecc : List Ecc), s.hears f = true ∧ opIs f 3 = true ∧ s.counts f n.val = true) ∧
  (∃ (s : State) (f : Frame) (n : Fin 8), s.hears f = true ∧ opIs f 4 = true ∧ s.counts f n.val = true) ∧
  (∃ (s : State) (f : Frame) (n : Fin 8) (ecc : List Ecc), s.hears f = true ∧ opIs f 5 = true ∧ s.counts f n.val = true) ∧
  (∃ (s : State) (f : Frame) (n : Fin 8), s.hears f = true ∧ opIs f 6 = true ∧ s.counts f n.val = true) :=
  ⟨⟨st32, ({
           port := 4, fcs := true, etherType := 0x88b5, version := 3, kind := 6, flags := 0, hops := 0, source := 0,
           dest := 0, inst := 0, bodyLen := 0x30, zero := 0,
           body := [2, 0, 4, 3, 3, 0, 0, 0, 0, 0x10, 0, 1, 0, 0, 0, 0, 0, 0, 0, 0, 0, 0, 0, 0, 0, 0, 0, 0, 0, 0, 0, 0, 0, 0,
               0, 0, 0, 0, 0, 0, 0, 0, 0, 0, 0, 0, 0, 0], seqNr := 0 }), 4, ([]), by decide +kernel⟩,
   ⟨st32, ({
           port := 4, fcs := true, etherType := 0x88b5, version := 3, kind := 6, flags := 0, hops := 0, source := 0,
           dest := 0, inst := 0, bodyLen := 0x30, zero := 0,
           body := [2, 0, 4, 4, 3, 0, 0, 0, 0, 0x10, 0, 1, 0, 0, 0, 0, 1, 0, 0, 0, 2, 0, 0, 0, 0, 0, 0, 0, 0, 0, 0, 0, 0, 0,
               0, 0, 0, 0, 0, 0, 0, 0, 0, 0, 0, 0, 0, 0], seqNr := 0 }), 4, by decide +kernel⟩,
   ⟨st32, ({
           port := 4, fcs := true, etherType := 0x88b5, version := 3, kind := 6, flags := 0, hops := 0, source := 0,
           dest := 0, inst := 0, bodyLen := 0x30, zero := 0,
           body := [3, 0, 4, 5, 8, 0, 0, 0, 0, 0x10, 0, 1, 0, 0, 0, 0, 0, 0, 0, 0, 0, 0, 0, 0, 0, 0, 0, 0, 0, 0, 0, 0, 0, 0,
               0, 0, 0, 0, 0, 0, 0, 0, 0, 0, 0, 0, 0, 0], seqNr := 0 }), 4, ([]), by decide +kernel⟩,
   ⟨st32, ({
           port := 4, fcs := true, etherType := 0x88b5, version := 3, kind := 6, flags := 0, hops := 0, source := 0,
           dest := 0, inst := 0, bodyLen := 0x30, zero := 0,
           body := [3, 0, 4, 6, 8, 0, 0, 0, 0x10, 0, 0x10, 8, 0, 0, 0, 0, 1, 0, 0, 0, 1, 0, 0, 0, 1, 0, 0, 0, 0, 0, 0, 0, 0,
               0, 0, 0, 0, 0, 0, 0, 0, 0, 0, 0, 0, 0, 0, 0], seqNr := 0 }), 4, by decide +kernel⟩⟩

theorem witness_UnknownOpAnsweredRange :
  ∃ (s : State) (f : Frame) (n : Fin 8), s.hears f = true ∧ opUnknown f = true ∧ s.counts f n.val = true :=
  ⟨st32, ({
          port := 4, fcs := true, etherType := 0x88b5, version := 3, kind := 6, flags := 0, hops := 0, source := 0, dest := 0,
          inst := 0, bodyLen := 0x30, zero := 0,
          body := [3, 0, 4, 9, 8, 0, 0, 0, 0, 0, 0, 0, 0, 0, 0, 0, 0, 0, 0, 0, 0, 0, 0, 0, 0, 0, 0, 0, 0, 0, 0, 0, 0, 0, 0, 0,
              0, 0, 0, 0, 0, 0, 0, 0, 0, 0, 0, 0], seqNr := 0 }), 4, by decide +kernel⟩

theorem witness_AccountResetCompletes :
  ∃ (s : State) (a : Fin 8), s.acctState a.val = aResetting :=
  ⟨st41, 3, by decide +kernel⟩

theorem witness_WheelControlFlow :
  (∃ (c : Ctx) (l : Fin 16), c.fetched l.val 0x00) ∧
  (∃ (c : Ctx) (l : Fin 16) (ns : Nat) (same : Bool), c.fetched l.val 0x01 ∧ c.ex.lanes.length = 1) ∧
  (∃ (c : Ctx) (l : Fin 16) (ns : Nat) (same : Bool), c.fetched l.val 0x01 ∧ 1 < c.ex.lanes.length ∧ c.quiet ∧
    (c.ex.lanes.getD (1 - c.copy) .init).ended = false) ∧
  (∃ (c : Ctx) (l : Fin 16) (ns : Nat) (same : Bool), c.fetched l.val 0x01 ∧ c.ex.lanes.length = 2 ∧ (c.ex.lanes.getD (1 -
    c.copy) .init).ended = true ∧ (c.ex.lanes.getD (1 - c.copy) .init).dead = none ∧ (c.ex.lanes.getD (1 - c.copy)
    .init).points = [.done]) ∧
  (∃ (c : Ctx) (l : Fin 16), c.fetched l.val 0x02 ∧ iOpnd c.word < c.codeWords) ∧
  (∃ (c : Ctx) (l : Fin 16), c.fetched l.val 0x03 ∧ iOpnd c.word < c.codeWords) ∧
  (∃ (c : Ctx) (l : Fin 16), c.fetched l.val 0x04 ∧ iOpnd c.word < c.codeWords) ∧
  (∃ (c : Ctx) (l : Fin 16), c.fetched l.val 0x05 ∧ iOpnd c.word < c.codeWords ∧ c.lane.cs.length < 8) ∧
  (∃ (c : Ctx) (l : Fin 16) (r : BitVec 16) (rs : List (BitVec 16)), c.fetched l.val 0x06 ∧ c.lane.cs = r :: rs) ∧
  (∃ (c : Ctx) (l : Fin 16), c.fetched l.val 0x07 ∧ c.quiet ∧ c.lane.handler = false ∧ c.s.fld F.PROG_ENTRY_TRAP_VEC c.ex.k
    ≠ 0xFFFF) ∧
  (∃ (c : Ctx) (l : Fin 16), c.fetched l.val 0x08 ∧ c.lane.handler = true) ∧
  (∃ (c : Ctx) (l : Fin 16), c.fetched l.val 0x09 ∧ iOpnd c.word < c.codeWords) ∧
  (∃ (c : Ctx) (l : Fin 16), c.s.running l.val = some (c.ex, c.copy) ∧ c.s.exec? c.ex.k = some c.ex ∧ c.copy <
    c.ex.lanes.length ∧ c.lane = c.ex.lanes.getD c.copy .init ∧ c.lane.ended = false ∧ c.lane.dead = none ∧ iLegal (nget 0
    c.s.image.code (65536 * c.ex.k + c.lane.pc.toNat)) = false ∧ c.lane.pc.toNat < c.codeWords ∧ c.quiet ∧ c.lane.handler =
    false ∧ c.s.fld F.PROG_ENTRY_TRAP_VEC c.ex.k ≠ 0xFFFF) :=
  ⟨⟨(wheelCtx 3 2 0 0 lane0 65535 0), 2, by decide +kernel⟩,
   ⟨(wheelCtx 3 2 0 0x1000000 lane0 65535 0), 2, 0, (true), by decide +kernel⟩,
   ⟨(wheelCtx 6 7 0 0x1000000 lane1 65535 0), 14, 0, (true), by decide +kernel⟩,
   ⟨(wheelCtx 6 7 0 0x1000000 lane0 65535 0), 14, 0, (true), by decide +kernel⟩,
   ⟨(wheelCtx 3 2 0 0x2000000 lane0 65535 0), 2, by decide +kernel⟩,
   ⟨(wheelCtx 3 2 0 0x3000000 lane0 65535 0), 2, by decide +kernel⟩,
   ⟨(wheelCtx 3 2 0 0x4000000 lane0 65535 0), 2, by decide +kernel⟩,
   ⟨(wheelCtx 3 2 0 0x5000000 lane0 65535 0), 2, by decide +kernel⟩,
   ⟨(wheelCtx 3 2 0 0x6000000 lane2 65535 0), 2, 5, ([6]), by decide +kernel⟩,
   ⟨(wheelCtx 3 2 0 0x7000000 lane0 8 0xff), 2, by decide +kernel⟩,
   ⟨(wheelCtx 3 2 0 0x8000000 lane2 65535 0), 2, by decide +kernel⟩,
   ⟨(wheelCtx 3 2 0 0x9000000 lane0 65535 0), 2, by decide +kernel⟩,
   ⟨(wheelCtx 3 2 0 3 lane0 8 0xff), 2, by decide +kernel⟩⟩

theorem witness_WheelBooleanAndLoads :
  (∃ (c : Ctx) (l : Fin 16) (v : W64), c.fetched l.val 0x10 ∧ c.src false = .ok v) ∧
  (∃ (c : Ctx) (l : Fin 16) (v : W64), c.fetched l.val 0x11 ∧ c.src false = .ok v) ∧
  (∃ (c : Ctx) (l : Fin 16) (v : W64), c.fetched l.val 0x12 ∧ c.src false = .ok v) ∧
  (∃ (c : Ctx) (l : Fin 16) (v : W64), c.fetched l.val 0x13 ∧ c.src false = .ok v) ∧
  (∃ (c : Ctx) (l : Fin 16) (v : W64), c.fetched l.val 0x14 ∧ c.src false = .ok v) ∧
  (∃ (c : Ctx) (l : Fin 16) (v : W64), c.fetched l.val 0x15 ∧ c.src false = .ok v) ∧
  (∃ (c : Ctx) (l : Fin 16) (v : W64), c.fetched l.val 0x16 ∧ c.src false = .ok v) ∧
  (∃ (c : Ctx) (l : Fin 16), c.fetched l.val 0x17) ∧
  (∃ (c : Ctx) (l : Fin 16), c.fetched l.val 0x1A ∧ c.lane.bs.length < 16) ∧
  (∃ (c : Ctx) (l : Fin 16) (p : Bool) (bs : List Bool), c.fetched l.val 0x1B ∧ c.lane.bs = p :: bs) ∧
  (∃ (c : Ctx) (l : Fin 16) (p : Bool) (bs : List Bool), c.fetched l.val 0x1C ∧ c.lane.bs = p :: bs) ∧
  (∃ (c : Ctx) (l : Fin 16) (p : Bool) (bs : List Bool), c.fetched l.val 0x1D ∧ c.lane.bs = p :: bs) ∧
  (∃ (c : Ctx) (l : Fin 16) (p : Bool) (bs : List Bool), c.fetched l.val 0x1E ∧ c.lane.bs = p :: bs) ∧
  (∃ (c : Ctx) (l : Fin 16), c.fetched l.val 0x1F) ∧
  (∃ (c : Ctx) (l : Fin 16), c.fetched l.val 0x20 ∧ iMode c.word = 0) ∧
  (∃ (c : Ctx) (l : Fin 16), c.fetched l.val 0x20 ∧ iMode c.word = 1 ∧ iOpnd c.word < c.dataWords) ∧
  (∃ (c : Ctx) (l : Fin 16), c.fetched l.val 0x20 ∧ iMode c.word = 2 ∧ iOpnd c.word + (c.lane.xr (iXs c.word)).toNat <
    c.dataWords) ∧
  (∃ (c : Ctx) (l : Fin 16) (n : Nat), c.fetched l.val 0x20 ∧ iMode c.word = 3 ∧ c.slotNo = some n) ∧
  (∃ (c : Ctx) (l : Fin 16), c.fetched l.val 0x21) :=
  ⟨⟨(wheelCtx 3 2 0 0x10000000 lane0 65535 0), 2, 0, by decide +kernel⟩,
   ⟨(wheelCtx 3 2 0 0x11000000 lane0 65535 0), 2, 0, by decide +kernel⟩,
   ⟨(wheelCtx 3 2 0 0x12000000 lane0 65535 0), 2, 0, by decide +kernel⟩,
   ⟨(wheelCtx 3 2 0 0x13000000 lane0 65535 0), 2, 0, by decide +kernel⟩,
   ⟨(wheelCtx 3 2 0 0x14000000 lane0 65535 0), 2, 0, by decide +kernel⟩,
   ⟨(wheelCtx 3 2 0 0x15000000 lane0 65535 0), 2, 0, by decide +kernel⟩,
   ⟨(wheelCtx 3 2 0 0x16000000 lane0 65535 0), 2, 0, by decide +kernel⟩,
   ⟨(wheelCtx 3 2 0 0x17000000 lane0 65535 0), 2, by decide +kernel⟩,
   ⟨(wheelCtx 3 2 0 0x1a000000 lane0 65535 0), 2, by decide +kernel⟩,
   ⟨(wheelCtx 3 2 0 0x1b000000 lane2 65535 0), 2, (false), ([true]), by decide +kernel⟩,
   ⟨(wheelCtx 3 2 0 0x1c000000 lane2 65535 0), 2, (false), ([true]), by decide +kernel⟩,
   ⟨(wheelCtx 3 2 0 0x1d000000 lane2 65535 0), 2, (false), ([true]), by decide +kernel⟩,
   ⟨(wheelCtx 3 2 0 0x1e000000 lane2 65535 0), 2, (false), ([true]), by decide +kernel⟩,
   ⟨(wheelCtx 3 2 0 0x1f000000 lane0 65535 0), 2, by decide +kernel⟩,
   ⟨(wheelCtx 3 2 0 0x20000000 lane0 65535 0), 2, by decide +kernel⟩,
   ⟨(wheelCtx 3 2 0 0x20400005 lane0 65535 0), 2, by decide +kernel⟩,
   ⟨(wheelCtx 3 2 0 0x20900010 lane0 65535 0), 2, by decide +kernel⟩,
   ⟨(wheelCtx 3 2 0 0x20c00000 lane0 65535 0), 2, 0, by decide +kernel⟩,
   ⟨(wheelCtx 3 2 0 0x21000000 lane0 65535 0), 2, by decide +kernel⟩⟩

theorem witness_WheelStores :
  (∃ (c : Ctx) (l : Fin 16) (a : Nat), c.fetched l.val 0x18 ∧ iMode c.word ≠ 3 ∧ c.addr 1 = some a) ∧
  (∃ (c : Ctx) (l : Fin 16) (a : Nat), c.fetched l.val 0x19 ∧ iMode c.word ≠ 3 ∧ c.addr 1 = some a) ∧
  (∃ (c : Ctx) (l : Fin 16) (a : Nat), c.fetched l.val 0x22 ∧ iMode c.word ≠ 3 ∧ c.addr 1 = some a) ∧
  (∃ (c : Ctx) (l : Fin 16) (a : Nat), c.fetched l.val 0x61 ∧ c.addr 1 = some a) ∧
  (∃ (c : Ctx) (l : Fin 16) (n : Nat), c.fetched l.val 0x22 ∧ iMode c.word = 3 ∧ c.slotNo = some n ∧ (c.s.slot c.ex.k n).out
    = true ∧ c.quiet ∧ deltaSize (deltaPut (⟨n, (c.s.slot c.ex.k n).sig, c.lane.wa, c.lane.ftMode, c.lane.ftTime⟩)
    c.lane.delta) ≤ 2048) ∧
  (∃ (c : Ctx) (l : Fin 16) (n : Nat), c.fetched l.val 0x18 ∧ iMode c.word = 3 ∧ c.slotNo = some n ∧ (c.s.slot c.ex.k n).out
    = true ∧ c.quiet ∧ (deltaSize (deltaPut (⟨n, (c.s.slot c.ex.k n).sig, if c.lane.ba then 1 else 0, c.lane.ftMode,
    c.lane.ftTime⟩) c.lane.delta) ≤ 2048)) ∧
  (∃ (c : Ctx) (l : Fin 16) (n : Nat), c.fetched l.val 0x19 ∧ iMode c.word = 3 ∧ c.slotNo = some n ∧ (c.s.slot c.ex.k n).out
    = true ∧ c.quiet ∧ (deltaSize (deltaPut (⟨n, (c.s.slot c.ex.k n).sig, if c.lane.ba then 0 else 1, c.lane.ftMode,
    c.lane.ftTime⟩) c.lane.delta) ≤ 2048)) :=
  ⟨⟨(wheelCtx 3 2 0 0x18400005 lane0 65535 0), 2, 5, by decide +kernel⟩,
   ⟨(wheelCtx 3 2 0 0x19400005 lane0 65535 0), 2, 5, by decide +kernel⟩,
   ⟨(wheelCtx 3 2 0 0x22400005 lane0 65535 0), 2, 5, by decide +kernel⟩,
   ⟨(wheelCtx 3 2 0 0x61400005 lane0 65535 0), 2, 5, by decide +kernel⟩,
   ⟨(wheelCtx 3 2 0 0x22c00001 lane0 65535 0), 2, 1, by decide +kernel⟩,
   ⟨(wheelCtx 3 2 0 0x18c00001 lane0 65535 0), 2, 1, by decide +kernel⟩,
   ⟨(wheelCtx 3 2 0 0x19c00001 lane0 65535 0), 2, 1, by decide +kernel⟩⟩

theorem witness_WheelIntegerArithmetic :
  (∃ (c : Ctx) (l : Fin 16) (b : W64), c.fetched l.val 0x23 ∧ c.src false = .ok b ∧ c.ex.mask.getLsbD 0 = false) ∧
  (∃ (c : Ctx) (l : Fin 16) (b : W64), c.fetched l.val 0x24 ∧ c.src false = .ok b ∧ c.ex.mask.getLsbD 0 = false) ∧
  (∃ (c : Ctx) (l : Fin 16) (b : W64), c.fetched l.val 0x25 ∧ c.src false = .ok b ∧ c.ex.mask.getLsbD 0 = false) ∧
  (∃ (c : Ctx) (l : Fin 16) (b : W64), c.fetched l.val 0x26 ∧ c.src false = .ok b ∧ c.ex.mask.getLsbD 0 = false ∧
    c.ex.mask.getLsbD 1 = false) ∧
  (∃ (c : Ctx) (l : Fin 16) (b : W64), c.fetched l.val 0x27 ∧ c.src false = .ok b ∧ c.ex.mask.getLsbD 1 = false) ∧
  (∃ (c : Ctx) (l : Fin 16) (b : W64), c.fetched l.val 0x28 ∧ c.src false = .ok b) ∧
  (∃ (c : Ctx) (l : Fin 16) (b : W64), c.fetched l.val 0x29 ∧ c.src false = .ok b) ∧
  (∃ (c : Ctx) (l : Fin 16) (b : W64), c.fetched l.val 0x2A ∧ c.src false = .ok b) ∧
  (∃ (c : Ctx) (l : Fin 16) (b : W64), c.fetched l.val 0x2B ∧ c.src false = .ok b) ∧
  (∃ (c : Ctx) (l : Fin 16) (b : W64), c.fetched l.val 0x2C ∧ c.src false = .ok b) ∧
  (∃ (c : Ctx) (l : Fin 16) (b : W64), c.fetched l.val 0x2D ∧ c.src false = .ok b) ∧
  (∃ (c : Ctx) (l : Fin 16), c.fetched l.val 0x2E ∧ c.ex.mask.getLsbD 0 = false) ∧
  (∃ (c : Ctx) (l : Fin 16), c.fetched l.val 0x2F ∧ c.ex.mask.getLsbD 0 = false) ∧
  (∃ (c : Ctx) (l : Fin 16) (b : W64), c.fetched l.val 0x30 ∧ c.src false = .ok b) ∧
  (∃ (c : Ctx) (l : Fin 16) (b : W64), c.fetched l.val 0x31 ∧ c.src false = .ok b) ∧
  (∃ (c : Ctx) (l : Fin 16) (b : W64), c.fetched l.val 0x32 ∧ c.src false = .ok b) ∧
  (∃ (c : Ctx) (l : Fin 16) (b : W64), c.fetched l.val 0x33 ∧ c.src false = .ok b) ∧
  (∃ (c : Ctx) (l : Fin 16) (b : W64), c.fetched l.val 0x34 ∧ c.src false = .ok b) ∧
  (∃ (c : Ctx) (l : Fin 16) (b : W64), c.fetched l.val 0x35 ∧ c.src false = .ok b) ∧
  (∃ (c : Ctx) (l : Fin 16) (b : W64), c.fetched l.val 0x36 ∧ c.src false = .ok b) ∧
  (∃ (c : Ctx) (l : Fin 16) (b : W64), c.fetched l.val 0x37 ∧ c.src false = .ok b) :=
  ⟨⟨(wheelCtx 3 2 0 0x23000000 lane0 65535 0), 2, 0, by decide +kernel⟩,
   ⟨(wheelCtx 3 2 0 0x24000000 lane0 65535 0), 2, 0, by decide +kernel⟩,
   ⟨(wheelCtx 3 2 0 0x25000000 lane0 65535 0), 2, 0, by decide +kernel⟩,
   ⟨(wheelCtx 3 2 0 0x26000000 lane0 65535 0), 2, 0, by decide +kernel⟩,
   ⟨(wheelCtx 3 2 0 0x27000000 lane0 65535 0), 2, 0, by decide +kernel⟩,
   ⟨(wheelCtx 3 2 0 0x28000000 lane0 65535 0), 2, 0, by decide +kernel⟩,
   ⟨(wheelCtx 3 2 0 0x29000000 lane0 65535 0), 2, 0, by decide +kernel⟩,
   ⟨(wheelCtx 3 2 0 0x2a000000 lane0 65535 0), 2, 0, by decide +kernel⟩,
   ⟨(wheelCtx 3 2 0 0x2b000000 lane0 65535 0), 2, 0, by decide +kernel⟩,
   ⟨(wheelCtx 3 2 0 0x2c000000 lane0 65535 0), 2, 0, by decide +kernel⟩,
   ⟨(wheelCtx 3 2 0 0x2d000000 lane0 65535 0), 2, 0, by decide +kernel⟩,
   ⟨(wheelCtx 3 2 0 0x2e000000 lane0 65535 0), 2, by decide +kernel⟩,
   ⟨(wheelCtx 3 2 0 0x2f000000 lane0 65535 0), 2, by decide +kernel⟩,
   ⟨(wheelCtx 3 2 0 0x30000000 lane0 65535 0), 2, 0, by decide +kernel⟩,
   ⟨(wheelCtx 3 2 0 0x31000000 lane0 65535 0), 2, 0, by decide +kernel⟩,
   ⟨(wheelCtx 3 2 0 0x32000000 lane0 65535 0), 2, 0, by decide +kernel⟩,
   ⟨(wheelCtx 3 2 0 0x33000000 lane0 65535 0), 2, 0, by decide +kernel⟩,
   ⟨(wheelCtx 3 2 0 0x34000000 lane0 65535 0), 2, 0, by decide +kernel⟩,
   ⟨(wheelCtx 3 2 0 0x35000000 lane0 65535 0), 2, 0, by decide +kernel⟩,
   ⟨(wheelCtx 3 2 0 0x36000000 lane0 65535 0), 2, 0, by decide +kernel⟩,
   ⟨(wheelCtx 3 2 0 0x37000000 lane0 65535 0), 2, 0, by decide +kernel⟩⟩

theorem witness_WheelFloatArithmetic :
  let free (c : Ctx) : Prop := c.ex.mask.getLsbD 2 = false ∧ c.ex.mask.getLsbD 3 = false ∧ c.ex.mask.getLsbD 4 = false
  (∃ (c : Ctx) (l : Fin 16) (b : W64), c.fetched l.val 0x40 ∧ c.src true = .ok b ∧ free c) ∧
  (∃ (c : Ctx) (l : Fin 16) (b : W64), c.fetched l.val 0x41 ∧ c.src true = .ok b ∧ free c) ∧
  (∃ (c : Ctx) (l : Fin 16) (b : W64), c.fetched l.val 0x42 ∧ c.src true = .ok b ∧ free c) ∧
  (∃ (c : Ctx) (l : Fin 16) (b : W64), c.fetched l.val 0x43 ∧ c.src true = .ok b ∧ free c) ∧
  (∃ (c : Ctx) (l : Fin 16) (b : W64), c.fetched l.val 0x44 ∧ c.src true = .ok b ∧ free c) ∧
  (∃ (c : Ctx) (l : Fin 16) (b : W64), c.fetched l.val 0x45 ∧ c.src true = .ok b ∧ free c) ∧
  (∃ (c : Ctx) (l : Fin 16), c.fetched l.val 0x46 ∧ free c) ∧
  (∃ (c : Ctx) (l : Fin 16), c.fetched l.val 0x47) ∧
  (∃ (c : Ctx) (l : Fin 16), c.fetched l.val 0x48) ∧
  (∃ (c : Ctx) (l : Fin 16), c.fetched l.val 0x49 ∧ free c) ∧
  (∃ (c : Ctx) (l : Fin 16), c.fetched l.val 0x4A ∧ free c) ∧
  (∃ (c : Ctx) (l : Fin 16) (b : W64), c.fetched l.val 0x4B ∧ c.src true = .ok b ∧ free c) ∧
  (∃ (c : Ctx) (l : Fin 16) (b : W64), c.fetched l.val 0x4C ∧ c.src true = .ok b ∧ free c) ∧
  (∃ (c : Ctx) (l : Fin 16) (b : W64), c.fetched l.val 0x4D ∧ c.src true = .ok b ∧ free c) ∧
  (∃ (c : Ctx) (l : Fin 16) (b : W64), c.fetched l.val 0x4E ∧ c.src true = .ok b ∧ free c) ∧
  (∃ (c : Ctx) (l : Fin 16) (b : W64), c.fetched l.val 0x4F ∧ c.src true = .ok b ∧ free c) ∧
  (∃ (c : Ctx) (l : Fin 16) (b : W64), c.fetched l.val 0x50 ∧ c.src true = .ok b ∧ free c) :=
  ⟨⟨(wheelCtx 3 2 0 0x40000000 lane0 65535 0), 2, 0, by decide +kernel⟩,
   ⟨(wheelCtx 3 2 0 0x41000000 lane0 65535 0), 2, 0, by decide +kernel⟩,
   ⟨(wheelCtx 3 2 0 0x42000000 lane0 65535 0), 2, 0, by decide +kernel⟩,
   ⟨(wheelCtx 3 2 0 0x43000000 lane0 65535 0), 2, 0, by decide +kernel⟩,
   ⟨(wheelCtx 3 2 0 0x44000000 lane0 65535 0), 2, 0, by decide +kernel⟩,
   ⟨(wheelCtx 3 2 0 0x45000000 lane0 65535 0), 2, 0, by decide +kernel⟩,
   ⟨(wheelCtx 3 2 0 0x46000000 lane0 65535 0), 2, by decide +kernel⟩,
   ⟨(wheelCtx 3 2 0 0x47000000 lane0 65535 0), 2, by decide +kernel⟩,
   ⟨(wheelCtx 3 2 0 0x48000000 lane0 65535 0), 2, by decide +kernel⟩,
   ⟨(wheelCtx 3 2 0 0x49000000 lane0 65535 0), 2, by decide +kernel⟩,
   ⟨(wheelCtx 3 2 0 0x4a000000 lane0 65535 0), 2, by decide +kernel⟩,
   ⟨(wheelCtx 3 2 0 0x4b000000 lane0 65535 0), 2, 0, by decide +kernel⟩,
   ⟨(wheelCtx 3 2 0 0x4c000000 lane0 65535 0), 2, 0, by decide +kernel⟩,
   ⟨(wheelCtx 3 2 0 0x4d000000 lane0 65535 0), 2, 0, by decide +kernel⟩,
   ⟨(wheelCtx 3 2 0 0x4e000000 lane0 65535 0), 2, 0, by decide +kernel⟩,
   ⟨(wheelCtx 3 2 0 0x4f000000 lane0 65535 0), 2, 0, by decide +kernel⟩,
   ⟨(wheelCtx 3 2 0 0x50000000 lane0 65535 0), 2, 0, by decide +kernel⟩⟩

theorem witness_WheelIndexVectorAndMisc :
  (∃ (c : Ctx) (l : Fin 16) (v : W64), c.fetched l.val 0x60 ∧ c.src false = .ok v) ∧
  (∃ (c : Ctx) (l : Fin 16), c.fetched l.val 0x62) ∧
  (∃ (c : Ctx) (l : Fin 16), c.fetched l.val 0x63) ∧
  (∃ (c : Ctx) (l : Fin 16) (n : Nat), c.fetched l.val 0x70 ∧ c.slotNo = some n) ∧
  (∃ (c : Ctx) (l : Fin 16) (n : Nat), c.fetched l.val 0x71 ∧ c.slotNo = some n) ∧
  (∃ (c : Ctx) (l : Fin 16) (a : Nat), c.fetched l.val 0x72 ∧ c.addr ((iCount c.word + 3) / 4) = some a ∧ (∀ i < iCount
    c.word, c.gathSlot a i < 4096 ∧ (c.s.slot c.ex.k (c.gathSlot a i)).used = true) ∧ c.ex.mask.getLsbD 5 = false) ∧
  (∃ (c : Ctx) (l : Fin 16), c.fetched l.val 0x73) ∧
  (∃ (c : Ctx) (l : Fin 16), c.fetched l.val 0x74 ∧ c.ex.mask.getLsbD 2 = false) ∧
  (∃ (c : Ctx) (l : Fin 16), c.fetched l.val 0x75 ∧ c.ex.mask.getLsbD 2 = false) ∧
  (∃ (c : Ctx) (l : Fin 16), c.fetched l.val 0x76 ∧ c.ex.mask.getLsbD 2 = false ∧ c.ex.mask.getLsbD 4 = false) ∧
  (∃ (c : Ctx) (l : Fin 16), c.fetched l.val 0x77) ∧
  (∃ (c : Ctx) (l : Fin 16), c.fetched l.val 0x78) ∧
  (∃ (c : Ctx) (l : Fin 16), c.fetched l.val 0x79) ∧
  (∃ (c : Ctx) (l : Fin 16), c.fetched l.val 0x7A ∧ (iOpnd c.word % 4 = 0 ∨ c.s.taskAcct c.ex.k ≠ 7)) ∧
  (∃ (c : Ctx) (l : Fin 16), c.fetched l.val 0x7B) :=
  ⟨⟨(wheelCtx 3 2 0 0x60000000 lane0 65535 0), 2, 0, by decide +kernel⟩,
   ⟨(wheelCtx 3 2 0 0x62000000 lane0 65535 0), 2, by decide +kernel⟩,
   ⟨(wheelCtx 3 2 0 0x63000000 lane0 65535 0), 2, by decide +kernel⟩,
   ⟨(wheelCtx 3 2 0 0x70c00000 lane0 65535 0), 2, 0, by decide +kernel⟩,
   ⟨(wheelCtx 3 2 0 0x71c00000 lane0 65535 0), 2, 0, by decide +kernel⟩,
   ⟨(wheelCtx 3 2 0 0x72400005 lane0 65535 0), 2, 5, by decide +kernel⟩,
   ⟨(wheelCtx 3 2 0 0x73000000 lane0 65535 0), 2, by decide +kernel⟩,
   ⟨(wheelCtx 3 2 0 0x74000000 lane0 65535 0), 2, by decide +kernel⟩,
   ⟨(wheelCtx 3 2 0 0x75000000 lane0 65535 0), 2, by decide +kernel⟩,
   ⟨(wheelCtx 3 2 0 0x76000000 lane0 65535 0), 2, by decide +kernel⟩,
   ⟨(wheelCtx 3 2 0 0x77000000 lane0 65535 0), 2, by decide +kernel⟩,
   ⟨(wheelCtx 3 2 0 0x78000000 lane0 65535 0), 2, by decide +kernel⟩,
   ⟨(wheelCtx 3 2 0 0x79000000 lane0 65535 0), 2, by decide +kernel⟩,
   ⟨(wheelCtx 3 2 0 0x7a000000 lane0 65535 0), 2, by decide +kernel⟩,
   ⟨(wheelCtx 3 2 0 0x7b000000 lane0 65535 0), 2, by decide +kernel⟩⟩

theorem witness_WheelTillsAndRequests :
  (∃ (c : Ctx) (l : Fin 16) (u : State), c.fetched l.val 0x80 ∧ c.ex.lanes.length = 1 ∧ c.s.tillProducer c.acct c.tillNo
    c.ex.k = true ∧ c.s.tillWrite c.acct c.tillNo c.lane.wa = some u) ∧
  (∃ (c : Ctx) (l : Fin 16), c.fetched l.val 0x80 ∧ c.ex.lanes.length = 1 ∧ c.s.tillProducer c.acct c.tillNo c.ex.k = true ∧
    c.s.tillFree c.acct c.tillNo = 0 ∧ c.ex.mask.getLsbD 7 = false) ∧
  (∃ (c : Ctx) (l : Fin 16), c.fetched l.val 0x81 ∧ c.logged = none ∧ c.consumer = true) ∧
  (∃ (c : Ctx) (l : Fin 16) (e : Ecc), c.fetched l.val 0x81 ∧ c.logged = none ∧ c.consumer = true) ∧
  (∃ (c : Ctx) (l : Fin 16), c.fetched l.val 0x81 ∧ c.logged = none ∧ c.consumer = true ∧ (c.s.till c.acct c.tillNo).rd ≠
    (c.s.till c.acct c.tillNo).wr) ∧
  (∃ (c : Ctx) (l : Fin 16), c.fetched l.val 0x82 ∧ c.logged = none ∧ c.consumer = true) ∧
  (∃ (c : Ctx) (l : Fin 16), c.fetched l.val 0x83 ∧ c.logged = none ∧ c.consumer = true) ∧
  (∃ (c : Ctx) (l : Fin 16), c.fetched l.val 0x84 ∧ c.logged = none ∧ c.consumer = true) ∧
  (∃ (c : Ctx) (l : Fin 16), c.fetched l.val 0x85 ∧ c.logged = none ∧ c.consumer = true) ∧
  (∃ (c : Ctx) (l : Fin 16), c.fetched l.val 0x86 ∧ c.logged = none ∧ c.consumer = true) ∧
  (∃ (c : Ctx) (l : Fin 16) (a : Nat), c.fetched l.val 0x87 ∧ c.ex.lanes.length = 1 ∧ c.addr 1 = some a ∧ c.addr (reqWords
    (c.data a)) = some a) ∧
  (∃ (c : Ctx) (l : Fin 16) (a : Nat), c.fetched l.val 0x87 ∧ 1 < c.ex.lanes.length ∧ c.quiet ∧ c.addr 1 = some a ∧ c.addr
    (reqWords (c.data a)) = some a) ∧
  (∃ (c : Ctx) (l : Fin 16), c.fetched l.val 0x80 ∧ 1 < c.ex.lanes.length ∧ c.quiet ∧ c.s.tillProducer c.acct c.tillNo
    c.ex.k = true ∧ (((c.logged.map fun p => p.2.getD false).getD (decide (c.lane.heldFor c.tillNo < c.s.tillFree c.acct
    c.tillNo))) = true ∨ c.ex.mask.getLsbD 7 = false)) ∧
  (∃ (c : Ctx) (l : Fin 16) (v : W64) (b : Option Bool), c.logged = some (v, b) ∧ c.consumer = true) :=
  ⟨⟨(wheelCtx 3 2 0 0x80000001 lane0 65535 0), 2,
       ((wheelCtx 3 2 0 0x80000001 lane0 65535 0).s.tillPut (wheelCtx 3 2 0 0x80000001 lane0 65535 0).acct
         (wheelCtx 3 2 0 0x80000001 lane0 65535 0).tillNo (wheelCtx 3 2 0 0x80000001 lane0 65535 0).lane.wa),
       by decide +kernel⟩,
   ⟨(wheelCtx 3 2 0 0x80000003 lane0 65535 0), 2, by decide +kernel⟩,
   ⟨(wheelCtx 3 2 0 0x81000000 lane0 65535 0), 2, by decide +kernel⟩,
   ⟨(wheelCtx 3 2 0 0x81000000 lane0 65535 0), 2, .clean, by decide +kernel⟩,
   ⟨(wheelCtx 3 2 0 0x81000000 lane0 65535 0), 2, by decide +kernel⟩,
   ⟨(wheelCtx 3 2 0 0x82000000 lane0 65535 0), 2, by decide +kernel⟩,
   ⟨(wheelCtx 3 2 0 0x83000000 lane0 65535 0), 2, by decide +kernel⟩,
   ⟨(wheelCtx 3 2 0 0x84000000 lane0 65535 0), 2, by decide +kernel⟩,
   ⟨(wheelCtx 3 2 0 0x85000000 lane0 65535 0), 2, by decide +kernel⟩,
   ⟨(wheelCtx 3 2 0 0x86000000 lane0 65535 0), 2, by decide +kernel⟩,
   ⟨(wheelCtx 3 2 0 0x87400005 lane0 65535 0), 2, 5, by decide +kernel⟩,
   ⟨(wheelCtx 6 7 0 0x87400005 lane1 65535 0), 14, 5, by decide +kernel⟩,
   ⟨(wheelCtx 6 7 0 0x80000003 lane1 65535 0), 14, by decide +kernel⟩,
   ⟨(wheelCtx 6 7 0 0x80000000 lane2 65535 0), 2, 2, (some true), by decide +kernel⟩⟩

theorem witness_WheelFunctionBlocks :
  let ready (c : Ctx) (l : Fin 16) (b : Fb) (op a : Nat) : Prop :=
    c.fetched l.val op ∧ c.addr b.words = some a ∧ c.ex.mask.getLsbD 6 = false
  (∃ (c : Ctx) (l : Fin 16) (a : Nat), ready c l fbPid 0x90 a) ∧
  (∃ (c : Ctx) (l : Fin 16) (a : Nat), ready c l fbRamp 0x91 a) ∧
  (∃ (c : Ctx) (l : Fin 16) (a : Nat), ready c l fbLim 0x92 a) ∧
  (∃ (c : Ctx) (l : Fin 16) (a : Nat), ready c l fbFilt 0x93 a) ∧
  (∃ (c : Ctx) (l : Fin 16) (a : Nat), ready c l fbRoc 0x94 a) ∧
  (∃ (c : Ctx) (l : Fin 16) (a : Nat), ready c l fbHyst 0x95 a) ∧
  (∃ (c : Ctx) (l : Fin 16) (a : Nat), ready c l fbTmr 0x96 a) ∧
  (∃ i : FbIn, i.init = false) ∧
  (∃ i : FbIn, i.ba = false ∧ bits i.ctrl 2 1 = 0) :=
  ⟨⟨(wheelCtx 3 2 0 0x90400005 lane0 65535 0), 2, 5, by decide +kernel⟩,
   ⟨(wheelCtx 3 2 0 0x91400005 lane0 65535 0), 2, 5, by decide +kernel⟩,
   ⟨(wheelCtx 3 2 0 0x92400005 lane0 65535 0), 2, 5, by decide +kernel⟩,
   ⟨(wheelCtx 3 2 0 0x93400005 lane0 65535 0), 2, 5, by decide +kernel⟩,
   ⟨(wheelCtx 3 2 0 0x94400005 lane0 65535 0), 2, 5, by decide +kernel⟩,
   ⟨(wheelCtx 3 2 0 0x95400005 lane0 65535 0), 2, 5, by decide +kernel⟩,
   ⟨(wheelCtx 3 2 0 0x96400005 lane0 65535 0), 2, 5, by decide +kernel⟩,
   ⟨⟨fun n => ([0x7fffffffffffffff, 0x3ff8000000000000, 0xbff0000000000000, 0x7ff0000000000001, 0x7ff8000000000000,
             0x7ff0000000000000, 0x4014000000000000, 0x4024000000000000, 0, 0] : List W64).getD n 0, 2, 0x4014000000000000,
         false, 0x3ff0000000000000, 1000, false⟩, by decide +kernel⟩,
   ⟨⟨fun n => ([0x8000000000000000, 0x7fffffffffffffff, 0x3ff8000000000000, 0xbff0000000000000, 0x7ff0000000000001,
             0x7ff8000000000000, 0x7ff0000000000000, 0x4014000000000000, 0x4024000000000000, 0] : List W64).getD n 0, 1, 5,
         false, 0x3ff0000000000000, 1000, false⟩, by decide +kernel⟩⟩

theorem witness_UnhandledTrapFaultsTheAccount :
  ∃ (c : Ctx) (l : Fin 16), c.fetched l.val 0x06 ∧ c.lane.cs = [] ∧ c.ex.lanes.length = 1 ∧ (c.lane.handler = true ∨
    c.s.fld F.PROG_ENTRY_TRAP_VEC c.ex.k = 0xFFFF) ∧ c.s.acctState c.acct = aRunning :=
  ⟨(wheelCtx 3 2 0 0x6000000 lane0 65535 0), 2, by decide +kernel⟩

theorem witness_TaskReleaseSnapshotAndMerge :
  let due (s : State) (k : Nat) : Bool := (s.task k).enabled.any fun e => s.tick == e ||
    (decide (e + s.fld F.TASK_PERIOD_PERIOD_US k ≤ s.tick) && decide (((s.tl : Int) - (s.task k).grid -
      1000 * (s.fld F.TASK_PHASE_PHASE_US k : Int)) % (1000 * (s.fld F.TASK_PERIOD_PERIOD_US k : Int)) < 1000))
  let gridded (s : State) (k : Nat) : Prop := s.flag F.TASK_CFG_PRESENT k = true ∧ s.acctState (s.taskAcct k) = aRunning ∧
    due s k = true ∧ (s.task k).lastGrid ≠ some s.tick ∧ s.pairState ≠ psOutgoing ∧ s.wheelReady k = true
  let busy (s : State) (k : Nat) : Prop :=
    (s.exec? k).isSome = true ∨ (s.task k).abandoned = some s.tick ∨ s.pair.endWait.contains k = true
  (∃ (s : State) (k : Fin 64), ¬ gridded s k.val) ∧
  (∃ (s : State) (k : Fin 64), gridded s k.val ∧ ¬ busy s k.val) ∧
  (∃ (s : State) (k : Fin 64), gridded s k.val ∧ busy s k.val) ∧
  (∃ (s : State) (k n : Nat), n < 4096 ∧ nwf (fun _ => Slot.init) s.image.slots = true) ∧
  (∃ (s : State) (k : Fin 64) (ns : Nat), s.image.snapQ.head? = some k.val ∧ (s.exec? k.val).isSome = true) ∧
  (∃ (s : State) (k : Fin 64) (ns : Nat), (s.image.snapQ.head? ≠ some k.val ∨ s.exec? k.val = none)) ∧
  (∃ (s : State) (d : Delta) (ds : List Delta) (ns : Nat), s.image.merging = d :: ds) ∧
  (∃ (s : State) (ns : Nat), s.image.merging = []) ∧
  (∃ (s : State) (k : Fin 64) (e : Exec), s.exec? k.val = some e ∧ s.checkTick e = true ∧ (s.task k.val).lastCheck ≠ some
    s.tick ∧ min (s.fld F.TASK_STATUS_CONSEC k.val + 1) 31 ≤ e.tol) ∧
  (∃ (s : State) (k : Fin 64), (∀ e, s.exec? k.val = some e → s.checkTick e = false ∨ (s.task k.val).lastCheck = some
    s.tick)) :=
  ⟨⟨st42, 3, by decide +kernel⟩,
   ⟨st43, 3, by decide +kernel⟩,
   ⟨st44, 3, by decide +kernel⟩,
   ⟨st42, 0, 0, by decide +kernel⟩,
   ⟨st45, 3, 0, by decide +kernel⟩,
   ⟨st42, 3, 0, by decide +kernel⟩,
   ⟨st46, ({
           ex := {
               k := 3, rel := 10, relTl := 0x4d, rtTs := 0x58, tsValid := true, dt := 1000, late := 990, tol := 1, act := 0,
               mask := 0, snap := [(0, some {Copy.init with value := 5 })], state := .running, lanes := [Lane.init] },
           entries := [{slot := 0, sig := 11, value := 5, mode := 0, time := 0 },
               {slot := 1, sig := 12, value := 6, mode := 1, time := 0x63 },
               {slot := 2, sig := 13, value := 7, mode := 2, time := 0x63 }], gf := true, lwheel := 2, account := 2,
           since := 3 }), ([]), 0, by decide +kernel⟩,
   ⟨st42, 0, by decide +kernel⟩,
   ⟨st47, 3, ({
           k := 3, rel := 10, relTl := 0x4d, rtTs := 0x58, tsValid := true, dt := 1000, late := 990, tol := 1, act := 0,
           mask := 0, snap := [(0, some {Copy.init with value := 5 })], state := .running, lanes := [Lane.init] }),
       by decide +kernel⟩,
   ⟨st42, 3, by decide +kernel⟩⟩

theorem witness_OverrunActionsAndMismatch :
  let late (s : State) (k act : Nat) : Prop := ∃ e, s.exec? k = some e ∧ s.checkTick e = true ∧
    (s.task k).lastCheck ≠ some s.tick ∧ e.tol < min (s.fld F.TASK_STATUS_CONSEC k + 1) 31 ∧ e.act = act
  (∃ (s : State) (k : Fin 64), late s k.val 0) ∧
  (∃ (s : State) (k : Fin 64), late s k.val 1) ∧
  (∃ (s : State) (k : Fin 64), late s k.val 2 ∧ s.acctState (s.taskAcct k.val) = aRunning) ∧
  (∃ (s : State) (k : Fin 64), late s k.val 3) ∧
  (∃ (s : State) (w : Fin 2) (e : Exec), e ∈ s.openExecs ∧ (∀ x ∈ s.openExecs, s.exec? x.k = some x) ∧ s.taskAcct e.k = 7 ∧
    (e.lanes.getD w.val .init).points ≠ []) ∧
  (∃ (s : State) (w : Fin 2), (∀ e ∈ s.openExecs, s.taskAcct e.k = 7 → (e.lanes.getD w.val .init).points = [])) :=
  ⟨⟨st44, 3, by decide +kernel⟩,
   ⟨st45, 3, by decide +kernel⟩,
   ⟨st48, 3, by decide +kernel⟩,
   ⟨st49, 3, by decide +kernel⟩,
   ⟨st50, 0, ({
           k := 6, rel := 10, relTl := 0x4d, rtTs := 0x58, tsValid := true, dt := 1000, late := 990, tol := 1, act := 0,
           mask := 0, snap := [(0, some {Copy.init with value := 5 })], state := .running,
           lanes := [{Lane.init with points := [.done] }, Lane.init] }), by decide +kernel⟩,
   ⟨st42, 0, by decide +kernel⟩⟩

theorem witness_FreshnessScrubAndFiring :
  (∃ (s : State) (e : ImageError), e.double = false) ∧
  (∃ (s : State) (e : ImageError), e.double = true ∧ (e.word.val < 3 ∨ e.word.val = 7)) ∧
  (∃ (s : State) (e : ImageError), e.double = true ∧ 3 ≤ e.word.val ∧ e.word.val ≤ 6) ∧
  (∃ (s : State) (f : Fire) (fs : List Fire), s.image.fireIn = f :: fs) ∧
  (∃ (s : State) (f : Fire), s.image.fireIn = [f] ∧ f.account < 8) ∧
  (∃ (s : State) (f : Fire), s.image.fire = [f] ∧ f.account < 8 ∧ s.fireDue f = true ∧ f.action = false ∧ s.force? f.target
    = none) ∧
  (∃ (s : State) (f : Fire) (x : Force), s.image.fire = [f] ∧ s.fireDue f = true ∧ f.action = false ∧ s.force? f.target =
    some x) ∧
  (∃ (s : State) (f : Fire), s.image.fire = [f] ∧ s.fireDue f = true ∧ f.action = true) :=
  ⟨⟨st42, ({ sig := 11, word := 1, double := false }), by decide +kernel⟩,
   ⟨st42, ({ sig := 11, word := 1, double := true }), by decide +kernel⟩,
   ⟨st42, ({ sig := 11, word := 3, double := true }), by decide +kernel⟩,
   ⟨st51, ({
           time := 0xf4240, value := 7, late := false, target := 3, task := 4, account := 0, action := true, tl := true,
           quality := 1, seq := 0 }), ([]), by decide +kernel⟩,
   ⟨st51, ({
           time := 0xf4240, value := 7, late := false, target := 3, task := 4, account := 0, action := true, tl := true,
           quality := 1, seq := 0 }), by decide +kernel⟩,
   ⟨st52, ({
           time := 0xdbba0, value := 7, late := true, target := 11, task := 4, account := 3, action := false, tl := true,
           quality := 1, seq := 0 }), by decide +kernel⟩,
   ⟨st53, ({
           time := 0xf3e58, value := 5, late := false, target := 11, task := 4, account := 2, action := false, tl := true,
           quality := 1, seq := 0 }), ({value := 4, unforced := Copy.init, stamp := 0, account := 2 }), by decide +kernel⟩,
   ⟨st54, ({
           time := 0xf4240, value := 7, late := false, target := 3, task := 4, account := 0, action := true, tl := true,
           quality := 1, seq := 0 }), by decide +kernel⟩⟩

theorem witness_TheTickAndTheImage :
  let forcesHold (s : State) : Prop := ∀ g : Nat, ((s.force? g).all fun f => (s.sig g).value == f.value) = true
  (∃ s : State, s.time.ticking = false) ∧
  (∃ s : State, s.time.ticking = true) ∧
  (∃ s : State, s.time.ticking = true ∧ (s.phase = .stopped ∨ s.phase = .waiting) ∧ s.mgmt.effects = []) ∧
  (∃ s : State, s.time.ticking = true ∧ s.phase ≠ .stopped ∧ s.phase ≠ .waiting ∧ s.mgmt.effects = [] ∧ s.image.built = true
    ∧ s.pairState = psSingle) ∧
  (∃ (s : State) (v : W32) (n o : Nat) (r : Reg) (i j : Nat), s.time.ticking = true ∧ (s.phase = .stopped ∨ s.phase =
    .waiting) ∧ s.mgmt.effects = [.word (r.addr i j) v n o] ∧ regAt (r.addr i j) = some (r, i, j) ∧ r.base / 2 ^ 24 ∈ [4, 5,
    6, 7, 9, 13, 14, 16, 17, 19] ∧ r ∉ [R.SESSION_CTRL, R.ACCT_CTRL, R.ACCT_KEY, R.HART_CFG, R.HART_Z_BASE, R.CAN_CFG,
    R.CAN_NBT, R.CAN_DBT, R.CAN_TDC]) ∧
  (∃ (s : State) (u : Update) (g : Nat), s.image.updates = [u] ∧ u.due ≤ s.tick ∧ s.image.merged = [] ∧ s.image.fire = [] ∧
    s.image.fireIn = [] ∧ s.image.safeCmds = [] ∧ u.kind ≠ kParam ∧ (s.sig g).kind = u.kind ∧ (s.sig g).index = u.index ∧
    s.force? g = none ∧ nwf (fun _ => Sig.init) s.image.sigs = true) ∧
  (∃ (s : State) (es : List Effect), forcesHold s) :=
  ⟨⟨st55, by decide +kernel⟩,
   ⟨st42, by decide +kernel⟩,
   ⟨st56, by decide +kernel⟩,
   ⟨st42, by decide +kernel⟩,
   ⟨st57, (0xffffffff), 1, 2, ({
           base := 68157464, s1 := 4096, n1 := 8, s2 := 4, n2 := 1, rst := 0, rstHi := 0, w64 := false, rw := 1023, ro := 0,
           w1c := 0, wo := 0 }), 1, 0, by decide +kernel⟩,
   ⟨st42, ({due := 5, kind := 2, index := 80, copy := {Copy.init with value := 7, quality := 1, stamp := 9 } }), 11,
       by decide +kernel⟩,
   ⟨{ State.reset with image.forces := [(11, some ⟨4, .init, 0, 2⟩)], image.sigs := [(11, { Sig.init with value := 4 })] }, [],
    fun g => by by_cases e : g = 11 <;> simp_all [State.force?, State.sig, nget]⟩⟩

theorem witness_AnalogueSamplesAndReadback :
  let whole (m : ASample) : Prop := f64Finite m.x = true ∧ f64Finite m.lead = true ∧ f64Finite m.exc = true
  (∃ (s : State) (g : Fin 192) (m : ASample), whole m ∧ s.aDue g.val = false) ∧
  (∃ (s : State) (g : Fin 192) (m : ASample), whole m ∧ s.aDue g.val = true) ∧
  (∃ (s : State) (g : Fin 192) (m : ARead), f64Finite m.value = true ∧ f64Finite m.aux = true ∧ (s.aMode g.val = aOff ∨
    s.tick % s.rbWindow g.val ≠ 0 ∨ s.slState (g.val / 32) ≠ slRun ∨ (s.achan g.val).setting = true)) ∧
  (∃ (s : State) (g : Fin 192) (m : ARead), f64Finite m.value = true ∧ f64Finite m.aux = true ∧ s.aMode g.val ≠ aOff ∧
    s.tick % s.rbWindow g.val = 0 ∧ s.slState (g.val / 32) = slRun ∧ (s.achan g.val).setting = false) :=
  ⟨⟨st58, 0, ({
           x := 0x4024000000000000, lead := 0x3ff8000000000000, exc := 0x4014000000000000, compliance := false,
           common := false, raw := 0xfffff0, rawOdd := 5, cj := none }), by decide +kernel⟩,
   ⟨st59, 0, ({
           x := 0x4024000000000000, lead := 0x3ff8000000000000, exc := 0x4014000000000000, compliance := false,
           common := false, raw := 0xfffff0, rawOdd := 5, cj := none }), by decide +kernel⟩,
   ⟨st58, 0, ({ value := 0x4024000000000000, aux := 0x4024000000000000, limit := false, senseOpen := false }), by decide +kernel⟩,
   ⟨st59, 0, ({ value := 0x4024000000000000, aux := 0x4024000000000000, limit := false, senseOpen := false }), by decide +kernel⟩⟩

theorem witness_AnalogueProtectionAndReconfiguration :
  (∃ (s : State) (g : Fin 192), s.aMode g.val = aCurIn ∧ (s.achan g.val).cut = false) ∧
  (∃ (s : State) (g : Fin 192), (s.aMode g.val ≠ aCurIn ∨ (s.achan g.val).cut = true)) ∧
  (∃ (s : State) (g : Fin 192) (high : Bool), (s.aMode g.val ≠ aCurIn ∨ (s.achan g.val).cut = false ∨ high = true)) ∧
  (∃ (s : State) (g : Fin 192), s.aMode g.val = aCurIn ∧ (s.achan g.val).cut = true) ∧
  (∃ (s : State) (g : Fin 192), s.aMode g.val = aVoltOut ∧ (s.achan g.val).cut = false) ∧
  (∃ (s : State) (g : Fin 192), (s.aMode g.val ≠ aVoltOut ∨ (s.achan g.val).cut = true)) ∧
  (∃ (s : State) (g : Fin 192), s.aMode g.val = aVoltOut ∧ (s.achan g.val).cut = true) ∧
  (∃ (s : State) (g : Fin 192), (s.aMode g.val ≠ aVoltOut ∨ (s.achan g.val).cut = false)) ∧
  (∃ (s : State) (g : Fin 192), aIsOut (s.aMode g.val) = true) ∧
  (∃ (s : State) (g : Fin 192), aIsOut (s.aMode g.val) = false) ∧
  (∃ (s : State) (g : Fin 192), aIsOut (s.aMode g.val) = true ∧ bit (s.reg R.ACH_STATUS g.val) abThermal = true) ∧
  (∃ (s : State) (g : Fin 192), (aIsOut (s.aMode g.val) = false ∨ bit (s.reg R.ACH_STATUS g.val) abThermal = false)) ∧
  (∃ (s : State) (g : Fin 192), (s.achan g.val).setting = true) ∧
  (∃ (s : State) (g : Fin 192), (s.achan g.val).setting = false) :=
  ⟨⟨st59, 0, by decide +kernel⟩,
   ⟨st58, 0, by decide +kernel⟩,
   ⟨st58, 0, (true), by decide +kernel⟩,
   ⟨st60, 0, by decide +kernel⟩,
   ⟨st61, 0, by decide +kernel⟩,
   ⟨st58, 0, by decide +kernel⟩,
   ⟨st62, 0, by decide +kernel⟩,
   ⟨st58, 0, by decide +kernel⟩,
   ⟨st63, 0, by decide +kernel⟩,
   ⟨st58, 0, by decide +kernel⟩,
   ⟨st64, 0, by decide +kernel⟩,
   ⟨st58, 0, by decide +kernel⟩,
   ⟨st65, 0, by decide +kernel⟩,
   ⟨st58, 0, by decide +kernel⟩⟩

theorem witness_HartTransactions :
  let heard (s : State) (g : Nat) (r : HartRx) (m : HartMsg) : Prop := r.line.length % 11 = 0 ∧ s.hState g ≠ hsOff ∧
    hartCarrier r.mv = true ∧ (hartBytes r.line).bind hartParse = some m
  let answered (s : State) (g : Nat) (r : HartRx) (m : HartMsg) (u : HartUse) : Prop := heard s g r m ∧ m.reply = true ∧
    m.primary = true ∧ (s.hartOf g).cur = some u ∧ 2 ≤ m.data.length ∧ m.respCode.getLsbD 7 = false ∧ s.hAnswers g u m = true ∧
    hartAddrKey m.addr = hartAddrKey (((s.hartOf g).sent.drop 1).take (if ((s.hartOf g).sent.headD 0).getLsbD 7 then 5 else 1))
  (∃ (s : State) (g : Fin 192), (s.hState g.val ≠ hsPolling ∨ s.fld F.HART_CFG_PERIOD_MS g.val = 0)) ∧
  (∃ (s : State) (g : Fin 192), s.hState g.val = hsPolling ∧ s.fld F.HART_CFG_PERIOD_MS g.val ≠ 0) ∧
  (∃ (s : State) (g : Fin 192) (r : HartRx), r.line.length % 11 = 0 ∧ (s.hState g.val = hsOff ∨ hartCarrier r.mv = false ∨
    (hartBytes r.line).bind hartParse = none)) ∧
  (∃ (s : State) (g : Fin 192) (r : HartRx) (m : HartMsg), answered s g.val r m .poll) ∧
  (∃ (s : State) (g : Fin 192) (r : HartRx) (m : HartMsg) (ty d : Nat), answered s g.val r m .ident ∧ m.ident = some (ty,
    d)) ∧
  (∃ (s : State) (g : Fin 192) (r : HartRx) (m : HartMsg), answered s g.val r m .more) ∧
  (∃ (s : State) (g : Fin 192) (r : HartRx) (m : HartMsg) (q : HartReq) (qs : List HartReq), answered s g.val r m .pass ∧
    (s.hartOf g.val).queue = q :: qs) ∧
  (∃ (s : State) (g : Fin 192) (r : HartRx) (m : HartMsg), heard s g.val r m ∧ m.burst = true) ∧
  (∃ (s : State) (g : Fin 192) (r : HartRx) (m : HartMsg), heard s g.val r m ∧ m.burst = false ∧ m.primary = false) ∧
  (∃ (s : State) (g : Fin 192), s.hState g.val = hsOff) ∧
  (∃ (s : State) (g : Fin 192), s.hState g.val ≠ hsOff) ∧
  (∃ (s : State) (g : Fin 192), (s.hartOf g.val).cur.isSome = true ∧ (s.hartOf g.val).tries < s.fld F.HART_CFG_RETRIES
    g.val) ∧
  (∃ (s : State) (g : Fin 192), (s.hartOf g.val).cur.isSome = true ∧ s.fld F.HART_CFG_RETRIES g.val ≤ (s.hartOf
    g.val).tries) ∧
  (∃ (s : State) (g : Fin 192), (s.hartOf g.val).cur = none) ∧
  (∃ (s : State) (g : Fin 192), s.hState g.val ≠ hsFail) ∧
  (∃ (s : State) (g : Fin 192), s.hState g.val = hsFail) ∧
  (∃ (s : State) (g : Fin 192), (s.hState g.val ≠ hsStandby ∨ s.inControl = false ∨ s.pair.winOpen = true)) ∧
  (∃ (s : State) (g : Fin 192), s.hState g.val = hsStandby ∧ s.inControl = true ∧ s.pair.winOpen = false) :=
  ⟨⟨st66, 3, by decide +kernel⟩,
   ⟨st67, 3, by decide +kernel⟩,
   ⟨st67, 3, ({
           mv := 50,
           line := [false, true, true, true, true, true, true, true, true, true, true, false, true, true, true, true, true,
               true, true, true, true, true, false, true, true, true, true, true, true, true, true, true, true, false, true,
               true, true, true, true, true, true, true, true, true, false, true, true, true, true, true, true, true, true,
               true, true, false, false, true, true, false, false, false, false, false, true, true, false, false, false,
               false, false, false, false, false, true, false, true, false, false, false, false, false, false, false, false,
               false, true, true, false, false, true, true, true, false, false, false, false, false, true, false, true, true,
               false, false, false, false, false, false, true, true, false, false, false, false, false, true, false, false,
               true, true, true, false, false, true, true, true, true, true, true, true, false, true, false, false, true,
               false, false, true, false, false, false, true, true, false, false, false, true, false, true, true, false,
               false, false, true, false, true, false, true, false, false, false, false, false, true, true, false, true, true,
               true, false, false, false, false, false, false, true, false, true, false, false, false, false, false, false,
               false, false, true, false, true, false, false, false, false, false, false, false, false, true, false, true,
               false, false, false, false, false, false, false, false, true, false, false, false, false, false, false, false,
               false, false, true, true, false, true, true, false, true, false, true, false, true, false, true, false, true,
               false, true, true, false, false, true, true, false, true, false, true, true, true, true, false, true, true,
               true, false, true, false, true, false, false, true, false, false, true, false, false, true], age := 50 }),
       by decide +kernel⟩,
   ⟨st68, 3, ({
           mv := 200,
           line := [false, true, true, true, true, true, true, true, true, true, true, false, true, true, true, true, true,
               true, true, true, true, true, false, true, true, true, true, true, true, true, true, true, true, false, true,
               true, true, true, true, true, true, true, true, true, false, true, true, true, true, true, true, true, true,
               true, true, false, false, true, true, false, false, false, false, false, true, true, false, false, false,
               false, false, false, false, false, true, false, true, false, true, true, false, false, false, false, false,
               false, true, true, false, true, false, true, false, true, false, false, false, false, true, false, false,
               false, false, false, false, false, false, false, true, true, false, false, false, false, false, true, false,
               false, false, false, true, false, true, false, false, false, false, false, true, false, true, true, false,
               false, false, false, false, false, true, false, false, false, true, false, false, false, false, false, false,
               false, false, false, true, true, false, false, false, false, false, false, false, false, false, true, true,
               false, true, false, false, false, false, false, false, false, false, true, false, true, true, true, true, true,
               true, false, false, true, true, false, false, false, false, false, false, false, true, true, true, true, false,
               false, false, false, false, false, false, false, false, true, true, false, false, false, false, false, false,
               false, false, false, true, true, false, true, false, false, false, false, false, false, false, false, true,
               false, true, true, true, true, true, true, true, false, false, true, false, false, false, false, false, false,
               false, true, true, true, true, false, false, false, false, false, false, false, false, false, true, true,
               false, false, false, false, false, false, false, false, false, true, true, false, true, false, false, false,
               false, false, false, false, false, true, false, false, false, false, false, false, false, false, false, true,
               true, false, false, false, false, false, false, false, false, false, true, true, false, false, false, false,
               false, false, false, false, false, true, true, false, true, false, true, false, false, false, false, false,
               true, true, false, true, false, true, false, false, true, false, true, true, true], age := 50 }),
       ({
           delim := 6, addr := [0x80], command := 3,
           data := [0, 0x10, 0x41, 0x20, 0, 0, 1, 0x3f, 0xc0, 0, 0, 1, 0x7f, 0xc0, 0, 0, 1, 0, 0, 0, 5] }), by decide +kernel⟩,
   ⟨st69, 3, ({
           mv := 200,
           line := [false, true, true, true, true, true, true, true, true, true, true, false, true, true, true, true, true,
               true, true, true, true, true, false, true, true, true, true, true, true, true, true, true, true, false, true,
               true, true, true, true, true, true, true, true, true, false, true, true, true, true, true, true, true, true,
               true, true, false, false, true, true, false, false, false, false, false, true, true, false, false, false,
               false, false, false, false, false, true, false, true, false, false, false, false, false, false, false, false,
               false, true, true, false, false, true, true, true, false, false, false, false, false, true, false, false,
               false, false, false, false, false, false, false, true, true, false, false, false, false, false, true, false,
               false, false, false, true, false, false, true, true, true, true, true, true, true, false, true, false, false,
               true, false, false, true, false, false, false, true, true, false, false, false, true, false, true, true, false,
               false, false, true, false, true, false, true, false, false, false, false, false, true, true, false, true, true,
               true, false, false, false, false, false, false, true, false, true, false, false, false, false, false, false,
               false, false, true, false, true, false, false, false, false, false, false, false, false, true, false, true,
               false, false, false, false, false, false, false, false, true, false, false, false, false, false, false, false,
               false, false, true, true, false, true, true, false, true, false, true, false, true, false, true, false, true,
               false, true, true, false, false, true, true, false, true, false, true, true, true, true, false, true, true,
               true, false, true, false, false, true, false, true, false, false, true, true, true, true], age := 50 }),
       ({delim := 6, addr := [0x80], command := 0, data := [0, 0x10, 0xfe, 0x12, 0x34, 5, 7, 1, 1, 1, 0, 0xab, 0xcd, 0xef] }),
       4660, 11259375, by decide +kernel⟩,
   ⟨st70, 3, ({
           mv := 200,
           line := [false, true, true, true, true, true, true, true, true, true, true, false, true, true, true, true, true,
               true, true, true, true, true, false, true, true, true, true, true, true, true, true, true, true, false, true,
               true, true, true, true, true, true, true, true, true, false, true, true, true, true, true, true, true, true,
               true, true, false, false, true, true, false, false, false, false, true, false, true, false, false, true, false,
               false, true, false, false, true, false, true, false, false, false, true, false, true, true, false, false,
               false, true, false, true, true, false, true, false, true, false, true, false, true, false, true, false, true,
               true, false, false, true, true, false, true, false, true, true, true, true, false, true, true, true, false,
               true, false, false, false, false, false, true, true, false, false, true, true, false, false, false, true,
               false, false, false, false, false, false, true, false, false, false, false, false, false, false, false, false,
               true, true, false, false, false, false, false, false, false, false, false, true, true, false, true, false,
               true, false, false, false, false, false, true, true, false, false, true, true, false, false, false, false,
               false, true, true, false, false, true, true, true, true, false, false, true, false, true], age := 50 }),
       ({delim := 0x86, addr := [0x92, 0x34, 0xab, 0xcd, 0xef], command := 0x30, data := [0, 0, 5, 6] }), by decide +kernel⟩,
   ⟨st71, 3, ({
           mv := 200,
           line := [false, true, true, true, true, true, true, true, true, true, true, false, true, true, true, true, true,
               true, true, true, true, true, false, true, true, true, true, true, true, true, true, true, true, false, true,
               true, true, true, true, true, true, true, true, true, false, true, true, true, true, true, true, true, true,
               true, true, false, false, true, true, false, false, false, false, true, false, true, false, false, true, false,
               false, true, false, false, true, false, true, false, false, false, true, false, true, true, false, false,
               false, true, false, true, true, false, true, false, true, false, true, false, true, false, true, false, true,
               true, false, false, true, true, false, true, false, true, true, true, true, false, true, true, true, false,
               true, false, true, true, true, true, true, false, false, false, false, true, false, true, false, true, false,
               false, false, false, false, true, true, false, false, false, false, false, false, false, false, false, true,
               true, false, false, false, false, false, false, false, false, false, true, true, false, true, false, false,
               false, false, false, false, false, false, true, false, false, false, true, true, false, true, false, false,
               false, true, false, true, false, false, true, false, false, false, false, true, true, false, true, true, true,
               false, true, false, false, true, false, true], age := 50 }),
       ({delim := 0x86, addr := [0x92, 0x34, 0xab, 0xcd, 0xef], command := 0x1f, data := [0, 0, 1, 0x2c, 9] }),
       ({account := 3, id := 8, command := 300, data := [4] }), ([]), by decide +kernel⟩,
   ⟨st67, 3, ({
           mv := 200,
           line := [false, true, true, true, true, true, true, true, true, true, true, false, true, true, true, true, true,
               true, true, true, true, true, false, true, true, true, true, true, true, true, true, true, true, false, true,
               true, true, true, true, true, true, true, true, true, false, true, true, true, true, true, true, true, true,
               true, true, false, true, false, false, false, false, false, false, true, true, true, false, false, true, false,
               false, true, false, false, true, false, true, false, false, false, true, false, true, true, false, false,
               false, true, false, true, true, false, true, false, true, false, true, false, true, false, true, false, true,
               true, false, false, true, true, false, true, false, true, true, true, true, false, true, true, true, false,
               true, false, true, true, false, false, false, false, false, false, true, true, false, true, false, true, false,
               true, false, false, false, false, true, false, false, false, false, false, false, false, false, false, true,
               true, false, false, false, false, false, true, false, false, false, false, true, false, true, false, false,
               false, false, false, true, false, true, true, false, false, false, false, false, false, true, false, false,
               false, true, false, false, false, false, false, false, false, false, false, true, true, false, false, false,
               false, false, false, false, false, false, true, true, false, true, false, false, false, false, false, false,
               false, false, true, false, true, true, true, true, true, true, false, false, true, true, false, false, false,
               false, false, false, false, true, true, true, true, false, false, false, false, false, false, false, false,
               false, true, true, false, false, false, false, false, false, false, false, false, true, true, false, true,
               false, false, false, false, false, false, false, false, true, false, true, true, true, true, true, true, true,
               false, false, true, false, false, false, false, false, false, false, true, true, true, true, false, false,
               false, false, false, false, false, false, false, true, true, false, false, false, false, false, false, false,
               false, false, true, true, false, true, false, false, false, false, false, false, false, false, true, false,
               false, false, false, false, false, false, false, false, true, true, false, false, false, false, false, false,
               false, false, false, true, true, false, false, false, false, false, false, false, false, false, true, true,
               false, true, false, true, false, false, false, false, false, true, true, false, true, false, true, true, false,
               false, false, true, true, true], age := 50 }),
       ({
           delim := 0x81, addr := [0x92, 0x34, 0xab, 0xcd, 0xef], command := 3,
           data := [0, 0x10, 0x41, 0x20, 0, 0, 1, 0x3f, 0xc0, 0, 0, 1, 0x7f, 0xc0, 0, 0, 1, 0, 0, 0, 5] }), by decide +kernel⟩,
   ⟨st67, 3, ({
           mv := 200,
           line := [false, true, true, true, true, true, true, true, true, true, true, false, true, true, true, true, true,
               true, true, true, true, true, false, true, true, true, true, true, true, true, true, true, true, false, true,
               true, true, true, true, true, true, true, true, true, false, true, true, true, true, true, true, true, true,
               true, true, false, false, true, false, false, false, false, false, false, false, true, false, false, false,
               false, false, false, false, false, false, true, true, false, true, true, false, false, false, false, false,
               false, true, true, false, false, true, false, false, false, false, false, false, false, true, false, false,
               false, false, false, false, false, false, false, true, true, false, false, false, false, false, false, false,
               false, false, true, true, false, true, true, false, false, false, false, false, false, true, true], age := 50 }),
       ({delim := 2, addr := [0], command := 3, data := [0, 0] }), by decide +kernel⟩,
   ⟨st66, 3, by decide +kernel⟩,
   ⟨st67, 3, by decide +kernel⟩,
   ⟨st70, 3, by decide +kernel⟩,
   ⟨st68, 3, by decide +kernel⟩,
   ⟨st67, 3, by decide +kernel⟩,
   ⟨st67, 3, by decide +kernel⟩,
   ⟨st72, 3, by decide +kernel⟩,
   ⟨st67, 3, by decide +kernel⟩,
   ⟨st73, 3, by decide +kernel⟩⟩

theorem witness_HartRequestsAndImpedance :
  let word (s : State) (a q i : Nat) : W64 := nget 0 s.tillMem (s.tillPos a q ((s.till a q).rd + i))
  let head (s : State) (a q : Nat) : Nat := (word s a q 0).toNat
  let len (s : State) (a q : Nat) : Nat := bits (head s a q) 31 24
  let items (s : State) (a q : Nat) : Nat := 1 + (len s a q + 7) / 8
  let body (s : State) (a q : Nat) : List Byte := dwordsBytes ((List.range (items s a q - 1)).map fun i => word s a q (i + 1))
  let req (s : State) (a : Fin 8) (sl : Fin 6) (ecc : List Ecc) (q rt : Nat) : Prop :=
    s.findTill a.val false ekHart sl.val = some q ∧ s.findTill a.val true ekHart sl.val = some rt ∧ q ≠ rt ∧
    s.inControl = true ∧ 33 ≤ s.tillFree a.val rt ∧ items s a.val q ≤ (s.till a.val q).unread ∧
    (∀ e ∈ ecc.take (items s a.val q), e ≠ .double)
  let sound (s : State) (a : Fin 8) (sl : Fin 6) (q : Nat) : Prop :=
    bits (head s a.val q) 7 0 / 32 = sl.val ∧ s.flag F.HART_CFG_EN (bits (head s a.val q) 7 0) = true ∧
    bits (head s a.val q) 23 8 = 0 ∧ ((body s a.val q).drop (len s a.val q)).all (· == 0) = true ∧
    (255 < bits (head s a.val q) 47 32 → len s a.val q ≤ 253)
  let own (s : State) (a q : Nat) : Prop := s.fld F.ACH_OWNER_ACCOUNT (bits (head s a q) 7 0) = a
  let safe (s : State) (a q : Nat) : Prop := a = 7 → s.sw12 = true ∨ bits (head s a q) 47 32 ∈ hSafeCommands
  (∃ (s : State) (a : Fin 8) (sl : Fin 6) (ecc : List Ecc), (s.findTill a.val false ekHart sl.val = none ∨ s.findTill a.val
    true ekHart sl.val = none ∨ s.inControl = false)) ∧
  (∃ (s : State) (a : Fin 8) (sl : Fin 6) (ecc : List Ecc) (q rt : Nat), req s a sl ecc q rt ∧ sound s a sl q ∧ own s a.val
    q ∧ safe s a.val q ∧ (s.hartOf (bits (head s a.val q) 7 0)).queue.length < 8) ∧
  (∃ (s : State) (a : Fin 8) (sl : Fin 6) (ecc : List Ecc) (q rt : Nat), req s a sl ecc q rt ∧ ¬ sound s a sl q) ∧
  (∃ (s : State) (a : Fin 8) (sl : Fin 6) (ecc : List Ecc) (q rt : Nat), req s a sl ecc q rt ∧ sound s a sl q ∧ (¬ (own s
    a.val q ∧ safe s a.val q))) ∧
  (∃ (s : State) (a : Fin 8) (sl : Fin 6) (ecc : List Ecc) (q rt : Nat), req s a sl ecc q rt ∧ sound s a sl q ∧ own s a.val
    q ∧ safe s a.val q ∧ 8 ≤ (s.hartOf (bits (head s a.val q) 7 0)).queue.length) ∧
  (∃ (s : State) (g : Fin 192) (z1 z2 : Nat) (o : Bool), ((s.hartOf g.val).cur = none ∨ (s.hartOf g.val).measure = false)) ∧
  (∃ (s : State) (g : Fin 192) (z1 z2 : Nat) (o : Bool), (s.hartOf g.val).cur.isSome = true ∧ (s.hartOf g.val).measure =
    true ∧ (o = true ∨ s.inWindow = true)) ∧
  (∃ (s : State) (g : Fin 192) (z1 z2 : Nat), (s.hartOf g.val).cur.isSome = true ∧ (s.hartOf g.val).measure = true ∧
    s.inWindow = false) :=
  ⟨⟨st67, 3, 1, ([]), by decide +kernel⟩,
   ⟨st67, 3, 0, ([]), 0, 2, by decide +kernel⟩,
   ⟨st74, 3, 0, ([]), 0, 2, by decide +kernel⟩,
   ⟨st75, 3, 0, ([]), 0, 2, by decide +kernel⟩,
   ⟨st76, 3, 0, ([]), 0, 2, by decide +kernel⟩,
   ⟨st67, 3, 0, 0, (true), by decide +kernel⟩,
   ⟨st68, 3, 0, 0, (true), by decide +kernel⟩,
   ⟨st68, 3, 0, 0, by decide +kernel⟩⟩

theorem witness_DigitalInputs :
  let first (s : State) (n : Nat) : Prop :=
    (s.dchan n).level = none ∨ (s.dHas n dbReconfig = true ∧ dIsIn (s.dMode n) = true)
  let passes (s : State) (n : Nat) (b : Bool) : Prop := s.dMode n ≠ dOff ∧ (s.dchan n).setting = false ∧
    (first s n ∨ (s.dMode n ≠ dEdge ∧ s.dMode n ≠ dQuad ∧ (s.dchan n).level ≠ some b))
  let accepted (s : State) (n : Nat) (b : Bool) (m : Nat) : Prop :=
    s.dMode n = m ∧ (s.dchan n).setting = false ∧ (s.dchan n).level ≠ some b
  (∃ (s : State) (n : Fin 320) (b : Bool), ¬ passes s n.val b) ∧
  (∃ (s : State) (n : Fin 320) (b : Bool), passes s n.val b) ∧
  (∃ (s : State) (n : Fin 320) (b : Bool), s.dMode n.val = dIn13 ∧ s.flag F.DCH_CFG_LINE_MON n.val = true) ∧
  (∃ (s : State) (n : Fin 320) (b : Bool), (s.dMode n.val ≠ dIn13 ∨ s.flag F.DCH_CFG_LINE_MON n.val = false)) ∧
  (∃ (s : State) (n : Fin 320) (b : Bool) (at_ : Nat), accepted s n.val b dEdge) ∧
  (∃ (s : State) (n : Fin 320) (b : Bool) (at_ : Nat), accepted s n.val b dQuad) ∧
  (∃ (s : State) (n : Fin 320) (b : Bool) (at_ : Nat), ¬ accepted s n.val b dEdge ∧ ¬ accepted s n.val b dQuad) ∧
  (∃ (s : State) (n : Fin 320), s.dMode n.val = dQuad ∧ n.val % 2 = 0 ∧ s.slState (dSlice n.val) = slRun) ∧
  (∃ (s : State) (n : Fin 320), (s.dMode n.val ≠ dQuad ∨ n.val % 2 = 1 ∨ s.slState (dSlice n.val) ≠ slRun)) :=
  ⟨⟨st77, 0, (true), by decide +kernel⟩,
   ⟨st78, 0, (true), by decide +kernel⟩,
   ⟨st78, 0, (true), by decide +kernel⟩,
   ⟨st77, 0, (true), by decide +kernel⟩,
   ⟨st79, 0, (true), 0, by decide +kernel⟩,
   ⟨st80, 0, (true), 0, by decide +kernel⟩,
   ⟨st77, 0, (true), 0, by decide +kernel⟩,
   ⟨st80, 0, by decide +kernel⟩,
   ⟨st77, 0, by decide +kernel⟩⟩

theorem witness_DigitalOutputs :
  let outputOf (s : State) (n : Nat) : Prop := dIsOut (s.dMode n) = true
  let flag (c : DCond) : Nat := match c with | .short => dbShort | .openLoad => dbOpen | .rbDiff => dbRbDiff
  let may (s : State) (n : Nat) (c : DCond) (on : Bool) : Bool := dIsOut (s.dMode n) && match c with
    | .short => !on || ((s.dchan n).cmd && s.fsState (dSlice n) == fsNormal)
    | .openLoad => !on || ((s.dchan n).cmd && s.flag F.DCH_CFG_OL_EN n)
    | .rbDiff => s.dMode n == dOutRb && !s.dWindow &&
        (!on || [dbFsLow, dbSliceOvl, dbThermal, dbExtdrv, dbShort, dbOpen].all fun b => !s.dHas n b)
  (∃ (s : State) (n : Fin 320), outputOf s n.val ∧ s.dHas n.val dbThermal = false) ∧
  (∃ (s : State) (n : Fin 320), (¬ outputOf s n.val ∨ s.dHas n.val dbThermal = true)) ∧
  (∃ (s : State) (n : Fin 320), s.dHas n.val dbThermal = true) ∧
  (∃ (s : State) (n : Fin 320), s.dHas n.val dbThermal = false) ∧
  (∃ (s : State) (sl : Fin 10) (ma : BitVec 16), s.flag F.DS_LOAD_OVL sl.val = false) ∧
  (∃ (s : State) (sl : Fin 10) (ma : BitVec 16), s.flag F.DS_LOAD_OVL sl.val = true) ∧
  (∃ (s : State) (sl : Fin 10), s.flag F.DS_LOAD_OVL sl.val = true ∧ s.flag F.DS_LOAD_OVL_OFF sl.val = false) ∧
  (∃ (s : State) (sl : Fin 10), (s.flag F.DS_LOAD_OVL sl.val = false ∨ s.flag F.DS_LOAD_OVL_OFF sl.val = true)) ∧
  (∃ (s : State) (n : Fin 320) (on : Bool) (v : BitVec 16), outputOf s n.val ∧ s.inControl = true ∧ s.dWindow = false ∧
    s.dHas n.val dbExtdrv ≠ on) ∧
  (∃ (s : State) (n : Fin 320) (on : Bool) (v : BitVec 16), (¬ outputOf s n.val ∨ s.inControl = false ∨ s.dWindow = true ∨
    s.dHas n.val dbExtdrv = on)) ∧
  (∃ (s : State) (n : Fin 320) (c : DCond) (on : Bool), may s n.val c on = true) ∧
  (∃ (s : State) (n : Fin 320) (c : DCond) (on : Bool), may s n.val c on = false) ∧
  (∃ (s : State) (n : Fin 320) (on : Bool), outputOf s n.val) ∧
  (∃ (s : State) (n : Fin 320) (on : Bool), ¬ outputOf s n.val) ∧
  (∃ (s : State) (n : Fin 320), (s.dchan n.val).setting = true) ∧
  (∃ (s : State) (n : Fin 320), (s.dchan n.val).setting = false) :=
  ⟨⟨st81, 0, by decide +kernel⟩,
   ⟨st77, 0, by decide +kernel⟩,
   ⟨st82, 0, by decide +kernel⟩,
   ⟨st77, 0, by decide +kernel⟩,
   ⟨st77, 0, 5, by decide +kernel⟩,
   ⟨st83, 0, 5, by decide +kernel⟩,
   ⟨st84, 0, by decide +kernel⟩,
   ⟨st77, 0, by decide +kernel⟩,
   ⟨st81, 0, (true), 5, by decide +kernel⟩,
   ⟨st77, 0, (true), 5, by decide +kernel⟩,
   ⟨st81, 0, .short, (false), by decide +kernel⟩,
   ⟨st77, 0, .short, (true), by decide +kernel⟩,
   ⟨st81, 0, (true), by decide +kernel⟩,
   ⟨st77, 0, (true), by decide +kernel⟩,
   ⟨st82, 0, by decide +kernel⟩,
   ⟨st77, 0, by decide +kernel⟩⟩

theorem witness_SliceFrameRoundTrip :
  ∃ (h k : BitVec 16) (p q : BitVec 544), mkFrame h.toNat p.toNat = mkFrame k.toNat q.toNat :=
  ⟨0, 0, 0, 0, by decide +kernel⟩

theorem witness_SliceLinkAlignmentAndStates :
  let upOut (s : State) (sl : Nat) (line : BitVec 625) : RxOut := (s.link sl).up.take line
  let downOut (s : State) (sl : Nat) (line : BitVec 625) : RxOut := (s.link sl).down.take line
  let kind (o : RxOut) : Nat := bits (frameHeader o.frame) 15 14
  let comes (s : State) (sl : Nat) (line : BitVec 625) : Prop := s.slState sl ≠ slOff ∧
    ((downOut s sl line).accepted = true → (s.link sl).sent.contains ⟨frameHeader (downOut s sl line).frame,
      framePayload (downOut s sl line).frame⟩ = true)
  (∃ (last line : BitVec 625) (from_ p : Nat), slFind last line from_ = some p ∧ (from_ ≤ p ∧ p ≤ 625 ∧ frameSync (slFrameAt
    last line p) = true ∧ ∀ q < p, from_ ≤ q)) ∧
  (∃ (r : Rx) (line : BitVec 625), r.locked = false ∧ 3 ≤ r.syncs ∧ 2 ≤ r.crcs ∧ frameSync (slFrameAt r.last line r.pos) =
    true) ∧
  (∃ (r : Rx) (line : BitVec 625), r.locked = false ∧ r.syncs ≠ 0 ∧ (r.syncs < 3 ∨ r.crcs < 2) ∧ (frameSync (slFrameAt
    r.last line r.pos) = false ∨ frameGood (slFrameAt r.last line r.pos) = false)) ∧
  (∃ (r : Rx) (line : BitVec 625), r.locked = true) ∧
  (∃ (s : State) (sl : Fin 16) (d : Bool) (line : BitVec 625), s.slState sl.val = slOff) ∧
  (∃ (s : State) (sl : Fin 16) (line : BitVec 625), s.slState sl.val ≠ slOff) ∧
  (∃ (s : State) (sl : Fin 16) (line : BitVec 625), s.slState sl.val ≠ slOff ∧ s.slState sl.val ≠ slRefused ∧ 3 ≤ (upOut s
    sl.val line).what) ∧
  (∃ (s : State) (sl : Fin 16) (line : BitVec 625), s.slState sl.val = slSearch ∧ (upOut s sl.val line).accepted = true ∧
    (s.link sl.val).down.locked = true ∧ (s.link sl.val).downLost = []) ∧
  (∃ (s : State) (sl : Fin 16) (line : BitVec 625), s.slState sl.val = slHello ∧ (upOut s sl.val line).accepted = true ∧
    (s.link sl.val).downLost = [] ∧ kind (upOut s sl.val line) = fkHello ∧ 1 ≤ (s.link sl.val).hellos) ∧
  (∃ (s : State) (sl : Fin 16) (line : BitVec 625), s.slState sl.val = slDownload ∧ (upOut s sl.val line).accepted = true ∧
    (s.link sl.val).downLost = [] ∧ kind (upOut s sl.val line) = fkData ∧ (s.link sl.val).items = [] ∧ (∀ x ∈ (s.link
    sl.val).flight, x.acked = true ∨ (x.sent + 2 = s.tick ∧ bit (frameHeader (upOut s sl.val line).frame) 13 = true))) ∧
  (∃ (s : State) (sl : Fin 16) (line : BitVec 625), s.slState sl.val = slRun ∧ (upOut s sl.val line).what = 0 ∧ (upOut s
    sl.val line).rx.locked = true ∧ (upOut s sl.val line).accepted = false) ∧
  (∃ (s : State) (sl : Fin 16) (line : BitVec 625), s.slState sl.val ≠ slOff ∧ ¬ comes s sl.val line) ∧
  (∃ (s : State) (sl : Fin 16) (line : BitVec 625), comes s sl.val line) ∧
  (∃ (s : State) (sl : Fin 16) (line : BitVec 625) (c : Nat), comes s sl.val line ∧ (downOut s sl.val line).accepted = true
    ∧ kind (downOut s sl.val line) = fkData ∧ 2 ≤ (s.link sl.val).heard ∧ c < 32) ∧
  (∃ (s : State) (sl : Fin 16), s.slState sl.val ≠ slOff) ∧
  (∃ (s : State) (sl : Fin 16), (s.slState sl.val = slOff ∨ s.slState sl.val = slRun)) ∧
  (∃ (s : State) (sl : Fin 16), s.slState sl.val ≠ slOff ∧ s.slState sl.val ≠ slRun) ∧
  (∃ (s : State) (sl : Fin 16), s.slState sl.val ≠ slOff ∧ s.slState sl.val ≠ slRun ∧ s.slUsed sl.val = true) ∧
  (∃ (s : State) (sl : Fin 16), (s.slState sl.val = slOff ∨ s.slState sl.val = slRun ∨ s.slUsed sl.val = false)) :=
  ⟨⟨(0xab039f8e3f001c7070003f00ffff8ffe38e371c4ec4f03f73f70070f8f000fe370001c4f00003f70000070ffffff01c71c7003f03f00070070000fff00001c7000003f00ffff6234000098364f5c),
       (0xab039f8e3f001c7070003f00ffff8ffe38e371c4ec4f03f73f70070f8f000fe370001c4f00003f70000070ffffff01c71c7003f03f00070070000fff00001c7000003f00ffff6234000098364f5c),
       0, 0, by decide +kernel⟩,
   ⟨({Rx.init with pos := 625, syncs := 3, crcs := 3 }),
       (0xab039f8e3f001c7070003f00ffff8ffe38e371c4ec4f03f73f70070f8f000fe370001c4f00003f70000070ffffff01c71c7003f03f00070070000fff00001c7000003f00ffff6234000098364f5c),
       by decide +kernel⟩,
   ⟨({ Rx.init with pos := 625, syncs := 2, crcs := 2 }), 0, by decide +kernel⟩,
   ⟨({Rx.init with locked := true, pos := 625 }),
       (0xab039f8e3f001c7070003f00ffff8ffe38e371c4ec4f03f73f70070f8f000fe370001c4f00003f70000070ffffff01c71c7003f03f00070070000fff00001c7000003f00ffff6234000098364f5c),
       by decide +kernel⟩,
   ⟨st85, 0, (true), (0xab039f8e3f001c7070003f00ffff8ffe38e371c4ec4f03f73f70070f8f000fe370001c4f00003f70000070ffffff01c71c7003f03f00070070000fff00001c7000003f00ffff6234000098364f5c),
       by decide +kernel⟩,
   ⟨st86, 0, (0xab039f8e3f001c7070003f00ffff8ffe38e371c4ec4f03f73f70070f8f000fe370001c4f00003f70000070ffffff01c71c7003f03f00070070000fff00001c7000003f00ffff6234000098364f5c),
       by decide +kernel⟩,
   ⟨st87, 0, 0, by decide +kernel⟩,
   ⟨st88, 0, (0xab039f8e3f001c7070003f00ffff8ffe38e371c4ec4f03f73f70070f8f000fe370001c4f00003f70000070ffffff01c71c7003f03f00070070000fff00001c7000003f00ffff6234000098364f5c),
       by decide +kernel⟩,
   ⟨st89, 0, (0x999d539f3f001c7070003f00ffff8ffe38e371c4ec4f03f73f70070f8f000fe370001c4f00003f70000070ffffff01c71c7003f03f00070070000fff00001c7000003f00ffff6234800098364f5c),
       by decide +kernel⟩,
   ⟨st90, 0, (0xab039f8e3f001c7070003f00ffff8ffe38e371c4ec4f03f73f70070f8f000fe370001c4f00003f70000070ffffff01c71c7003f03f00070070000fff00001c7000003f00ffff6234000098364f5c),
       by decide +kernel⟩,
   ⟨st91, 0, 0, by decide +kernel⟩,
   ⟨st88, 0, (0x10aeec9433f001c7070003f00ffff8ffe38e371c4ec4f03f73f70070f8f000fe370001c4f00003f70000070ffffff01c71c7003f03f00070070000fff00001c7000003f000000704d000098364f5c),
       by decide +kernel⟩,
   ⟨st86, 0, (0xab039f8e3f001c7070003f00ffff8ffe38e371c4ec4f03f73f70070f8f000fe370001c4f00003f70000070ffffff01c71c7003f03f00070070000fff00001c7000003f00ffff6234000098364f5c),
       by decide +kernel⟩,
   ⟨st88, 0, (0xab039f8e3f001c7070003f00ffff8ffe38e371c4ec4f03f73f70070f8f000fe370001c4f00003f70000070ffffff01c71c7003f03f00070070000fff00001c7000003f00ffff6234000098364f5c),
       0, by decide +kernel⟩,
   ⟨st86, 0, by decide +kernel⟩,
   ⟨st85, 0, by decide +kernel⟩,
   ⟨st86, 0, by decide +kernel⟩,
   ⟨st86, 0, by decide +kernel⟩,
   ⟨st85, 0, by decide +kernel⟩⟩

theorem witness_PtpMessagesAndBases :
  let good (s : State) (p v mi dom : Nat) (needs : Bool) : Prop := s.portUp p = true ∧ s.ptpRefused p v mi dom needs = false
  (∃ (s : State) (m : SyncMsg), good s m.port.val m.version m.minor m.domain true ∧ 1000000000 < m.correction) ∧
  (∃ (s : State) (m : SyncMsg), good s m.port.val m.version m.minor m.domain true ∧ m.correction ≤ 1000000000) ∧
  (∃ (s : State) (m : FollowUpMsg), good s m.port.val m.version m.minor m.domain true ∧ m.correction ≤ 1000000000) ∧
  (∃ (s : State) (d : Nat) (off : Int), d < 2) ∧
  (∃ (s : State) (m : AnnounceMsg), good s m.port.val m.version m.minor m.domain true) ∧
  (∃ (s : State) (d : Nat), d < 2) ∧
  (∃ (s : State) (p : Fin 2), (s.base p.val).gm = none) ∧
  (∃ (s : State) (p : Fin 2) (g : Nat), (s.base p.val).gm = some (g, 4)) ∧
  (∃ (s : State) (p : Fin 2) (g q : Nat), (s.base p.val).gm = some (g, q) ∧ ((s.base p.val).foreign.any fun f => f.gm == g
    && f.port == q && decide (s.tick < f.at_ + 3000000)) = true) ∧
  (∃ (s : State) (p : Fin 2) (g q : Nat), (s.base p.val).gm = some (g, q) ∧ q ≠ 4 ∧ ((s.base p.val).foreign.any fun f =>
    f.gm == g && f.port == q && decide (s.tick < f.at_ + 3000000)) = false) ∧
  (∃ (s : State) (m : PdelayReqMsg), good s m.port.val m.version m.minor m.domain false) ∧
  (∃ (s : State) (m : PdelayRespMsg), good s m.port.val m.version m.minor m.domain false) ∧
  (∃ (s : State) (p : Fin 4), ((s.ptp p.val).waiting = none ∨ s.tick < (s.ptp p.val).askedAt + 100000)) ∧
  (∃ (s : State) (p : Fin 4), (s.ptp p.val).waiting.isSome = true ∧ (s.ptp p.val).askedAt + 100000 ≤ s.tick) :=
  ⟨⟨st92, ({
           port := 0, version := 2, minor := 0, domain := 0, source := 7, seq := 5, twoStep := false, origin := 1000000,
           correction := 10000000000, ingress := 999000, from_ := 0, residence := 30 }), by decide +kernel⟩,
   ⟨st92, ({
           port := 0, version := 2, minor := 0, domain := 0, source := 7, seq := 5, twoStep := false, origin := 1000000,
           correction := 10, ingress := 999000, from_ := 0, residence := 30 }), by decide +kernel⟩,
   ⟨st92, ({port := 0, version := 2, minor := 0, domain := 0, source := 7, seq := 5, origin := 1000000, correction := 10 }),
       by decide +kernel⟩,
   ⟨State.reset, 0, 5, by decide +kernel⟩,
   ⟨st92, ({
           port := 0, version := 2, minor := 0, domain := 0, gm := 99, priority1 := 1, clockClass := 2, accuracy := 3,
           variance := 4, priority2 := 5, steps := 1 }), by decide +kernel⟩,
   ⟨State.reset, 0, by decide +kernel⟩,
   ⟨State.reset, 0, by decide +kernel⟩,
   ⟨st93, 0, 99, by decide +kernel⟩,
   ⟨st94, 0, 99, 0, by decide +kernel⟩,
   ⟨st95, 0, 99, 0, by decide +kernel⟩,
   ⟨st92, ({ port := 0, version := 2, minor := 0, domain := 0, source := 99, seq := 1, ingress := 2000 }), by decide +kernel⟩,
   ⟨st92, ({port := 0, version := 2, minor := 0, domain := 0, seq := 3, sent := 2000, ingress := 9000, turn := 1000 }),
       by decide +kernel⟩,
   ⟨State.reset, 0, by decide +kernel⟩,
   ⟨st96, 0, by decide +kernel⟩⟩

theorem witness_TsSelectionAndSetting :
  (∃ s : State, s.revertDue = true) ∧
  (∃ s : State, s.revertDue = false) ∧
  (∃ s : State, s.time.following = true ∧ s.tsValid = true ∧ s.tsState = tsHoldover ∧ s.revertDue = false ∧ s.bLocked (s.fld
    F.TIME_STATUS_SOURCE) = true ∧ (s.domOffset (s.fld F.TIME_STATUS_SOURCE)).natAbs ≤ 50) ∧
  (∃ s : State, (s.time.following = false ∨ 50 < (s.domOffset (s.fld F.TIME_STATUS_SOURCE)).natAbs)) ∧
  (∃ s : State, s.time.following = true ∧ s.tsValid = true ∧ s.tsState ≠ tsHoldover ∧ s.revertDue = false ∧ s.bLocked (s.fld
    F.TIME_STATUS_SOURCE) = true ∧ (s.domOffset (s.fld F.TIME_STATUS_SOURCE)).natAbs ≤ 50) ∧
  (∃ s : State, s.tsState = tsHoldover ∧ 1000 * s.fld F.TIME_CFG_HOLD_LIMIT_S ≤ s.holdMs) ∧
  (∃ s : State, (s.tsState ≠ tsHoldover ∨ s.holdMs < 1000 * s.fld F.TIME_CFG_HOLD_LIMIT_S)) ∧
  (∃ (s : State) (n : Fin 8) (v : W32), s.granted n.val (R.TIME_SET.addr 0 0) R.TIME_SET 0 = true ∧ (s.tsState = tsUnset ∨
    s.tsState = tsExpired)) ∧
  (∃ (s : State) (n : Fin 8) (v : W32), s.granted n.val (R.TIME_SET.addr 0 1) R.TIME_SET 0 = true ∧ (s.tsState = tsUnset ∨
    s.tsState = tsExpired)) ∧
  (∃ (s : State) (n : Fin 8) (h : Fin 2) (v : W32), s.granted n.val (R.TIME_SET.addr 0 h.val) R.TIME_SET 0 = true ∧
    s.tsState ≠ tsUnset ∧ s.tsState ≠ tsExpired) :=
  ⟨⟨st97, by decide +kernel⟩,
   ⟨State.reset, by decide +kernel⟩,
   ⟨st98, by decide +kernel⟩,
   ⟨State.reset, by decide +kernel⟩,
   ⟨st99, by decide +kernel⟩,
   ⟨st100, by decide +kernel⟩,
   ⟨State.reset, by decide +kernel⟩,
   ⟨st101, 0, 7, by decide +kernel⟩,
   ⟨st101, 0, 7, by decide +kernel⟩,
   ⟨st102, 0, 0, 7, by decide +kernel⟩⟩

theorem witness_PortsAndSegments :
  let whole_ (s : State) (f : Frame) : Prop := s.malformed f nkSupervision = false ∧ f.body.length = 8 ∧ bits
    (leAt f.body 0 8) 63 21 = 0
  (∃ (s : State) (f : Frame), (f.port.val = 4 ∨ s.portUp f.port.val = false)) ∧
  (∃ (s : State) (f : Frame), f.port.val < 4) ∧
  (∃ (s : State) (f : Frame), f.port.val < 4 ∧ s.portUp f.port.val = true ∧ whole_ s f ∧ s.fromStation f = false ∧
    f.source.toNat < 4096) ∧
  (∃ (s : State) (f : Frame), f.port.val < 4 ∧ s.portUp f.port.val = true ∧ (s.malformed f nkSupervision = true ∨
    f.body.length ≠ 8 ∨ bits (leAt f.body 0 8) 63 21 ≠ 0)) ∧
  (∃ (s : State) (plane : Nat), plane < 2) :=
  ⟨⟨State.reset, ({
           port := 0, fcs := true, etherType := 0x88b5, version := 1, kind := 1, flags := 0, hops := 0, source := 9,
           dest := 0, inst := 0x4d, bodyLen := 8, zero := 0, body := [7, 0x42, 3, 0, 0, 0, 0, 0], seqNr := 5 }),
       by decide +kernel⟩,
   ⟨State.reset, ({
           port := 0, fcs := true, etherType := 0x88b5, version := 1, kind := 1, flags := 0, hops := 0, source := 9,
           dest := 0, inst := 0x4d, bodyLen := 8, zero := 0, body := [7, 0x42, 3, 0, 0, 0, 0, 0], seqNr := 5 }),
       by decide +kernel⟩,
   ⟨st103, ({
           port := 0, fcs := true, etherType := 0x88b5, version := 1, kind := 2, flags := 0, hops := 0, source := 9,
           dest := 0, inst := 0x4d, bodyLen := 8, zero := 0, body := [7, 0x50, 0x10, 0, 0, 0, 0, 0], seqNr := 5 }),
       by decide +kernel⟩,
   ⟨st103, ({
           port := 0, fcs := true, etherType := 0x88b5, version := 1, kind := 1, flags := 0, hops := 0, source := 9,
           dest := 0, inst := 0x4d, bodyLen := 8, zero := 0, body := [7, 0x42, 3, 0, 0, 0, 0, 0], seqNr := 5 }),
       by decide +kernel⟩,
   ⟨State.reset, 0, by decide +kernel⟩⟩

theorem witness_PeersAndPublications :
  let open_ (s : State) (f : Frame) (kind : Nat) : Prop := f.port.val < 4 ∧ s.portUp f.port.val = true ∧
    s.portRole f.port.val ≠ prRefused ∧ s.malformed f kind = false ∧ s.fromStation f = false
  let said (f : Frame) : Prop := f.body.length = 8 ∧ bits (leAt f.body 0 8) 63 22 = 0
  let tells (f : Frame) : Prop := let w0 := leAt f.body 0 8
    f.body.length = 8 * (1 + 3 * bits w0 31 23) ∧ bits w0 22 8 = 0 ∧ 1 ≤ bits w0 31 23 ∧ bits w0 31 23 ≤ 256 ∧
    (∀ i < bits w0 31 23, bits (leAt f.body (8 + 24 * i) 8) 63 40 = 0 ∧ bits (leAt f.body (8 + 24 * i) 8) 31 17 = 0)
  let unseen (s : State) (f : Frame) : Prop := nget (0, 0) s.net.seen (65536 * f.source.toNat + f.seqNr.toNat) = (0, 0)
  let shut (s : State) (f : Frame) : Prop := s.portUp f.port.val = false ∨ s.portRole f.port.val = prRefused
  (∃ (s : State) (f : Frame), open_ s f nkAnnounce ∧ said f ∧ unseen s f) ∧
  (∃ (s : State) (f : Frame) (t0 planes : Nat), open_ s f nkAnnounce ∧ said f ∧ nget (0, 0) s.net.seen (65536 *
    f.source.toNat + f.seqNr.toNat) = (t0, planes) ∧ planes ≠ 0 ∧ s.tick < t0 + 400000) ∧
  (∃ (s : State) (f : Frame), f.port.val < 4 ∧ (s.malformed f nkAnnounce = true ∨ ¬ said f)) ∧
  (∃ (s : State) (f : Frame), f.port.val < 4 ∧ shut s f ∧ s.malformed f nkAnnounce = false ∧ said f) ∧
  (∃ (s : State) (n : Fin 256), s.flag F.PUB_CFG_EN n.val = true ∧ s.acctState (s.fld F.PUB_OWNER_ACCOUNT n.val) = aRunning
    ∧ s.gridPasses s.net.grid (s.fld F.PUB_PHASE_PHASE_US n.val) (s.fld F.PUB_PERIOD_PERIOD_US n.val) = true) ∧
  (∃ (s : State) (n : Fin 256), (s.flag F.PUB_CFG_EN n.val = false ∨ s.acctState (s.fld F.PUB_OWNER_ACCOUNT n.val) ≠
    aRunning ∨ s.gridPasses s.net.grid (s.fld F.PUB_PHASE_PHASE_US n.val) (s.fld F.PUB_PERIOD_PERIOD_US n.val) = false)) ∧
  (∃ (s : State) (f : Frame), open_ s f nkPublication ∧ unseen s f ∧ (s.peer f.source.toNat).state ≠ 2) ∧
  (∃ (s : State) (f : Frame), open_ s f nkPublication ∧ tells f ∧ (s.peer f.source.toNat).state = 2) ∧
  (∃ (s : State) (f : Frame), f.port.val < 4 ∧ shut s f) ∧
  (∃ (s : State) (f : Frame), f.port.val < 4 ∧ s.portUp f.port.val = true ∧ s.portRole f.port.val ≠ prRefused ∧ s.malformed
    f nkPublication = true) :=
  ⟨⟨st103, ({
           port := 0, fcs := true, etherType := 0x88b5, version := 1, kind := 1, flags := 0, hops := 0, source := 9,
           dest := 0, inst := 0x4d, bodyLen := 8, zero := 0, body := [7, 0x42, 3, 0, 0, 0, 0, 0], seqNr := 5 }),
       by decide +kernel⟩,
   ⟨st104, ({
           port := 0, fcs := true, etherType := 0x88b5, version := 1, kind := 1, flags := 0, hops := 0, source := 9,
           dest := 0, inst := 0x4d, bodyLen := 8, zero := 0, body := [7, 0x42, 3, 0, 0, 0, 0, 0], seqNr := 5 }), 1900, 1,
       by decide +kernel⟩,
   ⟨State.reset, ({
           port := 0, fcs := true, etherType := 0x88b5, version := 1, kind := 2, flags := 0, hops := 0, source := 9,
           dest := 0, inst := 0x4d, bodyLen := 8, zero := 0, body := [7, 0x50, 0x10, 0, 0, 0, 0, 0], seqNr := 5 }),
       by decide +kernel⟩,
   ⟨State.reset, ({
           port := 0, fcs := true, etherType := 0x88b5, version := 1, kind := 1, flags := 0, hops := 0, source := 9,
           dest := 0, inst := 0x4d, bodyLen := 8, zero := 0, body := [7, 0x42, 3, 0, 0, 0, 0, 0], seqNr := 5 }),
       by decide +kernel⟩,
   ⟨st105, 5, by decide +kernel⟩,
   ⟨State.reset, 0, by decide +kernel⟩,
   ⟨st103, ({
           port := 0, fcs := true, etherType := 0x88b5, version := 1, kind := 3, flags := 0, hops := 0, source := 9,
           dest := 0, inst := 0x4d, bodyLen := 0x20, zero := 0,
           body := [5, 0, 0x80, 0, 1, 0, 0, 0, 0xb, 0, 0, 0, 1, 0, 0, 0, 4, 0, 0, 0, 0, 0, 0, 0, 5, 0, 0, 0, 0, 0, 0, 0],
           seqNr := 8 }), by decide +kernel⟩,
   ⟨st106, ({
           port := 0, fcs := true, etherType := 0x88b5, version := 1, kind := 3, flags := 0, hops := 0, source := 9,
           dest := 0, inst := 0x4d, bodyLen := 0x20, zero := 0,
           body := [5, 0, 0x80, 0, 1, 0, 0, 0, 0xb, 0, 0, 0, 1, 0, 0, 0, 4, 0, 0, 0, 0, 0, 0, 0, 5, 0, 0, 0, 0, 0, 0, 0],
           seqNr := 8 }), by decide +kernel⟩,
   ⟨State.reset, ({
           port := 0, fcs := true, etherType := 0x88b5, version := 1, kind := 1, flags := 0, hops := 0, source := 9,
           dest := 0, inst := 0x4d, bodyLen := 8, zero := 0, body := [7, 0x42, 3, 0, 0, 0, 0, 0], seqNr := 5 }),
       by decide +kernel⟩,
   ⟨st103, ({
           port := 0, fcs := true, etherType := 0x88b5, version := 1, kind := 1, flags := 0, hops := 0, source := 9,
           dest := 0, inst := 0x4d, bodyLen := 8, zero := 0, body := [7, 0x42, 3, 0, 0, 0, 0, 0], seqNr := 5 }),
       by decide +kernel⟩⟩

theorem witness_RequestTransactions :
  let up (s : State) (f : Frame) : Prop := f.port.val < 4 ∧ s.portUp f.port.val = true ∧ s.portRole f.port.val ≠ prRefused
  let open_ (s : State) (f : Frame) (kind : Nat) : Prop := up s f ∧ s.isOwn f.dest.toNat = true ∧ s.malformed f kind = false ∧
    s.fromStation f = false ∧
    (s.peer f.source.toNat).state ≠ 2 ∧ nget (0, 0) s.net.seen (65536 * f.source.toNat + f.seqNr.toNat) = (0, 0)
  let mayTag (s : State) (a peer : Nat) : Prop := (s.peer peer).state ≠ 0 ∧ (s.peer peer).state ≠ 2 ∧
    s.tagsHeld a none < s.fld F.ACCT_QUOTA_1_TAGS a ∧ s.tagsHeld a (some peer) < s.budget peer
  let firstOf (s : State) (a peer : Nat) : Option (QItem × List QItem) :=
    takeFirst (fun (q : QItem) => q.admitted.isSome && hPeer (q.item.headD 0) == peer) (s.queue a)
  (∃ (s : State) (a : Fin 8) (peer : BitVec 12), (¬ mayTag s a.val peer.toNat ∨ firstOf s a.val peer.toNat = none ∨
    s.freeTag = none)) ∧
  (∃ (s : State) (a : Fin 8) (peer : BitVec 12) (q : QItem) (rest : List QItem) (tag : Nat), mayTag s a.val peer.toNat ∧
    firstOf s a.val peer.toNat = some (q, rest) ∧ s.freeTag = some tag) ∧
  (∃ (s : State) (a : Fin 8) (i : Nat), (s.queue a.val)[i]?.all (fun q => q.admitted.all fun x => decide (s.tick < x +
    s.reqT (q.item.headD 0))) = true) ∧
  (∃ (s : State) (a : Fin 8) (i : Nat) (q : QItem) (rt : Nat), (s.queue a.val)[i]? = some q ∧ q.admitted.any (fun x =>
    decide (x + s.reqT (q.item.headD 0) ≤ s.tick)) = true ∧ s.replyTill a.val = some rt) ∧
  (∃ (s : State) (tag : Fin 4096), (((s.tag tag.val).st ≠ 1 ∧ (s.tag tag.val).st ≠ 2) ∨ s.tick < (s.tag tag.val).deadline)) ∧
  (∃ (s : State) (tag : Fin 4096) (rt : Nat), ((s.tag tag.val).st = 1 ∨ (s.tag tag.val).st = 2) ∧ (s.tag tag.val).deadline ≤
    s.tick ∧ (s.tag tag.val).account < 8 ∧ s.replyTill (s.tag tag.val).account = some rt) ∧
  (∃ (s : State) (tag : Fin 4096), (s.tag tag.val).st = 3 ∧ (s.tag tag.val).deadline + 2 * s.fld F.NET_PATH_PATH_MAX_US ≤
    s.tick) ∧
  (∃ (s : State) (tag : Fin 4096), ((s.tag tag.val).st ≠ 3 ∨ s.tick < (s.tag tag.val).deadline + 2 * s.fld
    F.NET_PATH_PATH_MAX_US)) ∧
  (∃ (s : State) (f : Frame) (acct : Fin 8), open_ s f nkRequest ∧ f.body.length = 8 * (2 + hLength ((words64 f.body).headD
    0)) ∧ hKind ((words64 f.body).headD 0) = 0 ∧ hLength ((words64 f.body).headD 0) ≤ 1024) ∧
  (∃ (s : State) (f : Frame) (acct : Fin 8), open_ s f nkRequest ∧ (f.body.length ≠ 8 * (2 + hLength ((words64 f.body).headD
    0)) ∨ hKind ((words64 f.body).headD 0) ≠ 0 ∨ 1024 < hLength ((words64 f.body).headD 0))) ∧
  (∃ (s : State) (f : Frame) (acct : Fin 8), up s f ∧ f.fcs = true ∧ s.isOwn f.dest.toNat = false) ∧
  (∃ (s : State) (f : Frame) (acct : Fin 8), f.port.val < 4 ∧ (s.portUp f.port.val = false ∨ s.portRole f.port.val =
    prRefused)) ∧
  (∃ (s : State) (f : Frame) (acct : Fin 8), up s f ∧ (s.isOwn f.dest.toNat = true ∨ f.fcs = false) ∧ s.malformed f
    nkRequest = true) ∧
  (∃ (s : State) (f : Frame), open_ s f nkReply ∧ f.body.length = 8 * (1 + hLength ((words64 f.body).headD 0)) ∧ hKind
    ((words64 f.body).headD 0) = 1 ∧ hService ((words64 f.body).headD 0) = 0 ∧ hReplyMax ((words64 f.body).headD 0) = 0) ∧
  (∃ (s : State) (f : Frame), open_ s f nkReply ∧ (f.body.length ≠ 8 * (1 + hLength ((words64 f.body).headD 0)) ∨ hKind
    ((words64 f.body).headD 0) ≠ 1 ∨ hService ((words64 f.body).headD 0) ≠ 0 ∨ hReplyMax ((words64 f.body).headD 0) ≠ 0)) ∧
  (∃ (s : State) (f : Frame), up s f ∧ f.fcs = true ∧ s.isOwn f.dest.toNat = false) ∧
  (∃ (s : State) (f : Frame), up s f ∧ (s.isOwn f.dest.toNat = true ∨ f.fcs = false) ∧ s.malformed f nkReply = true) ∧
  (∃ (s : State) (f : Frame), f.port.val < 4 ∧ (s.portUp f.port.val = false ∨ s.portRole f.port.val = prRefused)) :=
  ⟨⟨State.reset, 3, 9, by decide +kernel⟩,
   ⟨{st107 with net.tags := [] }, 3, 9, ({item := [0x4b400401400901, 7, 8], admitted := some 5 }),
      ([{item := [0x4b400401400901, 7, 8], admitted := none }]), 0, by decide +kernel, by decide +kernel,
    freeTag_fresh _ rfl⟩,
   ⟨State.reset, 3, 0, by decide +kernel⟩,
   ⟨st108, 3, 0, ({ item := [0x4b400401400901, 7, 8], admitted := some 5 }), 2, by decide +kernel⟩,
   ⟨State.reset, 0, by decide +kernel⟩,
   ⟨st108, 1, 2, by decide +kernel⟩,
   ⟨st109, 0, by decide +kernel⟩,
   ⟨State.reset, 0, by decide +kernel⟩,
   ⟨st103, ({
           port := 0, fcs := true, etherType := 0x88b5, version := 3, kind := 4, flags := 0, hops := 0, source := 9,
           dest := 0x28, inst := 0x4d, bodyLen := 0x20, zero := 0,
           body := [1, 9, 0x40, 1, 4, 0x40, 3, 0, 0xf4, 1, 0, 0, 0, 0, 0, 0, 7, 0, 0, 0, 0, 0, 0, 0, 8, 0, 0, 0, 0, 0, 0, 0],
           seqNr := 9 }), 3, by decide +kernel⟩,
   ⟨st103, ({
           port := 0, fcs := true, etherType := 0x88b5, version := 3, kind := 4, flags := 0, hops := 0, source := 9,
           dest := 0x28, inst := 0x4d, bodyLen := 0x18, zero := 0,
           body := [1, 9, 0x40, 1, 4, 0x40, 3, 0, 0xf4, 1, 0, 0, 0, 0, 0, 0, 7, 0, 0, 0, 0, 0, 0, 0], seqNr := 9 }), 3,
       by decide +kernel⟩,
   ⟨st103, ({
           port := 0, fcs := true, etherType := 0x88b5, version := 1, kind := 1, flags := 0, hops := 0, source := 9,
           dest := 0, inst := 0x4d, bodyLen := 8, zero := 0, body := [7, 0x42, 3, 0, 0, 0, 0, 0], seqNr := 5 }), 3,
       by decide +kernel⟩,
   ⟨State.reset, ({
           port := 0, fcs := true, etherType := 0x88b5, version := 1, kind := 1, flags := 0, hops := 0, source := 9,
           dest := 0, inst := 0x4d, bodyLen := 8, zero := 0, body := [7, 0x42, 3, 0, 0, 0, 0, 0], seqNr := 5 }), 3,
       by decide +kernel⟩,
   ⟨st103, ({
           port := 0, fcs := true, etherType := 0x88b5, version := 3, kind := 5, flags := 0, hops := 0, source := 9,
           dest := 0x28, inst := 0x4d, bodyLen := 0x10, zero := 0,
           body := [0, 1, 0x10, 0, 2, 0, 3, 0x80, 0x42, 0, 0, 0, 0, 0, 0, 0], seqNr := 9 }), 3, by decide +kernel⟩,
   ⟨st103, ({
           port := 0, fcs := true, etherType := 0x88b5, version := 3, kind := 5, flags := 0, hops := 0, source := 9,
           dest := 0x28, inst := 0x4d, bodyLen := 0x10, zero := 0,
           body := [0, 1, 0x10, 0, 2, 0, 3, 0x80, 0x42, 0, 0, 0, 0, 0, 0, 0], seqNr := 9 }), by decide +kernel⟩,
   ⟨st103, ({
           port := 0, fcs := true, etherType := 0x88b5, version := 3, kind := 5, flags := 0, hops := 0, source := 9,
           dest := 0x28, inst := 0x4d, bodyLen := 0x10, zero := 0,
           body := [0, 1, 0x10, 0, 2, 0x40, 3, 0x80, 0x42, 0, 0, 0, 0, 0, 0, 0], seqNr := 9 }), by decide +kernel⟩,
   ⟨st103, ({
           port := 0, fcs := true, etherType := 0x88b5, version := 1, kind := 1, flags := 0, hops := 0, source := 9,
           dest := 0, inst := 0x4d, bodyLen := 8, zero := 0, body := [7, 0x42, 3, 0, 0, 0, 0, 0], seqNr := 5 }),
       by decide +kernel⟩,
   ⟨st103, ({
           port := 0, fcs := true, etherType := 0x88b5, version := 3, kind := 4, flags := 0, hops := 0, source := 9,
           dest := 0x28, inst := 0x4d, bodyLen := 0x20, zero := 0,
           body := [1, 9, 0x40, 1, 4, 0x40, 3, 0, 0xf4, 1, 0, 0, 0, 0, 0, 0, 7, 0, 0, 0, 0, 0, 0, 0, 8, 0, 0, 0, 0, 0, 0, 0],
           seqNr := 9 }), by decide +kernel⟩,
   ⟨State.reset, ({
           port := 0, fcs := true, etherType := 0x88b5, version := 1, kind := 1, flags := 0, hops := 0, source := 9,
           dest := 0, inst := 0x4d, bodyLen := 8, zero := 0, body := [7, 0x42, 3, 0, 0, 0, 0, 0], seqNr := 5 }),
       by decide +kernel⟩⟩

theorem witness_RztReceiveConnections :
  let open_ (s : State) (f : Frame) : Prop := f.port.val < 4 ∧ s.portUp f.port.val = true ∧
    s.portRole f.port.val ≠ prRefused ∧ f.dest.toNat = s.addr ∧ s.rzPeer f.source.toNat = true ∧
    rzZero (words64 f.body) = true ∧ s.malformed f nkRzt = false ∧ s.fromStation f = false ∧ (s.peer f.source.toNat).state ≠ 2
  let unseen (s : State) (f : Frame) : Prop := nget (0, 0) s.net.seen (65536 * f.source.toNat + f.seqNr.toNat) = (0, 0)
  let data (s : State) (f : Frame) (c : Nat) (ws : List W64) : Prop := words64 f.body = ws ∧ s.rxOf (rzConn (ws.headD 0)) =
    some c ∧
    s.rzState c = rsRun ∧ s.rxPeer c f.source.toNat = true ∧ rzType (ws.headD 0) = rtData ∧
    rzVersion (ws.headD 0) = s.fld F.RZT_RX_STATUS_VERSION c ∧ rzGood (s.reg R.RZT_RX_SIG c) ws = true ∧
    bits (ws.getD 1 0).toNat 15 8 = s.fld F.RZT_RX_CFG_COUNT c ∧
    ws.length = 3 + s.fld F.RZT_RX_CFG_COUNT c * rzElemWords (s.fld F.RZT_RX_STATUS_VERSION c)
  let next (s : State) (c : Nat) (ws : List W64) : Prop := rzSeq (ws.headD 0) = (s.reg R.RZT_RX_SEQ c + 1) % 2 ^ 32
  let port (f : Frame) : List Nat := [R.PORT_RX.addr f.port.val 0]
  (∃ (s : State) (f : Frame), (s.receiveRzt f).1 = false) ∧
  (∃ (s : State) (f : Frame) (c : Nat), open_ s f ∧ unseen s f ∧ s.rxOf (rzConn ((words64 f.body).headD 0)) = some c) ∧
  (∃ (s : State) (f : Frame), (s.receiveRzt f).1 = true ∧ s.rxOf (rzConn ((words64 f.body).headD 0)) = none) ∧
  (∃ (s : State) (f : Frame), (s.receiveCopy f).1 = false) ∧
  (∃ (s : State) (f : Frame), (s.receiveCopy f).1 = true ∧ s.rxOf (rzConn ((words64 f.body).headD 0)) = none) ∧
  (∃ (s : State) (f : Frame) (c : Nat), open_ s f ∧ s.rxOf (rzConn ((words64 f.body).headD 0)) = some c ∧ (s.rzState c ≠
    rsRun ∨ s.rxPeer c f.source.toNat = false)) ∧
  (∃ (s : State) (f : Frame) (c : Nat) (ws : List W64), open_ s f ∧ words64 f.body = ws ∧ s.rxOf (rzConn (ws.headD 0)) =
    some c ∧ s.rzState c = rsRun ∧ s.rxPeer c f.source.toNat = true ∧ ¬ data s f c ws) ∧
  (∃ (s : State) (f : Frame) (c : Nat) (ws : List W64), open_ s f ∧ data s f c ws ∧ rzSeq (ws.headD 0) = s.reg R.RZT_RX_SEQ
    c) ∧
  (∃ (s : State) (f : Frame) (c : Nat) (ws : List W64), open_ s f ∧ data s f c ws ∧ rzSeq (ws.headD 0) ≠ s.reg R.RZT_RX_SEQ
    c ∧ ¬ next s c ws) ∧
  (∃ (s : State) (f : Frame) (c : Nat) (ws : List W64), open_ s f ∧ data s f c ws ∧ next s c ws ∧ (s.rx c).assay = none) ∧
  (∃ (s : State) (f : Frame) (c : Nat) (ws : List W64) (a : Assay), open_ s f ∧ data s f c ws ∧ next s c ws ∧ (s.rx c).assay
    = some a ∧ a.plane = f.port.val / 2) ∧
  (∃ (s : State) (f : Frame) (c : Nat) (ws : List W64) (a : Assay), open_ s f ∧ data s f c ws ∧ next s c ws ∧ (s.rx c).assay
    = some a ∧ a.plane ≠ f.port.val / 2 ∧ a.words = ws) ∧
  (∃ (s : State) (f : Frame) (c : Nat) (ws : List W64) (a : Assay), open_ s f ∧ data s f c ws ∧ next s c ws ∧ (s.rx c).assay
    = some a ∧ a.plane ≠ f.port.val / 2 ∧ a.words ≠ ws) ∧
  (∃ (s : State) (c : Fin 64), (s.rzState c.val ≠ rsRun ∨ ((s.rx c.val).assay.all fun a => decide (s.tick < a.openedAt +
    s.fld F.RZT_RX_ASSAY_ASSAY_US c.val)) = true)) ∧
  (∃ (s : State) (c : Fin 64) (a : Assay), s.rzState c.val = rsRun ∧ (s.rx c.val).assay = some a ∧ a.openedAt + s.fld
    F.RZT_RX_ASSAY_ASSAY_US c.val ≤ s.tick) :=
  ⟨⟨st110, ({
           port := 0, fcs := true, etherType := 0x88b5, version := 3, kind := 7, flags := 0, hops := 0, source := 9,
           dest := 0x28, inst := 0x4d, bodyLen := 0x48, zero := 0,
           body := [0x29, 0, 0, 0, 2, 0x10, 3, 0, 0, 2, 0, 0, 0, 0, 0, 0, 9, 0, 0, 0, 0, 0, 0, 0, 0x41, 0, 0, 0, 0, 0, 0, 0,
               0x64, 0, 0, 0, 0, 0, 0, 0, 0xa, 0, 0, 0, 0, 0, 0, 0, 1, 0, 0, 0, 0, 0, 0, 0, 1, 0, 0, 0, 0, 0, 0, 0x80, 0xb4,
               0x76, 0xa0, 0x31, 0, 0, 0, 0], seqNr := 5 }), by decide +kernel⟩,
   ⟨st111, ({
           port := 0, fcs := true, etherType := 0x88b5, version := 3, kind := 7, flags := 0, hops := 0, source := 9,
           dest := 0x28, inst := 0x4d, bodyLen := 0x48, zero := 0,
           body := [0x29, 0, 0, 0, 2, 0x10, 3, 0, 0, 2, 0, 0, 0, 0, 0, 0, 9, 0, 0, 0, 0, 0, 0, 0, 0x41, 0, 0, 0, 0, 0, 0, 0,
               0x64, 0, 0, 0, 0, 0, 0, 0, 0xa, 0, 0, 0, 0, 0, 0, 0, 1, 0, 0, 0, 0, 0, 0, 0, 1, 0, 0, 0, 0, 0, 0, 0x80, 0xb4,
               0x76, 0xa0, 0x31, 0, 0, 0, 0], seqNr := 5 }), 1, by decide +kernel⟩,
   ⟨st111, ({
           port := 0, fcs := true, etherType := 0x88b5, version := 3, kind := 7, flags := 0, hops := 0, source := 9,
           dest := 0x28, inst := 0x4d, bodyLen := 0x18, zero := 0,
           body := [0, 0, 0, 0, 0, 0x20, 9, 0, 3, 0, 0, 0, 0x42, 0, 0, 0, 1, 0x6e, 0xa1, 0xaf, 0, 0, 0, 0], seqNr := 5 }),
       by decide +kernel⟩,
   ⟨st110, ({
           port := 0, fcs := true, etherType := 0x88b5, version := 3, kind := 7, flags := 0, hops := 0, source := 9,
           dest := 0x28, inst := 0x4d, bodyLen := 0x48, zero := 0,
           body := [0x29, 0, 0, 0, 2, 0x10, 3, 0, 0, 2, 0, 0, 0, 0, 0, 0, 9, 0, 0, 0, 0, 0, 0, 0, 0x41, 0, 0, 0, 0, 0, 0, 0,
               0x64, 0, 0, 0, 0, 0, 0, 0, 0xa, 0, 0, 0, 0, 0, 0, 0, 1, 0, 0, 0, 0, 0, 0, 0, 1, 0, 0, 0, 0, 0, 0, 0x80, 0xb4,
               0x76, 0xa0, 0x31, 0, 0, 0, 0], seqNr := 5 }), by decide +kernel⟩,
   ⟨st111, ({
           port := 0, fcs := true, etherType := 0x88b5, version := 3, kind := 7, flags := 0, hops := 0, source := 9,
           dest := 0x28, inst := 0x4d, bodyLen := 0x18, zero := 0,
           body := [0, 0, 0, 0, 0, 0x20, 9, 0, 3, 0, 0, 0, 0x42, 0, 0, 0, 1, 0x6e, 0xa1, 0xaf, 0, 0, 0, 0], seqNr := 5 }),
       by decide +kernel⟩,
   ⟨st111, ({
           port := 0, fcs := true, etherType := 0x88b5, version := 3, kind := 7, flags := 0, hops := 0, source := 9,
           dest := 0x28, inst := 0x4d, bodyLen := 0x48, zero := 0,
           body := [0x29, 0, 0, 0, 2, 0x10, 3, 0, 0, 2, 0, 0, 0, 0, 0, 0, 9, 0, 0, 0, 0, 0, 0, 0, 0x41, 0, 0, 0, 0, 0, 0, 0,
               0x64, 0, 0, 0, 0, 0, 0, 0, 0xa, 0, 0, 0, 0, 0, 0, 0, 1, 0, 0, 0, 0, 0, 0, 0, 1, 0, 0, 0, 0, 0, 0, 0x80, 0xb4,
               0x76, 0xa0, 0x31, 0, 0, 0, 0], seqNr := 5 }), 1, by decide +kernel⟩,
   ⟨st112, ({
           port := 0, fcs := true, etherType := 0x88b5, version := 3, kind := 7, flags := 0, hops := 0, source := 9,
           dest := 0x28, inst := 0x4d, bodyLen := 0x48, zero := 0,
           body := [0x29, 0, 0, 0, 2, 0x10, 3, 0, 0, 2, 0, 0, 0, 0, 0, 0, 9, 0, 0, 0, 0, 0, 0, 0, 0x41, 0, 0, 0, 0, 0, 0, 0,
               0x64, 0, 0, 0, 0, 0, 0, 0, 0xa, 0, 0, 0, 0, 0, 0, 0, 1, 0, 0, 0, 0, 0, 0, 0, 1, 0, 0, 0, 0, 0, 0, 0x80, 7, 0,
               0, 0, 0, 0, 0, 0], seqNr := 5 }), 1, ([0x3100200000029, 0x200, 9, 0x41, 0x64, 0xa, 1, 0x8000000000000001, 7]),
       by decide +kernel⟩,
   ⟨st112, ({
           port := 0, fcs := true, etherType := 0x88b5, version := 3, kind := 7, flags := 0, hops := 0, source := 9,
           dest := 0x28, inst := 0x4d, bodyLen := 0x48, zero := 0,
           body := [0x28, 0, 0, 0, 2, 0x10, 3, 0, 0, 2, 0, 0, 0, 0, 0, 0, 9, 0, 0, 0, 0, 0, 0, 0, 0x41, 0, 0, 0, 0, 0, 0, 0,
               0x64, 0, 0, 0, 0, 0, 0, 0, 0xa, 0, 0, 0, 0, 0, 0, 0, 1, 0, 0, 0, 0, 0, 0, 0, 1, 0, 0, 0, 0, 0, 0, 0x80, 0xb6,
               0x99, 0xae, 0x45, 0, 0, 0, 0], seqNr := 5 }), 1,
       ([0x3100200000028, 0x200, 9, 0x41, 0x64, 0xa, 1, 0x8000000000000001, 0x45ae99b6]), by decide +kernel⟩,
   ⟨st112, ({
           port := 0, fcs := true, etherType := 0x88b5, version := 3, kind := 7, flags := 0, hops := 0, source := 9,
           dest := 0x28, inst := 0x4d, bodyLen := 0x48, zero := 0,
           body := [0x2a, 0, 0, 0, 2, 0x10, 3, 0, 0, 2, 0, 0, 0, 0, 0, 0, 9, 0, 0, 0, 0, 0, 0, 0, 0x41, 0, 0, 0, 0, 0, 0, 0,
               0x64, 0, 0, 0, 0, 0, 0, 0, 0xa, 0, 0, 0, 0, 0, 0, 0, 1, 0, 0, 0, 0, 0, 0, 0, 1, 0, 0, 0, 0, 0, 0, 0x80, 0xb2,
               0x47, 0xb3, 0xad, 0, 0, 0, 0], seqNr := 5 }), 1,
       ([0x310020000002a, 0x200, 9, 0x41, 0x64, 0xa, 1, 0x8000000000000001, 0xadb347b2]), by decide +kernel⟩,
   ⟨st112, ({
           port := 0, fcs := true, etherType := 0x88b5, version := 3, kind := 7, flags := 0, hops := 0, source := 9,
           dest := 0x28, inst := 0x4d, bodyLen := 0x48, zero := 0,
           body := [0x29, 0, 0, 0, 2, 0x10, 3, 0, 0, 2, 0, 0, 0, 0, 0, 0, 9, 0, 0, 0, 0, 0, 0, 0, 0x41, 0, 0, 0, 0, 0, 0, 0,
               0x64, 0, 0, 0, 0, 0, 0, 0, 0xa, 0, 0, 0, 0, 0, 0, 0, 1, 0, 0, 0, 0, 0, 0, 0, 1, 0, 0, 0, 0, 0, 0, 0x80, 0xb4,
               0x76, 0xa0, 0x31, 0, 0, 0, 0], seqNr := 5 }), 1,
       ([0x3100200000029, 0x200, 9, 0x41, 0x64, 0xa, 1, 0x8000000000000001, 0x31a076b4]), by decide +kernel⟩,
   ⟨st113, ({
           port := 0, fcs := true, etherType := 0x88b5, version := 3, kind := 7, flags := 0, hops := 0, source := 9,
           dest := 0x28, inst := 0x4d, bodyLen := 0x48, zero := 0,
           body := [0x29, 0, 0, 0, 2, 0x10, 3, 0, 0, 2, 0, 0, 0, 0, 0, 0, 9, 0, 0, 0, 0, 0, 0, 0, 0x41, 0, 0, 0, 0, 0, 0, 0,
               0x64, 0, 0, 0, 0, 0, 0, 0, 0xa, 0, 0, 0, 0, 0, 0, 0, 1, 0, 0, 0, 0, 0, 0, 0, 1, 0, 0, 0, 0, 0, 0, 0x80, 0xb4,
               0x76, 0xa0, 0x31, 0, 0, 0, 0], seqNr := 5 }), 1,
       ([0x3100200000029, 0x200, 9, 0x41, 0x64, 0xa, 1, 0x8000000000000001, 0x31a076b4]),
       ({
           plane := 0, source := 9, words := [0x3100200000029, 0x200, 9, 0x41, 0x64, 0xa, 1, 0x8000000000000001, 0x31a076b4],
           openedAt := 0 }), by decide +kernel⟩,
   ⟨st113, ({
           port := 2, fcs := true, etherType := 0x88b5, version := 3, kind := 7, flags := 0, hops := 0, source := 9,
           dest := 0x28, inst := 0x4d, bodyLen := 0x48, zero := 0,
           body := [0x29, 0, 0, 0, 2, 0x10, 3, 0, 0, 2, 0, 0, 0, 0, 0, 0, 9, 0, 0, 0, 0, 0, 0, 0, 0x41, 0, 0, 0, 0, 0, 0, 0,
               0x64, 0, 0, 0, 0, 0, 0, 0, 0xa, 0, 0, 0, 0, 0, 0, 0, 1, 0, 0, 0, 0, 0, 0, 0, 1, 0, 0, 0, 0, 0, 0, 0x80, 0xb4,
               0x76, 0xa0, 0x31, 0, 0, 0, 0], seqNr := 7 }), 1,
       ([0x3100200000029, 0x200, 9, 0x41, 0x64, 0xa, 1, 0x8000000000000001, 0x31a076b4]),
       ({
           plane := 0, source := 9, words := [0x3100200000029, 0x200, 9, 0x41, 0x64, 0xa, 1, 0x8000000000000001, 0x31a076b4],
           openedAt := 0 }), by decide +kernel⟩,
   ⟨st114, ({
           port := 0, fcs := true, etherType := 0x88b5, version := 3, kind := 7, flags := 0, hops := 0, source := 9,
           dest := 0x28, inst := 0x4d, bodyLen := 0x48, zero := 0,
           body := [0x29, 0, 0, 0, 2, 0x10, 3, 0, 0, 2, 0, 0, 0, 0, 0, 0, 9, 0, 0, 0, 0, 0, 0, 0, 0x41, 0, 0, 0, 0, 0, 0, 0,
               0x64, 0, 0, 0, 0, 0, 0, 0, 0xb, 0, 0, 0, 0, 0, 0, 0, 1, 0, 0, 0, 0, 0, 0, 0, 1, 0, 0, 0, 0, 0, 0, 0x80, 0x3a,
               0xb4, 0xef, 0x8b, 0, 0, 0, 0], seqNr := 5 }), 1,
       ([0x3100200000029, 0x200, 9, 0x41, 0x64, 0xb, 1, 0x8000000000000001, 0x8befb43a]),
       ({
           plane := 1, source := 9, words := [0x3100200000029, 0x200, 9, 0x41, 0x64, 0xa, 1, 0x8000000000000001, 0x31a076b4],
           openedAt := 0 }), by decide +kernel⟩,
   ⟨st110, 1, by decide +kernel⟩,
   ⟨st115, 1, ({
           plane := 0, source := 9, words := [0x3100200000029, 0x200, 9, 0x41, 0x64, 0xa, 1, 0x8000000000000001, 0x31a076b4],
           openedAt := 0 }), by decide +kernel⟩⟩

theorem witness_RztSendConnectionsAndHold :
  let open_ (s : State) (f : Frame) : Prop := f.port.val < 4 ∧ s.portUp f.port.val = true ∧
    s.portRole f.port.val ≠ prRefused ∧ f.dest.toNat = s.addr ∧ s.rzPeer f.source.toNat = true ∧
    rzZero (words64 f.body) = true ∧ s.malformed f nkRzt = false ∧ s.fromStation f = false ∧ (s.peer f.source.toNat).state ≠ 2 ∧
    nget (0, 0) s.net.seen (65536 * f.source.toNat + f.seqNr.toNat) = (0, 0)
  let instant (s : State) (c : Nat) : Bool :=
    s.gridPasses s.net.grid (s.fld F.RZT_TX_PHASE_PHASE_US c) (s.fld F.RZT_TX_PERIOD_PERIOD_US c)
  let wordsOf (f : Frame) : List W64 := words64 f.body
  let hd (f : Frame) : W64 := (wordsOf f).headD 0
  (∃ (s : State) (f : Frame), (s.receiveRzt f).1 = false) ∧
  (∃ (s : State) (f : Frame), (s.receiveRzt f).1 = true ∧ s.txOf (rzConn (hd f)) = none) ∧
  (∃ (s : State) (f : Frame) (c : Nat), open_ s f ∧ s.txOf (rzConn (hd f)) = some c) ∧
  (∃ (s : State) (c : Fin 64), (s.fld F.RZT_TX_STATUS_STATE c.val ≠ 1 ∨ s.rzOn = false ∨ instant s c.val = false)) ∧
  (∃ (s : State) (c : Fin 64), s.fld F.RZT_TX_STATUS_STATE c.val = 1 ∧ s.rzOn = true ∧ instant s c.val = true) ∧
  (∃ (s : State) (c : Fin 64) (seq : Nat) (maint : Bool), seq < 2 ^ 32) ∧
  (∃ (s : State) (f : Frame), (s.receiveRzt f).1 = false) ∧
  (∃ (s : State) (f : Frame), (s.receiveRzt f).1 = true ∧ s.txOf (rzConn (hd f)) = none) ∧
  (∃ (s : State) (f : Frame) (c : Nat), open_ s f ∧ s.txOf (rzConn (hd f)) = some c) ∧
  (∃ (s : State), s.flag F.SAFE_STATUS_HOLD = true ∧ s.flag F.SAFE_STATUS_MAINT = false ∧ s.safety.holdTasks = []) ∧
  (∃ (s : State), (s.flag F.SAFE_STATUS_HOLD = false ∨ s.flag F.SAFE_STATUS_MAINT = true ∨ s.safety.holdTasks ≠ [])) :=
  ⟨⟨st110, ({
           port := 0, fcs := true, etherType := 0x88b5, version := 3, kind := 7, flags := 0, hops := 0, source := 9,
           dest := 0x28, inst := 0x4d, bodyLen := 0x48, zero := 0,
           body := [0x29, 0, 0, 0, 2, 0x10, 3, 0, 0, 2, 0, 0, 0, 0, 0, 0, 9, 0, 0, 0, 0, 0, 0, 0, 0x41, 0, 0, 0, 0, 0, 0, 0,
               0x64, 0, 0, 0, 0, 0, 0, 0, 0xa, 0, 0, 0, 0, 0, 0, 0, 1, 0, 0, 0, 0, 0, 0, 0, 1, 0, 0, 0, 0, 0, 0, 0x80, 0xb4,
               0x76, 0xa0, 0x31, 0, 0, 0, 0], seqNr := 5 }), by decide +kernel⟩,
   ⟨st111, ({
           port := 0, fcs := true, etherType := 0x88b5, version := 3, kind := 7, flags := 0, hops := 0, source := 9,
           dest := 0x28, inst := 0x4d, bodyLen := 0x18, zero := 0,
           body := [0, 0, 0, 0, 0, 0x20, 9, 0, 3, 0, 0, 0, 0x42, 0, 0, 0, 1, 0x6e, 0xa1, 0xaf, 0, 0, 0, 0], seqNr := 5 }),
       by decide +kernel⟩,
   ⟨st111, ({
           port := 0, fcs := true, etherType := 0x88b5, version := 3, kind := 7, flags := 0, hops := 0, source := 9,
           dest := 0x28, inst := 0x4d, bodyLen := 0x48, zero := 0,
           body := [0x29, 0, 0, 0, 2, 0x10, 3, 0, 0, 2, 0, 0, 0, 0, 0, 0, 9, 0, 0, 0, 0, 0, 0, 0, 0x41, 0, 0, 0, 0, 0, 0, 0,
               0x64, 0, 0, 0, 0, 0, 0, 0, 0xa, 0, 0, 0, 0, 0, 0, 0, 1, 0, 0, 0, 0, 0, 0, 0, 1, 0, 0, 0, 0, 0, 0, 0x80, 0xb4,
               0x76, 0xa0, 0x31, 0, 0, 0, 0], seqNr := 5 }), 1, by decide +kernel⟩,
   ⟨st110, 1, by decide +kernel⟩,
   ⟨st116, 1, by decide +kernel⟩,
   ⟨st110, 1, 1, (true), by decide +kernel⟩,
   ⟨st110, ({
           port := 0, fcs := true, etherType := 0x88b5, version := 3, kind := 7, flags := 0, hops := 0, source := 9,
           dest := 0x28, inst := 0x4d, bodyLen := 0x48, zero := 0,
           body := [0x29, 0, 0, 0, 2, 0x10, 3, 0, 0, 2, 0, 0, 0, 0, 0, 0, 9, 0, 0, 0, 0, 0, 0, 0, 0x41, 0, 0, 0, 0, 0, 0, 0,
               0x64, 0, 0, 0, 0, 0, 0, 0, 0xa, 0, 0, 0, 0, 0, 0, 0, 1, 0, 0, 0, 0, 0, 0, 0, 1, 0, 0, 0, 0, 0, 0, 0x80, 0xb4,
               0x76, 0xa0, 0x31, 0, 0, 0, 0], seqNr := 5 }), by decide +kernel⟩,
   ⟨st111, ({
           port := 0, fcs := true, etherType := 0x88b5, version := 3, kind := 7, flags := 0, hops := 0, source := 9,
           dest := 0x28, inst := 0x4d, bodyLen := 0x18, zero := 0,
           body := [0, 0, 0, 0, 0, 0x20, 9, 0, 3, 0, 0, 0, 0x42, 0, 0, 0, 1, 0x6e, 0xa1, 0xaf, 0, 0, 0, 0], seqNr := 5 }),
       by decide +kernel⟩,
   ⟨st111, ({
           port := 0, fcs := true, etherType := 0x88b5, version := 3, kind := 7, flags := 0, hops := 0, source := 9,
           dest := 0x28, inst := 0x4d, bodyLen := 0x48, zero := 0,
           body := [0x29, 0, 0, 0, 2, 0x10, 3, 0, 0, 2, 0, 0, 0, 0, 0, 0, 9, 0, 0, 0, 0, 0, 0, 0, 0x41, 0, 0, 0, 0, 0, 0, 0,
               0x64, 0, 0, 0, 0, 0, 0, 0, 0xa, 0, 0, 0, 0, 0, 0, 0, 1, 0, 0, 0, 0, 0, 0, 0, 1, 0, 0, 0, 0, 0, 0, 0x80, 0xb4,
               0x76, 0xa0, 0x31, 0, 0, 0, 0], seqNr := 5 }), 1, by decide +kernel⟩,
   ⟨st117, by decide +kernel⟩,
   ⟨st110, by decide +kernel⟩⟩

theorem witness_LedgerLinkFrames :
  let good (f : LedgerFrame) : Prop := f.body.length = 72 ∧ llCrc f.header f.body = f.crc ∧ bits f.header.toNat 63 62 ≠ 3
  let kind (f : LedgerFrame) : Nat := bits f.header.toNat 63 62
  let hears (s : State) : Prop := s.alive = true ∧ s.llState ≠ llDown
  let takes (s : State) (f : LedgerFrame) (spaced : Bool) : Prop := hears s ∧ s.pair.locked = true ∧ good f ∧
    (spaced = true ∨ s.pair.bad < 3)
  let carries (s : State) (f : LedgerFrame) (n : Nat) : Prop := takes s f true ∧ kind f = lkData ∧ s.llState = llUp ∧
    s.pairState = psStandby ∧ bits f.header.toNat 59 56 = psActive ∧ s.pair.resyncing = true ∧ s.pair.winOpen = false ∧
    s.pair.mapped = false ∧ s.pair.inq = [] ∧ bits f.header.toNat 55 48 = n + 1
  let waits (s : State) : Prop := s.pairState = psResync ∨ s.pairState = psStandby ∨ s.pairState = psMapped
  (∃ (s : State) (f : LedgerFrame) (spaced : Bool) (age : Nat), ¬ hears s) ∧
  (∃ (s : State) (f : LedgerFrame) (spaced : Bool) (age : Nat), ¬ hears s) ∧
  (∃ (s : State) (f : LedgerFrame) (spaced : Bool) (age : Nat), hears s ∧ ¬ good f) ∧
  (∃ (s : State) (f : LedgerFrame) (spaced : Bool) (age : Nat), hears s ∧ s.pair.locked = false ∧ good f ∧ (spaced = false ∨
    s.pair.good < 3)) ∧
  (∃ (s : State) (f : LedgerFrame) (age : Nat), s.alive = true ∧ s.llState = llSearch ∧ s.pair.locked = false ∧ 3 ≤
    s.pair.good ∧ good f ∧ kind f = lkData) ∧
  (∃ (s : State) (f : LedgerFrame) (spaced : Bool) (age : Nat), takes s f spaced ∧ kind f = lkHello ∧ s.llState = llHello ∧
    s.pairState = psStarting) ∧
  (∃ (s : State) (f : LedgerFrame) (spaced : Bool) (age : Nat), takes s f spaced ∧ kind f = lkData ∧ s.llState ≠ llUp) ∧
  (∃ (s : State) (f : LedgerFrame) (age : Nat) (h v stamp : W64), carries s f 3 ∧ (f.body.headD 0).toNat = s.pair.expect ∧
    f.body.tail.take 3 = [h, v, stamp] ∧ bits h.toNat 63 60 = 2 ∧ bits h.toNat 59 56 ≠ 1 ∧ s.force? (bits h.toNat 16 0) =
    none) ∧
  (∃ (s : State) (f : LedgerFrame) (age : Nat) (h v : W64), carries s f 2 ∧ (f.body.headD 0).toNat = s.pair.expect ∧
    f.body.tail.take 2 = [h, v] ∧ bits h.toNat 63 60 = 6) ∧
  (∃ (s : State) (f : LedgerFrame) (age n : Nat), carries s f n ∧ (f.body.headD 0).toNat + n ≤ s.pair.expect ∧ n < 72) ∧
  (∃ (s : State) (age : Nat) (ws : List W64), s.pair.mapped = false ∧ s.pair.winOpen = false) ∧
  (∃ (s : State) (f : LedgerFrame) (spaced : Bool) (age : Nat), takes s f spaced ∧ kind f = lkRelinquish ∧ (waits s ∨
    s.llState ≠ llUp)) ∧
  (∃ (s : State) (f : LedgerFrame) (spaced : Bool) (age : Nat), takes s f spaced ∧ kind f = lkRelinquish ∧ ¬ waits s) :=
  ⟨⟨State.reset, (llFrame 0x201000000000005 []), (true), 2, by (repeat' apply And.intro) <;>
       first | exact llFrame_good _ _ | decide +kernel⟩,
   ⟨State.reset, (llFrame 0x201000000000005 []), (true), 2, by (repeat' apply And.intro) <;>
       first | exact llFrame_good _ _ | decide +kernel⟩,
   ⟨st118, (⟨0x203000000000005, [], 0⟩), (true), 2, by decide +kernel⟩,
   ⟨st118, (llFrame 0x201000000000005 []), (true), 2, by (repeat' apply And.intro) <;>
       first | exact llFrame_good _ _ | decide +kernel⟩,
   ⟨st119, (llFrame 0x201000000000005 []), 2, by (repeat' apply And.intro) <;> first | exact llFrame_good _ _ | decide +kernel⟩,
   ⟨st120, (llFrame 0x4105000000000005 [2, 9, 0x21]), (true), 2, by (repeat' apply And.intro) <;>
       first | exact llFrame_good _ _ | decide +kernel⟩,
   ⟨st121, (llFrame 0x201000000000005 []), (true), 2, by (repeat' apply And.intro) <;>
       first | exact llFrame_good _ _ | decide +kernel⟩,
   ⟨st122, (llFrame 0x2204000000000005 [0xa, 0x2341000000000005, 0x4d, 0x58]), 2, (0x2341000000000005), (0x4d), (0x58), by
       (repeat' apply And.intro) <;> first | exact llFrame_good _ _ | decide +kernel⟩,
   ⟨st122, (llFrame 0x1203000000000005 [0xa, 0x6000000000030007, 0x4d]), 2, (0x6000000000030007), (0x4d), by
       (repeat' apply And.intro) <;> first | exact llFrame_good _ _ | decide +kernel⟩,
   ⟨st122, (llFrame 0x203000000000005 [5, 0x6000000000030007, 0x4e]), 2, 2, by (repeat' apply And.intro) <;>
       first | exact llFrame_good _ _ | decide +kernel⟩,
   ⟨State.reset, 2, ([0x4000000000000000, 9, 8, 0x1000300, 3]), by decide +kernel⟩,
   ⟨st121, (llFrame 0x8202000000000005 [0xa, 3]), (true), 2, by (repeat' apply And.intro) <;>
       first | exact llFrame_good _ _ | decide +kernel⟩,
   ⟨st123, (llFrame 0x8202000000000005 [0xa, 3]), (true), 2, by (repeat' apply And.intro) <;>
       first | exact llFrame_good _ _ | decide +kernel⟩⟩

theorem witness_PairRolesAndHandover :
  let decides (s : State) : Prop := s.phase = .starting ∧ s.pairState = psStarting ∧ nget false s.start.steps settleKey = true
  let waits (s : State) : Bool := s.flag F.PAIR_STATUS_PEER_PRESENT &&
    decide (s.tick < s.start.settleFrom + 1000 * (s.start.head.map (·.settleMs)).getD 0 + 5000000)
  let writes (s : State) (n : Nat) : Prop := s.granted n (R.PAIR_CTRL.addr 0 0) R.PAIR_CTRL 0 = true
  let held (s : State) : Prop := s.pair.syncAt + 1000000 * s.fld F.PAIR_TIMING_RECLAIM_S ≤ s.tick
  let due (s : State) (f : Fire) : Prop := s.image.fired = [f] ∧ f.action = true ∧ (f.target = 1 ∨ f.target = 2)
  (∃ (s : State), decides s ∧ s.llState = llUp ∧ s.peerAgrees = false) ∧
  (∃ (s : State), decides s ∧ s.llState = llUp ∧ s.peerAgrees = true ∧ psIsActive s.peerState = true) ∧
  (∃ (s : State), decides s ∧ s.llState = llUp ∧ s.peerAgrees = true ∧ (s.peerState = psStarting ∨ s.peerState =
    psIsolated)) ∧
  (∃ (s : State), decides s ∧ s.llState = llUp ∧ s.peerAgrees = true ∧ (s.peerState = psResync ∨ psInSync s.peerState =
    true)) ∧
  (∃ (s : State), decides s ∧ s.llState ≠ llUp ∧ waits s = false) ∧
  (∃ (s : State), (¬ decides s ∨ (s.llState ≠ llUp ∧ waits s = true))) ∧
  (∃ (s : State) (c : Nat), s.pair.cause = some c ∧ (s.pairState = psStandby ∨ s.pairState = psMapped)) ∧
  (∃ (s : State), s.pair.cause = none) ∧
  (∃ (s : State) (c : Nat), s.pair.cause = some c ∧ s.pairState = psResync) ∧
  (∃ (s : State) (c : Nat), s.pair.cause = some c ∧ s.pairState ≠ psResync ∧ psInSync s.pairState = false) ∧
  (∃ (s : State) (n : Fin 8) (key : BitVec 8), writes s n.val) ∧
  (∃ (s : State) (n a : Nat), s.pairState = psActive ∧ psInSync s.peerState = true ∧ s.pairBusy = false ∧ s.sendLag ≤ 100 ∧
    s.pendingOf 0 < s.fld F.ACCT_QUOTA_1_FIRING 0) ∧
  (∃ (s : State) (n : Fin 8) (key : BitVec 8), writes s n.val) ∧
  (∃ (s : State) (f : Fire), due s f ∧ s.pairState = psActive ∧ psInSync s.peerState = true ∧ s.sendLag ≤ 100) ∧
  (∃ (s : State) (f : Fire), due s f ∧ psInSync s.pairState = true ∧ s.peerState = psActive ∧ s.lagUs ≤ 100) ∧
  (∃ (s : State) (f : Fire), due s f ∧ s.pairState = psActive ∧ (psInSync s.peerState = false ∨ 100 < s.sendLag)) ∧
  (∃ (s : State), (s.image.fired.any fun f => f.action && (f.target == 1 || f.target == 2)) = false) ∧
  (∃ (s : State) (f : Fire), due s f ∧ psInSync s.pairState = true ∧ (s.peerState ≠ psActive ∨ 100 < s.lagUs)) ∧
  (∃ (s : State), (s.pair.winOpen = false ∨ s.tick < s.pair.window.getD 0 + 600)) ∧
  (∃ (s : State), s.pair.winOpen = true ∧ s.pair.window.getD 0 + 600 ≤ s.tick ∧ s.pairState = psOutgoing) ∧
  (∃ (s : State), s.pair.winOpen = true ∧ s.pair.window.getD 0 + 600 ≤ s.tick ∧ s.pairState = psActive) ∧
  (∃ (s : State), s.pairState = psStandby ∧ s.atHome = true ∧ s.flag F.PAIR_STATUS_POLICY = false ∧ s.pair.reclaimed = false
    ∧ held s) ∧
  (∃ (s : State), (s.pairState ≠ psStandby ∨ s.atHome = false ∨ s.flag F.PAIR_STATUS_POLICY = true ∨ s.pair.reclaimed = true
    ∨ ¬ held s)) ∧
  (∃ (s : State), s.pairState = psActive ∧ s.fld F.PAIR_TIMING_SWAP_H ≠ 0 ∧ s.reg R.PAIR_SWAP_DUE = 0 ∧ s.peerState =
    psStandby ∧ s.pairBusy = false ∧ s.sendLag ≤ 100 ∧ s.pendingOf 0 < s.fld F.ACCT_QUOTA_1_FIRING 0) ∧
  (∃ (s : State), s.pairState = psActive ∧ s.fld F.PAIR_TIMING_SWAP_H ≠ 0 ∧ s.reg R.PAIR_SWAP_DUE = 0 ∧ (s.peerState ≠
    psStandby ∨ s.pairBusy = true ∨ 100 < s.sendLag ∨ s.fld F.ACCT_QUOTA_1_FIRING 0 ≤ s.pendingOf 0)) ∧
  (∃ (s : State), (s.pairState ≠ psActive ∨ s.fld F.PAIR_TIMING_SWAP_H = 0 ∨ s.reg R.PAIR_SWAP_DUE ≠ 0)) :=
  ⟨⟨st124, by decide +kernel⟩,
   ⟨st125, by decide +kernel⟩,
   ⟨st126, by decide +kernel⟩,
   ⟨st127, by decide +kernel⟩,
   ⟨st128, by decide +kernel⟩,
   ⟨State.reset, by decide +kernel⟩,
   ⟨st129, 2, by decide +kernel⟩,
   ⟨State.reset, by decide +kernel⟩,
   ⟨st130, 2, by decide +kernel⟩,
   ⟨st131, 2, by decide +kernel⟩,
   ⟨st132, 0, (0xc5), by decide +kernel⟩,
   ⟨st133, 2, 2, by decide +kernel⟩,
   ⟨st132, 0, (0xc5), by decide +kernel⟩,
   ⟨st134, ({
           time := 5, value := 0, late := false, target := 1, task := 0, account := 0, action := true, tl := true,
           quality := 0, seq := 3 }), by decide +kernel⟩,
   ⟨st135, ({
           time := 5, value := 0, late := false, target := 1, task := 0, account := 0, action := true, tl := true,
           quality := 0, seq := 3 }), by decide +kernel⟩,
   ⟨st136, ({
           time := 5, value := 0, late := false, target := 1, task := 0, account := 0, action := true, tl := true,
           quality := 0, seq := 3 }), by decide +kernel⟩,
   ⟨State.reset, by decide +kernel⟩,
   ⟨st137, ({
           time := 5, value := 0, late := false, target := 1, task := 0, account := 0, action := true, tl := true,
           quality := 0, seq := 3 }), by decide +kernel⟩,
   ⟨State.reset, by decide +kernel⟩,
   ⟨st138, by decide +kernel⟩,
   ⟨st139, by decide +kernel⟩,
   ⟨st140, by decide +kernel⟩,
   ⟨State.reset, by decide +kernel⟩,
   ⟨st141, by decide +kernel⟩,
   ⟨st142, by decide +kernel⟩,
   ⟨State.reset, by decide +kernel⟩⟩

theorem witness_CanChannels :
  let chTill (s : State) (n t : Nat) : Prop := s.findTill (s.canOwner n) false ekCan n = some t
  let word (s : State) (n t : Nat) (ecc : List Ecc) (i : Nat) : Nat :=
    (if ecc.getD i .clean = .double then idleItem
      else nget 0 s.tillMem (s.tillPos (s.canOwner n) t ((s.till (s.canOwner n) t).rd + i))).toNat
  let len (h : Nat) : Nat := canLen (bit h 58) (bits h 55 52)
  let size (h : Nat) : Nat := 2 + (len h + 7) / 8
  let room (s : State) (n : Nat) : Prop := (s.canTill n).all fun p => decide (4 ≤ s.tillFree (s.canOwner n) p)
  let reads (s : State) (n t : Nat) (h : Nat) : Prop := s.canActive = true ∧ (s.canCh n).tripped = false ∧ s.canMode n ≠ cmOff ∧
    (s.canCh n).pend.length < 32 ∧ size h ≤ (s.till (s.canOwner n) t).unread ∧ (bit h 56 = true → room s n)
  let hears (s : State) (n : Nat) (f : CanRx) : Prop := canRxOk f = true ∧ s.canOnBus n = true ∧ s.canMode n ≠ cmLoopInt ∧
    (f.fdf = true → f.res = false ∧ s.flag F.CAN_CFG_FD n = true)
  let hit (s : State) (n k : Nat) (f : CanRx) : Prop := s.canMatch n k f.ide f.id.toNat = true
  let sends (s : State) (n : Nat) (f : CanFrame) : Prop := s.canCur n = some f ∧ s.canOnBus n = true
  let free (s : State) (n : Nat) : Prop := s.canCur n = none ∨ s.canOnBus n = false
  (∃ (s : State) (n : Fin 4) (ecc : List Ecc), s.findTill (s.canOwner n.val) false ekCan n.val = none) ∧
  (∃ (s : State) (n : Fin 4) (ecc : List Ecc) (k : Nat), chTill s n.val k ∧ ((s.till (s.canOwner n.val) k).unread < 2 ∨ ¬
    reads s n.val k (word s n.val k ecc 0))) ∧
  (∃ (s : State) (n : Fin 4) (ecc : List Ecc) (k : Nat), chTill s n.val k ∧ 2 ≤ (s.till (s.canOwner n.val) k).unread ∧ reads
    s n.val k (word s n.val k ecc 0) ∧ s.canOwner n.val < 8 ∧ k < 16) ∧
  (∃ (s : State) (n : Fin 4) (sof : Nat) (v : BitVec 8), free s n.val) ∧
  (∃ (s : State) (n : Fin 4) (f : CanFrame) (sof : Nat) (v : BitVec 8), sends s n.val f) ∧
  (∃ (s : State) (n : Fin 4) (e : CanErr) (d x : Bool), free s n.val) ∧
  (∃ (s : State) (n : Fin 4) (f : CanFrame) (e : CanErr) (d x : Bool), sends s n.val f) ∧
  (∃ (s : State) (n : Fin 4), (s.canState n.val ≠ csBusOff ∨ (s.canCh n.val).tripped = true)) ∧
  (∃ (s : State) (n : Fin 4), s.canState n.val = csBusOff ∧ (s.canCh n.val).tripped = false) ∧
  (∃ (s : State) (n : Fin 4), s.canState n.val ≠ csIntegrating) ∧
  (∃ (s : State) (n : Fin 4), s.canState n.val = csIntegrating) ∧
  (∃ (s : State) (n : Fin 4) (f : CanRx), canRxOk f = false) ∧
  (∃ (s : State) (n : Fin 4) (f : CanRx), canRxOk f = true ∧ (s.canOnBus n.val = false ∨ s.canMode n.val = cmLoopInt)) ∧
  (∃ (s : State) (n : Fin 4) (f : CanRx), hears s n.val f ∧ f.remote = false ∧ s.canActive = true) ∧
  (∃ (s : State) (n : Fin 4) (f : CanRx) (k : Fin 64), hears s n.val f ∧ f.remote = false ∧ s.canActive = true ∧ hit s n.val
    k.val f ∧ s.flag F.CAN_FLT_CTRL_TILL n.val k.val = true ∧ (∀ j < k.val, hit s n.val j f → s.flag F.CAN_FLT_CTRL_TILL n.val
    j = false) ∧ (s.canTill n.val).isSome = true) ∧
  (∃ (s : State) (n : Fin 4) (f : CanRx), hears s n.val f ∧ (f.remote = true ∨ ∀ k < 64, s.canMatch n.val k f.ide f.id.toNat
    = false)) ∧
  (∃ (s : State) (n : Fin 4) (f : CanRx), canRxOk f = true ∧ s.canOnBus n.val = true ∧ s.canMode n.val ≠ cmLoopInt ∧ f.fdf =
    true ∧ (f.res = true ∨ s.flag F.CAN_CFG_FD n.val = false)) ∧
  (∃ (s : State) (n : Fin 4), ((s.canCh n.val).rx = [] ∨ s.canTill n.val = none)) ∧
  (∃ (s : State) (n : Fin 4) (x : List W64) (xs : List (List W64)) (k : Nat), (s.canCh n.val).rx = x :: xs ∧ s.canTill n.val
    = some k ∧ x.length ≤ s.tillFree (s.canOwner n.val) k) ∧
  (∃ (s : State) (n : Fin 4) (x : List W64) (xs : List (List W64)) (k : Nat), (s.canCh n.val).rx = x :: xs ∧ s.canTill n.val
    = some k ∧ s.tillFree (s.canOwner n.val) k < x.length) ∧
  (∃ (s : State) (n : Fin 4), (s.canCh n.val).cfg = []) ∧
  (∃ (s : State) (n : Fin 4), (s.canCh n.val).cfg ≠ []) ∧
  (∃ (s : State) (n : Fin 4) (e : CanErr) (d first : Bool), (s.canOnBus n.val = false ∨ s.canMode n.val = cmLoopInt)) ∧
  (∃ (s : State) (n : Fin 4) (e : CanErr) (d first : Bool), s.canOnBus n.val = true ∧ s.canMode n.val ≠ cmLoopInt) :=
  ⟨⟨st143, 1, ([]), by decide +kernel⟩,
   ⟨st143, 2, ([]), 3, by decide +kernel⟩,
   ⟨st144, 2, ([]), 3, by decide +kernel⟩,
   ⟨st143, 2, 3, 9, by decide +kernel⟩,
   ⟨st145, 2, ({
           ide := false, fdf := true, brs := false, conf := false, dlc := 0, retry := 15, deadlineMs := 0, id := 78, ref := 5,
           data := [], readAt := 100, attempts := 15, order := 1 }), 3, 9, by decide +kernel⟩,
   ⟨st143, 2, .form, (true), (true), by decide +kernel⟩,
   ⟨st145, 2, ({
           ide := false, fdf := true, brs := false, conf := false, dlc := 0, retry := 15, deadlineMs := 0, id := 78, ref := 5,
           data := [], readAt := 100, attempts := 15, order := 1 }), .form, (true), (true), by decide +kernel⟩,
   ⟨st143, 2, by decide +kernel⟩,
   ⟨st146, 2, by decide +kernel⟩,
   ⟨st143, 2, by decide +kernel⟩,
   ⟨st147, 2, by decide +kernel⟩,
   ⟨st143, 2, ({
           ide := true, fdf := false, brs := false, esi := false, remote := false, dlc := 3, id := 0x4e, data := [],
           sof := 3000, res := false }), by decide +kernel⟩,
   ⟨st143, 2, ({
           ide := false, fdf := false, brs := false, esi := false, remote := false, dlc := 8, id := 0x4d,
           data := [7, 7, 7, 7, 7, 7, 7, 7], sof := 3000, res := false }), by decide +kernel⟩,
   ⟨st148, 2, ({
           ide := false, fdf := false, brs := false, esi := false, remote := false, dlc := 8, id := 0x4d,
           data := [7, 7, 7, 7, 7, 7, 7, 7], sof := 3000, res := false }), by decide +kernel⟩,
   ⟨st149, 2, ({
           ide := false, fdf := false, brs := false, esi := false, remote := false, dlc := 8, id := 0x4d,
           data := [7, 7, 7, 7, 7, 7, 7, 7], sof := 3000, res := false }), 5, by decide +kernel⟩,
   ⟨st148, 2, ({
           ide := false, fdf := false, brs := false, esi := false, remote := false, dlc := 8, id := 0x4d,
           data := [7, 7, 7, 7, 7, 7, 7, 7], sof := 3000, res := false }), by decide +kernel⟩,
   ⟨st150, 2, ({
           ide := false, fdf := true, brs := false, esi := false, remote := false, dlc := 9, id := 0x4d,
           data := [7, 7, 7, 7, 7, 7, 7, 7, 7, 7, 7, 7], sof := 3000, res := false }), by decide +kernel⟩,
   ⟨st143, 2, by decide +kernel⟩,
   ⟨st151, 2, ([1, 2, 3]), ([[4]]), 4, by decide +kernel⟩,
   ⟨st152, 2, ([1, 2, 3]), ([[4]]), 4, by decide +kernel⟩,
   ⟨st143, 2, by decide +kernel⟩,
   ⟨st151, 2, by decide +kernel⟩,
   ⟨st143, 2, .form, (true), (true), by decide +kernel⟩,
   ⟨st148, 2, .form, (true), (true), by decide +kernel⟩⟩

theorem witness_VaultPagesErasesAndWindow :
  let pages (s : State) (d sec page : Nat) : Prop := s.vturn = some d ∧ (s.vdev d).openSector = some (sec, page) ∧ page < 255 ∧
    (s.vmark d sec).mark = vmOpen
  let ready (s : State) : Prop := (s.vstate = vRunning ∨ s.vstate = vWriteThrough) ∧ s.vault.buf.length % 8 = 0 ∧ 8 ≤
    s.vault.buf.length ∧
    s.vault.lost = 0 ∧ ((s.vault.buf.take 8).map (·.num)).Nodup
  let windows (s : State) (n : Nat) : Prop := (s.session n).opened = true ∧ s.alive = true ∧ s.limited
    (R.VAULT_WIN_DATA.addr 0 0) = false ∧
    s.mayRead (s.session n).account (R.VAULT_WIN_DATA.addr 0 0) = true ∧ s.claimed n R.VAULT_WIN_DATA 0 = false ∧
    s.owes n (R.VAULT_WIN_ADDR.addr 0 0) = false ∧ s.reg R.VAULT_WIN_ADDR < 2 ^ 32 - 4
  let works (s : State) : Prop := s.vstate = vRunning ∨ s.vstate = vWriteThrough ∨ s.vstate = vFlushing
  (∃ (s : State), (s.vstate ≠ vRunning ∨ s.vault.buf = [])) ∧
  (∃ (s : State), s.vstate = vRunning ∧ s.vault.buf ≠ []) ∧
  (∃ (s : State) (d sec page : Nat), ready s ∧ pages s d sec page) ∧
  (∃ (s : State) (d sec : Nat), ready s ∧ s.vturn = some d ∧ d < 2 ∧ (s.vdev d).openSector = some (sec, 255) ∧ 4 ≤ s.verased
    d) ∧
  (∃ (s : State) (d sec : Nat), ready s ∧ s.vturn = some d ∧ d < 2 ∧ (s.vdev d).openSector = none ∧ 4 < s.verased d ∧
    (slotSectors.find? fun x => (s.vmark d x).mark == vmErased) = some sec) ∧
  (∃ (s : State) (o : PageOutcome), works s ∧ s.vturn = none) ∧
  (∃ (s : State) (d sec page : Nat) (o : PageOutcome), ready s ∧ pages s d sec page ∧ (o = .notBlank ∨ o = .verifyFailed) ∧
    4 ≤ s.verased d) ∧
  (∃ (s : State) (d sec page : Nat) (e : Fin 2), ready s ∧ pages s d sec page) ∧
  (∃ (s : State) (o : PageOutcome), (s.vstate = vFailed ∨ s.vstate = vRecovering)) ∧
  (∃ (s : State) (n at_ us : Nat), s.vault.flush = some (0, n, at_) ∧ s.vault.flushAgain = false) ∧
  (∃ (s : State) (us : Nat), (s.vault.flush.all fun x => x.1 != 0) = true) ∧
  (∃ (s : State) (cause n at_ us d sec page : Nat), s.vault.closing = some (cause, n, at_) ∧ s.vault.buf.length < 8 ∧
    s.vstate = vFlushing ∧ (∀ x ∈ s.vault.buf, x.num ≠ s.vnext) ∧ pages s d sec page) ∧
  (∃ (s : State) (us : Nat), (8 ≤ s.vault.buf.length ∨ s.vault.closing = none ∨ s.vstate ≠ vFlushing)) ∧
  (∃ (s : State) (d : Fin 2) (sec : Nat), (s.vdev d.val).erasing = some sec ∧ s.vault.flush = none ∧ s.vault.closing = none) ∧
  (∃ (s : State) (d : Fin 2) (sec : Nat), (s.vdev d.val).erasing = some sec ∧ s.vault.flush = none ∧ s.vault.closing = none) ∧
  (∃ (s : State) (d : Fin 2) (ok : Bool), ((s.vdev d.val).erasing = none ∨ s.vault.flush.isSome = true ∨
    s.vault.closing.isSome = true)) ∧
  (∃ (s : State) (r : VaultRecovery), s.vstate = vRecovering ∧ s.phase ≠ .waiting ∧ s.phase ≠ .stopped) ∧
  (∃ (s : State) (r : VaultRecovery), (s.vstate ≠ vRecovering ∨ s.phase = .waiting ∨ s.phase = .stopped)) ∧
  (∃ (s : State) (n : Fin 8) (v : VSlot), windows s n.val ∧ s.reg R.VAULT_WIN_ADDR % 32 = 0 ∧ s.vfind (s.reg
    R.VAULT_WIN_ADDR / 32) = some v) ∧
  (∃ (s : State) (n : Fin 8) (v : VSlot), windows s n.val ∧ s.reg R.VAULT_WIN_ADDR % 32 ≠ 0 ∧ nget none s.vault.capture
    n.val = some v) ∧
  (∃ (s : State) (n : Fin 8), windows s n.val ∧ (if s.reg R.VAULT_WIN_ADDR % 32 = 0 then s.vfind (s.reg R.VAULT_WIN_ADDR /
    32) else nget none s.vault.capture n.val) = none) ∧
  (∃ (s : State) (n : Fin 8), (s.session n.val).opened = false) :=
  ⟨⟨State.reset, by decide +kernel⟩,
   ⟨st153, by decide +kernel⟩,
   ⟨st154, 0, 5, 0, by decide +kernel⟩,
   ⟨st155, 0, 5, by decide +kernel⟩,
   ⟨st156, 0, 2, by decide +kernel⟩,
   ⟨st157, .verified, by decide +kernel⟩,
   ⟨st154, 0, 5, 0, .notBlank, by decide +kernel⟩,
   ⟨st154, 0, 5, 0, 0, by decide +kernel⟩,
   ⟨State.reset, .verified, by decide +kernel⟩,
   ⟨st158, 5, 1, 0, by decide +kernel⟩,
   ⟨State.reset, 0, by decide +kernel⟩,
   ⟨st159, 1, 5, 0, 0, 0, 5, 0, by decide +kernel⟩,
   ⟨State.reset, 0, by decide +kernel⟩,
   ⟨st160, 0, 10, by decide +kernel⟩,
   ⟨st160, 0, 10, by decide +kernel⟩,
   ⟨State.reset, 0, (true), by decide +kernel⟩,
   ⟨st161, ({ usableA := true, usableB := false, lostA := false, lostB := false, ms := 5 }), by decide +kernel⟩,
   ⟨State.reset, ({ usableA := true, usableB := false, lostA := false, lostB := false, ms := 5 }), by decide +kernel⟩,
   ⟨st162, 0, ({ num := 0, w0 := 7, w1 := 0x1234000000000000, w2 := 3, w3 := 0x95c68e7400000000 }), by decide +kernel⟩,
   ⟨st163, 0, ({ num := 9, w0 := 7, w1 := 0x1234000000000009, w2 := 3, w3 := 0x6d7a638000000000 }), by decide +kernel⟩,
   ⟨st161, 0, by decide +kernel⟩,
   ⟨State.reset, 0, by decide +kernel⟩⟩

theorem witness_WheelTestsRotationAndLoss :
  let switching (s : State) (w p : Nat) : Prop := s.selfTest.target = some w ∧ s.selfTest.spare = some p ∧ w < 18 ∧ p < 18 ∧ w
    ≠ p ∧
    s.rotState = rotSwitchWait
  (∃ (s : State) (w : Fin 18) (m : W64), (s.pwheel w.val).test = some .main) ∧
  (∃ (s : State) (w : Fin 18) (c : Fin 11) (m : W64), (s.pwheel w.val).test = some .main) ∧
  (∃ (s : State) (w : Fin 18) (c : Option (Fin 11)) (m : W64), (s.pwheel w.val).test ≠ some .main) ∧
  (∃ (s : State) (w : Fin 18) (c : Nat) (agreed : Bool), (s.pwheel w.val).test = some (.retest c)) ∧
  (∃ (s : State) (w : Fin 18) (agreed : Bool), (match (s.pwheel w.val).test with | some (.retest _) => false | _ => true) =
    true) ∧
  (∃ (s : State) (w : Fin 18), (match (s.pwheel w.val).test with | some (.burn _) => false | _ => true) = true) ∧
  (∃ (s : State) (w : Fin 18), (s.pwheel w.val).test = some (.burn false)) ∧
  (∃ (s : State) (w : Fin 18), (s.pwheel w.val).test = some (.burn true)) ∧
  (∃ (s : State) (w p : Nat), s.phase = .running ∧ s.selfTest.target = none ∧ s.rotNext = some w ∧ s.wst w = wsActive ∧
    s.bestSpare = some p ∧ w < 18 ∧ p < 18) ∧
  (∃ (s : State) (w : Nat), s.phase = .running ∧ s.selfTest.target = none ∧ s.rotNext = some w ∧ s.wst w = wsActive ∧
    s.bestSpare = none ∧ w < 18) ∧
  (∃ (s : State), s.phase = .running ∧ s.selfTest.target = none ∧ s.rotNext = none) ∧
  (∃ (s : State) (w : Nat), s.phase = .running ∧ s.selfTest.target = none ∧ s.rotNext = some w ∧ s.wst w ≠ wsActive ∧ w <
    18) ∧
  (∃ (s : State), (s.phase ≠ .running ∨ s.selfTest.target.isSome = true)) ∧
  (∃ (s : State) (w p : Nat), switching s w p ∧ s.fld F.WHEEL_STATE_LWHEEL w < 16 ∧ s.lwheelIdle (s.fld F.WHEEL_STATE_LWHEEL
    w) = true) ∧
  (∃ (s : State), (s.rotState ≠ rotSwitchWait ∨ s.selfTest.target = none ∨ s.selfTest.spare = none)) ∧
  (∃ (s : State), (s.rotState ≠ rotSwitchWait ∨ s.selfTest.target = none ∨ s.selfTest.spare = none)) ∧
  (∃ (s : State) (w p : Nat), switching s w p ∧ s.lwheelIdle (s.fld F.WHEEL_STATE_LWHEEL w) = false) ∧
  (∃ (s : State) (w p : Nat), switching s w p ∧ s.phase = .running) ∧
  (∃ (s : State) (w : Fin 18), (s.wst w.val = wsSpare ∨ s.wst w.val = wsTesting ∨ (s.wst w.val = wsPreparing ∧
    s.selfTest.spare = some w.val))) ∧
  (∃ (s : State) (w : Fin 18) (p : Nat), s.wst w.val = wsActive ∧ s.fld F.WHEEL_STATE_LWHEEL w.val < 16 ∧ s.replacement =
    some p ∧ p < 18 ∧ p ≠ w.val) ∧
  (∃ (s : State) (w : Fin 18) (a : Nat), s.wst w.val = wsActive ∧ s.fld F.WHEEL_STATE_LWHEEL w.val < 16 ∧ s.replacement =
    none ∧ s.lwheelAcct (s.fld F.WHEEL_STATE_LWHEEL w.val) = some a ∧ a < 8 ∧ s.acctState a = aRunning) ∧
  (∃ (s : State) (w : Fin 18) (a addr : Nat), s.wst w.val = wsActive ∧ s.lwheelAcct (s.fld F.WHEEL_STATE_LWHEEL w.val) =
    some a ∧ a < 8 ∧ s.acctState a = aRunning ∧ (s.pwheel w.val).errors = []) ∧
  (∃ (s : State) (w : Fin 18) (why : WheelLoss), why ≠ .trip ∧ s.wst w.val ≠ wsActive) ∧
  (∃ (s : State) (w : Fin 18) (a addr : Nat), s.wst w.val = wsActive ∧ s.lwheelAcct (s.fld F.WHEEL_STATE_LWHEEL w.val) =
    some a ∧ a < 8 ∧ s.acctState a = aRunning ∧ (s.pwheel w.val).errors = []) ∧
  (∃ (s : State) (l : Fin 16) (p : Nat), nget none s.selfTest.loading l.val = some p ∧ p < 18) ∧
  (∃ (s : State) (l : Fin 16), nget none s.selfTest.loading l.val = none) ∧
  (∃ (s : State) (e : WheelError), s.scrubbed e.wheel.val = true ∧ e.double = false) ∧
  (∃ (s : State) (e : WheelError), s.wst e.wheel.val = wsSpare ∧ e.double = true ∧ (s.pwheel e.wheel.val).errors.any (fun t
    => decide (s.tick < t + dayTicks)) = true) ∧
  (∃ (s : State) (e : WheelError), s.scrubbed e.wheel.val = false) ∧
  (∃ (s : State) (e : WheelError), s.wst e.wheel.val = wsSpare ∧ e.double = true ∧ (s.pwheel e.wheel.val).errors.any (fun t
    => decide (s.tick < t + dayTicks)) = false) ∧
  (∃ (s : State) (k : Fin 64) (addr : Fin 65536), s.flag F.TASK_CFG_PRESENT k.val = false) ∧
  (∃ (s : State) (k : Fin 64) (addr : Fin 65536), s.flag F.TASK_CFG_PRESENT k.val = true ∧ s.acctState (s.taskAcct k.val) =
    aRunning) :=
  ⟨⟨st164, 3, (0x123456789a), by decide +kernel⟩,
   ⟨st164, 3, 4, (0x123456789a), by decide +kernel⟩,
   ⟨State.reset, 3, (none), (0x123456789a), by decide +kernel⟩,
   ⟨st165, 3, 3, (true), by decide +kernel⟩,
   ⟨State.reset, 3, (true), by decide +kernel⟩,
   ⟨State.reset, 3, by decide +kernel⟩,
   ⟨st166, 3, by decide +kernel⟩,
   ⟨st167, 3, by decide +kernel⟩,
   ⟨st168, 3, 5, by decide +kernel⟩,
   ⟨st169, 3, by decide +kernel⟩,
   ⟨st170, by decide +kernel⟩,
   ⟨st171, 5, by decide +kernel⟩,
   ⟨State.reset, by decide +kernel⟩,
   ⟨st172, 3, 5, by decide +kernel⟩,
   ⟨State.reset, by decide +kernel⟩,
   ⟨State.reset, by decide +kernel⟩,
   ⟨st173, 3, 5, by decide +kernel⟩,
   ⟨st172, 3, 5, by decide +kernel⟩,
   ⟨st171, 5, by decide +kernel⟩,
   ⟨st168, 3, 5, by decide +kernel⟩,
   ⟨st169, 3, 3, by decide +kernel⟩,
   ⟨st169, 3, 3, 0, by decide +kernel⟩,
   ⟨State.reset, 3, (.fetch 5), by decide +kernel⟩,
   ⟨st169, 3, 3, 0, by decide +kernel⟩,
   ⟨st164, 2, 5, by decide +kernel⟩,
   ⟨State.reset, 2, by decide +kernel⟩,
   ⟨st169, ({ wheel := 3, data := true, addr := 5, double := false }), by decide +kernel⟩,
   ⟨st174, ({ wheel := 3, data := true, addr := 5, double := true }), by decide +kernel⟩,
   ⟨State.reset, ({ wheel := 3, data := true, addr := 5, double := true }), by decide +kernel⟩,
   ⟨st171, ({ wheel := 5, data := false, addr := 5, double := true }), by decide +kernel⟩,
   ⟨State.reset, 1, 7, by decide +kernel⟩,
   ⟨st170, 1, 7, by decide +kernel⟩⟩

theorem witness_PanelRailsScanAndWindow :
  (∃ (s : State), s.domOn 59 = true ∧ s.pnState = pnOff) ∧
  (∃ (s : State), (s.domOn 59 = false ∨ s.pnState ≠ pnOff)) ∧
  (∃ (s : State), s.domOn 59 = true ∧ s.pnState ≠ pnOff ∧ s.panel.awaiting = false) ∧
  (∃ (s : State), (s.domOn 59 = false ∨ s.pnState = pnOff ∨ s.panel.awaiting = true)) ∧
  (∃ (s : State), s.pnState = pnPowering ∧ s.panel.awaiting = false) ∧
  (∃ (s : State), (s.pnState ≠ pnPowering ∨ s.panel.awaiting = true)) ∧
  (∃ (s : State), s.panel.awaiting = true ∧ s.domOn 59 = true) ∧
  (∃ (s : State), (s.panel.awaiting = false ∨ s.domOn 59 = false)) ∧
  (∃ (s : State), s.domOn 59 = false) ∧
  (∃ (s : State), s.domOn 59 = true) ∧
  (∃ (s : State) (n : Fin 8) (v : W32), s.granted n.val (R.PANEL_WIN_DATA.addr 0 0) R.PANEL_WIN_DATA 0 = true ∧ s.reg
    R.PANEL_WIN_ADDR < 4 * frameWords) ∧
  (∃ (s : State) (n : Fin 8) (v : W32), s.granted n.val (R.PANEL_WIN_DATA.addr 0 0) R.PANEL_WIN_DATA 0 = true ∧ 4 *
    frameWords ≤ s.reg R.PANEL_WIN_ADDR) :=
  ⟨⟨st175, by decide +kernel⟩,
   ⟨st176, by decide +kernel⟩,
   ⟨st177, by decide +kernel⟩,
   ⟨st176, by decide +kernel⟩,
   ⟨st178, by decide +kernel⟩,
   ⟨st176, by decide +kernel⟩,
   ⟨st179, by decide +kernel⟩,
   ⟨st176, by decide +kernel⟩,
   ⟨st176, by decide +kernel⟩,
   ⟨st175, by decide +kernel⟩,
   ⟨st176, 0, 0, by decide +kernel⟩,
   ⟨st180, 0, 0, by decide +kernel⟩⟩

end Sys2Proof.Tests
end

section
/-! SUPPORT. Every command is made of the operations that keep a Closed property (Laws/KeepsBase to KeepsTop): one case per
command says which. From it follow the canonical form of every next state and that every well-formed command completes. -/

namespace Sys2Proof.Machine

/-! ### Instructions that change registers only -/

@[simp] theorem Ctx.trap_s (c : Ctx) (cause : Nat) : (c.trap cause).s = c.s := rfl
@[simp] theorem Ctx.ok_s (c : Ctx) (l : Lane) : (c.ok l).s = c.s := rfl
@[simp] theorem Ctx.okc_s (c : Ctx) (l : Lane) (cause : Nat) : (c.okc l cause).s = c.s := rfl
@[simp] theorem Ctx.intResult_s (c : Ctx) (wa : W64) (v dz : Bool) : (c.intResult wa v dz).s = c.s := rfl
@[simp] theorem Ctx.floatResult_s (c : Ctx) (r : FRes) : (c.floatResult r).s = c.s := rfl
@[simp] theorem Ctx.intExact_s (c : Ctx) (r : Int) : (c.intExact r).s = c.s := rfl
@[simp] theorem Ctx.tillResult_s (c : Ctx) (s : State) (wa : W64) (ba : Option Bool) (cause : Nat) :
    (c.tillResult s wa ba cause).s = s := rfl

@[simp] theorem Ctx.branch_s (c : Ctx) (l : Lane) (extra : Nat) : (c.branch l extra).s = c.s := by
  unfold Ctx.branch
  extract_lets t
  split <;> rfl

@[simp] theorem Ctx.store_s (c : Ctx) (v : W64) : (c.store v).s = c.s := by
  unfold Ctx.store
  split
  · split
    · rfl
    · extract_lets sl e d
      split
      · rfl
      · split <;> rfl
  · split <;> rfl

theorem Ctx.int2_s (c : Ctx) (f : W64 → W64 → WOut) (h : ∀ a b, (f a b).s = c.s) : (c.int2 f).s = c.s := by
  unfold Ctx.int2
  split
  · exact h _ _
  · rfl

@[simp] theorem Ctx.cmp2_s (c : Ctx) (f : W64 → W64 → Bool) : (c.cmp2 f).s = c.s := by
  unfold Ctx.cmp2
  split <;> rfl

@[simp] theorem Ctx.float2_s (c : Ctx) (f : W64 → W64 → FRes) : (c.float2 f).s = c.s := by
  unfold Ctx.float2
  split <;> rfl

@[simp] theorem Ctx.fcmp2_s (c : Ctx) (f : W64 → W64 → Bool) : (c.fcmp2 f).s = c.s := by
  unfold Ctx.fcmp2
  split <;> rfl

@[simp] theorem Ctx.boolOp_s (c : Ctx) (f : Bool → Bool → Bool) : (c.boolOp f).s = c.s := by
  unfold Ctx.boolOp
  split <;> rfl

@[simp] theorem Ctx.popOp_s (c : Ctx) (f : Bool → Bool → Bool) : (c.popOp f).s = c.s := by
  unfold Ctx.popOp
  split <;> rfl

@[simp] theorem Ctx.slotOp_s (c : Ctx) (f : Copy → W64) : (c.slotOp f).s = c.s := by
  unfold Ctx.slotOp
  split <;> rfl

@[simp] theorem Ctx.vecFold_s (c : Ctx) (f : W64 → W64 → FRes) : (c.vecFold f).s = c.s := rfl

@[simp] theorem Ctx.fblock_s (c : Ctx) (b : Fb) : (c.fblock b).s = c.s := by
  unfold Ctx.fblock
  split
  · rfl
  · extract_lets w ctrl o
    split <;> rfl

@[simp] theorem Ctx.tillAsk_s (c : Ctx) (f : Nat → Nat → Nat) : (c.tillAsk f).s = c.s := by
  unfold Ctx.tillAsk
  split
  · rfl
  · split <;> rfl

@[simp] theorem bAdd_s (c : Ctx) : (bAdd c).s = c.s := c.int2_s _ fun _ _ => rfl
@[simp] theorem bSub_s (c : Ctx) : (bSub c).s = c.s := c.int2_s _ fun _ _ => rfl
@[simp] theorem bMul_s (c : Ctx) : (bMul c).s = c.s := c.int2_s _ fun _ _ => rfl
@[simp] theorem bDiv_s (c : Ctx) : (bDiv c).s = c.s := c.int2_s _ fun _ _ => by split <;> rfl
@[simp] theorem bMod_s (c : Ctx) : (bMod c).s = c.s := c.int2_s _ fun _ _ => by split <;> rfl
@[simp] theorem bFtoi_s (c : Ctx) : (bFtoi c).s = c.s := rfl
@[simp] theorem bNop_s (c : Ctx) : (bNop c).s = c.s := rfl
@[simp] theorem bEnd_s (c : Ctx) : (bEnd c).s = c.s := rfl
@[simp] theorem bTrap_s (c : Ctx) : (bTrap c).s = c.s := rfl
@[simp] theorem bBnot_s (c : Ctx) : (bBnot c).s = c.s := rfl
@[simp] theorem bBldf_s (c : Ctx) : (bBldf c).s = c.s := rfl
@[simp] theorem bLdu_s (c : Ctx) : (bLdu c).s = c.s := rfl
@[simp] theorem bAddx_s (c : Ctx) : (bAddx c).s = c.s := rfl
@[simp] theorem bVget_s (c : Ctx) : (bVget c).s = c.s := rfl
@[simp] theorem bVmed_s (c : Ctx) : (bVmed c).s = c.s := rfl
@[simp] theorem bClf_s (c : Ctx) : (bClf c).s = c.s := rfl
@[simp] theorem bJmp_s (c : Ctx) : (bJmp c).s = c.s := c.branch_s _ _
@[simp] theorem bJc_s (c : Ctx) : (bJc c).s = c.s := by unfold bJc; split <;> simp
@[simp] theorem bJcn_s (c : Ctx) : (bJcn c).s = c.s := by unfold bJcn; split <;> simp
@[simp] theorem bRtt_s (c : Ctx) : (bRtt c).s = c.s := by unfold bRtt; split <;> rfl
@[simp] theorem bPushb_s (c : Ctx) : (bPushb c).s = c.s := by unfold bPushb; split <;> rfl
@[simp] theorem bRet_s (c : Ctx) : (bRet c).s = c.s := by unfold bRet; split <;> rfl
@[simp] theorem bLd_s (c : Ctx) : (bLd c).s = c.s := by unfold bLd; split <;> rfl
@[simp] theorem bLdx_s (c : Ctx) : (bLdx c).s = c.s := by unfold bLdx; split <;> rfl
@[simp] theorem bRdt_s (c : Ctx) : (bRdt c).s = c.s := by unfold bRdt; split <;> [split <;> rfl; rfl; rfl; rfl; rfl]

@[simp] theorem bLoop_s (c : Ctx) : (bLoop c).s = c.s := by
  unfold bLoop
  extract_lets x l
  split <;> simp

@[simp] theorem bCall_s (c : Ctx) : (bCall c).s = c.s := by
  unfold bCall
  split
  · rfl
  · split <;> simp

@[simp] theorem bFire_s (c : Ctx) : (bFire c).s = c.s := by
  unfold bFire
  extract_lets m
  split <;> rfl

@[simp] theorem bGath_s (c : Ctx) : (bGath c).s = c.s := by
  unfold bGath
  extract_lets n
  split
  · rfl
  · split <;> rfl

/-! ### Instructions -/

section
variable {P : State → Prop} (hP : Closed P)
include hP

/-- An instruction that changes registers only keeps P. -/
theorem keeps_runInstr_regs {s : State} {l op ns : Nat} {body : Ctx → WOut} (hs : P s) (hb : ∀ c, (body c).s = c.s) :
    P (s.runInstr l op ns body) :=
  keeps_runInstr hP hs fun {c} hc => by rw [hb]; exact hc

theorem keeps_bPusht {c : Ctx} (hc : P c.s) : P (bPusht c).s := by
  unfold bPusht
  extract_lets a t fits p o
  split
  · exact hc
  · split
    · split <;> exact hc
    · split
      case h_1 s e => exact keepsO_tillWrite hP hc s e
      case h_2 => exact hc

theorem keeps_bPopt {ecc : Ecc} {c : Ctx} (hc : P c.s) : P (bPopt ecc c).s := by
  unfold bPopt
  split
  · exact hc
  · split
    · exact hc
    · exact keeps_tillRead hP hc

theorem keeps_tillCtl {cmd : Nat} {c : Ctx} (hc : P c.s) : P (c.tillCtl cmd).s := by
  unfold Ctx.tillCtl
  split
  · exact hc
  · split
    · exact hc
    · exact keeps_tillCmd hP hc

theorem keeps_bReq {c : Ctx} (hc : P c.s) : P (bReq c).s := by
  unfold bReq
  split
  · exact hc
  · extract_lets n
    split
    · exact hc
    · extract_lets item st taken extra s o p o'
      split
      · exact keeps_ite hc (keeps_reqIssue hP hc)
      · exact keeps_reqIssue hP hc

end

/-! ### Commands -/

/-- What a command answers: a state of which P holds where the command is well formed, else the fault illFormed. -/
inductive Answers (P : State → Prop) : Bool → Host.Outcome State Fault Refusal → Prop where
  | next {t : State} (h : P t) : Answers P true (.next t)
  | illFormed {m : String} : Answers P false (.fault (.illFormed m))

theorem Answers.ite {P : State → Prop} {c : Prop} [Decidable c] {t : State} {m : String} (h : P t) :
    Answers P (decide c) (if c then .next t else .fault (.illFormed m)) := by
  by_cases hc : c
  · simpa [hc] using Answers.next h
  · simpa [hc] using Answers.illFormed

theorem Answers.iteB {P : State → Prop} {b : Bool} {t : State} {m : String} (h : P t) :
    Answers P b (if b then .next t else .fault (.illFormed m)) := by
  cases b with
  | false => exact .illFormed
  | true => exact .next h

/-- Every well-formed command completes and keeps what every single update keeps; of those that can change the life of the module,
what the change of phase and the clearing of the memories keep as well. -/
theorem exec_answers {P : State → Prop} (hP : Closed P) {i : Instr} (hL : changesLife i = true → ClosedLife P) {s : State}
    (hs : P s) : Answers P i.wf (exec i s) := by
  cases i with
  | mateContactChange => exact .next (keeps_mateChange hP hs)
  | mateFilterPass => exact .next (keeps_matePass hP hs)
  | oneMateClosed5s => exact .next (keeps_oneMate5s hP hs)
  | unmated => exact .next (keeps_unmate (hL rfl) hs)
  | lampTestEnd => exact .next (hP.upd hs)
  | sealScan => exact .next (keeps_sealScan hP hs)
  | maintHoldEnd => exact .next (keeps_holdEnd hP hs)
  | feedMeasure => exact .next (keeps_feedMeasure hP hs)
  | feedValid => exact .next (keeps_feedGood hP hs)
  | feedUndervoltage | feedOvervoltage => exact .next (keeps_feedBad hP hs)
  | holdupDip => exact .next (keeps_holdupDip hP hs)
  | powerFailDeclared => exact .next (keeps_powerFail (hL rfl) hs)
  | storeExhausted => exact .next (keeps_exhausted (hL rfl) hs)
  | fsStateChange => exact .next (keeps_fsChange hP hs)
  | domainTrip => exact .next (keeps_domainTrip (hL rfl) hs)
  | domainRetry => exact .next (keeps_domainRetry hP hs)
  | holdupChargeMeasure => exact .next (keeps_chargeMeasure hP hs)
  | holdupTestStart => exact .next (keeps_testStart hP hs)
  | holdupTestEnd => exact .next (keeps_testStop hP hs)
  | holdupStoreCharged => exact .next (keeps_storeCharged hP hs)
  | holdupChargeTimeout => exact .next (keeps_chargeTimeout hP hs)
  | thermalSample => exact .next (keeps_thermalSample (hL rfl) hs)
  | sensorIncluded => exact .next (keeps_sensorIncluded (hL rfl) hs)
  | thermalRestart => exact .next (keeps_thermalRestart (hL rfl) hs)
  | tcxoCheck => exact .next (keeps_tcxoCheck (hL rfl) hs)
  | pllUnlock => exact .next (keeps_pllUnlock (hL rfl) hs)
  | startSequenceBegin => exact .next (keeps_startBegin (hL rfl) hs)
  | cfgHeadersRead => exact .next (keeps_headersRead (hL rfl) hs)
  | candidateChecked => exact .next (keeps_candidateChecked (hL rfl) hs)
  | imageApply => exact .next (keeps_imageApply (hL rfl) hs)
  | settlingEnd => exact .next (keeps_settlingEnd hP hs)
  | roleDecision => exact .next (keeps_roleDecision (hL rfl) hs)
  | startRelease => exact .next (keeps_startRelease (hL rfl) hs)
  | sysRestart | cfgWrData | registerWrite | acctCtrlReset | acctCtrlFault | acctKeyWrite | tillMark | tillRewind |
    tillRelease | tillDataLoWrite | tillDataHiWrite | sessionCtrlClose | dataWinDataWrite | sigWinDataWrite |
    forceSignalWrite | forceSet | forceClear | forceClearAll | fireListAddrWrite | analogueChCfgWrite | hartCfgWrite |
    hartZBaseWrite | cntClear | cntPreset | dsCtrlRestore | digitalChCfgWrite | timeSetWrite | domCfgWrite |
    netIssueDataWrite | pairHandover | pairAssume | panelWinDataWrite => exact .next (keeps_command hP hs)
  | cfgWrStart | cfgWrCommit | cfgWrAbort => exact .ite (keeps_command hP hs)
  | dataWindowAddrWrite => exact .iteB (keeps_command hP hs)
  | cfgWrEraseDone => exact .next (keeps_cwErased hP hs)
  | cfgWrCommitDone => exact .next (keeps_cwCommitDone hP hs)
  | cfgWrTimeout => exact .next (keeps_cwTimeout hP hs)
  | dataWindowDataAccess _ _ v =>
    cases v with
    | none => exact .iteB (keeps_inquire hP hs)
    | some _ => exact .iteB (keeps_command hP hs)
  | windowClaimTimeout => exact .iteB (keeps_claimTimeout hP hs)
  | acctResetComplete => exact .next (keeps_acctResetDone hP hs)
  | tillDataLoRead | tillDataHiRead | vaultWinDataRead => exact .next (keeps_inquire hP hs)
  | requestAdmitWaiting => exact .next (keeps_admitWaiting hP hs)
  | tillScrub => exact .next (keeps_fold (fun _ _ h => keeps_tillScrub hP h) hs)
  | mgmtOpen1 | mgmtOpen2 => exact .ite (keeps_mgmtIn hP hs)
  | mgmtRead | mgmtWrite | mgmtReadRepeat | mgmtWriteRepeat | mgmtClose | mgmtUnknownOp =>
    exact .iteB (keeps_mgmtIn hP hs)
  | sessionIdleTimeout => exact .next (keeps_idleTimeout hP hs)
  | openResponseTimeout => exact .next (keeps_openTimeout hP hs)
  | lockoutExpiry => exact .next (keeps_lockoutEnd hP hs)
  | illegalInstruction => exact .next (keeps_runIllegal hP hs)
  | wNop | wJmp | wJc | wJcn | wCall | wRet | wTrap | wRtt | wLoop | wBld | wBldn | wBand | wBandn | wBor | wBorn |
    wBxor | wBnot | wBst | wBstn | wPushb | wPopb | wPopa | wPopo | wPopx | wBldf | wLd | wLdu | wSt | wAdd | wSub |
    wMul | wDiv | wMod | wNeg | wAbs | wCeq | wCne | wClt | wCle | wCgt | wCge | wCltu | wCgeu | wFadd | wFsub | wFmul
    | wFdiv | wFmin | wFmax | wFsqrt | wFabs | wFneg | wItof | wFtoi | wFceq | wFcne | wFclt | wFcle | wFcgt | wFcge |
    wLdx | wStx | wAddx | wLdwx | wLdq | wLdts | wGath | wVget | wVmax | wVmin | wVsum | wVmed | wLdgq | wClf | wFire
    | wRdt | wTunr | wTfree | wPid | wRamp | wLim | wFilt | wRoc | wHyst | wTmr =>
    exact .next (keeps_runInstr_regs hP hs fun _ => by simp)
  | wEnd => exact .next (keeps_cmpAfterEnd hP (keeps_runInstr_regs hP hs bEnd_s))
  | wAnd | wOr | wXor | wShl | wShr | wSar =>
    exact .next (keeps_runInstr_regs hP hs fun c => c.int2_s _ fun _ _ => rfl)
  | wPusht => exact .next (keeps_runInstr hP hs (keeps_bPusht hP))
  | wPopt => exact .next (keeps_runInstr hP hs (keeps_bPopt hP))
  | wTmark | wTrew | wTrel => exact .next (keeps_runInstr hP hs (keeps_tillCtl hP))
  | wReq => exact .next (keeps_runInstr hP hs (keeps_bReq hP))
  | comparePointTimeout => exact .next (keeps_compareTimeout hP hs)
  | dataPlaneTick => exact .next (keeps_dataTick (hL rfl) hs)
  | taskRelease => exact .next (keeps_gridPoint hP hs)
  | snapshotComplete => exact .next (keeps_snapshotDone hP hs)
  | mergeComplete => exact .next (keeps_mergeDone hP hs)
  | overrunCheck => exact .next (keeps_overrunCheck hP hs)
  | signalStale => exact .next (keeps_freshOne hP hs)
  | imageScrub => exact .next (keeps_fold (fun _ _ h => keeps_scrubImage hP h) hs)
  | firingAdmission => exact .next (keeps_fireAdmission hP hs)
  | firingApply => exact .next (keeps_fireApply hP hs)
  | analogueSample => exact .iteB (keeps_aSample hP hs)
  | readbackSample => exact .iteB (keeps_aReadback hP hs)
  | curInOverload => exact .next (keeps_aCurOverload hP hs)
  | curInProtectRetry => exact .next (keeps_aCurRetry hP hs)
  | voltOutOverload => exact .next (keeps_aVoltOverload hP hs)
  | voltOutRetry => exact .next (keeps_aVoltRetry hP hs)
  | analogueReconfigDone => exact .next (keeps_aReconfigDone hP hs)
  | hartPoll => exact .next (keeps_hPoll hP hs)
  | hartReply => exact .ite (keeps_hReplyIn hP hs)
  | hartBurstFrame => exact .next (keeps_hBurst hP hs)
  | hartTimeout => exact .next (keeps_hTimeout hP hs)
  | hartIdentRetry => exact .next (keeps_hIdentRetry hP hs)
  | hartPassthroughRequest => exact .next (keeps_hRequest hP hs)
  | hartZMeasure => exact .next (keeps_hZMeasure hP hs)
  | hartResume => exact .next (keeps_hResume hP hs)
  | levelFilterPass => exact .next (keeps_dLevel hP hs)
  | lineMonOpen => exact .next (keeps_dLineMon hP hs)
  | edgeAccepted => exact .next (keeps_dEdgeIn hP hs)
  | quadVelocityUpdate => exact .next (keeps_dVelocity hP hs)
  | loadCurrentUpdate => exact .next (keeps_dLoad hP hs)
  | outputThermalOff => exact .next (keeps_dThermal hP hs)
  | outputThermalRetry => exact .next (keeps_dThermalRetry hP hs)
  | sliceOvercurrentTrip => exact .next (keeps_dsTrip hP hs)
  | sliceOvercurrentResume => exact .next (keeps_dsResume hP hs)
  | extdrvChange => exact .next (keeps_dExtdrv hP hs)
  | outputConditionChange => exact .next (keeps_dCondition hP hs)
  | digitalReconfigDone => exact .next (keeps_dReconfigDone hP hs)
  | sliceLinkFrameReceived => exact .next (keeps_slFrame hP hs)
  | sliceLinkRunTimeout => exact .next (keeps_slRunTimeout hP hs)
  | ptpInterval => exact .next (keeps_ptpInterval hP hs)
  | ptpSyncReceived => exact .next (keeps_syncIn hP hs)
  | ptpFollowUpReceived => exact .next (keeps_followUpIn hP hs)
  | ptpAnnounceReceived => exact .next (keeps_ptpAnnounceIn hP hs)
  | ptpPdelayReqReceived => exact .next (keeps_pdelayReqIn hP hs)
  | ptpPdelayRespReceived => exact .next (keeps_pdelayRespIn hP hs)
  | pdelayTimeout => exact .next (keeps_pdelayTimeout hP hs)
  | announceReceiptTimeout => exact .next (keeps_announceTimeout hP hs)
  | tsRevert => exact .next (keeps_ite (keeps_tsLock hP hs) hs)
  | tsSlewComplete => exact .next (keeps_ite (keeps_tsSlewing hP (keeps_tsSelect hP hs)) hs)
  | holdoverLimit => exact .next (keeps_holdLimit hP hs)
  | abOffsetAlarm => exact .next (keeps_abAlarm hP hs)
  | transceiverInserted => exact .next (keeps_xcvrInsert hP hs)
  | transceiverIdRead => exact .next (keeps_xcvrRead hP hs)
  | portLinkUp => exact .next (keeps_linkUp hP hs)
  | portLinkDown => exact .next (keeps_linkDown hP hs)
  | supervisionSend => exact .next (keeps_supervise hP hs)
  | supervisionReceived => exact .next (keeps_superviseIn hP hs)
  | segmentTimeout => exact .next (keeps_segTimeout hP hs)
  | announceSend => exact .next (keeps_announce hP hs)
  | heartbeatFlagChange => exact .next (keeps_ite hs (keeps_announce hP hs))
  | announceReceived => exact .next (keeps_announceIn hP hs)
  | peerLost => exact .next (keeps_peerLost hP hs)
  | publicationSend => exact .next (keeps_publish hP hs)
  | publicationReceived => exact .next (keeps_publicationIn hP hs)
  | tagGrant => exact .next (keeps_tagGrant hP hs)
  | requestTagTimeout => exact .next (keeps_tagTimeout hP hs)
  | tagDeadline => exact .next (keeps_tagDeadline hP hs)
  | tagRetry => exact .next (keeps_tagRetry hP hs)
  | tagQuarantineEnd => exact .next (keeps_tagQuarEnd hP hs)
  | requestReceived => exact .next (keeps_requestIn hP hs)
  | replyReceived => exact .next (keeps_replyIn hP hs)
  | incomingRequestExpire => exact .next (keeps_incomingExpire hP hs)
  | rztOpenSend => exact .next (keeps_rzReopen hP hs)
  | rztOpenReceived => exact .next (keeps_rzOpenIn hP hs)
  | rztAcceptReceived => exact .next (keeps_rzAccept hP hs)
  | rztDataSend => exact .next (keeps_rzDataSend hP hs)
  | rztCheckReceived => exact .next (keeps_rzCheckIn hP hs)
  | rztDataReceived => exact .next (keeps_rzData hP hs)
  | rztAssayTimeout => exact .next (keeps_rzAssay hP hs)
  | rztWatchdog => exact .next (keeps_rzWatchdog hP hs)
  | rztFaultRetry | rztRefusedRetry => exact .next (keeps_rzRetry hP hs)
  | rztDegradedLimit => exact .next (keeps_rzDegraded hP hs)
  | ledgerFrameReceived | relinquishReceived => exact .next (keeps_ledgerIn (hL rfl) hs)
  | ledgerLinkLost => exact .next (keeps_linkLost hP hs)
  | peerAbsent => exact .next (keeps_peerGone hP hs)
  | journalResend => exact .next (keeps_journalResend hP hs)
  | takeover => exact .next (keeps_takeover (hL rfl) hs)
  | handoverActionDue => exact .next (keeps_handoverDue hP hs)
  | handoverWindowEnd => exact .next (keeps_windowEnd hP hs)
  | reclaimTimer => exact .next (keeps_reclaimTimer hP hs)
  | roleSwapDue => exact .next (keeps_swapDue hP hs)
  | canTxItemRead => exact .next (keeps_canRead hP hs)
  | canTxComplete => exact .next (keeps_canSent hP hs)
  | canTxError => exact .next (keeps_canTxError hP hs)
  | canBusoffRecovery => exact .next (keeps_canRecover hP hs)
  | canIntegrated => exact .next (keeps_canIntegrated hP hs)
  | canRxFrame => exact .iteB (keeps_canReceive hP hs)
  | canRxItemWrite => exact .next (keeps_canRxWrite hP hs)
  | canConfigApply => exact .next (keeps_canCfgApply hP hs)
  | managementCycle => exact .next (keeps_mgmtCycle hP hs)
  | vaultPageTimeout => exact .next (keeps_vpageTimeout hP hs)
  | vaultPageVerified => exact .next (keeps_vpage hP hs)
  | vaultFaultFlushDone => exact .next (keeps_vflushDone hP hs)
  | vaultClosingFlushDone => exact .next (keeps_vcloseDone hP hs)
  | vaultEraseDone => exact .next (keeps_veraseDone hP hs)
  | vaultRecoveryDone => exact .next (keeps_vrecover hP hs)
  | wheelTestDone => exact .next (keeps_testDone hP hs)
  | wheelRetestDone => exact .next (keeps_retestDone hP hs)
  | fuseBurnDone => exact .next (keeps_fuseDone hP hs)
  | rotationStep => exact .next (keeps_rotStep hP hs)
  | sparePrepared => exact .next (keeps_sparePrepared hP hs)
  | wheelSwitch => exact .next (keeps_wheelSwitch hP hs)
  | rotationSkip => exact .next (keeps_rotSkip hP hs)
  | wheelLost => exact .next (keeps_wheelLoss (hL rfl) hs)
  | spareLoaded => exact .next (keeps_spareLoaded hP hs)
  | wheelScrub => exact .next (keeps_fold (fun _ _ h => keeps_scrubWheel hP h) hs)
  | ledgerScrub => exact .next (keeps_fold (fun _ _ h => keeps_scrubLedger hP h) hs)
  | panelFrameScan => exact .next (keeps_panelScan hP hs)
  | panelPowerUp => exact .next (keeps_panelUp hP hs)
  | panelRailTimeout => exact .next (keeps_panelTimeout hP hs)
  | panelRailRetry => exact .next (keeps_panelRetry hP hs)
  | panelPowerDown => exact .next (keeps_panelDown hP hs)
  | linkOutsideRunTimeout => exact .next (keeps_slOutside hP hs)
  | cfgWrPageProgrammed => exact .next (keeps_cwProgrammed hP hs)
  | frameForward => exact .next (keeps_forward hP hs)
  | transceiverRemoved => exact .next (keeps_xcvrRemove hP hs)
  | peerPresentSeated => exact .next (keeps_peerSeen hP hs)
  | canBusError => exact .next (keeps_canBusError hP hs)
  | storeConverterCarry => exact .next (keeps_storeCarry hP hs)
  | outputStageThermalShutdown => exact .next (keeps_aThermal hP hs)
  | outputStageThermalRetry => exact .next (keeps_aThermalRetry hP hs)
  | currentLimitChange => exact .next (keeps_ite (keeps_setDConds hP hs) hs)

/-! ### The canonical form -/

/-- The canonical form is kept by every single update, and by what begins and ends the life of the module. -/
theorem closedLife_canonical : ClosedLife fun s => s.canonical = true where
  word {s a v} h := by
    simp only [State.canonical, Bool.and_eq_true] at h ⊢
    exact ⟨nset_wf h.1, h.2⟩
  till {s k v} h := by
    simp only [State.canonical, Bool.and_eq_true] at h ⊢
    exact ⟨h.1, nset_wf (d := fun _ => 0) h.2⟩
  upd h := h
  clear _ := rfl
  life h := h

theorem closedLife_true : ClosedLife fun _ => True where
  word _ := trivial
  till _ := trivial
  upd _ := trivial
  clear _ := trivial
  life _ := trivial

theorem Answers.of_next {P : State → Prop} {b : Bool} {t : State} (h : Answers P b (.next t)) : P t := by
  cases h with
  | next h => exact h

/-- A command is carried out on the state with the rest of the queue, which no part of the canonical form speaks of. -/
theorem step_keeps_canonical {s t : State} (hs : s.canonical = true) (h : step s = .next t) : t.canonical = true := by
  unfold step at h
  split at h
  case h_1 =>
    cases h
    exact hs
  case h_2 c rest hq =>
    have a := exec_answers closedLife_canonical.toClosed (fun _ => closedLife_canonical) (i := c)
      (s := { s with pending := rest }) hs
    exact (h ▸ a).of_next

/-- Settles O5: every update is a canonical one (closedLife_canonical), and every command is made of updates. -/
theorem stepKeepsCanonical : Obligations.StepKeepsCanonical := fun _ _ => step_keeps_canonical

/-- Settles O4: exec_answers for the property that every state has. -/
theorem wellFormedCommandCompletes : Obligations.WellFormedCommandCompletes := by
  intro c s
  have h := exec_answers closedLife_true.toClosed (fun _ => closedLife_true) (i := c) (s := s) trivial
  generalize c.wf = b at h
  generalize exec c s = o at h
  cases h with
  | next => exact ⟨fun _ => ⟨_, rfl⟩, nofun⟩
  | illFormed => exact ⟨nofun, fun _ => ⟨_, rfl⟩⟩

/-! ### The reset state -/

/-- After reset no register word is listed: each reads as the Reset column says. -/
theorem reg_reset (r : Reg) (i j : Nat) : State.reset.reg r i j = (resetWord (r.addr i j)).toNat := rfl

theorem fld_reset (f : Fld) (i j : Nat) : State.reset.fld f i j = bits (resetWord (f.reg.addr i j)).toNat f.hi f.lo := by
  rw [State.fld, reg_reset]

/-- Settles O2: the reset state lists no word and no waiting command, and the Reset column gives the rest. -/
theorem resetState : Obligations.ResetState := by
  refine ⟨rfl, rfl, rfl, rfl, rfl, rfl, rfl, rfl, ?timing, ?reclaim, ?causes, ?pair, ?link, ?acct, ?vault⟩
  case timing | reclaim | causes => rw [fld_reset]; decide
  case pair => exact (fld_reset F.PAIR_STATUS_STATE 0 0).trans (by decide)
  case link => exact (fld_reset F.LL_STATUS_STATE 0 0).trans (by decide)
  case acct => exact (fld_reset F.ACCT_STATUS_STATE 0 0).trans (by decide)
  case vault => exact (reg_reset R.VAULT_NEXT 0 0).trans (by decide)

end Sys2Proof.Machine
end

section
/-! SUPPORT. The register map's addresses: at each address of a family stands that family alone. A permitted write passes the
checks that all registers share. -/
namespace Sys2Proof.Machine

/-! ### Addresses -/

/-- The words of an entry of the family lie within its stride, and the family within the subsystem of its base. -/
def Reg.fits (r : Reg) : Bool :=
  decide (0 < r.s2 ∧ r.s2 * r.n2 ≤ r.s1 ∧ r.base % 2 ^ 24 + r.s1 * r.n1 ≤ 2 ^ 24)

/-- The address of the last word of a family. -/
def Reg.last (r : Reg) : Nat := r.addr (r.n1 - 1) (r.n2 - 1)

/-- No address of family r lies in family q: their ranges do not meet, or they repeat with the same stride and no word of an entry
of r stands where a word of an entry of q stands. -/
def Reg.misses (q r : Reg) : Bool :=
  decide (q.last < r.base) || decide (r.last < q.base) ||
    (q.s1 == r.s1 && (List.range r.n2).all fun j =>
      let x := (r.base + r.s2 * j + q.s1 * q.base - q.base) % q.s1
      decide (x % q.s2 ≠ 0 ∨ q.n2 ≤ x / q.s2))

theorem Reg.addr_le_last {r : Reg} {i j : Nat} (hi : i < r.n1) (hj : j < r.n2) : r.addr i j ≤ r.last := by
  have h1 : r.s1 * i ≤ r.s1 * (r.n1 - 1) := Nat.mul_le_mul_left _ (by omega)
  have h2 : r.s2 * j ≤ r.s2 * (r.n2 - 1) := Nat.mul_le_mul_left _ (by omega)
  unfold Reg.last Reg.addr
  omega

theorem Reg.base_le_addr (r : Reg) (i j : Nat) : r.base ≤ r.addr i j := by
  unfold Reg.addr
  omega

theorem Reg.hit_addr {r : Reg} (hf : r.fits = true) {i j : Nat} (hi : i < r.n1) (hj : j < r.n2) :
    r.hit (r.addr i j) = some (i, j) := by
  simp only [Reg.fits, decide_eq_true_eq] at hf
  obtain ⟨h2, h1, -⟩ := hf
  have hlt : r.s2 * j < r.s1 := lt_of_lt_of_le (Nat.mul_lt_mul_of_pos_left hj h2) h1
  have hoff : r.addr i j - r.base = r.s2 * j + r.s1 * i := by unfold Reg.addr; omega
  have hge : ¬ r.addr i j < r.base := by unfold Reg.addr; omega
  have hpos : 0 < r.s1 := by omega
  simp [Reg.hit, hge, hoff, Nat.add_mul_div_left _ _ hpos, Nat.div_eq_of_lt hlt, Nat.mod_eq_of_lt hlt, hi, hj, h2]

theorem Reg.addr_of_hit {r : Reg} {a i j : Nat} (h : r.hit a = some (i, j)) : r.addr i j = a ∧ i < r.n1 ∧ j < r.n2 := by
  unfold Reg.hit at h
  split at h
  · cases h
  · rename_i hge
    extract_lets off x y at h
    split at h
    · rename_i hc
      obtain ⟨hi, hj, h0⟩ := hc
      simp only [Option.some.injEq, Prod.mk.injEq] at h
      obtain ⟨rfl, rfl⟩ := h
      refine ⟨?_, hi, hj⟩
      have e1 : r.s1 * x + off % r.s1 = off := Nat.div_add_mod off r.s1
      have e2 : r.s2 * y + off % r.s1 % r.s2 = off % r.s1 := Nat.div_add_mod (off % r.s1) r.s2
      have e3 : off = a - r.base := rfl
      unfold Reg.addr
      omega
    · cases h

theorem Reg.residue_of_hit {q : Reg} {a k l : Nat} (h : q.hit a = some (k, l)) :
    (a - q.base) % q.s1 % q.s2 = 0 ∧ (a - q.base) % q.s1 / q.s2 < q.n2 := by
  unfold Reg.hit at h
  split at h
  · cases h
  · extract_lets off x y at h
    split at h
    · exact ⟨‹_ ∧ _ ∧ _›.2.2, ‹_ ∧ _ ∧ _›.2.1⟩
    · cases h

/-- With equal strides the place of a word within an entry does not depend on the entry. -/
theorem Reg.residue_addr {q r : Reg} {i j k l : Nat} (hs : q.s1 = r.s1) (hge : q.base ≤ q.addr k l) (ha : q.addr k l = r.addr i j)
    (hf : r.fits = true) (hj : j < r.n2) :
    (r.base + r.s2 * j + q.s1 * q.base - q.base) % q.s1 = (r.addr i j - q.base) % q.s1 := by
  simp only [Reg.fits, decide_eq_true_eq] at hf
  obtain ⟨h2, h1, -⟩ := hf
  have hpos : 1 ≤ q.s1 := by
    have := Nat.mul_lt_mul_of_pos_left hj h2
    omega
  have hb : 1 * q.base ≤ q.s1 * q.base := Nat.mul_le_mul_right _ hpos
  have e : r.base + r.s2 * j + q.s1 * q.base - q.base + q.s1 * i = r.addr i j - q.base + q.s1 * q.base := by
    rw [ha] at hge
    rw [hs] at hb ⊢
    unfold Reg.addr at hge ⊢
    omega
  rw [← Nat.add_mul_mod_self_left _ q.s1 i, e, Nat.add_mul_mod_self_left]

theorem Reg.hit_eq_none {q r : Reg} (hm : q.misses r = true) (hf : r.fits = true) {i j : Nat} (hi : i < r.n1) (hj : j < r.n2) :
    q.hit (r.addr i j) = none := by
  cases hq : q.hit (r.addr i j) with
  | none => rfl
  | some p =>
    exfalso
    obtain ⟨k, l⟩ := p
    obtain ⟨ha, hk, hl⟩ := Reg.addr_of_hit hq
    have hle := Reg.addr_le_last hi hj
    have hge := r.base_le_addr i j
    have hle' := Reg.addr_le_last hk hl
    have hge' := q.base_le_addr k l
    simp only [Reg.misses, Bool.or_eq_true, Bool.and_eq_true, decide_eq_true_eq, beq_iff_eq, List.all_eq_true,
      List.mem_range] at hm
    obtain (h | h) | ⟨hs, h⟩ := hm
    · omega
    · omega
    · have hx := h j hj
      rw [Reg.residue_addr hs hge' ha hf hj] at hx
      obtain ⟨h0, hn⟩ := Reg.residue_of_hit hq
      omega

/-- Every family lies within its subsystem and meets no other family of it. -/
theorem regsOf_apart (u : Nat) : (∀ r ∈ regsOf u, r.fits = true) ∧ (regsOf u).Pairwise fun q r => q.misses r = true := by
  by_cases hu : u < 20
  · have h : ∀ u < 20, (∀ r ∈ regsOf u, r.fits = true) ∧ (regsOf u).Pairwise fun q r => q.misses r = true := by
      decide +kernel
    exact h u hu
  · have e : regsOf u = [] := by
      unfold regsOf
      split <;> simp_all
    simp [e]

theorem findReg_of_mem {rs : List Reg} {r : Reg} {i j : Nat} (hp : rs.Pairwise fun q r => q.misses r = true) (hr : r ∈ rs)
    (hf : r.fits = true) (hi : i < r.n1) (hj : j < r.n2) : findReg rs (r.addr i j) = some (r, i, j) := by
  induction rs with
  | nil => cases hr
  | cons q rs ih =>
    rw [List.pairwise_cons] at hp
    rcases List.mem_cons.1 hr with rfl | hr
    · simp [findReg, Reg.hit_addr hf hi hj]
    · simp [findReg, Reg.hit_eq_none (hp.1 r hr) hf hi hj, ih hp.2 hr]

theorem Reg.addr_div {r : Reg} (hf : r.fits = true) {i j : Nat} (hi : i < r.n1) (hj : j < r.n2) :
    r.addr i j / 2 ^ 24 = r.base / 2 ^ 24 := by
  simp only [Reg.fits, decide_eq_true_eq] at hf
  obtain ⟨h2, h1, h0⟩ := hf
  have hlt := Nat.mul_lt_mul_of_pos_left hj h2
  have hs : r.s1 * (i + 1) ≤ r.s1 * r.n1 := Nat.mul_le_mul_left _ hi
  rw [Nat.mul_add] at hs
  unfold Reg.addr
  omega

/-- The register at an address of a family of the register map. -/
theorem regAt_addr {r : Reg} (hr : r ∈ regsOf (r.base / 2 ^ 24)) {i j : Nat} (hi : i < r.n1) (hj : j < r.n2) :
    regAt (r.addr i j) = some (r, i, j) := by
  obtain ⟨hfits, hp⟩ := regsOf_apart (r.base / 2 ^ 24)
  have hf := hfits r hr
  have e : r.addr i j / 0x1000000 = r.base / 2 ^ 24 := Reg.addr_div hf hi hj
  rw [regAt, e]
  exact findReg_of_mem hp hr hf hi hj

theorem hit_of_findReg {rs : List Reg} {a : Nat} {r : Reg} {i j : Nat} (h : findReg rs a = some (r, i, j)) :
    r ∈ rs ∧ r.hit a = some (i, j) := by
  induction rs with
  | nil => cases h
  | cons q rs ih =>
    unfold findReg at h
    split at h
    · cases h
      exact ⟨List.mem_cons_self, ‹_›⟩
    · exact ⟨List.mem_cons_of_mem _ (ih h).1, (ih h).2⟩

/-- What an address at which a register is defined is. -/
theorem addr_of_regAt {a : Nat} {r : Reg} {i j : Nat} (h : regAt a = some (r, i, j)) :
    r.addr i j = a ∧ i < r.n1 ∧ j < r.n2 := Reg.addr_of_hit (hit_of_findReg h).2

/-! ### Permitted writes -/

/-- What a permitted write finds (R95, R97, R101, R104). -/
structure Grant (s : State) (n addr : Nat) (r : Reg) (i : Nat) : Prop where
  opened : (s.session n).opened = true
  alive : s.alive = true
  unlimited : s.limited addr = false
  version : (s.session n).map ≠ 2
  may : s.mayWrite (s.session n).account addr r = true
  control : (s.inControl || moduleLocal r || isWinAddr r) = true
  unclaimed : s.claimed n r i = false
  paid : ∀ k, dataKey r i = some k → s.owes n k = false

theorem grant_of_granted {s : State} {n addr : Nat} {r : Reg} {i : Nat} (h : s.granted n addr r i = true) :
    Grant s n addr r i := by
  simp only [State.granted, Bool.and_eq_true, Bool.not_eq_true', bne_iff_ne, ne_eq] at h
  obtain ⟨⟨⟨⟨⟨⟨⟨h1, h2⟩, h3⟩, h4⟩, h5⟩, h6⟩, h7⟩, h8⟩ := h
  refine ⟨h1, h2, h3, h4, h5, h6, h7, fun k hk => ?_⟩
  simpa [hk] using h8

/-- A write by an open session of a module that runs: its status, and what the write of the register leaves. -/
theorem command_eq {s : State} {n addr : Nat} {v : W32} (ho : (s.session n).opened = true) (ha : s.alive = true) :
    s.command n addr v = { (s.writeReg n addr v).2 with mgmt.status := (s.writeReg n addr v).1, mgmt.data := 0 } := by
  simp [State.command, ho, ha]

theorem command_of_writeReg {s t : State} {n addr st : Nat} {v : W32} (ho : (s.session n).opened = true) (ha : s.alive = true)
    (h : s.writeReg n addr v = (st, t)) : s.command n addr v = { t with mgmt.status := st, mgmt.data := 0 } := by
  rw [command_eq ho ha, h]

/-- A register that a run-time write can change, and that is no till register. -/
def Reg.settable (r : Reg) : Bool :=
  r.wr != 0 && !imageOnly r && !([R.TILL_DATA_LO, R.TILL_DATA_HI, R.TILL_CMD].contains r)

/-- A plain word: no 64-bit quantity, under no claim, and no register whose write is judged by a session of its own. -/
def Reg.plainWord (r : Reg) : Bool :=
  r.settable && !r.w64 && !isWinAddr r && !isForceReg r && (winAddrReg r).isNone &&
    !([R.CFG_WR_CTRL, R.CFG_WR_DATA, R.PAIR_CTRL].contains r)

theorem winAddrReg_of_claimKey {r : Reg} {i : Nat} (h : claimKey r i = none) :
    isWinAddr r = false ∧ isForceReg r = false ∧ winAddrReg r = none := by
  unfold claimKey at h
  split at h
  · cases h
  · split at h
    · cases h
    · simp_all

theorem isForceReg_eq_false {r : Reg} (h : isForceReg r = false) :
    r ≠ R.FORCE_SIGNAL ∧ r ≠ R.FORCE_VALUE ∧ r ≠ R.FORCE_CTRL := by
  simpa [isForceReg] using h

section
variable {s : State} {n addr : Nat} {r : Reg} {i j : Nat} (hat : regAt addr = some (r, i, j)) (g : Grant s n addr r i)
  (hs : r.settable = true)
include hat g hs

/-- A permitted write of a window's address register. -/
theorem writeReg_winAddr (v : W32) (hw : isWinAddr r = true) : s.writeReg n addr v = s.winAddrWrite n r i v.toNat := by
  simp only [Reg.settable, Bool.and_eq_true, bne_iff_ne, ne_eq, Bool.not_eq_true', List.contains_cons, Bool.or_eq_false_iff,
    beq_eq_false_iff_ne] at hs
  obtain ⟨⟨hwr, himg⟩, hlo, hhi, hcmd, -⟩ := hs
  simp [State.writeReg, g.unlimited, g.version, hat, g.may, g.unclaimed, hw, hwr, himg, hlo, hhi, hcmd]

/-- A permitted write of any other settable register, as its kind has it. -/
theorem writeReg_other (v : W32) (hw : isWinAddr r = false) : s.writeReg n addr v =
    if r = R.FORCE_SIGNAL then s.forceSignalWrite n i (s.session n).account v.toNat
    else (winAddrReg r).elim
      (if r = R.CFG_WR_CTRL then s.cfgWrite false v
        else if r = R.CFG_WR_DATA then s.cfgWrite true v
        else if r = R.FORCE_CTRL then s.forceCtrl n i v.toNat
        else if r = R.PAIR_CTRL ∧ bits v.toNat 31 24 = 0x3C ∧ bits v.toNat 3 0 = 1 then
          s.handoverWrite addr v n (s.session n).account
        else if r.w64 then s.halfWrite n r i j addr v
        else
          let st := s.ahead.wordCheck (s.session n).account r i (s.ahead.masked r i j v.toNat) v.toNat
          if st = 0 then (0, s.effect (.word addr v n (s.session n).account)) else (st, s))
      fun ar => s.winWrite n r ar i v := by
  have hc := g.control
  have hp := g.paid
  simp only [Reg.settable, Bool.and_eq_true, bne_iff_ne, ne_eq, Bool.not_eq_true', List.contains_cons, Bool.or_eq_false_iff,
    beq_eq_false_iff_ne] at hs
  obtain ⟨⟨hwr, himg⟩, hlo, hhi, hcmd, -⟩ := hs
  have hl : ¬(s.inControl = false ∧ moduleLocal r = false) := fun ⟨h1, h2⟩ => by simp [hw, h1, h2] at hc
  cases hk : dataKey r i <;> cases hr : winAddrReg r <;> simp_all [State.writeReg, g.unlimited, g.version, g.may, g.unclaimed]
end
end Sys2Proof.Machine
end

section
/-! SUPPORT. Accesses that are refused (O19), and permitted writes that wait for the tick. -/
namespace Sys2Proof.Machine

/-! ### Accesses that are refused -/

theorem yields_registerWrite {s : State} {n : Fin 8} {a v : W32} {st : Nat} (ho : (s.session n.val).opened = true)
    (ha : s.alive = true) (h : s.writeReg n.val a.toNat v = (st, s)) : Yields (.registerWrite n a v) s (s.Answered st) :=
  ⟨_, rfl, command_of_writeReg ho ha h⟩

/-- A run-time write of a register that the rules keep from it. -/
theorem writeReg_refused {s : State} {n addr : Nat} {v : W32} {r : Reg} {i j : Nat} (hat : regAt addr = some (r, i, j))
    (h : s.mayWrite (s.session n).account addr r = false ∨ r.wr = 0 ∨ imageOnly r = true) : s.writeReg n addr v = (8, s) := by
  rcases h with h | h <;> simp [State.writeReg, hat, h]

/-- Settles O19, check by check of an access. -/
theorem refusedAccessHasNoEffect : Obligations.RefusedAccessHasNoEffect := by
  unfold Obligations.RefusedAccessHasNoEffect
  refine ⟨?undefined, ?barred, ?refused, ?read, ?absent⟩
  case undefined =>
    intro s n a v ho ha hl hm hat
    exact yields_registerWrite ho ha (by simp [State.writeReg, hl, hm, hat])
  case barred =>
    intro s n a v ho ha h
    exact yields_registerWrite ho ha (by simp [State.writeReg, h])
  case refused =>
    intro s n a v r i j ho ha hat h
    exact yields_registerWrite ho ha (writeReg_refused hat h)
  case read =>
    intro s n a e hl hat
    simp [State.readReg, hl, hat]
  case absent =>
    intro s n a v h
    exact ⟨_, rfl, by simp [State.command, h]⟩

/-! ### Writes that wait for the tick -/

section
variable {s : State} {n addr : Nat} {r : Reg} {i j : Nat} {v : W32} (hat : regAt addr = some (r, i, j))
  (h : s.granted n addr r i = true)
include hat h

/-- A permitted write of a plain word that its register takes. -/
theorem queued_word (hp : r.plainWord = true)
    (hc : s.ahead.wordCheck (s.session n).account r i (s.ahead.masked r i j v.toNat) v.toNat = 0) :
    s.Queued (.word addr v n (s.session n).account) (s.command n addr v) := by
  have g := grant_of_granted h
  simp only [Reg.plainWord, Bool.and_eq_true, Bool.not_eq_true', Option.isNone_iff_eq_none, List.contains_cons,
    Bool.or_eq_false_iff, beq_eq_false_iff_ne] at hp
  obtain ⟨⟨⟨⟨⟨hs, h64⟩, hw⟩, hf⟩, ha⟩, hctrl, hdata, hpair, -⟩ := hp
  obtain ⟨hsig, -, hfc⟩ := isForceReg_eq_false hf
  refine command_of_writeReg g.opened g.alive (t := s.effect _) ?_
  simp [writeReg_other hat g hs v hw, ha, hsig, hctrl, hdata, hfc, hpair, h64, hc]

end

/-- A permitted write of FORCE_CTRL. -/
theorem queued_force {s : State} {n i : Nat} {v : W32} (hi : i < 8) (h : s.granted n (R.FORCE_CTRL.addr i 0) R.FORCE_CTRL i = true)
    (hk : bits v.toNat 31 24 = 0x3C) (hc : bits v.toNat 1 0 ≠ 0) :
    s.Queued (.force i (bits v.toNat 1 0) n (s.forceTarget i) (s.forceValue i)) (s.command n (R.FORCE_CTRL.addr i 0) v) := by
  have g := grant_of_granted h
  have hat : regAt (R.FORCE_CTRL.addr i 0) = some (R.FORCE_CTRL, i, 0) := regAt_addr (by decide) hi (by decide)
  refine command_of_writeReg g.opened g.alive (t := s.effect _) ?_
  rw [writeReg_other hat g (by decide) v (by decide), show winAddrReg R.FORCE_CTRL = none from by decide]
  simp [State.forceCtrl, hk, hc, show R.FORCE_CTRL ≠ R.FORCE_SIGNAL from by decide,
    show R.FORCE_CTRL ≠ R.CFG_WR_CTRL from by decide, show R.FORCE_CTRL ≠ R.CFG_WR_DATA from by decide]

end Sys2Proof.Machine
end

section
/-! SUPPORT. What goes with a write that takes effect: its delivery to a slice and its entry in the journal change no register and
no unit of the module. -/
namespace Sys2Proof.Machine

/-- t differs from s in the links of the slices, the journal and the pair only. -/
abbrev State.Posted (s t : State) : Prop :=
  t = { s with links := t.links, image := { s.image with journal := t.image.journal }, pair := t.pair }

section
variable {s t : State}

theorem posted_deliverItem (h : s.Posted t) (addr : Nat) : s.Posted (t.deliverItem addr) := by
  unfold State.deliverItem
  split
  · unfold State.slQueue
    extract_lets l
    split
    · unfold State.setLink
      rw [h]
    · exact h
  · exact h

theorem posted_journalReg (h : s.Posted t) (addr v : Nat) (keep : Bool) : s.Posted (t.journalReg addr v keep) := by
  unfold State.journalReg
  split
  · exact h
  · cases keep <;> simp only [State.journal] <;> rw [h] <;> rfl

theorem State.Posted.word (h : s.Posted t) (a : Nat) : t.word a = s.word a := by
  rw [h]
  rfl

theorem State.Posted.reg (h : s.Posted t) (r : Reg) (i j : Nat) : t.reg r i j = s.reg r i j := by
  rw [State.reg, h.word]
  rfl

theorem State.Posted.fld (h : s.Posted t) (f : Fld) (i j : Nat) : t.fld f i j = s.fld f i j := by
  rw [State.fld, h.reg]
  rfl

theorem State.Posted.time (h : s.Posted t) : t.time = s.time := by rw [h]
theorem State.Posted.accts (h : s.Posted t) : t.accts = s.accts := by rw [h]
theorem State.Posted.ach (h : s.Posted t) : t.ach = s.ach := by rw [h]
theorem State.Posted.dch (h : s.Posted t) : t.dch = s.dch := by rw [h]
theorem State.Posted.hart (h : s.Posted t) : t.hart = s.hart := by rw [h]

theorem State.Posted.acct (h : s.Posted t) (a : Nat) : t.acct a = s.acct a := by rw [State.acct, h.accts, State.acct]
theorem State.Posted.achan (h : s.Posted t) (g : Nat) : t.achan g = s.achan g := by rw [State.achan, h.ach, State.achan]
theorem State.Posted.dchan (h : s.Posted t) (n : Nat) : t.dchan n = s.dchan n := by rw [State.dchan, h.dch, State.dchan]
theorem State.Posted.hartOf (h : s.Posted t) (g : Nat) : t.hartOf g = s.hartOf g := by rw [State.hartOf, h.hart, State.hartOf]
theorem State.Posted.base (h : s.Posted t) (d : Nat) : t.base d = s.base d := by rw [State.base, h.time, State.base]
theorem State.Posted.flag (h : s.Posted t) (f : Fld) (i j : Nat) : t.flag f i j = s.flag f i j := by
  rw [State.flag, h.fld, State.flag]
end

theorem reg64_setReg64_same (s : State) {r : Reg} {v i : Nat} (h : r.s2 ≠ 0) (hv : v < 2 ^ 64) :
    (s.setReg64 r v i).reg64 r i = v := by
  have hne : r.addr i 0 ≠ r.addr i 1 := by
    unfold Reg.addr
    omega
  rw [State.reg64, State.setReg64, reg_setReg_same _ _ _ _ _ (by omega), reg_setReg_ne _ _ hne,
    reg_setReg_same _ _ _ _ _ (by omega)]
  omega

end Sys2Proof.Machine
end

section
/-! PROOF. The choice of TS, its limits and its setting (O49). -/
namespace Sys2Proof.Machine

/-! ### TS states -/

/-- s with another time. -/
def State.retime (s : State) (x : Time) : State := { s with time := x }

@[simp] theorem retime_time (s : State) (x : Time) : (s.retime x).time = x := rfl
@[simp] theorem retime_fld (s : State) (x : Time) (f : Fld) (i j : Nat) : (s.retime x).fld f i j = s.fld f i j := rfl
@[simp] theorem retime_image (s : State) (x : Time) : (s.retime x).image = s.image := rfl

/-- The fields of TIME_STATUS that a state of TS sets. -/
def State.tsFields (s : State) (st : Nat) (valid : Bool) : State :=
  ((s.setFld F.TIME_STATUS_TS_STATE st).setFld F.TIME_STATUS_TS_VALID (b2n valid)).setFld F.TIME_STATUS_HOLDOVER
    (b2n (st == tsHoldover || st == tsExpired))

theorem setTs_eq (s : State) (st : Nat) (valid : Bool) : s.setTs st valid =
    if valid && !s.time.everValid then ((s.tsFields st valid).retime { s.time with everValid := true }).ev 0x0C03 [.b8 st]
    else s.tsFields st valid := rfl

/-- Recording the first validity changes no field. -/
theorem setTs_fld (s : State) (st : Nat) (valid : Bool) (f : Fld) (hf : f.reg.addr 0 0 ∉ eventWords) :
    (s.setTs st valid).fld f = (s.tsFields st valid).fld f := by
  rw [setTs_eq]
  split
  · rw [ev_fld _ _ _ hf, retime_fld]
  · rfl

theorem setTs_time (s : State) (st : Nat) (valid : Bool) :
    (s.setTs st valid).time = if valid then { s.time with everValid := true } else s.time := by
  rw [setTs_eq]
  have h : (s.tsFields st valid).time = s.time := by simp [State.tsFields]
  cases hv : s.time.everValid <;> cases valid <;> simp [h]
  rw [← hv]

theorem setTs_image (s : State) (st : Nat) (valid : Bool) : (s.setTs st valid).image = s.image := by
  rw [setTs_eq]
  split <;> simp [State.tsFields]

theorem setTs_tsState (s : State) {st : Nat} (valid : Bool) (h : st < 16) : (s.setTs st valid).tsState = st := by
  rw [State.tsState, setTs_fld _ _ _ _ (by decide), State.tsFields]
  simp (disch := decide) only [fld_setFld_disjoint, fld_setFld_same]
  exact Nat.mod_eq_of_lt h

theorem setTs_tsValid (s : State) (st : Nat) (valid : Bool) : (s.setTs st valid).tsValid = valid := by
  rw [State.tsValid, State.flag, setTs_fld _ _ _ _ (by decide), State.tsFields]
  simp (disch := decide) only [fld_setFld_disjoint, fld_setFld_same]
  cases valid <;> rfl

theorem setTs_holdover (s : State) (st : Nat) (valid : Bool) :
    (s.setTs st valid).flag F.TIME_STATUS_HOLDOVER = (st == tsHoldover || st == tsExpired) := by
  rw [State.flag, setTs_fld _ _ _ _ (by decide), State.tsFields]
  simp (disch := decide) only [fld_setFld_same]
  cases st == tsHoldover || st == tsExpired <;> rfl

theorem setTs_source (s : State) (st : Nat) (valid : Bool) :
    (s.setTs st valid).fld F.TIME_STATUS_SOURCE = s.fld F.TIME_STATUS_SOURCE := by
  rw [setTs_fld _ _ _ _ (by decide), State.tsFields]
  simp (disch := decide) only [fld_setFld_disjoint]

/-! ### The end of holdover -/

theorem holdEnds_eq (s : State) (st : Nat) :
    s.holdEnds st = (s.retime { s.time with holdTick := none }).ev 0x0C06 [.b8 st, .b32 s.holdMs] := rfl

theorem holdEnds_time (s : State) (st : Nat) : (s.holdEnds st).time = { s.time with holdTick := none } := by
  rw [holdEnds_eq, State.ev_time, retime_time]

theorem holdEnds_image (s : State) (st : Nat) : (s.holdEnds st).image = s.image := by
  rw [holdEnds_eq, State.ev_image, retime_image]

theorem holdEnds_fld (s : State) (st : Nat) (f : Fld) (hf : f.reg.addr 0 0 ∉ eventWords) : (s.holdEnds st).fld f = s.fld f := by
  rw [holdEnds_eq, ev_fld _ _ _ hf, retime_fld]

/-! ### A source for TS -/

/-- A switch from a time that was valid is counted and recorded. -/
def State.switched (s : State) (was : Bool) (d : Nat) : State :=
  if was then (s.bump F.TIME_STATUS_SWITCHES).ev 0x0C04 [.b8 d, .b32 (ofSint 32 (s.domOffset d))] else s

theorem switched_time (s : State) (was : Bool) (d : Nat) : (s.switched was d).time = s.time := by
  unfold State.switched
  split <;> simp

theorem switched_image (s : State) (was : Bool) (d : Nat) : (s.switched was d).image = s.image := by
  unfold State.switched
  split <;> simp

/-- TS follows base d. -/
def State.followed (s : State) (d : Nat) : State :=
  ((s.retime { s.time with following := true, stepping := false }).switched s.tsValid d).setFld F.TIME_STATUS_SOURCE d

theorem tsLock_eq (s : State) (d : Nat) : s.tsLock d =
    if s.inHold ∨ (!s.tsValid ∧ s.time.everValid) then ((s.followed d).setTs tsLocked true).holdEnds tsLocked
    else (s.followed d).setTs tsLocked true := rfl

/-- TS takes a base as its source. -/
theorem tsLock_spec (s : State) {d : Nat} (hd : d < 2) :
    (s.tsLock d).fld F.TIME_STATUS_SOURCE = d ∧ (s.tsLock d).tsState = tsLocked ∧ (s.tsLock d).tsValid = true ∧
    (s.tsLock d).time.tsOff = s.time.tsOff ∧ (s.tsLock d).time.following = true ∧ (s.tsLock d).image = s.image := by
  rw [tsLock_eq]
  generalize hu : (s.followed d).setTs tsLocked true = u
  have hs : u.fld F.TIME_STATUS_SOURCE = d := by
    rw [← hu, setTs_source, State.followed, fld_setFld_same _ _ _ _ _ (by decide) (by decide)]
    exact Nat.mod_eq_of_lt hd
  have hst : u.tsState = tsLocked := hu ▸ setTs_tsState _ _ (by decide)
  have hv : u.tsValid = true := hu ▸ setTs_tsValid _ _ _
  have ht : u.time = { s.time with everValid := true, following := true, stepping := false } := by
    rw [← hu, setTs_time, State.followed, State.setFld_time, switched_time, retime_time, if_pos rfl]
  have hi : u.image = s.image := by rw [← hu, setTs_image, State.followed, State.setFld_image, switched_image, retime_image]
  split
  · refine ⟨(holdEnds_fld _ _ _ (by decide)).trans hs, (holdEnds_fld _ _ _ (by decide)).trans hst, ?_, ?_, ?_,
      (holdEnds_image _ _).trans hi⟩
    · rw [State.tsValid, State.flag, holdEnds_fld _ _ _ (by decide)]
      exact hv
    · rw [holdEnds_time, ht]
    · rw [holdEnds_time, ht]
  · exact ⟨hs, hst, hv, by rw [ht], by rw [ht], hi⟩

/-- In holdover a kept source within 50 ns ends it; otherwise the selection leaves a kept source as it is. -/
theorem tsSelect_kept {s : State} (hf : s.time.following = true) (hv : s.tsValid = true) (hr : s.revertDue = false)
    (hl : s.bLocked (s.fld F.TIME_STATUS_SOURCE) = true) (ho : (s.domOffset (s.fld F.TIME_STATUS_SOURCE)).natAbs ≤ 50) :
    s.tsSelect = if s.tsState = tsHoldover then (s.setTs tsLocked true).holdEnds tsLocked else s := by
  simp [State.tsSelect, hf, hv, hr, hl, ho]

theorem tsSlewing_eq (s : State) : s.tsSlewing = s.setFld F.TIME_STATUS_SLEWING
    (b2n (s.time.following && decide (50 < (s.domOffset (s.fld F.TIME_STATUS_SOURCE)).natAbs))) := rfl

theorem tsSlewing_tsState (s : State) : s.tsSlewing.tsState = s.tsState := by
  simp (disch := decide) only [tsSlewing_eq, State.tsState, fld_setFld_disjoint]

theorem tsSlewing_tsValid (s : State) : s.tsSlewing.tsValid = s.tsValid := by
  simp (disch := decide) only [tsSlewing_eq, State.tsValid, State.flag, fld_setFld_disjoint]

theorem tsSlewing_holdover (s : State) : s.tsSlewing.flag F.TIME_STATUS_HOLDOVER = s.flag F.TIME_STATUS_HOLDOVER := by
  simp (disch := decide) only [tsSlewing_eq, State.flag, fld_setFld_disjoint]

theorem tsSlewing_slewing {s : State} (h : (s.domOffset (s.fld F.TIME_STATUS_SOURCE)).natAbs ≤ 50) :
    s.tsSlewing.flag F.TIME_STATUS_SLEWING = false := by
  simp (disch := decide) only [tsSlewing_eq, State.flag, fld_setFld_same]
  rw [decide_eq_false (by omega), Bool.and_false]
  rfl

theorem onlyWords_setFld (s : State) (f : Fld) (v i j : Nat) : s.OnlyWords [f.reg.addr i j] (s.setFld f v i j) :=
  ⟨rfl, fun _ h => word_setWord_ne _ _ (by simpa using h)⟩

/-! ### TIME_SET -/

theorem heldAt_hold_same (s : State) (n key : Nat) (v : Option W32) : (s.hold n key v).heldAt n key = v := by
  simp [State.hold, State.heldAt]

section
variable {s : State} {n : Nat} {v : W32}

/-- A permitted write of a half of TIME_SET. -/
theorem command_timeSet {h : Nat} (hh : h < 2) (hg : s.granted n (R.TIME_SET.addr 0 h) R.TIME_SET 0 = true) :
    s.command n (R.TIME_SET.addr 0 h) v =
      { (s.halfWrite n R.TIME_SET 0 h (R.TIME_SET.addr 0 h) v).2 with
        mgmt.status := (s.halfWrite n R.TIME_SET 0 h (R.TIME_SET.addr 0 h) v).1, mgmt.data := 0 } := by
  have g := grant_of_granted hg
  have hat : regAt (R.TIME_SET.addr 0 h) = some (R.TIME_SET, 0, h) := regAt_addr (by decide) (by decide) hh
  rw [command_eq g.opened g.alive, writeReg_other hat g (by decide) v (by decide), show winAddrReg R.TIME_SET = none from by decide]
  rfl

/-- The low word of TIME_SET is held for the session. -/
theorem command_timeSet_low (hg : s.granted n (R.TIME_SET.addr 0 0) R.TIME_SET 0 = true)
    (hts : s.tsState = tsUnset ∨ s.tsState = tsExpired) :
    s.command n (R.TIME_SET.addr 0 0) v =
      { s.hold n (R.TIME_SET.addr 0 0) (some v) with mgmt.status := 0, mgmt.data := 0 } := by
  rw [command_timeSet (by decide) hg]
  unfold State.tsState at hts
  simp only [State.halfWrite]
  rw [if_neg (by omega)]
  rfl

/-- The high word of TIME_SET, without and with a low word held. -/
theorem command_timeSet_high (hg : s.granted n (R.TIME_SET.addr 0 1) R.TIME_SET 0 = true)
    (hts : s.tsState = tsUnset ∨ s.tsState = tsExpired) :
    s.command n (R.TIME_SET.addr 0 1) v =
      match s.heldAt n (R.TIME_SET.addr 0 0) with
      | none => { s with mgmt.status := 0x0C, mgmt.data := 0 }
      | some lo =>
        if rangeOk64 R.TIME_SET (joinHalves lo v) then
          { (s.hold n (R.TIME_SET.addr 0 0) none).effect (.pair (R.TIME_SET.addr 0 0) (joinHalves lo v)) with
            mgmt.status := 0, mgmt.data := 0 }
        else { s with mgmt.status := 9, mgmt.data := 0 } := by
  rw [command_timeSet (by decide) hg]
  unfold State.tsState at hts
  simp only [State.halfWrite]
  rw [if_neg (by omega), show R.TIME_SET.addr 0 1 - 4 = R.TIME_SET.addr 0 0 from rfl]
  cases s.heldAt n (R.TIME_SET.addr 0 0) with
  | none => rfl
  | some lo => cases h : rangeOk64 R.TIME_SET (joinHalves lo v) <;> simp [h]

theorem command_timeSet_refused {h : Nat} (hh : h < 2) (hg : s.granted n (R.TIME_SET.addr 0 h) R.TIME_SET 0 = true)
    (h1 : s.tsState ≠ tsUnset) (h2 : s.tsState ≠ tsExpired) :
    s.Answered 8 (s.command n (R.TIME_SET.addr 0 h) v) := by
  rw [command_timeSet hh hg]
  unfold State.tsState at h1 h2
  simp only [State.halfWrite]
  rw [if_pos ⟨trivial, h1, h2⟩]
end

/-- TIME_SET takes effect at the tick (R295). -/
theorem taken_timeSet (s : State) (v : W64) :
    (s.timeSetApply v.toNat).Posted (s.taken (.pair (R.TIME_SET.addr 0 0) v)) := by
  have hat : regAt (R.TIME_SET.addr 0 0) = some (R.TIME_SET, 0, 0) := regAt_addr (by decide) (by decide) (by decide)
  simp only [State.taken, State.applyEffect, State.applyPair, hat, if_true, show moduleLocal R.TIME_SET = false from by decide]
  exact posted_journalReg (posted_journalReg (posted_deliverItem rfl _) _ _ _) _ _ _

/-! ### The end of holdover, and the alarm -/

theorem holdLimit_due {s : State} (h1 : s.tsState = tsHoldover) (h2 : 1000 * s.fld F.TIME_CFG_HOLD_LIMIT_S ≤ s.holdMs) :
    s.holdLimit = ((s.retime { s.time with following := false, stepping := false }).setTs tsExpired false).ev 0x0C07 :=
  if_pos ⟨h1, h2⟩

theorem ev_tsState (s : State) (code : Nat) (items : List Item) : (s.ev code items).tsState = s.tsState :=
  ev_fld _ _ _ (by decide)

theorem ev_flag (s : State) (code : Nat) (items : List Item) {f : Fld} {i j : Nat} (h : f.reg.addr i j ∉ eventWords) :
    (s.ev code items).flag f i j = s.flag f i j := by
  rw [State.flag, ev_fld _ _ _ h, State.flag]

theorem abAlarm_due {s : State} (h : s.abAlarm ≠ s) :
    s.abApart = true ∧ ∃ t0, s.time.abSince = some t0 ∧ t0 + 10000000 ≤ s.tick := by
  unfold State.abAlarm at h
  split at h
  · split at h
    · rename_i t0 h0 hc
      exact ⟨hc.1, t0, h0, hc.2⟩
    · exact absurd rfl h
  · exact absurd rfl h

theorem logged_abAlarm (s : State) : s.Logged s.abAlarm := by
  unfold State.abAlarm
  split
  · split
    · exact logged_ev _ _ _
    · exact .refl s
  · exact .refl s

/-! ### O49 -/

theorem reg_eq_of_word {s t : State} {r : Reg} {i j : Nat} (h : t.word (r.addr i j) = s.word (r.addr i j)) :
    t.reg r i j = s.reg r i j := by
  rw [State.reg, State.reg, h]

theorem fld_eq_of_word {s t : State} {f : Fld} {i j : Nat} (h : t.word (f.reg.addr i j) = s.word (f.reg.addr i j)) :
    t.fld f i j = s.fld f i j := by
  rw [State.fld, State.fld, reg_eq_of_word h]

theorem setTs_word (s : State) (st : Nat) (valid : Bool) {a : Nat} (he : a ∉ eventWords) (h : a ≠ R.TIME_STATUS.base) :
    (s.setTs st valid).word a = s.word a := by
  have hf : (s.tsFields st valid).word a = s.word a :=
    ((word_setWord_ne _ _ h).trans (word_setWord_ne _ _ h)).trans (word_setWord_ne _ _ h)
  rw [setTs_eq]
  split
  · exact (ev_word _ _ _ he).trans hf
  · exact hf

theorem holdEnds_word (s : State) (st : Nat) {a : Nat} (he : a ∉ eventWords) : (s.holdEnds st).word a = s.word a :=
  ev_word _ _ _ he

theorem source_lt (s : State) : s.fld F.TIME_STATUS_SOURCE < 2 := Nat.mod_lt _ (by decide)

/-- The end of holdover of a kept source: TS is in LOCKED, and its difference to the source is what it was. -/
theorem tsSelect_holdEnds (s : State) :
    let t := (s.setTs tsLocked true).holdEnds tsLocked
    t.tsState = tsLocked ∧ t.tsValid = true ∧ t.flag F.TIME_STATUS_HOLDOVER = false ∧
    t.time = { s.time with everValid := true, holdTick := none } ∧ t.image = s.image ∧
    t.domOffset (t.fld F.TIME_STATUS_SOURCE) = s.domOffset (s.fld F.TIME_STATUS_SOURCE) := by
  intro t
  have ht : t.time = { s.time with everValid := true, holdTick := none } := by rw [holdEnds_time, setTs_time, if_pos rfl]
  refine ⟨(holdEnds_fld _ _ _ (by decide)).trans (setTs_tsState _ _ (by decide)), ?_, ?_, ht, ?_, ?_⟩
  · rw [State.tsValid, State.flag, holdEnds_fld _ _ _ (by decide)]
    exact setTs_tsValid _ _ _
  · rw [State.flag, holdEnds_fld _ _ _ (by decide)]
    exact setTs_holdover _ _ _
  · rw [holdEnds_image, setTs_image]
  · have hd : R.DOM_STATUS.addr (s.fld F.TIME_STATUS_SOURCE) 0 ∉ eventWords ∧
        R.DOM_STATUS.addr (s.fld F.TIME_STATUS_SOURCE) 0 ≠ R.TIME_STATUS.base := by
      have := source_lt s
      interval_cases s.fld F.TIME_STATUS_SOURCE <;> decide
    have hb : t.bState (s.fld F.TIME_STATUS_SOURCE) = s.bState (s.fld F.TIME_STATUS_SOURCE) :=
      fld_eq_of_word ((holdEnds_word _ _ hd.1).trans (setTs_word _ _ _ hd.1 hd.2))
    rw [holdEnds_fld _ _ _ (by decide), setTs_source, State.domOffset, State.domOffset, State.base, State.base, ht, hb]

theorem yields_next {c : Instr} {s u t : State} {Q : State → Prop} (h : exec c s = .next u) (e : u = t) (q : Q t) :
    Yields c s Q := ⟨t, e ▸ h, q⟩

/-- Settles O49: each command by its case, TS_REVERT and TS_SLEW_COMPLETE by the state that the selection leaves. -/
theorem tsSelectionAndSetting : Obligations.TsSelectionAndSetting := by
  unfold Obligations.TsSelectionAndSetting
  refine ⟨?revert, ?noRevert, ?slewEnds, ?noSlew, ?slewKeeps, ?limit, ?noLimit, ?alarm, ?low, ?high, ?refused, ?taken⟩
  case revert =>
    intro s h
    refine yields_next rfl (if_pos h) (tsLock_spec s ?_)
    exact Nat.mod_lt _ (by decide)
  case noRevert =>
    intro s h
    exact yields_next rfl (if_neg (by simp [h])) rfl
  case slewEnds =>
    intro s hf hv hst hr hl ho
    refine yields_next rfl (if_pos ⟨hf, ho⟩) ?_
    rw [tsSelect_kept hf hv hr hl ho, if_pos hst]
    obtain ⟨h1, h2, h3, h4, h5, h6⟩ := tsSelect_holdEnds s
    refine ⟨(tsSlewing_tsState _).trans h1, (tsSlewing_tsValid _).trans h2, (tsSlewing_holdover _).trans h3,
      tsSlewing_slewing (h6 ▸ ho), congrArg Time.holdTick h4, ?_, h5⟩
    exact (congrArg Time.tsOff h4 :)
  case noSlew =>
    intro s h
    exact yields_next rfl (if_neg fun ⟨h1, h2⟩ => by
      rcases h with h | h
      · simp [h] at h1
      · omega) rfl
  case slewKeeps =>
    intro s hf hv hst hr hl ho
    refine yields_next rfl (if_pos ⟨hf, ho⟩) ?_
    rw [tsSelect_kept hf hv hr hl ho, if_neg hst]
    exact ⟨tsSlewing_slewing ho, onlyWords_setFld _ _ _ _ _, tsSlewing_tsState s, tsSlewing_tsValid s⟩
  case limit =>
    intro s h1 h2
    refine ⟨_, rfl, ?_⟩
    rw [holdLimit_due h1 h2]
    refine ⟨(ev_tsState _ _ _).trans (setTs_tsState _ _ (by decide)), (ev_flag _ _ _ (by decide)).trans (setTs_tsValid _ _ _),
      (ev_flag _ _ _ (by decide)).trans (setTs_holdover _ _ _), ?_, ?_, ?_⟩
    · rw [State.ev_time, setTs_time]
      rfl
    · rw [State.ev_time, setTs_time]
      rfl
    · rw [State.ev_image, setTs_image, retime_image]
  case noLimit =>
    intro s h
    exact yields_next rfl (if_neg fun ⟨h1, h2⟩ => by
      rcases h with h | h
      · exact h h1
      · omega) rfl
  case alarm =>
    intro s
    refine ⟨_, rfl, logged_abAlarm s, fun h => ?_, fun h => ?_⟩
    · by_contra hne
      obtain ⟨ha, -⟩ := abAlarm_due hne
      rw [State.abApart, h] at ha
      cases ha
    · by_contra hne
      obtain ⟨-, t0, h0, ht⟩ := abAlarm_due hne
      rw [h0, Option.all_some, decide_eq_true_eq] at h
      exact absurd ht (Nat.not_le.2 h)
  case low =>
    intro s n v hg hts
    refine yields_next rfl (command_timeSet_low hg hts) ?_
    exact ⟨heldAt_hold_same _ _ _ _, rfl, rfl, rfl⟩
  case high =>
    intro s n v hg hts
    refine yields_next rfl (command_timeSet_high hg hts) ?_
    constructor
    · intro h0
      simp only [h0]
    · intro lo h0
      simp only [h0]
      split
      · exact ⟨rfl, rfl, rfl, heldAt_hold_same _ _ _ _⟩
      · rfl
  case refused =>
    intro s n h v hg h1 h2
    exact ⟨_, rfl, command_timeSet_refused h.isLt hg h1 h2⟩
  case taken =>
    intro s v
    have hp := taken_timeSet s v
    refine ⟨?_, hp.time⟩
    rw [State.reg64, hp.reg, hp.reg]
    exact reg64_setReg64_same s (by decide) v.isLt

end Sys2Proof.Machine
end

section
/-! PROOF. Data windows and their claims (O22). -/
namespace Sys2Proof.Machine

/-! ### Address registers of windows -/

theorem regAt_window {r : Reg} (hr : r ∈ regsOf (r.base / 2 ^ 24)) (h2 : 0 < r.n2) {i : Nat} (hi : i < r.n1) :
    regAt (r.addr i 0) = some (r, i, 0) := regAt_addr hr hi h2

theorem settable_of_isWinAddr {r : Reg} (h : isWinAddr r = true) : r.settable = true := by
  have hall : ∀ p ∈ winPairs, p.1.settable = true := by decide
  obtain ⟨p, hp, he⟩ := List.any_eq_true.1 h
  exact eq_of_beq he ▸ hall p hp

theorem toNat_eq_ones {v : W32} : v.toNat = 0xFFFFFFFF ↔ v = 0xFFFFFFFF :=
  ⟨fun h => BitVec.eq_of_toNat_eq h, fun h => h ▸ rfl⟩

/-- The claim that a write of v to an address register, or to FORCE_SIGNAL, leaves: v is all ones for a release (R97). -/
def Window.claimedBy (w : Window) (n v : Nat) : Window :=
  ⟨if v = 0xFFFFFFFF then (if w.holder = some n then none else w.holder) else some n, w.owed.filter (· != n)⟩

theorem claimedBy_holder (w : Window) (n : Nat) {v : Nat} (h : v ≠ 0xFFFFFFFF) : (w.claimedBy n v).holder = some n := if_neg h

theorem claimedBy_released (w : Window) (n : Nat) : (w.claimedBy n 0xFFFFFFFF).holder ≠ some n := by
  simp only [Window.claimedBy, if_true]
  split
  · simp
  · assumption

theorem claimedBy_owed (w : Window) (n v : Nat) : n ∉ (w.claimedBy n v).owed := by
  simp [Window.claimedBy]

/-- A write of a window's address register that takes the word: the claim, the offset, and what the register's own window keeps. -/
theorem winAddrWrite_eq (s : State) (n : Nat) {r : Reg} {i v : Nat} (h : r = R.NET_ISSUE_ADDR → v = 0 ∨ v = 0xFFFFFFFF) :
    let u := (s.setWindow (r.addr i 0) ((s.window (r.addr i 0)).claimedBy n v)).setReg r v i
    s.winAddrWrite n r i v =
      if v ≠ 0xFFFFFFFF ∧ r = R.FIRE_LIST_ADDR then
        (0, { u with image.fireCopy := nset [] u.image.fireCopy i (u.fireListOf i) })
      else if v ≠ 0xFFFFFFFF ∧ r = R.NET_ISSUE_ADDR then (0, { u with net.issue := nset [] u.net.issue i [] })
      else (0, u) := by
  intro u
  unfold State.winAddrWrite
  rw [if_neg fun ⟨hr, h1, h2⟩ => (h hr).elim h1 h2]
  by_cases hv : v = 0xFFFFFFFF
  · simp only [hv, ne_eq, not_true_eq_false, false_and, if_false]
    subst hv
    rfl
  · simp only [hv, if_false, ne_eq, not_false_eq_true, true_and]
    have hu : u = (s.setWindow (r.addr i 0) ⟨some n, (s.window (r.addr i 0)).owed.filter (· != n)⟩).setReg r v i := by
      simp only [u, Window.claimedBy, if_neg hv]
    rw [← hu]

theorem word_of_regs {s t : State} (h : t.regs = s.regs) (a : Nat) : t.word a = s.word a := by
  rw [State.word, State.word, h]

theorem keeps_setReg_word (s : State) (r : Reg) (v i j : Nat) : s.Keeps [r.addr i j] (s.setReg r v i j) :=
  fun _ h => word_setWord_ne _ _ (by simpa using h)

/-- A permitted write of a window's address register that takes the word. -/
theorem command_winAddr {s : State} {n addr : Nat} {v : W32} {r : Reg} {i j : Nat} (hat : regAt addr = some (r, i, j))
    (hw : isWinAddr r = true) (hg : s.granted n addr r i = true)
    (h : r = R.NET_ISSUE_ADDR → v.toNat = 0 ∨ v.toNat = 0xFFFFFFFF) :
    let t := s.command n addr v
    t.mgmt.status = 0 ∧ t.regs = (s.setReg r v.toNat i).regs ∧ t.mgmt.effects = s.mgmt.effects ∧
    t.window (r.addr i 0) = (s.window (r.addr i 0)).claimedBy n v.toNat := by
  have g := grant_of_granted hg
  intro t
  have ht : ∃ u, s.writeReg n addr v = (0, u) ∧ u.regs = (s.setReg r v.toNat i).regs ∧
      u.mgmt = (s.setWindow (r.addr i 0) ((s.window (r.addr i 0)).claimedBy n v.toNat)).mgmt := by
    rw [writeReg_winAddr hat g (settable_of_isWinAddr hw) v hw, winAddrWrite_eq s n h]
    split
    · exact ⟨_, rfl, rfl, rfl⟩
    · split <;> exact ⟨_, rfl, rfl, rfl⟩
  obtain ⟨u, hu, hregs, hmgmt⟩ := ht
  have e : t = { u with mgmt.status := 0, mgmt.data := 0 } := command_of_writeReg g.opened g.alive hu
  rw [e]
  refine ⟨rfl, hregs, (congrArg Mgmt.effects hmgmt :), ?_⟩
  have hwin : u.window (r.addr i 0) = (s.window (r.addr i 0)).claimedBy n v.toNat := by
    rw [State.window, hmgmt]
    exact State.setWindow_window_same _ _ _
  exact hwin

/-! ### Data registers of windows -/

section
variable {s : State} {n addr : Nat} {r ar : Reg} {i j : Nat} {v : W32} (hat : regAt addr = some (r, i, j))
  (hg : s.granted n addr r i = true) (hs : r.settable = true) (ha : winAddrReg r = some ar)
include hat hg hs ha

/-- A permitted write of a window's data register within the window. -/
theorem command_winData (hw : isWinAddr r = false) (hf : r ≠ R.FORCE_SIGNAL) {t : State} (h : s.winWrite n r ar i v = (0, t)) :
    s.command n addr v = { t with mgmt.status := 0, mgmt.data := 0 } := by
  have g := grant_of_granted hg
  refine command_of_writeReg g.opened g.alive ?_
  rw [writeReg_other hat g hs v hw, if_neg hf, ha]
  exact h
end

section
variable {s t : State} {n i : Nat} {v : W32}

theorem winWrite_data (hb : s.reg R.DATA_WIN_ADDR i < s.winBytes R.DATA_WIN_DATA i)
    (h : (s.setReg R.DATA_WIN_ADDR (s.reg R.DATA_WIN_ADDR i + 4) i).dataHalf n i (s.reg R.DATA_WIN_ADDR i) v = (0, t)) :
    s.winWrite n R.DATA_WIN_DATA R.DATA_WIN_ADDR i v = (0, t) := by
  unfold State.winWrite
  dsimp only
  rw [if_neg (by omega), if_neg (show R.DATA_WIN_DATA ≠ R.SIG_WIN_DATA from by decide), if_pos rfl, h]
  rfl

theorem winWrite_sig (hb : s.reg R.SIG_WIN_ADDR i < s.winBytes R.SIG_WIN_DATA i)
    (h : (s.setReg R.SIG_WIN_ADDR (s.reg R.SIG_WIN_ADDR i + 4) i).sigHalf n i (s.reg R.SIG_WIN_ADDR i) v = (0, t)) :
    s.winWrite n R.SIG_WIN_DATA R.SIG_WIN_ADDR i v = (0, t) := by
  unfold State.winWrite
  dsimp only
  rw [if_neg (by omega), if_pos rfl, h]
  rfl

theorem winWrite_issue (hb : s.reg R.NET_ISSUE_ADDR i < s.winBytes R.NET_ISSUE_DATA i)
    (h : (s.setReg R.NET_ISSUE_ADDR (s.reg R.NET_ISSUE_ADDR i + 4) i).issueHalf n i (s.reg R.NET_ISSUE_ADDR i) v = (0, t)) :
    s.winWrite n R.NET_ISSUE_DATA R.NET_ISSUE_ADDR i v = (0, t) := by
  unfold State.winWrite
  dsimp only
  rw [if_neg (by omega), if_neg (show R.NET_ISSUE_DATA ≠ R.SIG_WIN_DATA from by decide),
    if_neg (show R.NET_ISSUE_DATA ≠ R.DATA_WIN_DATA from by decide), if_pos rfl, h]
  rfl

theorem dataHalf_low {off : Nat} (h : off / 4 % 2 = 0) :
    s.dataHalf n i off v = (0, s.hold n (winKey R.DATA_WIN_DATA i off) (some v)) := if_pos h

theorem dataHalf_high {off : Nat} {lo : W32} (h : off / 4 % 2 = 1) (hh : s.heldAt n (winKey R.DATA_WIN_DATA i off) = some lo) :
    s.dataHalf n i off v =
      (0, (s.hold n (winKey R.DATA_WIN_DATA i off) none).effect (.dataWord i (off / 8) (joinHalves lo v))) := by
  unfold State.dataHalf
  rw [if_neg (by omega), hh]

/-- The SAFE word of one of the account's own signals (word 3), both halves given. -/
theorem sigHalf_safe {off : Nat} {lo : W32} (h : off / 4 % 2 = 1) (h3 : off / 8 % 8 = 3) (hi : s.sig (off / 64) ≠ .init)
    (ho : (s.sig (off / 64)).owner = i) (hh : s.heldAt n (winKey R.SIG_WIN_DATA i off) = some lo) :
    s.sigHalf n i off v =
      (0, (s.hold n (winKey R.SIG_WIN_DATA i off) none).effect (.sigWord (off / 64) 3 (joinHalves lo v))) := by
  simp [State.sigHalf, h, h3, hi, ho, hh]

theorem issueHalf_low {off : Nat} (h : off / 4 % 2 = 0) :
    s.issueHalf n i off v = (0, s.hold n (winKey R.NET_ISSUE_DATA i off) (some v)) := if_pos h

theorem issueHalf_high {off : Nat} {lo : W32} (h : off / 4 % 2 = 1) (hh : s.heldAt n (winKey R.NET_ISSUE_DATA i off) = some lo) :
    s.issueHalf n i off v =
      let item := nget [] s.net.issue i ++ [joinHalves lo v]
      let u := s.hold n (winKey R.NET_ISSUE_DATA i off) none
      if item.length = 1 + hLength (item.headD 0) then
        (0, State.effect { u.setReg R.NET_ISSUE_ADDR 0 i with net.issue := nset [] u.net.issue i [] } (.issue i item))
      else (0, { u with net.issue := nset [] u.net.issue i item }) := by
  unfold State.issueHalf
  rw [if_neg (by omega), hh]
end

theorem fireListOf_congr {s t : State} (hi : t.image = s.image) (ht : t.tickTime = s.tickTime) (a : Nat) :
    t.fireListOf a = s.fireListOf a := by
  have hins : ∀ f gs, fireInsert t f gs = fireInsert s f gs := by
    intro f gs
    induction gs with
    | nil => rfl
    | cons g gs ih => simp only [fireInsert, ht, ih]
  rw [State.fireListOf, State.fireListOf, fireSort, fireSort, hi, funext fun f => funext fun gs => hins f gs]


theorem forceSignalWrite_eq {s : State} {n i a : Nat} {v : W32} (h : s.rangeOk R.FORCE_SIGNAL i v.toNat = true) :
    s.forceSignalWrite n i a v.toNat =
      (0, (s.setWindow (R.FORCE_SIGNAL.addr i 0) ((s.window (R.FORCE_SIGNAL.addr i 0)).claimedBy n v.toNat)).effect
        (.word (R.FORCE_SIGNAL.addr i 0) v n a)) := by
  simp [State.forceSignalWrite, h, Window.claimedBy]

/-- An item grows by a word. -/
def State.itemPut (s : State) (i : Nat) (item : List W64) : State := { s with net.issue := nset [] s.net.issue i item }

/-- A complete item waits for the tick, and its window starts again. -/
def State.itemDone (s : State) (i : Nat) (item : List W64) : State :=
  ((s.setReg R.NET_ISSUE_ADDR 0 i).itemPut i []).effect (.issue i item)

theorem itemPut_issue (s : State) (i : Nat) (item : List W64) : nget [] (s.itemPut i item).net.issue i = item :=
  nget_nset_same _ _ _ _

theorem itemDone_issue (s : State) (i : Nat) (item : List W64) : nget [] (s.itemDone i item).net.issue i = [] :=
  itemPut_issue (s.setReg R.NET_ISSUE_ADDR 0 i) i []

theorem itemDone_reg (s : State) (i : Nat) (item : List W64) : (s.itemDone i item).reg R.NET_ISSUE_ADDR i = 0 :=
  reg_setReg_same s R.NET_ISSUE_ADDR 0 i 0 (by decide)

/-- A word of an item within its window, its halves given: the item takes it, or is complete. -/
theorem winWrite_issueHigh {s : State} {n i : Nat} {v lo : W32} (hb : s.reg R.NET_ISSUE_ADDR i < s.winBytes R.NET_ISSUE_DATA i)
    (h : s.reg R.NET_ISSUE_ADDR i / 4 % 2 = 1)
    (hh : s.heldAt n (winKey R.NET_ISSUE_DATA i (s.reg R.NET_ISSUE_ADDR i)) = some lo) :
    let item := nget [] s.net.issue i ++ [joinHalves lo v]
    let u := (s.setReg R.NET_ISSUE_ADDR (s.reg R.NET_ISSUE_ADDR i + 4) i).hold n
      (winKey R.NET_ISSUE_DATA i (s.reg R.NET_ISSUE_ADDR i)) none
    s.winWrite n R.NET_ISSUE_DATA R.NET_ISSUE_ADDR i v =
      (0, if item.length = 1 + hLength (item.headD 0) then u.itemDone i item else u.itemPut i item) := by
  intro item u
  have hu : (s.setReg R.NET_ISSUE_ADDR (s.reg R.NET_ISSUE_ADDR i + 4) i).heldAt n
      (winKey R.NET_ISSUE_DATA i (s.reg R.NET_ISSUE_ADDR i)) = some lo := hh
  exact winWrite_issue hb ((issueHalf_high h hu).trans (apply_ite (Prod.mk 0) _ _ _).symm)

/-- A permitted read of the signal window within it. -/
theorem readReg_sigWindow {s : State} {n a : Nat} (ha : a < 8) (hl : s.limited (R.SIG_WIN_DATA.addr a 0) = false)
    (hr : s.mayRead (s.session n).account (R.SIG_WIN_DATA.addr a 0) = true) (hc : s.claimed n R.SIG_WIN_DATA a = false)
    (ho : s.owes n (R.SIG_WIN_ADDR.addr a 0) = false) (hb : s.reg R.SIG_WIN_ADDR a < 64 * 131072)
    (hown : (s.session n).account = 0 ∨ (s.sig (s.reg R.SIG_WIN_ADDR a / 64)).owner = (s.session n).account ∨
      (s.sig (s.reg R.SIG_WIN_ADDR a / 64)).shared = true) :
    s.readReg n (R.SIG_WIN_DATA.addr a 0) =
      (0, s.winWord R.SIG_WIN_DATA a (s.reg R.SIG_WIN_ADDR a), s.setReg R.SIG_WIN_ADDR (s.reg R.SIG_WIN_ADDR a + 4) a) := by
  have hk : dataKey R.SIG_WIN_DATA a = some (R.SIG_WIN_ADDR.addr a 0) := rfl
  have hw : winAddrReg R.SIG_WIN_DATA = some R.SIG_WIN_ADDR := by decide
  have hbytes : s.winBytes R.SIG_WIN_DATA a = 64 * 131072 := rfl
  have hread : s.winRead n (s.session n).account R.SIG_WIN_DATA R.SIG_WIN_ADDR a =
      (0, s.winWord R.SIG_WIN_DATA a (s.reg R.SIG_WIN_ADDR a), s.setReg R.SIG_WIN_ADDR (s.reg R.SIG_WIN_ADDR a + 4) a) := by
    unfold State.winRead
    dsimp only
    rw [hbytes, if_neg (by omega), if_neg (show R.SIG_WIN_DATA ≠ R.VAULT_WIN_DATA from by decide), if_neg ?_, if_neg (by decide)]
    rintro ⟨-, h0, h1, h2⟩
    rcases hown with h | h | h
    · exact h0 h
    · exact h1 h
    · simp [h] at h2
  unfold State.readReg
  rw [regAt_window (by decide) (by decide) ha]
  simp [hl, hr, hc, hk, ho, hw, hread, show R.SIG_WIN_DATA ≠ R.TILL_DATA_LO from by decide,
    show R.SIG_WIN_DATA ≠ R.TILL_DATA_HI from by decide]

theorem addr_sigWindow {a : Nat} (ha : a < 8) : (BitVec.ofNat 32 (R.SIG_WIN_DATA.addr a 0)).toNat = R.SIG_WIN_DATA.addr a 0 := by
  simp only [BitVec.toNat_ofNat, Reg.addr]
  omega

theorem isWinDataAt_sig {a : Nat} (ha : a < 8) : isWinDataAt (BitVec.ofNat 32 (R.SIG_WIN_DATA.addr a 0)).toNat = true := by
  rw [addr_sigWindow ha, isWinDataAt, regAt_window (by decide) (by decide) ha]
  exact (by decide : (winAddrReg R.SIG_WIN_DATA).isSome = true)

theorem inquire_sigWindow {s : State} {n a : Nat} (ho : (s.session n).opened = true) (hal : s.alive = true) (ha : a < 8)
    (hl : s.limited (R.SIG_WIN_DATA.addr a 0) = false)
    (hr : s.mayRead (s.session n).account (R.SIG_WIN_DATA.addr a 0) = true) (hc : s.claimed n R.SIG_WIN_DATA a = false)
    (hd : s.owes n (R.SIG_WIN_ADDR.addr a 0) = false) (hb : s.reg R.SIG_WIN_ADDR a < 64 * 131072)
    (hown : (s.session n).account = 0 ∨ (s.sig (s.reg R.SIG_WIN_ADDR a / 64)).owner = (s.session n).account ∨
      (s.sig (s.reg R.SIG_WIN_ADDR a / 64)).shared = true) :
    s.inquire n (R.SIG_WIN_DATA.addr a 0) =
      { s.setReg R.SIG_WIN_ADDR (s.reg R.SIG_WIN_ADDR a + 4) a with
        mgmt.status := 0, mgmt.data := s.winWord R.SIG_WIN_DATA a (s.reg R.SIG_WIN_ADDR a) } := by
  simp [State.inquire, ho, hal, readReg_sigWindow ha hl hr hc hd hb hown]

/-! ### Offsets -/

theorem winBytes_data (s : State) (i : Nat) : s.winBytes R.DATA_WIN_DATA i ≤ 262144 := by
  have h : s.winBytes R.DATA_WIN_DATA i = 512 * s.fld F.PROG_DATA_DATA_UNITS i := rfl
  have hf : s.fld F.PROG_DATA_DATA_UNITS i < 512 := Nat.mod_lt _ (by decide)
  omega

/-- Registers in which an access has moved the offset of one window on by a word. -/
theorem moved_reg {s t : State} {ar : Reg} {i b : Nat} (ht : t.regs = (s.setReg ar (s.reg ar i + 4) i).regs) (h : s.reg ar i < b)
    (hb : b ≤ 2 ^ 24) : t.reg ar i = s.reg ar i + 4 :=
  (reg_eq_of_word (word_of_regs ht _)).trans (reg_setReg_same _ _ _ _ _ (by omega))

theorem moved_keeps {s t : State} {ar : Reg} {i v : Nat} (ht : t.regs = (s.setReg ar v i).regs) : s.Keeps [ar.addr i 0] t :=
  fun a ha => (word_of_regs ht a).trans (keeps_setReg_word s ar _ i 0 a ha)

/-- The last half of a word of an item to be issued. -/
theorem command_issueHigh {s : State} {n i : Nat} {v lo : W32} (hi : i < 8)
    (hg : s.granted n (R.NET_ISSUE_DATA.addr i 0) R.NET_ISSUE_DATA i = true)
    (hb : s.reg R.NET_ISSUE_ADDR i < s.winBytes R.NET_ISSUE_DATA i) (h : s.reg R.NET_ISSUE_ADDR i / 4 % 2 = 1)
    (hh : s.heldAt n (winKey R.NET_ISSUE_DATA i (s.reg R.NET_ISSUE_ADDR i)) = some lo) :
    let item := nget [] s.net.issue i ++ [joinHalves lo v]
    let t := s.command n (R.NET_ISSUE_DATA.addr i 0) v
    t.mgmt.status = 0 ∧
    (item.length ≠ 1 + hLength (item.headD 0) → t.mgmt.effects = s.mgmt.effects ∧ nget [] t.net.issue i = item) ∧
    (item.length = 1 + hLength (item.headD 0) → t.mgmt.effects = s.mgmt.effects ++ [.issue i item] ∧
      nget [] t.net.issue i = [] ∧ t.reg R.NET_ISSUE_ADDR i = 0) := by
  intro item t
  have ht : t = _ := command_winData (regAt_window (by decide) (by decide) hi) hg (by decide) (ar := R.NET_ISSUE_ADDR) (by decide)
    (by decide) (by decide) (winWrite_issueHigh hb h hh)
  generalize hu : (s.setReg R.NET_ISSUE_ADDR (s.reg R.NET_ISSUE_ADDR i + 4) i).hold n
    (winKey R.NET_ISSUE_DATA i (s.reg R.NET_ISSUE_ADDR i)) none = u at ht
  have he : u.mgmt.effects = s.mgmt.effects := hu ▸ rfl
  rw [ht]
  refine ⟨rfl, fun hl => ?_, fun hl => ?_⟩
  · rw [if_neg hl]
    exact ⟨he, itemPut_issue u i item⟩
  · rw [if_pos hl]
    exact ⟨congrArg (· ++ [Effect.issue i item]) he, itemDone_issue u i item, itemDone_reg u i item⟩

/-- Settles O22: the claims by winAddrWrite_eq, the data registers by command_winData and the half that is written. -/
theorem windowsAndTheirClaims : Obligations.WindowsAndTheirClaims := by
  unfold Obligations.WindowsAndTheirClaims
  refine ⟨?claim, ?timeout, ?dataLow, ?dataHigh, ?dataTaken, ?sig, ?force, ?fire, ?issueLow, ?issueHigh, ?read⟩
  case claim =>
    intro s n a v r i j hat hw haddr hg hv
    have hv' : r = R.NET_ISSUE_ADDR → v.toNat = 0 ∨ v.toNat = 0xFFFFFFFF := fun hr => by
      rcases hv hr with rfl | rfl
      · exact .inl rfl
      · exact .inr rfl
    obtain ⟨hst, hregs, heff, hwin⟩ := command_winAddr hat hw hg hv'
    have hwin' : (s.command n.val (r.addr i 0) v).window (r.addr i 0) = (s.window (r.addr i 0)).claimedBy n.val v.toNat :=
      haddr ▸ hwin
    have hat' : isWinAddrAt a.toNat = true := by simp [isWinAddrAt, hat, hw]
    refine ⟨_, if_pos hat', hst, ?_, ?_, ?_, ?_, ?_, heff⟩
    · rw [reg_eq_of_word (word_of_regs hregs _)]
      exact reg_setReg_same _ _ _ _ _ v.isLt
    · intro h
      rw [haddr, hwin']
      exact claimedBy_holder _ _ fun e => h (toNat_eq_ones.1 e)
    · rw [haddr, hwin']
      exact claimedBy_owed _ _ _
    · intro h
      rw [haddr, hwin', toNat_eq_ones.2 h]
      exact claimedBy_released _ _
    · intro b hb
      exact moved_keeps hregs b (haddr ▸ hb)
  case timeout =>
    intro s a n hc hn
    refine ⟨_, if_pos hc, ?_⟩
    simp only [State.claimTimeout, hn]
    exact ⟨by simp, by simp, rfl⟩
  case dataLow =>
    intro s n k v hg hb hlow
    refine yields_next rfl (command_winData (regAt_window (by decide) (by decide) k.isLt) hg (by decide) (ar := R.DATA_WIN_ADDR)
      (by decide) (by decide) (by decide) (winWrite_data hb (dataHalf_low hlow))) ?_
    exact ⟨rfl, rfl, moved_reg rfl hb (le_trans (winBytes_data s _) (by decide)), heldAt_hold_same _ _ _ _, rfl,
      moved_keeps rfl⟩
  case dataHigh =>
    intro s n k v lo hg hb hhigh hheld
    refine yields_next rfl (command_winData (regAt_window (by decide) (by decide) k.isLt) hg (by decide) (ar := R.DATA_WIN_ADDR)
      (by decide) (by decide) (by decide) (winWrite_data hb (dataHalf_high hhigh hheld))) ?_
    exact ⟨rfl, rfl, moved_reg rfl hb (le_trans (winBytes_data s _) (by decide)), rfl, moved_keeps rfl⟩
  case dataTaken =>
    intro s k w v h
    exact if_pos h
  case sig =>
    intro s n a v lo hg off hb hhigh h3 hi ho hheld
    refine yields_next rfl (command_winData (regAt_window (by decide) (by decide) a.isLt) hg (by decide) (ar := R.SIG_WIN_ADDR)
      (by decide) (by decide) (by decide) (winWrite_sig hb (sigHalf_safe hhigh h3 hi ho hheld))) ?_
    exact ⟨rfl, rfl, rfl, moved_keeps rfl⟩
  case force =>
    intro s n a v hg hr hv
    have g := grant_of_granted hg
    have hw := (writeReg_other (regAt_window (by decide) (by decide) a.isLt) g (by decide) v (by decide)).trans
      ((if_pos rfl).trans (forceSignalWrite_eq hr))
    refine yields_next rfl (command_of_writeReg g.opened g.alive hw) ⟨rfl, ?_, rfl, rfl⟩
    exact (congrArg Window.holder (State.setWindow_window_same _ _ _)).trans
      (claimedBy_holder _ _ fun e => hv (toNat_eq_ones.1 e))
  case fire =>
    intro s n a v hg hv
    have g := grant_of_granted hg
    have hv' : v.toNat ≠ 0xFFFFFFFF := fun e => hv (toNat_eq_ones.1 e)
    have hw := (writeReg_winAddr (regAt_window (by decide) (by decide) a.isLt) g (by decide) v (by decide)).trans
      ((winAddrWrite_eq s n.val fun h => absurd h (by decide)).trans (if_pos ⟨hv', rfl⟩))
    refine yields_next rfl (command_of_writeReg g.opened g.alive hw) ⟨rfl, ?_, ?_, rfl, moved_keeps rfl⟩
    · exact (nget_nset_same _ _ _ _).trans (fireListOf_congr (by rfl) (by rfl) _)
    · exact (reg_eq_of_word (word_of_regs rfl _)).trans (reg_setReg_same s _ _ _ _ v.isLt)
  case issueLow =>
    intro s n a v hg hb hlow
    refine yields_next rfl (command_winData (regAt_window (by decide) (by decide) a.isLt) hg (by decide) (ar := R.NET_ISSUE_ADDR)
      (by decide) (by decide) (by decide) (winWrite_issue hb (issueHalf_low hlow))) ?_
    exact ⟨rfl, heldAt_hold_same _ _ _ _, rfl, moved_keeps rfl⟩
  case issueHigh =>
    intro s n a v lo hg item hb hhigh hheld
    exact yields_next rfl rfl (command_issueHigh a.isLt hg hb hhigh hheld)
  case read =>
    intro s n a ho ha hl hr hc hd hb hown
    refine ⟨_, if_pos (isWinDataAt_sig a.isLt), ?_⟩
    have ht := inquire_sigWindow ho ha a.isLt hl hr hc hd hb hown
    dsimp only
    rw [addr_sigWindow a.isLt, ht]
    exact ⟨rfl, rfl, moved_reg rfl hb (by decide), rfl, moved_keeps rfl⟩

end Sys2Proof.Machine
end

section
/-! SUPPORT. What a waiting write does at the tick that takes it: register words, keys, sessions, restart and accounts. -/
namespace Sys2Proof.Machine

/-! ### The tick takes a word -/

/-- A register word as it enters its register or unit, ahead of delivery and journal. -/
def State.entered (s : State) (r : Reg) (i j : Nat) (v : W32) : State :=
  if r = R.ACCT_KEY then s.keyWrite i j v
  else if r = R.DCH_CNT_CTRL then s.dCount i (bits v.toNat 1 0 == 2)
  else if r = R.DS_CTRL then (if bit v.toNat 0 then s.dsRestore i else s)
  else s.putWord r i j v.toNat

section
variable {s : State} {addr n o : Nat} {v : W32} {r : Reg} {i j : Nat} (hat : regAt addr = some (r, i, j))
include hat

theorem taken_word (hr : r ≠ R.PAIR_CTRL) : s.taken (.word addr v n o) = s.applyWord addr v n := by
  have hp : addr ≠ R.PAIR_CTRL.addr 0 0 := by
    rintro rfl
    rw [regAt_addr (by decide) (by decide) (by decide)] at hat
    exact hr (congrArg Prod.fst (Option.some.inj hat)).symm
  exact if_neg hp

theorem posted_taken (hr : r ∉ [R.SYS_RESTART, R.SESSION_CTRL, R.ACCT_CTRL, R.PAIR_CTRL]) :
    (s.entered r i j v).Posted (s.taken (.word addr v n o)) := by
  simp only [List.mem_cons, List.not_mem_nil, or_false, not_or] at hr
  obtain ⟨h1, h2, h3, h4⟩ := hr
  rw [taken_word hat h4, State.applyWord, hat]
  simp only [if_neg h1, if_neg h2, if_neg h3]
  split
  · exact posted_deliverItem rfl _
  · exact posted_journalReg (posted_deliverItem rfl _) _ _ _
end

theorem masked_lt (s : State) (r : Reg) (i j : Nat) {v : Nat} (hv : v < 2 ^ 32) : s.masked r i j v < 2 ^ 32 := by
  have hand : ∀ {x : Nat} (y : Nat), x < 2 ^ 32 → x &&& y < 2 ^ 32 := fun y h => lt_of_le_of_lt Nat.and_le_left h
  have hnew := Nat.or_lt_two_pow (Nat.or_lt_two_pow (hand (2 ^ 32 - 1 - r.rw - r.w1c) (reg_lt s r i j)) (hand r.rw hv))
    (hand (2 ^ 32 - 1 - v % 2 ^ 32) (hand r.w1c (reg_lt s r i j)))
  unfold State.masked
  extract_lets old new
  split
  · exact Nat.or_lt_two_pow hnew (reg_lt s _ _ _)
  · split
    · exact Nat.or_lt_two_pow hnew (reg_lt s _ _ _)
    · exact hnew

theorem word_setReg_same (s : State) (r : Reg) (v i j : Nat) : (s.setReg r v i j).word (r.addr i j) = BitVec.ofNat 32 v :=
  word_setWord_same _ _ _

/-- The limit of holdover leaves the registers outside TS alone. -/
theorem holdLimit_word (s : State) {a : Nat} (he : a ∉ eventWords) (h : a ≠ R.TIME_STATUS.base) :
    s.holdLimit.word a = s.word a := by
  unfold State.holdLimit
  split
  · exact (ev_word _ _ _ he).trans (setTs_word _ _ _ he h)
  · rfl

/-- A register whose writes act at once on no unit. -/
def Reg.inert (r : Reg) : Bool :=
  !([R.ACCT_KEY, R.DCH_CNT_CTRL, R.DS_CTRL, R.ACH_CFG, R.ACH_RATE, R.HART_CFG, R.HART_Z_BASE, R.DCH_CFG, R.DOM_CFG, R.CAN_CFG,
    R.CAN_NBT, R.CAN_DBT, R.CAN_TDC].contains r)

theorem entered_word {s : State} {r : Reg} {i j : Nat} {v : W32} (hr : r.inert = true) (hi : i < r.n1) (hj : j < r.n2) :
    (s.entered r i j v).word (r.addr i j) = BitVec.ofNat 32 (s.masked r i j v.toNat) := by
  simp only [Reg.inert, Bool.not_eq_true', List.contains_cons, Bool.or_eq_false_iff, beq_eq_false_iff_ne] at hr
  obtain ⟨h1, h2, h3, h4, h5, h6, h7, h8, h9, h10, h11, h12, h13, -⟩ := hr
  have hc : canDeferred r = false := by simp [canDeferred, h10, h11, h12, h13]
  simp only [State.entered, State.putWord, h1, h2, h3, h4, h5, h6, h7, h8, h9, hc, if_false]
  split
  · rename_i ht
    subst ht
    have hi0 : i = 0 := by simpa using hi
    have hj0 : j = 0 := by simpa using hj
    subst hi0 hj0
    exact (holdLimit_word _ (by decide) (by decide)).trans (word_setReg_same _ _ _ _ _)
  · exact word_setReg_same _ _ _ _ _

/-! ### Sessions and restart -/

theorem session_dropSession_same (s : State) (n : Nat) : (s.dropSession n).session n = .init :=
  State.setSession_session_same s n .init

theorem session_dropSession_ne (s : State) {n m : Nat} (h : m ≠ n) : (s.dropSession n).session m = s.session m :=
  State.setSession_session_ne s .init h

theorem session_closeSession_same {s : State} {n : Nat} (why : Nat) (h : (s.session n).opened = true) :
    (s.closeSession n why).session n = .init := by
  rw [State.closeSession, if_pos h]
  exact session_dropSession_same _ _

theorem session_ev (s : State) (code : Nat) (items : List Item) (m : Nat) : (s.ev code items).session m = s.session m := by
  rw [State.session, State.ev_mgmt, State.session]

theorem session_closeSession_ne (s : State) {n m : Nat} (why : Nat) (h : m ≠ n) :
    (s.closeSession n why).session m = s.session m := by
  unfold State.closeSession
  split
  · exact (session_dropSession_ne _ h).trans (session_ev _ _ _ _)
  · rfl

/-- A module stopped for a restart, its drive ended. -/
abbrev State.Restarting (s : State) : Prop := s.phase = .stopped ∧ s.stop = .restart ∧ s.drive = .ended

theorem closed_restarting : Closed State.Restarting where
  word h := h
  till h := h
  upd h := h

theorem restarting_sysRestart {s : State} (h : s.alive = true) : s.sysRestart.Restarting := by
  rw [State.sysRestart, if_pos h]
  refine keeps_closingFlush closed_restarting ?_
  unfold State.halt
  extract_lets u w drive
  refine keeps_restage closed_restarting ⟨rfl, rfl, ?_⟩
  exact ite_self _

/-! ### Account keys -/

theorem keyWrite_last (s : State) (a : Nat) (v : W32) :
    ((s.keyWrite a 7 v).acct a).newKey = [] ∧
    ((s.keyWrite a 7 v).acct a).key = (List.range 8).map fun j =>
      nget ((s.acct a).key.getD j 0) (ninsert (s.acct a).newKey 7 v) j := by
  simp [State.keyWrite]

/-! ### Accounts -/

/-- p reads nothing that ending an account's work changes: no register above chapter 4's, no image, vault or cause of handover. -/
structure OfAccounts {β : Type} (p : State → β) : Prop where
  word : ∀ {s : State} {a : Nat} {v : W32}, 0x5000000 ≤ a → p (s.setWord a v) = p s
  rest : ∀ {s : State} {image vault hoCauses}, p { s with image := image, vault := vault, hoCauses := hoCauses } = p s
  ev : ∀ {s : State} {code : Nat} {items : List Item}, p (s.ev code items) = p s

theorem fold_mem {β α : Type} {p : State → β} {f : State → α → State} {l : List α} (h : ∀ s, ∀ x ∈ l, p (f s x) = p s)
    {s : State} : p (foldState f l s) = p s := by
  unfold foldState
  induction l generalizing s with
  | nil => rfl
  | cons x l ih =>
    exact (ih fun s y hy => h s y (List.mem_cons_of_mem x hy)).trans (h s x List.mem_cons_self)

theorem fold_same {β α : Type} {p : State → β} {f : State → α → State} (h : ∀ s x, p (f s x) = p s) (l : List α)
    (s : State) : p (foldState f l s) = p s := fold_mem fun s x _ => h s x

section
variable {β : Type} {p : State → β} (hp : OfAccounts p)
include hp

theorem OfAccounts.setReg (s : State) {r : Reg} {v i j : Nat} (h : 0x5000000 ≤ r.base) : p (s.setReg r v i j) = p s :=
  hp.word (le_trans h (r.base_le_addr i j))

theorem OfAccounts.image (s : State) (x : Image) : p { s with image := x } = p s := hp.rest

theorem OfAccounts.stopAccount (s : State) (a : Nat) : p (s.stopAccount a) = p s := by
  unfold State.stopAccount
  refine (hp.image _ _).trans (fold_same (fun s k => ?_) _ _)
  refine (hp.setReg _ (by decide)).trans ((hp.image _ _).trans ?_)
  unfold State.abandon
  split
  · exact (hp.setReg _ (by decide)).trans (hp.image s _)
  · rfl

theorem OfAccounts.clearForced (s : State) (g : Nat) : p (s.clearForced g) = p s := by
  unfold State.clearForced
  split
  · exact hp.image s _
  · rfl

theorem OfAccounts.clearForcesOf (s : State) (a reason : Nat) (always : Bool) : p (s.clearForcesOf a reason always) = p s := by
  have hf : p (foldState State.clearForced (s.forcesOf a) s) = p s := fold_same (fun s g => hp.clearForced s g) _ _
  unfold State.clearForcesOf
  extract_lets gs u
  split
  · exact hp.ev.trans hf
  · exact hf

theorem OfAccounts.fireLast (s : State) (f : Fire) (st : Nat) : p (s.fireLast f st) = p s :=
  (hp.setReg _ (by decide)).trans ((hp.setReg _ (by decide)).trans (hp.setReg _ (by decide)))

theorem OfAccounts.fireRemove (s : State) (a cause : Nat) (q : Fire → Bool) : p (s.fireRemove a cause q) = p s := by
  have hd : ∀ (s : State) (f : Fire), p ((s.bump F.FIRE_COUNTS_2_REMOVED f.account).fireLast f 6) = p s := fun s f =>
    (hp.fireLast _ _ _).trans (hp.setReg _ (by decide))
  have h1 : ∀ s : State, p (s.fireDrop q 6) = p s := fun s =>
    (fold_same (fun s f => (hp.image _ _).trans (hd s f)) _ _).trans (hp.image s _)
  have h2 : ∀ s : State, p (s.fireInDrop q 6) = p s := fun s => (fold_same hd _ _).trans (hp.image s _)
  unfold State.fireRemove
  extract_lets n u
  have hu : p u = p s := (h2 _).trans (h1 s)
  split
  · exact hu
  · exact hp.ev.trans hu
end

theorem ofAccounts_accts : OfAccounts State.accts := ⟨fun _ => rfl, rfl, State.ev_accts _ _ _⟩

theorem ofAccounts_word {x : Nat} (h : x < 0x5000000) : OfAccounts fun s => s.word x where
  word ha := word_setWord_ne _ _ (by omega)
  rest := rfl
  ev := ev_word _ _ _ (by simp [eventWords]; omega)

theorem addr_acctStatus_lt {a : Nat} (h : a < 8) : R.ACCT_STATUS.addr a 0 < 0x5000000 := by
  simp only [Reg.addr]
  omega

theorem addr_acctStatus_ne {a b : Nat} (h : b ≠ a) : R.ACCT_STATUS.addr b 0 ≠ R.ACCT_STATUS.addr a 0 := by
  simp only [Reg.addr]
  omega

theorem setAcctState_same (s : State) (a : Nat) {st : Nat} (h : st < 16) : (s.setAcctState a st).acctState a = st := by
  rw [State.acctState, State.setAcctState, fld_setFld_same _ _ _ _ _ (by decide) (by decide)]
  exact Nat.mod_eq_of_lt h

theorem setAcctState_ne (s : State) {a b : Nat} (st : Nat) (h : b ≠ a) : (s.setAcctState a st).acctState b = s.acctState b :=
  fld_setFld_ne _ _ (addr_acctStatus_ne h)

/-- The account is RESETTING, and the event is recorded. -/
def State.resetBegun (s : State) (a n : Nat) : State :=
  ((s.setAcctState a aResetting).setAcct a { s.acct a with bySession := n, pendingFault := 0 }).ev 0x0402 [.b8 a, .b16 n]

theorem acctReset_eq {s : State} {a : Nat} (n : Nat) (h : ¬(s.acctState a ≠ aRunning ∧ s.acctState a ≠ aFault)) :
    s.acctReset a n = if s.acctState a = aFault then s.resetBegun a n
      else
        let u := ((s.resetBegun a n).stopAccount a).fireRemove a 2 (·.account == a)
        { u with image.safeCmds := u.image.safeCmds ++ [SafeCmd.account a] } := if_neg h

/-- A running or faulty account that is reset. -/
theorem acctReset_same {β : Type} {p : State → β} (hp : OfAccounts p) {s : State} {a : Nat} (n : Nat)
    (h : s.acctState a = aRunning ∨ s.acctState a = aFault) :
    p (s.acctReset a n) = p ((s.setAcctState a aResetting).setAcct a { s.acct a with bySession := n, pendingFault := 0 }) := by
  have hne : ¬(s.acctState a ≠ aRunning ∧ s.acctState a ≠ aFault) := by
    rintro ⟨h1, h2⟩
    exact h.elim h1 h2
  have hb : p (s.resetBegun a n) =
      p ((s.setAcctState a aResetting).setAcct a { s.acct a with bySession := n, pendingFault := 0 }) := hp.ev
  rw [acctReset_eq n hne]
  split
  · exact hb
  · exact (hp.image (State.fireRemove _ _ _ _) _).trans ((hp.fireRemove _ _ _ _).trans ((hp.stopAccount _ _).trans hb))

/-- An account that takes a fault. -/
theorem enterFault_same {β : Type} {p : State → β} (hp : OfAccounts p) {s : State} {a : Nat} (cause : Nat)
    (h : s.acctState a ∈ [aRunning, aStarting, aStandby]) :
    p (s.enterFault a cause) = p ((s.setAcctState a aFault).setFld F.ACCT_STATUS_CAUSE cause a) := by
  simp only [List.mem_cons, List.not_mem_nil, or_false] at h
  have hne : s.acctState a ≠ aResetting := by rcases h with h | h | h <;> rw [h] <;> decide
  unfold State.enterFault
  extract_lets st u1 u2 u3 u4 u5
  rw [if_neg hne, if_pos h]
  exact hp.ev.trans (hp.rest.trans ((hp.fireRemove _ _ _ _).trans ((hp.clearForcesOf _ _ _ _).trans (hp.stopAccount _ _))))

theorem acctState_of_word {s t : State} {b : Nat} (h : t.word (R.ACCT_STATUS.addr b 0) = s.word (R.ACCT_STATUS.addr b 0)) :
    t.acctState b = s.acctState b := fld_eq_of_word h

theorem acct_of_accts {s t : State} (h : t.accts = s.accts) (a : Nat) : t.acct a = s.acct a := by
  rw [State.acct, State.acct, h]

theorem acctReset_spec {s : State} {a : Nat} (n : Nat) (h : s.acctState a = aRunning ∨ s.acctState a = aFault) (ha : a < 8) :
    (s.acctReset a n).acctState a = aResetting ∧ ((s.acctReset a n).acct a).bySession = n ∧
    ∀ b : Fin 8, b.val ≠ a → (s.acctReset a n).acctState b.val = s.acctState b.val := by
  have hw : ∀ {b : Nat}, b < 8 →
      (s.acctReset a n).word (R.ACCT_STATUS.addr b 0) = (s.setAcctState a aResetting).word (R.ACCT_STATUS.addr b 0) := fun hb =>
    acctReset_same (ofAccounts_word (addr_acctStatus_lt hb)) n h
  refine ⟨(acctState_of_word (hw ha)).trans (setAcctState_same _ _ (by decide)), ?_, fun b hb =>
    (acctState_of_word (hw b.isLt)).trans (setAcctState_ne s _ hb)⟩
  rw [acct_of_accts (acctReset_same ofAccounts_accts n h), State.setAcct_acct_same]

theorem enterFault_spec {s : State} {a cause : Nat} (h : s.acctState a ∈ [aRunning, aStarting, aStandby]) (ha : a < 8)
    (hc : cause < 256) :
    (s.enterFault a cause).acctState a = aFault ∧ (s.enterFault a cause).fld F.ACCT_STATUS_CAUSE a = cause ∧
    ∀ b : Fin 8, b.val ≠ a → (s.enterFault a cause).acctState b.val = s.acctState b.val := by
  have hw : ∀ {b : Nat}, b < 8 → (s.enterFault a cause).word (R.ACCT_STATUS.addr b 0) =
      ((s.setAcctState a aFault).setFld F.ACCT_STATUS_CAUSE cause a).word (R.ACCT_STATUS.addr b 0) := fun hb =>
    enterFault_same (ofAccounts_word (addr_acctStatus_lt hb)) cause h
  refine ⟨(acctState_of_word (hw ha)).trans ?_, (fld_eq_of_word (hw ha)).trans ?_, fun b hb =>
    (acctState_of_word (hw b.isLt)).trans ((fld_setFld_ne _ _ (addr_acctStatus_ne hb)).trans (setAcctState_ne s _ hb))⟩
  · exact (fld_setFld_disjoint (e := F.ACCT_STATUS_CAUSE) (f := F.ACCT_STATUS_STATE) _ cause rfl (by decide) (by decide)
      (by decide)).trans (setAcctState_same s a (by decide))
  · rw [fld_setFld_same _ _ _ _ _ (by decide) (by decide)]
    exact Nat.mod_eq_of_lt hc

end Sys2Proof.Machine
end

section
/-! SUPPORT. Force commands at the tick (R168 to R170). -/
namespace Sys2Proof.Machine

theorem nget_map_some {V : Type} {m : NMap V} {k : Nat} (h : ∃ x ∈ m, x.1 = k) :
    nget none (m.map fun (k, x) => (k, some x)) k ≠ none := by
  induction m with
  | nil => simp at h
  | cons x m ih =>
    by_cases hx : k = x.1
    · simp [nget, hx]
    · obtain ⟨y, hy, rfl⟩ := h
      have hm : y ∈ m := by
        rcases List.mem_cons.1 hy with rfl | hm
        · exact absurd rfl hx
        · exact hm
      simpa [nget, hx] using ih ⟨y, hm, rfl⟩

section
variable {s : State} {a g : Nat} {v : W64}

theorem force_eq_setForced (s : State) (g a : Nat) (v : W64) : ((s.setForced g a v).force? g).map (·.value) = some v := by
  unfold State.setForced
  extract_lets r unforced u
  have h : ((u.setSig g { r with value := v, quality := qValid ||| qForced, stamp := u.stamp }).journalForce g true v).force? g =
    u.force? g := rfl
  rw [h]
  simp [u]

theorem sig_setForced (s : State) (g a : Nat) (v : W64) : ((s.setForced g a v).sig g).value = v ∧
    ((s.setForced g a v).sig g).quality = qValid ||| qForced ∧ ((s.setForced g a v).sig g).stamp = s.stamp := by
  have h : (s.setForced g a v).sig g = { s.sig g with value := v, quality := qValid ||| qForced, stamp := s.stamp } :=
    nget_nset_same _ _ _ _
  rw [h]
  exact ⟨rfl, rfl, rfl⟩

theorem sig_clearForced {f : Force} (h : s.force? g = some f) : ((s.clearForced g).sig g).value = f.unforced.value ∧
    ((s.clearForced g).sig g).quality = f.unforced.quality ∧ ((s.clearForced g).sig g).stamp = f.unforced.stamp := by
  have hs : (s.clearForced g).sig g =
      { s.sig g with value := f.unforced.value, quality := f.unforced.quality, stamp := f.unforced.stamp } := by
    rw [State.clearForced, h]
    exact nget_nset_same _ _ _ _
  rw [hs]
  exact ⟨rfl, rfl, rfl⟩

/-- The result of a force command: OK, after an event. -/
def State.forceDone (s : State) (code : Nat) (items : List Item) (a : Nat) : State :=
  (s.ev code items).setFld F.FORCE_RESULT_STATUS 0 a

theorem forceDone_status (s : State) (code : Nat) (items : List Item) (a : Nat) :
    (s.forceDone code items a).fld F.FORCE_RESULT_STATUS a = 0 :=
  fld_setFld_same (s.ev code items) F.FORCE_RESULT_STATUS 0 a 0 (by decide) (by decide)

theorem forceDone_image (s : State) (code : Nat) (items : List Item) (a : Nat) : (s.forceDone code items a).image = s.image :=
  (State.setFld_image _ _ _ _ _).trans (State.ev_image _ _ _)

theorem forceCommand_set {n : Nat} (hg : ∃ x ∈ s.image.sigs, x.1 = g) (ho : (s.sig g).owner = a) (hk : (s.sig g).kind ≠ kModule)
    (hw : a = 7 → s.sw12 = true) (hc : (s.force? g).isSome = true ∨ s.forceCount < 1024) :
    s.forceCommand a 1 n g v = (s.setForced g a v).forceDone 0x0603 [.b8 a, .b32 g, .b16 n] a := by
  have h1 : ¬((s.sig g).owner ≠ a ∨ nget none (s.image.sigs.map fun (k, x) => (k, some x)) g = none) := fun h =>
    h.elim (fun h => h ho) (nget_map_some hg)
  have h2 : ¬((s.sig g).kind = kModule ∨ (a = 7 ∧ (!s.sw12) = true)) := by
    rintro (h | ⟨h, h'⟩)
    · exact hk h
    · simp [hw h] at h'
  have h3 : ¬((s.force? g).isNone = true ∧ 1024 ≤ s.forceCount) := by
    rintro ⟨h, h'⟩
    rcases hc with hc | hc
    · simp_all
    · omega
  simp only [State.forceCommand]
  rw [if_neg (by decide), if_neg h1, if_pos trivial, if_neg h2, if_neg h3]
  rfl

theorem forceCommand_clear {n : Nat} {f : Force} (hg : ∃ x ∈ s.image.sigs, x.1 = g) (ho : (s.sig g).owner = a)
    (hw : a = 7 → s.sw12 = true) (hf : s.force? g = some f) :
    s.forceCommand a 2 n g v = (s.clearForced g).forceDone 0x0604 [.b8 a, .b32 g, .b16 n] a := by
  have h1 : ¬((s.sig g).owner ≠ a ∨ nget none (s.image.sigs.map fun (k, x) => (k, some x)) g = none) := fun h =>
    h.elim (fun h => h ho) (nget_map_some hg)
  have h2 : ¬(a = 7 ∧ (!s.sw12) = true) := by
    rintro ⟨h, h'⟩
    simp [hw h] at h'
  simp only [State.forceCommand]
  rw [if_neg (by decide), if_neg h1, if_neg (by decide), if_neg (by simp [hf]), if_neg h2]
  rfl

theorem forceCommand_clearAll {n : Nat} (hw : a = 7 → s.sw12 = true) :
    s.forceCommand a 3 n g v = (s.clearForcesOf a 4 true).setFld F.FORCE_RESULT_STATUS 0 a := by
  have h2 : ¬(a = 7 ∧ (!s.sw12) = true) := by
    rintro ⟨h, h'⟩
    simp [hw h] at h'
  simp only [State.forceCommand]
  rw [if_pos trivial, if_neg h2]

theorem clearForcesOf_image (reason : Nat) (always : Bool) (h : s.forcesOf a = []) :
    (s.clearForcesOf a reason always).image = s.image := by
  simp only [State.clearForcesOf, h]
  split
  · exact State.ev_image _ _ _
  · rfl
end

theorem sig_of_image {s t : State} (h : t.image = s.image) (g : Nat) : t.sig g = s.sig g := by
  rw [State.sig, State.sig, h]

theorem force_of_image {s t : State} (h : t.image = s.image) (g : Nat) : t.force? g = s.force? g := by
  rw [State.force?, State.force?, h]

end Sys2Proof.Machine
end

section
/-! SUPPORT. The configuration of channels at the tick: the conditions, items and stages that follow a write of CH_CFG leave the
register itself, and that the channel is being set, alone (R223, R228, R253, R259, R265). -/
namespace Sys2Proof.Machine

/-! ### Digital channels -/

/-- p reads nothing that a condition, an item or the output stage of a digital channel changes. -/
structure OfDigital {β : Type} (p : State → β) : Prop where
  word : ∀ {s : State} {a : Nat} {v : W32},
    (a % 4096 ≠ 0 ∧ a % 4096 ≠ 4) ∨ a < 0xA016004 ∨ (a % 4096 = 0 ∧ a < 0xA020000) → p (s.setWord a v) = p s
  image : ∀ {s : State} {x : Image}, p { s with image := x } = p s
  ev : ∀ {s : State} {code : Nat} {items : List Item}, p (s.ev code items) = p s
  dch : ∀ {s : State} {n : Nat} {x : DCh}, x.setting = (s.dchan n).setting → x.count = (s.dchan n).count →
    p (s.setDch n x) = p s

section
variable {β : Type} {p : State → β} (hp : OfDigital p)
include hp

/-- CH_STATUS, CH_LATCH and CH_COUNTS stand at their offsets in every channel's block. -/
theorem OfDigital.setReg (s : State) {r : Reg} (v i : Nat) (h1 : r.s1 = 4096) (h2 : r.s2 = 4)
    (h : r.base % 4096 ≠ 0 ∧ r.base % 4096 ≠ 4) : p (s.setReg r v i) = p s := by
  refine hp.word (.inl ?_)
  simp only [Reg.addr, h1, h2]
  omega

theorem OfDigital.setFault (s : State) (v : Nat) {i : Nat} (h : i < 10) : p (s.setReg R.DS_FAULT v i) = p s := by
  refine hp.word (.inr (.inr ?_))
  simp only [Reg.addr]
  omega

theorem OfDigital.setSummary (s : State) (v : Nat) : p (s.setReg R.DS_SUMMARY v) = p s :=
  hp.word (.inr (.inl (by decide)))

theorem OfDigital.dItem (s : State) (n i : Nat) (v stamp : W64) : p (s.dItem n i v stamp) = p s := hp.image

theorem OfDigital.dItemOnce (s : State) (n i : Nat) (v stamp : W64) : p (s.dItemOnce n i v stamp) = p s :=
  (hp.dItem _ _ _ _ _).trans hp.image

theorem OfDigital.setDConds (s : State) {n : Nat} (hn : n < 320) (new : Nat) : p (s.setDConds n new) = p s := by
  unfold State.setDConds
  extract_lets ch old m g was is s1 s2 s3 s4 s5
  have h1 : p s1 = p s := hp.dch rfl rfl
  have h2 : p s2 = p s := (hp.setReg _ _ _ rfl rfl (by decide)).trans ((hp.setReg _ _ _ rfl rfl (by decide)).trans h1)
  have h3 : p s3 = p s := (hp.setFault _ _ (by omega)).trans h2
  have h4 : p s4 = p s := (hp.setSummary _ _).trans h3
  have h5 : p s5 = p s := by
    unfold s5
    split
    · exact hp.ev.trans ((hp.setReg _ _ _ rfl rfl (by decide)).trans h4)
    · split
      · exact hp.ev.trans h4
      · exact h4
  split
  · rfl
  · split
    · exact h5
    · exact (hp.dItem _ _ _ _ _).trans h5

theorem OfDigital.dRequal (s : State) (n : Nat) : p (s.dRequal n) = p s := by
  refine fold_same (fun s i => ?_) _ _
  split
  · rfl
  · exact hp.dItem _ _ _ _ _

theorem OfDigital.dCond (s : State) {n : Nat} (hn : n < 320) (b : Nat) (v : Bool) : p (s.dCond n b v) = p s := by
  unfold State.dCond
  extract_lets old
  split
  · rfl
  · exact (hp.dRequal _ _).trans (hp.setDConds _ hn _)

theorem OfDigital.dFsOne (s : State) {n : Nat} (hn : n < 320) : p (s.dFsOne n) = p s := hp.dCond _ hn _ _

theorem OfDigital.dStage (s : State) {n : Nat} (hn : n < 320) : p (s.dStage n) = p s := by
  unfold State.dStage
  extract_lets u
  have hu : p u = p s := by
    unfold u
    split
    · rfl
    · exact hp.setDConds _ hn _
  split
  · rfl
  · refine (hp.dch ?_ ?_).trans hu <;> rfl

theorem OfDigital.dResume (s : State) {n : Nat} (hn : n < 320) : p (s.dResume n) = p s := by
  unfold State.dResume
  split
  · rfl
  · split
    · refine hp.dch ?_ ?_ <;> rfl
    · exact hp.dStage _ hn

theorem OfDigital.dSettings (s : State) {n : Nat} (hn : n < 320) : p (s.dSettings n) = p s := by
  unfold State.dSettings
  extract_lets u
  have hu : p u = p s := hp.dFsOne _ hn
  split
  · exact (hp.dCond _ hn _ _).trans hu
  · exact hu

end

theorem dchan_ev (s : State) (code : Nat) (items : List Item) (n : Nat) : (s.ev code items).dchan n = s.dchan n := by
  rw [State.dchan, State.ev_dch]
  rfl

theorem ofDigital_setting (n : Nat) : OfDigital fun s => (s.dchan n).setting where
  word _ := rfl
  image := rfl
  ev := congrArg DCh.setting (dchan_ev _ _ _ _)
  dch {s m x} h _ := by
    by_cases e : n = m
    · subst e
      simpa using h
    · rw [State.setDch_dchan_ne _ _ e]

theorem ofDigital_count (n : Nat) : OfDigital fun s => (s.dchan n).count where
  word _ := rfl
  image := rfl
  ev := congrArg DCh.count (dchan_ev _ _ _ _)
  dch {s m x} _ h := by
    by_cases e : n = m
    · subst e
      simpa using h
    · rw [State.setDch_dchan_ne _ _ e]

theorem ofDigital_cfg {n : Nat} (h : n < 320) : OfDigital fun s => s.word (R.DCH_CFG.addr n 0) where
  word ha := word_setWord_ne _ _ (by simp only [Reg.addr]; omega)
  image := rfl
  ev := ev_word _ _ _ (by simp [eventWords, Reg.addr]; omega)
  dch _ _ := rfl

theorem ofDigital_load {i : Nat} (h : i < 10) : OfDigital fun s => s.word (R.DS_LOAD.addr i 0) where
  word ha := word_setWord_ne _ _ (by simp only [Reg.addr]; omega)
  image := rfl
  ev := ev_word _ _ _ (by simp [eventWords, Reg.addr]; omega)
  dch _ _ := rfl

/-! ### CH_CFG of a digital channel -/

theorem foldState_one {α : Type} (f : State → α → State) (x : α) (s : State) : foldState f [x] s = f s x := rfl
theorem foldState_two {α : Type} (f : State → α → State) (x y : α) (s : State) : foldState f [x, y] s = f (f s x) y := rfl


/-- Channel c is set to a new mode or input stage, and no other is. -/
theorem dReconfigure_setting (s : State) {c : Nat} (hc : c < 320) (kept n : Nat) :
    ((s.dReconfigure c kept).dchan n).setting = if n = c then true else (s.dchan n).setting := by
  have hp := ofDigital_setting n
  unfold State.dReconfigure
  extract_lets ch u1 u2 u3
  have h1 : (u1.dchan n).setting = if n = c then true else (s.dchan n).setting := by
    split
    · rename_i e
      subst e
      simp [u1]
    · rename_i e
      rw [State.setDch_dchan_ne _ _ e]
  have h2 : (u2.dchan n).setting = (u1.dchan n).setting := (hp.dRequal _ _).trans (hp.setDConds _ hc _)
  have h3 : (u3.dchan n).setting = (u2.dchan n).setting := by
    unfold u3
    split
    · exact (hp.dItemOnce _ _ _ _ _).trans (hp.dItemOnce _ _ _ _ _)
    · rfl
  exact (hp.dStage _ hc).trans ((hp.dFsOne _ hc).trans (h3.trans (h2.trans h1)))

theorem dReconfigure_cfg (s : State) {c n : Nat} (hc : c < 320) (hn : n < 320) (kept : Nat) :
    (s.dReconfigure c kept).word (R.DCH_CFG.addr n 0) = s.word (R.DCH_CFG.addr n 0) := by
  have hp := ofDigital_cfg hn
  unfold State.dReconfigure
  extract_lets ch u1 u2 u3
  have h2 : u2.word (R.DCH_CFG.addr n 0) = s.word (R.DCH_CFG.addr n 0) := (hp.dRequal _ _).trans (hp.setDConds _ hc _)
  have h3 : u3.word (R.DCH_CFG.addr n 0) = u2.word (R.DCH_CFG.addr n 0) := by
    unfold u3
    split
    · exact (hp.dItemOnce _ _ _ _ _).trans (hp.dItemOnce _ _ _ _ _)
    · rfl
  exact (hp.dStage _ hc).trans ((hp.dFsOne _ hc).trans (h3.trans h2))

/-- The channels that a write of CH_CFG of channel n governs: both of a quadrature pair by its even channel (R244). -/
def State.governed (s : State) (n : Nat) : List Nat := if s.dMode n = dQuad ∧ n % 2 = 0 then [n, n + 1] else [n]

theorem governed_lt {s : State} {n c : Nat} (hn : n < 320) (h : c ∈ s.governed n) : c < 320 := by
  unfold State.governed at h
  split at h <;> simp at h <;> omega

theorem dCfgApply_eq (s : State) (n new : Nat) : s.dCfgApply n new =
    let u := s.setReg R.DCH_CFG new n
    if bits (s.reg R.DCH_CFG n) 31 27 = bits new 31 27 then foldState State.dSettings (u.governed n) u
    else foldState (fun t c => t.dReconfigure c (dKept (bits (s.reg R.DCH_CFG n) 31 28) (bits new 31 28))) (u.governed n) u := rfl

/-- The register keeps what the write gave it. -/
theorem dCfgApply_word (s : State) {n : Nat} (hn : n < 320) (new : Nat) :
    (s.dCfgApply n new).word (R.DCH_CFG.addr n 0) = BitVec.ofNat 32 new := by
  have hu : (s.setReg R.DCH_CFG new n).word (R.DCH_CFG.addr n 0) = BitVec.ofNat 32 new := word_setReg_same _ _ _ _ _
  rw [dCfgApply_eq]
  extract_lets u
  split
  · exact (fold_mem (p := fun t => t.word (R.DCH_CFG.addr n 0)) fun s c hc =>
      (ofDigital_cfg hn).dSettings s (governed_lt hn hc)).trans hu
  · exact (fold_mem (p := fun t => t.word (R.DCH_CFG.addr n 0)) fun s c hc =>
      dReconfigure_cfg s (governed_lt hn hc) hn _).trans hu

/-- A write that changes the mode or the input stage sets the channel anew. -/
theorem dCfgApply_setting (s : State) {n new : Nat} (hn : n < 320) (h : bits (s.reg R.DCH_CFG n) 31 27 ≠ bits new 31 27) :
    ((s.dCfgApply n new).dchan n).setting = true := by
  rw [dCfgApply_eq]
  extract_lets u
  rw [if_neg h]
  unfold State.governed
  split
  · rw [foldState_two, dReconfigure_setting _ (by omega), if_neg (by omega), dReconfigure_setting _ hn, if_pos rfl]
  · rw [foldState_one, dReconfigure_setting _ hn, if_pos rfl]

/-! ### Counts -/

theorem dCount_count (s : State) {n : Nat} (hn : n < 320) (preset : Bool) :
    ((s.dCount n preset).dchan n).count = if preset then BitVec.ofNat 64 (s.reg64 R.DCH_PRESET n) else 0 := by
  have hp := ofDigital_count n
  unfold State.dCount
  extract_lets v ch u
  have hu : (u.dchan n).count = v := by
    refine (hp.dCond _ hn _ _).trans ?_
    rw [State.setDch_dchan_same]
  split
  · exact (hp.dItemOnce _ _ _ _ _).trans hu
  · exact hu

/-! ### A slice restored -/

theorem dsRelease_load (s : State) {i : Nat} (hi : i < 10) :
    (s.dsRelease i).flag F.DS_LOAD_OVL i = false ∧ (s.dsRelease i).flag F.DS_LOAD_OVL_OFF i = false := by
  have hw : (s.dsRelease i).word (R.DS_LOAD.addr i 0) =
      ((s.setFld F.DS_LOAD_OVL 0 i).setFld F.DS_LOAD_OVL_OFF 0 i).word (R.DS_LOAD.addr i 0) := by
    refine fold_mem (p := fun t => t.word (R.DS_LOAD.addr i 0)) fun s n hn => ?_
    have hlt : n < 320 := by
      simp only [State.dsChannels, List.mem_map, List.mem_range] at hn
      obtain ⟨c, hc, rfl⟩ := hn
      omega
    exact ((ofDigital_load hi).dResume _ hlt).trans ((ofDigital_load hi).dCond _ hlt _ _)
  constructor
  · rw [State.flag, fld_eq_of_word (f := F.DS_LOAD_OVL) hw]
    simp (disch := decide) only [fld_setFld_disjoint, fld_setFld_same]
    rfl
  · rw [State.flag, fld_eq_of_word (f := F.DS_LOAD_OVL_OFF) hw]
    simp (disch := decide) only [fld_setFld_same]
    rfl

/-! ### CH_CFG of an analogue channel -/

/-- p reads nothing that a condition, an item or the output stage of an analogue channel changes. -/
structure OfAnalogue {β : Type} (p : State → β) : Prop where
  word : ∀ {s : State} {a : Nat} {v : W32}, a % 4096 ≠ 0 ∨ a < 0x8100000 → p (s.setWord a v) = p s
  image : ∀ {s : State} {x : Image}, p { s with image := x } = p s
  ev : ∀ {s : State} {code : Nat} {items : List Item}, p (s.ev code items) = p s
  ach : ∀ {s : State} {g : Nat} {x : ACh}, x.setting = (s.achan g).setting → p (s.setAch g x) = p s

section
variable {β : Type} {p : State → β} (hp : OfAnalogue p)
include hp

/-- CH_STATUS, CH_LATCH, CH_COUNTS and the slice's fault map stand at offsets other than that of CH_CFG. -/
theorem OfAnalogue.setReg (s : State) {r : Reg} (v i : Nat) (h1 : r.s1 = 4096) (h2 : r.s2 = 4) (h : r.base % 4096 ≠ 0) :
    p (s.setReg r v i) = p s := by
  refine hp.word (.inl ?_)
  simp only [Reg.addr, h1, h2]
  omega

theorem OfAnalogue.setSummary (s : State) (v : Nat) : p (s.setReg R.AS_SUMMARY v) = p s :=
  hp.word (.inr (by decide))

theorem OfAnalogue.aItem (s : State) (g i : Nat) (v stamp : W64) : p (s.aItem g i v stamp) = p s := by
  unfold State.aItem State.aDeliver
  extract_lets link ch u
  refine hp.image.trans ?_
  unfold u
  split
  · refine hp.ach ?_
    rfl
  · rfl

theorem OfAnalogue.setAStatus (s : State) (g new : Nat) : p (s.setAStatus g new) = p s := by
  unfold State.setAStatus
  extract_lets old m sl was is s1 s2 s3 s4
  have h1 : p s1 = p s := (hp.setReg _ _ _ rfl rfl (by decide)).trans (hp.setReg _ _ _ rfl rfl (by decide))
  have h2 : p s2 = p s := (hp.setReg _ _ _ rfl rfl (by decide)).trans h1
  have h3 : p s3 = p s := (hp.setSummary _ _).trans h2
  have h4 : p s4 = p s := by
    unfold s4
    split
    · exact hp.ev.trans ((hp.setReg _ _ _ rfl rfl (by decide)).trans h3)
    · split
      · exact hp.ev.trans h3
      · exact h3
  split
  · rfl
  · exact (hp.aItem _ _ _ _ _).trans h4

theorem OfAnalogue.aRequal (s : State) (g : Nat) : p (s.aRequal g) = p s := by
  refine fold_same (fun s i => ?_) _ _
  split
  · rfl
  · exact hp.image

theorem OfAnalogue.aStage (s : State) (g : Nat) : p (s.aStage g) = p s := by
  unfold State.aStage
  extract_lets st u
  have hu : p u = p s := by
    unfold u
    split
    · exact hp.setAStatus _ _ _
    · exact hp.setAStatus _ _ _
    · rfl
  split
  · rfl
  · refine (hp.ach ?_).trans hu
    rfl
end

theorem ofAnalogue_setting (g : Nat) : OfAnalogue fun s => (s.achan g).setting where
  word _ := rfl
  image := rfl
  ev {s code items} := by
    have h : (s.ev code items).achan g = s.achan g := by
      rw [State.achan, State.ev_ach]
      rfl
    exact congrArg ACh.setting h
  ach {s m x} h := by
    by_cases e : g = m
    · subst e
      simpa using h
    · rw [State.setAch_achan_ne _ _ e]

theorem ofAnalogue_cfg {g : Nat} (h : g < 192) : OfAnalogue fun s => s.word (R.ACH_CFG.addr g 0) where
  word ha := word_setWord_ne _ _ (by simp only [Reg.addr]; omega)
  image := rfl
  ev := ev_word _ _ _ (by simp [eventWords, Reg.addr]; omega)
  ach _ := rfl

theorem aCfgApply_word (s : State) {g : Nat} (hg : g < 192) (new : Nat) :
    (s.aCfgApply g new).word (R.ACH_CFG.addr g 0) = BitVec.ofNat 32 new := by
  have hp := ofAnalogue_cfg hg
  unfold State.aCfgApply
  split
  · exact word_setReg_same _ _ _ _ _
  · exact (hp.aStage _ _).trans ((hp.aRequal _ _).trans (word_setReg_same (s.setAStatus g (s.aReconfStatus g new)) _ _ _ _))

/-- A write that reconfigures the channel sets it anew. -/
theorem aCfgApply_setting {s : State} {g new : Nat} (h : aReconfigures (s.reg R.ACH_CFG g) new = true) :
    ((s.aCfgApply g new).achan g).setting = true := by
  have hp := ofAnalogue_setting g
  unfold State.aCfgApply
  rw [if_neg (by simp [h])]
  refine (hp.aStage _ _).trans ((hp.aRequal _ _).trans ?_)
  exact congrArg ACh.setting (State.setAch_achan_same ((s.setAStatus g (s.aReconfStatus g new)).setReg R.ACH_CFG new g) g _)

end Sys2Proof.Machine
end

section
/-! SUPPORT. HART channels and time bases at the tick (R228, R241, R290). -/
namespace Sys2Proof.Machine

/-! ### HART -/

theorem hNext_regs (s : State) (g : Nat) : (s.hNext g).regs = s.regs := by
  unfold State.hNext
  extract_lets h st own pick
  split
  · rfl
  · cases pick <;> rfl

theorem fold_regs {α : Type} {f : State → α → State} (h : ∀ s x, (f s x).regs = s.regs) (l : List α) (s : State) :
    (foldState f l s).regs = s.regs := fold_same (p := State.regs) h l s

theorem hFlush_regs (s : State) (g st : Nat) : (s.hFlush g st).regs = s.regs := by
  refine fold_regs (fun s r => ?_) _ _
  unfold State.hReply
  split
  · rfl
  · exact fold_regs (f := fun s w => s.tillPut _ _ w) (fun _ _ => rfl) _ _

theorem addr_hartStatus_ne {g a : Nat} (h : a % 4096 = 0 ∧ 0x9100000 ≤ a) : a ≠ R.HART_STATUS.addr g 0 := by
  simp only [Reg.addr]
  omega

theorem addr_commFail_ne {g a : Nat} (hg : g < 192) (h : 0x9100000 ≤ a) : a ≠ R.HART_COMMFAIL.addr (g / 32) 0 := by
  simp only [Reg.addr]
  omega

theorem setHState_word (s : State) {g a : Nat} (hg : g < 192) (st : Nat) (h : a % 4096 = 0 ∧ 0x9100000 ≤ a) :
    (s.setHState g st).word a = s.word a :=
  (word_setWord_ne _ _ (addr_commFail_ne hg h.2)).trans (word_setWord_ne _ _ (addr_hartStatus_ne h))

theorem setHState_state (s : State) {g st : Nat} (hg : g < 192) (h : st < 16) :
    (s.setHState g st).fld F.HART_STATUS_STATE g = st := by
  have hne : R.HART_STATUS.addr g 0 ≠ R.HART_COMMFAIL.addr (g / 32) 0 := addr_commFail_ne hg (by simp only [Reg.addr]; omega)
  refine (fld_setReg_ne (s.setFld F.HART_STATUS_STATE st g) _ hne).trans ?_
  rw [fld_setFld_same _ _ _ _ _ (by decide) (by decide)]
  exact Nat.mod_eq_of_lt h

theorem hCfgApply_word (s : State) {g : Nat} (hg : g < 192) (v : Nat) :
    (s.hCfgApply g v).word (R.HART_CFG.addr g 0) = BitVec.ofNat 32 v := by
  have ha : R.HART_CFG.addr g 0 % 4096 = 0 ∧ 0x9100000 ≤ R.HART_CFG.addr g 0 := by
    simp only [Reg.addr]
    omega
  have hu : (s.setReg R.HART_CFG v g).word (R.HART_CFG.addr g 0) = BitVec.ofNat 32 v := word_setReg_same _ _ _ _ _
  unfold State.hCfgApply
  extract_lets was u now h w z
  split
  · exact (word_of_regs (hNext_regs _ _) _).trans ((setHState_word w hg _ ha).trans hu)
  · split
    · have hz : z.word (R.HART_CFG.addr g 0) = (u.hFlush g 6).word (R.HART_CFG.addr g 0) := setHState_word _ hg _ ha
      exact (word_of_regs (s := z) rfl _).trans (hz.trans ((word_of_regs (hFlush_regs u g 6) _).trans hu))
    · exact hu

/-- A channel that is enabled identifies, or stands by where the module does not control. -/
theorem hCfgApply_state {s : State} {g v : Nat} (hg : g < 192) (h0 : s.flag F.HART_CFG_EN g = false)
    (h1 : (s.hCfgApply g v).flag F.HART_CFG_EN g = true) :
    (s.hCfgApply g v).fld F.HART_STATUS_STATE g = if s.inControl then hsIdent else hsStandby := by
  have hu : (s.setReg R.HART_CFG v g).flag F.HART_CFG_EN g = true := by
    rw [← h1, State.flag, State.flag, fld_eq_of_word (f := F.HART_CFG_EN)
      ((hCfgApply_word s hg v).trans (word_setReg_same s R.HART_CFG v g 0).symm)]
  have hc : (s.setReg R.HART_CFG v g).inControl = s.inControl := by
    rw [State.inControl, State.inControl, State.pairState, State.pairState, fld_setReg_ne]
    simp only [Reg.addr]
    omega
  unfold State.hCfgApply
  extract_lets was u now h w z
  have hw : w.inControl = s.inControl := hc
  rw [if_pos (by simp [now, was, u, h0, hu]), hw]
  refine (fld_eq_of_word (word_of_regs (hNext_regs _ _) _)).trans ?_
  exact setHState_state _ hg (by split <;> decide)

theorem hZBaseApply_word (s : State) (g v : Nat) : (s.hZBaseApply g v).word (R.HART_Z_BASE.addr g 0) = BitVec.ofNat 32 v :=
  word_setReg_same _ _ _ _ _

theorem hZBaseApply_rebase (s : State) (g v : Nat) : ((s.hZBaseApply g v).hartOf g).rebase1200 = (v == 0) :=
  congrArg HartCh.rebase1200 (State.setHart_hartOf_same (s.setReg R.HART_Z_BASE v g) g _)

/-! ### Time bases -/

theorem domCfgApply_word (s : State) (d v : Nat) : (s.domCfgApply d v).word (R.DOM_CFG.addr d 0) = BitVec.ofNat 32 v :=
  word_setReg_same _ _ _ _ _

theorem domCfgApply_foreign (s : State) (d v : Nat) : ((s.domCfgApply d v).base d).foreign = [] := by
  have h : (s.domCfgApply d v).base d = { (s.baseFree d 82).base d with foreign := [] } := nget_nset_same _ _ _ _
  rw [h]

end Sys2Proof.Machine
end

section
/-! PROOF. A permitted write waits for the tick, and what the tick makes of it (O18). -/
namespace Sys2Proof.Machine

/-! ### Entries of registers -/

theorem reg_of_word {s : State} {r : Reg} {i j m : Nat} (h : s.word (r.addr i j) = BitVec.ofNat 32 m) (hm : m < 2 ^ 32) :
    s.reg r i j = m := by
  rw [State.reg, h, BitVec.toNat_ofNat, Nat.mod_eq_of_lt hm]

section
variable {s : State} {n o : Nat} {v : W32} {r : Reg} {i j : Nat} (hr : r ∈ regsOf (r.base / 2 ^ 24))
  (hi : i < r.n1) (hj : j < r.n2)
include hr hi hj

/-- A permitted write of a plain word, at the address of a register's entry. -/
theorem queued_plain (hp : r.plainWord = true) (hg : s.granted n (r.addr i j) r i = true)
    (hc : s.ahead.wordCheck (s.session n).account r i (s.ahead.masked r i j v.toNat) v.toNat = 0) :
    s.Queued (.word (r.addr i j) v n (s.session n).account) (s.command n (r.addr i j) v) :=
  queued_word (regAt_addr hr hi hj) hg hp hc

theorem posted_entry (hne : r ∉ [R.SYS_RESTART, R.SESSION_CTRL, R.ACCT_CTRL, R.PAIR_CTRL]) :
    (s.entered r i j v).Posted (s.taken (.word (r.addr i j) v n o)) := posted_taken (regAt_addr hr hi hj) hne
end

/-! ### What the tick makes of a word, up to its delivery and its journal entry -/

section
variable (s : State) (n o : Nat) (v : W32) {g : Nat}

theorem posted_achCfg (hg : g < 192) :
    (s.aCfgApply g (s.masked R.ACH_CFG g 0 v.toNat)).Posted (s.taken (.word (R.ACH_CFG.addr g 0) v n o)) :=
  posted_entry (r := R.ACH_CFG) (by decide) hg (by decide) (by decide)

theorem posted_hartCfg (hg : g < 192) :
    (s.hCfgApply g (s.masked R.HART_CFG g 0 v.toNat)).Posted (s.taken (.word (R.HART_CFG.addr g 0) v n o)) :=
  posted_entry (r := R.HART_CFG) (by decide) hg (by decide) (by decide)

theorem posted_hartZBase (hg : g < 192) :
    (s.hZBaseApply g (s.masked R.HART_Z_BASE g 0 v.toNat)).Posted (s.taken (.word (R.HART_Z_BASE.addr g 0) v n o)) :=
  posted_entry (r := R.HART_Z_BASE) (by decide) hg (by decide) (by decide)

theorem posted_dchCfg (hg : g < 320) :
    (s.dCfgApply g (s.masked R.DCH_CFG g 0 v.toNat)).Posted (s.taken (.word (R.DCH_CFG.addr g 0) v n o)) :=
  posted_entry (r := R.DCH_CFG) (by decide) hg (by decide) (by decide)

theorem posted_domCfg (hg : g < 2) :
    (s.domCfgApply g (s.masked R.DOM_CFG g 0 v.toNat)).Posted (s.taken (.word (R.DOM_CFG.addr g 0) v n o)) :=
  posted_entry (r := R.DOM_CFG) (by decide) hg (by decide) (by decide)

theorem posted_acctKey (hg : g < 8) :
    (s.keyWrite g 7 v).Posted (s.taken (.word (R.ACCT_KEY.addr g 7) v n o)) :=
  posted_entry (r := R.ACCT_KEY) (by decide) hg (by decide) (by decide)

theorem posted_clear (hg : g < 320) :
    (s.dCount g false).Posted (s.taken (.word (R.DCH_CNT_CTRL.addr g 0) (ctrlWord 0x3C 1) n o)) :=
  posted_entry (v := ctrlWord 0x3C 1) (r := R.DCH_CNT_CTRL) (by decide) hg (by decide) (by decide)

theorem posted_preset (hg : g < 320) :
    (s.dCount g true).Posted (s.taken (.word (R.DCH_CNT_CTRL.addr g 0) (ctrlWord 0x3C 2) n o)) :=
  posted_entry (v := ctrlWord 0x3C 2) (r := R.DCH_CNT_CTRL) (by decide) hg (by decide) (by decide)

theorem posted_restore (hg : g < 10) :
    (s.dsRestore g).Posted (s.taken (.word (R.DS_CTRL.addr g 0) (ctrlWord 0x3C 1) n o)) :=
  posted_entry (v := ctrlWord 0x3C 1) (r := R.DS_CTRL) (by decide) hg (by decide) (by decide)

end

/-! ### Words of registers that act as a whole -/

section
variable (s : State) (n o : Nat)

theorem taken_restart (v : W32) : s.taken (.word (R.SYS_RESTART.addr 0 0) v n o) = s.sysRestart := by
  have hat : regAt (R.SYS_RESTART.addr 0 0) = some (R.SYS_RESTART, 0, 0) := regAt_addr (by decide) (by decide) (by decide)
  rw [taken_word hat (by decide), State.applyWord, hat]
  rfl

theorem taken_close {m : Nat} (hm : m < 8) :
    s.taken (.word (R.SESSION_CTRL.addr m 0) (ctrlWord 0x3C 1) n o) = s.closeSession m 84 := by
  have hat : regAt (R.SESSION_CTRL.addr m 0) = some (R.SESSION_CTRL, m, 0) := regAt_addr (by decide) hm (by decide)
  rw [taken_word hat (by decide), State.applyWord, hat]
  rfl

theorem taken_reset {a : Nat} (ha : a < 8) : s.taken (.word (R.ACCT_CTRL.addr a 0) (ctrlWord 0x3C 1) n o) = s.acctReset a n := by
  have hat : regAt (R.ACCT_CTRL.addr a 0) = some (R.ACCT_CTRL, a, 0) := regAt_addr (by decide) ha (by decide)
  rw [taken_word hat (by decide), State.applyWord, hat]
  rfl

theorem taken_fault {a : Nat} (ha : a < 8) : s.taken (.word (R.ACCT_CTRL.addr a 0) (ctrlWord 0x3C 2) n o) = s.enterFault a 7 := by
  have hat : regAt (R.ACCT_CTRL.addr a 0) = some (R.ACCT_CTRL, a, 0) := regAt_addr (by decide) ha (by decide)
  rw [taken_word hat (by decide), State.applyWord, hat]
  rfl
end

theorem wordCheck_acctKey (s : State) (a i x v : Nat) :
    s.wordCheck a R.ACCT_KEY i x v = if i = 7 ∧ !s.sw12 then 8 else 0 := rfl

theorem takes_of_eq {s t : State} {e : Effect} {Q : State → Prop} (h : s.taken e = t) (q : Q t) : s.Takes e Q := by
  rw [State.Takes, h]
  exact q

/-! ### O18 -/

/-- The statement's two exclusions, as the register's kinds. -/
theorem plainWord_of {r : Reg} {i : Nat} (hw : r.wr ≠ 0) (hm : imageOnly r = false) (h64 : r.w64 = false)
    (hk : claimKey r i = none) (hr : r ∉ [R.TILL_CMD, R.TILL_DATA_LO, R.TILL_DATA_HI, R.CFG_WR_CTRL, R.CFG_WR_DATA, R.PAIR_CTRL]) :
    r.plainWord = true := by
  obtain ⟨ha, hf, hd⟩ := winAddrReg_of_claimKey hk
  simp only [List.mem_cons, List.not_mem_nil, or_false, not_or] at hr
  simp [Reg.plainWord, Reg.settable, hw, hm, h64, ha, hf, hd, hr]

theorem inert_of {r : Reg} (hr : r ∉ [R.SYS_RESTART, R.SESSION_CTRL, R.ACCT_CTRL, R.ACCT_KEY, R.DCH_CNT_CTRL, R.DS_CTRL, R.PAIR_CTRL,
    R.ACH_CFG, R.ACH_RATE, R.HART_CFG, R.HART_Z_BASE, R.DCH_CFG, R.DOM_CFG, R.CAN_CFG, R.CAN_NBT, R.CAN_DBT, R.CAN_TDC]) :
    r.inert = true ∧ r ∉ [R.SYS_RESTART, R.SESSION_CTRL, R.ACCT_CTRL, R.PAIR_CTRL] := by
  simp only [List.mem_cons, List.not_mem_nil, or_false, not_or] at hr
  constructor
  · simp [Reg.inert, hr]
  · simp [hr]

/-- Settles O18: each write by the kind of its register, each effect by the operation of the unit it reaches. -/
theorem writesWaitForTheTick : Obligations.WritesWaitForTheTick := by
  unfold Obligations.WritesWaitForTheTick
  refine ⟨?word, ?wordTaken, ?restart, ?restartTaken, ?reset, ?resetTaken, ?fault, ?faultTaken, ?key, ?keyTaken, ?close, ?closeTaken,
    ?set, ?clear, ?clearAll, ?setTaken, ?clearTaken, ?clearAllTaken, ?ach, ?achTaken, ?hart, ?hartTaken, ?zbase, ?zbaseTaken,
    ?dch, ?dchTaken, ?dom, ?domTaken, ?count, ?countTaken, ?preset, ?presetTaken, ?restore, ?restoreTaken⟩
  case word =>
    intro s n a v r i j hat hw hm h64 hk hr hg hc
    exact ⟨_, rfl, queued_word hat hg (plainWord_of hw hm h64 hk hr) hc⟩
  case wordTaken =>
    intro s n a v r i j o hat hr
    obtain ⟨hinert, hne⟩ := inert_of hr
    obtain ⟨haddr, hi, hj⟩ := addr_of_regAt hat
    have h := (posted_taken (s := s) (n := n) (o := o) (v := v) hat hne).word a.toNat
    rw [← haddr] at h ⊢
    exact h.trans (entered_word hinert hi hj)
  case restart =>
    intro s n v hg hv
    exact ⟨_, rfl, queued_plain (by decide) (by decide) (by decide) (by decide) hg (if_pos hv)⟩
  case restartTaken =>
    intro s n o v h
    exact takes_of_eq (taken_restart s n o v) (restarting_sysRestart h)
  case reset =>
    intro s n a hg hc
    exact ⟨_, rfl, queued_plain (by decide) a.isLt (by decide) (by decide) hg hc⟩
  case resetTaken =>
    intro s n o a h
    obtain ⟨h1, h2, h3⟩ := acctReset_spec n h a.isLt
    exact takes_of_eq (taken_reset s n o a.isLt) ⟨h1, h2, fun b hb => h3 b fun e => hb (Fin.ext e)⟩
  case fault =>
    intro s n a hg hc
    exact ⟨_, rfl, queued_plain (by decide) a.isLt (by decide) (by decide) hg hc⟩
  case faultTaken =>
    intro s n o a h
    obtain ⟨h1, h2, h3⟩ := enterFault_spec h a.isLt (by decide : 7 < 256)
    exact takes_of_eq (taken_fault s n o a.isLt) ⟨h1, h2, fun b hb => h3 b fun e => hb (Fin.ext e)⟩
  case key =>
    intro s n a v hg h7
    exact ⟨_, rfl, queued_plain (by decide) a.isLt (by decide) (by decide) hg
      ((wordCheck_acctKey _ _ _ _ _).trans (if_neg fun ⟨h, h'⟩ => by simp [h7 h] at h'))⟩
  case keyTaken =>
    intro s n o a v
    have hp := posted_acctKey s n o v a.isLt
    obtain ⟨h1, h2⟩ := keyWrite_last s a.val v
    exact ⟨(congrArg Acct.newKey (hp.acct _)).trans h1, (congrArg Acct.key (hp.acct _)).trans h2⟩
  case close =>
    intro s n m hg
    exact ⟨_, rfl, queued_plain (by decide) m.isLt (by decide) (by decide) hg rfl⟩
  case closeTaken =>
    intro s n o m h
    exact takes_of_eq (taken_close s n o m.isLt)
      ⟨session_closeSession_same 84 h, fun k hk => session_closeSession_ne s 84 fun e => hk (Fin.ext e)⟩
  case set =>
    intro s n a hg
    exact ⟨_, rfl, queued_force a.isLt hg (by decide) (by decide)⟩
  case clear =>
    intro s n a hg
    exact ⟨_, rfl, queued_force a.isLt hg (by decide) (by decide)⟩
  case clearAll =>
    intro s n a hg
    exact ⟨_, rfl, queued_force a.isLt hg (by decide) (by decide)⟩
  case setTaken =>
    intro s a n g v hg ho hk hw hc
    refine takes_of_eq (forceCommand_set hg ho hk hw hc) ?_
    obtain ⟨h1, h2, h3⟩ := sig_setForced s g a.val v
    rw [sig_of_image (forceDone_image _ _ _ _), force_of_image (forceDone_image _ _ _ _)]
    exact ⟨h1, h2, h3, force_eq_setForced s g a.val v, forceDone_status _ _ _ _⟩
  case clearTaken =>
    intro s a n g v f hg ho hw hf
    refine takes_of_eq (forceCommand_clear hg ho hw hf) ?_
    obtain ⟨h1, h2, h3⟩ := sig_clearForced hf
    rw [sig_of_image (forceDone_image _ _ _ _)]
    exact ⟨h1, h2, h3, forceDone_status _ _ _ _⟩
  case clearAllTaken =>
    intro s a n g v hw
    refine takes_of_eq (forceCommand_clearAll (n := n) (g := g) (v := v) hw) ⟨fun h => ?_, ?_⟩
    · exact (State.setFld_image _ _ _ _ _).trans (clearForcesOf_image 4 true h)
    · exact fld_setFld_same _ F.FORCE_RESULT_STATUS 0 _ 0 (by decide) (by decide)
  case ach =>
    intro s n g v hg hc
    exact ⟨_, rfl, queued_plain (by decide) g.isLt (by decide) (by decide) hg hc⟩
  case achTaken =>
    intro s n o g v
    have hp := posted_achCfg s n o v g.isLt
    refine ⟨?_, fun h => (congrArg ACh.setting (hp.achan g.val)).trans (aCfgApply_setting h)⟩
    exact (hp.reg _ _ _).trans (reg_of_word (aCfgApply_word s g.isLt _) (masked_lt _ _ _ _ v.isLt))
  case hart =>
    intro s n g v hg hc
    exact ⟨_, rfl, queued_plain (by decide) g.isLt (by decide) (by decide) hg hc⟩
  case hartTaken =>
    intro s n o g v
    have hp := posted_hartCfg s n o v g.isLt
    refine ⟨?_, fun h0 h1 => (hp.fld _ _ _).trans (hCfgApply_state g.isLt h0 ((hp.flag _ _ _).symm.trans h1))⟩
    exact (hp.reg _ _ _).trans (reg_of_word (hCfgApply_word s g.isLt _) (masked_lt _ _ _ _ v.isLt))
  case zbase =>
    intro s n g v hg hc
    exact ⟨_, rfl, queued_plain (by decide) g.isLt (by decide) (by decide) hg hc⟩
  case zbaseTaken =>
    intro s n o g v
    have hp := posted_hartZBase s n o v g.isLt
    refine ⟨?_, (congrArg HartCh.rebase1200 (hp.hartOf g.val)).trans (hZBaseApply_rebase _ _ _)⟩
    exact (hp.reg _ _ _).trans (reg_of_word (hZBaseApply_word s _ _) (masked_lt _ _ _ _ v.isLt))
  case dch =>
    intro s n g v hg hc
    exact ⟨_, rfl, queued_plain (by decide) g.isLt (by decide) (by decide) hg hc⟩
  case dchTaken =>
    intro s n o g v
    have hp := posted_dchCfg s n o v g.isLt
    refine ⟨?_, fun h => (congrArg DCh.setting (hp.dchan g.val)).trans (dCfgApply_setting s g.isLt h)⟩
    exact (hp.reg _ _ _).trans (reg_of_word (dCfgApply_word s g.isLt _) (masked_lt _ _ _ _ v.isLt))
  case dom =>
    intro s n g v hg hc
    exact ⟨_, rfl, queued_plain (by decide) g.isLt (by decide) (by decide) hg hc⟩
  case domTaken =>
    intro s n o g v
    have hp := posted_domCfg s n o v g.isLt
    refine ⟨?_, (congrArg Base.foreign (hp.base g.val)).trans (domCfgApply_foreign _ _ _)⟩
    exact (hp.reg _ _ _).trans (reg_of_word (domCfgApply_word s _ _) (masked_lt _ _ _ _ v.isLt))
  case count =>
    intro s n ch hg hc
    exact ⟨_, rfl, queued_plain (by decide) ch.isLt (by decide) (by decide) hg hc⟩
  case countTaken =>
    intro s n o ch
    have hp := posted_clear s n o ch.isLt
    exact (congrArg DCh.count (hp.dchan ch.val)).trans (dCount_count s ch.isLt false)
  case preset =>
    intro s n ch hg hc
    exact ⟨_, rfl, queued_plain (by decide) ch.isLt (by decide) (by decide) hg hc⟩
  case presetTaken =>
    intro s n o ch
    have hp := posted_preset s n o ch.isLt
    exact (congrArg DCh.count (hp.dchan ch.val)).trans (dCount_count s ch.isLt true)
  case restore =>
    intro s n sl hg
    exact ⟨_, rfl, queued_plain (by decide) sl.isLt (by decide) (by decide) hg rfl⟩
  case restoreTaken =>
    intro s n o sl h
    have hp := posted_restore s n o sl.isLt
    rw [State.dsRestore, if_pos h] at hp
    obtain ⟨h1, h2⟩ := dsRelease_load s sl.isLt
    exact ⟨(hp.flag _ _ _).trans h1, (hp.flag _ _ _).trans h2⟩

end Sys2Proof.Machine
end

section
/-! PROOF. What can change the life of the module (O8). -/
namespace Sys2Proof.Machine

/-- s and t agree in the module's phase, the cause of its stop and its drive. -/
def State.SameLife (s t : State) : Prop := t.phase = s.phase ∧ t.stop = s.stop ∧ t.drive = s.drive

/-- Every update but those that ClosedLife names keeps the life of the module. -/
theorem closed_sameLife (s : State) : Closed s.SameLife := ⟨id, id, id⟩

/-- Settles O8: a command outside changesLife is made of the updates of Closed (exec_answers). -/
theorem lifeFrame : Obligations.LifeFrame := by
  intro c s t hc ht
  have h := exec_answers (closed_sameLife s) (i := c) (s := s) (fun hl => Bool.noConfusion (hc.symm.trans hl)) ⟨rfl, rfl, rfl⟩
  rw [ht] at h
  exact h.of_next

end Sys2Proof.Machine
end

section
/-! SUPPORT. Ending the module's drive and its slices' links leaves what the base plate and the domains show: no operation of
accounts, channels, links or the pair writes a register of the first three chapters. -/
namespace Sys2Proof.Machine

/-- p reads nothing that accounts, channels, links and the pair change: no register above chapter 3's, and none of their own
state. -/
structure OfPlate {β : Type} (p : State → β) : Prop where
  word : ∀ {s : State} {a : Nat} {v : W32}, 0x4000000 ≤ a → p (s.setWord a v) = p s
  rest : ∀ {s : State} {vault tills tillMem image hoCauses ach hart dch links pair can safety},
    p { s with vault := vault, tills := tills, tillMem := tillMem, image := image, hoCauses := hoCauses, ach := ach,
               hart := hart, dch := dch, links := links, pair := pair, can := can, safety := safety } = p s
  ev : ∀ {s : State} {code : Nat} {items : List Item}, p (s.ev code items) = p s

theorem ofPlate_word {x : Nat} (h : x < 0x4000000) : OfPlate fun s => s.word x where
  word ha := word_setWord_ne _ _ (by omega)
  rest := rfl
  ev := ev_word _ _ _ (by simp [eventWords]; omega)

theorem ofPlate_plate : OfPlate State.plate := ⟨fun _ => rfl, rfl, State.ev_plate _ _ _⟩
theorem ofPlate_phase : OfPlate State.phase := ⟨fun _ => rfl, rfl, State.ev_phase _ _ _⟩
theorem ofPlate_stop : OfPlate State.stop := ⟨fun _ => rfl, rfl, State.ev_stop _ _ _⟩
theorem ofPlate_drive : OfPlate State.drive := ⟨fun _ => rfl, rfl, State.ev_drive _ _ _⟩

section
variable {β : Type} {p : State → β} (hp : OfPlate p)
include hp

theorem OfPlate.ofAccounts : OfAccounts p := ⟨fun h => hp.word (le_trans (by decide) h), hp.rest, hp.ev⟩

theorem OfPlate.setReg (s : State) {r : Reg} (v i j : Nat) (h : 0x4000000 ≤ r.base) : p (s.setReg r v i j) = p s :=
  hp.word (le_trans h (r.base_le_addr i j))

theorem OfPlate.setReg64 (s : State) {r : Reg} (v i : Nat) (h : 0x4000000 ≤ r.base) : p (s.setReg64 r v i) = p s :=
  (hp.setReg _ _ _ _ h).trans (hp.setReg s _ _ _ h)

theorem OfPlate.setFld (s : State) {f : Fld} (v i j : Nat) (h : 0x4000000 ≤ f.reg.base) : p (s.setFld f v i j) = p s :=
  hp.setReg s _ _ _ h

theorem OfPlate.closingFlush (s : State) (cause : Nat) : p (s.closingFlush cause) = p s := by
  unfold State.closingFlush
  split
  · rfl
  · exact (hp.setFld _ _ _ _ (by decide)).trans hp.rest

/-! ### Analogue channels -/

theorem OfPlate.aItem (s : State) (g i : Nat) (v stamp : W64) : p (s.aItem g i v stamp) = p s := by
  unfold State.aItem State.aDeliver
  extract_lets link ch u
  refine hp.rest.trans ?_
  unfold u
  split
  · exact hp.rest
  · rfl

theorem OfPlate.setAStatus (s : State) (g new : Nat) : p (s.setAStatus g new) = p s := by
  unfold State.setAStatus
  extract_lets old m sl was is s1 s2 s3 s4
  have h1 : p s1 = p s := (hp.setReg _ _ _ _ (by decide)).trans (hp.setReg _ _ _ _ (by decide))
  have h3 : p s3 = p s := (hp.setReg _ _ _ _ (by decide)).trans ((hp.setReg _ _ _ _ (by decide)).trans h1)
  have h4 : p s4 = p s := by
    unfold s4
    split
    · exact hp.ev.trans ((hp.setFld _ _ _ _ (by decide)).trans h3)
    · split
      · exact hp.ev.trans h3
      · exact h3
  split
  · rfl
  · exact (hp.aItem _ _ _ _ _).trans h4

theorem OfPlate.aCond (s : State) (g n : Nat) (b : Bool) : p (s.aCond g n b) = p s := by
  unfold State.aCond
  split
  · rfl
  · refine (fold_same (fun s i => ?_) _ _).trans (hp.setAStatus s g _)
    split
    · rfl
    · exact hp.rest

theorem OfPlate.aStage (s : State) (g : Nat) : p (s.aStage g) = p s := by
  unfold State.aStage
  extract_lets st u
  have hu : p u = p s := by
    unfold u
    split
    · exact hp.setAStatus _ _ _
    · exact hp.setAStatus _ _ _
    · rfl
  split
  · rfl
  · exact hp.rest.trans hu

/-! ### Digital channels -/

theorem OfPlate.setDConds (s : State) (n new : Nat) : p (s.setDConds n new) = p s := by
  unfold State.setDConds
  extract_lets ch old m g was is s1 s2 s3 s4 s5
  have h2 : p s2 = p s := (hp.setReg _ _ _ _ (by decide)).trans ((hp.setReg _ _ _ _ (by decide)).trans hp.rest)
  have h4 : p s4 = p s := (hp.setReg _ _ _ _ (by decide)).trans ((hp.setReg _ _ _ _ (by decide)).trans h2)
  have h5 : p s5 = p s := by
    unfold s5
    split
    · exact hp.ev.trans ((hp.setFld _ _ _ _ (by decide)).trans h4)
    · split
      · exact hp.ev.trans h4
      · exact h4
  split
  · rfl
  · split
    · exact h5
    · exact hp.rest.trans h5

theorem OfPlate.dCond (s : State) (n b : Nat) (v : Bool) : p (s.dCond n b v) = p s := by
  unfold State.dCond
  extract_lets old
  split
  · rfl
  · refine (fold_same (fun s i => ?_) _ _).trans (hp.setDConds s n _)
    split
    · rfl
    · exact hp.rest

theorem OfPlate.dStage (s : State) (n : Nat) : p (s.dStage n) = p s := by
  unfold State.dStage
  extract_lets u
  have hu : p u = p s := by
    unfold u
    split
    · rfl
    · exact hp.setDConds _ _ _
  split
  · rfl
  · exact hp.rest.trans hu

theorem OfPlate.restage (s : State) : p s.restage = p s :=
  (fold_same hp.dStage _ _).trans (fold_same hp.aStage _ _)

/-! ### Links of slices -/

theorem OfPlate.slLost (s : State) (sl : Nat) : p (s.slLost sl) = p s := by
  unfold State.slLost
  split
  · refine fold_same (fun s c => ?_) _ _
    extract_lets g u
    split
    · rfl
    · exact (hp.aStage _ _).trans ((hp.aCond _ _ _ _).trans hp.rest)
  · exact fold_same (fun s n => (hp.dStage _ _).trans (hp.dCond _ _ _ _)) _ _

theorem OfPlate.slPowerOff (s : State) (sl : Nat) : p (s.slPowerOff sl) = p s := by
  unfold State.slPowerOff
  extract_lets u w
  have hu : p u = p s :=
    hp.rest.trans ((hp.setReg (s.setFld F.SL_STATUS_STATE slOff sl) _ _ _ (by decide)).trans (hp.setFld _ _ _ _ (by decide)))
  have hw : p w = p u :=
    (hp.setFld _ _ _ _ (by decide)).trans ((hp.setFld _ _ _ _ (by decide)).trans (hp.setFld _ _ _ _ (by decide)))
  exact (hp.slLost _ _).trans ((hp.setFld _ _ _ _ (by decide)).trans (hw.trans hu))

/-! ### The end of control: HART, CAN and accounts -/

theorem OfPlate.hCease (s : State) : p s.hCease = p s := by
  have hr : ∀ (s : State) (a sl id cmd ch st : Nat) (data : List Byte), p (s.hReply a sl id cmd ch st data) = p s := by
    intro s a sl id cmd ch st data
    unfold State.hReply
    split
    · rfl
    · exact hp.rest.trans (fold_same (fun s w => hp.rest) _ _)
  refine fold_same (fun s g => ?_) _ _
  split
  · rfl
  · extract_lets u
    have hu : p u = p s := (fold_same (fun s r => hr s _ _ _ _ _ _ _) _ _).trans hp.rest
    exact (hp.setReg _ _ _ _ (by decide)).trans ((hp.setFld _ _ _ _ (by decide)).trans (hp.rest.trans hu))

theorem OfPlate.canCease (s : State) : p s.canCease = p s := by
  refine fold_same (fun s n => ?_) _ _
  extract_lets ch owed u kept w
  have hu : p u = p s := by
    unfold u
    split
    · exact hp.rest
    · rfl
  have hw : p w = p s := hp.rest.trans hu
  split
  · exact (hp.setFld _ _ _ _ (by decide)).trans (hp.rest.trans hw)
  · exact hw

theorem OfPlate.setPair (s : State) (st : Nat) : p (s.setPair st) = p s := by
  unfold State.setPair
  extract_lets was now u w
  have hu : p u = p s := hp.setFld _ _ _ _ (by decide)
  have hw : p w = p s := by
    unfold w
    split
    · exact (hp.setReg64 _ _ _ (by decide)).trans hu
    · exact hu
  split
  · exact hp.rest.trans hw
  · exact hw

theorem OfPlate.standAccounts (s : State) : p s.standAccounts = p s := by
  refine fold_same (fun s a => ?_) _ _
  extract_lets st u
  split
  · exact hp.rest.trans ((hp.setFld _ _ _ _ (by decide)).trans (hp.ofAccounts.stopAccount s a))
  · rfl

theorem OfPlate.relinquish (s : State) (cause : Nat) : p (s.relinquish cause) = p s := by
  unfold State.relinquish
  extract_lets u
  have hu : p u = p s := hp.rest
  split
  · refine hp.rest.trans ((hp.canCease _).trans ((hp.hCease _).trans ((hp.standAccounts _).trans ((hp.setPair _ _).trans ?_))))
    exact hp.ev.trans hu
  · rfl

/-! ### Maintenance -/

theorem OfPlate.maintUpdate (s : State) : p s.maintUpdate = p s := by
  have he : p s.maintEnter = p s :=
    hp.ev.trans ((hp.setFld _ _ _ _ (by decide)).trans ((hp.setReg64 _ _ _ (by decide)).trans
      ((hp.setFld _ _ _ _ (by decide)).trans (hp.setFld _ _ _ _ (by decide)))))
  have hl : p s.maintLeave = p s :=
    hp.ev.trans (hp.rest.trans ((fold_same hp.ofAccounts.clearForced _ _).trans (hp.setFld _ _ _ _ (by decide))))
  unfold State.maintUpdate
  extract_lets on_ was
  split
  · exact he
  · split
    · exact hl
    · rfl

theorem OfPlate.pendingUpdate (s : State) : p s.pendingUpdate = p s := by
  have hu := hp.setFld s (f := F.SAFE_STATUS_PENDING) (b2n s.sealPending) 0 0 (by decide)
  unfold State.pendingUpdate
  extract_lets now was u
  split
  · exact hp.ev.trans hu
  · exact hu
end

end Sys2Proof.Machine
end

section
/-! SUPPORT. Single bits of registers: a flag, and a domain, read what was written to them, and the others are left alone. -/
namespace Sys2Proof.Machine

theorem bit_eq_testBit (v n : Nat) : bit v n = v.testBit n := by
  rw [bit, Nat.testBit_eq_decide_div_mod_eq]
  exact Bool.beq_eq_decide_eq _ _

theorem bit_bits {hi lo n : Nat} (v : Nat) (h : lo + n ≤ hi) : bit (bits v hi lo) n = bit v (lo + n) := by
  have hn : n < hi + 1 - lo := by omega
  rw [bit_eq_testBit, bit_eq_testBit, testBit_bits, decide_eq_true hn, Bool.true_and]

/-- A bit of a register after a write of one bit. -/
theorem bit_setBit (s : State) {r : Reg} {n i j : Nat} (b : Bool) (h : n < 32) (m : Nat) :
    bit ((s.setBit r n b i j).reg r i j) m = if m = n then b else bit (s.reg r i j) m := by
  rw [State.setBit, reg_setReg_same _ _ _ _ _ (putBits_lt (le_refl n) h (reg_lt s r i j)), bit_eq_testBit, bit_eq_testBit,
    testBit_putBits (le_refl n)]
  by_cases hm : m = n
  · subst hm
    cases b <;> simp [b2n]
  · have : ¬(n ≤ m ∧ m ≤ n) := by omega
    rw [if_neg this, if_neg hm]

theorem flag_setFld_same (s : State) {f : Fld} (b : Bool) (i j : Nat) (h : f.lo = f.hi) (h32 : f.hi < 32) :
    (s.setFld f (b2n b) i j).flag f i j = b := by
  rw [State.flag, fld_setFld_same _ _ _ _ _ h.le h32, h, Nat.add_sub_cancel_left]
  cases b <;> rfl

theorem flag_setFld_disjoint (s : State) {e f : Fld} (v : Nat) {i j : Nat} (hr : f.reg = e.reg) (h : e.lo ≤ e.hi)
    (h32 : e.hi < 32) (d : f.hi < e.lo ∨ e.hi < f.lo) : (s.setFld e v i j).flag f i j = s.flag f i j := by
  rw [State.flag, State.flag, fld_setFld_disjoint s v hr h h32 d]

theorem flag_eq_of_word {s t : State} {f : Fld} {i j : Nat} (h : t.word (f.reg.addr i j) = s.word (f.reg.addr i j)) :
    t.flag f i j = s.flag f i j := by rw [State.flag, State.flag, fld_eq_of_word h]

/-! ### Domains -/

theorem domOn_setDom (s : State) (d : Nat) (on : Bool) (e : Nat) :
    (s.setDom d on).domOn e = if e = d then on else s.domOn e := by
  by_cases hj : e / 32 = d / 32
  · rw [State.domOn, State.domOn, hj, State.setDom, bit_setBit _ _ (Nat.mod_lt _ (by decide))]
    have : e % 32 = d % 32 ↔ e = d := by omega
    simp only [this]
  · have hne : R.DOMAIN_ON.addr 0 (e / 32) ≠ R.DOMAIN_ON.addr 0 (d / 32) := by
      simp only [Reg.addr]
      omega
    rw [if_neg fun h => hj (congrArg (· / 32) h)]
    exact congrArg (bit · (e % 32)) (reg_setReg_ne s _ hne)

theorem domOn_setDoms (ds : List Nat) (on : Bool) (e : Nat) :
    ∀ s : State, (s.setDoms ds on).domOn e = if e ∈ ds then on else s.domOn e := by
  induction ds with
  | nil => exact fun s => rfl
  | cons d ds ih =>
    intro s
    refine (ih (s.setDom d on)).trans ?_
    rw [domOn_setDom]
    by_cases he : e ∈ ds <;> simp [he]

/-- Domains switched on or off change the words of DOMAIN_ON only. -/
theorem setDoms_eq (s : State) (ds : List Nat) (on : Bool) : s.setDoms ds on = { s with regs := (s.setDoms ds on).regs } := by
  induction ds generalizing s with
  | nil => rfl
  | cons d ds ih => exact ih (s.setDom d on)

theorem setDoms_word (s : State) (ds : List Nat) (on : Bool) {a : Nat} (h : ∀ j, a ≠ R.DOMAIN_ON.addr 0 j) :
    (s.setDoms ds on).word a = s.word a :=
  fold_same (p := (·.word a)) (f := fun s d => s.setDom d on) (fun s d => word_setWord_ne s _ (h (d / 32))) ds s

theorem domOn_of_word {s t : State} {d : Nat} (h : t.word (R.DOMAIN_ON.addr 0 (d / 32)) = s.word (R.DOMAIN_ON.addr 0 (d / 32))) :
    t.domOn d = s.domOn d := congrArg (bit · (d % 32)) (reg_eq_of_word h)

end Sys2Proof.Machine
end

section
/-! PROOF. Mate contacts, sampled straps and unmating (O9). -/
namespace Sys2Proof.Machine

/-! ### The mate contacts -/

/-- The field that shows mate contact n. -/
def mateFld (n : Nat) : Fld := if n = 0 then F.BASEPLATE_STATUS_MATE1 else F.BASEPLATE_STATUS_MATE2

theorem mateClosed_eq (s : State) (n : Nat) : s.mateClosed n = s.flag (mateFld n) := by
  unfold State.mateClosed mateFld
  split <;> rfl

theorem mateFld_reg (n : Nat) : (mateFld n).reg = R.BASEPLATE_STATUS := by
  unfold mateFld
  split <;> rfl

theorem mateClosed_of_word {s t : State} (h : t.word R.BASEPLATE_STATUS.base = s.word R.BASEPLATE_STATUS.base) (n : Nat) :
    t.mateClosed n = s.mateClosed n := by
  rw [mateClosed_eq, mateClosed_eq]
  exact flag_eq_of_word (by rw [mateFld_reg]; exact h)

/-- The contact bits stand apart from each other and from MATE_GLITCH. -/
theorem mateFld_apart (c : Fin 2) : (mateFld c).lo = (mateFld c).hi ∧ (mateFld c).hi < 2 ∧
    ((mateFld (1 - c.val)).hi < (mateFld c).lo ∨ (mateFld c).hi < (mateFld (1 - c.val)).lo) := by
  revert c
  decide

/-- A contact shown open or closed, and the short opening counted. -/
def State.mateShown (s : State) (n : Nat) (closed : Bool) : State :=
  let u := s.setFld (mateFld n) (b2n closed)
  if closed && !s.mateClosed n && s.plate.mated then u.bump F.BASEPLATE_STATUS_MATE_GLITCH else u

theorem mateChange_eq (s : State) (n : Nat) (closed : Bool) : s.mateChange n closed =
    { s.mateShown n closed with plate.oneMate := (s.mateShown n closed).plate.oneMate && (s.mateShown n closed).oneClosed } := by
  unfold State.mateChange State.mateShown mateFld
  by_cases h : n = 0
  · subst h
    rfl
  · simp only [if_neg h]
    rfl

/-- Counting a short opening leaves the fields below MATE_GLITCH alone. -/
theorem bumpGlitch_flag (s : State) {f : Fld} (hr : f.reg = R.BASEPLATE_STATUS) (h : f.hi < 16) :
    (s.bump F.BASEPLATE_STATUS_MATE_GLITCH).flag f = s.flag f :=
  flag_setFld_disjoint s (e := F.BASEPLATE_STATUS_MATE_GLITCH) _ hr (by decide) (by decide) (.inl h)

theorem mateShown_flag (s : State) (n : Nat) (closed : Bool) {f : Fld} (hr : f.reg = R.BASEPLATE_STATUS) (h : f.hi < 16) :
    (s.mateShown n closed).flag f = (s.setFld (mateFld n) (b2n closed)).flag f := by
  unfold State.mateShown
  extract_lets u
  split
  · exact bumpGlitch_flag u hr h
  · rfl

theorem mateShown_closed (s : State) (c : Fin 2) (closed : Bool) :
    (s.mateShown c closed).mateClosed c = closed ∧ (s.mateShown c closed).mateClosed (1 - c.val) = s.mateClosed (1 - c.val) := by
  obtain ⟨hw, h2, hd⟩ := mateFld_apart c
  have hd2 : (mateFld (1 - c.val)).hi < 2 := (mateFld_apart (1 - c)).2.1.trans_eq' (by revert c; decide)
  simp only [mateClosed_eq]
  rw [mateShown_flag _ _ _ (mateFld_reg _) (by omega), mateShown_flag _ _ _ (mateFld_reg _) (by omega)]
  exact ⟨flag_setFld_same s closed 0 0 hw (by omega),
    flag_setFld_disjoint s _ ((mateFld_reg _).trans (mateFld_reg _).symm) hw.le (by omega) hd⟩

theorem mateShown_glitch (s : State) (c : Fin 2) (closed : Bool) :
    (s.mateShown c closed).fld F.BASEPLATE_STATUS_MATE_GLITCH =
      if closed && !s.mateClosed c && s.plate.mated then min (s.fld F.BASEPLATE_STATUS_MATE_GLITCH + 1) 255
      else s.fld F.BASEPLATE_STATUS_MATE_GLITCH := by
  obtain ⟨hw, h2, -⟩ := mateFld_apart c
  have hu : (s.setFld (mateFld c) (b2n closed)).fld F.BASEPLATE_STATUS_MATE_GLITCH = s.fld F.BASEPLATE_STATUS_MATE_GLITCH :=
    fld_setFld_disjoint s _ (mateFld_reg _).symm hw.le (by omega) (.inr (by simp only; omega))
  unfold State.mateShown
  extract_lets u
  split
  · refine (fld_setFld_same u _ _ _ _ (by decide) (by decide)).trans ?_
    rw [hu]
    exact Nat.mod_eq_of_lt (lt_of_le_of_lt (min_le_right _ _) (by decide))
  · exact hu

theorem onlyWords_mateShown (s : State) (n : Nat) (closed : Bool) :
    s.OnlyWords [R.BASEPLATE_STATUS.base] (s.mateShown n closed) := by
  have hu : s.Keeps [R.BASEPLATE_STATUS.base] (s.setFld (mateFld n) (b2n closed)) := fun a ha =>
    word_setWord_ne _ _ fun e => ha (by rw [e, mateFld_reg]; decide)
  unfold State.mateShown
  extract_lets u
  split
  · exact ⟨rfl, fun a ha => (word_setWord_ne _ _ fun e => ha (List.mem_singleton.mpr e)).trans (hu a ha)⟩
  · exact ⟨rfl, hu⟩

theorem oneMate5s_eq {s : State} (h1 : s.oneClosed = true) (h2 : s.plate.oneMate = false) :
    s.oneMate5s = ({ s with plate.oneMate := true } : State).ev 0x0121 := by
  unfold State.oneMate5s
  rw [if_pos ⟨h1, by rw [h2]; rfl⟩]

/-! ### The sampled straps -/

/-- The straps written into BASEPLATE_STATUS. -/
def State.sample (s : State) (x : Straps) : State :=
  (((s.setFld F.BASEPLATE_STATUS_BP_TYPE x.bpType).setFld F.BASEPLATE_STATUS_PAIR_POS (b2n x.pairPos)).setFld
    F.BASEPLATE_STATUS_CFG_A_PRESENT (b2n x.cfgA)).setFld F.BASEPLATE_STATUS_CFG_B_PRESENT (b2n x.cfgB)

theorem setFld_eq {s t : State} (h : t = { s with regs := t.regs }) (f : Fld) (v i j : Nat) :
    t.setFld f v i j = { s with regs := (t.setFld f v i j).regs } :=
  congrArg (fun w : State => { w with regs := (t.setFld f v i j).regs }) h

theorem sample_eq (s : State) (x : Straps) : s.sample x = { s with regs := (s.sample x).regs } :=
  setFld_eq (setFld_eq (setFld_eq (setFld_eq rfl _ _ _ _) _ _ _ _) _ _ _ _) _ _ _ _

@[simp] theorem State.sample_phase (s : State) (x : Straps) : (s.sample x).phase = s.phase := by rw [sample_eq]
@[simp] theorem State.sample_stop (s : State) (x : Straps) : (s.sample x).stop = s.stop := by rw [sample_eq]
@[simp] theorem State.sample_drive (s : State) (x : Straps) : (s.sample x).drive = s.drive := by rw [sample_eq]
@[simp] theorem State.sample_plate (s : State) (x : Straps) : (s.sample x).plate = s.plate := by rw [sample_eq]

theorem sample_type (s : State) (x : Straps) : (s.sample x).fld F.BASEPLATE_STATUS_BP_TYPE = x.bpType := by
  unfold State.sample
  simp (disch := decide) only [fld_setFld_disjoint, fld_setFld_same]
  exact Nat.mod_eq_of_lt x.bpType.isLt

theorem sample_pos (s : State) (x : Straps) : (s.sample x).flag F.BASEPLATE_STATUS_PAIR_POS = x.pairPos := by
  unfold State.sample
  simp (disch := decide) only [flag_setFld_disjoint, flag_setFld_same]

theorem sample_cfgA (s : State) (x : Straps) : (s.sample x).flag F.BASEPLATE_STATUS_CFG_A_PRESENT = x.cfgA := by
  unfold State.sample
  simp (disch := decide) only [flag_setFld_disjoint, flag_setFld_same]

theorem sample_cfgB (s : State) (x : Straps) : (s.sample x).flag F.BASEPLATE_STATUS_CFG_B_PRESENT = x.cfgB := by
  unfold State.sample
  simp (disch := decide) only [flag_setFld_same]

/-- The straps leave the fields below BP_TYPE, and PEER_PRESENT, alone. -/
theorem sample_flag (s : State) (x : Straps) {f : Fld} (hr : f.reg = R.BASEPLATE_STATUS)
    (h : f.hi < 2 ∨ (f.lo = 6 ∧ f.hi = 6)) : (s.sample x).flag f = s.flag f := by
  unfold State.sample
  rw [flag_setFld_disjoint _ _ hr, flag_setFld_disjoint _ _ hr, flag_setFld_disjoint _ _ hr, flag_setFld_disjoint _ _ hr] <;>
    simp only <;> omega

theorem sample_mateClosed (s : State) (x : Straps) (c : Fin 2) :
    (s.sample x).mateClosed c = s.mateClosed c := by
  rw [mateClosed_eq, mateClosed_eq, sample_flag _ _ (mateFld_reg _) (.inl (mateFld_apart c).2.1)]

theorem sample_word (s : State) (x : Straps) {a : Nat} (h : a ≠ R.BASEPLATE_STATUS.base) :
    (s.sample x).word a = s.word a :=
  (word_setWord_ne _ _ h).trans ((word_setWord_ne _ _ h).trans ((word_setWord_ne _ _ h).trans (word_setWord_ne _ _ h)))

/-- A module that is mated, its straps sampled. -/
def State.matedWith (s : State) (x : Straps) : State :=
  State.sample { s with plate.mated := true } x

theorem matedWith_eq (s : State) (x : Straps) :
    s.matedWith x = { s with regs := (s.matedWith x).regs, plate := { s.plate with mated := true } } := sample_eq _ x

theorem plate_of_logged {s t : State} (h : s.Logged t) : t.plate = s.plate := by rw [h.1]

/-- Recording events after a change of the registers and the base plate. -/
theorem eq_of_logged {s u t : State} {pl : Plate} (hu : u = { s with regs := u.regs, plate := pl }) (h : u.Logged t) :
    t = { s with regs := t.regs, plate := t.plate, vault := t.vault } := by
  have hpl : t.plate = pl := by rw [plate_of_logged h, hu]
  rw [hpl]
  exact h.1.trans (congrArg (fun w : State => { w with regs := t.regs, vault := t.vault }) hu)

theorem logged_matePass {s : State} (x : Straps) (h1 : s.bothClosed = true) (h2 : s.plate.mated = false) :
    (s.matedWith x).Logged (s.matePass x) := by
  unfold State.matePass
  rw [if_neg (by simp [h1, h2])]
  extract_lets _ u1 u2 u3
  have hu : u3 = s.matedWith x := rfl
  rw [hu]
  split
  · exact logged_ev _ _ _
  · exact State.Logged.refl _

/-! ### Unmating -/

theorem OfPlate.stopped {β : Type} {p : State → β} (hp : OfPlate p) (s : State) (rel : Nat) :
    p (foldState State.stopAccount acctOrder (s.relinquish rel)) = p s :=
  (fold_same hp.ofAccounts.stopAccount _ _).trans (hp.relinquish s rel)

theorem halt_phase (s : State) (why : StopCause) (d : Drive) (rel : Nat) : (s.halt why d rel).phase = .stopped :=
  ofPlate_phase.restage _

theorem halt_stop (s : State) (why : StopCause) (d : Drive) (rel : Nat) : (s.halt why d rel).stop = why :=
  ofPlate_stop.restage _

theorem halt_drive_ended (s : State) (why : StopCause) (rel : Nat) : (s.halt why .ended rel).drive = .ended :=
  (ofPlate_drive.restage _).trans (ite_self _)

theorem halt_plate (s : State) (why : StopCause) (d : Drive) (rel : Nat) : (s.halt why d rel).plate = s.plate :=
  (ofPlate_plate.restage _).trans (ofPlate_plate.stopped s rel)

theorem halt_word (s : State) (why : StopCause) (d : Drive) (rel : Nat) {a : Nat} (h : a < 0x4000000) :
    (s.halt why d rel).word a = s.word a :=
  ((ofPlate_word h).restage _).trans ((ofPlate_word h).stopped s rel)

/-- The sampled fields of a module that is not mated. -/
def noStraps : Straps := ⟨0, false, false, false⟩

/-- The drive of an unmated module is ended; a module in a start or after it stops. -/
def State.unmateStop (s : State) : State :=
  if s.alive then s.halt .unmated .ended 2 else State.restage { s with drive := .ended }

theorem unmateStop_drive (s : State) : s.unmateStop.drive = .ended := by
  unfold State.unmateStop
  split
  · exact halt_drive_ended _ _ _
  · exact ofPlate_drive.restage _

theorem unmateStop_plate (s : State) : s.unmateStop.plate = s.plate := by
  unfold State.unmateStop
  split
  · exact halt_plate _ _ _ _
  · exact ofPlate_plate.restage _

theorem unmateStop_word (s : State) {a : Nat} (h : a < 0x4000000) : s.unmateStop.word a = s.word a := by
  unfold State.unmateStop
  split
  · exact halt_word _ _ _ _ h
  · exact (ofPlate_word h).restage _

theorem unmateStop_alive {s : State} (h : s.alive = true) : s.unmateStop.phase = .stopped ∧ s.unmateStop.stop = .unmated := by
  rw [State.unmateStop, if_pos h]
  exact ⟨halt_phase _ _ _ _, halt_stop _ _ _ _⟩

theorem unmateStop_not_alive {s : State} (h : s.alive = false) :
    s.unmateStop.phase = s.phase ∧ s.unmateStop.stop = s.stop := by
  rw [State.unmateStop, if_neg (by simp [h])]
  exact ⟨ofPlate_phase.restage _, ofPlate_stop.restage _⟩

/-- The event and the closing flush; D27 to D58 are off, and the links of the slices with them. -/
def State.fieldOff (s : State) : State :=
  foldState (fun s sl => if s.slState sl = slOff then s else s.slPowerOff sl) (List.range 16)
    (((s.ev 0x0120).closingFlush 1).setDoms ((List.range 32).map (27 + ·)) false)

theorem OfPlate.fieldOff {β : Type} {p : State → β} (hp : OfPlate p) (s : State) :
    p s.fieldOff = p (((s.ev 0x0120).closingFlush 1).setDoms ((List.range 32).map (27 + ·)) false) := by
  refine fold_same (fun s sl => ?_) _ _
  split
  · rfl
  · exact hp.slPowerOff s sl

/-- What no register shows is left alone. -/
theorem OfPlate.fieldOff_same {β : Type} {p : State → β} (hp : OfPlate p) (hr : ∀ s x, p { s with regs := x } = p s)
    (s : State) : p s.fieldOff = p s := by
  rw [hp.fieldOff, setDoms_eq, hr, hp.closingFlush]
  exact hp.ev

theorem fieldOff_status (s : State) : s.fieldOff.word R.BASEPLATE_STATUS.base = s.word R.BASEPLATE_STATUS.base := by
  have hp : OfPlate fun s => s.word R.BASEPLATE_STATUS.base := ofPlate_word (by decide)
  refine (hp.fieldOff s).trans ((setDoms_word _ _ _ fun j => ?_).trans ((hp.closingFlush _ _).trans hp.ev))
  simp only [Reg.addr]
  omega

theorem fieldOff_domOn (s : State) (d : Fin 64) :
    s.fieldOff.domOn d = (s.domOn d && (decide (d.val < 27) || decide (59 ≤ d.val))) := by
  have hp : OfPlate fun s => s.word (R.DOMAIN_ON.addr 0 (d / 32)) := ofPlate_word (by simp only [Reg.addr]; omega)
  have hs : ((s.ev 0x0120).closingFlush 1).domOn d = s.domOn d := domOn_of_word ((hp.closingFlush _ _).trans hp.ev)
  rw [domOn_of_word (hp.fieldOff s), domOn_setDoms, hs]
  have hm : d.val ∈ (List.range 32).map (27 + ·) ↔ ¬(d.val < 27 ∨ 59 ≤ d.val) := by
    simp only [List.mem_map, List.mem_range]
    exact ⟨fun ⟨k, hk, e⟩ => by omega, fun h => ⟨d.val - 27, by omega, by omega⟩⟩
  by_cases h : d.val < 27 ∨ 59 ≤ d.val
  · simp [hm, h]
  · rw [if_pos (hm.mpr h), ← Bool.decide_or, decide_eq_false h, Bool.and_false]

theorem unmate_eq {s : State} (h1 : s.plate.mated = true) (h2 : s.bothClosed = false) : s.unmate =
    State.sample { s.unmateStop.fieldOff with plate.mated := false } noStraps := by
  unfold State.unmate
  rw [if_neg (by simp [h1, h2])]
  rfl

/-! ### O9 -/

/-- Settles O9: each command by what it writes; the end of drive and of the links leaves BASEPLATE_STATUS alone (OfPlate). -/
theorem mateContactsAndStraps : Obligations.MateContactsAndStraps := by
  unfold Obligations.MateContactsAndStraps
  refine ⟨?contact, ?filter, ?one, ?unmated, fun s => ⟨_, rfl, rfl⟩⟩
  case contact =>
    intro s c closed
    obtain ⟨hc, ho⟩ := mateShown_closed s c closed
    obtain ⟨hregs, hkeep⟩ := onlyWords_mateShown s c closed
    have hplate : (s.mateShown c closed).plate = s.plate := by rw [hregs]
    refine yields_next rfl (mateChange_eq s c closed) ⟨hc, ho, mateShown_glitch s c closed, ?_, hkeep⟩
    rw [hplate, hregs]
    rfl
  case filter =>
    intro s x h1 h2
    have hlog := logged_matePass x h1 h2
    have hw : (s.matePass x).word R.BASEPLATE_STATUS.base = (s.matedWith x).word R.BASEPLATE_STATUS.base :=
      hlog.2 _ (by decide)
    have hflag : ∀ {f : Fld}, f.reg = R.BASEPLATE_STATUS → (s.matePass x).flag f = (s.matedWith x).flag f := fun hf =>
      flag_eq_of_word (by rw [hf]; exact hw)
    have hclosed : ∀ c : Fin 2, (s.matePass x).mateClosed c = s.mateClosed c := fun c =>
      (mateClosed_of_word hw c).trans (sample_mateClosed _ _ c)
    refine ⟨s.matePass x, rfl, ?plate, (fld_eq_of_word hw).trans (sample_type _ x), ?pos, ?cfgA, ?cfgB,
      (congrArg₂ and (hclosed 0) (hclosed 1)).trans h1, ?peer, eq_of_logged (matedWith_eq s x) hlog, fun a ha => ?word⟩
    case plate => rw [plate_of_logged hlog, matedWith_eq]
    case pos => exact (hflag rfl).trans (sample_pos _ x)
    case cfgA => exact (hflag rfl).trans (sample_cfgA _ x)
    case cfgB => exact (hflag rfl).trans (sample_cfgB _ x)
    case peer => exact (hflag rfl).trans (sample_flag _ x rfl (.inr ⟨rfl, rfl⟩))
    case word =>
      obtain ⟨hne, he⟩ := List.ne_and_not_mem_of_not_mem_cons ha
      exact (hlog.2 a he).trans (sample_word _ x hne)
  case one =>
    intro s h1 h2
    exact yields_next rfl (oneMate5s_eq h1 h2) ⟨congrArg Plate.oneMate (State.ev_plate _ _ _), logged_ev _ _ _⟩
  case unmated =>
    intro s h1 h2
    have hw : s.unmateStop.fieldOff.word R.BASEPLATE_STATUS.base = s.word R.BASEPLATE_STATUS.base :=
      (fieldOff_status _).trans (unmateStop_word s (by decide))
    have hclosed : ∀ c : Fin 2, (State.sample { s.unmateStop.fieldOff with plate.mated := false } noStraps).mateClosed c =
        s.mateClosed c := fun c =>
      (sample_mateClosed _ _ c).trans (mateClosed_of_word hw c)
    have hphase := ofPlate_phase.fieldOff_same (fun _ _ => rfl) s.unmateStop
    have hstop := ofPlate_stop.fieldOff_same (fun _ _ => rfl) s.unmateStop
    have hdrive := ofPlate_drive.fieldOff_same (fun _ _ => rfl) s.unmateStop
    refine yields_next rfl (unmate_eq h1 h2) ⟨?plate, ?drive, fun h => ?alive, fun h => ?dead, fun d => ?dom, hclosed 0,
      hclosed 1, sample_type _ _, sample_pos _ _, sample_cfgA _ _, sample_cfgB _ _⟩
    case plate =>
      have hp : s.unmateStop.fieldOff.plate = s.plate :=
        (ofPlate_plate.fieldOff_same (fun _ _ => rfl) _).trans (unmateStop_plate s)
      rw [State.sample_plate, ← hp]
    case drive =>
      rw [State.sample_drive, ← unmateStop_drive s]
      exact hdrive
    case alive =>
      rw [State.sample_phase, State.sample_stop, ← (unmateStop_alive h).1, ← (unmateStop_alive h).2]
      exact ⟨hphase, hstop⟩
    case dead =>
      rw [State.sample_phase, State.sample_stop, ← (unmateStop_not_alive h).1, ← (unmateStop_not_alive h).2]
      exact ⟨hphase, hstop⟩
    case dom =>
      have hs : s.unmateStop.domOn d = s.domOn d := domOn_of_word (unmateStop_word s (by simp only [Reg.addr]; omega))
      rw [← hs, ← fieldOff_domOn]
      refine domOn_of_word (sample_word _ _ ?_)
      simp only [Reg.addr]
      omega

end Sys2Proof.Machine
end

section
/-! PROOF. The seal scan filters every switch by itself (O10). -/
namespace Sys2Proof.Machine

/-- One switch of the seal bank: its filtered state, its contact fault and its scan filter. -/
structure SealSwitch where
  on : Bool
  fault : Bool
  filter : SealFilter

def State.sealSwitch (s : State) (n : Nat) : SealSwitch :=
  ⟨bit (s.fld F.SEAL_STATE_SW) n, bit (s.fld F.SEAL_STATE_SWF) n, nget .init s.plate.seals n⟩

/-- The run of agreeing scans after one more that reads position d. -/
def SealFilter.nextRun (x : SealFilter) (d : Bool) : Nat := if x.run ≠ 0 ∧ x.dir = d then min 8 (x.run + 1) else 1

/-- What a scan that reads p1 and p2 in its two phases does to one switch (R16). -/
def SealSwitch.scan (w : SealSwitch) (p1 p2 : Bool) : SealSwitch :=
  let x := w.filter
  if p1 = p2 then
    { w with fault := w.fault || decide (15 ≤ x.bad), filter := { x with run := 0, bad := min 16 (x.bad + 1) } }
  else
    let run := x.nextRun p1
    let x' : SealFilter := { x with dir := p1, run := run, bad := 0, known := x.known || run == 8 }
    if run < 8 then { w with filter := x' } else ⟨p1, false, x'⟩

theorem SealSwitch.scan_bad (w : SealSwitch) {p1 p2 : Bool} (h : p1 = p2) : w.scan p1 p2 =
    ⟨w.on, w.fault || decide (15 ≤ w.filter.bad), { w.filter with run := 0, bad := min 16 (w.filter.bad + 1) }⟩ := if_pos h

theorem SealSwitch.scan_valid (w : SealSwitch) {p1 p2 : Bool} (h : ¬p1 = p2) : w.scan p1 p2 =
    let run := w.filter.nextRun p1
    let x : SealFilter := ⟨w.filter.known || run == 8, p1, run, 0⟩
    if run < 8 then { w with filter := x } else ⟨p1, false, x⟩ := if_neg h

/-! ### Bits of SEAL_STATE -/

theorem sealSwitch_on (s : State) {n : Nat} (hn : n < 16) : (s.sealSwitch n).on = bit (s.reg R.SEAL_STATE) n := by
  refine (bit_bits _ (by simp only; omega)).trans ?_
  rw [Nat.zero_add]

theorem sealSwitch_fault (s : State) {n : Nat} (hn : n < 16) : (s.sealSwitch n).fault = bit (s.reg R.SEAL_STATE) (16 + n) := by
  exact bit_bits _ (by simp only; omega)

theorem sealSwitch_ext {w : SealSwitch} {s : State} {n : Nat} (hn : n < 16) (h1 : bit (s.reg R.SEAL_STATE) n = w.on)
    (h2 : bit (s.reg R.SEAL_STATE) (16 + n) = w.fault) (h3 : nget .init s.plate.seals n = w.filter) : s.sealSwitch n = w := by
  rw [← sealSwitch_on s hn] at h1
  rw [← sealSwitch_fault s hn] at h2
  cases w
  cases h1
  cases h2
  cases h3
  rfl

/-- A switch is read from SEAL_STATE and its filter. -/
theorem sealSwitch_congr {s t : State} (hw : t.word R.SEAL_STATE.base = s.word R.SEAL_STATE.base)
    (hp : t.plate = s.plate) (n : Nat) : t.sealSwitch n = s.sealSwitch n := by
  have h1 : t.fld F.SEAL_STATE_SW = s.fld F.SEAL_STATE_SW := fld_eq_of_word hw
  have h2 : t.fld F.SEAL_STATE_SWF = s.fld F.SEAL_STATE_SWF := fld_eq_of_word hw
  rw [State.sealSwitch, State.sealSwitch, hp, h1, h2]

/-! ### What the parts of a scan do to the switches -/

theorem sealSwitch_ev (s : State) (code : Nat) (items : List Item) (n : Nat) :
    (s.ev code items).sealSwitch n = s.sealSwitch n :=
  sealSwitch_congr (ev_word _ _ _ (by decide)) (State.ev_plate _ _ _) n

theorem sealSwitch_count (s : State) (n : Nat) : (s.bump (whole R.SEAL_CHANGES)).sealSwitch n = s.sealSwitch n :=
  sealSwitch_congr (word_setWord_ne _ _ (by decide)) rfl n

theorem sealSwitch_filter (s : State) (n : Nat) (x : SealFilter) (m : Nat) :
    State.sealSwitch { s with plate.seals := nset .init s.plate.seals n x } m =
      if m = n then { s.sealSwitch m with filter := x } else s.sealSwitch m := by
  by_cases h : m = n
  · subst h
    rw [if_pos rfl]
    exact congrArg (SealSwitch.mk _ _) (nget_nset_same _ _ _ _)
  · rw [if_neg h]
    exact congrArg (SealSwitch.mk _ _) (nget_nset_ne _ _ _ _ h)

section
variable (s : State) {n m : Nat} (hn : n < 16) (hm : m < 16) (b : Bool)
include hn hm

theorem sealSwitch_setOn : (s.setBit R.SEAL_STATE n b).sealSwitch m =
    if m = n then { s.sealSwitch m with on := b } else s.sealSwitch m := by
  refine sealSwitch_ext hm ?_ ?_ ?_
  · rw [bit_setBit _ _ (by omega), ← sealSwitch_on s hm]
    split <;> rfl
  · rw [bit_setBit _ _ (by omega), if_neg (by omega), ← sealSwitch_fault s hm]
    split <;> rfl
  · split <;> rfl

theorem sealSwitch_setFault : (s.setBit R.SEAL_STATE (16 + n) b).sealSwitch m =
    if m = n then { s.sealSwitch m with fault := b } else s.sealSwitch m := by
  have he : 16 + m = 16 + n ↔ m = n := by omega
  refine sealSwitch_ext hm ?_ ?_ ?_
  · rw [bit_setBit _ _ (by omega), if_neg (by omega), ← sealSwitch_on s hm]
    split <;> rfl
  · rw [bit_setBit _ _ (by omega), ← sealSwitch_fault s hm]
    simp only [he]
    split <;> rfl
  · split <;> rfl

/-- A scan of switch n does its part to that switch and leaves the others alone. -/
theorem sealSwitch_sealOne (p1 p2 : Bool) : (s.sealOne n p1 p2).sealSwitch m =
    if m = n then (s.sealSwitch n).scan p1 p2 else s.sealSwitch m := by
  unfold State.sealOne
  extract_lets x fault state keep count bad u dir run w changed u1 u2
  have hu : u.sealSwitch m =
      if m = n then { s.sealSwitch m with filter := { x with run := 0, bad := bad } } else s.sealSwitch m :=
    sealSwitch_filter _ _ _ _
  have hw : w.sealSwitch m =
      if m = n then { s.sealSwitch m with filter := ⟨x.known || run == 8, dir, run, 0⟩ } else s.sealSwitch m :=
    sealSwitch_filter _ _ _ _
  by_cases h : p1 = p2
  · rw [if_pos (by simpa using h), SealSwitch.scan_bad _ h]
    by_cases hf : bad = 16 ∧ (!fault) = true
    · have hb : 15 ≤ x.bad := by omega
      rw [if_pos hf, sealSwitch_ev, sealSwitch_count, sealSwitch_setFault _ hn hm, hu]
      split
      · subst m
        have ht : (fault || decide (15 ≤ x.bad)) = true := by rw [decide_eq_true hb, Bool.or_true]
        exact congrArg (SealSwitch.mk _ · _) ht.symm
      · rfl
    · have hb : (fault || decide (15 ≤ x.bad)) = fault := by
        cases hc : fault
        · simp only [hc, Bool.not_false, and_true] at hf
          simp only [Bool.false_or, decide_eq_false_iff_not]
          omega
        · rfl
      rw [if_neg hf, hu]
      split
      · subst m
        exact congrArg (SealSwitch.mk _ · _) hb.symm
      · rfl
  · rw [if_neg (by simpa using h), SealSwitch.scan_valid _ h]
    have hu2 : u2.sealSwitch m = u1.sealSwitch m := by
      unfold u2
      split
      · exact sealSwitch_count _ _
      · rfl
    by_cases hr : run < 8
    · rw [if_pos hr, hw]
      split
      · subst m
        exact (if_pos hr).symm
      · rfl
    · have ht : (if (changed && n != 12 && u2.plate.latch.isSome) = true then u2.ev 0x0124 else u2).sealSwitch m =
          u2.sealSwitch m := by
        split
        · exact sealSwitch_ev _ _ _ _
        · rfl
      rw [if_neg hr, ht, hu2, sealSwitch_setOn _ hn hm, sealSwitch_setFault _ hn hm, hw]
      split
      · subst m
        exact (if_neg hr).symm
      · rfl
end

/-- A fold in which one element alone acts on what p reads. -/
theorem fold_at {β α : Type} {p : State → β} {f : State → α → State} {g : β → β} {l : List α} {x : α}
    (hl : l.Nodup) (hx : x ∈ l) (hs : ∀ s, p (f s x) = g (p s)) (ho : ∀ s, ∀ y ∈ l, y ≠ x → p (f s y) = p s) (s : State) :
    p (foldState f l s) = g (p s) := by
  induction l generalizing s with
  | nil => cases hx
  | cons y l ih =>
    obtain ⟨hy, hl⟩ := List.nodup_cons.mp hl
    by_cases h : y = x
    · subst h
      exact (fold_mem (fun s z hz => ho s z (List.mem_cons_of_mem y hz) fun e => hy (e ▸ hz))).trans (hs s)
    · have hx : x ∈ l := (List.mem_cons.mp hx).resolve_left (Ne.symm h)
      exact (ih hl hx (fun s z hz => ho s z (List.mem_cons_of_mem y hz)) (f s y)).trans (congrArg g (ho s y List.mem_cons_self h))

/-- A scan of the bank scans every switch, whatever it does to the others. -/
theorem sealSwitch_sealScan {s : State} (p1 p2 : BitVec 16) (n : Fin 16) (h : s.phase ≠ .waiting) :
    (s.sealScan p1 p2).sealSwitch n = (s.sealSwitch n).scan (p1.getLsbD n) (p2.getLsbD n) := by
  have hf : ∀ s : State, (foldState (fun s n => s.sealOne n (p1.getLsbD n) (p2.getLsbD n)) (List.range 16) s).sealSwitch n =
      (s.sealSwitch n).scan (p1.getLsbD n) (p2.getLsbD n) := by
    refine fold_at (p := (·.sealSwitch n)) (g := (·.scan (p1.getLsbD n) (p2.getLsbD n))) List.nodup_range
      (List.mem_range.mpr n.isLt) (fun s => ?_) (fun s m hm hne => ?_)
    · exact (sealSwitch_sealOne s n.isLt n.isLt _ _).trans (if_pos rfl)
    · exact (sealSwitch_sealOne s (List.mem_range.mp hm) n.isLt _ _).trans (if_neg (Ne.symm hne))
  unfold State.sealScan
  rw [if_neg h]
  extract_lets u
  split
  · have hp : OfPlate fun s => s.word R.SEAL_STATE.base := ofPlate_word (by decide)
    rw [← hf s]
    exact sealSwitch_congr ((hp.pendingUpdate _).trans (hp.maintUpdate _))
      ((ofPlate_plate.pendingUpdate _).trans (ofPlate_plate.maintUpdate _)) n
  · exact hf s

/-! ### O10 -/

section
variable (w : SealSwitch) {p1 p2 : Bool}

theorem SealSwitch.scan_agreeing (h : p1 ≠ p2) (h7 : 7 ≤ w.filter.run) (hd : w.filter.dir = p1) :
    (w.scan p1 p2).on = p1 ∧ (w.scan p1 p2).fault = false := by
  have hr : ¬w.filter.nextRun p1 < 8 := by
    rw [SealFilter.nextRun, if_pos ⟨by omega, hd⟩]
    omega
  rw [w.scan_valid h]
  extract_lets run x
  rw [if_neg hr]
  exact ⟨rfl, rfl⟩

theorem SealSwitch.scan_fewer (h : p1 ≠ p2) (h7 : w.filter.run < 7 ∨ w.filter.dir ≠ p1) :
    (w.scan p1 p2).on = w.on ∧ (w.scan p1 p2).fault = w.fault := by
  have hr : w.filter.nextRun p1 < 8 := by
    unfold SealFilter.nextRun
    split
    next hd =>
      have := h7.resolve_right (not_not.mpr hd.2)
      omega
    next => decide
  rw [w.scan_valid h]
  extract_lets run x
  rw [if_pos hr]
  exact ⟨rfl, rfl⟩

theorem SealSwitch.scan_invalid (h : p1 = p2) :
    (w.scan p1 p2).on = w.on ∧ (w.scan p1 p2).fault = (w.fault || decide (15 ≤ w.filter.bad)) := by
  rw [w.scan_bad h]
  exact ⟨rfl, rfl⟩
end

/-- Settles O10: the scan of the bank is a scan of each switch (sealSwitch_sealScan), whose counts decide. -/
theorem sealScanFiltersEverySwitch : Obligations.SealScanFiltersEverySwitch := by
  intro s p1 p2 n hph
  have hscan := sealSwitch_sealScan p1 p2 n hph
  refine ⟨s.sealScan p1 p2, rfl, fun hp h7 hd => ?eighth, fun hp h => ?fewer, fun hp h15 => ?sixteenth, fun hp h15 => ?less⟩
  case eighth =>
    have h := (s.sealSwitch n).scan_agreeing hp h7 hd
    rwa [← hscan] at h
  case fewer =>
    have h := (s.sealSwitch n).scan_fewer hp h
    rwa [← hscan] at h
  case sixteenth =>
    have hb : decide (15 ≤ (s.sealSwitch n).filter.bad) = true := decide_eq_true h15
    have h := (s.sealSwitch n).scan_invalid hp
    rwa [← hscan, hb, Bool.or_true] at h
  case less =>
    have hb : decide (15 ≤ (s.sealSwitch n).filter.bad) = false := decide_eq_false (not_le.mpr h15)
    have h := (s.sealSwitch n).scan_invalid hp
    rwa [← hscan, hb, Bool.or_false] at h

end Sys2Proof.Machine
end

section
/-! SUPPORT. The registers of the supply: what a chain of writes and events leaves alone, single bits of FEED_STATUS, and the store's
registers where HOLDUP_OK follows them. -/
namespace Sys2Proof.Machine

/-! ### Chains of register writes and events -/

/-- t differs from s in the vault, and in the words at the addresses of the list. -/
def State.Recorded (ws : List Nat) (s t : State) : Prop := t = { s with regs := t.regs, vault := t.vault } ∧ s.Keeps ws t

section
variable {ws : List Nat} {s t : State}

theorem State.OnlyWords.refl (ws : List Nat) (s : State) : s.OnlyWords ws s := ⟨rfl, fun _ _ => rfl⟩

theorem State.OnlyWords.setReg (h : s.OnlyWords ws t) {r : Reg} {i j : Nat} (v : Nat) (m : r.addr i j ∈ ws) :
    s.OnlyWords ws (t.setReg r v i j) :=
  ⟨congrArg (fun w : State => { w with regs := (t.setReg r v i j).regs }) h.1,
    fun a ha => (word_setWord_ne t _ fun e => ha (by rw [e]; exact m)).trans (h.2 a ha)⟩

theorem State.OnlyWords.trans {u : State} (h : s.OnlyWords ws t) (k : t.OnlyWords ws u) : s.OnlyWords ws u :=
  ⟨k.1.trans (congrArg (fun w : State => { w with regs := u.regs }) h.1), fun a ha => (k.2 a ha).trans (h.2 a ha)⟩

theorem State.OnlyWords.mono {vs : List Nat} (h : s.OnlyWords vs t) (hv : vs ⊆ ws) : s.OnlyWords ws t :=
  ⟨h.1, fun a ha => h.2 a fun e => ha (hv e)⟩

theorem State.Recorded.refl (ws : List Nat) (s : State) : s.Recorded ws s := ⟨rfl, fun _ _ => rfl⟩

theorem State.Recorded.trans {u : State} (h : s.Recorded ws t) (k : t.Recorded ws u) : s.Recorded ws u :=
  ⟨k.1.trans (congrArg (fun w : State => { w with regs := u.regs, vault := u.vault }) h.1),
    fun a ha => (k.2 a ha).trans (h.2 a ha)⟩

theorem State.Recorded.mono {vs : List Nat} (h : s.Recorded vs t) (hv : vs ⊆ ws) : s.Recorded ws t :=
  ⟨h.1, fun a ha => h.2 a fun e => ha (hv e)⟩

theorem State.Recorded.setReg (h : s.Recorded ws t) {r : Reg} {i j : Nat} (v : Nat) (m : r.addr i j ∈ ws) :
    s.Recorded ws (t.setReg r v i j) :=
  h.trans ⟨rfl, ((State.OnlyWords.refl ws t).setReg v m).2⟩

theorem State.Recorded.setFld (h : s.Recorded ws t) {f : Fld} {i j : Nat} (v : Nat) (m : f.reg.addr i j ∈ ws) :
    s.Recorded ws (t.setFld f v i j) := h.setReg _ m

theorem State.Recorded.ev (h : s.Recorded ws t) (he : eventWords ⊆ ws) (code : Nat) (items : List Item) :
    s.Recorded ws (t.ev code items) :=
  h.trans ⟨(logged_ev t code items).1, fun a ha => (logged_ev t code items).2 a fun e => ha (he e)⟩

theorem State.OnlyWords.recorded (h : s.OnlyWords ws t) : s.Recorded ws t := by
  refine ⟨?_, h.2⟩
  have hv : t.vault = s.vault := by rw [h.1]
  rw [hv]
  exact h.1

theorem State.Recorded.word (h : s.Recorded ws t) {a : Nat} (ha : a ∉ ws) : t.word a = s.word a := h.2 a ha

theorem State.Recorded.power (h : s.Recorded ws t) : t.power = s.power := by rw [h.1]

/-- A chain that begins with a change of what the feeds are remembered by. -/
theorem State.Recorded.of_feedLost {x : NMap Bool} (h : State.Recorded ws { s with power.feedLost := x } t) :
    t = { s with regs := t.regs, power.feedLost := t.power.feedLost, vault := t.vault } ∧ s.Keeps ws t := by
  refine ⟨?_, h.2⟩
  rw [h.power]
  exact h.1

/-- A chain that begins with the readiness of the store. -/
theorem State.Recorded.of_storeReady {x : Bool} (h : State.Recorded ws { s with power.storeReady := x } t) :
    t = { s with regs := t.regs, power.storeReady := t.power.storeReady, vault := t.vault } ∧ s.Keeps ws t := by
  refine ⟨?_, h.2⟩
  rw [h.power]
  exact h.1
end

/-! ### FEED_STATUS -/

theorem flag_eq_bit (s : State) {f : Fld} (i j : Nat) (h : f.lo = f.hi) : s.flag f i j = bit (s.reg f.reg i j) f.lo := by
  rw [State.flag, State.fld, bits, bit, ← h, Nat.add_sub_cancel_left, pow_one]

/-- Which feed is the one to carry the load, of two that could: F2. -/
def State.secondCarries (s : State) : Bool :=
  s.feedValid 1 && (!s.feedValid 0 || decide (s.feedVolt 0 < s.feedVolt 1) ||
    (s.feedVolt 0 == s.feedVolt 1 && s.flag F.FEED_STATUS_F2_CARRY))

theorem feedCarry_eq (s : State) : s.feedCarry =
    (s.setBit R.FEED_STATUS 6 (!s.flag F.HOLDUP_STATUS_CARRYING && s.feedValid 0 && !s.secondCarries)).setBit R.FEED_STATUS 7
      (!s.flag F.HOLDUP_STATUS_CARRYING && s.secondCarries) := rfl

theorem onlyWords_feedCarry (s : State) : s.OnlyWords [R.FEED_STATUS.base] s.feedCarry :=
  ((State.OnlyWords.refl _ s).setReg _ (by decide)).setReg _ (by decide)

theorem feedCarry_word (s : State) {a : Nat} (h : a ≠ R.FEED_STATUS.base) : s.feedCarry.word a = s.word a :=
  (onlyWords_feedCarry s).2 a (by simpa using h)

theorem feedCarry_bit (s : State) {n : Nat} (h : n < 6) : bit (s.feedCarry.reg R.FEED_STATUS) n = bit (s.reg R.FEED_STATUS) n := by
  rw [feedCarry_eq, bit_setBit _ _ (by decide), if_neg (by omega), bit_setBit _ _ (by decide), if_neg (by omega)]

theorem feedCarry_first (s : State) : s.feedCarry.flag F.FEED_STATUS_F1_CARRY =
    (!s.flag F.HOLDUP_STATUS_CARRYING && s.feedValid 0 && !s.secondCarries) := by
  rw [flag_eq_bit _ _ _ rfl, feedCarry_eq, bit_setBit _ _ (by decide), if_neg (by decide), bit_setBit _ _ (by decide), if_pos rfl]

theorem feedCarry_second (s : State) : s.feedCarry.flag F.FEED_STATUS_F2_CARRY =
    (!s.flag F.HOLDUP_STATUS_CARRYING && s.secondCarries) := by
  rw [flag_eq_bit _ _ _ rfl, feedCarry_eq, bit_setBit _ _ (by decide), if_pos rfl]

/-! ### HOLDUP_STATUS and HOLDUP_CAPACITY -/

/-- The store's voltage and capacitance are what HOLDUP_OK asks for (R40). -/
def State.storeGood (s : State) : Bool := decide (4600 ≤ s.fld F.HOLDUP_STATUS_STORE_V) && decide (550 ≤ s.fld F.HOLDUP_CAPACITY_CAP_UF)

/-- The words that HOLDUP_OK and the vault's state after it are written to. -/
def holdupWords : List Nat := R.HOLDUP_STATUS.base :: R.VAULT_STATUS.base :: eventWords

theorem vholdup_recorded (s : State) (ok : Bool) : s.Recorded (R.VAULT_STATUS.base :: eventWords) (s.vholdup ok) := by
  have hw : ∀ v, s.Recorded (R.VAULT_STATUS.base :: eventWords) (s.setFld F.VAULT_STATUS_STATE v) := fun v =>
    (State.Recorded.refl _ s).setFld v List.mem_cons_self
  unfold State.vholdup
  extract_lets st
  split
  · exact (hw _).ev (List.subset_cons_self _ _) _ _
  · split
    · exact (hw _).ev (List.subset_cons_self _ _) _ _
    · exact .refl _ s

theorem holdupUpdate_cases (s : State) : s.flag F.HOLDUP_STATUS_HOLDUP_OK = s.storeGood ∧ s.holdupUpdate = s ∨
    s.holdupUpdate = (s.setFld F.HOLDUP_STATUS_HOLDUP_OK (b2n s.storeGood)).vholdup s.storeGood := by
  unfold State.holdupUpdate
  extract_lets ok
  split
  next h => exact .inl ⟨h.symm, rfl⟩
  next => exact .inr rfl

theorem holdupUpdate_recorded (s : State) : s.Recorded holdupWords s.holdupUpdate := by
  rcases holdupUpdate_cases s with ⟨-, h⟩ | h
  · rw [h]
    exact .refl _ s
  · rw [h]
    exact ((State.Recorded.refl _ s).setFld _ List.mem_cons_self).trans ((vholdup_recorded _ _).mono (List.subset_cons_self _ _))

theorem holdupUpdate_ok (s : State) : s.holdupUpdate.flag F.HOLDUP_STATUS_HOLDUP_OK = s.storeGood := by
  rcases holdupUpdate_cases s with ⟨hg, h⟩ | h
  · rw [h, hg]
  · rw [h, flag_eq_of_word ((vholdup_recorded _ _).word (by decide)), flag_setFld_same _ _ _ _ rfl (by decide)]

/-- The other fields of HOLDUP_STATUS. -/
theorem holdupUpdate_fld (s : State) {f : Fld} (hr : f.reg = R.HOLDUP_STATUS) (h : f.hi < 21 ∨ 21 < f.lo) :
    s.holdupUpdate.fld f = s.fld f := by
  rcases holdupUpdate_cases s with ⟨-, e⟩ | e
  · rw [e]
  · rw [e, fld_eq_of_word ((vholdup_recorded _ _).word (by rw [hr]; decide)),
      fld_setFld_disjoint _ _ hr (by decide) (by decide) h]

theorem holdupUpdate_flag (s : State) {f : Fld} (hr : f.reg = R.HOLDUP_STATUS) (h : f.hi < 21 ∨ 21 < f.lo) :
    s.holdupUpdate.flag f = s.flag f := by rw [State.flag, State.flag, holdupUpdate_fld s hr h]

/-- The other registers of chapter 2. -/
theorem holdupUpdate_word (s : State) {a : Nat} (h : a ∉ holdupWords) : s.holdupUpdate.word a = s.word a :=
  (holdupUpdate_recorded s).word h

theorem setStore_voltage (s : State) {v : Nat} (h : v < 2 ^ 16) : (s.setStore v).fld F.HOLDUP_STATUS_STORE_V = v := by
  rw [State.setStore, holdupUpdate_fld _ rfl (by decide), fld_setFld_same _ _ _ _ _ (by decide) (by decide)]
  exact Nat.mod_eq_of_lt h

theorem setStore_ok (s : State) {v : Nat} (h : v < 2 ^ 16) : (s.setStore v).flag F.HOLDUP_STATUS_HOLDUP_OK =
    (decide (4600 ≤ v) && decide (550 ≤ s.fld F.HOLDUP_CAPACITY_CAP_UF)) := by
  rw [State.setStore, holdupUpdate_ok, State.storeGood, fld_setFld_same _ _ _ _ _ (by decide) (by decide),
    fld_setFld_ne _ _ (by decide)]
  exact congrArg (fun x : Nat => decide (4600 ≤ x) && decide (550 ≤ s.fld F.HOLDUP_CAPACITY_CAP_UF)) (Nat.mod_eq_of_lt h)

/-- The fields of HOLDUP_STATUS but for STORE_V and HOLDUP_OK. -/
theorem setStore_fld (s : State) (v : Nat) {f : Fld} (hr : f.reg = R.HOLDUP_STATUS) (h : 15 < f.lo ∧ (f.hi < 21 ∨ 21 < f.lo)) :
    (s.setStore v).fld f = s.fld f := by
  rw [State.setStore, holdupUpdate_fld _ hr h.2, fld_setFld_disjoint _ _ hr (by decide) (by decide) (.inr h.1)]

theorem setStore_flag (s : State) (v : Nat) {f : Fld} (hr : f.reg = R.HOLDUP_STATUS) (h : 15 < f.lo ∧ (f.hi < 21 ∨ 21 < f.lo)) :
    (s.setStore v).flag f = s.flag f := by rw [State.flag, State.flag, setStore_fld s v hr h]

theorem setStore_recorded (s : State) (v : Nat) : s.Recorded holdupWords (s.setStore v) :=
  ((State.Recorded.refl holdupWords s).setFld v List.mem_cons_self).trans (holdupUpdate_recorded _)

/-! ### The charger -/

theorem chargeOn_charging (s : State) : s.chargeOn.flag F.HOLDUP_STATUS_CHARGING =
    (decide (s.fld F.HOLDUP_STATUS_STORE_V < 4800) && !s.flag F.HOLDUP_STATUS_TEST) :=
  flag_setFld_same s _ 0 0 rfl (by decide)

/-- The charger leaves the other fields of HOLDUP_STATUS alone. -/
theorem chargeOn_fld (s : State) {f : Fld} (hr : f.reg = R.HOLDUP_STATUS) (h : f.hi < 20 ∨ 20 < f.lo) : s.chargeOn.fld f = s.fld f :=
  fld_setFld_disjoint s (e := F.HOLDUP_STATUS_CHARGING) _ hr (by decide) (by decide) h

theorem chargeOn_flag (s : State) {f : Fld} (hr : f.reg = R.HOLDUP_STATUS) (h : f.hi < 20 ∨ 20 < f.lo) :
    s.chargeOn.flag f = s.flag f := by rw [State.flag, State.flag, chargeOn_fld s hr h]

theorem chargeOn_recorded (s : State) {ws : List Nat} (h : R.HOLDUP_STATUS.base ∈ ws) : s.Recorded ws s.chargeOn :=
  (State.Recorded.refl ws s).setFld _ h

end Sys2Proof.Machine
end

section
/-! PROOF. The feeds and the store converter (O11). -/
namespace Sys2Proof.Machine

/-! ### Measuring the feeds -/

/-- The feeds' voltages as measured. -/
def State.feedsRead (s : State) (f1 f2 : Nat) : State := (s.setFld F.FEED_VOLTAGE_F1_V f1).setFld F.FEED_VOLTAGE_F2_V f2

theorem feedsRead_volt (s : State) (f1 f2 : BitVec 16) :
    (s.feedsRead f1.toNat f2.toNat).feedVolt 0 = f1.toNat ∧ (s.feedsRead f1.toNat f2.toNat).feedVolt 1 = f2.toNat := by
  constructor
  · refine (fld_setFld_disjoint _ (e := F.FEED_VOLTAGE_F2_V) (f := F.FEED_VOLTAGE_F1_V) _ rfl (by decide) (by decide) (by decide)).trans ?_
    exact (fld_setFld_same _ _ _ _ _ (by decide) (by decide)).trans (Nat.mod_eq_of_lt f1.isLt)
  · exact (fld_setFld_same _ _ _ _ _ (by decide) (by decide)).trans (Nat.mod_eq_of_lt f2.isLt)

theorem onlyWords_feedsRead (s : State) (f1 f2 : Nat) : s.OnlyWords [R.FEED_VOLTAGE.base] (s.feedsRead f1 f2) :=
  ((State.OnlyWords.refl _ s).setReg _ (by decide)).setReg _ (by decide)

theorem feedValid_of_word {s t : State} (h : t.word R.FEED_STATUS.base = s.word R.FEED_STATUS.base) (f : Nat) :
    t.feedValid f = s.feedValid f := congrArg (bit · f) (reg_eq_of_word (r := R.FEED_STATUS) (i := 0) (j := 0) h)

theorem feedVolt_of_word {s t : State} (h : t.word R.FEED_VOLTAGE.base = s.word R.FEED_VOLTAGE.base) (f : Nat) :
    t.feedVolt f = s.feedVolt f := by
  have h1 : t.fld F.FEED_VOLTAGE_F1_V = s.fld F.FEED_VOLTAGE_F1_V := fld_eq_of_word h
  have h2 : t.fld F.FEED_VOLTAGE_F2_V = s.fld F.FEED_VOLTAGE_F2_V := fld_eq_of_word h
  rw [State.feedVolt, State.feedVolt, h1, h2]

theorem secondCarries_lower {s : State} (h1 : s.feedValid 0 = true) (h : s.feedVolt 1 < s.feedVolt 0) : s.secondCarries = false := by
  have hn : ¬s.feedVolt 0 < s.feedVolt 1 := by omega
  have he : ¬s.feedVolt 0 = s.feedVolt 1 := by omega
  simp [State.secondCarries, h1, hn, he]

theorem secondCarries_higher {s : State} (h2 : s.feedValid 1 = true) (h : s.feedVolt 0 < s.feedVolt 1) : s.secondCarries = true := by
  simp [State.secondCarries, h2, h]

theorem feedMeasure_eq (s : State) (f1 f2 : Nat) : s.feedMeasure f1 f2 = (s.feedsRead f1 f2).feedCarry := rfl

theorem feedMeasure_spec (s : State) (f1 f2 : BitVec 16) :
    let t := (s.feedsRead f1.toNat f2.toNat).feedCarry
    t.feedVolt 0 = f1.toNat ∧ t.feedVolt 1 = f2.toNat ∧
    (s.flag F.HOLDUP_STATUS_CARRYING = false → s.feedValid 0 = true → f2.toNat < f1.toNat →
      t.flag F.FEED_STATUS_F1_CARRY = true ∧ t.flag F.FEED_STATUS_F2_CARRY = false) ∧
    (s.flag F.HOLDUP_STATUS_CARRYING = false → s.feedValid 1 = true → f1.toNat < f2.toNat →
      t.flag F.FEED_STATUS_F2_CARRY = true ∧ t.flag F.FEED_STATUS_F1_CARRY = false) ∧
    State.OnlyWords [R.FEED_VOLTAGE.base, R.FEED_STATUS.base] s t := by
  obtain ⟨h1, h2⟩ := feedsRead_volt s f1 f2
  have hk := (onlyWords_feedsRead s f1.toNat f2.toNat).2
  have hv : ∀ f, (s.feedsRead f1.toNat f2.toNat).feedValid f = s.feedValid f := feedValid_of_word (hk _ (by decide))
  have hc : (s.feedsRead f1.toNat f2.toNat).flag F.HOLDUP_STATUS_CARRYING = s.flag F.HOLDUP_STATUS_CARRYING :=
    flag_eq_of_word (hk _ (by decide))
  have hf : ∀ f, (s.feedsRead f1.toNat f2.toNat).feedCarry.feedVolt f = (s.feedsRead f1.toNat f2.toNat).feedVolt f :=
    feedVolt_of_word (feedCarry_word _ (by decide))
  intro t
  rw [feedCarry_first, feedCarry_second, hc, hv]
  refine ⟨(hf 0).trans h1, (hf 1).trans h2, fun hcar h0 hlt => ?first, fun hcar h1' hlt => ?second, ?frame⟩
  case first =>
    rw [secondCarries_lower ((hv 0).trans h0) (by rwa [h1, h2]), hcar, h0]
    exact ⟨rfl, rfl⟩
  case second =>
    rw [secondCarries_higher ((hv 1).trans h1') (by rwa [h1, h2]), hcar]
    exact ⟨rfl, Bool.and_false _⟩
  case frame =>
    exact ((onlyWords_feedsRead s _ _).mono (by decide)).trans ((onlyWords_feedCarry _).mono (by decide))

/-! ### A feed is found valid -/

/-- FEED_STATUS of a feed that is found valid. -/
def State.feedShown (s : State) (f : Nat) : State :=
  ((s.setBit R.FEED_STATUS f true).setBit R.FEED_STATUS (2 + f) false).setBit R.FEED_STATUS (4 + f) false

theorem feedShown_bit (s : State) {f : Nat} (hf : f < 2) (m : Nat) : bit ((s.feedShown f).reg R.FEED_STATUS) m =
    if m = 4 + f ∨ m = 2 + f then false else if m = f then true else bit (s.reg R.FEED_STATUS) m := by
  rw [State.feedShown, bit_setBit _ _ (by omega), bit_setBit _ _ (by omega), bit_setBit _ _ (by omega), ite_or]

theorem feedShown_recorded (s : State) (f : Nat) : s.Recorded [R.FEED_STATUS.base] (s.feedShown f) :=
  (((State.Recorded.refl _ s).setReg _ (by decide)).setReg _ (by decide)).setReg _ (by decide)

/-- A feed remembered as lost, or no longer. -/
def State.setLost (s : State) (f : Nat) (lost : Bool) : State := { s with power.feedLost := nset false s.power.feedLost f lost }

theorem State.Recorded.setLost {ws : List Nat} {s t : State} (h : s.Recorded ws t) (f : Nat) (lost : Bool) :
    (s.setLost f lost).Recorded ws (t.setLost f lost) := ⟨congrArg (State.setLost · f lost) h.1, h.2⟩

/-- A feed that is found valid, no longer remembered as lost; the store converter does not carry. -/
def State.feedBack (s : State) (f : Nat) : State :=
  ((s.feedShown f).setLost f false).setFld F.HOLDUP_STATUS_CARRYING 0

/-- Where the charge of the store is allowed to go on. -/
def State.charging (s : State) : State := if s.stopOver ∨ s.stop ≠ .powerFail then s.chargeOn else s

theorem feedGood_eq {s : State} {f : Nat} (h : s.feedValid f = false) (hv : inR (s.feedVolt f) 900 6050 = true) : s.feedGood f =
    let u := (s.feedBack f).charging.feedCarry
    if nget false s.power.feedLost f then u.ev 0x0203 else u := by
  unfold State.feedGood
  rw [if_neg (by rw [h, hv]; decide)]
  rfl

theorem charging_recorded (s : State) : s.Recorded [R.HOLDUP_STATUS.base] s.charging := by
  unfold State.charging
  split
  · exact chargeOn_recorded s List.mem_cons_self
  · exact .refl _ s

theorem charging_flag (s : State) {f : Fld} (hr : f.reg = R.HOLDUP_STATUS) (h : f.hi < 20 ∨ 20 < f.lo) :
    s.charging.flag f = s.flag f := by
  unfold State.charging
  split
  · exact chargeOn_flag s hr h
  · rfl

/-- The words that a feed found valid changes. -/
def feedWords : List Nat := R.FEED_STATUS.base :: R.HOLDUP_STATUS.base :: eventWords

theorem feedBack_recorded (s : State) (f : Nat) : (s.setLost f false).Recorded feedWords (s.feedBack f) :=
  (((feedShown_recorded s f).mono (by decide)).setLost f false).setFld _ (by decide)

theorem feedGood_spec {s : State} (f : Fin 2) (h : s.feedValid f = false) (hv : inR (s.feedVolt f) 900 6050 = true) :
    (s.setLost f false).Recorded feedWords (s.feedGood f) ∧
    (s.feedGood f).flag F.HOLDUP_STATUS_CARRYING = false ∧
    ∀ m < 6, bit ((s.feedGood f).reg R.FEED_STATUS) m = bit ((s.feedShown f).reg R.FEED_STATUS) m := by
  rw [feedGood_eq h hv]
  extract_lets u
  have hu : (s.setLost f false).Recorded feedWords u :=
    (((feedBack_recorded s f).trans ((charging_recorded _).mono (by decide))).trans
      ((onlyWords_feedCarry _).recorded.mono (by decide)))
  have hc : u.flag F.HOLDUP_STATUS_CARRYING = false :=
    (flag_eq_of_word (feedCarry_word _ (by decide))).trans
      ((charging_flag _ rfl (by decide)).trans (flag_setFld_same _ false 0 0 rfl (by decide)))
  have hb : ∀ m < 6, bit (u.reg R.FEED_STATUS) m = bit ((s.feedShown f).reg R.FEED_STATUS) m := fun m hm =>
    (feedCarry_bit _ hm).trans (congrArg (bit · m) (reg_eq_of_word
      (((charging_recorded _).word (by decide)).trans (word_setWord_ne _ _ (by decide)))))
  split
  · exact ⟨hu.ev (by decide) _ _, (ev_flag _ _ _ (by decide)).trans hc, fun m hm =>
      (congrArg (bit · m) (ev_reg _ _ _ (by decide))).trans (hb m hm)⟩
  · exact ⟨hu, hc, hb⟩

/-! ### A feed is lost -/

/-- The bit of FEED_STATUS that shows why feed f is invalid. -/
def feedCause (f : Nat) (ov : Bool) : Nat := (if ov then 4 else 2) + f

/-- FEED_STATUS of a feed that is lost. -/
def State.feedDropped (s : State) (f : Nat) (ov : Bool) : State :=
  ((s.setBit R.FEED_STATUS f false).setBit R.FEED_STATUS (feedCause f ov) true).feedCarry

theorem feedCause_bounds (f : Fin 2) (ov : Bool) : 2 ≤ feedCause f ov ∧ feedCause f ov < 6 := by
  cases ov
  · rw [feedCause, if_neg (by decide)]
    omega
  · rw [feedCause, if_pos rfl]
    omega

theorem feedDropped_bit (s : State) (f : Fin 2) (ov : Bool) {m : Nat} (hm : m < 6) :
    bit ((s.feedDropped f ov).reg R.FEED_STATUS) m =
      if m = feedCause f ov then true else if m = f then false else bit (s.reg R.FEED_STATUS) m := by
  have hc := feedCause_bounds f ov
  rw [State.feedDropped, feedCarry_bit _ hm, bit_setBit _ _ (by omega), bit_setBit _ _ (by omega)]

theorem onlyWords_feedDropped (s : State) (f : Nat) (ov : Bool) : s.OnlyWords [R.FEED_STATUS.base] (s.feedDropped f ov) :=
  (((State.OnlyWords.refl _ s).setReg _ (by decide)).setReg _ (by decide)).trans (onlyWords_feedCarry _)

theorem feedBad_eq {s : State} (f : Fin 2) (ov : Bool) (h : s.feedValid f = true) : s.feedBad f ov =
    if s.feedValid (1 - f.val) then ((s.feedDropped f ov).setLost f true).ev (if ov then 0x0202 else 0x0201)
    else s.feedDropped f ov := by
  have hc := feedCause_bounds f ov
  have hv : (s.feedDropped f ov).feedValid (1 - f.val) = s.feedValid (1 - f.val) := by
    rw [State.feedValid, feedDropped_bit s f ov (by omega), if_neg (by omega), if_neg (by omega)]
    rfl
  rw [← hv]
  unfold State.feedBad
  rw [if_neg (by rw [h]; decide)]
  rfl

/-- The words that the loss of a feed changes. -/
def lossWords : List Nat := R.FEED_STATUS.base :: eventWords

/-- What a loss leaves but for registers and events: the feed is remembered as lost where the other one is valid. -/
def State.feedNoted (s : State) (f : Nat) : State := if s.feedValid (1 - f) then s.setLost f true else s

theorem feedNoted_eq (s : State) (f : Nat) : ∃ x, s.feedNoted f = { s with power.feedLost := x } := by
  unfold State.feedNoted
  split
  · exact ⟨_, rfl⟩
  · exact ⟨s.power.feedLost, rfl⟩

theorem feedNoted_lost (s : State) (f : Nat) :
    nget false (s.feedNoted f).power.feedLost f = (s.feedValid (1 - f) || nget false s.power.feedLost f) := by
  unfold State.feedNoted
  split
  next h => rw [h, Bool.true_or]; exact nget_nset_same false s.power.feedLost f true
  next h => rw [Bool.eq_false_iff.mpr h, Bool.false_or]

theorem feedBad_spec {s : State} (f : Fin 2) (ov : Bool) (h : s.feedValid f = true) :
    (s.feedNoted f).Recorded lossWords (s.feedBad f ov) ∧
    ∀ m < 6, bit ((s.feedBad f ov).reg R.FEED_STATUS) m = bit ((s.feedDropped f ov).reg R.FEED_STATUS) m := by
  have hd : s.Recorded lossWords (s.feedDropped f ov) := (onlyWords_feedDropped s f ov).recorded.mono (by decide)
  rw [feedBad_eq f ov h, State.feedNoted]
  split
  · exact ⟨(hd.setLost f true).ev (List.subset_cons_self _ _) _ _, fun m _ => congrArg (bit · m) (ev_reg _ _ _ (by decide))⟩
  · exact ⟨hd, fun _ _ => rfl⟩

theorem feedBad_result {s : State} (f : Fin 2) (ov : Bool) (h : s.feedValid f = true) :
    (s.feedBad f ov).feedValid f = false ∧ bit ((s.feedBad f ov).reg R.FEED_STATUS) (feedCause f ov) = true ∧
    (s.feedBad f ov).feedValid (1 - f.val) = s.feedValid (1 - f.val) ∧
    nget false (s.feedBad f ov).power.feedLost f = (s.feedValid (1 - f.val) || nget false s.power.feedLost f) ∧
    s.feedBad f ov = { s with regs := (s.feedBad f ov).regs, power.feedLost := (s.feedBad f ov).power.feedLost,
                              vault := (s.feedBad f ov).vault } ∧ s.Keeps lossWords (s.feedBad f ov) := by
  obtain ⟨hr, hb⟩ := feedBad_spec f ov h
  have hc := feedCause_bounds f ov
  have hbit : ∀ m < 6, bit ((s.feedBad f ov).reg R.FEED_STATUS) m =
      if m = feedCause f ov then true else if m = f then false else bit (s.reg R.FEED_STATUS) m := fun m hm =>
    (hb m hm).trans (feedDropped_bit s f ov hm)
  refine ⟨?valid, ?cause, ?other, ?lost, ?frame⟩
  case valid => exact (hbit f (by omega)).trans (by rw [if_neg (by omega), if_pos rfl])
  case cause => exact (hbit _ hc.2).trans (if_pos rfl)
  case other => exact (hbit _ (by omega)).trans (by rw [if_neg (by omega), if_neg (by omega)]; rfl)
  case lost => rw [hr.power, feedNoted_lost]
  case frame =>
    obtain ⟨x, hx⟩ := feedNoted_eq s f
    rw [hx] at hr
    exact hr.of_feedLost

/-! ### The store converter and a dip -/

/-- The words that the store converter and a dip change. -/
def dipWords : List Nat := R.FEED_STATUS.base :: holdupWords

/-- The store converter carries the load, so no feed does. -/
def State.converterOn (s : State) : State := (s.setFld F.HOLDUP_STATUS_CARRYING 1).feedCarry

/-- A dip that is over: the feeds carry again, and it is counted. -/
def State.dipOver (s : State) : State := ((s.setFld F.HOLDUP_STATUS_CARRYING 0).bump F.HOLDUP_STATUS_DIP_COUNT).feedCarry

theorem recorded_feedCarry (s : State) : s.Recorded dipWords s.feedCarry :=
  (onlyWords_feedCarry s).recorded.mono (by decide)

theorem setStore_feedStatus (s : State) (v : Nat) : (s.setStore v).word R.FEED_STATUS.base = s.word R.FEED_STATUS.base :=
  (setStore_recorded s v).word (by decide)

theorem storeCarry_spec (s : State) (v : BitVec 16) :
    (s.storeCarry v.toNat).flag F.HOLDUP_STATUS_CARRYING = true ∧ (s.storeCarry v.toNat).fld F.HOLDUP_STATUS_STORE_V = v.toNat ∧
    (s.storeCarry v.toNat).flag F.FEED_STATUS_F1_CARRY = false ∧ (s.storeCarry v.toNat).flag F.FEED_STATUS_F2_CARRY = false ∧
    (s.storeCarry v.toNat).flag F.HOLDUP_STATUS_HOLDUP_OK =
      (decide (4600 ≤ v.toNat) && decide (550 ≤ s.fld F.HOLDUP_CAPACITY_CAP_UF)) ∧
    s.Recorded dipWords (s.storeCarry v.toNat) := by
  have hc : (s.setFld F.HOLDUP_STATUS_CARRYING 1).flag F.HOLDUP_STATUS_CARRYING = true := flag_setFld_same s true 0 0 rfl (by decide)
  have hcap : s.converterOn.fld F.HOLDUP_CAPACITY_CAP_UF = s.fld F.HOLDUP_CAPACITY_CAP_UF :=
    fld_eq_of_word ((feedCarry_word _ (by decide)).trans (word_setWord_ne _ _ (by decide)))
  have hr : s.Recorded dipWords s.converterOn :=
    ((State.Recorded.refl dipWords s).setFld _ (by decide)).trans (recorded_feedCarry _)
  refine ⟨?_, setStore_voltage _ v.isLt, ?_, ?_, ?_, hr.trans ((setStore_recorded _ _).mono (List.subset_cons_self _ _))⟩
  · exact (setStore_flag s.converterOn _ rfl (by decide)).trans ((flag_eq_of_word (feedCarry_word _ (by decide))).trans hc)
  · refine (flag_eq_of_word (setStore_feedStatus s.converterOn _)).trans ((feedCarry_first _).trans ?_)
    rw [hc]
    rfl
  · refine (flag_eq_of_word (setStore_feedStatus s.converterOn _)).trans ((feedCarry_second _).trans ?_)
    rw [hc]
    rfl
  · rw [← hcap]
    exact setStore_ok s.converterOn v.isLt

theorem dipOver_fld (s : State) {f : Fld} (hr : f.reg = R.HOLDUP_STATUS) :
    s.dipOver.fld f = ((s.setFld F.HOLDUP_STATUS_CARRYING 0).bump F.HOLDUP_STATUS_DIP_COUNT).fld f :=
  fld_eq_of_word (feedCarry_word _ (by rw [hr]; decide))

theorem dipOver_recorded (s : State) : s.Recorded dipWords s.dipOver :=
  (((State.Recorded.refl dipWords s).setFld _ (by decide)).setFld _ (by decide)).trans (recorded_feedCarry _)

theorem dipOver_carrying (s : State) : s.dipOver.flag F.HOLDUP_STATUS_CARRYING = false := by
  rw [State.flag, dipOver_fld s rfl, State.bump]
  simp (disch := decide) only [fld_setFld_disjoint, fld_setFld_same]
  rfl

theorem dipOver_count (s : State) :
    s.dipOver.fld F.HOLDUP_STATUS_DIP_COUNT = min (s.fld F.HOLDUP_STATUS_DIP_COUNT + 1) 255 := by
  have hd : (s.setFld F.HOLDUP_STATUS_CARRYING 0).fld F.HOLDUP_STATUS_DIP_COUNT = s.fld F.HOLDUP_STATUS_DIP_COUNT :=
    fld_setFld_disjoint s (e := F.HOLDUP_STATUS_CARRYING) _ rfl (by decide) (by decide) (by decide)
  rw [dipOver_fld s rfl, State.bump, fld_setFld_same _ _ _ _ _ (by decide) (by decide), hd]
  exact Nat.mod_eq_of_lt (lt_of_le_of_lt (min_le_right _ _) (by decide))

theorem dipOver_test (s : State) : s.dipOver.flag F.HOLDUP_STATUS_TEST = s.flag F.HOLDUP_STATUS_TEST := by
  rw [State.flag, dipOver_fld s rfl, State.bump]
  simp (disch := decide) only [fld_setFld_disjoint]
  rfl

theorem holdupDip_eq {s : State} (v : Nat) (h : s.supplyValid = true) : s.holdupDip v = (s.dipOver.setStore v).chargeOn :=
  if_neg (by rw [h]; decide)

theorem holdupDip_spec {s : State} (v : BitVec 16) (h : s.supplyValid = true) :
    (s.holdupDip v.toNat).flag F.HOLDUP_STATUS_CARRYING = false ∧ (s.holdupDip v.toNat).fld F.HOLDUP_STATUS_STORE_V = v.toNat ∧
    (s.holdupDip v.toNat).fld F.HOLDUP_STATUS_DIP_COUNT = min (s.fld F.HOLDUP_STATUS_DIP_COUNT + 1) 255 ∧
    (s.holdupDip v.toNat).flag F.HOLDUP_STATUS_HOLDUP_OK =
      (decide (4600 ≤ v.toNat) && decide (550 ≤ s.fld F.HOLDUP_CAPACITY_CAP_UF)) ∧
    (s.holdupDip v.toNat).flag F.HOLDUP_STATUS_CHARGING = (decide (v.toNat < 4800) && !s.flag F.HOLDUP_STATUS_TEST) ∧
    s.Recorded dipWords (s.holdupDip v.toNat) := by
  have hcap : s.dipOver.fld F.HOLDUP_CAPACITY_CAP_UF = s.fld F.HOLDUP_CAPACITY_CAP_UF :=
    fld_eq_of_word ((dipOver_recorded s).word (by decide))
  have hv := setStore_voltage s.dipOver v.isLt
  rw [holdupDip_eq _ h]
  refine ⟨?carrying, (chargeOn_fld _ rfl (by decide)).trans hv, ?count, ?ok, ?charging, ?frame⟩
  case carrying =>
    exact (chargeOn_flag _ rfl (by decide)).trans ((setStore_flag _ _ rfl (by decide)).trans (dipOver_carrying s))
  case count =>
    exact (chargeOn_fld _ rfl (by decide)).trans ((setStore_fld _ _ rfl (by decide)).trans (dipOver_count s))
  case ok =>
    rw [chargeOn_flag _ rfl (by decide), setStore_ok _ v.isLt, hcap]
  case charging =>
    rw [chargeOn_charging, hv, setStore_flag _ _ rfl (by decide), dipOver_test]
  case frame =>
    exact ((dipOver_recorded s).trans ((setStore_recorded _ _).mono (List.subset_cons_self _ _))).trans
      (chargeOn_recorded _ (by decide))

/-! ### O11 -/

/-- Settles O11: each command by the words that it writes; a feed's loss and return by the bits of FEED_STATUS. -/
theorem feedsAndTheStoreConverter : Obligations.FeedsAndTheStoreConverter := by
  refine ⟨?measure, ?valid, ?low, ?high, ?carry, ?dip⟩
  case measure =>
    exact fun s f1 f2 => yields_next rfl (feedMeasure_eq s _ _) (feedMeasure_spec s f1 f2)
  case valid =>
    intro s f h hv
    obtain ⟨hr, hc, hb⟩ := feedGood_spec f h hv
    have hbit : ∀ m < 6, bit ((s.feedGood f).reg R.FEED_STATUS) m =
        if m = 4 + f.val ∨ m = 2 + f.val then false else if m = f then true else bit (s.reg R.FEED_STATUS) m := fun m hm =>
      (hb m hm).trans (feedShown_bit s f.isLt m)
    refine ⟨s.feedGood f, rfl, ?_, ?_, ?_, ?_, hc, ?_, hr.of_feedLost⟩
    · exact (hbit f (by omega)).trans (by rw [if_neg (by omega), if_pos rfl])
    · exact (hbit (1 - f.val) (by omega)).trans (by rw [if_neg (by omega), if_neg (by omega)]; rfl)
    · exact (hbit _ (by omega)).trans (if_pos (.inr rfl))
    · exact (hbit _ (by omega)).trans (if_pos (.inl rfl))
    · rw [hr.power]
      exact nget_nset_same false s.power.feedLost f.val false
  case low =>
    exact fun s f h => ⟨s.feedBad f false, rfl, feedBad_result f false h⟩
  case high =>
    exact fun s f h => ⟨s.feedBad f true, rfl, feedBad_result f true h⟩
  case carry =>
    exact fun s v => ⟨s.storeCarry v.toNat, rfl, storeCarry_spec s v⟩
  case dip =>
    exact fun s v h => ⟨s.holdupDip v.toNat, rfl, holdupDip_spec v h⟩

end Sys2Proof.Machine
end

section
/-! PROOF. The hold-up store: its measurements, its charge and the charge time-out (O12). -/
namespace Sys2Proof.Machine

/-! ### A capacitance measured -/

/-- The words that the measurements and the charge of the store change. -/
def storeWords : List Nat := R.HOLDUP_STATUS.base :: R.HOLDUP_CAPACITY.base :: R.VAULT_STATUS.base :: eventWords

/-- A measured capacitance in its registers; charge: the measurement of a start. -/
def State.capShown (s : State) (cap : Nat) (charge : Bool) : State :=
  (((s.setFld F.HOLDUP_CAPACITY_CAP_UF cap).setFld F.HOLDUP_CAPACITY_HOLD_MS (min 0xFFFF (storeMs cap))).setFld
    F.HOLDUP_STATUS_DEGRADED (b2n (decide (cap < 800)))).setFld F.HOLDUP_STATUS_FAILED
    (b2n (decide (cap < 550) || (s.flag F.HOLDUP_STATUS_FAILED && !charge)))

theorem onlyWords_capShown (s : State) (cap : Nat) (charge : Bool) :
    s.OnlyWords [R.HOLDUP_STATUS.base, R.HOLDUP_CAPACITY.base] (s.capShown cap charge) :=
  ((((State.OnlyWords.refl _ s).setReg _ (by decide)).setReg _ (by decide)).setReg _ (by decide)).setReg _ (by decide)

theorem capShown_cap (s : State) {cap : Nat} (charge : Bool) (h : cap < 2 ^ 16) :
    (s.capShown cap charge).fld F.HOLDUP_CAPACITY_CAP_UF = cap := by
  unfold State.capShown
  simp (disch := decide) only [fld_setFld_ne, fld_setFld_disjoint, fld_setFld_same]
  exact Nat.mod_eq_of_lt h

theorem capShown_hold (s : State) (cap : Nat) (charge : Bool) :
    (s.capShown cap charge).fld F.HOLDUP_CAPACITY_HOLD_MS = min 0xFFFF (storeMs cap) := by
  unfold State.capShown
  simp (disch := decide) only [fld_setFld_ne, fld_setFld_same]
  exact Nat.mod_eq_of_lt (lt_of_le_of_lt (min_le_left _ _) (by decide))

theorem capShown_degraded (s : State) (cap : Nat) (charge : Bool) :
    (s.capShown cap charge).flag F.HOLDUP_STATUS_DEGRADED = decide (cap < 800) := by
  unfold State.capShown
  simp (disch := decide) only [flag_setFld_disjoint, flag_setFld_same]

theorem capShown_failed (s : State) (cap : Nat) (charge : Bool) :
    (s.capShown cap charge).flag F.HOLDUP_STATUS_FAILED =
      (decide (cap < 550) || (s.flag F.HOLDUP_STATUS_FAILED && !charge)) := by
  unfold State.capShown
  simp (disch := decide) only [flag_setFld_same]

/-- The other fields of HOLDUP_STATUS. -/
theorem capShown_fld (s : State) (cap : Nat) (charge : Bool) {f : Fld} (hr : f.reg = R.HOLDUP_STATUS) (h : f.hi < 16 ∨ 17 < f.lo) :
    (s.capShown cap charge).fld f = s.fld f := by
  unfold State.capShown
  rw [fld_setFld_disjoint _ _ hr (by decide) (by decide) (by simp only; omega),
    fld_setFld_disjoint _ _ hr (by decide) (by decide) (by simp only; omega),
    fld_setFld_ne _ _ (by rw [hr]; decide), fld_setFld_ne _ _ (by rw [hr]; decide)]

/-- The events of a capacitance below its limits. -/
def State.capNoted (s t : State) (cap : Nat) : State :=
  let u := if decide (cap < 800) && !s.flag F.HOLDUP_STATUS_DEGRADED then t.ev 0x0208 else t
  if decide (cap < 550) && !s.flag F.HOLDUP_STATUS_FAILED then u.ev 0x0209 else u

theorem capNoted_logged (s t : State) (cap : Nat) : t.Logged (s.capNoted t cap) := by
  have hi : ∀ {c : Prop} [Decidable c] {u : State} (code : Nat), t.Logged u → t.Logged (if c then u.ev code else u) :=
    fun code hu => keeps_ite (hu.ev code []) hu
  exact hi _ (hi _ (.refl t))

theorem capMeasured_eq (s : State) (cap : Nat) (charge : Bool) : s.capMeasured cap charge =
    (s.capNoted (s.capShown (min cap 0xFFFF) charge) (min cap 0xFFFF)).holdupUpdate := rfl

section
variable (s : State) (cap : Nat) (charge : Bool)

/-- HOLDUP_STATUS and HOLDUP_CAPACITY, before HOLDUP_OK follows them. -/
theorem capNoted_word {a : Nat} (h : a ∉ eventWords) :
    (s.capNoted (s.capShown cap charge) cap).word a = (s.capShown cap charge).word a :=
  (capNoted_logged s _ cap).2 a h

theorem capMeasured_status {f : Fld} (hr : f.reg = R.HOLDUP_STATUS) (h : f.hi < 21 ∨ 21 < f.lo) :
    (s.capMeasured cap charge).fld f = (s.capShown (min cap 0xFFFF) charge).fld f := by
  rw [capMeasured_eq, holdupUpdate_fld _ hr h]
  exact fld_eq_of_word (capNoted_word s _ charge (by rw [hr]; decide))

theorem capMeasured_statusFlag {f : Fld} (hr : f.reg = R.HOLDUP_STATUS) (h : f.hi < 21 ∨ 21 < f.lo) :
    (s.capMeasured cap charge).flag f = (s.capShown (min cap 0xFFFF) charge).flag f := by
  rw [State.flag, State.flag, capMeasured_status s cap charge hr h]

theorem capMeasured_capacity {f : Fld} (hr : f.reg = R.HOLDUP_CAPACITY) :
    (s.capMeasured cap charge).fld f = (s.capShown (min cap 0xFFFF) charge).fld f := by
  rw [capMeasured_eq]
  exact fld_eq_of_word ((holdupUpdate_word _ (by rw [hr]; decide)).trans (capNoted_word s _ charge (by rw [hr]; decide)))

theorem capMeasured_ok : (s.capMeasured cap charge).flag F.HOLDUP_STATUS_HOLDUP_OK =
    (decide (4600 ≤ s.fld F.HOLDUP_STATUS_STORE_V) && decide (550 ≤ min cap 0xFFFF)) := by
  have hc : min cap 0xFFFF < 2 ^ 16 := by omega
  rw [capMeasured_eq, holdupUpdate_ok, State.storeGood, fld_eq_of_word (capNoted_word s _ charge (by decide)),
    fld_eq_of_word (capNoted_word s _ charge (by decide)), capShown_fld s _ charge rfl (by decide), capShown_cap s charge hc]

theorem capMeasured_recorded : s.Recorded storeWords (s.capMeasured cap charge) := by
  have hl : s.Recorded storeWords (s.capNoted (s.capShown (min cap 0xFFFF) charge) (min cap 0xFFFF)) :=
    ((onlyWords_capShown s _ charge).recorded.mono (by decide)).trans (State.Recorded.mono (capNoted_logged s _ _) (by decide))
  exact hl.trans ((holdupUpdate_recorded _).mono (by decide))
end

theorem State.Recorded.storeFrame {s t : State} (h : s.Recorded storeWords t) :
    t = { s with regs := t.regs, power.storeReady := t.power.storeReady, vault := t.vault } ∧ s.Keeps storeWords t :=
  State.Recorded.of_storeReady (x := s.power.storeReady) h

/-! ### The measurement of a start -/

theorem chargeMeasure_eq {s : State} (us : Nat) (h : s.supplyValid = true) :
    s.chargeMeasure us = (s.setFld F.HOLDUP_STATUS_STORE_V 4000).capMeasured (3 * us / 1000) true :=
  if_neg (by rw [h]; decide)

theorem chargeMeasure_spec {s : State} (us : Nat) (h : s.supplyValid = true) :
    let t := s.chargeMeasure us
    t.fld F.HOLDUP_CAPACITY_CAP_UF = min (3 * us / 1000) 0xFFFF ∧ t.fld F.HOLDUP_STATUS_STORE_V = 4000 ∧
    t.flag F.HOLDUP_STATUS_DEGRADED = decide (min (3 * us / 1000) 0xFFFF < 800) ∧
    t.flag F.HOLDUP_STATUS_FAILED = decide (min (3 * us / 1000) 0xFFFF < 550) ∧
    t.flag F.HOLDUP_STATUS_HOLDUP_OK = false ∧ s.Recorded storeWords t := by
  have hc : min (3 * us / 1000) 0xFFFF < 2 ^ 16 := by omega
  have hv : (s.setFld F.HOLDUP_STATUS_STORE_V 4000).fld F.HOLDUP_STATUS_STORE_V = 4000 :=
    fld_setFld_same s _ _ _ _ (by decide) (by decide)
  intro t
  unfold t
  rw [chargeMeasure_eq us h, capMeasured_capacity _ _ _ rfl, capMeasured_status _ _ _ rfl (by decide),
    capMeasured_statusFlag _ _ _ rfl (by decide), capMeasured_statusFlag _ _ _ rfl (by decide), capMeasured_ok,
    capShown_cap _ _ hc, capShown_fld _ _ _ rfl (by decide), hv, capShown_degraded, capShown_failed, Bool.not_true,
    Bool.and_false, Bool.or_false]
  exact ⟨rfl, rfl, rfl, rfl, rfl, ((State.Recorded.refl storeWords s).setFld _ (by decide)).trans (capMeasured_recorded _ _ _)⟩

/-! ### The discharge test -/

theorem testStart_eq {s : State} (h1 : s.alive = true) (h2 : s.supplyValid = true) (h3 : s.flag F.HOLDUP_STATUS_TEST = false) :
    s.testStart = (s.setFld F.HOLDUP_STATUS_TEST 1).setFld F.HOLDUP_STATUS_CHARGING 0 :=
  if_neg (by rw [h1, h2, h3]; decide)

/-- The store after the drop of a test, its charge going on. -/
def State.testOver (s : State) (mv : Nat) : State :=
  let u := s.setFld F.HOLDUP_STATUS_TEST 0
  (u.setFld F.HOLDUP_STATUS_STORE_V (u.fld F.HOLDUP_STATUS_STORE_V - mv / 10)).chargeOn

theorem testStop_eq {s : State} (us mv : Nat) (h : s.flag F.HOLDUP_STATUS_TEST = true) :
    s.testStop us mv = (s.testOver mv).capMeasured (if mv = 0 then 0xFFFF else 100 * us / mv) false :=
  if_neg (by rw [h]; decide)

theorem storeVoltage_lt (s : State) : s.fld F.HOLDUP_STATUS_STORE_V < 2 ^ 16 := Nat.mod_lt _ (by decide)

theorem testOver_eq (s : State) (mv : Nat) : s.testOver mv =
    ((s.setFld F.HOLDUP_STATUS_TEST 0).setFld F.HOLDUP_STATUS_STORE_V (s.fld F.HOLDUP_STATUS_STORE_V - mv / 10)).chargeOn := by
  have hv : (s.setFld F.HOLDUP_STATUS_TEST 0).fld F.HOLDUP_STATUS_STORE_V = s.fld F.HOLDUP_STATUS_STORE_V :=
    fld_setFld_disjoint s (e := F.HOLDUP_STATUS_TEST) _ rfl (by decide) (by decide) (by decide)
  rw [State.testOver, hv]

theorem testOver_spec (s : State) (mv : Nat) :
    (s.testOver mv).flag F.HOLDUP_STATUS_TEST = false ∧
    (s.testOver mv).fld F.HOLDUP_STATUS_STORE_V = s.fld F.HOLDUP_STATUS_STORE_V - mv / 10 ∧
    (s.testOver mv).flag F.HOLDUP_STATUS_CHARGING = decide (s.fld F.HOLDUP_STATUS_STORE_V - mv / 10 < 4800) ∧
    (s.testOver mv).flag F.HOLDUP_STATUS_FAILED = s.flag F.HOLDUP_STATUS_FAILED ∧ s.Recorded storeWords (s.testOver mv) := by
  have hlt := storeVoltage_lt s
  have hm : (s.fld F.HOLDUP_STATUS_STORE_V - mv / 10) % 2 ^ 16 = s.fld F.HOLDUP_STATUS_STORE_V - mv / 10 :=
    Nat.mod_eq_of_lt (by omega)
  have ht : (s.setFld F.HOLDUP_STATUS_TEST 0).flag F.HOLDUP_STATUS_TEST = false := flag_setFld_same s false 0 0 rfl (by decide)
  rw [testOver_eq, chargeOn_charging, chargeOn_flag _ rfl (by decide), chargeOn_flag _ rfl (by decide),
    chargeOn_fld _ rfl (by decide)]
  simp (disch := decide) only [flag_setFld_disjoint, fld_setFld_same]
  rw [ht]
  refine ⟨rfl, hm, ?_, trivial, ?_⟩
  · rw [Bool.not_false, Bool.and_true]
    exact congrArg (fun v : Nat => decide (v < 4800)) hm
  · exact (((State.Recorded.refl storeWords s).setFld _ (by decide)).setFld _ (by decide)).trans (chargeOn_recorded _ (by decide))

theorem testStop_spec {s : State} (us mv : Nat) (h : s.flag F.HOLDUP_STATUS_TEST = true) :
    let t := s.testStop us mv
    let cap := if mv = 0 then 0xFFFF else min (100 * us / mv) 0xFFFF
    t.flag F.HOLDUP_STATUS_TEST = false ∧ t.fld F.HOLDUP_STATUS_STORE_V = s.fld F.HOLDUP_STATUS_STORE_V - mv / 10 ∧
    t.flag F.HOLDUP_STATUS_CHARGING = decide (s.fld F.HOLDUP_STATUS_STORE_V - mv / 10 < 4800) ∧
    t.fld F.HOLDUP_CAPACITY_CAP_UF = cap ∧ t.fld F.HOLDUP_CAPACITY_HOLD_MS = min 0xFFFF (storeMs cap) ∧
    t.flag F.HOLDUP_STATUS_DEGRADED = decide (cap < 800) ∧
    t.flag F.HOLDUP_STATUS_FAILED = (decide (cap < 550) || s.flag F.HOLDUP_STATUS_FAILED) ∧ s.Recorded storeWords t := by
  intro t cap
  obtain ⟨htest, hv, hch, hfail, hr⟩ := testOver_spec s mv
  have hcap : min (if mv = 0 then 0xFFFF else 100 * us / mv) 0xFFFF = cap := by
    unfold cap
    split
    · rfl
    · rfl
  have hc : cap < 2 ^ 16 := by omega
  have htc : ∀ {f : Fld}, f.reg = R.HOLDUP_STATUS → f.hi < 16 ∨ 17 < f.lo →
      ((s.testOver mv).capShown cap false).flag f = (s.testOver mv).flag f := fun hr h => by
    rw [State.flag, capShown_fld _ _ _ hr h, State.flag]
  unfold t
  rw [testStop_eq us mv h, capMeasured_statusFlag _ _ _ rfl (by decide), capMeasured_status _ _ _ rfl (by decide),
    capMeasured_statusFlag _ _ _ rfl (by decide), capMeasured_capacity _ _ _ rfl, capMeasured_capacity _ _ _ rfl,
    capMeasured_statusFlag _ _ _ rfl (by decide), capMeasured_statusFlag _ _ _ rfl (by decide), hcap, htc rfl (by decide),
    htc rfl (by decide), capShown_fld _ _ _ rfl (by decide), capShown_cap _ _ hc, capShown_hold, capShown_degraded,
    capShown_failed, hfail, Bool.not_false, Bool.and_true]
  exact ⟨htest, hv, hch, rfl, rfl, rfl, rfl, hr.trans (capMeasured_recorded _ _ _)⟩

/-! ### The charged store and the charge time-out -/

theorem storeCharged_eq {s : State} (h : s.supplyValid = true) :
    s.storeCharged = State.setStore { s with power.storeReady := true } (max 4600 (s.fld F.HOLDUP_STATUS_STORE_V)) :=
  if_neg (by rw [h]; decide)

theorem storeCharged_spec {s : State} (h : s.supplyValid = true) :
    let t := s.storeCharged
    t.power.storeReady = true ∧ t.fld F.HOLDUP_STATUS_STORE_V = max 4600 (s.fld F.HOLDUP_STATUS_STORE_V) ∧
    t.flag F.HOLDUP_STATUS_HOLDUP_OK = decide (550 ≤ s.fld F.HOLDUP_CAPACITY_CAP_UF) ∧
    State.Recorded storeWords { s with power.storeReady := true } t := by
  have hv : max 4600 (s.fld F.HOLDUP_STATUS_STORE_V) < 2 ^ 16 := max_lt (by decide) (storeVoltage_lt s)
  intro t
  unfold t
  rw [storeCharged_eq h, setStore_voltage _ hv, setStore_ok _ hv, decide_eq_true (le_max_left _ _), Bool.true_and]
  have hr := setStore_recorded { s with power.storeReady := true } (max 4600 (s.fld F.HOLDUP_STATUS_STORE_V))
  exact ⟨congrArg Power.storeReady hr.power, rfl, rfl, hr.mono (by decide)⟩

theorem chargeTimeout_eq {s : State} (h1 : s.supplyValid = true) (h2 : s.power.storeReady = false) :
    s.chargeTimeout = State.ev { s with power.storeReady := true } 0x0209 :=
  if_neg (by rw [h1, h2]; decide)

/-! ### O12 -/

/-- Settles O12: a capacitance measured (capMeasured), before it the store's voltage as each command finds it. -/
theorem holdupStoreMeasurements : Obligations.HoldupStoreMeasurements := by
  refine ⟨?charge, ?test, ?testEnd, ?charged, ?timeout⟩
  case charge =>
    intro s us h
    obtain ⟨hcap, hv, hd, hf, hok, hr⟩ := chargeMeasure_spec us h
    exact ⟨s.chargeMeasure us, rfl, hcap, hv, hd, hf, hok, hr.storeFrame⟩
  case test =>
    intro s h1 h2 h3
    refine yields_next rfl (testStart_eq h1 h2 h3) ⟨?_, flag_setFld_same _ false 0 0 rfl (by decide), ?_, ?_⟩
    · simp (disch := decide) only [flag_setFld_disjoint]
      exact flag_setFld_same s true 0 0 rfl (by decide)
    · simp (disch := decide) only [fld_setFld_disjoint]
    · exact ((State.OnlyWords.refl _ s).setReg _ (by decide)).setReg _ (by decide)
  case testEnd =>
    intro s us mv h
    obtain ⟨ht, hv, hch, hcap, hms, hd, hf, hr⟩ := testStop_spec us mv h
    exact ⟨s.testStop us mv, rfl, ht, hv, hch, hcap, hms, hd, hf, hr.storeFrame⟩
  case charged =>
    intro s h
    obtain ⟨hready, hv, hok, hr⟩ := storeCharged_spec h
    exact ⟨s.storeCharged, rfl, hready, hv, hok, hr.of_storeReady⟩
  case timeout =>
    intro s h1 h2
    exact yields_next rfl (chargeTimeout_eq h1 h2) ⟨congrArg Power.storeReady (State.ev_power _ _ _), logged_ev _ _ _⟩

end Sys2Proof.Machine
end

section
/-! SUPPORT. A port that loses its power, and the domains that a power-fail sheds. -/
namespace Sys2Proof.Machine

/-- p reads nothing of what OfPlate names, and nothing of the network. -/
structure OfPorts {β : Type} (p : State → β) : Prop extends OfPlate p where
  net : ∀ {s : State} {net out}, p { s with net := net, out := out } = p s

theorem ofPorts_word {x : Nat} (h : x < 0x4000000) : OfPorts fun s => s.word x := ⟨ofPlate_word h, rfl⟩
theorem ofPorts_phase : OfPorts State.phase := ⟨ofPlate_phase, rfl⟩
theorem ofPorts_stop : OfPorts State.stop := ⟨ofPlate_stop, rfl⟩
theorem ofPorts_drive : OfPorts State.drive := ⟨ofPlate_drive, rfl⟩
theorem ofPlate_power : OfPlate State.power := ⟨fun _ => rfl, rfl, State.ev_power _ _ _⟩
theorem ofPlate_time : OfPlate State.time := ⟨fun _ => rfl, rfl, State.ev_time _ _ _⟩
theorem ofPlate_tick : OfPlate State.tick := ⟨fun _ => rfl, rfl, State.ev_tick _ _ _⟩
theorem ofPorts_power : OfPorts State.power := ⟨ofPlate_power, rfl⟩
theorem ofPorts_tick : OfPorts State.tick := ⟨ofPlate_tick, rfl⟩

section
variable {β : Type} {p : State → β} (hp : OfPorts p)
include hp

theorem OfPorts.takeSeq (s : State) (src : Nat) : p (s.takeSeq src).2 = p s := by
  unfold State.takeSeq
  split
  · exact hp.rest
  · exact hp.net

theorem OfPorts.emit (s : State) (f : Sent) : p (s.emit f) = p s := by
  refine (fold_same (fun s q => ?_) _ _).trans hp.net
  split
  · exact hp.toOfPlate.setFld _ _ _ _ (by decide)
  · rfl

theorem OfPorts.announceFrom (s : State) (src : Nat) : p (s.announceFrom src) = p s :=
  (hp.emit _ _).trans (hp.takeSeq s src)

theorem OfPorts.announce (s : State) : p s.announce = p s := by
  unfold State.announce
  extract_lets fl u w
  have hu : p u = p s := hp.announceFrom _ _
  have hw : p w = p u := by
    unfold w
    split
    · exact hp.announceFrom _ _
    · rfl
  exact hp.net.trans (hw.trans hu)

theorem OfPorts.segUpdate (s : State) (plane : Nat) : p (s.segUpdate plane) = p s := by
  have hw : ∀ ex hops members, p (((s.setFld F.NET_SEG_EXIT ex 0 plane).setFld F.NET_SEG_EXIT_HOPS hops 0 plane).setFld
      F.NET_SEG_MEMBERS members 0 plane) = p s := fun _ _ _ =>
    (hp.setFld _ _ _ _ (by decide)).trans ((hp.setFld _ _ _ _ (by decide)).trans (hp.setFld _ _ _ _ (by decide)))
  unfold State.segUpdate
  dsimp only
  split
  · exact hw _ _ _
  · exact hp.ev.trans ((hp.announce _).trans (hw _ _ _))

theorem OfPorts.linkDown (s : State) (n : Nat) : p (s.linkDown n) = p s := by
  unfold State.linkDown
  split
  · rfl
  · refine (hp.segUpdate _ _).trans (hp.ev.trans ?_)
    exact (hp.setFld _ _ _ _ (by decide)).trans ((hp.setFld _ _ _ _ (by decide)).trans (hp.setFld _ _ _ _ (by decide)))

theorem OfPorts.portOff (s : State) (n : Nat) : p (s.portOff n) = p s :=
  (hp.setFld _ _ _ _ (by decide)).trans (hp.linkDown s n)

theorem OfPorts.shed (s : State) : p s.shed = p (s.setDoms (List.range 61) false) := by
  refine (fold_same hp.portOff _ _).trans (fold_same (fun s sl => ?_) _ _)
  split
  · rfl
  · exact hp.slPowerOff s sl
end

/-! ### D00 to D60 -/

theorem shed_domOn (s : State) {d : Nat} (h : d < 64) : s.shed.domOn d = (s.domOn d && decide (61 ≤ d)) := by
  have hp : OfPorts fun s => s.word (R.DOMAIN_ON.addr 0 (d / 32)) := ofPorts_word (by simp only [Reg.addr]; omega)
  rw [domOn_of_word (hp.shed s), domOn_setDoms]
  by_cases hd : d < 61
  · rw [if_pos (List.mem_range.mpr hd), decide_eq_false (by omega), Bool.and_false]
  · rw [if_neg (fun e => hd (List.mem_range.mp e)), decide_eq_true (by omega), Bool.and_true]

theorem shed_word (s : State) {a : Nat} (h4 : a < 0x4000000) (h : ∀ j, a ≠ R.DOMAIN_ON.addr 0 j) : s.shed.word a = s.word a :=
  ((ofPorts_word h4).shed s).trans (setDoms_word s _ _ h)

/-- What no register shows is left alone. -/
theorem OfPorts.shed_same {β : Type} {p : State → β} (hp : OfPorts p) (hr : ∀ s x, p { s with regs := x } = p s) (s : State) :
    p s.shed = p s := by
  rw [hp.shed, setDoms_eq, hr]

/-! ### D61 and D62 -/

theorem powerDown_cases (s : State) : s.powerDown = s ∨
    s.holding = false ∧ s.powerDown = { s.setDoms [61, 62] false with time.ticking := false, power.holdFrom := none } := by
  unfold State.powerDown
  split
  next h => exact .inr ⟨by simpa using h.2.2, rfl⟩
  next => exact .inl rfl

/-- While the hold time runs, D61 and D62 stay on. -/
theorem powerDown_holding {s : State} (h : s.holding = true) : s.powerDown = s :=
  (powerDown_cases s).resolve_right fun e => Bool.noConfusion (h.symm.trans e.1)

theorem powerDown_word (s : State) {a : Nat} (h : ∀ j, a ≠ R.DOMAIN_ON.addr 0 j) : s.powerDown.word a = s.word a := by
  rcases powerDown_cases s with e | ⟨-, e⟩
  · rw [e]
  · rw [e]
    exact setDoms_word s _ _ h

theorem powerDown_off {s : State} {d : Nat} (h : s.domOn d = false) : s.powerDown.domOn d = false := by
  rcases powerDown_cases s with e | ⟨-, e⟩
  · rwa [e]
  · rw [e]
    refine (domOn_setDoms [61, 62] false d s).trans ?_
    rw [h, ite_self]

/-- What only the registers, the clock and the hold time show is changed. -/
theorem powerDown_same {β : Type} {p : State → β} (h : ∀ s x t y, p { s with regs := x, time := t, power.holdFrom := y } = p s)
    (s : State) : p s.powerDown = p s := by
  rcases powerDown_cases s with e | ⟨-, e⟩
  · rw [e]
  · rw [e, setDoms_eq]
    exact h s _ _ _

end Sys2Proof.Machine
end

section
/-! PROOF. Power-fail and the exhausted store (O13). -/
namespace Sys2Proof.Machine

/-! ### Power-fail: the stop -/

theorem State.Recorded.phase {ws : List Nat} {s t : State} (h : s.Recorded ws t) : t.phase = s.phase := by rw [h.1]
theorem State.Recorded.stop {ws : List Nat} {s t : State} (h : s.Recorded ws t) : t.stop = s.stop := by rw [h.1]
theorem State.Recorded.drive {ws : List Nat} {s t : State} (h : s.Recorded ws t) : t.drive = s.drive := by rw [h.1]

theorem halt_power (s : State) (why : StopCause) (d : Drive) (rel : Nat) : (s.halt why d rel).power = s.power :=
  (ofPlate_power.restage _).trans (ofPlate_power.stopped s rel)

theorem halt_tick (s : State) (why : StopCause) (d : Drive) (rel : Nat) : (s.halt why d rel).tick = s.tick :=
  (ofPlate_tick.restage _).trans (ofPlate_tick.stopped s rel)

/-- The module stopped for a power-fail, its field drive ended. -/
def State.failStop (s : State) : State :=
  if s.alive then s.halt .powerFail .ended 1 else State.restage { s with phase := .stopped, stop := .powerFail, drive := .ended }

theorem failStop_life (s : State) : s.failStop.phase = .stopped ∧ s.failStop.stop = .powerFail ∧ s.failStop.drive = .ended := by
  unfold State.failStop
  split
  · exact ⟨halt_phase _ _ _ _, halt_stop _ _ _ _, halt_drive_ended _ _ _⟩
  · exact ⟨ofPlate_phase.restage _, ofPlate_stop.restage _, ofPlate_drive.restage _⟩

theorem failStop_power (s : State) : s.failStop.power = s.power := by
  unfold State.failStop
  split
  · exact halt_power _ _ _ _
  · exact ofPlate_power.restage _

theorem failStop_tick (s : State) : s.failStop.tick = s.tick := by
  unfold State.failStop
  split
  · exact halt_tick _ _ _ _
  · exact ofPlate_tick.restage _

theorem failStop_word (s : State) {a : Nat} (h : a < 0x4000000) : s.failStop.word a = s.word a := by
  unfold State.failStop
  split
  · exact halt_word _ _ _ _ h
  · exact (ofPlate_word h).restage _

/-! ### Power-fail: charger, test and domains -/

/-- What a power-fail makes of the store's readiness and of the hold time. -/
def State.failNoted (s : State) : State :=
  { s with power.storeReady := false,
           power.holdFrom := if s.flag F.HOLDUP_STATUS_HOLDUP_OK && s.time.ticking then some s.tick else none }

/-- The stopped module with charger and test off. -/
def State.failOff (s : State) : State :=
  (s.failNoted.failStop.setFld F.HOLDUP_STATUS_CHARGING 0).setFld F.HOLDUP_STATUS_TEST 0

/-- The event, the closing flush, and D00 to D60 off. -/
def State.failShed (s : State) : State := ((s.failOff.ev 0x020B).closingFlush 0).shed

theorem powerFail_eq {s : State} (h1 : s.supplyValid = false) (h2 : s.stop ≠ .powerFail) : s.powerFail =
    (s.failShed.powerDown.draw.setFld F.HOLDUP_STATUS_STORE_V (Config.freeValue s.failShed.powerDown.free).toNat).holdupUpdate := by
  have hn : ¬(s.supplyValid = true ∨ s.stop = .powerFail) := by
    rw [h1]
    exact fun h => h.elim Bool.noConfusion h2
  unfold State.powerFail
  rw [if_neg hn]
  rfl

theorem failOff_charging (s : State) :
    s.failOff.flag F.HOLDUP_STATUS_CHARGING = false ∧ s.failOff.flag F.HOLDUP_STATUS_TEST = false := by
  unfold State.failOff
  simp (disch := decide) only [flag_setFld_disjoint]
  exact ⟨flag_setFld_same _ false 0 0 rfl (by decide), flag_setFld_same _ false 0 0 rfl (by decide)⟩

theorem failOff_word (s : State) {a : Nat} (h : a < 0x4000000) (h2 : a ≠ R.HOLDUP_STATUS.base) : s.failOff.word a = s.word a :=
  (word_setWord_ne _ _ h2).trans ((word_setWord_ne _ _ h2).trans (failStop_word s.failNoted h))

/-- What no register shows, after the domains are off, is as it was at the stop. -/
theorem failShed_same {β : Type} {p : State → β} (hp : OfPorts p) (hr : ∀ s x, p { s with regs := x } = p s) (s : State) :
    p s.failShed = p s.failNoted.failStop :=
  (hp.shed_same hr _).trans ((hp.closingFlush _ _).trans (hp.ev.trans ((hr _ _).trans (hr _ _))))

theorem failShed_word (s : State) {a : Nat} (h : a < 0x4000000) (hd : ∀ j, a ≠ R.DOMAIN_ON.addr 0 j) :
    s.failShed.word a = s.failOff.word a :=
  (shed_word _ h hd).trans (((ofPlate_word h).closingFlush _ _).trans (ofPlate_word h).ev)

theorem failShed_domOn (s : State) {d : Nat} (h : d < 64) : s.failShed.domOn d = (s.domOn d && decide (61 ≤ d)) := by
  have ha : R.DOMAIN_ON.addr 0 (d / 32) < 0x4000000 ∧ R.DOMAIN_ON.addr 0 (d / 32) ≠ R.HOLDUP_STATUS.base := by
    simp only [Reg.addr]
    omega
  rw [State.failShed, shed_domOn _ h]
  refine congrArg (· && decide (61 ≤ d)) (domOn_of_word ?_)
  exact ((ofPlate_word ha.1).closingFlush _ _).trans ((ofPlate_word ha.1).ev.trans (failOff_word s ha.1 ha.2))

/-- The hold time runs from the stop. -/
theorem failShed_holding {s : State} (h1 : s.flag F.HOLDUP_STATUS_HOLDUP_OK = true) (h2 : s.time.ticking = true) :
    s.failShed.power.holdFrom = some s.tick ∧ s.failShed.holding = true := by
  have hp : s.failShed.power.holdFrom = some s.tick := by
    rw [failShed_same ofPorts_power (fun _ _ => rfl), failStop_power, State.failNoted, h1, h2]
    rfl
  have ht : s.failShed.tick = s.tick := (failShed_same ofPorts_tick (fun _ _ => rfl) s).trans (failStop_tick _)
  refine ⟨hp, ?_⟩
  rw [State.holding, hp, ht]
  exact decide_eq_true (by omega)

/-- After the domains are off, a power-fail writes the store's fallen voltage and what follows it. -/
theorem powerFail_recorded {s : State} (h1 : s.supplyValid = false) (h2 : s.stop ≠ .powerFail) :
    State.Recorded holdupWords { s.failShed.powerDown with free := s.failShed.powerDown.free + 1 } s.powerFail := by
  rw [powerFail_eq h1 h2]
  exact ((State.Recorded.refl holdupWords s.failShed.powerDown.draw).setFld _ (by decide)).trans (holdupUpdate_recorded _)

theorem powerFail_status {s : State} (h1 : s.supplyValid = false) (h2 : s.stop ≠ .powerFail) {f : Fld}
    (hr : f.reg = R.HOLDUP_STATUS) (h : 15 < f.lo ∧ (f.hi < 21 ∨ 21 < f.lo)) : s.powerFail.flag f = s.failOff.flag f := by
  have hw : s.failShed.powerDown.word R.HOLDUP_STATUS.base = s.failOff.word R.HOLDUP_STATUS.base :=
    (powerDown_word _ (by simp only [Reg.addr]; omega)).trans (failShed_word s (by decide) (by simp only [Reg.addr]; omega))
  rw [powerFail_eq h1 h2, holdupUpdate_flag _ hr h.2, flag_setFld_disjoint _ _ hr (by decide) (by decide) (.inr h.1)]
  exact flag_eq_of_word (by rw [hr]; exact hw)

theorem powerFail_domOn {s : State} (h1 : s.supplyValid = false) (h2 : s.stop ≠ .powerFail) {d : Nat} (hd : d < 64) :
    s.powerFail.domOn d = s.failShed.powerDown.domOn d :=
  domOn_of_word ((powerFail_recorded h1 h2).word (by simp [Reg.addr, holdupWords, eventWords]; omega))

/-! ### O13 -/

theorem powerFail_spec {s : State} (h1 : s.supplyValid = false) (h2 : s.stop ≠ .powerFail) :
    s.powerFail.phase = .stopped ∧ s.powerFail.stop = .powerFail ∧ s.powerFail.drive = .ended ∧
    s.powerFail.power.storeReady = false ∧
    s.powerFail.flag F.HOLDUP_STATUS_CHARGING = false ∧ s.powerFail.flag F.HOLDUP_STATUS_TEST = false ∧
    (∀ d : Fin 61, s.powerFail.domOn d.val = false) ∧
    (s.flag F.HOLDUP_STATUS_HOLDUP_OK = true → s.time.ticking = true →
      s.powerFail.power.holdFrom = some s.tick ∧ s.powerFail.domOn 61 = s.domOn 61 ∧ s.powerFail.domOn 62 = s.domOn 62) := by
  have hr := powerFail_recorded h1 h2
  obtain ⟨hphase, hstop, hdrive⟩ := failStop_life s.failNoted
  have hready : s.failShed.power.storeReady = false := by
    rw [failShed_same ofPorts_power (fun _ _ => rfl), failStop_power]
    rfl
  refine ⟨?phase, ?stop, ?drive, ?ready, (powerFail_status h1 h2 rfl (by decide)).trans (failOff_charging s).1,
    (powerFail_status h1 h2 rfl (by decide)).trans (failOff_charging s).2, fun d => ?off, fun hok htick => ?hold⟩
  case phase =>
    rw [hr.phase, ← hphase, ← failShed_same ofPorts_phase (fun _ _ => rfl)]
    exact powerDown_same (p := State.phase) (fun _ _ _ _ => rfl) _
  case stop =>
    rw [hr.stop, ← hstop, ← failShed_same ofPorts_stop (fun _ _ => rfl)]
    exact powerDown_same (p := State.stop) (fun _ _ _ _ => rfl) _
  case drive =>
    rw [hr.drive, ← hdrive, ← failShed_same ofPorts_drive (fun _ _ => rfl)]
    exact powerDown_same (p := State.drive) (fun _ _ _ _ => rfl) _
  case ready =>
    rw [hr.power, ← hready]
    exact powerDown_same (p := (·.power.storeReady)) (fun _ _ _ _ => rfl) _
  case off =>
    rw [powerFail_domOn h1 h2 (by omega)]
    refine powerDown_off ?_
    rw [failShed_domOn s (by omega), decide_eq_false (by omega), Bool.and_false]
  case hold =>
    obtain ⟨hfrom, hh⟩ := failShed_holding hok htick
    have hd : ∀ d, 61 ≤ d → d < 64 → s.powerFail.domOn d = s.domOn d := fun d h61 h64 => by
      rw [powerFail_domOn h1 h2 h64, powerDown_holding hh, failShed_domOn s h64, decide_eq_true h61, Bool.and_true]
    refine ⟨?_, hd 61 (by decide) (by decide), hd 62 (by decide) (by decide)⟩
    rw [hr.power, ← hfrom]
    exact congrArg (·.power.holdFrom) (powerDown_holding hh)

/-! ### The exhausted store -/

theorem State.OnlyWords.fold {α : Type} {ws : List Nat} {s : State} {f : State → α → State} {l : List α}
    (hf : ∀ t, ∀ x ∈ l, s.OnlyWords ws t → s.OnlyWords ws (f t x)) : ∀ {t : State}, s.OnlyWords ws t →
    s.OnlyWords ws (foldState f l t) := by
  induction l with
  | nil => exact fun h => h
  | cons x l ih =>
    exact fun h => ih (fun t y hy => hf t y (List.mem_cons_of_mem x hy)) (hf _ x List.mem_cons_self h)

/-- What the supervisor holds after the store is exhausted, but for the registers. -/
def State.remains (s : State) : State :=
  { State.reset with
    pending := s.pending, free := s.free, out := s.out
    vault := { s.vstart.vault with waiting := [], counts := [], suppressed := [] }
    start := { Start.init with bankA := s.start.bankA, bankB := s.start.bankB }
    stop := if s.stop = .powerFail then .powerFail else .none }

/-- The mate contacts and PEER_PRESENT kept in their registers. -/
def State.contactsKept (s t : State) : State :=
  (t.setReg R.BASEPLATE_STATUS (bits (s.reg R.BASEPLATE_STATUS) 1 0)).peerSeen (s.flag F.BASEPLATE_STATUS_PEER_PRESENT)

/-- The fuses of wheel w kept in its register. -/
def State.fusesKept (s t : State) (w : Nat) : State :=
  (t.setFld F.WHEEL_STATE_STRIKE (s.fld F.WHEEL_STATE_STRIKE w) w).setFld F.WHEEL_STATE_OUT (s.fld F.WHEEL_STATE_OUT w) w

theorem exhausted_eq {s : State} (h1 : s.supplyValid = false) (h2 : s.holding = false) :
    s.exhausted = foldState s.fusesKept (List.range 18) (s.contactsKept s.remains) := by
  unfold State.exhausted
  rw [if_neg (by rw [h1, h2]; decide)]
  rfl

/-- The words of the registers that survive in part. -/
def keptWords : List Nat :=
  R.BASEPLATE_STATUS.base :: R.PAIR_STATUS.base :: (List.range 18).map fun w => R.WHEEL_STATE.addr w 0

theorem onlyWords_exhausted {s : State} (h1 : s.supplyValid = false) (h2 : s.holding = false) :
    s.remains.OnlyWords keptWords s.exhausted := by
  rw [exhausted_eq h1 h2]
  refine State.OnlyWords.fold (fun t w hw h => ?_) ?_
  · have hm : R.WHEEL_STATE.addr w 0 ∈ keptWords :=
      List.mem_cons_of_mem _ (List.mem_cons_of_mem _ (List.mem_map_of_mem hw))
    exact (h.setReg _ hm).setReg _ hm
  · exact (((State.OnlyWords.refl keptWords _).setReg _ List.mem_cons_self).setReg _ List.mem_cons_self).setReg _
      (List.mem_cons_of_mem _ List.mem_cons_self)

/-- The contact bits are the two lowest of BASEPLATE_STATUS. -/
theorem contactsKept_mate (s t : State) (c : Fin 2) : (s.contactsKept t).mateClosed c = s.mateClosed c := by
  obtain ⟨hw, h2, -⟩ := mateFld_apart c
  have hv : bits (s.reg R.BASEPLATE_STATUS) 1 0 < 2 ^ 32 := lt_of_lt_of_le (Nat.mod_lt _ (by decide)) (by decide)
  have hp : ∀ u : State, (u.peerSeen (s.flag F.BASEPLATE_STATUS_PEER_PRESENT)).flag (mateFld c) = u.flag (mateFld c) := fun u =>
    (flag_eq_of_word (word_setWord_ne _ _ (by rw [mateFld_reg]; decide))).trans
      (flag_setFld_disjoint u (e := F.BASEPLATE_STATUS_PEER_PRESENT) _ (mateFld_reg _) (by decide) (by decide)
        (.inl (by simp only; omega)))
  rw [mateClosed_eq, mateClosed_eq, State.contactsKept, hp, flag_eq_bit _ _ _ hw, flag_eq_bit _ _ _ hw, mateFld_reg,
    reg_setReg_same _ _ _ _ _ hv, bit_bits _ (by omega), Nat.zero_add]

theorem fusesKept_fuses (s t : State) (w : Nat) :
    (s.fusesKept t w).fld F.WHEEL_STATE_STRIKE w = s.fld F.WHEEL_STATE_STRIKE w ∧
    (s.fusesKept t w).fld F.WHEEL_STATE_OUT w = s.fld F.WHEEL_STATE_OUT w := by
  have hlt : ∀ {f : Fld}, f.hi = f.lo → s.fld f w < 2 := fun {f} h =>
    lt_of_lt_of_eq (Nat.mod_lt _ (Nat.two_pow_pos _)) (by rw [h, Nat.add_sub_cancel_left, pow_one])
  unfold State.fusesKept
  simp (disch := decide) only [fld_setFld_disjoint, fld_setFld_same]
  exact ⟨Nat.mod_eq_of_lt (hlt rfl), Nat.mod_eq_of_lt (hlt rfl)⟩

/-- The fuses of wheel w, as its register shows them. -/
def State.fuses (s : State) (w : Nat) : Nat × Nat := (s.fld F.WHEEL_STATE_STRIKE w, s.fld F.WHEEL_STATE_OUT w)

theorem exhausted_fuses {s : State} (h1 : s.supplyValid = false) (h2 : s.holding = false) (w : Fin 18) :
    s.exhausted.fuses w = s.fuses w := by
  rw [exhausted_eq h1 h2]
  refine fold_at (p := (·.fuses w)) (g := fun _ => s.fuses w) List.nodup_range (List.mem_range.mpr w.isLt)
    (fun t => ?_) (fun t v hv hne => ?_) _
  · exact Prod.ext (fusesKept_fuses s t w).1 (fusesKept_fuses s t w).2
  · have hd : R.WHEEL_STATE.addr w 0 ≠ R.WHEEL_STATE.addr v 0 := by
      simp only [Reg.addr]
      omega
    have hw : (s.fusesKept t v).word (R.WHEEL_STATE.addr w 0) = t.word (R.WHEEL_STATE.addr w 0) :=
      (word_setWord_ne _ _ hd).trans (word_setWord_ne _ _ hd)
    exact Prod.ext (fld_eq_of_word hw) (fld_eq_of_word hw)

theorem exhausted_mate {s : State} (h1 : s.supplyValid = false) (h2 : s.holding = false) (c : Fin 2) :
    s.exhausted.mateClosed c = s.mateClosed c := by
  rw [exhausted_eq h1 h2, ← contactsKept_mate s s.remains c]
  refine mateClosed_of_word (fold_mem (p := (·.word R.BASEPLATE_STATUS.base)) fun t w hw => ?_) c
  have hne : R.BASEPLATE_STATUS.base ≠ R.WHEEL_STATE.addr w 0 := by
    simp only [Reg.addr]
    omega
  exact (word_setWord_ne _ _ hne).trans (word_setWord_ne _ _ hne)

/-- Settles O13: power-fail by what each of its parts leaves of the stop before it; the exhausted store by its words. -/
theorem powerFailEndsDrive : Obligations.PowerFailEndsDrive := by
  refine ⟨fun s h1 h2 => ⟨s.powerFail, rfl, powerFail_spec h1 h2⟩, fun s h1 h2 => ?_⟩
  obtain ⟨he, hk⟩ := onlyWords_exhausted h1 h2
  have hvault : s.exhausted.vault = s.remains.vault := by rw [he]
  have hstart : s.exhausted.start = s.remains.start := by rw [he]
  refine ⟨s.exhausted, rfl, ?_, hstart, ?_, ?_, ?_, ?_, exhausted_mate h1 h2 0, exhausted_mate h1 h2 1,
    fun w => Prod.mk.inj (exhausted_fuses h1 h2 w), hk⟩
  · rw [hvault, hstart]
    exact he
  · rw [hvault]
    rfl
  · rw [hvault]
    rfl
  · rw [hvault]
    rfl
  · rw [hvault]
    rfl

end Sys2Proof.Machine
end

section
/-! SUPPORT. Stopping the module leaves the registers of the clocks alone: no operation of accounts, channels, links or the pair
writes a register of chapter 12. -/
namespace Sys2Proof.Machine

/-- p reads nothing that accounts, channels, links and the pair change: no register outside chapter 12, and none of their own
state. -/
structure OfClocks {β : Type} (p : State → β) : Prop where
  word : ∀ {s : State} {a : Nat} {v : W32}, a < 0xC000000 ∨ 0xD000000 ≤ a → p (s.setWord a v) = p s
  rest : ∀ {s : State} {vault tills tillMem image hoCauses ach hart dch pair can},
    p { s with vault := vault, tills := tills, tillMem := tillMem, image := image, hoCauses := hoCauses, ach := ach,
               hart := hart, dch := dch, pair := pair, can := can } = p s
  ev : ∀ {s : State} {code : Nat} {items : List Item}, p (s.ev code items) = p s

theorem ofClocks_word {x : Nat} (h : 0xC000000 ≤ x ∧ x < 0xD000000) : OfClocks fun s => s.word x where
  word ha := word_setWord_ne _ _ (by omega)
  rest := rfl
  ev := ev_word _ _ _ (by simp [eventWords]; omega)

theorem acctOrder_lt : ∀ a ∈ acctOrder, a < 8 := by decide

section
variable {β : Type} {p : State → β} (hp : OfClocks p)
include hp

theorem OfClocks.image (s : State) (x : Image) : p { s with image := x } = p s := hp.rest

theorem OfClocks.below (s : State) {r : Reg} (v : Nat) {i j : Nat} (hi : i < r.n1) (hj : j < r.n2) (h : r.last < 0xC000000) :
    p (s.setReg r v i j) = p s := hp.word (.inl (lt_of_le_of_lt (r.addr_le_last hi hj) h))

theorem OfClocks.above (s : State) {r : Reg} (v i j : Nat) (h : 0xD000000 ≤ r.base) : p (s.setReg r v i j) = p s :=
  hp.word (.inr (le_trans h (r.base_le_addr i j)))

theorem OfClocks.closingFlush (s : State) (cause : Nat) : p (s.closingFlush cause) = p s := by
  unfold State.closingFlush
  split
  · rfl
  · exact (hp.above _ _ _ _ (by decide)).trans hp.rest

/-! ### Channels -/

theorem OfClocks.aItem (s : State) (g i : Nat) (v stamp : W64) : p (s.aItem g i v stamp) = p s := by
  unfold State.aItem State.aDeliver
  extract_lets link ch u
  refine hp.rest.trans ?_
  unfold u
  split
  · exact hp.rest
  · rfl

theorem OfClocks.setAStatus (s : State) {g : Nat} (hg : g < 192) (new : Nat) : p (s.setAStatus g new) = p s := by
  unfold State.setAStatus
  extract_lets old m sl was is s1 s2 s3 s4
  have h1 : p s1 = p s := (hp.below _ _ hg Nat.zero_lt_one (by decide)).trans (hp.below _ _ hg Nat.zero_lt_one (by decide))
  have h3 : p s3 = p s :=
    (hp.below _ _ Nat.zero_lt_one Nat.zero_lt_one (by decide)).trans
      ((hp.below _ _ (Nat.div_lt_of_lt_mul hg) Nat.zero_lt_one (by decide)).trans h1)
  have h4 : p s4 = p s := by
    unfold s4
    split
    · exact hp.ev.trans ((hp.below s3 _ hg Nat.zero_lt_one (by decide)).trans h3)
    · split
      · exact hp.ev.trans h3
      · exact h3
  split
  · rfl
  · exact (hp.aItem _ _ _ _ _).trans h4

theorem OfClocks.aStage (s : State) {g : Nat} (hg : g < 192) : p (s.aStage g) = p s := by
  unfold State.aStage
  extract_lets st u
  have hu : p u = p s := by
    unfold u
    split
    · exact hp.setAStatus _ hg _
    · exact hp.setAStatus _ hg _
    · rfl
  split
  · rfl
  · exact hp.rest.trans hu

theorem OfClocks.setDConds (s : State) {n : Nat} (hn : n < 320) (new : Nat) : p (s.setDConds n new) = p s := by
  unfold State.setDConds
  extract_lets ch old m g was is s1 s2 s3 s4 s5
  have h2 : p s2 = p s :=
    (hp.below _ _ hn Nat.zero_lt_one (by decide)).trans ((hp.below s1 _ hn Nat.zero_lt_one (by decide)).trans hp.rest)
  have h4 : p s4 = p s :=
    (hp.below _ _ Nat.zero_lt_one Nat.zero_lt_one (by decide)).trans
      ((hp.below _ _ (Nat.div_lt_of_lt_mul hn) Nat.zero_lt_one (by decide)).trans h2)
  have h5 : p s5 = p s := by
    unfold s5
    split
    · exact hp.ev.trans ((hp.below s4 _ hn Nat.zero_lt_one (by decide)).trans h4)
    · split
      · exact hp.ev.trans h4
      · exact h4
  split
  · rfl
  · split
    · exact h5
    · exact hp.rest.trans h5

theorem OfClocks.dStage (s : State) {n : Nat} (hn : n < 320) : p (s.dStage n) = p s := by
  unfold State.dStage
  extract_lets u
  have hu : p u = p s := by
    unfold u
    split
    · rfl
    · exact hp.setDConds _ hn _
  split
  · rfl
  · exact hp.rest.trans hu

theorem OfClocks.restage (s : State) : p s.restage = p s :=
  (fold_mem fun s _ hn => hp.dStage s (List.mem_range.mp hn)).trans (fold_mem fun s _ hg => hp.aStage s (List.mem_range.mp hg))

/-! ### Accounts, HART, CAN and the pair -/

theorem OfClocks.stopAccount (s : State) (a : Nat) : p (s.stopAccount a) = p s := by
  unfold State.stopAccount
  refine hp.rest.trans (fold_mem fun s k hk => ?_)
  have hk : k < 64 := List.mem_range.mp (List.mem_of_mem_filter hk)
  refine (hp.below _ _ hk Nat.zero_lt_one (by decide)).trans ((hp.image _ _).trans ?_)
  unfold State.abandon
  split
  · exact (hp.below _ _ hk Nat.zero_lt_one (by decide)).trans (hp.image s _)
  · rfl

theorem OfClocks.hReply (s : State) (a sl id cmd ch st : Nat) (data : List Byte) : p (s.hReply a sl id cmd ch st data) = p s := by
  unfold State.hReply
  split
  · rfl
  · exact hp.rest.trans (fold_same (fun s w => hp.rest) _ _)

theorem OfClocks.hCease (s : State) : p s.hCease = p s := by
  refine fold_mem fun s g hg => ?_
  have hg : g < 192 := List.mem_range.mp hg
  split
  · rfl
  · extract_lets u
    have hu : p u = p s := (fold_same (fun s r => hp.hReply s _ _ _ _ _ _ _) _ _).trans hp.rest
    refine (hp.below _ _ (Nat.div_lt_of_lt_mul hg) Nat.zero_lt_one (by decide)).trans ?_
    exact (hp.below _ _ hg Nat.zero_lt_one (by decide)).trans (hp.rest.trans hu)

theorem OfClocks.canCease (s : State) : p s.canCease = p s := by
  refine fold_same (fun s n => ?_) _ _
  extract_lets ch owed u kept w
  have hu : p u = p s := by
    unfold u
    split
    · exact hp.rest
    · rfl
  have hw : p w = p s := hp.rest.trans hu
  split
  · exact (hp.above _ _ _ _ (by decide)).trans (hp.rest.trans hw)
  · exact hw

theorem OfClocks.setPair (s : State) (st : Nat) : p (s.setPair st) = p s := by
  unfold State.setPair
  extract_lets was now u w
  have hu : p u = p s := hp.above _ _ _ _ (by decide)
  have hw : p w = p s := by
    unfold w
    split
    · exact (hp.above _ _ _ _ (by decide)).trans ((hp.above _ _ _ _ (by decide)).trans hu)
    · exact hu
  split
  · exact hp.rest.trans hw
  · exact hw

theorem OfClocks.standAccounts (s : State) : p s.standAccounts = p s := by
  refine fold_mem fun s a ha => ?_
  extract_lets st u
  split
  · exact hp.rest.trans ((hp.below _ _ (acctOrder_lt a ha) Nat.zero_lt_one (by decide)).trans (hp.stopAccount s a))
  · rfl

theorem OfClocks.relinquish (s : State) (cause : Nat) : p (s.relinquish cause) = p s := by
  unfold State.relinquish
  extract_lets u
  have hu : p u = p s := hp.rest
  split
  · refine hp.rest.trans ((hp.canCease _).trans ((hp.hCease _).trans ((hp.standAccounts _).trans ((hp.setPair _ _).trans ?_))))
    exact hp.ev.trans hu
  · rfl

theorem OfClocks.stopped (s : State) (rel : Nat) : p (foldState State.stopAccount acctOrder (s.relinquish rel)) = p s :=
  (fold_same hp.stopAccount _ _).trans (hp.relinquish s rel)
end

/-- A module that stops keeps what its clocks show. -/
theorem halt_clockWord (s : State) (why : StopCause) (d : Drive) (rel : Nat) {x : Nat} (h : 0xC000000 ≤ x ∧ x < 0xD000000) :
    (s.halt why d rel).word x = s.word x :=
  ((ofClocks_word h).restage _).trans ((ofClocks_word h).stopped s rel)

end Sys2Proof.Machine
end

section
/-! PROOF. Thermal protection and the supervision of the clocks (O15). -/
namespace Sys2Proof.Machine

theorem halt_drive (s : State) (why : StopCause) (d : Drive) (rel : Nat) :
    (s.halt why d rel).drive = if s.drive = .ended then .ended else d := by
  refine (ofPlate_drive.restage _).trans ?_
  exact congrArg (fun x : Drive => if x = .ended then Drive.ended else d) (ofPlate_drive.stopped s rel)

theorem halt_time (s : State) (why : StopCause) (d : Drive) (rel : Nat) : (s.halt why d rel).time = s.time :=
  (ofPlate_time.restage _).trans (ofPlate_time.stopped s rel)

/-! ### Thermal stop -/

/-- The module stopped for its temperature. -/
def State.heatStop (s : State) : State :=
  if s.alive then s.halt .thermal .safe 3 else { s with phase := .stopped, stop := .thermal }

theorem heatStop_life (s : State) : s.heatStop.phase = .stopped ∧ s.heatStop.stop = .thermal := by
  unfold State.heatStop
  split
  · exact ⟨halt_phase _ _ _ _, halt_stop _ _ _ _⟩
  · exact ⟨rfl, rfl⟩

theorem heatStop_word (s : State) {a : Nat} (h : a < 0x4000000) : s.heatStop.word a = s.word a := by
  unfold State.heatStop
  split
  · exact halt_word _ _ _ _ h
  · rfl

theorem thermalStop_eq {s : State} (h1 : s.stop ≠ .thermal) (h2 : s.stop ≠ .powerFail) :
    s.thermalStop = ((s.heatStop.setDoms (List.range 18) false).ev 0x0206).closingFlush 2 :=
  if_neg (by rintro (h | h) <;> contradiction)

theorem thermalStop_life {s : State} (h : s.stop ≠ .powerFail) :
    s.thermalStop.phase = (if s.stop = .thermal then s.phase else .stopped) ∧ s.thermalStop.stop = .thermal := by
  by_cases h1 : s.stop = .thermal
  · have he : s.thermalStop = s := if_pos (.inl h1)
    rw [he, if_pos h1]
    exact ⟨rfl, h1⟩
  · obtain ⟨hphase, hstop⟩ := heatStop_life s
    rw [thermalStop_eq h1 h, if_neg h1, ← hphase, ← hstop, setDoms_eq]
    exact ⟨(ofPlate_phase.closingFlush _ _).trans ofPlate_phase.ev, (ofPlate_stop.closingFlush _ _).trans ofPlate_stop.ev⟩

theorem thermalStop_word (s : State) {a : Nat} (h : a < 0x4000000) (hd : a ≠ R.DOMAIN_ON.base) :
    s.thermalStop.word a = s.word a := by
  have hdoms : (s.heatStop.setDoms (List.range 18) false).word a = s.heatStop.word a :=
    fold_mem (p := (·.word a)) (f := fun s d => s.setDom d false) fun s d hm => word_setWord_ne _ _ (by
      have : d < 18 := List.mem_range.mp hm
      simp only [Reg.addr] at hd ⊢
      omega)
  unfold State.thermalStop
  split
  · rfl
  · have hp := ofPlate_word h
    exact (hp.closingFlush _ _).trans (hp.ev.trans (hdoms.trans (heatStop_word s h)))

/-! ### What the means lead to -/

/-- THERMAL_STATUS as the means leave it. -/
def State.heatShown (s : State) : State :=
  s.setReg R.THERMAL_STATUS (s.hottest.getD 0 * 2 ^ 24 + (24 - s.sensorsIn.length) * 2 ^ 16 +
    (match s.hottest with | some n => ofSint 16 (s.sensorSum n / 8) | none => 0))

/-- Event 0x0205 recorded, or armed again. -/
def State.heatNoted (s u : State) : State :=
  if !u.power.hot ∧ (s.sensorsIn.length < 20 ∨ s.sensorsIn.any (fun n => decide (18560 ≤ u.sensorSum n))) then
    State.ev { u with power.hot := true } 0x0205
  else if 20 ≤ s.sensorsIn.length ∧ s.sensorsIn.all (fun n => decide (u.sensorSum n < 17920)) then { u with power.hot := false }
  else u

theorem thermalUpdate_eq (s : State) : s.thermalUpdate =
    let u := s.heatNoted s.heatShown
    if s.sensorsIn.length < 20 ∨ s.sensorsIn.any (fun n => decide (19200 ≤ u.sensorSum n)) then u.thermalStop else u := rfl

/-- Event 0x0205 changes no sensor, no life of the module, and no register but those that record it. -/
theorem heatNoted_same {β : Type} {p : State → β} (hr : ∀ s x, p { s with power.hot := x } = p s)
    (he : ∀ s code items, p (State.ev s code items) = p s) (s u : State) : p (s.heatNoted u) = p u := by
  unfold State.heatNoted
  split
  · exact (he _ _ _).trans (hr u true)
  · split
    · exact hr u false
    · rfl

theorem addr_thermalSensor {n : Nat} (h : n < 24) : R.THERMAL_SENSOR.addr n 0 < 0x4000000 ∧
    R.THERMAL_SENSOR.addr n 0 ≠ R.THERMAL_STATUS.base ∧ R.THERMAL_SENSOR.addr n 0 ∉ eventWords ∧
    R.THERMAL_SENSOR.addr n 0 ≠ R.DOMAIN_ON.base := by
  simp only [Reg.addr, eventWords, List.mem_cons, List.not_mem_nil, or_false]
  omega

theorem heatNoted_sensor (s : State) {n : Nat} (h : n < 24) :
    (s.heatNoted s.heatShown).word (R.THERMAL_SENSOR.addr n 0) = s.word (R.THERMAL_SENSOR.addr n 0) := by
  obtain ⟨-, hs, he, -⟩ := addr_thermalSensor h
  exact (heatNoted_same (p := (·.word (R.THERMAL_SENSOR.addr n 0))) (fun _ _ => rfl) (fun s _ _ => ev_word s _ _ he) _ _).trans
    (word_setWord_ne _ _ hs)

/-- What the sensors show is left alone. -/
theorem thermalUpdate_sensor (s : State) {n : Nat} (h : n < 24) :
    s.thermalUpdate.word (R.THERMAL_SENSOR.addr n 0) = s.word (R.THERMAL_SENSOR.addr n 0) := by
  obtain ⟨h4, -, -, hd⟩ := addr_thermalSensor h
  rw [thermalUpdate_eq]
  extract_lets u
  split
  · exact (thermalStop_word u h4 hd).trans (heatNoted_sensor s h)
  · exact heatNoted_sensor s h

theorem heatNoted_sensorSum (s u : State) (n : Nat) : (s.heatNoted u).sensorSum n = u.sensorSum n := by
  refine heatNoted_same (p := (·.sensorSum n)) (fun _ _ => rfl) (fun s code items => ?_) s u
  rw [State.sensorSum, State.sensorSum, State.ev_power]

theorem sensorSum_setReg (s : State) (r : Reg) (v i j n : Nat) : (s.setReg r v i j).sensorSum n = s.sensorSum n := by
  rw [State.sensorSum, State.sensorSum, State.setReg_power]

/-- 150.0 °C at a sensor that counts is thermal stop. -/
theorem thermalUpdate_hot {s : State} {n : Nat} (hn : n < 24) (hx : s.flag F.THERMAL_SENSOR_EXCL n = false)
    (h : 19200 ≤ s.sensorSum n) (hs : s.stop ≠ .powerFail) :
    s.thermalUpdate.phase = (if s.stop = .thermal then s.phase else .stopped) ∧ s.thermalUpdate.stop = .thermal := by
  have hphase : (s.heatNoted s.heatShown).phase = s.phase :=
    (heatNoted_same (p := State.phase) (fun _ _ => rfl) State.ev_phase s _).trans (State.setReg_phase _ _ _ _ _)
  have hstop : (s.heatNoted s.heatShown).stop = s.stop :=
    (heatNoted_same (p := State.stop) (fun _ _ => rfl) State.ev_stop s _).trans (State.setReg_stop _ _ _ _ _)
  have hsum : (s.heatNoted s.heatShown).sensorSum n = s.sensorSum n :=
    (heatNoted_sensorSum s _ n).trans (sensorSum_setReg _ _ _ _ _ n)
  have hm : n ∈ s.sensorsIn := List.mem_filter.mpr ⟨List.mem_range.mpr hn, by rw [hx]; rfl⟩
  have ha : s.sensorsIn.any (fun m => decide (19200 ≤ (s.heatNoted s.heatShown).sensorSum m)) = true :=
    List.any_eq_true.mpr ⟨n, hm, by rw [hsum]; exact decide_eq_true h⟩
  rw [thermalUpdate_eq, ← hphase, ← hstop]
  extract_lets u
  rw [if_pos (.inr ha)]
  exact thermalStop_life (by rw [hstop]; exact hs)

/-! ### A sensor's samples -/

/-- A sensor with its samples and its mean replaced. -/
def State.setSensor (s : State) (n : Nat) (x : Sensor) : State := { s with power.sensors := nset .init s.power.sensors n x }

theorem sensorSum_setSensor (s : State) (n : Nat) (samples : List Int) (sum : Int) (ok : Bool) :
    (s.setSensor n ⟨samples, some sum, ok⟩).sensorSum n = sum := by
  rw [State.sensorSum]
  exact congrArg (fun x : Sensor => x.mean.getD 0) (nget_nset_same Sensor.init _ _ _)

/-- THERMAL_SENSOR of a sensor with 8 samples. -/
def State.meanShown (s : State) (n : Nat) (sum : Int) (ok : Bool) : State :=
  let u := s.setFld F.THERMAL_SENSOR_T (ofSint 16 (sum / 8)) n
  if !ok && !u.flag F.THERMAL_SENSOR_EXCL n then (u.setFld F.THERMAL_SENSOR_EXCL 1 n).ev 0x020C else u

theorem ofSint_lt (w : Nat) (i : Int) : ofSint w i < 2 ^ w := by
  have hp : (0 : Int) < (2 ^ w : Nat) := by exact_mod_cast Nat.two_pow_pos w
  have h1 := Int.emod_nonneg i hp.ne'
  have h2 := Int.emod_lt_of_pos i hp
  unfold ofSint
  omega

theorem meanShown_spec (s : State) {n : Nat} (hn : n < 24) (sum : Int) (ok : Bool) :
    (s.meanShown n sum ok).fld F.THERMAL_SENSOR_T n = ofSint 16 (sum / 8) ∧
    (s.meanShown n sum ok).flag F.THERMAL_SENSOR_EXCL n = (!ok || s.flag F.THERMAL_SENSOR_EXCL n) ∧
    (s.meanShown n sum ok).power = s.power ∧ (s.meanShown n sum ok).phase = s.phase ∧ (s.meanShown n sum ok).stop = s.stop := by
  obtain ⟨-, -, he, -⟩ := addr_thermalSensor hn
  unfold State.meanShown
  generalize ofSint 16 (sum / 8) = v, ofSint_lt 16 (sum / 8) = hv
  extract_lets u
  have ht : u.fld F.THERMAL_SENSOR_T n = v :=
    (fld_setFld_same s _ _ _ _ (by decide) (by decide)).trans (Nat.mod_eq_of_lt hv)
  have hx : u.flag F.THERMAL_SENSOR_EXCL n = s.flag F.THERMAL_SENSOR_EXCL n :=
    flag_setFld_disjoint s (e := F.THERMAL_SENSOR_T) (f := F.THERMAL_SENSOR_EXCL) _ rfl (by decide) (by decide) (by decide)
  split
  next h =>
    have hok : (!ok) = true := (Bool.and_eq_true_iff.mp h).1
    refine ⟨?mean, ?excluded, ?power, ?phase, ?stop⟩
    case power => rw [State.ev_power, State.setFld_power, State.setFld_power]
    case phase => rw [State.ev_phase, State.setFld_phase, State.setFld_phase]
    case stop => rw [State.ev_stop, State.setFld_stop, State.setFld_stop]
    case mean =>
      rw [ev_fld _ _ _ he]
      simp (disch := decide) only [fld_setFld_disjoint]
      exact ht
    case excluded =>
      rw [ev_flag _ _ _ he, hok, Bool.true_or]
      exact flag_setFld_same u true n 0 rfl (by decide)
  next h =>
    refine ⟨ht, ?_, State.setFld_power _ _ _ _ _, State.setFld_phase _ _ _ _ _, State.setFld_stop _ _ _ _ _⟩
    cases ok
    · rw [Bool.not_false, Bool.true_and, Bool.not_eq_true', Bool.not_eq_false] at h
      exact h
    · exact hx

theorem thermalSample_few {s : State} (n : Nat) (t : Int) (h : (nget Sensor.init s.power.sensors n).samples.length < 7) :
    s.thermalSample n t = s.setSensor n { nget Sensor.init s.power.sensors n with
      samples := t :: (nget Sensor.init s.power.sensors n).samples } := by
  have ht : (t :: (nget Sensor.init s.power.sensors n).samples).take 8 = t :: (nget Sensor.init s.power.sensors n).samples :=
    List.take_of_length_le (by rw [List.length_cons]; omega)
  unfold State.thermalSample
  extract_lets x samples
  have hs : samples = t :: x.samples := ht
  have hl : x.samples.length < 7 := h
  rw [if_pos (by rw [hs, List.length_cons]; omega), hs]
  rfl

/-- A sensor with its eighth or a later sample in. -/
def State.sampled (s : State) (n : Nat) (t : Int) : State :=
  let p := nget Sensor.init s.power.sensors n
  let samples := (t :: p.samples).take 8
  (s.setSensor n ⟨samples, some samples.sum, meanPlausible samples.sum p.mean⟩).meanShown n samples.sum
    (meanPlausible samples.sum p.mean)

theorem thermalSample_mean {s : State} (n : Nat) (t : Int) (h : 7 ≤ (nget Sensor.init s.power.sensors n).samples.length) :
    s.thermalSample n t = (s.sampled n t).thermalUpdate := by
  unfold State.thermalSample
  exact if_neg (by rw [List.length_take, List.length_cons]; omega)

theorem thermalSample_spec {s : State} {n : Nat} (hn : n < 24) (t : Int)
    (h : 7 ≤ (nget Sensor.init s.power.sensors n).samples.length) :
    let p := nget Sensor.init s.power.sensors n
    let sum := ((t :: p.samples).take 8).sum
    (s.thermalSample n t).fld F.THERMAL_SENSOR_T n = ofSint 16 (sum / 8) ∧
    (s.thermalSample n t).flag F.THERMAL_SENSOR_EXCL n = (!meanPlausible sum p.mean || s.flag F.THERMAL_SENSOR_EXCL n) ∧
    (19200 ≤ sum → (s.thermalSample n t).flag F.THERMAL_SENSOR_EXCL n = false → s.stop ≠ .powerFail →
      (s.thermalSample n t).phase = (if s.stop = .thermal then s.phase else .stopped) ∧
      (s.thermalSample n t).stop = .thermal) := by
  intro p sum
  rw [thermalSample_mean n t h]
  obtain ⟨ht, hx, hpower, hphase, hstop⟩ :
      (s.sampled n t).fld F.THERMAL_SENSOR_T n = ofSint 16 (sum / 8) ∧
      (s.sampled n t).flag F.THERMAL_SENSOR_EXCL n = (!meanPlausible sum p.mean || s.flag F.THERMAL_SENSOR_EXCL n) ∧
      (s.sampled n t).power = (s.setSensor n ⟨(t :: p.samples).take 8, some sum, meanPlausible sum p.mean⟩).power ∧
      (s.sampled n t).phase = s.phase ∧ (s.sampled n t).stop = s.stop :=
    meanShown_spec (s.setSensor n ⟨(t :: p.samples).take 8, some sum, meanPlausible sum p.mean⟩) hn sum _
  have hw := thermalUpdate_sensor (s.sampled n t) hn
  refine ⟨(fld_eq_of_word hw).trans ht, (flag_eq_of_word hw).trans hx, fun hhot hin hpf => ?_⟩
  have hsum : (s.sampled n t).sensorSum n = sum := by
    rw [State.sensorSum, hpower]
    exact sensorSum_setSensor s n _ sum _
  rw [← hphase, ← hstop] at *
  exact thermalUpdate_hot hn ((flag_eq_of_word hw).symm.trans hin) (by rw [hsum]; exact hhot) hpf

/-- A sensor that is plausible again counts again. -/
theorem sensorIncluded_spec {s : State} {n : Nat} (hn : n < 24) (hx : s.flag F.THERMAL_SENSOR_EXCL n = true)
    (hp : (nget Sensor.init s.power.sensors n).plausible = true) : (s.sensorIncluded n).flag F.THERMAL_SENSOR_EXCL n = false := by
  unfold State.sensorIncluded
  rw [if_pos ⟨hx, hp⟩, flag_eq_of_word (thermalUpdate_sensor _ hn), ev_flag _ _ _ (addr_thermalSensor hn).2.2.1]
  exact flag_setFld_same s false n 0 rfl (by decide)

end Sys2Proof.Machine
end

section
/-! PROOF. The restart after thermal stop, the supervision of the clocks, and thermal protection as a whole (O15). -/
namespace Sys2Proof.Machine

/-! ### The restart after thermal stop -/

/-- The module's life, its clock and its queue. -/
def State.life (s : State) : Phase × StopCause × Drive × Nat × Time × List Instr :=
  (s.phase, s.stop, s.drive, s.tick, s.time, s.pending)

theorem life_ev (s : State) (code : Nat) (items : List Item) : (s.ev code items).life = s.life := by
  rw [(logged_ev s code items).1]
  rfl

theorem life_setReg (s : State) (r : Reg) (v i j : Nat) : (s.setReg r v i j).life = s.life := rfl
theorem life_setFld (s : State) (f : Fld) (v i j : Nat) : (s.setFld f v i j).life = s.life := rfl

theorem life_keptRegs (s t : State) : (s.keptRegs t).life = t.life := by
  unfold State.keptRegs
  extract_lets u1 u2 u3 u4
  have h1 : u1.life = t.life := fold_same (p := State.life) (fun s r => life_setReg s _ _ _ _) _ _
  have h2 : u2.life = u1.life := (life_setReg _ _ _ _ _).trans (life_setReg _ _ _ _ _)
  have h3 : u3.life = u2.life := fold_same (p := State.life) (fun s r => life_setReg s _ _ _ _) _ _
  have h4 : u4.life = u3.life :=
    fold_same (p := State.life) (fun s r => (life_setFld _ _ _ _ _).trans (life_setFld s _ _ _ _)) _ _
  exact (life_setFld _ _ _ _ _).trans (h4.trans (h3.trans (h2.trans h1)))

theorem life_peerSeen (s : State) (b : Bool) : (s.peerSeen b).life = s.life := (life_setFld _ _ _ _ _).trans (life_setFld s _ _ _ _)

/-- Of the life of the module a start keeps its queue. -/
theorem life_fresh (s : State) : s.fresh.life = (.waiting, .none, .normal, 0, .init, s.pending) := by
  unfold State.fresh
  exact (life_setFld _ _ _ _ _).trans ((life_peerSeen _ _).trans (life_keptRegs _ _))

theorem life_newInstance (s : State) : s.newInstance.life = s.life := life_setReg s.draw _ _ _ _

theorem life_startEnds (s t : State) : (s.startEnds t).life = t.life := by
  unfold State.startEnds
  refine (fold_same (p := State.life) (fun s a => ?forces) _ _).trans (fold_same (p := State.life) (fun s n => ?sessions) _ _)
  case forces =>
    split
    · rfl
    · exact life_ev _ _ _
  case sessions =>
    split
    · exact life_ev _ _ _
    · rfl

theorem life_setDom (s : State) (d : Nat) (on : Bool) : (s.setDom d on).life = s.life := rfl

theorem life_setDoms (s : State) (ds : List Nat) (on : Bool) : (s.setDoms ds on).life = s.life :=
  fold_same (p := State.life) (f := fun s d => s.setDom d on) (fun s d => life_setDom s d on) ds s

theorem life_setPwheel (s : State) (w : Nat) (x : PhysWheel) : (s.setPwheel w x).life = s.life := rfl

theorem life_setWheel (s : State) (w st l : Nat) : (s.setWheel w st l).life = s.life :=
  (life_setFld _ _ _ _ _).trans (life_setFld s _ _ _ _)

/-- A start test changes wheels and their domains only. -/
theorem life_startTest (s : State) : s.startTest.life = s.life := by
  refine fold_same (p := State.life) (fun s w => ?_) _ _
  split
  · exact life_setWheel _ _ _ _
  · exact (life_setWheel _ _ _ _).trans ((life_setPwheel _ _ _).trans (life_setDom s w true))

theorem life_markStep (s : State) (n : Nat) : (s.markStep n).life = s.life := rfl

theorem life_markSteps (s : State) (l : List Nat) : (s.markSteps l).life = s.life :=
  fold_same (p := State.life) life_markStep l s

theorem life_chargeOn (s : State) : s.chargeOn.life = s.life := life_setFld s _ _ _ _

theorem life_withPlate (s : State) (x : Plate) (y : Power) : State.life { s with plate := x, power := y } = s.life := rfl

/-- A fresh module whose clock runs and whose outputs are normal. -/
def State.ticking (s : State) : State := { s with phase := .starting, time.ticking := true, drive := .normal }

/-- The beginning of a start up to its events. -/
def State.begun (s : State) (afterThermal : Bool) : State :=
  let t := s.startEnds (s.fresh.ticking.setFld F.CLOCK_STATUS_PLL_LOCK 1).newInstance
  (if afterThermal then t.ev 0x0207 else t).ev 0x0101

theorem begin_eq (s : State) (afterThermal : Bool) : s.begin afterThermal =
    ((State.chargeOn { (s.begun afterThermal).setDoms [60, 61, 62, 22, 59] true with
      plate.lampTest := true,
      power.storeReady := s.power.storeReady || decide (4600 ≤ s.fld F.HOLDUP_STATUS_STORE_V) }).startTest).markSteps [1, 2] := rfl

theorem life_begun (s : State) (afterThermal : Bool) : (s.begun afterThermal).life = s.fresh.ticking.life := by
  have ht : (s.startEnds (s.fresh.ticking.setFld F.CLOCK_STATUS_PLL_LOCK 1).newInstance).life = s.fresh.ticking.life :=
    (life_startEnds _ _).trans ((life_newInstance _).trans (life_setFld _ _ _ _ _))
  unfold State.begun
  refine (life_ev _ _ _).trans ?_
  split
  · exact (life_ev _ _ _).trans ht
  · exact ht

theorem life_begin (s : State) (afterThermal : Bool) : (s.begin afterThermal).life = s.fresh.ticking.life := by
  rw [begin_eq]
  refine (life_markSteps _ _).trans ((life_startTest _).trans ((life_chargeOn _).trans ?_))
  exact (life_withPlate _ _ _).trans ((life_setDoms (s.begun afterThermal) _ _).trans (life_begun s afterThermal))

theorem begin_life (s : State) (afterThermal : Bool) :
    (s.begin afterThermal).phase = .starting ∧ (s.begin afterThermal).stop = .none ∧ (s.begin afterThermal).drive = .normal ∧
    (s.begin afterThermal).tick = 0 ∧ (s.begin afterThermal).time.ticking = true ∧ (s.begin afterThermal).pending = s.pending := by
  have hb := life_begin s afterThermal
  have hf := life_fresh s
  simp only [State.life, State.ticking, Prod.mk.injEq] at hb hf
  obtain ⟨hphase, hstop, hdrive, htick, htime, hpending⟩ := hb
  obtain ⟨-, fstop, -, ftick, -, fpending⟩ := hf
  exact ⟨hphase, hstop.trans fstop, hdrive, htick.trans ftick, by rw [htime], hpending.trans fpending⟩

theorem thermalRestart_eq {s : State} (h : s.stop = .thermal) (hc : s.vault.closing = none) (ha : s.startAllowed = true) :
    s.thermalRestart = s.begin true := if_pos ⟨h, by rw [hc]; rfl, ha⟩

/-! ### The supervision of the clocks -/

/-- The module stopped for its clock. -/
theorem clockStop_life {s : State} (why : StopCause) (h : s.alive = true) :
    (s.clockStop why).phase = .stopped ∧ (s.clockStop why).stop = why ∧
    (s.clockStop why).drive = (if s.drive = .ended then .ended else .safe) := by
  unfold State.clockStop
  rw [if_pos h]
  exact ⟨(ofPlate_phase.closingFlush _ _).trans (halt_phase _ _ _ _), (ofPlate_stop.closingFlush _ _).trans (halt_stop _ _ _ _),
    (ofPlate_drive.closingFlush _ _).trans (halt_drive _ _ _ _)⟩

/-- What the clocks show, and a clock failure, stay over the stop. -/
theorem clockStop_clocks (s : State) (why : StopCause) :
    (s.clockStop why).word R.CLOCK_STATUS.base = s.word R.CLOCK_STATUS.base ∧ (s.clockStop why).time = s.time := by
  unfold State.clockStop
  split
  · exact ⟨((ofClocks_word (by decide)).closingFlush _ _).trans (halt_clockWord _ _ _ _ (by decide)),
      (ofPlate_time.closingFlush _ _).trans (halt_time _ _ _ _)⟩
  · exact ⟨rfl, rfl⟩

/-- A clock failure shown in one of the bits of CLOCK_STATUS. -/
def State.clockLost (s : State) (f : Fld) : State := State.setFld { s with time.clockFault := true } f 0

/-- What follows a clock failure. -/
def State.clockFailed (s : State) : State := if s.clockEvent.alive then s.clockEvent.clockStop .clock else s.clockEvent

theorem clockEvent_alive (s : State) : s.clockEvent.alive = s.alive := by
  rw [State.alive, State.alive, State.clockEvent, State.ev_phase]

theorem clockFailed_clocks (s : State) :
    s.clockFailed.word R.CLOCK_STATUS.base = s.word R.CLOCK_STATUS.base ∧ s.clockFailed.time = s.time := by
  have he : s.clockEvent.word R.CLOCK_STATUS.base = s.word R.CLOCK_STATUS.base := ev_word s _ _ (by decide)
  have ht : s.clockEvent.time = s.time := State.ev_time _ _ _
  unfold State.clockFailed
  split
  · obtain ⟨hw, htime⟩ := clockStop_clocks s.clockEvent .clock
    exact ⟨hw.trans he, htime.trans ht⟩
  · exact ⟨he, ht⟩

theorem clockFailed_life {s : State} (h : s.alive = true) : s.clockFailed.phase = .stopped ∧ s.clockFailed.stop = .clock ∧
    s.clockFailed.drive = (if s.drive = .ended then .ended else .safe) := by
  have ha : s.clockEvent.alive = true := (clockEvent_alive s).trans h
  have hd : s.clockEvent.drive = s.drive := State.ev_drive _ _ _
  rw [State.clockFailed, if_pos ha, ← hd]
  exact clockStop_life .clock ha

theorem clockFailed_still {s : State} (h : s.alive = false) : s.clockFailed = s.clockEvent :=
  if_neg (by rw [clockEvent_alive, h]; decide)

theorem clockLost_onlyWords (s : State) {f : Fld} (h : f.reg = R.CLOCK_STATUS) :
    State.OnlyWords [R.CLOCK_STATUS.base] { s with time.clockFault := true } (s.clockLost f) := by
  have := onlyWords_setFld { s with time.clockFault := true } f 0 0 0
  rw [h] at this
  exact this

/-- What a clock failure shows, whether or not it is an event and stops the module. -/
theorem clockLost_shown (s : State) {f : Fld} (hr : f.reg = R.CLOCK_STATUS) (hlo : f.lo = f.hi) (h32 : f.hi < 32) {t : State}
    (ht : t = s.clockLost f ∨ t = (s.clockLost f).clockFailed) : t.flag f = false ∧ t.time.clockFault = true := by
  have hf : (s.clockLost f).flag f = false := flag_setFld_same _ false 0 0 hlo h32
  have hc : (s.clockLost f).time.clockFault = true := by rw [State.clockLost, State.setFld_time]
  rcases ht with rfl | rfl
  · exact ⟨hf, hc⟩
  · obtain ⟨hw, htime⟩ := clockFailed_clocks (s.clockLost f)
    exact ⟨(flag_eq_of_word (by rw [hr]; exact hw)).trans hf, by rw [htime, hc]⟩

/-- A clock failure of a module that does not run only records. -/
theorem clockLost_still {s : State} (h : s.alive = false) {f : Fld} (hr : f.reg = R.CLOCK_STATUS) {t : State}
    (ht : t = s.clockLost f ∨ t = (s.clockLost f).clockFailed) :
    t = { s with regs := t.regs, vault := t.vault, time.clockFault := true } ∧
      s.Keeps (R.CLOCK_STATUS.base :: eventWords) t := by
  have hl : State.Recorded (R.CLOCK_STATUS.base :: eventWords) { s with time.clockFault := true } (s.clockLost f) :=
    ((clockLost_onlyWords s hr).mono (List.cons_subset_cons _ (List.nil_subset _))).recorded
  rcases ht with rfl | rfl
  · exact hl
  · rw [clockFailed_still (s := s.clockLost f) h]
    exact hl.ev (List.subset_cons_self _ _) _ _

theorem tcxoCheck_good {s : State} {ppm : Int} (h : ppm.natAbs ≤ 500) :
    (s.tcxoCheck ppm).flag F.CLOCK_STATUS_TCXO_OK = true ∧
    (s.tcxoCheck ppm).flag F.CLOCK_STATUS_PLL_LOCK = (s.flag F.CLOCK_STATUS_PLL_LOCK || s.time.clockFault) ∧
    s.OnlyWords [R.CLOCK_STATUS.base] (s.tcxoCheck ppm) := by
  unfold State.tcxoCheck
  rw [if_pos h]
  extract_lets u
  have hok : u.flag F.CLOCK_STATUS_TCXO_OK = true := flag_setFld_same s true 0 0 rfl (by decide)
  have hlock : u.flag F.CLOCK_STATUS_PLL_LOCK = s.flag F.CLOCK_STATUS_PLL_LOCK := by
    simp (disch := decide) only [u, flag_setFld_disjoint]
  have hw : s.OnlyWords [R.CLOCK_STATUS.base] u := onlyWords_setFld s F.CLOCK_STATUS_TCXO_OK 1 0 0
  have htime : u.time = s.time := State.setFld_time _ _ _ _ _
  split
  next hc =>
    rw [htime] at hc
    refine ⟨?ok, ?lock, hw.setReg _ (by decide)⟩
    case ok => simpa (disch := decide) only [flag_setFld_disjoint] using hok
    case lock =>
      rw [hc, Bool.or_true]
      exact flag_setFld_same u true 0 0 rfl (by decide)
  next hc =>
    rw [htime, Bool.not_eq_true] at hc
    refine ⟨hok, ?_, hw⟩
    rw [hc, Bool.or_false, hlock]

theorem tcxoCheck_bad {s : State} {ppm : Int} (h : 500 < ppm.natAbs) : s.tcxoCheck ppm =
    if s.flag F.CLOCK_STATUS_TCXO_OK ∨ s.alive then (s.clockLost F.CLOCK_STATUS_TCXO_OK).clockFailed
    else s.clockLost F.CLOCK_STATUS_TCXO_OK := by
  unfold State.tcxoCheck
  rw [if_neg (Nat.not_le.mpr h)]
  extract_lets was src u v
  by_cases hw : was = true ∨ u.alive = true
  · have hv : v = u.clockEvent := if_pos hw
    exact (congrArg (fun x : State => if x.alive then x.clockStop .clock else x) hv).trans (if_pos hw).symm
  · have hv : v = u := if_neg hw
    have ha : ¬u.alive = true := fun e => hw (.inr e)
    exact (congrArg (fun x : State => if x.alive then x.clockStop .clock else x) hv).trans ((if_neg ha).trans (if_neg hw).symm)

theorem pllUnlock_eq (s : State) : s.pllUnlock =
    if s.flag F.CLOCK_STATUS_PLL_LOCK then (s.clockLost F.CLOCK_STATUS_PLL_LOCK).clockFailed
    else s.clockLost F.CLOCK_STATUS_PLL_LOCK := by
  unfold State.pllUnlock
  extract_lets was u
  by_cases hw : was = true
  · rw [hw]
    exact (if_pos hw).symm
  · rw [Bool.not_eq_true] at hw
    rw [hw]
    exact (if_neg (by rw [Bool.not_eq_true]; exact hw)).symm

/-! ### O15 -/

theorem tcxoCheck_bad_spec {s t : State} {ppm : Int} (h : 500 < ppm.natAbs) (e : t = s.tcxoCheck ppm) :
    t.flag F.CLOCK_STATUS_TCXO_OK = false ∧ t.time.clockFault = true ∧
    (s.alive = true → t.phase = .stopped ∧ t.stop = .clock ∧ t.drive = (if s.drive = .ended then .ended else .safe)) ∧
    (s.alive = false → t = { s with regs := t.regs, vault := t.vault, time.clockFault := true } ∧
      s.Keeps (R.CLOCK_STATUS.base :: eventWords) t) ∧
    (s.alive = false → s.flag F.CLOCK_STATUS_TCXO_OK = false →
      t = { s with regs := t.regs, time.clockFault := true } ∧ s.Keeps [R.CLOCK_STATUS.base] t) := by
  rw [tcxoCheck_bad h] at e
  have ht : t = s.clockLost F.CLOCK_STATUS_TCXO_OK ∨ t = (s.clockLost F.CLOCK_STATUS_TCXO_OK).clockFailed := by
    rw [e]
    exact (ite_eq_or_eq _ _ _).symm
  obtain ⟨hf, hc⟩ := clockLost_shown s rfl rfl (by decide) ht
  refine ⟨hf, hc, fun ha => ?_, fun ha => clockLost_still ha rfl ht, fun ha hw => ?_⟩
  · rw [e, if_pos (.inr ha)]
    exact clockFailed_life (s := s.clockLost F.CLOCK_STATUS_TCXO_OK) ha
  · rw [if_neg (by rw [ha, hw]; decide)] at e
    rw [e]
    exact clockLost_onlyWords s rfl

theorem pllUnlock_spec {s t : State} (e : t = s.pllUnlock) :
    t.flag F.CLOCK_STATUS_PLL_LOCK = false ∧ t.time.clockFault = true ∧
    (s.alive = true → s.flag F.CLOCK_STATUS_PLL_LOCK = true →
      t.phase = .stopped ∧ t.stop = .clock ∧ t.drive = (if s.drive = .ended then .ended else .safe)) ∧
    (s.alive = false → t = { s with regs := t.regs, vault := t.vault, time.clockFault := true } ∧
      s.Keeps (R.CLOCK_STATUS.base :: eventWords) t) ∧
    (s.flag F.CLOCK_STATUS_PLL_LOCK = false →
      t = { s with regs := t.regs, time.clockFault := true } ∧ s.Keeps [R.CLOCK_STATUS.base] t) := by
  rw [pllUnlock_eq] at e
  have ht : t = s.clockLost F.CLOCK_STATUS_PLL_LOCK ∨ t = (s.clockLost F.CLOCK_STATUS_PLL_LOCK).clockFailed := by
    rw [e]
    exact (ite_eq_or_eq _ _ _).symm
  obtain ⟨hf, hc⟩ := clockLost_shown s rfl rfl (by decide) ht
  refine ⟨hf, hc, fun ha hw => ?_, fun ha => clockLost_still ha rfl ht, fun hw => ?_⟩
  · rw [e, if_pos hw]
    exact clockFailed_life (s := s.clockLost F.CLOCK_STATUS_PLL_LOCK) ha
  · rw [if_neg (by rw [hw]; decide)] at e
    rw [e]
    exact clockLost_onlyWords s rfl

/-- Settles O15: each command by what its operation writes, and the stop by what halting leaves alone. -/
theorem thermalAndClockProtection : Obligations.ThermalAndClockProtection := by
  refine ⟨fun s n x h => ⟨s.thermalSample n x.toInt, rfl, thermalSample_few n x.toInt h⟩,
    fun s n x h => ⟨s.thermalSample n x.toInt, rfl, thermalSample_spec n.isLt x.toInt h⟩,
    fun s n hx hp => ⟨s.sensorIncluded n, rfl, sensorIncluded_spec n.isLt hx hp⟩,
    fun s h hc ha => ⟨s.thermalRestart, rfl, ?_⟩,
    fun s ppm h => ⟨s.tcxoCheck ppm, rfl, tcxoCheck_good h⟩,
    fun s ppm h => ⟨s.tcxoCheck ppm, rfl, tcxoCheck_bad_spec h rfl⟩,
    fun s => ⟨s.pllUnlock, rfl, pllUnlock_spec rfl⟩⟩
  rw [thermalRestart_eq h hc ha]
  exact begin_life s true

end Sys2Proof.Machine
end

section
/-! SUPPORT. What the trip of a domain leads to leaves the domains alone, but that it switches more of them off. -/
namespace Sys2Proof.Machine

section
variable {β : Type} {p : State → β} (hp : OfPlate p)
include hp

theorem OfPlate.canStart (s : State) (n : Nat) : p (s.canStart n) = p s := (hp.setFld _ _ _ _ (by decide)).trans hp.rest

theorem OfPlate.canTrip (s : State) (n : Nat) : p (s.canTrip n) = p s := by
  unfold State.canTrip
  split
  · rfl
  · exact hp.ev.trans ((hp.canStart _ _).trans hp.rest)

theorem OfPlate.canRestart (s : State) (n : Nat) : p (s.canRestart n) = p s := by
  unfold State.canRestart
  split
  · rfl
  · exact hp.ev.trans ((hp.canStart _ _).trans hp.rest)

theorem OfPlate.slPowerOn (s : State) (sl : Nat) : p (s.slPowerOn sl) = p s := by
  unfold State.slPowerOn
  split
  · rfl
  · refine (hp.slLost _ _).trans ((hp.setFld _ _ _ _ (by decide)).trans (hp.rest.trans ?_))
    exact (hp.setReg _ _ _ _ (by decide)).trans (hp.setFld _ _ _ _ (by decide))

theorem OfPlate.aFsChange (s : State) (sl : Nat) : p (s.aFsChange sl) = p s := fold_same (fun s _ => hp.aCond s _ _ _) _ _

theorem OfPlate.dFsChange (s : State) (i : Nat) : p (s.dFsChange i) = p s := fold_same (fun s _ => hp.dCond s _ _ _) _ _
end

/-- P stays as more domains go off, and reads nothing but domains and their trips: no register outside chapter 2, and no other
state. -/
structure OfTrips (P : State → Prop) : Prop extends OfPorts P where
  reg : ∀ {s : State} {a : Nat} {v : W32}, a < 0x2000000 ∨ 0x3000000 ≤ a → P (s.setWord a v) = P s
  life : ∀ {s : State} {phase stop drive start accts selfTest},
    P { s with phase := phase, stop := stop, drive := drive, start := start, accts := accts, selfTest := selfTest } = P s
  hold : ∀ {s : State} {time holdFrom}, P { s with time := time, power.holdFrom := holdFrom } = P s
  off : ∀ {s : State} {d : Nat}, d < 64 → P s → P (s.setDom d false)

/-- Domain d is off, its DOMAIN_TRIP word reads w, and what is remembered of trips is x. -/
def State.Tripped (d : Nat) (w : W32) (x : NMap DomTrip) (s : State) : Prop :=
  s.domOn d = false ∧ s.word (R.DOMAIN_TRIP.addr 0 (d / 32)) = w ∧ s.power.trips = x

theorem tripped_congr {s t : State} {d : Nat} (w : W32) (x : NMap DomTrip)
    (hon : t.word (R.DOMAIN_ON.addr 0 (d / 32)) = s.word (R.DOMAIN_ON.addr 0 (d / 32)))
    (htrip : t.word (R.DOMAIN_TRIP.addr 0 (d / 32)) = s.word (R.DOMAIN_TRIP.addr 0 (d / 32)))
    (hx : t.power.trips = s.power.trips) : State.Tripped d w x t = State.Tripped d w x s := by
  rw [State.Tripped, State.Tripped, domOn_of_word hon, htrip, hx]

theorem ofTrips_tripped {d : Nat} (hd : d < 64) (w : W32) (x : NMap DomTrip) : OfTrips (State.Tripped d w x) := by
  have ha : R.DOMAIN_ON.addr 0 (d / 32) ∉ eventWords ∧ R.DOMAIN_TRIP.addr 0 (d / 32) ∉ eventWords ∧
      R.DOMAIN_ON.addr 0 (d / 32) < 0x3000000 ∧ R.DOMAIN_TRIP.addr 0 (d / 32) < 0x3000000 ∧
      0x2000000 ≤ R.DOMAIN_ON.addr 0 (d / 32) ∧ 0x2000000 ≤ R.DOMAIN_TRIP.addr 0 (d / 32) := by
    simp only [Reg.addr, eventWords, List.mem_cons, List.not_mem_nil, or_false]
    omega
  obtain ⟨he1, he2, hon, htrip, hon0, htrip0⟩ := ha
  have hreg : ∀ {s : State} {a : Nat} {v : W32}, a < 0x2000000 ∨ 0x3000000 ≤ a →
      State.Tripped d w x (s.setWord a v) = State.Tripped d w x s := fun h =>
    tripped_congr w x (word_setWord_ne _ _ (by omega)) (word_setWord_ne _ _ (by omega)) rfl
  exact {
    word := fun h => hreg (by omega)
    rest := rfl
    ev := tripped_congr w x (ev_word _ _ _ he1) (ev_word _ _ _ he2) (congrArg Power.trips (State.ev_power _ _ _))
    net := rfl
    reg := hreg
    life := rfl
    hold := rfl
    off := fun {s e} he ⟨h, ht, hx⟩ => by
      refine ⟨?_, (word_setWord_ne _ _ ?_).trans ht, hx⟩
      · rw [domOn_setDom, h, ite_self]
      · simp only [Reg.addr]
        omega }

section
variable {P : State → Prop} (hP : OfTrips P)
include hP

theorem OfTrips.setCfg (s : State) {f : Fld} (v i j : Nat) (h : 0x3000000 ≤ f.reg.base) : P (s.setFld f v i j) = P s :=
  hP.reg (.inr (le_trans h (f.reg.base_le_addr i j)))

theorem OfTrips.selfTest (s : State) (x : SelfTest) : P { s with selfTest := x } = P s := hP.life

theorem OfTrips.image (s : State) (x : Image) : P { s with image := x } = P s := hP.rest

/-! ### Wheels -/

theorem OfTrips.setWheel (s : State) (w st l : Nat) : P (s.setWheel w st l) = P s :=
  (hP.setFld _ _ _ _ (by decide)).trans (hP.setFld _ _ _ _ (by decide))

theorem OfTrips.degUpdate (s : State) : P s.degUpdate = P s := by
  unfold State.degUpdate
  extract_lets now was u
  have hu : P u = P s := (hP.setFld _ _ _ _ (by decide)).trans (hP.setFld _ _ _ _ (by decide))
  split
  · exact hP.ev.trans hu
  · exact hu

theorem OfTrips.stShow (s : State) : P s.stShow = P s := by
  unfold State.stShow
  extract_lets u1 u2 u3 two
  have h1 : P u1 = P s := (hP.setFld _ _ _ _ (by decide)).trans (hP.setFld _ _ _ _ (by decide))
  have h3 : P u3 = P s := (hP.setFld _ _ _ _ (by decide)).trans ((hP.setFld _ _ _ _ (by decide)).trans h1)
  exact (hP.setFld _ _ _ _ (by decide)).trans ((hP.setFld _ _ _ _ (by decide)).trans h3)

theorem OfTrips.setRot (s : State) (st : Nat) : P (s.setRot st) = P s := hP.setFld _ _ _ _ (by decide)

theorem OfTrips.rotCheck (s : State) : P s.rotCheck = P s := by
  unfold State.rotCheck
  extract_lets u
  have hu : P u = P s := by
    unfold u
    split
    · rfl
    · split
      · split
        · rfl
        · exact hP.ev.trans (hP.setRot _ _)
      · exact hP.setRot _ _
  exact (hP.degUpdate _).trans ((hP.stShow _).trans hu)

theorem OfTrips.rotEnd (s : State) : P s.rotEnd = P s := by
  unfold State.rotEnd
  refine (hP.rotCheck _).trans ?_
  split
  · exact hP.selfTest s _
  · exact (hP.setRot _ _).trans (hP.selfTest s _)

theorem OfTrips.testEnd (s : State) (w : Nat) : P (s.testEnd w) = P s := by
  have hu : P (s.setPwheel w { s.pwheel w with test := none }) = P s := hP.selfTest s _
  unfold State.testEnd
  dsimp only
  split
  · exact (hP.rotEnd _).trans hu
  · exact (hP.rotCheck _).trans hu

theorem OfTrips.stepSkipped (s : State) (w : Nat) : P (s.stepSkipped w) = P s :=
  (hP.rotEnd _).trans ((hP.selfTest _ _).trans ((hP.setFld _ _ _ _ (by decide)).trans (hP.setFld _ _ _ _ (by decide))))

theorem OfTrips.abandon (s : State) (k : Nat) : P (s.abandon k) = P s := by
  unfold State.abandon
  split
  · exact (hP.setFld _ _ _ _ (by decide)).trans (hP.image s _)
  · rfl

theorem OfTrips.dataReady (s : State) (k : Nat) : P (s.dataReady k) = P s :=
  (fold_same (fun s _ => hP.image s _) _ _).trans (hP.image s _)

theorem OfTrips.lwheelLost (s : State) (l : Nat) : P (s.lwheelLost l) = P s :=
  fold_same (fun s k => (hP.dataReady _ k).trans ((hP.image _ _).trans (hP.abandon s k))) _ s

theorem OfTrips.loadOn (s : State) (l p : Nat) : P (s.loadOn l p) = P s :=
  (hP.selfTest _ _).trans ((hP.setFld _ _ _ _ (by decide)).trans (hP.setWheel _ _ _ _))

theorem OfTrips.enterFault (s : State) (a cause : Nat) : P (s.enterFault a cause) = P s := by
  by_cases hr : s.acctState a = aResetting
  · have he : s.enterFault a cause = s.setAcct a { s.acct a with pendingFault := cause } := if_pos hr
    rw [he]
    exact hP.life
  · by_cases h : s.acctState a ∈ [aRunning, aStarting, aStandby]
    · refine (enterFault_same hP.toOfPlate.ofAccounts cause h).trans ?_
      exact (hP.setFld _ _ _ _ (by decide)).trans (hP.setFld _ _ _ _ (by decide))
    · have he : s.enterFault a cause = s :=
        (if_neg hr).trans (if_neg (by simpa only [List.mem_cons, List.not_mem_nil, or_false] using h))
      rw [he]

theorem OfTrips.moveWork (s : State) (w l : Nat) : P (s.moveWork w l) = P s := by
  unfold State.moveWork
  refine Eq.trans ?_ (hP.lwheelLost s l)
  generalize s.lwheelLost l = u
  dsimp only
  split
  · have hv : P ((u.setFld F.ST_MAP_WHEEL noWheel l).ev 0x1203 [.b8 w, .b8 noWheel]) = P u :=
      hP.ev.trans (hP.setFld _ _ _ _ (by decide))
    split
    · exact (hP.enterFault _ _ _).trans hv
    · exact hv
  next p _ =>
    have hv : P ((u.loadOn l p).ev 0x1203 [.b8 w, .b8 p]) = P u := hP.ev.trans (hP.loadOn _ _ _)
    split
    · exact (hP.stepSkipped _ _).trans hv
    · split
      · exact (hP.testEnd _ _).trans ((hP.setFld _ _ _ _ (by decide)).trans hv)
      · exact hv

theorem OfTrips.wheelOut {s : State} {w : Nat} (hw : w < 64) (h : P s) : P ((s.setWheel w wsRemoved noWheel).setDom w false) :=
  hP.off hw ((hP.setWheel s _ _ _).mpr h)

theorem OfTrips.wheelLost {s : State} {w : Nat} (hw : w < 64) (h : P s) : P (s.wheelLost w) := by
  unfold State.wheelLost
  extract_lets st l out
  have hout : ∀ {t : State}, P t → P (out t) := hP.wheelOut hw
  split
  · exact (hP.testEnd _ _).mpr ((hP.setFld _ _ _ _ (by decide)).mpr (hout h))
  · split
    · exact (hP.rotCheck _).mpr (hout h)
    · split
      · exact (hP.rotEnd _).mpr (hout h)
      · split
        · exact (hP.rotCheck _).mpr ((hP.moveWork _ _ _).mpr (hout ((hP.selfTest s _).mpr h)))
        · split
          · exact (hP.rotCheck _).mpr ((hP.moveWork _ _ _).mpr (hout h))
          · exact h

/-! ### The configuration memory, the clock and the vault -/

theorem OfTrips.setResult (s : State) (b r block : Nat) : P (s.setResult b r block) = P s := by
  unfold State.setResult
  extract_lets u v
  have hu : P u = P s := by
    unfold u
    split <;> exact hP.setCfg _ _ _ _ (by decide)
  have hv : P v = P u := by
    unfold v
    split <;> exact hP.setCfg _ _ _ _ (by decide)
  split
  · exact hv.trans hu
  · exact hP.ev.trans (hv.trans hu)

theorem OfTrips.markStep (s : State) (n : Nat) : P (s.markStep n) = P s := hP.life

theorem OfTrips.unconfigure {s : State} (h : P s) : P s.unconfigure := by
  unfold State.unconfigure
  extract_lets pass best addr src u1 u2 u3 u4
  have h1 : P u1 := hP.life.mpr h
  have h2 : P u2 := hP.off (d := 60) (by decide) ((hP.reg (.inl (by decide))).mpr ((hP.reg (.inl (by decide))).mpr h1))
  have h3 : P u3 := hP.ev.mpr (hP.ev.mpr h2)
  have h4 : P u4 := (fold_same hP.markStep _ _).mpr h3
  exact (hP.setFld _ _ _ _ (by decide)).mpr h4

theorem OfTrips.candidates (s : State) (x : List Nat) : P { s with start.candidates := x } = P s := hP.life

theorem OfTrips.readTrip {s : State} (locked : Bool) (h : P s) : P (s.readTrip locked) := by
  unfold State.readTrip
  split
  · exact h
  · split
    · refine hP.unconfigure ((fold_same (fun s b => ?_) _ _).mpr h)
      split
      · exact hP.setResult _ _ _ _
      · rfl
    · split
      next b rest _ =>
        have hu : P ((State.setResult { s with start.candidates := rest } b rsTimeout 0xFFFF).markStep 6) :=
          (hP.markStep _ _).mpr ((hP.setResult _ _ _ _).mpr ((hP.candidates s _).mpr h))
        exact keeps_ite (hP.unconfigure hu) hu
      · exact h

theorem OfTrips.cwFail {s : State} (result : Nat) (h : P s) : P (s.cwFail result) := by
  unfold State.cwFail
  refine hP.ev.mpr (hP.off (d := 60) (by decide) (hP.life.mpr ?_))
  exact (hP.setCfg _ _ _ _ (by decide)).mpr ((hP.setCfg _ _ _ _ (by decide)).mpr h)

theorem OfTrips.clockStop (s : State) (why : StopCause) : P (s.clockStop why) = P s := by
  unfold State.clockStop
  split
  · exact (hP.closingFlush _ _).trans ((hP.restage _).trans (hP.life.trans (hP.toOfPlate.stopped s 4)))
  · rfl

theorem OfTrips.powerDown {s : State} (h : P s) : P s.powerDown := by
  rcases powerDown_cases s with e | ⟨-, e⟩
  · rwa [e]
  · rw [e]
    exact hP.hold.mpr (hP.off (by decide) (hP.off (by decide) h))

theorem OfTrips.tripAction {s : State} {d : Nat} (hd : d < 64) (locked : Bool) (h : P s) : P (s.tripAction d locked) := by
  unfold State.tripAction
  refine keeps_ite (hP.wheelLost hd h) (keeps_ite ((hP.portOff s _).mpr h) (keeps_ite h (keeps_ite ((hP.canTrip s _).mpr h)
    (keeps_ite ?slice (keeps_ite h (keeps_ite ?memory (keeps_ite ?clock ?vault)))))))
  case slice =>
    have hr : P (s.relinquish 5) := (hP.relinquish s 5).mpr h
    exact (hP.slPowerOff _ _).mpr (keeps_ite (hP.off (by omega) hr) hr)
  case memory =>
    have hr : P (s.readTrip locked) := hP.readTrip locked h
    exact keeps_ite (hP.cwFail _ hr) hr
  case clock =>
    exact hP.hold.mpr ((hP.clockStop s _).mpr h)
  case vault =>
    exact hP.powerDown (hP.rest.mpr ((hP.setFld s _ _ _ (by decide)).mpr h))
end

end Sys2Proof.Machine
end

section
/-! PROOF. The trip of a domain, its retry, and the field supplies (O14). -/
namespace Sys2Proof.Machine

/-! ### The trip -/

/-- What is remembered of a domain that trips: the first trip, or a second one within 10 s of it. -/
def DomTrip.next (x : DomTrip) (tick : Nat) : DomTrip :=
  match x.first with
  | some k => if tick - k ≤ 10000000 then ⟨some k, false, true⟩ else ⟨some tick, true, false⟩
  | none => ⟨some tick, true, false⟩

/-- Domain d off, its DOMAIN_TRIP bit set, and its trip remembered. -/
def State.tripNoted (s : State) (d : Nat) : State :=
  ((s.setDom d false).setBit R.DOMAIN_TRIP (d % 32) true 0 (d / 32)).setTrip d ((s.domTrip? d).next s.tick)

theorem domainTrip_eq {s : State} {d : Nat} (hd : d ≠ 63) (h : s.domOn d = true) :
    ∃ locked, s.domainTrip d = ((s.tripNoted d).ev 0x020A [.b16 d]).tripAction d locked := by
  unfold State.domainTrip
  rw [if_neg (by rw [h]; simpa using hd)]
  extract_lets x second u v
  refine ⟨second, congrArg (fun w : DomTrip => ((u.setTrip d w).ev 0x020A [.b16 d]).tripAction d second) ?_⟩
  unfold second DomTrip.next
  rcases hf : x.first with - | k
  · rfl
  · dsimp only
    by_cases hk : s.tick - k ≤ 10000000
    · rw [if_pos hk, if_pos (decide_eq_true hk)]
    · rw [if_neg hk, if_neg (by simpa using hk)]
      rfl

theorem domTrip?_setTrip (s : State) (d : Nat) (x : DomTrip) (e : Nat) :
    (s.setTrip d x).domTrip? e = if e = d then x else s.domTrip? e := by
  by_cases h : e = d
  · rw [h, if_pos rfl]
    exact nget_nset_same DomTrip.init _ _ _
  · rw [if_neg h]
    exact nget_nset_ne DomTrip.init DomTrip.init _ _ h

theorem tripNoted_off (s : State) (d : Nat) : (s.tripNoted d).domOn d = false := by
  have hw : (s.tripNoted d).word (R.DOMAIN_ON.addr 0 (d / 32)) = (s.setDom d false).word (R.DOMAIN_ON.addr 0 (d / 32)) :=
    word_setWord_ne _ _ (by simp only [Reg.addr]; omega)
  rw [domOn_of_word hw, domOn_setDom, if_pos rfl]

theorem domainTrip_spec {s : State} {d : Nat} (h64 : d < 64) (hd : d ≠ 63) (h : s.domOn d = true) :
    (s.domainTrip d).domOn d = false ∧ bit ((s.domainTrip d).reg R.DOMAIN_TRIP 0 (d / 32)) (d % 32) = true ∧
    (s.domainTrip d).domTrip? d = (s.domTrip? d).next s.tick := by
  obtain ⟨locked, he⟩ := domainTrip_eq hd h
  have hP := ofTrips_tripped h64 ((s.tripNoted d).word (R.DOMAIN_TRIP.addr 0 (d / 32))) (s.tripNoted d).power.trips
  obtain ⟨hoff, hword, htrips⟩ := hP.tripAction h64 locked (hP.ev.mpr ⟨tripNoted_off s d, rfl, rfl⟩)
  rw [← he] at hoff hword htrips
  refine ⟨hoff, ?_, ?_⟩
  · rw [reg_eq_of_word hword]
    exact (bit_setBit (s.setDom d false) true (Nat.mod_lt _ (by decide)) (d % 32)).trans (if_pos rfl)
  · rw [State.domTrip?, htrips]
    exact (domTrip?_setTrip _ d _ d).trans (if_pos rfl)

/-! ### The retry -/

/-- Domain d on again, its wait over. -/
def State.retried (s : State) (d : Nat) : State :=
  (s.setTrip d { s.domTrip? d with awaiting := false }).setDom d true

/-- With a slice's controller its electronics go on, unless a trip of their own keeps them off. -/
def State.sliceRetried (s : State) (d : Nat) : State :=
  if d < 43 ∧ !(s.domTrip? (d + 16)).awaiting ∧ !(s.domTrip? (d + 16)).locked then (s.retried d).setDom (d + 16) true
  else s.retried d

/-- The domains of a retry. -/
def State.retryDoms (s : State) (d : Nat) : State := if 27 ≤ d ∧ d < 59 then s.sliceRetried d else s.retried d

theorem domainRetry_idle {s : State} {d : Nat} (h : (s.domTrip? d).awaiting = true) (hn : s.domNeeded d = false) :
    s.domainRetry d = s.setTrip d { s.domTrip? d with awaiting := false } := by
  have hn' : (s.setTrip d { s.domTrip? d with awaiting := false }).domNeeded d = false := hn
  unfold State.domainRetry
  extract_lets x u
  rw [if_neg (by rw [h]; decide)]
  exact if_pos (by rw [hn']; rfl)

theorem domainRetry_eq {s : State} {d : Nat} (h : (s.domTrip? d).awaiting = true) (hn : s.domNeeded d = true) :
    s.domainRetry d =
      if 23 ≤ d ∧ d < 27 then (s.retried d).canRestart (d - 23)
      else if 27 ≤ d ∧ d < 59 then
        if (s.sliceRetried d).sliceOn ((d - 27) % 16) then (s.sliceRetried d).slPowerOn ((d - 27) % 16) else s.sliceRetried d
      else s.retried d := by
  have hn' : (s.setTrip d { s.domTrip? d with awaiting := false }).domNeeded d = true := hn
  have hs : 27 ≤ d ∧ d < 59 → s.sliceRetried d =
      if d < 43 ∧ !((s.retried d).domTrip? (43 + (d - 27) % 16)).awaiting ∧ !((s.retried d).domTrip? (43 + (d - 27) % 16)).locked
      then (s.retried d).setDom (43 + (d - 27) % 16) true else s.retried d := by
    intro hd
    by_cases h43 : d < 43
    · have he : 43 + (d - 27) % 16 = d + 16 := by omega
      have ht : (s.retried d).domTrip? (d + 16) = s.domTrip? (d + 16) :=
        (domTrip?_setTrip s d _ (d + 16)).trans (if_neg (by omega))
      rw [he, ht]
      rfl
    · exact (if_neg fun e => h43 e.1).trans (if_neg fun e => h43 e.1).symm
  unfold State.domainRetry
  extract_lets x u v sl y w
  rw [if_neg (by rw [h]; decide), if_neg (by rw [hn']; decide)]
  by_cases hc : 23 ≤ d ∧ d < 27
  · rw [if_pos hc, if_pos hc]
    rfl
  · rw [if_neg hc, if_neg hc]
    by_cases hd : 27 ≤ d ∧ d < 59
    · rw [if_pos hd, if_pos hd, hs hd]
      rfl
    · rw [if_neg hd, if_neg hd]
      rfl

theorem OfPlate.domainRetry {β : Type} {p : State → β} (hp : OfPlate p) {s : State} {d : Nat}
    (h : (s.domTrip? d).awaiting = true) (hn : s.domNeeded d = true) : p (s.domainRetry d) = p (s.retryDoms d) := by
  rw [domainRetry_eq h hn]
  unfold State.retryDoms
  split
  next hc =>
    rw [if_neg (by omega)]
    exact hp.canRestart _ _
  next =>
    split
    · split
      · exact hp.slPowerOn _ _
      · rfl
    · rfl

theorem retried_domOn (s : State) (d e : Nat) : (s.retried d).domOn e = if e = d then true else s.domOn e :=
  domOn_setDom (s.setTrip d { s.domTrip? d with awaiting := false }) d true e

theorem retryDoms_domOn (s : State) {d e : Nat} (h : e ≠ d) : (s.retryDoms d).domOn e =
    (s.domOn e || (decide (27 ≤ d ∧ d < 43 ∧ e = d + 16) && !(s.domTrip? e).awaiting && !(s.domTrip? e).locked)) := by
  have hr : (s.retried d).domOn e = s.domOn e := (retried_domOn s d e).trans (if_neg h)
  have hother : ¬(27 ≤ d ∧ d < 43 ∧ e = d + 16) → (s.retryDoms d).domOn e = s.domOn e := by
    intro hne
    unfold State.retryDoms State.sliceRetried
    split
    · split
      · rw [domOn_setDom, if_neg (by omega)]
        exact hr
      · exact hr
    · exact hr
  by_cases he : 27 ≤ d ∧ d < 43 ∧ e = d + 16
  · obtain ⟨h27, h43, rfl⟩ := he
    have hd : (s.retryDoms d) = s.sliceRetried d := if_pos (by omega)
    rw [decide_eq_true ⟨h27, h43, rfl⟩, Bool.true_and, hd]
    unfold State.sliceRetried
    split
    next hc =>
      rw [domOn_setDom, if_pos rfl, hc.2.1, hc.2.2, Bool.and_self, Bool.or_true]
    next hc =>
      have hk : (!(s.domTrip? (d + 16)).awaiting && !(s.domTrip? (d + 16)).locked) = false := by
        rw [← Bool.not_eq_true, Bool.and_eq_true]
        exact fun e => hc ⟨h43, e⟩
      rw [hr, hk, Bool.or_false]
  · rw [hother he, decide_eq_false he, Bool.false_and, Bool.false_and, Bool.or_false]

theorem retryDoms_domOn_same (s : State) (d : Nat) : (s.retryDoms d).domOn d = true := by
  have hr : (s.retried d).domOn d = true := (retried_domOn s d d).trans (if_pos rfl)
  unfold State.retryDoms State.sliceRetried
  split
  · split
    · rw [domOn_setDom, if_neg (by omega)]
      exact hr
    · exact hr
  · exact hr

theorem setDom_power (s : State) (d : Nat) (on : Bool) : (s.setDom d on).power = s.power := rfl

theorem retryDoms_power (s : State) (d : Nat) :
    (s.retryDoms d).power = (s.setTrip d { s.domTrip? d with awaiting := false }).power := by
  unfold State.retryDoms State.sliceRetried State.retried
  split
  · split
    · rw [setDom_power, setDom_power]
    · exact setDom_power _ _ _
  · exact setDom_power _ _ _

theorem setDom_eq (s : State) (d : Nat) (on : Bool) : s.setDom d on = { s with regs := (s.setDom d on).regs } := rfl

theorem setTrip_regs (s : State) (d : Nat) (x : DomTrip) (r : NMap W32) :
    { s.setTrip d x with regs := r } = { s with regs := r, power.trips := (s.setTrip d x).power.trips } := rfl

/-- A retry that only switches the domain on changes only registers besides. -/
theorem retried_eq (s : State) (d : Nat) :
    s.retried d = { s with regs := (s.retried d).regs, power.trips := (s.retried d).power.trips } := by
  have hp : (s.retried d).power = (s.setTrip d { s.domTrip? d with awaiting := false }).power := setDom_power _ _ _
  rw [hp]
  exact (setDom_eq _ _ _).trans (setTrip_regs _ _ _ _)

theorem domainRetry_spec {s : State} {d : Nat} (h64 : d < 64) (h : (s.domTrip? d).awaiting = true)
    (hn : s.domNeeded d = true) :
    (s.domainRetry d).domOn d = true ∧ (s.domainRetry d).domTrip? d = { s.domTrip? d with awaiting := false } ∧
    (∀ e : Fin 64, e.val ≠ d → (s.domainRetry d).domTrip? e.val = s.domTrip? e.val) ∧
    (∀ e : Fin 64, e.val ≠ d → (s.domainRetry d).domOn e.val = (s.domOn e.val ||
      (decide (27 ≤ d ∧ d < 43 ∧ e.val = d + 16) && !(s.domTrip? e.val).awaiting && !(s.domTrip? e.val).locked))) ∧
    (d < 23 ∨ 59 ≤ d → s.domainRetry d =
      { s with regs := (s.domainRetry d).regs, power.trips := (s.domainRetry d).power.trips }) := by
  have hon : ∀ e, e < 64 → (s.domainRetry d).domOn e = (s.retryDoms d).domOn e := fun e he =>
    domOn_of_word ((ofPlate_word (by simp only [Reg.addr]; omega)).domainRetry h hn)
  have htrip : ∀ e, (s.domainRetry d).domTrip? e = if e = d then { s.domTrip? d with awaiting := false } else s.domTrip? e := by
    intro e
    rw [← domTrip?_setTrip, State.domTrip?, State.domTrip?, ofPlate_power.domainRetry h hn, retryDoms_power]
  refine ⟨(hon d h64).trans (retryDoms_domOn_same s d), (htrip d).trans (if_pos rfl),
    fun e he => (htrip e).trans (if_neg he), fun e he => (hon e e.isLt).trans (retryDoms_domOn s he), fun hd => ?_⟩
  have he : s.domainRetry d = s.retried d := by
    rw [domainRetry_eq h hn, if_neg (by omega), if_neg (by omega)]
  rw [he]
  exact retried_eq s d

/-! ### The field supplies -/

/-- The field of FS_STATUS that shows the state of a slice's field supply. -/
def fsFld (sl : Nat) : Fld := ⟨R.FS_STATUS, 2 * sl + 1, 2 * sl⟩

theorem fsState_eq (s : State) (sl : Nat) : s.fsState sl = s.fld (fsFld sl) := rfl

/-- FS_VOLTAGE and FS_STATUS of a voltage of slice sl. -/
def State.fsShown (s : State) (sl v : Nat) : State :=
  if s.fsState sl = fsNext (s.fsState sl) v then s.setReg R.FS_VOLTAGE v sl
  else (s.setReg R.FS_VOLTAGE v sl).setFld (fsFld sl) (fsNext (s.fsState sl) v)

theorem OfPlate.fsChange {β : Type} {p : State → β} (hp : OfPlate p) {s : State} (h : s.powered = true) (sl v : Nat) :
    p (s.fsChange sl v) = p (s.fsShown sl v) := by
  unfold State.fsChange State.fsShown
  rw [if_neg (by rw [h]; decide)]
  extract_lets old new u w x
  have hx : p x = p w := by
    unfold x
    split
    · exact hp.ev
    · rfl
  split
  · rfl
  · split
    · exact (hp.aFsChange _ _).trans hx
    · exact (hp.dFsChange _ _).trans hx

theorem fsNext_lt (old v : Nat) : fsNext old v < 4 := by
  unfold fsNext
  repeat' split
  all_goals decide

theorem fsShown_state (s : State) {sl : Nat} (v : Nat) (h : sl < 16) : (s.fsShown sl v).fsState sl = fsNext (s.fsState sl) v := by
  have hne : (fsFld sl).reg.addr 0 0 ≠ R.FS_VOLTAGE.addr sl 0 := by
    simp only [fsFld, Reg.addr]
    omega
  unfold State.fsShown
  split
  next he => exact (fld_setReg_ne s (f := fsFld sl) v hne).trans he
  next =>
    have hw : (fsFld sl).hi + 1 - (fsFld sl).lo = 2 := by
      simp only [fsFld]
      omega
    rw [fsState_eq, fld_setFld_same _ _ _ _ _ (by simp only [fsFld]; omega) (by simp only [fsFld]; omega), hw]
    exact Nat.mod_eq_of_lt (fsNext_lt _ _)

theorem fsShown_state_ne (s : State) {sl k : Nat} (v : Nat) (h : sl < 16) (hk : k ≠ sl) :
    (s.fsShown sl v).fsState k = s.fsState k := by
  have hne : (fsFld k).reg.addr 0 0 ≠ R.FS_VOLTAGE.addr sl 0 := by
    simp only [fsFld, Reg.addr]
    omega
  have hs : (s.setReg R.FS_VOLTAGE v sl).fsState k = s.fsState k := fld_setReg_ne s (f := fsFld k) v hne
  unfold State.fsShown
  split
  · exact hs
  · rw [← hs, fsState_eq, fsState_eq]
    exact fld_setFld_disjoint _ _ rfl (by simp only [fsFld]; omega) (by simp only [fsFld]; omega)
      (by simp only [fsFld]; omega)

theorem fsShown_voltage (s : State) (sl v : Nat) {k : Nat} : (s.fsShown sl v).fld F.FS_VOLTAGE_FS_V k =
    (s.setReg R.FS_VOLTAGE v sl).fld F.FS_VOLTAGE_FS_V k := by
  have hne : R.FS_VOLTAGE.addr k 0 ≠ (fsFld sl).reg.addr 0 0 := by
    simp only [fsFld, Reg.addr]
    omega
  unfold State.fsShown
  split
  · rfl
  · exact fld_setFld_ne _ _ hne

theorem fsShown_life (s : State) (sl v : Nat) : (s.fsShown sl v).phase = s.phase ∧ (s.fsShown sl v).drive = s.drive := by
  unfold State.fsShown
  split
  · exact ⟨State.setReg_phase _ _ _ _ _, State.setReg_drive _ _ _ _ _⟩
  · rw [State.setFld_phase, State.setFld_drive]
    exact ⟨State.setReg_phase _ _ _ _ _, State.setReg_drive _ _ _ _ _⟩

theorem fsChange_spec {s : State} (h : s.powered = true) {sl v : Nat} (hsl : sl < 16) (hv : v < 2 ^ 16) :
    (s.fsChange sl v).fsState sl = fsNext (s.fsState sl) v ∧ (s.fsChange sl v).fld F.FS_VOLTAGE_FS_V sl = v ∧
    (∀ k : Fin 16, k.val ≠ sl → (s.fsChange sl v).fsState k.val = s.fsState k.val ∧
      (s.fsChange sl v).fld F.FS_VOLTAGE_FS_V k.val = s.fld F.FS_VOLTAGE_FS_V k.val) ∧
    (s.fsChange sl v).phase = s.phase ∧ (s.fsChange sl v).drive = s.drive := by
  have hst : ∀ k, (s.fsChange sl v).fsState k = (s.fsShown sl v).fsState k := fun k =>
    fld_eq_of_word (f := fsFld k) ((ofPlate_word (by simp only [fsFld, Reg.addr]; omega)).fsChange h sl v)
  have hvt : ∀ k, k < 16 → (s.fsChange sl v).fld F.FS_VOLTAGE_FS_V k =
      (s.setReg R.FS_VOLTAGE v sl).fld F.FS_VOLTAGE_FS_V k := fun k hk =>
    (fld_eq_of_word ((ofPlate_word (by simp only [Reg.addr]; omega)).fsChange h sl v)).trans (fsShown_voltage s sl v)
  obtain ⟨hphase, hdrive⟩ := fsShown_life s sl v
  refine ⟨(hst sl).trans (fsShown_state s v hsl), (hvt sl hsl).trans ?_, fun k hk => ⟨(hst k).trans (fsShown_state_ne s v hsl hk),
    (hvt k k.isLt).trans (fld_setReg_ne s v ?_)⟩, (ofPlate_phase.fsChange h sl v).trans hphase,
    (ofPlate_drive.fsChange h sl v).trans hdrive⟩
  · rw [State.fld, reg_setReg_same _ _ _ _ _ (lt_of_lt_of_le hv (by decide)), bits, Nat.pow_zero, Nat.div_one]
    exact Nat.mod_eq_of_lt hv
  · simp only [Reg.addr]
    omega

/-! ### O14 -/

/-- Settles O14: the trip by a predicate that every branch of its action keeps; the retry and the field supplies by what their
last operations leave alone. -/
theorem domainTripAndRetry : Obligations.DomainTripAndRetry := by
  refine ⟨fun s d hd h => ⟨s.domainTrip d, rfl, domainTrip_spec d.isLt hd h⟩,
    fun s => ⟨s, congrArg Host.Outcome.next (if_pos (.inl rfl)), rfl⟩, fun s d h hn => ⟨s.domainRetry d, rfl, ?_⟩,
    fun s d h hn => ⟨s.domainRetry d, rfl, domainRetry_idle h hn⟩,
    fun s sl v h => ⟨s.fsChange sl v.toNat, rfl, ?_⟩⟩
  · obtain ⟨hon, htrip, htrips, hdoms, hrest⟩ := domainRetry_spec d.isLt h hn
    exact ⟨hon, htrip, fun e he => htrips e (Fin.val_ne_of_ne he), fun e he => hdoms e (Fin.val_ne_of_ne he), hrest⟩
  · obtain ⟨hst, hvt, hothers, hphase, hdrive⟩ := fsChange_spec h sl.isLt v.isLt
    exact ⟨hst, hvt, fun k hk => hothers k (Fin.val_ne_of_ne hk), hphase, hdrive⟩

end Sys2Proof.Machine
end

section
/-! PROOF. The release that ends a start (O16). -/
namespace Sys2Proof.Machine

/-! ### What the release leaves of the start's record -/

theorem ofPlate_start : OfPlate State.start := ⟨fun _ => rfl, rfl, State.ev_start _ _ _⟩

theorem degUpdate_start (s : State) : s.degUpdate.start = s.start := by
  unfold State.degUpdate
  extract_lets now was u
  split
  · exact State.ev_start u _ _
  · rfl

theorem stShow_start (s : State) : s.stShow.start = s.start := by simp [State.stShow]

theorem setRot_start (s : State) (st : Nat) : (s.setRot st).start = s.start := State.setFld_start s _ _ _ _

theorem rotCheck_start (s : State) : s.rotCheck.start = s.start := by
  unfold State.rotCheck
  rw [degUpdate_start, stShow_start]
  split
  · rfl
  · split
    · split
      · rfl
      · exact (State.ev_start _ _ _).trans (setRot_start s rotStopped)
    · exact setRot_start s rotWaiting

theorem acctsTo_start (s : State) (st : Nat) : (s.acctsTo st).start = s.start := by
  refine fold_same (p := State.start) (fun s a => ?_) _ _
  split <;> rfl

theorem buildSig_start (s : State) (g : Nat) : (s.buildSig g).start = s.start := by
  unfold State.buildSig
  extract_lets
  split <;> rfl

theorem buildImage_start (s : State) : s.buildImage.start = s.start :=
  fold_same (p := State.start) buildSig_start _ _

theorem enableTasks_start (s : State) (a : Nat) : (s.enableTasks a).start = s.start := by
  unfold State.enableTasks
  refine fold_same (p := State.start) (fun s k => ?_) _ _
  rfl

theorem releaseAll_start (s : State) : s.releaseAll.start = s.start := by
  unfold State.releaseAll
  extract_lets u v _ w
  have hv : v.start = s.start := acctsTo_start u aRunning
  have hw : w.start = s.start := by
    refine (fold_same (p := State.start) (fun s k => ?_) _ _).trans hv
    rfl
  refine (fold_same (p := State.start) (fun s a => ?_) _ _).trans hw
  split
  · exact enableTasks_start s a
  · rfl

theorem stepDone_of_start {s t : State} (h : t.start = s.start) {n : Nat} (hn : n ≠ 3) : t.stepDone n = s.stepDone n := by
  simp [State.stepDone, h, hn]

/-- The first release of a module whose step 14 is marked marks no step. -/
theorem firstRelease_start {s : State} (h : s.stepDone 14 = true) : s.firstRelease.start = s.start := by
  have h14 : s.releaseAll.stepDone 14 = true := (stepDone_of_start (releaseAll_start s) (by decide)).trans h
  unfold State.firstRelease
  extract_lets u _ v
  have hv : v.start = s.start := (congrArg State.start (if_pos h14)).trans (releaseAll_start s)
  exact (ofPlate_start.restage _).trans ((rotCheck_start _).trans hv)

theorem startRelease_inControl {s : State} (h1 : s.phase = .starting) (h2 : s.stepDone 12 = true)
    (h3 : s.power.storeReady = true) (h4 : s.buildImage.inControl = true) : s.startRelease = s.buildImage.firstRelease := by
  simp [State.startRelease, h1, h2, h3, h4]

/-- START_RELEASE in control marks no step where step 14 is marked. -/
theorem startRelease_start {s : State} (h1 : s.phase = .starting) (h2 : s.stepDone 12 = true)
    (h3 : s.power.storeReady = true) (h4 : s.buildImage.inControl = true) (h14 : s.stepDone 14 = true) :
    s.startRelease.start = s.start := by
  have hb : s.buildImage.stepDone 14 = true := (stepDone_of_start (buildImage_start s) (by decide)).trans h14
  rw [startRelease_inControl h1 h2 h3 h4, firstRelease_start hb, buildImage_start]

/-! ### O16 -/

/-- A single module in its start sequence, its store ready, with steps 12 and 14 marked and step 13 not. No run from reset comes
here: step 14 is marked together with step 13 only. -/
def step14Ahead : State :=
  { State.reset with phase := .starting, power.storeReady := true, start.steps := [(12, true), (14, true)] }

/-- Refutes O16 in its clause of START_RELEASE, which asks for step 13 on every state that meets its hypotheses: the first release
marks steps 13 and 14 together, and neither where step 14 is marked already, as in step14Ahead. -/
theorem not_startSequenceSteps : ¬ Obligations.StartSequenceSteps := by
  unfold Obligations.StartSequenceSteps
  rintro ⟨-, -, -, -, -, hrelease⟩
  obtain ⟨t, ht, -, -, -, h13, -⟩ := hrelease step14Ahead rfl (by decide) rfl
  obtain rfl : step14Ahead.startRelease = t := Host.Outcome.next.inj ht
  have hstart : step14Ahead.startRelease.start = step14Ahead.start :=
    startRelease_start rfl (by decide) rfl (by decide) (by decide)
  rw [stepDone_of_start hstart (by decide)] at h13
  exact absurd h13 (by decide)

end Sys2Proof.Machine
end

section
/-! PROOF. The data-plane tick and the words that wait for it (O39). -/
namespace Sys2Proof.Machine

/-- A module that waits, its time running and its base of plane A MASTER: TS becomes valid at its next tick for the first time,
which is recorded as event 0x0C03. The vault takes records, and a word waits that names VAULT_NEXT. No session's write leaves such a
word: VAULT_NEXT is read-only. -/
def firstTsTick : State :=
  State.setFld (State.setFld { State.reset with
    time.ticking := true, mgmt.effects := [.word (R.VAULT_NEXT.addr 0 0) 0 0 0] } F.DOM_STATUS_STATE bsMaster)
    F.VAULT_STATUS_STATE vWriteThrough

theorem firstTsTick_vaultNext : firstTsTick.dataTick.word (R.VAULT_NEXT.addr 0 0) = 1 := by decide +kernel

theorem firstTsTick_masked : firstTsTick.masked R.VAULT_NEXT 0 0 0 = 0 := by decide +kernel

/-- Refutes O39 in its clause of a single waiting word, which allows every register of its chapters, VAULT_NEXT too: at the tick of
firstTsTick an event takes the next slot number, and VAULT_NEXT reads 1 where the word written would leave it at 0. -/
theorem not_theTickAndTheImage : ¬ Obligations.TheTickAndTheImage := by
  unfold Obligations.TheTickAndTheImage
  rintro ⟨-, -, -, -, hword, -⟩
  obtain ⟨t, ht, hw, -⟩ := hword firstTsTick 0 0 0 R.VAULT_NEXT 0 0 rfl (.inr rfl) rfl (by decide) (by decide) (by decide)
  obtain rfl : firstTsTick.dataTick = t := Host.Outcome.next.inj ht
  rw [firstTsTick_vaultNext, show (0 : W32).toNat = 0 from rfl, firstTsTick_masked] at hw
  exact absurd hw (by decide)

end Sys2Proof.Machine
end

section
/-! SUPPORT. The banks of the configuration memory, the status of the write session, and the power of its memory. -/
namespace Sys2Proof.Machine

/-! ### Banks -/

theorem setBank_same (s : State) (b : Nat) (m : NMap W32) : (s.setBank b m).bank b = m := by
  unfold State.setBank State.bank
  split <;> rfl

theorem setBank_other (s : State) (b : Nat) (m : NMap W32) : (s.setBank b m).bank (1 - b) = s.bank (1 - b) := by
  by_cases h : b = 0
  · subst h
    rfl
  · rw [show 1 - b = 0 by omega]
    unfold State.setBank
    rw [if_neg h]
    rfl

theorem setBank_eq (s : State) (b : Nat) (m : NMap W32) : s.setBank b m =
    { s with start.bankA := (s.setBank b m).start.bankA, start.bankB := (s.setBank b m).start.bankB } := by
  unfold State.setBank
  split <;> rfl

theorem setBank_fld (s : State) (b : Nat) (m : NMap W32) (f : Fld) : (s.setBank b m).fld f = s.fld f := by
  rw [setBank_eq]
  rfl

theorem setBank_word (s : State) (b : Nat) (m : NMap W32) (a : Nat) : (s.setBank b m).word a = s.word a := by
  rw [setBank_eq]
  rfl

theorem bank_of_start {s t : State} (h : t.start = s.start) (b : Nat) : t.bank b = s.bank b := by
  rw [State.bank, State.bank, h]

/-- What is left of a bank after an erasure reads as erased below its end. -/
theorem nget_filter_le {V : Type} (d : V) (m : NMap V) {k n : Nat} (h : k < n) :
    nget d (m.filter fun x => decide (n ≤ x.1)) k = d := by
  induction m with
  | nil => rfl
  | cons x m ih =>
    rw [List.filter_cons]
    split
    next hx =>
      have hne : k ≠ x.1 := by
        have := of_decide_eq_true hx
        omega
      rw [nget, if_neg hne]
      exact ih
    next => exact ih

theorem inactiveBank_cases (s : State) : s.inactiveBank = 0 ∨ s.inactiveBank = 1 := by
  unfold State.inactiveBank
  split
  · exact .inr rfl
  · exact .inl rfl

/-! ### STATE of CFG_WR_STATUS -/

theorem setFld_cwState (s : State) {v : Nat} (h : v < 16) : (s.setFld F.CFG_WR_STATUS_STATE v).cwState = v :=
  (fld_setFld_same s _ _ _ _ (by decide) (by decide)).trans (Nat.mod_eq_of_lt h)

/-- A write of a field above STATE leaves STATE alone. -/
theorem cwState_setFld (s : State) {f : Fld} (v : Nat) (hr : f.reg = R.CFG_WR_STATUS) (hlo : 3 < f.lo) (hhi : f.lo ≤ f.hi)
    (h32 : f.hi < 32) : (s.setFld f v).cwState = s.cwState :=
  fld_setFld_disjoint (e := f) (f := F.CFG_WR_STATUS_STATE) s v hr.symm hhi h32 (.inl hlo)

/-! ### D60 and the event of a change of the session -/

section
variable (s : State) (on : Bool) (code : Nat) (items : List Item)

theorem switched_fld {f : Fld} (hr : f.reg = R.CFG_WR_STATUS) : ((s.setDom 60 on).ev code items).fld f = s.fld f := by
  refine (ev_fld _ _ _ ?_).trans (fld_setReg_ne s _ ?_)
  all_goals
    rw [hr]
    decide

theorem switched_domOn : ((s.setDom 60 on).ev code items).domOn 60 = on :=
  (domOn_of_word (ev_word _ _ _ (by decide))).trans ((domOn_setDom s 60 on 60).trans (if_pos rfl))

theorem switched_start : ((s.setDom 60 on).ev code items).start = s.start := State.ev_start _ _ _
end

end Sys2Proof.Machine
end

section
/-! PROOF. The configuration write session (O17). -/
namespace Sys2Proof.Machine

/-! ### The end of a session -/

theorem cwFail_fld (s : State) (result : Nat) {f : Fld} (hr : f.reg = R.CFG_WR_STATUS) : (s.cwFail result).fld f =
    ((s.setFld F.CFG_WR_STATUS_STATE cwFailed).setFld F.CFG_WR_STATUS_RESULT result).fld f := by
  unfold State.cwFail
  exact switched_fld _ _ _ _ hr

theorem cwFail_cwState (s : State) (result : Nat) : (s.cwFail result).cwState = cwFailed := by
  refine (cwFail_fld s result rfl).trans ?_
  exact (cwState_setFld _ _ rfl (by decide) (by decide) (by decide)).trans (setFld_cwState s (by decide))

theorem cwFail_result (s : State) {result : Nat} (h : result < 16) :
    (s.cwFail result).fld F.CFG_WR_STATUS_RESULT = result :=
  (cwFail_fld s result rfl).trans ((fld_setFld_same _ _ _ _ _ (by decide) (by decide)).trans (Nat.mod_eq_of_lt h))

theorem cwFail_domOn (s : State) (result : Nat) : (s.cwFail result).domOn 60 = false := by
  unfold State.cwFail
  exact switched_domOn _ _ _ _

theorem cwFail_start (s : State) (result : Nat) :
    (s.cwFail result).start = { s.start with wrBlock0 := [], wrBlock := [], wrQueue := [] } := by
  unfold State.cwFail
  exact switched_start _ _ _ _

theorem cwFail_bank (s : State) (result b : Nat) : (s.cwFail result).bank b = s.bank b := by
  rw [State.bank, State.bank, cwFail_start]

/-! ### Writes of CFG_WR_CTRL and CFG_WR_DATA that wait -/

theorem queued_cfg {s : State} {n : Nat} {data : Bool} {v : W32} {r : Reg} (hr : r = if data then R.CFG_WR_DATA else R.CFG_WR_CTRL)
    (h : s.granted n (r.addr 0 0) r 0 = true) (hw : s.cfgWrite data v = (0, s.effect (.cfg data v))) :
    s.Queued (.cfg data v) (s.command n (r.addr 0 0) v) := by
  have g := grant_of_granted h
  refine command_of_writeReg g.opened g.alive (t := s.effect (.cfg data v)) ?_
  subst hr
  cases data
  all_goals exact (writeReg_other (regAt_addr (by decide) (by decide) (by decide)) g (by decide) v (by decide)).trans hw

theorem queued_ctrl {s : State} {n : Nat} {v : W32} (h : s.granted n (R.CFG_WR_CTRL.addr 0 0) R.CFG_WR_CTRL 0 = true)
    (hst : (s.ahead.cwCtrl v.toNat).1 = 0) : s.Queued (.cfg false v) (s.command n (R.CFG_WR_CTRL.addr 0 0) v) :=
  queued_cfg rfl h (if_pos hst)

theorem queued_data {s : State} {n : Nat} {v : W32} (h : s.granted n (R.CFG_WR_DATA.addr 0 0) R.CFG_WR_DATA 0 = true)
    (hst : (s.ahead.cwData v).1 = 0) : s.Queued (.cfg true v) (s.command n (R.CFG_WR_DATA.addr 0 0) v) :=
  queued_cfg rfl h (if_pos hst)

section
variable (s : State)

theorem cwCtrl_start : s.cwCtrl (ctrlWord 0xC5 1).toNat = s.cwStart := by
  rw [State.cwCtrl, if_neg (by decide), show bits (ctrlWord 0xC5 1).toNat 3 0 = 1 by decide]
  rfl

theorem cwCtrl_commit : s.cwCtrl (ctrlWord 0xC5 2).toNat = s.cwCommit := by
  rw [State.cwCtrl, if_neg (by decide), show bits (ctrlWord 0xC5 2).toNat 3 0 = 2 by decide]
  rfl

theorem cwCtrl_abort : s.cwCtrl (ctrlWord 0xC5 3).toNat = s.cwAbort := by
  rw [State.cwCtrl, if_neg (by decide), show bits (ctrlWord 0xC5 3).toNat 3 0 = 3 by decide]
  rfl
end

theorem taken_data (s : State) (v : W32) : s.taken (.cfg true v) = (s.cwData v).2 := rfl

theorem taken_ctrl (s : State) (v : W32) : s.taken (.cfg false v) = (s.cwCtrl v.toNat).2 := rfl

/-! ### START -/

/-- The inactive bank with its first sector erased, and an empty session on it that is erasing. -/
def State.cwEmptied (s : State) : State :=
  let b := s.inactiveBank
  let s := (s.setReg R.CFG_WR_STATUS (b * 2 ^ 8 + cwErasing)).setBank b ((s.bank b).filter fun x => decide (16384 ≤ x.1))
  { s with start.wrBlock0 := [], start.wrBlock := [], start.wrQueue := [] }

/-- The session that START opens. -/
def State.cwBegun (s : State) : State := ((s.cwEmptied.setReg R.CFG_WR_SEAL 0).setDom 60 true).ev 0x0308

theorem cwStart_eq {s : State} (h : s.cwOpen = false) (hb : inR (s.fld F.CFG_WR_BLOCKS_BLOCKS) 2 7680 = true) :
    s.cwStart = (0, s.cwBegun) := by
  simp only [State.cwStart, h, hb]
  rfl

theorem cwBegun_fld (s : State) {f : Fld} (hr : f.reg = R.CFG_WR_STATUS) :
    s.cwBegun.fld f = bits (s.inactiveBank * 2 ^ 8 + cwErasing) f.hi f.lo := by
  have hlt : s.inactiveBank * 2 ^ 8 + cwErasing < 2 ^ 32 := by
    rcases inactiveBank_cases s with h | h <;> rw [h] <;> decide
  calc s.cwBegun.fld f
    _ = (s.cwEmptied.setReg R.CFG_WR_SEAL 0).fld f := switched_fld _ _ _ _ hr
    _ = s.cwEmptied.fld f := fld_setReg_ne _ _ (by rw [hr]; decide)
    _ = (s.setReg R.CFG_WR_STATUS (s.inactiveBank * 2 ^ 8 + cwErasing)).fld f := setBank_fld _ _ _ f
    _ = bits (s.inactiveBank * 2 ^ 8 + cwErasing) f.hi f.lo := by rw [State.fld, hr, reg_setReg_same _ _ _ _ _ hlt]

theorem cwBegun_start (s : State) : s.cwBegun.start = s.cwEmptied.start := switched_start _ _ _ _

theorem cwBegun_spec (s : State) : s.cwBegun.cwState = cwErasing ∧ s.cwBegun.cwBank = s.inactiveBank ∧
    s.cwBegun.domOn 60 = true ∧ s.cwBegun.start.wrBlock0 = [] ∧ s.cwBegun.start.wrBlock = [] ∧ s.cwBegun.start.wrQueue = [] ∧
    s.cwBegun.bank (1 - s.inactiveBank) = s.bank (1 - s.inactiveBank) := by
  have hbank : s.cwBegun.bank (1 - s.inactiveBank) = s.bank (1 - s.inactiveBank) :=
    (bank_of_start (cwBegun_start s) _).trans (setBank_other _ _ _)
  have hstate : s.cwBegun.cwState = bits (s.inactiveBank * 2 ^ 8 + cwErasing) 3 0 := cwBegun_fld s rfl
  have hon : s.cwBegun.cwBank = bits (s.inactiveBank * 2 ^ 8 + cwErasing) 8 8 := cwBegun_fld s rfl
  refine ⟨?_, ?_, switched_domOn _ _ _ _, ?_, ?_, ?_, hbank⟩
  · rw [hstate]
    rcases inactiveBank_cases s with h | h <;> rw [h] <;> decide
  · rw [hon]
    rcases inactiveBank_cases s with h | h <;> rw [h] <;> decide
  all_goals
    rw [cwBegun_start]
    rfl

/-! ### The erasure done -/

theorem cwErased_eq {s : State} (h : s.cwState = cwErasing) : s.cwErased = (s.setBank s.cwBank ((s.bank s.cwBank).filter fun x =>
    decide ((s.fld F.CFG_WR_BLOCKS_BLOCKS + 15) / 16 * 16384 ≤ x.1))).setFld F.CFG_WR_STATUS_STATE cwReceiving := by
  simp only [State.cwErased, h]
  rfl

theorem cwErased_spec {s : State} (h : s.cwState = cwErasing) : s.cwErased.cwState = cwReceiving ∧
    (∀ k, (k : Nat) < (s.fld F.CFG_WR_BLOCKS_BLOCKS + 15) / 16 * 16384 → bankWord (s.cwErased.bank s.cwBank) k = 0xFFFFFFFF) ∧
    s.cwErased.bank (1 - s.cwBank) = s.bank (1 - s.cwBank) ∧
    s.cwErased = { s with regs := s.cwErased.regs, start.bankA := s.cwErased.start.bankA, start.bankB := s.cwErased.start.bankB } ∧
    s.Keeps [R.CFG_WR_STATUS.base] s.cwErased := by
  rw [cwErased_eq h]
  set m := (s.bank s.cwBank).filter fun x => decide ((s.fld F.CFG_WR_BLOCKS_BLOCKS + 15) / 16 * 16384 ≤ x.1) with hm
  refine ⟨setFld_cwState _ (by decide), fun k hk => ?_, setBank_other _ _ _, ?_, ?_⟩
  · have hbank : ((s.setBank s.cwBank m).setFld F.CFG_WR_STATUS_STATE cwReceiving).bank s.cwBank = m := setBank_same _ _ _
    rw [hbank, bankWord, hm, nget_filter_le _ _ hk]
    rfl
  · rw [setBank_eq]
    rfl
  · exact fun a ha => (keeps_setReg_word _ R.CFG_WR_STATUS _ 0 0 a ha).trans (setBank_word _ _ _ a)

/-! ### DATA -/

/-- The block being received with one more word, newest first. -/
def State.cwWord (s : State) (v : W32) : State := { s with start.wrBlock := v :: s.start.wrBlock }

/-- The session goes on with the first word of the block after block n. -/
def State.cwNext (s : State) (n : Nat) : State := (s.setFld F.CFG_WR_STATUS_WORD 0).setFld F.CFG_WR_STATUS_BLOCK (n + 1)

theorem cwData_eq {s : State} (v : W32) (hr : s.cwState = cwReceiving) (hq : s.start.wrQueue = [])
    (hb : s.fld F.CFG_WR_STATUS_BLOCK < s.fld F.CFG_WR_BLOCKS_BLOCKS) : s.cwData v =
    (0, if s.start.wrBlock.length = 1023 then (s.cwWord v).cwBlock (s.fld F.CFG_WR_STATUS_BLOCK) (v :: s.start.wrBlock)
      else (s.cwWord v).setFld F.CFG_WR_STATUS_WORD (s.start.wrBlock.length + 1)) := by
  have hreceiving : ¬(s.cwState ≠ cwErasing ∧ s.cwState ≠ cwReceiving) := fun h => h.2 hr
  have hroom : ¬(s.cwState = cwErasing ∨ s.start.wrQueue ≠ []) := by simp [hr, hq]
  unfold State.cwData
  rw [if_neg hreceiving, if_neg hroom]
  extract_lets n ws u
  rw [if_neg (Nat.not_le.mpr hb)]
  by_cases h : s.start.wrBlock.length = 1023
  · rw [if_pos (show ws.length = 1024 from congrArg (· + 1) h), if_pos h]
    rfl
  · rw [if_neg (show ¬ws.length = 1024 from fun e => h (Nat.succ.inj e)), if_neg h]
    rfl

theorem cwWord_spec (s : State) (v : W32) (h : s.start.wrBlock.length < 1023) :
    let t := (s.cwWord v).setFld F.CFG_WR_STATUS_WORD (s.start.wrBlock.length + 1)
    t = { s with regs := t.regs, start.wrBlock := v :: s.start.wrBlock } ∧ s.Keeps [R.CFG_WR_STATUS.base] t ∧
      t.fld F.CFG_WR_STATUS_WORD = s.start.wrBlock.length + 1 ∧ t.cwState = s.cwState := by
  refine ⟨rfl, keeps_setReg_word (s.cwWord v) R.CFG_WR_STATUS _ 0 0, ?_, ?_⟩
  · rw [fld_setFld_same _ _ _ _ _ (by decide) (by decide)]
    exact Nat.mod_eq_of_lt (Nat.succ_lt_succ h)
  · exact cwState_setFld _ _ rfl (by decide) (by decide) (by decide)

theorem cwNext_cwState (s : State) (n : Nat) : (s.cwNext n).cwState = s.cwState :=
  (cwState_setFld _ _ rfl (by decide) (by decide) (by decide)).trans
    (cwState_setFld s _ rfl (by decide) (by decide) (by decide))

theorem cwNext_word (s : State) (n : Nat) : (s.cwNext n).fld F.CFG_WR_STATUS_WORD = 0 := by
  have hword : (s.setFld F.CFG_WR_STATUS_WORD 0).fld F.CFG_WR_STATUS_WORD = 0 :=
    (fld_setFld_same s F.CFG_WR_STATUS_WORD 0 0 0 (by decide) (by decide)).trans (Nat.zero_mod _)
  have hkept : (s.cwNext n).fld F.CFG_WR_STATUS_WORD = (s.setFld F.CFG_WR_STATUS_WORD 0).fld F.CFG_WR_STATUS_WORD :=
    fld_setFld_disjoint (e := F.CFG_WR_STATUS_BLOCK) _ _ rfl (by decide) (by decide) (by decide)
  exact hkept.trans hword

theorem cwNext_block (s : State) {n : Nat} (h : n + 1 < 2 ^ 13) : (s.cwNext n).fld F.CFG_WR_STATUS_BLOCK = n + 1 :=
  (fld_setFld_same _ _ _ _ _ (by decide) (by decide)).trans (Nat.mod_eq_of_lt h)

/-- Block 0 is held back. -/
theorem cwBlock_first (s : State) (ws : List W32) :
    s.cwBlock 0 ws = { s with start.wrBlock0 := ws, start.wrBlock := [] }.cwNext 0 := rfl

theorem cwBlock_good (s : State) {n : Nat} {v : W32} {ws : List W32} (hn : n ≠ 0) (h : crc32 (ws.reverse.flatMap wordBytes) = v) :
    s.cwBlock n (v :: ws) =
      { s with start.wrBlock := [], start.wrQueue := s.start.wrQueue ++ [(n, (v :: ws).reverse)] }.cwNext n := by
  simp only [State.cwBlock, if_neg hn]
  exact if_pos h

theorem cwBlock_bad (s : State) {n : Nat} {v : W32} {ws : List W32} (hn : n ≠ 0) (h : crc32 (ws.reverse.flatMap wordBytes) ≠ v) :
    s.cwBlock n (v :: ws) = s.cwFail rsBlockCrc := by
  simp only [State.cwBlock, if_neg hn]
  exact if_neg h

theorem cwBlock_spec {s : State} {n : Nat} (v : W32) (hr : s.cwState = cwReceiving) (hq : s.start.wrQueue = []) (hn : n + 1 < 2 ^ 13) :
    let t := (s.cwWord v).cwBlock n (v :: s.start.wrBlock)
    let good := crc32 (s.start.wrBlock.reverse.flatMap wordBytes) = v
    t.cwState = (if n = 0 ∨ good then cwReceiving else cwFailed) ∧ t.start.wrBlock = [] ∧
    t.start.wrBlock0 = (if n = 0 then v :: s.start.wrBlock else if good then s.start.wrBlock0 else []) ∧
    t.start.wrQueue = (if n ≠ 0 ∧ good then [(n, (v :: s.start.wrBlock).reverse)] else []) ∧
    (n = 0 ∨ good → t.fld F.CFG_WR_STATUS_BLOCK = n + 1 ∧ t.fld F.CFG_WR_STATUS_WORD = 0) := by
  intro t good
  by_cases h0 : n = 0
  · obtain rfl := h0
    rw [show t = _ from cwBlock_first _ _]
    refine ⟨?_, rfl, rfl, hq, fun _ => ⟨cwNext_block _ (by decide), cwNext_word _ 0⟩⟩
    rw [if_pos (.inl rfl), cwNext_cwState]
    exact hr
  · by_cases hg : good
    · rw [show t = _ from cwBlock_good _ h0 hg, if_pos (.inr hg), if_neg h0, if_pos hg, if_pos ⟨h0, hg⟩]
      refine ⟨?_, rfl, rfl, ?_, fun _ => ⟨cwNext_block _ hn, cwNext_word _ n⟩⟩
      · rw [cwNext_cwState]
        exact hr
      · exact congrArg (· ++ [(n, (v :: s.start.wrBlock).reverse)]) hq
    · have hng : ¬(n = 0 ∨ good) := by simp [h0, hg]
      rw [show t = _ from cwBlock_bad _ h0 hg, if_neg hng, if_neg h0, if_neg hg, if_neg fun h => hg h.2, cwFail_start]
      exact ⟨cwFail_cwState _ _, rfl, rfl, rfl, fun h => absurd h hng⟩

/-! ### COMMIT -/

/-- The image is newer than the one in use (R72). -/
abbrev State.cwNewer (s : State) : Prop := ∀ h, s.start.head = some h → h.gen < bankWord s.cwImage 2

theorem cwCommit_eq {s : State} (hr : s.cwState = cwReceiving) (hn : s.cwNewer) :
    s.cwCommit = (0, s.setFld F.CFG_WR_STATUS_STATE cwVerifying) := by
  unfold State.cwCommit
  rw [if_neg (not_not.mpr hr)]
  cases hh : s.start.head with
  | none => rfl
  | some h => exact if_neg fun hle => Nat.not_le.mpr (hn h hh) (of_decide_eq_true hle)

/-! ### ABORT and the time-out -/

theorem cwAbort_status (s : State) : s.cwAbort.1 = 0 := by
  unfold State.cwAbort
  split <;> rfl

theorem cwAbort_open {s : State} (h : s.cwOpen = true) : s.cwAbort.2 = s.cwFail 0 := by
  rw [State.cwAbort, if_pos h]

theorem cwAbort_closed {s : State} (h : s.cwOpen = false) : s.cwAbort.2 = s := by
  simp [State.cwAbort, h]

theorem cwTimeout_eq {s : State} (h : s.cwOpen = true) : s.cwTimeout = s.cwFail rsTimeout := if_pos h

/-! ### The flash's completions -/

/-- A page of the queue enters the bank that is written. -/
def State.pagePut (s : State) (n : Nat) (ws : List W32) (rest : List (Nat × List W32)) : State :=
  State.setBank { s with start.wrQueue := rest } s.cwBank (bankPut (s.bank s.cwBank) (1024 * n) ws)

theorem cwProgrammed_page {s : State} {n : Nat} {ws : List W32} {rest : List (Nat × List W32)}
    (hq : s.start.wrQueue = (n, ws) :: rest) (ho : s.cwOpen = true) : s.cwProgrammed = s.pagePut n ws rest := by
  simp only [State.cwProgrammed, hq, ho]
  rfl

theorem pagePut_spec (s : State) (n : Nat) (ws : List W32) (rest : List (Nat × List W32)) :
    let t := s.pagePut n ws rest
    t.start.wrQueue = rest ∧ t.bank s.cwBank = bankPut (s.bank s.cwBank) (1024 * n) ws ∧
      t.bank (1 - s.cwBank) = s.bank (1 - s.cwBank) ∧
      t = { s with start.wrQueue := rest, start.bankA := t.start.bankA, start.bankB := t.start.bankB } := by
  refine ⟨?_, setBank_same _ _ _, setBank_other _ _ _, setBank_eq _ _ _⟩
  rw [State.pagePut, setBank_eq]

theorem cwProgrammed_verifying {s : State} (hq : s.start.wrQueue = []) (hv : s.cwState = cwVerifying) :
    s.cwProgrammed = if s.cwResult = 0 then (s.setBank s.cwBank s.cwImage).setFld F.CFG_WR_STATUS_STATE cwProgramming else s := by
  simp [State.cwProgrammed, hq, hv]

/-- The session is DONE with an image in its bank, no block held. -/
def State.cwStored (s : State) (img : NMap W32) : State :=
  let t := (s.setBank s.cwBank img).setReg R.CFG_WR_SEAL
    (if (imgHead img).safety then 2 ^ 13 + (imgHead img).safetyCrc.toNat % 2 ^ 12 else 0)
  State.setFld { t with start.wrBlock0 := [], start.wrBlock := [] } F.CFG_WR_STATUS_STATE cwDone

/-- The session that ends DONE. -/
def State.cwEnded (s : State) (img : NMap W32) : State :=
  ((s.cwStored img).setDom 60 false).ev 0x0309 [.b32 (imgHead img).gen]

theorem cwCommitDone_eq {s : State} (o : CommitOutcome) (hs : s.cwState = cwVerifying ∨ s.cwState = cwProgramming)
    (hq : s.start.wrQueue = []) : s.cwCommitDone o =
      if o = .timedOut ∧ s.cwState = cwVerifying then s.cwFail rsTimeout
      else if s.cwResult ≠ 0 then s.cwFail s.cwResult
      else if o ≠ .verified then (s.setBank s.cwBank s.cwImage).cwFail rsBlockCrc
      else s.cwEnded s.cwImage := by
  unfold State.cwCommitDone
  rw [if_neg]
  · rfl
  · simp only [hq]
    tauto

theorem cwEnded_spec (s : State) (img : NMap W32) : (s.cwEnded img).cwState = cwDone ∧ (s.cwEnded img).bank s.cwBank = img ∧
    (s.cwEnded img).bank (1 - s.cwBank) = s.bank (1 - s.cwBank) ∧ (s.cwEnded img).domOn 60 = false := by
  have hstart : (s.cwEnded img).start = (s.cwStored img).start := switched_start _ _ _ _
  refine ⟨?_, ?_, ?_, switched_domOn _ _ _ _⟩
  · exact (switched_fld _ _ _ _ rfl).trans (setFld_cwState _ (by decide))
  · exact (bank_of_start hstart _).trans (setBank_same s _ _)
  · exact (bank_of_start hstart _).trans (setBank_other s _ _)

theorem cwCommitDone_spec {s : State} (o : CommitOutcome) (hs : s.cwState = cwVerifying ∨ s.cwState = cwProgramming)
    (hq : s.start.wrQueue = []) :
    let t := s.cwCommitDone o
    let late := o = .timedOut ∧ s.cwState = cwVerifying
    t.cwState = (if o = .verified ∧ s.cwResult = 0 then cwDone else cwFailed) ∧
    t.bank s.cwBank = (if s.cwResult = 0 ∧ ¬late then s.cwImage else s.bank s.cwBank) ∧
    t.bank (1 - s.cwBank) = s.bank (1 - s.cwBank) ∧ t.domOn 60 = false := by
  intro t late
  rw [show t = _ from cwCommitDone_eq o hs hq]
  by_cases hl : late
  · have ho : ¬(o = .verified ∧ s.cwResult = 0) := fun h => by simp [hl.1] at h
    rw [if_pos hl, if_neg ho, if_neg fun h => h.2 hl]
    exact ⟨cwFail_cwState _ _, cwFail_bank _ _ _, cwFail_bank _ _ _, cwFail_domOn _ _⟩
  · rw [if_neg hl]
    by_cases hc : s.cwResult = 0
    · rw [if_neg (not_not.mpr hc), if_pos (show s.cwResult = 0 ∧ ¬late from ⟨hc, hl⟩)]
      by_cases ho : o = .verified
      · rw [if_neg (not_not.mpr ho), if_pos ⟨ho, hc⟩]
        exact cwEnded_spec s s.cwImage
      · rw [if_pos ho, if_neg fun h => ho h.1, cwFail_bank, cwFail_bank]
        exact ⟨cwFail_cwState _ _, setBank_same _ _ _, setBank_other _ _ _, cwFail_domOn _ _⟩
    · rw [if_pos hc, if_neg fun h => hc h.2, if_neg fun h => hc h.1]
      exact ⟨cwFail_cwState _ _, cwFail_bank _ _ _, cwFail_bank _ _ _, cwFail_domOn _ _⟩

/-! ### O17 -/

/-- Settles O17: a write that waits by its status on the session as the waiting writes leave it, a write taken and a completion of
the flash by the equation of its operation. -/
theorem configurationWriteSession : Obligations.ConfigurationWriteSession := by
  unfold Obligations.ConfigurationWriteSession
  refine ⟨?queuedStart, ?start, ?erased, ?queuedData, ?word, ?block, ?queuedCommit, ?commit, ?queuedAbort, ?abort, ?timeout, ?page,
    ?verified, ?done⟩
  case queuedStart =>
    intro s n hg ho hb
    have hst : (s.ahead.cwCtrl (ctrlWord 0xC5 1).toNat).1 = 0 := by rw [cwCtrl_start, cwStart_eq ho hb]
    exact ⟨_, rfl, queued_ctrl hg hst⟩
  case start =>
    intro s ho hb
    exact takes_of_eq (by rw [taken_ctrl, cwCtrl_start, cwStart_eq ho hb]) (cwBegun_spec s)
  case erased => exact fun s h => ⟨s.cwErased, rfl, cwErased_spec h⟩
  case queuedData =>
    intro s n v hg hr hq hb
    exact ⟨_, rfl, queued_data hg (congrArg Prod.fst (cwData_eq v hr hq hb))⟩
  case word =>
    intro s v hr hq hb hl
    obtain ⟨hframe, hkeeps, hword, hstate⟩ := cwWord_spec s v hl
    exact takes_of_eq (by rw [taken_data, cwData_eq v hr hq hb, if_neg hl.ne]) ⟨hframe, hkeeps, hword, hstate.trans hr⟩
  case block =>
    intro s v hr hq hb hl
    have hn : s.fld F.CFG_WR_STATUS_BLOCK + 1 < 2 ^ 13 := lt_of_le_of_lt hb (Nat.mod_lt _ (by decide))
    exact takes_of_eq (by rw [taken_data, cwData_eq v hr hq hb, if_pos hl]) (cwBlock_spec v hr hq hn)
  case queuedCommit =>
    intro s n hg hr hn
    have hst : (s.ahead.cwCtrl (ctrlWord 0xC5 2).toNat).1 = 0 := by rw [cwCtrl_commit, cwCommit_eq hr hn]
    exact ⟨_, rfl, queued_ctrl hg hst⟩
  case commit =>
    intro s hr hn
    have ht : s.taken (.cfg false (ctrlWord 0xC5 2)) = s.setFld F.CFG_WR_STATUS_STATE cwVerifying := by
      rw [taken_ctrl, cwCtrl_commit, cwCommit_eq hr hn]
    exact takes_of_eq ht ⟨setFld_cwState s (by decide), onlyWords_setFld s F.CFG_WR_STATUS_STATE _ 0 0⟩
  case queuedAbort =>
    intro s n hg
    have hst : (s.ahead.cwCtrl (ctrlWord 0xC5 3).toNat).1 = 0 := by rw [cwCtrl_abort, cwAbort_status]
    exact ⟨_, rfl, queued_ctrl hg hst⟩
  case abort =>
    intro s
    refine takes_of_eq (by rw [taken_ctrl, cwCtrl_abort]) ⟨cwAbort_closed, fun ho => ?_⟩
    rw [cwAbort_open ho, cwFail_start]
    exact ⟨cwFail_cwState _ _, rfl, rfl, rfl, rfl, rfl, cwFail_domOn _ _⟩
  case timeout =>
    intro s ho
    refine ⟨s.cwTimeout, rfl, ?_⟩
    rw [cwTimeout_eq ho]
    beta_reduce
    rw [cwFail_start]
    exact ⟨cwFail_cwState _ _, cwFail_result _ (by decide), cwFail_domOn _ _, rfl, rfl, rfl, rfl, rfl⟩
  case page =>
    intro s n ws rest hq ho
    refine ⟨s.cwProgrammed, rfl, ?_⟩
    rw [cwProgrammed_page hq ho]
    exact pagePut_spec s n ws rest
  case verified =>
    intro s hq hv
    refine ⟨s.cwProgrammed, rfl, ?_⟩
    rw [cwProgrammed_verifying hq hv]
    by_cases hc : s.cwResult = 0
    · rw [if_pos hc, if_pos hc, if_pos hc]
      exact ⟨setFld_cwState _ (by decide), setBank_same _ _ _, setBank_other _ _ _⟩
    · rw [if_neg hc, if_neg hc, if_neg hc]
      exact ⟨hv, rfl, rfl⟩
  case done => exact fun s o hs hq => ⟨s.cwCommitDone o, rfl, cwCommitDone_spec o hs hq⟩

end Sys2Proof.Machine
end

section
/-! SUPPORT. What the fault of an account and an error in a till word leave (R84, R91). -/
namespace Sys2Proof.Machine

/-! ### Accounts that take a fault -/

/-- An account's fault, in whatever state it finds the account, leaves alone what neither the end of its work nor its own record and
status word bear on. -/
theorem enterFault_other {β : Type} {p : State → β} (hp : OfAccounts p) {a : Nat} (hacct : ∀ s x, p (s.setAcct a x) = p s)
    (hstatus : ∀ s v, p (s.setReg R.ACCT_STATUS v a) = p s) (s : State) (cause : Nat) : p (s.enterFault a cause) = p s := by
  by_cases hr : s.acctState a = aResetting
  · rw [State.enterFault, if_pos hr]
    exact hacct _ _
  · by_cases hs : s.acctState a ∈ [aRunning, aStarting, aStandby]
    · exact (enterFault_same hp cause hs).trans ((hstatus _ _).trans (hstatus _ _))
    · have hn : ¬(s.acctState a = aRunning ∨ s.acctState a = aStarting ∨ s.acctState a = aStandby) := by simpa using hs
      rw [State.enterFault, if_neg hr, if_neg hn]

theorem ofAccounts_tills : OfAccounts State.tills := ⟨fun _ => rfl, rfl, State.ev_tills _ _ _⟩
theorem ofAccounts_tillMem : OfAccounts State.tillMem := ⟨fun _ => rfl, rfl, State.ev_tillMem _ _ _⟩

@[simp] theorem enterFault_tills (s : State) (a cause : Nat) : (s.enterFault a cause).tills = s.tills :=
  enterFault_other ofAccounts_tills (fun _ _ => rfl) (fun _ _ => rfl) s cause

@[simp] theorem enterFault_tillMem (s : State) (a cause : Nat) : (s.enterFault a cause).tillMem = s.tillMem :=
  enterFault_other ofAccounts_tillMem (fun _ _ => rfl) (fun _ _ => rfl) s cause

theorem enterFault_word (s : State) {a x : Nat} (cause : Nat) (hx : x < 0x5000000) (h : x ≠ R.ACCT_STATUS.addr a 0) :
    (s.enterFault a cause).word x = s.word x :=
  enterFault_other (p := fun s => s.word x) (ofAccounts_word hx) (fun _ _ => rfl) (fun s _ => word_setWord_ne s _ h) s cause

/-! ### Errors of till words (R91) -/

@[simp] theorem tillEcc_tills (s : State) (a t pos : Nat) (e : Ecc) : (s.tillEcc a t pos e).tills = s.tills := by
  cases e with
  | clean => rfl
  | corrected => exact State.bump_tills _ _ _ _ _
  | double => rw [State.tillEcc, State.ev_tills, State.bump_tills, State.setFld_tills]

@[simp] theorem tillEcc_tillMem (s : State) (a t pos : Nat) (e : Ecc) : (s.tillEcc a t pos e).tillMem = s.tillMem := by
  cases e with
  | clean => rfl
  | corrected => exact State.bump_tillMem _ _ _ _ _
  | double => rw [State.tillEcc, State.ev_tillMem, State.bump_tillMem, State.setFld_tillMem]

theorem addr_till_lt {r : Reg} {a t : Nat} (ha : a < 8) (ht : t < 16) (h1 : r.s1 = 0x10000) (h2 : r.s2 = 0x1000)
    (hb : r.base < 0x4201000) : r.addr a t < 0x5000000 := by
  simp only [Reg.addr, h1, h2]
  omega

theorem addr_till_ne_acctStatus {r : Reg} {a t b : Nat} (hb : 0x4200000 ≤ r.base) (h : b < 8) :
    r.addr a t ≠ R.ACCT_STATUS.addr b 0 := by
  have := r.base_le_addr a t
  simp only [Reg.addr] at this ⊢
  omega

theorem not_eventWord_of_lt {x : Nat} (h : x < 0x5000000) : x ∉ eventWords := by
  simp only [eventWords, List.mem_cons, List.not_mem_nil, or_false]
  omega

/-- An uncorrectable error shows in TILL_STATUS.ECC2. -/
theorem tillEcc_double_flag (s : State) {a t : Nat} (pos : Nat) (ha : a < 8) (ht : t < 16) :
    (s.tillEcc a t pos .double).flag F.TILL_STATUS_ECC2 a t = true := by
  have hlt : R.TILL_STATUS.addr a t < 0x5000000 := addr_till_lt ha ht rfl rfl (by decide)
  have hne : R.TILL_STATUS.addr a t ≠ R.TILL_ECC.addr a t := by simp only [Reg.addr]; omega
  refine (ev_flag _ _ _ (not_eventWord_of_lt hlt)).trans ?_
  unfold State.flag
  rw [State.bump, fld_setFld_ne _ _ hne, fld_setFld_same _ _ _ _ _ (by decide) (by decide)]
  rfl

/-- The fault that ECC2_FAULT asks for leaves TILL_STATUS.ECC2 alone. -/
theorem enterFault_tillStatus (s : State) {a t : Nat} (cause : Nat) (ha : a < 8) (ht : t < 16) :
    (s.enterFault a cause).flag F.TILL_STATUS_ECC2 a t = s.flag F.TILL_STATUS_ECC2 a t := by
  have hw := enterFault_word s cause (a := a) (addr_till_lt (r := R.TILL_STATUS) ha ht rfl rfl (by decide))
    (addr_till_ne_acctStatus (by decide) ha)
  unfold State.flag
  rw [fld_eq_of_word (f := F.TILL_STATUS_ECC2) hw]

theorem fld_bump_same (s : State) (f : Fld) (i j by_ : Nat) (h : f.lo ≤ f.hi) (h32 : f.hi < 32) :
    (s.bump f i j by_).fld f i j = min (s.fld f i j + by_) (2 ^ (f.hi + 1 - f.lo) - 1) := by
  rw [State.bump, fld_setFld_same _ _ _ _ _ h h32]
  exact Nat.mod_eq_of_lt (lt_of_le_of_lt (min_le_right _ _) (Nat.sub_lt (Nat.two_pow_pos _) Nat.one_pos))

end Sys2Proof.Machine
end

section
/-! SUPPORT. A session's accesses to the till registers of which it is an endpoint (R89, R98). -/
namespace Sys2Proof.Machine

@[simp] theorem till_setTill_same (s : State) (a t : Nat) (x : Till) : (s.setTill a t x).till a t = x := by
  simp [State.till, State.setTill]

theorem captureAt_capture_same (s : State) (n addr : Nat) (v : W32) : (s.capture n addr v).captureAt n addr = some v := by
  simp [State.capture, State.captureAt]

section
variable {s : State} {n a t : Nat} (ha : a < 8) (ht : t < 16)

/-! ### Writes -/

theorem reaches_of_grant {addr : Nat} {r : Reg} {i : Nat} (g : Grant s n addr r i) :
    (!s.inControl && !(moduleLocal r || isWinAddr r)) = false := by
  rw [← Bool.not_or, ← Bool.or_assoc, g.control]
  rfl

include ha ht

/-- MARK, REWIND and RELEASE by the consumer's session. -/
theorem command_tillCmd {v : W32} (hg : s.granted n (R.TILL_CMD.addr a t) R.TILL_CMD a = true)
    (he : s.sessionEnd (s.session n).account a t false = true) (hv : bits v.toNat 1 0 ≠ 0) :
    s.command n (R.TILL_CMD.addr a t) v = { s.tillCmd a t (bits v.toNat 1 0) with mgmt.status := 0, mgmt.data := 0 } := by
  have g := grant_of_granted hg
  have hat : regAt (R.TILL_CMD.addr a t) = some (R.TILL_CMD, a, t) := regAt_addr (by decide) ha ht
  have hw : ¬(R.TILL_CMD.wr = 0 ∨ imageOnly R.TILL_CMD = true) := by decide
  have hd : ¬(R.TILL_CMD = R.TILL_DATA_LO ∨ R.TILL_CMD = R.TILL_DATA_HI) := by decide
  refine command_of_writeReg g.opened g.alive ?_
  rw [State.writeReg, if_neg (by simp [g.unlimited, g.version]), hat]
  simp only [g.may, reaches_of_grant g, he, hw, hd, hv, Bool.not_true, Bool.false_eq_true, if_false, if_true]

/-- A half of a word by the producer's session. -/
theorem command_tillData {r : Reg} {v : W32} (hr : r = R.TILL_DATA_LO ∨ r = R.TILL_DATA_HI)
    (hg : s.granted n (r.addr a t) r a = true) (he : s.sessionEnd (s.session n).account a t true = true) :
    s.command n (r.addr a t) v =
      { (s.tillDataWrite n a t (r == R.TILL_DATA_HI) v).2 with
        mgmt.status := (s.tillDataWrite n a t (r == R.TILL_DATA_HI) v).1, mgmt.data := 0 } := by
  have g := grant_of_granted hg
  have hat : regAt (r.addr a t) = some (r, a, t) := by
    rcases hr with rfl | rfl <;> exact regAt_addr (by decide) ha ht
  have hw : ¬(r.wr = 0 ∨ imageOnly r = true) := by rcases hr with rfl | rfl <;> decide
  refine command_of_writeReg g.opened g.alive ?_
  rw [State.writeReg, if_neg (by simp [g.unlimited, g.version]), hat]
  simp only [g.may, reaches_of_grant g, he, hw, hr, Bool.not_true, Bool.false_eq_true, if_false, if_true]

/-! ### Reads -/

/-- An endpoint's session may read its till's registers. -/
theorem mayRead_of_sessionEnd {r : Reg} {prod : Bool} (hr : r = R.TILL_DATA_LO ∨ r = R.TILL_DATA_HI)
    (he : s.sessionEnd (s.session n).account a t prod = true) : s.mayRead (s.session n).account (r.addr a t) = true := by
  simp only [State.sessionEnd, Bool.and_eq_true, beq_iff_eq] at he
  obtain ⟨⟨hacc, -⟩, -⟩ := he
  have hx : r.addr a t / 2 ^ 12 = 0x4200 + 16 * a + t ∧ r.addr a t / 2 ^ 24 = 4 ∧ R.CFG_WR_CTRL.addr 0 0 + 0x10 < r.addr a t := by
    rcases hr with rfl | rfl <;> simp only [Reg.addr] <;> omega
  obtain ⟨hblock, hunit, hcfg⟩ := hx
  have hsession : sessionBlock (r.addr a t) = none := by
    rw [sessionBlock, hblock, if_neg (by omega)]
  have hwr : isCfgWr (r.addr a t) = false := by
    rw [isCfgWr]
    exact decide_eq_false fun h => absurd h.2 (not_le.mpr hcfg)
  have howner : s.blockOwner (r.addr a t) = some a := by
    have h1 : (0x4200 + 16 * a + t) % 2 ^ 12 = 0x200 + 16 * a + t := by omega
    unfold State.blockOwner
    rw [hunit, hblock, h1]
    have h2 : ¬(0x200 + 16 * a + t < 0x100 ∨ 0x300 ≤ 0x200 + 16 * a + t) := by omega
    have h3 : ¬(0x200 + 16 * a + t < 0x200) := by omega
    have h4 : (0x200 + 16 * a + t - 0x200) / 16 = a := by omega
    simp only [h2, h3, h4, if_false]
  rw [State.mayRead, hsession, hwr, howner]
  simp [hacc]

theorem inquire_till {r : Reg} (hr : r = R.TILL_DATA_LO ∨ r = R.TILL_DATA_HI) (ho : (s.session n).opened = true)
    (hal : s.alive = true) (hl : s.limited (r.addr a t) = false)
    (he : s.sessionEnd (s.session n).account a t false = true) (e : Ecc) {st : Nat} {v : W32} {u : State}
    (h : (if r = R.TILL_DATA_LO then s.tillLoRead n a t e
      else match s.captureAt n (R.TILL_DATA_LO.addr a t) with
        | some v => (0, v, s)
        | none => (0x0C, 0, s)) = (st, v, u)) :
    s.inquire n (r.addr a t) e = { u with mgmt.status := st, mgmt.data := v } := by
  have hat : regAt (r.addr a t) = some (r, a, t) := by
    rcases hr with rfl | rfl <;> exact regAt_addr (by decide) ha ht
  have hread : s.readReg n (r.addr a t) e = (st, v, u) := by
    rw [State.readReg, if_neg (by simp [hl]), hat]
    simp only [mayRead_of_sessionEnd ha ht hr he, he, Bool.not_true, Bool.false_eq_true, if_false, if_true]
    rcases hr with rfl | rfl
    · exact h
    · exact h
  rw [State.inquire, if_neg (by simp [ho, hal]), hread]
end

/-! ### Admission of waiting requests (R92) -/

/-- One request of the queue is judged: the state, the requests judged so far, and whether one has been held back. -/
def State.admitOne (a : Nat) (x : State × List QItem × Bool) (q : QItem) : State × List QItem × Bool :=
  match q.admitted with
  | some _ => (x.1, x.2.1 ++ [q], x.2.2)
  | none =>
    if x.2.2 || decide (x.1.tillFree a ((x.1.replyTill a).getD 0) < 1 + hReplyMax (q.item.headD 0)) then (x.1, x.2.1 ++ [q], true)
    else (x.1.tillReserve a ((x.1.replyTill a).getD 0) (1 + hReplyMax (q.item.headD 0)),
      x.2.1 ++ [{ q with admitted := some x.1.tick }], false)

theorem admitWaiting_eq (s : State) (a : Nat) : s.admitWaiting a =
    let x := (s.queue a).foldl (State.admitOne a) (s, [], false)
    x.1.setQueue a x.2.1 := rfl

/-- One request is judged to itself, admitted or not, and the state changes in its tills at most. -/
theorem admitOne_cases (a : Nat) (x : State × List QItem × Bool) (q : QItem) :
    ∃ u q' b, State.admitOne a x q = ({ x.1 with tills := u }, x.2.1 ++ [q'], b) ∧ q'.item = q.item := by
  unfold State.admitOne
  split
  · exact ⟨x.1.tills, q, x.2.2, rfl, rfl⟩
  · split
    · exact ⟨x.1.tills, q, true, rfl, rfl⟩
    · exact ⟨_, { q with admitted := some x.1.tick }, false, rfl, rfl⟩

/-- Judging a list of requests leaves the items as they are and extends the list of those judged before. -/
theorem admit_foldl (a : Nat) (l : List QItem) (x : State × List QItem × Bool) :
    ∃ u l' b, l.foldl (State.admitOne a) x = ({ x.1 with tills := u }, x.2.1 ++ l', b) ∧ l'.map (·.item) = l.map (·.item) := by
  induction l generalizing x with
  | nil => exact ⟨x.1.tills, [], x.2.2, by simp, rfl⟩
  | cons q l ih =>
    obtain ⟨u, q', b, hstep, hq⟩ := admitOne_cases a x q
    obtain ⟨u', l', b', hrest, hl⟩ := ih ({ x.1 with tills := u }, x.2.1 ++ [q'], b)
    exact ⟨u', q' :: l', b', by rw [List.foldl_cons, hstep, hrest, List.append_assoc]; rfl, by simp [hq, hl]⟩

theorem admit_blocked (a : Nat) (l : List QItem) (s : State) (done : List QItem) :
    l.foldl (State.admitOne a) (s, done, true) = (s, done ++ l, true) := by
  induction l generalizing done with
  | nil => simp
  | cons q l ih =>
    have hstep : State.admitOne a (s, done, true) q = (s, done ++ [q], true) := by
      unfold State.admitOne
      split <;> rfl
    rw [List.foldl_cons, hstep, ih, List.append_assoc]
    rfl

/-- The first request that waits is admitted where its reply fits; else nothing is. -/
theorem admit_first (a : Nat) (l : List QItem) (s : State) (done : List QItem) (hi : l.findIdx (·.admitted.isNone) < l.length) :
    let i := l.findIdx (·.admitted.isNone)
    let need := 1 + hReplyMax ((l.getD i ⟨[], none⟩).item.headD 0)
    let free := s.tillFree a ((s.replyTill a).getD 0)
    (need ≤ free → ((l.foldl (State.admitOne a) (s, done, false)).2.1.getD (done.length + i) ⟨[], none⟩).admitted = some s.tick) ∧
    (free < need → l.foldl (State.admitOne a) (s, done, false) = (s, done ++ l, true)) := by
  induction l generalizing done with
  | nil => exact absurd hi (Nat.not_lt_zero _)
  | cons q l ih =>
    cases hq : q.admitted with
    | some x =>
      have hstep : State.admitOne a (s, done, false) q = (s, done ++ [q], false) := by
        unfold State.admitOne
        rw [hq]
      have hidx : (q :: l).findIdx (·.admitted.isNone) = l.findIdx (·.admitted.isNone) + 1 := by
        simp [List.findIdx_cons, hq]
      rw [hidx] at hi ⊢
      have := ih (done ++ [q]) (by simpa using hi)
      simpa [hstep, Nat.add_assoc, Nat.add_comm 1] using this
    | none =>
      have hidx : (q :: l).findIdx (·.admitted.isNone) = 0 := by simp [List.findIdx_cons, hq]
      rw [hidx]
      refine ⟨fun h => ?_, fun h => ?_⟩
      · have hstep : State.admitOne a (s, done, false) q =
            (s.tillReserve a ((s.replyTill a).getD 0) (1 + hReplyMax (q.item.headD 0)),
              done ++ [{ q with admitted := some s.tick }], false) := by
          unfold State.admitOne
          rw [hq]
          exact if_neg (by simpa using h)
        rw [List.foldl_cons, hstep]
        obtain ⟨u, l', b, hrest, -⟩ := admit_foldl a l
          (s.tillReserve a ((s.replyTill a).getD 0) (1 + hReplyMax (q.item.headD 0)),
            done ++ [{ q with admitted := some s.tick }], false)
        rw [hrest]
        simp
      · have hstep : State.admitOne a (s, done, false) q = (s, done ++ [q], true) := by
          unfold State.admitOne
          rw [hq]
          exact if_pos (by simpa using h)
        rw [List.foldl_cons, hstep, admit_blocked, List.append_assoc]
        rfl

end Sys2Proof.Machine
end

section
/-! PROOF. Empty and full tills (O21), and what a session, the scrubber and the admission of waiting requests do to tills (O20). -/
namespace Sys2Proof.Machine

/-! ### Words of a till -/

theorem tillWrite_full {s : State} {a t : Nat} (v : W64) (h : s.tillFree a t = 0) : s.tillWrite a t v = none := if_pos h

theorem tillWrite_free {s : State} {a t : Nat} (v : W64) (h : s.tillFree a t ≠ 0) : s.tillWrite a t v = some (s.tillPut a t v) :=
  if_neg h

/-- The fault of the account that ECC2_FAULT asks for (R91). -/
def State.ecc2Fault (s : State) (a t : Nat) : State := if s.flag F.TILL_CFG_ECC2_FAULT a t then s.enterFault a 3 else s

/-- The fault that ECC2_FAULT asks for leaves ECC2, the tills and their words alone. -/
theorem ecc2Fault_spec (s : State) {a t : Nat} (ha : a < 8) (ht : t < 16) :
    (s.ecc2Fault a t).flag F.TILL_STATUS_ECC2 a t = s.flag F.TILL_STATUS_ECC2 a t ∧ (s.ecc2Fault a t).tills = s.tills ∧
    (s.ecc2Fault a t).tillMem = s.tillMem := by
  unfold State.ecc2Fault
  split
  · exact ⟨enterFault_tillStatus s 3 ha ht, enterFault_tills s a 3, enterFault_tillMem s a 3⟩
  · exact ⟨rfl, rfl, rfl⟩

/-- An uncorrectable error in a word shows in ECC2 and leaves the tills and their words alone. -/
theorem ecc2_faulted (s : State) {a t : Nat} (pos : Nat) (ha : a < 8) (ht : t < 16) :
    ((s.tillEcc a t pos .double).ecc2Fault a t).flag F.TILL_STATUS_ECC2 a t = true ∧
    ((s.tillEcc a t pos .double).ecc2Fault a t).tills = s.tills ∧
    ((s.tillEcc a t pos .double).ecc2Fault a t).tillMem = s.tillMem := by
  obtain ⟨hflag, htills, hmem⟩ := ecc2Fault_spec (s.tillEcc a t pos .double) ha ht
  exact ⟨hflag.trans (tillEcc_double_flag s pos ha ht), htills.trans (tillEcc_tills s a t pos .double),
    hmem.trans (tillEcc_tillMem s a t pos .double)⟩

/-- A word read without an uncorrectable error: it is consumed, and a corrected error counts. -/
theorem tillRead_word {s : State} {a t : Nat} {e : Ecc} (h : (s.till a t).rd ≠ (s.till a t).wr) (he : e ≠ .double) :
    ∃ w, s.tillRead a t e = (nget 0 s.tillMem (s.tillPos a t (s.till a t).rd), true, 0, w) ∧
      w = { s with regs := w.regs, tills := (s.setTill a t { s.till a t with rd := (s.till a t).rd + 1 }).tills } ∧
      s.Keeps (if e = .clean then [] else [R.TILL_ECC.addr a t]) w := by
  cases e with
  | double => exact absurd rfl he
  | clean => exact ⟨_, if_neg h, rfl, fun _ _ => rfl⟩
  | corrected =>
    refine ⟨_, if_neg h, rfl, fun x hx => ?_⟩
    exact word_setWord_ne _ _ (List.ne_of_not_mem_cons hx)

/-- A word read with an uncorrectable error is consumed, and the till shows ECC2. -/
theorem tillRead_double {s : State} {a t : Nat} (ha : a < 8) (ht : t < 16) (h : (s.till a t).rd ≠ (s.till a t).wr) :
    ∃ w, s.tillRead a t .double = (idleItem, true, 0x0A, w) ∧ w.flag F.TILL_STATUS_ECC2 a t = true ∧
      (w.till a t).rd = (s.till a t).rd + 1 ∧ w.tillMem = s.tillMem := by
  obtain ⟨hflag, htills, hmem⟩ := ecc2_faulted (s.setTill a t { s.till a t with rd := (s.till a t).rd + 1 })
    (s.tillPos a t (s.till a t).rd % 65536) ha ht
  refine ⟨_, if_neg h, hflag, ?_, hmem⟩
  refine (congrArg (fun m => (nget Till.init m (16 * a + t)).rd) htills).trans ?_
  exact congrArg Till.rd (till_setTill_same s a t _)

/-- The high half of a word whose low half the producer's session has written, into a full till. -/
theorem tillDataWrite_full {s : State} {n a t : Nat} (v : W32) {lo : W32} (hlo : s.heldAt n (R.TILL_DATA_LO.addr a t) = some lo)
    (h : s.tillFree a t = 0) : s.tillDataWrite n a t true v = (3, s) := by
  simp only [State.tillDataWrite, hlo, tillWrite_full _ h, Bool.not_true, Bool.false_eq_true, if_false]

/-- The high half of a word whose low half the producer's session has written, where there is space. -/
theorem tillDataWrite_free {s : State} {n a t : Nat} (v : W32) {lo : W32} (hlo : s.heldAt n (R.TILL_DATA_LO.addr a t) = some lo)
    (h : s.tillFree a t ≠ 0) :
    s.tillDataWrite n a t true v = (0, (s.tillPut a t (joinHalves lo v)).hold n (R.TILL_DATA_LO.addr a t) none) := by
  simp only [State.tillDataWrite, hlo, tillWrite_free _ h, Bool.not_true, Bool.false_eq_true, if_false]

/-- An error that the scrubber finds in an occupied word. -/
theorem tillScrub_occupied {s : State} {e : TillError}
    (hpos : e.pos < s.tillSize e.account.val e.till.val)
    (hocc : (e.pos + s.tillSize e.account.val e.till.val -
        (s.till e.account.val e.till.val).rel % s.tillSize e.account.val e.till.val) % s.tillSize e.account.val e.till.val <
      (s.till e.account.val e.till.val).wr - (s.till e.account.val e.till.val).rel) :
    State.tillScrub s e = if e.double then (s.tillEcc e.account.val e.till.val e.pos .double).ecc2Fault e.account.val e.till.val
      else s.tillEcc e.account.val e.till.val e.pos .corrected := by
  have hmax : max 1 (s.tillSize e.account.val e.till.val) = s.tillSize e.account.val e.till.val := by omega
  refine if_neg ?_
  rw [hmax, not_or]
  exact ⟨not_le.mpr hpos, not_le.mpr hocc⟩

/-! ### O21 -/

/-- Settles O21: an empty till and a full one by the test that a read and a write of a till make first. -/
theorem emptyAndFullTills : Obligations.EmptyAndFullTills := by
  refine ⟨fun s a t e h => if_pos h, fun s a t v h => tillWrite_full v h, ?_⟩
  intro s n a t v lo hg he hlo hfree
  exact ⟨_, rfl, (command_tillData a.isLt t.isLt (.inr rfl) hg he).trans
    (congrArg (fun x : Nat × State => { x.2 with mgmt.status := x.1, mgmt.data := 0 }) (tillDataWrite_full v hlo hfree))⟩

/-! ### O20 -/

section
variable {s : State} {n a : Fin 8} {t : Fin 16}

/-- The read of TILL_DATA_LO by the consumer's session (R98). -/
theorem yields_tillDataLoRead (ho : (s.session n.val).opened = true) (hal : s.alive = true)
    (hl : s.limited (R.TILL_DATA_LO.addr a.val t.val) = false)
    (hend : s.sessionEnd (s.session n.val).account a.val t.val false = true) {e : Ecc} {v : W64} {b : Bool} {st : Nat}
    {u : State} (h : s.tillRead a.val t.val e = (v, b, st, u)) {Q : State → Prop}
    (q : Q { u.capture n.val (R.TILL_DATA_LO.addr a.val t.val) (half64 v 1) with mgmt.status := st, mgmt.data := half64 v 0 }) :
    Yields (.tillDataLoRead n a t e) s Q :=
  yields_next rfl (inquire_till a.isLt t.isLt (.inl rfl) ho hal hl hend e (by rw [if_pos rfl, State.tillLoRead, h])) q
end

/-- Settles O20: the commands by command_tillCmd, the data words by tillRead_word and tillRead_double, the scrubber by
tillScrub_occupied, and the admission by the judgement of one request after the other (admitOne). -/
theorem tillControl : Obligations.TillControl := by
  refine ⟨?mark, ?rewind, ?release, ?lo, ?loDouble, ?hi, ?loWrite, ?hiWrite, ?scrub, fun s => ⟨s, rfl, rfl⟩,
    fun s e es => ⟨_, rfl, rfl⟩, fun s e => ⟨_, rfl, rfl⟩, ?waiting⟩
  case mark => exact fun s n a t hg he => ⟨_, rfl, command_tillCmd a.isLt t.isLt hg he (by decide)⟩
  case rewind => exact fun s n a t hg he => ⟨_, rfl, command_tillCmd a.isLt t.isLt hg he (by decide)⟩
  case release => exact fun s n a t hg he => ⟨_, rfl, command_tillCmd a.isLt t.isLt hg he (by decide)⟩
  case lo =>
    intro s n a t e ho hal hl hend he hne
    obtain ⟨w, hread, hframe, hkeeps⟩ := tillRead_word hne he
    refine yields_tillDataLoRead ho hal hl hend hread ⟨rfl, rfl, captureAt_capture_same _ _ _ _, ?_, ?_, hkeeps⟩
    · rw [hframe]
      rfl
    · rw [hframe]
      rfl
  case loDouble =>
    intro s n a t ho hal hl hend hne
    obtain ⟨w, hread, hflag, hrd, hmem⟩ := tillRead_double a.isLt t.isLt hne
    exact yields_tillDataLoRead ho hal hl hend hread ⟨rfl, show half64 idleItem 0 = 0 by decide, hflag, hrd, hmem⟩
  case hi =>
    intro s n a t v ho hal hl hend hv
    refine ⟨_, rfl, inquire_till a.isLt t.isLt (.inr rfl) ho hal hl hend .clean ?_⟩
    rw [if_neg (by decide), hv]
  case loWrite =>
    intro s n a t v hg he
    refine yields_next rfl (command_tillData a.isLt t.isLt (.inl rfl) hg he) ?_
    exact ⟨rfl, heldAt_hold_same _ _ _ _, rfl⟩
  case hiWrite =>
    intro s n a t v lo hg he hlo hfree
    refine yields_next rfl ((command_tillData a.isLt t.isLt (.inr rfl) hg he).trans
      (congrArg (fun x : Nat × State => { x.2 with mgmt.status := x.1, mgmt.data := 0 }) (tillDataWrite_free v hlo hfree))) ?_
    exact ⟨rfl, heldAt_hold_same _ _ _ _, rfl, rfl, rfl⟩
  case scrub =>
    intro s e x size hpos hocc
    by_cases hd : e.double = true
    · refine yields_next rfl ((foldState_one _ _ _).trans ((tillScrub_occupied hpos hocc).trans (if_pos hd))) ?_
      obtain ⟨hflag, htills, hmem⟩ := ecc2_faulted s e.pos e.account.isLt e.till.isLt
      exact ⟨hmem, htills, fun _ => hflag, fun h => absurd hd (by simp [h])⟩
    · refine yields_next rfl ((foldState_one _ _ _).trans ((tillScrub_occupied hpos hocc).trans (if_neg hd))) ?_
      exact ⟨tillEcc_tillMem _ _ _ _ _, tillEcc_tills _ _ _ _ _, fun h => absurd h hd,
        fun _ => fld_bump_same _ _ _ _ _ (by decide) (by decide)⟩
  case waiting =>
    intro s a
    obtain ⟨u, l, b, hall, hitems⟩ := admit_foldl a.val (s.queue a.val) (s, [], false)
    have hfirst := admit_first a.val (s.queue a.val) s []
    have heq := admitWaiting_eq s a.val
    rw [hall] at hfirst heq
    refine yields_next rfl heq ⟨by rw [State.setQueue_queue_same, List.nil_append, hitems], rfl, fun hi hfit => ?_, fun hi hno => ?_⟩
    · rw [State.setQueue_queue_same]
      simpa using (hfirst hi).1 hfit
    · have h := (hfirst hi).2 hno
      simp only [List.nil_append, Prod.mk.injEq] at h
      obtain ⟨hs, hl, -⟩ := h
      have htills : u = s.tills := congrArg State.tills hs
      exact ⟨by rw [State.setQueue_queue_same, List.nil_append, hl], htills⟩

end Sys2Proof.Machine
end

section
/-! PROOF. Overruns beyond the tolerance (O37). -/
namespace Sys2Proof.Machine

/-- An execution of task 3 that is late beyond its tolerance at tick 5, its action HOLD, and ready to run. -/
def lateExec : Exec :=
  { k := 3, rel := 5, relTl := 0, rtTs := 0, tsValid := false, dt := 0, late := 0, tol := 0, act := 0, mask := 0, snap := [],
    state := .ready, lanes := [Lane.init] }

/-- Task 3 has its late execution under its own number, and the list of executions names the task once more under number 4. No
command of the module leaves such a list. -/
def listedTwice : State :=
  { State.reset with tick := 5, image.execs := [(3, some lateExec), (4, some lateExec)] }

theorem listedTwice_late : listedTwice.exec? 3 = some lateExec ∧ listedTwice.checkTick lateExec = true ∧
    (listedTwice.task 3).lastCheck ≠ some listedTwice.tick ∧
    lateExec.tol < min (listedTwice.fld F.TASK_STATUS_CONSEC 3 + 1) 31 ∧ lateExec.act = 0 := by decide +kernel

theorem listedTwice_dispatched : ((listedTwice.overrunCheck 3).exec? 3).isSome = true := by decide +kernel

/-- Refutes O37 in its clause of the action that drops an execution, which asks that the task have none afterwards on every state,
one whose list of executions names the task under a second number too: on listedTwice the late execution is dropped, and the wheel
is given to the other one, which is entered under the task's number. The clause of COMPARE_POINT_TIMEOUT excludes such a list. -/
theorem not_overrunActionsAndMismatch : ¬ Obligations.OverrunActionsAndMismatch := by
  unfold Obligations.OverrunActionsAndMismatch
  rintro ⟨hdrop, -⟩
  obtain ⟨t, ht, hnone, -⟩ := hdrop listedTwice 3 ⟨lateExec, listedTwice_late⟩
  obtain rfl : listedTwice.overrunCheck 3 = t := Host.Outcome.next.inj ht
  have hsome := listedTwice_dispatched
  rw [show (listedTwice.overrunCheck 3).exec? 3 = none from hnone] at hsome
  exact absurd hsome (by decide)

end Sys2Proof.Machine
end

section
/-! SUPPORT. What a request on the network touches: frames sent, words put into a till, the completion of a request, and the receipt
of a REQUEST or a REPLY (R312, R319 to R326). -/
namespace Sys2Proof.Machine

/-! ### What a request can change -/

/-- t differs from s in what requests on the network touch: the words at the addresses of the list, the vault, the frames sent, the
network, the tills and the pair's SeqNr. -/
def State.NetFrame (ws : List Nat) (s t : State) : Prop :=
  t = { s with regs := t.regs, vault := t.vault, out := t.out, net := t.net, tills := t.tills, tillMem := t.tillMem,
               pair := { s.pair with seqNr := t.pair.seqNr } } ∧ s.Keeps ws t

section
variable {ws : List Nat} {s t : State}

theorem State.NetFrame.trans {u : State} (h : s.NetFrame ws t) (k : t.NetFrame ws u) : s.NetFrame ws u :=
  ⟨k.1.trans (congrArg (fun w : State => { w with
      regs := u.regs, vault := u.vault, out := u.out, net := u.net, tills := u.tills, tillMem := u.tillMem,
      pair := { w.pair with seqNr := u.pair.seqNr } }) h.1),
    fun a ha => (k.2 a ha).trans (h.2 a ha)⟩

theorem State.NetFrame.mono {vs : List Nat} (h : s.NetFrame vs t) (hv : vs ⊆ ws) : s.NetFrame ws t :=
  ⟨h.1, fun a ha => h.2 a fun e => ha (hv e)⟩

/-- Updates of the network, the tills and the frames sent. -/
theorem netFrame_update (ws : List Nat) (s : State) (out net tills tillMem seqNr) :
    s.NetFrame ws { s with out := out, net := net, tills := tills, tillMem := tillMem, pair.seqNr := seqNr } :=
  ⟨rfl, fun _ _ => rfl⟩

theorem netFrame_bump (s : State) {f : Fld} {i j by_ : Nat} (h : f.reg.addr i j ∈ ws) : s.NetFrame ws (s.bump f i j by_) :=
  ⟨rfl, fun _ ha => word_setWord_ne s _ fun e => ha (e ▸ h)⟩

theorem netFrame_ev (s : State) (h : eventWords ⊆ ws) (code : Nat) (items : List Item) : s.NetFrame ws (s.ev code items) := by
  refine ⟨?_, fun a ha => (logged_ev s code items).2 a fun e => ha (h e)⟩
  rw [State.ev_out, State.ev_net, State.ev_tills, State.ev_tillMem, State.ev_pair]
  exact (logged_ev s code items).1

theorem State.NetFrame.fold {α : Type} {f : State → α → State} {l : List α}
    (hf : ∀ (u : State), ∀ x ∈ l, u.NetFrame ws (f u x))
    (s : State) : s.NetFrame ws (foldState f l s) := by
  unfold foldState
  induction l generalizing s with
  | nil => exact ⟨rfl, fun _ _ => rfl⟩
  | cons x l ih => exact (hf s x List.mem_cons_self).trans (ih (fun u y hy => hf u y (List.mem_cons_of_mem x hy)) _)
end

/-! ### Frames sent -/

/-- The counters of the frames sent at each port. -/
def txWords : List Nat := [R.PORT_TX.addr 0 0, R.PORT_TX.addr 1 0, R.PORT_TX.addr 2 0, R.PORT_TX.addr 3 0]

theorem addr_portTx_mem {p : Nat} (h : p < 4) : R.PORT_TX.addr p 0 ∈ txWords := by
  interval_cases p <;> decide

theorem netFrame_emit (s : State) (f : Sent) : s.NetFrame txWords (s.emit f) := by
  refine (netFrame_update _ s _ _ _ _ _).trans (State.NetFrame.fold (fun u p _ => ?_) _)
  split
  next hp => exact netFrame_bump u (addr_portTx_mem hp)
  next => exact ⟨rfl, fun _ _ => rfl⟩

theorem netFrame_netSend (s : State) (kind version flags src dst : Nat) (body : List Byte) (acct : Nat) :
    s.NetFrame txWords (s.netSend kind version flags src dst body acct) := by
  refine State.NetFrame.trans (t := (s.takeSeq src).2) ?_ (netFrame_emit _ _)
  unfold State.takeSeq
  split <;> exact netFrame_update _ s _ _ _ _ _

/-- p reads neither the registers, nor the frames sent, nor the SeqNr of the pair and of the network. -/
structure OfSending {β : Type} (p : State → β) : Prop where
  regs : ∀ {s : State} {regs}, p { s with regs := regs } = p s
  sent : ∀ {s : State} {out}, p { s with out := out } = p s
  pairSeq : ∀ {s : State} {n}, p { s with pair.seqNr := n } = p s
  netSeq : ∀ {s : State} {n}, p { s with net.seqNr := n } = p s

theorem OfSending.netSend {β : Type} {p : State → β} (hp : OfSending p) (s : State) (kind version flags src dst : Nat)
    (body : List Byte) (acct : Nat) : p (s.netSend kind version flags src dst body acct) = p s := by
  have htake : p (s.takeSeq src).2 = p s := by
    unfold State.takeSeq
    split
    · exact hp.pairSeq
    · exact hp.netSeq
  refine (fold_same (fun u q => ?_) _ _).trans (hp.sent.trans htake)
  split
  · exact hp.regs
  · rfl

section
variable (s : State) (kind version flags src dst : Nat) (body : List Byte) (acct : Nat)

@[simp] theorem netSend_tills : (s.netSend kind version flags src dst body acct).tills = s.tills :=
  OfSending.netSend ⟨rfl, rfl, rfl, rfl⟩ s kind version flags src dst body acct

@[simp] theorem netSend_tillMem : (s.netSend kind version flags src dst body acct).tillMem = s.tillMem :=
  OfSending.netSend ⟨rfl, rfl, rfl, rfl⟩ s kind version flags src dst body acct

@[simp] theorem netSend_incoming : (s.netSend kind version flags src dst body acct).net.incoming = s.net.incoming :=
  OfSending.netSend (p := fun s => s.net.incoming) ⟨rfl, rfl, rfl, rfl⟩ s kind version flags src dst body acct

@[simp] theorem netSend_queue (a : Nat) : (s.netSend kind version flags src dst body acct).queue a = s.queue a :=
  OfSending.netSend (p := fun s => s.queue a) ⟨rfl, rfl, rfl, rfl⟩ s kind version flags src dst body acct

@[simp] theorem netSend_tag (n : Nat) : (s.netSend kind version flags src dst body acct).tag n = s.tag n :=
  OfSending.netSend (p := fun s => s.tag n) ⟨rfl, rfl, rfl, rfl⟩ s kind version flags src dst body acct

/-- One frame is sent. -/
theorem netSend_out : ∃ ports inst seqNr, (s.netSend kind version flags src dst body acct).out =
    s.out ++ [⟨ports, kind, version, flags, 0, inst, src, dst, seqNr, body, acct⟩] := by
  refine ⟨s.sendPorts, s.srcInst src, (s.takeSeq src).1, (fold_same (fun u q => ?_) _ _).trans ?_⟩
  · split
    · exact State.bump_out _ _ _ _ _
    · rfl
  · have htake : (s.takeSeq src).2.out = s.out := by
      unfold State.takeSeq
      split <;> rfl
    exact congrArg (· ++ _) htake
end

/-! ### Words put into a till, and the completion of a request (R93, R323) -/

@[simp] theorem tillSize_tillPut (s : State) (a t : Nat) (v : W64) (b k : Nat) :
    (s.tillPut a t v).tillSize b k = s.tillSize b k := rfl

theorem tillPut_till (s : State) (a t : Nat) (v : W64) :
    (s.tillPut a t v).till a t = { s.till a t with wr := (s.till a t).wr + 1 } := till_setTill_same _ _ _ _

theorem tillPut_word_same (s : State) (a t : Nat) (v : W64) :
    nget 0 (s.tillPut a t v).tillMem (s.tillPos a t (s.till a t).wr) = v := nget_nset_same _ _ _ _

theorem tillPut_word_ne (s : State) (a t : Nat) (v : W64) {x : Nat} (h : x ≠ s.tillPos a t (s.till a t).wr) :
    nget 0 (s.tillPut a t v).tillMem x = nget 0 s.tillMem x := nget_nset_ne _ _ _ _ h

/-- Words put into a till one after the other. -/
def State.tillPuts (s : State) (a t : Nat) (ws : List W64) : State := foldState (fun s w => s.tillPut a t w) ws s

theorem tillPuts_cons (s : State) (a t : Nat) (w : W64) (ws : List W64) :
    s.tillPuts a t (w :: ws) = (s.tillPut a t w).tillPuts a t ws := rfl

theorem tillPuts_frame (s : State) (a t : Nat) (ws : List W64) :
    s.tillPuts a t ws = { s with tills := (s.tillPuts a t ws).tills, tillMem := (s.tillPuts a t ws).tillMem } := by
  induction ws generalizing s with
  | nil => rfl
  | cons w ws ih => exact ih (s.tillPut a t w)

theorem tillPuts_till (s : State) (a t : Nat) (ws : List W64) :
    (s.tillPuts a t ws).till a t = { s.till a t with wr := (s.till a t).wr + ws.length } := by
  induction ws generalizing s with
  | nil => rfl
  | cons w ws ih =>
    rw [tillPuts_cons, ih, tillPut_till, List.length_cons]
    simp only [Nat.add_assoc, Nat.add_comm 1]

/-- Another position of the till memory. -/
theorem tillPuts_word_ne (s : State) (a t : Nat) (ws : List W64) {x : Nat}
    (h : ∀ i < ws.length, x ≠ s.tillPos a t ((s.till a t).wr + i)) :
    nget 0 (s.tillPuts a t ws).tillMem x = nget 0 s.tillMem x := by
  induction ws generalizing s with
  | nil => rfl
  | cons w ws ih =>
    refine (ih (s.tillPut a t w) fun i hi => ?_).trans (tillPut_word_ne s a t w (h 0 (Nat.succ_pos _)))
    rw [tillPut_till]
    have := h (i + 1) (Nat.succ_lt_succ hi)
    rwa [Nat.add_comm i, ← Nat.add_assoc] at this

/-- Two positions less than the till's size apart are two words. -/
theorem tillPos_ne (s : State) (a t n : Nat) {i : Nat} (h0 : 0 < i) (h : i < s.tillSize a t) :
    s.tillPos a t n ≠ s.tillPos a t (n + i) := by
  have hmax : max 1 (s.tillSize a t) = s.tillSize a t := by omega
  unfold State.tillPos
  rw [hmax]
  intro e
  have hmod : (n + i) % s.tillSize a t = (n + 0) % s.tillSize a t := by rw [Nat.add_zero]; omega
  have := Nat.ModEq.add_left_cancel' n hmod
  rw [Nat.ModEq, Nat.mod_eq_of_lt h, Nat.zero_mod] at this
  omega

/-- Words that fit the till stand at the positions from the write position on. -/
theorem tillPuts_word (s : State) (a t : Nat) (ws : List W64) (hfit : ws.length ≤ s.tillSize a t) {i : Nat} (hi : i < ws.length) :
    nget 0 (s.tillPuts a t ws).tillMem (s.tillPos a t ((s.till a t).wr + i)) = ws.getD i 0 := by
  induction ws generalizing s i with
  | nil => exact absurd hi (Nat.not_lt_zero i)
  | cons w ws ih =>
    rw [List.length_cons] at hfit hi
    have htill := tillPut_till s a t w
    cases i with
    | zero =>
      refine (tillPuts_word_ne (s.tillPut a t w) a t ws fun j hj => ?_).trans (tillPut_word_same s a t w)
      rw [htill, Nat.add_zero]
      have := tillPos_ne s a t (s.till a t).wr (Nat.succ_pos j) (by omega)
      rwa [Nat.succ_eq_add_one, Nat.add_comm j, ← Nat.add_assoc] at this
    | succ i =>
      have := ih (s.tillPut a t w) (by rw [tillSize_tillPut]; omega) (Nat.lt_of_succ_lt_succ hi)
      rw [htill] at this
      rw [List.getD_cons_succ, Nat.add_comm i, ← Nat.add_assoc]
      exact this

theorem tillComplete_eq (s : State) (a t n : Nat) (ws : List W64) : s.tillComplete a t n ws =
    (s.tillPuts a t ws).setTill a t { (s.tillPuts a t ws).till a t with reserved := ((s.tillPuts a t ws).till a t).reserved - n } :=
  rfl

theorem tillComplete_till (s : State) (a t n : Nat) (ws : List W64) : (s.tillComplete a t n ws).till a t =
    { s.till a t with wr := (s.till a t).wr + ws.length, reserved := (s.till a t).reserved - n } := by
  rw [tillComplete_eq, till_setTill_same, tillPuts_till]

theorem tillComplete_tillMem (s : State) (a t n : Nat) (ws : List W64) :
    (s.tillComplete a t n ws).tillMem = (s.tillPuts a t ws).tillMem := rfl

theorem tillComplete_frame (s : State) (a t n : Nat) (ws : List W64) : s.tillComplete a t n ws =
    { s with tills := (s.tillComplete a t n ws).tills, tillMem := (s.tillComplete a t n ws).tillMem } :=
  congrArg (fun w : State => { w with tills := (s.tillComplete a t n ws).tills }) (tillPuts_frame s a t ws)

theorem netFrame_tillComplete (s : State) (a t n : Nat) (ws : List W64) (addrs : List Nat) :
    s.NetFrame addrs (s.tillComplete a t n ws) := by
  rw [tillComplete_frame]
  exact ⟨rfl, fun _ _ => rfl⟩

/-- The counter of the requests that complete with a status. -/
def complFld : Nat → Fld
  | 0x00 => whole R.NET_COMPL_OK
  | 0x01 => F.NET_COMPL_1_BUSY
  | 0x04 => F.NET_COMPL_0_NOTAG
  | 0x0B => F.NET_COMPL_1_VERS
  | 0x0D => F.NET_COMPL_0_TIMEOUT
  | _ => F.NET_COMPL_2_REFUSED

/-- The counters of the completed requests of an account. -/
def complWords (a : Nat) : List Nat :=
  [R.NET_COMPL_0.addr a 0, R.NET_COMPL_1.addr a 0, R.NET_COMPL_2.addr a 0, R.NET_COMPL_OK.addr a 0]

theorem addr_complFld_mem (a status : Nat) : (complFld status).reg.addr a 0 ∈ complWords a := by
  unfold complFld
  split <;> simp [complWords, whole]

/-- The first word of a completion. -/
def complHeader (item : List W64) (peer account length status : Nat) : W64 :=
  mkHeader 1 peer account (hService (item.headD 0)) length 0 (hRef (item.headD 0)) status

theorem complete_eq (s : State) (a : Nat) (item : List W64) (peer account status : Nat) (payload : List W64) :
    s.complete a item peer account status payload = (s.tillComplete a ((s.replyTill a).getD 0) (1 + hReplyMax (item.headD 0))
      (complHeader item peer account payload.length status :: payload)).bump (complFld status) a := by
  unfold State.complete
  dsimp only
  split
  · rfl
  · rfl
  · rfl
  · rfl
  · rfl
  next h0 h1 h4 hB hD =>
    rw [show complFld status = F.NET_COMPL_2_REFUSED from complFld.eq_6 status h0 h1 h4 hB hD]
    rfl

section
variable (s : State) (a : Nat) (item : List W64) (peer account status : Nat) (payload : List W64)

theorem complete_till : (s.complete a item peer account status payload).till a ((s.replyTill a).getD 0) =
    { s.till a ((s.replyTill a).getD 0) with
      wr := (s.till a ((s.replyTill a).getD 0)).wr + (payload.length + 1)
      reserved := (s.till a ((s.replyTill a).getD 0)).reserved - (1 + hReplyMax (item.headD 0)) } := by
  rw [complete_eq]
  exact tillComplete_till s a _ _ _

theorem complete_net : (s.complete a item peer account status payload).net = s.net := by
  rw [complete_eq, State.bump_net, tillComplete_frame]

theorem complete_out : (s.complete a item peer account status payload).out = s.out := by
  rw [complete_eq, State.bump_out, tillComplete_frame]

theorem complete_image : (s.complete a item peer account status payload).image = s.image := by
  rw [complete_eq, State.bump_image, tillComplete_frame]

theorem complete_fld (i : Nat) (f : Fld) : (s.complete a item peer account status payload).fld f i =
    (s.bump (complFld status) a).fld f i := by
  rw [complete_eq, tillComplete_frame]
  rfl

/-- The first word of the completion stands at the write position of a till that holds the completion. -/
theorem complete_header (h : payload.length < s.tillSize a ((s.replyTill a).getD 0)) :
    nget 0 (s.complete a item peer account status payload).tillMem
      (s.tillPos a ((s.replyTill a).getD 0) (s.till a ((s.replyTill a).getD 0)).wr) =
    complHeader item peer account payload.length status := by
  rw [complete_eq, State.bump_tillMem, tillComplete_tillMem]
  exact tillPuts_word s a _ (complHeader item peer account payload.length status :: payload) h (i := 0) (Nat.succ_pos _)

theorem netFrame_complete : s.NetFrame (complWords a) (s.complete a item peer account status payload) := by
  rw [complete_eq]
  exact (netFrame_tillComplete s a _ _ _ _).trans (netFrame_bump _ (addr_complFld_mem a status))
end

end Sys2Proof.Machine
end

section
/-! SUPPORT. The receipt of a REQUEST or a REPLY: frames that are not taken further, and what a frame that is leaves for its request
(R312, R313). -/
namespace Sys2Proof.Machine

/-- The frame comes by a plane port that is up and not refused. -/
def State.takesFrom (s : State) (f : Frame) : Prop :=
  f.port.val < 4 ∧ s.portUp f.port.val = true ∧ s.portRole f.port.val ≠ prRefused

/-- The frame is a first copy, for this module, of a kind, in the form of its kind. -/
def State.takes (s : State) (f : Frame) (kind : Nat) : Prop :=
  s.takesFrom f ∧ s.isOwn f.dest.toNat = true ∧ s.malformed f kind = false ∧ s.fromStation f = false ∧
    (s.peer f.source.toNat).state ≠ 2 ∧ nget (0, 0) s.net.seen (65536 * f.source.toNat + f.seqNr.toNat) = (0, 0)

/-- The frame counted at its port. -/
abbrev State.rxCounted (s : State) (f : Frame) : State := s.bump (whole R.PORT_RX) f.port.val

/-- The frame counted at its port and remembered as a first copy. -/
def State.receipt (s : State) (f : Frame) : State :=
  { s.rxCounted f with
    net.seen := nset (0, 0) s.net.seen (65536 * f.source.toNat + f.seqNr.toNat) (s.tick, 2 ^ (f.port.val / 2)) }

/-! ### Registers and the count of a port -/

theorem rxCounted_word (s : State) (f : Frame) {x : Nat} (h : x ≠ R.PORT_RX.addr f.port.val 0) :
    (s.rxCounted f).word x = s.word x :=
  word_setWord_ne _ _ h

theorem rxCounted_fld (s : State) (f : Frame) {g : Fld} {i j : Nat} (h : g.reg.addr i j ≠ R.PORT_RX.addr f.port.val 0) :
    (s.rxCounted f).fld g i j = s.fld g i j := fld_eq_of_word (rxCounted_word s f h)

section
variable (s : State) {f : Frame} (hp : f.port.val < 4)
include hp

theorem rxCounted_addr : (s.rxCounted f).addr = s.addr :=
  rxCounted_fld s f (by simp only [Reg.addr]; omega)

theorem rxCounted_fromStation : (s.rxCounted f).fromStation f = s.fromStation f := by
  have hstate : (s.rxCounted f).fld F.PAIR_STATUS_STATE = s.fld F.PAIR_STATUS_STATE :=
    rxCounted_fld s f (by simp only [Reg.addr]; omega)
  have hstation : (s.rxCounted f).fld F.PAIR_CFG_STATION = s.fld F.PAIR_CFG_STATION :=
    rxCounted_fld s f (by simp only [Reg.addr]; omega)
  rw [State.fromStation, State.fromStation, State.asStation, State.pairState, State.station, hstate, hstation]
  rfl

theorem rxCounted_malformed (kind : Nat) : (s.rxCounted f).malformed f kind = s.malformed f kind := by
  rw [State.malformed, State.malformed, rxCounted_addr s hp]
end

/-! ### Frames that are not taken further -/

section
variable {s : State} {f : Frame} {kind : Nat}

theorem receive_shut (hp : f.port.val < 4) (h : s.portUp f.port.val = false ∨ s.portRole f.port.val = prRefused) (bad : Bool) :
    s.receive f kind bad = (false, s) :=
  if_pos ⟨hp, by simpa using h⟩

theorem not_shut (h : s.takesFrom f) :
    ¬(f.port.val < 4 ∧ ((!s.portUp f.port.val) = true ∨ s.portRole f.port.val = prRefused)) := by
  obtain ⟨-, hup, hrole⟩ := h
  simp [hup, hrole]

theorem receive_foreign (hk : kind = nkRequest ∨ kind = nkReply) (h : s.takesFrom f) (hf : f.fcs = true)
    (ho : s.isOwn f.dest.toNat = false) (bad : Bool) : s.receive f kind bad = (false, s) := by
  unfold State.receive
  dsimp only
  rw [if_neg (not_shut h), if_pos ⟨hk, h.1, hf, by simp [ho]⟩]

theorem receive_dropped (h : s.takesFrom f) {bad : Bool} (ho : s.isOwn f.dest.toNat = true ∨ f.fcs = false)
    (hbad : (s.malformed f kind || bad) = true) : s.receive f kind bad = (false, (s.rxCounted f).dropMalformed f) := by
  have hown : ¬((kind = nkRequest ∨ kind = nkReply) ∧ f.port.val < 4 ∧ f.fcs = true ∧ (!s.isOwn f.dest.toNat) = true) := by
    rcases ho with ho | ho <;> simp [ho]
  unfold State.receive
  dsimp only
  rw [if_neg (not_shut h), if_neg hown, if_pos h.1]
  change (if ((s.rxCounted f).malformed f kind || bad) = true then _ else _) = _
  rw [rxCounted_malformed s h.1, if_pos hbad]

theorem receive_taken (hk : kind = nkRequest ∨ kind = nkReply) (h : s.takes f kind) :
    s.receive f kind false = (true, s.receipt f) := by
  obtain ⟨hfrom, hown, hform, hstation, hpeer, hseen⟩ := h
  have hnot : ¬((kind = nkRequest ∨ kind = nkReply) ∧ f.port.val < 4 ∧ f.fcs = true ∧ (!s.isOwn f.dest.toNat) = true) := by
    simp [hown]
  have h4 : f.port.val ≠ 4 := by have := hfrom.1; omega
  unfold State.receive
  dsimp only
  rw [if_neg (not_shut hfrom), if_neg hnot, if_pos hfrom.1]
  have hsup : ¬(kind = nkSupervision ∨ f.port.val = 4) := by
    rcases hk with rfl | rfl <;> simp [h4]
  have hver : ¬(kind ≠ nkAnnounce ∧ kind ≠ nkSupervision ∧ f.port.val < 4 ∧
      ((s.bump (whole R.PORT_RX) f.port.val).peer f.source.toNat).state = 2) := fun h => hpeer h.2.2.2
  rw [(rxCounted_malformed s hfrom.1 kind).trans hform, (rxCounted_fromStation s hfrom.1).trans hstation, State.bump_net, hseen,
    if_neg hver, if_neg hsup]
  rfl
end

/-! ### Frames counted as dropped -/

/-- The frame is counted at its port and in a drop counter, and nothing else of the state changes but the record of first copies. -/
def State.DropCounted (s : State) (f : Frame) (g : Fld) (t : State) : Prop :=
  t.fld g = min (s.fld g + 1) 0xFFFF ∧ t = { s with regs := t.regs, net := { s.net with seen := t.net.seen } } ∧
    s.Keeps ([R.PORT_RX.addr f.port.val 0] ++ [g.reg.base, R.PORT_ERR.addr f.port.val 0]) t

theorem dropCounted_bump {s u : State} {f : Frame} {g : Fld} (hg : g = F.NET_DROPS_0_STALE_REPLY ∨ g = F.NET_DROPS_1_MALFORMED)
    (hu : u = { s with regs := u.regs, net := { s.net with seen := u.net.seen } })
    (hk : s.Keeps [R.PORT_RX.addr f.port.val 0, R.PORT_ERR.addr f.port.val 0] u) : s.DropCounted f g (u.bump g) := by
  have hne : g.reg.addr 0 0 ∉ [R.PORT_RX.addr f.port.val 0, R.PORT_ERR.addr f.port.val 0] := by
    rcases hg with rfl | rfl <;> simp only [Reg.addr, List.mem_cons, List.not_mem_nil, or_false] <;> omega
  have hsame : u.fld g = s.fld g := fld_eq_of_word (hk _ hne)
  refine ⟨?_, congrArg (fun w : State => { w with regs := (u.bump g).regs }) hu, fun x hx => ?_⟩
  · rw [fld_bump_same u g 0 0 1 (by rcases hg with rfl | rfl <;> decide) (by rcases hg with rfl | rfl <;> decide), hsame]
    rcases hg with rfl | rfl <;> rfl
  · simp only [List.mem_append, List.mem_cons, List.not_mem_nil, or_false, not_or] at hx
    obtain ⟨hrx, hdrop, herr⟩ := hx
    exact (word_setWord_ne u _ (by simpa [Reg.addr] using hdrop)).trans (hk x (by simp [hrx, herr]))

theorem dropCounted_malformed (s : State) (f : Frame) :
    s.DropCounted f F.NET_DROPS_1_MALFORMED ((s.rxCounted f).dropMalformed f) := by
  refine dropCounted_bump (.inr rfl) ?_ fun x hx => ?_
  · split <;> rfl
  · simp only [List.mem_cons, List.not_mem_nil, or_false, not_or] at hx
    obtain ⟨hrx, herr⟩ := hx
    split
    · exact rxCounted_word s f hrx
    · exact (word_setWord_ne _ _ herr).trans (rxCounted_word s f hrx)

theorem dropMalformed_net (s : State) (f : Frame) : (s.dropMalformed f).net = s.net := by
  refine (State.bump_net _ _ _ _ _).trans ?_
  split
  · rfl
  · exact State.bump_net _ _ _ _ _

theorem dropCounted_receipt (s : State) (f : Frame) {g : Fld} (hg : g = F.NET_DROPS_0_STALE_REPLY ∨ g = F.NET_DROPS_1_MALFORMED) :
    s.DropCounted f g ((s.receipt f).bump g) :=
  dropCounted_bump hg rfl fun _ hx => rxCounted_word s f (List.ne_of_not_mem_cons hx)

/-! ### What the request finds -/

theorem receipt_frame (s : State) (f : Frame) : s.receipt f =
    { s with regs := (s.receipt f).regs, net := { s.net with seen := (s.receipt f).net.seen } } := rfl

theorem receipt_keeps (s : State) (f : Frame) : s.Keeps [R.PORT_RX.addr f.port.val 0] (s.receipt f) :=
  fun _ hx => rxCounted_word s f (List.ne_of_not_mem_cons hx)

theorem netFrame_receipt (s : State) (f : Frame) : s.NetFrame [R.PORT_RX.addr f.port.val 0] (s.receipt f) :=
  ⟨rfl, receipt_keeps s f⟩

theorem receipt_fld (s : State) (f : Frame) {g : Fld} {i j : Nat} (h : g.reg.addr i j ≠ R.PORT_RX.addr f.port.val 0) :
    (s.receipt f).fld g i j = s.fld g i j := rxCounted_fld s f h

section
variable (s : State) (f : Frame)

theorem receipt_tillCfg {g : Fld} (h : g.reg = R.TILL_CFG) (a t : Nat) : (s.receipt f).fld g a t = s.fld g a t :=
  receipt_fld s f (by rw [h]; simp only [Reg.addr]; omega)

theorem receipt_tillSize (a t : Nat) : (s.receipt f).tillSize a t = s.tillSize a t := by
  rw [State.tillSize, State.tillSize, receipt_tillCfg s f rfl]

theorem receipt_tillFree (a t : Nat) : (s.receipt f).tillFree a t = s.tillFree a t := by
  rw [State.tillFree, receipt_tillSize]
  rfl

theorem receipt_tillPos (a t n : Nat) : (s.receipt f).tillPos a t n = s.tillPos a t n := by
  rw [State.tillPos, receipt_tillSize, State.tillPos]

theorem receipt_findTill (a : Nat) (prod : Bool) (kind idx : Nat) :
    (s.receipt f).findTill a prod kind idx = s.findTill a prod kind idx := by
  simp only [State.findTill, receipt_tillSize, receipt_tillCfg]

theorem receipt_replyTill (a : Nat) : (s.receipt f).replyTill a = s.replyTill a := by
  simp only [State.replyTill, receipt_tillSize, receipt_tillCfg]

theorem receipt_acctState {a : Nat} (ha : a < 8) : (s.receipt f).acctState a = s.acctState a :=
  receipt_fld s f (by simp only [Reg.addr]; omega)
end

end Sys2Proof.Machine
end

section
/-! PROOF. Request transactions (O52). -/
namespace Sys2Proof.Machine

/-! ### Sending a request under a tag (R319, R321) -/

/-- The first word of a request as it is sent. -/
def State.requestHeader (s : State) (t : Tag) (tag : Nat) : W64 :=
  let h := t.item.headD 0
  mkHeader 0 s.dataSrc t.account (hService h) (hLength h) (hReplyMax h)
    ((if s.peerVersion t.peer = 1 then 0 else t.gen) * 4096 + tag) (hLow h)

theorem sendRequest_out (s : State) (tag left : Nat) (resend : Bool) : ∃ ports inst seqNr acct,
    (s.sendRequest tag left resend).out = s.out ++ [⟨ports, nkRequest, s.peerVersion (s.tag tag).peer, b2n resend, 0, inst, s.dataSrc,
      (s.tag tag).peer, seqNr,
      bytesOf64 (s.requestHeader (s.tag tag) tag :: BitVec.ofNat 64 left :: (s.tag tag).item.tail), acct⟩] := by
  obtain ⟨ports, inst, seqNr, h⟩ := netSend_out s nkRequest (s.peerVersion (s.tag tag).peer) (b2n resend) s.dataSrc (s.tag tag).peer
    (bytesOf64 (s.requestHeader (s.tag tag) tag :: BitVec.ofNat 64 left :: (s.tag tag).item.tail))
    (hAccount ((s.tag tag).item.headD 0))
  exact ⟨ports, inst, seqNr, _, h⟩

theorem netFrame_sendRequest (s : State) (tag left : Nat) (resend : Bool) :
    s.NetFrame txWords (s.sendRequest tag left resend) := netFrame_netSend _ _ _ _ _ _ _ _

theorem length_bytesLE (n v : Nat) : (bytesLE n v).length = n := by
  induction n generalizing v with
  | zero => rfl
  | succ n ih => rw [bytesLE, List.length_cons, ih]

theorem foldr_bytesLE (n v : Nat) : (bytesLE n v).foldr (fun b v => b.toNat + 256 * v) 0 = v % 256 ^ n := by
  induction n generalizing v with
  | zero => simp [bytesLE, Nat.mod_one]
  | succ n ih =>
    rw [bytesLE, List.foldr_cons, ih, BitVec.toNat_ofNat, pow_succ' 256 n, Nat.mod_mul]

theorem bytesOf64_cons (w : W64) (ws : List W64) : bytesOf64 (w :: ws) = bytesLE 8 w.toNat ++ bytesOf64 ws := rfl

/-- The second word of a body. -/
theorem leAt_second (v w : W64) (ws : List W64) : leAt (bytesOf64 (v :: w :: ws)) 8 8 = w.toNat := by
  have hlen : ∀ v : W64, (bytesLE 8 v.toNat).length = 8 := fun v => length_bytesLE 8 _
  rw [leAt, bytesOf64_cons, bytesOf64_cons, List.drop_left' (hlen v), List.take_left' (hlen w), foldr_bytesLE]
  exact Nat.mod_eq_of_lt w.isLt

/-! ### TAG_GRANT (R321) -/

/-- An account may use a tag towards a peer. -/
def State.mayTag (s : State) (a peer : Nat) : Prop := (s.peer peer).state ≠ 0 ∧ (s.peer peer).state ≠ 2 ∧
  s.tagsHeld a none < s.fld F.ACCT_QUOTA_1_TAGS a ∧ s.tagsHeld a (some peer) < s.budget peer

/-- The first admitted request of an account to a peer, and the rest of its queue. -/
def State.firstFor (s : State) (a peer : Nat) : Option (QItem × List QItem) :=
  takeFirst (fun (q : QItem) => q.admitted.isSome && hPeer (q.item.headD 0) == peer) (s.queue a)

/-- A tag given to a request. -/
def State.tagFor (s : State) (a peer tag : Nat) (q : QItem) : Tag :=
  { s.tag tag with st := 1, gen := ((s.tag tag).gen + 1) % 4, account := a, peer := peer, inst := (s.peer peer).inst,
                   item := q.item, deadline := s.tick + s.reqT (q.item.headD 0) }

/-- The request sent, and its tag entered. -/
def State.tagSent (s : State) (a peer tag : Nat) (q : QItem) (rest : List QItem) : State :=
  ((s.setQueue a rest).setTag tag (s.tagFor a peer tag q)).sendRequest tag (s.reqT (q.item.headD 0)) false

/-- The event of a budget that is full for the first time. -/
def State.noteFull (s : State) (a peer : Nat) : State :=
  if s.budget peer ≤ s.tagsHeld a (some peer) ∧ !s.net.budgetFull.contains (4096 * a + peer) then
    State.ev { s with net.budgetFull := (4096 * a + peer) :: s.net.budgetFull } 0x0D08 [.b8 a, .b16 peer]
  else s

theorem tagGrant_none {s : State} {a peer : Nat} (h : ¬s.mayTag a peer ∨ s.firstFor a peer = none ∨ s.freeTag = none) :
    s.tagGrant a peer = s := by
  unfold State.tagGrant
  dsimp only
  split
  next q rest tag hq ht =>
    refine if_pos ?_
    rcases h with h | h | h
    · simp only [State.mayTag] at h
      omega
    · exact absurd (h.symm.trans hq) (by simp)
    · exact absurd (h.symm.trans ht) (by simp)
  next => rfl

theorem tagGrant_some {s : State} {a peer tag : Nat} {q : QItem} {rest : List QItem} (h : s.mayTag a peer)
    (hq : s.firstFor a peer = some (q, rest)) (ht : s.freeTag = some tag) :
    s.tagGrant a peer = (s.tagSent a peer tag q rest).noteFull a peer := by
  obtain ⟨h0, h2, hquota, hbudget⟩ := h
  have hno : ¬((s.peer peer).state = 0 ∨ (s.peer peer).state = 2 ∨ s.fld F.ACCT_QUOTA_1_TAGS a ≤ s.tagsHeld a none ∨
    s.budget peer ≤ s.tagsHeld a (some peer)) := by omega
  rw [State.firstFor] at hq
  unfold State.tagGrant
  simp only [hq, ht]
  exact if_neg hno

theorem netFrame_noteFull (s : State) (a peer : Nat) : s.NetFrame eventWords (s.noteFull a peer) := by
  unfold State.noteFull
  split
  · exact (netFrame_update _ s _ _ _ _ _).trans (netFrame_ev _ (List.Subset.refl _) _ _)
  · exact ⟨rfl, fun _ _ => rfl⟩

/-- p reads nothing that the event of a full budget changes. -/
theorem noteFull_same {β : Type} {p : State → β} (hev : ∀ s code items, p (State.ev s code items) = p s)
    (hnet : ∀ (s : State) full, p { s with net.budgetFull := full } = p s) (s : State) (a peer : Nat) :
    p (s.noteFull a peer) = p s := by
  unfold State.noteFull
  split
  · exact (hev _ _ _).trans (hnet _ _)
  · rfl

/-- What the grant of a tag leaves behind. -/
theorem tagSent_spec (s : State) (a peer tag : Nat) (q : QItem) (rest : List QItem) :
    let t := (s.tagSent a peer tag q rest).noteFull a peer
    t.queue a = rest ∧ t.tag tag = s.tagFor a peer tag q ∧ t.out = (s.tagSent a peer tag q rest).out ∧
    s.NetFrame (txWords ++ eventWords) t ∧ t.tillMem = s.tillMem ∧ t.tills = s.tills := by
  have hqueue : (s.tagSent a peer tag q rest).queue a = rest := (netSend_queue _ _ _ _ _ _ _ _ a).trans (State.setQueue_queue_same _ _ _)
  have htag : (s.tagSent a peer tag q rest).tag tag = s.tagFor a peer tag q :=
    (netSend_tag _ _ _ _ _ _ _ _ tag).trans (State.setTag_tag_same _ _ _)
  have hframe : s.NetFrame txWords (s.tagSent a peer tag q rest) :=
    (netFrame_update _ s _ _ _ _ _).trans (netFrame_sendRequest _ _ _ _)
  refine ⟨(noteFull_same (p := fun s => s.queue a) (fun s c i => congrArg (fun n : Net => nget [] n.queues a) (State.ev_net s c i))
      (fun _ _ => rfl) _ a peer).trans hqueue,
    (noteFull_same (p := fun s => s.tag tag) (fun s c i => congrArg (fun n : Net => nget Tag.init n.tags tag) (State.ev_net s c i))
      (fun _ _ => rfl) _ a peer).trans htag,
    noteFull_same (fun s c i => State.ev_out s c i) (fun _ _ => rfl) _ a peer,
    (hframe.mono (List.subset_append_left _ _)).trans ((netFrame_noteFull _ _ _).mono (List.subset_append_right _ _)),
    (noteFull_same (fun s c i => State.ev_tillMem s c i) (fun _ _ => rfl) _ a peer).trans (netSend_tillMem _ _ _ _ _ _ _ _),
    (noteFull_same (fun s c i => State.ev_tills s c i) (fun _ _ => rfl) _ a peer).trans (netSend_tills _ _ _ _ _ _ _ _)⟩

end Sys2Proof.Machine
end

section
/-! SUPPORT. What becomes of a REQUEST and of a REPLY that is taken (Table 13.9, R322, R323). -/
namespace Sys2Proof.Machine

theorem length_words64 (l : List Byte) : (words64 l).length = l.length / 8 := by
  rw [words64, List.length_map, List.length_range]

/-! ### A REQUEST (Table 13.9) -/

/-- The body is not one of a REQUEST. -/
def requestBad (f : Frame) : Bool :=
  decide (f.body.length ≠ 8 * (2 + hLength ((words64 f.body).headD 0))) || hKind ((words64 f.body).headD 0) != 0 ||
    decide (1024 < hLength ((words64 f.body).headD 0))

theorem requestBad_eq_true {f : Frame} (h : f.body.length ≠ 8 * (2 + hLength ((words64 f.body).headD 0)) ∨
    hKind ((words64 f.body).headD 0) ≠ 0 ∨ 1024 < hLength ((words64 f.body).headD 0)) : requestBad f = true := by
  simpa [requestBad, or_assoc] using h

theorem requestBad_eq_false {f : Frame} (hlen : f.body.length = 8 * (2 + hLength ((words64 f.body).headD 0)))
    (hkind : hKind ((words64 f.body).headD 0) = 0) (hmax : hLength ((words64 f.body).headD 0) ≤ 1024) : requestBad f = false := by
  rw [requestBad, hkind, decide_eq_false (not_not.mpr hlen), decide_eq_false (not_lt.mpr hmax)]
  rfl

/-- The till a request is for. -/
abbrev State.serviceTill (s : State) (f : Frame) (a : Nat) : Option Nat :=
  s.findTill a true ekNetIn (hService ((words64 f.body).headD 0))

/-- How a request is judged: 256 for one already known, 0 for one that is taken, else the status of the answer. -/
def State.requestVerdict (s : State) (f : Frame) (a : Nat) : Nat :=
  let h := (words64 f.body).headD 0
  let till := s.serviceTill f a
  if (s.net.incoming.any fun r => r.source == f.source.toNat && r.inst == f.inst.toNat && r.handle == hRef h) then 256
  else if s.acctState a = aAbsent ∨ till.isNone ∨ versionLimit f.version.toNat < hReplyMax h ∨
      ((words64 f.body).getD 1 0).toNat = 0 then 9
  else if s.acctState a ≠ aRunning then 1
  else if s.tillSize a (till.getD 0) < 1 + hLength h then 2
  else if s.tillFree a (till.getD 0) < 1 + hLength h ∨ 4096 ≤ s.net.incoming.length then 1
  else 0

/-- The REPLY that answers a request with a status. -/
def State.answer (s : State) (f : Frame) (a status : Nat) : State :=
  s.netSend nkReply (s.peerVersion f.source.toNat) 0 s.dataSrc f.source.toNat
    (bytesOf64 [mkHeader 1 f.source.toNat a 0 0 0 (hRef ((words64 f.body).headD 0)) status])

/-- The words of a request as its till takes them. -/
def requestItem (f : Frame) : List W64 :=
  let h := (words64 f.body).headD 0
  mkHeader 0 f.source.toNat (hAccount h) (hService h) (hLength h) (hReplyMax h) (hRef h) 0 :: (words64 f.body).drop 2

/-- The note of a request that is taken. -/
def State.requestNote (s : State) (f : Frame) (a : Nat) : Incoming :=
  let h := (words64 f.body).headD 0
  ⟨f.source.toNat, f.inst.toNat, hRef h, a, hService h, hReplyMax h, s.tick + ((words64 f.body).getD 1 0).toNat⟩

/-- A request is taken into its till and noted. -/
def State.enterRequest (s : State) (f : Frame) (a : Nat) : State :=
  let w := s.tillPuts a ((s.serviceTill f a).getD 0) (requestItem f)
  { w with net.incoming := w.net.incoming ++ [w.requestNote f a] }

section
variable {s u : State} {f : Frame}

theorem requestIn_untaken (a : Nat) (h : s.receive f nkRequest (requestBad f) = (false, u)) : s.requestIn f a = u := by
  unfold requestBad at h
  unfold State.requestIn
  simp only [h, Bool.not_false, if_true]

theorem requestIn_taken (a : Nat) (h : s.receive f nkRequest (requestBad f) = (true, u)) :
    s.requestIn f a = if u.requestVerdict f a = 256 then u
      else if u.requestVerdict f a = 0 then u.enterRequest f a
      else if u.requestVerdict f a = 2 then
        (u.tooBig a ((u.serviceTill f a).getD 0) (1 + hLength ((words64 f.body).headD 0))).answer f a 2
      else u.answer f a (u.requestVerdict f a) := by
  unfold requestBad at h
  unfold State.requestIn State.requestVerdict
  simp only [h, Bool.not_true, Bool.false_eq_true, if_false]
  by_cases hknown : (u.net.incoming.any fun r => r.source == f.source.toNat && r.inst == f.inst.toNat &&
      r.handle == hRef ((words64 f.body).headD 0)) = true
  · rw [if_pos hknown, if_pos hknown]
    rfl
  rw [if_neg hknown, if_neg hknown]
  by_cases hrange : u.acctState a = aAbsent ∨ (u.serviceTill f a).isNone = true ∨
      versionLimit f.version.toNat < hReplyMax ((words64 f.body).headD 0) ∨ ((words64 f.body).getD 1 0).toNat = 0
  · rw [if_pos hrange, if_pos hrange]
    rfl
  rw [if_neg hrange, if_neg hrange]
  by_cases hrun : u.acctState a ≠ aRunning
  · rw [if_pos hrun, if_pos hrun]
    rfl
  rw [if_neg hrun, if_neg hrun]
  by_cases hbig : u.tillSize a ((u.serviceTill f a).getD 0) < 1 + hLength ((words64 f.body).headD 0)
  · rw [if_pos hbig, if_pos hbig]
    rfl
  rw [if_neg hbig, if_neg hbig]
  by_cases hroom : u.tillFree a ((u.serviceTill f a).getD 0) < 1 + hLength ((words64 f.body).headD 0) ∨
      4096 ≤ u.net.incoming.length
  · rw [if_pos hroom, if_pos hroom]
    rfl
  rw [if_neg hroom, if_neg hroom]
  rfl
end

/-! ### What the answer of a request leaves, and its entry in a till -/

/-- The counters that the answer of a request to an account may move. -/
def answerWords (f : Frame) (a : Nat) : List Nat :=
  [R.PORT_RX.addr f.port.val 0] ++ txWords ++ [R.ACCT_COUNTS.addr a 0] ++ eventWords

/-- One REPLY with the status goes back, and nothing else changes but counters. -/
def State.RequestAnswered (s : State) (f : Frame) (a status : Nat) (t : State) : Prop :=
  (t.out.drop s.out.length).map (fun g => (g.kind, g.dst, g.body)) = [(nkReply, f.source.toNat,
    bytesOf64 [mkHeader 1 f.source.toNat a 0 0 0 (hRef ((words64 f.body).headD 0)) status])] ∧
  t.tillMem = s.tillMem ∧ t.tills = s.tills ∧ t.net.incoming = s.net.incoming ∧ s.NetFrame (answerWords f a) t

section
variable {s w : State} {f : Frame} {a : Nat}

theorem txWords_subset_answerWords : txWords ⊆ answerWords f a := fun x hx => by simp [answerWords, hx]

theorem answered_answer (hframe : s.NetFrame (answerWords f a) w) (hout : w.out = s.out) (hmem : w.tillMem = s.tillMem)
    (htills : w.tills = s.tills) (hin : w.net.incoming = s.net.incoming) (status : Nat) :
    s.RequestAnswered f a status (w.answer f a status) := by
  obtain ⟨ports, inst, seqNr, h⟩ := netSend_out w nkReply (w.peerVersion f.source.toNat) 0 w.dataSrc f.source.toNat
    (bytesOf64 [mkHeader 1 f.source.toNat a 0 0 0 (hRef ((words64 f.body).headD 0)) status]) 0
  refine ⟨?_, (netSend_tillMem _ _ _ _ _ _ _ _).trans hmem, (netSend_tills _ _ _ _ _ _ _ _).trans htills,
    (netSend_incoming _ _ _ _ _ _ _ _).trans hin, hframe.trans ((netFrame_netSend _ _ _ _ _ _ _ _).mono txWords_subset_answerWords)⟩
  rw [State.answer, h, hout, List.drop_left]
  rfl

theorem tooBig_eq {t need : Nat} (h : s.tillSize a t < need) :
    s.tooBig a t need = (s.bump F.ACCT_COUNTS_TOOBIG a).ev 0x0405 [.b8 a, .b16 t, .b32 need] := by
  rw [State.tooBig, if_pos h]

theorem netFrame_receipt_answer : s.NetFrame (answerWords f a) (s.receipt f) :=
  (netFrame_receipt s f).mono fun x hx => by simp [answerWords, List.mem_singleton.mp hx]

/-- A request that is answered at once. -/
theorem answered_receipt (status : Nat) : s.RequestAnswered f a status ((s.receipt f).answer f a status) :=
  answered_answer netFrame_receipt_answer rfl rfl rfl rfl status

/-- A request that is larger than the till. -/
theorem answered_tooBig (ha : a < 8) {t need : Nat} (h : (s.receipt f).tillSize a t < need) :
    s.RequestAnswered f a 2 (((s.receipt f).tooBig a t need).answer f a 2) ∧
    (((s.receipt f).tooBig a t need).answer f a 2).fld F.ACCT_COUNTS_TOOBIG a = min (s.fld F.ACCT_COUNTS_TOOBIG a + 1) 0xFFFF := by
  have hx : R.ACCT_COUNTS.addr a 0 < 0x5000000 := by simp only [Reg.addr]; omega
  have hcount : R.ACCT_COUNTS.addr a 0 ∈ answerWords f a := by simp [answerWords]
  rw [tooBig_eq h]
  refine ⟨answered_answer ?_ ?_ ?_ ?_ ?_ 2, ?_⟩
  · exact netFrame_receipt_answer.trans ((netFrame_bump _ hcount).trans (netFrame_ev _ (fun x hx => by simp [answerWords, hx]) _ _))
  · rw [State.ev_out, State.bump_out]
    rfl
  · rw [State.ev_tillMem, State.bump_tillMem]
    rfl
  · rw [State.ev_tills, State.bump_tills]
    rfl
  · rw [State.ev_net, State.bump_net]
    rfl
  · refine (fld_eq_of_word (f := F.ACCT_COUNTS_TOOBIG) ((netFrame_netSend _ _ _ _ _ _ _ _).2 _ ?_)).trans ?_
    · simp only [txWords, Reg.addr, List.mem_cons, List.not_mem_nil, or_false]
      omega
    · rw [ev_fld _ _ _ (not_eventWord_of_lt hx), fld_bump_same _ _ _ _ _ (by decide) (by decide),
        receipt_fld s f (by simp only [Reg.addr]; omega)]
      rfl

/-- A request that its till holds. -/
theorem enterRequest_spec (hlen : f.body.length = 8 * (2 + hLength ((words64 f.body).headD 0)))
    (hfit : 1 + hLength ((words64 f.body).headD 0) ≤ s.tillSize a ((s.serviceTill f a).getD 0)) :
    let h := (words64 f.body).headD 0
    let x := (s.serviceTill f a).getD 0
    let t := s.enterRequest f a
    nget 0 t.tillMem (s.tillPos a x (s.till a x).wr) =
      mkHeader 0 f.source.toNat (hAccount h) (hService h) (hLength h) (hReplyMax h) (hRef h) 0 ∧
    (∀ i < hLength h, nget 0 t.tillMem (s.tillPos a x ((s.till a x).wr + 1 + i)) = (words64 f.body).getD (2 + i) 0) ∧
    t.till a x = { s.till a x with wr := (s.till a x).wr + 1 + hLength h } ∧
    t.net.incoming = s.net.incoming ++ [s.requestNote f a] ∧
    t = { s with net := { s.net with incoming := t.net.incoming }, tills := t.tills, tillMem := t.tillMem } := by
  intro h x t
  have hwords : (requestItem f).length = 1 + hLength h := by
    rw [requestItem, List.length_cons, List.length_drop, length_words64, hlen, Nat.mul_div_cancel_left _ (by decide),
      Nat.add_sub_cancel_left, Nat.add_comm]
  have hframe := tillPuts_frame s a x (requestItem f)
  refine ⟨?_, fun i hi => ?_, ?_, ?_, ?_⟩
  · exact tillPuts_word s a x (requestItem f) (hwords ▸ hfit) (i := 0) (by omega)
  · refine (congrArg (fun n => nget 0 t.tillMem (s.tillPos a x n)) (Nat.add_assoc _ 1 i)).trans ?_
    refine (tillPuts_word s a x (requestItem f) (hwords ▸ hfit) (by omega)).trans ?_
    rw [requestItem, Nat.add_comm 1 i, List.getD_cons_succ, List.getD_eq_getElem?_getD, List.getElem?_drop,
      List.getD_eq_getElem?_getD]
  · refine (tillPuts_till s a x (requestItem f)).trans ?_
    rw [hwords, Nat.add_assoc]
  · change (s.tillPuts a x (requestItem f)).net.incoming ++ [(s.tillPuts a x (requestItem f)).requestNote f a] = _
    rw [hframe]
    rfl
  · exact congrArg (fun w : State => { w with net.incoming := t.net.incoming }) hframe
end

end Sys2Proof.Machine
end

section
/-! SUPPORT. What becomes of a REPLY that is taken (R322, R323, R326). -/
namespace Sys2Proof.Machine

/-- The body is not one of a REPLY. -/
def replyBad (f : Frame) : Bool :=
  decide (f.body.length ≠ 8 * (1 + hLength ((words64 f.body).headD 0))) || hKind ((words64 f.body).headD 0) != 1 ||
    hService ((words64 f.body).headD 0) != 0 || hReplyMax ((words64 f.body).headD 0) != 0

theorem replyBad_eq_true {f : Frame} (h : f.body.length ≠ 8 * (1 + hLength ((words64 f.body).headD 0)) ∨
    hKind ((words64 f.body).headD 0) ≠ 1 ∨ hService ((words64 f.body).headD 0) ≠ 0 ∨ hReplyMax ((words64 f.body).headD 0) ≠ 0) :
    replyBad f = true := by
  simpa [replyBad, or_assoc] using h

theorem replyBad_eq_false {f : Frame} (hlen : f.body.length = 8 * (1 + hLength ((words64 f.body).headD 0)))
    (hkind : hKind ((words64 f.body).headD 0) = 1) (hservice : hService ((words64 f.body).headD 0) = 0)
    (hmax : hReplyMax ((words64 f.body).headD 0) = 0) : replyBad f = false := by
  rw [replyBad, hkind, hservice, hmax, decide_eq_false (not_not.mpr hlen)]
  rfl

/-- The number of the tag that a reply names. -/
def replyTag (f : Frame) : Nat := hRef ((words64 f.body).headD 0) % 4096

/-- The tag that a reply names is in flight or backs off, towards the sender and under this generation. -/
def State.replyLive (s : State) (f : Frame) : Prop :=
  let x := s.tag (replyTag f)
  x.st ≠ 0 ∧ x.st ≠ 3 ∧ x.peer = f.source.toNat ∧ x.inst = f.inst.toNat ∧
    (s.peerVersion f.source.toNat = 1 ∨ hRef ((words64 f.body).headD 0) / 4096 = x.gen)

/-- The test of R326 for a stale reply. -/
def State.replyStale (s : State) (f : Frame) : Bool :=
  let x := s.tag (replyTag f)
  x.st == 0 || x.st == 3 || x.peer != f.source.toNat || x.inst != f.inst.toNat ||
    (s.peerVersion f.source.toNat != 1 && hRef ((words64 f.body).headD 0) / 4096 != x.gen)

theorem replyStale_eq_false {s : State} {f : Frame} (h : s.replyLive f) : s.replyStale f = false := by
  simpa [State.replyLive, State.replyStale, and_assoc, or_iff_not_imp_left] using h

theorem replyStale_eq_true {s : State} {f : Frame} (h : ¬s.replyLive f) : s.replyStale f = true := by
  by_contra hs
  exact h (by simpa [State.replyLive, State.replyStale, and_assoc, or_iff_not_imp_left] using hs)

section
variable {s u : State} {f : Frame}

theorem replyIn_untaken (h : s.receive f nkReply (replyBad f) = (false, u)) : s.replyIn f = u := by
  unfold replyBad at h
  unfold State.replyIn
  simp only [h, Bool.not_false, if_true]

theorem replyIn_taken (h : s.receive f nkReply (replyBad f) = (true, u)) : s.replyIn f =
    if u.replyStale f = true then u.bump F.NET_DROPS_0_STALE_REPLY
    else if hReplyMax ((u.tag (replyTag f)).item.headD 0) < hLength ((words64 f.body).headD 0) then
      u.bump F.NET_DROPS_1_MALFORMED
    else if hLow ((words64 f.body).headD 0) = 1 then
      u.setTag (replyTag f) { u.tag (replyTag f) with st := 2, busyAt := u.tick }
    else (u.freeTagNow (replyTag f)).complete (u.tag (replyTag f)).account (u.tag (replyTag f)).item f.source.toNat
      (hAccount ((words64 f.body).headD 0)) (hLow ((words64 f.body).headD 0)) (words64 f.body).tail := by
  unfold replyBad at h
  unfold State.replyIn
  simp only [h, Bool.not_true, Bool.false_eq_true, if_false]
  rfl
end

/-! ### A tag that becomes free -/

theorem freeTagNow_tag (s : State) (tag : Nat) :
    (s.freeTagNow tag).tag tag = { Tag.init with gen := (s.tag tag).gen, freeAt := s.net.freeSeq + 1 } :=
  nget_nset_same _ _ _ _

theorem netFrame_freeTagNow (s : State) (tag : Nat) (ws : List Nat) : s.NetFrame ws (s.freeTagNow tag) := ⟨rfl, fun _ _ => rfl⟩

end Sys2Proof.Machine
end

section
/-! PROOF. Request transactions (O52). -/
namespace Sys2Proof.Machine

/-! ### A completion (R93, R323) -/

/-- The completion stands at the write position of the reply till, and its reservation is given back. -/
def State.Completed (s : State) (a rt : Nat) (item : List W64) (peer status : Nat) (t : State) : Prop :=
  nget 0 t.tillMem (s.tillPos a rt (s.till a rt).wr) =
    mkHeader 1 peer 0 (hService (item.headD 0)) 0 0 (hRef (item.headD 0)) status ∧
  t.till a rt = { s.till a rt with
    wr := (s.till a rt).wr + 1, reserved := (s.till a rt).reserved - (1 + hReplyMax (item.headD 0)) }

theorem replyTill_size {s : State} {a rt : Nat} (h : s.replyTill a = some rt) : 0 < s.tillSize a rt := by
  have := List.find?_some h
  simp only [Bool.and_eq_true, bne_iff_ne] at this
  exact Nat.pos_of_ne_zero this.1

theorem completed_complete {s : State} {a rt : Nat} (h : s.replyTill a = some rt) (item : List W64) (peer status : Nat) :
    s.Completed a rt item peer status (s.complete a item peer 0 status []) := by
  have hrt : (s.replyTill a).getD 0 = rt := by rw [h]; rfl
  have hhead := complete_header s a item peer 0 status [] (by rw [hrt]; exact replyTill_size h)
  have htill := complete_till s a item peer 0 status []
  rw [hrt] at hhead htill
  exact ⟨hhead, htill⟩

/-- What a completion after a change of the network leaves. -/
theorem complete_spec {s : State} {a rt : Nat} (h : s.replyTill a = some rt) (net : Net) (item : List W64) (peer status : Nat) :
    let t := State.complete { s with net := net } a item peer 0 status []
    s.Completed a rt item peer status t ∧ t.net = net ∧ s.NetFrame (complWords a ++ eventWords) t ∧
    (∀ g : Fld, t.fld g a = (s.bump (complFld status) a).fld g a) :=
  ⟨completed_complete (s := { s with net := net }) h item peer status, complete_net _ _ _ _ _ _ _,
    (netFrame_update _ s _ net _ _ _).trans ((netFrame_complete _ _ _ _ _ _ _).mono (List.subset_append_left _ _)),
    fun g => complete_fld { s with net := net } a item peer 0 status [] a g⟩

theorem tagTimeout_early {s : State} {a i : Nat}
    (h : (s.queue a)[i]?.all (fun q => q.admitted.all fun x => decide (s.tick < x + s.reqT (q.item.headD 0))) = true) :
    s.tagTimeout a i = s := by
  unfold State.tagTimeout
  cases hq : (s.queue a)[i]? with
  | none => rfl
  | some q =>
    rw [hq, Option.all_some] at h
    exact if_pos h

theorem tagTimeout_due {s : State} {a i : Nat} {q : QItem} (hq : (s.queue a)[i]? = some q)
    (h : q.admitted.any (fun x => decide (x + s.reqT (q.item.headD 0) ≤ s.tick)) = true) : s.tagTimeout a i =
    (s.setQueue a ((s.queue a).eraseIdx i)).complete a q.item (hPeer (q.item.headD 0)) 0 0x04 [] := by
  have hall : ¬(q.admitted.all fun t => decide (s.tick < t + s.reqT (q.item.headD 0))) = true := by
    cases hadm : q.admitted <;> simp_all
  unfold State.tagTimeout
  rw [hq]
  exact if_neg hall

/-- The counters TIMEOUT and BUSY where the deadline of a tag passes: in flight it counts TIMEOUT, backing off BUSY. -/
theorem deadline_counts (s : State) (a : Nat) {st : Nat} (hst : st = 1 ∨ st = 2) :
    let u := s.bump (complFld (if st = 1 then 0x0D else 0x01)) a
    u.fld F.NET_COMPL_0_TIMEOUT a =
      (if st = 1 then min (s.fld F.NET_COMPL_0_TIMEOUT a + 1) 0xFFFF else s.fld F.NET_COMPL_0_TIMEOUT a) ∧
    u.fld F.NET_COMPL_1_BUSY a =
      (if st = 2 then min (s.fld F.NET_COMPL_1_BUSY a + 1) 0xFFFF else s.fld F.NET_COMPL_1_BUSY a) := by
  rcases hst with rfl | rfl
  · exact ⟨fld_bump_same s F.NET_COMPL_0_TIMEOUT a 0 1 (by decide) (by decide),
      fld_setFld_ne s (e := F.NET_COMPL_0_TIMEOUT) _ (by simp only [Reg.addr]; omega)⟩
  · exact ⟨fld_setFld_ne s (e := F.NET_COMPL_1_BUSY) _ (by simp only [Reg.addr]; omega),
      fld_bump_same s F.NET_COMPL_1_BUSY a 0 1 (by decide) (by decide)⟩

/-! ### O52 -/

section
variable {s : State} {f : Frame}

/-- The judgement of a request does not depend on the counts of the receipt. -/
theorem requestVerdict_receipt {a : Nat} (ha : a < 8) : (s.receipt f).requestVerdict f a = s.requestVerdict f a := by
  unfold State.requestVerdict State.serviceTill
  simp only [receipt_findTill, receipt_acctState s f ha, receipt_tillSize, receipt_tillFree]
  rfl

/-- A REQUEST that is received and taken. -/
theorem requestIn_open {a : Nat} (h : s.takes f nkRequest) (hlen : f.body.length = 8 * (2 + hLength ((words64 f.body).headD 0)))
    (hkind : hKind ((words64 f.body).headD 0) = 0) (hmax : hLength ((words64 f.body).headD 0) ≤ 1024) (ha : a < 8) :
    s.requestIn f a = if s.requestVerdict f a = 256 then s.receipt f
      else if s.requestVerdict f a = 0 then (s.receipt f).enterRequest f a
      else if s.requestVerdict f a = 2 then
        ((s.receipt f).tooBig a (((s.receipt f).serviceTill f a).getD 0) (1 + hLength ((words64 f.body).headD 0))).answer f a 2
      else (s.receipt f).answer f a (s.requestVerdict f a) := by
  rw [requestIn_taken a (by rw [requestBad_eq_false hlen hkind hmax]; exact receive_taken (.inl rfl) h), requestVerdict_receipt ha]

/-- A judgement that names the till's size. -/
theorem tillSize_of_verdict {a : Nat} :
    (s.requestVerdict f a = 2 → s.tillSize a ((s.serviceTill f a).getD 0) < 1 + hLength ((words64 f.body).headD 0)) ∧
    (s.requestVerdict f a = 0 → 1 + hLength ((words64 f.body).headD 0) ≤ s.tillSize a ((s.serviceTill f a).getD 0)) := by
  unfold State.requestVerdict
  dsimp only
  split_ifs <;> simp_all

/-- The obligation's judgement of a request, which compares the time left as a word. -/
theorem requestVerdict_word (s : State) (f : Frame) (a : Nat) : s.requestVerdict f a =
    let h := (words64 f.body).headD 0
    let till := s.findTill a true ekNetIn (hService h)
    if (s.net.incoming.any fun r => r.source == f.source.toNat && r.inst == f.inst.toNat && r.handle == hRef h) then 256
    else if s.acctState a = aAbsent ∨ till.isNone ∨ versionLimit f.version.toNat < hReplyMax h ∨ (words64 f.body).getD 1 0 = 0 then 9
    else if s.acctState a ≠ aRunning then 1
    else if s.tillSize a (till.getD 0) < 1 + hLength h then 2
    else if s.tillFree a (till.getD 0) < 1 + hLength h ∨ 4096 ≤ s.net.incoming.length then 1
    else 0 := by
  have hz : ((words64 f.body).getD 1 0).toNat = 0 ↔ (words64 f.body).getD 1 0 = 0 := 
    ⟨fun h => BitVec.eq_of_toNat_eq h, fun h => by rw [h]; rfl⟩
  unfold State.requestVerdict
  simp only [hz]

/-- What a REQUEST leaves behind, by its judgement. -/
theorem requestIn_spec {a : Nat} (h : s.takes f nkRequest) (hlen : f.body.length = 8 * (2 + hLength ((words64 f.body).headD 0)))
    (hkind : hKind ((words64 f.body).headD 0) = 0) (hmax : hLength ((words64 f.body).headD 0) ≤ 1024) (ha : a < 8) :
    let t := s.requestIn f a
    let verdict := s.requestVerdict f a
    (verdict = 256 → t = s.receipt f) ∧
    ((verdict = 1 ∨ verdict = 2 ∨ verdict = 9) → s.RequestAnswered f a verdict t) ∧
    (verdict = 2 → t.fld F.ACCT_COUNTS_TOOBIG a = min (s.fld F.ACCT_COUNTS_TOOBIG a + 1) 0xFFFF) ∧
    (verdict = 0 → t = (s.receipt f).enterRequest f a) := by
  intro t verdict
  have ht : t = _ := requestIn_open h hlen hkind hmax ha
  have hbig : verdict = 2 → t = ((s.receipt f).tooBig a (((s.receipt f).serviceTill f a).getD 0)
      (1 + hLength ((words64 f.body).headD 0))).answer f a 2 := fun h2 => by
    rw [ht, if_neg (by omega), if_neg (by omega), if_pos h2]
  have hsize : verdict = 2 → (s.receipt f).tillSize a (((s.receipt f).serviceTill f a).getD 0) <
      1 + hLength ((words64 f.body).headD 0) := fun h2 => by
    rw [receipt_tillSize, State.serviceTill, receipt_findTill]
    exact tillSize_of_verdict.1 h2
  refine ⟨fun h256 => ht.trans (if_pos h256), fun hans => ?_, fun h2 => ?_, fun h0 => ?_⟩
  · by_cases h2 : verdict = 2
    · rw [hbig h2, h2]
      exact (answered_tooBig ha (hsize h2)).1
    · rw [ht, if_neg (by omega), if_neg (by omega), if_neg h2]
      exact answered_receipt verdict
  · rw [hbig h2]
    exact (answered_tooBig ha (hsize h2)).2
  · rw [ht, if_neg (by omega), if_pos h0]

/-- A REQUEST that is taken into its till. -/
theorem enterRequest_receipt {a : Nat} (hlen : f.body.length = 8 * (2 + hLength ((words64 f.body).headD 0)))
    (hfit : 1 + hLength ((words64 f.body).headD 0) ≤ s.tillSize a ((s.serviceTill f a).getD 0)) :
    let h := (words64 f.body).headD 0
    let x := (s.serviceTill f a).getD 0
    let t := (s.receipt f).enterRequest f a
    nget 0 t.tillMem (s.tillPos a x (s.till a x).wr) =
      mkHeader 0 f.source.toNat (hAccount h) (hService h) (hLength h) (hReplyMax h) (hRef h) 0 ∧
    (∀ i < hLength h, nget 0 t.tillMem (s.tillPos a x ((s.till a x).wr + 1 + i)) = (words64 f.body).getD (2 + i) 0) ∧
    t.till a x = { s.till a x with wr := (s.till a x).wr + 1 + hLength h } ∧
    t.net.incoming = s.net.incoming ++ [s.requestNote f a] ∧
    t = { s with regs := t.regs, net := { s.net with seen := t.net.seen, incoming := t.net.incoming }, tills := t.tills,
                 tillMem := t.tillMem } ∧ s.Keeps [R.PORT_RX.addr f.port.val 0] t := by
  intro h x t
  have hx : ((s.receipt f).serviceTill f a).getD 0 = x := by rw [State.serviceTill, receipt_findTill]
  obtain ⟨hhead, hwords, htill, hin, hframe⟩ := enterRequest_spec (s := s.receipt f) hlen
    (by rw [receipt_tillSize, State.serviceTill, receipt_findTill]; exact hfit)
  rw [hx] at hhead hwords htill
  simp only [receipt_tillPos] at hhead hwords
  refine ⟨hhead, hwords, htill, hin, ?_, fun y hy => ?_⟩
  · have hregs : t.regs = (s.receipt f).regs := (congrArg State.regs hframe :)
    have hseen : t.net.seen = (s.receipt f).net.seen := (congrArg (fun w : State => w.net.seen) hframe :)
    rw [hregs, hseen]
    exact hframe
  · exact (congrArg (fun w : State => w.word y) hframe).trans (receipt_keeps s f y hy)


/-! ### A REPLY that is taken -/

theorem receipt_tag (s : State) (f : Frame) (n : Nat) : (s.receipt f).tag n = s.tag n := rfl
theorem receipt_replyStale (s : State) (f : Frame) : (s.receipt f).replyStale f = s.replyStale f := rfl
theorem receipt_tick (s : State) (f : Frame) : (s.receipt f).tick = s.tick := rfl

section
variable (h : s.takes f nkReply) (hlen : f.body.length = 8 * (1 + hLength ((words64 f.body).headD 0)))
  (hkind : hKind ((words64 f.body).headD 0) = 1) (hservice : hService ((words64 f.body).headD 0) = 0)
  (hmax : hReplyMax ((words64 f.body).headD 0) = 0)
include h hlen hkind hservice hmax

theorem replyIn_open : s.replyIn f =
    if s.replyStale f = true then (s.receipt f).bump F.NET_DROPS_0_STALE_REPLY
    else if hReplyMax ((s.tag (replyTag f)).item.headD 0) < hLength ((words64 f.body).headD 0) then
      (s.receipt f).bump F.NET_DROPS_1_MALFORMED
    else if hLow ((words64 f.body).headD 0) = 1 then
      (s.receipt f).setTag (replyTag f) { s.tag (replyTag f) with st := 2, busyAt := s.tick }
    else ((s.receipt f).freeTagNow (replyTag f)).complete (s.tag (replyTag f)).account (s.tag (replyTag f)).item f.source.toNat
      (hAccount ((words64 f.body).headD 0)) (hLow ((words64 f.body).headD 0)) (words64 f.body).tail := by
  have ht := replyIn_taken (u := s.receipt f) (f := f) (s := s)
    (by rw [replyBad_eq_false hlen hkind hservice hmax]; exact receive_taken (.inr rfl) h)
  rw [receipt_tag, receipt_replyStale, receipt_tick] at ht
  exact ht

theorem replyIn_stale (hl : ¬s.replyLive f) : s.replyIn f = (s.receipt f).bump F.NET_DROPS_0_STALE_REPLY :=
  (replyIn_open h hlen hkind hservice hmax).trans (if_pos (replyStale_eq_true hl))

/-- A REPLY with more words than its request has reserved. -/
theorem replyIn_long (hl : s.replyLive f)
    (hlong : hReplyMax ((s.tag (replyTag f)).item.headD 0) < hLength ((words64 f.body).headD 0)) :
    s.replyIn f = (s.receipt f).bump F.NET_DROPS_1_MALFORMED := by
  rw [replyIn_open h hlen hkind hservice hmax, replyStale_eq_false hl, if_neg Bool.false_ne_true, if_pos hlong]

/-- A REPLY with the status BUSY. -/
theorem replyIn_busy (hl : s.replyLive f)
    (hfit : hLength ((words64 f.body).headD 0) ≤ hReplyMax ((s.tag (replyTag f)).item.headD 0))
    (hbusy : hLow ((words64 f.body).headD 0) = 1) :
    s.replyIn f = (s.receipt f).setTag (replyTag f) { s.tag (replyTag f) with st := 2, busyAt := s.tick } := by
  rw [replyIn_open h hlen hkind hservice hmax, replyStale_eq_false hl, if_neg Bool.false_ne_true, if_neg (not_lt.mpr hfit),
    if_pos hbusy]

/-- A REPLY that completes its request. -/
theorem replyIn_done (hl : s.replyLive f)
    (hfit : hLength ((words64 f.body).headD 0) ≤ hReplyMax ((s.tag (replyTag f)).item.headD 0))
    (hbusy : hLow ((words64 f.body).headD 0) ≠ 1) :
    s.replyIn f = ((s.receipt f).freeTagNow (replyTag f)).complete (s.tag (replyTag f)).account (s.tag (replyTag f)).item
      f.source.toNat (hAccount ((words64 f.body).headD 0)) (hLow ((words64 f.body).headD 0)) (words64 f.body).tail := by
  rw [replyIn_open h hlen hkind hservice hmax, replyStale_eq_false hl, if_neg Bool.false_ne_true, if_neg (not_lt.mpr hfit),
    if_neg hbusy]

/-- Neither the image nor what is sent is touched by a REPLY. -/
theorem replyIn_image_out : (s.replyIn f).image = s.image ∧ (s.replyIn f).out = s.out := by
  rw [replyIn_open h hlen hkind hservice hmax]
  split
  · exact ⟨State.bump_image _ _ _ _ _, State.bump_out _ _ _ _ _⟩
  · split
    · exact ⟨State.bump_image _ _ _ _ _, State.bump_out _ _ _ _ _⟩
    · split
      · exact ⟨rfl, rfl⟩
      · exact ⟨complete_image _ _ _ _ _ _ _, complete_out _ _ _ _ _ _ _⟩
end

/-- The completion that a REPLY brings. -/
theorem replyComplete_spec (hlen : f.body.length = 8 * (1 + hLength ((words64 f.body).headD 0))) :
    let h := (words64 f.body).headD 0
    let x := s.tag (replyTag f)
    let rt := (s.replyTill x.account).getD 0
    let t := ((s.receipt f).freeTagNow (replyTag f)).complete x.account x.item f.source.toNat (hAccount h) (hLow h)
      (words64 f.body).tail
    (t.tag (replyTag f)).st = 0 ∧ (t.tag (replyTag f)).gen = x.gen ∧
    nget 0 t.tillMem (s.tillPos x.account rt (s.till x.account rt).wr + 0) = (if hLength h < s.tillSize x.account rt then
      mkHeader 1 f.source.toNat (hAccount h) (hService (x.item.headD 0)) (hLength h) 0 (hRef (x.item.headD 0)) (hLow h)
      else nget 0 t.tillMem (s.tillPos x.account rt (s.till x.account rt).wr)) ∧
    t.till x.account rt = { s.till x.account rt with
      wr := (s.till x.account rt).wr + 1 + hLength h
      reserved := (s.till x.account rt).reserved - (1 + hReplyMax (x.item.headD 0)) } ∧
    s.NetFrame ([R.PORT_RX.addr f.port.val 0] ++ complWords x.account ++ eventWords) t := by
  intro h x rt t
  have hwords : (words64 f.body).tail.length = hLength h := by
    rw [List.length_tail, length_words64, hlen, Nat.mul_div_cancel_left _ (by decide), Nat.add_sub_cancel_left]
  have hrt : (((s.receipt f).freeTagNow (replyTag f)).replyTill x.account).getD 0 = rt :=
    congrArg (fun o : Option Nat => o.getD 0) (receipt_replyTill s f x.account)
  have htag : t.tag (replyTag f) = { Tag.init with gen := x.gen, freeAt := s.net.freeSeq + 1 } := by
    rw [State.tag, complete_net]
    exact freeTagNow_tag _ _
  have htill := complete_till ((s.receipt f).freeTagNow (replyTag f)) x.account x.item f.source.toNat (hAccount h) (hLow h)
    (words64 f.body).tail
  have hhead := complete_header ((s.receipt f).freeTagNow (replyTag f)) x.account x.item f.source.toNat (hAccount h) (hLow h)
    (words64 f.body).tail
  rw [hrt, hwords] at htill hhead
  rw [Nat.add_comm (hLength h) 1, ← Nat.add_assoc] at htill
  refine ⟨by rw [htag], by rw [htag], ?_, ?_, ?_⟩
  · rw [Nat.add_zero]
    split
    next hfit =>
      have := hhead ((receipt_tillSize s f _ _).symm ▸ hfit)
      rw [show ((s.receipt f).freeTagNow (replyTag f)).tillPos x.account rt = (s.receipt f).tillPos x.account rt from rfl,
        receipt_tillPos] at this
      exact this
    next => rfl
  · exact htill
  · refine ((netFrame_receipt s f).mono ?_).trans ((netFrame_freeTagNow _ _ _).trans ((netFrame_complete _ _ _ _ _ _ _).mono ?_))
    · exact fun y hy => by simp [List.mem_singleton.mp hy]
    · exact fun y hy => by simp [hy]

end

end Sys2Proof.Machine
end

section
/-! PROOF. Request transactions (O52). -/
namespace Sys2Proof.Machine

/-- A tag that backs off is sent again with the time that is left. -/
theorem tagRetry_due {s : State} {tag : Nat}
    (h : (s.tag tag).st = 2 ∧ (s.tag tag).busyAt + s.fld F.NET_TIMING_RETRY_US ≤ s.tick ∧ s.tick < (s.tag tag).deadline) :
    let x := s.tag tag
    let t := s.tagRetry tag
    t.tag tag = { x with st := 1 } ∧
    (t.out.drop s.out.length).map (fun f => (f.kind, f.flags, f.dst, leAt f.body 8 8)) =
      [(nkRequest, 1, x.peer, (x.deadline - s.tick) % 2 ^ 64)] ∧
    s.NetFrame (txWords ++ eventWords) t ∧ t.tillMem = s.tillMem ∧ t.tills = s.tills := by
  intro x t
  have ht : t = (s.setTag tag { x with st := 1 }).sendRequest tag (x.deadline - s.tick) true := if_pos h
  obtain ⟨ports, inst, seqNr, acct, hsent⟩ := sendRequest_out (s.setTag tag { x with st := 1 }) tag (x.deadline - s.tick) true
  rw [State.setTag_tag_same] at hsent
  have hdrop := congrArg (List.drop s.out.length) hsent
  rw [State.setTag_out, List.drop_left] at hdrop
  rw [ht]
  refine ⟨?_, ?_, ?_, netSend_tillMem _ _ _ _ _ _ _ _, netSend_tills _ _ _ _ _ _ _ _⟩
  · exact (netSend_tag _ _ _ _ _ _ _ _ _).trans (State.setTag_tag_same _ _ _)
  · rw [hdrop, List.map_singleton, leAt_second, BitVec.toNat_ofNat]
    rfl
  · exact (netFrame_update _ s _ _ _ _ _).trans ((netFrame_sendRequest _ _ _ _).mono (List.subset_append_left _ _))

/-- Settles O52: a case per command and outcome. Frames are sent by netSend, a completion is written by complete, and a frame that is
taken leaves State.receipt. -/
theorem requestTransactions : Obligations.RequestTransactions := by
  refine ⟨?grantNone, ?grant, ?noTagYet, ?noTag, ?noDeadline, ?deadline, ?retry, ?quarantine, ?noQuarantine, ?request, ?requestBad,
    ?requestForeign, ?requestShut, ?requestMalformed, ?reply, ?replyBad, ?replyForeign, ?replyMalformed, ?replyShut, ?expire⟩
  case grantNone => exact fun s a peer h => ⟨_, rfl, tagGrant_none h⟩
  case grant =>
    intro s a peer q rest tag hmay hq ht
    obtain ⟨hqueue, htag, hout, hframe, hmem, htills⟩ := tagSent_spec s a.val peer.toNat tag q rest
    obtain ⟨ports, inst, seqNr, acct, hsent⟩ := sendRequest_out
      ((s.setQueue a.val rest).setTag tag (s.tagFor a.val peer.toNat tag q)) tag (s.reqT (q.item.headD 0)) false
    rw [State.setTag_tag_same] at hsent
    have hdrop := congrArg (List.drop s.out.length) (hout.trans hsent)
    rw [State.setTag_out, State.setQueue_out, List.drop_left] at hdrop
    refine yields_next rfl (tagGrant_some hmay hq ht) ⟨hqueue, htag, ?_, ?_, hframe, hmem, htills⟩
    · rw [hdrop]
      rfl
    · rw [hdrop]
      rfl
  case noTagYet => exact fun s a i h => ⟨_, rfl, tagTimeout_early h⟩
  case noTag =>
    intro s a i q rt hq hany hrt
    obtain ⟨hdone, hnet, hframe, hfld⟩ := complete_spec hrt (s.setQueue a.val ((s.queue a.val).eraseIdx i)).net q.item
      (hPeer (q.item.headD 0)) 0x04
    refine yields_next rfl (tagTimeout_due hq hany) ⟨?_, hdone, ?_, hframe, ?_⟩
    · exact (congrArg (fun n : Net => nget [] n.queues a.val) hnet).trans (State.setQueue_queue_same _ _ _)
    · exact (hfld _).trans (fld_bump_same _ _ _ _ _ (by decide) (by decide))
    · exact hnet.trans (congrArg (fun n : Net => { s.net with queues := n.queues }) hnet.symm)
  case noDeadline =>
    intro s tag h
    refine ⟨_, rfl, if_neg ?_⟩
    omega
  case deadline =>
    intro s tag rt hst hdue hacct hrt
    obtain ⟨hdone, hnet, hframe, hfld⟩ := complete_spec hrt (s.setTag tag.val { s.tag tag.val with st := 3 }).net
      (s.tag tag.val).item (s.tag tag.val).peer (if (s.tag tag.val).st = 1 then 0x0D else 0x01)
    obtain ⟨htimeout, hbusy⟩ := deadline_counts s (s.tag tag.val).account hst
    refine yields_next rfl (if_pos ⟨hst, hdue⟩) ⟨?_, hdone, (hfld _).trans htimeout, (hfld _).trans hbusy, hframe, ?_⟩
    · exact (congrArg (fun n : Net => nget Tag.init n.tags tag.val) hnet).trans (State.setTag_tag_same _ _ _)
    · exact hnet.trans (congrArg (fun n : Net => { s.net with tags := n.tags }) hnet.symm)
  case retry => exact fun s tag => ⟨_, rfl, fun h => if_neg h, tagRetry_due⟩
  case quarantine =>
    intro s tag hst hdue
    refine yields_next rfl (if_pos ⟨hst, hdue⟩) ⟨?_, ?_, ?_, rfl⟩
    · rw [freeTagNow_tag]
    · rw [freeTagNow_tag]
    · rw [freeTagNow_tag]
  case noQuarantine =>
    intro s tag h
    refine ⟨_, rfl, if_neg ?_⟩
    omega
  case request =>
    intro s f acct hopen hlen hkind hmax
    obtain ⟨hknown, hans, hbig, htaken⟩ := requestIn_spec hopen hlen hkind hmax acct.isLt
    have hv := requestVerdict_word s f acct.val
    rw [hv] at hknown hans hbig htaken
    refine ⟨_, rfl, fun h256 => ?_, hans, hbig, fun h0 => ?_⟩
    · rw [hknown h256]
      exact ⟨receipt_frame s f, receipt_keeps s f⟩
    · rw [htaken h0]
      exact enterRequest_receipt hlen (tillSize_of_verdict.2 (hv.trans h0))
  case requestBad =>
    intro s f acct hopen hbad
    obtain ⟨hfrom, hown, -⟩ := hopen
    refine yields_next rfl (requestIn_untaken _ (receive_dropped hfrom (.inl hown) (by rw [requestBad_eq_true hbad]; simp))) ?_
    exact ⟨dropCounted_malformed s f, dropMalformed_net _ _⟩
  case requestForeign => exact fun s f acct hup hfcs hown => ⟨_, rfl, requestIn_untaken _ (receive_foreign (.inl rfl) hup hfcs hown _)⟩
  case requestShut => exact fun s f acct hp h => ⟨_, rfl, requestIn_untaken _ (receive_shut hp h _)⟩
  case requestMalformed =>
    intro s f acct hup hown hbad
    exact yields_next rfl (requestIn_untaken _ (receive_dropped hup hown (by rw [hbad]; rfl))) (dropCounted_malformed s f)
  case reply =>
    intro s f hopen hlen hkind hservice hmax
    refine ⟨_, rfl, fun hl => ?_, fun hl hlong => ?_, fun hl hfit hbusy => ?_, fun hl hfit hbusy _ => ?_,
      replyIn_image_out hopen hlen hkind hservice hmax⟩
    · rw [replyIn_stale hopen hlen hkind hservice hmax hl]
      exact ⟨dropCounted_receipt s f (.inl rfl), rfl, rfl⟩
    · rw [replyIn_long hopen hlen hkind hservice hmax hl hlong]
      exact dropCounted_receipt s f (.inr rfl)
    · rw [replyIn_busy hopen hlen hkind hservice hmax hl hfit hbusy]
      exact ⟨State.setTag_tag_same _ _ _, rfl, receipt_keeps s f⟩
    · rw [replyIn_done hopen hlen hkind hservice hmax hl hfit hbusy]
      exact replyComplete_spec hlen
  case replyBad =>
    intro s f hopen hbad
    obtain ⟨hfrom, hown, -⟩ := hopen
    refine yields_next rfl (replyIn_untaken (receive_dropped hfrom (.inl hown) (by rw [replyBad_eq_true hbad]; simp))) ?_
    exact ⟨dropCounted_malformed s f, dropMalformed_net _ _⟩
  case replyForeign => exact fun s f hup hfcs hown => ⟨_, rfl, replyIn_untaken (receive_foreign (.inr rfl) hup hfcs hown _)⟩
  case replyMalformed =>
    intro s f hup hown hbad
    exact yields_next rfl (replyIn_untaken (receive_dropped hup hown (by rw [hbad]; rfl))) (dropCounted_malformed s f)
  case replyShut => exact fun s f hp h => ⟨_, rfl, replyIn_untaken (receive_shut hp h _)⟩
  case expire => exact fun s a h => ⟨_, rfl, rfl⟩

end Sys2Proof.Machine
end

section
/-! SUPPORT. What the completion of an account's reset leaves alone on its way (R86): the tick, the accounts' records, the account's
status word and that of the pair, the account's tills once they are empty, and that no HART channel holds a request of the account. -/
namespace Sys2Proof.Machine

/-- The words that show the state of account a and of the pair. -/
def stateWords (a : Nat) : List Nat := [R.ACCT_STATUS.addr a 0, R.PAIR_STATUS.base]

/-- t has the tick, the accounts' records and the state words of s, the tills of account a are empty, and no HART channel holds a
request of a. -/
structure State.ResetFrame (a : Nat) (s t : State) : Prop where
  tick : t.tick = s.tick
  accts : t.accts = s.accts
  word : ∀ x ∈ stateWords a, t.word x = s.word x
  till : ∀ k < 16, t.till a k = Till.init
  requests : ∀ g < 192, ∀ r ∈ (t.hartOf g).queue, r.account ≠ a

theorem not_stateWord {a x : Nat} (ha : a < 8) (h : 0x5000000 ≤ x) (hp : x ≠ 0xF00000C) : x ∉ stateWords a := by
  simp only [stateWords, Reg.addr, List.mem_cons, List.not_mem_nil, or_false]
  omega

/-- A property that every step of a fold keeps. -/
theorem keeps_fold_mem {P : State → Prop} {α : Type} {f : State → α → State} {l : List α} {t : State}
    (hf : ∀ u, ∀ x ∈ l, P u → P (f u x)) (h : P t) : P (foldState f l t) := by
  unfold foldState
  induction l generalizing t with
  | nil => exact h
  | cons x l ih => exact ih (fun u y hy => hf u y (List.mem_cons_of_mem x hy)) (hf t x List.mem_cons_self h)

namespace State.ResetFrame

section
variable {a : Nat} {s t : State} (h : s.ResetFrame a t)
include h

/-! ### Single updates -/

/-- An update of the rest of the state. -/
theorem same {u : State} (htick : u.tick = t.tick) (haccts : u.accts = t.accts) (hregs : u.regs = t.regs)
    (htills : u.tills = t.tills) (hhart : u.hart = t.hart) : s.ResetFrame a u where
  tick := htick.trans h.tick
  accts := haccts.trans h.accts
  word x hx := (word_of_regs hregs x).trans (h.word x hx)
  till k hk := (congrArg (fun m => nget Till.init m (16 * a + k)) htills).trans (h.till k hk)
  requests g hg r hr := h.requests g hg r (by rw [State.hartOf, hhart] at hr; exact hr)

theorem image (x : Image) : s.ResetFrame a { t with image := x } := h.same rfl rfl rfl rfl rfl

theorem setWord {x : Nat} (v : W32) (hx : x ∉ stateWords a) : s.ResetFrame a (t.setWord x v) where
  tick := h.tick
  accts := h.accts
  word y hy := (word_setWord_ne t v fun e => hx (by rw [← e]; exact hy)).trans (h.word y hy)
  till := h.till
  requests := h.requests

theorem setReg {r : Reg} {i j : Nat} (v : Nat) (hx : r.addr i j ∉ stateWords a) : s.ResetFrame a (t.setReg r v i j) :=
  h.setWord _ hx

theorem setHart {g : Nat} {x : HartCh} (hx : ∀ r ∈ x.queue, g < 192 → r.account ≠ a) : s.ResetFrame a (t.setHart g x) where
  tick := h.tick
  accts := h.accts
  word := h.word
  till := h.till
  requests k hk r hr := by
    by_cases e : k = g
    · subst e
      rw [State.setHart_hartOf_same] at hr
      exact hx r hr hk
    · rw [State.setHart_hartOf_ne _ _ e] at hr
      exact h.requests k hk r hr

/-- An update of a HART channel that keeps its requests. -/
theorem setHart_queue {g : Nat} {x : HartCh} (hx : x.queue = (t.hartOf g).queue) : s.ResetFrame a (t.setHart g x) :=
  h.setHart fun r hr hg => h.requests g hg r (hx ▸ hr)

theorem setTill {b k : Nat} (hb : b ≠ a) (hk : k < 16) (x : Till) : s.ResetFrame a (t.setTill b k x) where
  tick := h.tick
  accts := h.accts
  word := h.word
  till i hi := by
    have hne : 16 * a + i ≠ 16 * b + k := by omega
    exact (nget_nset_ne _ _ _ _ hne).trans (h.till i hi)
  requests := h.requests

theorem tillPut {b k : Nat} (hb : b ≠ a) (hk : k < 16) (v : W64) : s.ResetFrame a (t.tillPut b k v) := by
  have hu : s.ResetFrame a { t with tillMem := nset 0 t.tillMem (t.tillPos b k (t.till b k).wr) v } := h.same rfl rfl rfl rfl rfl
  exact hu.setTill hb hk _

theorem tillComplete {b k : Nat} (hb : b ≠ a) (hk : k < 16) (n : Nat) (ws : List W64) :
    s.ResetFrame a (t.tillComplete b k n ws) := by
  unfold State.tillComplete
  extract_lets u x
  have hu : s.ResetFrame a u := keeps_fold (fun _ w hu => hu.tillPut hb hk w) h
  exact hu.setTill hb hk _

variable (ha : a < 8)
include ha

theorem ev (code : Nat) (items : List Item) : s.ResetFrame a (t.ev code items) where
  tick := (State.ev_tick _ _ _).trans h.tick
  accts := (State.ev_accts _ _ _).trans h.accts
  word x hx := by
    have hn : x ∉ eventWords := by
      simp only [stateWords, Reg.addr, eventWords, List.mem_cons, List.not_mem_nil, or_false] at hx ⊢
      omega
    exact (ev_word t code items hn).trans (h.word x hx)
  till k hk := (congrArg (fun m => nget Till.init m (16 * a + k)) (State.ev_tills t code items)).trans (h.till k hk)
  requests g hg r hr := h.requests g hg r (by rw [State.hartOf, State.ev_hart] at hr; exact hr)

/-- A write to a register above those of accounts and tills, and away from the pair's status. -/
theorem setUnit {r : Reg} {i j : Nat} (v : Nat) (hb : 0x5000000 ≤ r.base) (hp : r.addr i j ≠ 0xF00000C) :
    s.ResetFrame a (t.setReg r v i j) :=
  h.setReg v (not_stateWord ha (le_trans hb (r.base_le_addr i j)) hp)
end

/-! ### HART channels -/

section
variable {a : Nat} {s t : State} (h : s.ResetFrame a t)
include h

theorem hNext (g : Nat) : s.ResetFrame a (t.hNext g) := by
  unfold State.hNext
  extract_lets x st own pick
  split
  · exact h
  · cases pick with
    | none => exact h
    | some u => exact h.setHart_queue rfl

theorem hReply {b : Nat} (hb : b ≠ a) (sl id cmd ch status : Nat) (data : List Byte) :
    s.ResetFrame a (t.hReply b sl id cmd ch status data) := by
  unfold State.hReply
  split
  · exact h
  next k hk => exact h.tillComplete hb (by simpa using List.mem_of_find?_eq_some hk) _ _

theorem hFlush {g : Nat} (hg : g < 192) (status : Nat) : s.ResetFrame a (t.hFlush g status) :=
  keeps_fold_mem (fun _ r hr hu => hu.hReply (h.requests g hg r hr) _ _ _ _ _ _) (h.setHart fun _ hr => absurd hr List.not_mem_nil)

variable (ha : a < 8)
include ha

theorem setHState {g : Nat} (hg : g < 192) (st : Nat) : s.ResetFrame a (t.setHState g st) := by
  refine ResetFrame.setUnit (ResetFrame.setUnit h ha _ (by decide) ?_) ha _ (by decide) ?_
  · simp only [Reg.addr]; omega
  · simp only [Reg.addr]; omega

theorem hCfgApply {g : Nat} (hg : g < 192) (v : Nat) : s.ResetFrame a (t.hCfgApply g v) := by
  unfold State.hCfgApply
  extract_lets was u now x w z
  have hu : s.ResetFrame a u := h.setUnit ha _ (by decide) (by simp only [Reg.addr]; omega)
  split
  · have hw : s.ResetFrame a w := hu.setHart_queue rfl
    exact hNext (hw.setHState ha hg _) g
  · split
    · have hz : s.ResetFrame a z := (hu.hFlush hg 6).setHState ha hg _
      exact hz.setHart_queue rfl
    · exact hu

theorem hZBaseApply {g : Nat} (hg : g < 192) (v : Nat) : s.ResetFrame a (t.hZBaseApply g v) :=
  (h.setUnit ha _ (by decide) (by simp only [Reg.addr]; omega)).setHart_queue rfl

end

/-! ### Items and conditions of channels -/

section
variable {a : Nat} {s t : State} (h : s.ResetFrame a t)
include h

theorem aItem (g i : Nat) (v stamp : W64) : s.ResetFrame a (t.aItem g i v stamp) := by
  unfold State.aItem State.aDeliver
  extract_lets link ch u
  refine ResetFrame.image (t := u) ?_ _
  unfold u
  split
  · exact h.same rfl rfl rfl rfl rfl
  · exact h

theorem aRequal (g : Nat) : s.ResetFrame a (t.aRequal g) :=
  keeps_fold (fun _ _ hu => keeps_ite hu (hu.image _)) h

theorem dItem (n i : Nat) (v stamp : W64) : s.ResetFrame a (t.dItem n i v stamp) := h.image _

theorem dItemOnce (n i : Nat) (v stamp : W64) : s.ResetFrame a (t.dItemOnce n i v stamp) := (h.image _).image _

theorem dRequal (n : Nat) : s.ResetFrame a (t.dRequal n) :=
  keeps_fold (fun _ _ hu => keeps_ite hu (hu.dItem _ _ _ _)) h

variable (ha : a < 8)
include ha

theorem setAStatus {g : Nat} (hg : g < 192) (new : Nat) : s.ResetFrame a (t.setAStatus g new) := by
  unfold State.setAStatus
  extract_lets old m sl was is s1 s2 s3 s4
  have h1 : s.ResetFrame a s1 := by
    refine ResetFrame.setUnit (ResetFrame.setUnit h ha _ (by decide) ?_) ha _ (by decide) ?_ <;> simp only [Reg.addr] <;> omega
  have h3 : s.ResetFrame a s3 := by
    refine ResetFrame.setUnit (ResetFrame.setUnit h1 ha _ (by decide) ?_) ha _ (by decide) ?_ <;> simp only [Reg.addr] <;> omega
  have h4 : s.ResetFrame a s4 := by
    refine keeps_ite (ResetFrame.ev (ResetFrame.setUnit h3 ha _ (by decide) ?_) ha _ _) (keeps_ite (h3.ev ha _ _) h3)
    simp only [Reg.addr]
    omega
  exact keeps_ite h (h4.aItem _ _ _ _)

theorem aStage {g : Nat} (hg : g < 192) : s.ResetFrame a (t.aStage g) := by
  unfold State.aStage
  extract_lets st u
  have hu : s.ResetFrame a u := by
    unfold u
    split
    · exact h.setAStatus ha hg _
    · exact h.setAStatus ha hg _
    · exact h
  exact keeps_ite h (hu.same rfl rfl rfl rfl rfl)

theorem aCfgApply {g : Nat} (hg : g < 192) (new : Nat) : s.ResetFrame a (t.aCfgApply g new) := by
  have hx : R.ACH_CFG.addr g 0 ≠ 0xF00000C := by simp only [Reg.addr]; omega
  unfold State.aCfgApply
  extract_lets cut u ch v x w z
  have hu : s.ResetFrame a u := (h.setAStatus ha hg _).setUnit ha _ (by decide) hx
  have hv : s.ResetFrame a v := hu.same rfl rfl rfl rfl rfl
  have hw : s.ResetFrame a w := hv.setHart_queue rfl
  have hz : s.ResetFrame a z := hw.aRequal g
  exact keeps_ite (h.setUnit ha _ (by decide) hx) (hz.aStage ha hg)

theorem aRateApply {g : Nat} (hg : g < 192) (new : Nat) : s.ResetFrame a (t.aRateApply g new) := by
  have hu : s.ResetFrame a (t.setReg R.ACH_RATE new g) := h.setUnit ha _ (by decide) (by simp only [Reg.addr]; omega)
  exact keeps_ite hu (hu.same rfl rfl rfl rfl rfl)

theorem setDConds {n : Nat} (hn : n < 320) (new : Nat) : s.ResetFrame a (t.setDConds n new) := by
  unfold State.setDConds
  extract_lets ch old m g was is s1 s2 s3 s4 s5
  have h1 : s.ResetFrame a s1 := h.same rfl rfl rfl rfl rfl
  have h2 : s.ResetFrame a s2 := by
    refine ResetFrame.setUnit (ResetFrame.setUnit h1 ha _ (by decide) ?_) ha _ (by decide) ?_ <;> simp only [Reg.addr] <;> omega
  have h4 : s.ResetFrame a s4 := by
    refine ResetFrame.setUnit (ResetFrame.setUnit h2 ha _ (by decide) ?_) ha _ (by decide) ?_ <;> simp only [Reg.addr] <;> omega
  have h5 : s.ResetFrame a s5 := by
    refine keeps_ite (ResetFrame.ev (ResetFrame.setUnit h4 ha _ (by decide) ?_) ha _ _) (keeps_ite (h4.ev ha _ _) h4)
    simp only [Reg.addr]
    omega
  exact keeps_ite h (keeps_ite h5 (h5.dItem _ _ _ _))

theorem dCond {n : Nat} (hn : n < 320) (b : Nat) (v : Bool) : s.ResetFrame a (t.dCond n b v) :=
  keeps_ite h ((h.setDConds ha hn _).dRequal n)

theorem dFsOne {n : Nat} (hn : n < 320) : s.ResetFrame a (t.dFsOne n) := h.dCond ha hn _ _

theorem dStage {n : Nat} (hn : n < 320) : s.ResetFrame a (t.dStage n) := by
  unfold State.dStage
  extract_lets u
  have hu : s.ResetFrame a u := keeps_ite h (h.setDConds ha hn _)
  exact keeps_ite h (hu.same rfl rfl rfl rfl rfl)

theorem dSettings {n : Nat} (hn : n < 320) : s.ResetFrame a (t.dSettings n) := by
  have hu : s.ResetFrame a (t.dFsOne n) := h.dFsOne ha hn
  exact keeps_ite (hu.dCond ha hn _ _) hu

theorem dReconfigure {n : Nat} (hn : n < 320) (kept : Nat) : s.ResetFrame a (t.dReconfigure n kept) := by
  unfold State.dReconfigure
  extract_lets ch u v w
  have hu : s.ResetFrame a u := h.same rfl rfl rfl rfl rfl
  have hv : s.ResetFrame a v := (hu.setDConds ha hn _).dRequal n
  have hw : s.ResetFrame a w := keeps_ite ((hv.dItemOnce _ _ _ _).dItemOnce _ _ _ _) hv
  exact (hw.dFsOne ha hn).dStage ha hn

theorem dCfgApply {n : Nat} (hn : n < 320) (new : Nat) : s.ResetFrame a (t.dCfgApply n new) := by
  rw [dCfgApply_eq]
  extract_lets u
  have hu : s.ResetFrame a u := h.setUnit ha _ (by decide) (by simp only [Reg.addr]; omega)
  exact keeps_ite (keeps_fold_mem (fun _ c hc hv => hv.dSettings ha (governed_lt hn hc)) hu)
    (keeps_fold_mem (fun _ c hc hv => hv.dReconfigure ha (governed_lt hn hc) _) hu)

/-! ### Registers of the account -/

/-- A register written anew, but for those that time bases share. -/
theorem putWord {r : Reg} {i j : Nat} (hi : i < r.n1) (hx : r.addr i j ∉ stateWords a) (hd : r ≠ R.DOM_CFG) (ht : r ≠ R.TIME_CFG)
    (v : Nat) : s.ResetFrame a (t.putWord r i j v) := by
  unfold State.putWord
  extract_lets m
  by_cases h1 : r = R.ACH_CFG
  · rw [if_pos h1]
    exact h.aCfgApply ha (by rw [h1] at hi; exact hi) m
  rw [if_neg h1]
  by_cases h2 : r = R.ACH_RATE
  · rw [if_pos h2]
    exact h.aRateApply ha (by rw [h2] at hi; exact hi) m
  rw [if_neg h2]
  by_cases h3 : r = R.HART_CFG
  · rw [if_pos h3]
    exact h.hCfgApply ha (by rw [h3] at hi; exact hi) m
  rw [if_neg h3]
  by_cases h4 : r = R.HART_Z_BASE
  · rw [if_pos h4]
    exact h.hZBaseApply ha (by rw [h4] at hi; exact hi) m
  rw [if_neg h4]
  by_cases h5 : r = R.DCH_CFG
  · rw [if_pos h5]
    exact h.dCfgApply ha (by rw [h5] at hi; exact hi) m
  rw [if_neg h5, if_neg hd, if_neg ht]
  exact keeps_ite (h.same rfl rfl rfl rfl rfl) (h.setReg m hx)

omit ha in
/-- The delivery to a slice and the entry in the journal. -/
theorem posted {u : State} (hp : t.Posted u) : s.ResetFrame a u :=
  h.same (by rw [hp]) (by rw [hp]) (by rw [hp]) (by rw [hp]) (by rw [hp])
end

end State.ResetFrame

end Sys2Proof.Machine
end

section
/-! PROOF. A completed account reset (O26). -/
namespace Sys2Proof.Machine

/-! ### Tills and HART requests of the account -/

/-- What every step of a fold brings about for its own element and keeps for the others holds for all of them in the end. -/
theorem fold_each {α : Type} {f : State → α → State} {Q : α → State → Prop} (hset : ∀ u x, Q x (f u x))
    (hkeep : ∀ u x y, Q y u → Q y (f u x)) (l : List α) (s : State) : ∀ x ∈ l, Q x (foldState f l s) := by
  induction l generalizing s with
  | nil => exact fun x hx => absurd hx List.not_mem_nil
  | cons y l ih =>
    intro x hx
    rcases List.mem_cons.mp hx with rfl | hx
    · exact keeps_fold (f := f) (l := l) (fun u z hu => hkeep u z x hu) (hset s x)
    · exact ih (f s y) x hx

theorem till_setTill_ne (s : State) (a : Nat) {k i : Nat} (x : Till) (h : k ≠ i) : (s.setTill a i x).till a k = s.till a k :=
  nget_nset_ne Till.init _ _ _ (by omega)

/-- The tills of account a at their initial positions. -/
def State.emptyTills (s : State) (a : Nat) : State := foldState (fun s t => s.setTill a t .init) (List.range 16) s

theorem emptyTills_till (s : State) (a : Nat) {k : Nat} (hk : k < 16) : (s.emptyTills a).till a k = .init := by
  refine fold_each (Q := fun k u => u.till a k = .init) (fun u k => till_setTill_same _ _ _ _) (fun u i k hu => ?_) _ s k
    (List.mem_range.mpr hk)
  by_cases e : k = i
  · rw [e]
    exact till_setTill_same _ _ _ _
  · exact (till_setTill_ne u a _ e).trans hu

/-- p reads nothing of the tills. -/
theorem emptyTills_other {β : Type} {p : State → β} (hp : ∀ (s : State) tills, p { s with tills := tills } = p s) (s : State) (a : Nat) :
    p (s.emptyTills a) = p s := fold_same (fun s _ => hp s _) _ s

theorem hNext_queue (s : State) (g j : Nat) : ((s.hNext g).hartOf j).queue = (s.hartOf j).queue := by
  unfold State.hNext
  extract_lets h st own pick
  split
  · rfl
  · cases pick with
    | none => rfl
    | some u =>
      dsimp only
      by_cases e : j = g
      · subst e
        rw [State.setHart_hartOf_same]
      · rw [State.setHart_hartOf_ne s _ e]

/-- p reads nothing of the HART channels. -/
theorem hNext_other {β : Type} {p : State → β} (hp : ∀ (s : State) hart, p { s with hart := hart } = p s) (s : State) (g : Nat) :
    p (s.hNext g) = p s := by
  unfold State.hNext
  extract_lets h st own pick
  split
  · rfl
  · cases pick with
    | none => rfl
    | some u => exact hp s _

theorem hForget_other {β : Type} {p : State → β} (hp : ∀ (s : State) hart, p { s with hart := hart } = p s) (s : State) (a g : Nat) :
    p (s.hForget a g) = p s := by
  unfold State.hForget
  extract_lets h cur
  split
  · rfl
  · exact (hNext_other hp _ g).trans (hp s _)

/-- Requests of the account leave the channel, and the others stay. -/
theorem hForget_queue (s : State) (a g j : Nat) : ((s.hForget a g).hartOf j).queue =
    if j = g then (s.hartOf j).queue.filter (·.account != a) else (s.hartOf j).queue := by
  unfold State.hForget
  extract_lets h cur
  by_cases hall : h.queue.all (·.account != a) = true
  · rw [if_pos hall]
    split
    next e =>
      subst e
      exact (List.filter_eq_self.mpr (List.all_eq_true.mp hall)).symm
    next => rfl
  · rw [if_neg hall, hNext_queue]
    split
    next e =>
      subst e
      exact congrArg HartCh.queue (State.setHart_hartOf_same s j _)
    next e => exact congrArg HartCh.queue (State.setHart_hartOf_ne s _ e)

/-- The HART channels without the account's requests. -/
def State.forgotten (s : State) (a : Nat) : State := foldState (fun s g => s.hForget a g) (List.range 192) s

theorem forgotten_queue (s : State) (a : Nat) {g : Nat} (hg : g < 192) : ∀ r ∈ ((s.forgotten a).hartOf g).queue, r.account ≠ a := by
  refine fold_each (Q := fun g u => ∀ r ∈ (u.hartOf g).queue, r.account ≠ a) (fun u g r hr => ?_) (fun u i g hu r hr => ?_) _ s g
    (List.mem_range.mpr hg)
  · rw [hForget_queue, if_pos rfl] at hr
    simpa using (List.mem_filter.mp hr).2
  · rw [hForget_queue] at hr
    split at hr
    · exact hu r (List.mem_filter.mp hr).1
    · exact hu r hr

theorem forgotten_other {β : Type} {p : State → β} (hp : ∀ (s : State) hart, p { s with hart := hart } = p s) (s : State) (a : Nat) :
    p (s.forgotten a) = p s := fold_same (fun s g => hForget_other hp s a g) _ s

/-- The frame of the reset, once tills are empty and requests are gone. -/
theorem resetFrame_forgotten (s : State) (a : Nat) : s.ResetFrame a ((s.emptyTills a).forgotten a) where
  tick := (forgotten_other (p := State.tick) (fun _ _ => rfl) _ a).trans (emptyTills_other (fun _ _ => rfl) s a)
  accts := (forgotten_other (p := State.accts) (fun _ _ => rfl) _ a).trans (emptyTills_other (fun _ _ => rfl) s a)
  word x _ := (forgotten_other (p := fun s => s.word x) (fun _ _ => rfl) _ a).trans
    (emptyTills_other (p := fun s => s.word x) (fun _ _ => rfl) s a)
  till k hk := (forgotten_other (p := fun s => s.till a k) (fun _ _ => rfl) _ a).trans (emptyTills_till s a hk)
  requests _ hg := forgotten_queue _ a hg

/-! ### The other operations of the reset -/

namespace State.ResetFrame

section
variable {a : Nat} {s t : State} (h : s.ResetFrame a t) (ha : a < 8)
include h

theorem canForget (n : Nat) : s.ResetFrame a (t.canForget n) := h.same rfl rfl rfl rfl rfl

theorem endedClaims : s.ResetFrame a ((t.quarantineAcct a).endClaims a) := h.same rfl rfl rfl rfl rfl

theorem clearForced (g : Nat) : s.ResetFrame a (t.clearForced g) := by
  unfold State.clearForced
  split
  · exact h.image _
  · exact h

include ha

theorem clearForcesOf (reason : Nat) (always : Bool) : s.ResetFrame a (t.clearForcesOf a reason always) := by
  unfold State.clearForcesOf
  extract_lets gs u
  have hu : s.ResetFrame a u := keeps_fold (fun _ g hv => hv.clearForced g) h
  exact keeps_ite (hu.ev ha _ _) hu

theorem resetTask (k : Nat) : s.ResetFrame a (t.resetTask k) := by
  unfold State.resetTask
  extract_lets mine src u v w x
  have hu : s.ResetFrame a u := h.image _
  have hv : s.ResetFrame a v := keeps_fold (fun _ _ hz => hz.image _) hu
  have hw : s.ResetFrame a w := keeps_fold (fun _ _ hz => hz.image _) hv
  have hx : s.ResetFrame a x := by
    refine ResetFrame.setUnit (ResetFrame.setUnit hw ha _ (by decide) ?_) ha _ (by decide) ?_ <;> simp only [Reg.addr] <;> omega
  refine ResetFrame.setUnit (ResetFrame.setUnit hx ha _ (by decide) ?_) ha _ (by decide) ?_ <;> simp only [Reg.addr] <;> omega

omit h ha in
/-- Registers of the time bases and of the pair belong to no account. -/
theorem blockOwner_none (u : State) {x : Nat} (hx : x / 2 ^ 24 = 0xC ∨ x / 2 ^ 24 = 0xF) : u.blockOwner x = none := by
  unfold State.blockOwner
  rcases hx with hx | hx <;> rw [hx] <;> rfl

/-- A register of the account, as the image set it. -/
theorem restoreReg {u : State} {x : Nat} (hx : u.blockOwner x = some a) : s.ResetFrame a (t.restoreReg x) := by
  have hunit : x / 2 ^ 24 ≠ 0xC ∧ x / 2 ^ 24 ≠ 0xF := by
    constructor <;> intro e <;> rw [blockOwner_none u (by omega)] at hx <;> exact absurd hx (by simp)
  unfold State.restoreReg
  split
  · exact h
  next r i j hat =>
    extract_lets img
    obtain ⟨haddr, hi, hj⟩ := addr_of_regAt hat
    by_cases hrw : r.rw = 0
    · rw [if_pos (show t.reg r i j &&& r.rw = img by simp [img, hrw])]
      exact h
    · have hdom : r ≠ R.DOM_CFG := by
        rintro rfl
        simp only [Reg.addr] at haddr
        have : i < 2 ∧ j < 1 := ⟨hi, hj⟩
        omega
      have htime : r ≠ R.TIME_CFG := by
        rintro rfl
        simp only [Reg.addr] at haddr
        have : i < 1 ∧ j < 1 := ⟨hi, hj⟩
        omega
      have hword : r.addr i j ∉ stateWords a := by
        rw [haddr]
        simp only [stateWords, List.mem_cons, List.not_mem_nil, or_false, not_or]
        refine ⟨fun e => hrw ?_, by omega⟩
        rw [e, regAt_addr (by decide) ha (by decide)] at hat
        cases hat
        rfl
      exact keeps_ite h (((h.putWord ha hi hword hdom htime img).posted (posted_deliverItem rfl x)).posted
        (posted_journalReg rfl x img true))
end

end State.ResetFrame

/-- The account's work is undone, and its registers are the image's (steps 4 and 5 of Table 4.4). -/
def State.resetWorked (s : State) (a : Nat) : State :=
  let s := (s.emptyTills a).forgotten a
  let s := foldState State.canForget ((List.range 4).filter fun n => s.canOwner n == a) s
  let s := ((s.quarantineAcct a).endClaims a).clearForcesOf a 3 false
  let s := foldState State.resetTask (s.tasksOf a) s
  foldState State.restoreReg
    (((s.regs.map (·.1)) ++ (s.start.imgRegs.map (·.1))).dedup.filter fun x => s.blockOwner x == some a) s

/-- The reset is counted, and the account's record begins anew. -/
def State.resetRecorded (s : State) (a : Nat) : State :=
  let s := s.setFld F.FIRE_USED_PEAK 0 a
  (s.setAcct a { s.acct a with pendingFault := 0, key := s.imgKey a, newKey := [] }).bump F.ACCT_STATUS_RESETS a

theorem acctResetDone_eq {s : State} {a : Nat} (h : s.acctState a = aResetting) : s.acctResetDone a =
    let w := s.resetWorked a
    let v := w.resetRecorded a
    if (w.acct a).pendingFault ≠ 0 then (v.setAcctState a aRunning).enterFault a (w.acct a).pendingFault
    else if !v.inControl then v.setAcctState a aStandby
    else ((v.setAcctState a aRunning).enableTasks a).ev 0x0403 := if_neg (not_not.mpr h)

theorem resetFrame_worked (s : State) {a : Nat} (ha : a < 8) : s.ResetFrame a (s.resetWorked a) := by
  unfold State.resetWorked
  extract_lets u v w x
  have hu : s.ResetFrame a u := resetFrame_forgotten s a
  have hv : s.ResetFrame a v := keeps_fold (fun _ n h => h.canForget n) hu
  have hw : s.ResetFrame a w := hv.endedClaims.clearForcesOf ha _ _
  have hx : s.ResetFrame a x := keeps_fold (fun _ k h => h.resetTask ha k) hw
  refine keeps_fold_mem (fun _ y hy h => h.restoreReg ha (u := x) ?_) hx
  simpa using (List.mem_filter.mp hy).2

/-- What the record of the reset shows. -/
theorem resetRecorded_spec {s w : State} {a : Nat} (ha : a < 8) (h : s.ResetFrame a w) :
    let v := w.resetRecorded a
    v.tick = s.tick ∧ (∀ k < 16, v.till a k = .init) ∧ (v.acct a).pendingFault = 0 ∧
    v.fld F.ACCT_STATUS_RESETS a = min (s.fld F.ACCT_STATUS_RESETS a + 1) 0xFF ∧ v.inControl = s.inControl ∧
    v.fld F.FIRE_USED_PEAK a = 0 := by
  intro v
  have hstatus : w.word (R.ACCT_STATUS.addr a 0) = s.word (R.ACCT_STATUS.addr a 0) := h.word _ (by simp [stateWords])
  have hpair : w.word R.PAIR_STATUS.base = s.word R.PAIR_STATUS.base := h.word _ (by simp [stateWords])
  have hfire : (w.setFld F.FIRE_USED_PEAK 0 a).fld F.ACCT_STATUS_RESETS a = s.fld F.ACCT_STATUS_RESETS a :=
    (fld_setFld_ne w _ (by simp only [Reg.addr]; omega)).trans (fld_eq_of_word hstatus)
  refine ⟨h.tick, h.till, ?_, ?_, ?_, ?_⟩
  · have hv : v.accts = ((w.setFld F.FIRE_USED_PEAK 0 a).setAcct a { (w.setFld F.FIRE_USED_PEAK 0 a).acct a with
        pendingFault := 0, key := (w.setFld F.FIRE_USED_PEAK 0 a).imgKey a, newKey := [] }).accts := State.bump_accts _ _ _ _ _
    rw [acct_of_accts hv, State.setAcct_acct_same]
  · refine (fld_bump_same _ _ _ _ _ (by decide) (by decide)).trans ?_
    rw [State.setAcct_fld, hfire]
    rfl
  · have hv : v.word R.PAIR_STATUS.base = s.word R.PAIR_STATUS.base :=
      (word_setWord_ne _ _ (by simp only [Reg.addr]; omega)).trans ((word_setWord_ne w _ (by simp only [Reg.addr]; omega)).trans hpair)
    rw [State.inControl, State.inControl, State.pairState, State.pairState, fld_eq_of_word (f := F.PAIR_STATUS_STATE) hv]
  · refine (fld_setFld_ne _ _ (by simp only [Reg.addr]; omega)).trans ?_
    exact (fld_setFld_same w F.FIRE_USED_PEAK 0 a 0 (by decide) (by decide))

/-- e ends the reset that v has recorded, with the account in state st. -/
structure State.ResetEnd (a st : Nat) (v e : State) : Prop where
  tick : e.tick = v.tick
  tills : e.tills = v.tills
  accts : e.accts = v.accts
  fire : e.word (R.FIRE_USED.addr a 0) = v.word (R.FIRE_USED.addr a 0)
  resets : e.fld F.ACCT_STATUS_RESETS a = v.fld F.ACCT_STATUS_RESETS a
  state : e.acctState a = st

theorem resetEnd_setAcctState (v : State) (a : Nat) {st : Nat} (hst : st < 16) : v.ResetEnd a st (v.setAcctState a st) where
  tick := rfl
  tills := rfl
  accts := rfl
  fire := word_setWord_ne _ _ (by simp only [Reg.addr]; omega)
  resets := fld_setFld_disjoint v _ rfl (by decide) (by decide) (by decide)
  state := setAcctState_same _ _ hst

/-! ### The words of FIRE_USED, and an account that takes a fault -/

section
variable {x : Nat} (hx : x % 4096 = 4) (hlt : x < 0x11000000)
include hx

/-- A register at another offset of its block. -/
theorem word_setReg_offset (s : State) {r : Reg} {i j : Nat} (v : Nat) (h : r.addr i j % 4096 ≠ 4) :
    (s.setReg r v i j).word x = s.word x := word_setWord_ne s _ (by rintro rfl; exact h hx)

theorem word_stopAccount (s : State) (a : Nat) : (s.stopAccount a).word x = s.word x := by
  have hstatus : ∀ (s : State) (k v : Nat), (s.setFld F.TASK_STATUS_STATE v k).word x = s.word x := fun s k v =>
    word_setReg_offset hx s _ (by simp only [Reg.addr]; omega)
  have habandon : ∀ (s : State) (k : Nat), (s.abandon k).word x = s.word x := fun s k => by
    unfold State.abandon
    split
    · exact hstatus _ _ _
    · rfl
  have hfold : ∀ l : List Nat, (foldState (fun s k =>
      ((s.abandon k).setTask k { s.task k with enabled := none }).setFld F.TASK_STATUS_STATE tkNotReleased k) l s).word x = s.word x :=
    fun l => fold_same (p := fun s => s.word x) (fun s k => (hstatus ((s.abandon k).setTask k _) k _).trans (habandon s k)) l s
  exact hfold _

theorem word_fireLast (s : State) (f : Fire) (st : Nat) : (s.fireLast f st).word x = s.word x := by
  refine (word_setReg_offset hx _ _ (by simp only [Reg.addr]; omega)).trans
    ((word_setReg_offset hx _ _ (by simp only [Reg.addr]; omega)).trans (word_setReg_offset hx _ _ (by simp only [Reg.addr]; omega)))

theorem word_fireRemoved (s : State) (f : Fire) : ((s.bump F.FIRE_COUNTS_2_REMOVED f.account).fireLast f 6).word x = s.word x :=
  (word_fireLast hx _ f 6).trans (word_setReg_offset hx s _ (by simp only [Reg.addr]; omega))

omit hx in
theorem word_journal (s : State) (kind subject : Nat) (words led : List W64) :
    (s.journal kind subject words led).word x = s.word x := rfl

theorem word_fireDrop (s : State) (q : Fire → Bool) : (s.fireDrop q 6).word x = s.word x :=
  fold_same (p := fun s => s.word x) (fun s f => (word_journal _ _ _ _ _).trans (word_fireRemoved hx s f)) _
    { s with image.fire := s.image.fire.filter fun f => !q f }

theorem word_fireInDrop (s : State) (q : Fire → Bool) : (s.fireInDrop q 6).word x = s.word x :=
  fold_same (p := fun s => s.word x) (word_fireRemoved hx) _ { s with image.fireIn := s.image.fireIn.filter fun f => !q f }

include hlt

theorem not_eventWord_offset : x ∉ eventWords := by
  simp only [eventWords, List.mem_cons, List.not_mem_nil, or_false]
  omega

theorem word_fireRemove (s : State) (a cause : Nat) (q : Fire → Bool) : (s.fireRemove a cause q).word x = s.word x := by
  unfold State.fireRemove
  extract_lets n u
  have hu : u.word x = s.word x := (word_fireInDrop hx _ q).trans (word_fireDrop hx s q)
  split
  · exact hu
  · exact (ev_word _ _ _ (not_eventWord_offset hx hlt)).trans hu

theorem word_clearForcesOf (s : State) (a reason : Nat) (always : Bool) : (s.clearForcesOf a reason always).word x = s.word x := by
  have hclear : ∀ (s : State) (g : Nat), (s.clearForced g).word x = s.word x := fun s g => by
    unfold State.clearForced
    split <;> rfl
  unfold State.clearForcesOf
  extract_lets gs u
  have hu : u.word x = s.word x := fold_same (p := fun s => s.word x) hclear _ _
  split
  · exact (ev_word _ _ _ (not_eventWord_offset hx hlt)).trans hu
  · exact hu

end

/-- An account that takes a fault, at the words of FIRE_USED. -/
theorem word_enterFault (s : State) {a x cause : Nat} (hx : x % 4096 = 4) (hlt : x < 0x11000000) (h : s.acctState a = aRunning)
    (hne : x ≠ R.ACCT_STATUS.addr a 0) : (s.enterFault a cause).word x = s.word x := by
  have hrest : ∀ (u : State) image causes, State.word { u with image := image, hoCauses := causes } x = u.word x := fun _ _ _ => rfl
  have hstatus : ∀ u : State, ((u.setAcctState a aFault).setFld F.ACCT_STATUS_CAUSE cause a).word x = u.word x := fun u =>
    (word_setWord_ne _ _ hne).trans (word_setWord_ne u _ hne)
  have hst : ¬s.acctState a = aResetting := by rw [h]; decide
  unfold State.enterFault
  dsimp only
  rw [if_neg hst, if_pos (.inl h)]
  refine (ev_word _ _ _ (not_eventWord_offset hx hlt)).trans ((hrest _ _ _).trans ?_)
  exact (word_fireRemove hx hlt _ _ _ _).trans ((word_clearForcesOf hx hlt _ _ _ _).trans ((word_stopAccount hx _ _).trans (hstatus s)))

theorem ofAccounts_tick : OfAccounts State.tick := ⟨fun _ => rfl, rfl, State.ev_tick _ _ _⟩

theorem OfAccounts.enableTasks {β : Type} {p : State → β} (hp : OfAccounts p) (s : State) (a : Nat) : p (s.enableTasks a) = p s :=
  fold_same (fun s k => (hp.setReg _ (by decide)).trans (hp.image s _)) _ _

theorem word_enableTasks (s : State) (a : Nat) {x : Nat} (hx : x % 4096 = 4) : (s.enableTasks a).word x = s.word x :=
  fold_same (p := fun s => s.word x) (fun s k => word_setReg_offset hx (s.setTask k _) _ (by simp only [Reg.addr]; omega)) _ _

/-! ### The three ends of a reset (step 6 of Table 4.4) -/

theorem addr_fireUsed {a : Nat} (ha : a < 8) : R.FIRE_USED.addr a 0 % 4096 = 4 ∧ R.FIRE_USED.addr a 0 < 0x11000000 ∧
    R.FIRE_USED.addr a 0 ≠ R.ACCT_STATUS.addr a 0 := by
  simp only [Reg.addr]
  omega

theorem resetEnd_running (v : State) {a : Nat} (ha : a < 8) :
    v.ResetEnd a aRunning (((v.setAcctState a aRunning).enableTasks a).ev 0x0403) := by
  have hb := resetEnd_setAcctState v a (st := aRunning) (by decide)
  have hof : ∀ {β : Type} {p : State → β}, OfAccounts p →
      p (((v.setAcctState a aRunning).enableTasks a).ev 0x0403) = p (v.setAcctState a aRunning) := fun hp =>
    hp.ev.trans (hp.enableTasks _ a)
  have hword := hof (ofAccounts_word (addr_acctStatus_lt ha))
  obtain ⟨hx, hlt, -⟩ := addr_fireUsed ha
  exact ⟨hof ofAccounts_tick, hof ofAccounts_tills, hof ofAccounts_accts,
    (ev_word _ _ _ (not_eventWord_offset hx hlt)).trans ((word_enableTasks _ a hx).trans hb.fire),
    (fld_eq_of_word (f := F.ACCT_STATUS_RESETS) hword).trans hb.resets, (acctState_of_word hword).trans hb.state⟩

/-- A fault that arose while the account was being reset. -/
theorem resetEnd_fault (v : State) {a : Nat} (ha : a < 8) (cause : Nat) :
    v.ResetEnd a aFault ((v.setAcctState a aRunning).enterFault a cause) ∧
    ((v.setAcctState a aRunning).enterFault a cause).fld F.ACCT_STATUS_CAUSE a = cause % 256 := by
  have hb := resetEnd_setAcctState v a (st := aRunning) (by decide)
  have hrun : (v.setAcctState a aRunning).acctState a ∈ [aRunning, aStarting, aStandby] := by rw [hb.state]; decide
  have hof : ∀ {β : Type} {p : State → β}, OfAccounts p → p ((v.setAcctState a aRunning).enterFault a cause) =
      p (((v.setAcctState a aRunning).setAcctState a aFault).setFld F.ACCT_STATUS_CAUSE cause a) := fun hp =>
    enterFault_same hp cause hrun
  have hword := hof (ofAccounts_word (addr_acctStatus_lt ha))
  obtain ⟨hx, hlt, hne⟩ := addr_fireUsed ha
  refine ⟨⟨hof ofAccounts_tick, hof ofAccounts_tills, hof ofAccounts_accts,
    (word_enterFault _ hx hlt hb.state hne).trans hb.fire, ?_, ?_⟩, ?_⟩
  · refine (fld_eq_of_word (f := F.ACCT_STATUS_RESETS) hword).trans ?_
    refine (fld_setFld_disjoint (e := F.ACCT_STATUS_CAUSE) (f := F.ACCT_STATUS_RESETS) _ cause rfl (by decide) (by decide)
      (by decide)).trans ?_
    exact (fld_setFld_disjoint (e := F.ACCT_STATUS_STATE) (f := F.ACCT_STATUS_RESETS) _ aFault rfl (by decide) (by decide)
      (by decide)).trans hb.resets
  · refine (acctState_of_word hword).trans ?_
    exact (fld_setFld_disjoint (e := F.ACCT_STATUS_CAUSE) (f := F.ACCT_STATUS_STATE) _ cause rfl (by decide) (by decide)
      (by decide)).trans (setAcctState_same _ a (by decide))
  · exact (fld_eq_of_word (f := F.ACCT_STATUS_CAUSE) hword).trans (fld_setFld_same _ _ _ _ _ (by decide) (by decide))

/-- The end that a reset has: the fault that waited, or the state that goes with the module's role. -/
theorem acctResetDone_end {s : State} {a : Nat} (ha : a < 8) (h : s.acctState a = aResetting) :
    let v := (s.resetWorked a).resetRecorded a
    let fault := ((s.resetWorked a).acct a).pendingFault
    v.ResetEnd a (if fault ≠ 0 then aFault else if v.inControl then aRunning else aStandby) (s.acctResetDone a) ∧
    (fault ≠ 0 → (s.acctResetDone a).fld F.ACCT_STATUS_CAUSE a = fault % 256) := by
  intro v fault
  rw [acctResetDone_eq h]
  extract_lets w u
  by_cases hf : fault ≠ 0
  · rw [if_pos hf, if_pos hf]
    exact ⟨(resetEnd_fault v ha fault).1, fun _ => (resetEnd_fault v ha fault).2⟩
  · rw [if_neg hf, if_neg hf]
    refine ⟨?_, fun hne => absurd hne hf⟩
    by_cases hc : v.inControl = true
    · rw [if_pos hc, if_neg (show ¬(!u.inControl) = true by rw [show u.inControl = true from hc]; decide)]
      exact resetEnd_running v ha
    · rw [if_neg hc, if_pos (show (!u.inControl) = true by rw [show u.inControl = false by simpa using hc]; rfl)]
      exact resetEnd_setAcctState v a (by decide)

/-! ### O26 -/

/-- Phase and drive are what they were. -/
theorem closed_phaseDrive (s : State) : Closed fun t => t.phase = s.phase ∧ t.drive = s.drive where
  word h := h
  till h := h
  upd h := h

/-- Settles O26: the work of the reset keeps State.ResetFrame, its record is read off, and each of its three ends is a ResetEnd. -/
theorem accountResetCompletes : Obligations.AccountResetCompletes := by
  intro s a h
  obtain ⟨hphase, hdrive⟩ := keeps_acctResetDone (closed_phaseDrive s) (s := s) (a := a.val) ⟨rfl, rfl⟩
  have hframe := resetFrame_worked s a.isLt
  obtain ⟨htick, htill, hpending, hresets, hcontrol, hpeak⟩ := resetRecorded_spec a.isLt hframe
  obtain ⟨hend, hcause⟩ := acctResetDone_end a.isLt h
  have hacct : ((s.resetWorked a.val).acct a.val).pendingFault = (s.acct a.val).pendingFault :=
    congrArg Acct.pendingFault (acct_of_accts hframe.accts a.val)
  rw [hacct, hcontrol] at hend
  rw [hacct] at hcause
  refine ⟨_, rfl, fun k => ?_, ?_, hend.resets.trans hresets, hend.state, hcause, ?_, hphase, hdrive, hend.tick.trans htick⟩
  · exact (congrArg (fun m => nget Till.init m (16 * a.val + k.val)) hend.tills).trans (htill k k.isLt)
  · exact (congrArg Acct.pendingFault (acct_of_accts hend.accts a.val)).trans hpending
  · exact (fld_eq_of_word (f := F.FIRE_USED_PEAK) hend.fire).trans hpeak

end Sys2Proof.Machine
end

section
/-! SUPPORT. From the fetch of an instruction to its commit: what an instruction leaves that meets no cause that traps (R134, R138,
R158). -/
namespace Sys2Proof.Machine

/-! ### The execution of a task -/

/-- Entering a value at a key that was just written leaves what entering it alone leaves. -/
theorem ninsert_ninsert {V : Type} (m : NMap V) (k : Nat) (v w : V) : ninsert (ninsert m k v) k w = ninsert m k w := by
  induction m with
  | nil => simp [ninsert]
  | cons p m ih =>
    obtain ⟨j, u⟩ := p
    rcases lt_trichotomy k j with h | h | h
    · simp [ninsert, h]
    · simp [ninsert, h]
    · simp [ninsert, Nat.not_lt.mpr h.le, h.ne', ih]

theorem setExec_setExec (s : State) (k : Nat) (e f : Exec) : (s.setExec k (some e)).setExec k (some f) = s.setExec k (some f) := by
  simp [State.setExec, nset, ninsert_ninsert]

/-- A logical wheel runs the first or the second wheel's copy of an execution (R145). -/
theorem running_copy {s : State} {l : Nat} {e : Exec} {i : Nat} (h : s.running l = some (e, i)) : i = 0 ∨ i = 1 := by
  unfold State.running at h
  split at h
  · simp only [Option.some.injEq, Prod.mk.injEq] at h
    exact .inl h.2.symm
  · split at h
    · simp only [Option.map_eq_some_iff, Prod.mk.injEq] at h
      obtain ⟨_, _, _, h⟩ := h
      exact .inr h.symm
    · cases h

/-- Some wheel of the execution has not reached END, and some wheel has met no unhandled trap. -/
def Exec.atWork (e : Exec) : Prop := (∃ l ∈ e.lanes, l.ended = false) ∧ ∃ l ∈ e.lanes, l.dead = none

/-- Nothing is settled of an execution at work. -/
theorem settle_atWork {s : State} {k : Nat} {e : Exec} (h : s.exec? k = some e) (hw : e.atWork) (ns : Nat) : s.settle k ns = s := by
  obtain ⟨⟨l, hl, hended⟩, m, hm, hdead⟩ := hw
  unfold State.settle
  simp only [h]
  split
  · refine if_neg fun hall => ?_
    have := List.all_eq_true.mp hall m hm
    simp [hdead] at this
  · refine if_neg fun hall => ?_
    have := List.all_eq_true.mp hall l hl
    simp [hended] at this

/-- A wheel presents a compare point while the other has none waiting: it waits for the other (R138). -/
theorem present_waits {s : State} {k i : Nat} {e : Exec} (h : s.exec? k = some e) (hq : (e.lanes.getD (1 - i) .init).points = [])
    (p : ComparePoint) : s.present k i p = s.setExec k (some { e with
      lanes := e.lanes.set i { e.lanes.getD i .init with points := (e.lanes.getD i .init).points ++ [p] } }) := by
  unfold State.present
  simp only [h, hq]

/-! ### From the fetch to the commit -/

/-- The state after the data words that an instruction writes. -/
def Ctx.stored (c : Ctx) (s : State) (ws : List (Nat × W64)) : State := foldState (fun s x => s.wheelStore c x.1 x.2) ws s

theorem ranOn_exec (c : Ctx) (s : State) (m : Lane) :
    (c.ranOn s m).exec? c.ex.k = some { c.ex with lanes := c.ex.lanes.set c.copy (c.counted m) } :=
  State.setExec_exec_same _ _ _

section
variable {c : Ctx} {l op : Nat} (hf : c.fetched l op)
include hf

/-- A logical wheel about to run an instruction runs it and commits what it leaves. -/
theorem runInstr_fetched (ns : Nat) (body : Ctx → WOut) : c.s.runInstr l op ns body = (body c).commit c ns := by
  obtain ⟨hrun, -, -, hlane, hended, hdead, hword, hpc, hop, hlegal⟩ := hf
  unfold State.runInstr
  simp only [hrun, ← hlane, ← hword]
  have hawake : ¬(c.lane.ended || c.lane.dead.isSome) = true := by simp [hended, hdead]
  exact (if_neg hawake).trans ((if_neg (Nat.not_le.mpr hpc)).trans ((if_neg (not_not.mpr hop)).trans (if_neg (by simp [hlegal]))))

/-- Nothing is settled where the wheel is not at END and has met no unhandled trap. -/
theorem settle_ranOn {m : Lane} (he : m.ended = false) (hd : m.dead = none) (s : State) (ns : Nat) :
    (c.ranOn s m).settle c.ex.k ns = c.ranOn s m := by
  obtain ⟨-, -, hcopy, -⟩ := hf
  have hm : c.counted m ∈ c.ex.lanes.set c.copy (c.counted m) := List.mem_set hcopy _
  exact settle_atWork (ranOn_exec c s m) ⟨⟨_, hm, he⟩, _, hm, hd⟩ ns

omit hf in
/-- An instruction that traps on nothing: its data words and registers are stored, then its compare points presented. -/
theorem commit_untrapped {o : WOut} (hx : o.s.exec? c.ex.k = some c.ex) (ht : trapTaken c.ex.mask o.cause = false) (ns : Nat) :
    o.commit c ns = State.settle (if 1 < c.ex.lanes.length
      then foldState (fun s p => s.present c.ex.k c.copy p) o.points (c.ranOn (c.stored o.s o.writes) o.lane)
      else c.ranOn (c.stored o.s o.writes) o.lane) c.ex.k ns := by
  unfold WOut.commit
  simp only [hx, ht, Bool.false_eq_true, if_false, List.append_nil]
  rfl

/-- What an instruction leaves that traps on nothing and presents no compare point. -/
theorem commit_silent {o : WOut} (hx : o.s.exec? c.ex.k = some c.ex) (ht : trapTaken c.ex.mask o.cause = false)
    (hp : o.points = []) (he : o.lane.ended = false) (hd : o.lane.dead = none) (ns : Nat) :
    o.commit c ns = c.ranOn (c.stored o.s o.writes) o.lane := by
  rw [commit_untrapped hx ht, hp]
  exact (congrArg (fun s => State.settle s c.ex.k ns) (ite_self _)).trans (settle_ranOn hf he hd _ ns)

/-- A wheel of A7 presents a compare point with its registers, while the other wheel has none waiting. -/
theorem present_ranOn (hq : (c.ex.lanes.getD (1 - c.copy) .init).points = []) (s : State) (m : Lane) (p : ComparePoint) :
    (c.ranOn s m).present c.ex.k c.copy p = c.ranOn s { m with points := m.points ++ [p] } := by
  obtain ⟨hrun, -, hcopy, -⟩ := hf
  have hother : 1 - c.copy ≠ c.copy := by have := running_copy hrun; omega
  have hown : (c.ex.lanes.set c.copy (c.counted m)).getD c.copy .init = c.counted m := by simp [hcopy]
  rw [present_waits (ranOn_exec c s m) (by simpa [List.getElem?_set_ne hother.symm] using hq)]
  rw [hown, List.set_set]
  exact setExec_setExec _ _ _ _

/-- What an instruction leaves that traps on nothing and presents a compare point, where the other wheel of A7 has none waiting. -/
theorem commit_pointing {o : WOut} {p : ComparePoint} (hq : c.quiet) (hx : o.s.exec? c.ex.k = some c.ex)
    (ht : trapTaken c.ex.mask o.cause = false) (hp : o.points = [p]) (he : o.lane.ended = false) (hd : o.lane.dead = none)
    (ns : Nat) : o.commit c ns = c.ranOn (c.stored o.s o.writes) (c.pointing o.lane p) := by
  rw [commit_untrapped hx ht, hp, Ctx.pointing]
  by_cases h1 : 1 < c.ex.lanes.length
  · rw [if_pos h1, if_pos h1, foldState_one, present_ranOn hf (hq.resolve_left (by omega))]
    exact settle_ranOn hf (m := { o.lane with points := o.lane.points ++ [p] }) he hd _ ns
  · rw [if_neg h1, if_neg h1]
    exact settle_ranOn hf he hd _ ns

/-! ### The forms of a body -/

variable {i : Instr} {body : Ctx → WOut} (hi : exec i c.s = .next (c.s.runInstr l op 0 body))
include hi

/-- An instruction that traps on nothing and presents no compare point. -/
theorem yields_silent {o : WOut} (hb : body c = o) (hs : o.s = c.s) (ht : trapTaken c.ex.mask o.cause = false)
    (hp : o.points = []) (he : o.lane.ended = c.lane.ended) (hd : o.lane.dead = c.lane.dead) :
    Yields i c.s fun t => t = c.ranOn (c.stored c.s o.writes) o.lane := by
  have hcommit := runInstr_fetched hf 0 body
  obtain ⟨-, hx, -, -, hended, hdead, -⟩ := id hf
  rw [hb, commit_silent hf (hs ▸ hx) ht hp (he.trans hended) (hd.trans hdead), hs] at hcommit
  exact ⟨_, hi, hcommit⟩

/-- An instruction that traps on nothing and presents a compare point, where the other wheel of A7 has none waiting. -/
theorem yields_pointing {o : WOut} {p : ComparePoint} (hq : c.quiet) (hb : body c = o) (hs : o.s = c.s)
    (ht : trapTaken c.ex.mask o.cause = false) (hp : o.points = [p]) (he : o.lane.ended = c.lane.ended)
    (hd : o.lane.dead = c.lane.dead) : Yields i c.s fun t => t = c.ranOn (c.stored c.s o.writes) (c.pointing o.lane p) := by
  have hcommit := runInstr_fetched hf 0 body
  obtain ⟨-, hx, -, -, hended, hdead, -⟩ := id hf
  rw [hb, commit_pointing hf hq (hs ▸ hx) ht hp (he.trans hended) (hd.trans hdead), hs] at hcommit
  exact ⟨_, hi, hcommit⟩

/-- An instruction that only changes registers, and meets no cause that traps. -/
theorem yields_ran {m : Lane} {cause : Nat} (hb : body c = c.okc m cause) (ht : trapTaken c.ex.mask cause = false)
    (he : m.ended = c.lane.ended) (hd : m.dead = c.lane.dead) : Yields i c.s fun t => t = c.ran m :=
  yields_silent hf hi hb rfl ht rfl he hd

end

end Sys2Proof.Machine
end

section
/-! PROOF. Boolean instructions and loads (O28). -/
namespace Sys2Proof.Machine

/-! ### Legal words (R114) -/

/-- A load's address stands in OPND[13:0]. -/
theorem iOpnd_lt_of_ld {w : W32} (h : iLegal w = true) (hop : iOp w = 0x20) (hm : iMode w = 1 ∨ iMode w = 2) :
    iOpnd w < 2 ^ 14 := by
  simp only [iLegal, hop, show iModes 0x20 = some 15 by decide] at h
  rcases hm with hm | hm <;> simp [hm] at h <;> omega

/-- BLDF names one of the ten flags. -/
theorem iOpnd_lt_of_bldf {w : W32} (h : iLegal w = true) (hop : iOp w = 0x1F) : iOpnd w < 10 := by
  simp only [iLegal, hop, show iModes 0x1F = some 0 by decide] at h
  simp at h
  omega

/-! ### Operands (Table 5.4) -/

/-- The signed 20-bit immediate, as 64 bits. -/
theorem ofInt_iImm (w : W32) : BitVec.ofInt 64 (iImm w) = (BitVec.ofNat 20 (iOpnd w)).signExtend 64 := by
  rw [BitVec.signExtend, iImm, sint, BitVec.toInt_eq_toNat_cond, BitVec.toNat_ofNat]
  congr 1
  split <;> split <;> omega

section
variable {c : Ctx} {f : Bool → Bool → Bool}

theorem src_imm (h : iMode c.word = 0) : c.src false = .ok (BitVec.ofInt 64 (iImm c.word)) := by simp [Ctx.src, h]

theorem src_addr {a : Nat} (b : Bool) (h : iMode c.word = 1 ∨ iMode c.word = 2) (ha : c.addr 1 = some a) :
    c.src b = .ok (c.data a) := by
  rcases h with h | h <;> simp [Ctx.src, h, ha]

theorem src_slot {n : Nat} (b : Bool) (h : iMode c.word = 3) (hn : c.slotNo = some n) : c.src b = .ok (c.slotView n).value := by
  simp [Ctx.src, h, hn]

theorem addr_data {n : Nat} (hm : iMode c.word = 1) (hlt : iOpnd c.word < 2 ^ 14) (h : iOpnd c.word + n ≤ c.dataWords) :
    c.addr n = some (iOpnd c.word) := by
  simp [Ctx.addr, hm, Nat.mod_eq_of_lt (show iOpnd c.word < 16384 from hlt), h]

theorem addr_datax {n : Nat} (hm : iMode c.word = 2) (hlt : iOpnd c.word < 2 ^ 14)
    (h : iOpnd c.word + (c.lane.xr (iXs c.word)).toNat + n ≤ c.dataWords) :
    c.addr n = some (iOpnd c.word + (c.lane.xr (iXs c.word)).toNat) := by
  simp [Ctx.addr, hm, Nat.mod_eq_of_lt (show iOpnd c.word < 16384 from hlt), h]

/-! ### Bodies -/

theorem boolOp_ok {v : W64} (h : c.src false = .ok v) : c.boolOp f = c.ok { c.lane with ba := f c.lane.ba (v != 0) } := by
  simp [Ctx.boolOp, h]

theorem popOp_cons {p : Bool} {bs : List Bool} (h : c.lane.bs = p :: bs) :
    c.popOp f = c.ok { c.lane with bs := bs, ba := f p c.lane.ba } := by
  simp [Ctx.popOp, h]

theorem bLd_ok {v : W64} (h : c.src false = .ok v) : bLd c = c.ok { c.lane with wa := v } := by simp [bLd, h]

/-! ### O28 -/

variable {i : Instr} {l op : Nat} (hf : c.fetched l op)
include hf

theorem yields_boolOp {v : W64} {b : Bool} (h : c.src false = .ok v)
    (hi : exec i c.s = .next (c.s.runInstr l op 0 fun c => c.boolOp f)) (hb : f c.lane.ba (v != 0) = b) :
    Yields i c.s fun t => t = c.ran { c.lane with ba := b } :=
  hb ▸ yields_ran hf hi (boolOp_ok h) rfl rfl rfl

theorem yields_popOp {p b : Bool} {bs : List Bool} (h : c.lane.bs = p :: bs)
    (hi : exec i c.s = .next (c.s.runInstr l op 0 fun c => c.popOp f)) (hb : f p c.lane.ba = b) :
    Yields i c.s fun t => t = c.ran { c.lane with bs := bs, ba := b } :=
  hb ▸ yields_ran hf hi (popOp_cons h) rfl rfl rfl

end

/-- LD of an operand. -/
theorem yields_ld {c : Ctx} {l : Fin 16} {v : W64} (hf : c.fetched l.val 0x20) (h : c.src false = .ok v) :
    Yields (.wLd l) c.s fun t => t = c.ran { c.lane with wa := v } :=
  yields_ran hf rfl (bLd_ok h) rfl rfl rfl

/-- Settles O28: every body only changes registers (yields_ran), a load by the operand of its mode. -/
theorem wheelBooleanAndLoads : Obligations.WheelBooleanAndLoads := by
  unfold Obligations.WheelBooleanAndLoads
  refine ⟨?bld, ?bldn, ?band, ?bandn, ?bor, ?born, ?bxor, ?bnot, ?pushb, ?popb, ?popa, ?popo, ?popx, ?bldf, ?imm, ?data, ?datax,
    ?slot, ?ldu⟩
  case bld => exact fun c l v hf h => yields_boolOp hf h rfl rfl
  case bldn => exact fun c l v hf h => yields_boolOp hf h rfl (by simp [bne])
  case band => exact fun c l v hf h => yields_boolOp hf h rfl rfl
  case bandn => exact fun c l v hf h => yields_boolOp hf h rfl (by simp [bne])
  case bor => exact fun c l v hf h => yields_boolOp hf h rfl rfl
  case born => exact fun c l v hf h => yields_boolOp hf h rfl (by simp [bne])
  case bxor => exact fun c l v hf h => yields_boolOp hf h rfl rfl
  case bnot => exact fun c l hf => yields_ran hf rfl (body := bBnot) (cause := 0) rfl rfl rfl rfl
  case pushb =>
    intro c l hf h
    refine yields_ran hf rfl (body := bPushb) (cause := 0) (if_neg (by omega)) rfl rfl rfl
  case popb => exact fun c l p bs hf h => yields_popOp hf h rfl rfl
  case popa => exact fun c l p bs hf h => yields_popOp hf h rfl rfl
  case popo => exact fun c l p bs hf h => yields_popOp hf h rfl rfl
  case popx => exact fun c l p bs hf h => yields_popOp hf h rfl rfl
  case bldf =>
    intro c l hf
    obtain ⟨-, -, -, -, -, -, -, -, hop, hlegal⟩ := id hf
    have hn : iOpnd c.word % 16 = iOpnd c.word := Nat.mod_eq_of_lt (by have := iOpnd_lt_of_bldf hlegal hop; omega)
    refine yields_ran hf rfl (body := bBldf) (cause := 0) ?_ rfl rfl rfl
    rw [bBldf, hn]
    rfl
  case imm =>
    intro c l hf hm
    exact yields_ld hf ((src_imm hm).trans (by rw [ofInt_iImm]))
  case data =>
    intro c l hf hm h
    obtain ⟨-, -, -, -, -, -, -, -, hop, hlegal⟩ := id hf
    exact yields_ld hf (src_addr false (.inl hm) (addr_data hm (iOpnd_lt_of_ld hlegal hop (.inl hm)) h))
  case datax =>
    intro c l hf hm h
    obtain ⟨-, -, -, -, -, -, -, -, hop, hlegal⟩ := id hf
    exact yields_ld hf (src_addr false (.inr hm) (addr_datax hm (iOpnd_lt_of_ld hlegal hop (.inr hm)) h))
  case slot =>
    intro c l n hf hm hn
    exact yields_ld hf (src_slot false hm hn)
  case ldu => exact fun c l hf => yields_ran hf rfl (body := bLdu) (cause := 0) rfl rfl rfl rfl

end Sys2Proof.Machine
end

section
/-! PROOF. Stores (O29). -/
namespace Sys2Proof.Machine

section
variable {c : Ctx} {v : W64}

/-- A store to a data word. -/
theorem store_data {a : Nat} (hm : iMode c.word ≠ 3) (ha : c.addr 1 = some a) :
    c.store v = { c.ok c.lane with writes := [(a, v)] } := by
  unfold Ctx.store
  split
  · contradiction
  · simp [ha]

/-- A store to an output slot, where the delta has room. -/
theorem store_slot {n : Nat} (hm : iMode c.word = 3) (hn : c.slotNo = some n) (ho : (c.s.slot c.ex.k n).out = true)
    {e : DEntry} (he : e = ⟨n, (c.s.slot c.ex.k n).sig, v, c.lane.ftMode, c.lane.ftTime⟩)
    (hs : deltaSize (deltaPut e c.lane.delta) ≤ 2048) :
    c.store v = { c.ok { c.lane with delta := deltaPut e c.lane.delta } with points := [.entry e] } := by
  subst he
  simp [Ctx.store, hm, hn, ho, Nat.not_lt.mpr hs]

theorem data_wheelStore (s : State) (a b : Nat) : nget 0 (s.wheelStore c a v).image.data b =
    if b = c.dataKey a then v else nget 0 s.image.data b := by
  by_cases h : b = c.dataKey a
  · rw [if_pos h, h]
    exact nget_nset_same _ _ _ _
  · rw [if_neg h]
    exact nget_nset_ne _ _ _ _ h

variable {i : Instr} {l op : Nat} {g : Ctx → W64} (hf : c.fetched l op)
  (hi : exec i c.s = .next (c.s.runInstr l op 0 fun c => c.store (g c)))
include hf hi

theorem yields_store_data {a : Nat} (hm : iMode c.word ≠ 3) (ha : c.addr 1 = some a) :
    Yields i c.s fun t => t = c.ranOn (c.s.wheelStore c a (g c)) { c.lane with pc := c.lane.pc + 1 } :=
  yields_silent hf hi (store_data hm ha) rfl rfl rfl rfl rfl

theorem yields_store_slot {n : Nat} (hm : iMode c.word = 3) (hn : c.slotNo = some n) (ho : (c.s.slot c.ex.k n).out = true)
    (hq : c.quiet) {e : DEntry} (he : e = ⟨n, (c.s.slot c.ex.k n).sig, g c, c.lane.ftMode, c.lane.ftTime⟩)
    (hs : deltaSize (deltaPut e c.lane.delta) ≤ 2048) : Yields i c.s fun t =>
      t = c.ranOn c.s (c.pointing { c.lane with delta := deltaPut e c.lane.delta, pc := c.lane.pc + 1 } (.entry e)) :=
  yields_pointing hf hi hq (store_slot hm hn ho he hs) rfl rfl rfl rfl rfl

end

/-- STX has no SLOT mode. -/
theorem iMode_ne_of_stx {w : W32} (h : iLegal w = true) (hop : iOp w = 0x61) : iMode w ≠ 3 := by
  intro hm
  simp [iLegal, hop, hm, show iModes 0x61 = some 6 by decide, bit] at h

/-- Settles O29: a store's body either names one data word (store_data) or replaces one entry of the delta and presents it
(store_slot). -/
theorem wheelStores : Obligations.WheelStores := by
  unfold Obligations.WheelStores
  refine ⟨?bst, ?bstn, ?st, ?stx, ?data, ?stSlot, ?bstSlot, ?bstnSlot⟩
  case bst => exact fun c l a hf hm ha => yields_store_data (g := fun c => if c.lane.ba then 1 else 0) hf rfl hm ha
  case bstn => exact fun c l a hf hm ha => yields_store_data (g := fun c => if c.lane.ba then 0 else 1) hf rfl hm ha
  case st => exact fun c l a hf hm ha => yields_store_data (g := fun c => c.lane.wa) hf rfl hm ha
  case stx =>
    intro c l a hf ha
    obtain ⟨-, -, -, -, -, -, -, -, hop, hlegal⟩ := id hf
    exact yields_store_data (g := fun c => (c.lane.xr (iXs c.word)).setWidth 64) hf rfl (iMode_ne_of_stx hlegal hop) ha
  case data => exact fun c a b v => data_wheelStore c.s a b
  case stSlot =>
    exact fun c l n hf hm hn ho hq hs => yields_store_slot (g := fun c => c.lane.wa) hf rfl hm hn ho hq rfl hs
  case bstSlot =>
    exact fun c l n hf hm hn ho hq hs =>
      yields_store_slot (g := fun c => if c.lane.ba then 1 else 0) hf rfl hm hn ho hq rfl hs
  case bstnSlot =>
    exact fun c l n hf hm hn ho hq hs =>
      yields_store_slot (g := fun c => if c.lane.ba then 0 else 1) hf rfl hm hn ho hq rfl hs

end Sys2Proof.Machine
end

section
/-! PROOF. Integer arithmetic (O30). -/
namespace Sys2Proof.Machine

/-! ### Flags (Table 5.2) -/

theorem stick_false (f : BitVec 10) (n : Nat) : stick f n false = f := rfl

theorem flagsZN_eq (f : BitVec 10) (r : W64) : flagsZN f r = setFlag (setFlag f fZ (r == 0)) fN (r.slt 0) := by
  rw [flagsZN, show (0 : W64) = 0#64 from rfl, BitVec.slt_zero_eq_msb, BitVec.msb_eq_getLsbD_last]

/-- A masked cause does not trap. -/
theorem trapTaken_masked {mask : BitVec 8} {cause : Nat} (h : 8 ≤ cause) (hm : mask.getLsbD (cause - 8) = false) :
    trapTaken mask cause = false := by
  simp [trapTaken, hm, show ¬cause ≤ 7 by omega]

theorem int2_ok {c : Ctx} {f : W64 → W64 → WOut} {b : W64} (h : c.src false = .ok b) : c.int2 f = f c.lane.wa b := by
  simp [Ctx.int2, h]

theorem cmp2_ok {c : Ctx} {f : W64 → W64 → Bool} {b : W64} (h : c.src false = .ok b) :
    c.cmp2 f = c.ok { c.lane with ba := f c.lane.wa b } := by
  simp [Ctx.cmp2, h]

section
variable {c : Ctx} {i : Instr} {l op : Nat} {body : Ctx → WOut} (hf : c.fetched l op)
  (hi : exec i c.s = .next (c.s.runInstr l op 0 body))
include hf hi

theorem yields_intResult {r : W64} {v dz : Bool} (hb : body c = c.intResult r v dz)
    (ht : trapTaken c.ex.mask (if v then trIovf else if dz then trIdz else 0) = false) : Yields i c.s fun t => t = c.ran { c.lane with
      wa := r, flags := stick (setFlag (setFlag (setFlag c.lane.flags fZ (r == 0)) fN (r.slt 0)) fV v) fDZ dz } := by
  rw [← flagsZN_eq]
  exact yields_ran hf hi hb ht rfl rfl

/-- A bitwise operation or a shift: V is cleared. -/
theorem yields_intBits {r q : W64} (hb : body c = c.intResult r false false) (hr : r = q) : Yields i c.s fun t => t = c.ran { c.lane with
      wa := q, flags := setFlag (setFlag (setFlag c.lane.flags fZ (q == 0)) fN (q.slt 0)) fV false } := by
  subst hr
  have h := yields_intResult hf hi hb rfl
  rwa [stick_false] at h

/-- An exact result, narrowed to 64 bits; V, where it does not fit, does not trap. -/
theorem yields_intExact {r : Int} (hb : body c = c.intExact r)
    (ht : c.ex.mask.getLsbD 0 = false ∨ (-(2 ^ 63) ≤ r ∧ r < 2 ^ 63)) : Yields i c.s fun t => t = c.ran { c.lane with
      wa := BitVec.ofInt 64 r,
      flags := setFlag (setFlag (setFlag c.lane.flags fZ (BitVec.ofInt 64 r == 0)) fN ((BitVec.ofInt 64 r).slt 0)) fV
        (r < -(2 ^ 63) || 2 ^ 63 ≤ r) } := by
  have htrap : trapTaken c.ex.mask (if decide (r < -(2 ^ 63) ∨ 2 ^ 63 ≤ r) then trIovf else if false then trIdz else 0) = false := by
    by_cases hv : r < -(2 ^ 63) ∨ 2 ^ 63 ≤ r
    · rw [if_pos (decide_eq_true hv)]
      exact trapTaken_masked (by decide) (ht.resolve_right (by omega))
    · rw [if_neg (by simpa using hv)]
      rfl
  have h := yields_intResult hf hi hb htrap
  rwa [Bool.decide_or, stick_false] at h

/-- A division by zero, not trapped. -/
theorem yields_byZero (hb : body c = c.intResult 0 false true) (ht : c.ex.mask.getLsbD 1 = false) :
    Yields i c.s fun t => t = c.ran { c.lane with
      wa := 0, flags := stick (setFlag (setFlag (setFlag c.lane.flags fZ true) fN false) fV false) fDZ true } :=
  yields_intResult hf hi hb (trapTaken_masked (by decide) ht)

theorem yields_cmp2 {f : W64 → W64 → Bool} {b : W64} {v : Bool} (h : c.src false = .ok b) (hb : body c = c.cmp2 f)
    (hv : f c.lane.wa b = v) : Yields i c.s fun t => t = c.ran { c.lane with ba := v } :=
  hv ▸ yields_ran hf hi (hb.trans (cmp2_ok h)) rfl rfl rfl

end

/-- A remainder is smaller than the divisor. -/
theorem tmod_fits (a : W64) {b : W64} (h : b ≠ 0) : -(2 ^ 63) ≤ a.toInt.tmod b.toInt ∧ a.toInt.tmod b.toInt < 2 ^ 63 := by
  have hb : b.toInt ≠ 0 := fun h0 => h (BitVec.eq_of_toInt_eq h0)
  have hle : b.toInt.natAbs ≤ 2 ^ 63 := by
    have := b.two_mul_toInt_lt
    have := b.le_two_mul_toInt
    omega
  have hlt : (a.toInt.tmod b.toInt).natAbs < b.toInt.natAbs := by
    rw [Int.natAbs_tmod]
    exact Nat.mod_lt _ (Int.natAbs_pos.mpr hb)
  omega

theorem shiftLeft_eq (a : W64) (n : Nat) : a <<< n = if n < 64 then a <<< n else 0 := by
  split
  · rfl
  · exact BitVec.shiftLeft_eq_zero (by omega)

theorem ushiftRight_eq (a : W64) (n : Nat) : a >>> n = if n < 64 then a >>> n else 0 := by
  split
  · rfl
  · exact BitVec.ushiftRight_eq_zero (by omega)

theorem sshiftRight_eq (a : W64) (n : Nat) : a.sshiftRight n = a.sshiftRight (min n 63) := by
  refine BitVec.eq_of_getLsbD_eq fun i hi => ?_
  rw [BitVec.getLsbD_sshiftRight, BitVec.getLsbD_sshiftRight]
  by_cases h : n ≤ 63
  · rw [Nat.min_eq_left h]
  · have hn : ¬n + i < 64 := by omega
    rw [Nat.min_eq_right (by omega), if_neg hn]
    by_cases h0 : i = 0
    · simp [h0, BitVec.msb_eq_getLsbD_last]
    · rw [if_neg (by omega)]

theorem natAbs_eq_ite (a : Int) : (a.natAbs : Int) = if a < 0 then -a else a := by
  split <;> omega

/-- Settles O30: every result reaches WA by intResult, an exact one narrowed (yields_intExact), a bitwise one as it is
(yields_intBits); a comparison only gives BA its truth. A remainder always fits, so that MOD does not trap on V. -/
theorem wheelIntegerArithmetic : Obligations.WheelIntegerArithmetic := by
  unfold Obligations.WheelIntegerArithmetic
  refine ⟨?add, ?sub, ?mul, ?div, ?mod, ?and, ?or, ?xor, ?shl, ?shr, ?sar, ?neg, ?abs, ?ceq, ?cne, ?clt, ?cle, ?cgt, ?cge, ?cltu,
    ?cgeu⟩
  case add => exact fun c l b hf h hm => yields_intExact (body := bAdd) hf rfl (int2_ok h) (.inl hm)
  case sub => exact fun c l b hf h hm => yields_intExact (body := bSub) hf rfl (int2_ok h) (.inl hm)
  case mul => exact fun c l b hf h hm => yields_intExact (body := bMul) hf rfl (int2_ok h) (.inl hm)
  case div =>
    intro c l b hf h hm hz
    by_cases hb : b = 0
    · simp only [if_pos hb]
      exact yields_byZero (body := bDiv) hf rfl ((int2_ok h).trans (if_pos hb)) hz
    · simp only [if_neg hb]
      exact yields_intExact (body := bDiv) hf rfl ((int2_ok h).trans (if_neg hb)) (.inl hm)
  case mod =>
    intro c l b hf h hz
    by_cases hb : b = 0
    · simp only [if_pos hb]
      exact yields_byZero (body := bMod) hf rfl ((int2_ok h).trans (if_pos hb)) hz
    · simp only [if_neg hb]
      exact yields_intExact (body := bMod) hf rfl ((int2_ok h).trans (if_neg hb)) (.inr (tmod_fits _ hb))
  case and => exact fun c l b hf h => yields_intBits hf rfl (int2_ok h) rfl
  case or => exact fun c l b hf h => yields_intBits hf rfl (int2_ok h) rfl
  case xor => exact fun c l b hf h => yields_intBits hf rfl (int2_ok h) rfl
  case shl => exact fun c l b hf h => yields_intBits hf rfl (int2_ok h) (shiftLeft_eq _ _)
  case shr => exact fun c l b hf h => yields_intBits hf rfl (int2_ok h) (ushiftRight_eq _ _)
  case sar => exact fun c l b hf h => yields_intBits hf rfl (int2_ok h) (sshiftRight_eq _ _)
  case neg => exact fun c l hf hm => yields_intExact hf rfl rfl (.inl hm)
  case abs =>
    intro c l hf hm
    rw [← natAbs_eq_ite]
    exact yields_intExact hf rfl rfl (.inl hm)
  case ceq => exact fun c l b hf h => yields_cmp2 hf rfl h rfl rfl
  case cne => exact fun c l b hf h => yields_cmp2 hf rfl h rfl (by rw [bne, beq_eq_decide, decide_not])
  case clt => exact fun c l b hf h => yields_cmp2 hf rfl h rfl rfl
  case cle => exact fun c l b hf h => yields_cmp2 hf rfl h rfl rfl
  case cgt => exact fun c l b hf h => yields_cmp2 hf rfl h rfl rfl
  case cge => exact fun c l b hf h => yields_cmp2 hf rfl h rfl rfl
  case cltu => exact fun c l b hf h => yields_cmp2 hf rfl h rfl rfl
  case cgeu => exact fun c l b hf h => yields_cmp2 hf rfl h rfl rfl

end Sys2Proof.Machine
end

section
/-! PROOF. Binary64 arithmetic (O31). -/
namespace Sys2Proof.Machine

/-! ### Flags and causes of a result -/

/-- The bits below the sign are zero. -/
theorem f64IsZero_eq (v : W64) : f64IsZero v = (v &&& 0x7FFFFFFFFFFFFFFF == 0) := by
  have h : (v &&& 0x7FFFFFFFFFFFFFFF).toNat = f64Mag v := by
    rw [BitVec.toNat_and]
    exact Nat.and_two_pow_sub_one_eq_mod v.toNat 63
  rw [f64IsZero, ← h, beq_eq_decide, beq_eq_decide]
  exact decide_eq_decide.mpr ⟨fun h0 => BitVec.eq_of_toNat_eq h0, fun h0 => congrArg BitVec.toNat h0⟩

/-- No trap of a binary64 operation is enabled. -/
def floatFree (mask : BitVec 8) : Prop := mask.getLsbD 2 = false ∧ mask.getLsbD 3 = false ∧ mask.getLsbD 4 = false

theorem cause_free {mask : BitVec 8} (h : floatFree mask) (r : FRes) : r.cause mask = 0 := by
  obtain ⟨hiv, hdz, hof⟩ := h
  have h1 : trapTaken mask trFiv = false := trapTaken_masked (by decide) hiv
  have h2 : trapTaken mask trFdz = false := trapTaken_masked (by decide) hdz
  have h3 : trapTaken mask trFof = false := trapTaken_masked (by decide) hof
  simp [FRes.cause, h1, h2, h3]

theorem float2_ok {c : Ctx} {f : W64 → W64 → FRes} {b : W64} (h : c.src true = .ok b) :
    c.float2 f = c.floatResult (f c.lane.wa b) := by
  simp [Ctx.float2, h]

section
variable {c : Ctx} {i : Instr} {l op : Nat} {body : Ctx → WOut} (hf : c.fetched l op)
  (hi : exec i c.s = .next (c.s.runInstr l op 0 body))
include hf hi

theorem yields_floatResult {r : FRes} (hb : body c = c.floatResult r) (hc : r.cause c.ex.mask = 0) :
    Yields i c.s fun t => t = c.ran { c.lane with
      wa := r.val,
      flags := setFlag (setFlag (stick (stick (stick (stick (stick c.lane.flags fDZ r.dz) fIV r.iv) fOF r.of_) fUF r.uf) fIX r.ix)
        fZ (r.val &&& 0x7FFFFFFFFFFFFFFF == 0)) fN (r.val.getLsbD 63) } := by
  rw [← f64IsZero_eq]
  exact yields_ran hf hi hb (by rw [hc]; rfl) rfl rfl

theorem yields_fcmp2 {f : W64 → W64 → Bool} {b : W64} (h : c.src true = .ok b) (hfree : floatFree c.ex.mask)
    (hb : body c = c.fcmp2 f) : Yields i c.s fun t => t = c.ran { c.lane with
      ba := f c.lane.wa b, flags := stick c.lane.flags fIV (f64IsSNaN c.lane.wa || f64IsSNaN b) } := by
  have hbody : body c = c.okc { c.lane with ba := f c.lane.wa b, flags := stick c.lane.flags fIV (f64CmpIv c.lane.wa b) }
      (if f64CmpIv c.lane.wa b then trFiv else 0) := by
    rw [hb]
    simp [Ctx.fcmp2, h]
  refine yields_ran hf hi hbody ?_ rfl rfl
  split
  · exact trapTaken_masked (by decide) hfree.1
  · rfl

end

/-- Settles O31: every result leaves its flags by floatResult, and no cause is left where the float traps are masked (cause_free). -/
theorem wheelFloatArithmetic : Obligations.WheelFloatArithmetic := by
  unfold Obligations.WheelFloatArithmetic
  refine ⟨?fadd, ?fsub, ?fmul, ?fdiv, ?fmin, ?fmax, ?fsqrt, ?fabs, ?fneg, ?itof, ?ftoi, ?fceq, ?fcne, ?fclt, ?fcle, ?fcgt, ?fcge⟩
  case fadd => exact fun c l b hf h hfree =>
      yields_floatResult (body := fun c => c.float2 f64Add) hf rfl (float2_ok h) (cause_free hfree _)
  case fsub => exact fun c l b hf h hfree =>
      yields_floatResult (body := fun c => c.float2 f64Sub) hf rfl (float2_ok h) (cause_free hfree _)
  case fmul => exact fun c l b hf h hfree =>
      yields_floatResult (body := fun c => c.float2 f64Mul) hf rfl (float2_ok h) (cause_free hfree _)
  case fdiv => exact fun c l b hf h hfree =>
      yields_floatResult (body := fun c => c.float2 f64Div) hf rfl (float2_ok h) (cause_free hfree _)
  case fmin => exact fun c l b hf h hfree =>
      yields_floatResult (body := fun c => c.float2 f64Min) hf rfl (float2_ok h) (cause_free hfree _)
  case fmax => exact fun c l b hf h hfree =>
      yields_floatResult (body := fun c => c.float2 f64Max) hf rfl (float2_ok h) (cause_free hfree _)
  case fsqrt => exact fun c l hf hfree => yields_floatResult (r := f64Sqrt c.lane.wa) hf rfl rfl (cause_free hfree _)
  case fabs => exact fun c l hf => yields_floatResult (r := .exact (f64Abs c.lane.wa)) hf rfl rfl rfl
  case fneg => exact fun c l hf => yields_floatResult (r := .exact (f64Neg c.lane.wa)) hf rfl rfl rfl
  case itof => exact fun c l hf hfree => yields_floatResult (r := f64OfInt c.lane.wa.toInt) hf rfl rfl (cause_free hfree _)
  case ftoi =>
    intro c l hf hfree
    simp only [← flagsZN_eq]
    exact yields_ran (body := bFtoi) hf rfl rfl (by rw [cause_free hfree]; rfl) rfl rfl
  case fceq => exact fun c l b hf h hfree => yields_fcmp2 (f := f64Eq) hf rfl h hfree rfl
  case fcne => exact fun c l b hf h hfree => yields_fcmp2 (f := fun a b => !f64Eq a b) hf rfl h hfree rfl
  case fclt => exact fun c l b hf h hfree => yields_fcmp2 (f := f64Lt) hf rfl h hfree rfl
  case fcle => exact fun c l b hf h hfree => yields_fcmp2 (f := f64Le) hf rfl h hfree rfl
  case fcgt => exact fun c l b hf h hfree => yields_fcmp2 (f := fun a b => f64Lt b a) hf rfl h hfree rfl
  case fcge => exact fun c l b hf h hfree => yields_fcmp2 (f := fun a b => f64Le b a) hf rfl h hfree rfl

end Sys2Proof.Machine
end

section
/-! PROOF. Index registers, gathers, vectors and the rest (O32). -/
namespace Sys2Proof.Machine

/-! ### Legal words -/

/-- CLF names sticky flags only. -/
theorem iOpnd_of_clf {w : W32} (h : iLegal w = true) (hop : iOp w = 0x79) :
    BitVec.ofNat 10 (iOpnd w) &&& 0x3F8 = BitVec.ofNat 10 (iOpnd w) := by
  simp only [iLegal, hop, show iModes 0x79 = some 0 by decide, zField] at h
  simp at h
  obtain ⟨⟨-, -⟩, h⟩ := h
  have hw : BitVec.ofNat 10 (iOpnd w) = (BitVec.ofNat 20 (iOpnd w)).setWidth 10 := by simp
  rw [hw]
  generalize BitVec.ofNat 20 (iOpnd w) = x at h
  have hx : x = x &&& 0x3F8#20 := calc
    x = x &&& (0x3F8#20 ||| 1047559#20) := by rw [show 0x3F8#20 ||| 1047559#20 = BitVec.allOnes 20 by decide, BitVec.and_allOnes]
    _ = x &&& 0x3F8#20 ||| x &&& 1047559#20 := BitVec.and_or_distrib_left
    _ = x &&& 0x3F8#20 := by rw [h, BitVec.or_zero]
  conv_rhs => rw [hx, BitVec.setWidth_and]
  rfl

/-- RDT names one of five values. -/
theorem iOpnd_lt_of_rdt {w : W32} (h : iLegal w = true) (hop : iOp w = 0x7B) : iOpnd w < 5 := by
  simp only [iLegal, hop, show iModes 0x7B = some 0 by decide] at h
  simp at h
  omega

theorem iCount_pos (w : W32) : 0 < iCount w := Nat.succ_pos _

theorem iCount_le (w : W32) : iCount w ≤ 16 := by
  have : iOpnd w < 2 ^ 20 := Nat.mod_lt _ (by decide)
  unfold iCount
  omega

/-- The immediate modulo 2^16 is OPND modulo 2^16. -/
theorem ofInt16_iImm (w : W32) : BitVec.ofInt 16 (iImm w) = BitVec.ofNat 16 (iOpnd w) := by
  have : iOpnd w < 2 ^ 20 := Nat.mod_lt _ (by decide)
  refine BitVec.eq_of_toNat_eq ?_
  rw [BitVec.toNat_ofInt, BitVec.toNat_ofNat, iImm, sint]
  split <;> omega

/-! ### The registers of a wheel -/

theorem yields_of_eq {i : Instr} {s u : State} {Q : State → Prop} (h : Yields i s fun t => t = u) (q : Q u) : Yields i s Q := by
  obtain ⟨t, ht, rfl⟩ := h
  exact ⟨_, ht, q⟩

section
variable {c : Ctx} {l op : Nat} (hf : c.fetched l op)
include hf

theorem laneAt_ranOn (s : State) (m : Lane) : (c.ranOn s m).laneAt c.ex.k c.copy = c.counted m := by
  obtain ⟨-, -, hcopy, -⟩ := hf
  simp [State.laneAt, ranOn_exec, hcopy]

theorem laneAt_ran (m : Lane) : (c.ran m).laneAt c.ex.k c.copy = c.counted { m with pc := c.lane.pc + 1 } := laneAt_ranOn hf _ _

end

/-- What a store of this execution in its delta replaces of a slot's copy is the value. -/
theorem slotView_quality (c : Ctx) (n : Nat) : (c.slotView n).quality = ((nget none c.ex.snap n).getD .init).quality := by
  unfold Ctx.slotView
  extract_lets snap
  split <;> rfl

theorem slotView_stamp (c : Ctx) (n : Nat) : (c.slotView n).stamp = ((nget none c.ex.snap n).getD .init).stamp := by
  unfold Ctx.slotView
  extract_lets snap
  split <;> rfl

/-! ### Gather (R122) -/

section
variable (c : Ctx) (a : Nat)

/-- Element i of a gather is faulted. -/
def Ctx.gathFault (i : Nat) : Bool := (c.slotView (c.gathSlot a i)).faulted

/-- The value that a gather takes for element i: the signal's substitute where it is faulted. -/
def Ctx.gathValue (i : Nat) : W64 :=
  if c.gathFault a i then (c.s.sig (c.s.slot c.ex.k (c.gathSlot a i)).sig).subst else (c.slotView (c.gathSlot a i)).value

theorem gathLoad_succ (i : Nat) (l : Lane) : c.gathLoad a (i + 1) l = { (c.gathLoad a i l).setV i (c.gathValue a i) with
    gq := if c.gathFault a i then (c.gathLoad a i l).gq ||| BitVec.ofNat 16 (2 ^ i) else (c.gathLoad a i l).gq } := by
  rw [Ctx.gathLoad]
  by_cases h : c.gathFault a i = true
  · rw [Ctx.gathValue, if_pos h, if_pos h]
    exact if_pos h
  · rw [Ctx.gathValue, if_neg h, if_neg h]
    exact if_neg h

/-- A gather changes V and GQ only. -/
theorem gathLoad_frame (n : Nat) (l : Lane) :
    c.gathLoad a n l = { l with v := (c.gathLoad a n l).v, gq := (c.gathLoad a n l).gq } := by
  induction n with
  | zero => rfl
  | succ n ih => rw [gathLoad_succ, ih]; rfl

theorem gathLoad_vr (n : Nat) (l : Lane) {i : Nat} (h : i < n) : (c.gathLoad a n l).vr i = c.gathValue a i := by
  induction n with
  | zero => omega
  | succ n ih =>
    rw [gathLoad_succ]
    by_cases hi : i = n
    · subst hi
      exact nget_nset_same _ _ _ _
    · exact (nget_nset_ne _ _ _ _ hi).trans (ih (by omega))

theorem gathLoad_gq {n : Nat} (hn : n ≤ 16) (l : Lane) (i : Nat) :
    (c.gathLoad a n l).gq.getLsbD i = (l.gq.getLsbD i || (decide (i < n) && c.gathFault a i)) := by
  induction n with
  | zero => simp [Ctx.gathLoad]
  | succ n ih =>
    have hbit : (BitVec.ofNat 16 (2 ^ n)).getLsbD i = decide (i = n) := by
      rw [BitVec.getLsbD_ofNat, Nat.testBit_two_pow]
      by_cases hi : i = n
      · simp [hi, show n < 16 by omega]
      · simp [hi, Ne.symm hi]
    have hlt : decide (i < n + 1) = (decide (i < n) || decide (i = n)) := by
      rw [← Bool.decide_or]
      exact decide_eq_decide.mpr Nat.lt_succ_iff_lt_or_eq
    rw [gathLoad_succ, hlt, Bool.and_or_distrib_right, ← Bool.or_assoc, ← ih (by omega)]
    by_cases hfault : c.gathFault a n = true
    · rw [if_pos hfault, BitVec.getLsbD_or, hbit]
      congr 1
      by_cases hi : i = n
      · simp [hi, hfault]
      · simp [hi]
    · rw [if_neg hfault]
      by_cases hi : i = n
      · simp [hi, hfault]
      · simp [hi]

end

theorem getLsbD_stick (f : BitVec 10) (b : Bool) : (stick f fGF b).getLsbD 8 = (f.getLsbD 8 || b) := by
  cases b with
  | false => simp [stick]
  | true =>
    rw [stick, if_pos rfl, BitVec.getLsbD_or]
    exact congrArg _ (by decide)

/-! ### Reductions (R122) -/

/-- One step of a reduction: the result of f, and the exceptions of every step. -/
def FRes.reduce (f : W64 → W64 → FRes) (acc : FRes) (v : W64) : FRes :=
  let r := f acc.val v
  ⟨r.val, acc.iv || r.iv, acc.dz || r.dz, acc.of_ || r.of_, acc.uf || r.uf, acc.ix || r.ix⟩

/-- What a reduction starts from: V0, a lone signalling NaN quietened. -/
def Ctx.reduceStart (c : Ctx) (f : W64 → W64 → FRes) : FRes :=
  if f64IsSNaN (c.lane.vr 0) && iCount c.word == 1 then f (c.lane.vr 0) (c.lane.vr 0) else .exact (c.lane.vr 0)

/-- The reduction of V0 to V(N - 1). -/
def Ctx.reduced (c : Ctx) (f : W64 → W64 → FRes) : FRes :=
  ((List.range (iCount c.word - 1)).map fun i => c.lane.vr (i + 1)).foldl (FRes.reduce f) (c.reduceStart f)

theorem vecFold_eq (c : Ctx) (f : W64 → W64 → FRes) : c.vecFold f = c.okc { c.lane with
    wa := (c.reduced f).val, flags := flagsFloat c.lane.flags (c.reduced f) } ((c.reduced f).cause c.ex.mask) := by
  obtain ⟨n, hn⟩ : ∃ n, iCount c.word = n + 1 := ⟨iCount c.word - 1, by have := iCount_pos c.word; omega⟩
  have hvs : (List.range (iCount c.word)).map c.lane.vr = c.lane.vr 0 :: (List.range n).map fun i => c.lane.vr (i + 1) := by
    rw [hn, List.range_succ_eq_map, List.map_cons, List.map_map]
    rfl
  unfold Ctx.vecFold Ctx.reduced Ctx.reduceStart
  rw [hvs]
  simp only [hn, List.length_cons, List.length_map, List.length_range]
  rfl

theorem foldl_reduce_val (f : W64 → W64 → FRes) (vs : List W64) (acc : FRes) :
    (vs.foldl (FRes.reduce f) acc).val = vs.foldl (fun a v => (f a v).val) acc.val := by
  induction vs generalizing acc with
  | nil => rfl
  | cons v vs ih => exact ih _

/-- An exception that no step raises is not raised by the reduction. -/
theorem foldl_reduce_dz {f : W64 → W64 → FRes} (hf : ∀ a b, (f a b).dz = false) (vs : List W64) {acc : FRes} (h : acc.dz = false) :
    (vs.foldl (FRes.reduce f) acc).dz = false := by
  induction vs generalizing acc with
  | nil => exact h
  | cons v vs ih => exact ih (by simp [FRes.reduce, h, hf])

theorem foldl_reduce_of {f : W64 → W64 → FRes} (hf : ∀ a b, (f a b).of_ = false) (vs : List W64) {acc : FRes} (h : acc.of_ = false) :
    (vs.foldl (FRes.reduce f) acc).of_ = false := by
  induction vs generalizing acc with
  | nil => exact h
  | cons v vs ih => exact ih (by simp [FRes.reduce, h, hf])

theorem reduced_val (c : Ctx) (f : W64 → W64 → FRes) : (c.reduced f).val =
    if iCount c.word = 1 then if f64IsSNaN (c.lane.vr 0) then (f (c.lane.vr 0) (c.lane.vr 0)).val else c.lane.vr 0
    else (List.range (iCount c.word - 1)).foldl (fun a i => (f a (c.lane.vr (i + 1))).val) (c.lane.vr 0) := by
  rw [Ctx.reduced, foldl_reduce_val, List.foldl_map, Ctx.reduceStart]
  by_cases h1 : iCount c.word = 1
  · simp only [h1]
    by_cases hs : f64IsSNaN (c.lane.vr 0) = true <;> simp [hs]
  · simp [h1]

theorem reduced_dz {c : Ctx} {f : W64 → W64 → FRes} (hf : ∀ a b, (f a b).dz = false) : (c.reduced f).dz = false := by
  refine foldl_reduce_dz hf _ ?_
  unfold Ctx.reduceStart
  split
  · exact hf _ _
  · rfl

theorem reduced_of {c : Ctx} {f : W64 → W64 → FRes} (hf : ∀ a b, (f a b).of_ = false) : (c.reduced f).of_ = false := by
  refine foldl_reduce_of hf _ ?_
  unfold Ctx.reduceStart
  split
  · exact hf _ _
  · rfl

theorem f64Round_dz (neg : Bool) (m : Nat) (e : Int) (sticky : Bool) : (f64Round neg m e sticky).dz = false := by
  unfold f64Round
  split
  · rfl
  · extract_lets
    split
    extract_lets
    split <;> rfl

theorem f64NaN2_dz (a b : W64) : (f64NaN2 a b).dz = false := by
  unfold f64NaN2
  split <;> rfl

theorem f64Add_dz (a b : W64) : (f64Add a b).dz = false := by
  unfold f64Add
  split
  · exact f64NaN2_dz a b
  · split
    · split <;> rfl
    · split
      · rfl
      · extract_lets sc sum
        split
        · rfl
        · exact f64Round_dz _ _ _ _

/-- A cause that is not met, or that is masked, does not trap. -/
theorem cause_eq_zero {r : FRes} {mask : BitVec 8} (hiv : mask.getLsbD 2 = false) (hdz : r.dz = false)
    (hof : r.of_ = false ∨ mask.getLsbD 4 = false) : r.cause mask = 0 := by
  have h1 : trapTaken mask trFiv = false := trapTaken_masked (by decide) hiv
  rcases hof with hof | hof
  · simp [FRes.cause, h1, hdz, hof]
  · have h2 : trapTaken mask trFof = false := trapTaken_masked (by decide) hof
    simp [FRes.cause, h1, hdz, h2]

/-- A reduction that traps on nothing leaves its result in WA, and V, BA, the tills, the registers and the image but for the
execution. -/
theorem yields_vecFold {c : Ctx} {i : Instr} {l op : Nat} {f : W64 → W64 → FRes} (hf : c.fetched l op)
    (hi : exec i c.s = .next (c.s.runInstr l op 0 fun c => c.vecFold f)) (hc : (c.reduced f).cause c.ex.mask = 0) :
    Yields i c.s fun t => (t.laneAt c.ex.k c.copy).wa =
        (if iCount c.word = 1 then if f64IsSNaN (c.lane.vr 0) then (f (c.lane.vr 0) (c.lane.vr 0)).val else c.lane.vr 0
          else (List.range (iCount c.word - 1)).foldl (fun a i => (f a (c.lane.vr (i + 1))).val) (c.lane.vr 0)) ∧
      (t.laneAt c.ex.k c.copy).pc = c.lane.pc + 1 ∧ (t.laneAt c.ex.k c.copy).v = c.lane.v ∧
      (t.laneAt c.ex.k c.copy).ba = c.lane.ba ∧ t.tillMem = c.s.tillMem ∧ t.regs = c.s.regs ∧
      t.image = { c.s.image with execs := t.image.execs } := by
  refine yields_of_eq (yields_ran hf hi (vecFold_eq c f) (by rw [hc]; rfl) rfl rfl) ?_
  simp only [laneAt_ran hf]
  exact ⟨reduced_val c f, rfl, rfl, rfl, rfl, rfl, rfl⟩

/-! ### The median (R122) -/

theorem vmedInsert_eq (v : W64) (vs : List W64) : vmedInsert v vs = vs.orderedInsert (fun a b => vmedKey a ≤ vmedKey b) v := by
  induction vs with
  | nil => rfl
  | cons u us ih => rw [vmedInsert, List.orderedInsert, ih]

/-- The values in the order of VMED. -/
def vmedSort (vs : List W64) : List W64 := vs.foldr vmedInsert []

theorem vmedSort_eq (vs : List W64) : vmedSort vs = vs.insertionSort (fun a b => vmedKey a ≤ vmedKey b) := by
  rw [vmedSort, funext₂ vmedInsert_eq]
  rfl

theorem vmedSort_perm (vs : List W64) : (vmedSort vs).Perm vs := vmedSort_eq vs ▸ List.perm_insertionSort _ vs

theorem vmedSort_sorted (vs : List W64) : (vmedSort vs).Pairwise fun a b => vmedKey a ≤ vmedKey b := by
  rw [vmedSort_eq]
  have : Std.Total fun a b : W64 => vmedKey a ≤ vmedKey b := ⟨fun a b => le_total _ _⟩
  have : IsTrans W64 fun a b => vmedKey a ≤ vmedKey b := ⟨fun a b c => le_trans⟩
  exact List.pairwise_insertionSort _ vs

theorem length_filter_le_of_drop {p : W64 → Bool} {vs : List W64} {i : Nat} (h : ∀ v ∈ vs.drop i, ¬p v) :
    (vs.filter p).length ≤ i := by
  rw [← List.take_append_drop i vs, List.filter_append, List.filter_eq_nil_iff.mpr h, List.append_nil]
  exact (List.length_filter_le _ _).trans (List.length_take_le _ _)

theorem length_filter_le_of_take {p : W64 → Bool} {vs : List W64} {i : Nat} (h : ∀ v ∈ vs.take i, ¬p v) :
    (vs.filter p).length ≤ vs.length - i := by
  conv_lhs => rw [← List.take_append_drop i vs, List.filter_append, List.filter_eq_nil_iff.mpr h, List.nil_append]
  exact (List.length_filter_le _ _).trans_eq List.length_drop

section
variable {vs : List W64} (hs : vs.Pairwise fun a b => vmedKey a ≤ vmedKey b) {i : Nat} (hi : i < vs.length)
include hs

/-- In a sorted list at most i values lie below the one at place i. -/
theorem length_below : (vs.filter fun v => decide (vmedKey v < vmedKey vs[i])).length ≤ i := by
  refine length_filter_le_of_drop fun v hv => ?_
  have hd := hs.drop (i := i)
  rw [List.drop_eq_getElem_cons hi] at hd hv
  rcases List.mem_cons.mp hv with rfl | hv
  · simp
  · simpa using (List.pairwise_cons.mp hd).1 v hv

/-- In a sorted list only the values behind the one at place i lie above it. -/
theorem length_above : (vs.filter fun v => decide (vmedKey vs[i] < vmedKey v)).length ≤ vs.length - (i + 1) := by
  refine length_filter_le_of_take fun v hv => ?_
  have hd := hs.take (i := i + 1)
  rw [List.take_succ_eq_append_getElem hi] at hd hv
  rcases List.mem_append.mp hv with hv | hv
  · simpa using (List.pairwise_append.mp hd).2.2 v hv _ (List.mem_singleton.mpr rfl)
  · simp [List.mem_singleton.mp hv]

end

/-- The value that VMED takes. -/
def vmedOf (vs : List W64) : W64 := (vmedSort vs).getD (((vmedSort vs).length - 1) / 2) 0

/-- VMED takes a median. -/
theorem vmedOf_spec {vs : List W64} (h : 0 < vs.length) : vmedOf vs ∈ vs ∧
    (vs.filter fun v => decide (vmedKey v < vmedKey (vmedOf vs))).length ≤ (vs.length - 1) / 2 ∧
    (vs.filter fun v => decide (vmedKey (vmedOf vs) < vmedKey v)).length ≤ vs.length / 2 := by
  have hperm := vmedSort_perm vs
  have hlen := hperm.length_eq
  have hi : (vs.length - 1) / 2 < (vmedSort vs).length := by omega
  have hw : vmedOf vs = (vmedSort vs)[(vs.length - 1) / 2] := by
    rw [vmedOf, hlen, List.getD_eq_getElem _ _ hi]
  rw [hw]
  refine ⟨hperm.mem_iff.mp (List.getElem_mem hi), ?_, ?_⟩
  · rw [← (hperm.filter _).length_eq]
    exact length_below (vmedSort_sorted vs) hi
  · rw [← (hperm.filter _).length_eq]
    refine (length_above (vmedSort_sorted vs) hi).trans ?_
    omega

theorem setWidth_eq_ofNat {n : Nat} (x : BitVec n) : x.setWidth 64 = BitVec.ofNat 64 x.toNat := by
  simp

theorem yields_slotOp {c : Ctx} {i : Instr} {l op n : Nat} {g : Copy → W64} {v : W64} (hf : c.fetched l op) (hn : c.slotNo = some n)
    (hi : exec i c.s = .next (c.s.runInstr l op 0 fun c => c.slotOp g)) (hv : g (c.slotView n) = v) :
    Yields i c.s fun t => t = c.ran { c.lane with wa := v } := by
  subst hv
  exact yields_ran hf hi (m := { c.lane with wa := g (c.slotView n) }) (cause := 0) (by simp only [Ctx.slotOp, hn]; rfl) rfl rfl rfl

/-- The registers after a gather, before its flag. -/
def Ctx.gathered (c : Ctx) (a : Nat) : Lane := c.gathLoad a (iCount c.word) { c.lane with v := [], gq := 0 }

/-- GATH where every slot it names is in use. -/
theorem bGath_used {c : Ctx} {a : Nat} (ha : c.addr ((iCount c.word + 3) / 4) = some a)
    (hall : ∀ i < iCount c.word, c.gathSlot a i < 4096 ∧ (c.s.slot c.ex.k (c.gathSlot a i)).used = true) :
    bGath c = c.okc { c.gathered a with flags := stick (c.gathered a).flags fGF ((c.gathered a).gq != 0) }
      (if (c.gathered a).gq = 0 then 0 else trGather) := by
  have hslots : ((List.range (iCount c.word)).all fun i =>
      decide (c.gathSlot a i < 4096) && (c.s.slot c.ex.k (c.gathSlot a i)).used) = true := by
    rw [List.all_eq_true]
    intro i hi
    simpa using hall i (List.mem_range.mp hi)
  simp only [bGath, ha, hslots, if_true]
  rfl

/-- GATH where every slot it names is in use, its trap masked off. -/
theorem yields_gath {c : Ctx} {l : Fin 16} {a : Nat} (hf : c.fetched l.val 0x72) (ha : c.addr ((iCount c.word + 3) / 4) = some a)
    (hall : ∀ i < iCount c.word, c.gathSlot a i < 4096 ∧ (c.s.slot c.ex.k (c.gathSlot a i)).used = true)
    (hmask : c.ex.mask.getLsbD 5 = false) : Yields (.wGath l) c.s fun t =>
      (t.laneAt c.ex.k c.copy).wa = c.lane.wa ∧ (t.laneAt c.ex.k c.copy).ba = c.lane.ba ∧
      (t.laneAt c.ex.k c.copy).pc = c.lane.pc + 1 ∧
      (t.laneAt c.ex.k c.copy).flags.getLsbD 8 = (c.lane.flags.getLsbD 8 || (t.laneAt c.ex.k c.copy).gq != 0) ∧
      ∀ i < iCount c.word, (t.laneAt c.ex.k c.copy).gq.getLsbD i = c.gathFault a i ∧
        (t.laneAt c.ex.k c.copy).vr i = c.gathValue a i := by
  have hframe : c.gathered a = { c.lane with v := (c.gathered a).v, gq := (c.gathered a).gq } := gathLoad_frame c a _ _
  have htrap : trapTaken c.ex.mask (if (c.gathered a).gq = 0 then 0 else trGather) = false := by
    split
    · rfl
    · exact trapTaken_masked (by decide) hmask
  refine yields_of_eq (yields_ran hf rfl (bGath_used ha hall) htrap (by rw [hframe]) (by rw [hframe])) ?_
  simp only [laneAt_ran hf]
  refine ⟨by rw [hframe]; rfl, by rw [hframe]; rfl, rfl, ?_, fun i hi => ⟨?_, gathLoad_vr c a _ _ hi⟩⟩
  · rw [hframe]
    exact getLsbD_stick _ _
  · exact (gathLoad_gq c a (iCount_le c.word) _ i).trans (by simp [hi])

/-! ### O32 -/

/-- Settles O32: GATH by what gathLoad leaves of each place, the reductions by vecFold as a fold of the operation, VMED by the sorted
list (vmedOf_spec), and the rest as bodies that only change registers. -/
theorem wheelIndexVectorAndMisc : Obligations.WheelIndexVectorAndMisc := by
  unfold Obligations.WheelIndexVectorAndMisc
  refine ⟨?ldx, ?addx, ?ldwx, ?ldq, ?ldts, ?gath, ?vget, ?vmax, ?vmin, ?vsum, ?vmed, ?ldgq, ?clf, ?fire, ?rdt⟩
  case ldx =>
    intro c l v hf h
    exact yields_ran (body := bLdx) (cause := 0) hf rfl (by simp only [bLdx, h]; rfl) rfl rfl rfl
  case addx =>
    intro c l hf
    rw [← ofInt16_iImm]
    exact yields_ran (body := bAddx) (cause := 0) hf rfl rfl rfl rfl rfl
  case ldwx =>
    intro c l hf
    rw [← setWidth_eq_ofNat]
    exact yields_ran (cause := 0) hf rfl rfl rfl rfl rfl
  case ldq =>
    intro c l n hf hn
    exact yields_slotOp hf hn rfl (by rw [setWidth_eq_ofNat, slotView_quality])
  case ldts =>
    intro c l n hf hn
    exact yields_slotOp hf hn rfl (slotView_stamp c n)
  case gath =>
    exact fun c l a hf ha hall hmask => yields_gath hf ha hall hmask
  case vget => exact fun c l hf => yields_ran (body := bVget) (cause := 0) hf rfl rfl rfl rfl rfl
  case vmax =>
    exact fun c l hf hiv => yields_vecFold hf rfl (cause_eq_zero hiv (reduced_dz fun _ _ => rfl) (.inl (reduced_of fun _ _ => rfl)))
  case vmin =>
    exact fun c l hf hiv => yields_vecFold hf rfl (cause_eq_zero hiv (reduced_dz fun _ _ => rfl) (.inl (reduced_of fun _ _ => rfl)))
  case vsum => exact fun c l hf hiv hof => yields_vecFold hf rfl (cause_eq_zero hiv (reduced_dz f64Add_dz) (.inr hof))
  case vmed =>
    intro c l hf
    have hmed := vmedOf_spec (vs := (List.range (iCount c.word)).map c.lane.vr) (by simp [iCount_pos])
    obtain ⟨hmem, hbelow, habove⟩ := hmed
    refine yields_of_eq (yields_ran (body := bVmed) (cause := 0) hf rfl rfl rfl rfl rfl) ?_
    simp only [laneAt_ran hf]
    exact ⟨hmem, hbelow, habove, rfl⟩
  case ldgq =>
    intro c l hf
    rw [← setWidth_eq_ofNat]
    exact yields_ran (cause := 0) hf rfl rfl rfl rfl rfl
  case clf =>
    intro c l hf
    obtain ⟨-, -, -, -, -, -, -, -, hop, hlegal⟩ := id hf
    rw [← iOpnd_of_clf hlegal hop]
    exact yields_ran (body := bClf) (cause := 0) hf rfl rfl rfl rfl rfl
  case fire =>
    intro c l hf h
    exact yields_ran (body := bFire) (cause := 0) hf rfl (if_neg (by tauto)) rfl rfl rfl
  case rdt =>
    intro c l hf
    obtain ⟨-, -, -, -, -, -, -, -, hop, hlegal⟩ := id hf
    have ho := iOpnd_lt_of_rdt hlegal hop
    obtain h | h | h | h | h : iOpnd c.word = 0 ∨ iOpnd c.word = 1 ∨ iOpnd c.word = 2 ∨ iOpnd c.word = 3 ∨ iOpnd c.word = 4 := by
      omega
    all_goals simp only [h]
    · refine yields_ran (body := bRdt) (cause := 0) hf rfl ?_ rfl rfl rfl
      cases hts : c.ex.tsValid <;> simp only [bRdt, h, hts] <;> rfl
    · exact yields_ran (body := bRdt) (cause := 0) hf rfl (by simp only [bRdt, h]; rfl) rfl rfl rfl
    · exact yields_ran (body := bRdt) (cause := 0) hf rfl (by simp only [bRdt, h]; rfl) rfl rfl rfl
    · exact yields_ran (body := bRdt) (cause := 0) hf rfl (by simp only [bRdt, h, setWidth_eq_ofNat]; rfl) rfl rfl rfl
    · exact yields_ran (body := bRdt) (cause := 0) hf rfl (by simp only [bRdt, h, setWidth_eq_ofNat]; rfl) rfl rfl rfl

end Sys2Proof.Machine
end

section
/-! PROOF. Function blocks (O34). -/
namespace Sys2Proof.Machine

/-! ### The body of a function block (R126) -/

/-- What a function block at address a sees. -/
def Ctx.fbIn (c : Ctx) (a : Nat) : FbIn :=
  ⟨fun i => c.data (a + i), (c.data a).toNat, c.lane.wa, c.lane.ba, dtSeconds c.ex.dt, c.ex.relTl.toNat, bit (c.data a).toNat 0⟩

/-- The words that an accepted block leaves, by their place: its own, and its first word with INIT set and its status. -/
def Ctx.fbWrites (c : Ctx) (b : Fb) (a : Nat) : List (Nat × W64) :=
  (b.run (c.fbIn a)).writes ++ [(0, BitVec.ofNat 64 (bits (c.data a).toNat 7 1 * 2 + 1 + (b.run (c.fbIn a)).status))]

section
variable {c : Ctx} {b : Fb} {a : Nat} (ha : c.addr b.words = some a)
include ha

theorem fblock_accepted (h : b.accepts (c.fbIn a).w (c.fbIn a).ctrl c.lane.wa = true) :
    c.fblock b = { c.ok { c.lane with wa := (b.run (c.fbIn a)).wa, ba := (b.run (c.fbIn a)).ba } with
      writes := (c.fbWrites b a).map fun (x : Nat × W64) => (a + x.1, x.2) } := by
  simp only [Ctx.fblock, ha]
  rw [Ctx.fbWrites, List.map_append]
  exact if_pos h

/-- A rejected block holds its output. -/
theorem fblock_rejected (h : ¬b.accepts (c.fbIn a).w (c.fbIn a).ctrl c.lane.wa = true) :
    c.fblock b = { c.okc { c.lane with
        wa := (match b.out with | some i => c.data (a + i) | none => c.lane.wa),
        ba := true, flags := stick c.lane.flags fFBE true } trFbparam with
      writes := [(a, c.data a ||| 0x8000)] } := by
  simp only [Ctx.fblock, ha]
  exact if_neg h

end

/-- Data words written one after another at places from a. -/
theorem stored_map (c : Ctx) (s : State) (a : Nat) (ws : List (Nat × W64)) :
    c.stored s (ws.map fun x => (a + x.1, x.2)) = foldState (fun s x => s.wheelStore c (a + x.1) x.2) ws s :=
  List.foldl_map

/-- A function block whose words lie in the region, FBPARAM masked off. -/
theorem yields_fblock {c : Ctx} {i : Instr} {l op a : Nat} {b : Fb} (hf : c.fetched l op) (ha : c.addr b.words = some a)
    (hm : c.ex.mask.getLsbD 6 = false) (hi : exec i c.s = .next (c.s.runInstr l op 0 fun c => c.fblock b)) :
    Yields i c.s fun t => t = if b.accepts (c.fbIn a).w (c.fbIn a).ctrl c.lane.wa then
        c.ranOn (foldState (fun s (x : Nat × W64) => s.wheelStore c (a + x.1) x.2) (c.fbWrites b a) c.s)
          { c.lane with wa := (b.run (c.fbIn a)).wa, ba := (b.run (c.fbIn a)).ba, pc := c.lane.pc + 1 }
      else
        c.ranOn (c.s.wheelStore c a (c.data a ||| 0x8000)) { c.lane with
          wa := (match b.out with | some i => c.data (a + i) | none => c.lane.wa), ba := true, flags := stick c.lane.flags fFBE true,
          pc := c.lane.pc + 1 } := by
  by_cases h : b.accepts (c.fbIn a).w (c.fbIn a).ctrl c.lane.wa = true
  · simp only [if_pos h, ← stored_map]
    exact yields_silent hf hi (fblock_accepted ha h) rfl rfl rfl rfl rfl
  · simp only [if_neg h]
    have htrap : trapTaken c.ex.mask trFbparam = false := trapTaken_masked (by decide) hm
    exact yields_silent hf hi (fblock_rejected ha h) rfl htrap rfl rfl rfl

/-! ### O34 -/

/-- Settles O34: every block runs by fblock (yields_fblock); what LIM limits, and what a block gives at first, by its equations. -/
theorem wheelFunctionBlocks : Obligations.WheelFunctionBlocks := by
  unfold Obligations.WheelFunctionBlocks
  refine ⟨?pid, ?ramp, ?lim, ?filt, ?roc, ?hyst, ?tmr, ?limits, ?first, ?off⟩
  case pid => exact fun c l a ⟨hf, ha, hm⟩ => yields_fblock (b := fbPid) hf ha hm rfl
  case ramp => exact fun c l a ⟨hf, ha, hm⟩ => yields_fblock (b := fbRamp) hf ha hm rfl
  case lim => exact fun c l a ⟨hf, ha, hm⟩ => yields_fblock (b := fbLim) hf ha hm rfl
  case filt => exact fun c l a ⟨hf, ha, hm⟩ => yields_fblock (b := fbFilt) hf ha hm rfl
  case roc => exact fun c l a ⟨hf, ha, hm⟩ => yields_fblock (b := fbRoc) hf ha hm rfl
  case hyst => exact fun c l a ⟨hf, ha, hm⟩ => yields_fblock (b := fbHyst) hf ha hm rfl
  case tmr => exact fun c l a ⟨hf, ha, hm⟩ => yields_fblock (b := fbTmr) hf ha hm rfl
  case limits => exact fun i => ⟨rfl, rfl, rfl⟩
  case first =>
    intro i hi
    simp [fbRamp, fbFilt, fbRoc, hi]
  case off =>
    intro i hba htype
    simp [fbTmr, hba, htype]

end Sys2Proof.Machine
end

section
/-! PROOF. END on A7 with a test of the compare unit due (O27). -/
namespace Sys2Proof.Machine

/-- An END leaves no test of the compare unit due: what was due is made at once. -/
theorem cmpAfterEnd_cmpDue (s : State) : (s.cmpAfterEnd true).safety.cmpDue = false := by
  unfold State.cmpAfterEnd
  split
  · rfl
  · exact eq_false_of_ne_true ‹_›

/-- Task 0 of A7 on logical wheels 14 and 15, its execution at an END (0x01000000) that neither wheel has run yet, with a test of the
compare unit due. -/
def endDueExec : Exec := { lateExec with k := 0, state := .running, lanes := [Lane.init, Lane.init] }

def endDue : State :=
  { ((State.reset.setFld F.TASK_OWNER_ACCOUNT 7).setFld F.TASK_CFG_LWHEEL 14).setFld F.PROG_CODE_CODE_UNITS 1 with
    image.execs := [(0, some endDueExec)], image.code := [(0, 0x01000000)], safety.cmpDue := true }

def endDueCtx : Ctx := ⟨endDue, endDueExec, 0, Lane.init, 0x01000000⟩

theorem endDue_fetched : endDueCtx.fetched 14 0x01 := by decide +kernel

/-- Refutes O27 in its clause of the first END of A7, which names the whole state it leaves, on every state, one with a test of the
compare unit due already too: on endDue the END makes that test (R333), which the statement's state still has due. In a run a test
gets due at the last END of an execution and is made in the same instruction; the statement does not exclude the state. -/
theorem not_wheelControlFlow : ¬ Obligations.WheelControlFlow := by
  unfold Obligations.WheelControlFlow
  rintro ⟨-, -, hfirst, -⟩
  obtain ⟨t, ht, htold⟩ := hfirst endDueCtx 14 0 true endDue_fetched (by decide) (.inr rfl) rfl
  obtain rfl : (endDue.runInstr 14 0x01 0 bEnd).cmpAfterEnd true = t := Host.Outcome.next.inj ht
  have hmade := cmpAfterEnd_cmpDue (endDue.runInstr 14 0x01 0 bEnd)
  rw [htold] at hmade
  exact absurd hmade (by decide)

end Sys2Proof.Machine
end

section
/-! PROOF. POPT of a word with a double error, in an account that takes a fault from it (O33). -/
namespace Sys2Proof.Machine

/-- Task 0 of account 0 on logical wheel 0, its execution at a POPT of till 0 (0x81000000). -/
def popExec : Exec := { lateExec with k := 0, state := .running }

/-- The account runs, the task is present and consumer of the till, one word is unread, and a double error of the till's memory is a
fault of the account (R91). -/
def faultingPop : State :=
  { ((((((State.reset.setFld F.TASK_CFG_PRESENT 1).setFld F.ACCT_STATUS_STATE aRunning).setFld F.PROG_CODE_CODE_UNITS 1).setFld
      F.TILL_CFG_SIZE_LOG2 1).setFld F.TILL_CFG_CONS_KIND ekTask).setFld F.TILL_CFG_ECC2_FAULT 1).setTill 0 0
      { Till.init with wr := 1 } with
    image.execs := [(0, some popExec)], image.code := [(0, 0x81000000)] }

def faultingPopCtx : Ctx := ⟨faultingPop, popExec, 0, Lane.init, 0x81000000⟩

theorem faultingPop_fetched : faultingPopCtx.fetched 0 0x81 := by decide +kernel

theorem faultingPop_consumer : faultingPopCtx.logged = none ∧ faultingPopCtx.consumer = true := by decide +kernel

/-- The fault of the account abandons the execution that reads the word. -/
theorem faultingPop_stops : (faultingPop.runInstr 0 0x81 0 (bPopt .double)).exec? 0 = none := by decide +kernel

/-- Refutes O33 in its clause of a POPT whose word has a correctable or an uncorrectable error, which says that the execution goes on
with what the till's read gives: on faultingPop the double error faults the account (TILL_CFG.ECC2_FAULT), and the execution of the
task that reads ends with it, so that it has no registers to put the idle item in. -/
theorem not_wheelTillsAndRequests : ¬ Obligations.WheelTillsAndRequests := by
  unfold Obligations.WheelTillsAndRequests
  rintro ⟨-, -, -, hpop, -⟩
  obtain ⟨t, ht, htold⟩ := hpop faultingPopCtx 0 .double faultingPop_fetched faultingPop_consumer.1 faultingPop_consumer.2
  obtain rfl : faultingPop.runInstr 0 0x81 0 (bPopt .double) = t := Host.Outcome.next.inj ht
  have hopen := (congrArg (State.exec? · 0) htold).trans (ranOn_exec faultingPopCtx _ _)
  exact Option.some_ne_none _ (hopen.symm.trans faultingPop_stops)

end Sys2Proof.Machine
end

section
/-! PROOF. SNAPSHOT_COMPLETE of an execution that is listed under another task's number (O36). -/
namespace Sys2Proof.Machine

/-- An execution of task 4 that waits for its snapshot, entered under task 3, whose snapshot is the next to be taken. -/
def misfiledExec : Exec := { lateExec with k := 4, state := .snapshot }

def misfiled : State := { State.reset with image.execs := [(3, some misfiledExec)], image.snapQ := [3] }

theorem misfiled_waits : misfiled.image.snapQ.head? = some 3 ∧ (misfiled.exec? 3).isSome = true := by decide +kernel

theorem misfiled_stays : ((misfiled.snapshotDone 3 0).exec? 3).map (·.state) = some .snapshot := by decide +kernel

/-- Refutes O36 in its clause of SNAPSHOT_COMPLETE, which asks that the execution leave the snapshot state on every state, one that
lists it under another task's number too: on misfiled the execution goes on under its own number 4, and what stands under 3 still
waits. No release makes such a list, and the statement does not exclude it. -/
theorem not_taskReleaseSnapshotAndMerge : ¬ Obligations.TaskReleaseSnapshotAndMerge := by
  unfold Obligations.TaskReleaseSnapshotAndMerge
  rintro ⟨-, -, -, -, -, hsnap, -⟩
  obtain ⟨t, ht, -, -, -, hleft, -⟩ := hsnap misfiled 3 0 misfiled_waits.1 misfiled_waits.2
  obtain rfl : misfiled.snapshotDone 3 0 = t := Host.Outcome.next.inj ht
  exact hleft misfiled_stays

end Sys2Proof.Machine
end

section
/-! SUPPORT. What the freshness test, the image scrub, the admission and the application of firing entries change, and what they
leave alone (R153, R174, R182, R184). -/
namespace Sys2Proof.Machine

/-! ### Quality bits -/

theorem qStale_clear_iff (q : BitVec 8) : q &&& qStale = 0 ↔ q.getLsbD 1 = false := by
  have hq : q &&& qStale = if q.getLsbD 1 then BitVec.twoPow 8 1 else 0#8 := BitVec.and_twoPow q 1
  rw [hq]
  cases q.getLsbD 1 <;> decide

/-- The quality of a signal whose value or provenance has a double error: VALID taken away, FAULT given. -/
def qFaulted (q : BitVec 8) : BitVec 8 := (q &&& ~~~ qValid) ||| qFault

theorem getLsbD_qFaulted (q : BitVec 8) {i : Nat} (hi : i < 8) :
    (qFaulted q).getLsbD i = (q.getLsbD i && decide (i ≠ 0) || decide (i = 5)) := by
  have hv : qValid = BitVec.twoPow 8 0 := rfl
  have hf : qFault = BitVec.twoPow 8 5 := rfl
  rw [qFaulted, hv, hf, BitVec.getLsbD_or, BitVec.getLsbD_and, BitVec.getLsbD_not, BitVec.getLsbD_twoPow, BitVec.getLsbD_twoPow]
  simp [hi, eq_comm]

/-! ### The journal -/

@[simp] theorem journalSig_sig (s : State) (kind g h : Nat) : (s.journalSig kind g).sig h = s.sig h := rfl
@[simp] theorem journalSig_force (s : State) (kind g h : Nat) : (s.journalSig kind g).force? h = s.force? h := rfl
@[simp] theorem journalRec_sig (s : State) (g h : Nat) : (s.journalRec g).sig h = s.sig h := rfl

/-- A record is entered in the journal alike whatever else was recorded before, while the pair's TL difference stands. -/
theorem journalRec_image_of_recorded {s t : State} {ws : List Nat} (h : s.Recorded ws t) (hlo : R.PAIR_TL_SHIFT.addr 0 0 ∉ ws)
    (hhi : R.PAIR_TL_SHIFT.addr 0 1 ∉ ws) (g : Nat) (r : Sig) :
    ((t.setSig g r).journalRec g).image = ((s.setSig g r).journalRec g).image := by
  have hshift : (t.setSig g r).tlShift = (s.setSig g r).tlShift := by
    rw [State.tlShift, State.tlShift, State.reg64, State.reg64]
    exact congrArg (sint 64) (congrArg₂ (fun a b => a + 2 ^ 32 * b) (reg_eq_of_word (h.word hlo)) (reg_eq_of_word (h.word hhi)))
  have hled : (t.setSig g r).ledRecord g = (s.setSig g r).ledRecord g := by
    simp only [State.ledRecord, State.ledStamp, State.pairNs, hshift, State.setSig_sig_same]
  have htick : t.tick = s.tick := by rw [h.1]
  have himage : t.image = s.image := by rw [h.1]
  unfold State.journalRec State.journal
  rw [hled, State.setSig_sig_same, State.setSig_sig_same, State.setSig_tick, State.setSig_tick, htick]
  simp only [State.setSig, himage]

/-! ### Freshness (R153) -/

theorem freshOne_stale {s : State} {g : Nat} (h : (s.sig g).freshUs ≠ 0 ∧ 1000 * (s.sig g).freshUs < s.tl - (s.sig g).upd ∧
    (s.sig g).quality.getLsbD 1 = false ∧ s.force? g = none) :
    s.freshOne g = (s.setSig g { s.sig g with quality := (s.sig g).quality ||| qStale }).journalSig 2 g := by
  obtain ⟨hf, hage, hq, hn⟩ := h
  exact if_pos ⟨hf, hage, (qStale_clear_iff _).2 hq, Option.isNone_iff_eq_none.2 hn⟩

theorem freshOne_fresh {s : State} {g : Nat} (h : ¬((s.sig g).freshUs ≠ 0 ∧ 1000 * (s.sig g).freshUs < s.tl - (s.sig g).upd ∧
    (s.sig g).quality.getLsbD 1 = false ∧ s.force? g = none)) : s.freshOne g = s :=
  if_neg fun ⟨hf, hage, hq, hn⟩ => h ⟨hf, hage, (qStale_clear_iff _).1 hq, Option.isNone_iff_eq_none.1 hn⟩

/-! ### The image scrub (R174) -/

theorem scrubImage_corrected (s : State) {e : ImageError} (h : e.double = false) :
    s.scrubImage e = s.bump F.IMAGE_ECC_CORRECTED := by
  rw [State.scrubImage, h]
  rfl

/-- A double error counted and recorded. -/
def State.scrubNoted (s : State) (e : ImageError) : State :=
  (s.bump F.IMAGE_ECC_UNCORRECTED).ev 0x0606 [.b32 e.sig.val, .b16 e.word.val]

/-- The record that a double error leaves: a configuration word restored from the image, or a signal in fault. -/
def State.scrubRecord (s : State) (e : ImageError) : Sig :=
  if 3 ≤ e.word.val ∧ e.word.val ≤ 6 then
    (s.sig e.sig.val).setWord e.word.val ((nget .init s.image.sigImg e.sig.val).word e.word.val)
  else { s.sig e.sig.val with quality := qFaulted (s.sig e.sig.val).quality }

theorem scrubNoted_recorded (s : State) (e : ImageError) : s.Recorded (R.IMAGE_ECC.base :: eventWords) (s.scrubNoted e) :=
  ((State.Recorded.refl _ s).setFld _ List.mem_cons_self).ev (List.subset_cons_self _ _) _ _

theorem scrubImage_double (s : State) {e : ImageError} (h : e.double = true) :
    s.scrubImage e = ((s.scrubNoted e).setSig e.sig.val (s.scrubRecord e)).journalRec e.sig.val := by
  have himage : (s.scrubNoted e).image = s.image := by rw [(scrubNoted_recorded s e).1]
  have hrec : s.scrubRecord e = if 3 ≤ e.word.val ∧ e.word.val ≤ 6 then
      (s.sig e.sig.val).setWord e.word.val ((nget .init (s.scrubNoted e).image.sigImg e.sig.val).word e.word.val)
    else { s.sig e.sig.val with quality := qFaulted (s.sig e.sig.val).quality } := by rw [himage]; rfl
  rw [hrec]
  unfold State.scrubImage
  rw [h]
  by_cases hw : 3 ≤ e.word.val ∧ e.word.val ≤ 6
  · rw [if_pos hw]
    exact if_pos hw
  · rw [if_neg hw]
    exact if_neg hw

/-- A double error counts, and changes the record of its signal and the journal, and no register but those of its count and its
event. -/
theorem scrubImage_double_spec (s : State) {e : ImageError} (h : e.double = true) :
    (s.scrubImage e).fld F.IMAGE_ECC_UNCORRECTED = min (s.fld F.IMAGE_ECC_UNCORRECTED + 1) 0xFFFF ∧
    (s.scrubImage e).sig e.sig.val = s.scrubRecord e ∧
    (s.scrubImage e).image = ((s.setSig e.sig.val (s.scrubRecord e)).journalRec e.sig.val).image ∧
    s.Keeps (R.IMAGE_ECC.base :: eventWords) (s.scrubImage e) := by
  rw [scrubImage_double s h]
  refine ⟨?_, ?_, journalRec_image_of_recorded (scrubNoted_recorded s e) (by decide) (by decide) _ _, (scrubNoted_recorded s e).2⟩
  · exact (ev_fld _ _ _ (f := F.IMAGE_ECC_UNCORRECTED) (by decide)).trans
      (fld_bump_same s F.IMAGE_ECC_UNCORRECTED 0 0 1 (by decide) (by decide))
  · rw [journalRec_sig, State.setSig_sig_same]

end Sys2Proof.Machine
end

section
/-! SUPPORT. Admission of firing entries (R182, R183): what judging an entry changes, and what FIRE_LAST shows of it. -/
namespace Sys2Proof.Machine

/-! ### FIRE_LAST -/

theorem fld_journal (s : State) (kind g : Nat) (ws led : List W64) (f : Fld) (i j : Nat) :
    (s.journal kind g ws led).fld f i j = s.fld f i j := rfl

theorem fld_peak_ne (s : State) {e f : Fld} (v : Nat) {i j k l : Nat} (h : f.reg.addr k l ≠ e.reg.addr i j) :
    (s.peak e v i j).fld f k l = s.fld f k l := fld_setFld_ne s _ h

/-- A field of a register that has just been written. -/
theorem fld_setReg_same (s : State) (f : Fld) {v : Nat} (i j : Nat) (h : v < 2 ^ 32) :
    (s.setReg f.reg v i j).fld f i j = bits v f.hi f.lo := by
  rw [State.fld, reg_setReg_same _ _ _ _ _ h]

/-- FIRE_LAST as an entry's status, its kind and its target make it up. -/
def Fire.lastWord (f : Fire) (st : Nat) : Nat := st * 2 ^ 24 + b2n f.action * 2 ^ 20 + f.target % 2 ^ 17

theorem lastWord_status (f : Fire) {st : Nat} (h : st < 256) : f.lastWord st < 2 ^ 32 ∧ bits (f.lastWord st) 31 24 = st := by
  have hkind : b2n f.action < 2 := by cases f.action <;> decide
  simp only [bits, Fire.lastWord]
  omega

theorem fireLast_eq (s : State) (f : Fire) (st : Nat) : s.fireLast f st =
    ((s.setReg R.FIRE_LAST (f.lastWord st) f.account).setReg R.FIRE_LAST_TIME (f.shown % 2 ^ 32) f.account 0).setReg
      R.FIRE_LAST_TIME (f.shown / 2 ^ 32) f.account 1 := by
  rw [State.fireLast, State.setReg64, Fire.lastWord]

/-- A refused or late entry shows its status in FIRE_LAST of its account. -/
theorem fireLast_status (s : State) (f : Fire) {st : Nat} (h : st < 256) :
    (s.fireLast f st).fld F.FIRE_LAST_STATUS f.account = st := by
  have hlo : F.FIRE_LAST_STATUS.reg.addr f.account 0 ≠ R.FIRE_LAST_TIME.addr f.account 0 := by simp only [Reg.addr]; omega
  have hhi : F.FIRE_LAST_STATUS.reg.addr f.account 0 ≠ R.FIRE_LAST_TIME.addr f.account 1 := by simp only [Reg.addr]; omega
  obtain ⟨hw, hb⟩ := lastWord_status f h
  rw [fireLast_eq, fld_setReg_ne _ _ hhi, fld_setReg_ne _ _ hlo]
  exact (fld_setReg_same s F.FIRE_LAST_STATUS _ _ hw).trans hb

theorem fireLast_image (s : State) (f : Fire) (st : Nat) : (s.fireLast f st).image = s.image := by
  rw [fireLast_eq, State.setReg_image, State.setReg_image, State.setReg_image]

theorem addr_fireLast_not_eventWord {a : Nat} (ha : a < 8) : R.FIRE_LAST.addr a 0 ∉ eventWords := by
  simp only [eventWords, List.mem_cons, List.not_mem_nil, or_false, Reg.addr]
  omega

/-- An event leaves FIRE_LAST alone. -/
theorem ev_fireLast (s : State) (code : Nat) (items : List Item) {a : Nat} (ha : a < 8) :
    (s.ev code items).fld F.FIRE_LAST_STATUS a = s.fld F.FIRE_LAST_STATUS a :=
  ev_fld _ _ _ (f := F.FIRE_LAST_STATUS) (addr_fireLast_not_eventWord ha)

/-! ### What judging an entry leaves alone -/

/-- t differs from s in registers, the vault, the schedule with its numbers, and the journal. -/
structure State.Judged (s t : State) : Prop where
  eq : t = { s with regs := t.regs, vault := t.vault,
                    image.fire := t.image.fire, image.fireSeq := t.image.fireSeq, image.journal := t.image.journal }

theorem State.Judged.trans {s t u : State} (h : s.Judged t) (k : t.Judged u) : s.Judged u := by
  refine ⟨k.eq.trans ?_⟩
  rw [h.eq]

theorem State.Judged.fold {α : Type} {f : State → α → State} (hf : ∀ s x, State.Judged s (f s x)) (l : List α) :
    ∀ s, State.Judged s (foldState f l s) := by
  induction l with
  | nil => exact fun s => ⟨rfl⟩
  | cons x l ih => exact fun s => (hf s x).trans (ih (f s x))

theorem judged_setReg (s : State) (r : Reg) (v i j : Nat) : s.Judged (s.setReg r v i j) := ⟨rfl⟩

theorem judged_setFld (s : State) (f : Fld) (v i j : Nat) : s.Judged (s.setFld f v i j) := ⟨rfl⟩

theorem judged_bump (s : State) (f : Fld) (i j n : Nat) : s.Judged (s.bump f i j n) := ⟨rfl⟩

theorem judged_ev (s : State) (code : Nat) (items : List Item) : s.Judged (s.ev code items) := by
  refine ⟨?_⟩
  rw [State.ev_image]
  exact (logged_ev s code items).1

theorem judged_fireLast (s : State) (f : Fire) (st : Nat) : s.Judged (s.fireLast f st) := by
  rw [fireLast_eq]
  exact ((judged_setReg s _ _ _ _).trans (judged_setReg _ _ _ _ _)).trans (judged_setReg _ _ _ _ _)

theorem judged_fireAdmit (s : State) (f : Fire) (late : Bool) : s.Judged (s.fireAdmit f late) := ⟨rfl⟩

theorem judged_fireRefuse (s : State) (f : Fire) (st ev : Nat) (more : List Item) : s.Judged (s.fireRefuse f st ev more) := by
  have h : s.Judged ((s.fireLast f st).ev ev (f.items ++ more)) := (judged_fireLast s f st).trans (judged_ev _ _ _)
  unfold State.fireRefuse
  extract_lets u
  split
  · exact (h.trans (judged_setFld u _ _ _ _)).trans (judged_ev _ _ _)
  · exact h

theorem judged_fireLate (s : State) (f : Fire) (items : List Item) :
    s.Judged ((((s.fireAdmit f true).bump F.FIRE_COUNTS_0_LATE f.account).fireLast f 5).ev 0x0702 items) :=
  (((judged_fireAdmit s f true).trans (judged_bump _ _ _ _ _)).trans (judged_fireLast _ _ _)).trans (judged_ev _ _ _)

theorem judged_fireJudge (s : State) (f : Fire) : s.Judged (s.fireJudge f) := by
  have hrefuse : ∀ (g : Fld) (st ev : Nat) (more : List Item), s.Judged ((s.bump g f.account).fireRefuse f st ev more) :=
    fun g st ev more => (judged_bump s g _ _ _).trans (judged_fireRefuse _ _ _ _ _)
  unfold State.fireJudge
  extract_lets a od tol far
  split_ifs
  · exact hrefuse F.FIRE_COUNTS_2_RANGE _ _ _
  · exact hrefuse F.FIRE_COUNTS_1_NOSYNC _ _ _
  · exact hrefuse F.FIRE_COUNTS_0_DISCARD _ _ _
  · exact hrefuse F.FIRE_COUNTS_1_NOSPACE _ _ _
  · exact judged_fireLate s f _
  · exact judged_fireAdmit s f false

/-- Admission takes every entry that has reached the schedule. -/
theorem judged_fireAdmission (s : State) : State.Judged { s with image.fireIn := [] } s.fireAdmission :=
  State.Judged.fold judged_fireJudge _ _

theorem State.Judged.fireIn {s t : State} (h : s.Judged t) : t.image.fireIn = s.image.fireIn := by rw [h.eq]

/-! ### A refused and an admitted entry -/

/-- A refused entry leaves the schedule as it was, and its status in FIRE_LAST. -/
theorem fireRefuse_spec (s : State) {f : Fire} (g : Fld) {st : Nat} (ev : Nat) (more : List Item) (ha : f.account < 8)
    (hst : st < 256) :
    ((s.bump g f.account).fireRefuse f st ev more).image.fire = s.image.fire ∧
      ((s.bump g f.account).fireRefuse f st ev more).fld F.FIRE_LAST_STATUS f.account = st := by
  have hne : F.FIRE_LAST_STATUS.reg.addr f.account 0 ≠ F.PAIR_RESULT_STATUS.reg.addr 0 0 := by simp only [Reg.addr]; omega
  have hlast : (((s.bump g f.account).fireLast f st).ev ev (f.items ++ more)).fld F.FIRE_LAST_STATUS f.account = st :=
    (ev_fireLast _ _ _ ha).trans (fireLast_status _ _ hst)
  unfold State.fireRefuse
  extract_lets u
  have hu : u.image = s.image := (State.ev_image _ _ _).trans (fireLast_image _ _ _)
  split
  · refine ⟨?_, ?_⟩
    · rw [State.ev_image, State.setFld_image, hu]
    · rw [ev_fireLast _ _ _ ha, fld_setFld_ne _ _ hne]
      exact hlast
  · exact ⟨congrArg Image.fire hu, hlast⟩

theorem fireAdmit_fire (s : State) (f : Fire) (late : Bool) :
    (s.fireAdmit f late).image.fire = s.image.fire ++ [{ f with late := late, seq := s.image.fireSeq }] := rfl

/-- An admitted entry leaves FIRE_LAST alone. -/
theorem fireAdmit_status (s : State) (f : Fire) (late : Bool) {a : Nat} :
    (s.fireAdmit f late).fld F.FIRE_LAST_STATUS a = s.fld F.FIRE_LAST_STATUS a := by
  have hpeak : F.FIRE_LAST_STATUS.reg.addr a 0 ≠ F.FIRE_PEAK_PEAK.reg.addr 0 0 := by simp only [Reg.addr]; omega
  have hused : F.FIRE_LAST_STATUS.reg.addr a 0 ≠ F.FIRE_USED_PEAK.reg.addr f.account 0 := by simp only [Reg.addr]; omega
  exact (fld_journal _ _ _ _ _ _ _ _).trans ((fld_peak_ne _ _ hpeak).trans ((fld_peak_ne _ _ hused).trans rfl))

/-! ### The checks of Table 7.3 in their order -/

/-- The entry's time is refused: a TS time with bit 63, or a time more than an hour ahead (R182). -/
abbrev State.fireRange (s : State) (f : Fire) : Prop :=
  (f.tl = false ∧ f.time.getLsbD 63 = true) ∨ (3600000000000 < f.t - s.tickTime f ∧ (f.tl = true ∨ s.tsValid = true))

theorem fireRange_iff (s : State) (f : Fire) :
    ((!f.tl && f.time.getLsbD 63) || (decide (3600000000000 < f.t - s.tickTime f) && (f.tl || s.tsValid))) = true ↔
      s.fireRange f := by
  simp only [Bool.or_eq_true, Bool.and_eq_true, Bool.not_eq_true', decide_eq_true_eq]

theorem fireNosync_iff (s : State) (f : Fire) :
    (!f.tl && !s.tsUsable f.account) = true ↔ f.tl = false ∧ s.tsUsable f.account = false := by
  simp only [Bool.and_eq_true, Bool.not_eq_true']

section
variable {s : State} {f : Fire}

theorem fireJudge_range (h1 : s.fireRange f) :
    s.fireJudge f = (s.bump F.FIRE_COUNTS_2_RANGE f.account).fireRefuse f 9 0x0705 [] := if_pos ((fireRange_iff s f).2 h1)

variable (h1 : ¬s.fireRange f)
include h1

theorem fireJudge_nosync (h2 : f.tl = false ∧ s.tsUsable f.account = false) :
    s.fireJudge f = (s.bump F.FIRE_COUNTS_1_NOSYNC f.account).fireRefuse f 0x0E 0x0701 [] :=
  (if_neg (mt (fireRange_iff s f).1 h1)).trans (if_pos ((fireNosync_iff s f).2 h2))

variable (h2 : ¬(f.tl = false ∧ s.tsUsable f.account = false))
include h2

theorem fireJudge_timed : s.fireJudge f =
    if (s.fld F.ACCT_CFG_LATE_TOL f.account : Int) < s.overdue f then
      (s.bump F.FIRE_COUNTS_0_DISCARD f.account).fireRefuse f 6 0x0703 [.b32 (s.overdue f).toNat]
    else if s.fld F.ACCT_QUOTA_1_FIRING f.account ≤ s.pendingOf f.account then
      (s.bump F.FIRE_COUNTS_1_NOSPACE f.account).fireRefuse f 3 0x0704 []
    else if 1 ≤ s.overdue f then
      (((s.fireAdmit f true).bump F.FIRE_COUNTS_0_LATE f.account).fireLast f 5).ev 0x0702
        (f.items ++ [.b32 (s.overdue f).toNat])
    else s.fireAdmit f false :=
  (if_neg (mt (fireRange_iff s f).1 h1)).trans (if_neg (mt (fireNosync_iff s f).1 h2))

end

/-- An entry admitted late stands in the schedule marked so, and shows in FIRE_LAST. -/
theorem fireLate_spec (s : State) {f : Fire} (items : List Item) (ha : f.account < 8) :
    let t := (((s.fireAdmit f true).bump F.FIRE_COUNTS_0_LATE f.account).fireLast f 5).ev 0x0702 items
    t.image.fire = s.image.fire ++ [{ f with late := true, seq := s.image.fireSeq }] ∧
      t.fld F.FIRE_LAST_STATUS f.account = 5 := by
  refine ⟨?_, (ev_fireLast _ _ _ ha).trans (fireLast_status _ _ (by decide))⟩
  rw [State.ev_image, fireLast_image, State.bump_image, fireAdmit_fire]

/-- What becomes of one entry. -/
theorem fireJudge_spec (s : State) {f : Fire} (ha : f.account < 8) :
    let t := s.fireJudge f
    if s.fireRange f then t.image.fire = s.image.fire ∧ t.fld F.FIRE_LAST_STATUS f.account = 9
    else if f.tl = false ∧ s.tsUsable f.account = false then
      t.image.fire = s.image.fire ∧ t.fld F.FIRE_LAST_STATUS f.account = 0x0E
    else if (s.fld F.ACCT_CFG_LATE_TOL f.account : Int) < s.overdue f then
      t.image.fire = s.image.fire ∧ t.fld F.FIRE_LAST_STATUS f.account = 6
    else if s.fld F.ACCT_QUOTA_1_FIRING f.account ≤ s.pendingOf f.account then
      t.image.fire = s.image.fire ∧ t.fld F.FIRE_LAST_STATUS f.account = 3
    else if 1 ≤ s.overdue f then
      t.image.fire = s.image.fire ++ [{ f with late := true, seq := s.image.fireSeq }] ∧ t.fld F.FIRE_LAST_STATUS f.account = 5
    else t.image.fire = s.image.fire ++ [{ f with late := false, seq := s.image.fireSeq }] ∧
      t.fld F.FIRE_LAST_STATUS f.account = s.fld F.FIRE_LAST_STATUS f.account := by
  intro t
  unfold t
  by_cases h1 : s.fireRange f
  · rw [if_pos h1, fireJudge_range h1]
    exact fireRefuse_spec s _ _ _ ha (by decide)
  by_cases h2 : f.tl = false ∧ s.tsUsable f.account = false
  · rw [if_neg h1, if_pos h2, fireJudge_nosync h1 h2]
    exact fireRefuse_spec s _ _ _ ha (by decide)
  rw [if_neg h1, if_neg h2, fireJudge_timed h1 h2]
  split_ifs with hlate hfull hdue
  · exact fireRefuse_spec s _ _ _ ha (by decide)
  · exact fireRefuse_spec s _ _ _ ha (by decide)
  · exact fireLate_spec s _ ha
  · exact ⟨fireAdmit_fire s f false, fireAdmit_status s f false⟩

end Sys2Proof.Machine
end

section
/-! SUPPORT. Application of firing entries (R184, R185): what one entry changes, and the order in which the due ones are taken. -/
namespace Sys2Proof.Machine

/-! ### The order of application -/

theorem fireInsert_perm (s : State) (f : Fire) (gs : List Fire) : (fireInsert s f gs).Perm (f :: gs) := by
  induction gs with
  | nil => exact .refl _
  | cons g gs ih =>
    unfold fireInsert
    extract_lets df dg
    split
    · exact .refl _
    · exact (ih.cons g).trans (.swap f g gs)

/-- The entries are sorted, none lost and none added. -/
theorem fireSort_perm (s : State) (fs : List Fire) : (fireSort s fs).Perm fs := by
  induction fs with
  | nil => exact .refl _
  | cons f fs ih => exact (fireInsert_perm s f _).trans (ih.cons f)

/-! ### A change of a signal (R169) -/

theorem change_unforced {s : State} {kind g : Nat} {c : Copy} (hk : kind ≠ 6) (h : s.force? g = none) :
    ((s.change kind g c).sig g).value = c.value ∧ ((s.change kind g c).sig g).stamp = c.stamp ∧
      ((s.change kind g c).sig g).upd = s.tl := by
  unfold State.change
  extract_lets r prod q r' u
  have hr : r'.upd = s.tl := by unfold r'; rw [if_neg hk]
  have hu : u.force? g = none := h
  rw [hu, journalSig_sig, State.setSig_sig_same]
  exact ⟨rfl, rfl, hr⟩

theorem change_forced {s : State} {kind g : Nat} {c : Copy} {x : Force} (h : s.force? g = some x) :
    ((s.change kind g c).sig g).value = (s.sig g).value ∧
      ((s.change kind g c).force? g).map (·.unforced.value) = some c.value := by
  unfold State.change
  extract_lets r prod q r' u
  have hr : r'.value = (s.sig g).value := by unfold r'; split <;> rfl
  have hu : u.force? g = some x := h
  have hsig : ∀ y, (u.setForce g y).sig g = r' := fun y => State.setSig_sig_same s g r'
  rw [hu, journalSig_sig, journalSig_force, State.setForce_force_same, hsig]
  exact ⟨hr, rfl⟩

theorem change_sig_ne (s : State) (kind : Nat) {g h : Nat} (c : Copy) (hne : h ≠ g) : (s.change kind g c).sig h = s.sig h := by
  unfold State.change
  extract_lets r prod q r' u
  have hu : u.sig h = s.sig h := State.setSig_sig_ne s r' hne
  split
  · exact hu
  · rw [journalSig_sig, State.setSig_sig_ne u _ hne, hu]

/-! ### One entry -/

/-- t differs from s in the signals, the forces, the journal, the ACTION entries on their way, and registers from FIRE_APPLIED
on. -/
structure State.Applied (s t : State) : Prop where
  eq : t = { s with regs := t.regs, image.sigs := t.image.sigs, image.forces := t.image.forces,
                    image.journal := t.image.journal, image.fired := t.image.fired }
  word : ∀ a < R.FIRE_APPLIED.base, t.word a = s.word a

theorem State.Applied.refl (s : State) : s.Applied s := ⟨rfl, fun _ _ => rfl⟩

theorem State.Applied.trans {s t u : State} (h : s.Applied t) (k : t.Applied u) : s.Applied u := by
  refine ⟨k.eq.trans ?_, fun a ha => (k.word a ha).trans (h.word a ha)⟩
  rw [h.eq]

/-- The entry counted in FIRE_APPLIED of its account and noted in the journal. -/
def State.fireNoted (s : State) (f : Fire) : State :=
  (s.bump64 R.FIRE_APPLIED f.account).journal 17 f.target f.words (ledFireEnd f 1)

theorem fireNoted_word (s : State) (f : Fire) {a : Nat} (hlo : a ≠ R.FIRE_APPLIED.addr f.account 0)
    (hhi : a ≠ R.FIRE_APPLIED.addr f.account 1) : (s.fireNoted f).word a = s.word a := by
  rw [State.fireNoted, word_journal]
  exact (word_setWord_ne _ _ hhi).trans (word_setWord_ne s _ hlo)

theorem fireOne_action {s : State} {f : Fire} (h : f.action = true) :
    s.fireOne f = { s.fireNoted f with image.fired := (s.fireNoted f).image.fired ++ [f] } := if_pos h

theorem fireOne_output {s : State} {f : Fire} (h : f.action = false) :
    s.fireOne f = (s.fireNoted f).change 5 f.target ⟨f.value, f.quality, (s.fireNoted f).stamp⟩ := by
  refine if_neg ?_
  rw [h]
  exact Bool.false_ne_true

theorem applied_fireNoted (s : State) (f : Fire) : s.Applied (s.fireNoted f) := by
  refine ⟨rfl, fun a ha => fireNoted_word s f ?_ ?_⟩
  · exact Nat.ne_of_lt (lt_of_lt_of_le ha (R.FIRE_APPLIED.base_le_addr _ _))
  · exact Nat.ne_of_lt (lt_of_lt_of_le ha (R.FIRE_APPLIED.base_le_addr _ _))

theorem applied_setSig (s : State) (g : Nat) (r : Sig) : s.Applied (s.setSig g r) := ⟨rfl, fun _ _ => rfl⟩

theorem applied_setForce (s : State) (g : Nat) (x : Option Force) : s.Applied (s.setForce g x) := ⟨rfl, fun _ _ => rfl⟩

theorem applied_journalSig (s : State) (kind g : Nat) : s.Applied (s.journalSig kind g) := ⟨rfl, fun _ _ => rfl⟩

theorem change_fired (s : State) (kind g : Nat) (c : Copy) : (s.change kind g c).image.fired = s.image.fired := by
  unfold State.change
  extract_lets r prod q r' u
  split
  · rfl
  · rfl

theorem applied_change (s : State) (kind g : Nat) (c : Copy) : s.Applied (s.change kind g c) := by
  unfold State.change
  extract_lets r prod q r' u
  have hu : s.Applied u := applied_setSig s g r'
  split
  · exact (hu.trans (applied_setForce _ _ _)).trans (applied_journalSig _ _ _)
  · exact (hu.trans (applied_setSig _ _ _)).trans (applied_journalSig _ _ _)

theorem applied_fired (s : State) (l : List Fire) : s.Applied { s with image.fired := l } := ⟨rfl, fun _ _ => rfl⟩

theorem applied_fireOne (s : State) (f : Fire) : s.Applied (s.fireOne f) := by
  cases h : f.action with
  | true =>
    rw [fireOne_action h]
    exact (applied_fireNoted s f).trans (applied_fired _ _)
  | false =>
    rw [fireOne_output h]
    exact (applied_fireNoted s f).trans (applied_change _ _ _ _)

theorem applied_fires (l : List Fire) : ∀ s : State, s.Applied (foldState State.fireOne l s) := by
  induction l with
  | nil => exact fun s => .refl s
  | cons f l ih => exact fun s => (applied_fireOne s f).trans (ih _)

/-- An entry changes no signal but the target of an OUTPUT entry. -/
theorem fireOne_sig_ne {s : State} {f : Fire} {g : Nat} (h : f.action = true ∨ f.target ≠ g) : (s.fireOne f).sig g = s.sig g := by
  cases ha : f.action with
  | true =>
    rw [fireOne_action ha]
    rfl
  | false =>
    have hne : g ≠ f.target := by
      rcases h with h | h
      · exact absurd (ha.symm.trans h) (by decide)
      · exact h.symm
    rw [fireOne_output ha, change_sig_ne _ _ _ hne]
    rfl

theorem stamp_eq_of_word {s t : State} (htime : t.time = s.time) (htick : t.tick = s.tick)
    (hw : t.word (R.TIME_STATUS.addr 0 0) = s.word (R.TIME_STATUS.addr 0 0)) : t.stamp = s.stamp := by
  have hv : t.tsValid = s.tsValid := by
    rw [State.tsValid, State.tsValid, State.flag, State.flag, fld_eq_of_word (f := F.TIME_STATUS_TS_VALID) hw]
  simp only [State.stamp, State.ts, State.tl, htime, htick, hv]

/-- Counting an entry leaves the time alone. -/
theorem fireNoted_stamp (s : State) {f : Fire} (ha : f.account < 8) : (s.fireNoted f).stamp = s.stamp := by
  refine stamp_eq_of_word rfl rfl (fireNoted_word s f ?_ ?_)
  · simp only [Reg.addr]
    omega
  · simp only [Reg.addr]
    omega

/-- An OUTPUT entry gives an unforced signal its value at the present time. -/
theorem fireOne_unforced {s : State} {f : Fire} (ha : f.account < 8) (hout : f.action = false) (hn : s.force? f.target = none) :
    ((s.fireOne f).sig f.target).value = f.value ∧ ((s.fireOne f).sig f.target).stamp = s.stamp ∧
      ((s.fireOne f).sig f.target).upd = s.tl ∧ (s.fireOne f).image.fired = s.image.fired := by
  have hn' : (s.fireNoted f).force? f.target = none := hn
  rw [fireOne_output hout, change_fired, ← fireNoted_stamp s ha]
  obtain ⟨hvalue, hstamp, hupd⟩ :=
    change_unforced (kind := 5) (c := ⟨f.value, f.quality, (s.fireNoted f).stamp⟩) (by decide) hn'
  exact ⟨hvalue, hstamp, hupd, rfl⟩

/-- An OUTPUT entry gives a forced signal its value as the unforced one. -/
theorem fireOne_forced {s : State} {f : Fire} {x : Force} (hout : f.action = false) (hx : s.force? f.target = some x) :
    ((s.fireOne f).sig f.target).value = (s.sig f.target).value ∧
      ((s.fireOne f).force? f.target).map (·.unforced.value) = some f.value ∧ (s.fireOne f).image.fired = s.image.fired := by
  have hx' : (s.fireNoted f).force? f.target = some x := hx
  rw [fireOne_output hout, change_fired]
  obtain ⟨hvalue, hkept⟩ := change_forced (kind := 5) (c := ⟨f.value, f.quality, (s.fireNoted f).stamp⟩) hx'
  exact ⟨hvalue, hkept, rfl⟩

/-- An ACTION entry goes to its subsystem. -/
theorem fireOne_handed {s : State} {f : Fire} (h : f.action = true) :
    (s.fireOne f).image.fired = s.image.fired ++ [f] ∧ (s.fireOne f).image.sigs = s.image.sigs := by
  rw [fireOne_action h]
  exact ⟨rfl, rfl⟩

/-! ### The application at a tick -/

/-- The schedule as a tick leaves it, and the largest number of due entries, before the first is applied. -/
def State.fireTaken (s : State) : State :=
  ({ s with image.fire := s.image.fire.filter fun f => !s.fireDue f }).peak F.FIRE_PEAK_DUE_MAX
    (s.image.fire.filter s.fireDue).length

theorem fireTaken_stamp (s : State) : s.fireTaken.stamp = s.stamp :=
  stamp_eq_of_word rfl rfl (word_setWord_ne _ _ (by decide))

theorem fireApply_eq (s : State) :
    s.fireApply = foldState State.fireOne (fireSort s (s.image.fire.filter s.fireDue)) s.fireTaken := by
  rw [State.fireApply, (fireSort_perm s _).length_eq]
  rfl

theorem fireApply_one {s : State} {f : Fire} (h : s.image.fire = [f]) (hd : s.fireDue f = true) :
    s.fireApply = s.fireTaken.fireOne f := by
  have hdue : s.image.fire.filter s.fireDue = [f] := by rw [h, List.filter_singleton, hd]; rfl
  rw [fireApply_eq, hdue]
  rfl

theorem applied_fireApply (s : State) : s.fireTaken.Applied s.fireApply := by
  rw [fireApply_eq]
  exact applied_fires _ _

theorem fireApply_sig {s : State} {g : Nat} (h : ∀ f ∈ s.image.fire, s.fireDue f = true → f.action = true ∨ f.target ≠ g) :
    s.fireApply.sig g = s.sig g := by
  rw [fireApply_eq]
  refine fold_mem (p := fun t => t.sig g) fun t f hf => fireOne_sig_ne ?_
  obtain ⟨hm, hd⟩ := List.mem_filter.1 ((fireSort_perm s _).mem_iff.1 hf)
  exact h f hm hd

theorem fld_lt (s : State) (f : Fld) (i j : Nat) : s.fld f i j < 2 ^ (f.hi + 1 - f.lo) := Nat.mod_lt _ (Nat.two_pow_pos _)

theorem fld_peak_same (s : State) (f : Fld) (v i j : Nat) (h : f.lo ≤ f.hi) (h32 : f.hi < 32) :
    (s.peak f v i j).fld f i j = max (s.fld f i j) (min v (2 ^ (f.hi + 1 - f.lo) - 1)) := by
  have hm := fld_lt s f i j
  rw [State.peak, fld_setFld_same _ _ _ _ _ h h32]
  exact Nat.mod_eq_of_lt (by omega)

theorem fireApply_peak (s : State) : s.fireApply.fld F.FIRE_PEAK_DUE_MAX = max (s.fld F.FIRE_PEAK_DUE_MAX)
    (min (s.image.fire.filter s.fireDue).length (2 ^ (F.FIRE_PEAK_DUE_MAX.hi + 1 - F.FIRE_PEAK_DUE_MAX.lo) - 1)) := by
  have hw := (applied_fireApply s).word (F.FIRE_PEAK_DUE_MAX.reg.addr 0 0) (by decide)
  exact (fld_eq_of_word hw).trans (fld_peak_same _ F.FIRE_PEAK_DUE_MAX _ 0 0 (by decide) (by decide))

end Sys2Proof.Machine
end

section
/-! PROOF. Freshness, the image scrub, and the admission and application of firing entries (O38). -/
namespace Sys2Proof.Machine

/-! ### Admission, entry by entry -/

/-- s with other entries that await admission. -/
def State.awaiting (s : State) (fs : List Fire) : State := { s with image.fireIn := fs }

theorem awaiting_self {s : State} {fs : List Fire} (h : s.image.fireIn = fs) : s.awaiting fs = s := by
  subst h
  rfl

theorem fireAdmission_eq (s : State) : s.fireAdmission = foldState State.fireJudge s.image.fireIn (s.awaiting []) := rfl

theorem fireAdmission_one {s : State} {f : Fire} (h : s.image.fireIn = [f]) : s.fireAdmission = (s.awaiting []).fireJudge f := by
  rw [fireAdmission_eq, h]
  rfl

theorem fireAdmission_fireIn (s : State) : s.fireAdmission.image.fireIn = [] := (judged_fireAdmission s).fireIn

/-- Admission takes the entries in order. -/
theorem fireAdmission_cons {s : State} {f : Fire} {fs : List Fire} (h : s.image.fireIn = f :: fs) :
    s.fireAdmission = ((s.awaiting [f]).fireAdmission.awaiting fs).fireAdmission := by
  have hone : (s.awaiting [f]).fireAdmission = (s.awaiting []).fireJudge f := fireAdmission_one rfl
  have hclear : ((s.awaiting []).fireJudge f).awaiting [] = (s.awaiting []).fireJudge f :=
    awaiting_self (judged_fireJudge _ f).fireIn
  calc s.fireAdmission = foldState State.fireJudge fs ((s.awaiting []).fireJudge f) := by rw [fireAdmission_eq, h]; rfl
    _ = foldState State.fireJudge fs (((s.awaiting []).fireJudge f).awaiting []) := by rw [hclear]
    _ = ((s.awaiting [f]).fireAdmission.awaiting fs).fireAdmission := by rw [hone]; rfl

/-! ### What a double error leaves of a record -/

theorem scrubRecord_fault {s : State} {e : ImageError} (h : e.word.val < 3 ∨ e.word.val = 7) :
    s.scrubRecord e = { s.sig e.sig.val with quality := qFaulted (s.sig e.sig.val).quality } := if_neg (by omega)

theorem scrubRecord_restored {s : State} {e : ImageError} (h3 : 3 ≤ e.word.val) (h6 : e.word.val ≤ 6) :
    s.scrubRecord e = (s.sig e.sig.val).setWord e.word.val ((nget .init s.image.sigImg e.sig.val).word e.word.val) :=
  if_pos ⟨h3, h6⟩

/-! ### O38 -/

/-- Settles O38: freshness and the scrub by their cases; the firing schedule by what one entry changes, at its admission
(fireJudge_spec) and at its application (applied_fireOne). -/
theorem freshnessScrubAndFiring : Obligations.FreshnessScrubAndFiring := by
  unfold Obligations.FreshnessScrubAndFiring
  refine ⟨?stale, ?scrubNone, ?scrubCons, ?corrected, ?fault, ?restored, ?admission, ?admissionCons, ?judged, ?apply, ?output,
    ?forced, ?action⟩
  case stale =>
    intro s g
    refine ⟨_, rfl, ?_⟩
    split_ifs with h
    · exact freshOne_stale h
    · exact freshOne_fresh h
  case scrubNone => exact fun s => ⟨_, rfl, rfl⟩
  case scrubCons => exact fun s e es => ⟨_, rfl, rfl⟩
  case corrected =>
    intro s e h
    refine yields_next rfl (scrubImage_corrected s h) ⟨?_, onlyWords_setFld s F.IMAGE_ECC_CORRECTED _ 0 0⟩
    exact fld_bump_same s F.IMAGE_ECC_CORRECTED 0 0 1 (by decide) (by decide)
  case fault =>
    intro s e h hw
    obtain ⟨hcount, hsig, himage, hkeeps⟩ := scrubImage_double_spec s h
    have hrec := hsig.trans (scrubRecord_fault hw)
    have hq : ((s.scrubImage e).sig e.sig.val).quality = qFaulted (s.sig e.sig.val).quality := by rw [hrec]
    refine ⟨s.scrubImage e, rfl, hcount, ?_, ?_, ?_, fun i h0 h5 => ?_, by rw [hsig]; exact himage, hkeeps⟩
    · rw [hq]
      exact hrec
    · rw [hq, getLsbD_qFaulted _ (by decide)]
      simp
    · rw [hq, getLsbD_qFaulted _ (by decide)]
      simp
    · rw [hq, getLsbD_qFaulted _ i.isLt]
      simp [h0, h5]
  case restored =>
    intro s e h h3 h6
    obtain ⟨hcount, -, himage, hkeeps⟩ := scrubImage_double_spec s h
    rw [scrubRecord_restored h3 h6] at himage
    exact ⟨s.scrubImage e, rfl, hcount, himage, hkeeps⟩
  case admission =>
    intro s
    have h := (judged_fireAdmission s).eq
    refine ⟨s.fireAdmission, rfl, fireAdmission_fireIn s, ?_, ?_, ?_, ?_, ?_, ?_⟩
    all_goals rw [h]
  case admissionCons => exact fun s f fs h => ⟨_, rfl, congrArg Host.Outcome.next (fireAdmission_cons h)⟩
  case judged => exact fun s f h ha => yields_next rfl (fireAdmission_one h) (fireJudge_spec (s.awaiting []) ha)
  case apply =>
    intro s
    have h := (applied_fireApply s).eq
    refine ⟨s.fireApply, rfl, ?_, ?_, ?_, ?_, ?_, ?_, fireApply_peak s, fun g hg => fireApply_sig hg⟩
    all_goals
      rw [h]
      rfl
  case output =>
    intro s f hs ha hd hout hn
    obtain ⟨hvalue, hstamp, hupd, hfired⟩ := fireOne_unforced (s := s.fireTaken) ha hout hn
    exact yields_next rfl (fireApply_one hs hd) ⟨hvalue, hstamp.trans (fireTaken_stamp s), hupd, hfired⟩
  case forced =>
    intro s f x hs hd hout hx
    exact yields_next rfl (fireApply_one hs hd) (fireOne_forced (s := s.fireTaken) hout hx)
  case action =>
    intro s f hs hd hact
    exact yields_next rfl (fireApply_one hs hd) (fireOne_handed (s := s.fireTaken) hact)

end Sys2Proof.Machine
end

section
/-! SUPPORT. What conditions, items and status changes of an analogue channel change, and what they leave as it was: the words in
which no channel shows its condition, what its configuration says, and the records of the other channels. -/
namespace Sys2Proof.Machine

/-! ### What the operations of channels can change -/

/-- The words in which channel g and its slice show a condition, and those of the record of events. -/
def chanWords (g : Nat) : List Nat :=
  [R.ACH_STATUS.addr g 0, R.ACH_LATCH.addr g 0, R.ACH_COUNTS.addr g 0, R.AS_FAULT.addr (g / 32) 0, R.AS_SUMMARY.base] ++ eventWords

/-- t differs from s in the words of ws, the vault, the records of the channels of gs, and further deliveries. -/
structure State.Channels (ws gs : List Nat) (s t : State) : Prop where
  eq : t = { s with regs := t.regs, vault := t.vault, ach := t.ach, image.updates := t.image.updates, image.last := t.image.last }
  keeps : s.Keeps ws t
  others : ∀ h, h ∉ gs → t.achan h = s.achan h
  updates : s.image.updates ⊆ t.image.updates

namespace State.Channels

section
variable {ws gs : List Nat} {s t u : State}

theorem refl (ws gs : List Nat) (s : State) : s.Channels ws gs s := ⟨rfl, fun _ _ => rfl, fun _ _ => rfl, fun _ h => h⟩

theorem trans (h : s.Channels ws gs t) (k : t.Channels ws gs u) : s.Channels ws gs u where
  eq := k.eq.trans (congrArg (fun w : State => { w with
    regs := u.regs, vault := u.vault, ach := u.ach, image.updates := u.image.updates, image.last := u.image.last }) h.eq)
  keeps a ha := (k.keeps a ha).trans (h.keeps a ha)
  others g hg := (k.others g hg).trans (h.others g hg)
  updates _ hx := k.updates (h.updates hx)

theorem mono {vs fs : List Nat} (h : s.Channels vs fs t) (hv : vs ⊆ ws) (hf : fs ⊆ gs) : s.Channels ws gs t where
  eq := h.eq
  keeps a ha := h.keeps a fun e => ha (hv e)
  others g hg := h.others g fun e => hg (hf e)
  updates := h.updates

theorem setReg (h : s.Channels ws gs t) {r : Reg} {i j : Nat} (v : Nat) (m : r.addr i j ∈ ws) :
    s.Channels ws gs (t.setReg r v i j) :=
  h.trans ⟨rfl, fun _ ha => word_setWord_ne t _ fun e => ha (e ▸ m), fun _ _ => rfl, fun _ hx => hx⟩

theorem setAch (h : s.Channels ws gs t) {g : Nat} (hg : g ∈ gs) (x : ACh) : s.Channels ws gs (t.setAch g x) :=
  h.trans ⟨rfl, fun _ _ => rfl, fun _ hk => State.setAch_achan_ne t x fun e => hk (e ▸ hg), fun _ hx => hx⟩

theorem deliverAt (h : s.Channels ws gs t) (due kind index : Nat) (c : Copy) : s.Channels ws gs (t.deliverAt due kind index c) :=
  h.trans ⟨rfl, fun _ _ => rfl, fun _ _ => rfl, fun _ hx => List.mem_append_left _ hx⟩

theorem ev (h : s.Channels ws gs t) (he : eventWords ⊆ ws) (code : Nat) (items : List Item) :
    s.Channels ws gs (t.ev code items) := by
  refine h.trans ⟨?_, fun a ha => ev_word t code items fun e => ha (he e), fun g _ => ?_, ?_⟩
  · rw [State.ev_ach, State.ev_image]
    exact (logged_ev t code items).1
  · rw [State.achan, State.ev_ach, State.achan]
  · rw [State.ev_image]
    exact fun _ hx => hx

end

end State.Channels

/-! ### Items, status and conditions of one channel -/

/-- t differs from s as the items, the status and the conditions of channel g make it differ: of the channel's record only the
items that wait for their first delivery change. -/
structure State.Shows (g : Nat) (s t : State) : Prop where
  frame : s.Channels (chanWords g) [g] t
  record : t.achan g = { s.achan g with wait := (t.achan g).wait }

namespace State.Shows

section
variable {g : Nat} {s t u : State}

theorem refl (g : Nat) (s : State) : s.Shows g s := ⟨Channels.refl _ _ s, rfl⟩

theorem trans (h : s.Shows g t) (k : t.Shows g u) : s.Shows g u where
  frame := h.frame.trans k.frame
  record := k.record.trans (congrArg (fun x : ACh => { x with wait := (u.achan g).wait }) h.record)

variable (h : s.Shows g t)
include h

theorem setReg {r : Reg} {i j : Nat} (v : Nat) (m : r.addr i j ∈ chanWords g) : s.Shows g (t.setReg r v i j) :=
  ⟨h.frame.setReg v m, h.record⟩

theorem deliverAt (due kind index : Nat) (c : Copy) : s.Shows g (t.deliverAt due kind index c) :=
  ⟨h.frame.deliverAt due kind index c, h.record⟩

theorem ev (code : Nat) (items : List Item) : s.Shows g (t.ev code items) where
  frame := h.frame.ev (fun _ ha => List.mem_append_right _ ha) code items
  record := by
    have e : (t.ev code items).achan g = t.achan g := by rw [State.achan, State.ev_ach, State.achan]
    rw [e]
    exact h.record

theorem setWait (ks : List Nat) : s.Shows g (t.setAch g { t.achan g with wait := ks }) where
  frame := h.frame.setAch List.mem_cons_self _
  record := by
    rw [State.setAch_achan_same]
    exact congrArg (fun x : ACh => { x with wait := ks }) h.record

theorem aDeliver (i : Nat) (v : W64) (q : BitVec 8) (stamp : W64) : s.Shows g (t.aDeliver g i v q stamp) := by
  unfold State.aDeliver
  extract_lets ch u
  have hu : s.Shows g u := keeps_ite (h.setWait _) h
  exact hu.deliverAt _ _ _ _

theorem aItem (i : Nat) (v stamp : W64) : s.Shows g (t.aItem g i v stamp) := h.aDeliver _ _ _ _

theorem setAStatus (new : Nat) : s.Shows g (t.setAStatus g new) := by
  unfold State.setAStatus
  extract_lets old m sl was is s1 s2 s3 s4
  have h1 : s.Shows g s1 := (h.setReg _ (by simp [chanWords])).setReg _ (by simp [chanWords])
  have h2 : s.Shows g s2 := h1.setReg _ (by simp [chanWords, sl])
  have h3 : s.Shows g s3 := h2.setReg _ (by simp [chanWords, Reg.addr])
  have h4 : s.Shows g s4 := keeps_ite (Shows.ev (h3.setReg _ (by simp [chanWords])) _ _) (keeps_ite (h3.ev _ _) h3)
  exact keeps_ite h (h4.aItem _ _ _)

theorem aBit (n : Nat) (b : Bool) : s.Shows g (t.aBit g n b) := h.setAStatus _

theorem aRequal : s.Shows g (t.aRequal g) := keeps_fold (fun _ _ hu => keeps_ite hu (hu.deliverAt _ _ _ _)) h

theorem aCond (n : Nat) (b : Bool) : s.Shows g (t.aCond g n b) := keeps_ite h ((h.aBit n b).aRequal)
end

end State.Shows

end Sys2Proof.Machine
end

section
/-! SUPPORT. CH_STATUS of an analogue channel after its changes, the items that the channel delivers, and its output stage. -/
namespace Sys2Proof.Machine

/-! ### Single bits -/

theorem bit_putBits (v n m : Nat) (b : Bool) : bit (putBits v n n (b2n b)) m = if m = n then b else bit v m := by
  rw [bit_eq_testBit, bit_eq_testBit, testBit_putBits (le_refl n)]
  by_cases h : m = n
  · subst h
    cases b <;> simp [b2n]
  · rw [if_neg (by omega), if_neg h]

/-- A bit that is written as it stands changes nothing. -/
theorem putBits_of_bit {v n : Nat} {b : Bool} (h : bit v n = b) : putBits v n n (b2n b) = v := by
  apply Nat.eq_of_testBit_eq
  intro m
  rw [← bit_eq_testBit, ← bit_eq_testBit, bit_putBits]
  split
  next e => rw [e, h]
  · rfl

/-! ### Addresses -/

/-- No register of a channel above its settings is one of those that record events. -/
theorem not_event_of_offset {r : Reg} {g : Nat} (h1 : r.s1 = 0x1000) (h : 0x10 ≤ r.base % 0x1000) : r.addr g 0 ∉ eventWords := by
  simp only [Reg.addr, h1, mul_zero, eventWords, List.mem_cons, List.not_mem_nil, or_false]
  omega

/-! ### CH_STATUS -/

theorem aDeliver_word (s : State) (g i : Nat) (v : W64) (q : BitVec 8) (stamp : W64) (a : Nat) :
    (s.aDeliver g i v q stamp).word a = s.word a := by
  unfold State.aDeliver
  extract_lets ch u
  change u.word a = s.word a
  unfold u
  split <;> rfl

theorem aItem_word (s : State) (g i : Nat) (v stamp : W64) (a : Nat) : (s.aItem g i v stamp).word a = s.word a :=
  aDeliver_word s g i v _ stamp a

theorem aRequal_word (s : State) (g a : Nat) : (s.aRequal g).word a = s.word a := by
  refine fold_same (p := fun t => t.word a) (fun t i => ?_) _ _
  split <;> rfl

theorem status_setAStatus (s : State) (g : Nat) {new : Nat} (h : new < 2 ^ 32) :
    (s.setAStatus g new).reg R.ACH_STATUS g = new := by
  unfold State.setAStatus
  extract_lets old m sl was is s1 s2 s3 s4
  have h1 : s1.reg R.ACH_STATUS g = new :=
    (reg_setReg_ne _ _ (by simp only [Reg.addr]; omega)).trans (reg_setReg_same s _ _ _ _ h)
  have h2 : s2.reg R.ACH_STATUS g = new := (reg_setReg_ne _ _ (by simp only [Reg.addr]; omega)).trans h1
  have h3 : s3.reg R.ACH_STATUS g = new := (reg_setReg_ne _ _ (by simp only [Reg.addr]; omega)).trans h2
  have he : R.ACH_STATUS.addr g 0 ∉ eventWords := not_event_of_offset rfl (by decide)
  have h4 : s4.reg R.ACH_STATUS g = new := by
    unfold s4
    split
    · exact (ev_reg _ _ _ he).trans ((reg_setFld_ne _ _ (by simp only [Reg.addr]; omega)).trans h3)
    · split
      · exact (ev_reg _ _ _ he).trans h3
      · exact h3
  split
  next e => exact e.symm
  · exact (reg_eq_of_word (aItem_word _ _ _ _ _ _)).trans h4

/-- CH_STATUS after one bit of it has been set or cleared. -/
theorem bit_aBit (s : State) (g : Nat) {n : Nat} (hn : n < 32) (b : Bool) (m : Nat) :
    bit ((s.aBit g n b).reg R.ACH_STATUS g) m = if m = n then b else bit (s.reg R.ACH_STATUS g) m := by
  rw [State.aBit, status_setAStatus _ _ (putBits_lt (le_refl n) hn (reg_lt s _ _ _)), bit_putBits]

theorem bit_aCond (s : State) (g : Nat) {n : Nat} (hn : n < 32) (b : Bool) (m : Nat) :
    bit ((s.aCond g n b).reg R.ACH_STATUS g) m = if m = n then b else bit (s.reg R.ACH_STATUS g) m := by
  unfold State.aCond
  split
  next h =>
    split
    next e => rw [e, h]
    · rfl
  · rw [reg_eq_of_word (aRequal_word _ _ _), bit_aBit s g hn]

theorem status_ev (s : State) (g code : Nat) (items : List Item) :
    (s.ev code items).reg R.ACH_STATUS g = s.reg R.ACH_STATUS g := ev_reg _ _ _ (not_event_of_offset rfl (by decide))

/-! ### The output stage (R220) -/

theorem aStageOf_heldOff {s : State} {g : Nat} (h : s.aHeldOff g = true) : s.aStageOf g = .init := by
  unfold State.aStageOf
  split
  · rfl
  · exact if_pos h
  · exact if_pos h

/-- What is shown of a setpoint is CLAMP, FAILDRIVE and SAFEDRIVE. -/
theorem bit_aShow (st : Nat) (p : ASetpoint) {m : Nat} (h1 : m ≠ abClamp) (h2 : m ≠ abFailDrive) (h3 : m ≠ abSafeDrive) :
    bit (aShow st p) m = bit st m := by
  rw [aShow, bit_putBits, if_neg h3, bit_putBits, if_neg h2, bit_putBits, if_neg h1]

theorem aShow_lt {st : Nat} (h : st < 2 ^ 32) (p : ASetpoint) : aShow st p < 2 ^ 32 :=
  putBits_lt (le_refl _) (by decide) (putBits_lt (le_refl _) (by decide) (putBits_lt (le_refl _) (by decide) h))

/-- t differs from s in what channel g shows and in its output stage; of CH_STATUS in CLAMP, FAILDRIVE and SAFEDRIVE only. -/
structure State.Drives (g : Nat) (s t : State) : Prop where
  frame : s.Channels (chanWords g) [g] t
  bits : ∀ m, m ≠ abClamp → m ≠ abFailDrive → m ≠ abSafeDrive → bit (t.reg R.ACH_STATUS g) m = bit (s.reg R.ACH_STATUS g) m
  record : t.achan g = { s.achan g with stage := (t.achan g).stage, wait := (t.achan g).wait }

namespace State.Drives

theorem refl (g : Nat) (s : State) : s.Drives g s := ⟨Channels.refl _ _ s, fun _ _ _ _ => rfl, rfl⟩

theorem setAStatus (s : State) (g : Nat) (p : ASetpoint) : s.Drives g (s.setAStatus g (aShow (s.reg R.ACH_STATUS g) p)) where
  frame := ((Shows.refl g s).setAStatus _).frame
  bits m h1 h2 h3 := by rw [status_setAStatus s g (aShow_lt (reg_lt s _ _ _) p), bit_aShow _ _ h1 h2 h3]
  record := congrArg (fun x : ACh => { x with stage := ((s.setAStatus g (aShow (s.reg R.ACH_STATUS g) p)).achan g).stage })
    ((Shows.refl g s).setAStatus (aShow (s.reg R.ACH_STATUS g) p)).record

theorem setStage {g : Nat} {s t : State} (h : s.Drives g t) (x : Stage) :
    s.Drives g (t.setAch g { t.achan g with stage := x }) where
  frame := h.frame.setAch List.mem_cons_self _
  bits := h.bits
  record := by
    rw [State.setAch_achan_same]
    exact congrArg (fun c : ACh => { c with stage := x }) h.record

end State.Drives

/-- The stage of an output follows what overrides it, once CH_STATUS shows what it drives. -/
theorem aStage_out {s : State} {g : Nat} (h : aIsOut (s.aMode g) = true) :
    ∃ u, s.Drives g u ∧ s.aStage g = u.setAch g { u.achan g with stage := u.aStageOf g } := by
  unfold State.aStage
  rw [if_neg (by simp [h])]
  extract_lets st u
  refine ⟨u, ?_, rfl⟩
  unfold u
  split
  · exact .setAStatus s g _
  · exact .setAStatus s g _
  · exact .refl g s

theorem drives_aStage (s : State) (g : Nat) : s.Drives g (s.aStage g) := by
  by_cases h : aIsOut (s.aMode g) = true
  · obtain ⟨u, hu, e⟩ := aStage_out h
    rw [e]
    exact hu.setStage _
  · have e : s.aStage g = s := if_pos (by simp [h])
    rw [e]
    exact .refl g s

/-- An output that is held off drives nothing. -/
theorem aStage_heldOff {s : State} {g : Nat} (h : aIsOut (s.aMode g) = true) (hoff : s.aHeldOff g = true) :
    ((s.aStage g).achan g).stage = .init := by
  obtain ⟨u, hu, e⟩ := aStage_out h
  have hu' : u.aHeldOff g = true := by
    rw [State.aHeldOff, hu.record, hu.bits abThermal (by decide) (by decide) (by decide)]
    exact hoff
  rw [e, State.setAch_achan_same]
  exact aStageOf_heldOff hu'

/-- The retry of an output whose protection has acted: it drives its setpoint where nothing overrides it or holds it off. -/
def State.aDriveAgain (s : State) (g mode : Nat) : State :=
  if s.override (g / 32) = .none ∧ !s.aHeldOff g then s.setAch g { s.achan g with stage := ⟨true, aCode mode (s.achan g).setp⟩ }
  else s.aStage g

theorem drives_aDriveAgain (s : State) (g mode : Nat) : s.Drives g (s.aDriveAgain g mode) :=
  keeps_ite ((State.Drives.refl g s).setStage _) (drives_aStage s g)

theorem aDriveAgain_stage {s : State} {g : Nat} (mode : Nat) (ho : s.override (g / 32) = .none) (hoff : s.aHeldOff g = false) :
    ((s.aDriveAgain g mode).achan g).stage = ⟨true, aCode mode (s.achan g).setp⟩ := by
  rw [State.aDriveAgain, if_pos ⟨ho, by simp [hoff]⟩, State.setAch_achan_same]

end Sys2Proof.Machine
end

section
/-! SUPPORT. What the operations of analogue channels read and leave alone: settings of channels, states of slices and links, roles,
time and its stamps. -/
namespace Sys2Proof.Machine

/-- The words that analogue channels write: those of events, of the slices' faults and cold junctions, and of each channel's
results. -/
def resultWord (a : Nat) : Prop := a ∈ eventWords ∨ (0x8000000 ≤ a ∧ a < 0x8100000) ∨
  (0x8100000 ≤ a ∧ a < 0x81C0000 ∧ 0x60 ≤ a % 0x1000 ∧ a % 0x1000 < 0x80)

theorem resultWord_ev {a : Nat} (h : a ∈ eventWords) : resultWord a := .inl h

theorem resultWord_slice {a : Nat} (h : 0x8000000 ≤ a) (h' : a < 0x8100000) : resultWord a := .inr (.inl ⟨h, h'⟩)

theorem resultWord_channel {r : Reg} {g : Nat} (hg : g < 192) (h1 : r.s1 = 0x1000) (h : 0x8100060 ≤ r.base)
    (h' : r.base < 0x8100080) : resultWord (r.addr g 0) := by
  rw [Reg.addr, h1]
  exact .inr (.inr (by omega))

/-- The words of the units other than the analogue channels and the vault are not written. -/
theorem not_resultWord {a : Nat} (h : a < 0x8000000 ∨ (0x8200000 ≤ a ∧ a < 0x11000000)) : ¬ resultWord a := by
  simp only [resultWord, eventWords, List.mem_cons, List.not_mem_nil, or_false]
  omega

/-- Nor are the settings of a channel. -/
theorem not_resultWord_setting {r : Reg} {g j : Nat} (hg : g < 192) (h1 : r.s1 = 0x1000) (h : 0x8100000 ≤ r.base)
    (h' : r.base + r.s2 * j < 0x8100060) : ¬ resultWord (r.addr g j) := by
  simp only [Reg.addr, h1, resultWord, eventWords, List.mem_cons, List.not_mem_nil, or_false]
  omega

theorem resultWord_chanWords {g a : Nat} (hg : g < 192) (h : a ∈ chanWords g) : resultWord a := by
  simp only [chanWords, Reg.addr, List.mem_append, List.mem_cons, List.not_mem_nil, or_false] at h
  obtain (rfl | rfl | rfl | rfl | rfl) | h := h
  · exact resultWord_channel (r := R.ACH_STATUS) hg rfl (by decide) (by decide)
  · exact resultWord_channel (r := R.ACH_LATCH) hg rfl (by decide) (by decide)
  · exact resultWord_channel (r := R.ACH_COUNTS) hg rfl (by decide) (by decide)
  · exact resultWord_slice (by omega) (by omega)
  · exact resultWord_slice (by decide) (by decide)
  · exact resultWord_ev h

/-- t differs from s in the results of analogue channels, their records, their deliveries and recorded events only. -/
structure State.Measured (s t : State) : Prop where
  eq : t = { s with regs := t.regs, vault := t.vault, ach := t.ach, image.updates := t.image.updates, image.last := t.image.last }
  word : ∀ a, ¬ resultWord a → t.word a = s.word a

theorem State.Channels.measured {ws gs : List Nat} {s t : State} (h : s.Channels ws gs t) (hw : ∀ a ∈ ws, resultWord a) :
    s.Measured t := ⟨h.eq, fun a ha => h.keeps a fun e => ha (hw a e)⟩

theorem State.Shows.measured {g : Nat} {s t : State} (hg : g < 192) (h : s.Shows g t) : s.Measured t :=
  h.frame.measured fun _ => resultWord_chanWords hg

namespace State.Measured

section
variable {s t : State} (h : s.Measured t)
include h

theorem tick : t.tick = s.tick := by rw [h.eq]
theorem drive : t.drive = s.drive := by rw [h.eq]
theorem links : t.links = s.links := by rw [h.eq]
theorem time : t.time = s.time := by rw [h.eq]
theorem pair : t.pair = s.pair := by rw [h.eq]

theorem reg {r : Reg} {i j : Nat} (ha : ¬ resultWord (r.addr i j)) : t.reg r i j = s.reg r i j := reg_eq_of_word (h.word _ ha)

theorem fld {f : Fld} {i j : Nat} (ha : ¬ resultWord (f.reg.addr i j)) : t.fld f i j = s.fld f i j := fld_eq_of_word (h.word _ ha)

theorem flag {f : Fld} {i j : Nat} (ha : ¬ resultWord (f.reg.addr i j)) : t.flag f i j = s.flag f i j :=
  flag_eq_of_word (h.word _ ha)

/-- A setting of a channel. -/
theorem chanFld {f : Fld} {g : Nat} (hg : g < 192) (h1 : f.reg.s1 = 0x1000) (h2 : 0x8100000 ≤ f.reg.base)
    (h3 : f.reg.base < 0x8100060) : t.fld f g = s.fld f g := h.fld (not_resultWord_setting hg h1 h2 (by omega))

/-- A 64-bit setting of a channel. -/
theorem chanReg64 {r : Reg} {g : Nat} (hg : g < 192) (h1 : r.s1 = 0x1000) (h2 : 0x8100000 ≤ r.base)
    (h3 : r.base + r.s2 < 0x8100060) : t.reg64 r g = s.reg64 r g := by
  rw [State.reg64, State.reg64, h.reg (not_resultWord_setting hg h1 h2 (by omega)),
    h.reg (not_resultWord_setting hg h1 h2 (by omega))]

theorem aMode {g : Nat} (hg : g < 192) : t.aMode g = s.aMode g := h.chanFld hg rfl (by decide) (by decide)

theorem aRange {g : Nat} (hg : g < 192) : t.aRange g = s.aRange g := h.chanFld hg rfl (by decide) (by decide)

theorem slState {g : Nat} (hg : g < 192) : t.slState (g / 32) = s.slState (g / 32) :=
  h.fld (not_resultWord (by simp only [Reg.addr]; omega))

theorem pairState : t.pairState = s.pairState := h.fld (not_resultWord (by decide))

theorem inControl : t.inControl = s.inControl := by rw [State.inControl, State.inControl, h.pairState]

theorem sliceOn {sl : Nat} (hsl : sl < 6) : t.sliceOn sl = s.sliceOn sl := by
  have hd {d : Nat} (hd : d < 64) : t.domOn d = s.domOn d := by
    rw [State.domOn, State.domOn, h.reg (not_resultWord (by simp only [Reg.addr]; omega))]
  rw [State.sliceOn, State.sliceOn, hd (by omega), hd (by omega)]

theorem override {g : Nat} (hg : g < 192) : t.override (g / 32) = s.override (g / 32) := by
  have hl : t.link (g / 32) = s.link (g / 32) := by rw [State.link, h.links, State.link]
  have hf : t.flag F.SL_STATUS_DOWNLOADED (g / 32) = s.flag F.SL_STATUS_DOWNLOADED (g / 32) :=
    h.flag (not_resultWord (by simp only [Reg.addr]; omega))
  rw [State.override, State.override, h.drive, h.sliceOn (by omega), hl, hf, h.inControl]

theorem aOverride {g : Nat} (hg : g < 192) : t.aOverride g = s.aOverride g := by
  rw [State.aOverride, State.aOverride, h.pairState, h.aMode hg, h.override hg]

theorem tsValid : t.tsValid = s.tsValid := h.flag (not_resultWord (by decide))

theorem stamp : t.stamp = s.stamp := by
  rw [State.stamp, State.stamp, h.tsValid, h.time, State.ts, State.ts, State.tl, State.tl, h.tick, h.time]

theorem stampNs (ns : Int) : t.stampNs ns = s.stampNs ns := by rw [State.stampNs, State.stampNs, h.tsValid, h.time]

theorem aScale {g : Nat} (hg : g < 192) (x : W64) : t.aScale g x = s.aScale g x := by
  have hsel : t.flag F.ACH_CFG_SCALE_SEL g = s.flag F.ACH_CFG_SCALE_SEL g :=
    h.flag (not_resultWord_setting hg rfl (by decide) (by decide))
  have hr {r : Reg} (h1 : r.s1 = 0x1000) (h2 : 0x8100000 ≤ r.base) (h3 : r.base + r.s2 < 0x8100060) : t.reg64 r g = s.reg64 r g :=
    h.chanReg64 hg h1 h2 h3
  rw [State.aScale, State.aScale, hsel, hr (r := R.ACH_GAIN_0) rfl (by decide) (by decide),
    hr (r := R.ACH_GAIN_1) rfl (by decide) (by decide), hr (r := R.ACH_OFFSET_0) rfl (by decide) (by decide),
    hr (r := R.ACH_OFFSET_1) rfl (by decide) (by decide)]
end

end State.Measured

end Sys2Proof.Machine
end

section
/-! PROOF. Protection of current inputs and voltage outputs, thermal shutdown, and the end of a reconfiguration (O41). -/
namespace Sys2Proof.Machine

/-- t differs from s in the channels of gs, in the words that show their conditions and in those of `also`: the frame of O40 and
O41. -/
def State.OnlyChannels (also gs : List Nat) (s t : State) : Prop :=
  t = { s with regs := t.regs, vault := t.vault, ach := t.ach, image.updates := t.image.updates, image.last := t.image.last } ∧
    s.Keeps (gs.flatMap chanWords ++ also) t ∧ ∀ h < 192, h ∉ gs → t.achan h = s.achan h

theorem State.Channels.only {also gs : List Nat} {s t : State} (h : s.Channels (gs.flatMap chanWords ++ also) gs t) :
    s.OnlyChannels also gs t := ⟨h.eq, h.keeps, fun k _ => h.others k⟩

theorem State.Channels.onlyOne {g : Nat} {s t : State} (h : s.Channels (chanWords g) [g] t) : s.OnlyChannels [] [g] t :=
  (h.mono (by simp) (fun _ hk => hk)).only

theorem ev_achan (s : State) (code : Nat) (items : List Item) (g : Nat) : (s.ev code items).achan g = s.achan g := by
  rw [State.achan, State.ev_ach, State.achan]

/-! ### A change of the channel's record and of a condition -/

section
variable (s : State) (g : Nat) (x : ACh) (n : Nat) (b : Bool)

theorem setAch_aCond_frame : s.Channels (chanWords g) [g] ((s.setAch g x).aCond g n b) :=
  ((State.Channels.refl _ _ s).setAch List.mem_cons_self x).trans ((State.Shows.refl g _).aCond n b).frame

theorem setAch_aCond_record :
    ((s.setAch g x).aCond g n b).achan g = { x with wait := (((s.setAch g x).aCond g n b).achan g).wait } := by
  have h := ((State.Shows.refl g (s.setAch g x)).aCond n b).record
  rwa [State.setAch_achan_same] at h

theorem setAch_aCond_bit (hn : n < 32) (m : Nat) :
    bit (((s.setAch g x).aCond g n b).reg R.ACH_STATUS g) m = if m = n then b else bit (s.reg R.ACH_STATUS g) m :=
  bit_aCond _ g hn b m

end

/-! ### Current inputs (R206) -/

section
variable {s : State} {g : Nat}

theorem aCurOverload_spec (hm : s.aMode g = aCurIn) (hc : (s.achan g).cut = false) :
    ((s.aCurOverload g).achan g).cut = true ∧ bit ((s.aCurOverload g).reg R.ACH_STATUS g) abOverload = true ∧
      s.OnlyChannels [] [g] (s.aCurOverload g) := by
  have e : s.aCurOverload g =
      ((s.setAch g { s.achan g with cut := true }).aCond g abOverload true).ev 0x0805 [.b16 g, .b8 aCurIn] :=
    if_neg (by simp [hm, hc])
  rw [e]
  refine ⟨?_, ?_, State.Channels.onlyOne ((setAch_aCond_frame s g _ _ _).ev (List.subset_append_right _ _) _ _)⟩
  · rw [ev_achan, setAch_aCond_record]
  · rw [status_ev, setAch_aCond_bit s g _ _ _ (by decide), if_pos rfl]

theorem aCurRetry_spec (hm : s.aMode g = aCurIn) (hc : (s.achan g).cut = true) :
    ((s.aCurRetry g false).achan g).cut = false ∧ bit ((s.aCurRetry g false).reg R.ACH_STATUS g) abOverload = false ∧
      s.OnlyChannels [] [g] (s.aCurRetry g false) := by
  have e : s.aCurRetry g false = (s.setAch g { s.achan g with cut := false }).aCond g abOverload false := if_neg (by simp [hm, hc])
  rw [e]
  refine ⟨?_, ?_, (setAch_aCond_frame s g _ _ _).onlyOne⟩
  · rw [setAch_aCond_record]
  · rw [setAch_aCond_bit s g _ _ _ (by decide), if_pos rfl]

/-! ### Voltage outputs (R216) -/

theorem aVoltOverload_spec (hg : g < 192) (hm : s.aMode g = aVoltOut) (hc : (s.achan g).cut = false) :
    ((s.aVoltOverload g).achan g).cut = true ∧ ((s.aVoltOverload g).achan g).stage = .init ∧
      bit ((s.aVoltOverload g).reg R.ACH_STATUS g) abOverload = true ∧ s.OnlyChannels [] [g] (s.aVoltOverload g) := by
  have e : s.aVoltOverload g =
      (((s.setAch g { s.achan g with cut := true }).aCond g abOverload true).ev 0x0805 [.b16 g, .b8 aVoltOut]).aStage g :=
    if_neg (by simp [hm, hc])
  set v := ((s.setAch g { s.achan g with cut := true }).aCond g abOverload true).ev 0x0805 [.b16 g, .b8 aVoltOut] with hv
  have hframe : s.Channels (chanWords g) [g] v := (setAch_aCond_frame s g _ _ _).ev (List.subset_append_right _ _) _ _
  have hmode : v.aMode g = aVoltOut := ((hframe.measured fun _ => resultWord_chanWords hg).aMode hg).trans hm
  have hcut : (v.achan g).cut = true := by rw [hv, ev_achan, setAch_aCond_record]
  have hbit : bit (v.reg R.ACH_STATUS g) abOverload = true := by
    rw [hv, status_ev, setAch_aCond_bit s g _ _ _ (by decide), if_pos rfl]
  have hd := drives_aStage v g
  rw [e]
  refine ⟨?_, aStage_heldOff (by rw [hmode]; rfl) (by simp [State.aHeldOff, hcut]), ?_, (hframe.trans hd.frame).onlyOne⟩
  · rw [hd.record]
    exact hcut
  · rw [hd.bits abOverload (by decide) (by decide) (by decide), hbit]

theorem aVoltRetry_spec (hg : g < 192) (hm : s.aMode g = aVoltOut) (hc : (s.achan g).cut = true) :
    ((s.aVoltRetry g).achan g).cut = false ∧ bit ((s.aVoltRetry g).reg R.ACH_STATUS g) abOverload = false ∧
      (s.override (g / 32) = .none → (s.achan g).setting = false → bit (s.reg R.ACH_STATUS g) abThermal = false →
        ((s.aVoltRetry g).achan g).stage = ⟨true, aCode aVoltOut (s.achan g).setp⟩) ∧
      s.OnlyChannels [] [g] (s.aVoltRetry g) := by
  have e : s.aVoltRetry g = ((s.setAch g { s.achan g with cut := false }).aCond g abOverload false).aDriveAgain g aVoltOut :=
    if_neg (by simp [hm, hc])
  have hframe := setAch_aCond_frame s g { s.achan g with cut := false } abOverload false
  have hrecord := setAch_aCond_record s g { s.achan g with cut := false } abOverload false
  have hbit := setAch_aCond_bit s g { s.achan g with cut := false } abOverload false (by decide)
  rw [e]
  generalize (s.setAch g { s.achan g with cut := false }).aCond g abOverload false = v at hframe hrecord hbit
  have hd := drives_aDriveAgain v g aVoltOut
  refine ⟨?_, ?_, fun ho hs ht => ?_, (hframe.trans hd.frame).onlyOne⟩
  · rw [hd.record, hrecord]
  · rw [hd.bits abOverload (by decide) (by decide) (by decide), hbit, if_pos rfl]
  · have hov : v.override (g / 32) = .none := ((hframe.measured fun _ => resultWord_chanWords hg).override hg).trans ho
    have hoff : v.aHeldOff g = false := by
      rw [State.aHeldOff, hrecord, hbit, if_neg (by decide), ht, hs]
      rfl
    rw [aDriveAgain_stage _ hov hoff, hrecord]

/-! ### Thermal shutdown (R226) -/

theorem aThermal_spec (hg : g < 192) (hm : aIsOut (s.aMode g) = true) :
    bit ((s.aThermal g).reg R.ACH_STATUS g) abThermal = true ∧ ((s.aThermal g).achan g).stage = .init ∧
      s.OnlyChannels [] [g] (s.aThermal g) := by
  have e : s.aThermal g = (s.aBit g abThermal true).aStage g := if_pos hm
  have hs := (State.Shows.refl g s).aBit abThermal true
  have hbit := bit_aBit s g (n := abThermal) (by decide) true abThermal
  rw [if_pos rfl] at hbit
  have hd := drives_aStage (s.aBit g abThermal true) g
  rw [e]
  refine ⟨?_, aStage_heldOff ?_ ?_, (hs.frame.trans hd.frame).onlyOne⟩
  · rw [hd.bits abThermal (by decide) (by decide) (by decide), hbit]
  · rw [(hs.measured hg).aMode hg, hm]
  · rw [State.aHeldOff, hbit, Bool.or_true]

theorem aThermalRetry_spec (hg : g < 192) (hm : aIsOut (s.aMode g) = true) (ht : bit (s.reg R.ACH_STATUS g) abThermal = true) :
    bit ((s.aThermalRetry g).reg R.ACH_STATUS g) abThermal = false ∧
      (s.override (g / 32) = .none → (s.achan g).cut = false → (s.achan g).setting = false →
        ((s.aThermalRetry g).achan g).stage = ⟨true, aCode (s.aMode g) (s.achan g).setp⟩) ∧
      s.OnlyChannels [] [g] (s.aThermalRetry g) := by
  have hs := (State.Shows.refl g s).aBit abThermal false
  have hbit := bit_aBit s g (n := abThermal) (by decide) false abThermal
  rw [if_pos rfl] at hbit
  have e : s.aThermalRetry g = (s.aBit g abThermal false).aDriveAgain g (s.aMode g) := by
    rw [← (hs.measured hg).aMode hg]
    exact if_neg (by simp [hm, ht])
  have hd := drives_aDriveAgain (s.aBit g abThermal false) g (s.aMode g)
  rw [e]
  refine ⟨?_, fun ho hc hset => ?_, (hs.frame.trans hd.frame).onlyOne⟩
  · rw [hd.bits abThermal (by decide) (by decide) (by decide), hbit]
  · have hoff : (s.aBit g abThermal false).aHeldOff g = false := by
      rw [State.aHeldOff, hbit, hs.record, hc, hset]
      rfl
    rw [aDriveAgain_stage _ (((hs.measured hg).override hg).trans ho) hoff, hs.record]

/-! ### The end of a reconfiguration (R223) -/

theorem aReconfigDone_idle (h : (s.achan g).setting = false) : s.aReconfigDone g = s := if_pos (by simp [h])

theorem aReconfigDone_input (h : (s.achan g).setting = true) (hm : aIsOut (s.aMode g) = false) :
    s.aReconfigDone g = s.setAch g
      { s.achan g with setting := false, holdUntil := s.tick + 3 * aPeriod (s.fld F.ACH_RATE_RATE g) + 2 } := by
  unfold State.aReconfigDone
  rw [if_neg (by simp [h])]
  exact if_neg (Bool.eq_false_iff.mp hm)

theorem aReconfigDone_output (h : (s.achan g).setting = true) (hm : aIsOut (s.aMode g) = true) :
    ∃ items, s.aReconfigDone g = ((s.setAch g
      { s.achan g with setting := false, holdUntil := s.tick + 3 * aPeriod (s.fld F.ACH_RATE_RATE g) + 2 }).aCond g
        abReconfig false).ev 0x0804 items := by
  unfold State.aReconfigDone
  rw [if_neg (by simp [h])]
  exact ⟨_, if_pos hm⟩

theorem aReconfigDone_spec (h : (s.achan g).setting = true) :
    (s.aReconfigDone g).achan g = { s.achan g with
      setting := false, holdUntil := s.tick + 3 * aPeriod (s.fld F.ACH_RATE_RATE g) + 2,
      wait := ((s.aReconfigDone g).achan g).wait } ∧
    (aIsOut (s.aMode g) = true → bit ((s.aReconfigDone g).reg R.ACH_STATUS g) abReconfig = false) ∧
    (aIsOut (s.aMode g) = false → (s.aReconfigDone g).regs = s.regs ∧ (s.aReconfigDone g).image = s.image ∧
      (s.aReconfigDone g).vault = s.vault) ∧ s.OnlyChannels [] [g] (s.aReconfigDone g) := by
  by_cases hm : aIsOut (s.aMode g) = true
  · obtain ⟨items, e⟩ := aReconfigDone_output h hm
    rw [e]
    refine ⟨?_, fun _ => ?_, fun hn => absurd hm (by simp [hn]), ?_⟩
    · rw [ev_achan]
      exact setAch_aCond_record s g _ _ _
    · rw [status_ev, setAch_aCond_bit s g _ _ _ (by decide), if_pos rfl]
    · exact State.Channels.onlyOne ((setAch_aCond_frame s g _ _ _).ev (List.subset_append_right _ _) _ _)
  · have hin : aIsOut (s.aMode g) = false := by simpa using hm
    rw [aReconfigDone_input h hin]
    refine ⟨?_, fun hn => absurd hn hm, fun _ => ⟨rfl, rfl, rfl⟩, ?_⟩
    · rw [State.setAch_achan_same]
    · exact State.Channels.onlyOne ((State.Channels.refl _ _ s).setAch List.mem_cons_self _)

end

/-! ### O41 -/

/-- Settles O41: each command, in its condition by what it leaves, and in any other by its test. -/
theorem analogueProtectionAndReconfiguration : Obligations.AnalogueProtectionAndReconfiguration := by
  unfold Obligations.AnalogueProtectionAndReconfiguration
  refine ⟨?cut, ?cutIdle, ?closeIdle, ?close, ?volt, ?voltIdle, ?drive, ?driveIdle, ?thermal, ?thermalIdle, ?cooled, ?cooledIdle,
    ?done, ?doneIdle⟩
  case cut => exact fun s g hm hc => ⟨_, rfl, aCurOverload_spec hm hc⟩
  case cutIdle => exact fun s g h => yields_next rfl (if_pos h) rfl
  case closeIdle => exact fun s g high h => yields_next rfl (if_pos (by simpa using h)) rfl
  case close => exact fun s g hm hc => ⟨_, rfl, aCurRetry_spec hm hc⟩
  case volt => exact fun s g hm hc => ⟨_, rfl, aVoltOverload_spec g.isLt hm hc⟩
  case voltIdle => exact fun s g h => yields_next rfl (if_pos h) rfl
  case drive => exact fun s g hm hc => ⟨_, rfl, aVoltRetry_spec g.isLt hm hc⟩
  case driveIdle => exact fun s g h => yields_next rfl (if_pos (by simpa using h)) rfl
  case thermal => exact fun s g hm => ⟨_, rfl, aThermal_spec g.isLt hm⟩
  case thermalIdle => exact fun s g hm => yields_next rfl (if_neg (by simp [hm])) rfl
  case cooled => exact fun s g hm ht => ⟨_, rfl, aThermalRetry_spec g.isLt hm ht⟩
  case cooledIdle => exact fun s g h => yields_next rfl (if_pos (by simpa using h)) rfl
  case done => exact fun s g h => ⟨_, rfl, aReconfigDone_spec h⟩
  case doneIdle => exact fun s g h => yields_next rfl (aReconfigDone_idle h) rfl

end Sys2Proof.Machine
end

section
/-! SUPPORT. The items that an analogue channel delivers (R198), and what a readback window counts and shows (R218). -/
namespace Sys2Proof.Machine

/-! ### Items -/

theorem aDeliver_delivered (s : State) (g i : Nat) (v : W64) (q : BitVec 8) (stamp : W64) :
    ⟨s.tick + 2, kChannel, 8 * g + i, ⟨v, q, stamp⟩⟩ ∈ (s.aDeliver g i v q stamp).image.updates := by
  unfold State.aDeliver
  extract_lets ch u
  have hu : u.tick = s.tick := keeps_ite (P := fun w => w.tick = s.tick) rfl rfl
  rw [← hu]
  exact List.mem_append_right _ List.mem_cons_self

/-- t differs from s in items that channel g delivers: no register changes. -/
structure State.Delivers (g : Nat) (s t : State) : Prop where
  shows : s.Shows g t
  word : ∀ a, t.word a = s.word a

namespace State.Delivers

variable {g : Nat} {s t : State}

theorem refl (g : Nat) (s : State) : s.Delivers g s := ⟨.refl g s, fun _ => rfl⟩

theorem trans {u : State} (h : s.Delivers g t) (k : t.Delivers g u) : s.Delivers g u :=
  ⟨h.shows.trans k.shows, fun a => (k.word a).trans (h.word a)⟩

theorem aDeliver (h : s.Delivers g t) (i : Nat) (v : W64) (q : BitVec 8) (stamp : W64) :
    s.Delivers g (t.aDeliver g i v q stamp) :=
  ⟨h.shows.aDeliver _ _ _ _, fun a => (aDeliver_word _ _ _ _ _ _ a).trans (h.word a)⟩

theorem aItem (h : s.Delivers g t) (i : Nat) (v stamp : W64) : s.Delivers g (t.aItem g i v stamp) := h.aDeliver _ _ _ _

/-- An item that a channel on a running link delivers has the quality that its status gives it. -/
theorem delivered (h : s.Delivers g t) (hg : g < 192) (hrun : s.slState (g / 32) = slRun)
    (hlink : bit (s.reg R.ACH_STATUS g) abLink = false) (i : Nat) (v stamp : W64) :
    ⟨s.tick + 2, kChannel, 8 * g + i, ⟨v, aQual (s.aMode g) (s.reg R.ACH_STATUS g) i, stamp⟩⟩ ∈
      (t.aItem g i v stamp).image.updates := by
  have hm := h.shows.measured hg
  have hst : t.reg R.ACH_STATUS g = s.reg R.ACH_STATUS g := reg_eq_of_word (h.word _)
  have hq : putBits (t.reg R.ACH_STATUS g) abLink abLink (b2n (t.slState (g / 32) != slRun)) = s.reg R.ACH_STATUS g := by
    rw [hm.slState hg, hrun, hst]
    exact putBits_of_bit hlink
  have e : t.aItem g i v stamp = t.aDeliver g i v (aQual (s.aMode g) (s.reg R.ACH_STATUS g) i) stamp := by
    rw [← hm.aMode hg, ← hq]
    rfl
  have hd := aDeliver_delivered t g i v (aQual (s.aMode g) (s.reg R.ACH_STATUS g) i) stamp
  rwa [hm.tick, ← e] at hd

end State.Delivers

/-! ### Results in registers -/

theorem ofSintSat_lt (i : Int) : ofSintSat 32 i < 2 ^ 32 := by
  unfold ofSintSat
  split_ifs
  · decide
  · decide
  · exact ofSint_lt 32 i

/-- A code of the converter as a signed number. -/
theorem sint_toNat (v : BitVec 24) : sint 24 v.toNat = v.toInt := by
  have := v.isLt
  rw [sint, BitVec.toInt_eq_toNat_cond]
  split_ifs <;> omega

/-- The results that a channel shows beside its condition are no words of any channel's condition. -/
theorem result_not_mem_chanWords {r : Reg} {k g : Nat} (h1 : r.s1 = 0x1000) (h : 0x8100068 ≤ r.base)
    (h' : r.base < 0x8100070) : r.addr k 0 ∉ chanWords g := by
  simp only [chanWords, eventWords, Reg.addr, h1, List.mem_append, List.mem_cons, List.not_mem_nil, or_false]
  omega

/-! ### The count of mismatches -/

theorem mismatch_setAStatus (s : State) (g new : Nat) :
    (s.setAStatus g new).fld F.ACH_COUNTS_RB_MISMATCH g = s.fld F.ACH_COUNTS_RB_MISMATCH g := by
  unfold State.setAStatus
  extract_lets old m sl was is s1 s2 s3 s4
  have h3 : s3.fld F.ACH_COUNTS_RB_MISMATCH g = s.fld F.ACH_COUNTS_RB_MISMATCH g := by
    refine (fld_setReg_ne _ _ ?_).trans ((fld_setReg_ne _ _ ?_).trans ((fld_setReg_ne _ _ ?_).trans (fld_setReg_ne _ _ ?_)))
    all_goals
      simp only [Reg.addr]
      omega
  have he : R.ACH_COUNTS.addr g 0 ∉ eventWords := not_event_of_offset rfl (by decide)
  have h4 : s4.fld F.ACH_COUNTS_RB_MISMATCH g = s.fld F.ACH_COUNTS_RB_MISMATCH g := by
    unfold s4
    split
    · have hb : (s3.bump F.ACH_COUNTS_FAULTS g).fld F.ACH_COUNTS_RB_MISMATCH g = s3.fld F.ACH_COUNTS_RB_MISMATCH g :=
        fld_setFld_disjoint s3 _ rfl (by decide) (by decide) (by decide)
      exact (ev_fld _ _ _ he).trans (hb.trans h3)
    · split
      · exact (ev_fld _ _ _ he).trans h3
      · exact h3
  split
  · rfl
  · exact (fld_eq_of_word (aItem_word _ _ _ _ _ _)).trans h4

/-! ### The steps of the end of a window -/

/-- The readback register after the window. -/
def State.rbMeasure (s : State) (g : Nat) (m : ARead) : State :=
  s.setReg R.ACH_RB (ofSintSat 32 (f64ScaleRound m.value (if s.aMode g = aCurOut ∨ s.aMode g = aCurIn then 1000 else 1000000) 1)) g

/-- The condition that the window finds, none where it gives no comparison. -/
def State.rbVerdict (s : State) (g : Nat) (m : ARead) (w : Nat) : Option Nat := if s.rbIdle g then none else s.rbFound g m w

def State.rbMismatch (s : State) (g : Nat) (found : Option Nat) : State :=
  if found.isSome then s.bump F.ACH_COUNTS_RB_MISMATCH g else s

/-- The windows in a row counted, and the status that they give. -/
def State.rbCounted (s : State) (g : Nat) (found : Option Nat) (idle : Bool) : State × Nat :=
  if idle then (s, s.reg R.ACH_STATUS g) else s.rbCount g found

/-- The status shown, its event, and the new window. -/
def State.rbShow (s : State) (g st : Nat) (ext : Bool) : State :=
  let s := s.setAStatus g st
  let s := if bit st abExtsrc && !ext then s.ev 0x0803 [.b16 g] else s
  let ch := s.achan g
  s.setAch g { ch with sum := 0, n := 0, steps := match ch.steps with | x :: _ => [x] | [] => [] }

/-- The items of an output and of a current input. -/
def State.rbItems (s : State) (g : Nat) (m : ARead) (mode st old : Nat) : State :=
  if aIsOut mode then
    let s := s.aItem g 0 m.value s.stamp
    let s := if st = old then s.aItem g 2 (BitVec.ofNat 64 st) s.stamp else s
    s.aItem g 3 m.aux s.stamp
  else if mode = aCurIn then s.aItem g 1 m.value s.stamp
  else s

/-- The status after the window, from that which the conditions give: an item that a readback delivers ends LINK. -/
def rbStatus (mode st : Nat) : Nat := if aIsOut mode ∨ mode = aCurIn then putBits st abLink abLink 0 else st

theorem aReadback_idle {s : State} {g : Nat} (m : ARead) (h : s.aMode g = aOff ∨ s.tick % s.rbWindow g ≠ 0 ∨
    s.slState (g / 32) ≠ slRun ∨ (s.achan g).setting = true) : s.aReadback g m = s := if_pos h

/-- The state in which the end of a window has been measured and its mismatch counted. -/
def State.rbSeen (s : State) (g : Nat) (m : ARead) : State :=
  (s.rbMeasure g m).rbMismatch g ((s.rbMeasure g m).rbVerdict g m (s.rbWindow g))

/-- The windows in a row, and the status, after the window. -/
def State.rbJudged (s : State) (g : Nat) (m : ARead) : State × Nat :=
  (s.rbSeen g m).rbCounted g ((s.rbMeasure g m).rbVerdict g m (s.rbWindow g)) ((s.rbMeasure g m).rbIdle g)

theorem aReadback_window {s : State} {g : Nat} (m : ARead) (h : ¬ (s.aMode g = aOff ∨ s.tick % s.rbWindow g ≠ 0 ∨
    s.slState (g / 32) ≠ slRun ∨ (s.achan g).setting = true)) :
    s.aReadback g m = ((s.rbJudged g m).1.rbShow g (rbStatus (s.aMode g) (s.rbJudged g m).2)
      (bit ((s.rbSeen g m).reg R.ACH_STATUS g) abExtsrc)).rbItems g m (s.aMode g) (rbStatus (s.aMode g) (s.rbJudged g m).2)
      ((s.rbSeen g m).reg R.ACH_STATUS g) := by
  unfold State.aReadback
  exact if_neg h

/-! ### What each step leaves -/

section
variable {s : State} {g : Nat} (m : ARead)

theorem rbMeasure_frame (s : State) (g : Nat) (m : ARead) : s.Channels [R.ACH_RB.addr g 0] [] (s.rbMeasure g m) :=
  (State.Channels.refl _ _ s).setReg _ List.mem_cons_self

theorem resultWord_rb (hg : g < 192) : ∀ a ∈ [R.ACH_RB.addr g 0], resultWord a := by
  intro a ha
  rw [List.mem_singleton] at ha
  rw [ha]
  exact resultWord_channel hg rfl (by decide) (by decide)

/-- Whether a window gives a comparison, and what it finds, is not read from the register that it writes. -/
theorem rbMeasure_rbIdle (hg : g < 192) : (s.rbMeasure g m).rbIdle g = s.rbIdle g := by
  have h := (rbMeasure_frame s g m).measured (resultWord_rb hg)
  have hc : (s.rbMeasure g m).achan g = s.achan g := rfl
  rw [State.rbIdle, State.rbIdle, h.aMode hg, h.aOverride hg, hc]

theorem rbMeasure_rbFound (hg : g < 192) (w : Nat) : (s.rbMeasure g m).rbFound g m w = s.rbFound g m w := by
  have h := (rbMeasure_frame s g m).measured (resultWord_rb hg)
  have hc : (s.rbMeasure g m).achan g = s.achan g := rfl
  have ht : (s.rbMeasure g m).tick = s.tick := rfl
  rw [State.rbFound, State.rbFound, h.aMode hg, h.aRange hg, hc, ht]

theorem rbSeen_frame (s : State) (g : Nat) (m : ARead) : s.Channels (chanWords g ++ [R.ACH_RB.addr g 0]) [g] (s.rbSeen g m) := by
  have h := (rbMeasure_frame s g m).mono (List.subset_append_right (chanWords g) _) (List.nil_subset [g])
  exact keeps_ite (h.setReg _ (by simp [chanWords])) h

theorem rbSeen_rb (s : State) (g : Nat) (m : ARead) : (s.rbSeen g m).reg R.ACH_RB g =
    ofSintSat 32 (f64ScaleRound m.value (if s.aMode g = aCurOut ∨ s.aMode g = aCurIn then 1000 else 1000000) 1) := by
  have h : (s.rbMeasure g m).reg R.ACH_RB g = _ := reg_setReg_same s R.ACH_RB _ g 0 (ofSintSat_lt _)
  exact keeps_ite (P := fun t => t.reg R.ACH_RB g = _) ((reg_setFld_ne _ _ (by simp only [Reg.addr]; omega)).trans h) h

theorem rbSeen_mismatch (hg : g < 192) : (s.rbSeen g m).fld F.ACH_COUNTS_RB_MISMATCH g =
    if s.rbIdle g = false ∧ s.rbFound g m (s.rbWindow g) ≠ none then min (s.fld F.ACH_COUNTS_RB_MISMATCH g + 1) 0xFFFF
    else s.fld F.ACH_COUNTS_RB_MISMATCH g := by
  have h : (s.rbMeasure g m).fld F.ACH_COUNTS_RB_MISMATCH g = s.fld F.ACH_COUNTS_RB_MISMATCH g :=
    fld_setReg_ne s _ (by simp only [Reg.addr]; omega)
  have hv : (((s.rbMeasure g m).rbVerdict g m (s.rbWindow g)).isSome = true) =
      (s.rbIdle g = false ∧ s.rbFound g m (s.rbWindow g) ≠ none) := by
    rw [State.rbVerdict, rbMeasure_rbIdle m hg, rbMeasure_rbFound m hg]
    cases s.rbIdle g <;> simp [Option.isSome_iff_ne_none]
  rw [State.rbSeen, State.rbMismatch]
  simp only [hv]
  split
  · rw [fld_bump_same _ F.ACH_COUNTS_RB_MISMATCH g 0 1 (by decide) (by decide), h]
    rfl
  · exact h

theorem rbBits_lt (mode : Nat) : ∀ b ∈ rbBits mode, b < 32 := by
  unfold rbBits
  split_ifs <;> decide

/-- Counting windows changes the channel's own counts only. -/
theorem rbCount_spec (s : State) (g : Nat) (found : Option Nat) :
    s.Channels [] [g] (s.rbCount g found).1 ∧ (s.rbCount g found).2 < 2 ^ 32 := by
  refine List.foldlRecOn _ _ (motive := fun p : State × Nat => s.Channels [] [g] p.1 ∧ p.2 < 2 ^ 32)
    ⟨State.Channels.refl _ _ s, reg_lt s _ _ _⟩ ?_
  intro p hp b hb
  have hput (f : Nat) : putBits p.2 b b f < 2 ^ 32 := putBits_lt (le_refl b) (rbBits_lt _ b hb) hp.2
  refine ⟨hp.1.setAch List.mem_cons_self _, ?_⟩
  dsimp only
  split_ifs
  exacts [hput 1, hput 0, hp.2, hput 1, hput 0, hp.2]

theorem rbJudged_spec (s : State) (g : Nat) (m : ARead) :
    (s.rbSeen g m).Channels [] [g] (s.rbJudged g m).1 ∧ (s.rbJudged g m).2 < 2 ^ 32 := by
  unfold State.rbJudged State.rbCounted
  split
  · exact ⟨State.Channels.refl _ _ _, reg_lt _ _ _ _⟩
  · exact rbCount_spec _ g _

theorem rbStatus_lt {mode st : Nat} (h : st < 2 ^ 32) : rbStatus mode st < 2 ^ 32 := by
  unfold rbStatus
  split
  · exact putBits_lt (le_refl abLink) (by decide) h
  · exact h

theorem bit_rbStatus {mode st : Nat} (h : aIsOut mode = true ∨ mode = aCurIn) : bit (rbStatus mode st) abLink = false := by
  rw [rbStatus, if_pos h]
  exact (bit_putBits st abLink abLink false).trans (if_pos rfl)

theorem rbShow_frame (s : State) (g st : Nat) (ext : Bool) : s.Channels (chanWords g) [g] (s.rbShow g st ext) := by
  have h := (State.Shows.refl g s).setAStatus st
  have hu : s.Shows g (if bit st abExtsrc && !ext then (s.setAStatus g st).ev 0x0803 [.b16 g] else s.setAStatus g st) :=
    keeps_ite (h.ev _ _) h
  exact hu.frame.setAch List.mem_cons_self _

theorem rbShow_word (s : State) (g st : Nat) (ext : Bool) {a : Nat} (ha : a ∉ eventWords) :
    (s.rbShow g st ext).word a = (s.setAStatus g st).word a :=
  keeps_ite (P := fun t => t.word a = _) (ev_word _ _ _ ha) rfl

theorem rbShow_begun (s : State) (g st : Nat) (ext : Bool) :
    ((s.rbShow g st ext).achan g).n = 0 ∧ ((s.rbShow g st ext).achan g).sum = 0 := by
  unfold State.rbShow
  rw [State.setAch_achan_same]
  exact ⟨rfl, rfl⟩

theorem rbItems_delivers (s : State) (g : Nat) (m : ARead) (mode st old : Nat) : s.Delivers g (s.rbItems g m mode st old) := by
  have h := State.Delivers.refl g s
  exact keeps_ite (State.Delivers.aItem (keeps_ite ((h.aItem _ _ _).aItem _ _ _) (h.aItem _ _ _)) _ _ _)
    (keeps_ite (h.aItem _ _ _) h)

/-! ### The end of a window -/

/-- A window of this channel ends: it is set to a mode, and its slice's link runs. -/
def State.rbEnds (s : State) (g : Nat) : Prop := s.aMode g ≠ aOff ∧ s.tick % s.rbWindow g = 0 ∧ s.slState (g / 32) = slRun ∧
  (s.achan g).setting = false

/-- The state in which the end of a window has been judged and shown, before its items. -/
def State.rbShown (s : State) (g : Nat) (m : ARead) : State :=
  (s.rbJudged g m).1.rbShow g (rbStatus (s.aMode g) (s.rbJudged g m).2) (bit ((s.rbSeen g m).reg R.ACH_STATUS g) abExtsrc)

variable (h : s.rbEnds g)
include h

theorem aReadback_ends : s.aReadback g m = (s.rbShown g m).rbItems g m (s.aMode g) (rbStatus (s.aMode g) (s.rbJudged g m).2)
    ((s.rbSeen g m).reg R.ACH_STATUS g) := by
  obtain ⟨hm, ht, hr, hs⟩ := h
  exact aReadback_window m (by simp [hm, ht, hr, hs])

omit h in
theorem rbShown_frame (s : State) (g : Nat) (m : ARead) : s.Channels (chanWords g ++ [R.ACH_RB.addr g 0]) [g] (s.rbShown g m) :=
  (rbSeen_frame s g m).trans (((rbJudged_spec s g m).1.mono (List.nil_subset _) (fun _ hk => hk)).trans
    ((rbShow_frame _ g _ _).mono (List.subset_append_left _ _) (fun _ hk => hk)))

omit h in
theorem rbShown_measured (hg : g < 192) : s.Measured (s.rbShown g m) := by
  refine (rbShown_frame s g m).measured fun a ha => ?_
  rcases List.mem_append.mp ha with ha | ha
  · exact resultWord_chanWords hg ha
  · exact resultWord_rb hg a ha

omit h in
theorem rbShown_status (s : State) (g : Nat) (m : ARead) :
    (s.rbShown g m).reg R.ACH_STATUS g = rbStatus (s.aMode g) (s.rbJudged g m).2 := by
  have he : R.ACH_STATUS.addr g 0 ∉ eventWords := not_event_of_offset rfl (by decide)
  exact (reg_eq_of_word (rbShow_word _ g _ _ he)).trans (status_setAStatus _ g (rbStatus_lt (rbJudged_spec s g m).2))

theorem aReadback_frame : s.Channels (chanWords g ++ [R.ACH_RB.addr g 0]) [g] (s.aReadback g m) := by
  rw [aReadback_ends m h]
  exact (rbShown_frame s g m).trans ((rbItems_delivers _ g m _ _ _).shows.frame.mono (List.subset_append_left _ _) (fun _ hk => hk))

theorem aReadback_word (a : Nat) : (s.aReadback g m).word a = (s.rbShown g m).word a := by
  rw [aReadback_ends m h]
  exact (rbItems_delivers _ g m _ _ _).word a

theorem aReadback_status : (s.aReadback g m).reg R.ACH_STATUS g = rbStatus (s.aMode g) (s.rbJudged g m).2 :=
  (reg_eq_of_word (aReadback_word m h _)).trans (rbShown_status s g m)

theorem aReadback_rb : (s.aReadback g m).reg R.ACH_RB g =
    ofSintSat 32 (f64ScaleRound m.value (if s.aMode g = aCurOut ∨ s.aMode g = aCurIn then 1000 else 1000000) 1) := by
  rw [reg_eq_of_word (aReadback_word m h _), ← rbSeen_rb s g m]
  refine reg_eq_of_word ?_
  exact ((rbShow_frame _ g _ _).keeps _ (result_not_mem_chanWords (r := R.ACH_RB) rfl (by decide) (by decide))).trans
    ((rbJudged_spec s g m).1.keeps _ List.not_mem_nil)

theorem aReadback_mismatch (hg : g < 192) : (s.aReadback g m).fld F.ACH_COUNTS_RB_MISMATCH g =
    if s.rbIdle g = false ∧ s.rbFound g m (s.rbWindow g) ≠ none then min (s.fld F.ACH_COUNTS_RB_MISMATCH g + 1) 0xFFFF
    else s.fld F.ACH_COUNTS_RB_MISMATCH g := by
  have he : R.ACH_COUNTS.addr g 0 ∉ eventWords := not_event_of_offset rfl (by decide)
  rw [fld_eq_of_word (aReadback_word m h _), ← rbSeen_mismatch m hg]
  calc (s.rbShown g m).fld F.ACH_COUNTS_RB_MISMATCH g
      = ((s.rbJudged g m).1.setAStatus g _).fld F.ACH_COUNTS_RB_MISMATCH g := fld_eq_of_word (rbShow_word _ g _ _ he)
    _ = (s.rbJudged g m).1.fld F.ACH_COUNTS_RB_MISMATCH g := mismatch_setAStatus _ g _
    _ = (s.rbSeen g m).fld F.ACH_COUNTS_RB_MISMATCH g := fld_eq_of_word ((rbJudged_spec s g m).1.keeps _ List.not_mem_nil)

theorem aReadback_begun : ((s.aReadback g m).achan g).n = 0 ∧ ((s.aReadback g m).achan g).sum = 0 := by
  rw [aReadback_ends m h, (rbItems_delivers _ g m _ _ _).shows.record]
  exact rbShow_begun _ g _ _

/-- An item that the channel delivers in the state before the items. -/
theorem rbShown_delivered (hg : g < 192) (hmode : aIsOut (s.aMode g) = true ∨ s.aMode g = aCurIn) {t : State}
    (ht : (s.rbShown g m).Delivers g t) (i : Nat) (v : W64) :
    ⟨s.tick + 2, kChannel, 8 * g + i, ⟨v, aQual (s.aMode g) ((s.aReadback g m).reg R.ACH_STATUS g) i, s.stamp⟩⟩ ∈
      (t.aItem g i v t.stamp).image.updates := by
  have hstamp : t.stamp = s.stamp := (ht.shows.measured hg).stamp.trans (rbShown_measured m hg).stamp
  have hs := rbShown_measured (s := s) m hg
  have hst := rbShown_status s g m
  have hd := ht.delivered hg ((hs.slState hg).trans h.2.2.1) (by rw [hst, bit_rbStatus hmode]) i v s.stamp
  rw [hs.tick, hs.aMode hg, hst, ← aReadback_status m h] at hd
  rw [hstamp]
  exact hd

theorem aReadback_link (hmode : aIsOut (s.aMode g) = true ∨ s.aMode g = aCurIn) :
    bit ((s.aReadback g m).reg R.ACH_STATUS g) abLink = false := by rw [aReadback_status m h, bit_rbStatus hmode]

omit h in
/-- An output delivers item 0 first and item 3 last. -/
theorem rbItems_output (s : State) (g : Nat) (m : ARead) {mode : Nat} (st old : Nat) (hm : aIsOut mode = true) :
    ∃ t, (s.aItem g 0 m.value s.stamp).Delivers g t ∧ s.rbItems g m mode st old = t.aItem g 3 m.aux t.stamp :=
  ⟨_, keeps_ite ((State.Delivers.refl g _).aItem _ _ _) (.refl g _), if_pos hm⟩

theorem aReadback_output (hg : g < 192) (hm : aIsOut (s.aMode g) = true) :
    ⟨s.tick + 2, kChannel, 8 * g, ⟨m.value, aQual (s.aMode g) ((s.aReadback g m).reg R.ACH_STATUS g) 0, s.stamp⟩⟩ ∈
      (s.aReadback g m).image.updates ∧
    ⟨s.tick + 2, kChannel, 8 * g + 3, ⟨m.aux, aQual (s.aMode g) ((s.aReadback g m).reg R.ACH_STATUS g) 3, s.stamp⟩⟩ ∈
      (s.aReadback g m).image.updates := by
  obtain ⟨t, ht, e⟩ := rbItems_output (s.rbShown g m) g m (rbStatus (s.aMode g) (s.rbJudged g m).2)
    ((s.rbSeen g m).reg R.ACH_STATUS g) hm
  have hr : (s.rbShown g m).Delivers g (s.rbShown g m) := .refl g _
  have himage : (s.aReadback g m).image = (t.aItem g 3 m.aux t.stamp).image := by rw [aReadback_ends m h, e]
  rw [himage]
  exact ⟨(ht.aItem _ _ _).shows.frame.updates (rbShown_delivered m h hg (.inl hm) hr 0 m.value),
    rbShown_delivered m h hg (.inl hm) ((hr.aItem _ _ _).trans ht) 3 m.aux⟩

theorem aReadback_input (hg : g < 192) (hm : s.aMode g = aCurIn) :
    ⟨s.tick + 2, kChannel, 8 * g + 1, ⟨m.value, aQual aCurIn ((s.aReadback g m).reg R.ACH_STATUS g) 1, s.stamp⟩⟩ ∈
      (s.aReadback g m).image.updates := by
  have himage : (s.aReadback g m).image = ((s.rbShown g m).aItem g 1 m.value (s.rbShown g m).stamp).image := by
    rw [aReadback_ends m h, State.rbItems, hm, if_neg (by decide), if_pos rfl]
  rw [himage, ← hm]
  exact rbShown_delivered m h hg (.inr hm) (.refl g _) 1 m.value

end

end Sys2Proof.Machine
end

section
/-! SUPPORT. The steps of a conversion's sample: the cold junctions, the status, the filter and the items (R198 to R204), and the
odd channel of a bridge. -/
namespace Sys2Proof.Machine

/-! ### Cold junctions -/

/-- The words of the four connector sensors of channel g's slice. -/
def junctionWords (g : Nat) : List Nat := (List.range 4).map fun i => R.AS_CJ.addr (g / 32) i

/-- The registers show the sensors' readings that the sample brings. -/
def State.ShowsJunctions (t : State) (g : Nat) (cj : Option (BitVec 16 × BitVec 16 × BitVec 16 × BitVec 16)) : Prop :=
  ∀ a ∈ cj, t.fld F.AS_CJ_T (g / 32) 0 = a.1.toNat ∧ t.fld F.AS_CJ_T (g / 32) 1 = a.2.1.toNat ∧
    t.fld F.AS_CJ_T (g / 32) 2 = a.2.2.1.toNat ∧ t.fld F.AS_CJ_T (g / 32) 3 = a.2.2.2.toNat

/-- The state with the readings that a sample brings. -/
def State.sensed (s : State) (g : Nat) (cj : Option (BitVec 16 × BitVec 16 × BitVec 16 × BitVec 16)) : State :=
  match cj with
  | some (a, b, c, d) =>
    (((s.setFld F.AS_CJ_T a.toNat (g / 32) 0).setFld F.AS_CJ_T b.toNat (g / 32) 1).setFld F.AS_CJ_T c.toNat (g / 32) 2).setFld
      F.AS_CJ_T d.toNat (g / 32) 3
  | none => s

theorem mem_junctionWords {g a : Nat} : a ∈ junctionWords g ↔ ∃ i < 4, R.AS_CJ.addr (g / 32) i = a := by
  simp [junctionWords]

theorem addr_mem_junctionWords (g : Nat) {i : Nat} (hi : i < 4) : R.AS_CJ.addr (g / 32) i ∈ junctionWords g :=
  mem_junctionWords.mpr ⟨i, hi, rfl⟩

theorem resultWord_junctionWords {g a : Nat} (hg : g < 192) (h : a ∈ junctionWords g) : resultWord a := by
  obtain ⟨i, hi, rfl⟩ := mem_junctionWords.mp h
  exact resultWord_slice (by simp only [Reg.addr]; omega) (by simp only [Reg.addr]; omega)

theorem onlyWords_sensed (s : State) (g : Nat) (cj : Option (BitVec 16 × BitVec 16 × BitVec 16 × BitVec 16)) :
    State.OnlyWords (junctionWords g) s (s.sensed g cj) := by
  cases cj with
  | none => exact .refl _ s
  | some a =>
    have m {i : Nat} (hi : i < 4) : F.AS_CJ_T.reg.addr (g / 32) i ∈ junctionWords g := addr_mem_junctionWords g hi
    exact ((((State.OnlyWords.refl _ s).setReg _ (m (by decide))).setReg _ (m (by decide))).setReg _ (m (by decide))).setReg _
      (m (by decide))

theorem fld_setJunction (s : State) (sl i : Nat) (v : BitVec 16) : (s.setFld F.AS_CJ_T v.toNat sl i).fld F.AS_CJ_T sl i = v.toNat :=
  (fld_setFld_same s F.AS_CJ_T _ _ _ (by decide) (by decide)).trans (Nat.mod_eq_of_lt v.isLt)

theorem fld_setJunction_ne (s : State) (sl v : Nat) {i j : Nat} (h : j ≠ i) :
    (s.setFld F.AS_CJ_T v sl i).fld F.AS_CJ_T sl j = s.fld F.AS_CJ_T sl j :=
  fld_setFld_ne s v (by simp only [Reg.addr]; omega)

theorem showsJunctions_sensed (s : State) (g : Nat) (cj : Option (BitVec 16 × BitVec 16 × BitVec 16 × BitVec 16)) :
    (s.sensed g cj).ShowsJunctions g cj := by
  rintro ⟨a, b, c, d⟩ h
  rw [Option.mem_def.mp h]
  simp (disch := decide) only [State.sensed, fld_setJunction, fld_setJunction_ne, and_self]

theorem State.ShowsJunctions.of_word {s t : State} {g : Nat} {cj : Option (BitVec 16 × BitVec 16 × BitVec 16 × BitVec 16)}
    (h : s.ShowsJunctions g cj) (hw : ∀ a ∈ junctionWords g, t.word a = s.word a) : t.ShowsJunctions g cj := by
  intro a ha
  have hf {i : Nat} (hi : i < 4) : t.fld F.AS_CJ_T (g / 32) i = s.fld F.AS_CJ_T (g / 32) i :=
    fld_eq_of_word (hw _ (addr_mem_junctionWords g hi))
  rw [hf (by decide), hf (by decide), hf (by decide), hf (by decide)]
  exact h a ha

/-- A state that differs in results only, and in no channel's record, has the same conversions due. -/
theorem State.Measured.aDue {s t : State} (h : s.Measured t) (hach : t.ach = s.ach) {g : Nat} (hg : g < 192) :
    t.aDue g = s.aDue g := by
  have hc (k : Nat) : t.achan k = s.achan k := by rw [State.achan, hach, State.achan]
  have hset (k : Nat) : t.aSettled k = s.aSettled k := by rw [State.aSettled, State.aSettled, hc, h.tick]
  have hb : t.flag F.ACH_CFG_BURNOUT g = s.flag F.ACH_CFG_BURNOUT g :=
    h.flag (not_resultWord_setting hg rfl (by decide) (by decide))
  have hx : t.aExcited g = s.aExcited g := by rw [State.aExcited, State.aExcited, h.aMode hg, hb]
  have hxs : t.aExcites g = s.aExcites g := by rw [State.aExcites, State.aExcites, hx, h.inControl, h.pairState]
  rw [State.aDue, State.aDue, h.aMode hg, h.chanFld hg rfl (by decide) (by decide), h.pair, h.tick,
    h.slState hg, hset, hset, hx, hxs]

theorem State.OnlyWords.channels {ws : List Nat} {s t : State} (h : State.OnlyWords ws s t) : s.Channels ws [] t := by
  obtain ⟨heq, hk⟩ := h
  refine ⟨?_, hk, fun g _ => ?_, ?_⟩
  · rw [heq]
  · rw [heq]
    rfl
  · rw [heq]
    exact fun _ hx => hx

theorem sensed_measured {s : State} {g : Nat} (hg : g < 192) (cj : Option (BitVec 16 × BitVec 16 × BitVec 16 × BitVec 16)) :
    s.Measured (s.sensed g cj) :=
  (onlyWords_sensed s g cj).channels.measured fun _ => resultWord_junctionWords hg

theorem aDue_sensed {s : State} {g : Nat} (hg : g < 192) (cj : Option (BitVec 16 × BitVec 16 × BitVec 16 × BitVec 16)) :
    (s.sensed g cj).aDue g = s.aDue g :=
  (sensed_measured hg cj).aDue (by rw [(onlyWords_sensed s g cj).1]) hg

/-! ### The steps of a sample -/

/-- The status after a sample, from that which DIAG_MS gives: RANGE_ZONE and CJ_FAULT as found, LINK and RECONFIG ended. -/
def sampleStatus (st : Nat) (f : AFound) : Nat :=
  let st := putBits (putBits st abRangeZone abRangeZone (b2n f.zone)) abCjFault abCjFault (b2n f.cj)
  putBits (putBits st abLink abLink (b2n false)) abReconfig abReconfig (b2n false)

/-- The converter's code and the status shown, with the events that begin or end by them. -/
def State.sampleShow (s : State) (g st mode : Nat) (raw : BitVec 24) (alarm done : Bool) : State :=
  let s := (s.setReg R.ACH_RAW (ofSint 32 (sint 24 raw.toNat)) g).setAStatus g st
  let s := if alarm then s.ev 0x0806 [.b16 g] else s
  if done then s.ev 0x0804 [.b16 g, .b8 mode, .b8 (s.aRange g)] else s

/-- The scaled value y after the filter in its state, where the filter has one (R199). -/
def filtered (filt : Option W64) (y : W64) (tc p : Nat) : W64 := match filt with | some z => filtStep z y tc p | none => y

/-- Item 0 from the scaled value y: the filter acts where it is set and no fault stands. -/
def sampleOut (filt : Option W64) (y : W64) (tc p : Nat) (fault : Bool) : W64 := if tc = 0 ∨ fault then y else filtered filt y tc p

/-- The filter's state, and the sample as the readback compares it. -/
def State.sampleKeep (s : State) (g : Nat) (x : W64) (filt : Option W64) : State :=
  let ch := s.achan g
  s.setAch g { ch with filt := filt, sum := ch.sum + f64Sc x, n := ch.n + 1 }

/-- The items that a sample delivers. -/
def State.sampleItems (s : State) (g : Nat) (raw : BitVec 24) (out stamp : W64) (item1 : Option W64) (st old : Nat) : State :=
  let s := s.aItem g 0 out stamp
  let s := match item1 with | some v => s.aItem g 1 v stamp | none => s
  let s := if st = old then s.aItem g 2 (BitVec.ofNat 64 st) stamp else s
  s.aItem g 3 (raw.signExtend 64) stamp

section
variable (s : State) (g : Nat) (m : ASample)

/-- The status that a sample gives. -/
def State.sampleSt : Nat := sampleStatus (s.aPersist g (s.aFind g m).bits).2 (s.aFind g m)

/-- The state in which a sample's code and status are shown. -/
def State.sampleShown : State :=
  (s.aPersist g (s.aFind g m).bits).1.sampleShow g (s.sampleSt g m) (s.aMode g) m.raw
    ((s.aFind g m).cj && !bit (s.reg R.ACH_STATUS g) abCjFault) (bit (s.reg R.ACH_STATUS g) abReconfig)

/-- The sample's status sets a FAULT condition. -/
def State.sampleFault : Bool := (s.sampleSt g m &&& aFaultMask (s.aMode g)) != 0

/-- Item 0 of a sample. -/
def State.sampleValue : W64 :=
  let u := s.sampleShown g m
  sampleOut (u.achan g).filt (u.aScale g (s.aFind g m).x) (u.fld F.ACH_RATE_FILT_TC_US g) (aPeriod (u.fld F.ACH_RATE_RATE g))
    (s.sampleFault g m)

/-- The state in which a sample has been filtered. -/
def State.sampleKept : State :=
  let u := s.sampleShown g m
  u.sampleKeep g (if s.aMode g = aBridge then m.exc else m.x)
    (if s.sampleFault g m || u.fld F.ACH_RATE_FILT_TC_US g == 0 then none else some (s.sampleValue g m))

/-- The stamp of a sample: the middle of its period, and the delay of the converter. -/
def State.sampleStamp : W64 :=
  let v := s.sampleKept g m
  v.stampNs ((1000 * v.tick : Nat) - (1500 * aPeriod ((s.sampleShown g m).fld F.ACH_RATE_RATE g) : Nat) - 2000)

/-- The state in which a sample has delivered its items. -/
def State.sampleDelivered : State :=
  (s.sampleKept g m).sampleItems g m.raw (s.sampleValue g m) (s.sampleStamp g m) (s.aFind g m).item1 (s.sampleSt g m)
    (((s.aPersist g (s.aFind g m).bits).1.setReg R.ACH_RAW (ofSint 32 (sint 24 m.raw.toNat)) g).reg R.ACH_STATUS g)

end

theorem aSample_undue {s : State} {g : Nat} {m : ASample} (h : (s.sensed g m.cj).aDue g = false) :
    s.aSample g m = s.sensed g m.cj := by
  have h' : (!(s.sensed g m.cj).aDue g) = true := by simp [h]
  unfold State.aSample
  exact if_pos h'

theorem aSample_due {s : State} {g : Nat} {m : ASample} (h : (s.sensed g m.cj).aDue g = true) :
    s.aSample g m =
      if (s.sensed g m.cj).aMode g = aBridge then 
        ((s.sensed g m.cj).sampleDelivered g m).aOddSample g ((s.sensed g m.cj).sampleSt g m) m ((s.sensed g m.cj).sampleStamp g m)
      else (s.sensed g m.cj).sampleDelivered g m := by
  have h' : ¬ (!(s.sensed g m.cj).aDue g) = true := by simp [h]
  unfold State.aSample
  exact if_neg h'

end Sys2Proof.Machine
end

section
/-! SUPPORT. What each step of a conversion's sample leaves (R198 to R204), and the odd channel of a bridge. -/
namespace Sys2Proof.Machine

/-! ### The status -/

theorem bit_sampleStatus (st : Nat) (f : AFound) :
    bit (sampleStatus st f) abLink = false ∧ bit (sampleStatus st f) abReconfig = false ∧
    bit (sampleStatus st f) abRangeZone = f.zone ∧ bit (sampleStatus st f) abCjFault = f.cj := by
  simp [sampleStatus, bit_putBits]

theorem bit_sampleSt (s : State) (g : Nat) (m : ASample) :
    bit (s.sampleSt g m) abLink = false ∧ bit (s.sampleSt g m) abReconfig = false ∧
    bit (s.sampleSt g m) abRangeZone = (s.aFind g m).zone ∧ bit (s.sampleSt g m) abCjFault = (s.aFind g m).cj :=
  bit_sampleStatus _ _

theorem sampleStatus_lt {st : Nat} (h : st < 2 ^ 32) (f : AFound) : sampleStatus st f < 2 ^ 32 :=
  putBits_lt (le_refl _) (by decide) (putBits_lt (le_refl _) (by decide) (putBits_lt (le_refl _) (by decide)
    (putBits_lt (le_refl _) (by decide) h)))

/-- DIAG_MS changes what the channel remembers of its conditions only. -/
theorem aPersist_spec (s : State) (g found : Nat) : s.Channels [] [g] (s.aPersist g found).1 ∧
    ((s.aPersist g found).1.achan g).filt = (s.achan g).filt ∧ (s.aPersist g found).2 < 2 ^ 32 := by
  refine List.foldlRecOn _ _
    (motive := fun p : State × Nat => s.Channels [] [g] p.1 ∧ (p.1.achan g).filt = (s.achan g).filt ∧ p.2 < 2 ^ 32)
    ⟨State.Channels.refl _ _ s, rfl, reg_lt s _ _ _⟩ ?_
  rintro p ⟨hframe, hfilt, hlt⟩ b hb
  have hb32 : b < 32 := by
    simp only [List.mem_cons, List.not_mem_nil, or_false] at hb
    omega
  refine ⟨hframe.setAch List.mem_cons_self _, ?_, putBits_lt (le_refl b) hb32 hlt⟩
  dsimp only
  rw [State.setAch_achan_same]
  exact hfilt

/-! ### The code and the status shown -/

section
variable (s : State) (g st mode : Nat) (raw : BitVec 24) (alarm done : Bool)

theorem sampleShow_shows :
    (s.setReg R.ACH_RAW (ofSint 32 (sint 24 raw.toNat)) g).Shows g (s.sampleShow g st mode raw alarm done) := by
  have h := (State.Shows.refl g (s.setReg R.ACH_RAW (ofSint 32 (sint 24 raw.toNat)) g)).setAStatus st
  have hu := keeps_ite (c := alarm = true) (h.ev 0x0806 [.b16 g]) h
  exact keeps_ite (hu.ev _ _) hu

theorem sampleShow_filt : ((s.sampleShow g st mode raw alarm done).achan g).filt = (s.achan g).filt := by
  rw [(sampleShow_shows s g st mode raw alarm done).record]
  rfl

theorem sampleShow_word {a : Nat} (ha : a ∉ eventWords) : (s.sampleShow g st mode raw alarm done).word a =
    ((s.setReg R.ACH_RAW (ofSint 32 (sint 24 raw.toNat)) g).setAStatus g st).word a := by
  have hu := keeps_ite (c := alarm = true) (P := fun t => t.word a =
    ((s.setReg R.ACH_RAW (ofSint 32 (sint 24 raw.toNat)) g).setAStatus g st).word a) (ev_word _ 0x0806 [.b16 g] ha) rfl
  exact keeps_ite (P := fun t => t.word a = _) ((ev_word _ _ _ ha).trans hu) hu

theorem sampleShow_raw : (s.sampleShow g st mode raw alarm done).reg R.ACH_RAW g = ofSint 32 raw.toInt := by
  have h := (sampleShow_shows s g st mode raw alarm done).frame.keeps (R.ACH_RAW.addr g 0)
    (result_not_mem_chanWords rfl (by decide) (by decide))
  rw [reg_eq_of_word h, ← sint_toNat]
  exact reg_setReg_same s _ _ _ _ (ofSint_lt 32 _)
end

section
variable {s : State} {g : Nat} (m : ASample)

theorem sampleSt_lt (s : State) (g : Nat) (m : ASample) : s.sampleSt g m < 2 ^ 32 :=
  sampleStatus_lt (aPersist_spec s g _).2.2 _

theorem sampleShown_frame (s : State) (g : Nat) (m : ASample) :
    s.Channels (chanWords g ++ [R.ACH_RAW.addr g 0]) [g] (s.sampleShown g m) := by
  have h := ((aPersist_spec s g (s.aFind g m).bits).1.mono (List.nil_subset (chanWords g ++ [R.ACH_RAW.addr g 0]))
    (fun _ hk => hk)).setReg (r := R.ACH_RAW) (i := g) (j := 0) (ofSint 32 (sint 24 m.raw.toNat)) (by simp)
  exact h.trans ((sampleShow_shows _ g _ _ _ _ _).frame.mono (List.subset_append_left _ _) (fun _ hk => hk))

theorem sampleShown_status (s : State) (g : Nat) (m : ASample) : (s.sampleShown g m).reg R.ACH_STATUS g = s.sampleSt g m :=
  (reg_eq_of_word (sampleShow_word _ g _ _ _ _ _ (not_event_of_offset rfl (by decide)))).trans
    (status_setAStatus _ g (sampleSt_lt s g m))

theorem sampleShown_filt (s : State) (g : Nat) (m : ASample) : ((s.sampleShown g m).achan g).filt = (s.achan g).filt :=
  (sampleShow_filt _ g _ _ _ _ _).trans (aPersist_spec s g _).2.1

theorem resultWord_raw {g k a : Nat} (hg : g < 192) (hk : k < 192) (ha : a ∈ chanWords g ++ [R.ACH_RAW.addr k 0]) :
    resultWord a := by
  rcases List.mem_append.mp ha with ha | ha
  · exact resultWord_chanWords hg ha
  · rw [List.mem_singleton.mp ha]
    exact resultWord_channel hk rfl (by decide) (by decide)

theorem sampleShown_measured (hg : g < 192) : s.Measured (s.sampleShown g m) :=
  (sampleShown_frame s g m).measured fun _ => resultWord_raw hg hg

/-! ### Item 0 and its stamp -/

theorem sampleValue_eq (hg : g < 192) : s.sampleValue g m =
    sampleOut (s.achan g).filt (s.aScale g (s.aFind g m).x) (s.fld F.ACH_RATE_FILT_TC_US g) (aPeriod (s.fld F.ACH_RATE_RATE g))
      (s.sampleFault g m) := by
  have h := sampleShown_measured (s := s) m hg
  rw [State.sampleValue, sampleShown_filt, h.aScale hg, h.chanFld hg rfl (by decide) (by decide),
    h.chanFld hg rfl (by decide) (by decide)]

theorem sampleKept_frame (s : State) (g : Nat) (m : ASample) :
    s.Channels (chanWords g ++ [R.ACH_RAW.addr g 0]) [g] (s.sampleKept g m) :=
  (sampleShown_frame s g m).setAch List.mem_cons_self _

theorem sampleStamp_eq (hg : g < 192) : s.sampleStamp g m =
    s.stampNs ((1000 * s.tick : Nat) - (1500 * aPeriod (s.fld F.ACH_RATE_RATE g) : Nat) - 2000) := by
  have h : s.Measured (s.sampleKept g m) := (sampleKept_frame s g m).measured fun _ => resultWord_raw hg hg
  rw [State.sampleStamp, h.stampNs, h.tick, (sampleShown_measured m hg).chanFld hg rfl (by decide) (by decide)]

/-! ### The items -/

section
variable (s : State) (g : Nat) (raw : BitVec 24) (out stamp : W64) (item1 : Option W64) (st old : Nat)

/-- Item 0 comes first and item 3 last. -/
theorem sampleItems_ends : ∃ t, (s.aItem g 0 out stamp).Delivers g t ∧
    s.sampleItems g raw out stamp item1 st old = t.aItem g 3 (raw.signExtend 64) stamp := by
  cases item1 with
  | none => exact ⟨_, keeps_ite ((State.Delivers.refl g _).aItem _ _ _) (.refl g _), rfl⟩
  | some v =>
    have h := (State.Delivers.refl g (s.aItem g 0 out stamp)).aItem 1 v stamp
    exact ⟨_, keeps_ite (h.aItem _ _ _) h, rfl⟩

theorem sampleItems_delivers : s.Delivers g (s.sampleItems g raw out stamp item1 st old) := by
  obtain ⟨t, ht, e⟩ := sampleItems_ends s g raw out stamp item1 st old
  rw [e]
  exact (((State.Delivers.refl g s).aItem _ _ _).trans ht).aItem _ _ _

/-- Item 1 comes after item 0. -/
theorem sampleItems_item1 (v : W64) : ((s.aItem g 0 out stamp).aItem g 1 v stamp).Delivers g
    (s.sampleItems g raw out stamp (some v) st old) := by
  have h := State.Delivers.refl g ((s.aItem g 0 out stamp).aItem g 1 v stamp)
  exact State.Delivers.aItem (keeps_ite (h.aItem _ _ _) h) _ _ _
end

theorem sampleDelivered_delivers (s : State) (g : Nat) (m : ASample) : (s.sampleKept g m).Delivers g (s.sampleDelivered g m) :=
  sampleItems_delivers _ g _ _ _ _ _ _

theorem sampleDelivered_frame (s : State) (g : Nat) (m : ASample) :
    s.Channels (chanWords g ++ [R.ACH_RAW.addr g 0]) [g] (s.sampleDelivered g m) :=
  (sampleKept_frame s g m).trans ((sampleDelivered_delivers s g m).shows.frame.mono (List.subset_append_left _ _) (fun _ hk => hk))

theorem sampleDelivered_reg (s : State) (g : Nat) (m : ASample) (r : Reg) (i j : Nat) :
    (s.sampleDelivered g m).reg r i j = (s.sampleShown g m).reg r i j :=
  reg_eq_of_word ((sampleDelivered_delivers s g m).word _)

theorem sampleDelivered_items (hg : g < 192) (hrun : s.slState (g / 32) = slRun) :
    ⟨s.tick + 2, kChannel, 8 * g, ⟨s.sampleValue g m, aQual (s.aMode g) (s.sampleSt g m) 0, s.sampleStamp g m⟩⟩ ∈
      (s.sampleDelivered g m).image.updates ∧
    (∀ v ∈ (s.aFind g m).item1,
      ⟨s.tick + 2, kChannel, 8 * g + 1, ⟨v, aQual (s.aMode g) (s.sampleSt g m) 1, s.sampleStamp g m⟩⟩ ∈
        (s.sampleDelivered g m).image.updates) ∧
    ⟨s.tick + 2, kChannel, 8 * g + 3, ⟨m.raw.signExtend 64, aQual (s.aMode g) (s.sampleSt g m) 3, s.sampleStamp g m⟩⟩ ∈
      (s.sampleDelivered g m).image.updates := by
  have hk : s.Measured (s.sampleKept g m) := (sampleKept_frame s g m).measured fun _ => resultWord_raw hg hg
  have hst : (s.sampleKept g m).reg R.ACH_STATUS g = s.sampleSt g m := sampleShown_status s g m
  have hitem {t : State} (ht : (s.sampleKept g m).Delivers g t) (i : Nat) (v : W64) :
      ⟨s.tick + 2, kChannel, 8 * g + i, ⟨v, aQual (s.aMode g) (s.sampleSt g m) i, s.sampleStamp g m⟩⟩ ∈
        (t.aItem g i v (s.sampleStamp g m)).image.updates := by
    have hd := ht.delivered hg ((hk.slState hg).trans hrun) (by rw [hst]; exact (bit_sampleSt s g m).1) i v (s.sampleStamp g m)
    rwa [hk.tick, hk.aMode hg, hst] at hd
  have hr := State.Delivers.refl g (s.sampleKept g m)
  obtain ⟨t, ht, e⟩ := sampleItems_ends (s.sampleKept g m) g m.raw (s.sampleValue g m) (s.sampleStamp g m) (s.aFind g m).item1
    (s.sampleSt g m) (((s.aPersist g (s.aFind g m).bits).1.setReg R.ACH_RAW (ofSint 32 (sint 24 m.raw.toNat)) g).reg R.ACH_STATUS g)
  have he : s.sampleDelivered g m = t.aItem g 3 (m.raw.signExtend 64) (s.sampleStamp g m) := e
  refine ⟨?_, fun v hv => ?_, ?_⟩
  · rw [he]
    exact (ht.aItem _ _ _).shows.frame.updates (hitem hr 0 _)
  · rw [State.sampleDelivered, Option.mem_def.mp hv]
    exact (sampleItems_item1 _ g _ _ _ _ _ v).shows.frame.updates (hitem (hr.aItem _ _ _) 1 v)
  · rw [he]
    exact hitem ((hr.aItem _ _ _).trans ht) 3 _

end

/-! ### The odd channel of a bridge -/

/-- The odd channel's status after a sample: LINK and RECONFIG ended. -/
def oddStatus (old : Nat) : Nat := putBits (putBits old abLink abLink (b2n false)) abReconfig abReconfig (b2n false)

/-- The odd channel o with its code, its share of the readback's comparison and its status. -/
def State.oddShown (s : State) (o : Nat) (m : ASample) : State :=
  let old := s.reg R.ACH_STATUS o
  let s := s.setReg R.ACH_RAW (ofSint 32 (sint 24 m.rawOdd.toNat)) o
  let ch := s.achan o
  let s := s.setAch o { ch with sum := ch.sum + f64Sc m.x, n := ch.n + 1 }
  let s := s.setAStatus o (oddStatus old)
  if bit old abReconfig then s.ev 0x0804 [.b16 o, .b8 aBridge, .b8 (s.aRange o)] else s

section
variable (s : State) (o : Nat) (m : ASample)

theorem oddShown_frame : s.Channels (chanWords o ++ [R.ACH_RAW.addr o 0]) [o] (s.oddShown o m) := by
  unfold State.oddShown
  extract_lets old s1 ch s2 s3
  have h2 : s.Channels (chanWords o ++ [R.ACH_RAW.addr o 0]) [o] s2 :=
    ((State.Channels.refl _ _ s).setReg _ (by simp)).setAch List.mem_cons_self _
  have h3 : s2.Shows o s3 := (State.Shows.refl o s2).setAStatus _
  have h4 := keeps_ite (c := bit old abReconfig = true) (h3.ev 0x0804 [.b16 o, .b8 aBridge, .b8 (s3.aRange o)]) h3
  exact h2.trans (h4.frame.mono (List.subset_append_left _ _) (fun _ hk => hk))

theorem oddShown_results : (s.oddShown o m).reg R.ACH_RAW o = ofSint 32 m.rawOdd.toInt ∧
    (s.oddShown o m).reg R.ACH_STATUS o = oddStatus (s.reg R.ACH_STATUS o) := by
  unfold State.oddShown
  extract_lets old s1 ch s2 s3
  have hlt : oddStatus old < 2 ^ 32 :=
    putBits_lt (le_refl _) (by decide) (putBits_lt (le_refl _) (by decide) (reg_lt s _ _ _))
  have h3 : s3.reg R.ACH_RAW o = ofSint 32 m.rawOdd.toInt := by
    have hk := ((State.Shows.refl o s2).setAStatus (oddStatus old)).frame.keeps (R.ACH_RAW.addr o 0)
      (result_not_mem_chanWords rfl (by decide) (by decide))
    rw [reg_eq_of_word hk, ← sint_toNat]
    exact reg_setReg_same s _ _ _ _ (ofSint_lt 32 _)
  have hst : s3.reg R.ACH_STATUS o = oddStatus old := status_setAStatus s2 o hlt
  split
  · exact ⟨(ev_reg _ _ _ (not_event_of_offset rfl (by decide))).trans h3, (status_ev _ _ _ _).trans hst⟩
  · exact ⟨h3, hst⟩

theorem bit_oddStatus (old : Nat) : bit (oddStatus old) abLink = false ∧ bit (oddStatus old) abReconfig = false := by
  simp [oddStatus, bit_putBits]

end

section
variable (s : State) (g st : Nat) (m : ASample) (stamp : W64)

/-- The odd channel's items after its status: item 0 first, item 3 last. -/
theorem aOddSample_items : ∃ q t, ((s.oddShown (g + 1) m).aDeliver (g + 1) 0 m.x q stamp).Delivers (g + 1) t ∧
    s.aOddSample g st m stamp = t.aDeliver (g + 1) 3 (m.rawOdd.signExtend 64) q stamp :=
  ⟨_, _, keeps_ite ((State.Delivers.refl _ _).aItem _ _ _) (.refl _ _), rfl⟩

theorem aOddSample_delivers : ∃ q, ((s.oddShown (g + 1) m).aDeliver (g + 1) 0 m.x q stamp).Delivers (g + 1)
    (s.aOddSample g st m stamp) := by
  obtain ⟨q, t, ht, e⟩ := aOddSample_items s g st m stamp
  rw [e]
  exact ⟨q, ht.aDeliver _ _ _ _⟩

theorem aOddSample_frame : s.Channels (chanWords (g + 1) ++ [R.ACH_RAW.addr (g + 1) 0]) [g + 1] (s.aOddSample g st m stamp) := by
  obtain ⟨q, hq⟩ := aOddSample_delivers s g st m stamp
  have h := ((State.Delivers.refl (g + 1) (s.oddShown (g + 1) m)).aDeliver 0 m.x q stamp).trans hq
  exact (oddShown_frame s (g + 1) m).trans (h.shows.frame.mono (List.subset_append_left _ _) (fun _ hk => hk))

theorem aOddSample_results : (s.aOddSample g st m stamp).reg R.ACH_RAW (g + 1) = ofSint 32 m.rawOdd.toInt ∧
    bit ((s.aOddSample g st m stamp).reg R.ACH_STATUS (g + 1)) abLink = false ∧
    bit ((s.aOddSample g st m stamp).reg R.ACH_STATUS (g + 1)) abReconfig = false ∧
    ∃ q, ⟨s.tick + 2, kChannel, 8 * (g + 1), ⟨m.x, q, stamp⟩⟩ ∈ (s.aOddSample g st m stamp).image.updates := by
  obtain ⟨q, hq⟩ := aOddSample_delivers s g st m stamp
  obtain ⟨hraw, hst⟩ := oddShown_results s (g + 1) m
  have hreg (r : Reg) : (s.aOddSample g st m stamp).reg r (g + 1) = (s.oddShown (g + 1) m).reg r (g + 1) :=
    reg_eq_of_word ((hq.word _).trans (aDeliver_word _ _ _ _ _ _ _))
  have htick : (s.oddShown (g + 1) m).tick = s.tick := by rw [(oddShown_frame s (g + 1) m).eq]
  have hd := aDeliver_delivered (s.oddShown (g + 1) m) (g + 1) 0 m.x q stamp
  rw [htick] at hd
  rw [hreg, hreg, hraw, hst]
  exact ⟨rfl, (bit_oddStatus _).1, (bit_oddStatus _).2, q, hq.shows.frame.updates hd⟩
end

end Sys2Proof.Machine
end

section
/-! PROOF. Samples and readback of analogue channels (O40). -/
namespace Sys2Proof.Machine

/-! ### What a due sample leaves -/

section
variable {s : State} {g : Nat} (m : ASample)

/-- What a due sample leaves of the state in which its cold junctions are. -/
def State.sampleDone (s : State) (g : Nat) (m : ASample) : State :=
  if s.aMode g = aBridge then (s.sampleDelivered g m).aOddSample g (s.sampleSt g m) m (s.sampleStamp g m) else s.sampleDelivered g m

/-- The codes' registers that a sample of channel g can write. -/
def rawWords (g : Nat) : List Nat := [R.ACH_RAW.addr g 0, R.ACH_RAW.addr (g + 1) 0]

/-- The channels whose sample a sample of channel g is. -/
def State.sampleChans (s : State) (g : Nat) : List Nat := if s.aMode g = aBridge then [g, g + 1] else [g]

/-- A link that is not in RUN has no conversion due. -/
theorem aDue_running (h : s.aDue g = true) : s.slState (g / 32) = slRun := by
  by_contra hn
  simp [State.aDue, hn] at h

/-- The results of channel g are none of the next channel's words. -/
theorem addr_not_mem_next {r : Reg} (h1 : r.s1 = 0x1000) (h : 0x8100060 ≤ r.base) (h' : r.base < 0x8100080) :
    r.addr g 0 ∉ chanWords (g + 1) ++ [R.ACH_RAW.addr (g + 1) 0] := by
  simp only [chanWords, eventWords, Reg.addr, h1, List.mem_append, List.mem_cons, List.not_mem_nil, or_false]
  omega

theorem sampleDone_after (s : State) (g : Nat) (m : ASample) : (s.sampleDelivered g m).Channels
    (chanWords (g + 1) ++ [R.ACH_RAW.addr (g + 1) 0]) [g + 1] (s.sampleDone g m) :=
  keeps_ite (aOddSample_frame _ g _ m _) (.refl _ _ _)

/-- A result of channel g itself is shown before the odd channel's sample. -/
theorem sampleDone_reg {r : Reg} (h1 : r.s1 = 0x1000) (h : 0x8100060 ≤ r.base) (h' : r.base < 0x8100080) :
    (s.sampleDone g m).reg r g = (s.sampleShown g m).reg r g :=
  (reg_eq_of_word ((sampleDone_after s g m).keeps _ (addr_not_mem_next h1 h h'))).trans (sampleDelivered_reg s g m r g 0)

theorem sampleDone_status : (s.sampleDone g m).reg R.ACH_STATUS g = s.sampleSt g m :=
  (sampleDone_reg m rfl (by decide) (by decide)).trans (sampleShown_status s g m)

theorem sampleDone_raw : (s.sampleDone g m).reg R.ACH_RAW g = ofSint 32 m.raw.toInt :=
  (sampleDone_reg m rfl (by decide) (by decide)).trans (sampleShow_raw _ g _ _ _ _ _)

theorem sampleDone_frame (s : State) (g : Nat) (m : ASample) :
    s.Channels ((s.sampleChans g).flatMap chanWords ++ rawWords g) (s.sampleChans g) (s.sampleDone g m) := by
  have h := sampleDelivered_frame s g m
  unfold State.sampleDone State.sampleChans
  split
  · refine (h.mono ?_ (by simp)).trans ((aOddSample_frame _ g _ m _).mono ?_ (by simp))
    all_goals
      intro a
      simp only [rawWords, List.flatMap_cons, List.flatMap_nil, List.mem_append, List.mem_cons]
      tauto
  · exact h.mono (by simp [rawWords]) (fun _ hk => hk)

/-- Beside the connector sensors' words a sample writes none of them. -/
theorem sampleDone_junctions (hg : g < 192) {a : Nat} (ha : a ∈ junctionWords g) : (s.sampleDone g m).word a = s.word a := by
  have hlow : a < 0x8100000 ∧ a % 0x1000 < 0x10 ∧ 0x8010000 ≤ a := by
    obtain ⟨i, hi, rfl⟩ := mem_junctionWords.mp ha
    simp only [Reg.addr]
    omega
  have hn (k : Nat) : a ∉ chanWords k ++ [R.ACH_RAW.addr k 0] := by
    simp only [chanWords, eventWords, Reg.addr, List.mem_append, List.mem_cons, List.not_mem_nil, or_false]
    omega
  exact ((sampleDone_after s g m).keeps a (hn _)).trans ((sampleDelivered_frame s g m).keeps a (hn _))

theorem sampleDone_updates (s : State) (g : Nat) (m : ASample) :
    (s.sampleDelivered g m).image.updates ⊆ (s.sampleDone g m).image.updates := (sampleDone_after s g m).updates

theorem sampleDone_odd (hm : s.aMode g = aBridge) : (s.sampleDone g m).reg R.ACH_RAW (g + 1) = ofSint 32 m.rawOdd.toInt ∧
    bit ((s.sampleDone g m).reg R.ACH_STATUS (g + 1)) abLink = false ∧
    bit ((s.sampleDone g m).reg R.ACH_STATUS (g + 1)) abReconfig = false ∧
    ∃ q, ⟨s.tick + 2, kChannel, 8 * (g + 1), ⟨m.x, q, s.sampleStamp g m⟩⟩ ∈ (s.sampleDone g m).image.updates := by
  have htick : (s.sampleDelivered g m).tick = s.tick := by rw [(sampleDelivered_frame s g m).eq]
  rw [State.sampleDone, if_pos hm, ← htick]
  exact aOddSample_results _ g _ m _

/-- Item 0 of a sample, the condition of its filter written out. -/
theorem sampleValue_filtered (hg : g < 192) : s.sampleValue g m =
    if s.fld F.ACH_RATE_FILT_TC_US g = 0 ∨ s.sampleSt g m &&& aFaultMask (s.aMode g) ≠ 0 then s.aScale g (s.aFind g m).x
    else filtered (s.achan g).filt (s.aScale g (s.aFind g m).x) (s.fld F.ACH_RATE_FILT_TC_US g)
      (aPeriod (s.fld F.ACH_RATE_RATE g)) := by
  rw [sampleValue_eq m hg, sampleOut, State.sampleFault]
  simp only [bne_iff_ne]

end

/-! ### O40 -/

section
variable {s : State} {g : Fin 192}

theorem exec_analogueSample {m : ASample} (h : f64Finite m.x = true ∧ f64Finite m.lead = true ∧ f64Finite m.exc = true) :
    exec (.analogueSample g m) s = .next (s.aSample g.val m) := by
  obtain ⟨hx, hl, he⟩ := h
  exact if_pos (by simp [hx, hl, he])

theorem exec_readbackSample {m : ARead} (hv : f64Finite m.value = true) (ha : f64Finite m.aux = true) :
    exec (.readbackSample g m) s = .next (s.aReadback g.val m) := if_pos (by simp [hv, ha])

end

/-- Settles O40: a sample and a readback, each where it is due and where it is not. -/
theorem analogueSamplesAndReadback : Obligations.AnalogueSamplesAndReadback := by
  unfold Obligations.AnalogueSamplesAndReadback
  intro words frame whole cjWords junctions sensed
  refine ⟨?undue, ?due, ?idle, ?window⟩
  case undue =>
    intro s g m hw hd
    have e : s.aSample g.val m = s.sensed g.val m.cj := aSample_undue ((aDue_sensed g.isLt _).trans hd)
    refine yields_next (exec_analogueSample hw) e ⟨showsJunctions_sensed s g.val m.cj, fun hn => ?_, onlyWords_sensed s g.val m.cj⟩
    rw [hn]
    rfl
  case due =>
    intro s g m hw hd
    have hdue : (s.sensed g.val m.cj).aDue g.val = true := (aDue_sensed g.isLt _).trans hd
    have hs : s.Measured (s.sensed g.val m.cj) := sensed_measured g.isLt _
    have hach : (s.sensed g.val m.cj).achan g.val = s.achan g.val := by
      rw [State.achan, (onlyWords_sensed s g.val m.cj).1, State.achan]
    have hmode := hs.aMode g.isLt
    refine yields_next (exec_analogueSample hw) (aSample_due hdue) ?_
    intro f st p stamp y out
    have hst : st = (s.sensed g.val m.cj).sampleSt g.val m := sampleDone_status m
    have hstamp : stamp = (s.sensed g.val m.cj).sampleStamp g.val m := by
      rw [sampleStamp_eq m g.isLt, hs.stampNs, hs.tick, hs.chanFld g.isLt rfl (by decide) (by decide)]
    have hout : out = (s.sensed g.val m.cj).sampleValue g.val m := by
      rw [sampleValue_filtered m g.isLt, hs.aScale g.isLt, hach, hmode, ← hst, hs.chanFld g.isLt rfl (by decide) (by decide),
        hs.chanFld g.isLt rfl (by decide) (by decide)]
      rfl
    obtain ⟨h0, h1, h3⟩ := sampleDelivered_items m g.isLt (aDue_running hdue)
    obtain ⟨blink, breconf, bzone, bcj⟩ := bit_sampleSt (s.sensed g.val m.cj) g.val m
    have hup := sampleDone_updates (s.sensed g.val m.cj) g.val m
    rw [hs.tick, hmode] at h0 h1 h3
    rw [hout, hstamp, hst]
    refine ⟨sampleDone_raw m, (showsJunctions_sensed s g.val m.cj).of_word fun a => sampleDone_junctions m g.isLt,
      blink, breconf, bzone, bcj, hup h0, fun v hv => hup (h1 v hv), hup h3, fun hb => ?_, ?_⟩
    · have hodd := sampleDone_odd m (hmode.trans hb)
      rwa [hs.tick] at hodd
    · have hframe := sampleDone_frame (s.sensed g.val m.cj) g.val m
      rw [State.sampleChans, hmode] at hframe
      refine State.Channels.only (((onlyWords_sensed s g.val m.cj).channels.mono ?_ (List.nil_subset _)).trans
        (hframe.mono ?_ (fun _ hk => hk)))
      · exact fun a ha => List.mem_append_right _ (List.mem_append_left _ ha)
      · exact List.append_subset.mpr ⟨List.subset_append_left _ _,
          fun a ha => List.mem_append_right _ (List.mem_append_right _ ha)⟩
  case idle => exact fun s g m hv ha h => yields_next (exec_readbackSample hv ha) (aReadback_idle m h) rfl
  case window =>
    intro s g m hv ha hm ht hr hset
    have h : s.rbEnds g.val := ⟨hm, ht, hr, hset⟩
    refine ⟨_, exec_readbackSample hv ha, aReadback_rb m h,
      fun ho => ⟨aReadback_link m h (.inl ho), aReadback_output m h g.isLt ho⟩,
      fun hc => ⟨aReadback_link m h (.inr hc), aReadback_input m h g.isLt hc⟩, aReadback_mismatch m h g.isLt,
      (aReadback_begun m h).1, (aReadback_begun m h).2, ?_⟩
    exact State.Channels.only ((aReadback_frame m h).mono (by simp) (fun _ hk => hk))

end Sys2Proof.Machine
end
